-- ==== Sys2Proof/Word.lean ====
section
/-! DEFINITION. The word types of both chips: registers are 32 bits wide (R11), memory is addressed by the byte (R7). -/

namespace Sys2Proof

/-- A register word of 32 bits (R11). -/
abbrev Word := BitVec 32

/-- A byte of memory or of a frame. -/
abbrev Byte := BitVec 8

end Sys2Proof
end

