-- ==== Sys2Proof/Syntax.lean ====
section
/-! DEFINITION. The commands of the chip set: the operands a sender supplies, and one constructor per row of the table
of operations and events (spec/opcode_table.json). -/

namespace Sys2Proof

/-- Which chip a command is for: the Balgal, or the Skerry of the cell numbered `g`. -/
inductive Chip where
  | balgal
  | skerry (g : Nat)
deriving DecidableEq, Repr

/-- The ports through which registers and memory are reached (R19, R652, R673). `core` is a Skerry's core pair. -/
inductive Port where
  | engine (e : Nat)
  | dma
  | pcie
  | quay
  | monitor
  | freight
  | loader
  | core
deriving DecidableEq, Repr

/-- The master number of a port, as MEM_UE_INFO.MASTER numbers it (R482). -/
def Port.master : Port → Nat
  | .engine e => e
  | .dma => 18
  | .pcie => 19
  | .quay => 20
  | .monitor => 21
  | .freight => 22
  | .loader => 23
  | .core => 0

/-- A receiver: a Balgal lane, or port `p` (0 port H, 1 port T) of the Skerry of cell `g`. -/
inductive Rx where
  | lane (n : Nat)
  | port (g p : Nat)
deriving DecidableEq, Repr

/-- A received or sent symbol: a data byte, a K-character by its 8-bit value, or a symbol error. -/
inductive Sym where
  | d (b : Byte)
  | k (b : Byte)
  | err
deriving DecidableEq, Repr

/-- One ASDU of a sampled-value frame (R590): its SVID, CONFREV, smpCnt, smpSynch, dataset length in bytes, the eight values
and the eight quality words. -/
structure Asdu where
  svid : List Byte
  confRev : Nat
  smpCnt : Nat
  synch : Nat
  len : Nat
  vals : List Nat
  quals : List Nat
deriving DecidableEq, Repr

/-- A GOOSE message by the members that R594 to R596 judge; `vals` holds member m in bit m, `bools` that every entry is a
BOOLEAN, `ttl` timeAllowedToLive in ms. -/
structure Goose where
  dst : Nat
  appid : Nat
  cbRef : List Byte
  confRev : Nat
  ndsCom : Bool
  entries : Nat
  bools : Bool
  sim : Bool
  stNum : Nat
  sqNum : Nat
  ttl : Nat
  vals : Nat
deriving DecidableEq, Repr

/-- A record of the Reef copy (R530): of a cell, G with REEF_REC words 0 and 1, SWITCH and the age of its refresh request;
of arm a, G = 0x2000 + a with D, the regulator's gap and per-cycle counts and the cells held by swaps. -/
structure CopyRec where
  g : Nat
  rec0 : Word
  rec1 : Word
  sw : Nat
  age : Nat
  d : Int
  gap : Nat
  cyc : Nat
  held : List Nat
deriving DecidableEq, Repr

/-- What a profile frame carries (R576): p, v and a as binary64 words, θ, ω, STATE, the pending command and its target
(code 0 for none), the four working limits. -/
structure ProfFrame where
  p : Nat
  v : Nat
  a : Nat
  theta : Nat
  omega : Nat
  state : Nat
  cmd : Nat
  target : Nat
  lims : List Nat
deriving DecidableEq, Repr

/-- One poll of rail `i` (R638): whether the transactions succeeded, READ_VOUT in mV, STATUS_WORD, and whether STATUS_WORD
has a warning bit, or one of OFF, VOUT_OV, VOUT_UV and IOUT_OC, set. -/
structure RailRead where
  i : Nat
  ok : Bool
  mv : Nat
  word : Nat
  warn : Bool
  fault : Bool
deriving DecidableEq, Repr

/-- The commands: one constructor per row of the table of operations and events. The operands are what the sender of
the command supplies (which port, which cell, what arrived, what was measured); see the assumption log, entry 1. -/
inductive Instr where
  /-- REGISTER_WRITE (R14): A write from any port to a register that has no row of its own stores or acts on each field as its access code gives. -/
  | registerWrite (tgt : Chip) (p : Port) (len a : Nat) (v : Word) (still : List Nat)
  /-- RC_READ (R19): A read of an RC register from any port returns the stored value and clears it to its reset value. -/
  | rcRead (tgt : Chip) (p : Port) (len a : Nat)
  /-- TIME_NOW_LATCH (R170): A read of TIME_NOW_FRAC latches the whole CT value, the path and the state for later reads by the same port. -/
  | timeNowLatch (tgt : Chip) (p : Port)
  /-- POWER_ON_RESET (R640): VAON rises and stays at or above 1.62 V for 10 ms, which releases the power-on reset and starts the rail sequence. -/
  | powerOnReset (sel : Bool)
  /-- VAON_FALL (R637): VAON falls, and every rail goes down with it without a sequence. -/
  | vaonFall
  /-- RAIL_UP (R636): READ_VOUT of a rail lies within its warn window on 3 consecutive polls, so the rail is up and the next rail starts 1 ms later. -/
  | railUp (mv : Nat)
  /-- RAIL_START_FAILURE (R636): A rail is not up within 10 ms of its OPERATION write, and the attempt ends as under the hard limit. -/
  | railStartFailure
  /-- RAIL_POLL (R638): The 1 ms poll of READ_VOUT and STATUS_WORD of each rail raises rail-warn or rail-fault. -/
  | railPoll (rs : List RailRead)
  /-- PMB_ALERT (R638): An asserted PMB_ALERT_N makes the sequencer read STATUS_WORD at once. -/
  | pmbAlert (rs : List RailRead)
  /-- RAIL_HARD_FAULT (R639): A rail outside its hard window for 20 µs asserts a RAIL reset, powers the rails down and counts a retry, or enters OFF_LOCKED at the third within 60 s. -/
  | railHardFault (i : Nat)
  /-- RAIL_DOWN (R637): A rail switched off reads below 10 % of nominal, or 10 ms pass, and the next rail down is switched off. -/
  | railDown
  /-- RAIL_RETRY (R639): The 1 s wait after a RAIL reset expires and the rails are sequenced again. -/
  | railRetry
  /-- PIN_RESET (R641): A falling RST_N accepted by its 1 ms filter asserts a reset of cause PIN. -/
  | pinReset
  /-- PIN_RESET_RELEASE (R641): RST_N is accepted high and the PIN reset is released. -/
  | pinResetRelease
  /-- RST_STUCK (R642): RST_N held low for 2.0 s is judged stuck, so reset is released, STUCK is set and the pin is masked. -/
  | rstStuck
  /-- RST_MASK_LIFT (R642): RST_N accepted high for 100 ms lifts the mask and clears STUCK. -/
  | rstMaskLift
  /-- SOFT_RESET (R643): A write of TOP_RESET with KEY 0x5AFE and GO 1 asserts a reset of cause SOFT, held for 1 ms. -/
  | softReset (p : Port) (v : Word)
  /-- SOFT_RESET_END (R643): The 1 ms hold of a soft reset expires and reset is released. -/
  | softResetEnd
  /-- RESET_COMPLETE (R645): After release, with rails up, references in range for 1 ms and PLLs locked, the Balgal clears SRAM where needed and starts FETCH. -/
  | resetComplete (testEn keyLow : Bool)
  /-- GROUP_CLEAR_DONE (R467): The hardware clearing of an SRAM group ends and the group reads READY. -/
  | groupClearDone (g : Nat)
  /-- CHART_FETCH (R39): The header and directory are read and checked in fixed order, ending in VERIFY or in a failure cause. -/
  | chartFetch (data : Option (List Byte))
  /-- CHART_VERIFY (R54): The whole chart is read and its Ed25519 signature is verified against the named key slot. -/
  | chartVerify
  /-- CHART_CHECK (R61): Every section CRC, range, level limit and cross-section rule is checked. -/
  | chartCheck
  /-- CHART_BUILD (R60): The sections are applied in TYPE and INSTANCE order, then the island and partner checks are made, and the Balgal enters RUN or FAILED. -/
  | chartBuild (mateActive : Bool)
  /-- LOAD (R59): CHART_CTRL.LOAD starts a load of the chart at CHART_STAGE_BASE, in phase FAILED only. -/
  | load (p : Port)
  /-- HOT_LOAD (R70): CHART_CTRL.HOT_LOAD starts the checks of a hot chart in a redundant standby in RUN, and is refused otherwise. -/
  | hotLoad (p : Port)
  /-- HOT_CHECK (R71): The FETCH, VERIFY and CHECK of a hot chart complete, and the chart is refused or awaits its apply edge. -/
  | hotCheck
  /-- HOT_APPLY (R72): At the first control-period start after the checks, every hot section is applied on one edge and CHART_ID and the hot digest change. -/
  | hotApply
  /-- HOT_ABORT (R73): CHART_CTRL.HOT_ABORT discards a pending hot load before its apply edge. -/
  | hotAbort
  /-- PART_RESEND_TIMEOUT (R77): A part still absent or receiving 8 ferry cycles after its last block is sent again. -/
  | partResendTimeout (g : Nat)
  /-- REF_CLOCK_BAD (R96): The lane reference clock, or SYS_REF, is judged out of range, so every lane goes OFF and lane-reference is raised. -/
  | refClockBad (sys : Bool) (dev : Int)
  /-- REF_CLOCK_GOOD (R94): The reference clocks are judged in range again, and lanes whose MODE is not off enter SEEK. -/
  | refClockGood (sys : Bool) (dev : Int)
  /-- SIGNAL_DETECT_LOST (R94): Signal detect absent for 16 word clocks, or clock recovery out of lock, takes a receiver to SEEK. -/
  | signalDetectLost (r : Rx) (sig cdr : Bool)
  /-- CLOCK_RECOVERED (R94): Signal detect present for 64 word clocks with clock recovery in lock takes a receiver from SEEK to ALIGN. -/
  | clockRecovered (r : Rx)
  /-- COMMA_ALIGNED (R94): Sixteen consecutive valid idle ordered sets at one alignment take a receiver to LOCKED. -/
  | commaAligned (r : Rx)
  /-- LOSS_SCORE_LIMIT (R95): The loss score reaching LOSS_SCORE takes a LOCKED receiver back to ALIGN with a LOST event. -/
  | lossScoreLimit (r : Rx) (errs : Nat)
  /-- LOCK_TIMEOUT (R100): A lane not LOCKED within LOCK_TIMEOUT of entering SEEK sets TIMEOUT and raises lane-timeout. -/
  | lockTimeout (n : Nat)
  /-- ERR_INTERVAL_END (R109): At the end of an error interval whose count reached ERR_LIMIT the lane sets LANE_DEGR and raises lane-degraded. -/
  | errIntervalEnd (n errs : Nat)
  /-- ELASTIC_SLIP (R102): An elastic buffer whose fill leaves its centre by 2 symbols deletes or repeats one idle ordered set. -/
  | elasticSlip (n : Nat)
  /-- EYE_SCAN_START (R112): LANE_EYE_CTRL.START on a LOCKED lane clears the results and starts a scan, or aborts or is refused. -/
  | eyeScanStart (p : Port) (n : Nat) (v : Word)
  /-- EYE_SCAN_DONE (R112): A scan that has compared 2^(20+DWELL) bits sets DONE and clears BUSY. -/
  | eyeScanDone (n errs : Nat)
  /-- FERRY_CYCLE_START (R121): At each ferry-cycle start the Balgal sends a ferry on every enabled causeway lane and its mate, arbiter and strait frames. -/
  | ferryCycleStart
  /-- FERRY_RECEIVE_SKERRY (R125): A Skerry repeats a ferry, rewrites HOPS, its status, CRC and EOF, and at its end judges validity and uses the command half. -/
  | ferryReceiveSkerry (g p : Nat) (ss : List Sym) (back : Nat) (still : List Nat)
  /-- MISSING_FERRY (R126): No valid ferry with SEQ n ends on a port by the start of cycle n + 1 plus its delay, so MISS is set. -/
  | missingFerry (g p q : Nat)
  /-- BALGAL_FERRY_RECEIVE (R204): The Balgal takes a ferry at a causeway lane and accepts the written status of each cell into its Reef records. -/
  | balgalFerryReceive (n : Nat) (ss : List Sym) (back : Nat)
  /-- CAUSEWAY_DOWN (R151): No valid ferry in either direction for 32 ferry cycles takes the causeway to DOWN. -/
  | causewayDown (c : Nat) (mate : Bool)
  /-- CAUSEWAY_CUT (R151): Break evidence in 2 consecutive ferry cycles takes an UP or MEASURING causeway to CUT. -/
  | causewayCut (c : Nat) (mate : Bool)
  /-- MEASURE (R151): CW_CMD.MEASURE sets a request that the next ferry-cycle start uses or drops. -/
  | measure (p : Port) (c : Nat)
  /-- CAUSEWAY_MEASURING (R151): A DOWN causeway with full HOPS and DLY_OK from every cell for 64 cycles enters MEASURING. -/
  | causewayMeasuring (c : Nat) (mate : Bool)
  /-- CAUSEWAY_UP (R151): Eight measurement ferries with DLY_OK from every cell take the causeway to UP. -/
  | causewayUp (c : Nat)
  /-- CUT_CLEAR (R151): A CUT causeway without break evidence for 64 ferry cycles returns to UP. -/
  | cutClear (c : Nat) (mate : Bool)
  /-- SPLIT_SET (R162): No written status of the causeway for 2 ferry cycles sets SPLIT. -/
  | splitSet (c : Nat)
  /-- FREIGHT_POST (R141): A write of CW_FR_HEAD posts descriptors, accepted only when it moves the head forward within the ring. -/
  | freightPost (p : Port) (h : Nat)
  /-- FREIGHT_ISSUE (R141): The freight engine issues the next descriptor whose causeway is free into a ferry. -/
  | freightIssue
  /-- FREIGHT_COLLECT (R141): The engine sends a COLLECT for a request no earlier than the second ferry cycle after it. -/
  | freightCollect (c : Nat)
  /-- FREIGHT_REPLY (R141): A collected reply completes the descriptor, or brings a further COLLECT, a repeated request or failure. -/
  | freightReply (c : Nat)
  /-- FREIGHT_READ (R135): A Skerry reads FR_LEN bytes from FR_ADDR and leaves the reply pending. -/
  | freightRead (g tag addr len fixed : Nat)
  /-- FREIGHT_WRITE (R135): A Skerry writes FR_LEN bytes to FR_ADDR and leaves an acknowledgement pending. -/
  | freightWrite (g tag addr len : Nat) (data : List Byte) (still : List Nat)
  /-- FREIGHT_PART (R137): A Skerry stores a PART block and checks and applies or rejects the part once all six blocks are held. -/
  | freightPart (g i id : Nat) (data : List Byte)
  /-- FREIGHT_IMAGE (R615): A Skerry stores an IMAGE block in its image buffer or discards it. -/
  | freightImage (g i : Nat) (data : List Byte)
  /-- FREIGHT_LOG (R138): A Skerry prepares 48 bytes of its event log as a pending reply. -/
  | freightLog (g tag off len : Nat) (bad : List Nat) (fixed : Nat)
  /-- FREIGHT_RESET (R647): A Skerry in block resets its link and fast domains on a remote reset, or refuses it. -/
  | freightReset (g addr : Nat)
  /-- COLLECT (R139): A Skerry named by a COLLECT writes its pending reply into the freight as the ferry passes. -/
  | collect (g tag : Nat)
  /-- RETIRE (R393): ACTION 0x01 drives BYP_FIRE for 10 ms and sets FIRED. -/
  | retire (g : Nat)
  /-- THYRISTOR_TRIGGER (R393): ACTION 0x02 drives THY_TRIG for 10 ms. -/
  | thyristorTrigger (g : Nat)
  /-- MANAGED_DISCHARGE_START (R357): ACTION 0x03 starts a managed discharge while the cell is in block, and is refused otherwise. -/
  | managedDischargeStart (g : Nat)
  /-- CLEAR_LATCHED_FAULTS (R503): ACTION 0x04 clears each latch bit whose clearing condition holds. -/
  | clearLatchedFaults (g : Nat) (still : List Nat)
  /-- STEP_MODE (R378): ACTION 0x05 sets step mode to take effect at the next applied commit. -/
  | stepMode (g : Nat)
  /-- WEAVE_MODE (R378): ACTION 0x06 sets weave mode to take effect at the next applied commit. -/
  | weaveMode (g : Nat)
  /-- FLASH_ORDER_SEND (R158): A Balgal lane sends a due flash order within its budget, or defers it to the next ferry cycle. -/
  | flashOrderSend (n : Nat)
  /-- RELAYED_FLASH_ORDER (R161): A flash order arriving on mate lane 3 is sent by the standby on its causeway lanes within 24 word clocks. -/
  | relayedFlashOrder (ss : List Sym)
  /-- INSERT_ONE (R156): A valid insert-one naming the cell sets the target insert with its polarity. -/
  | insertOne (g pol : Nat)
  /-- BYPASS_ONE (R156): A valid bypass-one naming the cell sets the target bypass. -/
  | bypassOne (g : Nat)
  /-- BLOCK_ALL (R263): A valid block-all blocks the cell, frees its slots, cancels AFTER changes and logs the REASON. -/
  | blockAll (g reason : Nat)
  /-- COMMIT (R255): A valid commit flash order chooses the stage of an armed epoch, or is kept early or ignored. -/
  | commit (g epoch stage : Nat)
  /-- TIME_MARK (R156): A valid time-mark records the cell's CT at its arrival, less its delay, with MARK. -/
  | timeMark (g p mark back : Nat)
  /-- WAKE (R156): A valid wake naming the cell or all cells starts its fast domain. -/
  | wake (g : Nat)
  /-- PARTNER_BLOCK_ALL (R551): A Balgal receiving a block-all with REASON 0x03 on a causeway lane hands its island a partner demand. -/
  | partnerBlockAll (c : Nat)
  /-- MAIN_PATH_LOST (R173): Loss of the main CT path switches every use of CT to the fallback pair and raises time-fallback. -/
  | mainPathLost (c : Chip)
  /-- MAIN_PATH_RETURN (R174): The main-path clock returns, loads BASE from the fallback pair and enters HOLDOVER. -/
  | mainPathReturn (c : Chip)
  /-- FALLBACK_LOAD (R172): The first fallback tick after a ferry-cycle start loads the fallback pair from the main-path CT. -/
  | fallbackLoad (c : Chip)
  /-- SOURCE_TIMEOUT (R178): A time source silent for its timeout takes the discipline to HOLDOVER with SLEW 0. -/
  | sourceTimeout (c : Chip) (i : Nat)
  /-- SLEW_END (R179): A slew uses up its correction and SLEW returns to 0. -/
  | slewEnd (c : Chip)
  /-- ACCEPT_STEP (R182): TIME_CTRL.ACCEPT_STEP steps CT by TIME_JUMP_NS where a step is permitted. -/
  | acceptStep (p : Port)
  /-- SLEW_JUMP (R182): TIME_CTRL.SLEW_JUMP makes TIME_JUMP_NS a pending slew and enters LOCKED. -/
  | slewJump (p : Port)
  /-- DISCARD_JUMP (R182): TIME_CTRL.DISCARD_JUMP marks the present source invalid and selects the next. -/
  | discardJump (p : Port)
  /-- SKERRY_REACQUIRE (R184): A refused Skerry in block for 64 ferry cycles with consistent errors steps by the last error and enters ACQUIRE. -/
  | skerryReacquire (g : Nat)
  /-- TIME_MARK_SEND (R194): TIME_MARK_CTRL.SEND requests a time-mark on the named causeway and end. -/
  | timeMarkSend (p : Port) (v : Word)
  /-- CONTROL_PERIOD_START (R195): At each control-period start the sinks take the last outputs, swaps and hot loads apply, sources are latched and the loop pass begins. -/
  | controlPeriodStart
  /-- TRIGGER_ARM (R198): TIME_TRIG_CTRL.ARM arms a time trigger, or is refused. -/
  | triggerArm (c : Chip) (p : Port) (k : Nat)
  /-- TRIGGER_DISARM (R198): TIME_TRIG_CTRL.DISARM stops all later firings of a trigger. -/
  | triggerDisarm (c : Chip) (k : Nat)
  /-- TRIGGER_FIRE (R197): A time trigger reaches its instant and acts on every destination that DEST enables. -/
  | triggerFire (c : Chip) (k : Nat)
  /-- SUBWINDOW_END (R399): At each sub-window boundary the converters form their fast results, and the regulator, charge integration and taps act. -/
  | subwindowEnd (c : Chip) (dur : Nat) (qs : List (Nat × Int × Int)) (last : Bool) (gs : Nat) (fb : Bool)
  /-- RERANK (R213): The sorter re-ranks one queued record update per word clock. -/
  | rerank (a : Nat)
  /-- RESORT_COMPLETE (R214): The full re-sort completes by word clock 1,100 and replaces the lists. -/
  | resortComplete (a : Nat)
  /-- PLAN (R225): At word clock 1,100 the planner takes its snapshot and builds stages A and B of the next ferry. -/
  | plan
  /-- SWAP_END (R227): REF_W word clocks after the commit instant the swapped cells return to their lists. -/
  | swapEnd (g : Nat)
  /-- STALE (R209): A record with no accepted status for STALE_LIM ferry cycles becomes STALE. -/
  | stale (g : Nat)
  /-- RETIRE_ACTION_TIMEOUT (R230): No HEALTH bypassed status within 8 ferry cycles of a retire ACTION brings a resend, or ACTION 0x02 and retire-failed after the third. -/
  | retireActionTimeout (g : Nat)
  /-- REEF_RETIRE (R229): A write of REEF_RETIRE with GO marks the named cell for retirement. -/
  | reefRetire (p : Port) (v : Word)
  /-- REEF_HEALTH_SET (R231): A write of REEF_HEALTH_SET with GO returns a bypassed record to service when its status allows. -/
  | reefHealthSet (p : Port) (v : Word)
  /-- STAGE_DECISION (R246): On the decision edge the active chooses stage A or B for an arm and sets the need for the commit. -/
  | stageDecision (a : Nat)
  /-- COMMIT_INSTANT (R255): A Skerry applies the chosen stage of a CHOSEN slot at its commit instant. -/
  | commitInstant (g i : Nat)
  /-- AFTER_CHANGE (R256): At C + AFTER the cell takes STATE_AFTER. -/
  | afterChange (g : Nat)
  /-- EPOCH_DEADLINE (R254): At an epoch's deadline its slot is freed, through MISSED with a commit miss when no commit was applied. -/
  | epochDeadline (g i : Nat)
  /-- EARLY_COMMIT_EXPIRE (R260): An early commit held for 1,250 word clocks is discarded and counted in COMMIT_WRONG. -/
  | earlyCommitExpire (g : Nat)
  /-- SILENT_BLOCK (R266): SK_CMD_SILENT reaching 32 ferry cycles without an applied commit blocks the cell. -/
  | silentBlock (g : Nat)
  /-- GO (R265): RUN_CTRL.GO sets COMMITTING when the Balgal is active, in RUN, safety accepted and the island in RUN. -/
  | go (p : Port)
  /-- HALT (R264): RUN_CTRL.HALT sends a block-all with REASON 0x01 and stops committing. -/
  | halt
  /-- RUN_TIMING_WRITE (R243): A write of RUN_TIMING sets LAG and LEAD, or is refused, and rechecks every causeway under R244. -/
  | runTimingWrite (p : Port) (v : Word)
  /-- RUN_SIGN_WRITE (R268): A write of RUN_SIGN sets HYST and SLOPE_N, refused while COMMITTING is 1. -/
  | runSignWrite (p : Port) (v : Word)
  /-- LOOP_PASS_END (R274): The loop pass completes and raises its scheduler event flag. -/
  | loopPassEnd
  /-- SWAP (R294): LOOP_CTRL.SWAP sets SWAP_PEND for the next period start. -/
  | swap
  /-- LOOP_RESTART (R292): LOOP_RESTART with GO restarts the named slot in the next pass. -/
  | loopRestart (p : Port) (v : Word)
  /-- COEF_WRITE (R293): A write of LOOP_COEF to the bank not in use stores it, and is refused for the bank in use or while a swap is pending. -/
  | coefWrite (p : Port) (b n w : Nat) (v : Word)
  /-- TAP_ARM (R305): LOOP_TAP_CTRL.ARM clears the tap, records T0 and begins recording in its mode. -/
  | tapArm (p : Port) (u : Nat)
  /-- TAP_TRIG (R305): LOOP_TAP_CTRL.TRIG triggers a tap capture. -/
  | tapTrig (u : Nat)
  /-- TAP_STOP (R306): LOOP_TAP_CTRL.STOP ends recording and sets DONE. -/
  | tapStop (u : Nat)
  /-- TAP_DONE (R305): A tap that has recorded its POST or DEPTH samples sets DONE. -/
  | tapDone (u : Nat)
  /-- TRACE_BASE_WRITE (R307): A write of LOOP_TRACE_BASE moves the trace area, or is refused while a tap runs. -/
  | traceBaseWrite (p : Port) (v : Word)
  /-- SCHED_SET (R320): A write of SCHED_SET sets one event flag of one task. -/
  | schedSet (p : Port) (v : Word)
  /-- SCHED_FLAGS (R320): A W1S write of SCHED_FLAGS sets flags of a task. -/
  | schedFlags (t : Nat) (v : Word)
  /-- SCHED_FLAGS_CLR (R321): A write of SCHED_FLAGS_CLR clears flags of a task, which can leave it not ready. -/
  | schedFlagsClr (t : Nat) (v : Word)
  /-- TASK_ENABLE (R321): A write of SCHED_TASK_CFG.ENABLE enables or disables a task. -/
  | taskEnable (t : Nat) (en : Bool)
  /-- WAIT_WRITE (R323): A write of SCHED_TASK_WAIT changes a task's ready mask. -/
  | waitWrite (t : Nat) (v : Word)
  /-- SCHED_ASK (R324): An engine's read of SCHED_ASK asks for work and completes any task it holds. -/
  | schedAsk (p : Port)
  /-- SCHED_GRANT (R326): The scheduler grants the best ready task to the earliest asking engine and clears its WAIT flags. -/
  | schedGrant
  /-- SCHED_DONE (R325): A write of SCHED_DONE completes the held task and releases its flow. -/
  | schedDone (p : Port) (v : Word)
  /-- RUN_LIMIT_OVERRUN (R329): A task held longer than its RUN_LIMIT sets LATE and raises task-overrun. -/
  | runLimitOverrun (e : Nat)
  /-- AGE_PROMOTION (R327): A waiting task's effective level rises by one as AGE_STEP passes. -/
  | agePromotion (t : Nat)
  /-- ENGINE_FAULT (R333): A Sound engine faults, halts, puts its task into FAULTED and raises engine-fault. -/
  | engineFault (e cause pc : Nat) (rs : List Word)
  /-- ENGINE_HALT (R334): SND_CTRL.HALT stops an engine and returns any held task. -/
  | engineHalt (p : Port) (e pc : Nat) (rs : List Word)
  /-- ENGINE_RUN (R335): SND_CTRL.RUN starts a halted engine at its program counter. -/
  | engineRun (p : Port) (e : Nat)
  /-- ENGINE_RESET (R335): SND_CTRL.RESET sets a halted engine's program counter to ENTRY and clears its registers. -/
  | engineReset (p : Port) (e : Nat)
  /-- OBS_CLEAR (R336): SCHED_CTRL.OBS_CLEAR clears every statistics register and restarts the window. -/
  | obsClear
  /-- VRET_LOSS (R348): VRET below 1.8 V for 10 µs takes a Skerry to DARK. -/
  | vretLoss (g : Nat)
  /-- CAP_UNDERVOLTAGE (R348): VCAP below V_STOP, or the auxiliary supply in LOCKOUT, takes a running Skerry to DEEP HOLD. -/
  | capUndervoltage (g : Nat)
  /-- VRET_POWER_UP (R348): VRET at or above 2.7 V for 1 ms takes a Skerry out of DARK into START or DEEP HOLD. -/
  | vretPowerUp (g ctype vfs : Nat) (charged : Bool)
  /-- DEEP_HOLD_WAKE (R351): A wake source detected in DEEP HOLD starts the 25 MHz oscillator and enters START. -/
  | deepHoldWake (g src : Nat)
  /-- RUN_ENTRY (R348): With the auxiliary supply in REG and VIO and VCORE good for 1 ms the Skerry enters RUN. -/
  | runEntry (g gs : Nat) (fb : Bool)
  /-- REPEAT_WAKE (R348): A wake order, a ferry after silence, a fault input or DISCH_AFTER returns a Skerry from REPEAT to RUN. -/
  | repeatWake (g cause : Nat)
  /-- PARK_ENTRY (R348): A blocked Skerry parks in REPEAT on PARK or after PARK_AFTER of silence with a port LOCKED. -/
  | parkEntry (g : Nat)
  /-- DARK_HOLD_EXPIRY (R348): A blocked Skerry silent for DARK_HOLD with neither port LOCKED enters DEEP HOLD. -/
  | darkHoldExpiry (g : Nat)
  /-- SOFT_START_END (R353): The end of SS_MS without a fault takes the flyback from SOFT to REG. -/
  | softStartEnd (g : Nat)
  /-- FLYBACK_FAULT (R353): A flyback fault takes it to RETRY, or to LOCKOUT at the fourth within 10 s. -/
  | flybackFault (g kind : Nat)
  /-- RETRY_END (R353): The 100 ms RETRY wait expires and the flyback soft-starts again. -/
  | retryEnd (g : Nat)
  /-- GATE_SUPPLY_TIMEOUT (R354): A used GS_OK low for 1 ms, or not risen within 20 ms of RUN, sets HEALTH failed and FAULT. -/
  | gateSupplyTimeout (g j : Nat)
  /-- DISCH_AFTER_EXPIRY (R357): The DISCH_AFTER timer expires and starts a managed discharge, waking the cell first. -/
  | dischAfterExpiry (g : Nat) (charged : Bool)
  /-- DISCHARGE_PAUSE (R358): TEMP reaching T_DIS_MAX pauses a discharge. -/
  | dischargePause (g : Nat)
  /-- DISCHARGE_RESUME (R358): TEMP falling to T_DIS_MAX − 10 °C resumes a paused discharge. -/
  | dischargeResume (g : Nat)
  /-- DISCHARGE_DONE (R358): VCAP at or below V_DIS_END ends the discharge and takes the Skerry to DEEP HOLD. -/
  | dischargeDone (g : Nat)
  /-- DIS_TIMEOUT (R358): DIS_TIMEOUT since the start ends the discharge with FAULT. -/
  | disTimeout (g : Nat)
  /-- DIS_STOP (R358): SK_PWR_CTRL.DIS_STOP ends a running discharge. -/
  | disStop (g : Nat)
  /-- PARK (R360): A freight write of SK_PWR_CTRL.PARK sets PARK_PEND, or is refused. -/
  | park (g tag : Nat)
  /-- PARK_EFFECT (R360): PARK takes effect at the ferry-cycle start after its reply is collected, or after 16 ferry cycles. -/
  | parkEffect (g : Nat) (late : Bool)
  /-- CORE_RESTART (R362): A lockstep mismatch or uncorrected SRAM error halts the core pair and restarts it from ROM, or leaves it halted at the third. -/
  | coreRestart (g : Nat) (sram : Bool)
  /-- SRAM_CLEAR_DONE (R470): The Skerry's SRAM clearing ends and the core pair starts from ROM. -/
  | sramClearDone (g : Nat)
  /-- IMAGE_VERIFY (R616): A Skerry holding all image blocks verifies the image and restarts into it or rejects it. -/
  | imageVerify (g : Nat)
  /-- GATE_EDGE (R369): A pending gate edge whose DEAD and MIN_PULSE conditions are met is taken. -/
  | gateEdge (g : Nat)
  /-- WEAVE_RELOAD (R375): At a weave boundary or mid-period the gate timer takes the duty for the next half. -/
  | weaveReload (g : Nat)
  /-- WPER_WRITE (R377): A write of SK_GATE_WPER sets a pending WHALF for the next reload point. -/
  | wperWrite (g : Nat) (v : Word)
  /-- GATE_FORCE (R379): A write of SK_GATE_FORCE with EN 1 requests a forced state, or is refused. -/
  | gateForce (g : Nat) (v : Word)
  /-- FORCE_APPLY (R379): The forced state becomes the target on the first timer boundary after the write. -/
  | forceApply (g : Nat)
  /-- FORCE_RELEASE (R381): A write of SK_GATE_FORCE with EN 0 releases the force. -/
  | forceRelease (g : Nat)
  /-- REFRESH_REQUEST (R383): A pair's refresh time reaching REF_LIM sets REFRESH_REQ in a step cell. -/
  | refreshRequest (g : Nat)
  /-- FAULT_INPUT (R388): A fault input judged asserted makes the outputs undriven and latches the fault. -/
  | faultInput (g : Nat) (ins : List Nat)
  /-- FLT_CLR (R389): SK_GATE_CTRL.FLT_CLR clears the fault latches when no latched input is asserted. -/
  | fltClr (g : Nat) (still : List Nat)
  /-- OVER_VOLTAGE (R391): VCAP above V_OV fires the bypass switch and thyristor and sets FIRED. -/
  | overVoltage (g : Nat)
  /-- FIRE_PULSE_END (R393): The 10 ms BYP_FIRE or THY_TRIG pulse ends. -/
  | firePulseEnd (g : Nat) (thy : Bool)
  /-- BYPASS_CONFIRM (R392): BYP_FB asserted after firing reports HEALTH bypassed and logs the firing. -/
  | bypassConfirm (g : Nat)
  /-- BYPASS_CONFIRM_TIMEOUT (R392): BYP_FB not asserted within 20 ms of firing reports HEALTH failed. -/
  | bypassConfirmTimeout (g : Nat)
  /-- MAINS_WINDOW_END (R413): A mains window ends, its results are formed and the next L is fixed. -/
  | mainsWindowEnd (c : Chip)
  /-- MAINS_TRACK_TIMEOUT (R414): No accepted period for 4 × T takes the tracker to HOLD and raises mains-track. -/
  | mainsTrackTimeout
  /-- CONV_TRIG (R407): A trigger starts a TRIG-mode scan at the next boundary, or sets TPEND. -/
  | convTrig (c : Chip) (v : Word)
  /-- SCAN_END (R408): A scan ends and starts the pending one when TPEND is set. -/
  | scanEnd (c : Chip) (n : Nat)
  /-- CONV_CFG_WRITE (R410): A write of CONV_CFG sets a pending configuration, or is refused. -/
  | convCfgWrite (p : Port) (n : Nat) (v : Word)
  /-- CONV_MAINS_SW (R415): A write of CONV_MAINS_SW or SK_CONV_MAINS_SW in fixed mode sets L of the next window. -/
  | convMainsSw (c : Chip) (p : Port) (v : Word)
  /-- STREAM_RESTORE (R419): CONV_STREAM_CTRL.RESTORE returns the stream decimation to 0. -/
  | streamRestore (n : Nat)
  /-- STREAM_ENABLE (R419): A write that sets stream EN to 1 restarts the ring at index 0 with decimation 0. -/
  | streamEnable (p : Port) (n kind : Nat) (en : Bool)
  /-- REC_ARM (R431): ACQ_REC_CTRL.ARM takes the recorder from IDLE to FILL and grants PRE and POST. -/
  | recArm (p : Port)
  /-- REC_FORCE (R433): ACQ_REC_CTRL.FORCE triggers a capture in FILL or READY. -/
  | recForce (p : Port)
  /-- REC_STOP (R434): ACQ_REC_CTRL.STOP ends the capture or abandons it. -/
  | recStop (p : Port)
  /-- RECORDER_ROW (R428): On each row-clock edge the recorder forms and stores a row and advances its state. -/
  | recorderRow
  /-- AUTO_TRIGGER (R433): With AUTO set, AUTO_T after entry into READY a forced trigger is taken. -/
  | autoTrigger
  /-- HOLDOFF_END (R440): A trigger engine's time hold-off expires. -/
  | holdoffEnd (e : Nat)
  /-- SEG_FREE (R435): A write of 1 to ACQ_SEG_FULL frees a segment. -/
  | segFree (k : Nat) (v : Word)
  /-- ENGINE_LEVEL_WRITE (R441): A write of LEVEL, AUX or HOLD of a trigger engine applies after the judging edge and unprimes an EDGE engine. -/
  | engineLevelWrite (e which : Nat) (v : Word)
  /-- SRAM_READ (R448): A read of an SRAM stripe is decoded, corrected, rebuilt or ended with a bus error. -/
  | sramRead (p : Port) (a n : Nat) (ones bad : List Nat) (outer waits : Nat)
  /-- SRAM_WRITE (R447): A write stores a full stripe, or does a read-modify-write of it. -/
  | sramWrite (p : Port) (a : Nat) (data : List Byte) (ones bad : List Nat) (outer waits : Nat)
  /-- WRITE_BACK (R449): A corrected stripe is written back on a free port-B cycle within 64 word clocks. -/
  | writeBack (x : Nat)
  /-- MEM_RETIRE (R451): A write of MEM_RETIRE retires a bank, or is refused for a third bank of a group. -/
  | memRetire (p : Port) (v : Word)
  /-- BIST_REGION_START (R461): After GAP the background test saves the next region and starts testing it. -/
  | bistRegionStart
  /-- BIST_REGION_END (R462): The region's March C− test ends and the save buffer is written back. -/
  | bistRegionEnd (fail : Bool) (word bit : Nat)
  /-- BIST_STOP (R465): A write of MEM_BIST_CTRL.EN 0 stops the test after its present region. -/
  | bistStop
  /-- MEM_PWR_WRITE (R466): A write of MEM_PWR switches groups on or off, or is refused. -/
  | memPwrWrite (p : Port) (v : Word)
  /-- DMA_START (R476): DMA_CH_CTRL.START fetches the channel's first descriptor. -/
  | dmaStart (p : Port) (n : Nat)
  /-- DMA_FETCH (R472): A fetched descriptor is checked and run or refused. -/
  | dmaFetch (n : Nat)
  /-- DMA_COMPLETE (R475): The last write response of a descriptor returns, RESULT is written and the channel goes on. -/
  | dmaComplete (n : Nat) (host : List Byte)
  /-- DMA_BUS_ERROR (R477): A bus error in a DMA response stops every channel and raises dma-bus. -/
  | dmaBusError (dir : Bool) (cause addr : Nat) (prog : List (Nat × Nat × List Byte))
  /-- DMA_DRAINED (R477): The last outstanding response after a stop returns and DRAINED is set. -/
  | dmaDrained (prog : List (Nat × Nat × List Byte))
  /-- DMA_CLEAR (R478): DMA_CTRL.CLEAR clears STOPPED once drained. -/
  | dmaClear (p : Port)
  /-- DMA_RESUME (R478): DMA_CH_CTRL.RESUME continues a stopped channel from DMA_CH_DONE_BYTES. -/
  | dmaResume (p : Port) (n : Nat)
  /-- DMA_ABORT (R478): DMA_CH_CTRL.ABORT drains a channel to IDLE without writing RESULT. -/
  | dmaAbort (n prog : Nat) (host : List Byte)
  /-- DMA_DESC_WRITE (R483): A write of DMA_CH_DESC sets the first descriptor, refused outside IDLE and ERROR. -/
  | dmaDescWrite (p : Port) (n : Nat) (v : Word)
  /-- FAULT_RAISE (R488): A raised source sets its cause bit, counts, and fills or overflows its record, escalating where needed. -/
  | faultRaise (also : List (Nat × Nat))
  /-- REACTION_TIMEOUT (R491): A record's reaction timer expires and the record moves one class up. -/
  | reactionTimeout (k : Nat)
  /-- FAULT_ACK (R493): A write of 1 to FLT_REC[k].VALID frees record 0 or 1. -/
  | faultAck (p : Port) (k : Nat)
  /-- QUIET_EXPIRE (R497): QUIET_MS without a serious raise leaves FATAL, copies record 2 to FLT_PREV and resumes ALIVE. -/
  | quietExpire
  /-- FLT_SW (R492): A write of FLT_SW raises firmware source fw-n with DATA as INFO. -/
  | fltSw (v : Word)
  /-- ALIVE_TOGGLE (R499): Every 31,250 word clocks ALIVE toggles while the Balgal is in RUN and not FATAL. -/
  | aliveToggle
  /-- SK_FLT_CLEAR (R503): A write of 1 to an SK_FLT_LATCH bit clears it when its condition holds, else sets CLR_REFUSED. -/
  | skFltClear (g : Nat) (v : Word) (still : List Nat)
  /-- PARTNER_FRAME (R510): A valid mate or arbiter frame is judged 3 word clocks after its end and its health, time and order fields are used. -/
  | partnerFrame (n : Nat) (ss : List Sym) (back : Nat) (halted same : Bool)
  /-- RELAY_FRAME (R515): A relay frame on mate lanes 1 and 2 gives the standby the berths and COLLECT to relay. -/
  | relayFrame (n : Nat) (ss : List Sym)
  /-- COPY_FRAME (R530): A copy frame replaces standby Reef records, and a pass without restart sets COPY_DONE. -/
  | copyFrame (n : Nat) (ok : Bool) (recs : List CopyRec)
  /-- PROFILE_FRAME (R576): A profile frame replaces the standby's profile generator state. -/
  | profileFrame (ok : Bool) (f : ProfFrame)
  /-- STRAIT_FRAME (R610): A valid strait frame supplies time, acknowledgement and a mailbox message. -/
  | straitFrame (n : Nat) (ss : List Sym) (back : Nat)
  /-- PEER_ALIVE_STOP (R512): No counted edge on a PEER_ALIVE input for 100 µs judges it stopped. -/
  | peerAliveStop (i : Nat)
  /-- PEER_ALIVE_RESUME (R512): Two counted edges judge a PEER_ALIVE input running again. -/
  | peerAliveResume (i : Nat)
  /-- PARTNER_LOST (R512): No valid mate frame for 4 ferry cycles raises partner-lost. -/
  | partnerLost (tail : Bool)
  /-- ARBITER_LOST (R512): No valid arbiter frame for 4 ferry cycles raises arbiter-lost and sets ARB_LOST. -/
  | arbiterLost
  /-- STANDBY_SETTLED (R514): 64 ferry cycles after entering standby the fitness hold ends. -/
  | standbySettled
  /-- SHADOW_WINDOW_END (R516): A shadow window of 1,024 cycles ends and fails or restores FIT. -/
  | shadowWindowEnd
  /-- REQUEST (R518): RED_CTRL.REQUEST asks for a planned switchover. -/
  | request
  /-- YIELD (R521): An order YIELD stops committing at once and hands over at cycle K. -/
  | yield (gen k : Nat)
  /-- TAKE (R522): An order TAKE prepares the standby to take the active role at cycle K. -/
  | take (gen k : Nat)
  /-- TAKEOVER_CYCLE (R522): At cycle K the units change roles and GEN, the new active stages a full ferry and fires route 0x48. -/
  | takeoverCycle
  /-- FENCE (R525): An active seeing a newer active steps down to standby. -/
  | fence (gen : Nat)
  /-- WITNESS_TAKEOVER (R528): A fit standby without arbiter and with PEER_ALIVE0 stopped takes over after 4 witnessing cycles. -/
  | witnessTakeover
  /-- SAFE_INPUT_CHANGE (R537): A safe input changes filtered level after FILT of counted samples. -/
  | safeInputChange (i : Nat) (high : Bool)
  /-- TEST_PULSE (R538): A test-pulse output pulses low for TP_W and the island checks its inputs' response. -/
  | testPulse (k lows : Nat) (high : Bool)
  /-- SAFETY_CYCLE (R546): At each safety cycle the island judges inputs and monitored values and sets each function's state. -/
  | safetyCycle (stale : Bool)
  /-- ISLAND_FAULT (R535): A lockstep, memory, clock or read-back error puts the island into FAULT. -/
  | islandFault (cause : Nat)
  /-- K_DELAY_EXPIRY (R543): K_DELAY after entry into STO de-energises the contactor outputs of KMASK. -/
  | kDelayExpiry (f : Nat)
  /-- CONTACTOR_FEEDBACK_TIMEOUT (R544): A contactor feedback not shown within FB_T sets KFLT and takes its functions to STO. -/
  | contactorFeedbackTimeout (k : Nat)
  /-- STOP_REQ (R550): SAFE_CTRL.STOP_REQ places a firmware STO demand on every function. -/
  | stopReq
  /-- K_REQ (R550): A write of SAFE_CTRL.K_REQ requests contactor outputs, de-energising at once on 0. -/
  | kReq (v : Nat)
  /-- SAFE_RESET (R553): A reset pulse on RESET_IN releases eligible STO functions and clears demands. -/
  | safeReset (low : Nat)
  /-- VDD_SAFE_RISE (R536): VDD_SAFE rising resets the island. -/
  | vddSafeRise
  /-- SAFE_OPEN (R559): SAFE OPEN opens an island session with the correct password. -/
  | safeOpen (pw : List Byte)
  /-- SET_PW (R560): SET_PW stores a new salt and password record. -/
  | setPw (pw : List Byte)
  /-- ACCEPT (R560): ACCEPT makes the last refused SAFETY section the accepted one. -/
  | accept
  /-- ISLAND_RESET (R560): The session operation RESET resets the island. -/
  | islandReset
  /-- SAFE_READ (R560): The session operation READ returns island state, causes and digest. -/
  | safeRead
  /-- SAFE_CLOSE (R559): SAFE CLOSE ends the session. -/
  | safeClose
  /-- SESSION_TIMEOUT (R559): 300 s without a command closes the session. -/
  | sessionTimeout
  /-- SAFE_LOCKOUT_END (R559): The 600 s session lockout expires. -/
  | safeLockoutEnd
  /-- SERVO_PERIOD_START (R563): At each servo-period start the profile generator applies pending limits and commands, publishes v, p and a, and enters or leaves STOP. -/
  | servoPeriodStart
  /-- MOVE (R571): PROF_CTRL.CMD MOVE records a pending position move. -/
  | move
  /-- SPEED (R570): PROF_CTRL.CMD SPEED records a pending speed command. -/
  | speed
  /-- PROFILE_HALT (R567): PROF_CTRL.CMD HALT records a pending halt to rest. -/
  | profileHalt
  /-- PROF_LIMIT_WRITE (R573): A write of PROF_V, PROF_A, PROF_D or PROF_J sets a working limit that replans at the next servo start. -/
  | profLimitWrite (p : Port) (k : Nat) (v : Word)
  /-- PROF_ANGLE (R575): A write of PROF_ANGLE sets θ_prev while COMMITTING is 0. -/
  | profAngle (p : Port) (v : Word)
  /-- ETH_FRAME_RECEIVE (R584): A frame on an Ethernet port is dispatched by its Ethertype or dropped. -/
  | ethFrameReceive (p len etype : Nat) (fcs ign : Bool)
  /-- PTP_SYNC (R587): A Sync message gives a slave port its offsetFromMaster and time sample. -/
  | ptpSync (p seq dom : Nat) (two : Bool) (logInt : Int) (origin : Nat) (corr : Int) (back : Nat)
  /-- PTP_FOLLOW_UP (R587): A Follow_Up completes a two-step Sync. -/
  | ptpFollowUp (p seq origin : Nat) (corr : Int)
  /-- PTP_PDELAY_REQ (R587): A Pdelay_Req is answered with a one-step Pdelay_Resp. -/
  | ptpPdelayReq (p seq : Nat) (turn : Int)
  /-- PTP_PDELAY_RESP (R587): A Pdelay_Resp completes a peer delay exchange and updates meanLinkDelay. -/
  | ptpPdelayResp (p seq : Nat) (turn : Int) (back : Nat)
  /-- PTP_ANNOUNCE (R587): An Announce message feeds the BMCA of the port. -/
  | ptpAnnounce (p st : Nat)
  /-- PTP_PDELAY_SEND (R587): Each second a port sends a Pdelay_Req. -/
  | ptpPdelaySend (p : Nat)
  /-- PTP_MASTER_SEND (R589): A master port sends Announce each second and Sync each 2^LOG_SYNC s. -/
  | ptpMasterSend (p : Nat) (sync : Bool)
  /-- ANNOUNCE_TIMEOUT (R588): No Announce within announceReceiptTimeout makes the port invalid and raises ptp-lost. -/
  | announceTimeout (p : Nat)
  /-- SV_FRAME (R590): A sampled-value frame is accepted, writing one record per ASDU, or refused. -/
  | svFrame (p dst appid : Nat) (sim : Bool) (asdus : List Asdu) (back : Nat)
  /-- SV_SET_TIMEOUT (R592): SV_WAIT after the first record of smpCnt n fires route source 0x52. -/
  | svSetTimeout (n : Nat)
  /-- SV_STALE (R593): No accepted frame for SV_HOLD sets STALE and raises sv-stale. -/
  | svStale (i : Nat)
  /-- GOOSE_RECEIVE (R595): A GOOSE message is accepted, stored or refreshed, or counted as duplicate. -/
  | gooseReceive (p : Nat) (m : Goose)
  /-- GOOSE_TTL_EXPIRE (R596): timeAllowedToLive running out sets STALE, FALLBACK values and goose-stale. -/
  | gooseTtlExpire (i : Nat)
  /-- GOOSE_REPEAT (R597): A publication repeats its message at the growing interval. -/
  | gooseRepeat (u : Nat)
  /-- PCIE_REQUEST (R602): An inbound PCIe request is mapped through a BAR and served or aborted. -/
  | pcieRequest (wr : Bool) (bar off len : Nat) (data : List Byte)
  /-- PCIE_RESET (R605): PERST_N, hot reset or FLR resets the endpoint and HOST_OB_BASE only. -/
  | pcieReset (up : Bool)
  /-- PCIE_LINK_LOSS (R605): Loss of the PCIe link raises pcie-link. -/
  | pcieLinkLoss
  /-- MSI_ACK (R604): HOST_MSI_ACK re-sends MSI-X vector 0 while the IRQ condition holds. -/
  | msiAck
  /-- HDB_SET (R604): A write setting a HOST_HDB_SET bit sends MSI-X vector 1. -/
  | hdbSet (v : Word)
  /-- PDB_SET (R604): A PCIe write setting a HOST_PDB_SET bit fires route source 0x59. -/
  | pdbSet (p : Port) (v : Word)
  /-- QUAY_ACCESS (R607): A quay strobe is recognised and the word access is served with QY_BUSY_N and QY_ERR_N. -/
  | quayAccess (rd wr : Bool) (q : Nat) (v : Word)
  /-- QUAY_DOORBELL (R607): A quay write of 1 to HOST_QY_QDB_SET fires route source 0x58. -/
  | quayDoorbell (p : Port) (v : Word)
  /-- QUAY_STROBE_STUCK (R608): A strobe still low 10 µs after release releases QY_D and counts in HOST_QY_STUCK. -/
  | quayStrobeStuck
  /-- STRAIT_SEND (R611): NET_ST_TXCTRL.SEND starts carrying a mailbox message in strait frames. -/
  | straitSend (p : Port) (n : Nat) (v : Word)
  /-- STRAIT_SEND_FAIL (R611): A message carried by 64 frames without acknowledgement sets TX_FAIL. -/
  | straitSendFail (n : Nat)
  /-- RX_FULL_FREE (R612): A write of 1 to NET_ST_RXSTAT.RX_FULL frees the receive mailbox. -/
  | rxFullFree (n : Nat)
  /-- LEVEL (R623): The monitor command LEVEL opens SERVICE or KEYS, or counts a wrong code. -/
  | level (c : Chip) (n : Nat) (code : List Byte)
  /-- QUIT (R625): QUIT returns the monitor to VIEW. -/
  | quit (c : Chip)
  /-- RD (R627): RD reads aligned words as Harbour core 1 sees them. -/
  | rd (c : Chip) (a n : Nat) (host : List Word)
  /-- WR (R627): WR writes one aligned word. -/
  | wr (c : Chip) (a : Nat) (v : Word) (still : List Nat)
  /-- DUMP (R626): DUMP prints bytes from SRAM or a local memory. -/
  | dump (c : Chip) (a n : Nat)
  /-- TRACE_TAP (R626): TRACE TAP prints a loop tap's state and samples. -/
  | traceTap (u : Nat)
  /-- TRACE_SCHED (R626): TRACE SCHED prints the last records of the scheduler trace. -/
  | traceSched (n : Nat)
  /-- CHART (R626): CHART prints the chart status, digests and directory. -/
  | chart
  /-- CHART_SEC (R626): CHART SEC dumps one stored section. -/
  | chartSec (ty inst : Nat)
  /-- CELL_RD (R629): CELL RD reads words of a cell over a private freight slot. -/
  | cellRd (g a n : Nat)
  /-- CELL_WR (R629): CELL WR writes a word of a cell over freight. -/
  | cellWr (g a : Nat) (v : Word)
  /-- CELL_LOG (R629): CELL LOG prints 48 bytes of a cell's log. -/
  | cellLog (g off : Nat)
  /-- CELL_RESET (R629): CELL RESET sends a remote reset to a cell. -/
  | cellReset (g : Nat)
  /-- KEY_PROG (R628): KEY PROG programs an empty key slot. -/
  | keyProg (k : Nat) (key : List Byte)
  /-- KEY_REVOKE (R628): KEY REVOKE blows the revoke fuse of a programmed slot. -/
  | keyRevoke (k : Nat)
  /-- OFF (R631): OFF disables the monitor until the next reset. -/
  | off
  /-- MON_LOG (R630): The Skerry monitor command LOG prints log bytes from an offset. -/
  | monLog (g off : Nat)
  /-- MON_OFF_WRITE (R631): A write of 1 to MON_CTRL.OFF disables the monitor. -/
  | monOffWrite
  /-- MON_IDLE_TIMEOUT (R625): IDLE_MIN without a complete line drops the level to VIEW. -/
  | monIdleTimeout (c : Chip)
  /-- MON_LOCKOUT_END (R623): The 60 s LEVEL lockout expires. -/
  | monLockoutEnd (c : Chip)
  /-- PARTIAL_LINE_TIMEOUT (R620): A partial line with no character for 10 s is discarded. -/
  | partialLineTimeout (c : Chip)
  /-- TOP_BLOCKALL (R657): A keyed write of TOP_BLOCKALL sends a block-all with REASON 0x04. -/
  | topBlockall (p : Port) (v : Word)
  /-- TEMP_UPDATE (R658): Every 1 ms TEMP is updated and die-hot or die-critical raised. -/
  | tempUpdate (t : Int)
  /-- PEAK_CLR (R656): TOP_TEMP.PEAK_CLR sets PEAK to the present TEMP. -/
  | peakClr
  /-- VDD_SAFE_LOSS (R535): Loss of VDD_SAFE stops the Lighthouse island, de-energises its outputs and is one of the two ways out of FAULT. -/
  | vddSafeLoss
  /-- VS_SAFE_LOSS (R541): VS_SAFE below 19.2 V for 1 ms gives an input fault on every used safe input. -/
  | vsSafeLoss
  /-- REPLY_READY (R138): A Skerry's pending READ, WRITE or LOG reply becomes ready, within 1 or 4 ferry cycles after the request ferry, so that a COLLECT no longer returns not ready. -/
  | replyReady (g : Nat)
  /-- ETH_LINK_UP (R585): An Ethernet port gains clause 36 synchronisation or clause 49 block lock and completes any auto-negotiation, and its link comes up. -/
  | ethLinkUp (p : Nat) (full : Bool)
  /-- ETH_LINK_DOWN (R585): An Ethernet port loses its synchronisation or block lock and its link goes down. -/
  | ethLinkDown (p : Nat)
  /-- PCIE_LINK_UP (R602): The PCIe endpoint trains its link at Gen1 to Gen3 on x1 to x4 and HOST_STAT shows link up. -/
  | pcieLinkUp (gen width : Nat) (msix master : Bool)
  /-- TIME_OUT_PULSE_END (R197): The 625-word-clock pulse on TIME_OUT started by a trigger firing runs out and the pin returns low. -/
  | timeOutPulseEnd
  /-- UNKNOWN_COMMAND (R621): A monitor line that is empty, names no command, is malformed or exceeds 128 characters is answered with OK or ERR 0x01. -/
  | unknownCommand (c : Chip) (empty : Bool)
deriving DecidableEq, Repr

end Sys2Proof
end

