-- ==== Sys2Proof/WellFormed.lean ====
section
/-! DEFINITION. Well-formed commands: every index that a command carries names something that the chip set has. A command
that is not well-formed names no unit; its meaning leaves the state unchanged or shows what an index not in use shows. -/

namespace Sys2Proof

/-- A cell number (R27). -/
def Chip.wf : Chip → Bool
  | .balgal => true
  | .skerry g => decide (g < 6144)

/-- Engine ports number the 18 engines (R310). -/
def Port.wf : Port → Bool
  | .engine e => decide (e < 18)
  | .dma => true
  | .pcie => true
  | .quay => true
  | .monitor => true
  | .freight => true
  | .loader => true
  | .core => true

/-- A lane of the Balgal (R85), or a port of a cell. -/
def Rx.wf : Rx → Bool
  | .lane n => decide (n < 112)
  | .port g p => decide (g < 6144) && decide (p < 2)

/-- Every index that the command carries is within its range. -/
def Instr.wf : Instr → Bool
  | .registerWrite tgt p _ _ _ _ => tgt.wf && p.wf
  | .rcRead tgt p _ _ => tgt.wf && p.wf
  | .timeNowLatch tgt p => tgt.wf && p.wf
  | .powerOnReset _ => true
  | .vaonFall => true
  | .railUp _ => true
  | .railStartFailure => true
  | .railPoll _ => true
  | .pmbAlert _ => true
  | .railHardFault i => decide (i < 3)
  | .railDown => true
  | .railRetry => true
  | .pinReset => true
  | .pinResetRelease => true
  | .rstStuck => true
  | .rstMaskLift => true
  | .softReset p _ => p.wf
  | .softResetEnd => true
  | .resetComplete _ _ => true
  | .groupClearDone g => decide (g < 4)
  | .chartFetch _ => true
  | .chartVerify => true
  | .chartCheck => true
  | .chartBuild _ => true
  | .load p => p.wf
  | .hotLoad p => p.wf
  | .hotCheck => true
  | .hotApply => true
  | .hotAbort => true
  | .partResendTimeout g => decide (g < 6144)
  | .refClockBad _ _ => true
  | .refClockGood _ _ => true
  | .signalDetectLost r _ _ => r.wf
  | .clockRecovered r => r.wf
  | .commaAligned r => r.wf
  | .lossScoreLimit r _ => r.wf
  | .lockTimeout n => decide (n < 112)
  | .errIntervalEnd n _ => decide (n < 112)
  | .elasticSlip n => decide (n < 112)
  | .eyeScanStart p n _ => p.wf && decide (n < 112)
  | .eyeScanDone n _ => decide (n < 112)
  | .ferryCycleStart => true
  | .ferryReceiveSkerry g p _ _ _ => decide (g < 6144) && decide (p < 2)
  | .missingFerry g p q => decide (g < 6144) && decide (p < 2) && decide (q < 2)
  | .balgalFerryReceive n _ _ => decide (n < 96)
  | .causewayDown c _ => decide (c < 96)
  | .causewayCut c _ => decide (c < 96)
  | .measure p c => p.wf && decide (c < 96)
  | .causewayMeasuring c _ => decide (c < 96)
  | .causewayUp c => decide (c < 96)
  | .cutClear c _ => decide (c < 96)
  | .splitSet c => decide (c < 96)
  | .freightPost p _ => p.wf
  | .freightIssue => true
  | .freightCollect c => decide (c < 96)
  | .freightReply c => decide (c < 96)
  | .freightRead g _ _ _ _ => decide (g < 6144)
  | .freightWrite g _ _ _ _ _ => decide (g < 6144)
  | .freightPart g _ _ _ => decide (g < 6144)
  | .freightImage g _ _ => decide (g < 6144)
  | .freightLog g _ _ _ _ _ => decide (g < 6144)
  | .freightReset g _ => decide (g < 6144)
  | .collect g _ => decide (g < 6144)
  | .retire g => decide (g < 6144)
  | .thyristorTrigger g => decide (g < 6144)
  | .managedDischargeStart g => decide (g < 6144)
  | .clearLatchedFaults g _ => decide (g < 6144)
  | .stepMode g => decide (g < 6144)
  | .weaveMode g => decide (g < 6144)
  | .flashOrderSend n => decide (n < 96)
  | .relayedFlashOrder _ => true
  | .insertOne g _ => decide (g < 6144)
  | .bypassOne g => decide (g < 6144)
  | .blockAll g _ => decide (g < 6144)
  | .commit g _ _ => decide (g < 6144)
  | .timeMark g p _ _ => decide (g < 6144) && decide (p < 2)
  | .wake g => decide (g < 6144)
  | .partnerBlockAll _ => true
  | .mainPathLost c => c.wf
  | .mainPathReturn c => c.wf
  | .fallbackLoad c => c.wf
  | .sourceTimeout c _ => c.wf
  | .slewEnd c => c.wf
  | .acceptStep p => p.wf
  | .slewJump p => p.wf
  | .discardJump p => p.wf
  | .skerryReacquire g => decide (g < 6144)
  | .timeMarkSend p _ => p.wf
  | .controlPeriodStart => true
  | .triggerArm c p k => c.wf && p.wf && decide (k < 16)
  | .triggerDisarm c k => c.wf && decide (k < 16)
  | .triggerFire c k => c.wf && decide (k < 16)
  | .subwindowEnd c _ _ _ _ _ => c.wf
  | .rerank a => decide (a < 6)
  | .resortComplete a => decide (a < 6)
  | .plan => true
  | .swapEnd g => decide (g < 6144)
  | .stale g => decide (g < 6144)
  | .retireActionTimeout g => decide (g < 6144)
  | .reefRetire p _ => p.wf
  | .reefHealthSet p _ => p.wf
  | .stageDecision a => decide (a < 6)
  | .commitInstant g i => decide (g < 6144) && decide (i < 2)
  | .afterChange g => decide (g < 6144)
  | .epochDeadline g i => decide (g < 6144) && decide (i < 2)
  | .earlyCommitExpire g => decide (g < 6144)
  | .silentBlock g => decide (g < 6144)
  | .go p => p.wf
  | .halt => true
  | .runTimingWrite p _ => p.wf
  | .runSignWrite p _ => p.wf
  | .loopPassEnd => true
  | .swap => true
  | .loopRestart p _ => p.wf
  | .coefWrite p b n w _ => p.wf && decide (b < 2) && decide (n < 48) && decide (w < 8)
  | .tapArm p u => p.wf && decide (u < 16)
  | .tapTrig u => decide (u < 16)
  | .tapStop u => decide (u < 16)
  | .tapDone u => decide (u < 16)
  | .traceBaseWrite p _ => p.wf
  | .schedSet p _ => p.wf
  | .schedFlags t _ => decide (t < 256)
  | .schedFlagsClr t _ => decide (t < 256)
  | .taskEnable t _ => decide (t < 256)
  | .waitWrite t _ => decide (t < 256)
  | .schedAsk p => p.wf
  | .schedGrant => true
  | .schedDone p _ => p.wf
  | .runLimitOverrun e => decide (e < 18)
  | .agePromotion t => decide (t < 256)
  | .engineFault e _ _ _ => decide (e < 18)
  | .engineHalt p e _ _ => p.wf && decide (e < 18)
  | .engineRun p e => p.wf && decide (e < 18)
  | .engineReset p e => p.wf && decide (e < 18)
  | .obsClear => true
  | .vretLoss g => decide (g < 6144)
  | .capUndervoltage g => decide (g < 6144)
  | .vretPowerUp g _ _ _ => decide (g < 6144)
  | .deepHoldWake g _ => decide (g < 6144)
  | .runEntry g _ _ => decide (g < 6144)
  | .repeatWake g _ => decide (g < 6144)
  | .parkEntry g => decide (g < 6144)
  | .darkHoldExpiry g => decide (g < 6144)
  | .softStartEnd g => decide (g < 6144)
  | .flybackFault g _ => decide (g < 6144)
  | .retryEnd g => decide (g < 6144)
  | .gateSupplyTimeout g _ => decide (g < 6144)
  | .dischAfterExpiry g _ => decide (g < 6144)
  | .dischargePause g => decide (g < 6144)
  | .dischargeResume g => decide (g < 6144)
  | .dischargeDone g => decide (g < 6144)
  | .disTimeout g => decide (g < 6144)
  | .disStop g => decide (g < 6144)
  | .park g _ => decide (g < 6144)
  | .parkEffect g _ => decide (g < 6144)
  | .coreRestart g _ => decide (g < 6144)
  | .sramClearDone g => decide (g < 6144)
  | .imageVerify g => decide (g < 6144)
  | .gateEdge g => decide (g < 6144)
  | .weaveReload g => decide (g < 6144)
  | .wperWrite g _ => decide (g < 6144)
  | .gateForce g _ => decide (g < 6144)
  | .forceApply g => decide (g < 6144)
  | .forceRelease g => decide (g < 6144)
  | .refreshRequest g => decide (g < 6144)
  | .faultInput g _ => decide (g < 6144)
  | .fltClr g _ => decide (g < 6144)
  | .overVoltage g => decide (g < 6144)
  | .firePulseEnd g _ => decide (g < 6144)
  | .bypassConfirm g => decide (g < 6144)
  | .bypassConfirmTimeout g => decide (g < 6144)
  | .mainsWindowEnd c => c.wf
  | .mainsTrackTimeout => true
  | .convTrig c _ => c.wf
  | .scanEnd c n => c.wf && decide (n < 16)
  | .convCfgWrite p n _ => p.wf && decide (n < 16)
  | .convMainsSw c p _ => c.wf && p.wf
  | .streamRestore n => decide (n < 16)
  | .streamEnable p n kind _ => p.wf && decide (n < 16) && decide (kind < 4)
  | .recArm p => p.wf
  | .recForce p => p.wf
  | .recStop p => p.wf
  | .recorderRow => true
  | .autoTrigger => true
  | .holdoffEnd e => decide (e < 8)
  | .segFree k _ => decide (k < 2)
  | .engineLevelWrite e which _ => decide (e < 8) && decide (which < 3)
  | .sramRead p _ _ _ _ _ _ => p.wf
  | .sramWrite p _ _ _ _ _ _ => p.wf
  | .writeBack _ => true
  | .memRetire p _ => p.wf
  | .bistRegionStart => true
  | .bistRegionEnd _ _ _ => true
  | .bistStop => true
  | .memPwrWrite p _ => p.wf
  | .dmaStart p n => p.wf && decide (n < 32)
  | .dmaFetch n => decide (n < 32)
  | .dmaComplete n _ => decide (n < 32)
  | .dmaBusError _ _ _ _ => true
  | .dmaDrained _ => true
  | .dmaClear p => p.wf
  | .dmaResume p n => p.wf && decide (n < 32)
  | .dmaAbort n _ _ => decide (n < 32)
  | .dmaDescWrite p n _ => p.wf && decide (n < 32)
  | .faultRaise _ => true
  | .reactionTimeout k => decide (k < 3)
  | .faultAck p k => p.wf && decide (k < 3)
  | .quietExpire => true
  | .fltSw _ => true
  | .aliveToggle => true
  | .skFltClear g _ _ => decide (g < 6144)
  | .partnerFrame _ _ _ _ _ => true
  | .relayFrame _ _ => true
  | .copyFrame _ _ _ => true
  | .profileFrame _ _ => true
  | .straitFrame n _ _ => decide (n < 4)
  | .peerAliveStop i => decide (i < 2)
  | .peerAliveResume i => decide (i < 2)
  | .partnerLost _ => true
  | .arbiterLost => true
  | .standbySettled => true
  | .shadowWindowEnd => true
  | .request => true
  | .yield _ _ => true
  | .take _ _ => true
  | .takeoverCycle => true
  | .fence _ => true
  | .witnessTakeover => true
  | .safeInputChange i _ => decide (i < 24)
  | .testPulse k _ _ => decide (k < 8)
  | .safetyCycle _ => true
  | .islandFault _ => true
  | .kDelayExpiry f => decide (f < 4)
  | .contactorFeedbackTimeout k => decide (k < 8)
  | .stopReq => true
  | .kReq _ => true
  | .safeReset _ => true
  | .vddSafeRise => true
  | .safeOpen _ => true
  | .setPw _ => true
  | .accept => true
  | .islandReset => true
  | .safeRead => true
  | .safeClose => true
  | .sessionTimeout => true
  | .safeLockoutEnd => true
  | .servoPeriodStart => true
  | .move => true
  | .speed => true
  | .profileHalt => true
  | .profLimitWrite p k _ => p.wf && decide (k < 4)
  | .profAngle p _ => p.wf
  | .ethFrameReceive p _ _ _ _ => decide (p < 4)
  | .ptpSync p _ _ _ _ _ _ _ => decide (p < 4)
  | .ptpFollowUp p _ _ _ => decide (p < 4)
  | .ptpPdelayReq p _ _ => decide (p < 4)
  | .ptpPdelayResp p _ _ _ => decide (p < 4)
  | .ptpAnnounce p _ => decide (p < 4)
  | .ptpPdelaySend p => decide (p < 4)
  | .ptpMasterSend p _ => decide (p < 4)
  | .announceTimeout p => decide (p < 4)
  | .svFrame p _ _ _ _ _ => decide (p < 4)
  | .svSetTimeout _ => true
  | .svStale i => decide (i < 8)
  | .gooseReceive p _ => decide (p < 4)
  | .gooseTtlExpire i => decide (i < 16)
  | .gooseRepeat u => decide (u < 4)
  | .pcieRequest _ bar _ _ _ => decide (bar < 6)
  | .pcieReset _ => true
  | .pcieLinkLoss => true
  | .msiAck => true
  | .hdbSet _ => true
  | .pdbSet p _ => p.wf
  | .quayAccess _ _ q _ => decide (q < 16777216)
  | .quayDoorbell p _ => p.wf
  | .quayStrobeStuck => true
  | .straitSend p n _ => p.wf && decide (n < 4)
  | .straitSendFail n => decide (n < 4)
  | .rxFullFree n => decide (n < 4)
  | .level c _ _ => c.wf
  | .quit c => c.wf
  | .rd c _ _ _ => c.wf
  | .wr c _ _ _ => c.wf
  | .dump c _ _ => c.wf
  | .traceTap u => decide (u < 16)
  | .traceSched _ => true
  | .chart => true
  | .chartSec _ _ => true
  | .cellRd _ _ _ => true
  | .cellWr _ _ _ => true
  | .cellLog _ _ => true
  | .cellReset _ => true
  | .keyProg _ _ => true
  | .keyRevoke _ => true
  | .off => true
  | .monLog g _ => decide (g < 6144)
  | .monOffWrite => true
  | .monIdleTimeout c => c.wf
  | .monLockoutEnd c => c.wf
  | .partialLineTimeout c => c.wf
  | .topBlockall p _ => p.wf
  | .tempUpdate _ => true
  | .peakClr => true
  | .vddSafeLoss => true
  | .vsSafeLoss => true
  | .replyReady g => decide (g < 6144)
  | .ethLinkUp p _ => decide (p < 4)
  | .ethLinkDown p => decide (p < 4)
  | .pcieLinkUp _ _ _ _ => true
  | .timeOutPulseEnd => true
  | .unknownCommand c _ => c.wf

end Sys2Proof
end

