-- ==== Sys2Proof/Decode.lean ====
section
/-! DEFINITION. The command that a word spells. The table of operations and events gives its rows no bits (every row has an
empty list of fields), so no word spells a command: see the assumption log, entry 3. -/

namespace Sys2Proof

/-- The command that the word `w` of `nbits` bits spells: none, for no row of the table has bits. -/
def decodeTableWord (_nbits _w : Nat) : Option Instr := none

end Sys2Proof
end

