-- ==== Sys2Proof/Machine/Codes.lean ====
section
/-! DEFINITION. The checksums, digests and signatures the spec names: CRC-32 of IEEE 802.3 (R40), CRC-8 of flash
orders (R153), SHA-256 (R558, R624, R669), and pure Ed25519 per RFC 8032 with SHA-512 (R54, R616). -/

namespace Sys2Proof.Machine

/-! ### Cyclic redundancy checks -/

def crcBits32 : Nat → Nat → Nat
  | 0, c => c
  | n + 1, c => crcBits32 n (if c % 2 = 1 then (c >>> 1) ^^^ 0xEDB88320 else c >>> 1)

def crc32From : Nat → List Byte → Nat
  | c, [] => c
  | c, b :: t => crc32From (crcBits32 8 (c ^^^ b.toNat)) t

/-- The CRC-32 of R40: polynomial 0x04C1_1DB7 reflected, initial value and final XOR 0xFFFF_FFFF. -/
def crc32 (bs : List Byte) : Nat := crc32From 0xFFFFFFFF bs ^^^ 0xFFFFFFFF

def crcBits8 : Nat → Nat → Nat
  | 0, c => c
  | n + 1, c => crcBits8 n (if c ≥ 128 then ((c * 2) % 256) ^^^ 0x07 else (c * 2) % 256)

/-- The CRC-8 of R153: polynomial 0x07, initial value 0, no reflection, no final XOR. -/
def crc8 (bs : List Byte) : Nat := bs.foldl (fun c b => crcBits8 8 (c ^^^ b.toNat)) 0

/-! ### SHA-2 -/

/-- Big-endian bytes of a number, `n` of them. -/
def beBytes : Nat → Nat → List Byte
  | 0, _ => []
  | n + 1, v => BitVec.ofNat 8 (v / 256 ^ n) :: beBytes n v

/-- The number that bytes spell, most significant first. -/
def beNat (bs : List Byte) : Nat := bs.foldl (fun a b => a * 256 + b.toNat) 0

/-- The number that bytes spell, least significant first. -/
def leNat : List Byte → Nat
  | [] => 0
  | b :: t => b.toNat + 256 * leNat t

/-- Little-endian bytes of a number, `n` of them. -/
def leBytes : Nat → Nat → List Byte
  | 0, _ => []
  | n + 1, v => BitVec.ofNat 8 v :: leBytes n (v / 256)

/-- Cut a list into pieces of `n`; `fuel` bounds the pieces. -/
def pieces (n : Nat) : Nat → List Byte → List (List Byte)
  | 0, _ => []
  | fuel + 1, bs => if bs.isEmpty then [] else bs.take n :: pieces n fuel (bs.drop n)

/-- The padded message of a SHA-2 function with blocks of `blk` bytes and a length field of `lf` bytes. -/
def shaPad (blk lf : Nat) (m : List Byte) : List Byte :=
  let z := (blk - (m.length + 1 + lf) % blk) % blk
  m ++ [0x80] ++ List.replicate z 0 ++ beBytes lf (8 * m.length)

def sha256K : List Nat := [
  0x428a2f98, 0x71374491, 0xb5c0fbcf, 0xe9b5dba5, 0x3956c25b, 0x59f111f1, 0x923f82a4, 0xab1c5ed5,
  0xd807aa98, 0x12835b01, 0x243185be, 0x550c7dc3, 0x72be5d74, 0x80deb1fe, 0x9bdc06a7, 0xc19bf174,
  0xe49b69c1, 0xefbe4786, 0x0fc19dc6, 0x240ca1cc, 0x2de92c6f, 0x4a7484aa, 0x5cb0a9dc, 0x76f988da,
  0x983e5152, 0xa831c66d, 0xb00327c8, 0xbf597fc7, 0xc6e00bf3, 0xd5a79147, 0x06ca6351, 0x14292967,
  0x27b70a85, 0x2e1b2138, 0x4d2c6dfc, 0x53380d13, 0x650a7354, 0x766a0abb, 0x81c2c92e, 0x92722c85] ++ [
  0xa2bfe8a1, 0xa81a664b, 0xc24b8b70, 0xc76c51a3, 0xd192e819, 0xd6990624, 0xf40e3585, 0x106aa070,
  0x19a4c116, 0x1e376c08, 0x2748774c, 0x34b0bcb5, 0x391c0cb3, 0x4ed8aa4a, 0x5b9cca4f, 0x682e6ff3,
  0x748f82ee, 0x78a5636f, 0x84c87814, 0x8cc70208, 0x90befffa, 0xa4506ceb, 0xbef9a3f7, 0xc67178f2]

def sha512K : List Nat := [
  0x428a2f98d728ae22, 0x7137449123ef65cd, 0xb5c0fbcfec4d3b2f, 0xe9b5dba58189dbbc, 0x3956c25bf348b538,
  0x59f111f1b605d019, 0x923f82a4af194f9b, 0xab1c5ed5da6d8118, 0xd807aa98a3030242, 0x12835b0145706fbe,
  0x243185be4ee4b28c, 0x550c7dc3d5ffb4e2, 0x72be5d74f27b896f, 0x80deb1fe3b1696b1, 0x9bdc06a725c71235,
  0xc19bf174cf692694, 0xe49b69c19ef14ad2, 0xefbe4786384f25e3, 0x0fc19dc68b8cd5b5, 0x240ca1cc77ac9c65,
  0x2de92c6f592b0275, 0x4a7484aa6ea6e483, 0x5cb0a9dcbd41fbd4, 0x76f988da831153b5, 0x983e5152ee66dfab,
  0xa831c66d2db43210, 0xb00327c898fb213f, 0xbf597fc7beef0ee4, 0xc6e00bf33da88fc2, 0xd5a79147930aa725] ++ [
  0x06ca6351e003826f, 0x142929670a0e6e70, 0x27b70a8546d22ffc, 0x2e1b21385c26c926, 0x4d2c6dfc5ac42aed,
  0x53380d139d95b3df, 0x650a73548baf63de, 0x766a0abb3c77b2a8, 0x81c2c92e47edaee6, 0x92722c851482353b,
  0xa2bfe8a14cf10364, 0xa81a664bbc423001, 0xc24b8b70d0f89791, 0xc76c51a30654be30, 0xd192e819d6ef5218,
  0xd69906245565a910, 0xf40e35855771202a, 0x106aa07032bbd1b8, 0x19a4c116b8d2d0c8, 0x1e376c085141ab53,
  0x2748774cdf8eeb99, 0x34b0bcb5e19b48a8, 0x391c0cb3c5c95a63, 0x4ed8aa4ae3418acb, 0x5b9cca4f7763e373] ++ [
  0x682e6ff3d6b2b8a3, 0x748f82ee5defb2fc, 0x78a5636f43172f60, 0x84c87814a1f0ab72, 0x8cc702081a6439ec,
  0x90befffa23631e28, 0xa4506cebde82bde9, 0xbef9a3f7b2c67915, 0xc67178f2e372532b, 0xca273eceea26619c,
  0xd186b8c721c0c207, 0xeada7dd6cde0eb1e, 0xf57d4f7fee6ed178, 0x06f067aa72176fba, 0x0a637dc5a2c898a6,
  0x113f9804bef90dae, 0x1b710b35131c471b, 0x28db77f523047d84, 0x32caab7b40c72493, 0x3c9ebe0a15c9bebc,
  0x431d67c49c100d4c, 0x4cc5d4becb3e42b6, 0x597f299cfc657e2a, 0x5fcb6fab3ad6faec, 0x6c44198c4a475817]

/-- Rotate right within `w` bits. -/
def rotr (w n x : Nat) : Nat := (x >>> n) ||| ((x <<< (w - n)) % 2 ^ w)

/-- The rotation amounts of one SHA-2 function: (Σ0, Σ1, σ0, σ1), the last of each σ a shift. -/
structure ShaRot where
  w : Nat
  S0 : Nat × Nat × Nat
  S1 : Nat × Nat × Nat
  s0 : Nat × Nat × Nat
  s1 : Nat × Nat × Nat

def rot256 : ShaRot := ⟨32, (2, 13, 22), (6, 11, 25), (7, 18, 3), (17, 19, 10)⟩
def rot512 : ShaRot := ⟨64, (28, 34, 39), (14, 18, 41), (1, 8, 7), (19, 61, 6)⟩

def shaBig (w : Nat) (r : Nat × Nat × Nat) (x : Nat) : Nat := rotr w r.1 x ^^^ rotr w r.2.1 x ^^^ rotr w r.2.2 x
def shaSmall (w : Nat) (r : Nat × Nat × Nat) (x : Nat) : Nat := rotr w r.1 x ^^^ rotr w r.2.1 x ^^^ (x >>> r.2.2)

/-- The rounds over the round constants; `win` holds the next 16 schedule words. -/
def shaRounds (r : ShaRot) : List Nat → List Nat → List Nat → List Nat
  | [], _, st => st
  | k :: ks, win, st =>
    match win, st with
    | w0 :: wt, [a, b, c, d, e, f, g, h] =>
      let m := 2 ^ r.w
      let w16 := (shaSmall r.w r.s1 (wt.getD 13 0) + wt.getD 8 0 + shaSmall r.w r.s0 (wt.getD 0 0) + w0) % m
      let ch := (e &&& f) ^^^ ((m - 1 - e) &&& g)
      let t1 := (h + shaBig r.w r.S1 e + ch + k + w0) % m
      let maj := (a &&& b) ^^^ (a &&& c) ^^^ (b &&& c)
      let t2 := (shaBig r.w r.S0 a + maj) % m
      shaRounds r ks (wt ++ [w16]) [(t1 + t2) % m, a, b, c, (d + t1) % m, e, f, g]
    | _, _ => st

def shaRun (r : ShaRot) (ks : List Nat) (wb blk : Nat) (init : List Nat) (m : List Byte) : List Nat :=
  let p := shaPad blk (2 * wb) m
  (pieces blk (p.length / blk + 1) p).foldl (fun st b =>
    let ws := (pieces wb 17 b).map beNat
    (st.zip (shaRounds r ks ws st)).map (fun x => (x.1 + x.2) % 2 ^ r.w)) init

/-- SHA-256 of a byte string. -/
def sha256 (m : List Byte) : List Byte :=
  (shaRun rot256 sha256K 4 64 [0x6a09e667, 0xbb67ae85, 0x3c6ef372, 0xa54ff53a, 0x510e527f, 0x9b05688c, 0x1f83d9ab, 0x5be0cd19] m).flatMap (beBytes 4)

/-- SHA-512 of a byte string. -/
def sha512 (m : List Byte) : List Byte :=
  (shaRun rot512 sha512K 8 128 [0x6a09e667f3bcc908, 0xbb67ae8584caa73b, 0x3c6ef372fe94f82b, 0xa54ff53a5f1d36f1,
    0x510e527fade682d1, 0x9b05688c2b3e6c1f, 0x1f83d9abfb41bd6b, 0x5be0cd19137e2179] m).flatMap (beBytes 8)

/-! ### PBKDF2 with HMAC-SHA-256 (RFC 8018, R558) -/

def xorBytes : List Byte → List Byte → List Byte
  | a :: s, b :: t => (a ^^^ b) :: xorBytes s t
  | _, _ => []

/-- HMAC-SHA-256. -/
def hmac256 (key msg : List Byte) : List Byte :=
  let k := if key.length > 64 then sha256 key else key
  let k := k ++ List.replicate (64 - k.length) 0
  sha256 (k.map (· ^^^ 0x5C) ++ sha256 (k.map (· ^^^ 0x36) ++ msg))

def pbkdf2Loop (pw : List Byte) : Nat → List Byte → List Byte → List Byte
  | 0, _, acc => acc
  | n + 1, u, acc => let v := hmac256 pw u; pbkdf2Loop pw n v (xorBytes acc v)

/-- The first 32 bytes of PBKDF2 over `iter` iterations. -/
def pbkdf2 (pw salt : List Byte) (iter : Nat) : List Byte :=
  let u := hmac256 pw (salt ++ [0, 0, 0, 1])
  pbkdf2Loop pw (iter - 1) u u

/-! ### Ed25519 (RFC 8032) -/

/-- The field prime 2^255 − 19. -/
def edP : Nat := 2 ^ 255 - 19
/-- The group order. -/
def edL : Nat := 2 ^ 252 + 27742317777372353535851937790883648493

def powModBits (m : Nat) : Nat → Nat → Nat → Nat → Nat
  | 0, _, _, acc => acc
  | n + 1, b, e, acc => powModBits m n (b * b % m) (e / 2) (if e % 2 = 1 then acc * b % m else acc)

/-- `b ^ e mod m` for an exponent of at most 256 bits. -/
def powMod (m b e : Nat) : Nat := powModBits m 256 (b % m) e 1

def edInv (x : Nat) : Nat := powMod edP x (edP - 2)
def edD : Nat := (edP - 121665) * edInv 121666 % edP

/-- A point in extended coordinates (X, Y, Z, T). -/
structure EdPt where
  x : Nat
  y : Nat
  z : Nat
  t : Nat
deriving DecidableEq, Repr

def edAdd (a b : EdPt) : EdPt :=
  let A := (a.y + edP - a.x) * (b.y + edP - b.x) % edP
  let B := (a.y + a.x) * (b.y + b.x) % edP
  let C := 2 * a.t * b.t % edP * edD % edP
  let D := 2 * a.z * b.z % edP
  let E := (B + edP - A) % edP
  let F := (D + edP - C) % edP
  let G := (D + C) % edP
  let H := (B + A) % edP
  ⟨E * F % edP, G * H % edP, F * G % edP, E * H % edP⟩

def edZero : EdPt := ⟨0, 1, 1, 0⟩

def edMulBits : Nat → Nat → EdPt → EdPt → EdPt
  | 0, _, _, acc => acc
  | n + 1, k, p, acc => edMulBits n (k / 2) (edAdd p p) (if k % 2 = 1 then edAdd acc p else acc)

/-- `[k] p` for a scalar of at most 256 bits. -/
def edMul (k : Nat) (p : EdPt) : EdPt := edMulBits 256 k p edZero

def edEq (a b : EdPt) : Bool :=
  (a.x * b.z % edP == b.x * a.z % edP) && (a.y * b.z % edP == b.y * a.z % edP)

/-- Decode a point (RFC 8032, 5.1.3). -/
def edDecode (bs : List Byte) : Option EdPt :=
  let n := leNat bs
  let y := n % 2 ^ 255
  let sign := n / 2 ^ 255
  if bs.length ≠ 32 ∨ y ≥ edP then none
  else
    let u := (y * y + edP - 1) % edP
    let v := (edD * (y * y % edP) + 1) % edP
    let v3 := v * v % edP * v % edP
    let uv7 := u * (v3 * v3 % edP * v % edP) % edP
    let x := u * v3 % edP * powMod edP uv7 ((edP - 5) / 8) % edP
    let vx2 := v * (x * x % edP) % edP
    let x' : Option Nat :=
      if vx2 = u then some x
      else if vx2 = (edP - u) % edP then some (x * powMod edP 2 ((edP - 1) / 4) % edP) else none
    match x' with
    | none => none
    | some x =>
      if x = 0 ∧ sign = 1 then none
      else
        let x := if x % 2 = sign % 2 then x else (edP - x) % edP
        some ⟨x, y, 1, x * y % edP⟩

/-- The base point: y = 4/5, x even. -/
def edBase : EdPt := (edDecode (leBytes 32 (4 * edInv 5 % edP))).getD edZero

/-- Pure Ed25519 verification: [8][S]B = [8]R + [8][k]A with k = SHA-512(R ‖ A ‖ M). -/
def ed25519 (key msg sig : List Byte) : Bool :=
  let rB := sig.take 32
  let S := leNat ((sig.drop 32).take 32)
  if sig.length ≠ 64 ∨ S ≥ edL then false
  else match edDecode key, edDecode rB with
    | some A, some R =>
      let k := leNat (sha512 (rB ++ key ++ msg)) % edL
      edEq (edMul 8 (edMul S edBase)) (edAdd (edMul 8 R) (edMul 8 (edMul k A)))
    | _, _ => false

end Sys2Proof.Machine
end

