-- ==== Sys2Proof/Machine/RegCore.lean ====
section
/-! DEFINITION. Sparse tables in one canonical form, bit fields of register words (R6), and the shape of a
register table's row (R13, R14, R654). -/

namespace Sys2Proof.Machine

/-! ### Sparse tables: sorted by key, no repeats, no entry equal to what an unlisted key reads as. -/

/-- The value at key `k`: the first listed one, or the value `d k` of an unlisted key. -/
def tget {α : Type} (d : Nat → α) : List (Nat × α) → Nat → α
  | [], k => d k
  | (k', v) :: t, k => if k' = k then v else tget d t k

/-- Insert an entry before the first larger key. -/
def tins {α : Type} (k : Nat) (v : α) : List (Nat × α) → List (Nat × α)
  | [] => [(k, v)]
  | (k', v') :: t => if k < k' then (k, v) :: (k', v') :: t else (k', v') :: tins k v t

/-- Remove every entry of a key. -/
def tdel {α : Type} (k : Nat) : List (Nat × α) → List (Nat × α)
  | [] => []
  | (k', v') :: t => if k' = k then tdel k t else (k', v') :: tdel k t

/-- Write one key; writing what an unlisted key reads as removes the entry. -/
def tset {α : Type} [DecidableEq α] (d : Nat → α) (m : List (Nat × α)) (k : Nat) (v : α) : List (Nat × α) :=
  if v = d k then tdel k m else tins k v (tdel k m)

/-- Every key of the table is above `b`, keys rise strictly, and no entry equals the unlisted value. -/
def twfFrom {α : Type} [DecidableEq α] (d : Nat → α) : Option Nat → List (Nat × α) → Bool
  | _, [] => true
  | b, (k, v) :: t => (match b with | none => true | some b => decide (b < k)) && !(decide (v = d k)) && twfFrom d (some k) t

/-- The canonical form. -/
def twf {α : Type} [DecidableEq α] (d : Nat → α) (m : List (Nat × α)) : Bool := twfFrom d none m

/-! ### Bit fields (R6) -/

/-- The value of the `n`-bit field of `w` whose least significant bit is bit `lo`. -/
def bitsOf (w : Word) (lo n : Nat) : Nat := (w.toNat >>> lo) % 2 ^ n

/-- `w` with that field replaced by the low `n` bits of `v`. -/
def bitsPut (w : Word) (lo n v : Nat) : Word :=
  let mask : Nat := (2 ^ n - 1) <<< lo
  (w &&& ~~~(BitVec.ofNat 32 mask)) ||| (BitVec.ofNat 32 ((v % 2 ^ n) <<< lo))

/-- The two's complement reading of an `n`-bit value. -/
def signed (n v : Nat) : Int := if v % 2 ^ n < 2 ^ (n - 1) then (v % 2 ^ n : Nat) else ((v % 2 ^ n : Nat) : Int) - (2 ^ n : Nat)

/-- The `n`-bit two's complement pattern of `v`. -/
def unsigned (n : Nat) (v : Int) : Nat := (v % ((2 ^ n : Nat) : Int)).toNat

/-- `v` saturated to the range of `n`-bit two's complement. -/
def satInt (n : Nat) (v : Int) : Int :=
  let m : Int := ((2 ^ (n - 1) : Nat) : Int)
  if v < -m then -m else if v > m - 1 then m - 1 else v

/-- A counter of `n` bits that stops at its highest value. -/
def satInc (n v : Nat) : Nat := if v + 1 < 2 ^ n then v + 1 else 2 ^ n - 1

/-- Bit `j` of a natural number. -/
def bitOf (v j : Nat) : Bool := v / 2 ^ j % 2 = 1

/-- 1 for true, 0 for false. -/
def b2n (b : Bool) : Nat := if b then 1 else 0

/-! ### Register rows -/

/-- The access codes of R14. -/
inductive Acc where
  | rw | ro | wo | w1c | w1s | rc | wl
deriving DecidableEq, Repr

/-- A named field: the register's address, the least significant bit, the width. -/
structure Fld where
  addr : Nat
  lo : Nat
  w : Nat
deriving DecidableEq, Repr

/-- One field of a register table's row (R13): bits, access code, reset value. -/
structure FieldDesc where
  lo : Nat
  w : Nat
  acc : Acc
  reset : Nat
deriving DecidableEq, Repr

/-- One register or array of registers: the address of index 0, the strides and counts of its indices, its fields. -/
structure RegDesc where
  base : Nat
  dims : List (Nat × Nat)
  fields : List FieldDesc
deriving DecidableEq, Repr

/-- Whether an offset from index 0 falls on an index of the array. -/
def dimsHit : List (Nat × Nat) → Nat → Bool
  | [], off => off = 0
  | (s, n) :: t, off => decide (off / s < n) && dimsHit t (off % s)

def RegDesc.hit (r : RegDesc) (a : Nat) : Bool := decide (r.base ≤ a) && dimsHit r.dims (a - r.base)

/-- The reset word of a register row: its fields' reset values in their places. -/
def resetWord (fs : List FieldDesc) : Nat := fs.foldl (fun acc f => acc + f.reset * 2 ^ f.lo) 0

end Sys2Proof.Machine
end

