-- ==== Sys2Proof/Machine/RegMapA.lean ====
section
/-! DEFINITION. The Balgal register map, blocks TOP to SND (chapter Balgal register maps and the chapters it names).
One address function and one field constant per register and field of the register tables of the spec, and the
table of every register of a block: its offset, its array strides and counts, its fields with access code and reset value. -/

namespace Sys2Proof.Machine

/-! ### Block TOP at 0x40000000 (R656) -/

def A_TOP_ID : Nat := 0x40000000
def TOP_ID_PART : Fld := ⟨A_TOP_ID, 0, 16⟩
def TOP_ID_MAJOR : Fld := ⟨A_TOP_ID, 16, 4⟩
def TOP_ID_MINOR : Fld := ⟨A_TOP_ID, 20, 4⟩
def A_TOP_CTRL : Nat := 0x40000004
def TOP_CTRL_LOCK : Fld := ⟨A_TOP_CTRL, 31, 1⟩
def A_TOP_STAT : Nat := 0x40000008
def TOP_STAT_ROLE : Fld := ⟨A_TOP_STAT, 0, 2⟩
def TOP_STAT_SIDE : Fld := ⟨A_TOP_STAT, 2, 1⟩
def TOP_STAT_CONVERTER : Fld := ⟨A_TOP_STAT, 3, 3⟩
def TOP_STAT_REDUNDANT : Fld := ⟨A_TOP_STAT, 6, 1⟩
def TOP_STAT_PHASE : Fld := ⟨A_TOP_STAT, 8, 4⟩
def TOP_STAT_FSTATE : Fld := ⟨A_TOP_STAT, 12, 2⟩
def TOP_STAT_COMMITTING : Fld := ⟨A_TOP_STAT, 14, 1⟩
def TOP_STAT_SAFE_RUN : Fld := ⟨A_TOP_STAT, 15, 1⟩
def A_TOP_BLOCKALL : Nat := 0x4000000c
def TOP_BLOCKALL_GO : Fld := ⟨A_TOP_BLOCKALL, 0, 1⟩
def TOP_BLOCKALL_KEY : Fld := ⟨A_TOP_BLOCKALL, 16, 16⟩
def A_TOP_IRQ_SUM : Nat := 0x40000010
def TOP_IRQ_SUM_BLK : Fld := ⟨A_TOP_IRQ_SUM, 0, 24⟩
def TOP_IRQ_SUM_REC0 : Fld := ⟨A_TOP_IRQ_SUM, 24, 1⟩
def TOP_IRQ_SUM_REC1 : Fld := ⟨A_TOP_IRQ_SUM, 25, 1⟩
def TOP_IRQ_SUM_REC2 : Fld := ⟨A_TOP_IRQ_SUM, 26, 1⟩
def TOP_IRQ_SUM_RECOVERED : Fld := ⟨A_TOP_IRQ_SUM, 27, 1⟩
def TOP_IRQ_SUM_FAILED : Fld := ⟨A_TOP_IRQ_SUM, 28, 1⟩
def A_TOP_IRQ_EN : Nat := 0x40000014
def TOP_IRQ_EN_EN_A : Fld := ⟨A_TOP_IRQ_EN, 0, 3⟩
def TOP_IRQ_EN_EN_B : Fld := ⟨A_TOP_IRQ_EN, 4, 1⟩
def TOP_IRQ_EN_EN_C : Fld := ⟨A_TOP_IRQ_EN, 6, 22⟩
def A_TOP_TEMP : Nat := 0x40000018
def TOP_TEMP_TEMP : Fld := ⟨A_TOP_TEMP, 0, 12⟩
def TOP_TEMP_HOT : Fld := ⟨A_TOP_TEMP, 12, 1⟩
def TOP_TEMP_CRIT : Fld := ⟨A_TOP_TEMP, 13, 1⟩
def TOP_TEMP_HOT_EV : Fld := ⟨A_TOP_TEMP, 14, 1⟩
def TOP_TEMP_CRIT_EV : Fld := ⟨A_TOP_TEMP, 15, 1⟩
def TOP_TEMP_PEAK : Fld := ⟨A_TOP_TEMP, 16, 12⟩
def TOP_TEMP_PEAK_CLR : Fld := ⟨A_TOP_TEMP, 31, 1⟩
def A_TOP_RST_CAUSE : Nat := 0x40000020
def TOP_RST_CAUSE_POR : Fld := ⟨A_TOP_RST_CAUSE, 0, 1⟩
def TOP_RST_CAUSE_PIN : Fld := ⟨A_TOP_RST_CAUSE, 1, 1⟩
def TOP_RST_CAUSE_SOFT : Fld := ⟨A_TOP_RST_CAUSE, 2, 1⟩
def TOP_RST_CAUSE_RAIL : Fld := ⟨A_TOP_RST_CAUSE, 3, 1⟩
def TOP_RST_CAUSE_STUCK : Fld := ⟨A_TOP_RST_CAUSE, 4, 1⟩
def A_TOP_RESET : Nat := 0x40000024
def TOP_RESET_GO : Fld := ⟨A_TOP_RESET, 0, 1⟩
def TOP_RESET_KEY : Fld := ⟨A_TOP_RESET, 16, 16⟩
def A_TOP_RST_CNT : Nat := 0x40000028
def TOP_RST_CNT : Fld := ⟨A_TOP_RST_CNT, 0, 16⟩
def A_TOP_SCRATCH (i : Nat) : Nat := 0x40000040 + 0x4 * i
def TOP_SCRATCH (i : Nat) : Fld := ⟨A_TOP_SCRATCH i, 0, 32⟩

/-- Every register of block TOP: address of index 0, array strides and counts, fields (R656). -/
def regsTOP_0 : List RegDesc := [
  ⟨0x40000000, [], [⟨0, 16, .ro, 0x6144⟩, ⟨16, 4, .ro, 0x1⟩, ⟨20, 4, .ro, 0x0⟩]⟩,
  ⟨0x40000004, [], [⟨31, 1, .w1s, 0x0⟩]⟩,
  ⟨0x40000008, [], [⟨0, 2, .ro, 0x0⟩, ⟨2, 1, .ro, 0x0⟩, ⟨3, 3, .ro, 0x0⟩, ⟨6, 1, .ro, 0x0⟩, ⟨8, 4, .ro, 0x0⟩, ⟨12, 2, .ro, 0x0⟩, ⟨14, 1, .ro, 0x0⟩, ⟨15, 1, .ro, 0x0⟩]⟩,
  ⟨0x4000000c, [], [⟨0, 1, .wo, 0x0⟩, ⟨16, 16, .wo, 0x0⟩]⟩,
  ⟨0x40000010, [], [⟨0, 24, .ro, 0x0⟩, ⟨24, 1, .ro, 0x0⟩, ⟨25, 1, .ro, 0x0⟩, ⟨26, 1, .ro, 0x0⟩, ⟨27, 1, .ro, 0x0⟩, ⟨28, 1, .ro, 0x0⟩]⟩,
  ⟨0x40000014, [], [⟨0, 3, .rw, 0x0⟩, ⟨4, 1, .rw, 0x0⟩, ⟨6, 22, .rw, 0x0⟩]⟩,
  ⟨0x40000018, [], [⟨0, 12, .ro, 0x0⟩, ⟨12, 1, .ro, 0x0⟩, ⟨13, 1, .ro, 0x0⟩, ⟨14, 1, .w1c, 0x0⟩, ⟨15, 1, .w1c, 0x0⟩, ⟨16, 12, .ro, 0x0⟩, ⟨31, 1, .wo, 0x0⟩]⟩,
  ⟨0x40000020, [], [⟨0, 1, .ro, 0x1⟩, ⟨1, 1, .ro, 0x0⟩, ⟨2, 1, .ro, 0x0⟩, ⟨3, 1, .ro, 0x0⟩, ⟨4, 1, .ro, 0x0⟩]⟩,
  ⟨0x40000024, [], [⟨0, 1, .wo, 0x0⟩, ⟨16, 16, .wo, 0x0⟩]⟩,
  ⟨0x40000028, [], [⟨0, 16, .ro, 0x0⟩]⟩,
  ⟨0x40000040, [(0x4, 4)], [⟨0, 32, .rw, 0x0⟩]⟩]
def regsTOP : List RegDesc := regsTOP_0

/-! ### Block CHART at 0x40010000 (R82) -/

def A_CHART_CTRL : Nat := 0x40010000
def CHART_CTRL_LOAD : Fld := ⟨A_CHART_CTRL, 0, 1⟩
def CHART_CTRL_HOT_LOAD : Fld := ⟨A_CHART_CTRL, 1, 1⟩
def CHART_CTRL_HOT_ABORT : Fld := ⟨A_CHART_CTRL, 2, 1⟩
def CHART_CTRL_LOCK : Fld := ⟨A_CHART_CTRL, 31, 1⟩
def A_CHART_STATUS : Nat := 0x40010004
def CHART_STATUS_PHASE : Fld := ⟨A_CHART_STATUS, 0, 4⟩
def CHART_STATUS_CAUSE : Fld := ⟨A_CHART_STATUS, 4, 8⟩
def CHART_STATUS_SLOT : Fld := ⟨A_CHART_STATUS, 12, 1⟩
def CHART_STATUS_HOT_PEND : Fld := ⟨A_CHART_STATUS, 13, 1⟩
def CHART_STATUS_HOT_DIFFERS : Fld := ⟨A_CHART_STATUS, 14, 1⟩
def CHART_STATUS_SAFETY_OK : Fld := ⟨A_CHART_STATUS, 15, 1⟩
def CHART_STATUS_FAIL_INDEX : Fld := ⟨A_CHART_STATUS, 16, 8⟩
def A_CHART_FAIL_INFO : Nat := 0x40010008
def CHART_FAIL_INFO_SLOT0_CAUSE : Fld := ⟨A_CHART_FAIL_INFO, 0, 8⟩
def CHART_FAIL_INFO_SLOT0_INDEX : Fld := ⟨A_CHART_FAIL_INFO, 8, 8⟩
def A_CHART_ID : Nat := 0x4001000c
def CHART_ID : Fld := ⟨A_CHART_ID, 0, 32⟩
def A_CHART_BUILD_DIGEST : Nat := 0x40010010
def CHART_BUILD_DIGEST : Fld := ⟨A_CHART_BUILD_DIGEST, 0, 32⟩
def A_CHART_HOT_DIGEST : Nat := 0x40010014
def CHART_HOT_DIGEST : Fld := ⟨A_CHART_HOT_DIGEST, 0, 32⟩
def A_CHART_MATE_DIGEST : Nat := 0x40010018
def CHART_MATE_DIGEST : Fld := ⟨A_CHART_MATE_DIGEST, 0, 32⟩
def A_CHART_STAGE_BASE : Nat := 0x4001001c
def CHART_STAGE_BASE_BASE : Fld := ⟨A_CHART_STAGE_BASE, 4, 22⟩
def A_CHART_KEY_STATE : Nat := 0x40010020
def CHART_KEY_STATE_PROG : Fld := ⟨A_CHART_KEY_STATE, 0, 4⟩
def CHART_KEY_STATE_REVOKED : Fld := ⟨A_CHART_KEY_STATE, 4, 4⟩
def A_CHART_PART_PEND : Nat := 0x40010024
def CHART_PART_PEND : Fld := ⟨A_CHART_PART_PEND, 0, 32⟩
def A_CHART_PART_REJ : Nat := 0x40010028
def CHART_PART_REJ : Fld := ⟨A_CHART_PART_REJ, 0, 32⟩
def A_CHART_LOAD_TIME : Nat := 0x4001002c
def CHART_LOAD_TIME : Fld := ⟨A_CHART_LOAD_TIME, 0, 32⟩

/-- Every register of block CHART: address of index 0, array strides and counts, fields (R82). -/
def regsCHART_0 : List RegDesc := [
  ⟨0x40010000, [], [⟨0, 1, .wo, 0x0⟩, ⟨1, 1, .wo, 0x0⟩, ⟨2, 1, .wo, 0x0⟩, ⟨31, 1, .w1s, 0x0⟩]⟩,
  ⟨0x40010004, [], [⟨0, 4, .ro, 0x0⟩, ⟨4, 8, .ro, 0x0⟩, ⟨12, 1, .ro, 0x0⟩, ⟨13, 1, .ro, 0x0⟩, ⟨14, 1, .ro, 0x0⟩, ⟨15, 1, .ro, 0x0⟩, ⟨16, 8, .ro, 0xff⟩]⟩,
  ⟨0x40010008, [], [⟨0, 8, .ro, 0x0⟩, ⟨8, 8, .ro, 0xff⟩]⟩,
  ⟨0x4001000c, [], [⟨0, 32, .ro, 0x0⟩]⟩,
  ⟨0x40010010, [], [⟨0, 32, .ro, 0x0⟩]⟩,
  ⟨0x40010014, [], [⟨0, 32, .ro, 0x0⟩]⟩,
  ⟨0x40010018, [], [⟨0, 32, .ro, 0x0⟩]⟩,
  ⟨0x4001001c, [], [⟨4, 22, .rw, 0x300000⟩]⟩,
  ⟨0x40010020, [], [⟨0, 4, .ro, 0x0⟩, ⟨4, 4, .ro, 0x0⟩]⟩,
  ⟨0x40010024, [], [⟨0, 32, .ro, 0x0⟩]⟩,
  ⟨0x40010028, [], [⟨0, 32, .rc, 0x0⟩]⟩,
  ⟨0x4001002c, [], [⟨0, 32, .ro, 0x0⟩]⟩]
def regsCHART : List RegDesc := regsCHART_0

/-! ### Block LANE0 at 0x40020000 (R115) -/

def A_LANE_CTRL : Nat := 0x40020000
def LANE_CTRL_LOCK : Fld := ⟨A_LANE_CTRL, 31, 1⟩
def A_LANE_REF_STAT : Nat := 0x40020004
def LANE_REF_STAT_REF_OK : Fld := ⟨A_LANE_REF_STAT, 0, 1⟩
def LANE_REF_STAT_DEV : Fld := ⟨A_LANE_REF_STAT, 16, 16⟩
def A_LANE_TIMING : Nat := 0x40020008
def LANE_TIMING_LOCK_TIMEOUT : Fld := ⟨A_LANE_TIMING, 0, 16⟩
def LANE_TIMING_ERR_INTERVAL : Fld := ⟨A_LANE_TIMING, 16, 8⟩
def A_LANE_LOCKED (i : Nat) : Nat := 0x40020010 + 0x4 * i
def LANE_LOCKED (i : Nat) : Fld := ⟨A_LANE_LOCKED i, 0, 32⟩
def A_LANE_LOST (i : Nat) : Nat := 0x40020020 + 0x4 * i
def LANE_LOST (i : Nat) : Fld := ⟨A_LANE_LOST i, 0, 32⟩
def A_LANE_DEGR (i : Nat) : Nat := 0x40020030 + 0x4 * i
def LANE_DEGR (i : Nat) : Fld := ⟨A_LANE_DEGR i, 0, 32⟩
def A_LANE_CFG (i : Nat) : Nat := 0x40021000 + 0x100 * i
def LANE_CFG_MODE (i : Nat) : Fld := ⟨A_LANE_CFG i, 0, 2⟩
def LANE_CFG_TX_INV (i : Nat) : Fld := ⟨A_LANE_CFG i, 2, 1⟩
def LANE_CFG_RX_INV (i : Nat) : Fld := ⟨A_LANE_CFG i, 3, 1⟩
def LANE_CFG_LOSS_SCORE (i : Nat) : Fld := ⟨A_LANE_CFG i, 4, 4⟩
def LANE_CFG_ERR_LIMIT (i : Nat) : Fld := ⟨A_LANE_CFG i, 16, 16⟩
def A_LANE_TXEQ (i : Nat) : Nat := 0x40021004 + 0x100 * i
def LANE_TXEQ_C_PRE (i : Nat) : Fld := ⟨A_LANE_TXEQ i, 0, 4⟩
def LANE_TXEQ_C_MAIN (i : Nat) : Fld := ⟨A_LANE_TXEQ i, 8, 6⟩
def LANE_TXEQ_C_POST (i : Nat) : Fld := ⟨A_LANE_TXEQ i, 16, 5⟩
def A_LANE_STAT (i : Nat) : Nat := 0x40021008 + 0x100 * i
def LANE_STAT_STATE (i : Nat) : Fld := ⟨A_LANE_STAT i, 0, 3⟩
def LANE_STAT_SIG_DET (i : Nat) : Fld := ⟨A_LANE_STAT i, 3, 1⟩
def LANE_STAT_CDR_LOCK (i : Nat) : Fld := ⟨A_LANE_STAT i, 4, 1⟩
def LANE_STAT_SCORE (i : Nat) : Fld := ⟨A_LANE_STAT i, 5, 4⟩
def LANE_STAT_TIMEOUT (i : Nat) : Fld := ⟨A_LANE_STAT i, 9, 1⟩

/-- Every register of block LANE0: address of index 0, array strides and counts, fields (R115). -/
def regsLANE0_0 : List RegDesc := [
  ⟨0x40020000, [], [⟨31, 1, .w1s, 0x0⟩]⟩,
  ⟨0x40020004, [], [⟨0, 1, .ro, 0x0⟩, ⟨16, 16, .ro, 0x0⟩]⟩,
  ⟨0x40020008, [], [⟨0, 16, .wl, 0x3e8⟩, ⟨16, 8, .wl, 0x1⟩]⟩,
  ⟨0x40020010, [(0x4, 4)], [⟨0, 32, .ro, 0x0⟩]⟩,
  ⟨0x40020020, [(0x4, 4)], [⟨0, 32, .w1c, 0x0⟩]⟩,
  ⟨0x40020030, [(0x4, 4)], [⟨0, 32, .w1c, 0x0⟩]⟩,
  ⟨0x40021000, [(0x100, 112)], [⟨0, 2, .wl, 0x0⟩, ⟨2, 1, .wl, 0x0⟩, ⟨3, 1, .wl, 0x0⟩, ⟨4, 4, .wl, 0x4⟩, ⟨16, 16, .wl, 0x10⟩]⟩,
  ⟨0x40021004, [(0x100, 112)], [⟨0, 4, .wl, 0x0⟩, ⟨8, 6, .wl, 0x32⟩, ⟨16, 5, .wl, 0x6⟩]⟩,
  ⟨0x40021008, [(0x100, 112)], [⟨0, 3, .ro, 0x0⟩, ⟨3, 1, .ro, 0x0⟩, ⟨4, 1, .ro, 0x0⟩, ⟨5, 4, .ro, 0x0⟩, ⟨9, 1, .ro, 0x0⟩]⟩]
def regsLANE0 : List RegDesc := regsLANE0_0

/-! ### Block LANE1 at 0x40030000 (R115) -/

def A_LANE_SYM_ERR (i : Nat) : Nat := 0x40031000 + 0x100 * i
def LANE_SYM_ERR (i : Nat) : Fld := ⟨A_LANE_SYM_ERR i, 0, 32⟩
def A_LANE_PROP_ERR (i : Nat) : Nat := 0x40031004 + 0x100 * i
def LANE_PROP_ERR (i : Nat) : Fld := ⟨A_LANE_PROP_ERR i, 0, 32⟩
def A_LANE_LOSS_CNT (i : Nat) : Nat := 0x40031008 + 0x100 * i
def LANE_LOSS_CNT (i : Nat) : Fld := ⟨A_LANE_LOSS_CNT i, 0, 32⟩
def A_LANE_SLIP_CNT (i : Nat) : Nat := 0x4003100c + 0x100 * i
def LANE_SLIP_CNT (i : Nat) : Fld := ⟨A_LANE_SLIP_CNT i, 0, 32⟩
def A_LANE_EYE_CTRL (i : Nat) : Nat := 0x40031010 + 0x100 * i
def LANE_EYE_CTRL_H_OFF (i : Nat) : Fld := ⟨A_LANE_EYE_CTRL i, 0, 7⟩
def LANE_EYE_CTRL_V_OFF (i : Nat) : Fld := ⟨A_LANE_EYE_CTRL i, 8, 7⟩
def LANE_EYE_CTRL_DWELL (i : Nat) : Fld := ⟨A_LANE_EYE_CTRL i, 16, 4⟩
def LANE_EYE_CTRL_START (i : Nat) : Fld := ⟨A_LANE_EYE_CTRL i, 31, 1⟩
def A_LANE_EYE_STAT (i : Nat) : Nat := 0x40031014 + 0x100 * i
def LANE_EYE_STAT_BUSY (i : Nat) : Fld := ⟨A_LANE_EYE_STAT i, 0, 1⟩
def LANE_EYE_STAT_DONE (i : Nat) : Fld := ⟨A_LANE_EYE_STAT i, 1, 1⟩
def LANE_EYE_STAT_ABORT (i : Nat) : Fld := ⟨A_LANE_EYE_STAT i, 2, 1⟩
def A_LANE_EYE_ERR (i : Nat) : Nat := 0x40031018 + 0x100 * i
def LANE_EYE_ERR (i : Nat) : Fld := ⟨A_LANE_EYE_ERR i, 0, 32⟩

/-- Every register of block LANE1: address of index 0, array strides and counts, fields (R115). -/
def regsLANE1_0 : List RegDesc := [
  ⟨0x40031000, [(0x100, 112)], [⟨0, 32, .rc, 0x0⟩]⟩,
  ⟨0x40031004, [(0x100, 112)], [⟨0, 32, .rc, 0x0⟩]⟩,
  ⟨0x40031008, [(0x100, 112)], [⟨0, 32, .rc, 0x0⟩]⟩,
  ⟨0x4003100c, [(0x100, 112)], [⟨0, 32, .rc, 0x0⟩]⟩,
  ⟨0x40031010, [(0x100, 112)], [⟨0, 7, .rw, 0x0⟩, ⟨8, 7, .rw, 0x0⟩, ⟨16, 4, .rw, 0x0⟩, ⟨31, 1, .wo, 0x0⟩]⟩,
  ⟨0x40031014, [(0x100, 112)], [⟨0, 1, .ro, 0x0⟩, ⟨1, 1, .w1c, 0x0⟩, ⟨2, 1, .w1c, 0x0⟩]⟩,
  ⟨0x40031018, [(0x100, 112)], [⟨0, 32, .ro, 0x0⟩]⟩]
def regsLANE1 : List RegDesc := regsLANE1_0

/-! ### Block CW0 at 0x40040000 (R164,R165,R659) -/

def A_CW_CTRL : Nat := 0x40040000
def CW_CTRL_LOCK : Fld := ⟨A_CW_CTRL, 31, 1⟩
def A_CW_FR_BASE : Nat := 0x40040004
def CW_FR_BASE_BASE : Fld := ⟨A_CW_FR_BASE, 6, 26⟩
def A_CW_FR_SIZE : Nat := 0x40040008
def CW_FR_SIZE : Fld := ⟨A_CW_FR_SIZE, 0, 13⟩
def A_CW_FR_HEAD : Nat := 0x4004000c
def CW_FR_HEAD : Fld := ⟨A_CW_FR_HEAD, 0, 12⟩
def A_CW_FR_TAIL : Nat := 0x40040010
def CW_FR_TAIL : Fld := ⟨A_CW_FR_TAIL, 0, 12⟩
def A_CW_FR_STAT : Nat := 0x40040014
def CW_FR_STAT_BUSY : Fld := ⟨A_CW_FR_STAT, 0, 1⟩
def CW_FR_STAT_FAILED : Fld := ⟨A_CW_FR_STAT, 1, 1⟩
def CW_FR_STAT_DONE_CNT : Fld := ⟨A_CW_FR_STAT, 16, 16⟩
def A_CW_UP (i : Nat) : Nat := 0x40040020 + 0x4 * i
def CW_UP (i : Nat) : Fld := ⟨A_CW_UP i, 0, 32⟩
def A_CW_CUT (i : Nat) : Nat := 0x40040030 + 0x4 * i
def CW_CUT (i : Nat) : Fld := ⟨A_CW_CUT i, 0, 32⟩
def A_CW_CUT_EV (i : Nat) : Nat := 0x40040040 + 0x4 * i
def CW_CUT_EV (i : Nat) : Fld := ⟨A_CW_CUT_EV i, 0, 32⟩
def A_CW_CMD (i : Nat) : Nat := 0x40041000 + 0x100 * i
def CW_CMD_MEASURE (i : Nat) : Fld := ⟨A_CW_CMD i, 0, 1⟩
def A_CW_STAT (i : Nat) : Nat := 0x40041004 + 0x100 * i
def CW_STAT_STATE (i : Nat) : Fld := ⟨A_CW_STAT i, 0, 2⟩
def CW_STAT_SPLIT (i : Nat) : Fld := ⟨A_CW_STAT i, 2, 1⟩
def CW_STAT_RELAY (i : Nat) : Fld := ⟨A_CW_STAT i, 3, 1⟩
def CW_STAT_BREAK_H (i : Nat) : Fld := ⟨A_CW_STAT i, 4, 7⟩
def CW_STAT_BREAK_T (i : Nat) : Fld := ⟨A_CW_STAT i, 11, 7⟩
def CW_STAT_COUNT_SEEN (i : Nat) : Fld := ⟨A_CW_STAT i, 18, 7⟩
def A_CW_TRING (i : Nat) : Nat := 0x40041008 + 0x100 * i
def CW_TRING (i : Nat) : Fld := ⟨A_CW_TRING i, 0, 20⟩
def A_CW_FERRY_BAD (i : Nat) : Nat := 0x4004100c + 0x100 * i
def CW_FERRY_BAD (i : Nat) : Fld := ⟨A_CW_FERRY_BAD i, 0, 32⟩
def A_CW_FERRY_MISS (i : Nat) : Nat := 0x40041010 + 0x100 * i
def CW_FERRY_MISS (i : Nat) : Fld := ⟨A_CW_FERRY_MISS i, 0, 32⟩
def A_CW_FERRY_MARKED (i : Nat) : Nat := 0x40041014 + 0x100 * i
def CW_FERRY_MARKED (i : Nat) : Fld := ⟨A_CW_FERRY_MARKED i, 0, 32⟩
def A_CW_FLASH_SENT (i : Nat) : Nat := 0x40041018 + 0x100 * i
def CW_FLASH_SENT (i : Nat) : Fld := ⟨A_CW_FLASH_SENT i, 0, 32⟩
def A_CW_FLASH_DEFER (i : Nat) : Nat := 0x4004101c + 0x100 * i
def CW_FLASH_DEFER (i : Nat) : Fld := ⟨A_CW_FLASH_DEFER i, 0, 32⟩
def A_CW_BERTH_MAP (i j : Nat) : Nat := 0x40041040 + 0x100 * i + 0x4 * j
def CW_BERTH_MAP (i j : Nat) : Fld := ⟨A_CW_BERTH_MAP i j, 0, 32⟩

/-- Every register of block CW0: address of index 0, array strides and counts, fields (R164,R165,R659). -/
def regsCW0_0 : List RegDesc := [
  ⟨0x40040000, [], [⟨31, 1, .w1s, 0x0⟩]⟩,
  ⟨0x40040004, [], [⟨6, 26, .rw, 0x0⟩]⟩,
  ⟨0x40040008, [], [⟨0, 13, .rw, 0x0⟩]⟩,
  ⟨0x4004000c, [], [⟨0, 12, .rw, 0x0⟩]⟩,
  ⟨0x40040010, [], [⟨0, 12, .ro, 0x0⟩]⟩,
  ⟨0x40040014, [], [⟨0, 1, .ro, 0x0⟩, ⟨1, 1, .w1c, 0x0⟩, ⟨16, 16, .ro, 0x0⟩]⟩,
  ⟨0x40040020, [(0x4, 3)], [⟨0, 32, .ro, 0x0⟩]⟩,
  ⟨0x40040030, [(0x4, 3)], [⟨0, 32, .ro, 0x0⟩]⟩,
  ⟨0x40040040, [(0x4, 3)], [⟨0, 32, .w1c, 0x0⟩]⟩,
  ⟨0x40041000, [(0x100, 96)], [⟨0, 1, .wo, 0x0⟩]⟩,
  ⟨0x40041004, [(0x100, 96)], [⟨0, 2, .ro, 0x0⟩, ⟨2, 1, .ro, 0x0⟩, ⟨3, 1, .ro, 0x0⟩, ⟨4, 7, .ro, 0x7f⟩, ⟨11, 7, .ro, 0x7f⟩, ⟨18, 7, .ro, 0x0⟩]⟩,
  ⟨0x40041008, [(0x100, 96)], [⟨0, 20, .ro, 0xfffff⟩]⟩,
  ⟨0x4004100c, [(0x100, 96)], [⟨0, 32, .rc, 0x0⟩]⟩,
  ⟨0x40041010, [(0x100, 96)], [⟨0, 32, .rc, 0x0⟩]⟩,
  ⟨0x40041014, [(0x100, 96)], [⟨0, 32, .rc, 0x0⟩]⟩,
  ⟨0x40041018, [(0x100, 96)], [⟨0, 32, .rc, 0x0⟩]⟩,
  ⟨0x4004101c, [(0x100, 96)], [⟨0, 32, .rc, 0x0⟩]⟩,
  ⟨0x40041040, [(0x100, 96), (0x4, 16)], [⟨0, 32, .ro, 0x0⟩]⟩]
def regsCW0 : List RegDesc := regsCW0_0

/-! ### Block CW1 at 0x40050000 (R164,R659) -/

def A_CW_DELAY_H (i : Nat) : Nat := 0x40050000 + 0x4 * i
def CW_DELAY_H (i : Nat) : Fld := ⟨A_CW_DELAY_H i, 0, 20⟩
def A_CW_DELAY_T (i : Nat) : Nat := 0x40058000 + 0x4 * i
def CW_DELAY_T (i : Nat) : Fld := ⟨A_CW_DELAY_T i, 0, 20⟩

/-- Every register of block CW1: address of index 0, array strides and counts, fields (R164,R659). -/
def regsCW1_0 : List RegDesc := [
  ⟨0x40050000, [(0x4, 8192)], [⟨0, 20, .ro, 0xfffff⟩]⟩,
  ⟨0x40058000, [(0x4, 8192)], [⟨0, 20, .ro, 0xfffff⟩]⟩]
def regsCW1 : List RegDesc := regsCW1_0

/-! ### Block TIME at 0x40060000 (R202,R662) -/

def A_TIME_CTRL : Nat := 0x40060000
def TIME_CTRL_MAIN_EN : Fld := ⟨A_TIME_CTRL, 0, 1⟩
def TIME_CTRL_ACCEPT_STEP : Fld := ⟨A_TIME_CTRL, 1, 1⟩
def TIME_CTRL_SLEW_JUMP : Fld := ⟨A_TIME_CTRL, 2, 1⟩
def TIME_CTRL_DISCARD_JUMP : Fld := ⟨A_TIME_CTRL, 3, 1⟩
def TIME_CTRL_LOCK : Fld := ⟨A_TIME_CTRL, 31, 1⟩
def A_TIME_STAT : Nat := 0x40060004
def TIME_STAT_STATE : Fld := ⟨A_TIME_STAT, 0, 3⟩
def TIME_STAT_PATH : Fld := ⟨A_TIME_STAT, 3, 1⟩
def TIME_STAT_SLEWING : Fld := ⟨A_TIME_STAT, 4, 1⟩
def TIME_STAT_STEP_OK : Fld := ⟨A_TIME_STAT, 5, 1⟩
def TIME_STAT_STEPPED : Fld := ⟨A_TIME_STAT, 6, 1⟩
def TIME_STAT_REFUSED_EV : Fld := ⟨A_TIME_STAT, 7, 1⟩
def TIME_STAT_FALLBACK_EV : Fld := ⟨A_TIME_STAT, 8, 1⟩
def TIME_STAT_SRC : Fld := ⟨A_TIME_STAT, 12, 4⟩
def TIME_STAT_DEPTH : Fld := ⟨A_TIME_STAT, 16, 4⟩
def A_TIME_NOW_FRAC : Nat := 0x40060008
def TIME_NOW_FRAC_FRAC : Fld := ⟨A_TIME_NOW_FRAC, 0, 18⟩
def TIME_NOW_FRAC_PATH : Fld := ⟨A_TIME_NOW_FRAC, 18, 1⟩
def TIME_NOW_FRAC_STATE : Fld := ⟨A_TIME_NOW_FRAC, 19, 3⟩
def A_TIME_NOW_NS : Nat := 0x4006000c
def TIME_NOW_NS : Fld := ⟨A_TIME_NOW_NS, 0, 30⟩
def A_TIME_NOW_SEC_LO : Nat := 0x40060010
def TIME_NOW_SEC_LO : Fld := ⟨A_TIME_NOW_SEC_LO, 0, 32⟩
def A_TIME_NOW_SEC_HI : Nat := 0x40060014
def TIME_NOW_SEC_HI : Fld := ⟨A_TIME_NOW_SEC_HI, 0, 16⟩
def A_TIME_RATE : Nat := 0x40060018
def TIME_RATE : Fld := ⟨A_TIME_RATE, 0, 32⟩
def A_TIME_ERR : Nat := 0x4006001c
def TIME_ERR : Fld := ⟨A_TIME_ERR, 0, 32⟩
def A_TIME_JUMP_NS : Nat := 0x40060020
def TIME_JUMP_NS : Fld := ⟨A_TIME_JUMP_NS, 0, 32⟩
def A_TIME_JUMP_CNT : Nat := 0x40060024
def TIME_JUMP_CNT : Fld := ⟨A_TIME_JUMP_CNT, 0, 32⟩
def A_TIME_SLEW_LEFT : Nat := 0x40060028
def TIME_SLEW_LEFT : Fld := ⟨A_TIME_SLEW_LEFT, 0, 32⟩
def A_TIME_THRESH : Nat := 0x4006002c
def TIME_THRESH_JUMP_NS : Fld := ⟨A_TIME_THRESH, 0, 20⟩
def TIME_THRESH_SLEW_PPM : Fld := ⟨A_TIME_THRESH, 24, 5⟩
def A_TIME_CP : Nat := 0x40060030
def TIME_CP_CP_FERRIES : Fld := ⟨A_TIME_CP, 0, 6⟩
def A_TIME_CP_ANCHOR_LO : Nat := 0x40060034
def TIME_CP_ANCHOR_LO : Fld := ⟨A_TIME_CP_ANCHOR_LO, 0, 32⟩
def A_TIME_CP_ANCHOR_HI : Nat := 0x40060038
def TIME_CP_ANCHOR_HI : Fld := ⟨A_TIME_CP_ANCHOR_HI, 0, 32⟩
def A_TIME_SRC (i : Nat) : Nat := 0x40060040 + 0x4 * i
def TIME_SRC_CODE (i : Nat) : Fld := ⟨A_TIME_SRC i, 0, 8⟩
def TIME_SRC_VALID (i : Nat) : Fld := ⟨A_TIME_SRC i, 8, 1⟩
def TIME_SRC_REASON (i : Nat) : Fld := ⟨A_TIME_SRC i, 9, 3⟩
def TIME_SRC_DEPTH (i : Nat) : Fld := ⟨A_TIME_SRC i, 12, 4⟩
def A_TIME_MARK_CTRL : Nat := 0x40060060
def TIME_MARK_CTRL_MARK : Fld := ⟨A_TIME_MARK_CTRL, 0, 8⟩
def TIME_MARK_CTRL_CAUSEWAY : Fld := ⟨A_TIME_MARK_CTRL, 8, 7⟩
def TIME_MARK_CTRL_END : Fld := ⟨A_TIME_MARK_CTRL, 15, 1⟩
def TIME_MARK_CTRL_SEND : Fld := ⟨A_TIME_MARK_CTRL, 31, 1⟩
def A_TIME_MARK_TX (i : Nat) : Nat := 0x40060064 + 0x4 * i
def TIME_MARK_TX (i : Nat) : Fld := ⟨A_TIME_MARK_TX i, 0, 32⟩
def A_TIME_TRIG_START_NS (i : Nat) : Nat := 0x40060100 + 0x20 * i
def TIME_TRIG_START_NS (i : Nat) : Fld := ⟨A_TIME_TRIG_START_NS i, 0, 30⟩
def A_TIME_TRIG_START_SEC_LO (i : Nat) : Nat := 0x40060104 + 0x20 * i
def TIME_TRIG_START_SEC_LO (i : Nat) : Fld := ⟨A_TIME_TRIG_START_SEC_LO i, 0, 32⟩
def A_TIME_TRIG_START_SEC_HI (i : Nat) : Nat := 0x40060108 + 0x20 * i
def TIME_TRIG_START_SEC_HI (i : Nat) : Fld := ⟨A_TIME_TRIG_START_SEC_HI i, 0, 16⟩
def A_TIME_TRIG_PERIOD (i : Nat) : Nat := 0x4006010c + 0x20 * i
def TIME_TRIG_PERIOD (i : Nat) : Fld := ⟨A_TIME_TRIG_PERIOD i, 0, 32⟩
def A_TIME_TRIG_COUNT (i : Nat) : Nat := 0x40060110 + 0x20 * i
def TIME_TRIG_COUNT (i : Nat) : Fld := ⟨A_TIME_TRIG_COUNT i, 0, 16⟩
def A_TIME_TRIG_CTRL (i : Nat) : Nat := 0x40060114 + 0x20 * i
def TIME_TRIG_CTRL_ARM (i : Nat) : Fld := ⟨A_TIME_TRIG_CTRL i, 0, 1⟩
def TIME_TRIG_CTRL_DISARM (i : Nat) : Fld := ⟨A_TIME_TRIG_CTRL i, 1, 1⟩
def TIME_TRIG_CTRL_CONT (i : Nat) : Fld := ⟨A_TIME_TRIG_CTRL i, 2, 1⟩
def TIME_TRIG_CTRL_DEST (i : Nat) : Fld := ⟨A_TIME_TRIG_CTRL i, 4, 4⟩
def TIME_TRIG_CTRL_FLAG (i : Nat) : Fld := ⟨A_TIME_TRIG_CTRL i, 16, 5⟩
def TIME_TRIG_CTRL_TASK (i : Nat) : Fld := ⟨A_TIME_TRIG_CTRL i, 24, 8⟩
def A_TIME_TRIG_STAT (i : Nat) : Nat := 0x40060118 + 0x20 * i
def TIME_TRIG_STAT_ARMED (i : Nat) : Fld := ⟨A_TIME_TRIG_STAT i, 0, 1⟩
def TIME_TRIG_STAT_DONE (i : Nat) : Fld := ⟨A_TIME_TRIG_STAT i, 1, 1⟩
def TIME_TRIG_STAT_LATE (i : Nat) : Fld := ⟨A_TIME_TRIG_STAT i, 2, 1⟩
def TIME_TRIG_STAT_MISSED (i : Nat) : Fld := ⟨A_TIME_TRIG_STAT i, 16, 16⟩

/-- Every register of block TIME: address of index 0, array strides and counts, fields (R202,R662). -/
def regsTIME_0 : List RegDesc := [
  ⟨0x40060000, [], [⟨0, 1, .wl, 0x1⟩, ⟨1, 1, .wo, 0x0⟩, ⟨2, 1, .wo, 0x0⟩, ⟨3, 1, .wo, 0x0⟩, ⟨31, 1, .w1s, 0x0⟩]⟩,
  ⟨0x40060004, [], [⟨0, 3, .ro, 0x0⟩, ⟨3, 1, .ro, 0x0⟩, ⟨4, 1, .ro, 0x0⟩, ⟨5, 1, .ro, 0x1⟩, ⟨6, 1, .w1c, 0x0⟩, ⟨7, 1, .w1c, 0x0⟩, ⟨8, 1, .w1c, 0x0⟩, ⟨12, 4, .ro, 0xf⟩, ⟨16, 4, .ro, 0xf⟩]⟩,
  ⟨0x40060008, [], [⟨0, 18, .ro, 0x0⟩, ⟨18, 1, .ro, 0x0⟩, ⟨19, 3, .ro, 0x0⟩]⟩,
  ⟨0x4006000c, [], [⟨0, 30, .ro, 0x0⟩]⟩,
  ⟨0x40060010, [], [⟨0, 32, .ro, 0x0⟩]⟩,
  ⟨0x40060014, [], [⟨0, 16, .ro, 0x0⟩]⟩,
  ⟨0x40060018, [], [⟨0, 32, .ro, 0x0⟩]⟩,
  ⟨0x4006001c, [], [⟨0, 32, .ro, 0x0⟩]⟩,
  ⟨0x40060020, [], [⟨0, 32, .ro, 0x0⟩]⟩,
  ⟨0x40060024, [], [⟨0, 32, .rc, 0x0⟩]⟩,
  ⟨0x40060028, [], [⟨0, 32, .ro, 0x0⟩]⟩,
  ⟨0x4006002c, [], [⟨0, 20, .wl, 0x3e8⟩, ⟨24, 5, .wl, 0xa⟩]⟩,
  ⟨0x40060030, [], [⟨0, 6, .wl, 0xa⟩]⟩,
  ⟨0x40060034, [], [⟨0, 32, .ro, 0x0⟩]⟩,
  ⟨0x40060038, [], [⟨0, 32, .ro, 0x0⟩]⟩,
  ⟨0x40060040, [(0x4, 4)], [⟨0, 8, .wl, 0x0⟩, ⟨8, 1, .ro, 0x0⟩, ⟨9, 3, .ro, 0x1⟩, ⟨12, 4, .ro, 0xf⟩]⟩,
  ⟨0x40060060, [], [⟨0, 8, .rw, 0x0⟩, ⟨8, 7, .rw, 0x0⟩, ⟨15, 1, .rw, 0x0⟩, ⟨31, 1, .wo, 0x0⟩]⟩,
  ⟨0x40060064, [(0x4, 4)], [⟨0, 32, .ro, 0x0⟩]⟩,
  ⟨0x40060100, [(0x20, 16)], [⟨0, 30, .rw, 0x0⟩]⟩,
  ⟨0x40060104, [(0x20, 16)], [⟨0, 32, .rw, 0x0⟩]⟩,
  ⟨0x40060108, [(0x20, 16)], [⟨0, 16, .rw, 0x0⟩]⟩,
  ⟨0x4006010c, [(0x20, 16)], [⟨0, 32, .rw, 0x0⟩]⟩,
  ⟨0x40060110, [(0x20, 16)], [⟨0, 16, .rw, 0x0⟩]⟩,
  ⟨0x40060114, [(0x20, 16)], [⟨0, 1, .wo, 0x0⟩, ⟨1, 1, .wo, 0x0⟩, ⟨2, 1, .rw, 0x0⟩, ⟨4, 4, .rw, 0x0⟩, ⟨16, 5, .rw, 0x0⟩, ⟨24, 8, .rw, 0x0⟩]⟩,
  ⟨0x40060118, [(0x20, 16)], [⟨0, 1, .ro, 0x0⟩, ⟨1, 1, .w1c, 0x0⟩, ⟨2, 1, .w1c, 0x0⟩, ⟨16, 16, .ro, 0x0⟩]⟩]
def regsTIME : List RegDesc := regsTIME_0

/-! ### Block REEF at 0x40070000 (R238,R660) -/

def A_REEF_CTRL : Nat := 0x40070000
def REEF_CTRL_LOCK : Fld := ⟨A_REEF_CTRL, 31, 1⟩
def A_REEF_STAT : Nat := 0x40070004
def REEF_STAT_SORTING : Fld := ⟨A_REEF_STAT, 0, 6⟩
def REEF_STAT_SHORT : Fld := ⟨A_REEF_STAT, 8, 6⟩
def REEF_STAT_SAT : Fld := ⟨A_REEF_STAT, 16, 6⟩
def A_REEF_RETIRE : Nat := 0x40070008
def REEF_RETIRE_G : Fld := ⟨A_REEF_RETIRE, 0, 13⟩
def REEF_RETIRE_GO : Fld := ⟨A_REEF_RETIRE, 31, 1⟩
def A_REEF_HEALTH_SET : Nat := 0x4007000c
def REEF_HEALTH_SET_G : Fld := ⟨A_REEF_HEALTH_SET, 0, 13⟩
def REEF_HEALTH_SET_HEALTH : Fld := ⟨A_REEF_HEALTH_SET, 13, 2⟩
def REEF_HEALTH_SET_GO : Fld := ⟨A_REEF_HEALTH_SET, 31, 1⟩
def A_REEF_CAND_INS (i : Nat) : Nat := 0x40070100 + 0x40 * i
def REEF_CAND_INS_CHG (i : Nat) : Fld := ⟨A_REEF_CAND_INS i, 0, 13⟩
def REEF_CAND_INS_CHG_OK (i : Nat) : Fld := ⟨A_REEF_CAND_INS i, 14, 1⟩
def REEF_CAND_INS_DIS (i : Nat) : Fld := ⟨A_REEF_CAND_INS i, 16, 13⟩
def REEF_CAND_INS_DIS_OK (i : Nat) : Fld := ⟨A_REEF_CAND_INS i, 30, 1⟩
def A_REEF_CAND_BYP (i : Nat) : Nat := 0x40070104 + 0x40 * i
def REEF_CAND_BYP_CHG (i : Nat) : Fld := ⟨A_REEF_CAND_BYP i, 0, 13⟩
def REEF_CAND_BYP_CHG_OK (i : Nat) : Fld := ⟨A_REEF_CAND_BYP i, 14, 1⟩
def REEF_CAND_BYP_DIS (i : Nat) : Fld := ⟨A_REEF_CAND_BYP i, 16, 13⟩
def REEF_CAND_BYP_DIS_OK (i : Nat) : Fld := ⟨A_REEF_CAND_BYP i, 30, 1⟩
def A_REEF_COUNT (i : Nat) : Nat := 0x40070108 + 0x40 * i
def REEF_COUNT_N_NOW (i : Nat) : Fld := ⟨A_REEF_COUNT i, 0, 12⟩
def REEF_COUNT_N_AVAIL (i : Nat) : Fld := ⟨A_REEF_COUNT i, 16, 11⟩
def A_REEF_VAVG (i : Nat) : Nat := 0x4007010c + 0x40 * i
def REEF_VAVG_VAVG (i : Nat) : Fld := ⟨A_REEF_VAVG i, 0, 16⟩
def REEF_VAVG_SPREAD (i : Nat) : Fld := ⟨A_REEF_VAVG i, 16, 16⟩
def A_REEF_REG (i : Nat) : Nat := 0x40070110 + 0x40 * i
def REEF_REG_D (i : Nat) : Fld := ⟨A_REEF_REG i, 0, 6⟩
def REEF_REG_HOLD (i : Nat) : Fld := ⟨A_REEF_REG i, 6, 1⟩
def REEF_REG_OUT_UP (i : Nat) : Fld := ⟨A_REEF_REG i, 7, 1⟩
def REEF_REG_OUT_DN (i : Nat) : Fld := ⟨A_REEF_REG i, 8, 1⟩
def REEF_REG_IERR (i : Nat) : Fld := ⟨A_REEF_REG i, 16, 16⟩
def A_REEF_NPLAN (i : Nat) : Nat := 0x40070114 + 0x40 * i
def REEF_NPLAN_NA (i : Nat) : Fld := ⟨A_REEF_NPLAN i, 0, 12⟩
def REEF_NPLAN_NB (i : Nat) : Fld := ⟨A_REEF_NPLAN i, 16, 12⟩
def A_REEF_REG_CNT (i : Nat) : Nat := 0x40070118 + 0x40 * i
def REEF_REG_CNT (i : Nat) : Fld := ⟨A_REEF_REG_CNT i, 0, 32⟩
def A_REEF_GOV_CNT (i : Nat) : Nat := 0x4007011c + 0x40 * i
def REEF_GOV_CNT (i : Nat) : Fld := ⟨A_REEF_GOV_CNT i, 0, 32⟩
def A_REEF_ROT_CNT (i : Nat) : Nat := 0x40070120 + 0x40 * i
def REEF_ROT_CNT (i : Nat) : Fld := ⟨A_REEF_ROT_CNT i, 0, 32⟩
def A_REEF_REF_CNT (i : Nat) : Nat := 0x40070124 + 0x40 * i
def REEF_REF_CNT (i : Nat) : Fld := ⟨A_REEF_REF_CNT i, 0, 32⟩
def A_REEF_REF_DEFER (i : Nat) : Nat := 0x40070128 + 0x40 * i
def REEF_REF_DEFER (i : Nat) : Fld := ⟨A_REEF_REF_DEFER i, 0, 32⟩
def A_REEF_RETIRE_CNT (i : Nat) : Nat := 0x4007012c + 0x40 * i
def REEF_RETIRE_CNT (i : Nat) : Fld := ⟨A_REEF_RETIRE_CNT i, 0, 32⟩
def A_REEF_MISMATCH_CNT (i : Nat) : Nat := 0x40070130 + 0x40 * i
def REEF_MISMATCH_CNT (i : Nat) : Fld := ⟨A_REEF_MISMATCH_CNT i, 0, 32⟩
def A_REEF_POL (i j : Nat) : Nat := 0x40070400 + 0x40 * i + 0x4 * j
def REEF_POL (i j : Nat) : Fld := ⟨A_REEF_POL i j, 0, 32⟩
def A_REEF_REC0 (i : Nat) : Nat := 0x40074000 + 0x8 * i
def REEF_REC0_VCAP (i : Nat) : Fld := ⟨A_REEF_REC0 i, 0, 16⟩
def REEF_REC0_TEMP (i : Nat) : Fld := ⟨A_REEF_REC0 i, 16, 8⟩
def REEF_REC0_STATE (i : Nat) : Fld := ⟨A_REEF_REC0 i, 24, 3⟩
def REEF_REC0_HEALTH (i : Nat) : Fld := ⟨A_REEF_REC0 i, 27, 2⟩
def REEF_REC0_STALE (i : Nat) : Fld := ⟨A_REEF_REC0 i, 29, 1⟩
def REEF_REC0_REFRESH (i : Nat) : Fld := ⟨A_REEF_REC0 i, 30, 1⟩
def REEF_REC0_USED (i : Nat) : Fld := ⟨A_REEF_REC0 i, 31, 1⟩
def A_REEF_REC1 (i : Nat) : Nat := 0x40074004 + 0x8 * i
def REEF_REC1_VPRED (i : Nat) : Fld := ⟨A_REEF_REC1 i, 0, 16⟩
def REEF_REC1_SWITCH (i : Nat) : Fld := ⟨A_REEF_REC1 i, 16, 15⟩
def REEF_REC1_MISMATCH (i : Nat) : Fld := ⟨A_REEF_REC1 i, 31, 1⟩

/-- Every register of block REEF: address of index 0, array strides and counts, fields (R238,R660). -/
def regsREEF_0 : List RegDesc := [
  ⟨0x40070000, [], [⟨31, 1, .w1s, 0x0⟩]⟩,
  ⟨0x40070004, [], [⟨0, 6, .ro, 0x0⟩, ⟨8, 6, .ro, 0x0⟩, ⟨16, 6, .w1c, 0x0⟩]⟩,
  ⟨0x40070008, [], [⟨0, 13, .wo, 0x0⟩, ⟨31, 1, .wo, 0x0⟩]⟩,
  ⟨0x4007000c, [], [⟨0, 13, .wo, 0x0⟩, ⟨13, 2, .wo, 0x0⟩, ⟨31, 1, .wo, 0x0⟩]⟩,
  ⟨0x40070100, [(0x40, 6)], [⟨0, 13, .ro, 0x0⟩, ⟨14, 1, .ro, 0x0⟩, ⟨16, 13, .ro, 0x0⟩, ⟨30, 1, .ro, 0x0⟩]⟩,
  ⟨0x40070104, [(0x40, 6)], [⟨0, 13, .ro, 0x0⟩, ⟨14, 1, .ro, 0x0⟩, ⟨16, 13, .ro, 0x0⟩, ⟨30, 1, .ro, 0x0⟩]⟩,
  ⟨0x40070108, [(0x40, 6)], [⟨0, 12, .ro, 0x0⟩, ⟨16, 11, .ro, 0x0⟩]⟩,
  ⟨0x4007010c, [(0x40, 6)], [⟨0, 16, .ro, 0x0⟩, ⟨16, 16, .ro, 0x0⟩]⟩,
  ⟨0x40070110, [(0x40, 6)], [⟨0, 6, .ro, 0x0⟩, ⟨6, 1, .ro, 0x0⟩, ⟨7, 1, .ro, 0x0⟩, ⟨8, 1, .ro, 0x0⟩, ⟨16, 16, .ro, 0x0⟩]⟩,
  ⟨0x40070114, [(0x40, 6)], [⟨0, 12, .ro, 0x0⟩, ⟨16, 12, .ro, 0x0⟩]⟩,
  ⟨0x40070118, [(0x40, 6)], [⟨0, 32, .rc, 0x0⟩]⟩,
  ⟨0x4007011c, [(0x40, 6)], [⟨0, 32, .rc, 0x0⟩]⟩,
  ⟨0x40070120, [(0x40, 6)], [⟨0, 32, .rc, 0x0⟩]⟩,
  ⟨0x40070124, [(0x40, 6)], [⟨0, 32, .rc, 0x0⟩]⟩,
  ⟨0x40070128, [(0x40, 6)], [⟨0, 32, .rc, 0x0⟩]⟩,
  ⟨0x4007012c, [(0x40, 6)], [⟨0, 32, .rc, 0x0⟩]⟩,
  ⟨0x40070130, [(0x40, 6)], [⟨0, 32, .rc, 0x0⟩]⟩,
  ⟨0x40070400, [(0x40, 6), (0x4, 12)], [⟨0, 32, .ro, 0x0⟩]⟩,
  ⟨0x40074000, [(0x8, 6144)], [⟨0, 16, .ro, 0x0⟩, ⟨16, 8, .ro, 0x0⟩, ⟨24, 3, .ro, 0x0⟩, ⟨27, 2, .ro, 0x0⟩, ⟨29, 1, .ro, 0x0⟩, ⟨30, 1, .ro, 0x0⟩, ⟨31, 1, .ro, 0x0⟩]⟩,
  ⟨0x40074004, [(0x8, 6144)], [⟨0, 16, .ro, 0x0⟩, ⟨16, 15, .ro, 0x0⟩, ⟨31, 1, .ro, 0x0⟩]⟩]
def regsREEF : List RegDesc := regsREEF_0

/-! ### Block RUN at 0x40080000 (R268,R661) -/

def A_RUN_CTRL : Nat := 0x40080000
def RUN_CTRL_GO : Fld := ⟨A_RUN_CTRL, 0, 1⟩
def RUN_CTRL_HALT : Fld := ⟨A_RUN_CTRL, 1, 1⟩
def A_RUN_STAT : Nat := 0x40080004
def RUN_STAT_COMMITTING : Fld := ⟨A_RUN_STAT, 0, 1⟩
def RUN_STAT_FULL_PEND : Fld := ⟨A_RUN_STAT, 1, 1⟩
def RUN_STAT_MARGIN : Fld := ⟨A_RUN_STAT, 2, 1⟩
def RUN_STAT_HALTED_EV : Fld := ⟨A_RUN_STAT, 3, 1⟩
def A_RUN_EPOCH : Nat := 0x40080008
def RUN_EPOCH_CURRENT : Fld := ⟨A_RUN_EPOCH, 0, 8⟩
def RUN_EPOCH_STAGED : Fld := ⟨A_RUN_EPOCH, 8, 8⟩
def RUN_EPOCH_STAGED_FULL : Fld := ⟨A_RUN_EPOCH, 16, 1⟩
def A_RUN_TIMING : Nat := 0x4008000c
def RUN_TIMING_LAG : Fld := ⟨A_RUN_TIMING, 0, 12⟩
def RUN_TIMING_LEAD : Fld := ⟨A_RUN_TIMING, 16, 12⟩
def A_RUN_SIGN : Nat := 0x40080010
def RUN_SIGN_HYST : Fld := ⟨A_RUN_SIGN, 0, 16⟩
def RUN_SIGN_SLOPE_N : Fld := ⟨A_RUN_SIGN, 16, 5⟩
def A_RUN_MATE_DLY : Nat := 0x40080014
def RUN_MATE_DLY : Fld := ⟨A_RUN_MATE_DLY, 0, 20⟩
def A_RUN_MARGIN (i : Nat) : Nat := 0x40080020 + 0x4 * i
def RUN_MARGIN (i : Nat) : Fld := ⟨A_RUN_MARGIN i, 0, 32⟩
def A_RUN_COMMIT_CNT : Nat := 0x40080030
def RUN_COMMIT_CNT : Fld := ⟨A_RUN_COMMIT_CNT, 0, 32⟩
def A_RUN_LAG_CNT : Nat := 0x40080034
def RUN_LAG_CNT : Fld := ⟨A_RUN_LAG_CNT, 0, 32⟩
def A_RUN_ARM (i : Nat) : Nat := 0x40080040 + 0x4 * i
def RUN_ARM_STAGE (i : Nat) : Fld := ⟨A_RUN_ARM i, 0, 1⟩
def RUN_ARM_HELD (i : Nat) : Fld := ⟨A_RUN_ARM i, 1, 1⟩
def RUN_ARM_IPRED (i : Nat) : Fld := ⟨A_RUN_ARM i, 16, 16⟩
def A_RUN_FLIP_CNT (i : Nat) : Nat := 0x40080060 + 0x4 * i
def RUN_FLIP_CNT (i : Nat) : Fld := ⟨A_RUN_FLIP_CNT i, 0, 32⟩

/-- Every register of block RUN: address of index 0, array strides and counts, fields (R268,R661). -/
def regsRUN_0 : List RegDesc := [
  ⟨0x40080000, [], [⟨0, 1, .wo, 0x0⟩, ⟨1, 1, .wo, 0x0⟩]⟩,
  ⟨0x40080004, [], [⟨0, 1, .ro, 0x0⟩, ⟨1, 1, .ro, 0x0⟩, ⟨2, 1, .ro, 0x0⟩, ⟨3, 1, .w1c, 0x0⟩]⟩,
  ⟨0x40080008, [], [⟨0, 8, .ro, 0x0⟩, ⟨8, 8, .ro, 0x0⟩, ⟨16, 1, .ro, 0x0⟩]⟩,
  ⟨0x4008000c, [], [⟨0, 12, .rw, 0x753⟩, ⟨16, 12, .rw, 0x258⟩]⟩,
  ⟨0x40080010, [], [⟨0, 16, .rw, 0xc8⟩, ⟨16, 5, .rw, 0x5⟩]⟩,
  ⟨0x40080014, [], [⟨0, 20, .ro, 0xfffff⟩]⟩,
  ⟨0x40080020, [(0x4, 3)], [⟨0, 32, .ro, 0x0⟩]⟩,
  ⟨0x40080030, [], [⟨0, 32, .rc, 0x0⟩]⟩,
  ⟨0x40080034, [], [⟨0, 32, .rc, 0x0⟩]⟩,
  ⟨0x40080040, [(0x4, 6)], [⟨0, 1, .ro, 0x0⟩, ⟨1, 1, .ro, 0x0⟩, ⟨16, 16, .ro, 0x0⟩]⟩,
  ⟨0x40080060, [(0x4, 6)], [⟨0, 32, .rc, 0x0⟩]⟩]
def regsRUN : List RegDesc := regsRUN_0

/-! ### Block LOOP at 0x40090000 (R308) -/

def A_LOOP_CTRL : Nat := 0x40090000
def LOOP_CTRL_SWAP : Fld := ⟨A_LOOP_CTRL, 0, 1⟩
def LOOP_CTRL_LOCK : Fld := ⟨A_LOOP_CTRL, 31, 1⟩
def A_LOOP_STAT : Nat := 0x40090004
def LOOP_STAT_BANK : Fld := ⟨A_LOOP_STAT, 0, 1⟩
def LOOP_STAT_SWAP_PEND : Fld := ⟨A_LOOP_STAT, 1, 1⟩
def LOOP_STAT_SWAP_EV : Fld := ⟨A_LOOP_STAT, 2, 1⟩
def LOOP_STAT_SWAP_REJ : Fld := ⟨A_LOOP_STAT, 3, 1⟩
def LOOP_STAT_SWAP_LOST : Fld := ⟨A_LOOP_STAT, 4, 1⟩
def LOOP_STAT_PASS : Fld := ⟨A_LOOP_STAT, 5, 1⟩
def LOOP_STAT_PASS_EV : Fld := ⟨A_LOOP_STAT, 6, 1⟩
def LOOP_STAT_READY : Fld := ⟨A_LOOP_STAT, 7, 1⟩
def LOOP_STAT_IDLE : Fld := ⟨A_LOOP_STAT, 8, 1⟩
def A_LOOP_PASS_CNT : Nat := 0x40090008
def LOOP_PASS_CNT : Fld := ⟨A_LOOP_PASS_CNT, 0, 32⟩
def A_LOOP_EVT : Nat := 0x4009000c
def LOOP_EVT_TASK : Fld := ⟨A_LOOP_EVT, 0, 8⟩
def LOOP_EVT_FLAG : Fld := ⟨A_LOOP_EVT, 8, 5⟩
def LOOP_EVT_EN : Fld := ⟨A_LOOP_EVT, 31, 1⟩
def A_LOOP_RESTART : Nat := 0x40090010
def LOOP_RESTART_SLOT : Fld := ⟨A_LOOP_RESTART, 0, 6⟩
def LOOP_RESTART_GO : Fld := ⟨A_LOOP_RESTART, 31, 1⟩
def A_LOOP_TRACE_BASE : Nat := 0x40090014
def LOOP_TRACE_BASE_BASE : Fld := ⟨A_LOOP_TRACE_BASE, 18, 8⟩
def A_LOOP_FLAG_SUM (i : Nat) : Nat := 0x40090020 + 0x4 * i
def LOOP_FLAG_SUM (i : Nat) : Fld := ⟨A_LOOP_FLAG_SUM i, 0, 32⟩
def A_LOOP_PARAM (i : Nat) : Nat := 0x40090100 + 0x4 * i
def LOOP_PARAM (i : Nat) : Fld := ⟨A_LOOP_PARAM i, 0, 32⟩
def A_LOOP_OUT (i : Nat) : Nat := 0x40090200 + 0x4 * i
def LOOP_OUT (i : Nat) : Fld := ⟨A_LOOP_OUT i, 0, 32⟩
def A_LOOP_STATE (i : Nat) : Nat := 0x40090300 + 0x4 * i
def LOOP_STATE (i : Nat) : Fld := ⟨A_LOOP_STATE i, 0, 32⟩
def A_LOOP_FLAGS (i : Nat) : Nat := 0x40090400 + 0x4 * i
def LOOP_FLAGS_LIVE (i : Nat) : Fld := ⟨A_LOOP_FLAGS i, 0, 7⟩
def LOOP_FLAGS_READY (i : Nat) : Fld := ⟨A_LOOP_FLAGS i, 7, 1⟩
def LOOP_FLAGS_STICKY (i : Nat) : Fld := ⟨A_LOOP_FLAGS i, 16, 7⟩
def A_LOOP_CFG (i : Nat) : Nat := 0x40090500 + 0x4 * i
def LOOP_CFG (i : Nat) : Fld := ⟨A_LOOP_CFG i, 0, 32⟩
def A_LOOP_IN0 (i : Nat) : Nat := 0x40090600 + 0x8 * i
def LOOP_IN0_A (i : Nat) : Fld := ⟨A_LOOP_IN0 i, 0, 16⟩
def LOOP_IN0_B (i : Nat) : Fld := ⟨A_LOOP_IN0 i, 16, 16⟩
def A_LOOP_IN1 (i : Nat) : Nat := 0x40090604 + 0x8 * i
def LOOP_IN1_A (i : Nat) : Fld := ⟨A_LOOP_IN1 i, 0, 16⟩
def LOOP_IN1_B (i : Nat) : Fld := ⟨A_LOOP_IN1 i, 16, 16⟩
def A_LOOP_SINK (i : Nat) : Nat := 0x40090900 + 0x4 * i
def LOOP_SINK (i : Nat) : Fld := ⟨A_LOOP_SINK i, 0, 16⟩
def A_LOOP_SINKV (i : Nat) : Nat := 0x40090a00 + 0x4 * i
def LOOP_SINKV (i : Nat) : Fld := ⟨A_LOOP_SINKV i, 0, 32⟩
def A_LOOP_TAP_CFG (i : Nat) : Nat := 0x40091000 + 0x20 * i
def LOOP_TAP_CFG_NODE (i : Nat) : Fld := ⟨A_LOOP_TAP_CFG i, 0, 16⟩
def LOOP_TAP_CFG_RATE (i : Nat) : Fld := ⟨A_LOOP_TAP_CFG i, 16, 2⟩
def LOOP_TAP_CFG_MODE (i : Nat) : Fld := ⟨A_LOOP_TAP_CFG i, 18, 1⟩
def LOOP_TAP_CFG_TRIG_SRC (i : Nat) : Fld := ⟨A_LOOP_TAP_CFG i, 19, 2⟩
def A_LOOP_TAP_LEN (i : Nat) : Nat := 0x40091004 + 0x20 * i
def LOOP_TAP_LEN_DEPTH (i : Nat) : Fld := ⟨A_LOOP_TAP_LEN i, 0, 13⟩
def LOOP_TAP_LEN_POST (i : Nat) : Fld := ⟨A_LOOP_TAP_LEN i, 16, 13⟩
def A_LOOP_TAP_CTRL (i : Nat) : Nat := 0x40091008 + 0x20 * i
def LOOP_TAP_CTRL_ARM (i : Nat) : Fld := ⟨A_LOOP_TAP_CTRL i, 0, 1⟩
def LOOP_TAP_CTRL_TRIG (i : Nat) : Fld := ⟨A_LOOP_TAP_CTRL i, 1, 1⟩
def LOOP_TAP_CTRL_STOP (i : Nat) : Fld := ⟨A_LOOP_TAP_CTRL i, 2, 1⟩
def A_LOOP_TAP_STAT (i : Nat) : Nat := 0x4009100c + 0x20 * i
def LOOP_TAP_STAT_RUN (i : Nat) : Fld := ⟨A_LOOP_TAP_STAT i, 0, 1⟩
def LOOP_TAP_STAT_TRIGGERED (i : Nat) : Fld := ⟨A_LOOP_TAP_STAT i, 1, 1⟩
def LOOP_TAP_STAT_FULL (i : Nat) : Fld := ⟨A_LOOP_TAP_STAT i, 2, 1⟩
def LOOP_TAP_STAT_DONE (i : Nat) : Fld := ⟨A_LOOP_TAP_STAT i, 3, 1⟩
def LOOP_TAP_STAT_EXTRA (i : Nat) : Fld := ⟨A_LOOP_TAP_STAT i, 4, 4⟩
def LOOP_TAP_STAT_TRIG_IDX (i : Nat) : Fld := ⟨A_LOOP_TAP_STAT i, 16, 13⟩
def A_LOOP_TAP_T0_NS (i : Nat) : Nat := 0x40091010 + 0x20 * i
def LOOP_TAP_T0_NS (i : Nat) : Fld := ⟨A_LOOP_TAP_T0_NS i, 0, 30⟩
def A_LOOP_TAP_T0_SEC (i : Nat) : Nat := 0x40091014 + 0x20 * i
def LOOP_TAP_T0_SEC (i : Nat) : Fld := ⟨A_LOOP_TAP_T0_SEC i, 0, 32⟩
def A_LOOP_TAP_PRE (i : Nat) : Nat := 0x40091018 + 0x20 * i
def LOOP_TAP_PRE (i : Nat) : Fld := ⟨A_LOOP_TAP_PRE i, 0, 13⟩
def A_LOOP_COEF (i j k : Nat) : Nat := 0x40092000 + 0x800 * i + 0x20 * j + 0x4 * k
def LOOP_COEF (i j k : Nat) : Fld := ⟨A_LOOP_COEF i j k, 0, 32⟩

/-- Every register of block LOOP: address of index 0, array strides and counts, fields (R308). -/
def regsLOOP_0 : List RegDesc := [
  ⟨0x40090000, [], [⟨0, 1, .wo, 0x0⟩, ⟨31, 1, .w1s, 0x0⟩]⟩,
  ⟨0x40090004, [], [⟨0, 1, .ro, 0x0⟩, ⟨1, 1, .ro, 0x0⟩, ⟨2, 1, .w1c, 0x0⟩, ⟨3, 1, .w1c, 0x0⟩, ⟨4, 1, .w1c, 0x0⟩, ⟨5, 1, .ro, 0x0⟩, ⟨6, 1, .w1c, 0x0⟩, ⟨7, 1, .ro, 0x0⟩, ⟨8, 1, .ro, 0x0⟩]⟩,
  ⟨0x40090008, [], [⟨0, 32, .ro, 0x0⟩]⟩,
  ⟨0x4009000c, [], [⟨0, 8, .wl, 0x0⟩, ⟨8, 5, .wl, 0x0⟩, ⟨31, 1, .wl, 0x0⟩]⟩,
  ⟨0x40090010, [], [⟨0, 6, .wo, 0x0⟩, ⟨31, 1, .wo, 0x0⟩]⟩,
  ⟨0x40090014, [], [⟨18, 8, .rw, 0x0⟩]⟩,
  ⟨0x40090020, [(0x4, 2)], [⟨0, 32, .ro, 0x0⟩]⟩,
  ⟨0x40090100, [(0x4, 64)], [⟨0, 32, .rw, 0x0⟩]⟩,
  ⟨0x40090200, [(0x4, 48)], [⟨0, 32, .ro, 0x0⟩]⟩,
  ⟨0x40090300, [(0x4, 48)], [⟨0, 32, .ro, 0x0⟩]⟩,
  ⟨0x40090400, [(0x4, 48)], [⟨0, 7, .ro, 0x0⟩, ⟨7, 1, .ro, 0x0⟩, ⟨16, 7, .w1c, 0x0⟩]⟩,
  ⟨0x40090500, [(0x4, 48)], [⟨0, 32, .ro, 0x0⟩]⟩,
  ⟨0x40090600, [(0x8, 48)], [⟨0, 16, .ro, 0x0⟩, ⟨16, 16, .ro, 0x0⟩]⟩,
  ⟨0x40090604, [(0x8, 48)], [⟨0, 16, .ro, 0x0⟩, ⟨16, 16, .ro, 0x0⟩]⟩,
  ⟨0x40090900, [(0x4, 32)], [⟨0, 16, .ro, 0x0⟩]⟩,
  ⟨0x40090a00, [(0x4, 32)], [⟨0, 32, .ro, 0x0⟩]⟩,
  ⟨0x40091000, [(0x20, 16)], [⟨0, 16, .rw, 0x0⟩, ⟨16, 2, .rw, 0x0⟩, ⟨18, 1, .rw, 0x0⟩, ⟨19, 2, .rw, 0x0⟩]⟩,
  ⟨0x40091004, [(0x20, 16)], [⟨0, 13, .rw, 0x0⟩, ⟨16, 13, .rw, 0x0⟩]⟩,
  ⟨0x40091008, [(0x20, 16)], [⟨0, 1, .wo, 0x0⟩, ⟨1, 1, .wo, 0x0⟩, ⟨2, 1, .wo, 0x0⟩]⟩,
  ⟨0x4009100c, [(0x20, 16)], [⟨0, 1, .ro, 0x0⟩, ⟨1, 1, .ro, 0x0⟩, ⟨2, 1, .ro, 0x0⟩, ⟨3, 1, .w1c, 0x0⟩, ⟨4, 4, .ro, 0x0⟩, ⟨16, 13, .ro, 0x0⟩]⟩,
  ⟨0x40091010, [(0x20, 16)], [⟨0, 30, .ro, 0x0⟩]⟩,
  ⟨0x40091014, [(0x20, 16)], [⟨0, 32, .ro, 0x0⟩]⟩,
  ⟨0x40091018, [(0x20, 16)], [⟨0, 13, .ro, 0x0⟩]⟩,
  ⟨0x40092000, [(0x800, 2), (0x20, 48), (0x4, 8)], [⟨0, 32, .rw, 0x0⟩]⟩]
def regsLOOP : List RegDesc := regsLOOP_0

/-! ### Block SCHED at 0x400a0000 (R341) -/

def A_SCHED_CTRL : Nat := 0x400a0000
def SCHED_CTRL_OBS_CLEAR : Fld := ⟨A_SCHED_CTRL, 0, 1⟩
def SCHED_CTRL_LOCK : Fld := ⟨A_SCHED_CTRL, 31, 1⟩
def A_SCHED_STAT : Nat := 0x400a0004
def SCHED_STAT_READY : Fld := ⟨A_SCHED_STAT, 0, 9⟩
def SCHED_STAT_HELD : Fld := ⟨A_SCHED_STAT, 9, 9⟩
def SCHED_STAT_RUNNING : Fld := ⟨A_SCHED_STAT, 18, 5⟩
def SCHED_STAT_FAULT_EV : Fld := ⟨A_SCHED_STAT, 23, 1⟩
def A_SCHED_AGE : Nat := 0x400a0008
def SCHED_AGE_AGE_STEP : Fld := ⟨A_SCHED_AGE, 0, 16⟩
def SCHED_AGE_CEIL : Fld := ⟨A_SCHED_AGE, 16, 3⟩
def A_SCHED_OBS : Nat := 0x400a000c
def SCHED_OBS_MODE : Fld := ⟨A_SCHED_OBS, 0, 2⟩
def SCHED_OBS_TRACING : Fld := ⟨A_SCHED_OBS, 2, 1⟩
def SCHED_OBS_STATS : Fld := ⟨A_SCHED_OBS, 3, 1⟩
def A_SCHED_TRACE_BASE : Nat := 0x400a0010
def SCHED_TRACE_BASE_BASE : Fld := ⟨A_SCHED_TRACE_BASE, 4, 22⟩
def A_SCHED_TRACE_SIZE : Nat := 0x400a0014
def SCHED_TRACE_SIZE : Fld := ⟨A_SCHED_TRACE_SIZE, 0, 16⟩
def A_SCHED_TRACE_WIDX : Nat := 0x400a0018
def SCHED_TRACE_WIDX : Fld := ⟨A_SCHED_TRACE_WIDX, 0, 16⟩
def A_SCHED_TRACE_LOST : Nat := 0x400a001c
def SCHED_TRACE_LOST : Fld := ⟨A_SCHED_TRACE_LOST, 0, 32⟩
def A_SCHED_SET : Nat := 0x400a0020
def SCHED_SET_TASK : Fld := ⟨A_SCHED_SET, 0, 8⟩
def SCHED_SET_FLAG : Fld := ⟨A_SCHED_SET, 8, 5⟩
def A_SCHED_FLAG_OVR : Nat := 0x400a0024
def SCHED_FLAG_OVR : Fld := ⟨A_SCHED_FLAG_OVR, 0, 32⟩
def A_SCHED_ASK : Nat := 0x400a0030
def SCHED_ASK : Fld := ⟨A_SCHED_ASK, 0, 32⟩
def A_SCHED_DONE : Nat := 0x400a0034
def SCHED_DONE_TASK : Fld := ⟨A_SCHED_DONE, 0, 8⟩
def A_SCHED_GOT : Nat := 0x400a0038
def SCHED_GOT : Fld := ⟨A_SCHED_GOT, 0, 32⟩
def A_SCHED_ENG (i : Nat) : Nat := 0x400a0040 + 0x4 * i
def SCHED_ENG_TASK (i : Nat) : Fld := ⟨A_SCHED_ENG i, 0, 8⟩
def SCHED_ENG_HOLDING (i : Nat) : Fld := ⟨A_SCHED_ENG i, 8, 1⟩
def SCHED_ENG_ASKING (i : Nat) : Fld := ⟨A_SCHED_ENG i, 9, 1⟩
def A_SCHED_FLOW (i : Nat) : Nat := 0x400a0100 + 0x4 * i
def SCHED_FLOW_TASK (i : Nat) : Fld := ⟨A_SCHED_FLOW i, 0, 8⟩
def SCHED_FLOW_BUSY (i : Nat) : Fld := ⟨A_SCHED_FLOW i, 8, 1⟩
def SCHED_FLOW_HELD (i : Nat) : Fld := ⟨A_SCHED_FLOW i, 16, 8⟩
def A_SCHED_QDEPTH (i : Nat) : Nat := 0x400a0200 + 0x4 * i
def SCHED_QDEPTH (i : Nat) : Fld := ⟨A_SCHED_QDEPTH i, 0, 9⟩
def A_SCHED_ROUTE (i : Nat) : Nat := 0x400a0400 + 0x4 * i
def SCHED_ROUTE_SOURCE (i : Nat) : Fld := ⟨A_SCHED_ROUTE i, 0, 8⟩
def SCHED_ROUTE_TASK (i : Nat) : Fld := ⟨A_SCHED_ROUTE i, 8, 8⟩
def SCHED_ROUTE_FLAG (i : Nat) : Fld := ⟨A_SCHED_ROUTE i, 16, 5⟩
def A_SCHED_TASK_CFG (i : Nat) : Nat := 0x400a1000 + 0x10 * i
def SCHED_TASK_CFG_ENABLE (i : Nat) : Fld := ⟨A_SCHED_TASK_CFG i, 0, 1⟩
def SCHED_TASK_CFG_ALL (i : Nat) : Fld := ⟨A_SCHED_TASK_CFG i, 1, 1⟩
def SCHED_TASK_CFG_LEVEL (i : Nat) : Fld := ⟨A_SCHED_TASK_CFG i, 4, 3⟩
def SCHED_TASK_CFG_FLOW (i : Nat) : Fld := ⟨A_SCHED_TASK_CFG i, 8, 8⟩
def SCHED_TASK_CFG_RUN_LIMIT (i : Nat) : Fld := ⟨A_SCHED_TASK_CFG i, 16, 16⟩
def A_SCHED_TASK_AFF (i : Nat) : Nat := 0x400a1004 + 0x10 * i
def SCHED_TASK_AFF_AFFINITY (i : Nat) : Fld := ⟨A_SCHED_TASK_AFF i, 0, 18⟩
def SCHED_TASK_AFF_ARG (i : Nat) : Fld := ⟨A_SCHED_TASK_AFF i, 18, 14⟩
def A_SCHED_TASK_WAIT (i : Nat) : Nat := 0x400a1008 + 0x10 * i
def SCHED_TASK_WAIT (i : Nat) : Fld := ⟨A_SCHED_TASK_WAIT i, 0, 32⟩
def A_SCHED_TASK_STAT (i : Nat) : Nat := 0x400a100c + 0x10 * i
def SCHED_TASK_STAT_STATE (i : Nat) : Fld := ⟨A_SCHED_TASK_STAT i, 0, 3⟩
def SCHED_TASK_STAT_OVERRUN (i : Nat) : Fld := ⟨A_SCHED_TASK_STAT i, 3, 1⟩
def SCHED_TASK_STAT_LATE (i : Nat) : Fld := ⟨A_SCHED_TASK_STAT i, 4, 1⟩
def SCHED_TASK_STAT_ELEVEL (i : Nat) : Fld := ⟨A_SCHED_TASK_STAT i, 5, 3⟩
def SCHED_TASK_STAT_ENGINE (i : Nat) : Fld := ⟨A_SCHED_TASK_STAT i, 8, 5⟩
def SCHED_TASK_STAT_WAIT_NOW (i : Nat) : Fld := ⟨A_SCHED_TASK_STAT i, 16, 16⟩
def A_SCHED_FLAGS (i : Nat) : Nat := 0x400a2000 + 0x4 * i
def SCHED_FLAGS (i : Nat) : Fld := ⟨A_SCHED_FLAGS i, 0, 32⟩
def A_SCHED_FLAGS_CLR (i : Nat) : Nat := 0x400a2400 + 0x4 * i
def SCHED_FLAGS_CLR (i : Nat) : Fld := ⟨A_SCHED_FLAGS_CLR i, 0, 32⟩
def A_SCHED_ST_WIN : Nat := 0x400a3000
def SCHED_ST_WIN : Fld := ⟨A_SCHED_ST_WIN, 0, 32⟩
def A_SCHED_ST_BUSY (i : Nat) : Nat := 0x400a3100 + 0x4 * i
def SCHED_ST_BUSY (i : Nat) : Fld := ⟨A_SCHED_ST_BUSY i, 0, 32⟩
def A_SCHED_ST_GRANTS (i : Nat) : Nat := 0x400a3180 + 0x4 * i
def SCHED_ST_GRANTS (i : Nat) : Fld := ⟨A_SCHED_ST_GRANTS i, 0, 32⟩
def A_SCHED_ST_QMAX (i : Nat) : Nat := 0x400a3200 + 0x4 * i
def SCHED_ST_QMAX (i : Nat) : Fld := ⟨A_SCHED_ST_QMAX i, 0, 32⟩
def A_SCHED_ST_QSUM (i : Nat) : Nat := 0x400a3220 + 0x4 * i
def SCHED_ST_QSUM (i : Nat) : Fld := ⟨A_SCHED_ST_QSUM i, 0, 32⟩
def A_SCHED_ST_WMAX (i : Nat) : Nat := 0x400a3400 + 0x4 * i
def SCHED_ST_WMAX (i : Nat) : Fld := ⟨A_SCHED_ST_WMAX i, 0, 32⟩
def A_SCHED_ST_WSUM (i : Nat) : Nat := 0x400a3800 + 0x4 * i
def SCHED_ST_WSUM (i : Nat) : Fld := ⟨A_SCHED_ST_WSUM i, 0, 32⟩
def A_SCHED_ST_WCNT (i : Nat) : Nat := 0x400a3c00 + 0x4 * i
def SCHED_ST_WCNT (i : Nat) : Fld := ⟨A_SCHED_ST_WCNT i, 0, 32⟩

/-- Every register of block SCHED: address of index 0, array strides and counts, fields (R341). -/
def regsSCHED_0 : List RegDesc := [
  ⟨0x400a0000, [], [⟨0, 1, .wo, 0x0⟩, ⟨31, 1, .w1s, 0x0⟩]⟩,
  ⟨0x400a0004, [], [⟨0, 9, .ro, 0x0⟩, ⟨9, 9, .ro, 0x0⟩, ⟨18, 5, .ro, 0x0⟩, ⟨23, 1, .w1c, 0x0⟩]⟩,
  ⟨0x400a0008, [], [⟨0, 16, .wl, 0x0⟩, ⟨16, 3, .wl, 0x0⟩]⟩,
  ⟨0x400a000c, [], [⟨0, 2, .rw, 0x0⟩, ⟨2, 1, .ro, 0x0⟩, ⟨3, 1, .ro, 0x0⟩]⟩,
  ⟨0x400a0010, [], [⟨4, 22, .rw, 0x0⟩]⟩,
  ⟨0x400a0014, [], [⟨0, 16, .rw, 0x0⟩]⟩,
  ⟨0x400a0018, [], [⟨0, 16, .ro, 0x0⟩]⟩,
  ⟨0x400a001c, [], [⟨0, 32, .rc, 0x0⟩]⟩,
  ⟨0x400a0020, [], [⟨0, 8, .wo, 0x0⟩, ⟨8, 5, .wo, 0x0⟩]⟩,
  ⟨0x400a0024, [], [⟨0, 32, .rc, 0x0⟩]⟩,
  ⟨0x400a0030, [], [⟨0, 32, .ro, 0x0⟩]⟩,
  ⟨0x400a0034, [], [⟨0, 8, .wo, 0x0⟩]⟩,
  ⟨0x400a0038, [], [⟨0, 32, .ro, 0x0⟩]⟩,
  ⟨0x400a0040, [(0x4, 18)], [⟨0, 8, .ro, 0x0⟩, ⟨8, 1, .ro, 0x0⟩, ⟨9, 1, .ro, 0x0⟩]⟩,
  ⟨0x400a0100, [(0x4, 64)], [⟨0, 8, .ro, 0x0⟩, ⟨8, 1, .ro, 0x0⟩, ⟨16, 8, .ro, 0x0⟩]⟩,
  ⟨0x400a0200, [(0x4, 8)], [⟨0, 9, .ro, 0x0⟩]⟩,
  ⟨0x400a0400, [(0x4, 64)], [⟨0, 8, .wl, 0x0⟩, ⟨8, 8, .wl, 0x0⟩, ⟨16, 5, .wl, 0x0⟩]⟩,
  ⟨0x400a1000, [(0x10, 256)], [⟨0, 1, .rw, 0x0⟩, ⟨1, 1, .wl, 0x0⟩, ⟨4, 3, .wl, 0x0⟩, ⟨8, 8, .wl, 0xff⟩, ⟨16, 16, .wl, 0x0⟩]⟩,
  ⟨0x400a1004, [(0x10, 256)], [⟨0, 18, .wl, 0x0⟩, ⟨18, 14, .wl, 0x0⟩]⟩,
  ⟨0x400a1008, [(0x10, 256)], [⟨0, 32, .rw, 0x0⟩]⟩,
  ⟨0x400a100c, [(0x10, 256)], [⟨0, 3, .ro, 0x0⟩, ⟨3, 1, .w1c, 0x0⟩, ⟨4, 1, .w1c, 0x0⟩, ⟨5, 3, .ro, 0x0⟩, ⟨8, 5, .ro, 0x1f⟩, ⟨16, 16, .ro, 0x0⟩]⟩,
  ⟨0x400a2000, [(0x4, 256)], [⟨0, 32, .w1s, 0x0⟩]⟩,
  ⟨0x400a2400, [(0x4, 256)], [⟨0, 32, .w1c, 0x0⟩]⟩,
  ⟨0x400a3000, [], [⟨0, 32, .ro, 0x0⟩]⟩,
  ⟨0x400a3100, [(0x4, 18)], [⟨0, 32, .ro, 0x0⟩]⟩,
  ⟨0x400a3180, [(0x4, 18)], [⟨0, 32, .ro, 0x0⟩]⟩,
  ⟨0x400a3200, [(0x4, 8)], [⟨0, 32, .ro, 0x0⟩]⟩,
  ⟨0x400a3220, [(0x4, 8)], [⟨0, 32, .ro, 0x0⟩]⟩,
  ⟨0x400a3400, [(0x4, 256)], [⟨0, 32, .ro, 0x0⟩]⟩,
  ⟨0x400a3800, [(0x4, 256)], [⟨0, 32, .ro, 0x0⟩]⟩]
def regsSCHED_1 : List RegDesc := [
  ⟨0x400a3c00, [(0x4, 256)], [⟨0, 32, .ro, 0x0⟩]⟩]
def regsSCHED : List RegDesc := regsSCHED_0 ++ regsSCHED_1

/-! ### Block SND at 0x400b0000 (R342) -/

def A_SND_CTRL_ALL : Nat := 0x400b0000
def SND_CTRL_ALL_LOCK : Fld := ⟨A_SND_CTRL_ALL, 31, 1⟩
def A_SND_CTRL (i : Nat) : Nat := 0x400b1000 + 0x100 * i
def SND_CTRL_HALT (i : Nat) : Fld := ⟨A_SND_CTRL i, 0, 1⟩
def SND_CTRL_RUN (i : Nat) : Fld := ⟨A_SND_CTRL i, 1, 1⟩
def SND_CTRL_RESET (i : Nat) : Fld := ⟨A_SND_CTRL i, 2, 1⟩
def A_SND_STAT (i : Nat) : Nat := 0x400b1004 + 0x100 * i
def SND_STAT_STATE (i : Nat) : Fld := ⟨A_SND_STAT i, 0, 3⟩
def SND_STAT_HOLDING (i : Nat) : Fld := ⟨A_SND_STAT i, 3, 1⟩
def SND_STAT_TASK (i : Nat) : Fld := ⟨A_SND_STAT i, 4, 8⟩
def SND_STAT_FAULT (i : Nat) : Fld := ⟨A_SND_STAT i, 12, 4⟩
def SND_STAT_FAULT_EV (i : Nat) : Fld := ⟨A_SND_STAT i, 16, 1⟩
def A_SND_PC (i : Nat) : Nat := 0x400b1008 + 0x100 * i
def SND_PC (i : Nat) : Fld := ⟨A_SND_PC i, 0, 32⟩
def A_SND_ENTRY (i : Nat) : Nat := 0x400b100c + 0x100 * i
def SND_ENTRY (i : Nat) : Fld := ⟨A_SND_ENTRY i, 0, 32⟩
def A_SND_FPSTAT (i : Nat) : Nat := 0x400b1010 + 0x100 * i
def SND_FPSTAT (i : Nat) : Fld := ⟨A_SND_FPSTAT i, 0, 5⟩
def A_SND_FPSTAT_HC (i : Nat) : Nat := 0x400b2010 + 0x100 * i
def A_SND_CYCLES (i : Nat) : Nat := 0x400b1014 + 0x100 * i
def SND_CYCLES (i : Nat) : Fld := ⟨A_SND_CYCLES i, 0, 32⟩

/-- Every register of block SND: address of index 0, array strides and counts, fields (R342). -/
def regsSND_0 : List RegDesc := [
  ⟨0x400b0000, [], [⟨31, 1, .w1s, 0x0⟩]⟩,
  ⟨0x400b1000, [(0x100, 18)], [⟨0, 1, .wo, 0x0⟩, ⟨1, 1, .wo, 0x0⟩, ⟨2, 1, .wo, 0x0⟩]⟩,
  ⟨0x400b1004, [(0x100, 18)], [⟨0, 3, .ro, 0x0⟩, ⟨3, 1, .ro, 0x0⟩, ⟨4, 8, .ro, 0x0⟩, ⟨12, 4, .ro, 0x0⟩, ⟨16, 1, .w1c, 0x0⟩]⟩,
  ⟨0x400b1008, [(0x100, 18)], [⟨0, 32, .ro, 0x0⟩]⟩,
  ⟨0x400b100c, [(0x100, 18)], [⟨0, 32, .ro, 0x0⟩]⟩,
  ⟨0x400b1010, [(0x100, 16)], [⟨0, 5, .w1c, 0x0⟩]⟩,
  ⟨0x400b2010, [(0x100, 2)], []⟩,
  ⟨0x400b1014, [(0x100, 18)], [⟨0, 32, .rc, 0x0⟩]⟩]
def regsSND : List RegDesc := regsSND_0

end Sys2Proof.Machine
end

