-- ==== Sys2Proof/Machine/RegMapB.lean ====
section
/-! DEFINITION. The Balgal register map, blocks CONV to PWR (chapter Balgal register maps and the chapters it names).
One address function and one field constant per register and field of the register tables of the spec, and the
table of every register of a block: its offset, its array strides and counts, its fields with access code and reset value. -/

namespace Sys2Proof.Machine

/-! ### Block CONV at 0x400c0000 (R424) -/

def A_CONV_CTRL : Nat := 0x400c0000
def CONV_CTRL_LOCK : Fld := ⟨A_CONV_CTRL, 31, 1⟩
def A_CONV_MAINS_STAT : Nat := 0x400c0004
def CONV_MAINS_STAT_STATE : Fld := ⟨A_CONV_MAINS_STAT, 0, 3⟩
def CONV_MAINS_STAT_HOLD_EV : Fld := ⟨A_CONV_MAINS_STAT, 3, 1⟩
def A_CONV_MAINS_LEN : Nat := 0x400c0008
def CONV_MAINS_LEN : Fld := ⟨A_CONV_MAINS_LEN, 0, 24⟩
def A_CONV_MAINS_T : Nat := 0x400c000c
def CONV_MAINS_T : Fld := ⟨A_CONV_MAINS_T, 0, 32⟩
def A_CONV_MAINS_SW : Nat := 0x400c0010
def CONV_MAINS_SW : Fld := ⟨A_CONV_MAINS_SW, 0, 24⟩
def A_CONV_TRIG : Nat := 0x400c0014
def CONV_TRIG : Fld := ⟨A_CONV_TRIG, 0, 24⟩
def A_CONV_REJ_CNT : Nat := 0x400c0018
def CONV_REJ_CNT : Fld := ⟨A_CONV_REJ_CNT, 0, 32⟩
def A_CONV_CFG (i : Nat) : Nat := 0x400c1000 + 0x100 * i
def CONV_CFG_MASK (i : Nat) : Fld := ⟨A_CONV_CFG i, 0, 4⟩
def CONV_CFG_GAIN (i : Nat) : Fld := ⟨A_CONV_CFG i, 4, 2⟩
def CONV_CFG_FILT (i : Nat) : Fld := ⟨A_CONV_CFG i, 6, 2⟩
def CONV_CFG_MODE (i : Nat) : Fld := ⟨A_CONV_CFG i, 8, 1⟩
def CONV_CFG_DWELL (i : Nat) : Fld := ⟨A_CONV_CFG i, 16, 8⟩
def CONV_CFG_PEND (i : Nat) : Fld := ⟨A_CONV_CFG i, 24, 1⟩
def A_CONV_STAT (i : Nat) : Nat := 0x400c1004 + 0x100 * i
def CONV_STAT_INPUT (i : Nat) : Fld := ⟨A_CONV_STAT i, 0, 2⟩
def CONV_STAT_SCANNING (i : Nat) : Fld := ⟨A_CONV_STAT i, 2, 1⟩
def CONV_STAT_TPEND (i : Nat) : Fld := ⟨A_CONV_STAT i, 3, 1⟩
def CONV_STAT_D (i : Nat) : Fld := ⟨A_CONV_STAT i, 4, 4⟩
def CONV_STAT_RATE_EV (i : Nat) : Fld := ⟨A_CONV_STAT i, 8, 1⟩
def CONV_STAT_OVR_EV (i : Nat) : Fld := ⟨A_CONV_STAT i, 9, 1⟩
def A_CONV_STREAM_CTRL (i : Nat) : Nat := 0x400c1008 + 0x100 * i
def CONV_STREAM_CTRL_EN (i : Nat) : Fld := ⟨A_CONV_STREAM_CTRL i, 0, 1⟩
def CONV_STREAM_CTRL_KIND (i : Nat) : Fld := ⟨A_CONV_STREAM_CTRL i, 1, 2⟩
def CONV_STREAM_CTRL_RESTORE (i : Nat) : Fld := ⟨A_CONV_STREAM_CTRL i, 3, 1⟩
def A_CONV_STREAM_BASE (i : Nat) : Nat := 0x400c100c + 0x100 * i
def CONV_STREAM_BASE_BASE (i : Nat) : Fld := ⟨A_CONV_STREAM_BASE i, 4, 22⟩
def A_CONV_STREAM_SIZE (i : Nat) : Nat := 0x400c1010 + 0x100 * i
def CONV_STREAM_SIZE (i : Nat) : Fld := ⟨A_CONV_STREAM_SIZE i, 0, 16⟩
def A_CONV_STREAM_WIDX (i : Nat) : Nat := 0x400c1014 + 0x100 * i
def CONV_STREAM_WIDX (i : Nat) : Fld := ⟨A_CONV_STREAM_WIDX i, 0, 16⟩
def A_CONV_STREAM_LOST (i : Nat) : Nat := 0x400c1018 + 0x100 * i
def CONV_STREAM_LOST (i : Nat) : Fld := ⟨A_CONV_STREAM_LOST i, 0, 32⟩
def A_CONV_TRIG_LOST (i : Nat) : Nat := 0x400c101c + 0x100 * i
def CONV_TRIG_LOST (i : Nat) : Fld := ⟨A_CONV_TRIG_LOST i, 0, 32⟩
def A_CONV_SCALE (i j : Nat) : Nat := 0x400c1020 + 0x100 * i + 0x4 * j
def CONV_SCALE (i j : Nat) : Fld := ⟨A_CONV_SCALE i j, 0, 32⟩
def A_CONV_OFFSET (i j : Nat) : Nat := 0x400c1030 + 0x100 * i + 0x4 * j
def CONV_OFFSET (i j : Nat) : Fld := ⟨A_CONV_OFFSET i j, 0, 32⟩
def A_CONV_RES (i j k : Nat) : Nat := 0x400c1040 + 0x100 * i + 0x10 * j + 0x4 * k
def CONV_RES_CODE (i j k : Nat) : Fld := ⟨A_CONV_RES i j k, 0, 24⟩
def CONV_RES_SETTLE (i j k : Nat) : Fld := ⟨A_CONV_RES i j k, 24, 1⟩
def CONV_RES_OVR (i j k : Nat) : Fld := ⟨A_CONV_RES i j k, 25, 1⟩
def CONV_RES_FULL (i j k : Nat) : Fld := ⟨A_CONV_RES i j k, 26, 1⟩
def CONV_RES_SEQ (i j k : Nat) : Fld := ⟨A_CONV_RES i j k, 28, 4⟩
def A_CONV_VAL (i j : Nat) : Nat := 0x400c1080 + 0x100 * i + 0x4 * j
def CONV_VAL (i j : Nat) : Fld := ⟨A_CONV_VAL i j, 0, 32⟩

/-- Every register of block CONV: address of index 0, array strides and counts, fields (R424). -/
def regsCONV_0 : List RegDesc := [
  ⟨0x400c0000, [], [⟨31, 1, .w1s, 0x0⟩]⟩,
  ⟨0x400c0004, [], [⟨0, 3, .ro, 0x0⟩, ⟨3, 1, .w1c, 0x0⟩]⟩,
  ⟨0x400c0008, [], [⟨0, 24, .ro, 0x0⟩]⟩,
  ⟨0x400c000c, [], [⟨0, 32, .ro, 0x0⟩]⟩,
  ⟨0x400c0010, [], [⟨0, 24, .rw, 0x0⟩]⟩,
  ⟨0x400c0014, [], [⟨0, 24, .wo, 0x0⟩]⟩,
  ⟨0x400c0018, [], [⟨0, 32, .rc, 0x0⟩]⟩,
  ⟨0x400c1000, [(0x100, 24)], [⟨0, 4, .rw, 0x0⟩, ⟨4, 2, .rw, 0x0⟩, ⟨6, 2, .rw, 0x0⟩, ⟨8, 1, .rw, 0x0⟩, ⟨16, 8, .rw, 0x0⟩, ⟨24, 1, .ro, 0x0⟩]⟩,
  ⟨0x400c1004, [(0x100, 24)], [⟨0, 2, .ro, 0x0⟩, ⟨2, 1, .ro, 0x0⟩, ⟨3, 1, .ro, 0x0⟩, ⟨4, 4, .ro, 0x0⟩, ⟨8, 1, .w1c, 0x0⟩, ⟨9, 1, .w1c, 0x0⟩]⟩,
  ⟨0x400c1008, [(0x100, 24)], [⟨0, 1, .rw, 0x0⟩, ⟨1, 2, .rw, 0x0⟩, ⟨3, 1, .wo, 0x0⟩]⟩,
  ⟨0x400c100c, [(0x100, 24)], [⟨4, 22, .wl, 0x0⟩]⟩,
  ⟨0x400c1010, [(0x100, 24)], [⟨0, 16, .wl, 0x0⟩]⟩,
  ⟨0x400c1014, [(0x100, 24)], [⟨0, 16, .ro, 0x0⟩]⟩,
  ⟨0x400c1018, [(0x100, 24)], [⟨0, 32, .rc, 0x0⟩]⟩,
  ⟨0x400c101c, [(0x100, 24)], [⟨0, 32, .rc, 0x0⟩]⟩,
  ⟨0x400c1020, [(0x100, 24), (0x4, 4)], [⟨0, 32, .wl, 0x0⟩]⟩,
  ⟨0x400c1030, [(0x100, 24), (0x4, 4)], [⟨0, 32, .wl, 0x0⟩]⟩,
  ⟨0x400c1040, [(0x100, 24), (0x10, 4), (0x4, 4)], [⟨0, 24, .ro, 0x0⟩, ⟨24, 1, .ro, 0x1⟩, ⟨25, 1, .ro, 0x0⟩, ⟨26, 1, .ro, 0x0⟩, ⟨28, 4, .ro, 0x0⟩]⟩,
  ⟨0x400c1080, [(0x100, 24), (0x4, 4)], [⟨0, 32, .ro, 0x0⟩]⟩]
def regsCONV : List RegDesc := regsCONV_0

/-! ### Block ACQ at 0x400d0000 (R444) -/

def A_ACQ_REC_CTRL : Nat := 0x400d0000
def ACQ_REC_CTRL_ARM : Fld := ⟨A_ACQ_REC_CTRL, 0, 1⟩
def ACQ_REC_CTRL_FORCE : Fld := ⟨A_ACQ_REC_CTRL, 1, 1⟩
def ACQ_REC_CTRL_STOP : Fld := ⟨A_ACQ_REC_CTRL, 2, 1⟩
def ACQ_REC_CTRL_LOCK : Fld := ⟨A_ACQ_REC_CTRL, 31, 1⟩
def A_ACQ_REC_STAT : Nat := 0x400d0004
def ACQ_REC_STAT_STATE : Fld := ⟨A_ACQ_REC_STAT, 0, 3⟩
def ACQ_REC_STAT_SEG : Fld := ⟨A_ACQ_REC_STAT, 3, 6⟩
def ACQ_REC_STAT_D : Fld := ⟨A_ACQ_REC_STAT, 9, 3⟩
def ACQ_REC_STAT_CLIP : Fld := ⟨A_ACQ_REC_STAT, 12, 1⟩
def ACQ_REC_STAT_DONE_EV : Fld := ⟨A_ACQ_REC_STAT, 13, 1⟩
def ACQ_REC_STAT_FULL_EV : Fld := ⟨A_ACQ_REC_STAT, 14, 1⟩
def ACQ_REC_STAT_RATE_EV : Fld := ⟨A_ACQ_REC_STAT, 15, 1⟩
def A_ACQ_REC_CFG : Nat := 0x400d0008
def ACQ_REC_CFG_CH : Fld := ⟨A_ACQ_REC_CFG, 0, 5⟩
def ACQ_REC_CFG_RATE : Fld := ⟨A_ACQ_REC_CFG, 5, 2⟩
def ACQ_REC_CFG_SEGS : Fld := ⟨A_ACQ_REC_CFG, 8, 7⟩
def ACQ_REC_CFG_AUTO : Fld := ⟨A_ACQ_REC_CFG, 16, 1⟩
def ACQ_REC_CFG_REARM : Fld := ⟨A_ACQ_REC_CFG, 17, 1⟩
def ACQ_REC_CFG_OVERWRITE : Fld := ⟨A_ACQ_REC_CFG, 18, 1⟩
def A_ACQ_REC_BASE : Nat := 0x400d000c
def ACQ_REC_BASE_BASE : Fld := ⟨A_ACQ_REC_BASE, 16, 10⟩
def A_ACQ_REC_SIZE : Nat := 0x400d0010
def ACQ_REC_SIZE : Fld := ⟨A_ACQ_REC_SIZE, 0, 9⟩
def A_ACQ_REC_PRE : Nat := 0x400d0014
def ACQ_REC_PRE : Fld := ⟨A_ACQ_REC_PRE, 0, 32⟩
def A_ACQ_REC_POST : Nat := 0x400d0018
def ACQ_REC_POST : Fld := ⟨A_ACQ_REC_POST, 0, 32⟩
def A_ACQ_REC_AUTO : Nat := 0x400d001c
def ACQ_REC_AUTO : Fld := ⟨A_ACQ_REC_AUTO, 0, 16⟩
def A_ACQ_REC_GPRE : Nat := 0x400d0020
def ACQ_REC_GPRE : Fld := ⟨A_ACQ_REC_GPRE, 0, 24⟩
def A_ACQ_REC_GPOST : Nat := 0x400d0024
def ACQ_REC_GPOST : Fld := ⟨A_ACQ_REC_GPOST, 0, 24⟩
def A_ACQ_REC_CAP : Nat := 0x400d0028
def ACQ_REC_CAP : Fld := ⟨A_ACQ_REC_CAP, 0, 32⟩
def A_ACQ_REC_C : Nat := 0x400d002c
def ACQ_REC_C : Fld := ⟨A_ACQ_REC_C, 0, 24⟩
def A_ACQ_TRIG_LOST : Nat := 0x400d0030
def ACQ_TRIG_LOST : Fld := ⟨A_ACQ_TRIG_LOST, 0, 32⟩
def A_ACQ_REC_DROP : Nat := 0x400d0034
def ACQ_REC_DROP : Fld := ⟨A_ACQ_REC_DROP, 0, 32⟩
def A_ACQ_SEG_FULL (i : Nat) : Nat := 0x400d0040 + 0x4 * i
def ACQ_SEG_FULL (i : Nat) : Fld := ⟨A_ACQ_SEG_FULL i, 0, 32⟩
def A_ACQ_CHAN (i : Nat) : Nat := 0x400d0080 + 0x4 * i
def ACQ_CHAN (i : Nat) : Fld := ⟨A_ACQ_CHAN i, 0, 16⟩
def A_ACQ_ENG_CFG (i : Nat) : Nat := 0x400d1000 + 0x40 * i
def ACQ_ENG_CFG_TYPE (i : Nat) : Fld := ⟨A_ACQ_ENG_CFG i, 0, 8⟩
def ACQ_ENG_CFG_POL (i : Nat) : Fld := ⟨A_ACQ_ENG_CFG i, 8, 1⟩
def ACQ_ENG_CFG_EITHER (i : Nat) : Fld := ⟨A_ACQ_ENG_CFG i, 9, 1⟩
def ACQ_ENG_CFG_RATE (i : Nat) : Fld := ⟨A_ACQ_ENG_CFG i, 10, 2⟩
def ACQ_ENG_CFG_CAPTURE (i : Nat) : Fld := ⟨A_ACQ_ENG_CFG i, 12, 1⟩
def ACQ_ENG_CFG_QUAL (i : Nat) : Fld := ⟨A_ACQ_ENG_CFG i, 16, 8⟩
def ACQ_ENG_CFG_HOLD_MODE (i : Nat) : Fld := ⟨A_ACQ_ENG_CFG i, 24, 2⟩
def A_ACQ_ENG_SRC (i : Nat) : Nat := 0x400d1004 + 0x40 * i
def ACQ_ENG_SRC_SOURCE (i : Nat) : Fld := ⟨A_ACQ_ENG_SRC i, 0, 16⟩
def ACQ_ENG_SRC_N (i : Nat) : Fld := ⟨A_ACQ_ENG_SRC i, 16, 7⟩
def ACQ_ENG_SRC_MASK (i : Nat) : Fld := ⟨A_ACQ_ENG_SRC i, 24, 3⟩
def A_ACQ_ENG_LEVEL (i : Nat) : Nat := 0x400d1008 + 0x40 * i
def ACQ_ENG_LEVEL (i : Nat) : Fld := ⟨A_ACQ_ENG_LEVEL i, 0, 32⟩
def A_ACQ_ENG_AUX (i : Nat) : Nat := 0x400d100c + 0x40 * i
def ACQ_ENG_AUX (i : Nat) : Fld := ⟨A_ACQ_ENG_AUX i, 0, 32⟩
def A_ACQ_ENG_HOLD (i : Nat) : Nat := 0x400d1010 + 0x40 * i
def ACQ_ENG_HOLD (i : Nat) : Fld := ⟨A_ACQ_ENG_HOLD i, 0, 20⟩
def A_ACQ_ENG_STAT (i : Nat) : Nat := 0x400d1014 + 0x40 * i
def ACQ_ENG_STAT_EVENT (i : Nat) : Fld := ⟨A_ACQ_ENG_STAT i, 0, 1⟩
def ACQ_ENG_STAT_PRIMED (i : Nat) : Fld := ⟨A_ACQ_ENG_STAT i, 1, 1⟩
def ACQ_ENG_STAT_HOLDING (i : Nat) : Fld := ⟨A_ACQ_ENG_STAT i, 2, 1⟩
def ACQ_ENG_STAT_FIRED_EV (i : Nat) : Fld := ⟨A_ACQ_ENG_STAT i, 3, 1⟩
def A_ACQ_ENG_FIRE_CNT (i : Nat) : Nat := 0x400d1018 + 0x40 * i
def ACQ_ENG_FIRE_CNT (i : Nat) : Fld := ⟨A_ACQ_ENG_FIRE_CNT i, 0, 32⟩
def A_ACQ_ENG_HELD_CNT (i : Nat) : Nat := 0x400d101c + 0x40 * i
def ACQ_ENG_HELD_CNT (i : Nat) : Fld := ⟨A_ACQ_ENG_HELD_CNT i, 0, 32⟩
def A_ACQ_ENG_T (i j : Nat) : Nat := 0x400d1020 + 0x40 * i + 0x4 * j
def ACQ_ENG_T (i j : Nat) : Fld := ⟨A_ACQ_ENG_T i j, 0, 32⟩

/-- Every register of block ACQ: address of index 0, array strides and counts, fields (R444). -/
def regsACQ_0 : List RegDesc := [
  ⟨0x400d0000, [], [⟨0, 1, .wo, 0x0⟩, ⟨1, 1, .wo, 0x0⟩, ⟨2, 1, .wo, 0x0⟩, ⟨31, 1, .w1s, 0x0⟩]⟩,
  ⟨0x400d0004, [], [⟨0, 3, .ro, 0x0⟩, ⟨3, 6, .ro, 0x0⟩, ⟨9, 3, .ro, 0x0⟩, ⟨12, 1, .ro, 0x0⟩, ⟨13, 1, .w1c, 0x0⟩, ⟨14, 1, .w1c, 0x0⟩, ⟨15, 1, .w1c, 0x0⟩]⟩,
  ⟨0x400d0008, [], [⟨0, 5, .wl, 0x0⟩, ⟨5, 2, .wl, 0x0⟩, ⟨8, 7, .wl, 0x0⟩, ⟨16, 1, .wl, 0x0⟩, ⟨17, 1, .wl, 0x0⟩, ⟨18, 1, .wl, 0x0⟩]⟩,
  ⟨0x400d000c, [], [⟨16, 10, .wl, 0x0⟩]⟩,
  ⟨0x400d0010, [], [⟨0, 9, .wl, 0x0⟩]⟩,
  ⟨0x400d0014, [], [⟨0, 32, .rw, 0x0⟩]⟩,
  ⟨0x400d0018, [], [⟨0, 32, .rw, 0x0⟩]⟩,
  ⟨0x400d001c, [], [⟨0, 16, .rw, 0x0⟩]⟩,
  ⟨0x400d0020, [], [⟨0, 24, .ro, 0x0⟩]⟩,
  ⟨0x400d0024, [], [⟨0, 24, .ro, 0x0⟩]⟩,
  ⟨0x400d0028, [], [⟨0, 32, .ro, 0x0⟩]⟩,
  ⟨0x400d002c, [], [⟨0, 24, .ro, 0x0⟩]⟩,
  ⟨0x400d0030, [], [⟨0, 32, .rc, 0x0⟩]⟩,
  ⟨0x400d0034, [], [⟨0, 32, .rc, 0x0⟩]⟩,
  ⟨0x400d0040, [(0x4, 2)], [⟨0, 32, .w1c, 0x0⟩]⟩,
  ⟨0x400d0080, [(0x4, 16)], [⟨0, 16, .wl, 0x0⟩]⟩,
  ⟨0x400d1000, [(0x40, 8)], [⟨0, 8, .wl, 0x0⟩, ⟨8, 1, .wl, 0x0⟩, ⟨9, 1, .wl, 0x0⟩, ⟨10, 2, .wl, 0x0⟩, ⟨12, 1, .wl, 0x0⟩, ⟨16, 8, .wl, 0xff⟩, ⟨24, 2, .wl, 0x0⟩]⟩,
  ⟨0x400d1004, [(0x40, 8)], [⟨0, 16, .wl, 0x0⟩, ⟨16, 7, .wl, 0x0⟩, ⟨24, 3, .wl, 0x0⟩]⟩,
  ⟨0x400d1008, [(0x40, 8)], [⟨0, 32, .rw, 0x0⟩]⟩,
  ⟨0x400d100c, [(0x40, 8)], [⟨0, 32, .rw, 0x0⟩]⟩,
  ⟨0x400d1010, [(0x40, 8)], [⟨0, 20, .rw, 0x0⟩]⟩,
  ⟨0x400d1014, [(0x40, 8)], [⟨0, 1, .ro, 0x0⟩, ⟨1, 1, .ro, 0x0⟩, ⟨2, 1, .ro, 0x0⟩, ⟨3, 1, .w1c, 0x0⟩]⟩,
  ⟨0x400d1018, [(0x40, 8)], [⟨0, 32, .rc, 0x0⟩]⟩,
  ⟨0x400d101c, [(0x40, 8)], [⟨0, 32, .rc, 0x0⟩]⟩,
  ⟨0x400d1020, [(0x40, 8), (0x4, 4)], [⟨0, 32, .ro, 0x0⟩]⟩]
def regsACQ : List RegDesc := regsACQ_0

/-! ### Block MEM at 0x400e0000 (R482) -/

def A_MEM_CTRL : Nat := 0x400e0000
def MEM_CTRL_AUTO_RETIRE : Fld := ⟨A_MEM_CTRL, 0, 1⟩
def MEM_CTRL_LOCK : Fld := ⟨A_MEM_CTRL, 31, 1⟩
def A_MEM_STAT : Nat := 0x400e0004
def MEM_STAT_READY : Fld := ⟨A_MEM_STAT, 0, 4⟩
def MEM_STAT_EXPOSED : Fld := ⟨A_MEM_STAT, 4, 4⟩
def MEM_STAT_UE_EV : Fld := ⟨A_MEM_STAT, 8, 1⟩
def MEM_STAT_RETIRE_EV : Fld := ⟨A_MEM_STAT, 9, 1⟩
def MEM_STAT_BIST_EV : Fld := ⟨A_MEM_STAT, 10, 1⟩
def A_MEM_RETIRE_LIM : Nat := 0x400e0008
def MEM_RETIRE_LIM : Fld := ⟨A_MEM_RETIRE_LIM, 0, 8⟩
def A_MEM_RETIRE : Nat := 0x400e000c
def MEM_RETIRE_BANK : Fld := ⟨A_MEM_RETIRE, 0, 7⟩
def MEM_RETIRE_GO : Fld := ⟨A_MEM_RETIRE, 31, 1⟩
def A_MEM_UE_ADDR : Nat := 0x400e0010
def MEM_UE_ADDR : Fld := ⟨A_MEM_UE_ADDR, 0, 32⟩
def A_MEM_UE_INFO : Nat := 0x400e0014
def MEM_UE_INFO_VALID : Fld := ⟨A_MEM_UE_INFO, 0, 1⟩
def MEM_UE_INFO_OVF : Fld := ⟨A_MEM_UE_INFO, 1, 1⟩
def MEM_UE_INFO_PORT : Fld := ⟨A_MEM_UE_INFO, 2, 1⟩
def MEM_UE_INFO_MASTER : Fld := ⟨A_MEM_UE_INFO, 3, 5⟩
def MEM_UE_INFO_CAUSE : Fld := ⟨A_MEM_UE_INFO, 8, 3⟩
def MEM_UE_INFO_ERASURES : Fld := ⟨A_MEM_UE_INFO, 11, 2⟩
def A_MEM_UE_CNT : Nat := 0x400e0018
def MEM_UE_CNT : Fld := ⟨A_MEM_UE_CNT, 0, 32⟩
def A_MEM_COLL_CNT : Nat := 0x400e001c
def MEM_COLL_CNT : Fld := ⟨A_MEM_COLL_CNT, 0, 32⟩
def A_MEM_RETIRE_REF : Nat := 0x400e0020
def MEM_RETIRE_REF : Fld := ⟨A_MEM_RETIRE_REF, 0, 8⟩
def A_MEM_PWR : Nat := 0x400e0024
def MEM_PWR_OFF : Fld := ⟨A_MEM_PWR, 0, 4⟩
def A_MEM_BANK_FAIL (i : Nat) : Nat := 0x400e0030 + 0x4 * i
def MEM_BANK_FAIL (i : Nat) : Fld := ⟨A_MEM_BANK_FAIL i, 0, 32⟩
def A_MEM_BIST_CTRL : Nat := 0x400e0040
def MEM_BIST_CTRL_EN : Fld := ⟨A_MEM_BIST_CTRL, 0, 1⟩
def MEM_BIST_CTRL_GAP : Fld := ⟨A_MEM_BIST_CTRL, 16, 16⟩
def A_MEM_BIST_STAT : Nat := 0x400e0044
def MEM_BIST_STAT_RUN : Fld := ⟨A_MEM_BIST_STAT, 0, 1⟩
def MEM_BIST_STAT_ACTIVE : Fld := ⟨A_MEM_BIST_STAT, 1, 1⟩
def MEM_BIST_STAT_BANK : Fld := ⟨A_MEM_BIST_STAT, 2, 7⟩
def MEM_BIST_STAT_REGION : Fld := ⟨A_MEM_BIST_STAT, 9, 9⟩
def A_MEM_BIST_FAIL : Nat := 0x400e0048
def MEM_BIST_FAIL_BANK : Fld := ⟨A_MEM_BIST_FAIL, 0, 7⟩
def MEM_BIST_FAIL_WORD : Fld := ⟨A_MEM_BIST_FAIL, 8, 8⟩
def MEM_BIST_FAIL_BIT : Fld := ⟨A_MEM_BIST_FAIL, 16, 7⟩
def MEM_BIST_FAIL_VALID : Fld := ⟨A_MEM_BIST_FAIL, 31, 1⟩
def A_MEM_BIST_WALKS : Nat := 0x400e004c
def MEM_BIST_WALKS : Fld := ⟨A_MEM_BIST_WALKS, 0, 32⟩
def A_MEM_CE_CNT (i : Nat) : Nat := 0x400e0100 + 0x4 * i
def MEM_CE_CNT_CORR (i : Nat) : Fld := ⟨A_MEM_CE_CNT i, 0, 16⟩
def MEM_CE_CNT_REBUILT (i : Nat) : Fld := ⟨A_MEM_CE_CNT i, 16, 16⟩

/-- Every register of block MEM: address of index 0, array strides and counts, fields (R482). -/
def regsMEM_0 : List RegDesc := [
  ⟨0x400e0000, [], [⟨0, 1, .wl, 0x1⟩, ⟨31, 1, .w1s, 0x0⟩]⟩,
  ⟨0x400e0004, [], [⟨0, 4, .ro, 0x0⟩, ⟨4, 4, .ro, 0x0⟩, ⟨8, 1, .w1c, 0x0⟩, ⟨9, 1, .w1c, 0x0⟩, ⟨10, 1, .w1c, 0x0⟩]⟩,
  ⟨0x400e0008, [], [⟨0, 8, .wl, 0x8⟩]⟩,
  ⟨0x400e000c, [], [⟨0, 7, .wo, 0x0⟩, ⟨31, 1, .wo, 0x0⟩]⟩,
  ⟨0x400e0010, [], [⟨0, 32, .ro, 0x0⟩]⟩,
  ⟨0x400e0014, [], [⟨0, 1, .w1c, 0x0⟩, ⟨1, 1, .ro, 0x0⟩, ⟨2, 1, .ro, 0x0⟩, ⟨3, 5, .ro, 0x0⟩, ⟨8, 3, .ro, 0x0⟩, ⟨11, 2, .ro, 0x0⟩]⟩,
  ⟨0x400e0018, [], [⟨0, 32, .rc, 0x0⟩]⟩,
  ⟨0x400e001c, [], [⟨0, 32, .rc, 0x0⟩]⟩,
  ⟨0x400e0020, [], [⟨0, 8, .rc, 0x0⟩]⟩,
  ⟨0x400e0024, [], [⟨0, 4, .rw, 0x0⟩]⟩,
  ⟨0x400e0030, [(0x4, 3)], [⟨0, 32, .ro, 0x0⟩]⟩,
  ⟨0x400e0040, [], [⟨0, 1, .rw, 0x1⟩, ⟨16, 16, .rw, 0x64⟩]⟩,
  ⟨0x400e0044, [], [⟨0, 1, .ro, 0x0⟩, ⟨1, 1, .ro, 0x0⟩, ⟨2, 7, .ro, 0x0⟩, ⟨9, 9, .ro, 0x0⟩]⟩,
  ⟨0x400e0048, [], [⟨0, 7, .ro, 0x0⟩, ⟨8, 8, .ro, 0x0⟩, ⟨16, 7, .ro, 0x0⟩, ⟨31, 1, .w1c, 0x0⟩]⟩,
  ⟨0x400e004c, [], [⟨0, 32, .ro, 0x0⟩]⟩,
  ⟨0x400e0100, [(0x4, 72)], [⟨0, 16, .rc, 0x0⟩, ⟨16, 16, .rc, 0x0⟩]⟩]
def regsMEM : List RegDesc := regsMEM_0

/-! ### Block DMA at 0x400f0000 (R483) -/

def A_DMA_CTRL : Nat := 0x400f0000
def DMA_CTRL_CLEAR : Fld := ⟨A_DMA_CTRL, 0, 1⟩
def DMA_CTRL_LOCK : Fld := ⟨A_DMA_CTRL, 31, 1⟩
def A_DMA_STAT : Nat := 0x400f0004
def DMA_STAT_STOPPED : Fld := ⟨A_DMA_STAT, 0, 1⟩
def DMA_STAT_DRAINED : Fld := ⟨A_DMA_STAT, 1, 1⟩
def DMA_STAT_ERR_EV : Fld := ⟨A_DMA_STAT, 2, 1⟩
def DMA_STAT_DESC_EV : Fld := ⟨A_DMA_STAT, 3, 1⟩
def A_DMA_ERR_ADDR : Nat := 0x400f0008
def DMA_ERR_ADDR : Fld := ⟨A_DMA_ERR_ADDR, 0, 32⟩
def A_DMA_ERR_INFO : Nat := 0x400f000c
def DMA_ERR_INFO_DIR : Fld := ⟨A_DMA_ERR_INFO, 0, 1⟩
def DMA_ERR_INFO_CAUSE : Fld := ⟨A_DMA_ERR_INFO, 1, 3⟩
def A_DMA_ACTIVE : Nat := 0x400f0010
def DMA_ACTIVE : Fld := ⟨A_DMA_ACTIVE, 0, 32⟩
def A_DMA_CH_CTRL (i : Nat) : Nat := 0x400f1000 + 0x40 * i
def DMA_CH_CTRL_START (i : Nat) : Fld := ⟨A_DMA_CH_CTRL i, 0, 1⟩
def DMA_CH_CTRL_ABORT (i : Nat) : Fld := ⟨A_DMA_CH_CTRL i, 1, 1⟩
def DMA_CH_CTRL_RESUME (i : Nat) : Fld := ⟨A_DMA_CH_CTRL i, 2, 1⟩
def DMA_CH_CTRL_PRIO (i : Nat) : Fld := ⟨A_DMA_CH_CTRL i, 4, 2⟩
def A_DMA_CH_DESC (i : Nat) : Nat := 0x400f1004 + 0x40 * i
def DMA_CH_DESC_DESC (i : Nat) : Fld := ⟨A_DMA_CH_DESC i, 5, 27⟩
def A_DMA_CH_STAT (i : Nat) : Nat := 0x400f1008 + 0x40 * i
def DMA_CH_STAT_STATE (i : Nat) : Fld := ⟨A_DMA_CH_STAT i, 0, 3⟩
def DMA_CH_STAT_REFUSED_EV (i : Nat) : Fld := ⟨A_DMA_CH_STAT i, 3, 1⟩
def DMA_CH_STAT_REASON (i : Nat) : Fld := ⟨A_DMA_CH_STAT i, 4, 4⟩
def DMA_CH_STAT_READS (i : Nat) : Fld := ⟨A_DMA_CH_STAT i, 8, 3⟩
def DMA_CH_STAT_WRITES (i : Nat) : Fld := ⟨A_DMA_CH_STAT i, 11, 4⟩
def A_DMA_CH_DONE_BYTES (i : Nat) : Nat := 0x400f100c + 0x40 * i
def DMA_CH_DONE_BYTES (i : Nat) : Fld := ⟨A_DMA_CH_DONE_BYTES i, 0, 25⟩
def A_DMA_CH_CNT (i : Nat) : Nat := 0x400f1010 + 0x40 * i
def DMA_CH_CNT (i : Nat) : Fld := ⟨A_DMA_CH_CNT i, 0, 32⟩

/-- Every register of block DMA: address of index 0, array strides and counts, fields (R483). -/
def regsDMA_0 : List RegDesc := [
  ⟨0x400f0000, [], [⟨0, 1, .wo, 0x0⟩, ⟨31, 1, .w1s, 0x0⟩]⟩,
  ⟨0x400f0004, [], [⟨0, 1, .ro, 0x0⟩, ⟨1, 1, .ro, 0x0⟩, ⟨2, 1, .w1c, 0x0⟩, ⟨3, 1, .w1c, 0x0⟩]⟩,
  ⟨0x400f0008, [], [⟨0, 32, .ro, 0x0⟩]⟩,
  ⟨0x400f000c, [], [⟨0, 1, .ro, 0x0⟩, ⟨1, 3, .ro, 0x0⟩]⟩,
  ⟨0x400f0010, [], [⟨0, 32, .ro, 0x0⟩]⟩,
  ⟨0x400f1000, [(0x40, 32)], [⟨0, 1, .wo, 0x0⟩, ⟨1, 1, .wo, 0x0⟩, ⟨2, 1, .wo, 0x0⟩, ⟨4, 2, .rw, 0x0⟩]⟩,
  ⟨0x400f1004, [(0x40, 32)], [⟨5, 27, .rw, 0x0⟩]⟩,
  ⟨0x400f1008, [(0x40, 32)], [⟨0, 3, .ro, 0x0⟩, ⟨3, 1, .w1c, 0x0⟩, ⟨4, 4, .ro, 0x0⟩, ⟨8, 3, .ro, 0x0⟩, ⟨11, 4, .ro, 0x0⟩]⟩,
  ⟨0x400f100c, [(0x40, 32)], [⟨0, 25, .ro, 0x0⟩]⟩,
  ⟨0x400f1010, [(0x40, 32)], [⟨0, 32, .rc, 0x0⟩]⟩]
def regsDMA : List RegDesc := regsDMA_0

/-! ### Block FLT at 0x40100000 (R507,R663) -/

def A_FLT_CTRL : Nat := 0x40100000
def FLT_CTRL_LOCK : Fld := ⟨A_FLT_CTRL, 31, 1⟩
def A_FLT_STAT : Nat := 0x40100004
def FLT_STAT_STATE : Fld := ⟨A_FLT_STAT, 0, 2⟩
def FLT_STAT_QUIETING : Fld := ⟨A_FLT_STAT, 2, 1⟩
def FLT_STAT_RECOVERED_EV : Fld := ⟨A_FLT_STAT, 3, 1⟩
def FLT_STAT_FATAL_EV : Fld := ⟨A_FLT_STAT, 4, 1⟩
def FLT_STAT_ALIVE : Fld := ⟨A_FLT_STAT, 5, 1⟩
def A_FLT_RECOVER_CNT : Nat := 0x40100008
def FLT_RECOVER_CNT : Fld := ⟨A_FLT_RECOVER_CNT, 0, 16⟩
def A_FLT_TIMING : Nat := 0x4010000c
def FLT_TIMING_REACT_C : Fld := ⟨A_FLT_TIMING, 0, 16⟩
def FLT_TIMING_REACT_U : Fld := ⟨A_FLT_TIMING, 16, 16⟩
def A_FLT_QUIET : Nat := 0x40100010
def FLT_QUIET_QUIET_MS : Fld := ⟨A_FLT_QUIET, 0, 16⟩
def FLT_QUIET_REC_MAX : Fld := ⟨A_FLT_QUIET, 16, 8⟩
def A_FLT_SW : Nat := 0x40100014
def FLT_SW_UNIT : Fld := ⟨A_FLT_SW, 0, 3⟩
def FLT_SW_DATA : Fld := ⟨A_FLT_SW, 8, 24⟩
def A_FLT_REC0 (i : Nat) : Nat := 0x40100020 + 0x20 * i
def FLT_REC0_ID (i : Nat) : Fld := ⟨A_FLT_REC0 i, 0, 10⟩
def FLT_REC0_ESC (i : Nat) : Fld := ⟨A_FLT_REC0 i, 10, 1⟩
def FLT_REC0_ESC_CAUSE (i : Nat) : Fld := ⟨A_FLT_REC0 i, 11, 2⟩
def FLT_REC0_OVF (i : Nat) : Fld := ⟨A_FLT_REC0 i, 13, 1⟩
def FLT_REC0_VALID (i : Nat) : Fld := ⟨A_FLT_REC0 i, 31, 1⟩
def A_FLT_REC1 (i : Nat) : Nat := 0x40100024 + 0x20 * i
def FLT_REC1 (i : Nat) : Fld := ⟨A_FLT_REC1 i, 0, 32⟩
def A_FLT_REC2 (i : Nat) : Nat := 0x40100028 + 0x20 * i
def FLT_REC2 (i : Nat) : Fld := ⟨A_FLT_REC2 i, 0, 30⟩
def A_FLT_REC3 (i : Nat) : Nat := 0x4010002c + 0x20 * i
def FLT_REC3 (i : Nat) : Fld := ⟨A_FLT_REC3 i, 0, 32⟩
def A_FLT_REC4 (i : Nat) : Nat := 0x40100030 + 0x20 * i
def FLT_REC4 (i : Nat) : Fld := ⟨A_FLT_REC4 i, 0, 16⟩
def A_FLT_PREV (i : Nat) : Nat := 0x40100080 + 0x4 * i
def FLT_PREV (i : Nat) : Fld := ⟨A_FLT_PREV i, 0, 32⟩
def A_FLT_BLK_CAUSE (i : Nat) : Nat := 0x40100200 + 0x4 * i
def FLT_BLK_CAUSE (i : Nat) : Fld := ⟨A_FLT_BLK_CAUSE i, 0, 32⟩
def A_FLT_BLK_MASK (i : Nat) : Nat := 0x40100300 + 0x4 * i
def FLT_BLK_MASK (i : Nat) : Fld := ⟨A_FLT_BLK_MASK i, 0, 32⟩
def A_FLT_CLASS (i : Nat) : Nat := 0x40101000 + 0x4 * i
def FLT_CLASS_CLASS (i : Nat) : Fld := ⟨A_FLT_CLASS i, 0, 2⟩
def FLT_CLASS_LATCH (i : Nat) : Fld := ⟨A_FLT_CLASS i, 2, 1⟩
def A_FLT_CNT (i : Nat) : Nat := 0x40102000 + 0x4 * i
def FLT_CNT (i : Nat) : Fld := ⟨A_FLT_CNT i, 0, 16⟩

/-- Every register of block FLT: address of index 0, array strides and counts, fields (R507,R663). -/
def regsFLT_0 : List RegDesc := [
  ⟨0x40100000, [], [⟨31, 1, .w1s, 0x0⟩]⟩,
  ⟨0x40100004, [], [⟨0, 2, .ro, 0x0⟩, ⟨2, 1, .ro, 0x0⟩, ⟨3, 1, .w1c, 0x0⟩, ⟨4, 1, .w1c, 0x0⟩, ⟨5, 1, .ro, 0x0⟩]⟩,
  ⟨0x40100008, [], [⟨0, 16, .ro, 0x0⟩]⟩,
  ⟨0x4010000c, [], [⟨0, 16, .wl, 0x0⟩, ⟨16, 16, .wl, 0x3e8⟩]⟩,
  ⟨0x40100010, [], [⟨0, 16, .wl, 0x0⟩, ⟨16, 8, .wl, 0x0⟩]⟩,
  ⟨0x40100014, [], [⟨0, 3, .wo, 0x0⟩, ⟨8, 24, .wo, 0x0⟩]⟩,
  ⟨0x40100020, [(0x20, 3)], [⟨0, 10, .ro, 0x0⟩, ⟨10, 1, .ro, 0x0⟩, ⟨11, 2, .ro, 0x0⟩, ⟨13, 1, .ro, 0x0⟩, ⟨31, 1, .w1c, 0x0⟩]⟩,
  ⟨0x40100024, [(0x20, 3)], [⟨0, 32, .ro, 0x0⟩]⟩,
  ⟨0x40100028, [(0x20, 3)], [⟨0, 30, .ro, 0x0⟩]⟩,
  ⟨0x4010002c, [(0x20, 3)], [⟨0, 32, .ro, 0x0⟩]⟩,
  ⟨0x40100030, [(0x20, 3)], [⟨0, 16, .ro, 0x0⟩]⟩,
  ⟨0x40100080, [(0x4, 4)], [⟨0, 32, .ro, 0x0⟩]⟩,
  ⟨0x40100200, [(0x4, 24)], [⟨0, 32, .w1c, 0x0⟩]⟩,
  ⟨0x40100300, [(0x4, 24)], [⟨0, 32, .rw, 0x0⟩]⟩,
  ⟨0x40101000, [(0x4, 768)], [⟨0, 2, .wl, 0x0⟩, ⟨2, 1, .wl, 0x0⟩]⟩,
  ⟨0x40102000, [(0x4, 768)], [⟨0, 16, .rc, 0x0⟩]⟩]
def regsFLT : List RegDesc := regsFLT_0

/-! ### Block RED at 0x40110000 (R531,R664) -/

def A_RED_CTRL : Nat := 0x40110000
def RED_CTRL_REQUEST : Fld := ⟨A_RED_CTRL, 0, 1⟩
def RED_CTRL_LOCK : Fld := ⟨A_RED_CTRL, 31, 1⟩
def A_RED_STAT : Nat := 0x40110004
def RED_STAT_ROLE : Fld := ⟨A_RED_STAT, 0, 2⟩
def RED_STAT_FIT : Fld := ⟨A_RED_STAT, 2, 1⟩
def RED_STAT_MATE_OK : Fld := ⟨A_RED_STAT, 3, 1⟩
def RED_STAT_ARB_LOST : Fld := ⟨A_RED_STAT, 4, 1⟩
def RED_STAT_ALIVE0_RUN : Fld := ⟨A_RED_STAT, 5, 1⟩
def RED_STAT_ALIVE1_RUN : Fld := ⟨A_RED_STAT, 6, 1⟩
def RED_STAT_ORDER_PEND : Fld := ⟨A_RED_STAT, 7, 1⟩
def RED_STAT_GEN : Fld := ⟨A_RED_STAT, 8, 8⟩
def RED_STAT_SWITCH_EV : Fld := ⟨A_RED_STAT, 16, 1⟩
def RED_STAT_BLOCKED_EV : Fld := ⟨A_RED_STAT, 17, 1⟩
def RED_STAT_FENCE_EV : Fld := ⟨A_RED_STAT, 18, 1⟩
def A_RED_UNFIT : Nat := 0x40110008
def RED_UNFIT_STATE : Fld := ⟨A_RED_UNFIT, 0, 1⟩
def RED_UNFIT_CHART : Fld := ⟨A_RED_UNFIT, 1, 1⟩
def RED_UNFIT_TIME : Fld := ⟨A_RED_UNFIT, 2, 1⟩
def RED_UNFIT_SAFETY : Fld := ⟨A_RED_UNFIT, 3, 1⟩
def RED_UNFIT_MATE : Fld := ⟨A_RED_UNFIT, 4, 1⟩
def RED_UNFIT_COPY : Fld := ⟨A_RED_UNFIT, 5, 1⟩
def RED_UNFIT_LANES : Fld := ⟨A_RED_UNFIT, 6, 1⟩
def RED_UNFIT_SHADOW : Fld := ⟨A_RED_UNFIT, 7, 1⟩
def RED_UNFIT_BIST : Fld := ⟨A_RED_UNFIT, 8, 1⟩
def RED_UNFIT_SETTLING : Fld := ⟨A_RED_UNFIT, 9, 1⟩
def A_RED_HEALTH_OWN : Nat := 0x4011000c
def RED_HEALTH_OWN : Fld := ⟨A_RED_HEALTH_OWN, 0, 32⟩
def A_RED_HEALTH_MATE : Nat := 0x40110010
def RED_HEALTH_MATE : Fld := ⟨A_RED_HEALTH_MATE, 0, 32⟩
def A_RED_HEALTH_ARB : Nat := 0x40110014
def RED_HEALTH_ARB : Fld := ⟨A_RED_HEALTH_ARB, 0, 32⟩
def A_RED_SHADOW_CFG : Nat := 0x40110018
def RED_SHADOW_CFG_TOL : Fld := ⟨A_RED_SHADOW_CFG, 0, 8⟩
def RED_SHADOW_CFG_MAX : Fld := ⟨A_RED_SHADOW_CFG, 8, 16⟩
def A_RED_SHADOW_CNT : Nat := 0x4011001c
def RED_SHADOW_CNT : Fld := ⟨A_RED_SHADOW_CNT, 0, 32⟩
def A_RED_WITNESS : Nat := 0x40110020
def RED_WITNESS_NUM : Fld := ⟨A_RED_WITNESS, 0, 7⟩
def RED_WITNESS_CYCLES : Fld := ⟨A_RED_WITNESS, 8, 3⟩
def A_RED_LAST_K : Nat := 0x40110024
def RED_LAST_K : Fld := ⟨A_RED_LAST_K, 0, 32⟩
def A_RED_SW_CNT : Nat := 0x40110028
def RED_SW_CNT : Fld := ⟨A_RED_SW_CNT, 0, 32⟩
def A_RED_LATE_CNT : Nat := 0x4011002c
def RED_LATE_CNT : Fld := ⟨A_RED_LATE_CNT, 0, 32⟩
def A_RED_ORDER_REJ : Nat := 0x40110030
def RED_ORDER_REJ : Fld := ⟨A_RED_ORDER_REJ, 0, 32⟩
def A_RED_FENCE_CNT : Nat := 0x40110034
def RED_FENCE_CNT : Fld := ⟨A_RED_FENCE_CNT, 0, 32⟩
def A_RED_RELAY_DROP : Nat := 0x40110038
def RED_RELAY_DROP : Fld := ⟨A_RED_RELAY_DROP, 0, 32⟩
def A_RED_REQ_REF : Nat := 0x4011003c
def RED_REQ_REF : Fld := ⟨A_RED_REQ_REF, 0, 32⟩
def A_RED_COPY : Nat := 0x40110040
def RED_COPY_RECORDS : Fld := ⟨A_RED_COPY, 0, 13⟩
def RED_COPY_COPY_DONE : Fld := ⟨A_RED_COPY, 31, 1⟩

/-- Every register of block RED: address of index 0, array strides and counts, fields (R531,R664). -/
def regsRED_0 : List RegDesc := [
  ⟨0x40110000, [], [⟨0, 1, .wo, 0x0⟩, ⟨31, 1, .w1s, 0x0⟩]⟩,
  ⟨0x40110004, [], [⟨0, 2, .ro, 0x0⟩, ⟨2, 1, .ro, 0x0⟩, ⟨3, 1, .ro, 0x0⟩, ⟨4, 1, .ro, 0x0⟩, ⟨5, 1, .ro, 0x0⟩, ⟨6, 1, .ro, 0x0⟩, ⟨7, 1, .ro, 0x0⟩, ⟨8, 8, .ro, 0x0⟩, ⟨16, 1, .w1c, 0x0⟩, ⟨17, 1, .w1c, 0x0⟩, ⟨18, 1, .w1c, 0x0⟩]⟩,
  ⟨0x40110008, [], [⟨0, 1, .ro, 0x1⟩, ⟨1, 1, .ro, 0x0⟩, ⟨2, 1, .ro, 0x1⟩, ⟨3, 1, .ro, 0x1⟩, ⟨4, 1, .ro, 0x1⟩, ⟨5, 1, .ro, 0x1⟩, ⟨6, 1, .ro, 0x1⟩, ⟨7, 1, .ro, 0x0⟩, ⟨8, 1, .ro, 0x0⟩, ⟨9, 1, .ro, 0x1⟩]⟩,
  ⟨0x4011000c, [], [⟨0, 32, .ro, 0x0⟩]⟩,
  ⟨0x40110010, [], [⟨0, 32, .ro, 0x0⟩]⟩,
  ⟨0x40110014, [], [⟨0, 32, .ro, 0x0⟩]⟩,
  ⟨0x40110018, [], [⟨0, 8, .rw, 0x2⟩, ⟨8, 16, .rw, 0x10⟩]⟩,
  ⟨0x4011001c, [], [⟨0, 32, .rc, 0x0⟩]⟩,
  ⟨0x40110020, [], [⟨0, 7, .ro, 0x0⟩, ⟨8, 3, .ro, 0x0⟩]⟩,
  ⟨0x40110024, [], [⟨0, 32, .ro, 0x0⟩]⟩,
  ⟨0x40110028, [], [⟨0, 32, .ro, 0x0⟩]⟩,
  ⟨0x4011002c, [], [⟨0, 32, .rc, 0x0⟩]⟩,
  ⟨0x40110030, [], [⟨0, 32, .rc, 0x0⟩]⟩,
  ⟨0x40110034, [], [⟨0, 32, .rc, 0x0⟩]⟩,
  ⟨0x40110038, [], [⟨0, 32, .rc, 0x0⟩]⟩,
  ⟨0x4011003c, [], [⟨0, 32, .rc, 0x0⟩]⟩,
  ⟨0x40110040, [], [⟨0, 13, .ro, 0x0⟩, ⟨31, 1, .ro, 0x0⟩]⟩]
def regsRED : List RegDesc := regsRED_0

/-! ### Block SAFE at 0x40120000 (R562) -/

def A_SAFE_CTRL : Nat := 0x40120000
def SAFE_CTRL_STOP_REQ : Fld := ⟨A_SAFE_CTRL, 0, 1⟩
def SAFE_CTRL_K_REQ : Fld := ⟨A_SAFE_CTRL, 8, 8⟩
def SAFE_CTRL_LOCK : Fld := ⟨A_SAFE_CTRL, 31, 1⟩
def A_SAFE_STAT : Nat := 0x40120004
def SAFE_STAT_STATE : Fld := ⟨A_SAFE_STAT, 0, 3⟩
def SAFE_STAT_SESSION : Fld := ⟨A_SAFE_STAT, 3, 1⟩
def SAFE_STAT_LOCKOUT : Fld := ⟨A_SAFE_STAT, 4, 1⟩
def SAFE_STAT_MAIN_LOST : Fld := ⟨A_SAFE_STAT, 5, 1⟩
def SAFE_STAT_PW_SET : Fld := ⟨A_SAFE_STAT, 6, 1⟩
def SAFE_STAT_STOP_EV : Fld := ⟨A_SAFE_STAT, 7, 1⟩
def SAFE_STAT_RESET_REF : Fld := ⟨A_SAFE_STAT, 8, 1⟩
def SAFE_STAT_ICAUSE : Fld := ⟨A_SAFE_STAT, 16, 4⟩
def A_SAFE_IN : Nat := 0x40120008
def SAFE_IN_LEVEL : Fld := ⟨A_SAFE_IN, 0, 16⟩
def SAFE_IN_RAW : Fld := ⟨A_SAFE_IN, 16, 16⟩
def A_SAFE_IN_FLT : Nat := 0x4012000c
def SAFE_IN_FLT_SIN : Fld := ⟨A_SAFE_IN_FLT, 0, 16⟩
def SAFE_IN_FLT_TP : Fld := ⟨A_SAFE_IN_FLT, 16, 8⟩
def A_SAFE_OUT : Nat := 0x40120010
def SAFE_OUT_KOUT : Fld := ⟨A_SAFE_OUT, 0, 8⟩
def SAFE_OUT_KFB : Fld := ⟨A_SAFE_OUT, 8, 8⟩
def SAFE_OUT_KFLT : Fld := ⟨A_SAFE_OUT, 16, 8⟩
def A_SAFE_DIGEST : Nat := 0x40120014
def SAFE_DIGEST : Fld := ⟨A_SAFE_DIGEST, 0, 32⟩
def A_SAFE_LOG_SEQ : Nat := 0x40120018
def SAFE_LOG_SEQ : Fld := ⟨A_SAFE_LOG_SEQ, 0, 16⟩
def A_SAFE_STO_CNT : Nat := 0x4012001c
def SAFE_STO_CNT : Fld := ⟨A_SAFE_STO_CNT, 0, 16⟩
def A_SAFE_STO_NS : Nat := 0x40120020
def SAFE_STO_NS : Fld := ⟨A_SAFE_STO_NS, 0, 30⟩
def A_SAFE_STO_SEC : Nat := 0x40120024
def SAFE_STO_SEC : Fld := ⟨A_SAFE_STO_SEC, 0, 32⟩
def A_SAFE_FUNC (i : Nat) : Nat := 0x40120040 + 0x4 * i
def SAFE_FUNC_STATE (i : Nat) : Fld := ⟨A_SAFE_FUNC i, 0, 3⟩
def SAFE_FUNC_DEMAND (i : Nat) : Fld := ⟨A_SAFE_FUNC i, 3, 1⟩
def SAFE_FUNC_CAUSE (i : Nat) : Fld := ⟨A_SAFE_FUNC i, 4, 4⟩
def SAFE_FUNC_DISC (i : Nat) : Fld := ⟨A_SAFE_FUNC i, 8, 1⟩
def SAFE_FUNC_INFLT (i : Nat) : Fld := ⟨A_SAFE_FUNC i, 9, 1⟩
def SAFE_FUNC_KFLT (i : Nat) : Fld := ⟨A_SAFE_FUNC i, 10, 1⟩
def SAFE_FUNC_MON (i : Nat) : Fld := ⟨A_SAFE_FUNC i, 16, 16⟩
def A_SAFE_LOG (i j : Nat) : Nat := 0x40121000 + 0x20 * i + 0x4 * j
def SAFE_LOG (i j : Nat) : Fld := ⟨A_SAFE_LOG i j, 0, 32⟩

/-- Every register of block SAFE: address of index 0, array strides and counts, fields (R562). -/
def regsSAFE_0 : List RegDesc := [
  ⟨0x40120000, [], [⟨0, 1, .wo, 0x0⟩, ⟨8, 8, .rw, 0x0⟩, ⟨31, 1, .w1s, 0x0⟩]⟩,
  ⟨0x40120004, [], [⟨0, 3, .ro, 0x0⟩, ⟨3, 1, .ro, 0x0⟩, ⟨4, 1, .ro, 0x0⟩, ⟨5, 1, .ro, 0x0⟩, ⟨6, 1, .ro, 0x0⟩, ⟨7, 1, .w1c, 0x0⟩, ⟨8, 1, .w1c, 0x0⟩, ⟨16, 4, .ro, 0x0⟩]⟩,
  ⟨0x40120008, [], [⟨0, 16, .ro, 0x0⟩, ⟨16, 16, .ro, 0x0⟩]⟩,
  ⟨0x4012000c, [], [⟨0, 16, .ro, 0x0⟩, ⟨16, 8, .ro, 0x0⟩]⟩,
  ⟨0x40120010, [], [⟨0, 8, .ro, 0x0⟩, ⟨8, 8, .ro, 0x0⟩, ⟨16, 8, .ro, 0x0⟩]⟩,
  ⟨0x40120014, [], [⟨0, 32, .ro, 0x0⟩]⟩,
  ⟨0x40120018, [], [⟨0, 16, .ro, 0x0⟩]⟩,
  ⟨0x4012001c, [], [⟨0, 16, .ro, 0x0⟩]⟩,
  ⟨0x40120020, [], [⟨0, 30, .ro, 0x0⟩]⟩,
  ⟨0x40120024, [], [⟨0, 32, .ro, 0x0⟩]⟩,
  ⟨0x40120040, [(0x4, 4)], [⟨0, 3, .ro, 0x0⟩, ⟨3, 1, .ro, 0x0⟩, ⟨4, 4, .ro, 0x0⟩, ⟨8, 1, .ro, 0x0⟩, ⟨9, 1, .ro, 0x0⟩, ⟨10, 1, .ro, 0x0⟩, ⟨16, 16, .ro, 0x0⟩]⟩,
  ⟨0x40121000, [(0x20, 256), (0x4, 8)], [⟨0, 32, .ro, 0x0⟩]⟩]
def regsSAFE : List RegDesc := regsSAFE_0

/-! ### Block PROF at 0x40130000 (R583) -/

def A_PROF_CTRL : Nat := 0x40130000
def PROF_CTRL_CMD : Fld := ⟨A_PROF_CTRL, 0, 3⟩
def PROF_CTRL_LOCK : Fld := ⟨A_PROF_CTRL, 31, 1⟩
def A_PROF_STAT : Nat := 0x40130004
def PROF_STAT_STATE : Fld := ⟨A_PROF_STAT, 0, 3⟩
def PROF_STAT_CMD_PEND : Fld := ⟨A_PROF_STAT, 3, 1⟩
def PROF_STAT_AT_TARGET : Fld := ⟨A_PROF_STAT, 4, 1⟩
def PROF_STAT_OVERSHOOT : Fld := ⟨A_PROF_STAT, 5, 1⟩
def PROF_STAT_REVERSING : Fld := ⟨A_PROF_STAT, 6, 1⟩
def PROF_STAT_LIMIT_EV : Fld := ⟨A_PROF_STAT, 7, 1⟩
def PROF_STAT_REJ_EV : Fld := ⟨A_PROF_STAT, 8, 1⟩
def PROF_STAT_PHASE : Fld := ⟨A_PROF_STAT, 9, 2⟩
def A_PROF_TARGET : Nat := 0x40130008
def PROF_TARGET : Fld := ⟨A_PROF_TARGET, 0, 32⟩
def A_PROF_V : Nat := 0x4013000c
def PROF_V : Fld := ⟨A_PROF_V, 0, 32⟩
def A_PROF_A : Nat := 0x40130010
def PROF_A : Fld := ⟨A_PROF_A, 0, 32⟩
def A_PROF_D : Nat := 0x40130014
def PROF_D : Fld := ⟨A_PROF_D, 0, 32⟩
def A_PROF_J : Nat := 0x40130018
def PROF_J : Fld := ⟨A_PROF_J, 0, 32⟩
def A_PROF_POS : Nat := 0x4013001c
def PROF_POS : Fld := ⟨A_PROF_POS, 0, 32⟩
def A_PROF_SPD : Nat := 0x40130020
def PROF_SPD : Fld := ⟨A_PROF_SPD, 0, 32⟩
def A_PROF_ACC : Nat := 0x40130024
def PROF_ACC : Fld := ⟨A_PROF_ACC, 0, 32⟩
def A_PROF_ANGLE : Nat := 0x40130028
def PROF_ANGLE : Fld := ⟨A_PROF_ANGLE, 0, 32⟩
def A_PROF_OMEGA : Nat := 0x4013002c
def PROF_OMEGA : Fld := ⟨A_PROF_OMEGA, 0, 32⟩
def A_PROF_END_NS : Nat := 0x40130030
def PROF_END_NS : Fld := ⟨A_PROF_END_NS, 0, 30⟩
def A_PROF_END_SEC : Nat := 0x40130034
def PROF_END_SEC : Fld := ⟨A_PROF_END_SEC, 0, 32⟩
def A_PROF_REPLAN_CNT : Nat := 0x40130038
def PROF_REPLAN_CNT : Fld := ⟨A_PROF_REPLAN_CNT, 0, 32⟩
def A_PROF_REJ_CNT : Nat := 0x4013003c
def PROF_REJ_CNT : Fld := ⟨A_PROF_REJ_CNT, 0, 32⟩
def A_PROF_SERVO : Nat := 0x40130040
def PROF_SERVO_FERRIES : Fld := ⟨A_PROF_SERVO, 0, 9⟩

/-- Every register of block PROF: address of index 0, array strides and counts, fields (R583). -/
def regsPROF_0 : List RegDesc := [
  ⟨0x40130000, [], [⟨0, 3, .wo, 0x0⟩, ⟨31, 1, .w1s, 0x0⟩]⟩,
  ⟨0x40130004, [], [⟨0, 3, .ro, 0x0⟩, ⟨3, 1, .ro, 0x0⟩, ⟨4, 1, .ro, 0x0⟩, ⟨5, 1, .w1c, 0x0⟩, ⟨6, 1, .ro, 0x0⟩, ⟨7, 1, .w1c, 0x0⟩, ⟨8, 1, .w1c, 0x0⟩, ⟨9, 2, .ro, 0x0⟩]⟩,
  ⟨0x40130008, [], [⟨0, 32, .rw, 0x0⟩]⟩,
  ⟨0x4013000c, [], [⟨0, 32, .rw, 0x0⟩]⟩,
  ⟨0x40130010, [], [⟨0, 32, .rw, 0x0⟩]⟩,
  ⟨0x40130014, [], [⟨0, 32, .rw, 0x0⟩]⟩,
  ⟨0x40130018, [], [⟨0, 32, .rw, 0x0⟩]⟩,
  ⟨0x4013001c, [], [⟨0, 32, .ro, 0x0⟩]⟩,
  ⟨0x40130020, [], [⟨0, 32, .ro, 0x0⟩]⟩,
  ⟨0x40130024, [], [⟨0, 32, .ro, 0x0⟩]⟩,
  ⟨0x40130028, [], [⟨0, 32, .rw, 0x0⟩]⟩,
  ⟨0x4013002c, [], [⟨0, 32, .ro, 0x0⟩]⟩,
  ⟨0x40130030, [], [⟨0, 30, .ro, 0x0⟩]⟩,
  ⟨0x40130034, [], [⟨0, 32, .ro, 0x0⟩]⟩,
  ⟨0x40130038, [], [⟨0, 32, .rc, 0x0⟩]⟩,
  ⟨0x4013003c, [], [⟨0, 32, .rc, 0x0⟩]⟩,
  ⟨0x40130040, [], [⟨0, 9, .ro, 0x0⟩]⟩]
def regsPROF : List RegDesc := regsPROF_0

/-! ### Block NET at 0x40140000 (R617,R613) -/

def A_NET_CTRL : Nat := 0x40140000
def NET_CTRL_LOCK : Fld := ⟨A_NET_CTRL, 31, 1⟩
def A_NET_PTP_STAT (i : Nat) : Nat := 0x40141000 + 0x100 * i
def NET_PTP_STAT_PSTATE (i : Nat) : Fld := ⟨A_NET_PTP_STAT i, 0, 4⟩
def NET_PTP_STAT_VALID (i : Nat) : Fld := ⟨A_NET_PTP_STAT i, 4, 1⟩
def NET_PTP_STAT_LINK (i : Nat) : Fld := ⟨A_NET_PTP_STAT i, 5, 1⟩
def A_NET_PTP_DELAY (i : Nat) : Nat := 0x40141004 + 0x100 * i
def NET_PTP_DELAY (i : Nat) : Fld := ⟨A_NET_PTP_DELAY i, 0, 32⟩
def A_NET_PTP_OFS (i : Nat) : Nat := 0x40141008 + 0x100 * i
def NET_PTP_OFS (i : Nat) : Fld := ⟨A_NET_PTP_OFS i, 0, 32⟩
def A_NET_RX_DROP (i : Nat) : Nat := 0x4014100c + 0x100 * i
def NET_RX_DROP (i : Nat) : Fld := ⟨A_NET_RX_DROP i, 0, 32⟩
def A_NET_PTP_IGN (i : Nat) : Nat := 0x40141010 + 0x100 * i
def NET_PTP_IGN (i : Nat) : Fld := ⟨A_NET_PTP_IGN i, 0, 32⟩
def A_NET_SV_STAT (i : Nat) : Nat := 0x40142000 + 0x40 * i
def NET_SV_STAT_STALE (i : Nat) : Fld := ⟨A_NET_SV_STAT i, 0, 1⟩
def NET_SV_STAT_SMPCNT (i : Nat) : Fld := ⟨A_NET_SV_STAT i, 16, 16⟩
def A_NET_SV_WIDX (i : Nat) : Nat := 0x40142004 + 0x40 * i
def NET_SV_WIDX (i : Nat) : Fld := ⟨A_NET_SV_WIDX i, 0, 16⟩
def A_NET_SV_BAD (i : Nat) : Nat := 0x40142008 + 0x40 * i
def NET_SV_BAD (i : Nat) : Fld := ⟨A_NET_SV_BAD i, 0, 32⟩
def A_NET_SV_DUP (i : Nat) : Nat := 0x4014200c + 0x40 * i
def NET_SV_DUP (i : Nat) : Fld := ⟨A_NET_SV_DUP i, 0, 32⟩
def A_NET_GSUB_VAL (i : Nat) : Nat := 0x40143000 + 0x20 * i
def NET_GSUB_VAL (i : Nat) : Fld := ⟨A_NET_GSUB_VAL i, 0, 32⟩
def A_NET_GSUB_STAT (i : Nat) : Nat := 0x40143004 + 0x20 * i
def NET_GSUB_STAT_STALE (i : Nat) : Fld := ⟨A_NET_GSUB_STAT i, 0, 1⟩
def A_NET_GSUB_ST (i : Nat) : Nat := 0x40143008 + 0x20 * i
def NET_GSUB_ST (i : Nat) : Fld := ⟨A_NET_GSUB_ST i, 0, 32⟩
def A_NET_GS_BAD (i : Nat) : Nat := 0x4014300c + 0x20 * i
def NET_GS_BAD (i : Nat) : Fld := ⟨A_NET_GS_BAD i, 0, 32⟩
def A_NET_GPUB_FW (i : Nat) : Nat := 0x40144000 + 0x20 * i
def NET_GPUB_FW (i : Nat) : Fld := ⟨A_NET_GPUB_FW i, 0, 32⟩
def A_NET_GPUB_ST (i : Nat) : Nat := 0x40144004 + 0x20 * i
def NET_GPUB_ST (i : Nat) : Fld := ⟨A_NET_GPUB_ST i, 0, 32⟩
def A_NET_ST_STAT (i : Nat) : Nat := 0x40145000 + 0x100 * i
def NET_ST_STAT_LIVE (i : Nat) : Fld := ⟨A_NET_ST_STAT i, 0, 1⟩
def NET_ST_STAT_PEER_DEPTH (i : Nat) : Fld := ⟨A_NET_ST_STAT i, 4, 4⟩
def NET_ST_STAT_PEER_CONV (i : Nat) : Fld := ⟨A_NET_ST_STAT i, 8, 8⟩
def NET_ST_STAT_PEER_UPSTREAM (i : Nat) : Fld := ⟨A_NET_ST_STAT i, 16, 8⟩
def NET_ST_STAT_PEER_SESSION (i : Nat) : Fld := ⟨A_NET_ST_STAT i, 24, 8⟩
def A_NET_ST_TXCTRL (i : Nat) : Nat := 0x40145004 + 0x100 * i
def NET_ST_TXCTRL_LEN (i : Nat) : Fld := ⟨A_NET_ST_TXCTRL i, 0, 6⟩
def NET_ST_TXCTRL_SEND (i : Nat) : Fld := ⟨A_NET_ST_TXCTRL i, 8, 1⟩
def NET_ST_TXCTRL_TX_BUSY (i : Nat) : Fld := ⟨A_NET_ST_TXCTRL i, 16, 1⟩
def NET_ST_TXCTRL_TX_DONE (i : Nat) : Fld := ⟨A_NET_ST_TXCTRL i, 17, 1⟩
def NET_ST_TXCTRL_TX_FAIL (i : Nat) : Fld := ⟨A_NET_ST_TXCTRL i, 18, 1⟩
def NET_ST_TXCTRL_SEQ (i : Nat) : Fld := ⟨A_NET_ST_TXCTRL i, 24, 8⟩
def A_NET_ST_RXSTAT (i : Nat) : Nat := 0x40145008 + 0x100 * i
def NET_ST_RXSTAT_LEN (i : Nat) : Fld := ⟨A_NET_ST_RXSTAT i, 0, 6⟩
def NET_ST_RXSTAT_RX_FULL (i : Nat) : Fld := ⟨A_NET_ST_RXSTAT i, 8, 1⟩
def NET_ST_RXSTAT_CONV (i : Nat) : Fld := ⟨A_NET_ST_RXSTAT i, 16, 3⟩
def NET_ST_RXSTAT_SEQ (i : Nat) : Fld := ⟨A_NET_ST_RXSTAT i, 24, 8⟩
def A_NET_ST_BAD (i : Nat) : Nat := 0x4014500c + 0x100 * i
def NET_ST_BAD (i : Nat) : Fld := ⟨A_NET_ST_BAD i, 0, 32⟩
def A_NET_ST_RX_WAIT (i : Nat) : Nat := 0x40145010 + 0x100 * i
def NET_ST_RX_WAIT (i : Nat) : Fld := ⟨A_NET_ST_RX_WAIT i, 0, 32⟩
def A_NET_ST_TXBUF (i j : Nat) : Nat := 0x40145040 + 0x100 * i + 0x4 * j
def NET_ST_TXBUF (i j : Nat) : Fld := ⟨A_NET_ST_TXBUF i j, 0, 32⟩
def A_NET_ST_RXBUF (i j : Nat) : Nat := 0x40145080 + 0x100 * i + 0x4 * j
def NET_ST_RXBUF (i j : Nat) : Fld := ⟨A_NET_ST_RXBUF i j, 0, 32⟩

/-- Every register of block NET: address of index 0, array strides and counts, fields (R617,R613). -/
def regsNET_0 : List RegDesc := [
  ⟨0x40140000, [], [⟨31, 1, .w1s, 0x0⟩]⟩,
  ⟨0x40141000, [(0x100, 4)], [⟨0, 4, .ro, 0x0⟩, ⟨4, 1, .ro, 0x0⟩, ⟨5, 1, .ro, 0x0⟩]⟩,
  ⟨0x40141004, [(0x100, 4)], [⟨0, 32, .ro, 0x0⟩]⟩,
  ⟨0x40141008, [(0x100, 4)], [⟨0, 32, .ro, 0x0⟩]⟩,
  ⟨0x4014100c, [(0x100, 4)], [⟨0, 32, .rc, 0x0⟩]⟩,
  ⟨0x40141010, [(0x100, 4)], [⟨0, 32, .rc, 0x0⟩]⟩,
  ⟨0x40142000, [(0x40, 8)], [⟨0, 1, .ro, 0x1⟩, ⟨16, 16, .ro, 0x0⟩]⟩,
  ⟨0x40142004, [(0x40, 8)], [⟨0, 16, .ro, 0x0⟩]⟩,
  ⟨0x40142008, [(0x40, 8)], [⟨0, 32, .rc, 0x0⟩]⟩,
  ⟨0x4014200c, [(0x40, 8)], [⟨0, 32, .rc, 0x0⟩]⟩,
  ⟨0x40143000, [(0x20, 16)], [⟨0, 32, .ro, 0x0⟩]⟩,
  ⟨0x40143004, [(0x20, 16)], [⟨0, 1, .ro, 0x1⟩]⟩,
  ⟨0x40143008, [(0x20, 16)], [⟨0, 32, .ro, 0x0⟩]⟩,
  ⟨0x4014300c, [(0x20, 16)], [⟨0, 32, .rc, 0x0⟩]⟩,
  ⟨0x40144000, [(0x20, 4)], [⟨0, 32, .rw, 0x0⟩]⟩,
  ⟨0x40144004, [(0x20, 4)], [⟨0, 32, .ro, 0x0⟩]⟩,
  ⟨0x40145000, [(0x100, 4)], [⟨0, 1, .ro, 0x0⟩, ⟨4, 4, .ro, 0xf⟩, ⟨8, 8, .ro, 0xff⟩, ⟨16, 8, .ro, 0xff⟩, ⟨24, 8, .ro, 0x0⟩]⟩,
  ⟨0x40145004, [(0x100, 4)], [⟨0, 6, .rw, 0x0⟩, ⟨8, 1, .wo, 0x0⟩, ⟨16, 1, .ro, 0x0⟩, ⟨17, 1, .w1c, 0x0⟩, ⟨18, 1, .w1c, 0x0⟩, ⟨24, 8, .ro, 0x0⟩]⟩,
  ⟨0x40145008, [(0x100, 4)], [⟨0, 6, .ro, 0x0⟩, ⟨8, 1, .w1c, 0x0⟩, ⟨16, 3, .ro, 0x0⟩, ⟨24, 8, .ro, 0x0⟩]⟩,
  ⟨0x4014500c, [(0x100, 4)], [⟨0, 32, .rc, 0x0⟩]⟩,
  ⟨0x40145010, [(0x100, 4)], [⟨0, 32, .rc, 0x0⟩]⟩,
  ⟨0x40145040, [(0x100, 4), (0x4, 12)], [⟨0, 32, .rw, 0x0⟩]⟩,
  ⟨0x40145080, [(0x100, 4), (0x4, 12)], [⟨0, 32, .ro, 0x0⟩]⟩]
def regsNET : List RegDesc := regsNET_0

/-! ### Block HOST at 0x40150000 (R618) -/

def A_HOST_CTRL : Nat := 0x40150000
def HOST_CTRL_LOCK : Fld := ⟨A_HOST_CTRL, 31, 1⟩
def A_HOST_STAT : Nat := 0x40150004
def HOST_STAT_LINK : Fld := ⟨A_HOST_STAT, 0, 1⟩
def HOST_STAT_SPEED : Fld := ⟨A_HOST_STAT, 1, 3⟩
def HOST_STAT_WIDTH : Fld := ⟨A_HOST_STAT, 4, 3⟩
def HOST_STAT_MSIX : Fld := ⟨A_HOST_STAT, 7, 1⟩
def A_HOST_OB_BASE_LO : Nat := 0x40150008
def HOST_OB_BASE_LO_ADDR : Fld := ⟨A_HOST_OB_BASE_LO, 29, 3⟩
def A_HOST_OB_BASE_HI : Nat := 0x4015000c
def HOST_OB_BASE_HI : Fld := ⟨A_HOST_OB_BASE_HI, 0, 32⟩
def A_HOST_MSI_ACK : Nat := 0x40150010
def HOST_MSI_ACK_ACK : Fld := ⟨A_HOST_MSI_ACK, 0, 1⟩
def A_HOST_HDB_SET : Nat := 0x40150014
def HOST_HDB_SET : Fld := ⟨A_HOST_HDB_SET, 0, 32⟩
def A_HOST_HDB : Nat := 0x40150018
def HOST_HDB : Fld := ⟨A_HOST_HDB, 0, 32⟩
def A_HOST_PDB_SET : Nat := 0x4015001c
def HOST_PDB_SET : Fld := ⟨A_HOST_PDB_SET, 0, 32⟩
def A_HOST_PDB : Nat := 0x40150020
def HOST_PDB : Fld := ⟨A_HOST_PDB, 0, 32⟩
def A_HOST_QY_QDB_SET : Nat := 0x40150024
def HOST_QY_QDB_SET : Fld := ⟨A_HOST_QY_QDB_SET, 0, 32⟩
def A_HOST_QDB : Nat := 0x40150028
def HOST_QDB : Fld := ⟨A_HOST_QDB, 0, 32⟩
def A_HOST_QY_PAGE : Nat := 0x4015002c
def HOST_QY_PAGE : Fld := ⟨A_HOST_QY_PAGE, 0, 3⟩
def A_HOST_QY_ERR : Nat := 0x40150030
def HOST_QY_ERR_Q : Fld := ⟨A_HOST_QY_ERR, 2, 22⟩
def HOST_QY_ERR_CAUSE : Fld := ⟨A_HOST_QY_ERR, 24, 3⟩
def HOST_QY_ERR_VALID : Fld := ⟨A_HOST_QY_ERR, 31, 1⟩
def A_HOST_QY_STUCK : Nat := 0x40150034
def HOST_QY_STUCK : Fld := ⟨A_HOST_QY_STUCK, 0, 32⟩

/-- Every register of block HOST: address of index 0, array strides and counts, fields (R618). -/
def regsHOST_0 : List RegDesc := [
  ⟨0x40150000, [], [⟨31, 1, .w1s, 0x0⟩]⟩,
  ⟨0x40150004, [], [⟨0, 1, .ro, 0x0⟩, ⟨1, 3, .ro, 0x0⟩, ⟨4, 3, .ro, 0x0⟩, ⟨7, 1, .ro, 0x0⟩]⟩,
  ⟨0x40150008, [], [⟨29, 3, .rw, 0x0⟩]⟩,
  ⟨0x4015000c, [], [⟨0, 32, .rw, 0x0⟩]⟩,
  ⟨0x40150010, [], [⟨0, 1, .wo, 0x0⟩]⟩,
  ⟨0x40150014, [], [⟨0, 32, .w1s, 0x0⟩]⟩,
  ⟨0x40150018, [], [⟨0, 32, .w1c, 0x0⟩]⟩,
  ⟨0x4015001c, [], [⟨0, 32, .w1s, 0x0⟩]⟩,
  ⟨0x40150020, [], [⟨0, 32, .w1c, 0x0⟩]⟩,
  ⟨0x40150024, [], [⟨0, 32, .w1s, 0x0⟩]⟩,
  ⟨0x40150028, [], [⟨0, 32, .w1c, 0x0⟩]⟩,
  ⟨0x4015002c, [], [⟨0, 3, .rw, 0x0⟩]⟩,
  ⟨0x40150030, [], [⟨2, 22, .ro, 0x0⟩, ⟨24, 3, .ro, 0x0⟩, ⟨31, 1, .w1c, 0x0⟩]⟩,
  ⟨0x40150034, [], [⟨0, 32, .rc, 0x0⟩]⟩]
def regsHOST : List RegDesc := regsHOST_0

/-! ### Block MON at 0x40160000 (R633) -/

def A_MON_CTRL : Nat := 0x40160000
def MON_CTRL_OFF : Fld := ⟨A_MON_CTRL, 0, 1⟩
def MON_CTRL_LOCK : Fld := ⟨A_MON_CTRL, 31, 1⟩
def A_MON_STAT : Nat := 0x40160004
def MON_STAT_ENABLED : Fld := ⟨A_MON_STAT, 0, 1⟩
def MON_STAT_LEVEL : Fld := ⟨A_MON_STAT, 1, 2⟩
def MON_STAT_BUSY : Fld := ⟨A_MON_STAT, 3, 1⟩
def MON_STAT_LOCKOUT : Fld := ⟨A_MON_STAT, 4, 1⟩
def MON_STAT_KEY_STRAP : Fld := ⟨A_MON_STAT, 5, 1⟩
def MON_STAT_DEFAULTS : Fld := ⟨A_MON_STAT, 6, 1⟩
def MON_STAT_BAUD : Fld := ⟨A_MON_STAT, 7, 3⟩
def A_MON_RX_ERR : Nat := 0x40160008
def MON_RX_ERR : Fld := ⟨A_MON_RX_ERR, 0, 32⟩
def A_MON_DISCARD : Nat := 0x4016000c
def MON_DISCARD : Fld := ⟨A_MON_DISCARD, 0, 32⟩
def A_MON_CMD_CNT : Nat := 0x40160010
def MON_CMD_CNT : Fld := ⟨A_MON_CMD_CNT, 0, 32⟩
def A_MON_DENY_CNT : Nat := 0x40160014
def MON_DENY_CNT : Fld := ⟨A_MON_DENY_CNT, 0, 32⟩

/-- Every register of block MON: address of index 0, array strides and counts, fields (R633). -/
def regsMON_0 : List RegDesc := [
  ⟨0x40160000, [], [⟨0, 1, .w1s, 0x0⟩, ⟨31, 1, .w1s, 0x0⟩]⟩,
  ⟨0x40160004, [], [⟨0, 1, .ro, 0x1⟩, ⟨1, 2, .ro, 0x0⟩, ⟨3, 1, .ro, 0x0⟩, ⟨4, 1, .ro, 0x0⟩, ⟨5, 1, .ro, 0x0⟩, ⟨6, 1, .ro, 0x1⟩, ⟨7, 3, .ro, 0x0⟩]⟩,
  ⟨0x40160008, [], [⟨0, 32, .rc, 0x0⟩]⟩,
  ⟨0x4016000c, [], [⟨0, 32, .rc, 0x0⟩]⟩,
  ⟨0x40160010, [], [⟨0, 32, .rc, 0x0⟩]⟩,
  ⟨0x40160014, [], [⟨0, 32, .rc, 0x0⟩]⟩]
def regsMON : List RegDesc := regsMON_0

/-! ### Block PWR at 0x40170000 (R649) -/

def A_PWR_CTRL : Nat := 0x40170000
def PWR_CTRL_LOCK : Fld := ⟨A_PWR_CTRL, 31, 1⟩
def A_PWR_STAT : Nat := 0x40170004
def PWR_STAT_STATE : Fld := ⟨A_PWR_STAT, 0, 3⟩
def PWR_STAT_UP : Fld := ⟨A_PWR_STAT, 3, 6⟩
def PWR_STAT_WARN : Fld := ⟨A_PWR_STAT, 9, 6⟩
def PWR_STAT_FAULT : Fld := ⟨A_PWR_STAT, 15, 6⟩
def PWR_STAT_ATTEMPT : Fld := ⟨A_PWR_STAT, 21, 2⟩
def A_PWR_RETRY_CNT : Nat := 0x40170008
def PWR_RETRY_CNT : Fld := ⟨A_PWR_RETRY_CNT, 0, 16⟩
def A_PWR_PMB_ERR : Nat := 0x4017000c
def PWR_PMB_ERR : Fld := ⟨A_PWR_PMB_ERR, 0, 32⟩
def A_PWR_RAIL0 (i : Nat) : Nat := 0x40170100 + 0x10 * i
def PWR_RAIL0_VOUT (i : Nat) : Fld := ⟨A_PWR_RAIL0 i, 0, 16⟩
def PWR_RAIL0_STATUS (i : Nat) : Fld := ⟨A_PWR_RAIL0 i, 16, 16⟩
def A_PWR_RAIL1 (i : Nat) : Nat := 0x40170104 + 0x10 * i
def PWR_RAIL1_NOM (i : Nat) : Fld := ⟨A_PWR_RAIL1 i, 0, 16⟩
def PWR_RAIL1_ADDR (i : Nat) : Fld := ⟨A_PWR_RAIL1 i, 16, 7⟩

/-- Every register of block PWR: address of index 0, array strides and counts, fields (R649). -/
def regsPWR_0 : List RegDesc := [
  ⟨0x40170000, [], [⟨31, 1, .w1s, 0x0⟩]⟩,
  ⟨0x40170004, [], [⟨0, 3, .ro, 0x0⟩, ⟨3, 6, .ro, 0x0⟩, ⟨9, 6, .w1c, 0x0⟩, ⟨15, 6, .w1c, 0x0⟩, ⟨21, 2, .ro, 0x0⟩]⟩,
  ⟨0x40170008, [], [⟨0, 16, .ro, 0x0⟩]⟩,
  ⟨0x4017000c, [], [⟨0, 32, .rc, 0x0⟩]⟩,
  ⟨0x40170100, [(0x10, 6)], [⟨0, 16, .ro, 0x0⟩, ⟨16, 16, .ro, 0x0⟩]⟩,
  ⟨0x40170104, [(0x10, 6)], [⟨0, 16, .ro, 0x0⟩, ⟨16, 7, .ro, 0x0⟩]⟩]
def regsPWR : List RegDesc := regsPWR_0

end Sys2Proof.Machine
end

