-- ==== Sys2Proof/Machine/RegMapS.lean ====
section
/-! DEFINITION. The Skerry register map (chapter Skerry register maps and the chapters it names).
One address function and one field constant per register and field of the register tables of the spec, and the
table of every register of a block: its offset, its array strides and counts, its fields with access code and reset value. -/

namespace Sys2Proof.Machine

/-! ### Block SK_TOP at 0x20000000 (R671) -/

def A_SK_TOP_ID : Nat := 0x20000000
def SK_TOP_ID_PART : Fld := ⟨A_SK_TOP_ID, 0, 16⟩
def SK_TOP_ID_MAJOR : Fld := ⟨A_SK_TOP_ID, 16, 4⟩
def SK_TOP_ID_MINOR : Fld := ⟨A_SK_TOP_ID, 20, 4⟩
def A_SK_TOP_STAT : Nat := 0x20000004
def SK_TOP_STAT_PART : Fld := ⟨A_SK_TOP_STAT, 0, 2⟩
def SK_TOP_STAT_CTYPE : Fld := ⟨A_SK_TOP_STAT, 2, 3⟩
def SK_TOP_STAT_VFS : Fld := ⟨A_SK_TOP_STAT, 5, 2⟩
def SK_TOP_STAT_HEALTH : Fld := ⟨A_SK_TOP_STAT, 7, 2⟩
def SK_TOP_STAT_FAULT : Fld := ⟨A_SK_TOP_STAT, 9, 1⟩
def SK_TOP_STAT_CORE : Fld := ⟨A_SK_TOP_STAT, 10, 2⟩
def SK_TOP_STAT_DLY_OK : Fld := ⟨A_SK_TOP_STAT, 12, 1⟩
def SK_TOP_STAT_LOCK_H : Fld := ⟨A_SK_TOP_STAT, 13, 1⟩
def SK_TOP_STAT_LOCK_T : Fld := ⟨A_SK_TOP_STAT, 14, 1⟩
def A_SK_TOP_CELL : Nat := 0x20000008
def SK_TOP_CELL_G : Fld := ⟨A_SK_TOP_CELL, 0, 13⟩
def SK_TOP_CELL_VALID : Fld := ⟨A_SK_TOP_CELL, 13, 1⟩
def SK_TOP_CELL_COUNT : Fld := ⟨A_SK_TOP_CELL, 16, 7⟩
def A_SK_TOP_PART_ID : Nat := 0x2000000c
def SK_TOP_PART_ID : Fld := ⟨A_SK_TOP_PART_ID, 0, 32⟩
def A_SK_TOP_IMG : Nat := 0x20000010
def SK_TOP_IMG_STATE : Fld := ⟨A_SK_TOP_IMG, 0, 3⟩
def SK_TOP_IMG_REASON : Fld := ⟨A_SK_TOP_IMG, 4, 3⟩
def SK_TOP_IMG_HELD : Fld := ⟨A_SK_TOP_IMG, 8, 14⟩
def A_SK_TOP_IMG_MISS : Nat := 0x20000014
def SK_TOP_IMG_MISS_FIRST : Fld := ⟨A_SK_TOP_IMG_MISS, 0, 13⟩
def SK_TOP_IMG_MISS_COMPLETE : Fld := ⟨A_SK_TOP_IMG_MISS, 15, 1⟩
def A_SK_TOP_IMG_VER : Nat := 0x20000018
def SK_TOP_IMG_VER : Fld := ⟨A_SK_TOP_IMG_VER, 0, 32⟩
def A_SK_TOP_IMG_MINVER : Nat := 0x2000001c
def SK_TOP_IMG_MINVER : Fld := ⟨A_SK_TOP_IMG_MINVER, 0, 32⟩
def A_SK_TOP_ECC : Nat := 0x20000020
def SK_TOP_ECC_SRAM : Fld := ⟨A_SK_TOP_ECC, 0, 16⟩
def SK_TOP_ECC_LOG : Fld := ⟨A_SK_TOP_ECC, 16, 16⟩
def A_SK_TOP_CORE_CNT : Nat := 0x20000024
def SK_TOP_CORE_CNT : Fld := ⟨A_SK_TOP_CORE_CNT, 0, 16⟩

/-- Every register of block SK_TOP: address of index 0, array strides and counts, fields (R671). -/
def regsSK_TOP_0 : List RegDesc := [
  ⟨0x20000000, [], [⟨0, 16, .ro, 0x204⟩, ⟨16, 4, .ro, 0x1⟩, ⟨20, 4, .ro, 0x0⟩]⟩,
  ⟨0x20000004, [], [⟨0, 2, .ro, 0x0⟩, ⟨2, 3, .ro, 0x0⟩, ⟨5, 2, .ro, 0x0⟩, ⟨7, 2, .ro, 0x0⟩, ⟨9, 1, .ro, 0x0⟩, ⟨10, 2, .ro, 0x0⟩, ⟨12, 1, .ro, 0x0⟩, ⟨13, 1, .ro, 0x0⟩, ⟨14, 1, .ro, 0x0⟩]⟩,
  ⟨0x20000008, [], [⟨0, 13, .ro, 0x0⟩, ⟨13, 1, .ro, 0x0⟩, ⟨16, 7, .ro, 0x0⟩]⟩,
  ⟨0x2000000c, [], [⟨0, 32, .ro, 0x0⟩]⟩,
  ⟨0x20000010, [], [⟨0, 3, .ro, 0x0⟩, ⟨4, 3, .ro, 0x0⟩, ⟨8, 14, .ro, 0x0⟩]⟩,
  ⟨0x20000014, [], [⟨0, 13, .ro, 0x0⟩, ⟨15, 1, .ro, 0x0⟩]⟩,
  ⟨0x20000018, [], [⟨0, 32, .ro, 0x0⟩]⟩,
  ⟨0x2000001c, [], [⟨0, 32, .ro, 0x0⟩]⟩,
  ⟨0x20000020, [], [⟨0, 16, .rc, 0x0⟩, ⟨16, 16, .rc, 0x0⟩]⟩,
  ⟨0x20000024, [], [⟨0, 16, .ro, 0x0⟩]⟩]
def regsSK_TOP : List RegDesc := regsSK_TOP_0

/-! ### Block SK_LINK at 0x20001000 (R672) -/

def A_SK_LINK_CFG : Nat := 0x20001000
def SK_LINK_CFG_SWING : Fld := ⟨A_SK_LINK_CFG, 0, 2⟩
def A_SK_LINK_POS : Nat := 0x20001004
def SK_LINK_POS_HOP_H : Fld := ⟨A_SK_LINK_POS, 0, 6⟩
def SK_LINK_POS_HOP_T : Fld := ⟨A_SK_LINK_POS, 8, 6⟩
def SK_LINK_POS_CAUSEWAY : Fld := ⟨A_SK_LINK_POS, 16, 7⟩
def SK_LINK_POS_VALID : Fld := ⟨A_SK_LINK_POS, 23, 1⟩
def A_SK_LINK_DLY_H : Nat := 0x20001008
def SK_LINK_DLY_H_D : Fld := ⟨A_SK_LINK_DLY_H, 0, 20⟩
def SK_LINK_DLY_H_SAMPLES : Fld := ⟨A_SK_LINK_DLY_H, 24, 8⟩
def A_SK_LINK_DLY_T : Nat := 0x2000100c
def SK_LINK_DLY_T_D : Fld := ⟨A_SK_LINK_DLY_T, 0, 20⟩
def SK_LINK_DLY_T_SAMPLES : Fld := ⟨A_SK_LINK_DLY_T, 24, 8⟩
def A_SK_LINK_STAT (i : Nat) : Nat := 0x20001100 + 0x40 * i
def SK_LINK_STAT_STATE (i : Nat) : Fld := ⟨A_SK_LINK_STAT i, 0, 3⟩
def SK_LINK_STAT_SIG_DET (i : Nat) : Fld := ⟨A_SK_LINK_STAT i, 3, 1⟩
def SK_LINK_STAT_CDR_LOCK (i : Nat) : Fld := ⟨A_SK_LINK_STAT i, 4, 1⟩
def SK_LINK_STAT_SCORE (i : Nat) : Fld := ⟨A_SK_LINK_STAT i, 5, 4⟩
def SK_LINK_STAT_TIMEPORT (i : Nat) : Fld := ⟨A_SK_LINK_STAT i, 9, 1⟩
def A_SK_LINK_SYM_ERR (i : Nat) : Nat := 0x20001104 + 0x40 * i
def SK_LINK_SYM_ERR (i : Nat) : Fld := ⟨A_SK_LINK_SYM_ERR i, 0, 16⟩
def A_SK_LINK_PROP_ERR (i : Nat) : Nat := 0x20001108 + 0x40 * i
def SK_LINK_PROP_ERR (i : Nat) : Fld := ⟨A_SK_LINK_PROP_ERR i, 0, 16⟩
def A_SK_LINK_LOSS_CNT (i : Nat) : Nat := 0x2000110c + 0x40 * i
def SK_LINK_LOSS_CNT (i : Nat) : Fld := ⟨A_SK_LINK_LOSS_CNT i, 0, 16⟩
def A_SK_LINK_FERRY_BAD (i : Nat) : Nat := 0x20001110 + 0x40 * i
def SK_LINK_FERRY_BAD (i : Nat) : Fld := ⟨A_SK_LINK_FERRY_BAD i, 0, 16⟩
def A_SK_LINK_FERRY_MARK (i : Nat) : Nat := 0x20001114 + 0x40 * i
def SK_LINK_FERRY_MARK (i : Nat) : Fld := ⟨A_SK_LINK_FERRY_MARK i, 0, 16⟩
def A_SK_LINK_FLASH_BAD (i : Nat) : Nat := 0x20001118 + 0x40 * i
def SK_LINK_FLASH_BAD (i : Nat) : Fld := ⟨A_SK_LINK_FLASH_BAD i, 0, 16⟩
def A_SK_LINK_MISS (i : Nat) : Nat := 0x2000111c + 0x40 * i
def SK_LINK_MISS (i : Nat) : Fld := ⟨A_SK_LINK_MISS i, 0, 16⟩

/-- Every register of block SK_LINK: address of index 0, array strides and counts, fields (R672). -/
def regsSK_LINK_0 : List RegDesc := [
  ⟨0x20001000, [], [⟨0, 2, .ro, 0x2⟩]⟩,
  ⟨0x20001004, [], [⟨0, 6, .ro, 0x0⟩, ⟨8, 6, .ro, 0x0⟩, ⟨16, 7, .ro, 0x0⟩, ⟨23, 1, .ro, 0x0⟩]⟩,
  ⟨0x20001008, [], [⟨0, 20, .ro, 0xfffff⟩, ⟨24, 8, .ro, 0x0⟩]⟩,
  ⟨0x2000100c, [], [⟨0, 20, .ro, 0xfffff⟩, ⟨24, 8, .ro, 0x0⟩]⟩,
  ⟨0x20001100, [(0x40, 2)], [⟨0, 3, .ro, 0x0⟩, ⟨3, 1, .ro, 0x0⟩, ⟨4, 1, .ro, 0x0⟩, ⟨5, 4, .ro, 0x0⟩, ⟨9, 1, .ro, 0x0⟩]⟩,
  ⟨0x20001104, [(0x40, 2)], [⟨0, 16, .rc, 0x0⟩]⟩,
  ⟨0x20001108, [(0x40, 2)], [⟨0, 16, .rc, 0x0⟩]⟩,
  ⟨0x2000110c, [(0x40, 2)], [⟨0, 16, .rc, 0x0⟩]⟩,
  ⟨0x20001110, [(0x40, 2)], [⟨0, 16, .rc, 0x0⟩]⟩,
  ⟨0x20001114, [(0x40, 2)], [⟨0, 16, .rc, 0x0⟩]⟩,
  ⟨0x20001118, [(0x40, 2)], [⟨0, 16, .rc, 0x0⟩]⟩,
  ⟨0x2000111c, [(0x40, 2)], [⟨0, 16, .rc, 0x0⟩]⟩]
def regsSK_LINK : List RegDesc := regsSK_LINK_0

/-! ### Block SK_TIME at 0x20002000 (R673) -/

def A_SK_TIME_STAT : Nat := 0x20002000
def SK_TIME_STAT_STATE : Fld := ⟨A_SK_TIME_STAT, 0, 3⟩
def SK_TIME_STAT_PATH : Fld := ⟨A_SK_TIME_STAT, 3, 1⟩
def SK_TIME_STAT_SLEWING : Fld := ⟨A_SK_TIME_STAT, 4, 1⟩
def SK_TIME_STAT_STEPPED : Fld := ⟨A_SK_TIME_STAT, 6, 1⟩
def SK_TIME_STAT_REFUSED_EV : Fld := ⟨A_SK_TIME_STAT, 7, 1⟩
def SK_TIME_STAT_FALLBACK_EV : Fld := ⟨A_SK_TIME_STAT, 8, 1⟩
def SK_TIME_STAT_RESTEP_EV : Fld := ⟨A_SK_TIME_STAT, 9, 1⟩
def A_SK_TIME_NOW_FRAC : Nat := 0x20002004
def SK_TIME_NOW_FRAC_FRAC : Fld := ⟨A_SK_TIME_NOW_FRAC, 0, 18⟩
def SK_TIME_NOW_FRAC_PATH : Fld := ⟨A_SK_TIME_NOW_FRAC, 18, 1⟩
def SK_TIME_NOW_FRAC_STATE : Fld := ⟨A_SK_TIME_NOW_FRAC, 19, 3⟩
def A_SK_TIME_NOW_NS : Nat := 0x20002008
def SK_TIME_NOW_NS : Fld := ⟨A_SK_TIME_NOW_NS, 0, 30⟩
def A_SK_TIME_NOW_SEC_LO : Nat := 0x2000200c
def SK_TIME_NOW_SEC_LO : Fld := ⟨A_SK_TIME_NOW_SEC_LO, 0, 32⟩
def A_SK_TIME_NOW_SEC_HI : Nat := 0x20002010
def SK_TIME_NOW_SEC_HI : Fld := ⟨A_SK_TIME_NOW_SEC_HI, 0, 16⟩
def A_SK_TIME_RATE : Nat := 0x20002014
def SK_TIME_RATE : Fld := ⟨A_SK_TIME_RATE, 0, 32⟩
def A_SK_TIME_ERR : Nat := 0x20002018
def SK_TIME_ERR : Fld := ⟨A_SK_TIME_ERR, 0, 32⟩
def A_SK_TIME_JUMP_NS : Nat := 0x2000201c
def SK_TIME_JUMP_NS : Fld := ⟨A_SK_TIME_JUMP_NS, 0, 32⟩
def A_SK_TIME_JUMP_CNT : Nat := 0x20002020
def SK_TIME_JUMP_CNT : Fld := ⟨A_SK_TIME_JUMP_CNT, 0, 16⟩
def A_SK_TIME_THRESH : Nat := 0x20002024
def SK_TIME_THRESH : Fld := ⟨A_SK_TIME_THRESH, 0, 20⟩
def A_SK_TIME_LOCKCNT : Nat := 0x20002028
def SK_TIME_LOCKCNT : Fld := ⟨A_SK_TIME_LOCKCNT, 0, 7⟩
def A_SK_TIME_MARK : Nat := 0x20002040
def SK_TIME_MARK_MARK : Fld := ⟨A_SK_TIME_MARK, 0, 8⟩
def SK_TIME_MARK_VALID : Fld := ⟨A_SK_TIME_MARK, 31, 1⟩
def A_SK_TIME_MARK_NS : Nat := 0x20002044
def SK_TIME_MARK_NS : Fld := ⟨A_SK_TIME_MARK_NS, 0, 30⟩
def A_SK_TIME_MARK_SEC : Nat := 0x20002048
def SK_TIME_MARK_SEC : Fld := ⟨A_SK_TIME_MARK_SEC, 0, 32⟩
def A_SK_TIME_TRIG_START_NS (i : Nat) : Nat := 0x20002100 + 0x20 * i
def SK_TIME_TRIG_START_NS (i : Nat) : Fld := ⟨A_SK_TIME_TRIG_START_NS i, 0, 30⟩
def A_SK_TIME_TRIG_START_SEC_LO (i : Nat) : Nat := 0x20002104 + 0x20 * i
def SK_TIME_TRIG_START_SEC_LO (i : Nat) : Fld := ⟨A_SK_TIME_TRIG_START_SEC_LO i, 0, 32⟩
def A_SK_TIME_TRIG_START_SEC_HI (i : Nat) : Nat := 0x20002108 + 0x20 * i
def SK_TIME_TRIG_START_SEC_HI (i : Nat) : Fld := ⟨A_SK_TIME_TRIG_START_SEC_HI i, 0, 16⟩
def A_SK_TIME_TRIG_PERIOD (i : Nat) : Nat := 0x2000210c + 0x20 * i
def SK_TIME_TRIG_PERIOD (i : Nat) : Fld := ⟨A_SK_TIME_TRIG_PERIOD i, 0, 32⟩
def A_SK_TIME_TRIG_COUNT (i : Nat) : Nat := 0x20002110 + 0x20 * i
def SK_TIME_TRIG_COUNT (i : Nat) : Fld := ⟨A_SK_TIME_TRIG_COUNT i, 0, 16⟩
def A_SK_TIME_TRIG_CTRL (i : Nat) : Nat := 0x20002114 + 0x20 * i
def SK_TIME_TRIG_CTRL_ARM (i : Nat) : Fld := ⟨A_SK_TIME_TRIG_CTRL i, 0, 1⟩
def SK_TIME_TRIG_CTRL_DISARM (i : Nat) : Fld := ⟨A_SK_TIME_TRIG_CTRL i, 1, 1⟩
def SK_TIME_TRIG_CTRL_CONT (i : Nat) : Fld := ⟨A_SK_TIME_TRIG_CTRL i, 2, 1⟩
def SK_TIME_TRIG_CTRL_DEST (i : Nat) : Fld := ⟨A_SK_TIME_TRIG_CTRL i, 4, 3⟩
def A_SK_TIME_TRIG_STAT (i : Nat) : Nat := 0x20002118 + 0x20 * i
def SK_TIME_TRIG_STAT_ARMED (i : Nat) : Fld := ⟨A_SK_TIME_TRIG_STAT i, 0, 1⟩
def SK_TIME_TRIG_STAT_DONE (i : Nat) : Fld := ⟨A_SK_TIME_TRIG_STAT i, 1, 1⟩
def SK_TIME_TRIG_STAT_LATE (i : Nat) : Fld := ⟨A_SK_TIME_TRIG_STAT i, 2, 1⟩
def SK_TIME_TRIG_STAT_MISSED (i : Nat) : Fld := ⟨A_SK_TIME_TRIG_STAT i, 16, 16⟩

/-- Every register of block SK_TIME: address of index 0, array strides and counts, fields (R673). -/
def regsSK_TIME_0 : List RegDesc := [
  ⟨0x20002000, [], [⟨0, 3, .ro, 0x0⟩, ⟨3, 1, .ro, 0x0⟩, ⟨4, 1, .ro, 0x0⟩, ⟨6, 1, .w1c, 0x0⟩, ⟨7, 1, .w1c, 0x0⟩, ⟨8, 1, .w1c, 0x0⟩, ⟨9, 1, .w1c, 0x0⟩]⟩,
  ⟨0x20002004, [], [⟨0, 18, .ro, 0x0⟩, ⟨18, 1, .ro, 0x0⟩, ⟨19, 3, .ro, 0x0⟩]⟩,
  ⟨0x20002008, [], [⟨0, 30, .ro, 0x0⟩]⟩,
  ⟨0x2000200c, [], [⟨0, 32, .ro, 0x0⟩]⟩,
  ⟨0x20002010, [], [⟨0, 16, .ro, 0x0⟩]⟩,
  ⟨0x20002014, [], [⟨0, 32, .ro, 0x0⟩]⟩,
  ⟨0x20002018, [], [⟨0, 32, .ro, 0x0⟩]⟩,
  ⟨0x2000201c, [], [⟨0, 32, .ro, 0x0⟩]⟩,
  ⟨0x20002020, [], [⟨0, 16, .rc, 0x0⟩]⟩,
  ⟨0x20002024, [], [⟨0, 20, .ro, 0x3e8⟩]⟩,
  ⟨0x20002028, [], [⟨0, 7, .ro, 0x0⟩]⟩,
  ⟨0x20002040, [], [⟨0, 8, .ro, 0x0⟩, ⟨31, 1, .w1c, 0x0⟩]⟩,
  ⟨0x20002044, [], [⟨0, 30, .ro, 0x0⟩]⟩,
  ⟨0x20002048, [], [⟨0, 32, .ro, 0x0⟩]⟩,
  ⟨0x20002100, [(0x20, 2)], [⟨0, 30, .rw, 0x0⟩]⟩,
  ⟨0x20002104, [(0x20, 2)], [⟨0, 32, .rw, 0x0⟩]⟩,
  ⟨0x20002108, [(0x20, 2)], [⟨0, 16, .rw, 0x0⟩]⟩,
  ⟨0x2000210c, [(0x20, 2)], [⟨0, 32, .rw, 0x0⟩]⟩,
  ⟨0x20002110, [(0x20, 2)], [⟨0, 16, .rw, 0x0⟩]⟩,
  ⟨0x20002114, [(0x20, 2)], [⟨0, 1, .wo, 0x0⟩, ⟨1, 1, .wo, 0x0⟩, ⟨2, 1, .rw, 0x0⟩, ⟨4, 3, .rw, 0x0⟩]⟩,
  ⟨0x20002118, [(0x20, 2)], [⟨0, 1, .ro, 0x0⟩, ⟨1, 1, .w1c, 0x0⟩, ⟨2, 1, .w1c, 0x0⟩, ⟨16, 16, .ro, 0x0⟩]⟩]
def regsSK_TIME : List RegDesc := regsSK_TIME_0

/-! ### Block SK_CMD at 0x20003000 (R674) -/

def A_SK_CMD_COMMIT_MISS : Nat := 0x20003000
def SK_CMD_COMMIT_MISS : Fld := ⟨A_SK_CMD_COMMIT_MISS, 0, 16⟩
def A_SK_CMD_COMMIT_LATE : Nat := 0x20003004
def SK_CMD_COMMIT_LATE : Fld := ⟨A_SK_CMD_COMMIT_LATE, 0, 16⟩
def A_SK_CMD_COMMIT_WRONG : Nat := 0x20003008
def SK_CMD_COMMIT_WRONG : Fld := ⟨A_SK_CMD_COMMIT_WRONG, 0, 16⟩
def A_SK_CMD_COMMIT_CONFLICT : Nat := 0x2000300c
def SK_CMD_COMMIT_CONFLICT : Fld := ⟨A_SK_CMD_COMMIT_CONFLICT, 0, 16⟩
def A_SK_CMD_STAGE_REJ : Nat := 0x20003010
def SK_CMD_STAGE_REJ : Fld := ⟨A_SK_CMD_STAGE_REJ, 0, 16⟩
def A_SK_CMD_STAGE_DROP : Nat := 0x20003014
def SK_CMD_STAGE_DROP : Fld := ⟨A_SK_CMD_STAGE_DROP, 0, 16⟩
def A_SK_CMD_SILENT : Nat := 0x20003018
def SK_CMD_SILENT : Fld := ⟨A_SK_CMD_SILENT, 0, 6⟩
def A_SK_CMD_STATE_REJ : Nat := 0x2000301c
def SK_CMD_STATE_REJ : Fld := ⟨A_SK_CMD_STATE_REJ, 0, 16⟩
def A_SK_CMD_ACTION_REJ : Nat := 0x20003020
def SK_CMD_ACTION_REJ : Fld := ⟨A_SK_CMD_ACTION_REJ, 0, 16⟩
def A_SK_CMD_FLASH_IGN : Nat := 0x20003024
def SK_CMD_FLASH_IGN : Fld := ⟨A_SK_CMD_FLASH_IGN, 0, 16⟩
def A_SK_CMD_NOCMD : Nat := 0x20003028
def SK_CMD_NOCMD : Fld := ⟨A_SK_CMD_NOCMD, 0, 16⟩
def A_SK_CMD_DONE : Nat := 0x2000302c
def SK_CMD_DONE_EPOCH_DONE : Fld := ⟨A_SK_CMD_DONE, 0, 8⟩
def SK_CMD_DONE_VALID : Fld := ⟨A_SK_CMD_DONE, 8, 1⟩
def A_SK_CMD_COMMIT_EARLY : Nat := 0x20003030
def SK_CMD_COMMIT_EARLY : Fld := ⟨A_SK_CMD_COMMIT_EARLY, 0, 16⟩
def A_SK_CMD_EARLY : Nat := 0x20003034
def SK_CMD_EARLY_EPOCH : Fld := ⟨A_SK_CMD_EARLY, 0, 8⟩
def SK_CMD_EARLY_STAGE : Fld := ⟨A_SK_CMD_EARLY, 8, 1⟩
def SK_CMD_EARLY_VALID : Fld := ⟨A_SK_CMD_EARLY, 9, 1⟩
def A_SK_CMD_SLOT (i : Nat) : Nat := 0x20003040 + 0x10 * i
def SK_CMD_SLOT_STATE (i : Nat) : Fld := ⟨A_SK_CMD_SLOT i, 0, 3⟩
def SK_CMD_SLOT_STAGE (i : Nat) : Fld := ⟨A_SK_CMD_SLOT i, 3, 1⟩
def SK_CMD_SLOT_AFTER_PEND (i : Nat) : Fld := ⟨A_SK_CMD_SLOT i, 4, 1⟩
def SK_CMD_SLOT_EPOCH (i : Nat) : Fld := ⟨A_SK_CMD_SLOT i, 8, 8⟩
def A_SK_CMD_SLOT_AT (i : Nat) : Nat := 0x20003044 + 0x10 * i
def SK_CMD_SLOT_AT_NS (i : Nat) : Fld := ⟨A_SK_CMD_SLOT_AT i, 0, 30⟩
def SK_CMD_SLOT_AT_SEC (i : Nat) : Fld := ⟨A_SK_CMD_SLOT_AT i, 30, 2⟩

/-- Every register of block SK_CMD: address of index 0, array strides and counts, fields (R674). -/
def regsSK_CMD_0 : List RegDesc := [
  ⟨0x20003000, [], [⟨0, 16, .rc, 0x0⟩]⟩,
  ⟨0x20003004, [], [⟨0, 16, .rc, 0x0⟩]⟩,
  ⟨0x20003008, [], [⟨0, 16, .rc, 0x0⟩]⟩,
  ⟨0x2000300c, [], [⟨0, 16, .rc, 0x0⟩]⟩,
  ⟨0x20003010, [], [⟨0, 16, .rc, 0x0⟩]⟩,
  ⟨0x20003014, [], [⟨0, 16, .rc, 0x0⟩]⟩,
  ⟨0x20003018, [], [⟨0, 6, .ro, 0x20⟩]⟩,
  ⟨0x2000301c, [], [⟨0, 16, .rc, 0x0⟩]⟩,
  ⟨0x20003020, [], [⟨0, 16, .rc, 0x0⟩]⟩,
  ⟨0x20003024, [], [⟨0, 16, .rc, 0x0⟩]⟩,
  ⟨0x20003028, [], [⟨0, 16, .rc, 0x0⟩]⟩,
  ⟨0x2000302c, [], [⟨0, 8, .ro, 0x0⟩, ⟨8, 1, .ro, 0x0⟩]⟩,
  ⟨0x20003030, [], [⟨0, 16, .rc, 0x0⟩]⟩,
  ⟨0x20003034, [], [⟨0, 8, .ro, 0x0⟩, ⟨8, 1, .ro, 0x0⟩, ⟨9, 1, .ro, 0x0⟩]⟩,
  ⟨0x20003040, [(0x10, 2)], [⟨0, 3, .ro, 0x0⟩, ⟨3, 1, .ro, 0x0⟩, ⟨4, 1, .ro, 0x0⟩, ⟨8, 8, .ro, 0x0⟩]⟩,
  ⟨0x20003044, [(0x10, 2)], [⟨0, 30, .ro, 0x0⟩, ⟨30, 2, .ro, 0x0⟩]⟩]
def regsSK_CMD : List RegDesc := regsSK_CMD_0

/-! ### Block SK_GATE at 0x20004000 (R397) -/

def A_SK_GATE_CTRL : Nat := 0x20004000
def SK_GATE_CTRL_FLT_CLR : Fld := ⟨A_SK_GATE_CTRL, 0, 1⟩
def A_SK_GATE_STAT : Nat := 0x20004004
def SK_GATE_STAT_MODE : Fld := ⟨A_SK_GATE_STAT, 0, 1⟩
def SK_GATE_STAT_MODULATING : Fld := ⟨A_SK_GATE_STAT, 1, 1⟩
def SK_GATE_STAT_MODE_PEND : Fld := ⟨A_SK_GATE_STAT, 2, 1⟩
def SK_GATE_STAT_TARGET : Fld := ⟨A_SK_GATE_STAT, 4, 3⟩
def SK_GATE_STAT_EDGE_PEND : Fld := ⟨A_SK_GATE_STAT, 7, 1⟩
def SK_GATE_STAT_OUT : Fld := ⟨A_SK_GATE_STAT, 8, 4⟩
def SK_GATE_STAT_CLAMP : Fld := ⟨A_SK_GATE_STAT, 12, 1⟩
def SK_GATE_STAT_HIZ : Fld := ⟨A_SK_GATE_STAT, 13, 1⟩
def SK_GATE_STAT_FIRED : Fld := ⟨A_SK_GATE_STAT, 14, 1⟩
def SK_GATE_STAT_BYP_FB : Fld := ⟨A_SK_GATE_STAT, 15, 1⟩
def SK_GATE_STAT_REFRESH_REQ : Fld := ⟨A_SK_GATE_STAT, 16, 1⟩
def SK_GATE_STAT_FORCED : Fld := ⟨A_SK_GATE_STAT, 17, 1⟩
def A_SK_GATE_FORCE : Nat := 0x20004008
def SK_GATE_FORCE_STATE : Fld := ⟨A_SK_GATE_FORCE, 0, 3⟩
def SK_GATE_FORCE_EN : Fld := ⟨A_SK_GATE_FORCE, 3, 1⟩
def SK_GATE_FORCE_PEND : Fld := ⟨A_SK_GATE_FORCE, 4, 1⟩
def A_SK_GATE_FLT : Nat := 0x2000400c
def SK_GATE_FLT_DESAT : Fld := ⟨A_SK_GATE_FLT, 0, 4⟩
def SK_GATE_FLT_OC : Fld := ⟨A_SK_GATE_FLT, 4, 1⟩
def SK_GATE_FLT_GS : Fld := ⟨A_SK_GATE_FLT, 5, 4⟩
def SK_GATE_FLT_AUX : Fld := ⟨A_SK_GATE_FLT, 9, 1⟩
def SK_GATE_FLT_FIRST : Fld := ⟨A_SK_GATE_FLT, 16, 4⟩
def SK_GATE_FLT_CLR_REFUSED : Fld := ⟨A_SK_GATE_FLT, 20, 1⟩
def A_SK_GATE_DUTY : Nat := 0x20004010
def SK_GATE_DUTY_NOW : Fld := ⟨A_SK_GATE_DUTY, 0, 16⟩
def SK_GATE_DUTY_LAST : Fld := ⟨A_SK_GATE_DUTY, 16, 16⟩
def A_SK_GATE_WPER : Nat := 0x20004014
def SK_GATE_WPER : Fld := ⟨A_SK_GATE_WPER, 0, 20⟩
def A_SK_GATE_TIME0 : Nat := 0x20004018
def SK_GATE_TIME0_DEAD : Fld := ⟨A_SK_GATE_TIME0, 0, 12⟩
def SK_GATE_TIME0_MIN_PULSE : Fld := ⟨A_SK_GATE_TIME0, 16, 12⟩
def A_SK_GATE_TIME1 : Nat := 0x2000401c
def SK_GATE_TIME1_BLANK : Fld := ⟨A_SK_GATE_TIME1, 0, 14⟩
def SK_GATE_TIME1_REF_MIN : Fld := ⟨A_SK_GATE_TIME1, 16, 12⟩
def A_SK_GATE_FILT : Nat := 0x20004020
def SK_GATE_FILT_GS0 : Fld := ⟨A_SK_GATE_FILT, 0, 8⟩
def SK_GATE_FILT_GS1 : Fld := ⟨A_SK_GATE_FILT, 8, 8⟩
def SK_GATE_FILT_GS2 : Fld := ⟨A_SK_GATE_FILT, 16, 8⟩
def SK_GATE_FILT_GS3 : Fld := ⟨A_SK_GATE_FILT, 24, 8⟩
def A_SK_GATE_FILT2 : Nat := 0x20004024
def SK_GATE_FILT2_OC : Fld := ⟨A_SK_GATE_FILT2, 0, 8⟩
def SK_GATE_FILT2_AUX : Fld := ⟨A_SK_GATE_FILT2, 8, 8⟩
def SK_GATE_FILT2_UPD : Fld := ⟨A_SK_GATE_FILT2, 16, 4⟩
def SK_GATE_FILT2_FORCE_ALLOW : Fld := ⟨A_SK_GATE_FILT2, 20, 1⟩
def A_SK_GATE_WEAVE : Nat := 0x20004028
def SK_GATE_WEAVE : Fld := ⟨A_SK_GATE_WEAVE, 0, 21⟩
def A_SK_GATE_OV : Nat := 0x2000402c
def SK_GATE_OV : Fld := ⟨A_SK_GATE_OV, 0, 13⟩
def A_SK_GATE_REF : Nat := 0x20004030
def SK_GATE_REF_REF_LIM : Fld := ⟨A_SK_GATE_REF, 0, 8⟩
def SK_GATE_REF_PAIR0 : Fld := ⟨A_SK_GATE_REF, 8, 12⟩
def SK_GATE_REF_PAIR1 : Fld := ⟨A_SK_GATE_REF, 20, 12⟩
def A_SK_GATE_SW_CNT : Nat := 0x20004034
def SK_GATE_SW_CNT : Fld := ⟨A_SK_GATE_SW_CNT, 0, 32⟩
def A_SK_GATE_DEFER_CNT : Nat := 0x20004038
def SK_GATE_DEFER_CNT : Fld := ⟨A_SK_GATE_DEFER_CNT, 0, 16⟩
def A_SK_GATE_CLIP_CNT : Nat := 0x2000403c
def SK_GATE_CLIP_CNT : Fld := ⟨A_SK_GATE_CLIP_CNT, 0, 16⟩
def A_SK_GATE_REF_CNT : Nat := 0x20004040
def SK_GATE_REF_CNT : Fld := ⟨A_SK_GATE_REF_CNT, 0, 16⟩
def A_SK_GATE_FLT_CNT : Nat := 0x20004044
def SK_GATE_FLT_CNT : Fld := ⟨A_SK_GATE_FLT_CNT, 0, 16⟩
def A_SK_GATE_FIRE_SEC : Nat := 0x20004048
def SK_GATE_FIRE_SEC : Fld := ⟨A_SK_GATE_FIRE_SEC, 0, 32⟩

/-- Every register of block SK_GATE: address of index 0, array strides and counts, fields (R397). -/
def regsSK_GATE_0 : List RegDesc := [
  ⟨0x20004000, [], [⟨0, 1, .wo, 0x0⟩]⟩,
  ⟨0x20004004, [], [⟨0, 1, .ro, 0x0⟩, ⟨1, 1, .ro, 0x0⟩, ⟨2, 1, .ro, 0x0⟩, ⟨4, 3, .ro, 0x4⟩, ⟨7, 1, .ro, 0x0⟩, ⟨8, 4, .ro, 0x0⟩, ⟨12, 1, .ro, 0x0⟩, ⟨13, 1, .ro, 0x0⟩, ⟨14, 1, .ro, 0x0⟩, ⟨15, 1, .ro, 0x0⟩, ⟨16, 1, .ro, 0x0⟩, ⟨17, 1, .ro, 0x0⟩]⟩,
  ⟨0x20004008, [], [⟨0, 3, .rw, 0x4⟩, ⟨3, 1, .rw, 0x0⟩, ⟨4, 1, .ro, 0x0⟩]⟩,
  ⟨0x2000400c, [], [⟨0, 4, .ro, 0x0⟩, ⟨4, 1, .ro, 0x0⟩, ⟨5, 4, .ro, 0x0⟩, ⟨9, 1, .ro, 0x0⟩, ⟨16, 4, .ro, 0xf⟩, ⟨20, 1, .w1c, 0x0⟩]⟩,
  ⟨0x20004010, [], [⟨0, 16, .ro, 0x0⟩, ⟨16, 16, .ro, 0x0⟩]⟩,
  ⟨0x20004014, [], [⟨0, 20, .rw, 0x271⟩]⟩,
  ⟨0x20004018, [], [⟨0, 12, .ro, 0x4e2⟩, ⟨16, 12, .ro, 0x271⟩]⟩,
  ⟨0x2000401c, [], [⟨0, 14, .ro, 0xc35⟩, ⟨16, 12, .ro, 0x271⟩]⟩,
  ⟨0x20004020, [], [⟨0, 8, .ro, 0x20⟩, ⟨8, 8, .ro, 0x20⟩, ⟨16, 8, .ro, 0x20⟩, ⟨24, 8, .ro, 0x20⟩]⟩,
  ⟨0x20004024, [], [⟨0, 8, .ro, 0x10⟩, ⟨8, 8, .ro, 0xff⟩, ⟨16, 4, .ro, 0x0⟩, ⟨20, 1, .ro, 0x0⟩]⟩,
  ⟨0x20004028, [], [⟨0, 21, .ro, 0x0⟩]⟩,
  ⟨0x2000402c, [], [⟨0, 13, .ro, 0x0⟩]⟩,
  ⟨0x20004030, [], [⟨0, 8, .ro, 0xa⟩, ⟨8, 12, .ro, 0x0⟩, ⟨20, 12, .ro, 0x0⟩]⟩,
  ⟨0x20004034, [], [⟨0, 32, .ro, 0x0⟩]⟩,
  ⟨0x20004038, [], [⟨0, 16, .rc, 0x0⟩]⟩,
  ⟨0x2000403c, [], [⟨0, 16, .rc, 0x0⟩]⟩,
  ⟨0x20004040, [], [⟨0, 16, .rc, 0x0⟩]⟩,
  ⟨0x20004044, [], [⟨0, 16, .rc, 0x0⟩]⟩,
  ⟨0x20004048, [], [⟨0, 32, .ro, 0x0⟩]⟩]
def regsSK_GATE : List RegDesc := regsSK_GATE_0

/-! ### Block SK_FLT at 0x20005000 (R508) -/

def A_SK_FLT_LATCH : Nat := 0x20005000
def SK_FLT_LATCH_LATCH : Fld := ⟨A_SK_FLT_LATCH, 0, 6⟩
def SK_FLT_LATCH_CLR_REFUSED : Fld := ⟨A_SK_FLT_LATCH, 8, 1⟩
def A_SK_FLT_FIRST : Nat := 0x20005004
def SK_FLT_FIRST_BIT : Fld := ⟨A_SK_FLT_FIRST, 0, 4⟩
def SK_FLT_FIRST_SEC : Fld := ⟨A_SK_FLT_FIRST, 16, 16⟩
def A_SK_FLT_CNT : Nat := 0x20005008
def SK_FLT_CNT : Fld := ⟨A_SK_FLT_CNT, 0, 16⟩

/-- Every register of block SK_FLT: address of index 0, array strides and counts, fields (R508). -/
def regsSK_FLT_0 : List RegDesc := [
  ⟨0x20005000, [], [⟨0, 6, .w1c, 0x0⟩, ⟨8, 1, .w1c, 0x0⟩]⟩,
  ⟨0x20005004, [], [⟨0, 4, .ro, 0xf⟩, ⟨16, 16, .ro, 0x0⟩]⟩,
  ⟨0x20005008, [], [⟨0, 16, .rc, 0x0⟩]⟩]
def regsSK_FLT : List RegDesc := regsSK_FLT_0

/-! ### Block SK_CONV at 0x20006000 (R425) -/

def A_SK_CONV_CFG : Nat := 0x20006000
def SK_CONV_CFG_MASK1 : Fld := ⟨A_SK_CONV_CFG, 0, 4⟩
def SK_CONV_CFG_MASK2 : Fld := ⟨A_SK_CONV_CFG, 4, 4⟩
def SK_CONV_CFG_MODE1 : Fld := ⟨A_SK_CONV_CFG, 8, 1⟩
def SK_CONV_CFG_MODE2 : Fld := ⟨A_SK_CONV_CFG, 9, 1⟩
def SK_CONV_CFG_DWELL : Fld := ⟨A_SK_CONV_CFG, 16, 8⟩
def A_SK_CONV_STAT : Nat := 0x20006004
def SK_CONV_STAT_INPUT1 : Fld := ⟨A_SK_CONV_STAT, 0, 2⟩
def SK_CONV_STAT_INPUT2 : Fld := ⟨A_SK_CONV_STAT, 2, 2⟩
def SK_CONV_STAT_TPEND1 : Fld := ⟨A_SK_CONV_STAT, 4, 1⟩
def SK_CONV_STAT_TPEND2 : Fld := ⟨A_SK_CONV_STAT, 5, 1⟩
def A_SK_CONV_TRIG : Nat := 0x20006008
def SK_CONV_TRIG : Fld := ⟨A_SK_CONV_TRIG, 0, 2⟩
def A_SK_CONV_MAINS_SW : Nat := 0x2000600c
def SK_CONV_MAINS_SW : Fld := ⟨A_SK_CONV_MAINS_SW, 0, 24⟩
def A_SK_CONV_TRIG_LOST : Nat := 0x20006010
def SK_CONV_TRIG_LOST : Fld := ⟨A_SK_CONV_TRIG_LOST, 0, 16⟩
def A_SK_CONV_RES (i j k : Nat) : Nat := 0x20006100 + 0x40 * i + 0x10 * j + 0x4 * k
def SK_CONV_RES_CODE (i j k : Nat) : Fld := ⟨A_SK_CONV_RES i j k, 0, 24⟩
def SK_CONV_RES_SETTLE (i j k : Nat) : Fld := ⟨A_SK_CONV_RES i j k, 24, 1⟩
def SK_CONV_RES_OVR (i j k : Nat) : Fld := ⟨A_SK_CONV_RES i j k, 25, 1⟩
def SK_CONV_RES_FULL (i j k : Nat) : Fld := ⟨A_SK_CONV_RES i j k, 26, 1⟩
def SK_CONV_RES_SEQ (i j k : Nat) : Fld := ⟨A_SK_CONV_RES i j k, 28, 4⟩

/-- Every register of block SK_CONV: address of index 0, array strides and counts, fields (R425). -/
def regsSK_CONV_0 : List RegDesc := [
  ⟨0x20006000, [], [⟨0, 4, .ro, 0x0⟩, ⟨4, 4, .ro, 0x0⟩, ⟨8, 1, .ro, 0x0⟩, ⟨9, 1, .ro, 0x0⟩, ⟨16, 8, .ro, 0x0⟩]⟩,
  ⟨0x20006004, [], [⟨0, 2, .ro, 0x0⟩, ⟨2, 2, .ro, 0x0⟩, ⟨4, 1, .ro, 0x0⟩, ⟨5, 1, .ro, 0x0⟩]⟩,
  ⟨0x20006008, [], [⟨0, 2, .wo, 0x0⟩]⟩,
  ⟨0x2000600c, [], [⟨0, 24, .rw, 0x0⟩]⟩,
  ⟨0x20006010, [], [⟨0, 16, .rc, 0x0⟩]⟩,
  ⟨0x20006100, [(0x40, 3), (0x10, 3), (0x4, 4)], [⟨0, 24, .ro, 0x0⟩, ⟨24, 1, .ro, 0x1⟩, ⟨25, 1, .ro, 0x0⟩, ⟨26, 1, .ro, 0x0⟩, ⟨28, 4, .ro, 0x0⟩]⟩]
def regsSK_CONV : List RegDesc := regsSK_CONV_0

/-! ### Block SK_PWR at 0x20007000 (R364) -/

def A_SK_PWR_CTRL : Nat := 0x20007000
def SK_PWR_CTRL_PARK : Fld := ⟨A_SK_PWR_CTRL, 0, 1⟩
def SK_PWR_CTRL_DIS_STOP : Fld := ⟨A_SK_PWR_CTRL, 1, 1⟩
def A_SK_PWR_STAT : Nat := 0x20007004
def SK_PWR_STAT_AUX : Fld := ⟨A_SK_PWR_STAT, 0, 3⟩
def SK_PWR_STAT_GS_OK : Fld := ⟨A_SK_PWR_STAT, 3, 4⟩
def SK_PWR_STAT_DISCHARGING : Fld := ⟨A_SK_PWR_STAT, 7, 1⟩
def SK_PWR_STAT_DIS_PAUSED : Fld := ⟨A_SK_PWR_STAT, 8, 1⟩
def SK_PWR_STAT_PARK_PEND : Fld := ⟨A_SK_PWR_STAT, 9, 1⟩
def SK_PWR_STAT_WAKE_CAUSE : Fld := ⟨A_SK_PWR_STAT, 12, 4⟩
def SK_PWR_STAT_PREV : Fld := ⟨A_SK_PWR_STAT, 16, 2⟩
def A_SK_PWR_EVT : Nat := 0x20007008
def SK_PWR_EVT_FB_OV : Fld := ⟨A_SK_PWR_EVT, 0, 1⟩
def SK_PWR_EVT_FB_UV : Fld := ⟨A_SK_PWR_EVT, 1, 1⟩
def SK_PWR_EVT_FB_OC : Fld := ⟨A_SK_PWR_EVT, 2, 1⟩
def SK_PWR_EVT_LOCKOUT : Fld := ⟨A_SK_PWR_EVT, 3, 1⟩
def SK_PWR_EVT_GS_FAIL : Fld := ⟨A_SK_PWR_EVT, 4, 1⟩
def SK_PWR_EVT_DIS_DONE : Fld := ⟨A_SK_PWR_EVT, 5, 1⟩
def SK_PWR_EVT_DIS_TIMEOUT : Fld := ⟨A_SK_PWR_EVT, 6, 1⟩
def SK_PWR_EVT_PARKED : Fld := ⟨A_SK_PWR_EVT, 7, 1⟩
def SK_PWR_EVT_HELD : Fld := ⟨A_SK_PWR_EVT, 8, 1⟩
def A_SK_PWR_THR : Nat := 0x2000700c
def SK_PWR_THR_V_START : Fld := ⟨A_SK_PWR_THR, 0, 10⟩
def SK_PWR_THR_V_STOP : Fld := ⟨A_SK_PWR_THR, 16, 10⟩
def A_SK_PWR_TIMES : Nat := 0x20007010
def SK_PWR_TIMES_PARK_AFTER : Fld := ⟨A_SK_PWR_TIMES, 0, 16⟩
def SK_PWR_TIMES_DARK_HOLD : Fld := ⟨A_SK_PWR_TIMES, 16, 16⟩
def A_SK_PWR_DIS : Nat := 0x20007014
def SK_PWR_DIS_DISCH_AFTER : Fld := ⟨A_SK_PWR_DIS, 0, 16⟩
def SK_PWR_DIS_DIS_TIMEOUT : Fld := ⟨A_SK_PWR_DIS, 16, 12⟩
def A_SK_PWR_DIS_END : Nat := 0x20007018
def SK_PWR_DIS_END_V_DIS_END : Fld := ⟨A_SK_PWR_DIS_END, 0, 10⟩
def SK_PWR_DIS_END_T_DIS_MAX : Fld := ⟨A_SK_PWR_DIS_END, 16, 7⟩
def A_SK_PWR_FB : Nat := 0x2000701c
def SK_PWR_FB_SS_MS : Fld := ⟨A_SK_PWR_FB, 0, 5⟩
def SK_PWR_FB_FB_FREQ : Fld := ⟨A_SK_PWR_FB, 8, 8⟩
def A_SK_PWR_HOLD_SEC : Nat := 0x20007020
def SK_PWR_HOLD_SEC : Fld := ⟨A_SK_PWR_HOLD_SEC, 0, 32⟩
def A_SK_PWR_RUN_SEC : Nat := 0x20007024
def SK_PWR_RUN_SEC : Fld := ⟨A_SK_PWR_RUN_SEC, 0, 32⟩
def A_SK_PWR_HOLD_CNT : Nat := 0x20007028
def SK_PWR_HOLD_CNT : Fld := ⟨A_SK_PWR_HOLD_CNT, 0, 16⟩
def A_SK_PWR_RETRY_CNT : Nat := 0x2000702c
def SK_PWR_RETRY_CNT : Fld := ⟨A_SK_PWR_RETRY_CNT, 0, 16⟩
def A_SK_PWR_DIS_TIME : Nat := 0x20007030
def SK_PWR_DIS_TIME : Fld := ⟨A_SK_PWR_DIS_TIME, 0, 16⟩

/-- Every register of block SK_PWR: address of index 0, array strides and counts, fields (R364). -/
def regsSK_PWR_0 : List RegDesc := [
  ⟨0x20007000, [], [⟨0, 1, .wo, 0x0⟩, ⟨1, 1, .wo, 0x0⟩]⟩,
  ⟨0x20007004, [], [⟨0, 3, .ro, 0x0⟩, ⟨3, 4, .ro, 0x0⟩, ⟨7, 1, .ro, 0x0⟩, ⟨8, 1, .ro, 0x0⟩, ⟨9, 1, .ro, 0x0⟩, ⟨12, 4, .ro, 0x0⟩, ⟨16, 2, .ro, 0x0⟩]⟩,
  ⟨0x20007008, [], [⟨0, 1, .w1c, 0x0⟩, ⟨1, 1, .w1c, 0x0⟩, ⟨2, 1, .w1c, 0x0⟩, ⟨3, 1, .w1c, 0x0⟩, ⟨4, 1, .w1c, 0x0⟩, ⟨5, 1, .w1c, 0x0⟩, ⟨6, 1, .w1c, 0x0⟩, ⟨7, 1, .w1c, 0x0⟩, ⟨8, 1, .w1c, 0x0⟩]⟩,
  ⟨0x2000700c, [], [⟨0, 10, .ro, 0x3c⟩, ⟨16, 10, .ro, 0x28⟩]⟩,
  ⟨0x20007010, [], [⟨0, 16, .ro, 0x32⟩, ⟨16, 16, .ro, 0x3e8⟩]⟩,
  ⟨0x20007014, [], [⟨0, 16, .ro, 0x0⟩, ⟨16, 12, .ro, 0x258⟩]⟩,
  ⟨0x20007018, [], [⟨0, 10, .ro, 0x32⟩, ⟨16, 7, .ro, 0x55⟩]⟩,
  ⟨0x2000701c, [], [⟨0, 5, .ro, 0x4⟩, ⟨8, 8, .ro, 0x64⟩]⟩,
  ⟨0x20007020, [], [⟨0, 32, .ro, 0x0⟩]⟩,
  ⟨0x20007024, [], [⟨0, 32, .ro, 0x0⟩]⟩,
  ⟨0x20007028, [], [⟨0, 16, .ro, 0x0⟩]⟩,
  ⟨0x2000702c, [], [⟨0, 16, .rc, 0x0⟩]⟩,
  ⟨0x20007030, [], [⟨0, 16, .ro, 0x0⟩]⟩]
def regsSK_PWR : List RegDesc := regsSK_PWR_0

/-! ### Block SK_LOG at 0x20008000 (R675) -/

def A_SK_LOG_WIDX : Nat := 0x20008000
def SK_LOG_WIDX : Fld := ⟨A_SK_LOG_WIDX, 0, 12⟩
def A_SK_LOG_CNT : Nat := 0x20008004
def SK_LOG_CNT : Fld := ⟨A_SK_LOG_CNT, 0, 32⟩

/-- Every register of block SK_LOG: address of index 0, array strides and counts, fields (R675). -/
def regsSK_LOG_0 : List RegDesc := [
  ⟨0x20008000, [], [⟨0, 12, .ro, 0x0⟩]⟩,
  ⟨0x20008004, [], [⟨0, 32, .ro, 0x0⟩]⟩]
def regsSK_LOG : List RegDesc := regsSK_LOG_0

/-! ### Block SK_MON at 0x20009000 (R677) -/

def A_SK_MON_CFG : Nat := 0x20009000
def SK_MON_CFG_MON_EN : Fld := ⟨A_SK_MON_CFG, 0, 1⟩
def A_SK_MON_STAT : Nat := 0x20009004
def SK_MON_STAT_ENABLED : Fld := ⟨A_SK_MON_STAT, 0, 1⟩
def SK_MON_STAT_LEVEL : Fld := ⟨A_SK_MON_STAT, 1, 1⟩
def SK_MON_STAT_BUSY : Fld := ⟨A_SK_MON_STAT, 2, 1⟩
def SK_MON_STAT_LOCKOUT : Fld := ⟨A_SK_MON_STAT, 3, 1⟩
def A_SK_MON_RX_ERR : Nat := 0x20009008
def SK_MON_RX_ERR : Fld := ⟨A_SK_MON_RX_ERR, 0, 16⟩
def A_SK_MON_DISCARD : Nat := 0x2000900c
def SK_MON_DISCARD : Fld := ⟨A_SK_MON_DISCARD, 0, 16⟩
def A_SK_MON_DENY_CNT : Nat := 0x20009010
def SK_MON_DENY_CNT : Fld := ⟨A_SK_MON_DENY_CNT, 0, 16⟩

/-- Every register of block SK_MON: address of index 0, array strides and counts, fields (R677). -/
def regsSK_MON_0 : List RegDesc := [
  ⟨0x20009000, [], [⟨0, 1, .ro, 0x1⟩]⟩,
  ⟨0x20009004, [], [⟨0, 1, .ro, 0x1⟩, ⟨1, 1, .ro, 0x0⟩, ⟨2, 1, .ro, 0x0⟩, ⟨3, 1, .ro, 0x0⟩]⟩,
  ⟨0x20009008, [], [⟨0, 16, .rc, 0x0⟩]⟩,
  ⟨0x2000900c, [], [⟨0, 16, .rc, 0x0⟩]⟩,
  ⟨0x20009010, [], [⟨0, 16, .rc, 0x0⟩]⟩]
def regsSK_MON : List RegDesc := regsSK_MON_0

end Sys2Proof.Machine
end

