-- ==== Sys2Proof/Machine/RegMap.lean ====
section
/-! DEFINITION. Finding a register by its address, and the word it holds after reset (R13, R650, R651, R655, R667). -/

namespace Sys2Proof.Machine

/-- The registers of Balgal block `b` (R650). -/
def balBlock : Nat → List RegDesc
  | 0 => regsTOP | 1 => regsCHART | 2 => regsLANE0 | 3 => regsLANE1 | 4 => regsCW0 | 5 => regsCW1
  | 6 => regsTIME | 7 => regsREEF | 8 => regsRUN | 9 => regsLOOP | 10 => regsSCHED | 11 => regsSND
  | 12 => regsCONV | 13 => regsACQ | 14 => regsMEM | 15 => regsDMA | 16 => regsFLT | 17 => regsRED
  | 18 => regsSAFE | 19 => regsPROF | 20 => regsNET | 21 => regsHOST | 22 => regsMON | 23 => regsPWR
  | _ => []

/-- The registers of Skerry block `b`, the block of base 0x2000_0000 + 0x1000 b. -/
def skBlock : Nat → List RegDesc
  | 0 => regsSK_TOP | 1 => regsSK_LINK | 2 => regsSK_TIME | 3 => regsSK_CMD | 4 => regsSK_GATE
  | 5 => regsSK_FLT | 6 => regsSK_CONV | 7 => regsSK_PWR | 8 => regsSK_LOG | 9 => regsSK_MON
  | _ => []

/-- The block number of a Balgal register address: bits [23:16] (R650). -/
def blkOf (a : Nat) : Nat := (a - 0x40000000) / 0x10000

/-- The row of the register at a Balgal address, if one stands there (R651). -/
def findBal (a : Nat) : Option RegDesc :=
  if 0x40000000 ≤ a ∧ a < 0x40180000 then (balBlock (blkOf a)).find? (fun r => r.hit a) else none

/-- The row of the register at a Skerry address, if one stands there (R667). -/
def findSk (a : Nat) : Option RegDesc :=
  if 0x20000000 ≤ a ∧ a < 0x2000a000 then (skBlock ((a - 0x20000000) / 0x1000)).find? (fun r => r.hit a) else none

/-- The sources that are uncorrected but contained by default (R486). -/
def srcUncorrected : List Nat :=
  [0x042, 0x083, 0x0E5, 0x0E6, 0x102, 0x162, 0x1C6, 0x1C7, 0x1E3, 0x222, 0x223, 0x242, 0x283, 0x284]

/-- The sources that are fatal by default (R486). -/
def srcFatal : List Nat := [0x003, 0x023, 0x045, 0x0E7, 0x243, 0x2E3]

/-- The corrected sources that are latched by default (R486). -/
def srcCorrectedLatched : List Nat :=
  [0x002, 0x022, 0x024, 0x043, 0x044, 0x082, 0x084, 0x085, 0x086, 0x0C2, 0x0C3, 0x0C4, 0x0E3, 0x123, 0x142, 0x182,
   0x1C3, 0x1C4, 0x1C5, 0x1E2, 0x202, 0x203, 0x204, 0x205, 0x206, 0x207, 0x208, 0x209, 0x224, 0x225, 0x226,
   0x262, 0x282, 0x2A2, 0x2C2, 0x2E2]

/-- The corrected sources that are not latched by default, beside range and lock-write (R486). -/
def srcCorrectedUnlatched : List Nat := [0x0E2, 0x0E4, 0x122, 0x163, 0x183, 0x1A2, 0x1C2]

/-- The sources whose class and latch flag are fixed (R486). -/
def srcFixed : List Nat := [0x023, 0x024, 0x242, 0x243]

/-- Whether an identifier names a source: unit bit 0 of every block but the second LANE and CW blocks, unit bit 1 of
every such block with a LOCK (RUN has none, R650), and the rows of R486. -/
def isSource (id : Nat) : Bool :=
  let b := id / 32
  let u := id % 32
  (decide (b < 24) && b ≠ 3 && b ≠ 5 && (u = 0 || (u = 1 && b ≠ 8)))
  || srcUncorrected.contains id || srcFatal.contains id || srcCorrectedLatched.contains id
  || srcCorrectedUnlatched.contains id

/-- The default FLT_CLASS word: CLASS in [1:0], LATCH in [2] (R486, R663). -/
def defaultClass (id : Nat) : Nat :=
  if srcFatal.contains id then 6 else if srcUncorrected.contains id then 5
  else if srcCorrectedLatched.contains id then 4 else 0

/-- The word a Balgal register holds after reset; 0 where no register stands. FLT_CLASS[i] holds the defaults of R486. -/
def balReset (a : Nat) : Word :=
  if 0x40101000 ≤ a ∧ a < 0x40101000 + 4 * 768 ∧ a % 4 = 0 then BitVec.ofNat 32 (defaultClass ((a - 0x40101000) / 4))
  else match findBal a with
    | some r => BitVec.ofNat 32 (resetWord r.fields)
    | none => 0

/-- The word a Skerry register holds after reset, apart from the strap-sourced fields (R13), which the entry into RUN
writes. -/
def skReset (a : Nat) : Word :=
  match findSk a with
  | some r => BitVec.ofNat 32 (resetWord r.fields)
  | none => 0

end Sys2Proof.Machine
end

