-- ==== Sys2Proof/Config.lean ====
section
/-! DEFINITION. The values the spec leaves open. Each is a constant with no body: nothing can evaluate it. -/

namespace Sys2Proof.Config

/-- The k-th value that the spec leaves open (assumption log, entry 2). A step that meets an open value reads the
State's counter of free values and advances it. -/
opaque freeValue : Nat → BitVec 64

end Sys2Proof.Config
end

