-- ==== Sys2Proof/Machine/F64.lean ====
section
/-! DEFINITION. Numbers of IEEE 754-2019 binary64 as the profile generator holds them (R564): 53 significant bits, rounded
to nearest, ties to even. Its values stay far inside the exponent range, and no rule tells −0 from 0. -/

namespace Sys2Proof.Machine

/-- The value m × 2^e; m is odd, or both are 0. -/
structure F64 where
  m : Int
  e : Int
deriving DecidableEq, Repr

def F64.zero : F64 := ⟨0, 0⟩

/-- The exponent of the highest power of 2 that divides n. -/
def lowBit (n : Nat) : Nat := (n - (n &&& (n - 1))).log2

/-- n × 2^e with its sign, rounded to 53 bits; `sticky` says that a remainder below the last bit of n was cut off. -/
def F64.round (neg : Bool) (n : Nat) (e : Int) (sticky : Bool) : F64 :=
  if n = 0 then .zero
  else
    let sh := n.log2 + 1 - 53
    let q := n >>> sh
    let r := n - q <<< sh
    let h := 2 ^ (sh - 1)
    let up := decide (sh > 0) && (decide (r > h) || (decide (r = h) && (sticky || decide (q % 2 = 1))))
    let q := if up then q + 1 else q
    let z := lowBit q
    ⟨(if neg then -1 else 1) * ((q >>> z : Nat) : Int), e + sh + z⟩

/-- m × 2^e rounded. -/
def F64.mk' (m : Int) (e : Int) : F64 := F64.round (decide (m < 0)) m.natAbs e false

def F64.ofInt (i : Int) : F64 := F64.mk' i 0
/-- A Q16.16 value. -/
def F64.ofQ16 (i : Int) : F64 := F64.mk' i (-16)

def F64.neg (x : F64) : F64 := ⟨-x.m, x.e⟩
def F64.abs (x : F64) : F64 := ⟨x.m.natAbs, x.e⟩

/-- The mantissa of x over a lower exponent. -/
def F64.over_ (x : F64) (e : Int) : Int := x.m * 2 ^ (x.e - e).toNat

def F64.add (x y : F64) : F64 :=
  if x.m = 0 then y else if y.m = 0 then x
  else let e := min x.e y.e; F64.mk' (x.over_ e + y.over_ e) e
def F64.sub (x y : F64) : F64 := x.add y.neg
def F64.mul (x y : F64) : F64 := F64.mk' (x.m * y.m) (x.e + y.e)
def F64.half (x : F64) : F64 := if x.m = 0 then x else ⟨x.m, x.e - 1⟩
def F64.dbl (x : F64) : F64 := if x.m = 0 then x else ⟨x.m, x.e + 1⟩

/-- x / y, for y other than 0; 0 where y is 0, which no plan reaches. -/
def F64.div (x y : F64) : F64 :=
  if y.m = 0 ∨ x.m = 0 then .zero
  else
    let n := x.m.natAbs <<< 120
    let d := y.m.natAbs
    F64.round (decide ((x.m < 0) ≠ (y.m < 0))) (n / d) (x.e - y.e - 120) (decide (n % d ≠ 0))

/-- The integer square root, built from bit `b` down. -/
def isqrtBits (n : Nat) : Nat → Nat → Nat
  | 0, r => r
  | b + 1, r => isqrtBits n b (if (r + 2 ^ b) * (r + 2 ^ b) ≤ n then r + 2 ^ b else r)

/-- √x for x at or above 0; 0 below. -/
def F64.sqrt (x : F64) : F64 :=
  if x.m ≤ 0 then .zero
  else
    let odd := x.e % 2 ≠ 0
    let n := (x.m.natAbs <<< (if odd then 121 else 120))
    let e := (if odd then x.e - 121 else x.e - 120) / 2
    let r := isqrtBits n 90 0
    F64.round false r e (decide (r * r ≠ n))

def F64.lt (x y : F64) : Bool := let e := min x.e y.e; decide (x.over_ e < y.over_ e)
def F64.le (x y : F64) : Bool := !y.lt x
def F64.min (x y : F64) : F64 := if y.lt x then y else x
def F64.max (x y : F64) : F64 := if x.lt y then y else x
def F64.sign (x : F64) : Int := if x.m > 0 then 1 else if x.m < 0 then -1 else 0
/-- x with the sign of s, 0 where s is 0. -/
def F64.signed (s : Int) (x : F64) : F64 := ⟨s * x.m, if s = 0 then 0 else x.e⟩

/-- x × 2^k rounded to the nearest integer, ties toward +∞ (R279). -/
def F64.toFix (k : Nat) (x : F64) : Int :=
  let e := x.e + k
  if e ≥ 0 then x.m * 2 ^ e.toNat else (2 * x.m + 2 ^ (-e).toNat) / (2 * 2 ^ (-e).toNat)

/-- x rounded down. -/
def F64.floor (x : F64) : Int := if x.e ≥ 0 then x.m * 2 ^ x.e.toNat else x.m / 2 ^ (-x.e).toNat

/-- The 64 bits of the interchange format. -/
def F64.bits (x : F64) : Nat :=
  if x.m = 0 then 0
  else
    let n := x.m.natAbs
    let l := n.log2
    let ex : Nat := (x.e + (l : Int) + 1023).toNat
    let fr : Nat := n * 2 ^ (52 - l)
    (if x.m < 0 then 2 ^ 63 else 0) + ex * 2 ^ 52 + fr % 2 ^ 52

/-- The value of 64 bits. -/
def F64.ofBits (b : Nat) : F64 :=
  let ex : Nat := b / 2 ^ 52 % 2048
  let fr : Nat := b % 2 ^ 52
  if ex = 0 ∧ fr = 0 then .zero
  else F64.round (bitOf b 63) ((if ex = 0 then 0 else 2 ^ 52) + fr) ((if ex = 0 then 1 else (ex : Int)) - 1075) false

end Sys2Proof.Machine
end

