-- ==== Sys2Proof/Machine/State.lean ====
section
/-! DEFINITION. The state of the chip set: one Balgal and the Skerries of its cells, and the queue of commands. -/

namespace Sys2Proof.Machine
open Sys2Proof

/-- The machine stops with no fault: every command has an effect or none, and the spec's own errors are states of the
registers. Kept as a closed type with one constructor for an empty reason. -/
inductive Fault where
  /-- Raised by no command: nothing in the spec stops the chip set for good. Safe. -/
  | none
deriving DecidableEq, Repr

/-- The reasons a command is refused. -/
inductive Refusal where
  /-- The command has no meaning in this model (Dispatch.lean raises it by name). Safe. -/
  | notModelled (mnemonic : String)
deriving DecidableEq, Repr

/-! ### Time -/

/-- A latched CT value, with the path and the discipline state at the latch (R170). -/
structure CtLatch where
  ct : Nat
  path : Nat
  st : Nat
deriving DecidableEq, Repr

/-- The clocks of one chip (R167, R168, R171 to R179). CT values count in units of 2^-18 ns. -/
structure Clk where
  /-- COUNT, the free-running word-clock counter -/
  count : Nat
  /-- CBASE: COUNT when BASE was loaded -/
  cbase : Nat
  /-- BASE: CT when RATE or SLEW last changed -/
  base : Nat
  /-- SLEW in units of 2^-40 -/
  slew : Int
  /-- the part of the correction in progress not yet applied at CBASE, in 2^-18 ns -/
  left : Int
  /-- the correction in progress is an accepted slew (R182) -/
  accepted : Bool
  /-- the fallback pair, in ns since second 0 -/
  fb : Nat
  /-- towards the next fallback tick: word clocks, or in deep hold 1/512 word clocks -/
  fbAcc : Nat
  /-- 32.768 kHz ticks of the present group of 64 (R176) -/
  fbTick : Nat
  /-- consecutive samples within LOCK_BAND (R178, R191) -/
  lockCnt : Nat
  /-- the latch of each port, by master number (R170) -/
  latches : List (Nat × CtLatch)
deriving DecidableEq, Repr

/-- Clocks at the release of a reset: COUNT 0, CT 0. -/
def Clk.zero : Clk := ⟨0, 0, 0, 0, 0, false, 0, 0, 0, 0, []⟩

/-! ### Faults -/

/-- A raise: the source, its INFO word and COUNT at the raise edge (R485, R488). -/
structure Raise where
  id : Nat
  info : Nat
  edge : Nat
  ct : Nat
deriving DecidableEq, Repr

/-- What the fault unit holds beside its registers (R488 to R499). -/
structure Flt where
  /-- raises not yet taken by the fault unit, oldest first -/
  raised : List Raise
  /-- COUNT at which each record was filled (R490) -/
  filled : List (Nat × Nat)
  /-- COUNT at which the running reaction timer of a record expires; 0 without a timer (R491) -/
  timer : List (Nat × Nat)
  /-- COUNT at which a timer last moved a record up, plus 1; 0 for never (R494) -/
  moved : List (Nat × Nat)
  /-- the move filled the next record rather than setting its OVF (R494) -/
  movedFresh : Bool
  /-- COUNT from which the quiet period runs (R497) -/
  quietFrom : Nat
  /-- COUNT of the first edge of phase RUN (R499) -/
  runEdge : Nat
  /-- the condition that asserts IRQ_N holds (R500, R604) -/
  irqCond : Bool
  /-- the condition as it held on the last edge -/
  irqWas : Bool
  /-- IRQ_N is driven low: asserted on the edge after the condition begins, released on the second edge after it ends -/
  irqPin : Bool
deriving DecidableEq, Repr

def Flt.zero : Flt := ⟨[], [], [], [], false, 0, 0, false, false, false⟩

/-! ### Scheduler and engines -/

/-- What the scheduler holds beside its registers (R321 to R338). -/
structure Sched where
  /-- ready time of each task in READY or HELD -/
  readyAt : List (Nat × Nat)
  /-- asking engines with the COUNT of their ask, earliest first -/
  asks : List (Nat × Nat)
  /-- COUNT of the grant of the task each engine holds -/
  grantAt : List (Nat × Nat)
  /-- flags cleared at each engine's last grant (SCHED_GOT) -/
  got : List (Nat × Nat)
  /-- SCHED_GOT of each engine before its last grant, for a grant that a halt withdraws (R334) -/
  gotWas : List (Nat × Nat)
  /-- ready time, at its grant, of the task each engine holds -/
  grantReady : List (Nat × Nat)
  /-- engines whose held task has exceeded its RUN_LIMIT under the present grant (R329) -/
  late : List Nat
  /-- trace records waiting for SRAM, oldest first (R337) -/
  traceQ : List (List Byte)
  /-- COUNT at which the statistics window started (R338) -/
  winFrom : Nat
  /-- word clocks for which each engine held tasks completed in the window -/
  busy : List (Nat × Nat)
  /-- sum of the waits of each task, in word clocks -/
  wsum : List (Nat × Nat)
deriving DecidableEq, Repr

def Sched.zero : Sched := ⟨[], [], [], [], [], [], [], [], 0, [], []⟩

/-! ### The chart -/

/-- The chart units: the chart in load, the applied sections, the fuses (R39, R54, R56, R69). -/
structure Chart where
  /-- where the load in progress reads from: 0 flash slot 0, 1 flash slot 1, 2 SRAM -/
  src : Nat
  /-- the bytes of the chart being loaded -/
  img : List Byte
  /-- the directory of the running chart: TYPE × 256 + INSTANCE, FLAGS, LENGTH, CRC -/
  dir : List (Nat × Nat × Nat × Nat)
  /-- the payload of every applied section, by TYPE × 256 + INSTANCE; ROLE, FRAME, BERTH and CELL are the chart store -/
  secs : List (Nat × List Byte)
  /-- the chart of a pending hot load -/
  hot : List Byte
  /-- the pending hot load has passed its checks and awaits its apply edge -/
  hotReady : Bool
  /-- the four public-key slots of the fuses -/
  keys : List (Nat × List Byte)
  /-- bit k: slot k is programmed -/
  keyProg : Nat
  /-- bit k: slot k is revoked -/
  keyRev : Nat
  /-- COUNT at the start of the last load -/
  loadFrom : Nat
deriving DecidableEq, Repr

def Chart.zero : Chart := ⟨0, [], [], [], [], false, [], 0, 0, 0⟩

/-! ### Flash orders waiting for a lane -/

/-- The types of a flash order (R152). -/
inductive FlashKind where
  | blockAll | commit | bypassOne | insertOne | timeMark | wake
deriving DecidableEq, Repr

/-- A flash order that is due on a lane. -/
structure DueOrder where
  lane : Nat
  kind : FlashKind
  d1 : Nat
  d2 : Nat
  /-- the route byte of an order that leaves on mate lane 3 (R515) -/
  route : Nat
  /-- COUNT at which the need arose -/
  edge : Nat
  /-- deferred to a later ferry cycle, and counted -/
  late : Bool
deriving DecidableEq, Repr

/-- The lanes' flash-order queues and budgets (R158, R159). -/
structure FlashQ where
  /-- orders waiting for their lane, in the order in which their needs arose -/
  due : List DueOrder
  /-- flash orders sent by each lane in this ferry cycle -/
  sent : List (Nat × Nat)
  /-- lanes that have sent a block-all in this ferry cycle, and a commit -/
  sentBA : List Nat
  sentC : List Nat
  /-- COUNT at the last block-all sent, plus 1; 0 for none (R657) -/
  lastBA : Nat
deriving DecidableEq, Repr

def FlashQ.zero : FlashQ := ⟨[], [], [], [], 0⟩

/-! ### Sounding converters (R398 to R421) -/

/-- The charge gathered for one longer result: in 1/256 packets, over `dur` word clocks, the sign of the last railed
edge (0 none), and whether a change other than a scan move fell on it (R411). -/
structure Win where
  q : Int
  dur : Nat
  ovr : Int
  chg : Bool
deriving DecidableEq, Repr

def Win.zero : Win := ⟨0, 0, 0, false⟩

/-- Results being combined into one stream record: how many, CT of the first one's start, the window (R419). -/
structure Comb where
  n : Nat
  start : Nat
  win : Win
deriving DecidableEq, Repr

/-- One converter between its results (R404 to R412, R418). -/
structure ConvSt where
  /-- set-up in force, in the layout of CONV_CFG -/
  cfg : Nat
  /-- sub-windows left for the selected input; 0 for the last input of a CONT scan -/
  left : Nat
  /-- sub-windows that still carry SETTLE of change cause, and of scan cause -/
  settle : Nat
  scanSettle : Nat
  /-- sign of a rail in the last sub-window: the next one carries OVR (R404) -/
  ovrNext : Int
  /-- a trigger has come and the scan starts on the next sub-window boundary (R407) -/
  trig : Bool
  /-- COUNT at the last trigger, plus 1 -/
  trigAt : Nat
  /-- a TRIG scan runs; a trigger is pending (R408) -/
  scanning : Bool
  tpend : Bool
  /-- input selected -/
  sel : Nat
  /-- stream records waiting for SRAM, oldest first -/
  queue : List (List Byte)
  /-- stream combination of each input -/
  comb : List (Nat × Comb)
deriving DecidableEq, Repr

def ConvSt.zero : ConvSt := ⟨0, 0, 0, 0, 0, false, 0, false, false, 0, [], []⟩

/-- The converters of one chip: their states, and the windows in progress, that of kind k of input m of converter n at
key 16 n + 4 k + m. -/
structure Conv where
  st : List (Nat × ConvSt)
  win : List (Nat × Win)
  /-- the window of each input's last result, and its midpoint at the balls in CT of 0.1 ns, at key 64 k + 4 n + m -/
  last : List (Nat × Win × Int)
  /-- mains windows run (R413), and the sub-windows left of the one in progress -/
  mainsOn : Bool
  mainsLeft : Nat
  /-- the mains tracker (R414): the last usable result and its ferry cycle, the last crossing in 1/16 ns, and the
  accepted periods in a row -/
  lastRes : Option (Int × Nat)
  lastX : Option Int
  accepted : Nat
deriving DecidableEq, Repr

def Conv.zero : Conv := ⟨[], [], [], false, 0, none, none, 0⟩

/-! ### The Skerry (R343 to R397, R666 to R677) -/

/-- The power states of R347. -/
inductive Power where
  | dark | deepHold | start | run | repeating
deriving DecidableEq, Repr

/-- The number of a power state (R347). -/
def Power.code : Power → Nat
  | .dark => 0 | .deepHold => 1 | .start => 2 | .run => 3 | .repeating => 4

/-- The always-on domain (R343, R347 to R363, R391 to R394). -/
structure SkPower where
  state : Power
  /-- STRAP_TYPE and STRAP_VFS as sampled at power-on -/
  ctype : Nat
  vfs : Nat
  /-- times of flyback faults, in ns of the fallback pair (R353) -/
  faults : List Nat
  /-- DEEP HOLD was entered through LOCKOUT (R351) -/
  lockout : Bool
  /-- VCAP has fallen below V_STOP since that LOCKOUT -/
  fell : Bool
  /-- REPEAT was entered on silence, not on PARK (R348) -/
  bySilence : Bool
  /-- the cause that the next entry into RUN shows -/
  wake : Nat
  /-- the START in progress came from DARK -/
  fromDark : Bool
  /-- fault inputs judged in REPEAT, latched on entry into RUN (R390) -/
  inputs : List Nat
  /-- CT second at the start of the running discharge -/
  disFrom : Nat
  /-- a discharge starts on entry into RUN (R357) -/
  disNext : Bool
  /-- HEALTH failed by a desaturation or current-class fault (R389) -/
  hard : Bool
  /-- BYP_FIRE and THY_TRIG are high -/
  byp : Bool
  thy : Bool
  /-- cause of the firing, as log codes 0x0040 and 0x0041 number it; 0 for none -/
  fireCause : Nat
  /-- seconds of CT at the first firing (R392) -/
  fireSec : Nat
  /-- the bypass switch has confirmed (R392) -/
  closed : Bool
  /-- ferry cycles until a PARK without a COLLECT takes effect; the reply to the WRITE has been collected (R360) -/
  parkCollected : Bool
  /-- the WRITE of PARK left this tag -/
  parkTag : Nat
deriving DecidableEq, Repr

def SkPower.zero : SkPower :=
  ⟨.dark, 0, 0, [], false, false, false, 0, true, [], 0, false, false, false, false, 0, 0, false, false, 0⟩

/-- A change that the gate timer holds: the state, CT of its edge, its slot (R256). -/
structure AfterCh where
  state : Nat
  at_ : Nat
  slot : Nat
deriving DecidableEq, Repr

/-- The gate timer (R365 to R384). -/
structure SkGate where
  /-- bit j: channel j of the present target is to be on -/
  want : Nat
  /-- COUNT at the last edge of channel j; a channel without an entry has been off for long (R366) -/
  chAt : List (Nat × Nat)
  /-- bit j: the pending turn-off or turn-on of channel j has been counted in SK_GATE_DEFER_CNT -/
  counted : Nat
  /-- COUNT from which the refresh time of pair p runs (R382) -/
  refFrom : List (Nat × Nat)
  /-- WHALF in force, a pending one, and the boundary or mid-period that ends the half in progress -/
  whalf : Nat
  wpend : Option Nat
  /-- 0 no grid, 1 first half in progress, 2 second half -/
  half : Nat
  /-- commanded edges of pair 0 not yet taken: COUNT and whether the upper channel is to be on -/
  cmds : List (Nat × Bool)
  /-- x of the second half of the last period (R374) -/
  lastX : Nat
  /-- the upper and the lower channel have turned on in this period (R368) -/
  turned : Nat
  /-- modulation resumes at the next boundary -/
  resume : Bool
  /-- a mode order waits: 0 step, 1 weave (R378) -/
  mode : Option Nat
  /-- the weave grid is anchored at the next ferry-cycle start plus WEAVE_OFS -/
  anchor : Bool
  /-- turn-ons wait for this COUNT, and MIN_PULSE does not hold them: the edges of rank 2 (R371) -/
  notBefore : Nat
  noMin : Bool
  /-- COUNT at which the refresh pulse in progress ends (R384) -/
  pulseEnd : Nat
  /-- a force waits for its timer boundary: the state (R379) -/
  force : Option Nat
  /-- the AFTER change held (R256) -/
  after : Option AfterCh
deriving DecidableEq, Repr

def SkGate.zero : SkGate := ⟨0, [], 0, [], 625, none, 0, [], 0, 0, false, none, false, 0, false, 0, none, none⟩

/-- The stages an armed slot holds (R127, R252): the commit instant, states, duties (none: unchanged), AFTER change. -/
structure Slot where
  at_ : Nat
  stA : Nat
  stB : Nat
  dutyA : Option Nat
  dutyB : Option Nat
  stAfter : Nat
  after : Nat
deriving DecidableEq, Repr

def Slot.zero : Slot := ⟨0, 0, 0, none, none, 0, 0⟩

/-- What a cell knows of the ferries of one cycle: SEQ, the stages' EPOCH and COMMIT_AT, whether the command half has
been used (R126, R132, R252, R253). -/
structure SkCycle where
  seq : Nat
  /-- bit 0: a valid ferry on port H, bit 1: on port T -/
  got : Nat
  /-- EPOCH and COMMIT_AT of the first valid ferry with STAGE 1 -/
  staged : Option (Nat × Nat)
  /-- the slot that it armed -/
  slot : Option Nat
  /-- a valid ferry with VALID 1 has been used -/
  used : Bool
  /-- a refusal has been counted for two differing epochs -/
  refused : Bool
  /-- ports whose ferry of this cycle has been judged missing, as `got` -/
  lost : Nat
deriving DecidableEq, Repr

def SkCycle.zero : SkCycle := ⟨0, 0, none, none, false, false, 0⟩

/-- A recorded pair of ferries (R147): SEQ, Δ in 1/16 word clock, DEPART of the head and of the tail ferry. -/
structure SkPair where
  seq : Nat
  delta : Int
  depH : Nat
  depT : Nat
deriving DecidableEq, Repr

/-- The command decoder, commits and delay measurement of a cell (R121 to R163, R239 to R269). -/
structure SkCmd where
  slots : List (Nat × Slot)
  cyc : SkCycle
  /-- the first ferry of a pair: SEQ, port, arrival in 1/16 word clocks, DEPART -/
  first : Option (Nat × Nat × Int × Nat)
  pairs : List SkPair
  /-- the last 64 values of d_H and d_T, in 2^-18 ns -/
  dH : List Int
  dT : List Int
  /-- the hop positions disagree (R147) -/
  hopBad : Bool
  /-- MISS_H and MISS_T of the next status: bits 0 and 1 -/
  miss : Nat
  /-- the cell has obeyed a block-all and no commit has released it (R157, R263) -/
  blocked : Bool
  /-- the cell has taken its first valid ferry; its causeway and count hold -/
  learnt : Bool
  /-- errors of the last samples, newest first, and ferry cycles in block (R184), in 2^-18 ns -/
  errs : List Int
  inBlock : Nat
  /-- CT of the latest block-all acted on, plus 1; 0 for none (R263) -/
  blockAt : Nat
  /-- the delay estimate has just completed (R191) -/
  dlyNew : Bool
  /-- the last time-error sample refused, in 2^-18 ns -/
  refused : Int
  /-- epochs whose commit the discipline has kept from applying, until their deadline (R185, R257) -/
  missed : List Nat
deriving DecidableEq, Repr

def SkCmd.zero : SkCmd :=
  ⟨[], .zero, none, [], [], [], false, 0, true, false, [], 0, 0, false, 0, []⟩

/-- A pending freight reply (R138, R139). -/
structure SkReply where
  tag : Nat
  addr : Nat
  index : Nat
  data : List Byte
  len : Nat
  rsp : Nat
  ready : Bool
deriving DecidableEq, Repr

/-- Freight, the part and the firmware image of a cell (R75 to R81, R134 to R139, R361, R614 to R616). -/
structure SkFreight where
  reply : Option SkReply
  /-- ID of the part being received, and its blocks -/
  partId : Nat
  blocks : List (Nat × List Byte)
  /-- the applied part; empty for none -/
  part : List Byte
  image : List (Nat × List Byte)
  /-- the verified image that runs; empty on ROM -/
  running : List Byte
  /-- the core pair may run, and ns times of its restarts (R362) -/
  coreUp : Bool
  restarts : List Nat
  /-- the core pair's interrupt by a time trigger (R673) -/
  coreIrq : Bool
  /-- image blocks discarded and counted (R615) -/
  discarded : Nat
deriving DecidableEq, Repr

def SkFreight.zero : SkFreight := ⟨none, 0, [], [], [], [], false, [], false, 0⟩

/-- A receiver in LOCKED: the loss score and COUNT at the start of the present run of symbols without an error (R95), and
the symbol errors of the present error interval (R109). -/
structure LaneRx where
  score : Nat
  since : Nat
  errs : Nat
deriving DecidableEq, Repr

def LaneRx.zero : LaneRx := ⟨0, 0, 0⟩

/-- An armed time trigger: START and PERIOD as taken at ARM, the firings left, the
number of the next instant, and whether START had passed at ARM (R197, R198). -/
structure Trig where
  start : Nat
  period : Nat
  count : Nat
  k : Nat
  late : Bool
deriving DecidableEq, Repr

def Trig.zero : Trig := ⟨0, 0, 0, 0, false⟩

/-- A ferry that is passing through a Skerry: the symbols received so far, the status bytes written into it once its berth
has passed, and once its freight has, the reply that a COLLECT took from it (R131, R139, R146). -/
structure Pass where
  got : List Sym
  status : Option (List Byte)
  coll : Option (Option SkReply)
deriving DecidableEq, Repr

def Pass.zero : Pass := ⟨[], none, none⟩

/-- One Skerry. A cell that no entry lists is in DARK and holds nothing. -/
structure Skerry where
  regs : List (Nat × Word)
  /-- SRAM and the retained log, by the addresses of R346 -/
  mem : List Host.Cell
  clk : Clk
  pow : SkPower
  gate : SkGate
  cmd : SkCmd
  fr : SkFreight
  conv : Conv
  trigs : List (Nat × Trig)
  /-- the receivers of ports H and T -/
  ports : List (Nat × LaneRx)
  /-- by port, the ferry that is passing -/
  pass : List (Nat × Pass)
  /-- wrong LEVEL codes in a row at the monitor port -/
  monBad : Nat
deriving DecidableEq, Repr

def Skerry.dark : Skerry := ⟨[], [], .zero, .zero, .zero, .zero, .zero, .zero, [], [], [], 0⟩

/-! ### What the chips send -/

/-- A line that a monitor port prints (R621, R626): a final line, or a data line. -/
inductive Line where
  | ok
  /-- ERR with its code, and a second token -/
  | err (code : Nat) (more : Option Nat)
  /-- an address and the word there -/
  | word (a : Nat) (v : Word)
  /-- an address and the bytes from there on -/
  | bytes (a : Nat) (bs : List Byte)
  /-- a line of values in a fixed order that the command names -/
  | values (vs : List Nat)
deriving DecidableEq, Repr

/-- A message that leaves an Ethernet port, by the fields that the spec gives it; the standards it names lay it out. -/
inductive EthMsg where
  | pdelayReq (seq : Nat)
  /-- one-step: the turnaround time in 2^-18 ns -/
  | pdelayResp (seq : Nat) (turn : Int)
  | announce (seq prio1 class_ prio2 : Nat)
  /-- one-step: the origin in 2^-18 ns of CT -/
  | sync (seq origin : Nat)
  /-- publication u: stNum, sqNum, timeAllowedToLive in ms, the members, t in CT, TimeQuality -/
  | goose (u st sq ttl vals t quality : Nat)
deriving DecidableEq, Repr

/-- What a chip put on a pin, a lane or a bus. -/
inductive Out where
  /-- a register or memory read completed with this word -/
  | readData (p : Port) (v : Word)
  /-- a read of several bytes completed -/
  | readBytes (p : Port) (bs : List Byte)
  /-- an access ended with a bus error of this cause (R459) -/
  | busErr (p : Port) (cause : Nat)
  /-- a frame of symbols left Balgal lane `n` -/
  | frame (n : Nat) (ss : List Sym)
  /-- a flash order left Balgal lane `n` -/
  | flash (n : Nat) (ss : List Sym)
  /-- symbols left port `p` of the Skerry of cell `g` -/
  | onward (g p : Nat) (ss : List Sym)
  /-- an Ethernet frame left port `p` -/
  | eth (p : Nat) (m : EthMsg)
  /-- a copy frame left mate lane `n` (R530) -/
  | copy (n : Nat) (recs : List CopyRec)
  /-- a profile frame left mate lane 0 (R576) -/
  | profile (f : ProfFrame)
  /-- MSI-X vector `v` -/
  | msix (v : Nat)
  /-- a line of text left the monitor port of a chip -/
  | line (c : Chip) (l : Line)
  /-- a PMBus write: address, command, data -/
  | pmbus (addr cmd v : Nat)
  /-- a request of this chip to the host over PCIe ended well: a write or a read, the host address, the bytes (R603) -/
  | host (wr : Bool) (addr : Nat) (bs : List Byte)
deriving DecidableEq, Repr

/-! ### Arm engines and run-ahead (R203 to R251, R697) -/

/-- A cell's place in the lists, as of its last re-rank: list (0 none, 1 bypassed, 2 inserted), class, voltage then in
0.1 V, the arm's charge then, switching count (R210 to R213). -/
structure Rank where
  list : Nat
  cls : Nat
  v : Int
  q : Int
  sw : Nat
deriving DecidableEq, Repr

def Rank.zero : Rank := ⟨0, 0, 0, 0, 0⟩

/-- A stretch of one expected STATE: CT of its start, the state, the arm's charges Q and Q+ then (R205). -/
structure Seg where
  ct : Nat
  st : Nat
  q : Int
  qp : Int
deriving DecidableEq, Repr

/-- What a cell record holds beside REEF_REC (R203 to R231), and the sending of the cell's part (R77). -/
structure Rec where
  /-- SWITCH in 32 bits -/
  sw : Nat
  /-- last written status: HEALTH, APPLIED, PART; whether there has been one since the end of BUILD -/
  health : Nat
  applied : Nat
  part : Nat
  got : Bool
  /-- FAULT of the last accepted status -/
  fault : Bool
  /-- step cell, or weave -/
  weave : Bool
  /-- marked for retirement -/
  retire : Bool
  /-- stretches of expected STATE, newest first -/
  segs : List Seg
  /-- CT, Q and Q+ at the end of the window of the last accepted VCAP -/
  winCt : Nat
  winQ : Int
  winQp : Int
  /-- CT at which a swap gives the cell back to the lists; 0 for not held (R227) -/
  hold : Nat
  /-- CT of the end of the swap that served its refresh, until a later status comes; 0 for none -/
  served : Nat
  /-- COUNT at its first refresh request, plus 1; accepted statuses in a row with it; served ahead of others (R228) -/
  refAt : Nat
  refRun : Nat
  late : Bool
  /-- over-voltage statuses in a row (R229), differing statuses in a row (R208) -/
  ov : Nat
  diff : Nat
  /-- ferry cycles since a status was accepted; ferry cycle of the last accepted one, plus 1 (R204, R209) -/
  age : Nat
  cyc : Nat
  /-- retirement: APPLIED bypass or block was seen; ACTIONs sent; ferry cycle of the last, plus 1; ACTION 0x02 sent -/
  shown : Bool
  tries : Nat
  actAt : Nat
  thy : Bool
  /-- a retire timeout asks for another ACTION -/
  again : Bool
  rank : Rank
  /-- the part: blocks sent while in flight, ferry cycle of the last block plus 1, rejections in a row -/
  partBusy : Bool
  partBlk : Nat
  partAt : Nat
  partRej : Nat
  /-- a rejection of the part sent last has been counted -/
  partSeen : Bool
deriving DecidableEq, Repr

def Rec.zero : Rec :=
  { sw := 0, health := 0, applied := 0, part := 0, got := false, fault := false, weave := false, retire := false, segs := [], winCt := 0,
    winQ := 0, winQp := 0, hold := 0, served := 0, refAt := 0, refRun := 0, late := false, ov := 0, diff := 0, age := 0,
    cyc := 0, shown := false, tries := 0, actAt := 0, thy := false, again := false, rank := .zero, partBusy := false,
    partBlk := 0, partAt := 0, partRej := 0, partSeen := false }

/-- A fast arm-current result with the sign of R30: value in Q16.16 A, SETTLE, CT of its end. -/
structure IRes where
  v : Int
  settle : Bool
  ct : Nat
deriving DecidableEq, Repr

/-- One arm engine (R205, R213 to R220, R232, R246). -/
structure ArmSt where
  /-- Q and Q+ in Q16.16 A times 80 ns -/
  q : Int
  qp : Int
  /-- the last valid fast result -/
  lastI : Int
  /-- fast results, newest first: up to 26 marked SETTLE, then 27 from the newest valid one on -/
  res : List IRes
  /-- i − i* of the last judged sub-window (R304) -/
  err : Int
  /-- references of the control period in progress, and sub-windows ended in it (R298) -/
  iref : Int
  islope : Int
  subs : Nat
  /-- sub-windows since the last regulator change, changes in this ferry cycle, quiet ferry cycles, all results of this
  cycle, and of the last one, inside the band (R217, R219) -/
  gap : Nat
  cyc : Nat
  quiet : Nat
  inBand : Bool
  wasIn : Bool
  /-- COUNT at which each head last changed, plus 1: INS_CHG, INS_DIS, BYP_CHG, BYP_DIS (R215) -/
  headAt : List (Nat × Nat)
  /-- ferry-cycle starts: ferry cycle, CT, Q, Q+ -/
  starts : List (Nat × Nat × Int × Int)
  /-- ranks computed by the full re-sort in progress, and the cells updated since it began (R214) -/
  resort : List (Nat × Rank)
  since : List Nat
  /-- updates not yet re-ranked, oldest first (R213) -/
  queue : List Nat
  /-- arm-short and arm-capacity armed (R232) -/
  short : Bool
  trip : Bool
  /-- a stage has been decided for the arm (R246) -/
  decided : Bool
deriving DecidableEq, Repr

def ArmSt.zero : ArmSt :=
  { q := 0, qp := 0, lastI := 0, res := [], err := 0, iref := 0, islope := 0, subs := 0,
    gap := 1000, cyc := 0, quiet := 0, inBand := true, wasIn := false, headAt := [], starts := [], resort := [], since := [], queue := [],
    short := false, trip := false, decided := false }

/-- A command half (R127). -/
structure Berth where
  stA : Nat
  stB : Nat
  valid : Bool
  action : Nat
  dutyA : Nat
  dutyB : Nat
  stAfter : Nat
  after : Nat
deriving DecidableEq, Repr

def Berth.zero : Berth := ⟨0, 0, false, 0, 0, 0, 0, 0⟩

/-- A staged epoch as the Balgal keeps it: number, commit instant, the cells' command halves, the arms decided, the
rotation swaps of stages A and B of each arm (R240, R246). -/
structure Epoch where
  num : Nat
  ct : Nat
  cells : List (Nat × Berth)
  done : List Nat
  rot : List (Nat × Nat × Nat)
deriving DecidableEq, Repr

/-- An expected change of STATE: its CT, the cell, the state, and whether a flash order makes it (R207). -/
structure StEv where
  ct : Nat
  g : Nat
  st : Nat
  flash : Bool
deriving DecidableEq, Repr

/-- The arm engines, the planner and the stages (R203 to R251). -/
structure Reef where
  recs : List (Nat × Rec)
  arms : List (Nat × ArmSt)
  events : List StEv
  /-- staged epochs, newest first -/
  epochs : List Epoch
  /-- the command halves planned for the next ferry, full or not, with the rotation swaps of each arm -/
  plan : List (Nat × Berth)
  rot : List (Nat × Nat × Nat)
  full : Bool
  /-- ferry cycle in progress: N, and CT of its start -/
  cyc : Nat
  start : Nat
  /-- ferry cycles since the start of the control period -/
  ferry : Nat
  /-- an epoch has been committed (R267); the last two, with their commit instants -/
  lastEp : List (Nat × Nat)
deriving DecidableEq, Repr

def Reef.zero : Reef := ⟨[], [], [], [], [], [], false, 0, 0, 0, []⟩

/-! ### Loop engine (R270 to R308) -/

/-- A trace tap between its samples: samples since ARM, samples still to take after the trigger (R305). -/
structure Tap where
  n : Nat
  left : Nat
deriving DecidableEq, Repr

def Tap.zero : Tap := ⟨0, 0⟩

/-- What the loop engine holds beside its registers. -/
structure Loop where
  /-- by source code: the last valid value latched, plus 1; 0 for none since the end of BUILD (R276) -/
  held : List (Nat × Nat)
  /-- the value each driven sink takes at the next period start, plus 1 (R271) -/
  next : List (Nat × Nat)
  /-- integral terms of PI slots -/
  integ : List (Nat × Int)
  /-- passes since each change of a BAND slot, newest first, up to 255 (R283) -/
  hist : List (Nat × List Nat)
  /-- error of each slot, and its input A after the hold, in the last pass -/
  err : List (Nat × Int)
  inA : List (Nat × Nat)
  /-- RAMP slots due to start (R285), slots that LOOP_RESTART named (R292) -/
  start : List Nat
  restart : List Nat
  /-- a pass has seen COMMITTING at 0 since the last that saw it at 1 (R291) -/
  sawOff : Bool
  /-- flags that a swap has set, for the pass that follows (R294) -/
  swapFlags : List (Nat × Nat)
  taps : List (Nat × Tap)
deriving DecidableEq, Repr

def Loop.zero : Loop := ⟨[], [], [], [], [], [], [], [], false, [], []⟩

/-! ### Profile generator (R563 to R583) -/

/-- A stretch of a plan under one jerk: its start and length in s, p, v and a at its start, the jerk, the phase of
PROF_STAT, and whether it belongs to a reversal. -/
structure PSeg where
  t : F64
  dur : F64
  p : F64
  v : F64
  a : F64
  j : F64
  phase : Nat
  rev : Bool
deriving DecidableEq, Repr

/-- The profile generator: the plan from CT `t0` on, and p and v after its end; whether the position is kept unreduced
(R565); the target of the present command; a pending command (code, target); the working limits in force; LOOP_PARAM
[SLIP_PARAM] as last latched (R574). -/
structure Prof where
  t0 : Nat
  segs : List PSeg
  tE : F64
  pE : F64
  vE : F64
  posMode : Bool
  target : Int
  pend : Option (Nat × Nat)
  limV : Nat
  limA : Nat
  limD : Nat
  limJ : Nat
  slip : Nat
deriving DecidableEq, Repr

def Prof.zero : Prof := ⟨0, [], .zero, .zero, .zero, true, 0, none, 0, 0, 0, 0, 0⟩

/-! ### Recorder (R426 to R444) -/

/-- A trigger engine between its samples: the judged samples, newest first, and the midpoint of the newest in 0.1 ns;
primed for a rise and for a fall; COUNT at which the time hold-off ends and events still suppressed (R437 to R440). -/
structure Eng where
  vals : List Int
  mid : Int
  rise : Bool
  fall : Bool
  holdTo : Nat
  holdEv : Nat
deriving DecidableEq, Repr

def Eng.zero : Eng := ⟨[], 0, false, false, 0, 0⟩

/-- The recorder beside its registers (R428 to R442). -/
structure Recd where
  engs : List (Nat × Eng)
  /-- rows stored since the entry into FILL; the row of the ring that is the trigger row, plus 1 -/
  rows : Nat
  trigRow : Nat
  /-- the next row is the trigger row; pre-trigger rows held at the trigger; rows still to record -/
  trigNext : Bool
  pre : Nat
  left : Nat
  /-- the trigger edge: COUNT plus 1, CT; engines that fired on it; FORCED 1, AUTO 2; CROSS_CT; CHART_ID -/
  trigAt : Nat
  fireCt : Nat
  fires : Nat
  how : Nat
  cross : Nat
  chartId : Nat
  extra : Nat
  /-- COUNT at the entry into READY; COUNT plus 1 at the end of the last capture, which rearms -/
  readyAt : Nat
  rearm : Nat
  /-- row-clock edges since the last row; CT stepped, rows dropped since the last row; rows that carry STEP and GAP, the
  latest, plus 1 -/
  edges : Nat
  stepped : Bool
  dropped : Bool
  stepRow : Nat
  gapRow : Nat
  /-- windows gathered by a channel under decimation -/
  acc : List (Nat × Win)
  /-- accepted statuses of cells that a channel names: ferry cycle and word; the word each channel showed last -/
  cells : List (Nat × List (Nat × Nat))
  shown : List (Nat × Nat)
  /-- rows waiting for SRAM: address and bytes -/
  queue : List (Nat × List Byte)
  /-- segments of the captures, oldest first -/
  caps : List Nat
deriving DecidableEq, Repr

def Recd.zero : Recd :=
  { engs := [], rows := 0, trigRow := 0, trigNext := false, pre := 0, left := 0, trigAt := 0, fireCt := 0, fires := 0,
    how := 0, cross := 0, chartId := 0, extra := 0, readyAt := 0, rearm := 0, edges := 0, stepped := false, dropped := false,
    stepRow := 0, gapRow := 0, acc := [], cells := [], shown := [], queue := [], caps := [] }

/-! ### Balgal time (R166 to R201) -/

/-- The Balgal's time beside its clocks and registers. -/
structure TimeSt where
  trigs : List (Nat × Trig)
  /-- COUNT at which the pulse on TIME_OUT ends; 0 while the pin is low -/
  outTo : Nat
  /-- a commit has been sent since BUILD (R181) -/
  committed : Bool
  /-- steps made and not yet announced in a mate or arbiter frame (R183), in 2^-18 ns -/
  announce : Int
  /-- the control-period grid is anchored at the next ferry-cycle start (R195) -/
  anchor : Bool
  /-- a ferry cycle has started since the fallback pair was loaded (R172) -/
  loadDue : Bool
  /-- partner time stamps: by lane, SEQ and departure of this chip's frames, and the arrival of the partner's last frame
  with its SEQ (R144, R187) -/
  sent : List (Nat × Nat × Nat)
  heard : List (Nat × Nat × Nat)
  /-- the ferry cycle of the last partner sample, plus 1 (R187) -/
  sampled : Nat
deriving DecidableEq, Repr

def TimeSt.zero : TimeSt := ⟨[], 0, false, 0, false, false, [], [], 0⟩

/-! ### Lighthouse island (R532 to R562) -/

/-- A safety function between two safety cycles: X0 and the time in RAMP in 0.1 ms (R547, R548), the discrepancy (0 none,
1 latched, 2 both channels low since, 3 one has risen) and its timer in 0.1 ms (R540), K_DELAY runs (R543), the last value
of each source and for how many cycles it has been kept (R547). -/
structure SafeFn where
  x0 : Int
  t : Nat
  disc : Nat
  discT : Nat
  kdel : Bool
  vals : List (Nat × Int)
  ages : List (Nat × Nat)
deriving DecidableEq, Repr

def SafeFn.zero : SafeFn := ⟨0, 0, 0, 0, false, [], []⟩

/-- The island beside its registers. -/
structure Safe where
  /-- VDD_SAFE is present -/
  powered : Bool
  /-- the SAFETY section in force since the island's reset, and the last one refused -/
  sec : List Byte
  refused : List Byte
  /-- the store: the accepted digest, the password's salt and record; empty for none -/
  digest : List Byte
  salt : List Byte
  record : List Byte
  fns : List (Nat × SafeFn)
  /-- what the last safety cycle has judged: function, new state, cause, X0 -/
  judged : List (Nat × Nat × Nat × Int)
  /-- standing firmware and partner demands, and those placed since the last judgement (R550, R551, R553) -/
  fw : Bool
  fwNew : Bool
  partner : Bool
  partnerNew : Bool
  /-- a reset pulse awaits the next cycle (R553) -/
  reset : Bool
  /-- the main domain is judged lost now (R536) -/
  lost : Bool
  /-- wrong passwords in a row (R559) -/
  wrong : Nat
  /-- CT as last latched, advanced by the island's count while the main domain is lost (R561) -/
  ct : Nat
  /-- by input: test-pulse periods in a row without the low, and with it (R539) -/
  miss : List (Nat × Nat)
  good : List (Nat × Nat)
  /-- outputs whose feedback has shown closed since they were energised (R544) -/
  seen : Nat
  /-- the monitor level before SAFE OPEN -/
  level : Nat
deriving DecidableEq, Repr

/-- A factory-new island under supply. -/
def Safe.zero : Safe :=
  { powered := true, sec := [], refused := [], digest := [], salt := [], record := [], fns := [], judged := [], fw := false,
    fwNew := false, partner := false, partnerNew := false, reset := false, lost := false, wrong := 0, ct := 0, miss := [],
    good := [], seen := 0, level := 0 }

/-- The Balgal's lanes beside their registers: the receivers, and the reference clocks judged bad (1 lane reference, 2
SYS_REF). -/
structure Lanes where
  rx : List (Nat × LaneRx)
  refBad : Nat
deriving DecidableEq, Repr

def Lanes.zero : Lanes := ⟨[], 0⟩

/-! ### Causeways and freight of the Balgal (R121 to R165) -/

/-- A freight request of one causeway: the descriptor's ring index, the request, how many requests have been sent, how many
replies 0x02 have come, and its phase: 0 a request is to leave, 1 it has left, 2 a COLLECT is to leave, 3 it has left; the
ferry cycle in which the request, or the COLLECT, left. -/
structure FrJob where
  idx : Nat
  cell : Nat
  op : Nat
  addr : Nat
  data : List Byte
  len : Nat
  index : Nat
  tries : Nat
  coll : Nat
  phase : Nat
  at_ : Nat
deriving DecidableEq, Repr

/-- One causeway as the Balgal sees it. -/
structure Cway where
  /-- since the last ferry-cycle start: lanes with any ferry and with a valid one (bit 0 head lane, bit 1 tail lane), every
  one with HOPS = COUNT, every cell with DLY_OK, break evidence, a written status -/
  seen : Nat
  got : Nat
  whole : Bool
  dly : Bool
  evid : Bool
  wrote : Bool
  /-- every cell reported APPLIED block in the last ferry received -/
  blocks : Bool
  /-- ferry cycles in a row: without a valid ferry, with break evidence, without it, with the conditions for MEASURING,
  without a written status -/
  silent : Nat
  evRun : Nat
  calm : Nat
  ready : Nat
  mute : Nat
  /-- not in DOWN at the start of the first ferry cycle without a written status -/
  muteUp : Bool
  /-- measurement ferries in a row with DLY_OK from every cell -/
  meas : Nat
  /-- a MEASURE request -/
  request : Bool
  /-- the state has changed since the last ferry-cycle start -/
  moved : Bool
  /-- SEQ of the cycle whose statuses have been taken, plus 1 -/
  used : Nat
  /-- the last values of OPP_ARRIVE − DEPART, own and opposite, in 2^-18 ns -/
  rings : List Int
  job : Option FrJob
  /-- header bytes 26 to 29 and the freight of the last valid ferry that came back with the job's freight -/
  back : List Byte
deriving DecidableEq, Repr

def Cway.zero : Cway :=
  { seen := 0, got := 0, whole := true, dly := true, evid := false, wrote := false, blocks := false, silent := 32, evRun := 0,
    calm := 0, ready := 0, mute := 0, muteUp := false, meas := 0, request := false, moved := false, used := 0, rings := [], job := none,
    back := [] }

/-- The causeways, the departures of this Balgal's ferries (SEQ, DEPART), newest first, by lane the SEQ and the arrival of
the last valid ferry, and the ferries whose trailers are still to leave: lane and the CRC register over offsets 1 to
1,119. -/
structure Cws where
  ways : List (Nat × Cway)
  departs : List (Nat × Nat)
  arrived : List (Nat × Nat × Nat)
  tails : List (Nat × Nat)
deriving DecidableEq, Repr

def Cws.zero : Cws := ⟨[], [], [], []⟩

/-! ### Redundancy (R509 to R531) -/

/-- An order of the arbiter: 1 TAKE, 2 YIELD; its generation and the ferry cycle of the takeover (R520). -/
structure Order where
  kind : Nat
  gen : Nat
  k : Nat
deriving DecidableEq, Repr

/-- What an active hands its standby for one ferry cycle: EPOCH, STAGED, COMMIT_AT, the command halves, COLLECTs by
causeway (R515). -/
structure Relay where
  epoch : Nat
  staged : Nat
  at_ : Nat
  halves : List (Nat × Berth)
  collects : List (Nat × List Byte)
deriving DecidableEq, Repr

def Relay.zero : Relay := ⟨0, 0, 0, [], []⟩

structure Red where
  /-- valid frames in this ferry cycle from the mate, from the arbiter (on the arbiter: head-side, tail-side), and the ferry
  cycles in a row with one and without one -/
  mateGot : Bool
  arbGot : Bool
  mateRun : Nat
  arbRun : Nat
  mateGap : Nat
  arbGap : Nat
  /-- a raised partner-lost or arbiter-lost still holds; on the arbiter for the head-side and the tail-side -/
  mateLost : Bool
  arbLost : Bool
  /-- ferry cycles for which REQ is still shown; a request written on the arbiter -/
  req : Nat
  /-- an order awaits its takeover cycle; the last order of the arbiter, sent on to the partner -/
  pend : Option Order
  last : Option Order
  /-- the arbiter's order, and the ferry cycles for which it is still sent; ferry cycle of the last switchover, plus 1 -/
  order : Option Order
  orderLeft : Nat
  lastSw : Nat
  /-- the active was seen committing -/
  sawCommit : Bool
  /-- ferry cycles left of the standby's settling (R514) -/
  settle : Nat
  /-- shadow windows: ferry cycles counted, mismatches, the last one failed, the ferry cycles for which it is suspended -/
  shCyc : Nat
  shMis : Nat
  shFail : Bool
  shHold : Nat
  /-- no complete window without failure is awaited; on the arbiter, 64 ferry cycles in a row brought frames of both partners -/
  shPass : Bool
  /-- bist-fail since the entry into the standby role -/
  bist : Bool
  /-- the stages that the standby decided for its shadow: arm, stage, i_p in 0.1 A -/
  own : List (Nat × Nat × Int)
  relay : Relay
  /-- Reef copy: the next record the active sends, or the standby's records of the present pass with the next G it needs;
  ferry cycle of the pass in progress -/
  copyNext : Nat
  copyDone : Bool
  /-- causeways with a valid ferry of the active in ferry cycles of late: cycle, causeway, 1 where its own end was reached -/
  wit : List (Nat × Nat)
  witRun : Nat
deriving DecidableEq, Repr

def Red.zero : Red :=
  { mateGot := false, arbGot := false, mateRun := 0, arbRun := 0, mateGap := 0, arbGap := 0, mateLost := false,
    arbLost := false, req := 0, pend := none, last := none, order := none, orderLeft := 0, lastSw := 0, sawCommit := false,
    settle := 0, shCyc := 0, shMis := 0, shFail := false, shHold := 0, shPass := false, bist := false, own := [],
    relay := .zero, copyNext := 0, copyDone := false, wit := [], witRun := 0 }

/-! ### Memory and DMA (R445 to R483) -/

/-- The memory controller beside its registers and the logical contents: poisoned words, by SRAM address over 8; stripes
that await a write-back, by SRAM address over 128; whether the background test has tested a region since reset. -/
structure MemSt where
  poison : List Nat
  wb : List Nat
  bist : Bool
deriving DecidableEq, Repr

def MemSt.zero : MemSt := ⟨[], [], false⟩

/-- The accepted descriptor of a DMA channel. -/
structure DmaCh where
  src : Nat
  dst : Nat
  len : Nat
  sw : Nat
  dw : Nat
  flags : Nat
  next : Nat
deriving DecidableEq, Repr

def DmaCh.zero : DmaCh := ⟨0, 0, 0, 0, 0, 0, 0⟩

/-! ### Power and resets (R634 to R649) -/

/-- What the VAON domain holds beside its registers. -/
structure Pwr where
  /-- VAON is present -/
  on : Bool
  /-- word clocks since VAON's power-on reset released -/
  now : Nat
  /-- the rail being raised or lowered -/
  idx : Nat
  /-- by rail: failed transactions in a row, polls in a row outside the fault window -/
  fails : List (Nat × Nat)
  outs : List (Nat × Nat)
  /-- times of the RAIL resets, newest first -/
  resets : List Nat
  /-- what holds reset asserted: bit 0 the rails, bit 1 RST_N, bit 2 a soft reset -/
  held : Nat
  /-- RST_N is masked (R642) -/
  masked : Bool
  /-- SRAM is to be cleared before FETCH (R645) -/
  clear : Bool
  /-- PMB_SEL as sampled -/
  sel : Bool
deriving DecidableEq, Repr

/-- A Balgal before the release of its power-on reset: every rail is off. -/
def Pwr.zero : Pwr :=
  { on := false, now := 0, idx := 0, fails := [], outs := [], resets := [], held := 1, masked := false, clear := true, sel := false }

/-! ### Station services (R584 to R613) -/

/-- The PTP Instance of a port: the last completed delays in 2^-18 ns, newest first; the Pdelay_Req sent last (sequenceId,
CT) where its answer is awaited; a two-step Sync that awaits its Follow_Up (sequenceId, arrival, correctionField), and its
logMessageInterval;
whether an Announce and a valid Sync have come in time; the last sequenceIds sent of Pdelay_Req, Announce, Sync. -/
structure PtpPort where
  delays : List Int
  req : Option (Nat × Nat)
  two : Option (Nat × Int × Int)
  logInt : Int
  ann : Bool
  sync : Bool
  seqReq : Nat
  seqAnn : Nat
  seqSync : Nat
deriving DecidableEq, Repr

def PtpPort.zero : PtpPort := ⟨[], none, none, 0, false, false, 0, 0, 0⟩

/-- A GOOSE publication: the members last sent, sqNum last sent, CT of the change, ms from the last message to the next
repeat; whether it has sent at all. -/
structure Pub where
  sent : Bool
  vals : Nat
  sq : Nat
  t : Nat
  gap : Nat
deriving DecidableEq, Repr

def Pub.zero : Pub := ⟨false, 0, 0, 0, 0⟩

/-- A strait lane: SEQ of the first frame that carried the message, frames that have carried it, MSG_ACK that it sends
(the MSG_SEQ last accepted), the SESSION last seen (0 for none), ferry cycles in a row with a valid frame, one in this
cycle, and SEQ and arrival of the last valid frame. -/
structure StLane where
  first : Nat
  carried : Nat
  ack : Nat
  seen : Nat
  run : Nat
  got : Bool
  arrived : Option (Nat × Nat)
deriving DecidableEq, Repr

def StLane.zero : StLane := ⟨0, 0, 0, 0, 0, false, none⟩

/-- Ethernet and strait: the smpCnt last stored by each sampled-value subscription, plus 1; the sample numbers not yet
fired with the subscriptions that have written, and those fired (R592); sqNum stored by each GOOSE subscription; SESSION
of this reset (R612). -/
structure Net where
  ptp : List (Nat × PtpPort)
  sv : List (Nat × Nat)
  sets : List (Nat × List Nat)
  fired : List Nat
  gs : List (Nat × Nat)
  pubs : List (Nat × Pub)
  st : List (Nat × StLane)
  session : Nat
deriving DecidableEq, Repr

def Net.zero : Net := ⟨[], [], [], [], [], [], [], 0⟩

/-! ### Harbour monitor (R619 to R633) -/

/-- Wrong service codes in a row; the CELL command in its private freight slot; whether characters were discarded while it
is served (R621). -/
structure Mon where
  wrong : Nat
  slot : Option FrJob
  late : Bool
  /-- the MSI-X table and its pending bits, by their offset in BAR0 (R602) -/
  msix : List (Nat × Byte)
  /-- bus mastering, as the host has set it in configuration space (R603) -/
  master : Bool
deriving DecidableEq, Repr

def Mon.zero : Mon := ⟨0, none, false, [], false⟩

/-- The whole state. -/
structure State where
  /-- the Balgal's registers: every register of R650 whose word is not its reset word -/
  regs : List (Nat × Word)
  /-- the Balgal's SRAM and local memories: every byte that is not 0 -/
  mem : List Host.Cell
  clk : Clk
  flt : Flt
  sched : Sched
  /-- the register files of the Sound engines, register r of engine e at key 64 e + r -/
  engRegs : List (Nat × Word)
  chart : Chart
  flash : FlashQ
  lanes : Lanes
  /-- the Balgal's sounding converters -/
  conv : Conv
  reef : Reef
  cws : Cws
  red : Red
  loop : Loop
  prof : Prof
  recd : Recd
  tim : TimeSt
  safe : Safe
  mst : MemSt
  dma : List (Nat × DmaCh)
  pwr : Pwr
  net : Net
  mon : Mon
  /-- the Skerries, by G -/
  cells : List (Nat × Skerry)
  /-- what left the chips since the last word clock edge, oldest first -/
  out : List Out
  /-- how many free values have been used (the model's own field) -/
  opens : Nat
  /-- the commands that wait, first in, first out -/
  pending : List Instr
deriving DecidableEq, Repr

/-- Before the release of the power-on reset: every register at its reset value, memory with nothing listed, every unit at
rest, every cell dark, no command waiting. -/
def State.reset : State :=
  { regs := [], mem := [], clk := .zero, flt := .zero, sched := .zero, engRegs := [], chart := .zero, flash := .zero, lanes := .zero,
    conv := .zero, reef := .zero, cws := .zero, red := .zero, loop := .zero, prof := .zero, recd := .zero, tim := .zero,
    safe := .zero, mst := .zero, dma := [], pwr := .zero, net := .zero, mon := .zero, cells := [], out := [], opens := 0,
    pending := [] }

end Sys2Proof.Machine
end

