-- ==== Sys2Proof/Machine/Ops.lean ====
section
/-! DEFINITION. The named operations over the Balgal's registers, its converter time, its fault sources and its
scheduler flags. Every later definition reads and writes the state through these. -/

namespace Sys2Proof.Machine
open Sys2Proof

/-! ### Registers (R6, R11 to R14) -/

/-- The word of the Balgal register at address `a`. -/
def State.rdW (s : State) (a : Nat) : Word := tget balReset s.regs a

/-- `s` with that word replaced. -/
def State.wrW (s : State) (a : Nat) (v : Word) : State := { s with regs := tset balReset s.regs a v }

/-- The value of a field. -/
def State.rd (s : State) (f : Fld) : Nat := bitsOf (s.rdW f.addr) f.lo f.w

/-- `s` with the field replaced by the low bits of `v`. -/
def State.wr (s : State) (f : Fld) (v : Nat) : State := s.wrW f.addr (bitsPut (s.rdW f.addr) f.lo f.w v)

/-- The field as a truth value. -/
def State.on (s : State) (f : Fld) : Bool := s.rd f ≠ 0

/-- A saturating counter field counts `n`. -/
def State.cnt (s : State) (f : Fld) (n : Nat) : State := s.wr f (min (s.rd f + n) (2 ^ f.w - 1))

/-- A saturating counter field counts 1. -/
def State.inc (s : State) (f : Fld) : State := s.cnt f 1

/-- A wrapping counter field counts 1. -/
def State.incW (s : State) (f : Fld) : State := s.wr f (s.rd f + 1)

/-- The field read as two's complement. -/
def State.rdS (s : State) (f : Fld) : Int := signed f.w (s.rd f)

/-- The field written with a two's complement value, saturated to its width. -/
def State.wrS (s : State) (f : Fld) (v : Int) : State := s.wr f (unsigned f.w (satInt f.w v))

/-- Bit `j` of a bit-vector register spread over words `base`, `base + 4`, … -/
def State.bitAt (s : State) (base j : Nat) : Bool := bitOf (s.rdW (base + 4 * (j / 32))).toNat (j % 32)

def State.putBitAt (s : State) (base j : Nat) (v : Bool) : State :=
  let a := base + 4 * (j / 32)
  s.wrW a (bitsPut (s.rdW a) (j % 32) 1 (b2n v))

/-- Put an item among what left the chips. -/
def State.emit (s : State) (o : Out) : State := { s with out := s.out ++ [o] }

/-- The next free value, as a number below `2 ^ w`, and the state with the counter advanced. -/
def State.free (s : State) (w : Nat) : Nat × State :=
  ((Config.freeValue s.opens).toNat % 2 ^ w, { s with opens := s.opens + 1 })

/-! ### Memory: SRAM and local memories (R311, R312, R445) -/

/-- A byte of SRAM or of a local memory; an unlisted byte reads 0 (R313, R467). -/
def State.byte (s : State) (a : Nat) : Byte := tget (fun _ => 0) s.mem a

def State.setByte (s : State) (a : Nat) (b : Byte) : State := { s with mem := tset (fun _ => 0) s.mem a b }

/-- `n` bytes from `a` upwards. -/
def State.bytes (s : State) (a : Nat) : Nat → List Byte
  | 0 => []
  | n + 1 => s.byte a :: s.bytes (a + 1) n

/-- Store a byte string from `a` upwards. -/
def State.setBytes (s : State) (a : Nat) : List Byte → State
  | [] => s
  | b :: t => (s.setByte a b).setBytes (a + 1) t

/-- Whether an address lies in SRAM or in a local memory (R311). -/
def isMem (a : Nat) : Bool := decide (a < 0x04000000) || (decide (0x50000000 ≤ a) && decide (a < 0x50400000))

/-! ### Converter time (R167, R168) -/

/-- Units of 2^-18 ns in a nanosecond, a ferry cycle, a second. -/
def nsU : Nat := 262144
def cycU : Nat := 2000 * nsU
def secU : Nat := 1000000000 * nsU
/-- One word clock (1.6 ns) in units of 2^-18 ns, times 5. -/
def wcU5 : Nat := 2097152

/-- CT on the main path: BASE + (COUNT − CBASE) × 1.6 ns × (1 + (RATE + SLEW) × 2^-40), rounded down to 2^-18 ns. -/
def Clk.main (c : Clk) (rate : Int) : Nat :=
  ((c.base : Int) + (((c.count : Int) - c.cbase) * (wcU5 : Int) * (1099511627776 + rate + c.slew)) / (5 * 1099511627776)).toNat

/-- CT of one chip: the main path, or the fallback pair while PATH is 1 (R173). -/
def Clk.ct (c : Clk) (path : Nat) (rate : Int) : Nat := if path = 1 then c.fb * nsU else c.main rate

/-- Load BASE with CT and CBASE with COUNT, and take what the slew has applied off what is left (R168, R179). -/
def Clk.reload (c : Clk) (rate : Int) : Clk :=
  let done : Int := (((c.count : Int) - c.cbase) * (wcU5 : Int) * c.slew) / (5 * 1099511627776)
  { c with base := c.main rate, cbase := c.count, left := c.left - done }

/-- The Balgal's RATE, signed in units of 2^-40. -/
def State.rate (s : State) : Int := s.rdS TIME_RATE

/-- The Balgal's CT now. -/
def State.ct (s : State) : Nat := s.clk.ct (s.rd TIME_STAT_PATH) s.rate

def ctNs (t : Nat) : Nat := t / nsU % 1000000000
def ctSec (t : Nat) : Nat := t / secU % 2 ^ 48
def ctFrac (t : Nat) : Nat := t % nsU

/-- The ferry-cycle number N of a CT value: SEC × 500,000 + NS div 2,000 (R194). -/
def ctCycle (t : Nat) : Nat := t / cycU

/-- The 96-bit CT value: SEC, NS, FRAC (R167). -/
def ct96 (t : Nat) : Nat := (ctSec t * 2 ^ 30 + ctNs t) * 2 ^ 18 + ctFrac t

/-- The CT value that 96 bits spell. -/
def ctOf96 (v : Nat) : Nat := (v / 2 ^ 48) * secU + (v / 2 ^ 18 % 2 ^ 30) * nsU + v % 2 ^ 18

/-! ### Raising sources (R484, R485, R488) -/

/-- Raise source `id` with INFO `info` on this edge; a second raise of one source on one edge counts as one (R485). -/
def State.raise (s : State) (id info : Nat) : State :=
  if s.flt.raised.any (fun r => r.id = id ∧ r.edge = s.clk.count) then s
  else { s with flt := { s.flt with raised := s.flt.raised ++ [⟨id, info, s.clk.count, s.ct⟩] } }

/-- Raise the range source of the block of address `a`, with the offset and the master in INFO (R488). -/
def State.range (s : State) (p : Port) (a : Nat) : State := s.raise (32 * blkOf a) (a % 0x10000 + p.master * 65536)

/-- Raise the range source of block `b` from inside the chip, with no register concerned. -/
def State.rangeBlk (s : State) (b : Nat) : State := s.raise (32 * b) 0

/-- Raise the lock-write source of the block of address `a` (R16, R488). -/
def State.lockWrite (s : State) (p : Port) (a : Nat) : State :=
  s.raise (32 * blkOf a + 1) (a % 0x10000 + p.master * 65536)

/-! ### Phase, role and build (R1, R60, R47) -/

def PH_RESET : Nat := 0
def PH_FETCH : Nat := 1
def PH_VERIFY : Nat := 2
def PH_CHECK : Nat := 3
def PH_BUILD : Nat := 4
def PH_RUN : Nat := 5
def PH_FAILED : Nat := 7

def State.phase (s : State) : Nat := s.rd CHART_STATUS_PHASE
def State.inRun (s : State) : Bool := s.phase = PH_RUN

/-- The present role: 1 active, 2 standby, 3 arbiter; 0 before the end of BUILD and in FAILED (R656). -/
def State.role (s : State) : Nat := s.rd TOP_STAT_ROLE
def State.isActive (s : State) : Bool := s.role = 1
def State.isStandby (s : State) : Bool := s.role = 2
def State.isArbiter (s : State) : Bool := s.role = 3
def State.redundant (s : State) : Bool := s.rd TOP_STAT_REDUNDANT = 1
def State.committing (s : State) : Bool := s.rd RUN_STAT_COMMITTING = 1

/-! ### The scheduler's event flags (R318 to R323, R331) -/

def ST_DISABLED : Nat := 0
def ST_WAITING : Nat := 1
def ST_READY : Nat := 2
def ST_HELD : Nat := 3
def ST_RUNNING : Nat := 4
def ST_FAULTED : Nat := 5

def State.taskState (s : State) (t : Nat) : Nat := s.rd (SCHED_TASK_STAT_STATE t)
def State.taskFlags (s : State) (t : Nat) : Nat := s.rd (SCHED_FLAGS t)
def State.taskFlow (s : State) (t : Nat) : Nat := s.rd (SCHED_TASK_CFG_FLOW t)

/-- A task is ready when any flag of WAIT is 1, or every one with ALL; never with WAIT 0 (R318, R319). -/
def State.taskReady (s : State) (t : Nat) : Bool :=
  let w := s.rd (SCHED_TASK_WAIT t)
  let f := s.taskFlags t
  w ≠ 0 && (if s.on (SCHED_TASK_CFG_ALL t) then f &&& w = w else f &&& w ≠ 0)

/-- The flow of a task is busy with another task (R321, R328). -/
def State.flowBusy (s : State) (t : Nat) : Bool :=
  let f := s.taskFlow t
  f < 64 && s.on (SCHED_FLOW_BUSY f) && s.rd (SCHED_FLOW_TASK f) ≠ t

/-- Count the tasks in a state up or down in SCHED_STAT, and those HELD in their flow (R341). -/
def State.tally (s : State) (t st : Nat) (up : Bool) : State :=
  let bump := fun (s : State) (f : Fld) => s.wr f (if up then s.rd f + 1 else s.rd f - 1)
  if st = ST_READY then bump s SCHED_STAT_READY
  else if st = ST_HELD then
    let s := bump s SCHED_STAT_HELD
    if s.taskFlow t < 64 then bump s (SCHED_FLOW_HELD (s.taskFlow t)) else s
  else if st = ST_RUNNING then bump s SCHED_STAT_RUNNING
  else s

/-- The effective level E of a task (R327): LEVEL, or with aging the larger of CEIL and LEVEL − floor(W / AGE_STEP). -/
def State.effLevel (s : State) (t : Nat) : Nat :=
  let lv := s.rd (SCHED_TASK_CFG_LEVEL t)
  let ceil := s.rd SCHED_AGE_CEIL
  let step := s.rd SCHED_AGE_AGE_STEP * 625
  if lv > ceil ∧ step ≠ 0 then
    let w := s.clk.count - tget (fun _ => s.clk.count) s.sched.readyAt t
    max ceil (lv - w / step)
  else lv

/-- Move a task to a state, keeping the counts. -/
def State.taskTo (s : State) (t st : Nat) : State :=
  ((s.tally t (s.taskState t) false).wr (SCHED_TASK_STAT_STATE t) st).tally t st true

/-- The number of READY tasks with E = p, and its largest value in statistics (R338, R341). -/
def State.qdepth (s : State) (p : Nat) : Nat :=
  ((List.range 256).filter (fun t => s.taskState t = ST_READY && s.effLevel t = p)).length

def State.qUpdate (s : State) : State :=
  (List.range 8).foldl (fun s p =>
    let n := s.qdepth p
    let s := s.wr (SCHED_QDEPTH p) n
    if s.on SCHED_OBS_STATS then s.wr (SCHED_ST_QMAX p) (max (s.rd (SCHED_ST_QMAX p)) n) else s) s

/-- The trace record of a decision (R337). -/
def State.traceRec (s : State) (kind eng t flags waited : Nat) : List Byte :=
  let c := s.ct
  leBytes 4 (ctSec c % 4 * 2 ^ 30 + ctNs c) ++
  [BitVec.ofNat 8 kind, BitVec.ofNat 8 eng, BitVec.ofNat 8 t, BitVec.ofNat 8 (s.effLevel t)] ++
  leBytes 4 flags ++ leBytes 2 (min waited 0xFFFF) ++
  [BitVec.ofNat 8 (min (s.rd SCHED_STAT_READY) 255), BitVec.ofNat 8 (s.taskFlow t)]

/-- Queue a trace record, or drop and count it when 32 wait; nothing with SCHED_TRACE_SIZE 0 (R337). -/
def State.trace (s : State) (kind eng t flags waited : Nat) : State :=
  if s.on SCHED_OBS_TRACING ∧ s.rd SCHED_TRACE_SIZE ≠ 0 then
    if s.sched.traceQ.length < 32 then
      { s with sched := { s.sched with traceQ := s.sched.traceQ ++ [s.traceRec kind eng t flags waited] } }
    else s.inc SCHED_TRACE_LOST
  else s

/-- Enter READY or HELD, as the flow of the task is free or busy; `stamp` gives the ready time (R321). -/
def State.becomeReady (s : State) (t : Nat) (stamp : Nat) : State :=
  let s := { s with sched := { s.sched with readyAt := tset (fun _ => 0) s.sched.readyAt t stamp } }
  if s.flowBusy t then
    let s := s.taskTo t ST_HELD
    s.trace 4 0xFF t (s.taskFlags t) 0
  else
    let s := s.taskTo t ST_READY
    s.wr (SCHED_TASK_STAT_ELEVEL t) (s.effLevel t)

/-- The HELD task of flow `f` with the earliest ready time, ties to the lower number (R328). -/
def State.heldOf (s : State) (f : Nat) : Option Nat :=
  (List.range 256).foldl (fun o t =>
    if s.taskState t = ST_HELD ∧ s.taskFlow t = f then
      match o with
      | none => some t
      | some u => if tget (fun _ => 0) s.sched.readyAt t < tget (fun _ => 0) s.sched.readyAt u then some t else some u
    else o) none

/-- Pass a free flow to its earliest HELD task, which enters READY and keeps its ready time (R321, R328). -/
def State.passFlow (s : State) (f : Nat) : State :=
  if f < 64 then
    match s.heldOf f with
    | some t =>
      let s := s.taskTo t ST_READY
      s.wr (SCHED_TASK_STAT_ELEVEL t) (s.effLevel t)
    | none => s
  else s

/-- Release a flow: it is no longer busy, and passes on (R328). -/
def State.releaseFlow (s : State) (f : Nat) : State :=
  if f < 64 then ((s.wr (SCHED_FLOW_BUSY f) 0).passFlow f) else s

/-- A task leaves READY or HELD for state `st`; a flow that it left free passes to the next HELD task. -/
def State.leaveReady (s : State) (t st : Nat) : State :=
  let was := s.taskState t
  let s := s.taskTo t st
  if was = ST_READY ∧ s.taskFlow t < 64 ∧ !(s.on (SCHED_FLOW_BUSY (s.taskFlow t))) then s.passFlow (s.taskFlow t) else s

/-- Judge a task's state after a change of its ENABLE, WAIT or FLAGS, in the order of the rows of R321. A RUNNING or
FAULTED task keeps its state. -/
def State.judgeTask (s : State) (t : Nat) : State :=
  let st := s.taskState t
  let en := s.on (SCHED_TASK_CFG_ENABLE t)
  if st = ST_RUNNING ∨ st = ST_FAULTED then s
  else if !en then (if st = ST_DISABLED then s else s.leaveReady t ST_DISABLED).qUpdate
  else if s.taskReady t then
    (if st = ST_READY ∨ st = ST_HELD then s else s.becomeReady t s.clk.count).qUpdate
  else (if st = ST_WAITING then s else s.leaveReady t ST_WAITING).qUpdate

/-- Set flags of a task on one edge: a flag already 1 sets OVERRUN and counts (R320). -/
def State.setFlags (s : State) (t mask : Nat) : State :=
  let f := s.taskFlags t
  let dup := f &&& mask
  let s := if dup ≠ 0 then
      (s.wr (SCHED_TASK_STAT_OVERRUN t) 1).cnt SCHED_FLAG_OVR ((List.range 32).filter (fun j => bitOf dup j)).length
    else s
  (s.wr (SCHED_FLAGS t) (f ||| mask)).judgeTask t

/-- The flags that the routes of a source set, by task (R331). -/
def State.routeMask (s : State) (src t : Nat) : Nat :=
  (List.range 64).foldl (fun m k =>
    if s.rd (SCHED_ROUTE_SOURCE k) = src ∧ s.rd (SCHED_ROUTE_TASK k) = t then m ||| 2 ^ s.rd (SCHED_ROUTE_FLAG k) else m) 0

/-- The tasks that the routes of a source name, each once. -/
def State.routeTasks (s : State) (src : Nat) : List Nat :=
  ((List.range 64).filterMap (fun k => if s.rd (SCHED_ROUTE_SOURCE k) = src then some (s.rd (SCHED_ROUTE_TASK k)) else none)).dedup

/-- A route source fires: every route naming it sets its flag; several settings of one flag are one (R320, R331). -/
def State.fireRoute (s : State) (src : Nat) : State :=
  if src = 0 then s else (s.routeTasks src).foldl (fun s t => s.setFlags t (s.routeMask src t)) s

end Sys2Proof.Machine
end

