-- ==== Sys2Proof/Machine/ProfOps.lean ====
section
/-! DEFINITION. Plans of the profile generator: speed moves, position moves, and their evaluation (R564, R570 to R572). -/

namespace Sys2Proof.Machine
open Sys2Proof

def State.setProf (s : State) (q : Prof) : State := { s with prof := q }

/-! ### Evaluation -/

/-- p, v and a of a stretch, t seconds after its start. -/
def PSeg.eval (g : PSeg) (t : F64) : F64 × F64 × F64 :=
  let t2 := (t.mul t).half
  let p := ((g.p.add (g.v.mul t)).add (g.a.mul t2)).add ((g.j.mul (t2.mul t)).div (F64.ofInt 3))
  let v := (g.v.add (g.a.mul t)).add (g.j.mul t2)
  (p, v, g.a.add (g.j.mul t))

/-- Seconds of a CT difference. -/
def ctSeconds (u : Int) : F64 := (F64.ofInt u).div (F64.ofInt (secU : Nat))

/-- The stretch in progress at t seconds. -/
def Prof.seg (q : Prof) (t : F64) : Option PSeg := q.segs.find? (fun g => t.lt (g.t.add g.dur))

/-- p, v and a at CT c. -/
def Prof.eval (q : Prof) (c : Nat) : F64 × F64 × F64 :=
  let t := ctSeconds ((c : Int) - q.t0)
  match q.seg t with
  | some g => g.eval (t.sub g.t)
  | none => (q.pE.add (q.vE.mul (t.sub q.tE)), q.vE, .zero)

/-- The plan has ended by CT c. -/
def Prof.ended (q : Prof) (c : Nat) : Bool := q.tE.le (ctSeconds ((c : Int) - q.t0))

/-! ### Speed moves (R570) -/

/-- A plan in the making: time, p, v and a reached, and the stretches so far. -/
structure PlanAt where
  t : F64
  p : F64
  v : F64
  a : F64
  segs : List PSeg
deriving DecidableEq, Repr

/-- Go on for `dur` seconds under jerk j, to speed v' and acceleration a'. -/
def PlanAt.run (x : PlanAt) (dur j : F64) (phase : Nat) (rev : Bool) (v' a' : F64) : PlanAt :=
  if dur.m ≤ 0 then { x with v := v', a := a' }
  else
    let g : PSeg := ⟨x.t, dur, x.p, x.v, x.a, j, phase, rev⟩
    ⟨x.t.add dur, (g.eval dur).1, v', a', x.segs ++ [g]⟩

/-- The limits of a plan: jerk, the acceleration limit of a move that raises |v|, and of any other. -/
structure Lims where
  j : F64
  up : F64
  dn : F64
deriving DecidableEq, Repr

/-- One leg of a speed move. -/
def planLeg (l : Lims) (rev : Bool) (x : PlanAt) (vT : F64) : PlanAt :=
  let raise := decide (x.v.m = 0) || (decide (x.v.sign = vT.sign) && x.v.abs.lt vT.abs)
  let lim := if raise then l.up else l.dn
  let vStop := x.v.add ((x.a.mul x.a.abs).div l.j.dbl)
  let s := (vT.sub vStop).sign
  if s = 0 then x.run (x.a.abs.div l.j) (F64.signed (-x.a.sign) l.j) 3 rev vT .zero
  else
    let ax := F64.signed s x.a
    let d := F64.signed s (vT.sub x.v)
    let ap := lim.min ((((l.j.mul d).dbl.add (ax.mul ax)).half).sqrt)
    let t1 := (ap.sub ax).abs.div l.j
    let t3 := ap.div l.j
    let dv := (((ax.add ap).mul t1).half).add ((ap.mul t3).half)
    let t2 := (d.sub dv).div ap
    let v1 := x.v.add (F64.signed s (((ax.add ap).mul t1).half))
    let v2 := v1.add (F64.signed s (ap.mul (t2.max .zero)))
    let x := x.run t1 (F64.signed (s * (ap.sub ax).sign) l.j) 1 rev v1 (F64.signed s ap)
    let x := x.run t2 .zero 2 rev v2 (F64.signed s ap)
    x.run t3 (F64.signed (-s) l.j) 3 rev vT .zero

/-- plan_speed (R570): a reversal has two legs. -/
def planSpeed (l : Lims) (x : PlanAt) (vT : F64) : PlanAt :=
  if x.v.m ≠ 0 ∧ vT.m ≠ 0 ∧ x.v.sign ≠ vT.sign then planLeg l true (planLeg l true x .zero) vT
  else planLeg l false x vT

def planFrom (p v a : F64) : PlanAt := ⟨.zero, p, v, a, []⟩

/-- dist(): the distance of a speed move. -/
def planDist (l : Lims) (v a vT : F64) : F64 := (planSpeed l (planFrom .zero v a) vT).p

/-! ### Position moves (R571) -/

/-- The search of R571 for the speed of a position move. -/
def searchV (f : F64 → F64) (r : F64) : Nat → F64 → F64 → F64
  | 0, lo, _ => lo
  | n + 1, lo, hi =>
    let m := (lo.add hi).half
    if (f m).le r then searchV f r n m hi else searchV f r n lo m

/-- plan_move (R571): the plan, and whether it passes its target (R572). -/
def planMove (l : Lims) (vMax p0 v0 a0 pT : F64) : PlanAt × Bool :=
  let d0 := planDist l v0 a0 .zero
  let r := pT.sub (p0.add d0)
  let s := r.sign
  if s = 0 then (planSpeed l (planFrom p0 v0 a0) .zero, false)
  else
    let rr := F64.signed s (pT.sub p0)
    let f := fun v => F64.signed s ((planDist l v0 a0 (F64.signed s v)).add (planDist l (F64.signed s v) .zero .zero))
    let v := if (f vMax).le rr then vMax else searchV f rr 24 .zero vMax
    let x := planSpeed l (planFrom p0 v0 a0) (F64.signed s v)
    let x := if v.m = 0 then x else x.run ((rr.sub (f v)).div v) .zero 0 false (F64.signed s v) .zero
    (planSpeed l x .zero, decide (s ≠ (pT.sub p0).sign))

/-- The positions at which a stretch can have an extreme: its start, its end, and where v is 0 within it. -/
def PSeg.extremes (g : PSeg) : List F64 :=
  let roots :=
    if g.j.m = 0 then (if g.a.m = 0 then [] else [(g.v.neg).div g.a])
    else
      let d := (g.a.mul g.a).sub ((g.j.mul g.v).dbl)
      if d.m < 0 then [] else [((g.a.neg).add d.sqrt).div g.j, ((g.a.neg).sub d.sqrt).div g.j]
  [g.p, (g.eval g.dur).1] ++ (roots.filter (fun t => decide (t.m > 0) && t.lt g.dur)).map (fun t => (g.eval t).1)

/-- A plan leaves the range from lo to hi. -/
def PlanAt.leaves (x : PlanAt) (lo hi : F64) : Bool :=
  x.p.lt lo || hi.lt x.p || x.segs.any (fun g => g.extremes.any (fun p => p.lt lo || hi.lt p))

/-- The generator takes a plan that starts at CT c. -/
def Prof.take (q : Prof) (c : Nat) (x : PlanAt) : Prof :=
  { q with t0 := c, segs := x.segs, tE := x.t, pE := x.p, vE := x.v }

/-- At rest at p. -/
def Prof.rest (q : Prof) (p : F64) : Prof := { q with segs := [], tE := .zero, pE := p, vE := .zero }

/-- The position reduced modulo 65,536 units (R565). -/
def reducePos (p : F64) : F64 :=
  let k := ((p.add (F64.ofInt 32768)).div (F64.ofInt 65536)).floor
  p.sub (F64.ofInt (k * 65536))

end Sys2Proof.Machine
end

