-- ==== Sys2Proof/Machine/RunOps.lean ====
section
/-! DEFINITION. Operations that several units share: the chart's structure (arms, causeways, berths), flash orders that
become due, the fall of COMMITTING, observation, and the interrupt output. -/

namespace Sys2Proof.Machine
open Sys2Proof

/-! ### The applied sections (R44 to R53) -/

def T_ROLE : Nat := 0x01
def T_FRAME : Nat := 0x02
def T_BERTH : Nat := 0x03
def T_CELL : Nat := 0x04
def T_LANE : Nat := 0x05
def T_TIME : Nat := 0x06
def T_ACQ : Nat := 0x07
def T_FAULT : Nat := 0x08
def T_IMAGE : Nat := 0x09
def T_TASK : Nat := 0x0A
def T_REEF : Nat := 0x0B
def T_LOOP : Nat := 0x0C
def T_WAVE : Nat := 0x0D
def T_PROF : Nat := 0x0E
def T_NET : Nat := 0x0F
def T_MON : Nat := 0x10
def T_SAFETY : Nat := 0x11

/-- The payload of an applied section; empty when the chart holds none. -/
def State.sec (s : State) (ty inst : Nat) : List Byte := tget (fun _ => []) s.chart.secs (ty * 256 + inst)

/-- Byte `i` of a byte string as a number, 0 beyond its end. -/
def b8 (l : List Byte) (i : Nat) : Nat := (l.getD i 0).toNat
/-- Big-endian fields of a byte string (R38). -/
def b16 (l : List Byte) (i : Nat) : Nat := b8 l i * 256 + b8 l (i + 1)
def b24 (l : List Byte) (i : Nat) : Nat := b16 l i * 256 + b8 l (i + 2)
def b32 (l : List Byte) (i : Nat) : Nat := b16 l i * 65536 + b16 l (i + 2)

/-- ARM_OF[c]: the arm of a causeway, 0xFF when it is not in use (R50). -/
def State.armOf (s : State) (c : Nat) : Nat :=
  let f := s.sec T_FRAME 0
  if f.isEmpty ∨ c ≥ 96 then 0xFF else b8 f (4 + c)

def State.cwUsed (s : State) (c : Nat) : Bool := s.armOf c ≠ 0xFF

/-- The causeways in use, in ascending order. -/
def State.causeways (s : State) : List Nat := (List.range 96).filter (fun c => s.cwUsed c)

/-- The causeways of an arm. -/
def State.armCws (s : State) (a : Nat) : List Nat := (List.range 96).filter (fun c => s.armOf c = a)

/-- The arms in use: 0 to 2 L − 1 (R29). -/
def State.arms (s : State) : List Nat :=
  let f := s.sec T_FRAME 0
  if f.isEmpty then [] else List.range (2 * b8 f 0)

/-- COUNT of causeway c from its BERTH section (R52). -/
def State.cwCount (s : State) (c : Nat) : Nat := b8 (s.sec T_BERTH c) 1

/-- The berth entry of a cell (R52). -/
def State.berthEntry (s : State) (g : Nat) : Nat := b8 (s.sec T_BERTH (g / 64)) (4 + g % 64)

/-- A value of G that names a cell: a causeway in use and a berth below its count (R27). -/
def State.isCell (s : State) (g : Nat) : Bool :=
  decide (g < 6144) && s.cwUsed (g / 64) && decide (g % 64 < s.cwCount (g / 64))

/-- The cells of a causeway, in berth order. -/
def State.cwCells (s : State) (c : Nat) : List Nat := (List.range (s.cwCount c)).map (fun b => 64 * c + b)

/-- Every cell of the converter, in ascending G. -/
def State.allCells (s : State) : List Nat := s.causeways.flatMap s.cwCells

/-- The cells of an arm, in ascending G. -/
def State.armCells (s : State) (a : Nat) : List Nat := (s.armCws a).flatMap s.cwCells

/-- A cell's type: 1 half-bridge, 2 full-bridge, 3 clamp-double. -/
def State.cellType (s : State) (g : Nat) : Nat := s.berthEntry g % 8
/-- The cell starts in weave mode. -/
def State.cellWeave (s : State) (g : Nat) : Bool := bitOf (s.berthEntry g) 6

/-- This Balgal is tail-side (R23). -/
def State.tailSide (s : State) : Bool := s.rd TOP_STAT_SIDE = 1

/-- This Balgal's lanes of a causeway (R31): head lane c and tail lane c + 48 when not redundant, else lane c. -/
def State.lanesOf (s : State) (c : Nat) : List Nat := if s.redundant then [c] else [c, c + 48]

/-- The causeway of a causeway lane. -/
def State.cwOfLane (s : State) (n : Nat) : Nat := if !s.redundant ∧ n ≥ 48 then n - 48 else n

/-- The lane stands at the tail of its causeway. -/
def State.laneTail (s : State) (n : Nat) : Bool := if s.redundant then s.tailSide else decide (n ≥ 48)

/-! ### Flash orders (R152, R153) -/

/-- The 8-bit value of the K-character of a flash order (R153). -/
def flashK : FlashKind → Nat
  | .blockAll => 0x9C
  | .commit => 0xDC
  | .bypassOne => 0x5C
  | .insertOne => 0x1C
  | .timeMark => 0xF7
  | .wake => 0x7C

/-- The four symbols of a flash order: K-character, D1, D2, CHK (R152, R153). -/
def flashSyms (k : FlashKind) (d1 d2 : Nat) : List Sym :=
  let kb : Byte := BitVec.ofNat 8 (flashK k)
  let b1 : Byte := BitVec.ofNat 8 d1
  let b2 : Byte := BitVec.ofNat 8 d2
  [.k kb, .d b1, .d b2, .d (BitVec.ofNat 8 (crc8 [kb, b1, b2]))]

/-- A flash order becomes due on a lane; `route` is its route byte on mate lane 3. -/
def State.needRoute (s : State) (lane : Nat) (k : FlashKind) (d1 d2 route : Nat) : State :=
  { s with flash := { s.flash with due := s.flash.due ++ [⟨lane, k, d1, d2, route, s.clk.count, false⟩] } }

/-- A flash order becomes due on a causeway lane. -/
def State.needFlash (s : State) (lane : Nat) (k : FlashKind) (d1 d2 : Nat) : State := s.needRoute lane k d1 d2 0

/-- Mate lane 3, which carries relayed flash orders (R515). -/
def relayLane : Nat := 99

/-- A cell that a break of its causeway hides from the head, or from the tail (R160). -/
def State.hidden (s : State) (g : Nat) (tail : Bool) : Bool :=
  let c := g / 64
  let b := g % 64
  s.rd (CW_STAT_STATE c) = 3 &&
    (if tail then s.rd (CW_STAT_BREAK_T c) ≠ 0x7F && decide (b ≤ s.rd (CW_STAT_BREAK_T c))
     else s.rd (CW_STAT_BREAK_H c) ≠ 0x7F && decide (s.rd (CW_STAT_BREAK_H c) ≤ b))

/-- The ends (false head, true tail) from which a single-cell order for g is sent (R160). -/
def State.endsOf (s : State) (g : Nat) : List Bool :=
  if s.on (CW_STAT_SPLIT (g / 64)) then [false, true]
  else
    let near := decide (s.rd (CW_DELAY_T g) < s.rd (CW_DELAY_H g))
    if s.hidden g near then (if s.hidden g (!near) then [] else [!near]) else [near]

/-- This Balgal's lane at an end of causeway c; none where the end belongs to the partner (R31). -/
def State.endLane (s : State) (c : Nat) (tail : Bool) : Option Nat :=
  if s.redundant then (if s.tailSide = tail then some c else none) else some (if tail then c + 48 else c)

/-- An order of kind k is due at an end of causeway c, or goes to the standby for relay (R160, R163). -/
def State.needEnd (s : State) (c : Nat) (tail : Bool) (k : FlashKind) (d1 d2 route : Nat) : State :=
  match s.endLane c tail with
  | some n => s.needFlash n k d1 d2
  | none => s.needRoute relayLane k d1 d2 route

/-- A single-cell order is due, from the end or ends of R160; one that reaches the cell from neither end is counted. -/
def State.needSingle (s : State) (g : Nat) (k : FlashKind) (d1 : Nat) : State :=
  match s.endsOf g with
  | [] => s.inc (CW_FLASH_DEFER (g / 64))
  | es => es.foldl (fun s e => s.needEnd (g / 64) e k (d1 + g / 256) (g % 256) 0) s

/-! ### Observation of the scheduler (R336, R338) -/

/-- COMMITTING as R290 takes it: a standby follows the active's mate frames (bit 4 of the health word, R511). -/
def State.commitView (s : State) : Bool :=
  if s.isStandby then bitOf (s.rd RED_HEALTH_MATE) 4 else s.committing

/-- Clear every statistics register and restart the window (R336). -/
def State.statsClear (s : State) : State :=
  let keep := s.regs.filter (fun e => !(decide (0x400A3000 ≤ e.1) && decide (e.1 < 0x400A4000)))
  { s with regs := keep, sched := { s.sched with winFrom := s.clk.count, busy := [], wsum := [] } }

/-- Word clocks for which engine `e` has held tasks in the present statistics window (R338). -/
def State.busyNow (s : State) (e : Nat) : Nat :=
  tget (fun _ => 0) s.sched.busy e +
    (if s.on (SCHED_ENG_HOLDING e) then s.clk.count - max (tget (fun _ => 0) s.sched.grantAt e) s.sched.winFrom else 0)

/-- Statistics end: the window and the busy times stay as they are on this edge. -/
def State.statsFreeze (s : State) : State :=
  let s := s.wr SCHED_ST_WIN (min ((s.clk.count - s.sched.winFrom) / 64) 0xFFFFFFFF)
  (List.range 18).foldl (fun t e => t.wr (SCHED_ST_BUSY e) (min (s.busyNow e / 64) 0xFFFFFFFF)) s

/-- Set TRACING and STATS by MODE and COMMITTING; an entry into statistics clears them (R336). -/
def State.observe (s : State) : State :=
  let m := s.rd SCHED_OBS_MODE
  let tr := m = 1 || (m = 0 && s.commitView)
  let st := m = 2 || (m = 0 && !s.commitView)
  let was := s.on SCHED_OBS_STATS
  let s := (s.wr SCHED_OBS_TRACING (b2n tr)).wr SCHED_OBS_STATS (b2n st)
  if st ∧ !was then s.statsClear else if !st ∧ was then s.statsFreeze else s

/-! ### The fall of COMMITTING (R264, R569) -/

/-- A profile generator that is not in STOP enters IDLE at rest and drops its pending command (R569). -/
def State.profIdle (s : State) : State :=
  if s.rd PROF_STAT_STATE = 4 ∨ (s.sec T_PROF 0).isEmpty then s
  else
    let s := (s.wr PROF_STAT_STATE 0).wr PROF_STAT_CMD_PEND 0
    let s := (s.wr PROF_STAT_REVERSING 0).wr PROF_STAT_PHASE 0
    s.setProf { s.prof.rest (s.prof.eval s.ct).1 with pend := none }

/-- COMMITTING falls to 0: the profile generator idles and the scheduler's observation follows. -/
def State.commitOff (s : State) : State :=
  if s.committing then ((s.wr RUN_STAT_COMMITTING 0).profIdle).observe else s

/-- The regulator's D of every arm returns to 0 (R219). -/
def State.clearD (s : State) : State := (List.range 6).foldl (fun s a => s.wr (REEF_REG_D a) 0) s

/-- A block-all becomes due on every causeway lane in use: committing stops with HALTED_EV, and D clears (R264, R219). -/
def State.blockAll (s : State) (reason : Nat) : State :=
  let s := s.causeways.foldl (fun s c => (s.lanesOf c).foldl (fun s n => s.needFlash n .blockAll reason 0xA5) s) s
  let s := if s.redundant ∧ s.isActive then s.needRoute relayLane .blockAll reason 0xA5 0xFF else s
  let s := { s with flash := { s.flash with lastBA := s.clk.count + 1 } }
  let s := s.clearD
  if s.isActive then (s.wr RUN_STAT_HALTED_EV 1).commitOff else s

/-! ### Interrupts (R500, R604) -/

/-- Bit b of TOP_IRQ_SUM: an enabled cause of block b. -/
def State.blkPend (s : State) (b : Nat) : Bool := s.rdW (A_FLT_BLK_CAUSE b) &&& s.rdW (A_FLT_BLK_MASK b) ≠ 0

/-- The value of TOP_IRQ_SUM (R500). -/
def State.irqSum (s : State) : Nat :=
  ((List.range 24).foldl (fun m b => if s.blkPend b then m + 2 ^ b else m) 0)
  + 2 ^ 24 * s.rd (FLT_REC0_VALID 0) + 2 ^ 25 * s.rd (FLT_REC0_VALID 1) + 2 ^ 26 * s.rd (FLT_REC0_VALID 2)
  + 2 ^ 27 * s.rd FLT_STAT_RECOVERED_EV + 2 ^ 28 * b2n (s.phase = PH_FAILED)

/-- IRQ_N is asserted: an enabled summary bit, or phase FAILED (R500). -/
def State.irq (s : State) : Bool :=
  s.phase = PH_FAILED || s.irqSum &&& (s.rdW A_TOP_IRQ_EN).toNat ≠ 0

/-- Follow the interrupt condition: when it begins, MSI-X vector 0 is sent where MSI-X is enabled (R604). -/
def State.irqUpdate (s : State) : State :=
  let c := s.irq
  let s' := { s with flt := { s.flt with irqCond := c } }
  if c ∧ !s.flt.irqCond ∧ s.on HOST_STAT_MSIX ∧ s.on HOST_STAT_LINK then s'.emit (.msix 0) else s'

/-! ### Lane receivers (R93 to R95, R113) -/

def LN_OFF : Nat := 0
def LN_SEEK : Nat := 1
def LN_ALIGN : Nat := 2
def LN_LOCKED : Nat := 3

def State.laneSt (s : State) (n : Nat) : Nat := s.rd (LANE_STAT_STATE n)
def State.laneLocked (s : State) (n : Nat) : Bool := s.laneSt n = LN_LOCKED

/-- A scan of lane n ends early; the count reached is the sampler's (R113). -/
def State.eyeAbort (s : State) (n : Nat) : State :=
  if s.on (LANE_EYE_STAT_BUSY n) then
    let (v, s) := s.free 32
    ((s.wr (LANE_EYE_STAT_BUSY n) 0).wr (LANE_EYE_STAT_ABORT n) 1).wr (LANE_EYE_ERR n) v
  else s

/-- Break evidence of causeway c in this ferry cycle (R151). -/
def State.evidence (s : State) (c : Nat) : State :=
  { s with cws := { s.cws with
      ways := tset (fun _ => Cway.zero) s.cws.ways c { tget (fun _ => Cway.zero) s.cws.ways c with evid := true } } }

/-- The receiver of lane n goes to a state other than LOCKED; leaving LOCKED is a LOST event, and break evidence of its
causeway (R94, R108, R151). -/
def State.laneTo (s : State) (n st : Nat) : State :=
  let was := s.laneLocked n
  let s := (s.wr (LANE_STAT_STATE n) st).putBitAt (A_LANE_LOCKED 0) n false
  let s := s.wr (LANE_STAT_SCORE n) 0
  let s := if was ∧ n < 96 ∧ s.cwUsed (s.cwOfLane n) then s.evidence (s.cwOfLane n) else s
  if was ∧ n / 4 ≠ 26 then
    (((s.putBitAt (A_LANE_LOST 0) n true).inc (LANE_LOSS_CNT n)).raise 0x042 n).eyeAbort n
  else s

/-- A CELL command that the monitor is serving ends without its reply when the freight engine stops: ERR 0x06 with 0xFF
(R621, R629). -/
def State.monDrop (s : State) : State :=
  if !s.on MON_STAT_BUSY then s
  else
    let s := (s.emit (.line .balgal (.err 6 (some 0xFF)))).wr MON_STAT_BUSY 0
    let s := if s.mon.late then s.emit (.line .balgal (.err 5 none)) else s
    let ways := s.cws.ways.map (fun e =>
      match e.2.job with
      | some j => if j.idx ≥ 4096 then (e.1, { e.2 with job := none }) else e
      | none => e)
    { s with
      mon := { s.mon with late := false, slot := none }
      cws := { s.cws with ways := ways.filter (fun e => decide (e.2 ≠ Cway.zero)) } }

/-! ### Phase FAILED (R58, R498) -/

/-- Enter phase FAILED: every transmitter idle, ALIVE low, role shown 0, the monitor on its defaults, chart-fail raised, IRQ_N
asserted (R58, R624, R631). -/
def State.enterFailed (s : State) (cause idx : Nat) : State :=
  let s := (s.wr CHART_STATUS_PHASE PH_FAILED).wr CHART_STATUS_CAUSE cause
  let s := (s.wr CHART_STATUS_FAIL_INDEX idx).wr TOP_STAT_ROLE 0
  let s := (s.wr RED_STAT_ROLE 0).wr FLT_STAT_ALIVE 0
  let s := (((s.wr MON_STAT_ENABLED 1).wr MON_CTRL_OFF 0).wr MON_STAT_DEFAULTS 1).wr MON_STAT_BAUD 0
  let s := s.monDrop
  let s := (List.range 112).foldl (fun s n => s.laneTo n LN_OFF) s
  let s := s.raise 0x024 (cause + 256 * idx)
  s.irqUpdate

end Sys2Proof.Machine
end

