-- ==== Sys2Proof/Machine/MemOps.lean ====
section
/-! DEFINITION. The memory controller: accesses and their bus errors, poison, retired banks, groups (R445 to R468, R480). -/

namespace Sys2Proof.Machine
open Sys2Proof

def isSram (a : Nat) : Bool := decide (a < 0x04000000)

/-- The group of an SRAM address (R445). -/
def groupOf (a : Nat) : Nat := a / 2 ^ 24 % 4

/-- The bank at position p of a group. -/
def bankAt (g p : Nat) : Nat := 18 * g + p

def State.setMst (s : State) (m : MemSt) : State := { s with mst := m }

/-- A group is on and cleared (R466, R467). -/
def State.ready (s : State) (g : Nat) : Bool := bitOf (s.rd MEM_STAT_READY) g

/-- Port A serves engines and cores; port B every other master (R454). -/
def portB (p : Port) : Nat := match p with
  | .engine _ => 0
  | _ => 1

/-- A word of the access is poisoned. -/
def State.poisoned (s : State) (a n : Nat) : Bool := s.mst.poison.any (fun w => decide (8 * w < a + n) && decide (a < 8 * w + 8))

/-- A poisoned word is covered by the access in part. -/
def State.partPoison (s : State) (a n : Nat) : Bool :=
  s.mst.poison.any (fun w => decide (8 * w < a + n) && decide (a < 8 * w + 8) && !(decide (a ≤ 8 * w) && decide (8 * w + 8 ≤ a + n)))

/-- Latch an uncorrected read or a read of a poisoned word: the first is kept, a later one sets OVF (R480). -/
def State.latchUe (s : State) (p : Port) (a cause erasures : Nat) : State :=
  if s.on MEM_UE_INFO_VALID then s.wr MEM_UE_INFO_OVF 1
  else
    let s := ((s.wr MEM_UE_ADDR (a / 8 * 8)).wr MEM_UE_INFO_VALID 1).wr MEM_UE_INFO_OVF 0
    let s := (s.wr MEM_UE_INFO_PORT (portB p)).wr MEM_UE_INFO_MASTER p.master
    (s.wr MEM_UE_INFO_CAUSE cause).wr MEM_UE_INFO_ERASURES (min erasures 3)

/-- Every byte of an access lies in memory. -/
def inMem (a n : Nat) : Bool := decide (a + n ≤ 0x04000000) || (decide (0x50000000 ≤ a) && decide (a + n ≤ 0x50400000))

/-- The bus error of an access to memory before any stripe is decoded (R459). -/
def State.memCause (s : State) (a n : Nat) : Option Nat :=
  if !inMem a n then some 2
  else if isSram a ∧ n ≠ 0 ∧ (!s.ready (groupOf a) || !s.ready (groupOf (a + n - 1))) then some 4
  else none

/-- Read n bytes: the bytes, or the cause of a bus error (R450, R459). -/
def State.readMem (s : State) (p : Port) (a n : Nat) : Except Nat (List Byte) × State :=
  match s.memCause a n with
  | some c => (.error c, s)
  | none =>
    if isSram a ∧ s.poisoned a n then (.error 6, s.latchUe p a 6 0)
    else (.ok (s.bytes a n), s)

/-- Write bytes: none, or the cause of a bus error, which changes nothing; a poisoned word that is wholly written is clean
again, and a write-back of a written stripe is dropped (R447, R449, R450). -/
def State.writeMem (s : State) (a : Nat) (bs : List Byte) : Option Nat × State :=
  let n := bs.length
  match s.memCause a n with
  | some c => (some c, s)
  | none =>
    if !isSram a then (none, s.setBytes a bs)
    else if s.partPoison a n then (some 6, s)
    else
      let s := s.setBytes a bs
      (none, s.setMst { s.mst with
        poison := s.mst.poison.filter (fun w => !(decide (a ≤ 8 * w) && decide (8 * w + 8 ≤ a + n))),
        wb := s.mst.wb.filter (fun x => !(decide (128 * x < a + n) && decide (a < 128 * x + 128))) })

/-! ### Retired banks (R451 to R453) -/

def State.retired (s : State) (k : Nat) : Bool := s.bitAt (A_MEM_BANK_FAIL 0) k

/-- Retired banks of a group. -/
def State.retiredOf (s : State) (g : Nat) : List Nat := ((List.range 18).map (bankAt g)).filter s.retired

/-- Retire bank k: a third one of a group is refused and counted; the second exposes the group (R451, R452). A bank under
test ends its test (R465). -/
def State.retireBank (s : State) (k : Nat) : State :=
  let g := k / 18
  if s.retired k then s
  else if (s.retiredOf g).length ≥ 2 then s.inc MEM_RETIRE_REF
  else
    let s := if s.on MEM_BIST_STAT_ACTIVE ∧ s.rd MEM_BIST_STAT_BANK = k then s.wr MEM_BIST_STAT_ACTIVE 0 else s
    let s := ((s.putBitAt (A_MEM_BANK_FAIL 0) k true).wr MEM_STAT_RETIRE_EV 1).raise 0x1C4 k
    if (s.retiredOf g).length ≥ 2 then (s.wr MEM_STAT_EXPOSED (s.rd MEM_STAT_EXPOSED ||| 2 ^ g)).raise 0x1C6 k else s

/-! ### Groups (R466, R467) -/

/-- Bytes, poison and write-backs of a group are gone: it holds zeros. -/
def State.zeroGroup (s : State) (g : Nat) : State :=
  let s := { s with mem := s.mem.filter (fun e => !(isSram e.1 && decide (groupOf e.1 = g))) }
  s.setMst { s.mst with poison := s.mst.poison.filter (fun w => decide (groupOf (8 * w) ≠ g)),
                        wb := s.mst.wb.filter (fun x => decide (groupOf (128 * x) ≠ g)) }

/-- Clearing of a group begins. -/
def State.clearGroup (s : State) (g : Nat) : State :=
  (s.zeroGroup g).wr MEM_STAT_READY (s.rd MEM_STAT_READY &&& (15 ^^^ 2 ^ g))

end Sys2Proof.Machine
end

