-- ==== Sys2Proof/Machine/DmaOps.lean ====
section
/-! DEFINITION. The control registers of the DMA engine (R476, R478, R479, R483). -/

namespace Sys2Proof.Machine
open Sys2Proof

/-- States of a channel (R476). -/
def DM_IDLE : Nat := 0
def DM_FETCH : Nat := 1
def DM_RUN : Nat := 2
def DM_ERROR : Nat := 3
def DM_STOPPED : Nat := 4

def State.dmaState (s : State) (n : Nat) : Nat := s.rd (DMA_CH_STAT_STATE n)
def State.dmaTo (s : State) (n st : Nat) : State := s.wr (DMA_CH_STAT_STATE n) st
def State.dmaCh (s : State) (n : Nat) : DmaCh := tget (fun _ => DmaCh.zero) s.dma n
def State.setDmaCh (s : State) (n : Nat) (c : DmaCh) : State := { s with dma := tset (fun _ => DmaCh.zero) s.dma n c }

/-- The engine has stopped and responses are still outstanding: START, RESUME and CLEAR are refused (R479). -/
def State.dmaDraining (s : State) : Bool := s.on DMA_STAT_STOPPED && !s.on DMA_STAT_DRAINED

/-- A channel fetches the descriptor of DMA_CH_DESC: it holds none until then. -/
def State.dmaToFetch (s : State) (n : Nat) : State := ((s.setDmaCh n .zero).wr (DMA_CH_DONE_BYTES n) 0).dmaTo n DM_FETCH

/-- DMA_CH_CTRL[n].START (R476, R479). -/
def State.dmaStart (s : State) (p : Port) (n : Nat) : State :=
  if (s.dmaState n = DM_IDLE ∨ s.dmaState n = DM_ERROR) ∧ !s.dmaDraining then
    (s.wr (DMA_CH_STAT_REASON n) 0).dmaToFetch n
  else s.range p (A_DMA_CH_CTRL n)

/-- DMA_CH_CTRL[n].ABORT: to IDLE without RESULT (R478). -/
def State.dmaAbort (s : State) (n : Nat) : State :=
  if s.dmaState n = DM_FETCH ∨ s.dmaState n = DM_RUN ∨ s.dmaState n = DM_STOPPED then s.dmaTo n DM_IDLE else s

/-- DMA_CH_CTRL[n].RESUME: a stopped channel runs on; one that held no descriptor fetches it (R478, R479). -/
def State.dmaResume (s : State) (p : Port) (n : Nat) : State :=
  if s.dmaDraining then s.range p (A_DMA_CH_CTRL n)
  else if s.dmaState n ≠ DM_STOPPED then s
  else if (s.dmaCh n).len = 0 then s.dmaToFetch n
  else s.dmaTo n DM_RUN

/-- DMA_CTRL.CLEAR (R478, R479). -/
def State.dmaClear (s : State) (p : Port) : State :=
  if s.on DMA_STAT_DRAINED then s.wr DMA_STAT_STOPPED 0 else s.range p A_DMA_CTRL

/-- A write of DMA_CH_DESC[n] (R483). -/
def State.dmaDesc (s : State) (p : Port) (n v : Nat) : State :=
  if s.dmaState n = DM_IDLE ∨ s.dmaState n = DM_ERROR then s.wr (DMA_CH_DESC_DESC n) (v / 32) else s.range p (A_DMA_CH_DESC n)

/-- A write of DMA_CH_CTRL[n]: PRIO is stored, then ABORT, RESUME and START act. -/
def State.writeDmaCtrl (s : State) (p : Port) (n v : Nat) : State :=
  let s := s.wr (DMA_CH_CTRL_PRIO n) (v / 16)
  let s := if bitOf v 1 then s.dmaAbort n else s
  let s := if bitOf v 2 then s.dmaResume p n else s
  if bitOf v 0 then s.dmaStart p n else s

end Sys2Proof.Machine
end

