-- ==== Sys2Proof/Machine/ConvOps.lean ====
section
/-! DEFINITION. A sounding converter by itself, the same in both chips: sub-windows, scans, triggers, windows of the
longer results (R398 to R413). -/

namespace Sys2Proof.Machine
open Sys2Proof

/-- The full-scale code (R401). -/
def fsCode : Int := 8388607

/-- `a / b` rounded to the nearest integer, ties toward +∞ (R279, R399). -/
def rnd (a b : Int) : Int := (2 * a + b) / (2 * b)

/-- A result on its way to the registers: kind, converter, input, code, SETTLE, OVR, the window it rests on and its
nominal length in word clocks. -/
structure Res where
  kind : Nat
  n : Nat
  m : Nat
  code : Int
  settle : Bool
  ovr : Bool
  win : Win
  len : Nat
deriving DecidableEq, Repr

def Res.full (r : Res) : Bool := decide (r.code = fsCode ∨ r.code = -fsCode)

/-- A code held to the range of the chip (R401). -/
def clampCode (sk : Bool) (c : Int) : Int := max (if sk then 0 else -fsCode) (min fsCode c)

/-- CODE of a window: the full-scale code of the last rail with OVR (R404), else charge over full-scale charge, a packet
being 256 units and lasting 2 word clocks in the Balgal, 4 in the Skerry (R399). -/
def winCode (sk : Bool) (w : Win) : Int :=
  if w.ovr ≠ 0 then (if w.ovr > 0 then fsCode else if sk then 0 else -fsCode)
  else clampCode sk (rnd (w.q * fsCode) (((if sk then 64 else 128) * max w.dur 1 : Nat) : Int))

/-! ### Set-up words -/

def cfgMask (w : Nat) : Nat := w % 16
def cfgTrig (w : Nat) : Bool := bitOf w 8
def cfgDwell (w : Nat) : Nat := w / 65536 % 256
/-- The inputs enabled, in ascending number. -/
def cfgInputs (w : Nat) : List Nat := (List.range 4).filter (fun m => bitOf w m)

def Conv.get (c : Conv) (n : Nat) : ConvSt := tget (fun _ => ConvSt.zero) c.st n
def Conv.put (c : Conv) (n : Nat) (q : ConvSt) : Conv := { c with st := tset (fun _ => ConvSt.zero) c.st n q }
def Conv.window (c : Conv) (n k m : Nat) : Win := tget (fun _ => Win.zero) c.win (16 * n + 4 * k + m)
def Conv.putWin (c : Conv) (n k m : Nat) (w : Win) : Conv :=
  { c with win := tset (fun _ => Win.zero) c.win (16 * n + 4 * k + m) w }

/-- The windows in progress of converter n hold a change other than a scan move (R411). -/
def Conv.markChange (c : Conv) (n : Nat) : Conv :=
  [1, 2, 3].foldl (fun c k => [0, 1, 2, 3].foldl (fun c m => c.putWin n k m { c.window n k m with chg := true }) c) c

/-- A change (R409): the next two sub-windows carry SETTLE. -/
def Conv.change (c : Conv) (n : Nat) : Conv := (c.put n { c.get n with settle := 2 }).markChange n

/-- A change of every converter in `ns`. -/
def Conv.unsettle (c : Conv) (ns : List Nat) : Conv := ns.foldl (fun c n => c.change n) c

/-- A CT step (R413): every converter is unsettled and the mains windows await the next ferry-cycle start. -/
def Conv.stepped (c : Conv) (ns : List Nat) : Conv := { (c.unsettle ns) with mainsOn := false }

/-- The multiplexer of converter n goes to input m (R409). -/
def Conv.move (c : Conv) (n m : Nat) : Conv :=
  let q := c.get n
  if q.sel = m then c else c.put n { q with sel := m, scanSettle := 2 }

/-! ### Windows -/

def Win.add (w : Win) (q : Int) (dur : Nat) (ovr : Int) : Win :=
  { w with q := w.q + q, dur := w.dur + dur, ovr := if ovr ≠ 0 then ovr else w.ovr }

/-- The result of a finished window; without any sub-window its code is the open value `f` (R411). -/
def winRes (sk : Bool) (f : Int) (n k m len : Nat) (w : Win) : Res :=
  { kind := k, n := n, m := m, code := if w.dur = 0 then clampCode sk f else winCode sk w,
    settle := w.chg || decide (w.dur = 0), ovr := decide (w.ovr ≠ 0), win := w, len := len }

/-- Close the window of kind k of input m and begin the next. -/
def Conv.close (sk : Bool) (f : Nat → Int) (c : Conv) (n k m len : Nat) : Conv × Res :=
  (c.putWin n k m Win.zero, winRes sk (f (16 * n + 4 * k + m)) n k m len (c.window n k m))

/-- Close the windows of kind k of every enabled input of the converters in `ns`. -/
def Conv.closeAll (sk : Bool) (f : Nat → Int) (c : Conv) (ns : List Nat) (k len : Nat) : Conv × List Res :=
  ns.foldl (fun acc n =>
    (cfgInputs (acc.1.get n).cfg).foldl (fun acc m =>
      let (c', r) := acc.1.close sk f n k m len
      (c', acc.2 ++ [r])) acc) (c, [])

/-! ### Set-up and scans (R406 to R410) -/

/-- A set-up takes effect: a new GAIN, FILT or MASK is a change. -/
def Conv.takeCfg (c : Conv) (n want : Nat) : Conv :=
  let q := c.get n
  if q.cfg = want then c
  else
    let ins := cfgInputs want
    let sel := if ins.contains q.sel ∨ ins.isEmpty then q.sel else ins.headD 0
    let q' := { q with cfg := want, sel := sel, left := 0 }
    let q' := if cfgTrig q.cfg = cfgTrig want then q' else { q' with trig := false, scanning := false, tpend := false }
    let c := c.put n q'
    if q.cfg % 256 = want % 256 then c else c.change n

/-- A CONT scan starts on a ferry-cycle start (R406). -/
def Conv.scanStart (c : Conv) (n : Nat) : Conv :=
  let q := c.get n
  let ins := cfgInputs q.cfg
  if cfgTrig q.cfg ∨ ins.isEmpty then c
  else
    let c := c.move n (ins.headD 0)
    c.put n { c.get n with left := if ins.length ≤ 1 then 0 else 25 / ins.length }

/-- The enabled input after m. -/
def nextInput (w m : Nat) : Option Nat := (cfgInputs w).find? (fun j => decide (m < j))

/-- A TRIG scan starts: each enabled input for DWELL sub-windows (R407, R410). -/
def Conv.trigStart (c : Conv) (n want : Nat) : Conv :=
  let c := [0, 1, 2, 3].foldl (fun c m => c.putWin n 1 m Win.zero) c
  let c := c.takeCfg n want
  let q := c.get n
  if !(cfgTrig q.cfg) then c.put n { q with trig := false, scanning := false, tpend := false }
  else
    let c := c.move n ((cfgInputs q.cfg).headD 0)
    c.put n { c.get n with trig := false, scanning := true, left := cfgDwell q.cfg }

/-- A trigger of converter n on the edge `now`: the converter, and whether the trigger was lost (R407, R408). -/
def Conv.trigger (c : Conv) (n now : Nat) : Conv × Bool :=
  let q := c.get n
  if !(cfgTrig q.cfg) ∨ cfgMask q.cfg = 0 ∨ q.trigAt = now + 1 then (c, false)
  else
    let q' := { q with trigAt := now + 1 }
    if q.trig ∨ q.scanning then
      if q.tpend then (c.put n q', true) else (c.put n { q' with tpend := true }, false)
    else (c.put n { q' with trig := true }, false)

/-- The end of one sub-window of converter n, of `dur` word clocks and charge `q`; `rail` is the sign of its last railed
edge, 0 for none. Gives the fast result of the selected input (R399, R404, R409, R411). -/
def Conv.subEnd (sk : Bool) (c : Conv) (n dur : Nat) (q rail : Int) : Conv × Res :=
  let st := c.get n
  let cut := decide (dur < 50)
  let ovr := if rail ≠ 0 then rail else st.ovrNext
  let scan := decide (st.scanSettle > 0)
  let settle := cut || scan || decide (st.settle > 0)
  let w := Win.zero.add q dur ovr
  let c := if scan then c
    else [1, 2, 3].foldl (fun c k => c.putWin n k st.sel ((c.window n k st.sel).add q dur ovr)) c
  let c := if cut then c.markChange n else c
  let st' := { st with
    ovrNext := rail,
    settle := if cut then st.settle else st.settle - 1, scanSettle := if cut then st.scanSettle else st.scanSettle - 1 }
  let win := if scan then { Win.zero with chg := cut } else { w with chg := settle }
  (c.put n st', ⟨0, n, st.sel, winCode sk w, settle, decide (ovr ≠ 0), win, dur⟩)

/-- The boundary after a sub-window: the scan moves on, and a TRIG dwell that ends before the last gives its result (R406
to R412). -/
def Conv.advance (sk : Bool) (f : Nat → Int) (c : Conv) (n want : Nat) : Conv × List Res :=
  let q := c.get n
  if cfgTrig q.cfg then
    if q.scanning then
      if q.left > 1 then (c.put n { q with left := q.left - 1 }, [])
      else
        match nextInput q.cfg q.sel with
        | some m =>
          let (c, r) := c.close sk f n 1 q.sel (50 * cfgDwell q.cfg)
          let c := (c.putWin n 1 m Win.zero).move n m
          (c.put n { c.get n with left := cfgDwell q.cfg }, [r])
        | none => (c.put n { q with left := 0 }, [])
    else if q.trig then (c.trigStart n want, [])
    else (c.takeCfg n want, [])
  else if q.left > 1 then (c.put n { q with left := q.left - 1 }, [])
  else if q.left = 1 then
    match nextInput q.cfg q.sel with
    | some m =>
      let c := c.move n m
      let last := (nextInput q.cfg m).isNone
      (c.put n { c.get n with left := if last then 0 else 25 / (cfgInputs q.cfg).length }, [])
    | none => (c.put n { q with left := 0 }, [])
  else (c, [])

/-- The scan of converter n has reached its end boundary. -/
def Conv.scanOver (c : Conv) (n : Nat) : Bool := (c.get n).scanning && (c.get n).left = 0

/-- The end of a TRIG scan: the last dwell's result, and the next scan where a trigger is pending (R407, R408, R412). -/
def Conv.scanEnd (sk : Bool) (f : Nat → Int) (c : Conv) (n want : Nat) : Conv × Res :=
  let q := c.get n
  let (c, r) := c.close sk f n 1 q.sel (50 * cfgDwell q.cfg)
  let c := c.put n { c.get n with scanning := false, tpend := false }
  (if q.tpend then c.trigStart n want else c, r)

/-- The open values that a command may need for windows without a sub-window (R411). -/
def openCodes (opens : Nat) (i : Nat) : Int := ((Config.freeValue (opens + i)).toNat % 16777215 : Nat) - fsCode

end Sys2Proof.Machine
end

