-- ==== Sys2Proof/Machine/Skerry.lean ====
section
/-! DEFINITION. The named operations over one Skerry: registers, log, latches, health, converter time, and the gate
timer's placing of edges (R363 to R384, R388, R503). -/

namespace Sys2Proof.Machine
open Sys2Proof

/-! ### Registers and memory -/

def Skerry.rdW (k : Skerry) (a : Nat) : Word := tget skReset k.regs a
def Skerry.wrW (k : Skerry) (a : Nat) (v : Word) : Skerry := { k with regs := tset skReset k.regs a v }
def Skerry.rd (k : Skerry) (f : Fld) : Nat := bitsOf (k.rdW f.addr) f.lo f.w
def Skerry.wr (k : Skerry) (f : Fld) (v : Nat) : Skerry := k.wrW f.addr (bitsPut (k.rdW f.addr) f.lo f.w v)
def Skerry.on (k : Skerry) (f : Fld) : Bool := k.rd f ≠ 0
def Skerry.cnt (k : Skerry) (f : Fld) (n : Nat) : Skerry := k.wr f (min (k.rd f + n) (2 ^ f.w - 1))
def Skerry.inc (k : Skerry) (f : Fld) : Skerry := k.cnt f 1
def Skerry.rdS (k : Skerry) (f : Fld) : Int := signed f.w (k.rd f)
def Skerry.wrS (k : Skerry) (f : Fld) (v : Int) : Skerry := k.wr f (unsigned f.w (satInt f.w v))

def Skerry.byte (k : Skerry) (a : Nat) : Byte := tget (fun _ => 0) k.mem a
def Skerry.setByte (k : Skerry) (a : Nat) (b : Byte) : Skerry := { k with mem := tset (fun _ => 0) k.mem a b }
def Skerry.bytes (k : Skerry) (a : Nat) : Nat → List Byte
  | 0 => []
  | n + 1 => k.byte a :: k.bytes (a + 1) n
def Skerry.setBytes (k : Skerry) (a : Nat) : List Byte → Skerry
  | [] => k
  | b :: t => (k.setByte a b).setBytes (a + 1) t

/-- The Skerry of cell `g`. -/
def State.cell (s : State) (g : Nat) : Skerry := tget (fun _ => Skerry.dark) s.cells g
def State.setCell (s : State) (g : Nat) (k : Skerry) : State := { s with cells := tset (fun _ => Skerry.dark) s.cells g k }

/-- Change one Skerry. -/
def State.onCell (s : State) (g : Nat) (f : Skerry → Skerry) : State := s.setCell g (f (s.cell g))

/-! ### Power state and time -/

def Skerry.inRun (k : Skerry) : Bool := k.pow.state = .run
def Skerry.rate (k : Skerry) : Int := k.rdS SK_TIME_RATE
/-- CT of the Skerry, on the path in use; the fallback pair in every state but RUN (R345, R349, R350). -/
def Skerry.ct (k : Skerry) : Nat :=
  if k.inRun then k.clk.ct (k.rd SK_TIME_STAT_PATH) k.rate else k.clk.fb * nsU
def Skerry.now (k : Skerry) : Nat := k.clk.count
def Skerry.setPow (k : Skerry) (p : SkPower) : Skerry := { k with pow := p }
def Skerry.setGate (k : Skerry) (q : SkGate) : Skerry := { k with gate := q }
def Skerry.setCmd (k : Skerry) (c : SkCmd) : Skerry := { k with cmd := c }
def Skerry.setFr (k : Skerry) (f : SkFreight) : Skerry := { k with fr := f }
/-- Full scale of VCAP in volts (R355). -/
def Skerry.vfsV (k : Skerry) : Nat := 1500 * (k.pow.vfs + 1)
/-- The last ferry-cycle result of VCAP, in volts. -/
def Skerry.vcapV (k : Skerry) : Nat := k.rd (SK_CONV_RES_CODE 1 0 0) * k.vfsV / 8388607

/-! ### The retained log (R363, R675, R676) -/

/-- An entry of the log: code and up to six bytes of data. -/
def Skerry.log (k : Skerry) (code : Nat) (data : List Nat) : Skerry :=
  let c := k.ct
  let fb := if k.inRun ∧ k.rd SK_TIME_STAT_PATH = 0 then 0 else 2 ^ 30
  let d := (data ++ [0, 0, 0, 0, 0, 0]).take 6
  let e := leBytes 4 (ctSec c) ++ leBytes 4 (ctNs c + fb) ++ leBytes 2 code ++ d.map (fun b => BitVec.ofNat 8 b)
  let k := k.setBytes (0x10000000 + 16 * k.rd SK_LOG_WIDX) e
  (k.wr SK_LOG_WIDX (k.rd SK_LOG_WIDX + 1)).wr SK_LOG_CNT (k.rd SK_LOG_CNT + 1)

/-! ### Fault latches and health (R503, R131) -/

/-- HEALTH: bypassed once the switch has confirmed; failed on a hard fault, a gate supply, a missing confirmation or
disagreeing hop positions; derated with a halted core pair (R147, R354, R362, R388, R392). -/
def Skerry.health (k : Skerry) : Nat :=
  if k.pow.closed then 2
  else if k.pow.hard || bitOf (k.rd SK_FLT_LATCH_LATCH) 1 || bitOf (k.rd SK_FLT_LATCH_LATCH) 5 || k.cmd.hopBad then 3
  else if k.rd SK_TOP_STAT_CORE = 2 then 1 else 0

/-- Show HEALTH and FAULT in SK_TOP_STAT. -/
def Skerry.heal (k : Skerry) : Skerry :=
  (k.wr SK_TOP_STAT_HEALTH k.health).wr SK_TOP_STAT_FAULT (b2n (k.on SK_FLT_LATCH_LATCH))

/-- Set latch bit `b` of SK_FLT_LATCH; the first of them since all were clear is kept (R503, R508). -/
def Skerry.latch (k : Skerry) (b : Nat) : Skerry :=
  let l := k.rd SK_FLT_LATCH_LATCH
  let k := if l = 0 then (k.wr SK_FLT_FIRST_BIT b).wr SK_FLT_FIRST_SEC (ctSec k.ct) else k
  let k := if bitOf l b then k else k.inc SK_FLT_CNT
  (k.wr SK_FLT_LATCH_LATCH (l ||| 2 ^ b)).heal

/-! ### Gate patterns (R365) -/

def ST_HOLD : Nat := 0
def ST_BYPASS : Nat := 1
def ST_INSP : Nat := 2
def ST_INSN : Nat := 3
def ST_BLOCK : Nat := 4

/-- A state that the cell type may take: insert negative only in a full-bridge cell; codes above block are refused. -/
def stateOk (ctype st : Nat) : Bool := st < 5 && (st ≠ 3 || ctype = 2)

/-- The channels on in a state: bit j for GATE j. -/
def gatePattern (ctype st : Nat) : Nat :=
  if st = 1 then (if ctype = 1 then 2 else 10)
  else if st = 2 then (if ctype = 1 then 1 else if ctype = 2 then 9 else 5)
  else if st = 3 then 6 else 0

/-- GATE_CLAMP in a state. -/
def clampPattern (ctype st : Nat) : Bool := ctype = 3 && (st = 1 || st = 2)

def Skerry.out (k : Skerry) (j : Nat) : Bool := bitOf (k.rd SK_GATE_STAT_OUT) j
def Skerry.mode (k : Skerry) : Nat := k.rd SK_GATE_STAT_MODE
def Skerry.modulating (k : Skerry) : Bool := k.on SK_GATE_STAT_MODULATING
def Skerry.hiZ (k : Skerry) : Bool := k.on SK_GATE_STAT_HIZ
def Skerry.fired (k : Skerry) : Bool := k.on SK_GATE_STAT_FIRED
def Skerry.discharging (k : Skerry) : Bool := k.on SK_PWR_STAT_DISCHARGING
def Skerry.target (k : Skerry) : Nat := k.rd SK_GATE_STAT_TARGET
/-- The gate outputs are in block or at high impedance. -/
def Skerry.gatesOff (k : Skerry) : Bool := k.hiZ || (!k.modulating && k.target = ST_BLOCK)
/-- APPLIED (R131, R367): 0 while modulating, block at high impedance. -/
def Skerry.applied (k : Skerry) : Nat := if k.hiZ then ST_BLOCK else if k.modulating then 0 else k.target

def Skerry.dead (k : Skerry) : Nat := k.rd SK_GATE_TIME0_DEAD
def Skerry.minPulse (k : Skerry) : Nat := k.rd SK_GATE_TIME0_MIN_PULSE

/-- Word clocks since the last edge of channel j; very many without one. -/
def Skerry.chAge (k : Skerry) (j : Nat) : Nat :=
  let v := tget (fun _ => 0) k.gate.chAt j
  if v = 0 then 2 ^ 40 else k.now + 1 - v

/-- The lower channels of the pairs that the type uses. -/
def pairs (ctype : Nat) : List Nat := if ctype = 1 then [0] else [0, 1]

/-- The refresh time of pair p in word clocks (R382). -/
def Skerry.refTime (k : Skerry) (p : Nat) : Nat :=
  if k.out (2 * p + 1) ∧ k.chAge (2 * p + 1) ≥ k.rd SK_GATE_TIME1_REF_MIN then 0
  else k.now - tget (fun _ => 0) k.gate.refFrom p

/-- REF_LIM in word clocks. -/
def Skerry.refLim (k : Skerry) : Nat := 625000 * k.rd SK_GATE_REF_REF_LIM

/-- REFRESH_REQ (R383): a step cell, or a weave cell that is not modulating, with a used pair at or above REF_LIM. -/
def Skerry.refreshDue (k : Skerry) : Bool :=
  k.refLim ≠ 0 && !k.modulating && (pairs k.pow.ctype).any (fun p => decide (k.refTime p ≥ k.refLim))

def Skerry.refreshShow (k : Skerry) : Skerry :=
  let k := (k.wr SK_GATE_REF_PAIR0 (min (k.refTime 0 / 625000) 4095)).wr SK_GATE_REF_PAIR1
    (if k.pow.ctype = 1 then 0 else min (k.refTime 1 / 625000) 4095)
  k.wr SK_GATE_STAT_REFRESH_REQ (b2n k.refreshDue)

/-- Drive channel j high or low on this edge. -/
def Skerry.drive (k : Skerry) (j : Nat) (v : Bool) : Skerry :=
  if k.out j = v then k
  else
    let q := k.gate
    -- a lower channel that leaves a qualified on time starts its pair's refresh time (R382)
    let q := if j % 2 = 1 ∧ !v ∧ k.chAge j ≥ k.rd SK_GATE_TIME1_REF_MIN
      then { q with refFrom := tset (fun _ => 0) q.refFrom (j / 2) k.now } else q
    let q := { q with chAt := tset (fun _ => 0) q.chAt j (k.now + 1),
                      turned := if v ∧ j < 2 then q.turned ||| 2 ^ j else q.turned }
    let o := k.rd SK_GATE_STAT_OUT
    (k.setGate q).wr SK_GATE_STAT_OUT (if v then o ||| 2 ^ j else o &&& (15 ^^^ 2 ^ j))

/-- An edge that MIN_PULSE moves later counts once (R369). -/
def Skerry.countDefer (k : Skerry) (j : Nat) : Skerry :=
  if bitOf k.gate.counted j then k
  else (k.setGate { k.gate with counted := k.gate.counted ||| 2 ^ j }).inc SK_GATE_DEFER_CNT

/-- The turn-off of channel j, if it is due (R369, R374). -/
def Skerry.tryOff (k : Skerry) (j : Nat) : Skerry :=
  if k.out j ∧ !(bitOf k.gate.want j) then
    if k.modulating ∨ k.gate.noMin ∨ k.chAge j ≥ k.minPulse then k.drive j false else k.countDefer j
  else k

/-- The turn-on of channel j, if its complement has been off for DEAD and itself for MIN_PULSE (R369). -/
def Skerry.tryOn (k : Skerry) (j : Nat) : Skerry :=
  if !(k.out j) ∧ bitOf k.gate.want j ∧ k.now ≥ k.gate.notBefore then
    let c := if j % 2 = 0 then j + 1 else j - 1
    if k.out c then k
    else
      let minOk := k.gate.noMin || k.modulating || decide (k.chAge j ≥ k.minPulse)
      if k.chAge c ≥ k.dead ∧ minOk then k.drive j true
      else if !minOk ∧ k.minPulse - k.chAge j > k.dead - k.chAge c then k.countDefer j
      else k
  else k

/-- Take every edge that is due, and show the state of the timer. -/
def Skerry.settle (k : Skerry) : Skerry :=
  let k := [0, 1, 2, 3].foldl (fun k j => k.tryOff j) k
  let k := [0, 1, 2, 3].foldl (fun k j => k.tryOn j) k
  let k := k.wr SK_GATE_STAT_EDGE_PEND (b2n (decide (k.rd SK_GATE_STAT_OUT ≠ k.gate.want) || !k.gate.cmds.isEmpty))
  k.refreshShow

/-- Count a change of target (R368): step mode only, high impedance as block. -/
def Skerry.countSwitch (k : Skerry) (st : Nat) : Skerry :=
  let old := if k.modulating then 0 else if k.hiZ then ST_BLOCK else k.target
  if k.mode = 0 ∧ old ≠ st then k.wr SK_GATE_SW_CNT (k.rd SK_GATE_SW_CNT + 1) else k

/-- A new target in effect on this edge (R367, R369, R370, R376): modulation stops; an equal target changes no pending
edge. -/
def Skerry.setTarget (k : Skerry) (st : Nat) : Skerry :=
  let same := !k.modulating && !k.hiZ && k.target = st
  let k := k.countSwitch st
  let k := (k.wr SK_GATE_STAT_MODULATING 0).wr SK_GATE_STAT_TARGET st
  let k := k.setGate { k.gate with cmds := [], resume := false }
  if same then k.settle
  else
    let k := k.setGate { k.gate with want := gatePattern k.pow.ctype st, counted := 0, noMin := false, notBefore := 0 }
    (k.wr SK_GATE_STAT_CLAMP (b2n (clampPattern k.pow.ctype st))).settle

/-- The force ends on a cause of ranks 1 to 3 (R381). -/
def Skerry.dropForce (k : Skerry) : Skerry :=
  let k := ((k.wr SK_GATE_FORCE_EN 0).wr SK_GATE_FORCE_PEND 0).wr SK_GATE_STAT_FORCED 0
  k.setGate { k.gate with force := none }

/-- Every channel off on this edge, whatever MIN_PULSE (R371). -/
def Skerry.allOff (k : Skerry) : Skerry :=
  let k := [0, 1, 2, 3].foldl (fun k j => k.drive j false) k
  let k := k.setGate { k.gate with want := 0, cmds := [], resume := false, counted := 0, noMin := false, notBefore := 0 }
  ((k.wr SK_GATE_STAT_CLAMP 0).wr SK_GATE_STAT_MODULATING 0).wr SK_GATE_STAT_EDGE_PEND 0

/-- Rank 3: block on this edge; rank 1 and FIRED outrank it (R34, R371, R392). -/
def Skerry.rank3 (k : Skerry) : Skerry :=
  let k := k.dropForce
  if k.hiZ ∨ k.fired then k
  else
    let k := k.countSwitch ST_BLOCK
    (k.allOff.wr SK_GATE_STAT_TARGET ST_BLOCK).refreshShow

/-- Rank 1: every output undriven on this edge (R366, R371). -/
def Skerry.rank1 (k : Skerry) : Skerry :=
  let k := (k.dropForce).countSwitch ST_BLOCK
  ((k.allOff.wr SK_GATE_STAT_TARGET ST_BLOCK).wr SK_GATE_STAT_HIZ 1).refreshShow

/-- Rank 2: upper channels off on this edge, lower channels on at this edge plus DEAD (R371, R391). -/
def Skerry.rank2 (k : Skerry) : Skerry :=
  let k := k.dropForce
  if k.hiZ then k
  else
    let k := k.countSwitch ST_BYPASS
    let k := (k.wr SK_GATE_STAT_MODULATING 0).wr SK_GATE_STAT_TARGET ST_BYPASS
    let k := (k.drive 0 false).drive 2 false
    let k := k.setGate { k.gate with
      want := gatePattern k.pow.ctype ST_BYPASS, cmds := [], resume := false, counted := 0, noMin := true,
      notBefore := k.now + k.dead }
    (k.wr SK_GATE_STAT_CLAMP (b2n (clampPattern k.pow.ctype ST_BYPASS))).settle

/-- Ranks 5 and 6 have no effect on the state while a rank 1 cause, FIRED, a discharge or a force decides (R34, R358,
R379, R392). -/
def Skerry.mayMove (k : Skerry) : Bool := !k.hiZ && !k.fired && !k.discharging && !k.on SK_GATE_FORCE_EN

/-- PART applied (R76, R79). -/
def Skerry.partOk (k : Skerry) : Bool := k.rd SK_TOP_STAT_PART = 2

/-- Latch fault inputs in SK_GATE_FLT, codes as SK_GATE_FLT.FIRST (R388): counted and logged each, lowest first. -/
def Skerry.latchInputs (k : Skerry) (ins : List Nat) : Skerry :=
  let ins := (List.range 10).filter (fun c => ins.contains c)
  if ins.isEmpty then k
  else
    let tgt := k.applied
    let first := ins.headD 15
    let k := if k.rd SK_GATE_FLT_FIRST = 15 then k.wr SK_GATE_FLT_FIRST first else k
    let k := ins.foldl (fun k c =>
      let k := k.wrW A_SK_GATE_FLT (bitsPut (k.rdW A_SK_GATE_FLT) c 1 1)
      let k := if c ≤ 4 then k.setPow { k.pow with hard := true } else k
      (k.inc SK_GATE_FLT_CNT).log 0x0030 [c, tgt]) k
    (k.latch 0).heal

/-- The latched inputs of SK_GATE_FLT. -/
def Skerry.latchedInputs (k : Skerry) : List Nat :=
  (List.range 10).filter (fun c => bitOf (k.rdW A_SK_GATE_FLT).toNat c)

/-- The channels that the type uses. -/
def usesChannel (ctype j : Nat) : Bool := if ctype = 1 then j < 2 else j < 4

/-- Every used GS_OK is high. -/
def Skerry.gsAll (k : Skerry) : Bool :=
  (List.range 4).all (fun j => !(usesChannel k.pow.ctype j) || bitOf (k.rd SK_PWR_STAT_GS_OK) j)

/-! ### Slots and block-all (R254, R263) -/

def SL_FREE : Nat := 0
def SL_ARMED : Nat := 1
def SL_CHOSEN : Nat := 2
def SL_APPLIED : Nat := 3
def SL_MISSED : Nat := 4

def Skerry.slot (k : Skerry) (i : Nat) : Slot := tget (fun _ => Slot.zero) k.cmd.slots i

/-- Free slot i. -/
def Skerry.freeSlot (k : Skerry) (i : Nat) : Skerry :=
  let k := (k.wrW (A_SK_CMD_SLOT i) 0).wrW (A_SK_CMD_SLOT_AT i) 0
  k.setCmd { k.cmd with slots := tset (fun _ => Slot.zero) k.cmd.slots i Slot.zero }

/-- Cancel the AFTER change that is held (R256, R262, R263). -/
def Skerry.cancelAfter (k : Skerry) : Skerry :=
  let k := k.setGate { k.gate with after := none }
  (k.wr (SK_CMD_SLOT_AFTER_PEND 0) 0).wr (SK_CMD_SLOT_AFTER_PEND 1) 0

/-- Empty the early-commit register, counting its commit as wrong (R260). -/
def Skerry.dropEarly (k : Skerry) : Skerry :=
  if k.on SK_CMD_EARLY_VALID then (k.wrW A_SK_CMD_EARLY 0).inc SK_CMD_COMMIT_WRONG else k

/-- What a block-all does beside the gates: both slots free, AFTER change and early commit gone, flash orders ignored
until a commit of a later ferry (R157, R260, R263). -/
def Skerry.obeyBlock (k : Skerry) : Skerry :=
  let k := ((k.freeSlot 0).freeSlot 1).cancelAfter
  let k := k.dropEarly
  k.setCmd { k.cmd with blocked := true, blockAt := k.ct + 1 }

/-! ### Discharge (R357, R358) -/

/-- Start a managed discharge, or refuse it and log the refusal. -/
def Skerry.startDischarge (k : Skerry) : Skerry :=
  if k.inRun ∧ k.gatesOff ∧ !k.discharging then
    let k := (k.wr SK_PWR_STAT_DISCHARGING 1).wr SK_PWR_STAT_DIS_PAUSED 0
    k.setPow { k.pow with disFrom := ctSec k.ct }
  else (k.inc SK_CMD_ACTION_REJ).log 0x0050 [k.pow.state.code]

/-- A discharge ends: DIS_EN low, its duration recorded. -/
def Skerry.endDischarge (k : Skerry) : Skerry :=
  let k := (k.wr SK_PWR_STAT_DISCHARGING 0).wr SK_PWR_STAT_DIS_PAUSED 0
  k.wr SK_PWR_DIS_TIME (min (ctSec k.ct - k.pow.disFrom) 0xFFFF)

/-- DIS_EN (R358). -/
def Skerry.disEn (k : Skerry) : Bool := k.discharging && !k.on SK_PWR_STAT_DIS_PAUSED

end Sys2Proof.Machine
end

