-- ==== Sys2Proof/Machine/SkGate.lean ====
section
/-! DEFINITION. Cell switching and gate timing (R365 to R397): gate edges, weave reloads, forces, refresh, fault inputs
and their clearing, the bypass switch and the protection thyristor. -/

namespace Sys2Proof.Machine
open Sys2Proof

/-- Apply `f` to the Skerry of cell g while it is in RUN. -/
def State.runCell (s : State) (g : Nat) (f : Skerry → Skerry) : State :=
  if (s.cell g).inRun then s.onCell g f else s

/-! ### Gate edges and weave (R369, R372 to R376, R384) -/

/-- Take the commanded edges of a modulating pair 0 that are due, dropping those inside a refresh pulse. -/
def Skerry.takeCmds (k : Skerry) : Skerry :=
  let due := k.gate.cmds.filter (fun c => c.1 ≤ k.now)
  let rest := k.gate.cmds.filter (fun c => ¬ c.1 ≤ k.now)
  let hold := k.gate.want / 4 * 4
  let want := due.foldl (fun _ c => hold + (if c.2 then 1 else 2)) k.gate.want
  k.setGate { k.gate with want := want, cmds := rest, counted := if due.isEmpty then k.gate.counted else 0 }

/-- GATE_EDGE: the pending edges of cell `g` whose conditions are met on this edge are taken (R369, R374). -/
def execGateEdge (g : Nat) (s : State) : Host.Outcome State Fault Refusal :=
  .next (s.runCell g (fun k => if k.hiZ then k else k.takeCmds.settle))

/-- x of a half from a duty, clipped, and whether the clipping changed it (R373). -/
def clipHalf (duty w xmin : Nat) : Nat × Bool :=
  let x := duty * w / 65536
  let x1 := if 2 * x < xmin then 0 else if x < xmin then xmin else x
  let x2 := if 2 * (w - x1) < xmin then w else if w - x1 < xmin then w - xmin else x1
  (x2, decide (x2 ≠ x))

def Skerry.xmin (k : Skerry) : Nat := k.dead + max k.minPulse 1

/-- Take the duty in use for a half of `w` word clocks; the half it gives, with the clip counted. -/
def Skerry.takeDuty (k : Skerry) (w : Nat) : Nat × Skerry :=
  let d := k.rd SK_GATE_DUTY_NOW
  let (x, c) := clipHalf d w k.xmin
  let k := k.wr SK_GATE_DUTY_LAST d
  (x, if c then k.inc SK_GATE_CLIP_CNT else k)

def Skerry.upd (k : Skerry) : Bool := bitOf (k.rd SK_GATE_FILT2_UPD) 0

/-- The pending WHALF takes effect at a reload point (R377). -/
def Skerry.takeWper (k : Skerry) : Skerry :=
  match k.gate.wpend with
  | some w => k.setGate { k.gate with whalf := w, wpend := none }
  | none => k

/-- Schedule commanded edges, without those that fall in a refresh pulse (R384). -/
def Skerry.schedule (k : Skerry) (cs : List (Nat × Bool)) : Skerry :=
  let q := k.gate
  k.setGate { q with cmds := q.cmds ++ cs.filter (fun c => q.pulseEnd ≤ c.1) }

/-- A boundary that begins a period: modulation resumes where it is to, the refresh pulse is inserted where it is due,
and the first half's edges are scheduled (R372 to R376, R384). -/
def Skerry.boundary (k : Skerry) : Skerry :=
  let k := if k.gate.turned = 3 ∧ k.modulating then k.wr SK_GATE_SW_CNT (k.rd SK_GATE_SW_CNT + 1) else k
  let k := k.setGate { k.gate with turned := 0 }
  let k := k.takeWper
  let w := k.gate.whalf
  let k := k.setGate { k.gate with half := 1, anchor := false }
  let starts := k.gate.resume && k.mode = 1
  if !(k.modulating || starts) then k
  else
    let k := if starts then
        let k := (k.wr SK_GATE_STAT_MODULATING 1).wr SK_GATE_STAT_TARGET 0
        k.setGate { k.gate with resume := false, cmds := [], want := k.gate.want % 4 + (if k.pow.ctype = 2 then 8 else 0),
                                noMin := false, notBefore := 0 }
      else k
    let (x1, k) := k.takeDuty w
    let (x2, k) := if k.upd then (x1, k) else k.takeDuty w
    let lx := x2
    let refresh := k.refLim ≠ 0 && decide (k.refTime 0 ≥ k.refLim)
    let k := if refresh then
        let on := max (k.rd SK_GATE_TIME1_REF_MIN) k.minPulse
        let e := k.now + 2 * k.dead + on
        (k.setGate { k.gate with cmds := [(k.now, false), (k.now + k.dead + on, true)], pulseEnd := e }).inc SK_GATE_REF_CNT
      else k
    let k := k.schedule ([(k.now, decide (x1 = w))] ++ (if 0 < x1 ∧ x1 < w then [(k.now + w - x1, true)] else []))
    (k.setGate { k.gate with lastX := lx }).takeCmds.settle

/-- A mid-period: the second half takes its duty with UPD 1 (R375), and its edges are scheduled. -/
def Skerry.midPeriod (k : Skerry) : Skerry :=
  let k := if k.upd then k.takeWper else k
  let k := k.setGate { k.gate with half := 2 }
  if !k.modulating then k
  else
    let w := k.gate.whalf
    let (x2, k) := if k.upd then k.takeDuty w else (k.gate.lastX, k)
    let k := k.schedule ([(k.now, decide (0 < x2))] ++ (if 0 < x2 ∧ x2 < w then [(k.now + x2, false)] else []))
    (k.setGate { k.gate with lastX := x2 }).takeCmds.settle

/-- WEAVE_RELOAD: the next boundary or mid-period of the grid of a weave cell (R375). -/
def execWeaveReload (g : Nat) (s : State) : Host.Outcome State Fault Refusal :=
  .next (s.runCell g (fun k =>
    if k.mode = 1 then (if k.gate.half = 1 then k.midPeriod else k.boundary) else k))

/-- WPER_WRITE: a pending WHALF of 25 to 1,048,575; other values leave the field unchanged (R377). -/
def Skerry.wperWrite (k : Skerry) (v : Nat) : Skerry :=
  if 25 ≤ v ∧ v ≤ 1048575 then (k.wr SK_GATE_WPER v).setGate { k.gate with wpend := some v } else k

def execWperWrite (g : Nat) (v : Word) (s : State) : Host.Outcome State Fault Refusal :=
  .next (s.runCell g (fun k => k.wperWrite v.toNat))

/-! ### Forces (R379 to R381) -/

/-- A force write is refused: FORCE_ALLOW 0, PART not applied, a rank 1 or 2 cause, or a state not allowed (R380). -/
def Skerry.forceRefused (k : Skerry) (st : Nat) : Bool :=
  !k.on SK_GATE_FILT2_FORCE_ALLOW || !k.partOk || k.hiZ || k.fired || st = 0 || !(stateOk k.pow.ctype st)

/-- A write of SK_GATE_FORCE with EN 1: whether it was taken, and the Skerry after it. -/
def Skerry.force (k : Skerry) (v : Nat) : Bool × Skerry :=
  let st := v % 8
  if k.forceRefused st then (false, k)
  else (true, (((k.wr SK_GATE_FORCE_STATE st).wr SK_GATE_FORCE_EN 1).wr SK_GATE_FORCE_PEND 1).setGate { k.gate with force := some st })

/-- A write with EN 0: a step cell keeps the forced state, a weave cell resumes at the next boundary (R381). -/
def Skerry.release (k : Skerry) : Skerry :=
  let was := k.on SK_GATE_STAT_FORCED
  let k := k.dropForce
  if was ∧ k.mode = 1 then k.setGate { k.gate with resume := true } else k

/-- GATE_FORCE: a write of SK_GATE_FORCE with EN 1, from a port other than freight or through it (R379, R380). -/
def execGateForce (g : Nat) (v : Word) (s : State) : Host.Outcome State Fault Refusal :=
  .next (s.runCell g (fun k => (k.force v.toNat).2))

/-- FORCE_APPLY: the forced state becomes the target on its timer boundary (R379). -/
def execForceApply (g : Nat) (s : State) : Host.Outcome State Fault Refusal :=
  .next (s.runCell g (fun k =>
    match k.gate.force with
    | some st =>
      if k.hiZ ∨ k.fired then k
      else
        let k := (k.wr SK_GATE_FORCE_PEND 0).wr SK_GATE_STAT_FORCED 1
        (k.setGate { k.gate with force := none }).setTarget st
    | none => k))

/-- FORCE_RELEASE: a write of SK_GATE_FORCE with EN 0 (R381). -/
def execForceRelease (g : Nat) (s : State) : Host.Outcome State Fault Refusal := .next (s.runCell g Skerry.release)

/-- REFRESH_REQUEST: the refresh times are judged against REF_LIM (R383). -/
def execRefreshRequest (g : Nat) (s : State) : Host.Outcome State Fault Refusal := .next (s.runCell g Skerry.refreshShow)

/-! ### Fault inputs (R385 to R390) -/

/-- A fault input that acts: a used channel, and for DESAT a channel that is on outside its blanking window (R385,
R387). -/
def Skerry.inputActs (k : Skerry) (c : Nat) : Bool :=
  if c < 4 then usesChannel k.pow.ctype c && k.out c && decide (k.chAge c > k.rd SK_GATE_TIME1_BLANK)
  else if c = 4 ∨ c = 9 then true
  else if c ≤ 8 then usesChannel k.pow.ctype (c - 5)
  else false

/-- A GS_OK judged low shows in SK_PWR_STAT. -/
def Skerry.gsLow (k : Skerry) (ins : List Nat) : Skerry :=
  ins.foldl (fun k c => if 5 ≤ c ∧ c ≤ 8 then k.wr SK_PWR_STAT_GS_OK (k.rd SK_PWR_STAT_GS_OK &&& (15 ^^^ 2 ^ (c - 5))) else k) k

/-- FAULT_INPUT: inputs of cell `g` (numbered as SK_GATE_FLT.FIRST) judged asserted on this edge (R386, R388). In REPEAT
only FLT_OC and FLT_AUX are judged; they are kept for the entry into RUN (R390). -/
def execFaultInput (g : Nat) (ins : List Nat) (s : State) : Host.Outcome State Fault Refusal :=
  .next (s.onCell g (fun k =>
    if k.inRun then
      let k := k.gsLow ins
      if k.hiZ then k
      else
        let act := ins.filter (fun c => k.inputActs c)
        if act.isEmpty then k else (k.latchInputs act).rank1
    else if k.pow.state = .repeating then
      let act := ins.filter (fun c => c = 4 || c = 9)
      k.setPow { k.pow with inputs := k.pow.inputs ++ act }
    else k))

/-- The gate fault latches clear when no latched input is still asserted (R389); `still` lists the inputs that are. -/
def Skerry.clearGate (k : Skerry) (still : List Nat) : Skerry :=
  let held := k.latchedInputs
  if held.isEmpty then k
  else if held.any (fun c => still.contains c) then
    (k.wr SK_GATE_FLT_CLR_REFUSED 1).log 0x0031 [bitsOf (k.rdW A_SK_FLT_LATCH) 0 8, bitsOf (k.rdW A_SK_FLT_LATCH) 8 8]
  else
    let k := ((k.wr SK_GATE_FLT_DESAT 0).wr SK_GATE_FLT_OC 0).wr SK_GATE_FLT_GS 0
    let k := ((k.wr SK_GATE_FLT_AUX 0).wr SK_GATE_FLT_FIRST 15).wr SK_GATE_STAT_HIZ 0
    k.wr SK_GATE_STAT_TARGET ST_BLOCK

/-- Clear the bits of `mask` in SK_FLT_LATCH whose clearing condition holds; another sets CLR_REFUSED (R503). -/
def Skerry.clearLatches (k : Skerry) (mask : Nat) (still : List Nat) : Skerry :=
  let ok := fun (b : Nat) =>
    if b = 0 then !(k.latchedInputs.any (fun c => still.contains c))
    else if b = 1 then k.gsAll else decide (b ≠ 5)
  let l := k.rd SK_FLT_LATCH_LATCH
  let asked := (List.range 6).filter (fun b => bitOf l b && bitOf mask b)
  let gone := asked.filter ok
  let k := k.wr SK_FLT_LATCH_LATCH (gone.foldl (fun m b => m &&& (63 ^^^ 2 ^ b)) l)
  let k := if gone.length < asked.length then k.wr SK_FLT_LATCH_CLR_REFUSED 1 else k
  let k := if k.rd SK_FLT_LATCH_LATCH = 0 then k.wr SK_FLT_FIRST_BIT 15 else k
  k.heal

/-- FLT_CLR: SK_GATE_CTRL.FLT_CLR; `still` lists the inputs still asserted (R389). -/
def execFltClr (g : Nat) (still : List Nat) (s : State) : Host.Outcome State Fault Refusal :=
  .next (s.runCell g (fun k => k.clearGate still))

/-- ACTION 0x04 in one Skerry: the gate latches under R389, then every latch whose condition holds (R503). -/
def Skerry.clearFaults (k : Skerry) (still : List Nat) : Skerry :=
  (k.clearLatches 63 still).clearGate still

/-- CLEAR_LATCHED_FAULTS: ACTION 0x04 (R130, R389, R503). -/
def execClearLatchedFaults (g : Nat) (still : List Nat) (s : State) : Host.Outcome State Fault Refusal :=
  .next (s.runCell g (fun k => k.clearFaults still))

/-- SK_FLT_CLEAR: a write of 1s to SK_FLT_LATCH from the core pair, freight or the Skerry's monitor (R503, R508). -/
def Skerry.fltClear (k : Skerry) (v : Nat) (still : List Nat) : Skerry :=
  let k := if bitOf v 8 then k.wr SK_FLT_LATCH_CLR_REFUSED 0 else k
  k.clearLatches (v % 64) still

def execSkFltClear (g : Nat) (v : Word) (still : List Nat) (s : State) : Host.Outcome State Fault Refusal :=
  .next (s.runCell g (fun k => k.fltClear v.toNat still))

/-! ### Bypass switch and protection thyristor (R391 to R394) -/

/-- BYP_FB is asserted in time after a firing: HEALTH is bypassed, the time of firing is kept, the firing is logged (R392). -/
def Skerry.confirm (k : Skerry) : Skerry :=
  if k.fired ∧ !k.pow.closed ∧ !(bitOf (k.rd SK_FLT_LATCH_LATCH) 5) then
    let k := (k.setPow { k.pow with closed := true }).wr SK_GATE_FIRE_SEC k.pow.fireSec
    (k.log 0x0040 [k.pow.fireCause]).heal
  else k

/-- BYP_FIRE is driven for a cause and FIRED set; a BYP_FB asserted already confirms at once (R391 to R393). -/
def Skerry.fire (k : Skerry) (cause : Nat) : Skerry :=
  let p := { k.pow with byp := true }
  let k := (k.setPow (if k.fired then p else { p with fireCause := cause, fireSec := ctSec k.ct })).wr SK_GATE_STAT_FIRED 1
  if k.on SK_GATE_STAT_BYP_FB then k.confirm else k

/-- OVER_VOLTAGE: VCAP above V_OV in any state but DARK (R350, R391). -/
def execOverVoltage (g : Nat) (s : State) : Host.Outcome State Fault Refusal :=
  .next (s.onCell g (fun k =>
    if k.pow.state = .dark then k
    else
      let k := if k.inRun ∧ !k.fired then k.rank2 else k
      (k.setPow { k.pow with thy := true }).fire 1))

/-- ACTION 0x01 in one Skerry (R393). -/
def Skerry.retire (k : Skerry) : Skerry := k.fire 2

/-- RETIRE: ACTION 0x01 drives BYP_FIRE and sets FIRED (R130, R393). -/
def execRetire (g : Nat) (s : State) : Host.Outcome State Fault Refusal := .next (s.runCell g Skerry.retire)

def Skerry.trigThy (k : Skerry) : Skerry := k.setPow { k.pow with thy := true }

/-- THYRISTOR_TRIGGER: ACTION 0x02 drives THY_TRIG (R393). -/
def execThyristorTrigger (g : Nat) (s : State) : Host.Outcome State Fault Refusal := .next (s.runCell g Skerry.trigThy)

/-- FIRE_PULSE_END: the 10 ms of BYP_FIRE, or of THY_TRIG, end (R391, R393). -/
def execFirePulseEnd (g : Nat) (thy : Bool) (s : State) : Host.Outcome State Fault Refusal :=
  .next (s.onCell g (fun k => k.setPow (if thy then { k.pow with thy := false } else { k.pow with byp := false })))

/-- BYPASS_CONFIRM: BYP_FB asserted; in time after a firing, HEALTH is bypassed and the firing is logged (R392). -/
def execBypassConfirm (g : Nat) (s : State) : Host.Outcome State Fault Refusal :=
  .next (s.onCell g (fun k =>
    if k.pow.state = .dark then k
    else (k.wr SK_GATE_STAT_BYP_FB 1).confirm))

/-- BYPASS_CONFIRM_TIMEOUT: no BYP_FB within 20 ms of firing: HEALTH failed, FIRE_UNCONF, a log entry (R392, R503). -/
def execBypassConfirmTimeout (g : Nat) (s : State) : Host.Outcome State Fault Refusal :=
  .next (s.onCell g (fun k =>
    if k.fired ∧ !k.pow.closed ∧ k.pow.state ≠ .dark then (k.latch 5).log 0x0041 [k.pow.fireCause] else k))

/-! ### Mode orders (R130, R378) -/

/-- A mode order: 0 step, 1 weave; refused in a clamp-double cell (R130). -/
def Skerry.modeOrder (k : Skerry) (m : Nat) : Skerry :=
  if k.pow.ctype = 3 then k.inc SK_CMD_ACTION_REJ
  else if m = k.mode then (k.setGate { k.gate with mode := none }).wr SK_GATE_STAT_MODE_PEND 0
  else (k.setGate { k.gate with mode := some m }).wr SK_GATE_STAT_MODE_PEND 1

/-- STEP_MODE: ACTION 0x05. -/
def execStepMode (g : Nat) (s : State) : Host.Outcome State Fault Refusal := .next (s.runCell g (fun k => k.modeOrder 0))

/-- WEAVE_MODE: ACTION 0x06. -/
def execWeaveMode (g : Nat) (s : State) : Host.Outcome State Fault Refusal := .next (s.runCell g (fun k => k.modeOrder 1))

/-- MANAGED_DISCHARGE_START: ACTION 0x03 (R130, R357). -/
def execManagedDischargeStart (g : Nat) (s : State) : Host.Outcome State Fault Refusal :=
  .next (s.runCell g Skerry.startDischarge)

end Sys2Proof.Machine
end

