-- ==== Sys2Proof/Machine/SkPower.lean ====
section
/-! DEFINITION. The Skerry's power states, auxiliary supply, managed discharge, parking, core pair and resets (R343 to
R362, R646, R647, R666 to R668). -/

namespace Sys2Proof.Machine
open Sys2Proof

/-! ### Starting and stopping the domains -/

/-- The registers that keep their words through W and X (R668). -/
def keptRegs : List Nat :=
  [A_SK_PWR_EVT, A_SK_PWR_HOLD_CNT, A_SK_PWR_RETRY_CNT, A_SK_PWR_HOLD_SEC, A_SK_PWR_DIS_TIME, A_SK_GATE_FIRE_SEC,
   A_SK_GATE_SW_CNT, A_SK_LOG_WIDX, A_SK_LOG_CNT]

/-- Every register at its reset value, but for the table of R668 and the strap-sourced fields (R666). -/
def Skerry.resetRegs (k : Skerry) : Skerry :=
  let r : Skerry := { k with regs := [] }
  let r := keptRegs.foldl (fun r a => r.wrW a (k.rdW a)) r
  let r := (r.wr SK_GATE_STAT_FIRED (k.rd SK_GATE_STAT_FIRED)).wr SK_FLT_LATCH_LATCH (k.rd SK_FLT_LATCH_LATCH &&& 32)
  let r := (r.wr SK_PWR_STAT_AUX (k.rd SK_PWR_STAT_AUX)).wr SK_PWR_STAT_PREV (k.rd SK_PWR_STAT_PREV)
  let r := (r.wr SK_TOP_STAT_CTYPE k.pow.ctype).wr SK_TOP_STAT_VFS k.pow.vfs
  r.wr SK_GATE_OV k.vfsV

/-- The fast domain starts: SRAM cleared, part, image and place unknown, COUNT 0, CT from the fallback pair, discipline
FREE, both ports in SEEK, SILENT at 32 (R266, R345, R350, R470). -/
def Skerry.startFast (k : Skerry) : Skerry :=
  let k := k.resetRegs
  let c := k.clk
  let k := { k with
    mem := k.mem.filter (fun e => decide (0x10000000 ≤ e.1)),
    cmd := SkCmd.zero, gate := SkGate.zero, fr := SkFreight.zero, trigs := [], ports := [], pass := [],
    conv := (Conv.zero.put 0 { ConvSt.zero with cfg := 1 }).unsettle [0, 1, 2],
    clk := { c with count := 0, cbase := 0, base := c.fb * nsU, slew := 0, left := 0, accepted := false, latches := [] } }
  let k := (k.wr (SK_LINK_STAT_STATE 0) 1).wr (SK_LINK_STAT_STATE 1) 1
  (k.setPow { k.pow with state := .run }).heal

/-- What an entry into RUN shows and logs. -/
def Skerry.runShown (k : Skerry) (cause prev : Nat) : Skerry :=
  let k := (k.wr SK_PWR_STAT_WAKE_CAUSE cause).wr SK_PWR_STAT_PREV prev
  (k.wr SK_PWR_RUN_SEC (ctSec k.ct)).log 0x0002 [cause]

/-- Latch the inputs that were judged in REPEAT and start a waiting discharge (R357, R390). -/
def Skerry.runPending (k : Skerry) : Skerry :=
  let ins := k.pow.inputs
  let go := k.pow.disNext
  let k := k.setPow { k.pow with inputs := [], disNext := false }
  let k := if ins.isEmpty then k else (k.latchInputs ins).rank1
  if go then k.startDischarge else k

/-- Enter DEEP HOLD by a row of R348 (R350). -/
def Skerry.enterHold (k : Skerry) (row : Nat) : Skerry :=
  let k := if k.discharging then k.endDischarge else k
  let k := ((k.wr SK_PWR_EVT_HELD 1).inc SK_PWR_HOLD_CNT).wr SK_PWR_HOLD_SEC (ctSec k.ct)
  let k := k.log 0x0003 [row]
  let lock := k.rd SK_PWR_STAT_AUX = 4
  let k := (k.dropForce).allOff
  let k := ((k.wr SK_GATE_STAT_HIZ 0).wr SK_GATE_STAT_TARGET ST_BLOCK).wr SK_PWR_STAT_AUX 0
  let k := (k.wr (SK_LINK_STAT_STATE 0) 0).wr (SK_LINK_STAT_STATE 1) 0
  let k := ((k.wr SK_TOP_STAT_LOCK_H 0).wr SK_TOP_STAT_LOCK_T 0).wr SK_TOP_STAT_PART 0
  let p := k.pow
  { k with
    pow := { p with state := .deepHold, lockout := lock, fell := false, inputs := [], disNext := false },
    mem := k.mem.filter (fun e => decide (0x10000000 ≤ e.1)),
    cmd := SkCmd.zero, gate := SkGate.zero, fr := SkFreight.zero, conv := Conv.zero, trigs := [], ports := [], pass := [],
    clk := { k.clk with fbAcc := 0, fbTick := 0 } }

/-- Enter START with the flyback in SOFT (R348, R353). -/
def Skerry.enterStart (k : Skerry) (cause : Nat) (dark : Bool) : Skerry :=
  let k := k.setPow { k.pow with state := .start, wake := cause, fromDark := dark }
  { (k.wr SK_PWR_STAT_AUX 1) with clk := { k.clk with fbAcc := 0 } }

/-- Enter REPEAT (R348 row 7, R349): CT goes to the fallback pair. -/
def Skerry.enterRepeat (k : Skerry) (silence : Bool) : Skerry :=
  let k := (k.log 0x0004 [b2n (!silence)]).wr SK_PWR_EVT_PARKED 1
  let k := (k.dropForce).allOff
  let k := ((k.wr SK_TIME_STAT_PATH 1).wr SK_TIME_STAT_FALLBACK_EV 1).wr SK_PWR_STAT_PARK_PEND 0
  k.setPow { k.pow with state := .repeating, bySilence := silence, inputs := [] }

/-- Return from REPEAT to RUN (R348 row 6, R349, R174): no register resets but those of a fast-domain start. -/
def Skerry.wakeRun (k : Skerry) (cause : Nat) : Skerry :=
  let c := k.clk
  let k := { k with
    conv := k.conv.unsettle [0, 1, 2],
    clk := { c with count := 0, cbase := 0, base := c.fb * nsU, slew := 0, left := 0 } }
  let k := k.setPow { k.pow with state := .run }
  let k := k.wr SK_TIME_STAT_PATH 0
  let k := if k.rd SK_TIME_STAT_STATE = 0 then k else k.wr SK_TIME_STAT_STATE 3
  let k := k.setGate { k.gate with chAt := [], refFrom := [] }
  let k := ((k.freeSlot 0).freeSlot 1).cancelAfter
  let k := ((k.wr SK_CMD_SILENT 32).wrW A_SK_CMD_DONE 0).wrW A_SK_CMD_EARLY 0
  let k := k.setCmd { k.cmd with blocked := true, blockAt := k.ct + 1 }
  let k := k.wr SK_GATE_STAT_HIZ (b2n (!k.latchedInputs.isEmpty))
  (k.runShown cause 2).runPending

/-! ### Power rows (R348) -/

/-- VRET_LOSS: VRET below 1.8 V for 10 µs: DARK, and nothing is kept (row 1). -/
def execVretLoss (g : Nat) (s : State) : Host.Outcome State Fault Refusal := .next (s.setCell g Skerry.dark)

/-- CAP_UNDERVOLTAGE: VCAP below V_STOP, or LOCKOUT, takes START, RUN or REPEAT to DEEP HOLD (row 2). In DEEP HOLD after
a LOCKOUT it notes that VCAP has fallen (R351). -/
def execCapUndervoltage (g : Nat) (s : State) : Host.Outcome State Fault Refusal :=
  .next (s.onCell g (fun k =>
    match k.pow.state with
    | .dark => k
    | .deepHold => k.setPow { k.pow with fell := true }
    | _ => k.enterHold 2))

/-- VRET_POWER_UP: VRET at 2.7 V for 1 ms: the Skerry of cell `g` leaves DARK with its straps sampled, into START when
VCAP is at or above V_START, else into DEEP HOLD (row 3). -/
def execVretPowerUp (g ctype vfs : Nat) (charged : Bool) (s : State) : Host.Outcome State Fault Refusal :=
  .next (s.onCell g (fun k =>
    if k.pow.state = .dark then
      let k := Skerry.dark
      let k := k.setPow { k.pow with state := .deepHold, ctype := ctype % 8, vfs := vfs % 4 }
      let k := k.log 0x0001 []
      if charged then k.enterStart 0 true
      else
        let k := k.enterHold 3
        k.setPow { k.pow with fromDark := true }
    else k))

/-- DEEP_HOLD_WAKE: wake source `src` of R351, with VCAP at or above V_START. After a LOCKOUT only sources 2 and 3, and
source 2 only once VCAP has fallen. -/
def execDeepHoldWake (g src : Nat) (s : State) : Host.Outcome State Fault Refusal :=
  .next (s.onCell g (fun k =>
    if k.pow.state = .deepHold ∧ 1 ≤ src ∧ src ≤ 4 ∧ (!k.pow.lockout ∨ (src = 2 ∧ k.pow.fell) ∨ src = 3) then
      let k := k.setPow { k.pow with disNext := decide (src = 4) }
      k.enterStart src false
    else k))

/-- RUN_ENTRY: AUX in REG and the rails good for 1 ms: START to RUN (row 5); `gs` are the GS_OK levels and `fb` BYP_FB
at the entry, which sets FIRED (R394). -/
def execRunEntry (g gs : Nat) (fb : Bool) (s : State) : Host.Outcome State Fault Refusal :=
  .next (s.onCell g (fun k =>
    if k.pow.state = .start then
      let dark := k.pow.fromDark
      let cause := if dark then 0 else k.pow.wake
      let k := k.startFast
      let k := ((k.wr SK_PWR_STAT_AUX 2).wr SK_PWR_STAT_GS_OK gs).runShown cause (if dark then 0 else 1)
      let k := if fb then
          let k := (k.wr SK_GATE_STAT_BYP_FB 1).wr SK_GATE_STAT_FIRED 1
          if k.pow.closed then k
          else
            let k := k.setPow { k.pow with closed := true, fireCause := if k.pow.fireCause = 0 then 3 else k.pow.fireCause }
            (k.log 0x0040 [3]).heal
        else k
      (k.setPow { k.pow with fromDark := false }).runPending
    else k))

/-- REPEAT_WAKE: from REPEAT to RUN (row 6) by cause 5 wake order, 6 valid ferry after a park on silence, 7 fault input,
8 DISCH_AFTER. -/
def execRepeatWake (g cause : Nat) (s : State) : Host.Outcome State Fault Refusal :=
  .next (s.onCell g (fun k =>
    if k.pow.state = .repeating ∧ (cause = 5 ∨ (cause = 6 ∧ k.pow.bySilence) ∨ (cause = 7 ∧ !k.pow.inputs.isEmpty) ∨ cause = 8)
    then (k.setPow { k.pow with disNext := k.pow.disNext || decide (cause = 8) }).wakeRun cause
    else k))

def Skerry.locked (k : Skerry) (p : Nat) : Bool := k.rd (SK_LINK_STAT_STATE p) = 3

/-- PARK_ENTRY: PARK_AFTER of silence with a port in LOCKED parks a cell whose gates are off (row 7). -/
def execParkEntry (g : Nat) (s : State) : Host.Outcome State Fault Refusal :=
  .next (s.runCell g (fun k =>
    if k.gatesOff ∧ !k.discharging ∧ k.on SK_PWR_TIMES_PARK_AFTER ∧ (k.locked 0 ∨ k.locked 1) then k.enterRepeat true else k))

/-- DARK_HOLD_EXPIRY: DARK_HOLD of silence with neither port in LOCKED (row 8). -/
def execDarkHoldExpiry (g : Nat) (s : State) : Host.Outcome State Fault Refusal :=
  .next (s.onCell g (fun k =>
    if (k.inRun ∨ k.pow.state = .repeating) ∧ k.gatesOff ∧ !k.discharging ∧ k.on SK_PWR_TIMES_DARK_HOLD
      ∧ !k.locked 0 ∧ !k.locked 1 then k.enterHold 8 else k))

/-! ### Auxiliary supply (R353, R354) -/

def Skerry.aux (k : Skerry) : Nat := k.rd SK_PWR_STAT_AUX

/-- SOFT_START_END: SS_MS ends without a fault: SOFT to REG. -/
def execSoftStartEnd (g : Nat) (s : State) : Host.Outcome State Fault Refusal :=
  .next (s.onCell g (fun k => if k.aux = 1 then k.wr SK_PWR_STAT_AUX 2 else k))

/-- FLYBACK_FAULT: fault `kind` (0 over-voltage, 1 under the window, 2 current limit, 3 rails not good in time) in SOFT or
REG: RETRY, or LOCKOUT at the fourth within 10 s. -/
def execFlybackFault (g kind : Nat) (s : State) : Host.Outcome State Fault Refusal :=
  .next (s.onCell g (fun k =>
    if k.aux = 1 ∨ k.aux = 2 then
      let k := if kind < 3 then k.wrW A_SK_PWR_EVT (bitsPut (k.rdW A_SK_PWR_EVT) kind 1 1) else k
      let t := k.clk.fb
      let fs := (k.pow.faults.filter (fun x => t < x + 10000000000)) ++ [t]
      let k := (k.setPow { k.pow with faults := fs }).inc SK_PWR_RETRY_CNT
      if fs.length ≥ 4 then (k.wr SK_PWR_STAT_AUX 4).wr SK_PWR_EVT_LOCKOUT 1 else k.wr SK_PWR_STAT_AUX 3
    else k))

/-- RETRY_END: the 100 ms of RETRY pass and the flyback soft-starts again. -/
def execRetryEnd (g : Nat) (s : State) : Host.Outcome State Fault Refusal :=
  .next (s.onCell g (fun k => if k.aux = 3 then k.wr SK_PWR_STAT_AUX 1 else k))

/-- GATE_SUPPLY_TIMEOUT: GS_OK of used channel `j` low for 1 ms, or not risen within 20 ms of RUN: HEALTH failed, the
GS_FAIL latch and a log entry (R354). -/
def execGateSupplyTimeout (g j : Nat) (s : State) : Host.Outcome State Fault Refusal :=
  .next (s.runCell g (fun k =>
    if usesChannel k.pow.ctype j then
      let k := (k.gsLow [5 + j]).wr SK_PWR_EVT_GS_FAIL 1
      (k.latch 1).log 0x0030 [5 + j, k.applied]
    else k))

/-! ### Managed discharge (R357, R358) -/

/-- DISCH_AFTER_EXPIRY: the timer starts a discharge in RUN, or wakes the cell for it; DEEP HOLD wakes only with VCAP at
or above V_START (`charged`). -/
def execDischAfterExpiry (g : Nat) (charged : Bool) (s : State) : Host.Outcome State Fault Refusal :=
  .next (s.onCell g (fun k =>
    match k.pow.state with
    | .run => k.startDischarge
    | .repeating => (k.setPow { k.pow with disNext := true }).wakeRun 8
    | .deepHold => if charged ∧ !k.pow.lockout then (k.setPow { k.pow with disNext := true }).enterStart 4 false else k
    | _ => k))

/-- DISCHARGE_PAUSE: TEMP at T_DIS_MAX. -/
def execDischargePause (g : Nat) (s : State) : Host.Outcome State Fault Refusal :=
  .next (s.onCell g (fun k => if k.discharging then k.wr SK_PWR_STAT_DIS_PAUSED 1 else k))

/-- DISCHARGE_RESUME: TEMP at T_DIS_MAX − 10 °C. -/
def execDischargeResume (g : Nat) (s : State) : Host.Outcome State Fault Refusal :=
  .next (s.onCell g (fun k => if k.discharging then k.wr SK_PWR_STAT_DIS_PAUSED 0 else k))

/-- DISCHARGE_DONE: VCAP at or below V_DIS_END: DIS_DONE, a log entry, DEEP HOLD by row 9. -/
def execDischargeDone (g : Nat) (s : State) : Host.Outcome State Fault Refusal :=
  .next (s.onCell g (fun k =>
    if k.discharging then
      let k := k.endDischarge.wr SK_PWR_EVT_DIS_DONE 1
      let d := k.rd SK_PWR_DIS_TIME
      (k.log 0x0051 [d % 256, d / 256]).enterHold 9
    else k))

/-- DIS_TIMEOUT: the discharge ends with its latch; the Skerry stays in RUN. -/
def execDisTimeout (g : Nat) (s : State) : Host.Outcome State Fault Refusal :=
  .next (s.onCell g (fun k =>
    if k.discharging then
      let v := k.vcapV
      let k := (k.endDischarge.wr SK_PWR_EVT_DIS_TIMEOUT 1).latch 2
      k.log 0x0052 [v % 256, v / 256]
    else k))

/-- A write of SK_PWR_CTRL.DIS_STOP (R358). -/
def Skerry.disStop (k : Skerry) : Skerry := if k.discharging then k.endDischarge else k

/-- DIS_STOP. -/
def execDisStop (g : Nat) (s : State) : Host.Outcome State Fault Refusal := .next (s.runCell g Skerry.disStop)

/-! ### Parking on order (R360) -/

/-- A write of SK_PWR_CTRL.PARK whose reply carries `tag`: PARK_PEND, or ignored. -/
def Skerry.park (k : Skerry) (tag : Nat) : Skerry :=
  if k.gatesOff ∧ !k.discharging then
    (k.wr SK_PWR_STAT_PARK_PEND 1).setPow { k.pow with parkTag := tag, parkCollected := false }
  else k

/-- PARK: the freight write of PARK, under `tag`. -/
def execPark (g tag : Nat) (s : State) : Host.Outcome State Fault Refusal := .next (s.runCell g (fun k => k.park tag))

/-- PARK_EFFECT: the ferry-cycle start on which PARK takes effect, once its reply has been collected or 16 ferry cycles
have passed (`late`); dropped when the gates are on or a discharge runs. -/
def execParkEffect (g : Nat) (late : Bool) (s : State) : Host.Outcome State Fault Refusal :=
  .next (s.runCell g (fun k =>
    if k.on SK_PWR_STAT_PARK_PEND ∧ (k.pow.parkCollected ∨ late) then
      let k := k.wr SK_PWR_STAT_PARK_PEND 0
      if k.gatesOff ∧ !k.discharging then k.enterRepeat false else k
    else k))

/-! ### Core pair and remote reset (R361, R362, R470, R647) -/

/-- CORE_RESTART: a mismatch (`sram` false) or an uncorrected SRAM error halts the core pair; it restarts from ROM, or
stays halted at the third within 10 s. Pending replies are lost. -/
def execCoreRestart (g : Nat) (sram : Bool) (s : State) : Host.Outcome State Fault Refusal :=
  .next (s.runCell g (fun k =>
    if !k.fr.coreUp then k
    else
      let t := k.ct / nsU
      let rs := k.fr.restarts.filter (fun x => t < x + 10000000000) ++ [t]
      let k := k.latch (if sram then 4 else 3)
      let k := (k.log 0x0060 [if sram then 2 else 1, rs.length]).inc SK_TOP_CORE_CNT
      let k := k.setFr { k.fr with reply := none, restarts := rs, running := [] }
      let k := k.wr SK_TOP_IMG_VER 0
      if rs.length ≥ 3 then
        ((k.setFr { k.fr with coreUp := false }).wr SK_TOP_STAT_CORE 2).heal.log 0x0061 []
      else
        let k := k.wr SK_TOP_STAT_CORE 0
        if k.rd SK_TOP_IMG_STATE = 3 then k.wr SK_TOP_IMG_STATE 2 else k))

/-- SRAM_CLEAR_DONE: the clearing of SRAM has ended and the core pair starts from ROM (R470). -/
def execSramClearDone (g : Nat) (s : State) : Host.Outcome State Fault Refusal :=
  .next (s.runCell g (fun k =>
    if k.rd SK_TOP_STAT_CORE = 2 then k else (k.setFr { k.fr with coreUp := true }).wr SK_TOP_STAT_CORE 0))

/-- A RESET freight at a cell in RUN: ignored and logged unless its gates are off (R647). -/
def Skerry.remoteReset (k : Skerry) : Skerry :=
  if k.gatesOff then
    let prev := k.rd SK_PWR_STAT_PREV
    let k := if k.discharging then k.endDischarge else k
    k.startFast.runShown 9 prev
  else k.log 0x0080 [k.applied]

/-- FREIGHT_RESET: a RESET freight naming the cell with its key (R135, R647). -/
def execFreightReset (g addr : Nat) (s : State) : Host.Outcome State Fault Refusal :=
  .next (s.runCell g (fun k => if addr = 0x80000000 + g then k.remoteReset else k))

end Sys2Proof.Machine
end

