-- ==== Sys2Proof/Machine/SkTime.lean ====
section
/-! DEFINITION. The Skerry's converter time: steps, slews, the discipline of R191, re-acquisition (R166 to R192). -/

namespace Sys2Proof.Machine
open Sys2Proof

/-- The states of the discipline (R177). -/
def TS_FREE : Nat := 0
def TS_ACQUIRE : Nat := 1
def TS_LOCKED : Nat := 2
def TS_HOLDOVER : Nat := 3
def TS_REFUSED : Nat := 4

/-- The Skerry's slew limit, 250 ppm, and 500 ppm, in units of 2^-40 (R169, R179). -/
def slew250 : Int := 274877906
def rate500 : Int := 549755813

/-- 1/16 word clock (0.1 ns) counts to units of 2^-18 ns. -/
def sixteenths (n : Int) : Int := n * (wcU5 : Int) / 80

/-- Units of 2^-18 ns to 1/16 word clock, and to 1/16 ns. -/
def toSixteenth (t : Int) : Int := t * 80 / (wcU5 : Int)
def to16thNs (t : Int) : Int := t * 16 / (nsU : Int)
def toNs (t : Int) : Int := t / (nsU : Int)

def Skerry.clkTo (k : Skerry) (c : Clk) : Skerry := { k with clk := c }

/-- Step CT by `e` (R181, R196): sub-windows in progress are marked SETTLE. -/
def Skerry.step (k : Skerry) (e : Int) : Skerry :=
  let c := k.clk.reload k.rate
  let k := k.clkTo { c with base := ((c.base : Int) + e).toNat, slew := 0, left := 0 }
  let k := { k with conv := k.conv.stepped [0, 1, 2] }
  (k.wr SK_TIME_STAT_STEPPED 1).wr SK_TIME_STAT_SLEWING 0

/-- Begin a slew of `e` in place of the present one (R179). -/
def Skerry.slewBy (k : Skerry) (e : Int) : Skerry :=
  let c := k.clk.reload k.rate
  let v : Int := if e > 0 then slew250 else if e < 0 then -slew250 else 0
  (k.clkTo { c with slew := v, left := e }).wr SK_TIME_STAT_SLEWING (b2n (e ≠ 0))

/-- Change RATE with BASE reloaded (R168). -/
def Skerry.setRate (k : Skerry) (r : Int) : Skerry :=
  let c := k.clk.reload k.rate
  (k.clkTo c).wrS SK_TIME_RATE (max (-rate500) (min rate500 r))

/-- A correction ends: SLEW 0 from this edge, and what was left of it is applied (R179). -/
def Skerry.slewEnd (k : Skerry) : Skerry :=
  let c := k.clk.reload k.rate
  (k.clkTo { c with base := ((c.base : Int) + c.left).toNat, slew := 0, left := 0 }).wr SK_TIME_STAT_SLEWING 0

/-- Refuse a sample (R180). -/
def Skerry.refuse (k : Skerry) (e : Int) : Skerry :=
  let c := k.clk.reload k.rate
  let k := k.clkTo { c with slew := 0, left := 0 }
  let k := ((k.wr SK_TIME_STAT_STATE TS_REFUSED).wr SK_TIME_STAT_REFUSED_EV 1).wr SK_TIME_STAT_SLEWING 0
  let k := (k.wrS SK_TIME_JUMP_NS (toNs e)).inc SK_TIME_JUMP_CNT
  k.setCmd { k.cmd with refused := e, errs := (e :: k.cmd.errs).take 64 }

/-- The loop of R191 on one sample. The first one always steps (R178, and the sentence after the loop of R191). -/
def Skerry.sample (k : Skerry) (e : Int) : Skerry :=
  let st := k.rd SK_TIME_STAT_STATE
  let jump : Int := ((k.rd SK_TIME_THRESH * nsU : Nat) : Int)
  let big := decide (e > jump ∨ e < -jump)
  let k := k.wrS SK_TIME_ERR (to16thNs e)
  if (st = TS_LOCKED ∨ st = TS_HOLDOVER ∨ st = TS_REFUSED) ∧ big then k.refuse e
  else
    let k := k.setCmd { k.cmd with errs := [] }
    if st = TS_FREE ∨ (st = TS_ACQUIRE ∧ (big ∨ k.cmd.dlyNew)) then
      let k := (k.step e).wr SK_TIME_STAT_STATE TS_ACQUIRE
      (k.wr SK_TIME_LOCKCNT 0).setCmd { k.cmd with dlyNew := false }
    else
      let k := k.setRate (k.rate + e * 65536 / 2000)
      let k := k.slewBy (e / 4)
      let near := decide (2 * e ≤ nsU ∧ -(nsU : Int) ≤ 2 * e)
      let n := if near then min (k.rd SK_TIME_LOCKCNT + 1) 127 else 0
      let k := k.wr SK_TIME_LOCKCNT n
      let k := if st = TS_ACQUIRE ∧ n = 64 ∧ k.on SK_TOP_STAT_DLY_OK then k.wr SK_TIME_STAT_STATE TS_LOCKED else k
      if st = TS_HOLDOVER ∨ st = TS_REFUSED then k.wr SK_TIME_STAT_STATE TS_LOCKED else k

/-- The cell may take stages and apply commits: part applied, discipline LOCKED or HOLDOVER (R79, R185). -/
def Skerry.timeOk (k : Skerry) : Bool := k.rd SK_TIME_STAT_STATE = TS_LOCKED || k.rd SK_TIME_STAT_STATE = TS_HOLDOVER

/-- Every two of these errors lie within 100 ns of one another. -/
def within100 (es : List Int) : Bool :=
  let hi := es.foldl max (es.headD 0)
  let lo := es.foldl min (es.headD 0)
  decide (hi - lo ≤ 100 * (nsU : Int))

/-- SKERRY_REACQUIRE: a refused Skerry in block for 64 ferry cycles, its errors over them within 100 ns, steps by the
last error and enters ACQUIRE (R184). -/
def execSkerryReacquire (g : Nat) (s : State) : Host.Outcome State Fault Refusal :=
  .next (s.runCell g (fun k =>
    if k.rd SK_TIME_STAT_STATE = TS_REFUSED ∧ k.cmd.inBlock ≥ 64 ∧ !k.cmd.errs.isEmpty ∧ within100 k.cmd.errs then
      let e := k.cmd.refused
      let k := (k.step e).wr SK_TIME_STAT_STATE TS_ACQUIRE
      let k := (k.wr SK_TIME_STAT_RESTEP_EV 1).wr SK_TIME_LOCKCNT 0
      let k := k.setCmd { k.cmd with errs := [] }
      let v := unsigned 32 (satInt 32 (toNs e))
      k.log 0x0022 [v % 256, v / 256 % 256, v / 65536 % 256, v / 16777216]
    else k))

end Sys2Proof.Machine
end

