-- ==== Sys2Proof/Machine/Conv.lean ====
section
/-! DEFINITION. The sounding converters of the Balgal and of the Skerry: results, streams, set-up writes, triggers, the
mains window and its tracker (R398 to R425). -/

namespace Sys2Proof.Machine
open Sys2Proof

/-! ### Balgal: registers and values -/

def State.conv1 (s : State) (n : Nat) : ConvSt := s.conv.get n
def State.setConv (s : State) (c : Conv) : State := { s with conv := c }

/-- The written set-up of converter n, without PEND. -/
def State.convWant (s : State) (n : Nat) : Nat := (s.rdW (A_CONV_CFG n)).toNat % 0x1000000

/-- Show INPUT, SCANNING, TPEND and PEND of converter n. -/
def State.convShow (s : State) (n : Nat) : State :=
  let q := s.conv1 n
  let s := (s.wr (CONV_STAT_INPUT n) q.sel).wr (CONV_STAT_SCANNING n) (b2n q.scanning)
  (s.wr (CONV_STAT_TPEND n) (b2n q.tpend)).wr (CONV_CFG_PEND n) (b2n (decide (q.cfg ≠ s.convWant n)))

/-- VALUE of a code of input m of converter n (R416). -/
def State.convValue (s : State) (n m : Nat) (code : Int) : Int :=
  satInt 32 (s.rdS (CONV_OFFSET n m) + satInt 32 (rnd (s.rdS (CONV_SCALE n m) * code) fsCode))

/-- The engineering value of the last result of kind k (R275). -/
def State.resValue (s : State) (n k m : Nat) : Int := s.convValue n m (s.rdS (CONV_RES_CODE n k m))

/-- The last result of kind k is neither SETTLE nor OVR (R276). -/
def State.resOk (s : State) (n k m : Nat) : Bool := !s.on (CONV_RES_SETTLE n k m) && !s.on (CONV_RES_OVR n k m)

/-- A converter switched off reads CODE 0 with SETTLE 1 (R423). -/
def State.convOff (s : State) (n : Nat) : State :=
  [0, 1, 2, 3].foldl (fun s k => [0, 1, 2, 3].foldl (fun s m =>
    (s.wrW (A_CONV_RES n k m) 0x01000000).wrW (A_CONV_VAL n m) 0) s) s

/-- The sub-window boundary of the present CT (R36). -/
def State.subNow (s : State) : Nat := s.ct / (80 * nsU) * (80 * nsU)

/-! ### Streams (R418, R419) -/

def State.convQueue (s : State) (n : Nat) (q : List (List Byte)) : State :=
  s.setConv (s.conv.put n { s.conv1 n with queue := q })

/-- The stream record of a result whose first window began at `t`. -/
def State.streamRec (s : State) (r : Res) (t : Nat) : List Byte :=
  let d := s.rd (CONV_STAT_D r.n)
  leBytes 4 (ctSec t % 4 * 2 ^ 30 + ctNs t) ++
  [BitVec.ofNat 8 r.n, BitVec.ofNat 8 (r.m + 4 * r.kind + 16 * d),
   BitVec.ofNat 8 (b2n r.settle + 2 * b2n r.ovr + 4 * b2n r.full), 0] ++
  leBytes 4 (unsigned 32 r.code) ++ leBytes 4 (unsigned 32 (s.convValue r.n r.m r.code))

/-- A record enters the queue of converter n: decimation rises from 24 records on; a full queue drops it. -/
def State.streamPut (s : State) (n : Nat) (rec : List Byte) : State :=
  let q := (s.conv1 n).queue
  if q.length ≥ 32 then s.inc (CONV_STREAM_LOST n)
  else
    let s := s.convQueue n (q ++ [rec])
    if q.length + 1 ≥ 24 ∧ s.rd (CONV_STAT_D n) < 8 then
      ((s.wr (CONV_STAT_D n) (s.rd (CONV_STAT_D n) + 1)).wr (CONV_STAT_RATE_EV n) 1).raise 0x183 0
    else s

/-- A result goes to its converter's stream, combined with 2^D − 1 others (R419). -/
def State.stream (s : State) (f : Int) (r : Res) : State :=
  if !s.on (CONV_STREAM_CTRL_EN r.n) ∨ s.rd (CONV_STREAM_CTRL_KIND r.n) ≠ r.kind then s
  else
    let t0 := s.subNow - (r.len * wcU5 + 4) / 5
    let d := s.rd (CONV_STAT_D r.n)
    let q := s.conv1 r.n
    let c := tget (fun _ => (⟨0, 0, .zero⟩ : Comb)) q.comb r.m
    let start := if c.n = 0 then t0 else c.start
    let w : Win := { c.win.add r.win.q r.win.dur r.win.ovr with chg := c.win.chg || r.win.chg }
    let fin := decide (c.n + 1 ≥ 2 ^ d)
    let nc : Comb := if fin then ⟨0, 0, .zero⟩ else ⟨c.n + 1, start, w⟩
    let s := s.setConv (s.conv.put r.n { q with comb := tset (fun _ => (⟨0, 0, .zero⟩ : Comb)) q.comb r.m nc })
    if fin then
      let r' := if d = 0 then r else winRes false f r.n r.kind r.m r.len w
      s.streamPut r.n (s.streamRec r' start)
    else s

/-- The key of an input's last result. -/
def resKey (n k m : Nat) : Nat := 64 * k + 4 * n + m

/-- The window of a result and its midpoint at the balls, 8 word clocks early, in 0.1 ns (R402, R439). -/
def State.noteRes (s : State) (r : Res) : State :=
  let mid : Int := (s.subNow / nsU * 10 : Nat) - (8 * r.len : Nat) - 128
  s.setConv { s.conv with
    last := tset (fun _ => (Win.zero, (0 : Int))) s.conv.last (resKey r.n r.kind r.m) (r.win, mid) }

/-- A result enters its registers, sets OVR_EV, and goes to the stream. -/
def State.putRes (s : State) (f : Nat → Int) (r : Res) : State :=
  let s := s.noteRes r
  let s := (s.wr (CONV_RES_CODE r.n r.kind r.m) (unsigned 24 r.code)).wr (CONV_RES_SETTLE r.n r.kind r.m) (b2n r.settle)
  let s := (s.wr (CONV_RES_OVR r.n r.kind r.m) (b2n r.ovr)).wr (CONV_RES_FULL r.n r.kind r.m) (b2n r.full)
  let s := s.incW (CONV_RES_SEQ r.n r.kind r.m)
  let s := if r.ovr then s.wr (CONV_STAT_OVR_EV r.n) 1 else s
  let s := if r.kind = 1 then s.wr (CONV_VAL r.n r.m) (unsigned 32 (s.convValue r.n r.m r.code)) else s
  s.stream (f (400 + 4 * r.n + r.m)) r

def State.putAll (s : State) (f : Nat → Int) (rs : List Res) : State := rs.foldl (fun s r => s.putRes f r) s

/-- The open values for one command's results. -/
def State.codes (s : State) : Nat → Int := openCodes s.opens
def State.codesUsed (s : State) : State := { s with opens := s.opens + 512 }

/-! ### Sub-windows, ferry cycles, control periods -/

/-- The converters that are on. -/
def State.convsOn (s : State) : List Nat := (List.range 24).filter (fun n => decide (cfgMask (s.conv1 n).cfg ≠ 0))

/-- Charge and rail of converter n in the operand of a sub-window. -/
def chargeOf (qs : List (Nat × Int × Int)) (n : Nat) : Int × Int :=
  match qs.find? (fun x => x.1 = n) with
  | some x => x.2
  | none => (0, 0)

/-- The fast results of a sub-window, in ascending converter number (R399 to R404, R418). -/
def State.convFast (s : State) (dur : Nat) (qs : List (Nat × Int × Int)) : State :=
  s.convsOn.foldl (fun s n =>
    let x := chargeOf qs n
    let (c, r) := s.conv.subEnd false n dur x.1 x.2
    (s.setConv c).putRes s.codes r) s

/-- A set-up that switches a converter off clears its results. -/
def State.convNow (s : State) (n : Nat) (was : Nat) : State :=
  let s := if was % 16 ≠ 0 ∧ cfgMask (s.conv1 n).cfg = 0 then s.convOff n else s
  s.convShow n

/-- The boundary after a sub-window on every converter. -/
def State.convBoundary (s : State) : State :=
  let s := (List.range 24).foldl (fun s n =>
    let was := (s.conv1 n).cfg
    let (c, rs) := s.conv.advance false s.codes n (s.convWant n)
    ((s.setConv c).putAll s.codes rs).convNow n was) s
  let s := s.setConv { s.conv with mainsLeft := s.conv.mainsLeft - 1 }
  s.codesUsed

/-! ### The mains window and its tracker (R413, R414) -/

def MW_NONE : Nat := 0
def MW_FIXED : Nat := 1
def MW_NOMINAL : Nat := 2
def MW_TRACKING : Nat := 3
def MW_HOLD : Nat := 4

def State.mainsState (s : State) : Nat := s.rd CONV_MAINS_STAT_STATE
/-- 1 / NOM_HZ in 1/16 ns, from the ACQ header. -/
def State.mainsNominal (s : State) : Nat := 16000000000 / max (b8 (s.sec T_ACQ 0) 3) 1

/-- L of a window that starts now (R413). -/
def State.mainsL (s : State) : Nat :=
  if s.mainsState = MW_FIXED then s.rd CONV_MAINS_SW
  else
    let t := if s.mainsState = MW_NOMINAL then s.mainsNominal else s.rd CONV_MAINS_T
    (t + 640) / 1280

/-- A mains window starts. -/
def State.mainsStart (s : State) : State :=
  let l := s.mainsL
  (s.setConv { s.conv with mainsOn := true, mainsLeft := l }).wr CONV_MAINS_LEN l

/-- Close the windows of kind k of every converter that is on, `only` the CONT ones where it says so. -/
def State.convClose (s : State) (k len : Nat) (only : Bool) : State :=
  let ns := s.convsOn.filter (fun n => !only || !cfgTrig (s.conv1 n).cfg)
  let (c, rs) := s.conv.closeAll false s.codes ns k len
  ((s.setConv c).putAll s.codes rs).codesUsed

/-- An accepted period (R414). -/
def State.mainsAccept (s : State) (t : Int) : State :=
  let old : Int := (s.rd CONV_MAINS_T : Nat)
  let s := s.wr CONV_MAINS_T (old + (t - old) / 8).toNat
  let n := s.conv.accepted + 1
  let s := s.setConv { s.conv with accepted := n }
  if s.mainsState = MW_NOMINAL ∧ n ≥ 8 then s.wr CONV_MAINS_STAT_STATE MW_TRACKING
  else if s.mainsState = MW_HOLD ∧ n ≥ 2 then s.wr CONV_MAINS_STAT_STATE MW_TRACKING
  else s

/-- A period between crossings, in 1/16 ns, is accepted or rejected (R414). -/
def State.mainsPeriod (s : State) (t : Int) : State :=
  let old : Int := (s.rd CONV_MAINS_T : Nat)
  if 16 * 15151515 ≤ t ∧ t ≤ 16 * 22222222 ∧ 20 * t ≤ 21 * old ∧ 19 * old ≤ 20 * t then s.mainsAccept t
  else (s.setConv { s.conv with accepted := 0 }).inc CONV_REJ_CNT

/-- The tracker takes the ferry-cycle result of the cycle that ended now: a positive-going crossing is placed and the
period since the last one judged (R414). -/
def State.mainsTrack (s : State) : State :=
  let a := s.sec T_ACQ 0
  if s.mainsState < MW_NOMINAL then s
  else
    let n := b8 a 1
    let m := b8 a 2
    let cyc := ctCycle s.ct
    if !(s.resOk n 1 m) then s.setConv { s.conv with lastRes := none }
    else
      let r := s.rdS (CONV_RES_CODE n 1 m)
      let prev := s.conv.lastRes
      let s := s.setConv { s.conv with lastRes := some (r, cyc) }
      match prev with
      | some (r0, c0) =>
        if c0 + 1 = cyc ∧ r0 < 0 ∧ 0 ≤ r then
          let x : Int := (((c0 : Int) - 1) * 2000 + 1000) * 16 + 32000 * (-r0) / (r - r0)
          let last := s.conv.lastX
          let s := s.setConv { s.conv with lastX := some x }
          match last with
          | some x0 => s.mainsPeriod (x - x0)
          | none => s
        else s
      | none => s

/-- The ferry-cycle start on the converters: results of kind 1 in CONT mode, pending set-ups, new scans, the tracker and
the first mains window (R406, R410 to R414). -/
def State.convCycle (s : State) : State :=
  let s := s.convClose 1 1250 true
  let s := (List.range 24).foldl (fun s n =>
    let was := (s.conv1 n).cfg
    let c := if cfgTrig was then s.conv else s.conv.takeCfg n (s.convWant n)
    (s.setConv (c.scanStart n)).convNow n was) s
  let s := s.mainsTrack
  if s.mainsState ≠ MW_NONE ∧ !s.conv.mainsOn then s.mainsStart else s

/-- The control-period start: results of kind 3 (R275). -/
def State.convPeriod (s : State) : State := s.convClose 3 (1250 * s.rd TIME_CP_CP_FERRIES) false

/-! ### Set-up writes and triggers -/

/-- The converter measures the current of an arm in use (R50, R51). -/
def State.isISense (s : State) (n : Nat) : Bool := s.arms.any (fun a => b8 (s.sec T_FRAME 0) (106 + a) = n)

/-- A source code names input m of converter n (R275). -/
def codeNames (code n m : Nat) : Bool := decide (0x2000 ≤ code ∧ code < 0x2400) && decide (code % 0x100 = 4 * n + m)

/-- A loop slot or the tracker uses input m of converter n. -/
def State.inputUsed (s : State) (n m : Nat) : Bool :=
  (decide (s.mainsState ≥ MW_NOMINAL) && decide (b8 (s.sec T_ACQ 0) 1 = n ∧ b8 (s.sec T_ACQ 0) 2 = m)) ||
  (List.range 48).any (fun t =>
    decide (bitsOf (s.rdW (A_LOOP_CFG t)) 0 8 ≠ 0) &&
    [s.rd (LOOP_IN0_A t), s.rd (LOOP_IN0_B t), s.rd (LOOP_IN1_A t), s.rd (LOOP_IN1_B t)].any (fun c => codeNames c n m))

/-- A write of CONV_CFG is ignored (R424). -/
def State.cfgRefused (s : State) (n v : Nat) : Bool :=
  decide (v / 64 % 4 = 3) || (cfgTrig v && decide (cfgDwell v < 3)) ||
  (s.isISense n && (decide ((cfgInputs v).length > 1) || cfgTrig v)) ||
  (cfgInputs (s.convWant n)).any (fun m => !bitOf v m && s.inputUsed n m)

/-- A write of CONV_CFG[n] (R410, R424). -/
def State.writeConvCfg (s : State) (p : Port) (n : Nat) (v : Word) : State :=
  if s.cfgRefused n v.toNat then s.range p (A_CONV_CFG n)
  else (s.wrW (A_CONV_CFG n) (BitVec.ofNat 32 (v.toNat % 512 + 65536 * cfgDwell v.toNat))).convShow n

/-- CONV_CFG_WRITE. -/
def execConvCfgWrite (p : Port) (n : Nat) (v : Word) (s : State) : Host.Outcome State Fault Refusal :=
  if n < 24 then .next (s.writeConvCfg p n v) else .next s

/-- A trigger of Balgal converter n (R407, R408). -/
def State.convTrigger (s : State) (n : Nat) : State :=
  let (c, lost) := s.conv.trigger n s.clk.count
  let s := s.setConv c
  (if lost then s.inc (CONV_TRIG_LOST n) else s).convShow n

/-- A write of CONV_TRIG: a trigger of each converter whose bit is 1. -/
def State.writeConvTrig (s : State) (v : Nat) : State :=
  (List.range 24).foldl (fun s n => if bitOf v n then s.convTrigger n else s) s

def Skerry.setConv (k : Skerry) (c : Conv) : Skerry := { k with conv := c }

/-- The set-up of a Skerry converter, in the layout of CONV_CFG (R420). -/
def Skerry.convWant (k : Skerry) (n : Nat) : Nat :=
  if n = 0 then 1
  else if n = 1 then k.rd SK_CONV_CFG_MASK1 + 256 * k.rd SK_CONV_CFG_MODE1 + 65536 * k.rd SK_CONV_CFG_DWELL
  else k.rd SK_CONV_CFG_MASK2 + 256 * k.rd SK_CONV_CFG_MODE2 + 65536 * k.rd SK_CONV_CFG_DWELL

/-- Show the inputs and pending triggers of converters 1 and 2. -/
def Skerry.convShow (k : Skerry) : Skerry :=
  let a := k.conv.get 1
  let b := k.conv.get 2
  let k := (k.wr SK_CONV_STAT_INPUT1 a.sel).wr SK_CONV_STAT_INPUT2 b.sel
  (k.wr SK_CONV_STAT_TPEND1 (b2n a.tpend)).wr SK_CONV_STAT_TPEND2 (b2n b.tpend)

/-- A trigger of Skerry converter n. -/
def Skerry.convTrigger (k : Skerry) (n : Nat) : Skerry :=
  let (c, lost) := k.conv.trigger n k.now
  let k := k.setConv c
  (if lost then k.inc SK_CONV_TRIG_LOST else k).convShow

/-- A write of SK_CONV_TRIG. -/
def Skerry.writeConvTrig (k : Skerry) (v : Nat) : Skerry :=
  let k := if bitOf v 0 then k.convTrigger 1 else k
  if bitOf v 1 then k.convTrigger 2 else k

/-- CONV_TRIG: a write of CONV_TRIG, or of SK_CONV_TRIG in the Skerry of a cell (R407). -/
def execConvTrig (c : Chip) (v : Word) (s : State) : Host.Outcome State Fault Refusal :=
  match c with
  | .balgal => .next (s.writeConvTrig v.toNat)
  | .skerry g => .next (s.runCell g (fun k => k.writeConvTrig v.toNat))

/-- A write of CONV_MAINS_SW (R415). -/
def State.writeMainsSw (s : State) (p : Port) (v : Nat) : State :=
  if s.mainsState = MW_FIXED ∧ v % 0x1000000 ≠ 0 then s.wr CONV_MAINS_SW v else s.range p A_CONV_MAINS_SW

/-- A write of SK_CONV_MAINS_SW: fixed mode is a value other than 0 (R415, R420). -/
def Skerry.writeMainsSw (k : Skerry) (v : Nat) : Skerry :=
  if k.rd SK_CONV_MAINS_SW ≠ 0 ∧ v % 0x1000000 ≠ 0 then k.wr SK_CONV_MAINS_SW v else k

/-- CONV_MAINS_SW: the L of the next window. -/
def execConvMainsSw (c : Chip) (p : Port) (v : Word) (s : State) : Host.Outcome State Fault Refusal :=
  match c with
  | .balgal => .next (s.writeMainsSw p v.toNat)
  | .skerry g => .next (s.runCell g (fun k => k.writeMainsSw v.toNat))

/-- A write of CONV_STREAM_CTRL[n] (R419, R424): KIND 3 is refused; RESTORE and a write that sets EN to 1 return D to 0,
and the latter WIDX too. -/
def State.writeStream (s : State) (p : Port) (n : Nat) (v : Nat) : State :=
  if v / 2 % 4 = 3 then s.range p (A_CONV_STREAM_CTRL n)
  else
    let s := (s.wr (CONV_STREAM_CTRL_EN n) (v % 2)).wr (CONV_STREAM_CTRL_KIND n) (v / 2 % 4)
    let s := if bitOf v 0 ∨ bitOf v 3 then s.wr (CONV_STAT_D n) 0 else s
    let s := s.setConv (s.conv.put n { s.conv1 n with comb := [] })
    if bitOf v 0 then s.wr (CONV_STREAM_WIDX n) 0 else s

/-- STREAM_RESTORE: a write of RESTORE, the other fields as they stand. -/
def execStreamRestore (n : Nat) (s : State) : Host.Outcome State Fault Refusal :=
  if n < 24 then .next (s.wr (CONV_STAT_D n) 0) else .next s

/-- STREAM_ENABLE: a write of EN and KIND. -/
def execStreamEnable (p : Port) (n kind : Nat) (en : Bool) (s : State) : Host.Outcome State Fault Refusal :=
  if n < 24 then .next (s.writeStream p n (b2n en + 2 * (kind % 4))) else .next s

/-- MAINS_TRACK_TIMEOUT: no accepted period for 4 T (R414). -/
def execMainsTrackTimeout (s : State) : Host.Outcome State Fault Refusal :=
  if s.mainsState = MW_TRACKING then
    let s := (s.wr CONV_MAINS_STAT_STATE MW_HOLD).wr CONV_MAINS_STAT_HOLD_EV 1
    .next ((s.setConv { s.conv with accepted := 0 }).raise 0x182 0)
  else .next s

/-! ### The Skerry's windows -/

/-- A result enters the registers of SK_CONV. -/
def Skerry.putRes (k : Skerry) (r : Res) : Skerry :=
  let k := (k.wr (SK_CONV_RES_CODE r.kind r.n r.m) (unsigned 24 r.code)).wr (SK_CONV_RES_SETTLE r.kind r.n r.m) (b2n r.settle)
  let k := (k.wr (SK_CONV_RES_OVR r.kind r.n r.m) (b2n r.ovr)).wr (SK_CONV_RES_FULL r.kind r.n r.m) (b2n r.full)
  k.wr (SK_CONV_RES_SEQ r.kind r.n r.m) (k.rd (SK_CONV_RES_SEQ r.kind r.n r.m) + 1)

def Skerry.convsOn (k : Skerry) : List Nat := [0, 1, 2].filter (fun n => decide (cfgMask (k.conv.get n).cfg ≠ 0))

/-- SCAN_END: the end boundary of the TRIG scan of converter n (R407, R408, R412). -/
def execScanEnd (c : Chip) (n : Nat) (s : State) : Host.Outcome State Fault Refusal :=
  match c with
  | .balgal =>
    if s.conv.scanOver n then
      let was := (s.conv1 n).cfg
      let (c, r) := s.conv.scanEnd false s.codes n (s.convWant n)
      .next (((s.setConv c).putRes s.codes r).convNow n was).codesUsed
    else .next s
  | .skerry g =>
    let f := s.codes
    .next (s.runCell g (fun k =>
      if k.conv.scanOver n then
        let (c, r) := k.conv.scanEnd true f n (k.convWant n)
        ((k.setConv c).putRes r).convShow
      else k)).codesUsed

/-- A sub-window of the Skerry's converters and the boundary after it. -/
def Skerry.convSub (k : Skerry) (f : Nat → Int) (dur : Nat) (qs : List (Nat × Int × Int)) : Skerry :=
  let k := k.convsOn.foldl (fun k n =>
    let x := chargeOf qs n
    let (c, r) := k.conv.subEnd true n dur x.1 x.2
    (k.setConv c).putRes r) k
  let k := [0, 1, 2].foldl (fun k n =>
    let (c, rs) := k.conv.advance true f n (k.convWant n)
    rs.foldl (fun k r => k.putRes r) (k.setConv c)) k
  (k.setConv { k.conv with mainsLeft := k.conv.mainsLeft - 1 }).convShow

/-- The Skerry closes windows of kind j of the converters it has on. -/
def Skerry.convClose (k : Skerry) (f : Nat → Int) (j len : Nat) : Skerry :=
  let ns := k.convsOn.filter (fun n => j ≠ 1 || !cfgTrig (k.conv.get n).cfg)
  let (c, rs) := k.conv.closeAll true f ns j len
  rs.foldl (fun k r => k.putRes r) (k.setConv c)

/-- The ferry-cycle start on the Skerry's converters. -/
def Skerry.convCycle (k : Skerry) (f : Nat → Int) : Skerry :=
  let k := k.convClose f 1 1250
  let k := [0, 1, 2].foldl (fun k n =>
    let c := if cfgTrig (k.conv.get n).cfg then k.conv else k.conv.takeCfg n (k.convWant n)
    k.setConv (c.scanStart n)) k
  let l := k.rd SK_CONV_MAINS_SW
  let k := if l ≠ 0 ∧ !k.conv.mainsOn then k.setConv { k.conv with mainsOn := true, mainsLeft := l } else k
  k.convShow

/-- MAINS_WINDOW_END: the L sub-windows of the mains window have ended: results of kind 2 and the next window (R413). -/
def execMainsWindowEnd (c : Chip) (s : State) : Host.Outcome State Fault Refusal :=
  match c with
  | .balgal =>
    if s.conv.mainsOn ∧ s.conv.mainsLeft = 0 then
      .next ((s.convClose 2 (50 * s.rd CONV_MAINS_LEN) false).mainsStart)
    else .next s
  | .skerry g =>
    let f := s.codes
    .next (s.runCell g (fun k =>
      if k.conv.mainsOn ∧ k.conv.mainsLeft = 0 then
        let k := k.convClose f 2 (50 * k.rd SK_CONV_MAINS_SW)
        k.setConv { k.conv with mainsLeft := k.rd SK_CONV_MAINS_SW }
      else k)).codesUsed

end Sys2Proof.Machine
end

