-- ==== Sys2Proof/Machine/ReefOps.lean ====
section
/-! DEFINITION. The Reef sorter: records, predicted voltages, ranking and heads, counts of an arm (R203 to R232). -/

namespace Sys2Proof.Machine
open Sys2Proof

/-! ### Records and arms -/

def State.crec (s : State) (g : Nat) : Rec := tget (fun _ => Rec.zero) s.reef.recs g
def State.setReef (s : State) (r : Reef) : State := { s with reef := r }
def State.setRec (s : State) (g : Nat) (r : Rec) : State :=
  s.setReef { s.reef with recs := tset (fun _ => Rec.zero) s.reef.recs g r }
def State.arm (s : State) (a : Nat) : ArmSt := tget (fun _ => ArmSt.zero) s.reef.arms a
def State.setArm (s : State) (a : Nat) (q : ArmSt) : State :=
  s.setReef { s.reef with arms := tset (fun _ => ArmSt.zero) s.reef.arms a q }

/-- Bytes of the REEF section of an arm (R234). -/
def State.pol (s : State) (a : Nat) : List Byte := s.sec T_REEF a
def State.polQuant (s : State) (a : Nat) : Nat := b16 (s.pol a) 4
def State.polRotMargin (s : State) (a : Nat) : Nat := b16 (s.pol a) 6
def State.polRotMax (s : State) (a : Nat) : Nat := b8 (s.pol a) 8
def State.polRefMax (s : State) (a : Nat) : Nat := b8 (s.pol a) 9
def State.polRefW (s : State) (a : Nat) : Nat := b16 (s.pol a) 10
def State.polSwapTol (s : State) (a : Nat) : Nat := b16 (s.pol a) 12
def State.polTHot (s : State) (a : Nat) : Int := signed 8 (b8 (s.pol a) 14)
def State.polStaleLim (s : State) (a : Nat) : Nat := b8 (s.pol a) 15
def State.polDefer (s : State) (a : Nat) : Nat := b16 (s.pol a) 16
def State.polBandUp (s : State) (a : Nat) : Nat := b16 (s.pol a) 18
def State.polBandDn (s : State) (a : Nat) : Nat := b16 (s.pol a) 20
def State.polGap (s : State) (a : Nat) : Nat := b8 (s.pol a) 22
def State.polMax (s : State) (a : Nat) : Nat := b8 (s.pol a) 23
def State.polDMax (s : State) (a : Nat) : Nat := b8 (s.pol a) 24
def State.polLeak (s : State) (a : Nat) : Nat := b8 (s.pol a) 25
def State.polNMin (s : State) (a : Nat) : Nat := b16 (s.pol a) 26
def State.polNTrip (s : State) (a : Nat) : Nat := b16 (s.pol a) 28
def State.polVRet (s : State) (a : Nat) : Nat := b16 (s.pol a) 30
def State.polPred (s : State) (a : Nat) : Bool := bitOf (b8 (s.pol a) 1) 0
def State.polWeave (s : State) (a : Nat) : Bool := bitOf (b8 (s.pol a) 1) 1

/-- The arm of a cell. -/
def State.armOfCell (s : State) (g : Nat) : Nat := s.armOf (g / 64)

/-- CAP of the cell's parameter set in µF. -/
def State.cellCap (s : State) (g : Nat) : Nat := b16 (s.pol (s.armOfCell g)) (32 + 2 * (s.berthEntry g / 16 % 4))

def State.expSt (s : State) (g : Nat) : Nat := s.rd (REEF_REC0_STATE g)
def State.recHealth (s : State) (g : Nat) : Nat := s.rd (REEF_REC0_HEALTH g)
def State.stale (s : State) (g : Nat) : Bool := s.on (REEF_REC0_STALE g)
def State.vcap (s : State) (g : Nat) : Nat := s.rd (REEF_REC0_VCAP g)

/-- The charge that a state takes from ΔQ and ΔQ+ (R205). -/
def stCharge (ctype st : Nat) (dq dqp : Int) : Int :=
  if st = ST_INSP then dq else if st = ST_INSN then -dq
  else if st = ST_BLOCK then (if ctype = 2 then 2 * dqp - dq else dqp) else 0

/-- The charge of a cell since the end of its VCAP's window, stretch by stretch (R205). -/
def chargeSince (ctype : Nat) (ct : Nat) (q0 qp0 : Int) : List Seg → Int → Int → Int
  | [], _, _ => 0
  | e :: t, q, qp =>
    if e.ct ≤ ct then stCharge ctype e.st (q - q0) (qp - qp0)
    else stCharge ctype e.st (q - e.q) (qp - e.qp) + chargeSince ctype ct q0 qp0 t e.q e.qp

/-- The same for a record in STATE `st` now; without a change the state has been the present one throughout. -/
def chargeOfRec (ctype st : Nat) (r : Rec) (q qp : Int) : Int :=
  if r.segs.isEmpty then stCharge ctype st (q - r.winQ) (qp - r.winQp)
  else chargeSince ctype r.winCt r.winQ r.winQp r.segs q qp

/-- A charge in Q16.16 A times 80 ns, over a capacitance in µF, in 0.1 V. -/
def chargeV (q : Int) (cap : Nat) : Int := q / ((81920 * max cap 1 : Nat) : Int)

/-- VPRED in 0.1 V (R205, R206). -/
def State.vpred (s : State) (g : Nat) : Int :=
  let a := s.armOfCell g
  let r := s.crec g
  let q := s.arm a
  if s.polPred a then
    (s.vcap g : Int) + chargeV (chargeOfRec (s.cellType g) (s.expSt g) r q.q q.qp) (s.cellCap g)
  else (s.vcap g : Int)

/-! ### Availability, counts and means (R211, R222, R224, R232) -/

/-- A step cell whose PART is applied, HEALTH usable or derated, not marked for retirement (R211). -/
def State.available (s : State) (g : Nat) : Bool :=
  let r := s.crec g
  !r.weave && decide (r.part = 2) && decide (s.recHealth g ≤ 1) && !r.retire

def State.stepCells (s : State) (a : Nat) : List Nat := (s.armCells a).filter (fun g => !(s.crec g).weave)
def State.availCells (s : State) (a : Nat) : List Nat := (s.armCells a).filter (fun g => s.available g)
def State.nAvail (s : State) (a : Nat) : Nat := (s.availCells a).length

/-- Sum of VPRED over the available step cells. -/
def State.sumAvail (s : State) (a : Nat) : Int := (s.availCells a).foldl (fun t g => t + s.vpred g) 0

/-- VAVG in 0.1 V, 0 without an available step cell. -/
def State.vavg (s : State) (a : Nat) : Int :=
  let n := s.nAvail a
  if n = 0 then 0 else s.sumAvail a / (n : Int)

/-- N_NOW: inserted positive less inserted negative by expected STATE, of every step cell (R224). -/
def State.nNow (s : State) (a : Nat) : Int :=
  (s.stepCells a).foldl (fun t g => t + (if s.expSt g = ST_INSP then 1 else if s.expSt g = ST_INSN then -1 else 0)) 0

/-- A cell of the arm is inserted negative. -/
def State.anyNeg (s : State) (a : Nat) : Bool := (s.armCells a).any (fun g => s.expSt g = ST_INSN)

/-- Show N_NOW, N_AVAIL, VAVG and the spread of the eligible cells, and judge N_avail against its limits (R232). -/
def State.armCount (s : State) (a : Nat) : State :=
  let n := s.nAvail a
  let was := s.rd (REEF_COUNT_N_AVAIL a)
  let s := (s.wr (REEF_COUNT_N_NOW a) (unsigned 12 (s.nNow a))).wr (REEF_COUNT_N_AVAIL a) n
  let es := ((s.availCells a).filter (fun g => !s.stale g)).map (fun g => s.vpred g)
  let spread := es.foldl max (es.headD 0) - es.foldl min (es.headD 0)
  let s := (s.wr (REEF_VAVG_VAVG a) (unsigned 16 (min (max (s.vavg a) 0) 0xFFFF))).wr (REEF_VAVG_SPREAD a) (unsigned 16 (min spread 0xFFFF))
  let lo := s.polNMin a
  let tr := s.polNTrip a
  let sh := s.rd REEF_STAT_SHORT
  let s := s.wr REEF_STAT_SHORT (if n < lo then sh ||| 2 ^ a else sh &&& (63 ^^^ 2 ^ a))
  let q := s.arm a
  let s := s.setArm a { q with short := if n ≥ lo then true else if was ≥ lo then false else q.short,
                               trip := if n ≥ tr then true else if was ≥ tr then false else q.trip }
  let s := if n < lo ∧ q.short ∧ was ≥ lo then s.raise 0x0E5 a else s
  if n < tr ∧ q.trip ∧ was ≥ tr then s.raise 0x0E7 a else s

/-! ### Ranking (R210 to R215) -/

/-- Eligible for a list apart from STATE (R210). -/
def State.rankable (s : State) (g : Nat) : Bool :=
  let r := s.crec g
  s.available g && !s.stale g && (decide (r.hold = 0) || decide (r.hold ≤ s.ct))

/-- The rank of a cell in the list of state `st`. -/
def State.rankAs (s : State) (g st : Nat) : Rank :=
  let a := s.armOfCell g
  let v := s.vpred g
  let n := (s.nAvail a : Int)
  let list := if s.rankable g then (if st = ST_BYPASS then 1 else if st = ST_INSP then 2 else 0) else 0
  let near := decide (n ≠ 0) && decide ((v * n - s.sumAvail a).natAbs ≤ s.polDefer a * n.natAbs)
  let hot := decide (s.recHealth g = 1) || decide (signed 8 (s.rd (REEF_REC0_TEMP g)) ≥ s.polTHot a)
  ⟨list, if list = 1 ∧ hot ∧ near then 1 else 0, v, (s.arm a).q, (s.crec g).sw⟩

/-- The key of a ranked cell with the arm's present charge (R212): an inserted cell's voltage follows Q. -/
def State.rankKey (s : State) (g : Nat) (r : Rank) : Int :=
  let a := s.armOfCell g
  let v := if r.list = 2 ∧ s.polPred a then r.v + chargeV ((s.arm a).q - r.q) (s.cellCap g) else r.v
  v / ((max (s.polQuant a) 1 : Nat) : Int)

/-- low_first and high_first as tuples to compare in order (R212). -/
def State.rankTuple (s : State) (low : Bool) (g : Nat) (r : Rank) : Int × Int × Int × Int :=
  let k := s.rankKey g r
  (r.cls, if low then k else -k, r.sw, g)

/-- Lexicographic order of rank tuples. -/
def tupLt (x y : Int × Int × Int × Int) : Bool :=
  decide (x.1 < y.1) || (decide (x.1 = y.1) && (decide (x.2.1 < y.2.1) || (decide (x.2.1 = y.2.1) &&
    (decide (x.2.2.1 < y.2.2.1) || (decide (x.2.2.1 = y.2.2.1) && decide (x.2.2.2 < y.2.2.2))))))

/-- The first of a list of ranked cells by low_first or high_first. -/
def State.firstBy (s : State) (low : Bool) (cs : List (Nat × Rank)) : Option Nat :=
  (cs.foldl (fun (o : Option (Nat × Rank)) x =>
    match o with
    | none => some x
    | some y => if tupLt (s.rankTuple low x.1 x.2) (s.rankTuple low y.1 y.2) then some x else some y) none).map (·.1)

/-- The cells of an arm in a list, with the ranks last computed. -/
def State.ranked (s : State) (a list : Nat) : List (Nat × Rank) :=
  ((s.armCells a).map (fun g => (g, (s.crec g).rank))).filter (fun x => decide (x.2.list = list))

/-- Head h of an arm: 0 INS_CHG, 1 INS_DIS, 2 BYP_CHG, 3 BYP_DIS (R212). -/
def State.head (s : State) (a h : Nat) : Option Nat :=
  s.firstBy (decide (h = 0 ∨ h = 3)) (s.ranked a (if h < 2 then 1 else 2))

def headFld (a h : Nat) : Fld :=
  if h = 0 then REEF_CAND_INS_CHG a else if h = 1 then REEF_CAND_INS_DIS a
  else if h = 2 then REEF_CAND_BYP_CHG a else REEF_CAND_BYP_DIS a

def headOkFld (a h : Nat) : Fld :=
  if h = 0 then REEF_CAND_INS_CHG_OK a else if h = 1 then REEF_CAND_INS_DIS_OK a
  else if h = 2 then REEF_CAND_BYP_CHG_OK a else REEF_CAND_BYP_DIS_OK a

/-- The OK bit of a head: it exists and has not changed for 4 word clocks (R215). -/
def State.headOk (s : State) (a h : Nat) : Bool :=
  (s.head a h).isSome && decide (s.clk.count + 1 ≥ tget (fun _ => 0) (s.arm a).headAt h + 4)

/-- Show the heads of an arm, stamping those that changed. -/
def State.showHeads (s : State) (a : Nat) : State :=
  [0, 1, 2, 3].foldl (fun s h =>
    let g := (s.head a h).getD 0
    let q := s.arm a
    let s := if s.rd (headFld a h) ≠ g then s.setArm a { q with headAt := tset (fun _ => 0) q.headAt h (s.clk.count + 1) } else s
    let s := s.wr (headFld a h) g
    s.wr (headOkFld a h) (b2n (s.headOk a h))) s

/-- An update of a record enters the queue of its arm (R213). -/
def State.reUpdate (s : State) (g : Nat) : State :=
  let a := s.armOfCell g
  if a < 6 then
    let q := s.arm a
    (s.setArm a { q with queue := q.queue ++ [g], since := if q.since.contains g then q.since else q.since ++ [g] }).armCount a
  else s

/-- Re-rank one cell now. -/
def State.rerank (s : State) (g : Nat) : State := s.setRec g { s.crec g with rank := s.rankAs g (s.expSt g) }

/-- RERANK: the oldest queued update of arm `a` is re-ranked (R213). -/
def execRerank (a : Nat) (s : State) : Host.Outcome State Fault Refusal :=
  let q := s.arm a
  match q.queue with
  | [] => .next s
  | g :: t => .next (((s.setArm a { q with queue := t }).rerank g).showHeads a)

/-- The full re-sort of every arm begins, with the VPRED of this edge (R214). -/
def State.resortStart (s : State) : State :=
  s.arms.foldl (fun s a =>
    let rs := (s.armCells a).map (fun g => (g, s.rankAs g (s.expSt g)))
    (s.setArm a { s.arm a with resort := rs, since := [] }).wr REEF_STAT_SORTING (s.rd REEF_STAT_SORTING ||| 2 ^ a)) s

/-- RESORT_COMPLETE: the lists of the full re-sort replace the old, with every update made since applied (R214). -/
def execResortComplete (a : Nat) (s : State) : Host.Outcome State Fault Refusal :=
  if a < 6 ∧ bitOf (s.rd REEF_STAT_SORTING) a then
    let q := s.arm a
    let s := q.resort.foldl (fun s x => s.setRec x.1 { s.crec x.1 with rank := x.2 }) s
    let s := q.since.foldl (fun s g => s.rerank g) s
    let s := s.setArm a { s.arm a with resort := [], since := [], queue := [] }
    .next ((s.wr REEF_STAT_SORTING (s.rd REEF_STAT_SORTING &&& (63 ^^^ 2 ^ a))).showHeads a)
  else .next s

/-! ### Changes of expected STATE (R207) -/

/-- The record's STATE becomes `st` at CT `t`. -/
def State.setExp (s : State) (g st t : Nat) : State :=
  if s.expSt g = st then s
  else
    let q := s.arm (s.armOfCell g)
    let r := s.crec g
    let old := if r.segs.isEmpty then [⟨0, s.expSt g, 0, 0⟩] else r.segs
    let s := (s.wr (REEF_REC0_STATE g) st).setRec g { r with segs := (⟨t, st, q.q, q.qp⟩ :: old).take 8 }
    s.reUpdate g

/-- Expect a change of STATE at a later CT. -/
def State.expect (s : State) (e : StEv) : State := s.setReef { s.reef with events := s.reef.events ++ [e] }

/-- The earliest event due by CT `t`; on one CT, commits before flash orders (R207). -/
def nextEvent (t : Nat) (es : List StEv) : Option StEv :=
  es.foldl (fun (o : Option StEv) e =>
    if e.ct > t then o
    else match o with
      | none => some e
      | some f => if e.ct < f.ct ∨ (e.ct = f.ct ∧ f.flash ∧ !e.flash) then some e else some f) none

/-- Take the events that are due, up to `fuel` of them. -/
def State.takeEvents : Nat → State → State
  | 0, s => s
  | n + 1, s =>
    match nextEvent s.ct s.reef.events with
    | none => s
    | some e =>
      let s := s.setReef { s.reef with events := s.reef.events.erase e }
      takeEvents n (s.setExp e.g e.st e.ct)

/-- Cells whose swap has ended return to the lists (R227). -/
def State.endHolds (s : State) : State :=
  s.reef.recs.foldl (fun s x =>
    if x.2.hold ≠ 0 ∧ x.2.hold ≤ s.ct then (s.setRec x.1 { s.crec x.1 with hold := 0 }).reUpdate x.1 else s) s

/-- Bring the records up to the present CT. -/
def State.reefDue (s : State) : State := (s.takeEvents s.reef.events.length).endHolds

/-- The delay of a cell from an end, in units of 2^-18 ns; not measured counts as 0. -/
def State.cellDelay (s : State) (g : Nat) (tail : Bool) : Nat :=
  let d := s.rd (if tail then CW_DELAY_T g else CW_DELAY_H g)
  if d = 0xFFFFF then 0 else (d * wcU5) / 80

/-- Word clocks in units of 2^-18 ns. -/
def wcs (n : Nat) : Nat := (n * wcU5 + 4) / 5

/-- A flash order for g leaves an end now: the record changes 6 word clocks and the cell's delay later (R207). -/
def State.expectFlash (s : State) (g st : Nat) (tail : Bool) : State :=
  s.expect ⟨s.ct + wcs 6 + s.cellDelay g tail, g, st, true⟩

/-! ### Retirement (R229 to R231) -/

/-- The arm engine marks a cell for retirement: HEALTH failed, out of both lists (R230). -/
def State.markRetire (s : State) (g : Nat) : State :=
  let r := s.crec g
  if r.retire ∨ s.recHealth g = 2 then s
  else
    let s := (s.setRec g { r with retire := true, shown := false, tries := 0, actAt := 0, thy := false, again := false }).wr (REEF_REC0_HEALTH g) 3
    (s.reUpdate g).rerank g |>.showHeads (s.armOfCell g)

/-- A write of REEF_RETIRE (R27, R229, R238). -/
def State.writeRetire (s : State) (p : Port) (v : Nat) : State :=
  let g := v % 8192
  if !(bitOf v 31) then s
  else if s.isCell g ∧ s.armOfCell g < 6 then s.markRetire g else s.range p A_REEF_RETIRE

/-- REEF_RETIRE. -/
def execReefRetire (p : Port) (v : Word) (s : State) : Host.Outcome State Fault Refusal := .next (s.writeRetire p v.toNat)

/-- A write of REEF_HEALTH_SET (R231). -/
def State.writeHealth (s : State) (p : Port) (v : Nat) : State :=
  let g := v % 8192
  let h := v / 8192 % 4
  let r := s.crec g
  if !(bitOf v 31) then s
  else if s.isCell g ∧ s.armOfCell g < 6 ∧ h ≤ 1 ∧ s.recHealth g = 2 ∧ r.got ∧ r.health = 0 ∧ r.part = 2 then
    let s := (s.wr (REEF_REC0_HEALTH g) h).setRec g { r with retire := false }
    let a := s.armOfCell g
    -- it enters the list at the next full re-sort
    s.armCount a
  else s.range p A_REEF_HEALTH_SET

/-- REEF_HEALTH_SET. -/
def execReefHealthSet (p : Port) (v : Word) (s : State) : Host.Outcome State Fault Refusal := .next (s.writeHealth p v.toNat)

/-- STALE: STALE_LIM ferry cycles have passed without an accepted status of cell g (R209). -/
def execStale (g : Nat) (s : State) : Host.Outcome State Fault Refusal :=
  if s.isCell g ∧ s.armOfCell g < 6 ∧ !s.stale g ∧ (s.crec g).age ≥ s.polStaleLim (s.armOfCell g) then
    .next ((s.wr (REEF_REC0_STALE g) 1).reUpdate g)
  else .next s

/-- RETIRE_ACTION_TIMEOUT: 8 ferry cycles have passed since the ferry that carried an ACTION to cell g, and no status of
HEALTH bypassed has come: it is sent again, or after the third the next ferry carries 0x02 and retire-failed is raised
(R230). -/
def execRetireActionTimeout (g : Nat) (s : State) : Host.Outcome State Fault Refusal :=
  let r := s.crec g
  if r.retire ∧ r.actAt ≠ 0 ∧ r.actAt + 8 ≤ s.reef.cyc + 1 ∧ s.recHealth g ≠ 2 ∧ !r.thy ∧ !r.again then
    if r.tries < 3 then .next (s.setRec g { r with again := true })
    else .next ((s.setRec g { r with again := true, thy := true }).raise 0x0E6 (s.armOfCell g))
  else .next s

end Sys2Proof.Machine
end

