-- ==== Sys2Proof/Machine/Plan.lean ====
section
/-! DEFINITION. The planner: modulation, stages A and B of the next ferry, refresh swaps, rotation, weave duties (R219,
R221 to R228, R249 to R251, R697). -/

namespace Sys2Proof.Machine
open Sys2Proof

/-! ### Modulation (R221, R222) -/

def State.sinkv (s : State) (t : Nat) : Int := s.rdS (LOOP_SINKV t)

/-- WAVE[i], Q1.15. -/
def State.wave (s : State) (i : Nat) : Int := signed 16 (b16 (s.sec T_WAVE 0) (16 + 2 * i))

/-- W at θ (R221), in units of 2^-47. -/
def State.waveAt (s : State) (theta : Nat) : Int :=
  let x := theta % 2 ^ 32 * 1536
  let i := x / 2 ^ 32
  s.wave i * 2 ^ 32 + ((x % 2 ^ 32 : Nat) : Int) * (s.wave ((i + 1) % 1536) - s.wave i)

/-- The arm voltage reference u of arm a for the ferry k ferry cycles after the control-period start (R221), in units of
2^-94 kV. -/
def State.uRef (s : State) (a k : Nat) : Int :=
  let l := a / 2
  let th := ((s.sinkv (18 + l) + (k : Int) * s.sinkv 21) % (2 ^ 32 : Nat)).toNat
  let mw := s.sinkv (15 + l) * s.waveAt th
  let x : Int := if a % 2 = 0 then 2 ^ 77 - mw else 2 ^ 77 + mw
  s.sinkv (12 + l) * x - s.sinkv (22 + l) * 2 ^ 78

/-- One unit of 0.1 V against `uRef`: u in 0.1 V is uRef × 10,000 / 2^94. -/
def uDen : Int := 2 ^ 94

/-- N_mod (R222). -/
def State.nMod (s : State) (a : Nat) (u : Int) : Int :=
  let n := (s.nAvail a : Int)
  let sum := s.sumAvail a
  if n = 0 ∨ sum ≤ 0 then 0
  else
    let num := u * 10000 * n
    let den := uDen * sum
    if s.polWeave a then num / den else (2 * num + den) / (2 * den)

/-- F: available full-bridge step cells that are not STALE (R222). -/
def State.nFull (s : State) (a : Nat) : Nat :=
  ((s.availCells a).filter (fun g => s.cellType g = 2 && !s.stale g)).length

/-- Set REEF_STAT.SAT of an arm and raise modulation-saturation (R222). -/
def State.saturate (s : State) (a : Nat) : State :=
  (s.wr REEF_STAT_SAT (s.rd REEF_STAT_SAT ||| 2 ^ a)).raise 0x0E4 a

/-! ### The undecided epoch (R249) -/

/-- The staged epoch of an arm whose stage is not yet decided. -/
def State.undecided (s : State) (a : Nat) : Option Epoch := s.reef.epochs.find? (fun e => !e.done.contains a)

def berthOf (cs : List (Nat × Berth)) (g : Nat) : Berth := tget (fun _ => Berth.zero) cs g

/-- The state that a command half leaves under a stage (false A, true B): STATE_AFTER where it acts (R127). -/
def Berth.final (b : Berth) (sB : Bool) : Nat :=
  if b.after ≠ 0 ∧ b.stAfter ≠ ST_HOLD then b.stAfter else if sB then b.stB else b.stA

/-- The state that cell g holds when the undecided epoch takes a stage. -/
def State.baseSt (s : State) (g : Nat) (sB : Bool) : Nat :=
  match s.undecided (s.armOfCell g) with
  | some e => let f := (berthOf e.cells g).final sB; if f = ST_HOLD then s.expSt g else f
  | none => s.expSt g

/-- A pinned cell (R249). -/
def State.pinned (s : State) (g : Nat) : Bool := s.baseSt g false ≠ s.baseSt g true

/-- What a cell counts in N_now of a stage (R224). -/
def stCount (ctype st : Nat) (sB : Bool) : Int :=
  if st = ST_INSP then 1 else if st = ST_INSN then -1
  else if st = ST_BLOCK then (if sB then (if ctype = 2 then -1 else 0) else 1) else 0

/-! ### One stage (R225) -/

/-- A stage in the making: the changes, the copies of the lists, the negative cells, the count, changes made. -/
structure StageP where
  st : List (Nat × Nat)
  byp : List (Nat × Rank)
  ins : List (Nat × Rank)
  neg : List (Nat × Rank)
  n : Int
  changes : Nat
  rot : Nat
deriving DecidableEq, Repr

def dropG (g : Nat) (l : List (Nat × Rank)) : List (Nat × Rank) := l.filter (fun x => decide (x.1 ≠ g))

/-- A cell takes a state in the stage and leaves the copies. -/
def StageP.take (p : StageP) (g st : Nat) : StageP :=
  { p with st := p.st ++ [(g, st)], byp := dropG g p.byp, ins := dropG g p.ins, neg := dropG g p.neg }

/-- The copy of the lists for a stage, without the cells already taken; pinned cells by R697. -/
def State.stageLists (s : State) (a : Nat) (sB : Bool) (taken : List Nat) (n : Int) : StageP :=
  let cs := (s.stepCells a).filter (fun g => !taken.contains g && !(s.crec g).retire)
  let rs := cs.map (fun g => (g, if s.pinned g then s.rankAs g (s.baseSt g sB) else (s.crec g).rank))
  let neg := (cs.filter (fun g => decide (s.baseSt g sB = ST_INSN) && s.rankable g)).map (fun g => (g, s.rankAs g ST_INSN))
  ⟨[], rs.filter (fun x => decide (x.2.list = 1)), rs.filter (fun x => decide (x.2.list = 2)), neg, n, 0, 0⟩

/-- One change of the count towards `ns`; none when there is no cell to take (R224, R225 step 3). -/
def State.countStep (s : State) (sB : Bool) (ns : Int) (p : StageP) : Option StageP :=
  if p.n < ns then
    match s.firstBy (!sB) p.neg with
    | some g => some { p.take g ST_BYPASS with n := p.n + 1, changes := p.changes + 1 }
    | none =>
      match s.firstBy (!sB) p.byp with
      | some g => some { p.take g ST_INSP with n := p.n + 1, changes := p.changes + 1 }
      | none => none
  else
    match s.firstBy sB p.ins with
    | some g => some { p.take g ST_BYPASS with n := p.n - 1, changes := p.changes + 1 }
    | none =>
      if ns < 0 then
        match s.firstBy sB (p.byp.filter (fun x => s.cellType x.1 = 2)) with
        | some g => some { p.take g ST_INSN with n := p.n - 1, changes := p.changes + 1 }
        | none => none
      else none

/-- Step 3: at most `fuel` changes. -/
def State.countLoop (s : State) (sB : Bool) (ns : Int) : Nat → StageP → StageP
  | 0, p => p
  | k + 1, p =>
    if p.n = ns then p
    else match s.countStep sB ns p with
      | some p' => s.countLoop sB ns k p'
      | none => p

/-- Step 4: at most `fuel` rotation swaps. -/
def State.rotLoop (s : State) (a : Nat) (sB : Bool) : Nat → StageP → StageP
  | 0, p => p
  | k + 1, p =>
    match s.firstBy (!sB) p.byp, s.firstBy sB p.ins with
    | some x, some y =>
      let gain := if sB then s.vpred x - s.vpred y else s.vpred y - s.vpred x
      if gain ≤ (s.polRotMargin a : Int) then p
      else
        let p := (p.take x ST_INSP).take y ST_BYPASS
        s.rotLoop a sB k { p with rot := p.rot + 1 }
    | _, _ => p

/-! ### Refresh swaps (R226 to R228) -/

/-- Requesting cells in the order they are served: those of R228 first, then oldest first, then lower G. -/
def State.reqBefore (s : State) (x y : Nat) : Bool :=
  let p := s.crec x
  let q := s.crec y
  if p.late ≠ q.late then p.late
  else decide (p.refAt < q.refAt) || (decide (p.refAt = q.refAt) && decide (x < y))

def insertBy (lt : Nat → Nat → Bool) (x : Nat) : List Nat → List Nat
  | [] => [x]
  | y :: t => if lt x y then x :: y :: t else y :: insertBy lt x t

def State.requests (s : State) (a : Nat) : List Nat :=
  ((s.stepCells a).filter (fun g =>
    s.on (REEF_REC0_REFRESH g) && decide (s.expSt g = ST_INSP) && !s.pinned g && decide ((s.crec g).served = 0)
      && decide ((s.crec g).rank.list = 2))).foldl (fun l g => insertBy s.reqBefore g l) []

/-- The substitute of R for a swap (R226). -/
def State.substitute (s : State) (a g : Nat) (taken : List Nat) : Option Nat :=
  let v := s.vpred g
  ((s.ranked a 1).foldl (fun (o : Option (Nat × Nat × Nat)) x =>
    if taken.contains x.1 || s.pinned x.1 || decide (s.cellType x.1 ≠ s.cellType g) then o
    else
      let k := ((s.vpred x.1 - v).natAbs, (s.crec x.1).sw, x.1)
      match o with
      | none => some k
      | some m => if k.1 < m.1 ∨ (k.1 = m.1 ∧ (k.2.1 < m.2.1 ∨ (k.2.1 = m.2.1 ∧ k.2.2 < m.2.2))) then some k else some m)
    none).map (fun k => k.2.2)

/-- The swaps of a plan: pairs (R, S), and the requests deferred. -/
def State.swapsOf (s : State) (a : Nat) (taken : List Nat) : List (Nat × Nat) × Nat :=
  let mx := s.polRefMax a
  if mx = 0 then ([], (s.requests a).length)
  else
    (s.requests a).foldl (fun acc g =>
      if acc.1.length = mx then acc
      else
        let used := taken ++ acc.1.flatMap (fun x => [x.1, x.2])
        match s.substitute a g used with
        | some x => if (s.vpred x - s.vpred g).natAbs ≤ s.polSwapTol a then (acc.1 ++ [(g, x)], acc.2) else (acc.1, acc.2 + 1)
        | none => (acc.1, acc.2 + 1)) ([], 0)

/-! ### Weave duties (R223) -/

def State.weaveCells (s : State) (a : Nat) : List Nat :=
  (s.armCells a).filter (fun g => (s.crec g).weave && decide (s.recHealth g ≤ 1) && !s.stale g)

/-- Sum of VPRED that a stage leaves inserted, cells inserted negative counting against it. -/
def State.sumIns (s : State) (a : Nat) (fin : Nat → Nat) : Int :=
  (s.stepCells a).foldl (fun t g => t + (if fin g = ST_INSP then s.vpred g else if fin g = ST_INSN then -s.vpred g else 0)) 0

/-- DUTY; without voltage on the weave cells it is the open value `f`. -/
def State.duty (s : State) (a : Nat) (u : Int) (fin : Nat → Nat) (f : Nat) : Nat :=
  let sw := (s.weaveCells a).foldl (fun t g => t + s.vpred g) 0
  if sw ≤ 0 then f % 65536
  else
    let r := u * 10000 - s.sumIns a fin * uDen
    (min 65535 (max 0 ((65536 * r) / (uDen * sw)))).toNat

/-! ### The plan of one arm -/

/-- Ferry cycles from the control-period start to the ferry planned now (R221). -/
def State.planK (s : State) : Nat := s.reef.ferry + 1

/-- The ACTION that a retirement puts into the next ferry (R230). -/
def Rec.nextAction (r : Rec) : Nat :=
  if r.retire ∧ r.shown then (if r.again then (if r.thy then 2 else 1) else if r.tries = 0 then 1 else 0) else 0

/-- The stage's states: changes first, then what each cell holds under the undecided epoch. -/
def State.stageFin (s : State) (sB : Bool) (ch : List (Nat × Nat)) (g : Nat) : Nat :=
  match ch.find? (fun x => x.1 = g) with
  | some x => x.2
  | none => s.baseSt g sB

def changed (ch : List (Nat × Nat)) (g : Nat) : Option Nat := (ch.find? (fun x => x.1 = g)).map (·.2)

/-- The STATE field of a berth: the change; else explicit for a pinned cell or a full stage; else hold (R225, R249,
R250). -/
def State.berthSt (s : State) (full sB : Bool) (ch : List (Nat × Nat)) (g : Nat) : Nat :=
  match changed ch g with
  | some st => st
  | none => if full || s.pinned g then s.baseSt g sB else ST_HOLD

/-- What the planner decides for an arm before the stages: forced changes (retirement, R251), swaps, deferred. -/
structure ArmPre where
  forced : List (Nat × Nat)
  swaps : List (Nat × Nat)
  defer : Nat
deriving DecidableEq, Repr

def State.armPre (s : State) (a : Nat) : ArmPre :=
  let ret := ((s.armCells a).filter (fun g => (s.crec g).retire && !(s.crec g).shown)).map (fun g => (g, ST_BYPASS))
  let blk := ((s.stepCells a).filter (fun g =>
    decide (s.expSt g = ST_BLOCK) && s.available g && !s.stale g)).map (fun g => (g, ST_BYPASS))
  let (sw, d) := s.swapsOf a ((ret ++ blk).map (·.1))
  ⟨ret ++ blk, sw, d⟩

/-- N_now of a stage at the start of step 3: every step cell by its state, retired ones as planned, blocked ones as
blocked (R224, R251). -/
def State.stageCount (s : State) (a : Nat) (sB : Bool) : Int :=
  (s.stepCells a).foldl (fun t g =>
    let r := s.crec g
    let st := if r.retire ∧ !r.shown then ST_BYPASS else s.baseSt g sB
    t + stCount (s.cellType g) st sB) 0

/-- Build one stage of an arm. -/
def State.stageOf (s : State) (a : Nat) (sB : Bool) (pre : ArmPre) (ns : Int) : StageP :=
  let taken := pre.forced.map (·.1) ++ pre.swaps.flatMap (fun x => [x.1, x.2])
  let p := s.stageLists a sB taken (s.stageCount a sB)
  let p := s.countLoop sB ns 64 p
  s.rotLoop a sB (s.polRotMax a) p

/-- The berths of one arm. -/
def State.armBerths (s : State) (a : Nat) (full : Bool) (pre : ArmPre) (pa pb : StageP) (da db : Option Nat) :
    List (Nat × Berth) :=
  let ca := pre.forced ++ pa.st
  let cb := pre.forced ++ pb.st
  (s.armCells a).filterMap (fun g =>
    let r := s.crec g
    let act := r.nextAction
    let swap := pre.swaps.find? (fun x => x.1 = g || x.2 = g)
    let b : Berth :=
      if act ≠ 0 then { Berth.zero with valid := true, action := act }
      else if r.weave then
        { Berth.zero with
          valid := da.isSome || full || (changed ca g).isSome,
          stA := (changed ca g).getD ST_HOLD, stB := (changed cb g).getD ST_HOLD,
          dutyA := da.getD 0, dutyB := db.getD 0 }
      else match swap with
        | some x =>
          let st := if x.1 = g then ST_BYPASS else ST_INSP
          let back := if x.1 = g then ST_INSP else ST_BYPASS
          { Berth.zero with valid := true, stA := st, stB := st, stAfter := back, after := s.polRefW a }
        | none =>
          let x := s.berthSt full false ca g
          let y := s.berthSt full true cb g
          { Berth.zero with valid := full || decide (x ≠ ST_HOLD) || decide (y ≠ ST_HOLD), stA := x, stB := y }
    if b.valid then some (g, b) else none)

/-- The regulator's leak (R219). -/
def State.leak (s : State) (a : Nat) : State :=
  let q := s.arm a
  let d := s.rdS (REEF_REG_D a)
  if s.polLeak a ≠ 0 ∧ q.quiet ≥ s.polLeak a ∧ q.wasIn ∧ d ≠ 0 then
    (s.wr (REEF_REG_D a) (unsigned 6 (if d > 0 then d - 1 else d + 1))).setArm a { q with quiet := 0 }
  else s

/-- N_s of the arm, clamped (R222). -/
def State.stageTarget (s : State) (a : Nat) (u : Int) : Int × Bool :=
  let n := s.nMod a u + s.rdS (REEF_REG_D a)
  let c := max (-(s.nFull a : Int)) (min (s.nAvail a : Int) n)
  (c, decide (c ≠ n))

/-- Plan one arm: leak, targets, stages, berths, swaps held from the lists, retirement ACTIONs noted. -/
def State.planArm (s : State) (full : Bool) (a : Nat) : State :=
  let s := s.leak a
  let u := s.uRef a s.planK
  let (ns, clamp) := s.stageTarget a u
  let pre := s.armPre a
  let pa := s.stageOf a false pre ns
  let pb := s.stageOf a true pre ns
  let wv := s.polWeave a && !(s.weaveCells a).isEmpty
  let fa := s.stageFin false (pre.forced ++ pa.st)
  let fb := s.stageFin true (pre.forced ++ pb.st)
  let (f, s) := if wv then s.free 16 else (0, s)
  let da := if wv then some (s.duty a u fa f) else none
  let db := if wv then some (s.duty a u fb f) else none
  let bs := s.armBerths a full pre pa pb da db
  let next := s.reef.start + cycU + wcs (s.rd RUN_TIMING_LAG)
  let s := pre.swaps.foldl (fun s x => [x.1, x.2].foldl (fun s g =>
    let s := s.setRec g { s.crec g with hold := next + wcs 1250, served := if g = x.1 then next + wcs (s.polRefW a) else 0 }
    (s.rerank g).reUpdate g) s) s
  let s := (s.cnt (REEF_REF_CNT a) pre.swaps.length).cnt (REEF_REF_DEFER a) pre.defer
  let s := (s.armCells a).foldl (fun s g =>
    let r := s.crec g
    let act := r.nextAction
    if act = 0 then s
    else s.setRec g { r with tries := if act = 1 then r.tries + 1 else r.tries, again := false, actAt := s.reef.cyc + 2 }) s
  let s := (s.wr (REEF_NPLAN_NA a) (unsigned 12 ns)).wr (REEF_NPLAN_NB a) (unsigned 12 ns)
  let cut := (decide (pa.n ≠ ns) && decide (pa.changes ≥ 64)) || (decide (pb.n ≠ ns) && decide (pb.changes ≥ 64))
  let s := if clamp then s.saturate a else if cut then s.wr REEF_STAT_SAT (s.rd REEF_STAT_SAT ||| 2 ^ a) else s
  let s := s.setReef { s.reef with plan := s.reef.plan ++ bs, rot := s.reef.rot ++ [(a, pa.rot, pb.rot)] }
  s.showHeads a

/-- PLAN: word clock 1,100: the planner takes its snapshot and builds both stages of the next ferry for every arm in use
(R225); the stages are full in the cases of R250. -/
def execPlan (s : State) : Host.Outcome State Fault Refusal :=
  if s.inRun ∧ !s.isArbiter then
    let s := s.reefDue
    let full := s.on RUN_STAT_FULL_PEND || decide ((s.reef.cyc + 1) % 256 = 0)
    let s := s.setReef { s.reef with plan := [], rot := [], full := full }
    .next (s.arms.foldl (fun s a => s.planArm full a) s)
  else .next s

/-- SWAP_END: the swap of a cell has ended and the cell returns to its list (R227). -/
def execSwapEnd (g : Nat) (s : State) : Host.Outcome State Fault Refusal :=
  if (s.crec g).hold ≠ 0 then .next ((s.setRec g { s.crec g with hold := 0 }).reUpdate g) else .next s

end Sys2Proof.Machine
end

