-- ==== Sys2Proof/Machine/Reg.lean ====
section
/-! DEFINITION. The arm-current regulator, the charge of the arms, the sending of flash orders (R158 to R160, R205, R207,
R215 to R220, R248). The command FLASH_ORDER_SEND. -/

namespace Sys2Proof.Machine
open Sys2Proof

/-! ### The fast arm-current result (R30, R205, R216) -/

/-- The sounding converter that measures arm a. -/
def State.iSense (s : State) (a : Nat) : Nat := b8 (s.sec T_FRAME 0) (106 + a)

/-- The fast result of arm a in Q16.16 A with the sign of R30, full scale when over range. -/
def State.armI (s : State) (a : Nat) : Int :=
  let n := s.iSense a
  let v := s.resValue n 0 (s.conv1 n).sel
  if b8 (s.sec T_FRAME 0) (100 + a) = 1 then -v else v

def State.armISettle (s : State) (a : Nat) : Bool := let n := s.iSense a; s.on (CONV_RES_SETTLE n 0 (s.conv1 n).sel)
def State.armIOvr (s : State) (a : Nat) : Bool := let n := s.iSense a; s.on (CONV_RES_OVR n 0 (s.conv1 n).sel)

/-- Keep what R246 can ask for: at most 26 results marked SETTLE before the newest valid one, and 27 from there on. -/
def keepRes (rs : List IRes) : List IRes := (rs.takeWhile (·.settle)).take 26 ++ (rs.dropWhile (·.settle)).take 27

/-- The charge of an arm takes a sub-window's result; one marked SETTLE or OVR adds the last valid one (R205). -/
def State.armCharge (s : State) (a : Nat) : State :=
  let q := s.arm a
  let i := s.armI a
  let st := s.armISettle a
  let v := if st || s.armIOvr a then q.lastI else i
  s.setArm a { q with q := q.q + v, qp := q.qp + max v 0, lastI := v, res := keepRes (⟨i, st, s.subNow⟩ :: q.res),
                      gap := q.gap + 1 }

/-! ### The regulator (R216 to R220, R248) -/

/-- The reference i* of the sub-window that has just ended (R298). -/
def ArmSt.ref (q : ArmSt) : Int := q.iref + (q.subs : Int) * q.islope

/-- Flash orders of lane n still due, block-alls and commits apart. -/
def State.dueSingles (s : State) (n : Nat) : Nat :=
  (s.flash.due.filter (fun o => decide (o.lane = n) && decide (o.kind ≠ .blockAll) && decide (o.kind ≠ .commit))).length

/-- A lane has no room for another single order beside the commit still due in this ferry cycle (R159, R248). -/
def State.laneFull (s : State) (n : Nat) : Bool :=
  let c := b2n (s.committing && !s.flash.sentC.contains n)
  decide (tget (fun _ => 0) s.flash.sent n + s.dueSingles n + 1 + c > 19)

/-- This Balgal's lanes on which a single-cell order for g would leave. -/
def State.singleLanes (s : State) (g : Nat) : List Nat := (s.endsOf g).filterMap (fun e => s.endLane (g / 64) e)

/-- The cases of R217 and R248 in which a need is refused. -/
def State.regRefused (s : State) (a : Nat) (up : Bool) (h : Nat) : Bool :=
  let q := s.arm a
  let d := s.rdS (REEF_REG_D a)
  let d' := if up then d + 1 else d - 1
  decide (q.gap < s.polGap a) || decide (q.cyc ≥ s.polMax a) || decide (d'.natAbs > s.polDMax a) || !s.headOk a h
  || decide (s.nNow a ≤ 0) || s.anyNeg a
  || (match s.head a h with | some g => (s.singleLanes g).any s.laneFull | none => true)

/-- D of an arm changes by one (R217, R220). -/
def State.stepD (s : State) (a : Nat) (up : Bool) : State :=
  s.wrS (REEF_REG_D a) (s.rdS (REEF_REG_D a) + (if up then 1 else -1))

/-- A need: refused and counted, or the order becomes due and D follows (R217, R218). -/
def State.regNeed (s : State) (a : Nat) (up : Bool) (i : Int) : State :=
  let h := (if up then 0 else 2) + (if i ≥ 0 then 0 else 1)
  if s.polMax a = 0 ∨ s.regRefused a up h then s.inc (REEF_GOV_CNT a)
  else
    match s.head a h with
    | some g =>
      let s := s.needSingle g (if up then .insertOne else .bypassOne) 0
      let q := s.arm a
      ((s.setArm a { q with gap := 0, cyc := q.cyc + 1, quiet := 0 }).stepD a up).inc (REEF_REG_CNT a)
    | none => s

/-- The judgement of one sub-window: the fast result against i* and the band (R216, R297); a standby sends nothing
(R220). -/
def State.regJudge (s : State) (a : Nat) : State :=
  if s.armISettle a then s
  else
    let i := s.armI a
    let e := i - (s.arm a).ref
    let up := decide (e * 10 > (s.polBandUp a : Int) * 65536)
    let dn := decide (e * 10 < -((s.polBandDn a : Int) * 65536))
    let s := (s.wr (REEF_REG_OUT_UP a) (b2n up)).wr (REEF_REG_OUT_DN a) (b2n dn)
    let s := (s.wrS (REEF_REG_IERR a) (rnd (e * 10) 65536)).wr (REEF_REG_HOLD a) (b2n (decide (s.nNow a ≤ 0) || s.anyNeg a))
    let s := s.setArm a { s.arm a with err := e, inBand := (s.arm a).inBand && !up && !dn }
    if !s.isActive then s else if up then s.regNeed a true i else if dn then s.regNeed a false i else s

/-- One arm at the end of a sub-window. -/
def State.armSub (s : State) (a : Nat) : State :=
  let s := (s.armCharge a).regJudge a
  let q := s.arm a
  let s := s.setArm a { q with subs := q.subs + 1 }
  (s.armCount a).showHeads a

/-! ### Sending flash orders (R158, R159) -/

/-- The order in which orders due on one edge leave (R159); of two block-alls the injector's is the one sent (R534). -/
def flashRank (o : DueOrder) : Nat :=
  match o.kind with
  | .blockAll => if o.d1 = 3 then 0 else 1
  | .commit => 2 | .bypassOne => 3 | .insertOne => 4 | .timeMark => 5 | .wake => 6

/-- The first of the due orders of a lane to leave. -/
def firstDue (os : List DueOrder) : Option DueOrder :=
  os.foldl (fun (o : Option DueOrder) x =>
    match o with
    | none => some x
    | some y => if x.edge < y.edge ∨ (x.edge = y.edge ∧ flashRank x < flashRank y) then some x else some y) none

/-- The cell that an insert-one, bypass-one or wake names. -/
def orderCell (d1 d2 : Nat) : Nat := d1 % 32 * 256 + d2

/-- The state that a single-cell order brings: the POL bit names the polarity. -/
def orderState (k : FlashKind) (d1 : Nat) : Nat :=
  if k = .bypassOne then ST_BYPASS else if d1 ≥ 128 then ST_INSN else ST_INSP

/-- What the Balgal's sorter expects of an order that leaves an end of causeway c (R207); `later` is the relay's time. -/
def State.expectOrder (s : State) (c : Nat) (tail : Bool) (o : DueOrder) (later : Nat) : State :=
  match o.kind with
  | .insertOne | .bypassOne =>
    let g := orderCell o.d1 o.d2
    s.expect ⟨s.ct + wcs (6 + later) + s.cellDelay g tail, g, orderState o.kind o.d1, true⟩
  | .blockAll => (s.cwCells c).foldl (fun s g => s.expect ⟨s.ct + wcs (6 + later) + s.cellDelay g tail, g, ST_BLOCK, true⟩) s
  | _ => s

/-- The active stops committing on the edge of a block-all (R264). -/
def State.blockSent (s : State) : State :=
  let s := { s with flash := { s.flash with lastBA := s.clk.count + 1 } }
  if s.isActive then (s.wr RUN_STAT_HALTED_EV 1).commitOff else s

/-- An order leaves its lane. -/
def State.sendOrder (s : State) (o : DueOrder) : State :=
  let q := s.flash
  let n := o.lane
  let syms := flashSyms o.kind o.d1 o.d2
  let q := { q with
    due := q.due.erase o,
    sentBA := if o.kind = .blockAll then n :: q.sentBA else q.sentBA,
    sentC := if o.kind = .commit then n :: q.sentC else q.sentC,
    sent := if o.kind = .blockAll then q.sent else tset (fun _ => 0) q.sent n (tget (fun _ => 0) q.sent n + 1) }
  let s := { s with flash := q }
  let s := if o.kind = .blockAll then s.blockSent else s
  let s := if o.kind = .commit then { s with tim := { s.tim with committed := true } } else s
  let s := if o.kind = .timeMark then
      let t := s.ct
      ((s.wr (TIME_MARK_TX 0) (ctFrac t)).wr (TIME_MARK_TX 1) (ctNs t)).wr (TIME_MARK_TX 2) (ctSec t) |>.wr (TIME_MARK_TX 3) (ctSec t / 2 ^ 32)
    else s
  if n = relayLane then
    let s := s.emit (.flash n (.d (BitVec.ofNat 8 o.route) :: syms))
    if o.kind = .insertOne ∨ o.kind = .bypassOne then
      s.expectOrder (orderCell o.d1 o.d2 / 64) (!s.tailSide) o (s.rd RUN_MATE_DLY / 16 + 24)
    else s
  else
    let c := s.cwOfLane n
    ((s.inc (CW_FLASH_SENT c)).emit (.flash n syms)).expectOrder c (s.laneTail n) o 0

/-- FLASH_ORDER_SEND: the next due order of lane `n` leaves, within the budget of R159: 19 orders and one block-all in a
ferry cycle. A second block-all is dropped and counted; other orders beyond the budget wait for the next ferry cycle and
are counted once. Mate lane 3 has no budget. -/
def execFlashOrderSend (n : Nat) (s : State) : Host.Outcome State Fault Refusal :=
  let all := s.flash.due.filter (fun o => o.lane = n)
  let out := decide (n ≠ relayLane) && decide (tget (fun _ => 0) s.flash.sent n ≥ 19)
  let s := if out then
      let late := all.filter (fun o => !o.late && decide (o.kind ≠ .blockAll))
      let s := s.cnt (CW_FLASH_DEFER (s.cwOfLane n)) late.length
      { s with flash := { s.flash with due := s.flash.due.map (fun o =>
          if o.lane = n ∧ o.kind ≠ .blockAll then { o with late := true } else o) } }
    else s
  match firstDue (if out then all.filter (fun o => o.kind = .blockAll) else all) with
  | none => .next s
  | some o =>
    if o.kind = .blockAll ∧ n ≠ relayLane ∧ s.flash.sentBA.contains n then
      .next (({ s with flash := { s.flash with due := s.flash.due.erase o } }).inc (CW_FLASH_DEFER (s.cwOfLane n)))
    else .next (s.sendOrder o)

end Sys2Proof.Machine
end

