-- ==== Sys2Proof/Machine/Run.lean ====
section
/-! DEFINITION. Run-ahead in the Balgal: timing and margins, GO and HALT, the stage decision (R239 to R248, R264, R265,
R268). -/

namespace Sys2Proof.Machine
open Sys2Proof

/-! ### Margins (R244) -/

/-- A delay in 1/16 word clocks rounded up to word clocks. -/
def ceil16 (d : Nat) : Nat := (d + 15) / 16

/-- REL of R244. -/
def State.relDelay (s : State) : Nat := if s.redundant then ceil16 (s.rd RUN_MATE_DLY) + 24 else 0

/-- A causeway fails the stage or the commit condition. -/
def State.marginFails (s : State) (c : Nat) : Bool :=
  let t := ceil16 (s.rd (CW_TRING c))
  decide (t + 1218 > s.rd RUN_TIMING_LAG) || decide (t + 16 + s.relDelay > s.rd RUN_TIMING_LEAD)

/-- Check one causeway: its RUN_MARGIN bit, and commit-margin when it fails (R244). -/
def State.marginCheck (s : State) (c : Nat) : State :=
  let bad := s.marginFails c
  let s := s.putBitAt (A_RUN_MARGIN 0) c bad
  let s := s.wr RUN_STAT_MARGIN (b2n (decide (s.rd (RUN_MARGIN 0) ≠ 0 ∨ s.rd (RUN_MARGIN 1) ≠ 0 ∨ s.rd (RUN_MARGIN 2) ≠ 0)))
  if bad then s.raise 0x102 c else s

/-! ### The registers of the RUN block (R243, R265, R268) -/

/-- A write of RUN_TIMING (R243, R244). -/
def State.writeTiming (s : State) (p : Port) (v : Nat) : State :=
  let lag := v % 4096
  let lead := v / 65536 % 4096
  if s.committing ∨ lag < 1235 ∨ lag > 2250 ∨ lag % 5 ≠ 0 ∨ lead < 16 ∨ lead + 1216 > lag then s.range p A_RUN_TIMING
  else
    let s := (s.wr RUN_TIMING_LAG lag).wr RUN_TIMING_LEAD lead
    s.causeways.foldl (fun s c => s.marginCheck c) s

/-- RUN_TIMING_WRITE. -/
def execRunTimingWrite (p : Port) (v : Word) (s : State) : Host.Outcome State Fault Refusal := .next (s.writeTiming p v.toNat)

/-- A write of RUN_SIGN (R268). -/
def State.writeSign (s : State) (p : Port) (v : Nat) : State :=
  if s.committing ∨ v / 65536 % 32 > 25 then s.range p A_RUN_SIGN
  else (s.wr RUN_SIGN_HYST v).wr RUN_SIGN_SLOPE_N (v / 65536)

/-- RUN_SIGN_WRITE. -/
def execRunSignWrite (p : Port) (v : Word) (s : State) : Host.Outcome State Fault Refusal := .next (s.writeSign p v.toNat)

/-- COMMITTING becomes 1, and the first staged ferry is full (R250, R265). -/
def State.commitOn (s : State) : State :=
  let s := s.setReef { s.reef with epochs := [] }
  ((s.wr RUN_STAT_COMMITTING 1).wr RUN_STAT_FULL_PEND 1).observe

/-- RUN_CTRL.GO (R265, R552, R657): the safety section is accepted, the island is in RUN, and no block-all leaves on this
edge. -/
def State.go (s : State) (p : Port) : State :=
  if s.isActive ∧ s.inRun ∧ !s.committing ∧ s.on CHART_STATUS_SAFETY_OK ∧ s.rd SAFE_STAT_STATE = 1
      ∧ s.flash.lastBA ≠ s.clk.count + 1 then s.commitOn
  else s.range p A_RUN_CTRL

/-- GO. -/
def execGo (p : Port) (s : State) : Host.Outcome State Fault Refusal := .next (s.go p)

/-- HALT: a block-all with REASON 0x01 on every causeway lane in use, whatever COMMITTING holds (R264, R265). -/
def execHalt (s : State) : Host.Outcome State Fault Refusal := .next (s.blockAll 1)

/-! ### The stage decision (R246, R247) -/

/-- The decision of an arm: the predicted current in units of 1 / `den` of Q16.16 A. -/
structure IPred where
  num : Int
  den : Int
deriving DecidableEq, Repr

/-- i_p of R246 for a commit instant C. -/
def iPred (q : ArmSt) (n c : Nat) : IPred :=
  match q.res.dropWhile (·.settle) with
  | [] => ⟨q.lastI, 1⟩
  | k :: older =>
    let win := older.take n
    let sub : Int := (80 * nsU : Nat)
    match win.getLast? with
    | none => ⟨k.v, 1⟩
    | some o =>
      if win.length < n ∨ win.any (·.settle) then ⟨k.v, 1⟩
      else
        let h : Int := ((c + 1000 * nsU : Nat) : Int) - k.ct
        ⟨k.v * ((n : Int) * sub) + (k.v - o.v) * h, (n : Int) * sub⟩

/-- i_p against HYST, in 0.1 A: 1 above +HYST, −1 below −HYST, else 0. -/
def IPred.sign (i : IPred) (hyst : Nat) : Int :=
  let x := i.num * 10
  let y := (hyst : Int) * 65536 * i.den
  if x > y then 1 else if x < -y then -1 else 0

/-- i_p in 0.1 A. -/
def IPred.tenths (i : IPred) : Int := rnd (i.num * 10) (65536 * i.den)

/-- The oldest staged epoch of an arm whose stage is undecided. -/
def State.toDecide (s : State) (a : Nat) : Option Epoch := (s.reef.epochs.filter (fun e => !e.done.contains a)).getLast?

/-- The decision of arm a for commit instant c: stage (true B), held. -/
def State.stageChoice (s : State) (a c : Nat) : Bool × Bool × IPred :=
  let q := s.arm a
  let ip := iPred q (s.rd RUN_SIGN_SLOPE_N) c
  let sg := ip.sign (s.rd RUN_SIGN_HYST)
  (if sg > 0 then false else if sg < 0 then true else (q.decided && s.on (RUN_ARM_STAGE a)), sg = 0, ip)

/-- Show a decision in RUN_ARM[a] and count a change of stage. -/
def State.showDecision (s : State) (a : Nat) (d : Bool × Bool × IPred) : State :=
  let q := s.arm a
  let s := if q.decided ∧ (s.on (RUN_ARM_STAGE a) ≠ d.1) then s.inc (RUN_FLIP_CNT a) else s
  let s := ((s.wr (RUN_ARM_STAGE a) (b2n d.1)).wr (RUN_ARM_HELD a) (b2n d.2.1)).wrS (RUN_ARM_IPRED a) d.2.2.tenths
  s.setArm a { s.arm a with decided := true }

/-- The sorter expects the states of the chosen stage of a cell (R207, R256). -/
def State.expectStage (s : State) (e : Epoch) (sB : Bool) (x : Nat × Berth) : State :=
  let st := if sB then x.2.stB else x.2.stA
  let s := if st ≠ ST_HOLD ∧ st ≤ 4 then s.expect ⟨e.ct, x.1, st, false⟩ else s
  if x.2.after ≠ 0 ∧ x.2.stAfter ≠ ST_HOLD then s.expect ⟨e.ct + wcs x.2.after, x.1, x.2.stAfter, false⟩ else s

/-- The sorter follows the chosen stage of an epoch for the cells of an arm: states expected at the commit instant and
after AFTER, and the end of each swap (R207, R227). -/
def State.followStage (s : State) (a : Nat) (e : Epoch) (sB : Bool) : State :=
  (e.cells.filter (fun x => s.armOfCell x.1 = a)).foldl (fun s x =>
    let s := s.expectStage e sB x
    if (s.crec x.1).hold ≠ 0 then
      s.setRec x.1 { s.crec x.1 with hold := e.ct + (if x.2.after ≠ 0 then wcs (s.polRefW a) else 0) }
    else s) s

/-- The commit of an epoch becomes due on every causeway lane of the arm, and on mate lane 3 in a redundant build (R247). -/
def State.needCommit (s : State) (a num stage : Nat) : State :=
  let s := (s.armCws a).foldl (fun s c => (s.lanesOf c).foldl (fun s n => s.needFlash n .commit num stage) s) s
  if s.redundant then s.needRoute relayLane .commit num stage a else s

/-- An epoch has been decided for an arm: RUN_EPOCH, RUN_COMMIT_CNT once per epoch, the last epochs (R246, R267, R268). -/
def State.noteEpoch (s : State) (a : Nat) (e : Epoch) : State :=
  let s := if e.done.isEmpty then
      let s := (s.wr RUN_EPOCH_CURRENT e.num).inc RUN_COMMIT_CNT
      s.setReef { s.reef with lastEp := ((e.num, e.ct) :: s.reef.lastEp).take 3 }
    else s
  s.setReef { s.reef with epochs := s.reef.epochs.map (fun x =>
    if x.num = e.num ∧ x.ct = e.ct then { x with done := a :: x.done } else x) }

/-- STAGE_DECISION: the decision edge of arm `a` for its oldest undecided epoch. The active sets the need for the commit;
a standby decides for its shadow alone (R246, R247, R515). -/
def execStageDecision (a : Nat) (s : State) : Host.Outcome State Fault Refusal :=
  if s.arms.contains a ∧ s.committing ∧ s.isActive then
    match s.toDecide a with
    | none => .next s
    | some e =>
      let d := s.stageChoice a e.ct
      let rot := (e.rot.find? (fun x => x.1 = a)).map (fun x => if d.1 then x.2.2 else x.2.1)
      let s := (s.showDecision a d).cnt (REEF_ROT_CNT a) (rot.getD 0)
      .next (((s.noteEpoch a e).followStage a e d.1).needCommit a e.num (b2n d.1))
  else if s.arms.contains a ∧ s.isStandby ∧ s.commitView then
    match s.toDecide a with
    | none => .next s
    | some e =>
      let d := s.stageChoice a e.ct
      .next { s with red := { s.red with own := (a, b2n d.1, d.2.2.tenths) :: s.red.own.filter (fun x => decide (x.1 ≠ a)) } }
  else .next s

end Sys2Proof.Machine
end

