-- ==== Sys2Proof/Machine/Loop.lean ====
section
/-! DEFINITION. The loop engine: sources, stage types, banks, sinks (R270 to R300). The commands LOOP_PASS_END, SWAP,
LOOP_RESTART and COEF_WRITE. -/

namespace Sys2Proof.Machine
open Sys2Proof

def State.setLoop (s : State) (q : Loop) : State := { s with loop := q }

/-! ### The LOOP section (R301, R302) -/

def State.loopSec (s : State) : List Byte := s.sec T_LOOP 0
def State.slotB (s : State) (n i : Nat) : Nat := b8 s.loopSec (16 + 64 * n + i)
def State.slotType (s : State) (n : Nat) : Nat := s.slotB n 0
def State.slotUsed (s : State) (n : Nat) : Bool := decide (n < 48) && decide (s.slotType n ≠ 0)
/-- Output format: true for Q16.16, false for Q2.30. -/
def State.slotQ16 (s : State) (n : Nat) : Bool := bitOf (s.slotB n 1) 0
def State.slotFlag (s : State) (n j : Nat) : Bool := bitOf (s.slotB n 2) j
def State.slotIn (s : State) (n i : Nat) : Nat := b16 s.loopSec (16 + 64 * n + 4 + 2 * i)
def State.slotSign (s : State) (n i : Nat) : Nat := s.slotB n 12 / 4 ^ i % 4
def State.sinkSrc (s : State) (t : Nat) : Nat := b16 s.loopSec (3088 + 2 * t)

/-- Word Pp of a slot in a bank, as two's complement. -/
def State.coef (s : State) (b n p : Nat) : Int := s.rdS (LOOP_COEF b n p)

/-- Fraction bits of a format. -/
def fracBits (q16 : Bool) : Nat := if q16 then 16 else 30

/-! ### Sources (R275, R276) -/

/-- The step cells of HEALTH usable or derated of an arm. -/
def State.energyCells (s : State) (a : Nat) : List Nat := (s.stepCells a).filter (fun g => decide (s.recHealth g ≤ 1))

/-- Quantity q of arm a: value and validity. -/
def State.armQuantity (s : State) (a q : Nat) : Int × Bool :=
  let cs := s.energyCells a
  let ok := fun l => !((l : List Nat).any s.stale)
  if q = 0 then
    let n := s.iSense a
    let m := (s.conv1 n).sel
    let v := s.resValue n 3 m
    (if b8 (s.sec T_FRAME 0) (100 + a) = 1 then -v else v, s.resOk n 3 m)
  else if q = 1 then
    let n := s.nAvail a
    (if n = 0 then 0 else rnd (s.sumAvail a * 65536) (n * 10000 : Nat), ok (s.availCells a))
  else if q = 2 then (rnd (cs.foldl (fun t g => t + s.vpred g) 0 * 65536) 10000, ok cs)
  else if q = 3 then (s.nNow a * 65536, ok (s.stepCells a))
  else (rnd (cs.foldl (fun t g => t + (s.cellCap g : Int) * s.vpred g * s.vpred g) 0 * 65536) 200000000000000, ok cs)

/-- The present value of a source as 32 bits, and whether it is valid (R275, R276). -/
def State.source (s : State) (code : Nat) : Nat × Bool :=
  if code = 0 then (0, true)
  else if 0x0100 ≤ code ∧ code < 0x0130 then (s.rd (LOOP_OUT (code - 0x0100)), true)
  else if 0x2000 ≤ code ∧ code < 0x2400 then
    let k := (code - 0x2000) / 0x100
    let n := code % 0x100 / 4
    let m := code % 4
    (unsigned 32 (s.resValue n k m), s.resOk n k m)
  else if 0x3000 ≤ code ∧ code < 0x3060 then
    let (v, ok) := s.armQuantity ((code - 0x3000) / 16) (code % 16)
    (unsigned 32 (satInt 32 v), ok)
  else if 0x4000 ≤ code ∧ code < 0x4040 then (s.rd (LOOP_PARAM (code - 0x4000)), true)
  else if code = 0x5000 then (s.rd PROF_SPD, true)
  else if code = 0x5001 then (s.rd PROF_POS, true)
  else if code = 0x5002 then (s.rd PROF_ACC, true)
  else if code = 0x5003 then (s.rd PROF_ANGLE, true)
  else if code = 0x5004 then (s.rd PROF_OMEGA, true)
  else (0, false)

/-- A source code of R275. -/
def State.isSourceCode (s : State) (code : Nat) : Bool :=
  decide (code = 0) || (decide (0x0100 ≤ code) && s.slotUsed (code - 0x0100))
  || (decide (0x2000 ≤ code ∧ code < 0x2400) && decide (code % 0x100 < 96))
  || (decide (0x3000 ≤ code ∧ code < 0x3060) && decide (code % 16 ≤ 4))
  || decide (0x4000 ≤ code ∧ code < 0x4040) || decide (0x5000 ≤ code ∧ code ≤ 0x5004)

/-- How many inputs a slot uses: the numbers of those in use. -/
def State.slotInputs (s : State) (n : Nat) : List Nat :=
  match s.slotType n with
  | 1 | 2 | 3 => [0, 1]
  | 4 => if s.slotFlag n 4 then [0, 1, 2] else [0]
  | 5 => [0, 1, 2, 3].filter (fun i => decide (s.slotSign n i ≠ 0))
  | 6 => [0]
  | _ => []

/-- Latch every source that a slot in use names, apart from slot outputs, which are read as the pass goes (R270, R272). -/
def State.latchSources (s : State) : State :=
  (List.range 48).foldl (fun s n => (s.slotInputs n).foldl (fun s i =>
    let c := s.slotIn n i
    if 0x0100 ≤ c ∧ c < 0x0130 then s
    else
      let (v, ok) := s.source c
      if ok then s.setLoop { s.loop with held := tset (fun _ => 0) s.loop.held c (v + 1) } else s) s) s

/-- Input i of slot n in this pass: its value, whether it is marked SRC, whether it has ever been valid. -/
def State.slotInput (s : State) (n i : Nat) : Int × Bool × Bool :=
  let c := s.slotIn n i
  if 0x0100 ≤ c ∧ c < 0x0130 then (signed 32 (s.rd (LOOP_OUT (c - 0x0100))), false, true)
  else
    let h := tget (fun _ => 0) s.loop.held c
    (signed 32 (h - 1), !(s.source c).2, decide (h ≠ 0))

/-! ### Arithmetic (R279, R280) -/

/-- A value with whether it saturated. -/
def sat32 (v : Int) : Int × Bool := (satInt 32 v, decide (satInt 32 v ≠ v))

/-- The product of a value and a gain, in the format of the value. -/
def gain (v k : Int) (kQ16 : Bool) : Int × Bool := sat32 (rnd (v * k) (2 ^ fracBits kQ16))

def clampI (lo hi v : Int) : Int := max lo (min hi v)

/-! ### One slot -/

def F_AOV : Nat := 1
def F_LIM : Nat := 2
def F_INT : Nat := 4
def F_RATE : Nat := 8
def F_GOV : Nat := 16
def F_SRC : Nat := 32
def F_ORDER : Nat := 64

/-- A flag when a condition holds. -/
def fl (c : Bool) (f : Nat) : Nat := if c then f else 0

/-- The result of a slot's evaluation: output, LOOP_STATE, flags. -/
structure SlotRes where
  out : Int
  st : Nat
  flags : Nat
deriving DecidableEq, Repr

/-- BAND (R283); `hold` keeps the output while COMMITTING is 0 (R290). -/
def State.evalBand (s : State) (b n : Nat) (e : Int) (aov hold : Bool) : SlotRes × State :=
  let out := s.rdS (LOOP_OUT n)
  let hs := ((tget (fun _ => ([] : List Nat)) s.loop.hist n).map (· + 1)).filter (· ≤ 255)
  let w := unsigned 32 (s.coef b n 6)
  let gap := w % 256
  let maxw := w / 256 % 256
  let win := w / 65536 % 256
  let dir : Int := if e > s.coef b n 0 then 1 else if e < -(s.coef b n 1) then -1 else 0
  let (raw, a2) := sat32 (out + dir * s.coef b n 2)
  let new := clampI (s.coef b n 3) (s.coef b n 4) raw
  let cnt := (hs.filter (· < win)).length
  let refuse := decide (hs.headD 255 < gap) || decide (cnt ≥ maxw)
  let want := decide (dir ≠ 0) && !hold
  let lim := want && decide (new ≠ raw) && (decide (new = out) || !refuse)
  let gov := want && decide (new ≠ out) && refuse
  let move := want && decide (new ≠ out) && !refuse
  let hs := if move then 0 :: hs else hs
  let o := if move then new else out
  (⟨o, hs.headD 255 + 256 * min 255 (hs.filter (· < win)).length, fl (aov || (move && a2)) F_AOV + fl lim F_LIM + fl gov F_GOV⟩,
    s.setLoop { s.loop with hist := tset (fun _ => ([] : List Nat)) s.loop.hist n hs })

/-- PI (R284). -/
def State.evalPi (s : State) (b n : Nat) (e : Int) (aov hold : Bool) : SlotRes × State :=
  let prev := s.rdS (LOOP_OUT n)
  let i0 := tget (fun _ => (0 : Int)) s.loop.integ n
  let (p, a1) := gain e (s.coef b n 0) (bitOf (s.slotB n 1) 2)
  let (di, a2) := gain e (s.coef b n 1) (bitOf (s.slotB n 1) 3)
  let (cand, a3) := sat32 (i0 + di)
  let wind := (decide (prev ≥ s.coef b n 5) && decide (di > 0)) || (decide (prev ≤ s.coef b n 4) && decide (di < 0))
  let i1 := if wind then i0 else cand
  let i2 := if hold then i0 else clampI (s.coef b n 2) (s.coef b n 3) i1
  let int := !hold && (wind || decide (i2 ≠ i1))
  let (sum, a4) := sat32 (p + i2)
  let o := clampI (s.coef b n 4) (s.coef b n 5) sum
  (⟨o, unsigned 32 i2, fl (aov || a1 || (!hold && (a2 || (!wind && a3))) || a4) F_AOV + fl (o ≠ sum) F_LIM + fl int F_INT⟩,
    s.setLoop { s.loop with integ := tset (fun _ => (0 : Int)) s.loop.integ n i2 })

/-- RAMP (R285); `start` for a starting pass, `ever` says that B has had a valid value. -/
def State.evalRamp (s : State) (b n : Nat) (x y : Int) (start ever : Bool) : SlotRes × State :=
  let lo := s.coef b n 2
  let hi := s.coef b n 3
  let t := clampI lo hi x
  let due := fun (d : Bool) => s.setLoop { s.loop with start := if d then n :: s.loop.start.erase n else s.loop.start.erase n }
  if start then
    if ever then
      let o := clampI lo hi y
      (⟨o, unsigned 32 t, fl (o ≠ y) F_LIM⟩, due false)
    else (⟨0, unsigned 32 t, 0⟩, due true)
  else
    let out := s.rdS (LOOP_OUT n)
    let (up, a1) := sat32 (out + s.coef b n 0)
    let (dn, a2) := sat32 (out - s.coef b n 1)
    let o := if t > out then min t up else if t < out then max t dn else out
    (⟨o, unsigned 32 t, fl ((decide (t > out) && a1) || (decide (t < out) && a2)) F_AOV + fl (t ≠ x) F_LIM + fl (o ≠ t) F_RATE⟩, s)

/-- LIMIT (R287), SUM and SCALE (R279, R288). -/
def State.evalPlain (s : State) (b n : Nat) (x : Nat → Int) : SlotRes :=
  match s.slotType n with
  | 4 =>
    let (lo, hi) := if s.slotFlag n 4 then (x 1, x 2) else (s.coef b n 0, s.coef b n 1)
    let bad := decide (lo > hi)
    let mid := (lo + hi) / 2
    let o := clampI (if bad then mid else lo) (if bad then mid else hi) (x 0)
    ⟨o, 0, fl (o ≠ x 0) F_LIM + fl bad F_ORDER⟩
  | 5 =>
    let t := [0, 1, 2, 3].foldl (fun t i =>
      if s.slotSign n i = 1 then t + x i else if s.slotSign n i = 2 then t - x i else t) (s.coef b n 0)
    let (o, a) := sat32 t
    ⟨o, 0, fl a F_AOV⟩
  | 6 =>
    let fi := fracBits (bitOf (s.slotB n 1) 1)
    let fk := fracBits (bitOf (s.slotB n 1) 2)
    let fo := fracBits (s.slotQ16 n)
    let (m, a1) := sat32 (rnd (x 0 * s.coef b n 0 * 2 ^ fo) (2 ^ (fi + fk)))
    let (o, a2) := sat32 (m + s.coef b n 1)
    ⟨o, 0, fl (a1 || a2) F_AOV⟩
  | _ => ⟨0, 0, 0⟩

/-- What a pass carries along: the bank, COMMITTING as latched, the slots restarted in this pass. -/
structure PassCtx where
  bank : Nat
  commit : Bool
  go : Bool
deriving DecidableEq, Repr

/-- Set a slot back as at the end of BUILD (R289, R291). -/
def State.slotRestart (s : State) (b n : Nat) : State :=
  match s.slotType n with
  | 1 => (s.wr (LOOP_OUT n) (unsigned 32 (s.coef b n 5))).setLoop
      { s.loop with hist := tset (fun _ => ([] : List Nat)) s.loop.hist n [] }
  | 2 => s.setLoop { s.loop with integ := tset (fun _ => (0 : Int)) s.loop.integ n (s.coef b n 6) }
  | 3 => s.setLoop { s.loop with start := n :: s.loop.start.erase n }
  | _ => s

/-- Show a slot's flags: live, sticky, ready; raise loop-saturation and loop-source where REPORT asks (R281, R282). -/
def State.slotFlags (s : State) (n live : Nat) (ready : Bool) : State :=
  let old := s.rd (LOOP_FLAGS_STICKY n)
  let new := live &&& (127 ^^^ old)
  let s := ((s.wr (LOOP_FLAGS_LIVE n) live).wr (LOOP_FLAGS_READY n) (b2n ready)).wr (LOOP_FLAGS_STICKY n) (old ||| live)
  let s := if s.slotFlag n 3 ∧ new &&& 7 ≠ 0 then s.raise 0x122 0 else s
  if s.slotFlag n 3 ∧ new &&& F_SRC ≠ 0 then s.raise 0x123 0 else s

/-- Evaluate slot n. -/
def State.evalSlot (s : State) (c : PassCtx) (n : Nat) : State :=
  if !s.slotUsed n then s
  else
    let s := if (c.go && s.slotFlag n 1) || s.loop.restart.contains n then s.slotRestart c.bank n else s
    let ins := s.slotInputs n
    let x := fun i => (s.slotInput n i).1
    let src := ins.any (fun i => (s.slotInput n i).2.1)
    let ready := ins.all (fun i => (s.slotInput n i).2.2)
    let ty := s.slotType n
    let (e, a0) := if ty ≤ 3 then sat32 (x 0 - x 1) else (0, false)
    let hold := !c.commit && s.slotFlag n 0
    let (r, t) :=
      if ty = 1 then s.evalBand c.bank n e a0 hold
      else if ty = 2 then s.evalPi c.bank n e a0 hold
      else if ty = 3 then s.evalRamp c.bank n (x 0) (x 1) (hold || s.loop.start.contains n) (s.slotInput n 1).2.2
      else (s.evalPlain c.bank n x, s)
    let t := (t.wr (LOOP_OUT n) (unsigned 32 r.out)).wr (LOOP_STATE n) r.st
    let t := t.setLoop { t.loop with
      err := tset (fun _ => (0 : Int)) t.loop.err n e, inA := tset (fun _ => 0) t.loop.inA n (unsigned 32 (x 0)) }
    t.slotFlags n (r.flags ||| fl src F_SRC ||| tget (fun _ => 0) s.loop.swapFlags n) ready

/-! ### Sinks (R271, R296, R575) -/

/-- The value that sink t takes at the next period start; none while undriven. -/
def State.sinkValue (s : State) (t : Nat) : Option Nat :=
  let c := s.sinkSrc t
  if c = 0 ∨ t ≥ 25 ∨ s.loopSec.isEmpty then none
  else
    let v := (s.source c).1
    some (if c = 0x5003 then (v + b32 (s.sec T_PROF 0) (40 + 4 * (t - 18))) % 2 ^ 32 else v)

/-- Act 1 of R270: every sink takes the output of the last pass, and the arms their references (R298). -/
def State.takeSinks (s : State) : State :=
  let s := (List.range 25).foldl (fun s t =>
    match tget (fun _ => 0) s.loop.next t with
    | 0 => s
    | v + 1 => s.wr (LOOP_SINKV t) v) s
  s.arms.foldl (fun s a => s.setArm a { s.arm a with iref := s.rdS (LOOP_SINKV a), islope := s.rdS (LOOP_SINKV (6 + a)), subs := 0 }) s

/-! ### Coefficient banks (R293, R294) -/

/-- A slot's words in a bank keep to the ranges of its type (R283 to R287). -/
def State.coefOk (s : State) (b n : Nat) : Bool :=
  let p := s.coef b n
  let w := unsigned 32 (p 6)
  match s.slotType n with
  | 1 => decide (1 ≤ p 0) && decide (1 ≤ p 1) && decide (1 ≤ p 2) && decide (p 3 < p 4) && decide (p 3 ≤ p 5)
      && decide (p 5 ≤ p 4) && decide (w / 65536 % 256 ≠ 0) && decide (w < 2 ^ 24)
  | 2 => decide (p 2 ≤ p 3) && decide (p 4 < p 5) && decide (p 2 ≤ p 6) && decide (p 6 ≤ p 3)
  | 3 => decide (1 ≤ p 0) && decide (1 ≤ p 1) && decide (p 2 < p 3)
  | 4 => s.slotFlag n 4 || decide (p 0 ≤ p 1)
  | _ => true

/-- What a change of coefficients does to one slot (R294): `old` and `b` are the banks before and after. -/
def State.swapSlot (s : State) (kpOld : Int) (b n : Nat) : State :=
  match s.slotType n with
  | 2 =>
    let i := tget (fun _ => (0 : Int)) s.loop.integ n
    let i := if s.slotFlag n 2 then
        satInt 32 (i + (gain (kpOld - s.coef b n 0) (tget (fun _ => (0 : Int)) s.loop.err n) (bitOf (s.slotB n 1) 2)).1)
      else i
    let j := clampI (s.coef b n 2) (s.coef b n 3) i
    s.setLoop { s.loop with integ := tset (fun _ => (0 : Int)) s.loop.integ n j,
                            swapFlags := if j ≠ i then tset (fun _ => 0) s.loop.swapFlags n F_INT else s.loop.swapFlags }
  | 1 =>
    let o := s.rdS (LOOP_OUT n)
    let j := clampI (s.coef b n 3) (s.coef b n 4) o
    (s.wr (LOOP_OUT n) (unsigned 32 j)).setLoop { s.loop with
      swapFlags := if j ≠ o then tset (fun _ => 0) s.loop.swapFlags n F_LIM else s.loop.swapFlags }
  | _ => s

/-- Act 2 of R270: a pending swap takes effect or is refused (R294). -/
def State.takeSwap (s : State) : State :=
  if !s.on LOOP_STAT_SWAP_PEND then s
  else
    let old := s.rd LOOP_STAT_BANK
    let b := 1 - old
    let s := s.wr LOOP_STAT_SWAP_PEND 0
    if (List.range 48).any (fun n => s.slotUsed n && !s.coefOk b n) then (s.wr LOOP_STAT_SWAP_REJ 1).rangeBlk 9
    else
      let s := (s.wr LOOP_STAT_BANK b).wr LOOP_STAT_SWAP_EV 1
      (List.range 48).foldl (fun s n => s.swapSlot (s.coef old n 0) b n) s

/-! ### Trace taps: the trigger (R305) -/

def State.tap (s : State) (u : Nat) : Tap := tget (fun _ => Tap.zero) s.loop.taps u
def State.setTap (s : State) (u : Nat) (t : Tap) : State :=
  s.setLoop { s.loop with taps := tset (fun _ => Tap.zero) s.loop.taps u t }

/-- A trigger of tap u. -/
def State.tapTrig (s : State) (u : Nat) : State :=
  if s.on (LOOP_TAP_STAT_TRIGGERED u) then s.inc (LOOP_TAP_STAT_EXTRA u)
  else if !s.on (LOOP_TAP_STAT_RUN u) then s
  else
    let t := s.tap u
    let depth := s.rd (LOOP_TAP_LEN_DEPTH u)
    let post := s.rd (LOOP_TAP_LEN_POST u)
    let pre := decide (s.rd (LOOP_TAP_CFG_MODE u) = 0)
    let s := (s.wr (LOOP_TAP_STAT_TRIGGERED u) 1).wr (LOOP_TAP_STAT_TRIG_IDX u) (t.n % max depth 1)
    let s := s.wr (LOOP_TAP_PRE u) (if pre then min t.n (depth - post) else 0)
    s.setTap u { t with left := if pre then post else depth }

/-- Every tap whose TRIG_SRC has the bit triggers. -/
def State.tapsBy (s : State) (bit : Nat) (p : Nat → Bool) : State :=
  (List.range 16).foldl (fun s u => if bitOf (s.rd (LOOP_TAP_CFG_TRIG_SRC u)) bit && p u then s.tapTrig u else s) s

/-- The slot that a node code names. -/
def nodeSlot (c : Nat) : Option Nat :=
  if 0x0100 ≤ c ∧ c < 0x0130 then some (c - 0x0100)
  else if 0x6000 ≤ c ∧ c < 0x6300 ∧ c % 0x100 < 48 then some (c % 0x100) else none

/-! ### The pass (R270 to R274, R277, R290, R291) -/

/-- Acts 4 and the evaluation: the sources are latched and every slot is evaluated in ascending number; the sinks'
next values are fixed. -/
def State.loopPass (s : State) : State :=
  if s.loopSec.isEmpty then s
  else
    let commit := s.commitView
    let go := commit && s.loop.sawOff
    let s := s.latchSources
    let s := (s.wr LOOP_STAT_PASS 1).wr LOOP_STAT_IDLE (b2n !commit)
    let c : PassCtx := ⟨s.rd LOOP_STAT_BANK, commit, go⟩
    let was := (List.range 48).map (fun n => s.rd (LOOP_FLAGS_STICKY n))
    let s := (List.range 48).foldl (fun s n => s.evalSlot c n) s
    let fresh := (List.range 48).filter (fun n => s.rd (LOOP_FLAGS_STICKY n) ≠ was.getD n 0)
    let s := s.tapsBy 1 (fun u => match nodeSlot (s.rd (LOOP_TAP_CFG_NODE u)) with | some n => fresh.contains n | none => false)
    s.setLoop { s.loop with
      restart := [], swapFlags := [], sawOff := !commit,
      next := (List.range 25).filterMap (fun t => (s.sinkValue t).map (fun v => (t, v + 1))) }

/-- The slots start as at the end of BUILD (R289). -/
def State.loopBuild (s : State) : State :=
  let s := s.setLoop { Loop.zero with taps := s.loop.taps, sawOff := true }
  (List.range 48).foldl (fun s n => (s.wr (LOOP_OUT n) 0).slotRestart 0 n) s

/-! ### Trace taps: samples (R304, R305) -/

/-- The value of a node as 32 bits. -/
def State.nodeValue (s : State) (c : Nat) : Nat :=
  if 0x6000 ≤ c ∧ c < 0x6100 then unsigned 32 (tget (fun _ => (0 : Int)) s.loop.err (c - 0x6000))
  else if 0x6100 ≤ c ∧ c < 0x6200 then unsigned 32 (tget (fun _ => (0 : Int)) s.loop.integ (c - 0x6100))
  else if 0x6200 ≤ c ∧ c < 0x6300 then tget (fun _ => 0) s.loop.inA (c - 0x6200)
  else if 0x7000 ≤ c ∧ c < 0x7020 then s.rd (LOOP_SINKV (c - 0x7000))
  else if 0x7800 ≤ c ∧ c < 0x7806 then unsigned 32 (satInt 32 (s.arm (c - 0x7800)).err)
  else (s.source c).1

/-- Sample tap u at one of its instants. -/
def State.tapSample (s : State) (u : Nat) : State :=
  let t := s.tap u
  let depth := s.rd (LOOP_TAP_LEN_DEPTH u)
  let trig := s.on (LOOP_TAP_STAT_TRIGGERED u)
  if !s.on (LOOP_TAP_STAT_RUN u) ∨ depth = 0 ∨ (trig ∧ t.left = 0) ∨ (!trig ∧ s.rd (LOOP_TAP_CFG_MODE u) = 1) then s
  else
    let a := s.rd LOOP_TRACE_BASE_BASE * 262144 + u * 16384 + 4 * (t.n % depth)
    let s := s.setBytes a (leBytes 4 (s.nodeValue (s.rd (LOOP_TAP_CFG_NODE u))))
    let s := if t.n + 1 ≥ depth then s.wr (LOOP_TAP_STAT_FULL u) 1 else s
    s.setTap u ⟨t.n + 1, if trig then t.left - 1 else t.left⟩

/-- Every tap of a RATE takes its sample. -/
def State.tapsAt (s : State) (rate : Nat) : State :=
  (List.range 16).foldl (fun s u => if s.rd (LOOP_TAP_CFG_RATE u) = rate then s.tapSample u else s) s

/-! ### The commands -/

/-- LOOP_PASS_END: the pass in progress completes: PASS_EV, READY, the scheduler event, the taps of RATE 0 (R274, R277,
R304). -/
def execLoopPassEnd (s : State) : Host.Outcome State Fault Refusal :=
  if !s.on LOOP_STAT_PASS then .next s
  else
    let ready := (List.range 48).all (fun n => !s.slotUsed n || s.on (LOOP_FLAGS_READY n))
    let s := ((s.wr LOOP_STAT_PASS 0).wr LOOP_STAT_PASS_EV 1).wr LOOP_STAT_READY (b2n ready)
    let s := (s.incW LOOP_PASS_CNT).tapsAt 0
    .next (if s.on LOOP_EVT_EN then s.setFlags (s.rd LOOP_EVT_TASK) (2 ^ s.rd LOOP_EVT_FLAG) else s)

/-- SWAP: LOOP_CTRL.SWAP (R294). -/
def execSwap (s : State) : Host.Outcome State Fault Refusal := .next (s.wr LOOP_STAT_SWAP_PEND 1)

/-- A write of LOOP_RESTART (R292). -/
def State.writeRestart (s : State) (p : Port) (v : Nat) : State :=
  if !(bitOf v 31) then s
  else if s.slotUsed (v % 64) then s.setLoop { s.loop with restart := v % 64 :: s.loop.restart.erase (v % 64) }
  else s.range p A_LOOP_RESTART

/-- LOOP_RESTART. -/
def execLoopRestart (p : Port) (v : Word) (s : State) : Host.Outcome State Fault Refusal := .next (s.writeRestart p v.toNat)

/-- A write of word `w` of slot `n` in bank `b` (R293); words of unused slots ignore it (R308). -/
def State.writeCoef (s : State) (p : Port) (b n w : Nat) (v : Word) : State :=
  if !s.slotUsed n then s
  else if s.rd LOOP_STAT_BANK = b ∨ s.on LOOP_STAT_SWAP_PEND then s.range p (A_LOOP_COEF b n w)
  else s.wrW (A_LOOP_COEF b n w) v

/-- COEF_WRITE. -/
def execCoefWrite (p : Port) (b n w : Nat) (v : Word) (s : State) : Host.Outcome State Fault Refusal :=
  if b < 2 ∧ n < 48 ∧ w < 8 then .next (s.writeCoef p b n w v) else .next s

end Sys2Proof.Machine
end

