-- ==== Sys2Proof/Machine/Taps.lean ====
section
/-! DEFINITION. The commands of the trace taps (R304 to R307): TAP_ARM, TAP_TRIG, TAP_STOP, TAP_DONE, TRACE_BASE_WRITE. -/

namespace Sys2Proof.Machine
open Sys2Proof

/-- CT of the next sampling instant of a RATE: the end of the next pass, the next ferry-cycle start, the next sub-window
end (R304). -/
def State.nextInstant (s : State) (rate : Nat) : Nat :=
  if rate = 1 then s.reef.start + cycU
  else if rate = 2 then s.subNow + 80 * nsU
  else
    let period := s.reef.start - s.reef.ferry * cycU
    (if s.on LOOP_STAT_PASS then period else period + s.rd TIME_CP_CP_FERRIES * cycU) + wcs 392

/-- A node code of R275 or R304. -/
def State.isNode (s : State) (c : Nat) : Bool :=
  s.isSourceCode c
  || (match nodeSlot c with | some n => s.slotUsed n && (decide (c / 0x100 ≠ 0x61) || decide (s.slotType n = 2)) | none => false)
  || decide (0x7000 ≤ c ∧ c < 0x7020) || (decide (0x7800 ≤ c ∧ c < 0x7806) && s.arms.contains (c - 0x7800))

/-- LOOP_TAP_CTRL[u].ARM (R305, R306). -/
def State.tapArm (s : State) (p : Port) (u : Nat) : State :=
  let depth := s.rd (LOOP_TAP_LEN_DEPTH u)
  let post := s.rd (LOOP_TAP_LEN_POST u)
  let rate := s.rd (LOOP_TAP_CFG_RATE u)
  if post > depth ∨ rate = 3 ∨ !s.isNode (s.rd (LOOP_TAP_CFG_NODE u)) then s.range p (A_LOOP_TAP_CTRL u)
  else
    let s := (s.wrW (A_LOOP_TAP_STAT u) 0).wrW (A_LOOP_TAP_PRE u) 0
    let t := s.nextInstant rate
    let s := (s.wr (LOOP_TAP_T0_NS u) (ctNs t)).wr (LOOP_TAP_T0_SEC u) (ctSec t)
    let s := s.setTap u Tap.zero
    if depth = 0 then (s.wr (LOOP_TAP_STAT_FULL u) 1).wr (LOOP_TAP_STAT_DONE u) 1 else s.wr (LOOP_TAP_STAT_RUN u) 1

/-- TAP_ARM. -/
def execTapArm (p : Port) (u : Nat) (s : State) : Host.Outcome State Fault Refusal :=
  if u < 16 then .next (s.tapArm p u) else .next s

/-- TAP_TRIG: LOOP_TAP_CTRL[u].TRIG. -/
def execTapTrig (u : Nat) (s : State) : Host.Outcome State Fault Refusal :=
  if u < 16 then .next (s.tapTrig u) else .next s

/-- Recording ends with DONE. -/
def State.tapEnd (s : State) (u : Nat) : State :=
  if s.on (LOOP_TAP_STAT_RUN u) then (s.wr (LOOP_TAP_STAT_RUN u) 0).wr (LOOP_TAP_STAT_DONE u) 1 else s

/-- TAP_STOP: LOOP_TAP_CTRL[u].STOP (R306). -/
def execTapStop (u : Nat) (s : State) : Host.Outcome State Fault Refusal :=
  if u < 16 then .next (s.tapEnd u) else .next s

/-- TAP_DONE: a triggered tap has recorded its POST or DEPTH samples (R305). -/
def execTapDone (u : Nat) (s : State) : Host.Outcome State Fault Refusal :=
  if u < 16 ∧ s.on (LOOP_TAP_STAT_TRIGGERED u) ∧ (s.tap u).left = 0 then .next (s.tapEnd u) else .next s

/-- A write of LOOP_TAP_CTRL[u]: ARM, then TRIG, then STOP; a trigger on the ARM edge follows the ARM (R305). -/
def State.writeTapCtrl (s : State) (p : Port) (u v : Nat) : State :=
  let s := if bitOf v 0 then s.tapArm p u else s
  let s := if bitOf v 1 then s.tapTrig u else s
  if bitOf v 2 then s.tapEnd u else s

/-- A write of LOOP_TAP_CFG[u] or LOOP_TAP_LEN[u] (R306); DEPTH and POST go up to 4,096. -/
def State.writeTap (s : State) (p : Port) (u a v : Nat) : State :=
  if s.on (LOOP_TAP_STAT_RUN u) ∨ (a = A_LOOP_TAP_LEN u ∧ (v % 8192 > 4096 ∨ v / 65536 % 8192 > 4096)) then s.range p a
  else if a = A_LOOP_TAP_LEN u then (s.wr (LOOP_TAP_LEN_DEPTH u) v).wr (LOOP_TAP_LEN_POST u) (v / 65536)
  else s.wrW a (BitVec.ofNat 32 (v % 2 ^ 21))

/-- A write of LOOP_TRACE_BASE (R307): every value of BASE keeps the area within SRAM. -/
def State.writeTraceBase (s : State) (p : Port) (v : Nat) : State :=
  if (List.range 16).any (fun u => s.on (LOOP_TAP_STAT_RUN u)) then s.range p A_LOOP_TRACE_BASE
  else s.wr LOOP_TRACE_BASE_BASE (v / 262144)

/-- TRACE_BASE_WRITE. -/
def execTraceBaseWrite (p : Port) (v : Word) (s : State) : Host.Outcome State Fault Refusal := .next (s.writeTraceBase p v.toNat)

end Sys2Proof.Machine
end

