-- ==== Sys2Proof/Machine/RecCheck.lean ====
section
/-! DEFINITION. The recorder's set-up and the rules it must keep (R426, R427), shared by the chart's checks and by the
entry into FILL. -/

namespace Sys2Proof.Machine
open Sys2Proof

/-- The set-up of a trigger engine. -/
structure EngCfg where
  type : Nat
  pol : Nat
  either : Nat
  rate : Nat
  capture : Nat
  qual : Nat
  holdMode : Nat
  source : Nat
  n : Nat
  level : Int
  aux : Int
  hold : Nat
  mask : Nat
deriving DecidableEq, Repr

/-- The set-up of the recorder; base and size in units of 65,536 bytes. -/
structure RecCfg where
  base : Nat
  size : Nat
  pre : Nat
  post : Nat
  ch : Nat
  rate : Nat
  segs : Nat
  chans : List Nat
  engs : List EngCfg
deriving DecidableEq, Repr

/-- What the rules of R427 ask of the rest of the set-up: the stream rings as (base, bytes), whether a code is a source or
a node, whether a converter code names an enabled input, whether G names a cell. -/
structure RecEnv where
  rings : List (Nat × Nat)
  node : Nat → Bool
  input : Nat → Bool
  cell : Nat → Bool

def isConvCode (c : Nat) : Bool := decide (0x2000 ≤ c ∧ c < 0x2400) && decide (c % 0x100 < 96)

/-- A source or node code that may be judged or recorded. -/
def RecEnv.good (v : RecEnv) (c : Nat) : Bool := v.node c && (!isConvCode c || v.input c)

/-- The two's complement 32-bit ranges of R426 for one engine. -/
def EngCfg.ok (c : EngCfg) (e : Nat) (all : List EngCfg) (v : RecEnv) : Bool :=
  if c.type = 0 then
    decide (c.pol = 0 ∧ c.either = 0 ∧ c.rate = 0 ∧ c.capture = 0 ∧ c.holdMode = 0 ∧ c.source = 0 ∧ c.n = 0
      ∧ c.level = 0 ∧ c.aux = 0 ∧ c.hold = 0 ∧ c.mask = 0)
  else
    let timed := c.type = 6 || c.type = 7
    decide (c.type ≤ 7) && decide (c.rate ≤ 2) && decide (c.holdMode ≤ 2)
    && (decide (c.either = 0) || decide (c.type = 2))
    && (if timed then decide (c.source = 0 ∧ c.level = 0)
        else if c.type = 5 then isConvCode c.source && v.input c.source else v.good c.source)
    && (decide (c.qual = 0xFF) ||
        (decide (c.qual < 8 ∧ c.qual ≠ e) && (let t := ((all.map EngCfg.type).getD c.qual 0); t = 1 || t = 3)))
    && (if c.type = 4 then decide (1 ≤ c.n ∧ c.n ≤ 64) else decide (c.n = 0))
    && (if c.type = 2 then decide (0 ≤ c.aux) else if c.type = 3 then decide (c.level ≤ c.aux) else decide (c.aux = 0))
    && (if c.type = 5 ∨ c.type = 7 then decide (c.mask < 8) else decide (c.mask = 0))
    && (if c.holdMode = 0 then decide (c.hold = 0)
        else if c.holdMode = 1 then decide (1 ≤ c.hold ∧ c.hold ≤ 1000000) else decide (1 ≤ c.hold ∧ c.hold ≤ 65535))

/-- Two ranges of addresses overlap. -/
def overlaps (a la b lb : Nat) : Bool := decide (a < b + lb) && decide (b < a + la)

/-- The rules of R427, apart from REC_SIZE 0. -/
def RecCfg.ok (c : RecCfg) (v : RecEnv) : Bool :=
  decide (4 ≤ c.size ∧ c.size ≤ 256 ∧ c.base + c.size ≤ 1024)
  && !(v.rings.any (fun r => overlaps (c.base * 65536) (c.size * 65536) r.1 r.2))
  && decide (c.pre ≤ 16777215 ∧ c.post ≤ 16777215 ∧ c.ch ≤ 16 ∧ c.rate ≤ 2)
  && [1, 2, 4, 8, 16, 32, 64].contains c.segs
  && (List.range 16).all (fun i =>
      let s := c.chans.getD i 0
      if i < c.ch then
        (if 0x8000 ≤ s then v.cell (s - 0x8000) && decide (c.rate ≠ 0) else v.good s)
      else decide (s = 0))
  && (List.range 8).all (fun e => match c.engs[e]? with | some g => g.ok e c.engs v | none => true)

/-- The set-up in the registers. -/
def State.recCfg (s : State) : RecCfg :=
  { base := s.rd ACQ_REC_BASE_BASE, size := s.rd ACQ_REC_SIZE, pre := s.rd ACQ_REC_PRE, post := s.rd ACQ_REC_POST,
    ch := s.rd ACQ_REC_CFG_CH, rate := s.rd ACQ_REC_CFG_RATE, segs := s.rd ACQ_REC_CFG_SEGS,
    chans := (List.range 16).map (fun i => s.rd (ACQ_CHAN i)),
    engs := (List.range 8).map (fun e =>
      { type := s.rd (ACQ_ENG_CFG_TYPE e), pol := s.rd (ACQ_ENG_CFG_POL e), either := s.rd (ACQ_ENG_CFG_EITHER e),
        rate := s.rd (ACQ_ENG_CFG_RATE e), capture := s.rd (ACQ_ENG_CFG_CAPTURE e), qual := s.rd (ACQ_ENG_CFG_QUAL e),
        holdMode := s.rd (ACQ_ENG_CFG_HOLD_MODE e), source := s.rd (ACQ_ENG_SRC_SOURCE e), n := s.rd (ACQ_ENG_SRC_N e),
        level := s.rdS (ACQ_ENG_LEVEL e), aux := s.rdS (ACQ_ENG_AUX e), hold := s.rd (ACQ_ENG_HOLD e),
        mask := s.rd (ACQ_ENG_SRC_MASK e) }) }

/-- The rings, sources and cells of the running set-up. -/
def State.recEnv (s : State) : RecEnv :=
  { rings := (List.range 24).map (fun n => (s.rd (CONV_STREAM_BASE_BASE n) * 16, s.rd (CONV_STREAM_SIZE n) * 16)),
    node := s.isNode,
    input := fun c => bitOf (cfgMask (s.convWant (c % 0x100 / 4))) (c % 4),
    cell := s.isCell }

end Sys2Proof.Machine
end

