-- ==== Sys2Proof/Machine/Rec.lean ====
section
/-! DEFINITION. The recorder: rows, captures and trigger engines (R426 to R444). The commands REC_ARM, REC_FORCE,
REC_STOP, RECORDER_ROW, AUTO_TRIGGER, HOLDOFF_END, SEG_FREE and ENGINE_LEVEL_WRITE. -/

namespace Sys2Proof.Machine
open Sys2Proof

def RS_IDLE : Nat := 0
def RS_FILL : Nat := 1
def RS_READY : Nat := 2
def RS_POST : Nat := 3

def State.setRecd (s : State) (r : Recd) : State := { s with recd := r }
def State.recState (s : State) : Nat := s.rd ACQ_REC_STAT_STATE
/-- The chart gives the Balgal a recorder (R426, R444). -/
def State.hasRec (s : State) : Bool := s.on ACQ_REC_SIZE

def State.rowBytes (s : State) : Nat := 8 + 4 * s.rd ACQ_REC_CFG_CH
def State.segBytes (s : State) : Nat := s.rd ACQ_REC_SIZE * 65536 / max (s.rd ACQ_REC_CFG_SEGS) 1
def State.segBase (s : State) : Nat := s.rd ACQ_REC_BASE_BASE * 65536 + s.rd ACQ_REC_STAT_SEG * s.segBytes

/-- CT in units of 0.1 ns, 1/16 word clock. -/
def State.ctTenth (s : State) : Nat := s.ct * 10 / nsU

/-! ### Entry into FILL (R430, R431, R435) -/

/-- Segments whose bit of ACQ_SEG_FULL is 0. -/
def State.segFull (s : State) (j : Nat) : Bool := bitOf (s.rd (ACQ_SEG_FULL (j / 32))) (j % 32)

/-- The segment that the next capture takes. -/
def State.nextSeg (s : State) : Option Nat :=
  match (List.range (s.rd ACQ_REC_CFG_SEGS)).find? (fun j => !s.segFull j) with
  | some j => some j
  | none => if s.on ACQ_REC_CFG_OVERWRITE then s.recd.caps.head? else none

/-- The grants of PRE and POST against a capacity (R430). -/
def grantRows (pre post c : Nat) : Nat × Nat :=
  if pre + post ≤ c then (pre, post)
  else if post = 0 then (min pre c, 0)
  else (min pre (c - 1), min post (c - min pre (c - 1)))

/-- READY where the pre-trigger part is full. -/
def State.recReady (s : State) : State :=
  if s.recState = RS_FILL ∧ s.recd.rows ≥ s.rd ACQ_REC_GPRE then
    (s.wr ACQ_REC_STAT_STATE RS_READY).setRecd { s.recd with readyAt := s.clk.count }
  else s

/-- The recorder enters FILL in a segment: capacity, grants, a fresh ring (R430, R442). -/
def State.recFill (s : State) (seg : Nat) : State :=
  let c := (s.segBytes - 128) / s.rowBytes
  let pre := s.rd ACQ_REC_PRE
  let post := s.rd ACQ_REC_POST
  let (gp, gq) := grantRows pre post c
  let clip := decide (c < pre + post)
  let s := if clip then s.rangeBlk (blkOf A_ACQ_REC_CTRL) else s
  let s := ((s.wr ACQ_REC_C c).wr ACQ_REC_GPRE gp).wr ACQ_REC_GPOST gq
  let s := ((s.wr ACQ_REC_STAT_SEG seg).wr ACQ_REC_STAT_D 0).wr ACQ_REC_STAT_CLIP (b2n clip)
  let s := s.wr ACQ_REC_STAT_STATE RS_FILL
  let q := { s.recd with rows := 0, trigRow := 0, trigNext := false, pre := 0, left := 0, extra := 0, fires := 0, how := 0 }
  let q := { q with rearm := 0, edges := 0, stepped := false, dropped := false, stepRow := 0, gapRow := 0, acc := [] }
  (s.setRecd q).recReady

/-- An entry into FILL: the set-up is checked against R427 and a segment found; without one, IDLE with FULL_EV. -/
def State.recEnter (s : State) : State :=
  let s := s.setRecd { s.recd with rearm := 0 }
  if !(s.recCfg.ok s.recEnv) then s.rangeBlk (blkOf A_ACQ_REC_CTRL)
  else
    match s.nextSeg with
    | some j => s.recFill j
    | none => s.wr ACQ_REC_STAT_FULL_EV 1

/-- Every engine is unprimed (R438). -/
def State.unprime (s : State) : State :=
  let s := (List.range 8).foldl (fun s e => s.wr (ACQ_ENG_STAT_PRIMED e) 0) s
  s.setRecd { s.recd with engs := s.recd.engs.map (fun x => (x.1, { x.2 with rise := false, fall := false })) }

/-- ACQ_REC_CTRL.ARM (R431, R433). -/
def State.recArm (s : State) (p : Port) : State :=
  if !s.hasRec then s
  else if s.recState ≠ RS_IDLE then s.range p A_ACQ_REC_CTRL
  else s.unprime.recEnter

/-! ### The end of a capture (R435, R436) -/

/-- The header of the capture that ends (R436). -/
def State.recHeader (s : State) (short : Bool) : List Byte :=
  let q := s.recd
  let c := max (s.rd ACQ_REC_C) 1
  let trig := if q.trigRow = 0 then q.rows else q.trigRow - 1
  let role := s.sec T_ROLE 0
  let first := trig - q.pre
  let post := q.rows - trig
  let fl := q.how % 2 + 2 * s.rd ACQ_REC_STAT_CLIP + 4 * b2n short + 8 * b2n (decide (q.stepRow > first))
    + 16 * b2n (decide (q.gapRow > first)) + 32 * (q.how / 2)
  let body :=
    leBytes 4 (s.rd ACQ_REC_CAP + 1) ++ leBytes 12 (ct96 q.fireCt) ++ leBytes 12 q.cross
    ++ leBytes 4 q.pre ++ leBytes 4 post ++ leBytes 4 (first % c)
    ++ leBytes 4 (if q.trigRow = 0 then 0xFFFFFFFF else trig % c)
    ++ [BitVec.ofNat 8 q.fires, BitVec.ofNat 8 fl, BitVec.ofNat 8 (s.rd ACQ_REC_STAT_D), BitVec.ofNat 8 q.extra]
    ++ [BitVec.ofNat 8 (s.rd ACQ_REC_CFG_CH), BitVec.ofNat 8 (s.rd ACQ_REC_CFG_RATE),
        BitVec.ofNat 8 (b8 role 2), BitVec.ofNat 8 (b8 role 0)]
    ++ leBytes 4 q.chartId
    ++ (List.range 16).flatMap (fun i => leBytes 2 (s.rd (ACQ_CHAN i)))
    ++ List.replicate 36 0
  body ++ leBytes 4 (crc32 body)

/-- The capture ends: header, ACQ_SEG_FULL, DONE_EV, route 0x38, the number; then IDLE, to rearm on the next row edge. -/
def State.recEnd (s : State) (short : Bool) : State :=
  let seg := s.rd ACQ_REC_STAT_SEG
  let s := s.setRecd { s.recd with queue := s.recd.queue ++ [(s.segBase, s.recHeader short)] }
  let s := s.wr (ACQ_SEG_FULL (seg / 32)) (s.rd (ACQ_SEG_FULL (seg / 32)) ||| 2 ^ (seg % 32))
  let s := ((s.wr ACQ_REC_STAT_DONE_EV 1).fireRoute 0x38).incW ACQ_REC_CAP
  let s := s.wr ACQ_REC_STAT_STATE RS_IDLE
  s.setRecd { s.recd with
    caps := s.recd.caps.erase seg ++ [seg],
    rearm := if s.on ACQ_REC_CFG_REARM then s.clk.count + 1 else 0 }

/-! ### Triggers (R432 to R434) -/

/-- CROSS_CT: the instant of the lowest-numbered EDGE engine among those that fired, else FIRE_CT (R436). -/
def State.crossCt (s : State) (fires : Nat) : Nat :=
  match (List.range 8).find? (fun e => bitOf fires e && decide (s.rd (ACQ_ENG_CFG_TYPE e) = 2)) with
  | some e => s.rd (ACQ_ENG_T e 0) + 2 ^ 18 * s.rd (ACQ_ENG_T e 1) + 2 ^ 48 * s.rd (ACQ_ENG_T e 2)
      + 2 ^ 80 * s.rd (ACQ_ENG_T e 3)
  | none => ct96 s.ct

/-- A capture trigger from the engines in `fires`, or forced (`how` 1) or automatic (`how` 2). -/
def State.recTrigger (s : State) (fires how : Nat) : State :=
  let q := s.recd
  let st := s.recState
  if st = RS_IDLE then s.inc ACQ_TRIG_LOST
  else if st = RS_POST then
    if q.trigAt = s.clk.count + 1 then
      let f := q.fires ||| fires
      s.setRecd { q with fires := f, how := q.how ||| how, cross := s.crossCt f }
    else s.setRecd { q with extra := min (q.extra + 1) 255 }
  else
    let s := s.setRecd { q with
      trigNext := true, pre := min q.rows (s.rd ACQ_REC_GPRE), left := s.rd ACQ_REC_GPOST, trigAt := s.clk.count + 1,
      fireCt := s.ct, fires := fires, how := how, cross := s.crossCt fires, chartId := s.rd CHART_ID }
    let s := (s.wr ACQ_REC_STAT_STATE RS_POST).tapsBy 0 (fun _ => true)
    if s.recd.left = 0 then s.recEnd false else s

/-! ### Trigger engines (R437 to R441) -/

def State.eng (s : State) (e : Nat) : Eng := tget (fun _ => Eng.zero) s.recd.engs e
def State.setEng (s : State) (e : Nat) (g : Eng) : State :=
  s.setRecd { s.recd with engs := tset (fun _ => Eng.zero) s.recd.engs e g }

/-- The last event instant of engine e, in 0.1 ns of CT. -/
def State.setEngT (s : State) (e t : Nat) : State :=
  let u := t * nsU / 10
  let s := (s.wr (ACQ_ENG_T e 0) (ctFrac u)).wr (ACQ_ENG_T e 1) (ctNs u)
  (s.wr (ACQ_ENG_T e 2) (ctSec u)).wr (ACQ_ENG_T e 3) (ctSec u / 2 ^ 32)

/-- The present sample of a source: its value, its flags (SETTLE 1, OVR 2, FULL 4), its midpoint in 0.1 ns. -/
def State.engSample (s : State) (c : Nat) : Int × Nat × Int :=
  if isConvCode c then
    let k := (c - 0x2000) / 0x100
    let n := c % 0x100 / 4
    let m := c % 4
    let f := b2n (s.on (CONV_RES_SETTLE n k m)) + 2 * b2n (s.on (CONV_RES_OVR n k m)) + 4 * b2n (s.on (CONV_RES_FULL n k m))
    (s.resValue n k m, f, (tget (fun _ => (Win.zero, (0 : Int))) s.conv.last (resKey n k m)).2)
  else (signed 32 (s.nodeValue c), 0, (s.ctTenth : Int))

/-- An EDGE engine judges v (R438): the engine after, and the event. -/
def Eng.edge (g : Eng) (pol either : Nat) (level aux v : Int) : Eng × Bool :=
  let up := decide (pol = 0 ∨ either = 1)
  let down := decide (pol = 1 ∨ either = 1)
  let fr := up && g.rise && decide (v ≥ level)
  let ff := down && g.fall && decide (v ≤ level)
  ({ g with rise := up && ((g.rise && !fr) || decide (v < level - aux)),
            fall := down && ((g.fall && !ff) || decide (v > level + aux)) }, fr || ff)

/-- Engine e judges one sample: EVENT, PRIMED and the event instant follow (R437 to R439). -/
def State.engJudge (s : State) (e : Nat) : State :=
  let ty := s.rd (ACQ_ENG_CFG_TYPE e)
  let c := s.rd (ACQ_ENG_SRC_SOURCE e)
  let (v, f, mid) := s.engSample c
  let g := s.eng e
  let level := s.rdS (ACQ_ENG_LEVEL e)
  let aux := s.rdS (ACQ_ENG_AUX e)
  let pol := s.rd (ACQ_ENG_CFG_POL e)
  if ty = 5 then
    let ev := f &&& s.rd (ACQ_ENG_SRC_MASK e) ≠ 0
    let s := s.wr (ACQ_ENG_STAT_EVENT e) (b2n ev)
    if ev then s.setEngT e s.ctTenth else s
  else if f % 2 = 1 then s
  else
    let ge := if ty = 2 then g.edge pol (s.rd (ACQ_ENG_CFG_EITHER e)) level aux v else (g, false)
    let inside := fun x : Int => decide (level ≤ x ∧ x ≤ aux)
    let ev :=
      if ty = 1 then (if pol = 0 then decide (v > level) else decide (v < level))
      else if ty = 2 then ge.2
      else if ty = 3 then
        (match g.vals.head? with | none => false | some w => if pol = 0 then inside w && !inside v else !inside w && inside v)
      else
        (match g.vals[s.rd (ACQ_ENG_SRC_N e) - 1]? with
         | none => false
         | some w => if pol = 0 then decide (v - w ≥ level) else decide (w - v ≥ level))
    let s := (s.wr (ACQ_ENG_STAT_EVENT e) (b2n ev)).wr (ACQ_ENG_STAT_PRIMED e) (b2n (ge.1.rise || ge.1.fall))
    let s := s.setEng e { ge.1 with vals := (v :: g.vals).take 64, mid := mid }
    if ev then
      if ty = 2 then
        let va := g.vals.headD v
        let t : Int := if v = va then mid else (2 * ((mid - g.mid) * (level - va) * (if v > va then 1 else -1)) + (v - va).natAbs)
          / (2 * (v - va).natAbs) + g.mid
        s.setEngT e t.toNat
      else s.setEngT e s.ctTenth
    else s

/-- An event of engine e meets its hold-off and its qualifier (R440); gives the state and whether it fired. -/
def State.engEvent (s : State) (e : Nat) : State × Bool :=
  let g := s.eng e
  let q := s.rd (ACQ_ENG_CFG_QUAL e)
  if s.on (ACQ_ENG_STAT_HOLDING e) then
    let s := s.inc (ACQ_ENG_HELD_CNT e)
    if s.rd (ACQ_ENG_CFG_HOLD_MODE e) = 2 then
      let s := s.setEng e { g with holdEv := g.holdEv - 1 }
      (if g.holdEv ≤ 1 then s.wr (ACQ_ENG_STAT_HOLDING e) 0 else s, false)
    else (s, false)
  else if q < 8 ∧ !s.on (ACQ_ENG_STAT_EVENT q) then (s, false)
  else
    let s := (s.inc (ACQ_ENG_FIRE_CNT e)).wr (ACQ_ENG_STAT_FIRED_EV e) 1
    let h := s.rd (ACQ_ENG_HOLD e)
    let m := s.rd (ACQ_ENG_CFG_HOLD_MODE e)
    let s := if m ≠ 0 ∧ h ≠ 0 then
        (s.wr (ACQ_ENG_STAT_HOLDING e) 1).setEng e { g with holdTo := s.clk.count + 625 * h, holdEv := h }
      else s
    (s, true)

/-- The events of several engines on one edge: those that fire with CAPTURE 1 are one trigger (R432). -/
def State.engEvents (s : State) (es : List Nat) : State :=
  let (s, fires) := es.foldl (fun (acc : State × Nat) e =>
    let (s, fired) := acc.1.engEvent e
    (s, if fired && s.on (ACQ_ENG_CFG_CAPTURE e) then acc.2 ||| 2 ^ e else acc.2)) (s, 0)
  if fires ≠ 0 then s.recTrigger fires 0 else s

/-- The engines of a RATE judge their sources, in ascending number, and then their events count (R437, R440). -/
def State.engsAt (s : State) (rate : Nat) : State :=
  if !s.hasRec then s
  else
    let es := (List.range 8).filter (fun e =>
      let t := s.rd (ACQ_ENG_CFG_TYPE e)
      decide (1 ≤ t ∧ t ≤ 5) && decide (s.rd (ACQ_ENG_CFG_RATE e) = rate))
    let s := es.foldl (fun s e => s.engJudge e) s
    s.engEvents (es.filter (fun e => s.on (ACQ_ENG_STAT_EVENT e)
      && (decide (s.rd (ACQ_ENG_CFG_TYPE e) = 5) || decide ((s.engSample (s.rd (ACQ_ENG_SRC_SOURCE e))).2.1 % 2 = 0))))

/-- The engines of a type without samples, TIME or FAULT, have an event now; `p` picks among them. -/
def State.engsOf (s : State) (ty : Nat) (p : Nat → Bool) : State :=
  if !s.hasRec then s
  else
    let es := (List.range 8).filter (fun e => decide (s.rd (ACQ_ENG_CFG_TYPE e) = ty) && p e)
    let s := es.foldl (fun s e => (s.wr (ACQ_ENG_STAT_EVENT e) 1).setEngT e s.ctTenth) s
    s.engEvents es

/-- A time trigger with the recorder destination fires (R197, R437). -/
def State.recTime (s : State) : State := s.engsOf 6 (fun _ => true)

/-- Fault sources of the classes in `classes` are raised on this edge (R437). -/
def State.recFault (s : State) (classes : Nat) : State :=
  s.engsOf 7 (fun e => decide (s.rd (ACQ_ENG_SRC_MASK e) &&& classes ≠ 0))

/-! ### Rows (R428, R429, R442) -/

/-- The Reef sorter has accepted a status of cell g from the ferry of cycle `n`: the channels that name g keep it. -/
def State.recStatus (s : State) (g n w : Nat) : State :=
  if (List.range 16).any (fun i => decide (s.rd (ACQ_CHAN i) = 0x8000 + g)) then
    let l := tget (fun _ => ([] : List (Nat × Nat))) s.recd.cells g
    s.setRecd { s.recd with cells := tset (fun _ => ([] : List (Nat × Nat))) s.recd.cells g (((n, w) :: l).take 4) }
  else s

/-- The word of channel i on this edge, and the word as it is shown again without OLD. -/
def State.chanWord (s : State) (i : Nat) : Nat × Nat :=
  let c := s.rd (ACQ_CHAN i)
  let d := s.rd ACQ_REC_STAT_D
  if 0x8000 ≤ c then
    let l := tget (fun _ => ([] : List (Nat × Nat))) s.recd.cells (c - 0x8000)
    match l.find? (fun x => x.1 + 2 = ctCycle s.ct) with
    | some x => (x.2, x.2)
    | none => (tget (fun _ => 0) s.recd.shown i + 2 ^ 31, tget (fun _ => 0) s.recd.shown i)
  else if isConvCode c then
    let k := (c - 0x2000) / 0x100
    let n := c % 0x100 / 4
    let m := c % 4
    let w := tget (fun _ => Win.zero) s.recd.acc i
    let reg := (s.rdW (A_CONV_RES n k m)).toNat
    if d = 0 ∨ w.dur = 0 then (reg, 0)
    else
      let r := winRes false 0 n k m 0 w
      let reg := bitsPut (BitVec.ofNat 32 reg) (CONV_RES_CODE n k m).lo 24 (unsigned 24 r.code)
      let reg := bitsPut (bitsPut reg (CONV_RES_SETTLE n k m).lo 1 (b2n r.settle)) (CONV_RES_OVR n k m).lo 1 (b2n r.ovr)
      ((bitsPut reg (CONV_RES_FULL n k m).lo 1 (b2n r.full)).toNat, 0)
  else (s.nodeValue c, 0)

/-- Under decimation, the windows of the results on this row-clock edge join those of the row. -/
def State.recGather (s : State) : State :=
  if s.rd ACQ_REC_STAT_D = 0 then s
  else
    (List.range (s.rd ACQ_REC_CFG_CH)).foldl (fun s i =>
      let c := s.rd (ACQ_CHAN i)
      if isConvCode c then
        let x := (tget (fun _ => (Win.zero, (0 : Int))) s.conv.last (resKey (c % 0x100 / 4) ((c - 0x2000) / 0x100) (c % 4))).1
        let w := tget (fun _ => Win.zero) s.recd.acc i
        let w := { w.add x.q x.dur x.ovr with chg := w.chg || x.chg }
        s.setRecd { s.recd with acc := tset (fun _ => Win.zero) s.recd.acc i w }
      else s) s

/-- The bytes of a row, and the state with the shown cell words. -/
def State.recRowBytes (s : State) : List Byte × State :=
  let q := s.recd
  let c := s.ct
  let info := ctSec c % 65536 + 65536 * s.rd ACQ_REC_STAT_D + 2 ^ 20 * b2n q.trigNext + 2 ^ 21 * b2n q.stepped
    + 2 ^ 22 * b2n q.dropped
  let ws := (List.range (s.rd ACQ_REC_CFG_CH)).map (fun i => (i, s.chanWord i))
  (leBytes 4 (ctNs c) ++ leBytes 4 info ++ ws.flatMap (fun x => leBytes 4 x.2.1),
   s.setRecd { q with shown := ws.foldl (fun l x => tset (fun _ => 0) l x.1 x.2.2) q.shown, acc := [], edges := 0 })

/-- A row enters the queue; from 48 rows on, D rises (R442). -/
def State.recStore (s : State) : State :=
  let (bs, s) := s.recRowBytes
  let q := s.recd
  if q.queue.length ≥ 64 then (s.inc ACQ_REC_DROP).setRecd { q with dropped := true }
  else
    let a := s.segBase + 128 + (q.rows % max (s.rd ACQ_REC_C) 1) * s.rowBytes
    let n := q.rows + 1
    let s := s.setRecd { q with
      queue := q.queue ++ [(a, bs)], rows := n, trigNext := false, trigRow := if q.trigNext then n else q.trigRow,
      stepRow := if q.stepped then n else q.stepRow, gapRow := if q.dropped then n else q.gapRow,
      stepped := false, dropped := false, left := if s.recState = RS_POST then q.left - 1 else q.left }
    let s := if s.recd.queue.length ≥ 48 ∧ s.rd ACQ_REC_STAT_D < 4 then
        ((s.wr ACQ_REC_STAT_D (s.rd ACQ_REC_STAT_D + 1)).wr ACQ_REC_STAT_RATE_EV 1).raise 0x1A2 0
      else s
    if s.recState = RS_POST then (if s.recd.left = 0 then s.recEnd false else s) else s.recReady

/-- RECORDER_ROW: an edge of the row clock (R428, R431, R435, R442). -/
def execRecorderRow (s : State) : Host.Outcome State Fault Refusal :=
  if !s.hasRec then .next s
  else if s.recState = RS_IDLE then
    if s.recd.rearm ≠ 0 ∧ s.recd.rearm ≠ s.clk.count + 1 then .next s.recEnter else .next s
  else
    let s := s.recGather
    let n := s.recd.edges + 1
    let s := s.setRecd { s.recd with edges := n }
    if n < 2 ^ s.rd ACQ_REC_STAT_D then .next s else .next s.recStore

/-- REC_ARM: ACQ_REC_CTRL.ARM. -/
def execRecArm (p : Port) (s : State) : Host.Outcome State Fault Refusal := .next (s.recArm p)

/-- ACQ_REC_CTRL.FORCE: a forced trigger in FILL or READY (R433). -/
def State.recForce (s : State) (p : Port) : State :=
  if !s.hasRec then s
  else if s.recState = RS_FILL ∨ s.recState = RS_READY then s.recTrigger 0 1 else s.range p A_ACQ_REC_CTRL

/-- REC_FORCE. -/
def execRecForce (p : Port) (s : State) : Host.Outcome State Fault Refusal := .next (s.recForce p)

/-- ACQ_REC_CTRL.STOP: without a header in FILL or READY, with SHORT in POST (R434). -/
def State.recStop (s : State) (p : Port) : State :=
  if !s.hasRec then s
  else if s.recState = RS_IDLE then s.range p A_ACQ_REC_CTRL
  else if s.recState = RS_POST then s.recEnd true
  else s.wr ACQ_REC_STAT_STATE RS_IDLE

/-- REC_STOP. -/
def execRecStop (p : Port) (s : State) : Host.Outcome State Fault Refusal := .next (s.recStop p)

/-- AUTO_TRIGGER: the forced trigger on the first row edge after the entry into READY and AUTO_T after it (R433). -/
def execAutoTrigger (s : State) : Host.Outcome State Fault Refusal :=
  if s.hasRec ∧ s.recState = RS_READY ∧ s.on ACQ_REC_CFG_AUTO ∧ s.clk.count > s.recd.readyAt
      ∧ s.clk.count ≥ s.recd.readyAt + 625000 * s.rd ACQ_REC_AUTO then
    .next (s.recTrigger 0 2)
  else .next s

/-- HOLDOFF_END: the time hold-off of engine e expires (R440). -/
def execHoldoffEnd (e : Nat) (s : State) : Host.Outcome State Fault Refusal :=
  if e < 8 ∧ s.on (ACQ_ENG_STAT_HOLDING e) ∧ s.rd (ACQ_ENG_CFG_HOLD_MODE e) = 1 ∧ (s.eng e).holdTo ≤ s.clk.count then
    .next (s.wr (ACQ_ENG_STAT_HOLDING e) 0)
  else .next s

/-- A write of ACQ_SEG_FULL[k]: each 1 frees its segment (R435). -/
def State.segFree (s : State) (k v : Nat) : State :=
  if !s.hasRec then s
  else
    let s := s.wr (ACQ_SEG_FULL k) (s.rd (ACQ_SEG_FULL k) &&& (0xFFFFFFFF ^^^ v))
    s.setRecd { s.recd with caps := s.recd.caps.filter (fun j => !(decide (j / 32 = k) && bitOf v (j % 32))) }

/-- SEG_FREE. -/
def execSegFree (k : Nat) (v : Word) (s : State) : Host.Outcome State Fault Refusal :=
  if k < 2 then .next (s.segFree k v.toNat) else .next s

/-- A write of ACQ_ENG_LEVEL (`which` 0), ACQ_ENG_AUX (1) or ACQ_ENG_HOLD (2) of engine e; LEVEL and AUX unprime an EDGE
engine (R441). -/
def State.engWrite (s : State) (e which : Nat) (v : Word) : State :=
  if !s.hasRec then s
  else if which = 2 then s.wr (ACQ_ENG_HOLD e) v.toNat
  else
    let s := s.wr (if which = 0 then ACQ_ENG_LEVEL e else ACQ_ENG_AUX e) v.toNat
    if s.rd (ACQ_ENG_CFG_TYPE e) = 2 then
      (s.wr (ACQ_ENG_STAT_PRIMED e) 0).setEng e { s.eng e with rise := false, fall := false }
    else s

/-- ENGINE_LEVEL_WRITE. -/
def execEngineLevelWrite (e which : Nat) (v : Word) (s : State) : Host.Outcome State Fault Refusal :=
  if e < 8 ∧ which < 3 then .next (s.engWrite e which v) else .next s

end Sys2Proof.Machine
end

