-- ==== Sys2Proof/Machine/Faults.lean ====
section
/-! DEFINITION. The fault unit of the Balgal: classing, the three records, escalation, the reaction timers, the quiet
period and ALIVE (R484 to R502). The commands FAULT_RAISE, REACTION_TIMEOUT, FAULT_ACK, QUIET_EXPIRE, FLT_SW and
ALIVE_TOGGLE. -/

namespace Sys2Proof.Machine
open Sys2Proof

/-- A fault on its way into a record: the source, its INFO, its CT, the edge of the raise, and ESC_CAUSE (0 for a
fault of the source's own class). -/
structure FaultIn where
  id : Nat
  info : Nat
  ct : Nat
  edge : Nat
  cause : Nat
deriving DecidableEq, Repr

def State.recValid (s : State) (k : Nat) : Bool := s.on (FLT_REC0_VALID k)

/-- The class of a source, as configured (R486). -/
def State.srcClass (s : State) (id : Nat) : Nat := s.rd (FLT_CLASS_CLASS id)
/-- A source of class uncorrected or fatal is always latched (R487). -/
def State.srcLatched (s : State) (id : Nat) : Bool := s.srcClass id ≠ 0 || s.on (FLT_CLASS_LATCH id)

/-- Clear record k and stop its timer. -/
def State.freeRec (s : State) (k : Nat) : State :=
  let s := (s.wrW (A_FLT_REC0 k) 0).wrW (A_FLT_REC1 k) 0
  let s := (s.wrW (A_FLT_REC2 k) 0).wrW (A_FLT_REC3 k) 0
  { s with flt := { s.flt with timer := tset (fun _ => 0) s.flt.timer k 0 } }

/-- The reaction time of record k in word clocks; 0 for none (R491). -/
def State.reactTime (s : State) (k : Nat) : Nat :=
  if k = 0 then 625 * s.rd FLT_TIMING_REACT_C else if k = 1 then 625 * s.rd FLT_TIMING_REACT_U else 0

/-- Start record k's timer at edge `e` (R491). -/
def State.startTimer (s : State) (k e : Nat) : State :=
  let t := s.reactTime k
  { s with flt := { s.flt with timer := tset (fun _ => 0) s.flt.timer k (if t = 0 then 0 else e + t) } }

/-- Store a fault in the free record k, with its timer (R488, R491). -/
def State.fillRec (s : State) (k : Nat) (f : FaultIn) (ovf : Bool) : State :=
  let s := s.wrW (A_FLT_REC0 k) (BitVec.ofNat 32
    (f.id % 1024 + 1024 * b2n (f.cause ≠ 0) + 2048 * f.cause + 8192 * b2n ovf + 2 ^ 31))
  let s := (s.wr (FLT_REC1 k) f.info).wr (FLT_REC2 k) (ctNs f.ct)
  let s := s.wr (FLT_REC3 k) (ctSec f.ct)
  let s := { s with flt := { s.flt with filled := tset (fun _ => 0) s.flt.filled k (f.edge + 1) } }
  s.startTimer k (f.edge + 1)

def lowerId : List FaultIn → Option FaultIn
  | [] => none
  | f :: t => match lowerId t with
    | none => some f
    | some g => if g.id < f.id then some g else some f

/-- The quiet period starts again at an edge (R497). -/
def State.quietRestart (s : State) (e : Nat) : State := { s with flt := { s.flt with quietFrom := e } }

/-- Judge the faults of class k of one edge: fill the free record, or set OVF and pass the fault on one class higher
(R488 to R490, R494). -/
def State.judgeClass (s : State) (k : Nat) (fs : List FaultIn) : State × List FaultIn :=
  match lowerId fs with
  | none => (s, [])
  | some f =>
    let more := decide (fs.length > 1)
    let s := if k ≥ 1 then s.quietRestart (f.edge + 1) else s
    if tget (fun _ => 0) s.flt.moved k = f.edge + 2 ∧ k < 2 then
      -- the timer of record k expired on this edge: one escalation, with the second fault's ID (R494)
      if s.flt.movedFresh then ((s.fillRec (k + 1) { f with cause := 1 } true).quietRestart (f.edge + 1), [])
      else (s, [{ f with cause := 1 }])
    else if !(s.recValid k) then ((s.fillRec k f more).fireRoute 0x40, [])
    else
      let s := s.wr (FLT_REC0_OVF k) 1
      if tget (fun _ => 0) s.flt.filled k = f.edge + 1 ∨ k ≥ 2 then (s, [])
      else (s, [{ f with cause := 1 }])

/-- STATE follows the records (R495); QUIETING follows R497. -/
def State.fltFollow (s : State) : State :=
  let st := if s.recValid 2 then 2 else if s.recValid 1 then 1 else 0
  let q := st = 2 && s.on FLT_QUIET_QUIET_MS && s.on FLT_QUIET_REC_MAX
    && s.rd FLT_RECOVER_CNT ≠ s.rd FLT_QUIET_REC_MAX
  (s.wr FLT_STAT_STATE st).wr FLT_STAT_QUIETING (b2n q)

/-- The reaction to FATAL (R496, R498, R499): ALIVE low; the active blocks or stops committing; a load in progress
fails. -/
def State.fatalReaction (s : State) : State :=
  let s := s.wr FLT_STAT_ALIVE 0
  if PH_FETCH ≤ s.phase ∧ s.phase ≤ PH_BUILD then s.enterFailed 0 0xFF
  else if s.isActive then (if s.redundant then s.commitOff else s.blockAll 2)
  else s

/-- Bring STATE up to date; on entry into FATAL set FATAL_EV, start the quiet period and react. -/
def State.fltSettle (s : State) : State :=
  let was := s.rd FLT_STAT_STATE
  let s := s.fltFollow
  let s := if s.rd FLT_STAT_STATE = 2 ∧ was ≠ 2 then
      ((s.wr FLT_STAT_FATAL_EV 1).quietRestart s.clk.count).fatalReaction
    else s
  s.irqUpdate

/-- One raise: its FLT_BLK_CAUSE bit and its counter (R487, R500). -/
def State.countRaise (s : State) (r : Raise) : State :=
  let b := r.id / 32
  let s := s.wrW (A_FLT_BLK_CAUSE b) (bitsPut (s.rdW (A_FLT_BLK_CAUSE b)) (r.id % 32) 1 1)
  s.inc (FLT_CNT r.id)

/-- The latched raises of class k among those of one edge. -/
def State.faultsOf (s : State) (rs : List Raise) (k : Nat) : List FaultIn :=
  rs.filterMap (fun r => if s.srcLatched r.id && s.srcClass r.id = k then some ⟨r.id, r.info, r.ct, r.edge, 0⟩ else none)

/-- Judge all raises of one edge together (R489); the recorder's FAULT engines see their classes (R437). -/
def State.judgeEdge (s : State) (rs : List Raise) : State :=
  let s := rs.foldl (fun s r => s.countRaise r) s
  let s := if rs.isEmpty then s else s.recFault (rs.foldl (fun m r => m ||| 2 ^ s.srcClass r.id) 0)
  let (s1, up1) := s.judgeClass 0 (s.faultsOf rs 0)
  let (s2, up2) := s1.judgeClass 1 (s.faultsOf rs 1 ++ up1)
  (s2.judgeClass 2 (s.faultsOf rs 2 ++ up2)).1

/-- The earliest edge among raises. -/
def firstEdge : List Raise → Nat
  | [] => 0
  | r :: t => t.foldl (fun m q => min m q.edge) r.edge

/-- FAULT_RAISE: the fault unit takes the raises of the earliest edge. `also` are the sources, with their INFO, raised
on this edge by a condition outside the commands; only numbers of the source table count. -/
def execFaultRaise (also : List (Nat × Nat)) (s : State) : Host.Outcome State Fault Refusal :=
  let s := also.foldl (fun s x => if isSource x.1 then s.raise x.1 x.2 else s) s
  let e := firstEdge s.flt.raised
  let now := s.flt.raised.filter (fun r => r.edge = e)
  let later := s.flt.raised.filter (fun r => r.edge ≠ e)
  let s := { s with flt := { s.flt with raised := later } }
  .next (s.judgeEdge now).fltSettle

/-- REACTION_TIMEOUT: the timer of record `k` expires with the record still valid; its contents move up with ESC_CAUSE
0x2, or set OVF in a valid record, and the record becomes free (R491). Without a running timer nothing happens. -/
def execReactionTimeout (k : Nat) (s : State) : Host.Outcome State Fault Refusal :=
  if k < 2 ∧ s.recValid k ∧ tget (fun _ => 0) s.flt.timer k ≠ 0 then
    let fresh := !(s.recValid (k + 1))
    let w := s.rdW (A_FLT_REC0 k)
    let s' := if fresh then
        let t := (s.wrW (A_FLT_REC0 (k + 1)) (bitsPut (bitsPut w 10 1 1) 11 2 2)).wr (FLT_REC1 (k + 1)) (s.rd (FLT_REC1 k))
        let t := (t.wr (FLT_REC2 (k + 1)) (s.rd (FLT_REC2 k))).wr (FLT_REC3 (k + 1)) (s.rd (FLT_REC3 k))
        let t := { t with flt := { t.flt with filled := tset (fun _ => 0) t.flt.filled (k + 1) t.clk.count } }
        (t.startTimer (k + 1) t.clk.count).fireRoute 0x40
      else s.wr (FLT_REC0_OVF (k + 1)) 1
    let s' := (s'.freeRec k).quietRestart s.clk.count
    let s' := { s' with flt := { s'.flt with moved := tset (fun _ => 0) s'.flt.moved k (s.clk.count + 1), movedFresh := fresh } }
    .next s'.fltSettle
  else .next s

/-- FAULT_ACK: a write of 1 to FLT_REC[k].VALID frees record 0 or 1; on record 2 it is ignored and raises range (R493). -/
def execFaultAck (p : Port) (k : Nat) (s : State) : Host.Outcome State Fault Refusal :=
  if k < 2 then .next (s.freeRec k).fltSettle
  else if k = 2 then .next (s.range p (A_FLT_REC0 2))
  else .next s

/-- QUIET_EXPIRE: the quiet period completes and the fault unit leaves FATAL (R497), unless a raise that restarts it
arrives on this edge (R494). -/
def execQuietExpire (s : State) : Host.Outcome State Fault Refusal :=
  if s.on FLT_STAT_QUIETING ∧ !(s.flt.raised.any (fun r => s.srcClass r.id ≠ 0)) then
    let t := (List.range 4).foldl (fun t j => t.wrW (A_FLT_PREV j) (s.rdW (A_FLT_REC0 2 + 4 * j))) s
    let t := ((t.freeRec 2).inc FLT_RECOVER_CNT).wr FLT_STAT_RECOVERED_EV 1
    let t := if t.recValid 1 then t.startTimer 1 t.clk.count else t
    .next t.fltSettle
  else .next s

/-- FLT_SW: a write raises source fw-n with DATA as its INFO (R492). -/
def execFltSw (v : Word) (s : State) : Host.Outcome State Fault Refusal :=
  .next (s.raise (0x202 + bitsOf v 0 3) (bitsOf v 8 24))

/-- ALIVE_TOGGLE: a point of the grid of 31,250 word clocks; ALIVE toggles in phase RUN unless the state is FATAL or
the lane reference clock is bad, which hold it low (R499). -/
def execAliveToggle (s : State) : Host.Outcome State Fault Refusal :=
  if s.inRun ∧ s.rd FLT_STAT_STATE ≠ 2 ∧ s.on LANE_REF_STAT_REF_OK then
    .next (s.wr FLT_STAT_ALIVE (1 - s.rd FLT_STAT_ALIVE))
  else .next (s.wr FLT_STAT_ALIVE 0)

end Sys2Proof.Machine
end

