-- ==== Sys2Proof/Machine/HostOps.lean ====
section
/-! DEFINITION. Doorbells and MSI-X vectors of the host interface (R604, R607, R618). -/

namespace Sys2Proof.Machine
open Sys2Proof

/-- MSI-X vector v is sent where MSI-X is enabled and the link is up (R604). -/
def State.sendMsix (s : State) (v : Nat) : State :=
  if s.on HOST_STAT_MSIX ∧ s.on HOST_STAT_LINK then s.emit (.msix v) else s

/-- INTA, with MSI-X disabled: the condition of either vector holds (R604). -/
def State.inta (s : State) : Bool := !s.on HOST_STAT_MSIX && (s.irq || decide (s.rdW A_HOST_HDB ≠ 0))

/-- HOST_MSI_ACK: vector 0 again while its condition holds (R604). -/
def State.msiAck (s : State) : State := if s.irq then s.sendMsix 0 else s

/-- A write of HOST_HDB_SET: doorbell bits, and vector 1 when it sets any (R604, R618). -/
def State.hdbSet (s : State) (v : Word) : State :=
  if v = 0 then s else (s.wrW A_HOST_HDB (s.rdW A_HOST_HDB ||| v)).sendMsix 1

/-- A write of HOST_PDB_SET: by PCIe alone; route source 0x59 when it sets any bit (R604, R618). -/
def State.pdbSet (s : State) (p : Port) (v : Word) : State :=
  if p ≠ .pcie then s.range p A_HOST_PDB_SET
  else if v = 0 then s
  else (s.wrW A_HOST_PDB (s.rdW A_HOST_PDB ||| v)).fireRoute 0x59

/-- A write of HOST_QY_QDB_SET: by the quay port alone; route source 0x58 when it sets any bit (R607, R618). -/
def State.qdbSet (s : State) (p : Port) (v : Word) : State :=
  if p ≠ .quay then s.range p A_HOST_QY_QDB_SET
  else if v = 0 then s
  else (s.wrW A_HOST_QDB (s.rdW A_HOST_QDB ||| v)).fireRoute 0x58

end Sys2Proof.Machine
end

