-- ==== Sys2Proof/Machine/TimeOps.lean ====
section
/-! DEFINITION. The Balgal's converter time: steps, slews, samples, sources, and the time triggers of both chips (R166 to
R202). -/

namespace Sys2Proof.Machine
open Sys2Proof

def State.setTim (s : State) (t : TimeSt) : State := { s with tim := t }
def State.setClk (s : State) (c : Clk) : State := { s with clk := c }

/-! ### Time triggers (R197, R198) -/

/-- The CT of the next instant of a trigger. -/
def Trig.next (t : Trig) : Nat := t.start + t.k * t.period * wcU5 / 5

/-- How many instants, from the next one on, have come by `now`. -/
def Trig.past (t : Trig) (now : Nat) : Nat :=
  if now < t.next then 0
  else if t.period = 0 then 1
  else (now - t.start) * 5 / (t.period * wcU5) + 1 - t.k

/-- The trigger after a firing that passes `n` instants. -/
def Trig.fired (t : Trig) (n : Nat) : Trig := { t with k := t.k + n, count := t.count - 1, late := false }

def State.trig (s : State) (k : Nat) : Trig := tget (fun _ => Trig.zero) s.tim.trigs k
def State.setTrig (s : State) (k : Nat) (t : Trig) : State :=
  s.setTim { s.tim with trigs := tset (fun _ => Trig.zero) s.tim.trigs k t }

/-- What a firing of Balgal trigger k acts on (R197). -/
def State.trigDest (s : State) (k : Nat) : State :=
  let d := s.rd (TIME_TRIG_CTRL_DEST k)
  let s := if bitOf d 0 then s.recTime else s
  let s := if bitOf d 1 then (List.range 24).foldl (fun s n => s.convTrigger n) s else s
  let s := if bitOf d 2 then s.setFlags (s.rd (TIME_TRIG_CTRL_TASK k)) (2 ^ s.rd (TIME_TRIG_CTRL_FLAG k)) else s
  if bitOf d 3 then s.setTim { s.tim with outTo := s.clk.count + 625 } else s

/-- Balgal trigger k fires where its instant has come: once, the other instants passed counting in MISSED (R198). -/
def State.trigFire (s : State) (k : Nat) : State :=
  let t := s.trig k
  let n := t.past s.ct
  if !s.on (TIME_TRIG_STAT_ARMED k) ∨ n = 0 then s
  else
    let s := if t.late then s.wr (TIME_TRIG_STAT_LATE k) 1 else s
    let s := s.cnt (TIME_TRIG_STAT_MISSED k) (n - 1)
    let s := s.setTrig k (t.fired n)
    let s := if !s.on (TIME_TRIG_CTRL_CONT k) ∧ t.count ≤ 1 then
        (s.wr (TIME_TRIG_STAT_ARMED k) 0).wr (TIME_TRIG_STAT_DONE k) 1
      else s
    s.trigDest k

/-- TIME_TRIG_CTRL[k].ARM (R198). -/
def State.trigArm (s : State) (p : Port) (k : Nat) : State :=
  let count := s.rd (TIME_TRIG_COUNT k)
  let cont := s.on (TIME_TRIG_CTRL_CONT k)
  let period := s.rd (TIME_TRIG_PERIOD k)
  let sec := s.rd (TIME_TRIG_START_SEC_LO k) + 2 ^ 32 * s.rd (TIME_TRIG_START_SEC_HI k)
  let start := sec * secU + s.rd (TIME_TRIG_START_NS k) * nsU
  if s.on (TIME_TRIG_STAT_ARMED k) then s.range p (A_TIME_TRIG_CTRL k)
  else if count = 0 ∧ !cont then (s.wr (TIME_TRIG_STAT_MISSED k) 0).wr (TIME_TRIG_STAT_DONE k) 1
  else if period = 0 ∧ (count > 1 ∨ cont) then s.range p (A_TIME_TRIG_CTRL k)
  else ((s.wr (TIME_TRIG_STAT_MISSED k) 0).wr (TIME_TRIG_STAT_ARMED k) 1).setTrig k
    ⟨start, period, count, 0, decide (start < s.ct)⟩

/-- TIME_TRIG_CTRL[k].DISARM: a firing due on this edge still happens (R198). -/
def State.trigDisarm (s : State) (k : Nat) : State := (s.trigFire k).wr (TIME_TRIG_STAT_ARMED k) 0

/-- What a firing of a Skerry's trigger acts on (R673). -/
def Skerry.trigDest (c : Skerry) (k : Nat) : Skerry :=
  let d := c.rd (SK_TIME_TRIG_CTRL_DEST k)
  let c := if bitOf d 0 then c.convTrigger 1 else c
  let c := if bitOf d 1 then c.convTrigger 2 else c
  if bitOf d 2 then c.setFr { c.fr with coreIrq := true } else c

def Skerry.trig (c : Skerry) (k : Nat) : Trig := tget (fun _ => Trig.zero) c.trigs k
def Skerry.setTrig (c : Skerry) (k : Nat) (t : Trig) : Skerry := { c with trigs := tset (fun _ => Trig.zero) c.trigs k t }

/-- Skerry trigger k fires where its instant has come. -/
def Skerry.trigFire (c : Skerry) (k : Nat) : Skerry :=
  let t := c.trig k
  let n := t.past c.ct
  if !c.on (SK_TIME_TRIG_STAT_ARMED k) ∨ n = 0 then c
  else
    let c := if t.late then c.wr (SK_TIME_TRIG_STAT_LATE k) 1 else c
    let c := c.cnt (SK_TIME_TRIG_STAT_MISSED k) (n - 1)
    let c := c.setTrig k (t.fired n)
    let c := if !c.on (SK_TIME_TRIG_CTRL_CONT k) ∧ t.count ≤ 1 then
        (c.wr (SK_TIME_TRIG_STAT_ARMED k) 0).wr (SK_TIME_TRIG_STAT_DONE k) 1
      else c
    c.trigDest k

/-- SK_TIME_TRIG_CTRL[k].ARM; a refused one only stays without effect, the Skerry having no fault sources. -/
def Skerry.trigArm (c : Skerry) (k : Nat) : Skerry :=
  let count := c.rd (SK_TIME_TRIG_COUNT k)
  let cont := c.on (SK_TIME_TRIG_CTRL_CONT k)
  let period := c.rd (SK_TIME_TRIG_PERIOD k)
  let sec := c.rd (SK_TIME_TRIG_START_SEC_LO k) + 2 ^ 32 * c.rd (SK_TIME_TRIG_START_SEC_HI k)
  let start := sec * secU + c.rd (SK_TIME_TRIG_START_NS k) * nsU
  if c.on (SK_TIME_TRIG_STAT_ARMED k) then c
  else if count = 0 ∧ !cont then (c.wr (SK_TIME_TRIG_STAT_MISSED k) 0).wr (SK_TIME_TRIG_STAT_DONE k) 1
  else if period = 0 ∧ (count > 1 ∨ cont) then c
  else ((c.wr (SK_TIME_TRIG_STAT_MISSED k) 0).wr (SK_TIME_TRIG_STAT_ARMED k) 1).setTrig k
    ⟨start, period, count, 0, decide (start < c.ct)⟩

def Skerry.trigDisarm (c : Skerry) (k : Nat) : Skerry := (c.trigFire k).wr (SK_TIME_TRIG_STAT_ARMED k) 0

/-! ### Steps and slews of the Balgal (R168, R179, R181, R183, R195, R196) -/

/-- Every cell reported APPLIED block in the last ferry received. -/
def State.allBlock (s : State) : Bool :=
  s.allCells.all (fun g =>
    let r := s.crec g
    r.got && decide (r.applied = ST_BLOCK) && decide (r.cyc ≥ s.reef.cyc))

/-- A step is permitted now (R181): TIME_STAT.STEP_OK. -/
def State.stepOk (s : State) : Bool := !s.isActive || !s.tim.committed || s.allBlock

/-- The slew limit in units of 2^-40 (R179). -/
def State.slewLimit (s : State) : Int :=
  if s.isActive then ((s.rd TIME_THRESH_SLEW_PPM * 1099511627776 / 1000000 : Nat) : Int) else slew250

/-- Step CT by `e` in 2^-18 ns (R178, R181, R196): sub-windows end early and are unsettled, the next row carries STEP,
triggers jumped over fire once. -/
def State.stepRaw (s : State) (e : Int) : State :=
  let c := s.clk.reload s.rate
  let s := s.setClk { c with base := ((c.base : Int) + e).toNat, slew := 0, left := 0, accepted := false }
  let s := s.setConv (s.conv.stepped (List.range 24))
  let s := s.setRecd { s.recd with stepped := true }
  let s := (s.wr TIME_STAT_STEPPED 1).wr TIME_STAT_SLEWING 0
  (List.range 16).foldl (fun s k => s.trigFire k) s

/-- A step of this chip's own: the active announces it and anchors the control-period grid again (R183, R195). -/
def State.stepCt (s : State) (e : Int) : State :=
  let s := s.stepRaw e
  if s.isActive then s.setTim { s.tim with announce := s.tim.announce + e, anchor := true } else s

/-- The part of an accepted slew not yet applied (R178). -/
def State.slewPart (s : State) : Int := if s.clk.accepted then (s.clk.reload s.rate).left else 0

/-- Begin a slew of `e` in place of the correction in progress (R179). -/
def State.slewBy (s : State) (e : Int) (accepted : Bool) : State :=
  let c := s.clk.reload s.rate
  let v : Int := if e > 0 then s.slewLimit else if e < 0 then -s.slewLimit else 0
  let s := s.setClk { c with slew := v, left := e, accepted := accepted && decide (e ≠ 0) }
  (s.wr TIME_STAT_SLEWING (b2n (accepted && decide (e ≠ 0)))).wrS TIME_SLEW_LEFT (if accepted then to16thNs e else 0)

/-- Change RATE, held to 500 ppm, with BASE reloaded (R168, R169). -/
def State.setRate (s : State) (r : Int) : State :=
  (s.setClk (s.clk.reload s.rate)).wrS TIME_RATE (max (-rate500) (min rate500 r))

/-- A correction ends exactly: SLEW 0, and what was left of it is applied (R179). -/
def State.slewDone (s : State) : State :=
  let c := s.clk.reload s.rate
  let s := s.setClk { c with base := ((c.base : Int) + c.left).toNat, slew := 0, left := 0, accepted := false }
  (s.wr TIME_STAT_SLEWING 0).wr TIME_SLEW_LEFT 0

/-- SLEW 0 with the rest of the correction dropped; what an accepted slew leaves stays in TIME_SLEW_LEFT (R178, R180). -/
def State.slewStop (s : State) : State :=
  let c := s.clk.reload s.rate
  let s := if s.clk.accepted then s.wrS TIME_SLEW_LEFT (to16thNs c.left) else s
  (s.setClk { c with slew := 0, left := 0, accepted := false }).wr TIME_STAT_SLEWING 0

def State.timeTo (s : State) (st : Nat) : State := s.wr TIME_STAT_STATE st

/-! ### The discipline (R178, R180) -/

/-- Refuse a sample: REFUSED, RATE held; the time-jump source only on entry (R180). -/
def State.refuseTime (s : State) (e : Int) : State :=
  let was := s.rd TIME_STAT_STATE
  let s := ((s.slewStop).timeTo TS_REFUSED).wr TIME_STAT_REFUSED_EV 1
  let s := (s.wrS TIME_JUMP_NS (toNs e)).inc TIME_JUMP_CNT
  if was = TS_REFUSED then s else s.raise 0x0C3 0

/-- How a sample is applied: phase gain 2^-kp, integral gain 2^-ki over `per` ns, LOCK_BAND in 2^-18 ns. -/
structure Gain where
  kp : Nat
  ki : Nat
  per : Nat
  band : Int

/-- The loop of R191, which a Balgal applies to frames of a partner. -/
def partnerGain (band : Int) : Gain := ⟨2, 6, 2000, band⟩

/-- One sample of the discipline of R178; `raw` is the source's time minus CT. -/
def State.timeSample (s : State) (raw : Int) (g : Gain) : State :=
  let e := raw - s.slewPart
  let st := s.rd TIME_STAT_STATE
  let thr : Int := ((s.rd TIME_THRESH_JUMP_NS * nsU : Nat) : Int)
  let big := decide (e > thr ∨ e < -thr)
  let s := s.wrS TIME_ERR (to16thNs e)
  if st = TS_FREE ∨ (st = TS_ACQUIRE ∧ big) then
    if s.stepOk then
      let s := (s.stepCt e).timeTo TS_ACQUIRE
      s.setClk { s.clk with lockCnt := 0 }
    else s.refuseTime e
  else if big then s.refuseTime e
  else
    let acc := s.clk.accepted
    let part := s.slewPart
    let s := s.setRate (s.rate + e * 4194304 / ((2 ^ g.ki * g.per : Nat) : Int))
    let s := s.slewBy (part + e / (2 ^ g.kp : Int)) acc
    let near := decide (e ≤ g.band ∧ -g.band ≤ e)
    let n := if near then min (s.clk.lockCnt + 1) 64 else 0
    let s := s.setClk { s.clk with lockCnt := n }
    if (st = TS_ACQUIRE ∧ n = 64) ∨ st = TS_HOLDOVER ∨ st = TS_REFUSED then s.timeTo TS_LOCKED else s

/-! ### Station sources (R186, R189) -/

/-- The first valid source of the active's list, with its depth plus one on a strait link (R186, R189). -/
def State.selectSource (s : State) : State :=
  if !s.isActive then (s.wr TIME_STAT_SRC 0xF).wr TIME_STAT_DEPTH 0xF
  else
    match [0, 1, 2, 3].find? (fun i => s.on (TIME_SRC_VALID i)) with
    | some i =>
      let d := if s.rd (TIME_SRC_CODE i) < 0x20 then 0 else min (s.rd (TIME_SRC_DEPTH i) + 1) 15
      (s.wr TIME_STAT_SRC i).wr TIME_STAT_DEPTH d
    | none => (s.wr TIME_STAT_SRC 0xF).wr TIME_STAT_DEPTH 0xF

/-- The index of a source code in TIME_SRC. -/
def State.srcIndex (s : State) (code : Nat) : Option Nat := [0, 1, 2, 3].find? (fun i => decide (s.rd (TIME_SRC_CODE i) = code))

/-- LOCKED or ACQUIRE becomes HOLDOVER with RATE held and SLEW 0 (R178). -/
def State.holdover (s : State) : State :=
  let st := s.rd TIME_STAT_STATE
  if st = TS_LOCKED ∨ st = TS_ACQUIRE then (s.slewStop).timeTo TS_HOLDOVER else s

/-- Source i turns invalid for a reason; the source in use falling silent takes the discipline to HOLDOVER. -/
def State.srcInvalid (s : State) (i reason : Nat) : State :=
  let used := decide (s.rd TIME_STAT_SRC = i)
  let s := (s.wr (TIME_SRC_VALID i) 0).wr (TIME_SRC_REASON i) reason
  let s := s.selectSource
  if used ∧ reason = 2 then s.holdover else s

/-- A source code in the list turns invalid. -/
def State.codeInvalid (s : State) (code reason : Nat) : State :=
  match s.srcIndex code with
  | some i => if s.on (TIME_SRC_VALID i) ∨ s.rd (TIME_SRC_REASON i) ≠ reason then s.srcInvalid i reason else s
  | none => s

/-- A good sample from the source of a code (R186): a discarded one becomes valid again only within the threshold. -/
def State.srcSample (s : State) (code depth : Nat) (e : Int) (g : Gain) : State :=
  match s.srcIndex code with
  | none => s
  | some i =>
    let thr : Int := ((s.rd TIME_THRESH_JUMP_NS * nsU : Nat) : Int)
    let s := s.wr (TIME_SRC_DEPTH i) depth
    let out := s.rd (TIME_SRC_REASON i) = 3 ∧ (e > thr ∨ e < -thr)
    let s := if out then s else ((s.wr (TIME_SRC_VALID i) 1).wr (TIME_SRC_REASON i) 0).selectSource
    if s.isActive ∧ s.rd TIME_STAT_SRC = i ∧ s.on TIME_CTRL_MAIN_EN ∧ s.rd TIME_STAT_PATH = 0 then s.timeSample e g else s

end Sys2Proof.Machine
end

