-- ==== Sys2Proof/Machine/LaneOps.lean ====
section
/-! DEFINITION. Lane receivers: symbols, loss score, lock and loss of lock, on the Balgal's lanes and a Skerry's ports (R83
to R120). -/

namespace Sys2Proof.Machine
open Sys2Proof

/-- Lanes 104 to 107, which run the coding of an Ethernet standard (R85). -/
def isEth (n : Nat) : Bool := decide (n / 4 = 26)

/-! ### The loss score (R95) -/

/-- The score at `now`: it has fallen by 1 for each run of 64 symbols without an error. -/
def LaneRx.at_ (r : LaneRx) (now : Nat) : Nat := r.score - (now - r.since) / 64

/-- A symbol error of the symbol at `now`. -/
def LaneRx.hit (r : LaneRx) (now : Nat) : LaneRx := { r with score := r.at_ now + 1, since := now + 1, errs := r.errs + 1 }

/-- The symbols of a stretch that ends at `now`, its last symbol on that edge: the receiver, and the largest score. -/
def LaneRx.take (r : LaneRx) (now : Nat) (ss : List Sym) : LaneRx × Nat :=
  (ss.zipIdx).foldl (fun acc x =>
    if x.1 = Sym.err then
      let r := acc.1.hit (now + 1 + x.2 - ss.length)
      (r, max acc.2 r.score)
    else acc) (r, 0)

/-- Symbol errors in a stretch. -/
def symErrs (ss : List Sym) : Nat := (ss.filter (fun x => decide (x = Sym.err))).length
/-- Propagated errors, K30.7, in a stretch (R91). -/
def propErrs (ss : List Sym) : Nat := (ss.filter (fun x => decide (x = Sym.k 0xFE))).length

/-! ### Balgal -/

def State.laneRx (s : State) (n : Nat) : LaneRx := tget (fun _ => LaneRx.zero) s.lanes.rx n
def State.setLaneRx (s : State) (n : Nat) (r : LaneRx) : State :=
  { s with lanes := { s.lanes with rx := tset (fun _ => LaneRx.zero) s.lanes.rx n r } }

/-- A strait lane that is not in LOCKED is no source of time (R189, TIME_SRC reason 0x1). -/
def State.laneTime (s : State) (n : Nat) : State := if 108 ≤ n ∧ n < 112 then s.codeInvalid (0x20 + (n - 108)) 1 else s

/-- The receiver of lane n leaves for SEEK, ALIGN or OFF. -/
def State.laneDrop (s : State) (n st : Nat) : State := (s.laneTo n st).laneTime n

/-- Lane n enters LOCKED: score 0, a new error interval, TIMEOUT clears (R95, R100, R109). -/
def State.laneLock (s : State) (n : Nat) : State :=
  let s := (s.wr (LANE_STAT_STATE n) LN_LOCKED).putBitAt (A_LANE_LOCKED 0) n true
  (s.wr (LANE_STAT_TIMEOUT n) 0).setLaneRx n ⟨0, s.clk.count, 0⟩

/-- Lane n in LOCKED has received these symbols, the last on this edge: its counters and its loss score follow; the
score reaching LOSS_SCORE takes it to ALIGN. Gives whether it is still in LOCKED. -/
def State.laneTake (s : State) (n : Nat) (ss : List Sym) : State × Bool :=
  if !s.laneLocked n then (s, false)
  else
    let s := (s.cnt (LANE_SYM_ERR n) (symErrs ss)).cnt (LANE_PROP_ERR n) (propErrs ss)
    let (r, top) := (s.laneRx n).take s.clk.count ss
    let s := (s.setLaneRx n r).wr (LANE_STAT_SCORE n) (r.at_ s.clk.count)
    if top ≥ s.rd (LANE_CFG_LOSS_SCORE n) then (s.laneDrop n LN_ALIGN, false) else (s, true)

/-- The LANE section has been applied: phase RUN, or BUILD after it; never in FAILED. -/
def State.lanesApplied (s : State) : Bool := !(s.sec T_LANE 0).isEmpty && decide (s.phase ≠ PH_FAILED)

/-! ### Skerry -/

def Skerry.portRx (k : Skerry) (p : Nat) : LaneRx := tget (fun _ => LaneRx.zero) k.ports p
def Skerry.setPortRx (k : Skerry) (p : Nat) (r : LaneRx) : Skerry :=
  { k with ports := tset (fun _ => LaneRx.zero) k.ports p r }

/-- LOCK_H and LOCK_T follow the ports. -/
def Skerry.showLock (k : Skerry) : Skerry :=
  (k.wr SK_TOP_STAT_LOCK_H (b2n (k.locked 0))).wr SK_TOP_STAT_LOCK_T (b2n (k.locked 1))

/-- The lanes of a Skerry run in RUN and in REPEAT (R345, R349). -/
def Skerry.lanesRun (k : Skerry) : Bool := k.inRun || decide (k.pow.state = .repeating)

/-- Port p leaves for another state than LOCKED; the repeater stops and the time port moves on (R94, R98, R190). -/
def Skerry.portDrop (k : Skerry) (p st : Nat) : Skerry :=
  let was := k.locked p
  let k := { k with pass := tset (fun _ => Pass.zero) k.pass p .zero }
  let k := ((k.wr (SK_LINK_STAT_STATE p) st).wr (SK_LINK_STAT_SCORE p) 0).showLock
  if was then (k.inc (SK_LINK_LOSS_CNT p)).wr (SK_LINK_STAT_TIMEPORT p) 0 else k

/-- Port p enters LOCKED. -/
def Skerry.portLock (k : Skerry) (p : Nat) : Skerry :=
  ((k.wr (SK_LINK_STAT_STATE p) LN_LOCKED).setPortRx p ⟨0, k.now, 0⟩).showLock

/-- Port p in LOCKED has received these symbols. No rule gives a Skerry's LOSS_SCORE: the score reaching it is the
command LOSS_SCORE_LIMIT. -/
def Skerry.portTake (k : Skerry) (p : Nat) (ss : List Sym) : Skerry :=
  if !k.locked p then k
  else
    let k := (k.cnt (SK_LINK_SYM_ERR p) (symErrs ss)).cnt (SK_LINK_PROP_ERR p) (propErrs ss)
    let r := ((k.portRx p).take k.now ss).1
    (k.setPortRx p r).wr (SK_LINK_STAT_SCORE p) (r.at_ k.now)

end Sys2Proof.Machine
end

