-- ==== Sys2Proof/Machine/Mem.lean ====
section
/-! DEFINITION. Memory commands: SRAM reads and writes with the outcome of their decoding, write-backs, retirement, the
background test, group power (R447 to R468). -/

namespace Sys2Proof.Machine
open Sys2Proof

/-! ### Decoding a stripe (R448) -/

/-- What the controller finds in a stripe: positions with a single-bit inner error, positions whose word fails its inner
code with an uncorrectable pattern, and the outer code after inner correction and erasure decoding: 0 consistent, 1 + p
pointing to the word at position p, 19 and above not decodable. -/
structure Stripe where
  ones : List Nat
  bad : List Nat
  outer : Nat
deriving DecidableEq, Repr

/-- Positions of a group that are erasures in a stripe. -/
def State.erasures (s : State) (g : Nat) (x : Stripe) : List Nat :=
  (List.range 18).filter (fun p => s.retired (bankAt g p) || x.bad.contains p)

/-- The words that fail become poisoned: the erasures, or every data word where none is known (R448, R450). -/
def State.poison (s : State) (a : Nat) (ps : List Nat) : State :=
  let ws := (ps.filter (· < 16)).map (fun p => a / 128 * 16 + p)
  s.setMst { s.mst with poison := s.mst.poison ++ ws.filter (fun w => !s.mst.poison.contains w) }

/-- Decode the stripe at address a for a read by port p: whether it can be read (R448, R451). -/
def State.decodeStripe (s : State) (p : Port) (a : Nat) (x : Stripe) : Bool × State :=
  let g := groupOf a
  let er := s.erasures g x
  let back := fun (s : State) => s.setMst { s.mst with wb := if s.mst.wb.contains (a / 128) then s.mst.wb else s.mst.wb ++ [a / 128] }
  if er.length ≥ 3 ∨ x.outer ≥ 19 ∨ (er ≠ [] ∧ x.outer ≠ 0) then
    let ps := if er = [] then List.range 16 else er
    let s := ((s.poison a ps).latchUe p a 1 er.length).inc MEM_UE_CNT
    (false, (s.wr MEM_STAT_UE_EV 1).raise 0x1C7 (bankAt g (er.headD 0) + 256))
  else
    let s := x.ones.foldl (fun s q => s.inc (MEM_CE_CNT_CORR (bankAt g q))) s
    if er ≠ [] then
      let s := x.bad.foldl (fun s q => s.inc (MEM_CE_CNT_REBUILT (bankAt g q))) s
      let s := back (s.raise 0x1C3 (bankAt g (er.headD 0)))
      let lim := s.rd MEM_RETIRE_LIM
      (true, x.bad.foldl (fun s q =>
        if s.on MEM_CTRL_AUTO_RETIRE ∧ lim ≠ 0 ∧ s.rd (MEM_CE_CNT_REBUILT (bankAt g q)) = lim then s.retireBank (bankAt g q) else s) s)
    else if x.outer ≠ 0 then (true, back (s.raise 0x1C3 (bankAt g (x.outer - 1))))
    else if x.ones ≠ [] then (true, back (s.raise 0x1C2 (bankAt g (x.ones.headD 0))))
    else (true, s)

/-- What the controller finds, from the command's operands. -/
def stripeOf (ones bad : List Nat) (outer : Nat) : Stripe := ⟨ones.filter (· < 18), bad.filter (· < 18), outer⟩

/-- SRAM_READ: port p reads n bytes of one stripe from address a; `ones`, `bad` and `outer` are what the decoder finds in it,
and `waits` how often the access waited for the other port (R447, R448, R455). -/
def execSramRead (p : Port) (a n : Nat) (ones bad : List Nat) (outer waits : Nat) (s : State) : Host.Outcome State Fault Refusal :=
  let s := s.cnt MEM_COLL_CNT waits
  if !isSram a ∨ n = 0 ∨ a % 128 + n > 128 then .next (s.emit (.busErr p 2))
  else
    match s.memCause a n with
    | some c => .next (s.emit (.busErr p c))
    | none =>
      if s.poisoned a n then .next ((s.latchUe p a 6 0).emit (.busErr p 6))
      else
        let (ok, t) := s.decodeStripe p a (stripeOf ones bad outer)
        .next (t.emit (if ok then .readBytes p (s.bytes a n) else .busErr p 1))

/-- SRAM_WRITE: port p writes bytes of one stripe; a write of less than the stripe reads it first (R447). -/
def execSramWrite (p : Port) (a : Nat) (data : List Byte) (ones bad : List Nat) (outer waits : Nat) (s : State) :
    Host.Outcome State Fault Refusal :=
  let s := s.cnt MEM_COLL_CNT waits
  let n := data.length
  if !isSram a ∨ n = 0 ∨ a % 128 + n > 128 then .next (s.emit (.busErr p 2))
  else
    match s.memCause a n with
    | some c => .next (s.emit (.busErr p c))
    | none =>
      if s.partPoison a n then .next (s.emit (.busErr p 6))
      else
        let (ok, s) := if n = 128 then (true, s) else s.decodeStripe p a (stripeOf ones bad outer)
        if !ok then .next (s.emit (.busErr p 1))
        else match s.writeMem a data with
          | (none, s) => .next s
          | (some c, s) => .next (s.emit (.busErr p c))

/-- WRITE_BACK: stripe x (an SRAM address over 128) is written back; its contents are as every read has given them (R449). -/
def execWriteBack (x : Nat) (s : State) : Host.Outcome State Fault Refusal :=
  .next (s.setMst { s.mst with wb := s.mst.wb.filter (fun y => decide (y ≠ x)) })

/-- A write of MEM_RETIRE (R451). -/
def State.writeMemRetire (s : State) (p : Port) (v : Nat) : State :=
  if !bitOf v 31 then s
  else if v % 128 ≥ 72 then s.range p A_MEM_RETIRE
  else s.retireBank (v % 128)

/-- MEM_RETIRE. -/
def execMemRetire (p : Port) (v : Word) (s : State) : Host.Outcome State Fault Refusal := .next (s.writeMemRetire p v.toNat)

/-! ### The background test (R461 to R465) -/

/-- Bank k can be tested: in service, its group on. -/
def State.bistable (s : State) (k : Nat) : Bool := !s.retired k && s.ready (k / 18)

/-- The region that follows bank k of region r: bank, region, walks completed; at most `fuel` banks are looked at. -/
def State.bistNext (s : State) : Nat → Nat → Nat → Nat → Option (Nat × Nat × Nat)
  | 0, _, _, _ => none
  | fuel + 1, k, r, w =>
    let (k, r, w) := if k < 72 then (k, r, w) else if r < 511 then (0, r + 1, w) else (0, 0, w + 1)
    if s.bistable k then some (k, r, w) else s.bistNext fuel (k + 1) r w

/-- BIST_REGION_START: after GAP the next region comes under test (R461). -/
def execBistRegionStart (s : State) : Host.Outcome State Fault Refusal :=
  if s.on MEM_BIST_CTRL_EN ∧ !s.on MEM_BIST_STAT_ACTIVE then
    let k := if s.mst.bist then s.rd MEM_BIST_STAT_BANK + 1 else 0
    match s.bistNext 146 k (s.rd MEM_BIST_STAT_REGION) 0 with
    | none => .next s
    | some (k, r, w) =>
      let s := ((s.wr MEM_BIST_STAT_BANK k).wr MEM_BIST_STAT_REGION r).wr MEM_BIST_WALKS (s.rd MEM_BIST_WALKS + w)
      .next (((s.wr MEM_BIST_STAT_RUN 1).wr MEM_BIST_STAT_ACTIVE 1).setMst { s.mst with bist := true })
  else .next s

/-- The test stops where EN is 0 and no region is under test. -/
def State.bistIdle (s : State) : State :=
  if !s.on MEM_BIST_CTRL_EN ∧ !s.on MEM_BIST_STAT_ACTIVE then s.wr MEM_BIST_STAT_RUN 0 else s

/-- BIST_REGION_END: the test of the region ends; `fail` says that a cell failed, at a word of the region and a bit (R462,
R464). -/
def execBistRegionEnd (fail : Bool) (word bit : Nat) (s : State) : Host.Outcome State Fault Refusal :=
  if !s.on MEM_BIST_STAT_ACTIVE then .next s
  else
    let k := s.rd MEM_BIST_STAT_BANK
    let s := s.wr MEM_BIST_STAT_ACTIVE 0
    let s :=
      if fail then
        let s := ((s.wr MEM_BIST_FAIL_BANK k).wr MEM_BIST_FAIL_WORD word).wr MEM_BIST_FAIL_BIT bit
        let s := ((s.wr MEM_BIST_FAIL_VALID 1).wr MEM_STAT_BIST_EV 1).raise 0x1C5 k
        let s := if s.isStandby then { s with red := { s.red with bist := true } } else s
        if s.on MEM_CTRL_AUTO_RETIRE then s.retireBank k else s
      else s
    .next s.bistIdle

/-- A write of MEM_BIST_CTRL: EN 0 completes the region in progress first (R465). -/
def State.writeBist (s : State) (v : Nat) : State :=
  ((s.wr MEM_BIST_CTRL_EN v).wr MEM_BIST_CTRL_GAP (v / 65536)).bistIdle

/-- BIST_STOP. -/
def execBistStop (s : State) : Host.Outcome State Fault Refusal :=
  .next (s.wr MEM_BIST_CTRL_EN 0).bistIdle

/-! ### Power of the groups (R466, R467) -/

/-- The SRAM ranges, start and length, that keep their group on (R466). -/
def State.heldRanges (s : State) : List (Nat × Nat) :=
  let img := [16, 17].filterMap (fun e =>
    let p := s.sec T_IMAGE e
    if p.isEmpty then none else some (b32 p 8, b32 p 12 + b32 p 16))
  let fr := [(s.rd CW_FR_BASE_BASE * 64, s.rd CW_FR_SIZE * 64)]
  let str := ((List.range 24).filter (fun n => s.rd (CONV_STREAM_SIZE n) ≠ 0)).map (fun n =>
    (s.rd (CONV_STREAM_BASE_BASE n) * 16, s.rd (CONV_STREAM_SIZE n) * 16))
  let rec_ := if s.rd ACQ_REC_SIZE = 0 then [] else [(s.rd ACQ_REC_BASE_BASE * 65536, s.rd ACQ_REC_SIZE * 65536)]
  let tap := if (s.sec T_LOOP 0).isEmpty then [] else [(s.rd LOOP_TRACE_BASE_BASE * 262144, 262144)]
  let sch := [(s.rd SCHED_TRACE_BASE_BASE * 16, s.rd SCHED_TRACE_SIZE * 16)]
  let dma := ((List.range 32).filter (fun n => s.rd (DMA_CH_STAT_STATE n) ≠ 0)).flatMap (fun n =>
    let d := tget (fun _ => DmaCh.zero) s.dma n
    [(s.rd (DMA_CH_DESC_DESC n) * 32, 32), (d.src, if bitOf d.flags 0 then d.len else 16), (d.dst, if bitOf d.flags 1 then d.len else 16)])
  (img ++ fr ++ str ++ rec_ ++ tap ++ sch ++ dma).filter (fun r => isSram r.1 && decide (r.2 ≠ 0))

/-- A range touches a group. -/
def touches (g : Nat) (r : Nat × Nat) : Bool := decide (groupOf r.1 ≤ g) && decide (g ≤ groupOf (min (r.1 + r.2 - 1) 0x03FFFFFF))

/-- A write of MEM_PWR (R466). -/
def State.writeMemPwr (s : State) (p : Port) (v : Nat) : State :=
  let was := s.rd MEM_PWR_OFF
  let gs := [0, 1, 2, 3]
  if (gs.filter (fun g => bitOf v g && !bitOf was g)).any (fun g => s.heldRanges.any (touches g)) then s.range p A_MEM_PWR
  else
    let s := s.wr MEM_PWR_OFF v
    (gs.filter (fun g => bitOf v g != bitOf was g)).foldl (fun s g => s.clearGroup g) s

/-- MEM_PWR_WRITE. -/
def execMemPwrWrite (p : Port) (v : Word) (s : State) : Host.Outcome State Fault Refusal := .next (s.writeMemPwr p v.toNat)

/-- GROUP_CLEAR_DONE: the hardware clearing of group g ends (R467). -/
def execGroupClearDone (g : Nat) (s : State) : Host.Outcome State Fault Refusal :=
  if g < 4 ∧ !bitOf (s.rd MEM_PWR_OFF) g then .next (s.wr MEM_STAT_READY (s.rd MEM_STAT_READY ||| 2 ^ g)) else .next s

end Sys2Proof.Machine
end

