-- ==== Sys2Proof/Machine/Ferry.lean ====
section
/-! DEFINITION. Ferries as symbols: injected flash orders, fields, validity, the trailer (R123 to R128, R144, R152 to
R155). -/

namespace Sys2Proof.Machine
open Sys2Proof

def kSOF : Byte := 0xFB
def kEOF : Byte := 0xFD
def kMARK : Byte := 0x3C
def kPROP : Byte := 0xFE

/-- The 8-bit value of a symbol; 0 for a symbol error. -/
def symByte : Sym → Byte
  | .d b => b
  | .k b => b
  | .err => 0

def isData : Sym → Bool
  | .d _ => true
  | _ => false

/-- A symbol as it is repeated: a symbol error becomes K30.7 (R92). -/
def repeated : Sym → Sym
  | .err => .k kPROP
  | x => x

/-- The K-characters that begin a flash order (R154). -/
def isFlashK : Sym → Bool
  | .k b => [0x1C, 0x5C, 0x9C, 0xDC, 0xF7, 0x7C].contains b.toNat
  | _ => false

/-- Each symbol with its offset in the ferry; the four symbols of an injected flash order have none (R123). `r` symbols of
a flash order are still to come. -/
def tagSyms : List Sym → Nat → Nat → List (Sym × Option Nat)
  | [], _, _ => []
  | x :: t, i, r + 1 => (x, none) :: tagSyms t i r
  | x :: t, i, 0 => if isFlashK x then (x, none) :: tagSyms t i 3 else (x, some i) :: tagSyms t (i + 1) 0

/-- The ferry without its flash orders. -/
def ferryOf (ts : List (Sym × Option Nat)) : List Sym := ts.filterMap (fun x => if x.2.isSome then some x.1 else none)

/-- Cut a list of symbols into fours; `fuel` bounds the pieces. -/
def fours : Nat → List Sym → List (List Sym)
  | 0, _ => []
  | fuel + 1, l => if l.isEmpty then [] else l.take 4 :: fours fuel (l.drop 4)

/-- The flash orders injected into a stretch. -/
def flashesOf (ts : List (Sym × Option Nat)) : List (List Sym) :=
  let l := ts.filterMap (fun x => if x.2.isNone then some x.1 else none)
  fours l.length l

/-- A valid flash order: its K-character, D1 and D2 (R152, R153, R155). -/
def flashOf : List Sym → Option (Nat × Nat × Nat)
  | [.k kb, .d a, .d b, .d c] =>
    let k := kb.toNat
    let d1 := a.toNat
    let d2 := b.toNat
    let fixed : Bool :=
      if k = 0x1C then decide (d1 / 32 % 4 = 0)
      else if k = 0x5C ∨ k = 0x7C then decide (d1 < 32)
      else if k = 0x9C then decide (d2 = 0xA5)
      else if k = 0xDC then decide (d2 < 2)
      else decide (d2 = 0)
    if fixed ∧ crc8 [kb, a, b] = c.toNat then some (k, d1, d2) else none
  | _ => none

/-! ### Fields (R124, R127, R134, R144) -/

/-- The bytes at offsets `i` to `i + n − 1`. -/
def ferryBytes (f : List Sym) (i n : Nat) : List Byte := ((f.drop i).take n).map symByte

/-- The big-endian number there. -/
def fld (f : List Sym) (i n : Nat) : Nat := beNat (ferryBytes f i n)

def frDir (f : List Sym) : Nat := fld f 1 1 / 8 % 2
def frMeasure (f : List Sym) : Bool := bitOf (fld f 1 1) 2
def frSender (f : List Sym) : Nat := fld f 1 1 % 4
def frCauseway (f : List Sym) : Nat := fld f 2 1
def frHops (f : List Sym) : Nat := fld f 3 1
def frDepart (f : List Sym) : Nat := ctOf96 (fld f 4 12)
def frSeq (f : List Sym) : Nat := fld f 16 4
def frEpoch (f : List Sym) : Nat := fld f 20 1
def frStage (f : List Sym) : Bool := bitOf (fld f 21 1) 0
def frAt (f : List Sym) : Nat := fld f 22 4
def frCount (f : List Sym) : Nat := fld f 30 1

/-- The framing of any frame of `n` symbols: SOF, data, EOF K29.7, CRC in the four bytes before the EOF. -/
def frameOk (f : List Sym) (n : Nat) : Bool :=
  decide (f.length = n) && decide (f.head? = some (.k kSOF)) && decide (f.getLast? = some (.k kEOF))
  && ((f.drop 1).take (n - 2)).all isData

/-- The CRC over offsets 1 to 1,130 matches (R144). -/
def crcOk (f : List Sym) : Bool := decide (crc32 (ferryBytes f 1 1130) = fld f 1131 4)

/-- The conditions of R125 that no receiver adds to: framing, FORMAT, SENDER, DIR, CRC. -/
def ferryOk (f : List Sym) (dir : Nat) : Bool :=
  frameOk f 1136 && decide (fld f 1 1 / 16 = 1) && decide (frSender f = 1 ∨ frSender f = 2) && decide (frDir f = dir)
  && crcOk f

/-- OPP_ARRIVE completed beside the DEPART of the same ferry or frame (R144): the SEC with the given low 16 bits from
32,768 s before that of DEPART on. -/
def oppFull (sec16 ns frac depart : Nat) : Nat :=
  let from_ : Int := (ctSec depart : Int) - 32768
  let sec : Int := from_ + ((sec16 : Int) - from_) % 65536
  (sec * secU + ns * nsU + frac).toNat

/-- OPP_ARRIVE and OPP_SEQ at offset `o`; none where the sender has had no valid ferry yet. -/
def oppAt (f : List Sym) (o depart : Nat) : Option (Nat × Nat) :=
  let v := fld f o 8
  let q := fld f (o + 8) 2
  if v = 0 ∧ q = 0 then none else some (oppFull (v / 2 ^ 48) (v / 2 ^ 18 % 2 ^ 30) (v % 2 ^ 18) depart, q)

/-- The command half that eight bytes spell (R127). -/
def halfOf (b : List Byte) : Berth :=
  { stA := b8 b 0 / 32, stB := b8 b 0 / 4 % 8, valid := bitOf (b8 b 0) 0, action := b8 b 1, dutyA := b16 b 2,
    dutyB := b16 b 4, stAfter := b8 b 6 / 32, after := b16 b 6 % 8192 }

/-- The eight bytes of a command half. -/
def halfBytes (b : Berth) : List Byte :=
  [BitVec.ofNat 8 (b.stA % 8 * 32 + b.stB % 8 * 4 + b2n b.valid), BitVec.ofNat 8 b.action] ++ beBytes 2 b.dutyA ++
  beBytes 2 b.dutyB ++ beBytes 2 (b.stAfter % 8 * 8192 + b.after % 8192)

/-- A frame around bytes 1 onwards: SOF, the bytes, their CRC, EOF. -/
def sealFrame (bs : List Byte) : List Sym := .k kSOF :: ((bs ++ beBytes 4 (crc32 bs)).map Sym.d ++ [.k kEOF])

/-- The freight part of a ferry (R134): ADDR, 48 bytes of data, LEN, RSP 0, INDEX, and FR_CRC over the header bytes too. -/
def freightBytes (head : List Byte) (addr : Nat) (data : List Byte) (len index : Nat) : List Byte :=
  let b := beBytes 4 addr ++ (data ++ List.replicate 48 0).take 48 ++ [BitVec.ofNat 8 len, 0] ++ beBytes 2 index ++ [0, 0, 0, 0]
  b ++ beBytes 4 (crc32 (head ++ b))

end Sys2Proof.Machine
end

