-- ==== Sys2Proof/Machine/Time.lean ====
section
/-! DEFINITION. The commands of converter time (R166 to R202): the fallback path, source timeouts, the resolutions of
REFUSED, time-marks and time triggers. -/

namespace Sys2Proof.Machine
open Sys2Proof

/-- The fallback pair takes CT, rounded down to 40 ns (R172). -/
def Clk.loadFb (c : Clk) (ct : Nat) : Clk := { c with fb := ct / nsU / 40 * 40, fbAcc := 0 }

/-- FALLBACK_LOAD: the first fallback tick after a ferry-cycle start, while the main path runs (R172). -/
def execFallbackLoad (c : Chip) (s : State) : Host.Outcome State Fault Refusal :=
  match c with
  | .balgal => if s.rd TIME_STAT_PATH = 0 then
      .next ((s.setClk (s.clk.loadFb s.ct)).setTim { s.tim with loadDue := false }) else .next s
  | .skerry g => .next (s.runCell g (fun k =>
      if k.rd SK_TIME_STAT_PATH = 0 then { k with clk := k.clk.loadFb k.ct } else k))

/-- MAIN_PATH_LOST: every use of CT goes to the fallback pair; PATH, FALLBACK_EV and the source time-fallback (R173). -/
def execMainPathLost (c : Chip) (s : State) : Host.Outcome State Fault Refusal :=
  match c with
  | .balgal => if s.rd TIME_STAT_PATH = 0 then
      .next (((s.wr TIME_STAT_PATH 1).wr TIME_STAT_FALLBACK_EV 1).raise 0x0C2 0) else .next s
  | .skerry g => .next (s.runCell g (fun k =>
      if k.rd SK_TIME_STAT_PATH = 0 then (k.wr SK_TIME_STAT_PATH 1).wr SK_TIME_STAT_FALLBACK_EV 1 else k))

/-- The main path goes on from the fallback value (R174). -/
def Clk.back (c : Clk) : Clk := { c with base := c.fb * nsU, cbase := c.count, slew := 0, left := 0, accepted := false }

/-- MAIN_PATH_RETURN: BASE from the fallback pair, RATE kept, PATH 0, HOLDOVER unless FREE (R174). A Balgal with MAIN_EN
0 stays on the fallback pair (R175). -/
def execMainPathReturn (c : Chip) (s : State) : Host.Outcome State Fault Refusal :=
  match c with
  | .balgal => if s.rd TIME_STAT_PATH = 1 ∧ s.on TIME_CTRL_MAIN_EN then
      let s := ((s.setClk s.clk.back).wr TIME_STAT_PATH 0).wr TIME_STAT_SLEWING 0
      .next (if s.rd TIME_STAT_STATE = TS_FREE then s else s.timeTo TS_HOLDOVER)
    else .next s
  | .skerry g => .next (s.runCell g (fun k =>
      if k.rd SK_TIME_STAT_PATH = 1 then
        let k := ({ k with clk := k.clk.back }.wr SK_TIME_STAT_PATH 0).wr SK_TIME_STAT_SLEWING 0
        if k.rd SK_TIME_STAT_STATE = TS_FREE then k else k.wr SK_TIME_STAT_STATE TS_HOLDOVER
      else k))

/-- A Skerry whose source has been silent for its timeout (R178). -/
def Skerry.silentSource (k : Skerry) : Skerry :=
  let st := k.rd SK_TIME_STAT_STATE
  if st = TS_LOCKED ∨ st = TS_ACQUIRE then
    ({ k with clk := { k.clk.reload k.rate with slew := 0, left := 0 } }.wr SK_TIME_STAT_SLEWING 0).wr SK_TIME_STAT_STATE TS_HOLDOVER
  else k

/-- SLEW_END: the correction in progress is used up, and SLEW is 0 (R179). -/
def execSlewEnd (c : Chip) (s : State) : Host.Outcome State Fault Refusal :=
  match c with
  | .balgal => if s.clk.slew ≠ 0 then .next s.slewDone else .next s
  | .skerry g => .next (s.runCell g (fun k => if k.clk.slew ≠ 0 then k.slewEnd else k))

/-- TIME_CTRL.ACCEPT_STEP: step by TIME_JUMP_NS into ACQUIRE, where the state and R181 permit it (R182). -/
def State.acceptStep (s : State) (p : Port) : State :=
  if s.rd TIME_STAT_STATE = TS_REFUSED ∧ s.stepOk then
    let s := (s.stepCt (s.rdS TIME_JUMP_NS * nsU)).timeTo TS_ACQUIRE
    s.setClk { s.clk with lockCnt := 0 }
  else s.range p A_TIME_CTRL

/-- TIME_CTRL.SLEW_JUMP: TIME_JUMP_NS becomes a pending slew (R182). -/
def State.slewJump (s : State) (p : Port) : State :=
  if s.rd TIME_STAT_STATE = TS_REFUSED then (s.slewBy (s.rdS TIME_JUMP_NS * nsU) true).timeTo TS_LOCKED
  else s.range p A_TIME_CTRL

/-- TIME_CTRL.DISCARD_JUMP: the present source turns invalid with reason 0x3 (R182). -/
def State.discardJump (s : State) (p : Port) : State :=
  if s.rd TIME_STAT_STATE = TS_REFUSED then
    (if s.rd TIME_STAT_SRC < 4 then s.srcInvalid (s.rd TIME_STAT_SRC) 3 else s)
  else s.range p A_TIME_CTRL

/-- ACCEPT_STEP. -/
def execAcceptStep (p : Port) (s : State) : Host.Outcome State Fault Refusal := .next (s.acceptStep p)
/-- SLEW_JUMP. -/
def execSlewJump (p : Port) (s : State) : Host.Outcome State Fault Refusal := .next (s.slewJump p)
/-- DISCARD_JUMP. -/
def execDiscardJump (p : Port) (s : State) : Host.Outcome State Fault Refusal := .next (s.discardJump p)

/-- A write of TIME_MARK_CTRL. With SEND, a time-mark becomes due on this Balgal's lane of the causeway and end named;
while another waits, or where the end is not this Balgal's, the SEND is ignored and raises range (R194). -/
def State.writeMark (s : State) (p : Port) (v : Nat) : State :=
  let busy := s.flash.due.any (fun o => decide (o.kind = .timeMark))
  if !bitOf v 31 then s.wrW A_TIME_MARK_CTRL (BitVec.ofNat 32 (v % 65536))
  else if busy then s.range p A_TIME_MARK_CTRL
  else
    let s := s.wrW A_TIME_MARK_CTRL (BitVec.ofNat 32 (v % 65536))
    let c := v / 256 % 128
    match if s.cwUsed c then s.endLane c (bitOf v 15) else none with
    | some n => s.needFlash n .timeMark (v % 256) 0
    | none => s.range p A_TIME_MARK_CTRL

/-- TIME_MARK_SEND: the write `v` of TIME_MARK_CTRL. -/
def execTimeMarkSend (p : Port) (v : Word) (s : State) : Host.Outcome State Fault Refusal := .next (s.writeMark p v.toNat)

/-- TRIGGER_ARM. -/
def execTriggerArm (c : Chip) (p : Port) (k : Nat) (s : State) : Host.Outcome State Fault Refusal :=
  match c with
  | .balgal => if k < 16 then .next (s.trigArm p k) else .next s
  | .skerry g => if k < 2 then .next (s.runCell g (fun c => c.trigArm k)) else .next s

/-- TRIGGER_DISARM. -/
def execTriggerDisarm (c : Chip) (k : Nat) (s : State) : Host.Outcome State Fault Refusal :=
  match c with
  | .balgal => if k < 16 then .next (s.trigDisarm k) else .next s
  | .skerry g => if k < 2 then .next (s.runCell g (fun c => c.trigDisarm k)) else .next s

/-- TRIGGER_FIRE: trigger k has reached an instant. -/
def execTriggerFire (c : Chip) (k : Nat) (s : State) : Host.Outcome State Fault Refusal :=
  match c with
  | .balgal => if k < 16 then .next (s.trigFire k) else .next s
  | .skerry g => if k < 2 then .next (s.runCell g (fun c => c.trigFire k)) else .next s

/-- TIME_OUT_PULSE_END: the pulse on TIME_OUT runs out, unless a later firing extended it (R197). -/
def execTimeOutPulseEnd (s : State) : Host.Outcome State Fault Refusal :=
  if s.tim.outTo ≤ s.clk.count then .next (s.setTim { s.tim with outTo := 0 }) else .next s

end Sys2Proof.Machine
end

