-- ==== Sys2Proof/Machine/NetOps.lean ====
section
/-! DEFINITION. Station services: ports, PTP validity, publications, frames between Balgals and their time (R187, R199, R584
to R589, R597, R598, R609 to R613). -/

namespace Sys2Proof.Machine
open Sys2Proof

def State.setNet (s : State) (n : Net) : State := { s with net := n }
def State.netB (s : State) (i : Nat) : Nat := b8 (s.sec T_NET 0) i

/-! ### Ports (R584, R585, R599) -/

def State.portB (s : State) (p i : Nat) : Nat := s.netB (16 + 32 * p + i)

/-- The MAC address of a port as a number; 0 where the port is not in use. -/
def State.portMac (s : State) (p : Nat) : Nat := beNat (((s.sec T_NET 0).drop (16 + 32 * p)).take 6)

/-- A port in use (R584). -/
def State.portUsed (s : State) (p : Nat) : Bool :=
  decide (p < 4) && decide (s.rd (LANE_CFG_MODE (104 + p)) ≥ 2) && decide (s.portMac p ≠ 0)

def State.linkUp (s : State) (p : Nat) : Bool := s.on (NET_PTP_STAT_LINK p)

/-! ### PTP (R587 to R589) -/

def PTP_INIT : Nat := 1
def PTP_LISTENING : Nat := 4
def PTP_MASTER : Nat := 6
def PTP_SLAVE : Nat := 9

def State.ptp (s : State) (p : Nat) : PtpPort := tget (fun _ => PtpPort.zero) s.net.ptp p
def State.setPtp (s : State) (p : Nat) (x : PtpPort) : State :=
  s.setNet { s.net with ptp := tset (fun _ => PtpPort.zero) s.net.ptp p x }

def State.ptpMode (s : State) (p : Nat) : Nat := s.portB p 6
/-- The port runs a PTP Instance. -/
def State.ptpOn (s : State) (p : Nat) : Bool := s.portUsed p && decide (s.ptpMode p = 1 ∨ s.ptpMode p = 2)
def State.portState (s : State) (p : Nat) : Nat := s.rd (NET_PTP_STAT_PSTATE p)

/-- LOG_SYNC of a port. -/
def State.logSync (s : State) (p : Nat) : Int := signed 8 (s.portB p 11)

/-- meanLinkDelay in 2^-18 ns: the mean of the last 8 exchanges. -/
def PtpPort.mean (x : PtpPort) : Int := if x.delays.isEmpty then 0 else x.delays.foldl (· + ·) 0 / (x.delays.length : Int)

/-- A port may be a master: PTP_MODE 2, active, and LOCKED or FREE with an empty source list (R589). -/
def State.mayMaster (s : State) (p : Nat) : Bool :=
  decide (s.ptpMode p = 2) && s.isActive &&
    (decide (s.rd TIME_STAT_STATE = TS_LOCKED) || (decide (s.rd TIME_STAT_STATE = TS_FREE) && decide (b8 (s.sec T_TIME 0) 7 = 0)))

/-- The conditions of R588 on a port. -/
def State.ptpValid (s : State) (p : Nat) : Bool :=
  let x := s.ptp p
  decide (s.portState p = PTP_SLAVE) && x.ann && x.sync && !x.delays.isEmpty

/-- VALID of a port follows; ptp-lost on a change from valid to invalid (R588). -/
def State.ptpJudge (s : State) (p : Nat) : State :=
  let v := s.ptpValid p
  let was := s.on (NET_PTP_STAT_VALID p)
  let s := s.wr (NET_PTP_STAT_VALID p) (b2n v)
  if was ∧ !v then (s.raise 0x282 p).codeInvalid (0x10 + p) 2 else s

/-- offsetFromMaster of a Sync in SLAVE: the register, route source 0x50, the time sample of R188. -/
def State.ptpSample (s : State) (p : Nat) (arrival origin corr logInt : Int) : State :=
  let x := s.ptp p
  let ofs := arrival - origin - corr - x.mean
  let s := (s.wrS (NET_PTP_OFS p) (to16thNs ofs)).setPtp p { x with sync := true, two := none }
  let s := (s.fireRoute 0x50).ptpJudge p
  if s.on (NET_PTP_STAT_VALID p) then
    let t := s.sec T_TIME 0
    s.srcSample (0x10 + p) 0 (-ofs) ⟨b8 t 12, b8 t 13, 1000000000 / 2 ^ (-logInt).toNat, ((b8 t 15 * 10 * nsU : Nat) : Int)⟩
  else s

/-! ### GOOSE publications (R597, R598) -/

def State.pubB (s : State) (u i : Nat) : Nat := s.netB (2192 + 192 * u + i)
def State.pub16 (s : State) (u i : Nat) : Nat := s.pubB u i * 256 + s.pubB u (i + 1)
def State.pubOn (s : State) (u : Nat) : Bool := s.pubB u 1 = 1
def State.pub (s : State) (u : Nat) : Pub := tget (fun _ => Pub.zero) s.net.pubs u
def State.setPub (s : State) (u : Nat) (x : Pub) : State := s.setNet { s.net with pubs := tset (fun _ => Pub.zero) s.net.pubs u x }

/-- A member source of publication u, bit m (R597). -/
def State.member (s : State) (u m : Nat) : Bool :=
  let c := s.pubB u (20 + m)
  if c = 0 then bitOf (s.rd (NET_GPUB_FW u)) m
  else if c = 1 then s.committing
  else if c = 2 then decide (s.rd FLT_STAT_STATE = 2)
  else if c = 3 then decide (2 ≤ s.rd SAFE_STAT_STATE ∧ s.rd SAFE_STAT_STATE ≤ 4)
  else s.isActive

def State.members (s : State) (u : Nat) : Nat :=
  (List.range (s.pubB u 2)).foldl (fun v m => v + (if s.member u m then 2 ^ m else 0)) 0

/-- TimeQuality of a published message. -/
def State.quality (s : State) : Nat := 0x14 + (if s.rd TIME_STAT_STATE = TS_LOCKED then 0 else 0x20)

/-- The message of publication u leaves its port. -/
def State.pubSend (s : State) (u : Nat) : State :=
  let x := s.pub u
  s.emit (.eth (s.pubB u 0) (.goose u (s.rd (NET_GPUB_ST u)) x.sq (2 * s.pub16 u 18) x.vals x.t s.quality))

/-- A publication at a ferry-cycle start: a sample that differs from the last one sent is sent at once. -/
def State.gooseChange (s : State) (u : Nat) : State :=
  let v := s.members u
  let x := s.pub u
  if !s.pubOn u ∨ (x.sent ∧ x.vals = v) then s
  else
    let st := s.rd (NET_GPUB_ST u)
    let s := s.wr (NET_GPUB_ST u) (if st = 0xFFFFFFFF then 1 else st + 1)
    (s.setPub u ⟨true, v, 0, s.ct, s.pub16 u 16⟩).pubSend u

/-! ### Frames between Balgals: departure, opposite arrival, time samples (R187, R199, R509, R609) -/

/-- The 96 bits of DEPART and the SEQ of a frame that leaves now. -/
def State.departBytes (s : State) : List Byte := beBytes 12 (ct96 s.ct) ++ beBytes 4 (ctCycle s.ct)

/-- OPP_ARRIVE and OPP_SEQ: ten bytes (R144). -/
def oppBytes (o : Option (Nat × Nat)) : List Byte :=
  match o with
  | none => List.replicate 10 0
  | some (seq, arr) => beBytes 8 ((ctSec arr % 65536 * 2 ^ 30 + ctNs arr) * 2 ^ 18 + ctFrac arr) ++ beBytes 2 seq

/-- The last valid frame heard on lane n: SEQ and arrival. -/
def State.heardOn (s : State) (n : Nat) : Option (Nat × Nat) := (s.tim.heard.find? (fun x => x.1 = n)).map (·.2)

/-- A frame leaves lane n now: its SEQ and departure are kept, 16 a lane. -/
def State.noteSent (s : State) (n : Nat) : State :=
  let (mine, rest) := s.tim.sent.partition (fun x => decide (x.1 = n))
  s.setTim { s.tim with sent := ((n, ctCycle s.ct % 2 ^ 32, s.ct) :: mine.take 15) ++ rest }

/-- A valid frame has arrived on lane n: SEQ and arrival are kept. -/
def State.noteHeard (s : State) (n seq arr : Nat) : State :=
  s.setTim { s.tim with heard := (n, seq, arr) :: s.tim.heard.filter (fun x => decide (x.1 ≠ n)) }

/-- e of R187 from a frame that arrived at `arr` on lane n: half the difference of the two ways. -/
def State.pairError (s : State) (n : Nat) (f : List Sym) (arr : Nat) : Option Int :=
  match oppAt f 20 (frDepart f) with
  | none => none
  | some (opp, q) =>
    match s.tim.sent.find? (fun x => decide (x.1 = n ∧ x.2.1 % 65536 = q)) with
    | none => none
    | some x => some ((((opp : Int) - x.2.2) - ((arr : Int) - frDepart f)) / 2)

/-! ### Strait links (R609 to R612) -/

def State.stLane (s : State) (i : Nat) : StLane := tget (fun _ => StLane.zero) s.net.st i
def State.setStLane (s : State) (i : Nat) (x : StLane) : State := s.setNet { s.net with st := tset (fun _ => StLane.zero) s.net.st i x }

/-- DEPTH that this Balgal sends (R609). -/
def State.sendDepth (s : State) : Nat := if s.isActive then s.rd TIME_STAT_DEPTH else 15

/-- UPSTREAM that this Balgal sends (R609). -/
def State.sendUpstream (s : State) : Nat :=
  if s.sendDepth = 0 ∨ s.sendDepth = 15 then 0xFF
  else
    let c := s.rd (TIME_SRC_CODE (s.rd TIME_STAT_SRC % 4))
    s.rd (NET_ST_STAT_PEER_CONV (c % 4))

/-- ROLE as R511 gives it: 0 outside phase RUN. -/
def State.roleWord (s : State) : Nat := if s.inRun then s.role else 0

/-- The strait frame of strait lane i (R609). -/
def State.straitFrame (s : State) (i : Nat) : List Sym :=
  let x := s.stLane i
  let busy := s.on (NET_ST_TXCTRL_TX_BUSY i)
  let len := if busy then s.rd (NET_ST_TXCTRL_LEN i) else 0
  let msg := ((List.range 12).flatMap (fun w => leBytes 4 (s.rd (NET_ST_TXBUF i w)))).take len
  let health := s.roleWord + 4 * s.rd FLT_STAT_STATE + 16 * b2n s.committing + 32 * b2n (s.rd TIME_STAT_STATE = TS_LOCKED)
  sealFrame ([0x70, BitVec.ofNat 8 (s.rd TOP_STAT_CONVERTER), BitVec.ofNat 8 i] ++ s.departBytes ++ oppBytes x.arrived ++
    [BitVec.ofNat 8 s.sendDepth, BitVec.ofNat 8 s.sendUpstream] ++ beBytes 4 health ++
    [BitVec.ofNat 8 (if busy then s.rd (NET_ST_TXCTRL_SEQ i) else 0), BitVec.ofNat 8 x.ack, BitVec.ofNat 8 len,
     BitVec.ofNat 8 s.net.session] ++ msg ++ List.replicate (48 - len) 0)

/-- The strait lanes at a ferry-cycle start: LIVE follows the cycle that ends, and each enabled lane sends its frame. -/
def State.straitSend (s : State) (i : Nat) : State :=
  if s.rd (LANE_CFG_MODE (108 + i)) = 0 then s
  else
    let x := s.stLane i
    let run := if x.got then min (x.run + 1) 4 else 0
    let s := (s.wr (NET_ST_STAT_LIVE i) (b2n (decide (run ≥ 4)))).setStLane i { x with run := run, got := false }
    let s := (s.emit (.frame (108 + i) (s.straitFrame i))).noteSent (108 + i)
    if s.on (NET_ST_TXCTRL_TX_BUSY i) then
      let x := s.stLane i
      s.setStLane i { x with first := if x.carried = 0 then ctCycle s.ct % 65536 else x.first, carried := x.carried + 1 }
    else s

end Sys2Proof.Machine
end

