-- ==== Sys2Proof/Machine/Net.lean ====
section
/-! DEFINITION. The commands of the station services: Ethernet, PTP, sampled values, GOOSE, strait links (R584 to R613). -/

namespace Sys2Proof.Machine
open Sys2Proof

/-! ### Ethernet (R584, R585) -/

/-- ETH_FRAME_RECEIVE: a frame of `len` bytes and an Ethertype arrives at port p; `fcs` its FCS is right, `ign` it is a PTP
message that R586 ignores. One that is not dropped acts by the command of its content. -/
def execEthFrameReceive (p len etype : Nat) (fcs ign : Bool) (s : State) : Host.Outcome State Fault Refusal :=
  if !s.portUsed p then .next s
  else if fcs ∧ 64 ≤ len ∧ len ≤ 1522 ∧ (etype = 0x88F7 ∨ etype = 0x88B8 ∨ etype = 0x88BA) then
    .next (if etype = 0x88F7 ∧ ign then s.inc (NET_PTP_IGN p) else s)
  else .next (s.inc (NET_RX_DROP p))

/-- ETH_LINK_UP: a port gains synchronisation or block lock; the link is up unless a negotiation did not resolve to full
duplex (R585). -/
def execEthLinkUp (p : Nat) (full : Bool) (s : State) : Host.Outcome State Fault Refusal :=
  if !s.portUsed p then .next s
  else .next ((s.laneLock (104 + p)).wr (NET_PTP_STAT_LINK p)
    (b2n (!(decide (s.rd (LANE_CFG_MODE (104 + p)) = 2) && decide (s.portB p 7 = 1) && !full))))

/-- ETH_LINK_DOWN: the port loses synchronisation or block lock. -/
def execEthLinkDown (p : Nat) (s : State) : Host.Outcome State Fault Refusal :=
  if !s.portUsed p then .next s else .next ((s.laneDrop (104 + p) LN_SEEK).wr (NET_PTP_STAT_LINK p) 0)

/-! ### PTP (R586 to R589) -/

/-- A message that R586 ignores is counted. -/
def State.ptpIgnore (s : State) (p : Nat) : State := s.inc (NET_PTP_IGN p)

/-- PTP_SYNC: a Sync of sequenceId `seq`, one-step or two-step, whose reference point arrived `back` sixteenths of a word clock
ago; origin in 2^-18 ns, corr in 2^-16 ns (R587). -/
def execPtpSync (p seq dom : Nat) (two : Bool) (logInt : Int) (origin : Nat) (corr : Int) (back : Nat) (s : State) :
    Host.Outcome State Fault Refusal :=
  if !s.ptpOn p then .next s
  else if dom ≠ 0 ∨ logInt < -4 ∨ logInt > 0 then .next (s.ptpIgnore p)
  else if s.portState p ≠ PTP_SLAVE then .next s
  else
    let x := s.ptp p
    let s := if x.two.isSome then s.ptpIgnore p else s
    let arr := (s.ct : Int) - sixteenths back
    if two then .next (s.setPtp p { x with two := some (seq, arr, corr * 4), logInt := logInt })
    else .next (s.ptpSample p arr origin (corr * 4) logInt)

/-- PTP_FOLLOW_UP: the Follow_Up of the two-step Sync of the same sequenceId. -/
def execPtpFollowUp (p seq origin : Nat) (corr : Int) (s : State) : Host.Outcome State Fault Refusal :=
  let x := s.ptp p
  match x.two with
  | some (q, arr, c) =>
    if s.ptpOn p ∧ q = seq ∧ s.portState p = PTP_SLAVE then .next (s.ptpSample p arr origin (c + corr * 4) x.logInt) else .next s
  | none => .next s

/-- PTP_PDELAY_REQ: answered with a one-step Pdelay_Resp; `turn` is the residence time in 2^-18 ns (R200, R587). -/
def execPtpPdelayReq (p seq : Nat) (turn : Int) (s : State) : Host.Outcome State Fault Refusal :=
  if s.ptpOn p then .next (s.emit (.eth p (.pdelayResp seq turn))) else .next s

/-- PTP_PDELAY_RESP: completes the exchange of the last Pdelay_Req; `turn` is the partner's turnaround in 2^-18 ns. -/
def execPtpPdelayResp (p seq : Nat) (turn : Int) (back : Nat) (s : State) : Host.Outcome State Fault Refusal :=
  let x := s.ptp p
  match x.req with
  | some (q, t1) =>
    if s.ptpOn p ∧ q = seq then
      let d := ((s.ct : Int) - sixteenths back - t1 - turn) / 2
      let x := { x with delays := (d :: x.delays).take 8, req := none }
      .next (((s.setPtp p x).wr (NET_PTP_DELAY p) (unsigned 32 (to16thNs x.mean))).ptpJudge p)
    else .next s
  | none => .next s

/-- PTP_ANNOUNCE: an Announce has been judged by the BMCA of clause 9.3, which gives the port the portState `st`; a port that
may not be a master does not take MASTER (R587, R589). -/
def execPtpAnnounce (p st : Nat) (s : State) : Host.Outcome State Fault Refusal :=
  if !s.ptpOn p ∨ st < 1 ∨ st > 9 ∨ (st = PTP_MASTER ∧ !s.mayMaster p) then .next s
  else .next (((s.wr (NET_PTP_STAT_PSTATE p) st).setPtp p { s.ptp p with ann := true }).ptpJudge p)

/-- ANNOUNCE_TIMEOUT: no Announce within announceReceiptTimeout: the port is invalid, and is MASTER where it may be
(R588, R589). -/
def execAnnounceTimeout (p : Nat) (s : State) : Host.Outcome State Fault Refusal :=
  if !s.ptpOn p then .next s
  else
    let st := if s.mayMaster p then PTP_MASTER else PTP_LISTENING
    .next (((s.wr (NET_PTP_STAT_PSTATE p) st).setPtp p { s.ptp p with ann := false, sync := false }).ptpJudge p)

/-- PTP_PDELAY_SEND: the Pdelay_Req of each second. -/
def execPtpPdelaySend (p : Nat) (s : State) : Host.Outcome State Fault Refusal :=
  if !s.ptpOn p then .next s
  else
    let x := s.ptp p
    let q := (x.seqReq + 1) % 65536
    .next ((s.setPtp p { x with seqReq := q, req := some (q, s.ct) }).emit (.eth p (.pdelayReq q)))

/-- PTP_MASTER_SEND: in MASTER, the Announce of each second or the Sync of each 2^LOG_SYNC s; a port that may no longer be a
master leaves MASTER (R200, R589). -/
def execPtpMasterSend (p : Nat) (sync : Bool) (s : State) : Host.Outcome State Fault Refusal :=
  if !s.ptpOn p ∨ s.portState p ≠ PTP_MASTER then .next s
  else if !s.mayMaster p then .next (s.wr (NET_PTP_STAT_PSTATE p) PTP_LISTENING)
  else
    let x := s.ptp p
    if sync then
      let q := (x.seqSync + 1) % 65536
      .next ((s.setPtp p { x with seqSync := q }).emit (.eth p (.sync q s.ct)))
    else
      let q := (x.seqAnn + 1) % 65536
      .next ((s.setPtp p { x with seqAnn := q }).emit (.eth p (.announce q (s.portB p 12) (s.portB p 14) (s.portB p 13))))

/-- SOURCE_TIMEOUT: a source has been silent for its timeout (R178). On the active, `i` is the index of a station source, or
16 + p for the Sync messages of PTP port p, which an index also stands for (R588); on a standby, an arbiter or a Skerry the
source is the active's frames or ferries. -/
def execSourceTimeout (c : Chip) (i : Nat) (s : State) : Host.Outcome State Fault Refusal :=
  match c with
  | .balgal =>
    let code := if i < 4 then s.rd (TIME_SRC_CODE i) else i
    if 0x10 ≤ code ∧ code < 0x14 then
      .next (((s.setPtp (code - 0x10) { s.ptp (code - 0x10) with sync := false }).ptpJudge (code - 0x10)).codeInvalid code 2)
    else if !s.isActive then .next s.holdover
    else if i < 4 ∧ code ≠ 0 ∧ s.on (TIME_SRC_VALID i) then .next (s.srcInvalid i 2)
    else .next s
  | .skerry g => .next (s.runCell g Skerry.silentSource)

/-! ### Sampled values (R590 to R593) -/

def State.svB (s : State) (i j : Nat) : Nat := s.netB (144 + 64 * i + j)
def State.svBytes (s : State) (i j n : Nat) : List Byte := ((s.sec T_NET 0).drop (144 + 64 * i + j)).take n
def State.svOn (s : State) (i : Nat) : Bool := s.svB i 1 = 1
/-- Samples per second of subscription i. -/
def State.svRate (s : State) (i : Nat) : Nat := (if s.svB i 2 = 80 then 80 else 256) * s.svB i 3
def State.acceptSim (s : State) : Bool := bitOf (s.netB 2) 0

/-- The enabled subscription that a frame's port, DST and APPID name. -/
def State.svFor (s : State) (p dst appid : Nat) : Option Nat :=
  (List.range 8).find? (fun i => s.svOn i && decide (s.svB i 0 = p) && decide (beNat (s.svBytes i 4 2) = appid) &&
    decide (beNat (s.svBytes i 6 6) = dst))

/-- A string of the section without its padding. -/
def unpad (b : List Byte) : List Byte := b.takeWhile (fun x => x ≠ 0)

/-- Every ASDU of the frame is as R590 asks. -/
def State.svGood (s : State) (i : Nat) (sim : Bool) (as : List Asdu) : Bool :=
  decide (as.length = if s.svB i 2 = 80 then 1 else 8) && (!sim || s.acceptSim) &&
  as.all (fun a => decide (a.svid = unpad (s.svBytes i 24 35)) && decide (a.confRev = beNat (s.svBytes i 12 4)) &&
    decide (a.len = 64) && decide (a.smpCnt < s.svRate i))

/-- The sample instant of an ASDU, and UNSYNC (R591). -/
def State.svInstant (s : State) (i : Nat) (a : Asdu) (arr : Nat) : Nat × Bool :=
  if a.synch = 1 ∨ a.synch = 2 then
    let ofs := a.smpCnt * 1000000000 / max (s.svRate i) 1 * nsU
    let sec := arr / secU
    (if sec * secU + ofs ≤ arr then sec * secU + ofs else (sec - 1) * secU + ofs, false)
  else (arr, true)

/-- The record of an ASDU (R591). -/
def svRecord (i t : Nat) (unsync gap : Bool) (a : Asdu) : List Byte :=
  leBytes 4 (ctSec t % 4 * 2 ^ 30 + ctNs t) ++ leBytes 2 a.smpCnt ++
  [BitVec.ofNat 8 i, BitVec.ofNat 8 (a.synch % 4 + 4 * b2n unsync + 8 * b2n gap)] ++
  (List.range 8).flatMap (fun k => leBytes 4 (a.vals.getD k 0)) ++
  (List.range 8).flatMap (fun k => leBytes 2 (a.quals.getD k 0 % 65536)) ++ List.replicate 8 0

/-- Route source 0x52 fires for smpCnt n, once; the last 64 numbers fired are kept, as the same number comes again a second
later (R592). -/
def State.svFire (s : State) (n : Nat) : State :=
  let q := s.net
  (s.setNet { q with sets := q.sets.filter (fun x => decide (x.1 ≠ n)), fired := (n :: q.fired).take 64 }).fireRoute 0x52

/-- Subscription i has written its record of n: the set of n fires when every enabled subscription that is not stale has. -/
def State.svWrote (s : State) (i n : Nat) : State :=
  let q := s.net
  let have_ := ((q.sets.find? (fun x => x.1 = n)).map (·.2)).getD []
  if q.fired.contains n then s
  else
    let now := if have_.contains i then have_ else i :: have_
    let s := s.setNet { q with sets := (n, now) :: q.sets.filter (fun x => decide (x.1 ≠ n)) }
    if (List.range 8).all (fun j => !s.svOn j || s.on (NET_SV_STAT_STALE j) || now.contains j) then s.svFire n else s

/-- One ASDU of an accepted frame (R590, R591). -/
def State.svTake (s : State) (i arr : Nat) (a : Asdu) : State :=
  let prev := tget (fun _ => 0) s.net.sv i
  if prev = a.smpCnt + 1 then s.inc (NET_SV_DUP i)
  else
    let gap := decide (prev ≠ 0) && decide (prev % max (s.svRate i) 1 ≠ a.smpCnt)
    let (t, un) := s.svInstant i a arr
    let w := s.rd (NET_SV_WIDX i)
    let s := (s.writeMem (beNat (s.svBytes i 20 4) + 64 * w) (svRecord i t un gap a)).2
    let s := s.wr (NET_SV_WIDX i) ((w + 1) % max (beNat (s.svBytes i 18 2)) 1)
    let s := s.wr (NET_SV_STAT_SMPCNT i) a.smpCnt
    let s := s.setNet { s.net with sv := tset (fun _ => 0) s.net.sv i (a.smpCnt + 1) }
    s.svWrote i a.smpCnt

/-- SV_FRAME: a frame of sampled values on port p, which arrived `back` sixteenths of a word clock ago. -/
def execSvFrame (p dst appid : Nat) (sim : Bool) (asdus : List Asdu) (back : Nat) (s : State) : Host.Outcome State Fault Refusal :=
  if !s.portUsed p then .next s
  else
    match s.svFor p dst appid with
    | none => .next s
    | some i =>
      if s.svGood i sim asdus then
        let arr := ((s.ct : Int) - sixteenths back).toNat
        .next (asdus.foldl (fun s a => s.svTake i arr a) (s.wr (NET_SV_STAT_STALE i) 0))
      else .next (s.inc (NET_SV_BAD i))

/-- SV_SET_TIMEOUT: SV_WAIT has passed since the first record of smpCnt n (R592). -/
def execSvSetTimeout (n : Nat) (s : State) : Host.Outcome State Fault Refusal :=
  if s.net.sets.any (fun x => x.1 = n) then .next (s.svFire n) else .next s

/-- SV_STALE: no accepted frame of subscription i for SV_HOLD ms (R593). -/
def execSvStale (i : Nat) (s : State) : Host.Outcome State Fault Refusal :=
  if i < 8 ∧ s.svOn i ∧ !s.on (NET_SV_STAT_STALE i) then .next ((s.wr (NET_SV_STAT_STALE i) 1).raise 0x284 i) else .next s

/-! ### GOOSE (R594 to R598) -/

def State.gsB (s : State) (i j : Nat) : Nat := s.netB (656 + 96 * i + j)
def State.gsBytes (s : State) (i j n : Nat) : List Byte := ((s.sec T_NET 0).drop (656 + 96 * i + j)).take n
def State.gsOn (s : State) (i : Nat) : Bool := s.gsB i 1 = 1

/-- The enabled subscription that a message's port, DST and APPID name. -/
def State.gsFor (s : State) (p : Nat) (m : Goose) : Option Nat :=
  (List.range 16).find? (fun i => s.gsOn i && decide (s.gsB i 0 = p) && decide (beNat (s.gsBytes i 4 2) = m.appid) &&
    decide (beNat (s.gsBytes i 6 6) = m.dst))

def State.gsGood (s : State) (i : Nat) (m : Goose) : Bool :=
  decide (m.cbRef = unpad (s.gsBytes i 24 64)) && decide (m.confRev = beNat (s.gsBytes i 12 4)) && !m.ndsCom &&
  decide (m.entries = s.gsB i 2) && m.bools && (!m.sim || s.acceptSim)

/-- GOOSE_RECEIVE: a GOOSE message on port p (R594, R595). -/
def execGooseReceive (p : Nat) (m : Goose) (s : State) : Host.Outcome State Fault Refusal :=
  if !s.portUsed p then .next s
  else
    match s.gsFor p m with
    | none => .next s
    | some i =>
      let keep := s.setNet { s.net with gs := tset (fun _ => 0) s.net.gs i m.sqNum }
      let ahead := (m.sqNum + 2 ^ 32 - tget (fun _ => 0) s.net.gs i % 2 ^ 32) % 2 ^ 32
      if !s.gsGood i m then .next (s.inc (NET_GS_BAD i))
      else if m.stNum ≠ s.rd (NET_GSUB_ST i) then
        .next ((((keep.wr (NET_GSUB_VAL i) (m.vals % 2 ^ s.gsB i 2)).wr (NET_GSUB_STAT_STALE i) 0).wr (NET_GSUB_ST i) m.stNum).fireRoute 0x51)
      else if 1 ≤ ahead ∧ ahead < 2 ^ 31 then .next keep
      else .next (s.inc (NET_GS_BAD i))

/-- GOOSE_TTL_EXPIRE: timeAllowedToLive of the last accepted message has run out (R596). -/
def execGooseTtlExpire (i : Nat) (s : State) : Host.Outcome State Fault Refusal :=
  if i < 16 ∧ s.gsOn i ∧ !s.on (NET_GSUB_STAT_STALE i) then
    .next (((s.wr (NET_GSUB_STAT_STALE i) 1).wr (NET_GSUB_VAL i) (beNat (s.gsBytes i 16 4))).raise 0x283 i)
  else .next s

/-- GOOSE_REPEAT: the message of publication u is repeated; the interval doubles up to T_MAX (R597). -/
def execGooseRepeat (u : Nat) (s : State) : Host.Outcome State Fault Refusal :=
  let x := s.pub u
  if u < 4 ∧ s.pubOn u ∧ x.sent then
    .next ((s.setPub u { x with sq := (x.sq + 1) % 2 ^ 32, gap := min (2 * x.gap) (s.pub16 u 18) }).pubSend u)
  else .next s

/-! ### Strait links (R187, R189, R610 to R612) -/

/-- The framing, kind, lane, length and CRC of R610. -/
def straitOk (f : List Sym) : Bool :=
  frameOk f 93 && decide (fld f 1 1 / 16 = 7) && decide (fld f 3 1 < 4) && decide (fld f 38 1 ≤ 48) &&
    decide (crc32 (ferryBytes f 1 87) = fld f 88 4)

/-- A frame of another converter supplies time, where R189 allows it. -/
def State.straitTime (s : State) (i : Nat) (f : List Sym) (arr : Nat) : State :=
  let conv := fld f 2 1
  let depth := fld f 30 1 % 16
  if conv = s.rd TOP_STAT_CONVERTER then
    match s.srcIndex (0x20 + i) with
    | some k => if s.rd (TIME_SRC_REASON k) = 4 then s else (s.codeInvalid (0x20 + i) 4).raise 0x0C4 0
    | none => s
  else if depth > 6 ∨ fld f 31 1 = s.rd TOP_STAT_CONVERTER then s.codeInvalid (0x20 + i) 5
  else
    match s.pairError (108 + i) f arr with
    | some e => s.srcSample (0x20 + i) depth e (partnerGain (nsU / 2 : Nat))
    | none => s

/-- The acknowledgement of a frame ends the message that this lane carries (R611). -/
def State.straitAck (s : State) (i : Nat) (f : List Sym) : State :=
  let x := s.stLane i
  let late := (fld f 28 2 + 65536 - x.first) % 65536
  if s.on (NET_ST_TXCTRL_TX_BUSY i) ∧ x.carried > 0 ∧ fld f 37 1 = s.rd (NET_ST_TXCTRL_SEQ i) ∧ late < 32768 then
    (s.wr (NET_ST_TXCTRL_TX_BUSY i) 0).wr (NET_ST_TXCTRL_TX_DONE i) 1
  else s

/-- The message of a frame of another converter (R612). -/
def State.straitMsg (s : State) (i : Nat) (f : List Sym) : State :=
  let len := fld f 38 1
  let seq := fld f 36 1
  let x := s.stLane i
  if fld f 2 1 = s.rd TOP_STAT_CONVERTER ∨ len = 0 ∨ seq = x.ack then s
  else if s.on (NET_ST_RXSTAT_RX_FULL i) then s.inc (NET_ST_RX_WAIT i)
  else
    let b := ferryBytes f 40 len ++ List.replicate (48 - len) 0
    let s := (List.range 12).foldl (fun s w => s.wr (NET_ST_RXBUF i w) (leNat ((b.drop (4 * w)).take 4))) s
    let s := (s.wr (NET_ST_RXSTAT_LEN i) len).wr (NET_ST_RXSTAT_CONV i) (fld f 2 1)
    let s := ((s.wr (NET_ST_RXSTAT_SEQ i) seq).wr (NET_ST_RXSTAT_RX_FULL i) 1).setStLane i { x with ack := seq }
    s.fireRoute 0x53

/-- STRAIT_FRAME: what arrived as a frame on strait lane i; `back` sixteenths of a word clock have gone since the first bit of
its SOF (R610). -/
def execStraitFrame (n : Nat) (ss : List Sym) (back : Nat) (s : State) : Host.Outcome State Fault Refusal :=
  if !(s.inRun ∧ !s.isArbiter ∧ n < 4 ∧ s.rd (LANE_CFG_MODE (108 + n)) ≠ 0 ∧ s.laneLocked (108 + n)) then .next s
  else
    let (s, ok) := s.laneTake (108 + n) ss
    if !(ok && straitOk ss) then .next (s.inc (NET_ST_BAD n))
    else
      let arr := ((s.ct : Int) - sixteenths back).toNat
      let x := s.stLane n
      let ses := fld ss 39 1
      let x := { x with
        got := true, arrived := some (frSeq ss, arr), ack := if x.seen ≠ 0 ∧ ses ≠ x.seen then 0 else x.ack, seen := ses }
      let s := (s.setStLane n x).wr (NET_ST_STAT_PEER_DEPTH n) (fld ss 30 1)
      let s := (s.wr (NET_ST_STAT_PEER_CONV n) (fld ss 2 1)).wr (NET_ST_STAT_PEER_UPSTREAM n) (fld ss 31 1)
      let s := s.wr (NET_ST_STAT_PEER_SESSION n) ses
      .next (((s.straitTime n ss arr).straitAck n ss).straitMsg n ss)

/-- A write of NET_ST_TXCTRL[n] (R611). -/
def State.writeTxCtrl (s : State) (p : Port) (n v : Nat) : State :=
  let len := v % 64
  let s := if bitOf v 17 then s.wr (NET_ST_TXCTRL_TX_DONE n) 0 else s
  let s := if bitOf v 18 then s.wr (NET_ST_TXCTRL_TX_FAIL n) 0 else s
  if !bitOf v 8 then (if s.on (NET_ST_TXCTRL_TX_BUSY n) then s else s.wr (NET_ST_TXCTRL_LEN n) len)
  else if s.on (NET_ST_TXCTRL_TX_BUSY n) ∨ len = 0 ∨ len > 48 then s.range p (A_NET_ST_TXCTRL n)
  else
    let q := s.rd (NET_ST_TXCTRL_SEQ n)
    let s := (s.wr (NET_ST_TXCTRL_LEN n) len).wr (NET_ST_TXCTRL_SEQ n) (if q = 255 then 1 else q + 1)
    (s.wr (NET_ST_TXCTRL_TX_BUSY n) 1).setStLane n { s.stLane n with first := 0, carried := 0 }

/-- A write of NET_ST_TXBUF[n][w] (R611). -/
def State.writeTxBuf (s : State) (p : Port) (n w : Nat) (v : Word) : State :=
  if s.on (NET_ST_TXCTRL_TX_BUSY n) then s.range p (A_NET_ST_TXBUF n w) else s.wrW (A_NET_ST_TXBUF n w) v

/-- STRAIT_SEND: the write `v` of NET_ST_TXCTRL[n]. -/
def execStraitSend (p : Port) (n : Nat) (v : Word) (s : State) : Host.Outcome State Fault Refusal :=
  if n < 4 then .next (s.writeTxCtrl p n v.toNat) else .next s

/-- STRAIT_SEND_FAIL: 64 frames of lane n have carried the message without an acknowledgement (R611). -/
def execStraitSendFail (n : Nat) (s : State) : Host.Outcome State Fault Refusal :=
  if n < 4 ∧ s.on (NET_ST_TXCTRL_TX_BUSY n) ∧ (s.stLane n).carried ≥ 64 then
    .next ((s.wr (NET_ST_TXCTRL_TX_BUSY n) 0).wr (NET_ST_TXCTRL_TX_FAIL n) 1)
  else .next s

/-- RX_FULL_FREE: a write of 1 to NET_ST_RXSTAT[n].RX_FULL frees the buffer (R612). -/
def execRxFullFree (n : Nat) (s : State) : Host.Outcome State Fault Refusal :=
  if n < 4 then .next (s.wr (NET_ST_RXSTAT_RX_FULL n) 0) else .next s

end Sys2Proof.Machine
end

