-- ==== Sys2Proof/Machine/Power.lean ====
section
/-! DEFINITION. Power and resets of the Balgal (R634 to R645, R655), block-all by firmware and the die temperature (R656 to
R658). -/

namespace Sys2Proof.Machine
open Sys2Proof

/-! ### What a reset resets (R634, R644, R655) -/

/-- A register that a reset keeps; a POR or RAIL reset is `hard`. -/
def regKept (hard : Bool) (a : Nat) : Bool :=
  decide (a = A_TOP_RST_CAUSE) || decide (a = A_TOP_RST_CNT) || decide (a = A_CHART_KEY_STATE)
  || decide (blkOf a = 23 ∧ 0x40000000 ≤ a)
  || (decide (blkOf a = 18 ∧ 0x40000000 ≤ a) && decide (a ≠ A_SAFE_CTRL))
  || (!hard && (((List.range 4).any (fun i => decide (a = A_TOP_SCRATCH i))) || decide (a = A_FLT_RECOVER_CNT)
      || ((List.range 3).any (fun i => decide (a = A_MEM_BANK_FAIL i)))))

/-- SESSION of the strait after a reset: 1 to 255, not the one before (R612). -/
def newSession (old v : Nat) : Nat := if old = 0 then 1 + v % 255 else if 1 + v % 254 < old then 1 + v % 254 else 2 + v % 254

/-- The clocks from a reset's edge on: COUNT 0 (R168), and CT, which never decreases but at a step the spec names, runs on
(R169); every latch and correction is gone. -/
def Clk.carry (c : Clk) (ct : Nat) : Clk := { Clk.zero with base := ct, fb := c.fb, fbAcc := c.fbAcc, fbTick := c.fbTick }

/-- Reset of the Balgal's registers, units and memories (R634, R644, R655). SRAM stands until it is cleared; the island, the
fuses, the cells, the reference clocks and the queue are not the reset's, and CT begins anew only with a POR or RAIL reset. -/
def State.resetUnits (s : State) (hard : Bool) : State :=
  let (v, s) := s.free 8
  let off := (List.range 4).filter (fun g => !s.ready g)
  let s := if hard then s else off.foldl (fun s g => s.zeroGroup g) s
  let ready := s.rd MEM_STAT_READY
  let exposed := s.rd MEM_STAT_EXPOSED
  let s := { s with
    regs := s.regs.filter (fun e => regKept hard e.1), mem := s.mem.filter (fun e => isSram e.1),
    clk := if hard then .zero else s.clk.carry s.ct, flt := .zero, sched := .zero, engRegs := [],
    chart := { Chart.zero with keys := s.chart.keys, keyProg := s.chart.keyProg, keyRev := s.chart.keyRev },
    flash := .zero, lanes := { Lanes.zero with refBad := s.lanes.refBad }, conv := .zero, reef := .zero, cws := .zero,
    red := .zero, loop := .zero, prof := .zero, recd := .zero, tim := .zero, mst := { s.mst with bist := false }, dma := [],
    net := { Net.zero with session := newSession s.net.session v }, mon := .zero }
  if hard then s else (s.wr MEM_STAT_READY ready).wr MEM_STAT_EXPOSED exposed

def RST_POR : Nat := 1
def RST_PIN : Nat := 2
def RST_SOFT : Nat := 4
def RST_RAIL : Nat := 8

/-- Reset is asserted with a cause, held by `by_`; a reset in progress is extended and TOP_RST_CAUSE gathers (R644). STUCK
stays while RST_N is masked. -/
def State.assertReset (s : State) (cause by_ : Nat) : State :=
  let old := if s.pwr.held ≠ 0 then s.rd ⟨A_TOP_RST_CAUSE, 0, 4⟩ else 0
  let hard := cause = RST_POR || cause = RST_RAIL
  let s := (s.resetUnits hard).inc TOP_RST_CNT
  let s := s.wrW A_TOP_RST_CAUSE (BitVec.ofNat 32 ((old ||| cause) + 16 * b2n s.pwr.masked))
  { s with pwr := { s.pwr with held := s.pwr.held ||| by_, clear := s.pwr.clear || hard } }

/-- What held reset lets go of it; once nothing does, every unit starts from its reset values (nothing that reached it while
reset was asserted has an effect, R644) and COUNT from 0; CT runs on unless a POR or RAIL reset was among the causes. -/
def State.releaseReset (s : State) (by_ : Nat) : State :=
  let h := s.pwr.held &&& (7 ^^^ by_)
  let s := if h = 0 then s.resetUnits false else s
  { s with pwr := { s.pwr with held := h }, clk := if h = 0 ∧ s.pwr.clear then .zero else s.clk }

/-! ### Rails (R635 to R639) -/

def PWR_OFF : Nat := 0
def PWR_SEQ_UP : Nat := 1
def PWR_WAIT_REF : Nat := 2
def PWR_ON : Nat := 3
def PWR_SEQ_DOWN : Nat := 4
def PWR_WAIT_RETRY : Nat := 5
def PWR_OFF_LOCKED : Nat := 6

/-- Nominal voltage of rail i in mV (R635). -/
def railNom (i : Nat) : Nat := [750, 800, 900, 1200, 1800, 3300].getD i 0

/-- v lies within p % of rail i's nominal voltage. -/
def railIn (i p v : Nat) : Bool := decide (100 * (railNom i - v) ≤ p * railNom i) && decide (100 * (v - railNom i) ≤ p * railNom i)

def State.setPwr (s : State) (p : Pwr) : State := { s with pwr := p }

/-- PMBus address of rail i. -/
def State.railAddr (s : State) (i : Nat) : Nat := (if s.pwr.sel then 0x30 else 0x20) + i

/-- Rail i is switched on: CLEAR_FAULTS, VOUT_COMMAND with the nominal voltage (given in mV), OPERATION 0x80 (R636). -/
def State.railOn (s : State) (i : Nat) : State :=
  let a := s.railAddr i
  ((s.setPwr { s.pwr with idx := i }).emit (.pmbus a 0x03 0)).emit (.pmbus a 0x21 (railNom i)) |>.emit (.pmbus a 0x01 0x80)

/-- The sequence up begins with rail 0. -/
def State.seqUp (s : State) : State := (s.wr PWR_STAT_STATE PWR_SEQ_UP).railOn 0

/-- The highest rail that is up. -/
def State.topRail (s : State) : Option Nat := (List.range 6).reverse.find? (fun i => bitOf (s.rd PWR_STAT_UP) i)

/-- The next rail down is switched off, or the wait for the next attempt begins; after a third RAIL reset the state is
OFF_LOCKED (R637, R639). -/
def State.seqDown (s : State) : State :=
  match s.topRail with
  | some i =>
    ((s.wr PWR_STAT_STATE PWR_SEQ_DOWN).setPwr { s.pwr with idx := i }).emit (.pmbus (s.railAddr i) 0x01 0x00)
  | none => s.wr PWR_STAT_STATE (if s.rd PWR_STAT_ATTEMPT = 3 then PWR_OFF_LOCKED else PWR_WAIT_RETRY)

/-- Word clocks in the 60 s of R639. -/
def railWindow : Nat := 60 * 625000000

/-- RAIL resets within the present 60 s, up to 3. -/
def State.attempts (s : State) : Nat := min 3 (s.pwr.resets.filter (fun t => decide (s.pwr.now < t + railWindow))).length

/-- A RAIL reset (R639). -/
def State.railReset (s : State) : State :=
  let s := (s.assertReset RST_RAIL 1).inc PWR_RETRY_CNT
  let s := s.setPwr { s.pwr with resets := (s.pwr.now :: s.pwr.resets).take 3, fails := [], outs := [] }
  (s.wr PWR_STAT_ATTEMPT s.attempts).seqDown

/-- POWER_ON_RESET: VAON's power-on reset is released, PMB_SEL is sampled as `sel`, and rail 0 is switched on (R634, R636,
R640). TOP_RST_CNT counts from this reset on. -/
def execPowerOnReset (sel : Bool) (s : State) : Host.Outcome State Fault Refusal :=
  if s.pwr.on then .next s
  else
    let s := s.resetUnits true
    let s := { s with pwr := { Pwr.zero with on := true, sel := sel } }
    let s := (List.range 6).foldl (fun s i => (s.wr (PWR_RAIL1_NOM i) (railNom i)).wr (PWR_RAIL1_ADDR i) (s.railAddr i)) s
    .next s.seqUp

/-- VAON_FALL: every rail goes with VAON (R637); the Balgal is as before its power-on reset. -/
def execVaonFall (s : State) : Host.Outcome State Fault Refusal :=
  let s := s.resetUnits true
  .next { s with regs := s.regs.filter (fun e => decide (blkOf e.1 = 18 ∧ 0x40000000 ≤ e.1) || decide (e.1 = A_CHART_KEY_STATE)),
                 pwr := .zero }

/-- RAIL_UP: the rail being raised has read `mv`, within its warn window, on 3 consecutive polls (R636). The last rail
releases what held reset, and the references are awaited (R645). -/
def execRailUp (mv : Nat) (s : State) : Host.Outcome State Fault Refusal :=
  let i := s.pwr.idx
  if s.rd PWR_STAT_STATE = PWR_SEQ_UP ∧ i < 6 ∧ railIn i 3 mv then
    let s := (s.wr PWR_STAT_UP (s.rd PWR_STAT_UP ||| 2 ^ i)).wr (PWR_RAIL0_VOUT i) mv
    if i < 5 then .next (s.railOn (i + 1))
    else
      let s := s.releaseReset 1
      .next (s.wr PWR_STAT_STATE (if s.lanes.refBad = 0 then PWR_ON else PWR_WAIT_REF))
  else .next s

/-- RAIL_START_FAILURE: the rail being raised is not up within 10 ms (R636, R639). -/
def execRailStartFailure (s : State) : Host.Outcome State Fault Refusal :=
  if s.rd PWR_STAT_STATE = PWR_SEQ_UP then .next s.railReset else .next s

/-- RAIL_HARD_FAULT: rail i, one of 0 to 2, is up and outside its hard window for 20 µs (R639). -/
def execRailHardFault (i : Nat) (s : State) : Host.Outcome State Fault Refusal :=
  if i < 3 ∧ bitOf (s.rd PWR_STAT_UP) i ∧ PWR_SEQ_UP ≤ s.rd PWR_STAT_STATE ∧ s.rd PWR_STAT_STATE ≤ PWR_ON then .next s.railReset
  else .next s

/-- RAIL_DOWN: the rail switched off reads below 10 % of nominal, or 10 ms have passed (R637). -/
def execRailDown (s : State) : Host.Outcome State Fault Refusal :=
  if s.rd PWR_STAT_STATE = PWR_SEQ_DOWN then
    .next ((s.wr PWR_STAT_UP (s.rd PWR_STAT_UP &&& (63 ^^^ 2 ^ s.pwr.idx))).seqDown)
  else .next s

/-- RAIL_RETRY: the wait of 1 s is over (R639). -/
def execRailRetry (s : State) : Host.Outcome State Fault Refusal :=
  if s.rd PWR_STAT_STATE = PWR_WAIT_RETRY then .next s.seqUp else .next s

/-- The fault unit takes a rail source; none while reset is asserted. -/
def State.railRaise (s : State) (id info : Nat) : State := if s.pwr.held ≠ 0 then s else s.raise id info

/-- rail-warn of rail i; `tr` when its cause is a failed transaction (R638). -/
def State.railWarn (s : State) (i : Nat) (tr : Bool) : State :=
  (s.wr PWR_STAT_WARN (s.rd PWR_STAT_WARN ||| 2 ^ i)).railRaise 0x2E2 (i + 8 * b2n tr)
/-- rail-fault of rail i. -/
def State.railFault (s : State) (i : Nat) (tr : Bool) : State :=
  (s.wr PWR_STAT_FAULT (s.rd PWR_STAT_FAULT ||| 2 ^ i)).railRaise 0x2E3 (i + 8 * b2n tr)

/-- A failed transaction with rail i (R638). -/
def State.railFailed (s : State) (i : Nat) : State :=
  let n := tget (fun _ => 0) s.pwr.fails i + 1
  let s := (s.setPwr { s.pwr with fails := tset (fun _ => 0) s.pwr.fails i n }).inc PWR_PMB_ERR
  let s := s.railWarn i true
  if n ≥ 3 then s.railFault i true else s

/-- One rail's poll; an alert reads STATUS_WORD alone (R638). -/
def State.railRead (s : State) (alert : Bool) (r : RailRead) : State :=
  if r.i ≥ 6 then s
  else if !r.ok then s.railFailed r.i
  else
    let out := !alert && !railIn r.i 6 r.mv
    let n := if alert then tget (fun _ => 0) s.pwr.outs r.i else if out then tget (fun _ => 0) s.pwr.outs r.i + 1 else 0
    let s := s.setPwr { s.pwr with fails := tset (fun _ => 0) s.pwr.fails r.i 0, outs := tset (fun _ => 0) s.pwr.outs r.i n }
    let s := (if alert then s else s.wr (PWR_RAIL0_VOUT r.i) r.mv).wr (PWR_RAIL0_STATUS r.i) r.word
    let s := if r.warn ∨ (!alert && !railIn r.i 3 r.mv) then s.railWarn r.i false else s
    if r.fault ∨ (out ∧ n ≥ 2) then s.railFault r.i false else s

/-- Every rail is up and none is being lowered. -/
def State.railsUp (s : State) : Bool :=
  s.rd PWR_STAT_UP = 63 && (s.rd PWR_STAT_STATE = PWR_WAIT_REF || s.rd PWR_STAT_STATE = PWR_ON)

/-- RAIL_POLL: the 1 ms poll of the rails (R638). -/
def execRailPoll (rs : List RailRead) (s : State) : Host.Outcome State Fault Refusal :=
  if s.railsUp then .next (rs.foldl (fun s r => s.railRead false r) s) else .next s

/-- PMB_ALERT: PMB_ALERT_N is asserted, and STATUS_WORD is read at once (R638). -/
def execPmbAlert (rs : List RailRead) (s : State) : Host.Outcome State Fault Refusal :=
  if s.railsUp then .next (rs.foldl (fun s r => s.railRead true r) s) else .next s

/-! ### Resets (R641 to R645) -/

/-- PIN_RESET: a falling RST_N is accepted, unless the pin is masked (R641, R642). In OFF_LOCKED it also sequences the rails
again (R639). -/
def execPinReset (s : State) : Host.Outcome State Fault Refusal :=
  if !s.pwr.on ∨ s.pwr.masked ∨ bitOf s.pwr.held 1 then .next s
  else
    let locked := s.rd PWR_STAT_STATE = PWR_OFF_LOCKED
    let s := s.assertReset RST_PIN 2
    .next (if locked then s.seqUp else s)

/-- PIN_RESET_RELEASE: RST_N is accepted high (R641). -/
def execPinResetRelease (s : State) : Host.Outcome State Fault Refusal :=
  if bitOf s.pwr.held 1 then .next (s.releaseReset 2) else .next s

/-- RST_STUCK: RST_N has stayed low for 2.0 s: reset is released, STUCK set, the pin masked (R642). -/
def execRstStuck (s : State) : Host.Outcome State Fault Refusal :=
  if bitOf s.pwr.held 1 then
    let s := (s.releaseReset 2).wr TOP_RST_CAUSE_STUCK 1
    .next (s.setPwr { s.pwr with masked := true })
  else .next s

/-- RST_MASK_LIFT: RST_N has been high for 100 ms: the mask is lifted and STUCK clears (R642). -/
def execRstMaskLift (s : State) : Host.Outcome State Fault Refusal :=
  if s.pwr.masked then .next ((s.wr TOP_RST_CAUSE_STUCK 0).setPwr { s.pwr with masked := false }) else .next s

/-- A write of TOP_RESET (R643). -/
def State.writeReset (s : State) (p : Port) (v : Word) : State :=
  if bitsOf v 16 16 ≠ 0x5AFE then s.range p A_TOP_RESET
  else if bitsOf v 0 1 = 1 then s.assertReset RST_SOFT 4
  else s

/-- SOFT_RESET: the write of TOP_RESET. -/
def execSoftReset (p : Port) (v : Word) (s : State) : Host.Outcome State Fault Refusal :=
  if s.pwr.held ≠ 0 then .next s else .next (s.writeReset p v)

/-- SOFT_RESET_END: the soft reset has been held for 1 ms (R643). -/
def execSoftResetEnd (s : State) : Host.Outcome State Fault Refusal :=
  if bitOf s.pwr.held 2 then .next (s.releaseReset 4) else .next s

/-- RESET_COMPLETE: the rails are up, both references in range and the PLLs locked; after a power-on or RAIL reset SRAM is
cleared and every group READY; FETCH follows (R467, R468, R645). With TEST_EN sampled high the Balgal stays in RESET.
`keyLow`: MON_KEY_N was sampled low at the release (R620, R622). -/
def execResetComplete (testEn keyLow : Bool) (s : State) : Host.Outcome State Fault Refusal :=
  if s.pwr.held = 0 ∧ s.railsUp ∧ s.phase = PH_RESET ∧ s.lanes.refBad = 0 ∧ !testEn then
    let s := if s.pwr.clear then
        ({ s with mem := s.mem.filter (fun e => !isSram e.1), mst := .zero, pwr := { s.pwr with clear := false } }).wr MEM_STAT_READY 15
      else s
    let s := ((s.wr PWR_STAT_STATE PWR_ON).wr LANE_REF_STAT_REF_OK 1).wr MON_STAT_KEY_STRAP (b2n keyLow)
    .next ({ s with chart := { s.chart with src := 0, loadFrom := s.clk.count } }.wr CHART_STATUS_PHASE PH_FETCH)
  else .next s

/-! ### Block-all by firmware, and the temperature (R656 to R658) -/

/-- A write of TOP_BLOCKALL (R657). -/
def State.writeBlockall (s : State) (p : Port) (v : Word) : State :=
  if bitsOf v 0 1 = 0 then s
  else if bitsOf v 16 16 = 0xB10C ∧ s.inRun ∧ (s.isActive ∨ s.isStandby) then s.blockAll 4
  else s.range p A_TOP_BLOCKALL

/-- TOP_BLOCKALL: the write of TOP_BLOCKALL. -/
def execTopBlockall (p : Port) (v : Word) (s : State) : Host.Outcome State Fault Refusal :=
  if s.pwr.held ≠ 0 then .next s else .next (s.writeBlockall p v)

/-- Limits of the die temperature in steps of 0.125 °C: warning 120 °C, critical 132 °C; both clear 5 °C below. -/
def hotLimit : Int := 960
def critLimit : Int := 1056
def tempHyst : Int := 40

/-- A flag of the temperature: it sets above its limit, with its event and its source, and clears 5 °C below (R658). -/
def State.tempFlag (s : State) (flag ev : Fld) (limit t : Int) (src : Nat) : State :=
  if t > limit ∧ !s.on flag then ((s.wr flag 1).wr ev 1).raise src 0
  else if t ≤ limit - tempHyst then s.wr flag 0
  else s

/-- TEMP_UPDATE: the mean of the last millisecond, in steps of 0.125 °C (R658). -/
def execTempUpdate (t : Int) (s : State) : Host.Outcome State Fault Refusal :=
  if s.pwr.held ≠ 0 then .next s
  else
    let t := satInt 12 t
    let s := s.wrS TOP_TEMP_TEMP t
    let s := if t > s.rdS TOP_TEMP_PEAK then s.wrS TOP_TEMP_PEAK t else s
    .next ((s.tempFlag TOP_TEMP_HOT TOP_TEMP_HOT_EV hotLimit t 0x002).tempFlag TOP_TEMP_CRIT TOP_TEMP_CRIT_EV critLimit t 0x003)

/-- PEAK_CLR: PEAK takes the present TEMP (R656). -/
def execPeakClr (s : State) : Host.Outcome State Fault Refusal := .next (s.wr TOP_TEMP_PEAK (s.rd TOP_TEMP_TEMP))

end Sys2Proof.Machine
end

