-- ==== Sys2Proof/Machine/Cw.lean ====
section
/-! DEFINITION. The states of the causeways as a Balgal keeps them (R151, R162, R165). -/

namespace Sys2Proof.Machine
open Sys2Proof

def CWS_DOWN : Nat := 0
def CWS_MEASURING : Nat := 1
def CWS_UP : Nat := 2
def CWS_CUT : Nat := 3

def State.setCws (s : State) (c : Cws) : State := { s with cws := c }
def State.way (s : State) (c : Nat) : Cway := tget (fun _ => Cway.zero) s.cws.ways c
def State.setWay (s : State) (c : Nat) (w : Cway) : State :=
  s.setCws { s.cws with ways := tset (fun _ => Cway.zero) s.cws.ways c w }

def State.cwSt (s : State) (c : Nat) : Nat := s.rd (CW_STAT_STATE c)

/-- A causeway takes a state: CW_UP and CW_CUT follow; entering CUT sets CUT_EV and raises cw-cut, entering DOWN raises
cw-down (R151, R164). -/
def State.cwTo (s : State) (c st : Nat) : State :=
  let s := (s.wr (CW_STAT_STATE c) st).putBitAt (A_CW_UP 0) c (decide (st = CWS_UP))
  let s := s.putBitAt (A_CW_CUT 0) c (decide (st = CWS_CUT))
  let s := s.setWay c { s.way c with moved := true, meas := 0 }
  if st = CWS_CUT then (s.putBitAt (A_CW_CUT_EV 0) c true).raise 0x082 c
  else if st = CWS_DOWN then s.raise 0x083 c
  else s

/-- The row "any to DOWN": 32 ferry cycles without a valid ferry, and in a redundant build at the partner too. -/
def State.downRow (s : State) (c : Nat) (mate : Bool) : Bool :=
  decide ((s.way c).silent ≥ 32) && (!s.redundant || mate)

/-- The row "UP, MEASURING to CUT": break evidence in 2 consecutive ferry cycles, here or at the partner. -/
def State.cutRow (s : State) (c : Nat) (mate : Bool) : Bool :=
  decide (s.cwSt c = CWS_UP ∨ s.cwSt c = CWS_MEASURING) && (decide ((s.way c).evRun ≥ 2) || (s.redundant && mate))

/-- Rows are judged in phase RUN on a causeway in use that no higher row has moved on this ferry-cycle start. -/
def State.cwJudged (s : State) (c : Nat) : Bool := s.inRun && !s.isArbiter && s.cwUsed c && !(s.way c).moved

/-- CAUSEWAY_DOWN; `mate` is what the partner reports: it has no valid ferry either (R151). -/
def execCausewayDown (c : Nat) (mate : Bool) (s : State) : Host.Outcome State Fault Refusal :=
  if s.cwJudged c ∧ s.downRow c mate ∧ s.cwSt c ≠ CWS_DOWN then .next (s.cwTo c CWS_DOWN) else .next s

/-- CAUSEWAY_CUT; `mate`: the partner has break evidence (R151). -/
def execCausewayCut (c : Nat) (mate : Bool) (s : State) : Host.Outcome State Fault Refusal :=
  if s.cwJudged c ∧ s.cutRow c mate ∧ !s.downRow c true then .next (s.cwTo c CWS_CUT) else .next s

/-- A write of CW_CMD[c] (R151). -/
def State.writeMeasure (s : State) (p : Port) (c v : Nat) : State :=
  if !s.cwUsed c ∨ !bitOf v 0 then s
  else if s.cwSt c = CWS_DOWN then s.range p (A_CW_CMD c)
  else s.setWay c { s.way c with request := true }

/-- MEASURE. -/
def execMeasure (p : Port) (c : Nat) (s : State) : Host.Outcome State Fault Refusal := .next (s.writeMeasure p c 1)

/-- CAUSEWAY_MEASURING: the ferry-cycle start judges a MEASURE request, which is used or dropped, and the row out of DOWN;
`mate`: the partner sees whole ferries in its direction for 64 cycles (R151). -/
def execCausewayMeasuring (c : Nat) (mate : Bool) (s : State) : Host.Outcome State Fault Refusal :=
  let w := s.way c
  let high := w.moved || (decide (w.silent ≥ 32) && decide (s.cwSt c ≠ CWS_DOWN)) || s.cutRow c false
  let t := s.setWay c { w with request := false }
  if !(s.inRun && !s.isArbiter && s.cwUsed c) then .next s
  else if w.request ∧ w.blocks ∧ s.cwSt c ≠ CWS_DOWN ∧ !high then .next (t.cwTo c CWS_MEASURING)
  else
    let t := if w.request then t.rangeBlk 4 else t
    if s.cwSt c = CWS_DOWN ∧ w.ready ≥ 64 ∧ (!s.redundant || mate) ∧ !w.moved then .next (t.cwTo c CWS_MEASURING) else .next t

/-- CAUSEWAY_UP: eight measurement ferries in a row with DLY_OK from every cell; the margins are checked (R151, R244). -/
def execCausewayUp (c : Nat) (s : State) : Host.Outcome State Fault Refusal :=
  if s.cwJudged c ∧ s.cwSt c = CWS_MEASURING ∧ (s.way c).meas ≥ 8 ∧ !s.downRow c true ∧ !s.cutRow c false then
    .next ((s.cwTo c CWS_UP).marginCheck c)
  else .next s

/-- CUT_CLEAR: 64 ferry cycles without break evidence, at the partner too in a redundant build (R151). -/
def execCutClear (c : Nat) (mate : Bool) (s : State) : Host.Outcome State Fault Refusal :=
  if s.cwJudged c ∧ s.cwSt c = CWS_CUT ∧ (s.way c).calm ≥ 64 ∧ (!s.redundant || mate) ∧ !s.downRow c true then
    .next (((s.cwTo c CWS_UP).wr (CW_STAT_RELAY c) 0).marginCheck c)
  else .next s

/-- The causeway is in MEASURING from this ferry-cycle start on, so that the ferry that departs is a measurement ferry: what the
rows of R151 will make of it on this edge, by this Balgal's own observations. -/
def State.measuresNow (s : State) (c : Nat) : Bool :=
  let w := s.way c
  let down := s.downRow c false
  if s.cwSt c = CWS_DOWN then decide (w.ready ≥ 64) && !s.redundant
  else if down || s.cutRow c false then false
  else (w.request && w.blocks) || (decide (s.cwSt c = CWS_MEASURING) && decide (w.meas < 8))

/-- SPLIT_SET: no written status for 2 ferry cycles, the causeway not in DOWN at the start of the first (R162). -/
def execSplitSet (c : Nat) (s : State) : Host.Outcome State Fault Refusal :=
  if s.inRun ∧ !s.isArbiter ∧ s.cwUsed c ∧ (s.way c).mute ≥ 2 ∧ (s.way c).muteUp then .next (s.wr (CW_STAT_SPLIT c) 1) else .next s

/-- The own lanes of a causeway as the bits of `seen` and `got`: bit 0 the head lane, bit 1 the tail lane. -/
def State.laneBits (s : State) (c : Nat) : Nat := (s.lanesOf c).foldl (fun m n => m + (if s.laneTail n then 2 else 1)) 0

/-- A ferry-cycle start closes the cycle of one causeway (R151, R162, R164). -/
def State.cwClose (s : State) (c : Nat) : State :=
  let w := s.way c
  let all := s.laneBits c
  let full := decide (w.got = all) && w.whole && w.dly
  let s := if w.seen ≠ all then s.inc (CW_FERRY_MISS c) else s
  let w := { w with
    silent := if w.got = 0 then min (w.silent + 1) 32 else 0,
    evRun := if w.evid then min (w.evRun + 1) 2 else 0,
    calm := if w.evid then 0 else min (w.calm + 1) 64,
    ready := if full then min (w.ready + 1) 64 else 0,
    muteUp := if w.wrote then false else if w.mute = 0 then decide (s.cwSt c ≠ CWS_DOWN) else w.muteUp,
    mute := if w.wrote then 0 else min (w.mute + 1) 2 }
  s.setWay c { w with seen := 0, got := 0, whole := true, dly := true, evid := false, wrote := false, moved := false }

end Sys2Proof.Machine
end

