-- ==== Sys2Proof/Machine/CwRecv.lean ====
section
/-! DEFINITION. A ferry arrives at a Balgal: statuses, break fields, measurement reports, parts, and what a standby follows
(R77, R125, R131, R149, R150, R162, R203 to R209, R228 to R231, R267, R504). -/

namespace Sys2Proof.Machine
open Sys2Proof

/-! ### Statuses (R131, R149) -/

/-- Byte i, from 8 on, of berth b. -/
def stByte (f : List Sym) (b i : Nat) : Nat := fld f (32 + 16 * b + i) 1

/-- LOCK_H and LOCK_T of berth b, in either kind of ferry. -/
def stLockH (f : List Sym) (b : Nat) : Bool := if frMeasure f then bitOf (stByte f b 14) 1 else bitOf (stByte f b 11) 1
def stLockT (f : List Sym) (b : Nat) : Bool := if frMeasure f then bitOf (stByte f b 14) 2 else bitOf (stByte f b 11) 0

/-- A written status: LOCK_H or LOCK_T is 1 (R131). -/
def stWritten (f : List Sym) (b : Nat) : Bool := stLockH f b || stLockT f b

def stApplied (f : List Sym) (b : Nat) : Nat := stByte f b 11 / 32
def stPart (f : List Sym) (b : Nat) : Nat := if frMeasure f then stByte f b 14 / 8 % 4 else stByte f b 11 / 8 % 4
def stHealth (f : List Sym) (b : Nat) : Nat := stByte f b 12 / 64
def stDly (f : List Sym) (b : Nat) : Bool := if frMeasure f then bitOf (stByte f b 14) 0 else bitOf (stByte f b 12) 1

/-- The berths of causeway c. -/
def State.berths (s : State) (c : Nat) : List Nat := List.range (s.cwCount c)

/-- BREAK_H and BREAK_T from the written statuses of a ferry (R162). -/
def State.showBreaks (s : State) (c : Nat) (f : List Sym) : State :=
  let w := (s.berths c).filter (stWritten f)
  let h := ((w.filter (fun b => !stLockH f b)).head?).getD 0x7F
  let t := ((w.filter (fun b => !stLockT f b)).getLast?).getD 0x7F
  (s.wr (CW_STAT_BREAK_H c) h).wr (CW_STAT_BREAK_T c) t

/-! ### The delay from the sending end, and the moment of a berth (R207, R208) -/

/-- Word clocks from DEPART to the first status symbol of berth b at its cell: offset 40 + 16 b, and four for each flash
order ahead of it. -/
def statusOffset (ts : List (Sym × Option Nat)) (b : Nat) : Nat :=
  (ts.dropWhile (fun x => x.2 ≠ some 0)).findIdx (fun x => x.2 = some (40 + 16 * b))

/-- The moment the ferry passed berth b (R208). -/
def State.passedAt (s : State) (g : Nat) (f : List Sym) (ts : List (Sym × Option Nat)) : Nat :=
  frDepart f + s.cellDelay g (decide (frDir f = 1)) + wcs (statusOffset ts (g % 64))

/-- Two CT values lie within 8 word clocks of each other. -/
def near8 (x y : Nat) : Bool := decide (x ≤ y + wcs 8) && decide (y ≤ x + wcs 8)

/-- The state expected at CT t, from the stretches, newest first; none when they do not reach back so far. -/
def stateAt (now : Nat) : List Seg → Nat → Option Nat
  | [], _ => some now
  | e :: l, t => if e.ct ≤ t then some e.st else if l.isEmpty then none else stateAt now l t

/-! ### One accepted status -/

/-- The end of the window of a VCAP that a ferry of cycle n carries: CT, Q and Q+ at the start of cycle n (R205). -/
def State.winEnd (s : State) (a n : Nat) : Nat × Int × Int :=
  let q := s.arm a
  match q.starts.find? (fun x => decide (x.1 = n)) with
  | some x => x.2
  | none => (s.ct, q.q, q.qp)

/-- MISMATCH of an accepted status (R208). -/
def State.mismatch (s : State) (g ap t : Nat) : State :=
  let r := s.crec g
  if ap = 0 ∨ r.segs.any (fun e => near8 e.ct t) then s
  else
    match stateAt (s.expSt g) r.segs t with
    | none => s
    | some st =>
      if st = ap then (s.setRec g { r with diff := 0 }).wr (REEF_REC1_MISMATCH g) 0
      else if r.diff = 0 then s.setRec g { r with diff := 1 }
      else
        let a := s.armOfCell g
        let s := (s.wr (REEF_REC1_MISMATCH g) 1).raise 0x0E2 a
        (s.inc (REEF_MISMATCH_CNT a)).setExp g ap s.ct

/-- EPOCH_DONE of an accepted status against the last epoch committed before the ferry passed (R267). -/
def State.lagCompare (s : State) (done t : Nat) : State :=
  match s.reef.lastEp.find? (fun e => decide (e.2 < t)) with
  | none => s
  | some e =>
    if s.reef.lastEp.any (fun x => near8 x.2 t) then s else if e.1 = done then s else s.inc RUN_LAG_CNT

/-- REFRESH_REQ of an accepted status: refresh-late once after 8 in a row (R228). -/
def State.refreshReq (s : State) (g : Nat) (on : Bool) (t : Nat) : State :=
  let s := s.wr (REEF_REC0_REFRESH g) (b2n on)
  let r := s.crec g
  let r := if r.served ≠ 0 ∧ r.served ≤ t then { r with served := 0, late := false, refRun := 0, refAt := 0 } else r
  if !on then s.setRec g { r with refAt := 0, refRun := 0, late := false }
  else
    let r := { r with refAt := if r.refAt = 0 then s.clk.count + 1 else r.refAt, refRun := min (r.refRun + 1) 9 }
    if r.refRun = 8 then
      ((s.setRec g { r with late := true }).raise 0x0E3 (s.armOfCell g)).inc (REEF_REF_DEFER (s.armOfCell g))
    else s.setRec g r

/-- The voltage of an accepted status: VCAP and its window unless SETTLE or OVR is 1; the over-voltage run (R204, R206,
R229). -/
def State.takeVcap (s : State) (g n v : Nat) (settle ovr : Bool) : State :=
  let a := s.armOfCell g
  let r := s.crec g
  let run := if ovr then r.ov + 1 else if settle then r.ov else if v > s.polVRet a then r.ov + 1 else 0
  let r := { r with ov := min run 2 }
  let s :=
    if settle ∨ ovr then s.setRec g r
    else
      let w := s.winEnd a n
      (s.wr (REEF_REC0_VCAP g) v).setRec g { r with winCt := w.1, winQ := w.2.1, winQp := w.2.2 }
  if run ≥ 2 then s.markRetire g else s

/-- HEALTH of an accepted status (R229 to R231). -/
def State.takeHealth (s : State) (g h : Nat) : State :=
  if h = 3 then s.markRetire g
  else if h = 2 then
    if s.recHealth g = 2 then s
    else
      let r := s.crec g
      let s := if r.retire then s.inc (REEF_RETIRE_CNT (s.armOfCell g)) else s
      ((s.setRec g { r with retire := false }).wr (REEF_REC0_HEALTH g) 2).rerank g |>.showHeads (s.armOfCell g)
  else if s.recHealth g ≤ 1 then s.wr (REEF_REC0_HEALTH g) h
  else s

/-- Start sending the part of a cell (R77). -/
def State.partStart (s : State) (g : Nat) : State :=
  s.setRec g { s.crec g with partBusy := true, partBlk := 0, partAt := 0, partSeen := false }

/-- PART of a written status moves the sending of the cell's part (R77). A status that reports receiving leaves the part in
flight. -/
def State.takePartState (s : State) (g part : Nat) : State :=
  let r := s.crec g
  if part = 2 then s.setRec g { r with partBusy := r.partBusy && decide (r.partBlk < 6), partRej := 0 }
  else if !s.isActive ∨ s.recHealth g ≥ 2 then s
  else if part = 3 then
    if r.partBusy ∧ r.partBlk < 6 then s
    else if r.partBusy then
      let s := (s.inc CHART_PART_REJ).setRec g { r with partRej := r.partRej + 1, partBusy := false, partSeen := true }
      if r.partRej + 1 ≥ 3 then s.markRetire g else s.partStart g
    else s.partStart g
  else if part = 0 ∧ !(r.partBusy ∧ r.partBlk < 6) then s.partStart g
  else s

/-- A written status of cell g is accepted from the ferry `f` of cycle n (R203, R204). -/
def State.accept (s : State) (g : Nat) (f : List Sym) (ts : List (Sym × Option Nat)) : State :=
  let b := g % 64
  let n := ctCycle (frDepart f)
  let x12 := stByte f b 12
  let h := stHealth f b
  let ap := stApplied f b
  let v := fld f (40 + 16 * b) 2
  let temp := stByte f b 10
  let sw := fld f (46 + 16 * b) 2
  let settle := bitOf x12 0
  let ovr := bitOf x12 3
  let flt := bitOf x12 2
  let t := s.passedAt g f ts
  let r := s.crec g
  let fresh := !r.got || s.stale g
  let s := if flt ∧ (fresh ∨ !r.fault) then s.raise 0x085 g else s
  let s := if h = 3 ∧ (fresh ∨ r.health ≠ 3) then s.raise 0x086 g else s
  let s := s.lagCompare (stByte f b 13) t
  let s := s.setRec g { r with
    sw := r.sw + (sw + 65536 - r.sw % 65536) % 65536, health := h, applied := ap, part := stPart f b, got := true, fault := flt,
    age := 0, cyc := n + 1, shown := r.shown || (r.retire && decide (ap = ST_BYPASS ∨ ap = ST_BLOCK)) }
  let s := (s.wr (REEF_REC1_SWITCH g) (s.crec g).sw).wr (REEF_REC0_TEMP g) temp
  let s := s.wr (REEF_REC0_STALE g) 0
  let s := (s.mismatch g ap t).refreshReq g (bitOf (stByte f b 11) 2) t
  let s := (s.takeVcap g n v settle ovr).takeHealth g h
  let s := s.takePartState g (stPart f b)
  let word := v + 2 ^ 16 * temp + 2 ^ 24 * ap + 2 ^ 27 * h + 2 ^ 29 * b2n settle + 2 ^ 30 * b2n ovr
  (s.recStatus g n word).reUpdate g

/-! ### Measurement ferries (R149, R150) -/

/-- Add a value of OPP_ARRIVE − DEPART, own or opposite, to the last 64. -/
def Cway.addRing (w : Cway) (x : Int) : Cway := { w with rings := (x :: w.rings).take 64 }

/-- The ring delay of R150 in 1/16 word clocks. -/
def Cway.ring (w : Cway) : Nat :=
  if w.rings.isEmpty then 0 else (toSixteenth (w.rings.foldl (· + ·) 0 / (w.rings.length : Int))).toNat

/-- The reports of a measurement ferry (R150). -/
def State.takeReports (s : State) (c : Nat) (f : List Sym) : State :=
  let t := (s.way c).ring
  let s := s.wr (CW_TRING c) t
  (s.berths c).foldl (fun s b =>
    let g := 64 * c + b
    if !stWritten f b then s
    else
      let d := fld f (40 + 16 * b) 4 % 2 ^ 20
      let s := (s.wr (CW_DELAY_H g) d).wr (CW_DELAY_T g) (if d = 0xFFFFF then 0xFFFFF else t - 32 - d)
      s.setRec g { s.crec g with part := stPart f b, got := true } |>.takePartState g (stPart f b)) s

/-! ### What a standby follows (R207, R220, R268) -/

/-- The stages of an active's ferry, for a standby's epochs. -/
def State.followFerry (s : State) (c : Nat) (f : List Sym) : State :=
  if !frStage f then s
  else
    let now := s.ct
    let span : Int := 4 * (secU : Int)
    let low : Int := ((frAt f / 2 ^ 30 % 4 : Nat) : Int) * (secU : Int) + ((frAt f % 2 ^ 30 : Nat) : Int) * (nsU : Int)
    let from_ : Int := (now : Int) - span / 2
    let at_ := (from_ + (low - from_) % span).toNat
    let hs := (s.berths c).filterMap (fun b =>
      let h := halfOf (ferryBytes f (32 + 16 * b) 8)
      if h.valid then some (64 * c + b, h) else none)
    let es := s.reef.epochs
    let es :=
      if es.any (fun e => decide (e.num = frEpoch f ∧ e.ct = at_)) then
        es.map (fun e => if e.num = frEpoch f ∧ e.ct = at_ then { e with cells := e.cells ++ hs } else e)
      else (⟨frEpoch f, at_, hs, [], []⟩ :: es).take 4
    (s.setReef { s.reef with epochs := es }).wr RUN_EPOCH_STAGED (frEpoch f)

/-- A flash order of the active, found on a causeway lane; `t` is its departure (R207, R220). -/
def State.followFlash (s : State) (c : Nat) (dir t : Nat) (o : Nat × Nat × Nat) : State :=
  let tail := decide (dir = 1)
  let eff := fun g => t + wcs 6 + s.cellDelay g tail
  if o.1 = 0xDC then
    let sB := decide (o.2.2 % 2 = 1)
    match s.reef.epochs.find? (fun e => decide (e.num = o.2.1)) with
    | none => s
    | some e =>
      let a := s.armOf c
      if e.done.contains a then s
      else
        let s := (s.noteEpoch a e).followStage a e sB
        let s := if (s.arm a).decided ∧ s.on (RUN_ARM_STAGE a) ≠ sB then s.inc (RUN_FLIP_CNT a) else s
        (s.wr (RUN_ARM_STAGE a) (b2n sB)).setArm a { s.arm a with decided := true }
  else if o.1 = 0x9C then (s.cwCells c).foldl (fun s g => s.expect ⟨eff g, g, ST_BLOCK, true⟩) s
  else if o.1 = 0x1C ∨ o.1 = 0x5C then
    let g := orderCell o.2.1 o.2.2
    if s.isCell g ∧ g / 64 = c then
      let st := if o.1 = 0x5C then ST_BYPASS else if o.2.1 ≥ 128 then ST_INSN else ST_INSP
      (s.expect ⟨eff g, g, st, true⟩).stepD (s.armOf c) (decide (o.1 = 0x1C))
    else s
  else s

/-- The flash orders in what arrived, with the place of their first symbol. -/
def flashPlaces : List (Sym × Option Nat) → Nat → Nat → List (Nat × List Sym)
  | [], _, _ => []
  | x :: l, i, r =>
    if x.2.isSome then flashPlaces l (i + 1) 0
    else if r = 0 then (i, (x :: l.take 3).map (·.1)) :: flashPlaces l (i + 1) 3
    else flashPlaces l (i + 1) (r - 1)

/-- A standby follows the flash orders of the active that came with this ferry. -/
def State.followFlashes (s : State) (c dir : Nat) (ts : List (Sym × Option Nat)) (sof : Nat) : State :=
  let i0 := ts.findIdx (fun x => x.2 = some 0)
  let ring := (((s.rd (CW_TRING c) : Nat) : Int) * wcU5) / 80
  (flashPlaces ts 0 0).foldl (fun s x =>
    match flashOf x.2 with
    | none => s
    | some o => s.followFlash c dir ((sof : Int) + ((x.1 : Int) - i0) * wcU5 / 5 - ring).toNat o) s

/-! ### The ferry as a whole -/

/-- The evidence, the conditions of R151 and the accumulators that a valid ferry of causeway c at lane n gives. -/
def State.ferrySeen (s : State) (n c : Nat) (f : List Sym) (arr : Nat) : State :=
  let bs := s.berths c
  let cnt := s.cwCount c
  let bit := if s.laneTail n then 2 else 1
  let w := s.way c
  let wr := bs.any (stWritten f)
  let brk := bs.any (fun b => stWritten f b && !(stLockH f b && stLockT f b))
  let dly := bs.all (fun b => stWritten f b && stDly f b)
  let w := { w with
    got := w.got ||| bit,
    whole := w.whole && decide (frHops f = cnt),
    dly := w.dly && dly,
    evid := w.evid || decide (frHops f < cnt) || brk,
    wrote := w.wrote || wr,
    blocks := !frMeasure f && bs.all (fun b => stWritten f b && decide (stApplied f b = ST_BLOCK)),
    meas := if frMeasure f then (if dly then min (w.meas + 1) 8 else 0) else w.meas }
  let w := w.addRing ((arr : Int) - frDepart f)
  let w := match oppAt f 1120 (frDepart f) with
    | some (opp, q) =>
      match s.cws.departs.find? (fun x => decide (x.1 % 65536 = q)) with
      | some x => w.addRing ((opp : Int) - x.2)
      | none => w
    | none => w
  let s := (s.setWay c w).wr (CW_STAT_COUNT_SEEN c) (frHops f)
  let s := if wr then s.wr (CW_STAT_SPLIT c) 0 else s
  let s := s.setCws { s.cws with arrived := tset (fun _ => (0, 0)) s.cws.arrived n (frSeq f, arr) }
  s.showBreaks c f

/-- A valid ferry that comes back with the freight of causeway c's job is kept for the reply (R141, R143). A standby keeps the
last freight of the active, whose cell and tag a COLLECT handed over names (R139, R515). -/
def State.keepFreight (s : State) (c : Nat) (f : List Sym) : State :=
  let w := s.way c
  match w.job with
  | none =>
    if s.isStandby ∧ frSender f = 1 ∧ fld f 28 1 ≠ 0 then s.setWay c { w with back := ferryBytes f 26 4 ++ ferryBytes f 1056 64 } else s
  | some j => if fld f 29 1 = j.idx % 256 ∧ fld f 28 1 ≠ 0 then s.setWay c { w with back := ferryBytes f 26 4 ++ ferryBytes f 1056 64 } else s

/-- The statuses of the first valid ferry of a cycle are taken, one per cell (R204). -/
def State.takeStatuses (s : State) (c : Nat) (f : List Sym) (ts : List (Sym × Option Nat)) : State :=
  let w := s.way c
  if w.used = frSeq f + 1 then s
  else
    let s := s.setWay c { w with used := frSeq f + 1 }
    if frMeasure f then s
    else ((s.berths c).filter (stWritten f)).foldl (fun s b => s.accept (64 * c + b) f ts) s.reefDue

/-- GEN `g` is newer than `own` (R525). -/
def newerGen (g own : Nat) : Bool := let d := (g + 256 - own) % 256; decide (1 ≤ d ∧ d ≤ 127)

/-- The fence of R525: an active that meets another active, of GEN g where that is known to be newer, stops committing on
this edge, counts, and steps down at the next ferry-cycle start. -/
def State.fence (s : State) (g : Nat) : State :=
  let done := match s.red.pend with | some o => decide (o.kind = 3) | none => false
  if s.redundant ∧ s.isActive ∧ !done then
    let s := (((s.commitOff).inc RED_FENCE_CNT).wr RED_STAT_FENCE_EV 1).raise 0x224 0
    { s with red := { s.red with pend := some ⟨3, if newerGen g (s.rd RED_STAT_GEN) then g else s.rd RED_STAT_GEN, 0⟩ } }
  else s

/-- A standby's witness note of an active's ferry of cycle n (R527): whether its end was reached in time, or the status at
hop position 0 tells that the cells saw the active's ferry. -/
def State.noteWitness (s : State) (c : Nat) (f : List Sym) : State :=
  let n := ctCycle (frDepart f)
  let b := if frDir f = 0 then 0 else frCount f - 1
  let miss := if frDir f = 0 then bitOf (stByte f b 12) 5 else bitOf (stByte f b 12) 4
  let seen := stWritten f b && !frMeasure f && !miss
  -- bit 0 in the entry's tag: the ferry of cycle n itself ended here; bit 1: its status clears cycle n − 1
  { s with red := { s.red with wit := ((n, 4 * c + 1) :: (if seen then [(n - 1, 4 * c + 2)] else []) ++ s.red.wit).take 1024 } }

/-- BALGAL_FERRY_RECEIVE: what arrived at lane n up to the end of a ferry: flash orders of the gap before it, the ferry, and
those injected into it; `back` sixteenths of a word clock have gone since the first bit of its SOF. -/
def execBalgalFerryReceive (n : Nat) (ss : List Sym) (back : Nat) (s : State) : Host.Outcome State Fault Refusal :=
  let c := s.cwOfLane n
  if !(s.inRun ∧ !s.isArbiter ∧ n < 96 ∧ s.cwUsed c ∧ (s.lanesOf c).contains n ∧ s.laneLocked n) then .next s
  else
    let (s, ok) := s.laneTake n ss
    let ts := tagSyms ss 0 0
    let f := ferryOf ts
    let dir := if s.laneTail n then 0 else 1
    let w := s.way c
    let s := s.setWay c { w with seen := w.seen ||| (if s.laneTail n then 2 else 1) }
    let s := if f.getLast? = some (.k kMARK) then s.inc (CW_FERRY_MARKED c) else s
    if !(ok && ferryOk f dir && decide (frCauseway f = c)) then .next (s.inc (CW_FERRY_BAD c))
    else
      let sof := ((s.ct : Int) - sixteenths back).toNat
      let s := (s.ferrySeen n c f sof).keepFreight c f
      let s := if frSender f = 1 ∧ s.isActive ∧ s.redundant then s.fence (s.rd RED_HEALTH_MATE / 2 ^ 20 % 256) else s
      let s := if s.isStandby ∧ frSender f = 1 then ((s.followFerry c f).followFlashes c dir ts sof).noteWitness c f else s
      let s := s.takeStatuses c f ts
      .next (if frMeasure f then s.takeReports c f else s)

end Sys2Proof.Machine
end

