-- ==== Sys2Proof/Machine/RedOps.lean ====
section
/-! DEFINITION. Active, standby and arbiter: the health word, fitness, the frames between the Balgals, orders and changes of
role (R509 to R528). -/

namespace Sys2Proof.Machine
open Sys2Proof

def State.setRed (s : State) (r : Red) : State := { s with red := r }

def FS_NORMAL : Nat := 0
def FS_FATAL : Nat := 2

/-! ### The health word (R511) -/

def hRole (h : Nat) : Nat := h % 4
def hFstate (h : Nat) : Nat := h / 4 % 4
def hCommit (h : Nat) : Bool := bitOf h 4
def hFit (h : Nat) : Bool := bitOf h 5
def hMateOk (h : Nat) : Bool := bitOf h 8
def hReq (h : Nat) : Bool := bitOf h 10
def hCopied (h : Nat) : Bool := bitOf h 11
def hGen (h : Nat) : Nat := h / 2 ^ 20 % 256

def State.mateOk (s : State) : Bool := !s.isArbiter && decide (s.red.mateRun ≥ 2)
/-- ARB_OK; on the arbiter from both partners. -/
def State.arbOk (s : State) : Bool := if s.isArbiter then decide (s.red.mateRun ≥ 2 ∧ s.red.arbRun ≥ 2) else decide (s.red.arbRun ≥ 2)

/-- The health word now; CW_LIVE is that of the last ferry cycle. -/
def State.health (s : State) : Nat :=
  s.roleWord + 4 * s.rd FLT_STAT_STATE + 16 * b2n s.committing + 32 * b2n (s.on RED_STAT_FIT) +
  64 * b2n (decide (s.rd TIME_STAT_STATE = TS_LOCKED)) + 128 * b2n (s.on CHART_STATUS_SAFETY_OK) + 256 * b2n s.mateOk +
  512 * b2n s.arbOk + 1024 * b2n (decide (s.red.req > 0)) + 2048 * b2n s.red.copyDone +
  4096 * (s.rd RED_HEALTH_OWN / 4096 % 128) + 2 ^ 20 * s.rd RED_STAT_GEN

/-! ### Fitness (R513, R514, R516) -/

/-- STANDBY_TEST is continuous self-test. -/
def State.selfTest (s : State) : Bool := b8 (s.sec T_ROLE 0) 4 = 1

/-- Causeway lanes in LOCKED, against two thirds of the causeways in use rounded up. -/
def State.lanesFit (s : State) : Bool :=
  decide (3 * (s.causeways.filter (fun c => s.laneLocked c)).length ≥ 2 * s.causeways.length)

/-- RED_UNFIT: the conditions of R513 and R514 that fail; CHART is judged at each mate frame. -/
def State.unfit (s : State) : Nat :=
  b2n (!(s.inRun && s.isStandby && decide (s.rd FLT_STAT_STATE = FS_NORMAL))) + 2 * s.rd RED_UNFIT_CHART +
  4 * b2n (decide (s.rd TIME_STAT_STATE ≠ TS_LOCKED)) + 8 * b2n (!s.on CHART_STATUS_SAFETY_OK) + 16 * b2n (!s.mateOk) +
  32 * b2n (!s.red.copyDone) + 64 * b2n (!s.lanesFit) + 128 * b2n (s.selfTest && s.red.shFail) +
  256 * b2n (s.selfTest && s.red.bist) + 512 * b2n (decide (s.red.settle > 0))

/-- A standby's FIT follows its conditions; standby-unfit on a fall (R513). A returning unit under self-test first completes a
window without failure (R529). -/
def State.fitFollow (s : State) : State :=
  if !s.redundant ∨ s.isArbiter then s
  else
    let u := s.unfit
    let s := s.wrW A_RED_UNFIT (BitVec.ofNat 32 u)
    let fit := decide (u = 0) && (!s.selfTest || s.red.shPass)
    let was := s.on RED_STAT_FIT
    let s := s.wr RED_STAT_FIT (b2n fit)
    if was ∧ !fit ∧ s.isStandby then s.raise 0x225 0 else s

/-! ### Frames (R509, R510) -/

/-- The order that a partner, or the arbiter on this lane, sends: kind, generation, K (R509, R520, R525). On the arbiter kind 1
is TAKE to the head-side unit and YIELD to the tail-side one, 2 the reverse, 3 and 4 YIELD to the head-side or the tail-side
one alone. -/
def State.orderOn (s : State) (n : Nat) : Nat × Nat × Nat :=
  if s.isArbiter then
    match s.red.order with
    | some o =>
      let head := decide (n < 102)
      let k := if o.kind = 1 then (if head then 1 else 2) else if o.kind = 2 then (if head then 2 else 1)
        else if o.kind = 3 then (if head then 2 else 0) else (if head then 0 else 2)
      if s.red.orderLeft = 0 ∨ k = 0 then (0, 0, 0) else (k, o.gen, o.k)
    | none => (0, 0, 0)
  else
    match s.red.last with
    | some o => (o.kind, o.gen, o.k)
    | none => (0, 0, 0)

/-- The frame of mate lane or arbiter lane n (R509). -/
def State.partnerFrame (s : State) (n : Nat) : List Sym :=
  let o := s.orderOn n
  let byte := fun (v : Nat) => (BitVec.ofNat 8 v : Byte)
  let np := (List.range 6).flatMap (fun a => beBytes 4 (if s.isActive then (s.rdW (A_REEF_NPLAN a)).toNat else 0))
  let st := (List.range 6).foldl (fun v a => v + 2 ^ a * s.rd (RUN_ARM_STAGE a)) 0
  sealFrame ([byte (if n < 100 then 0x20 else 0x30), byte (s.rd TOP_STAT_CONVERTER), byte (n % 4)] ++ s.departBytes ++
    oppBytes (s.heardOn n) ++ beBytes 4 s.health ++ beBytes 4 (s.rd CHART_BUILD_DIGEST) ++ beBytes 4 (s.rd CHART_HOT_DIGEST) ++
    beBytes 4 (s.rd TIME_CP_ANCHOR_HI) ++ beBytes 4 (s.rd TIME_CP_ANCHOR_LO) ++
    beBytes 4 (unsigned 32 (if s.isActive then toNs s.tim.announce else 0)) ++ beBytes 4 (s.rdW A_RUN_TIMING).toNat ++
    beBytes 4 (s.rdW A_RUN_SIGN).toNat ++ [byte o.1, byte o.2.1] ++ beBytes 4 o.2.2 ++ np ++
    [byte st, byte (s.rd RUN_EPOCH_CURRENT), 0, 0])

/-- The mate and arbiter lanes in use. -/
def State.partnerLanes (s : State) : List Nat := ((List.range 8).map (96 + ·)).filter (fun n => decide (s.rd (LANE_CFG_MODE n) ≠ 0))

/-- The framing, kind, converter and CRC of R509. -/
def State.frameValid (s : State) (n : Nat) (f : List Sym) : Bool :=
  frameOk f 101 && decide (fld f 1 1 / 16 = if n < 100 then 2 else 3) && decide (fld f 2 1 = s.rd TOP_STAT_CONVERTER) &&
    decide (crc32 (ferryBytes f 1 95) = fld f 96 4)

/-! ### Roles (R517, R521, R522, R525) -/

/-- A pending hot load is abandoned (R73, R74). -/
def State.hotDrop (s : State) (cause : Nat) : State :=
  if s.on CHART_STATUS_HOT_PEND then
    (({ s with chart := { s.chart with hot := [], hotReady := false } }).wr CHART_STATUS_HOT_PEND 0).wr CHART_STATUS_CAUSE cause
  else s

/-- Entry into the standby role: it settles for 64 ferry cycles, and with self-test the background memory test is enabled. -/
def State.enterStandby (s : State) : State :=
  let s := (s.monDrop.wr TOP_STAT_ROLE 2).wr RED_STAT_ROLE 2
  let s := s.setRed { s.red with settle := 64, bist := false, shFail := false, shCyc := 0, shMis := 0 }
  if s.selfTest then s.wr MEM_BIST_CTRL_EN 1 else s

/-- What every change of role shows: route source 0x48, the counts, and the pause of the shadow. -/
def State.roleChanged (s : State) (gen k : Nat) : State :=
  let s := ((s.wr RED_STAT_GEN gen).wr RED_STAT_SWITCH_EV 1).inc RED_SW_CNT
  let s := (s.wr RED_LAST_K k).wr RED_STAT_ORDER_PEND 0
  let s := s.setRed { s.red with pend := none, shHold := 64, lastSw := ctCycle s.ct + 1 }
  s.fireRoute 0x48

/-- The pending order takes effect at this ferry-cycle start. An active that has detected the loss of its partner ignores a
YIELD and commits on (R526). -/
def State.takeover (s : State) : State :=
  match s.red.pend with
  | none => s
  | some o =>
    let k := ctCycle s.ct % 2 ^ 32
    if o.kind = 1 then
      let s := (((s.wr TOP_STAT_ROLE 1).wr RED_STAT_ROLE 1).roleChanged o.gen k).raise 0x224 0
      ((s.clearD).commitOn).selectSource
    else if o.kind = 2 ∧ s.red.mateLost then
      let s := (s.setRed { s.red with pend := none }).wr RED_STAT_ORDER_PEND 0
      (s.commitOn).inc RED_ORDER_REJ
    else
      let s := ((s.commitOff).enterStandby.roleChanged o.gen k).selectSource
      if o.kind = 3 then s else s.raise 0x224 0

/-- A pending order is due in the ferry cycle that starts now; a fence is due at the next start. -/
def State.takeoverDue (s : State) : Bool :=
  match s.red.pend with
  | none => false
  | some o => decide (o.kind = 3) || decide ((ctCycle s.ct + 2 ^ 32 - o.k) % 2 ^ 32 < 2 ^ 31)

/-- The ferry cycle in which an order received now takes effect: K, or when it comes after word clock 1,000 of cycle K − 1 the
first start at least 250 word clocks away (R520). Gives whether it is late. -/
def State.orderCycle (s : State) (k : Nat) : Nat × Bool :=
  let n := ctCycle s.ct
  let left := (n + 1) * cycU - s.ct
  let ahead := (k + 2 ^ 32 - n % 2 ^ 32) % 2 ^ 32
  if ahead ≥ 2 ^ 31 ∨ ahead = 0 ∨ (ahead = 1 ∧ left < wcs 250) then
    ((n + (if left < wcs 250 then 2 else 1)) % 2 ^ 32, true)
  else (k, false)

/-- An order for this partner, 1 TAKE or 2 YIELD, received now (R520 to R522). A further copy of the order last accepted is
passed over; any other that does not fit is counted. -/
def State.takeOrder (s : State) (kind gen k : Nat) : State :=
  let copy := match s.red.last with | some o => decide (o.gen = gen ∧ o.k = k) | none => false
  let fits := decide (gen = (s.rd RED_STAT_GEN + 1) % 256) && s.red.pend.isNone &&
    (if kind = 1 then s.isStandby else decide (kind = 2) && s.isActive)
  if copy then s
  else if !fits then s.inc RED_ORDER_REJ
  else
    let (at_, late) := s.orderCycle k
    let s := if late then s.inc RED_LATE_CNT else s
    let s := s.setRed { s.red with pend := some ⟨kind, gen, at_⟩, last := some ⟨kind, gen, k⟩ }
    let s := s.wr RED_STAT_ORDER_PEND 1
    if kind = 1 then s.hotDrop 0x21 else s.commitOff

/-! ### The arbiter (R518 to R520, R525) -/

/-- The side of the active in the health words that the arbiter holds: true for the tail side; none without one active. -/
def State.activeSide (s : State) : Option Bool :=
  let h := decide (hRole (s.rd RED_HEALTH_MATE) = 1)
  let t := decide (hRole (s.rd RED_HEALTH_ARB) = 1)
  if h && !t then some false else if t && !h then some true else none

/-- The side opposite the standby's, where exactly one unit shows the role standby (the active may show another role). -/
def State.standbySide (s : State) : Option Bool :=
  let h := decide (hRole (s.rd RED_HEALTH_MATE) = 2)
  let t := decide (hRole (s.rd RED_HEALTH_ARB) = 2)
  if h && !t then some false else if t && !h then some true else none

def State.healthOf (s : State) (tail : Bool) : Nat := if tail then s.rd RED_HEALTH_ARB else s.rd RED_HEALTH_MATE
def State.gapOf (s : State) (tail : Bool) : Nat := if tail then s.red.arbGap else s.red.mateGap
def State.aliveOf (s : State) (tail : Bool) : Bool := s.on (if tail then RED_STAT_ALIVE1_RUN else RED_STAT_ALIVE0_RUN)

/-- The order of the arbiter leaves with its next three frames: K is two ferry cycles after that of the decision edge. -/
def State.giveOrder (s : State) (kind gen : Nat) : State :=
  let n := ctCycle s.ct
  s.setRed { s.red with order := some ⟨kind, gen, (n + 2) % 2 ^ 32⟩, orderLeft := 4, lastSw := n + 1 }

/-- Evidence against the active on side `tail`: health, silence or ALIVE (R519). -/
def State.evidenceOn (s : State) (tail halted : Bool) : Bool :=
  let h := s.healthOf tail
  decide (hFstate h = FS_FATAL) || decide (hRole h ≠ 1) || (s.red.sawCommit && !hCommit h && !halted) ||
    (decide (s.gapOf tail ≥ 2) && !hMateOk (s.healthOf !tail)) || !s.aliveOf tail

/-- The arbiter may order at all: no order under way, 64 ferry cycles of frames from both partners behind it (R519). -/
def State.arbReady (s : State) : Bool := s.isArbiter && s.inRun && s.red.shPass && decide (s.red.orderLeft = 0)

/-- The arbiter judges the evidence it holds; `halted`: the active has reported RUN_CTRL.HALT. -/
def State.arbJudge (s : State) (halted : Bool) : State :=
  if !s.arbReady then s
  else
    match s.standbySide with
    | none => s
    | some sb =>
      if !s.evidenceOn (!sb) halted then s
      else if hFit (s.healthOf sb) then s.giveOrder (if sb then 2 else 1) ((s.rd RED_STAT_GEN + 1) % 256)
      else s.wr RED_STAT_BLOCKED_EV 1

/-- A planned switchover is granted or refused (R518). -/
def State.arbRequest (s : State) : State :=
  match s.activeSide with
  | some a =>
    let ok := s.arbReady && hFit (s.healthOf (!a)) && decide (hFstate (s.healthOf a) = FS_NORMAL) &&
      (decide (s.red.lastSw = 0) || decide (ctCycle s.ct + 1 ≥ s.red.lastSw + 1000))
    if ok then s.giveOrder (if a then 1 else 2) ((s.rd RED_STAT_GEN + 1) % 256) else s.inc RED_REQ_REF
  | none => s.inc RED_REQ_REF

/-- Both partners show the role active: the one with the older GEN yields (R525). -/
def State.arbFence (s : State) : State :=
  let h := s.rd RED_HEALTH_MATE
  let t := s.rd RED_HEALTH_ARB
  if hRole h = 1 ∧ hRole t = 1 ∧ s.red.orderLeft = 0 then
    if newerGen (hGen h) (hGen t) then s.giveOrder 4 (hGen h)
    else if newerGen (hGen t) (hGen h) then s.giveOrder 3 (hGen t)
    else s
  else s

/-! ### Ferry cycles as the redundancy block counts them -/

/-- Witnesses of ferry cycle n: causeways with neither entry (R527). -/
def State.witnesses (s : State) (n : Nat) : Nat :=
  (s.causeways.filter (fun c => !s.red.wit.contains (n, 4 * c + 1) && !s.red.wit.contains (n, 4 * c + 2))).length

/-- A ferry-cycle start closes a cycle of frames and moves the counts of ferry cycles. -/
def State.redClose (s : State) : State :=
  if !s.redundant then s
  else
    let n := ctCycle s.ct
    let r := s.red
    let live := (s.causeways.filter (fun c => decide ((s.way c).got ≠ 0))).length
    let w := s.witnesses (n - 2)
    let q := decide (3 * w ≥ 2 * s.causeways.length)
    let mr := if r.mateGot then min (r.mateRun + 1) 64 else 0
    let ar := if r.arbGot then min (r.arbRun + 1) 64 else 0
    let r := { r with
      mateGot := false, arbGot := false, mateRun := mr, arbRun := ar,
      mateGap := if r.mateGot then 0 else min (r.mateGap + 1) 64, arbGap := if r.arbGot then 0 else min (r.arbGap + 1) 64,
      req := if s.isArbiter then r.req else r.req - 1, settle := r.settle - 1, shHold := r.shHold - 1, orderLeft := r.orderLeft - 1,
      witRun := if s.isStandby then (if q then min (r.witRun + 1) 7 else 0) else r.witRun,
      wit := r.wit.filter (fun x => decide (x.1 + 3 > n)),
      shPass := if s.isArbiter then r.shPass || decide (mr = 64 ∧ ar = 64) else r.shPass }
    let s := s.setRed r
    let s := s.wr RED_HEALTH_OWN (4096 * live)
    let s := if s.isStandby then (s.wr RED_WITNESS_NUM w).wr RED_WITNESS_CYCLES s.red.witRun else s
    let s := (s.wr RED_STAT_MATE_OK (b2n s.mateOk)).fitFollow
    (s.wr RED_HEALTH_OWN s.health).arbJudge true

end Sys2Proof.Machine
end

