-- ==== Sys2Proof/Machine/Sched.lean ====
section
/-! DEFINITION. The scheduler and the engines' run control (R309 to R342): flags, asks, grants, done, run limits, aging,
engine faults and halts, statistics. -/

namespace Sys2Proof.Machine
open Sys2Proof

/-- States of SND_STAT (R342). -/
def EN_HALTED : Nat := 0
def EN_RUNNING : Nat := 1
def EN_ASKING : Nat := 2
def EN_FAULTED : Nat := 3
def EN_NO_IMAGE : Nat := 4

def State.engState (s : State) (e : Nat) : Nat := s.rd (SND_STAT_STATE e)

/-- The task an engine holds. -/
def State.engTask (s : State) (e : Nat) : Option Nat :=
  if s.on (SCHED_ENG_HOLDING e) then some (s.rd (SCHED_ENG_TASK e)) else none

/-- The NONE word of SCHED_ASK (R326). -/
def grantNone : Word := 0x8000

/-- The grant word (R326). -/
def State.grantWord (s : State) (t : Nat) : Word :=
  let f := s.taskFlow t
  BitVec.ofNat 32 (t + (if f < 64 then 256 * f else 0x4000) + 65536 * s.rd (SCHED_TASK_AFF_ARG t))

/-- A task is before another in the order of R327: lower E, then earlier ready time, then lower number. -/
def State.grantBefore (s : State) (t u : Nat) : Bool :=
  let et := s.effLevel t
  let eu := s.effLevel u
  let rt := tget (fun _ => 0) s.sched.readyAt t
  let ru := tget (fun _ => 0) s.sched.readyAt u
  et < eu || (et = eu && (rt < ru || (rt = ru && t < u)))

/-- The first task in READY whose AFFINITY names engine e. -/
def State.bestTask (s : State) (e : Nat) : Option Nat :=
  (List.range 256).foldl (fun o t =>
    if s.taskState t = ST_READY ∧ bitOf (s.rd (SCHED_TASK_AFF_AFFINITY t)) e then
      match o with
      | none => some t
      | some u => if s.grantBefore t u then some t else some u
    else o) none

/-- Add to a saturating 32-bit statistics register. -/
def State.statMax (s : State) (f : Fld) (v : Nat) : State := s.wr f (max (s.rd f) (min v 0xFFFFFFFF))

/-- The statistics of a grant of task t to engine e after a wait of `w` word clocks (R338). -/
def State.statGrant (s : State) (e t w : Nat) : State :=
  if s.on SCHED_OBS_STATS then
    let s := ((s.inc (SCHED_ST_GRANTS e)).inc (SCHED_ST_WCNT t)).statMax (SCHED_ST_WMAX t) (w / 64)
    let sum := tget (fun _ => 0) s.sched.wsum t + w
    let s := { s with sched := { s.sched with wsum := tset (fun _ => 0) s.sched.wsum t sum } }
    s.wr (SCHED_ST_WSUM t) (min (sum / 64) 0xFFFFFFFF)
  else s

/-- The other READY tasks of a flow that has become busy enter HELD (R321). -/
def State.holdOthers (s : State) (f t : Nat) : State :=
  if f < 64 then
    (List.range 256).foldl (fun s u =>
      if u ≠ t ∧ s.taskState u = ST_READY ∧ s.taskFlow u = f then (s.taskTo u ST_HELD).trace 4 0xFF u (s.taskFlags u) 0
      else s) s
  else s

/-- What the scheduler notes at a grant to engine e: the flags cleared, the edge, the task's ready time. -/
def State.grantMarks (s : State) (e got ready : Nat) : State :=
  let q := s.sched
  let q := { q with asks := q.asks.filter (fun a => a.1 ≠ e), late := q.late.filter (fun x => x ≠ e) }
  let q := { q with gotWas := tset (fun _ => 0) q.gotWas e (tget (fun _ => 0) q.got e) }
  let q := { q with got := tset (fun _ => 0) q.got e got, grantReady := tset (fun _ => 0) q.grantReady e ready }
  { s with sched := { q with grantAt := tset (fun _ => 0) q.grantAt e s.clk.count } }

/-- Grant task t to engine e (R322, R326, R328): the WAIT flags that are 1 clear and go to SCHED_GOT, the flow becomes
busy, and the ask is answered with the grant word. -/
def State.grant (s : State) (e t : Nat) : State :=
  let got := s.taskFlags t &&& s.rd (SCHED_TASK_WAIT t)
  let w := s.clk.count - tget (fun _ => 0) s.sched.readyAt t
  let ready := tget (fun _ => 0) s.sched.readyAt t
  let word := s.grantWord t
  let s := s.grantMarks e got ready
  let s := s.wr (SCHED_FLAGS t) (s.taskFlags t &&& (0xFFFFFFFF ^^^ got))
  let s := (s.taskTo t ST_RUNNING).wr (SCHED_TASK_STAT_ENGINE t) e
  let s := ((s.wr (SCHED_ENG_TASK e) t).wr (SCHED_ENG_HOLDING e) 1).wr (SCHED_ENG_ASKING e) 0
  let s := ((s.wr (SND_STAT_TASK e) t).wr (SND_STAT_HOLDING e) 1).wr (SND_STAT_STATE e) EN_RUNNING
  let f := s.taskFlow t
  let s := if f < 64 then (s.wr (SCHED_FLOW_BUSY f) 1).wr (SCHED_FLOW_TASK f) t else s
  let s := (s.statGrant e t w).trace 2 e t got (w / 64)
  ((s.holdOthers f t).qUpdate).emit (.readData (.engine e) word)

/-- The statistics of engine e end with its hold (R338). -/
def State.statHold (s : State) (e : Nat) : State :=
  if s.on SCHED_OBS_STATS then
    { s with sched := { s.sched with busy := tset (fun _ => 0) s.sched.busy e (s.busyNow e) } }
  else s

/-- Engine e holds nothing any more; the flow of task t is free (R328). -/
def State.dropHold (s : State) (e t : Nat) : State :=
  let s := s.statHold e
  let s := (s.wr (SCHED_ENG_HOLDING e) 0).wr (SND_STAT_HOLDING e) 0
  let f := s.taskFlow t
  if f < 64 then s.wr (SCHED_FLOW_BUSY f) 0 else s

/-- A task that no longer holds an engine takes DISABLED, WAITING, READY or HELD; `stamp` is its ready time. -/
def State.settleTask (s : State) (t stamp : Nat) : State :=
  if !(s.on (SCHED_TASK_CFG_ENABLE t)) then s.taskTo t ST_DISABLED
  else if s.taskReady t then s.becomeReady t stamp
  else s.taskTo t ST_WAITING

/-- The done edge of the task that engine e holds (R321, R325, R328). -/
def State.complete (s : State) (e : Nat) : State :=
  match s.engTask e with
  | none => s
  | some t =>
    let s := s.dropHold e t
    let s := s.settleTask t s.clk.count
    let s := s.passFlow (s.taskFlow t)
    (s.trace 3 e t (s.taskFlags t) 0).qUpdate

/-- SCHED_SET: one flag of one task is set (R320). A value that names a flag above 31 is ignored and raises range. -/
def execSchedSet (p : Port) (v : Word) (s : State) : Host.Outcome State Fault Refusal :=
  if v.toNat / 256 > 31 then .next (s.range p A_SCHED_SET)
  else .next (s.setFlags (bitsOf v 0 8) (2 ^ bitsOf v 8 5))

/-- SCHED_FLAGS: each 1 written sets a flag of task `t` (R320). -/
def execSchedFlags (t : Nat) (v : Word) (s : State) : Host.Outcome State Fault Refusal :=
  if t < 256 ∧ v ≠ 0 then .next (s.setFlags t v.toNat) else .next s

/-- SCHED_FLAGS_CLR: each 1 written clears a flag, which can leave the task not ready (R321). -/
def execSchedFlagsClr (t : Nat) (v : Word) (s : State) : Host.Outcome State Fault Refusal :=
  if t < 256 then
    .next ((s.wr (SCHED_FLAGS t) (s.taskFlags t &&& (0xFFFFFFFF ^^^ v.toNat))).judgeTask t)
  else .next s

/-- TASK_ENABLE: a write of SCHED_TASK_CFG.ENABLE; it also takes a FAULTED task out of FAULTED (R321, R323). -/
def execTaskEnable (t : Nat) (en : Bool) (s : State) : Host.Outcome State Fault Refusal :=
  if t < 256 then
    let s := s.wr (SCHED_TASK_CFG_ENABLE t) (b2n en)
    let s := if s.taskState t = ST_FAULTED then s.taskTo t (if en then ST_WAITING else ST_DISABLED) else s
    .next (s.judgeTask t)
  else .next s

/-- WAIT_WRITE: a write of SCHED_TASK_WAIT (R323). -/
def execWaitWrite (t : Nat) (v : Word) (s : State) : Host.Outcome State Fault Refusal :=
  if t < 256 then .next ((s.wr (SCHED_TASK_WAIT t) v.toNat).judgeTask t) else .next s

/-- Engine e joins the asking engines, those of one edge in ascending number (R326). -/
def askInsert (e c : Nat) : List (Nat × Nat) → List (Nat × Nat)
  | [] => [(e, c)]
  | a :: t => if c < a.2 ∨ (c = a.2 ∧ e < a.1) then (e, c) :: a :: t else a :: askInsert e c t

/-- SCHED_ASK: a read of SCHED_ASK. A running Sound engine completes the task it holds and asks; a Harbour core is
answered at once; every other port reads NONE (R324, R325). -/
def execSchedAsk (p : Port) (s : State) : Host.Outcome State Fault Refusal :=
  match p with
  | .engine e =>
    if e < 18 ∧ s.engState e = EN_RUNNING then
      let s := s.complete e
      if e < 16 then
        let s := { s with sched := { s.sched with asks := askInsert e s.clk.count s.sched.asks } }
        .next ((s.wr (SCHED_ENG_ASKING e) 1).wr (SND_STAT_STATE e) EN_ASKING)
      else match s.bestTask e with
        | some t => .next (s.grant e t)
        | none => .next (s.emit (.readData p grantNone))
    else .next s
  | p => .next (s.emit (.readData p grantNone))

/-- The earliest asking engine that has a grantable task, with the task (R326). -/
def State.nextGrant (s : State) : List (Nat × Nat) → Option (Nat × Nat)
  | [] => none
  | a :: t => match s.bestTask a.1 with
    | some u => some (a.1, u)
    | none => s.nextGrant t

/-- SCHED_GRANT: the grant of one edge; no effect when no asking engine has a grantable task (R326, R327). -/
def execSchedGrant (s : State) : Host.Outcome State Fault Refusal :=
  match s.nextGrant s.sched.asks with
  | some (e, t) => .next (s.grant e t)
  | none => .next s

/-- SCHED_DONE: a write of SCHED_DONE with the held task's number completes it; naming another raises range; another
port is ignored (R324, R325). -/
def execSchedDone (p : Port) (v : Word) (s : State) : Host.Outcome State Fault Refusal :=
  match p with
  | .engine e =>
    if s.engTask e = some (bitsOf v 0 8) then .next (s.complete e) else .next (s.range p A_SCHED_DONE)
  | _ => .next s

/-- The INFO word of the engine sources (R488). -/
def State.engInfo (s : State) (e t : Nat) : Nat := e + 256 * t + 65536 * s.rd (SND_STAT_FAULT e)

/-- RUN_LIMIT_OVERRUN: the task engine `e` holds has exceeded its RUN_LIMIT; LATE and task-overrun, once for the grant
(R329). -/
def execRunLimitOverrun (e : Nat) (s : State) : Host.Outcome State Fault Refusal :=
  match s.engTask e with
  | some t =>
    if s.on (SCHED_TASK_CFG_RUN_LIMIT t) ∧ !(s.sched.late.contains e) then
      let s := { s with sched := { s.sched with late := s.sched.late ++ [e] } }
      let s := (s.wr (SCHED_TASK_STAT_LATE t) 1).raise 0x142 (s.engInfo e t)
      .next (s.trace 6 e t (s.taskFlags t) 0)
    else .next s
  | none => .next s

/-- AGE_PROMOTION: the effective level of a waiting task has risen as AGE_STEP passed (R327). -/
def execAgePromotion (t : Nat) (s : State) : Host.Outcome State Fault Refusal :=
  if t < 256 ∧ (s.taskState t = ST_READY ∨ s.taskState t = ST_HELD) ∧ s.effLevel t < s.rd (SCHED_TASK_STAT_ELEVEL t) then
    let s := s.wr (SCHED_TASK_STAT_ELEVEL t) (s.effLevel t)
    .next ((s.trace 5 0xFF t (s.taskFlags t) 0).qUpdate)
  else .next s

/-- The register file of engine e, as its program left it. -/
def State.setEngRegs (s : State) (e : Nat) (rs : List Word) : State :=
  { s with engRegs := (List.range 64).foldl (fun m r => tset (fun _ => 0) m (64 * e + r) (rs.getD r 0)) s.engRegs }

/-- ENGINE_FAULT: running Sound engine `e` faults with cause 1 to 4 at program counter `pc`, its registers as given
(R333). -/
def execEngineFault (e cause pc : Nat) (rs : List Word) (s : State) : Host.Outcome State Fault Refusal :=
  if e < 16 ∧ s.engState e = EN_RUNNING ∧ 1 ≤ cause ∧ cause ≤ 4 then
    let t := s.rd (SND_STAT_TASK e)
    let s := ((s.wr (SND_STAT_STATE e) EN_FAULTED).wr (SND_STAT_FAULT e) cause).wr (SND_STAT_FAULT_EV e) 1
    let s := ((s.wr SCHED_STAT_FAULT_EV 1).wr (SND_PC e) pc).setEngRegs e rs
    let s := match s.engTask e with
      | some t =>
        let s := (s.dropHold e t).taskTo t ST_FAULTED
        ((s.passFlow (s.taskFlow t)).trace 7 e t (s.taskFlags t) 0).qUpdate
      | none => s
    .next (s.raise 0x162 (s.engInfo e t))
  else .next s

/-- ENGINE_HALT: SND_CTRL.HALT stops engine `e` at a bundle boundary, with its program counter and registers as given
(R334). An engine without an image raises range (R317). -/
def execEngineHalt (p : Port) (e pc : Nat) (rs : List Word) (s : State) : Host.Outcome State Fault Refusal :=
  if e < 18 then
    let st := s.engState e
    if st = EN_NO_IMAGE then .next (s.range p (A_SND_CTRL e))
    else if st = EN_ASKING then
      let s := { s with sched := { s.sched with asks := s.sched.asks.filter (fun a => a.1 ≠ e) } }
      let s := ((s.wr (SCHED_ENG_ASKING e) 0).wr (SND_STAT_STATE e) EN_HALTED).wr (SND_PC e) pc
      .next ((s.setEngRegs e rs).emit (.readData (.engine e) grantNone))
    else if st = EN_RUNNING then
      let held := s.engTask e
      let s := ((s.wr (SND_STAT_STATE e) EN_HALTED).wr (SND_PC e) pc).setEngRegs e rs
      match held with
      | none => .next s
      | some t =>
        let withdrawn := tget (fun _ => 0) s.sched.grantAt e = s.clk.count
        let got := tget (fun _ => 0) s.sched.got e
        let s := s.dropHold e t
        let s := s.wr (SCHED_FLAGS t) (s.taskFlags t ||| got)
        let s := s.settleTask t (tget (fun _ => 0) s.sched.grantReady e)
        let s := s.passFlow (s.taskFlow t)
        let s := if withdrawn then
            let s := { s with sched := { s.sched with got := tset (fun _ => 0) s.sched.got e (tget (fun _ => 0) s.sched.gotWas e) } }
            s.emit (.readData (.engine e) grantNone)
          else s.trace 8 e t (s.taskFlags t) 0
        .next s.qUpdate
    else .next s
  else .next s

/-- ENGINE_RUN: SND_CTRL.RUN starts a halted engine at its program counter; ignored with range on one that is not
halted. An engine that faulted stays halted until its RESET (R333, R335). -/
def execEngineRun (p : Port) (e : Nat) (s : State) : Host.Outcome State Fault Refusal :=
  if e < 18 then
    if s.engState e = EN_HALTED then .next (s.wr (SND_STAT_STATE e) EN_RUNNING)
    else if s.engState e = EN_FAULTED then .next s
    else .next (s.range p (A_SND_CTRL e))
  else .next s

/-- ENGINE_RESET: SND_CTRL.RESET sets a halted engine's program counter to ENTRY and clears its registers (R335). -/
def execEngineReset (p : Port) (e : Nat) (s : State) : Host.Outcome State Fault Refusal :=
  if e < 18 then
    if s.engState e = EN_HALTED ∨ s.engState e = EN_FAULTED then
      let s := (s.wr (SND_PC e) (s.rd (SND_ENTRY e))).wr (SND_STAT_STATE e) EN_HALTED
      .next (s.setEngRegs e [])
    else .next (s.range p (A_SND_CTRL e))
  else .next s

/-- OBS_CLEAR: every statistics register clears and the window restarts (R336). -/
def execObsClear (s : State) : Host.Outcome State Fault Refusal := .next s.statsClear

end Sys2Proof.Machine
end

