-- ==== Sys2Proof/Machine/Lanes.lean ====
section
/-! DEFINITION. The commands of the lanes (R83 to R120): reference clocks, receive states, error intervals, slips and eye
scans. -/

namespace Sys2Proof.Machine
open Sys2Proof

/-- Every lane goes OFF (R94). -/
def State.lanesOff (s : State) : State := (List.range 112).foldl (fun s n => s.laneDrop n LN_OFF) s

/-- REF_CLOCK_BAD: the lane reference clock, or SYS_REF with `sys`, is judged out of range, `dev` ppm off: every lane goes
OFF, ALIVE is held low, and the source lane-reference is raised, with INFO 0x7F for SYS_REF (R94, R96, R499, R690). For the
lane reference clock no rule gives the lane number of INFO: it is open. -/
def execRefClockBad (sys : Bool) (dev : Int) (s : State) : Host.Outcome State Fault Refusal :=
  let bit := if sys then 2 else 1
  let s := { s with lanes := { s.lanes with refBad := s.lanes.refBad ||| bit } }
  let s := (if sys then s else s.wrS LANE_REF_STAT_DEV dev).wr LANE_REF_STAT_REF_OK 0
  let s := (s.lanesOff).wr FLT_STAT_ALIVE 0
  if sys then .next (s.raise 0x045 0x7F)
  else
    let (v, s) := s.free 7
    .next (s.raise 0x045 v)

/-- REF_CLOCK_GOOD: one clock is judged in range; with both in range, lanes whose MODE is not off enter SEEK (R94, R690). -/
def execRefClockGood (sys : Bool) (dev : Int) (s : State) : Host.Outcome State Fault Refusal :=
  let bad := if sys then s.lanes.refBad % 2 else s.lanes.refBad / 2 * 2
  let s := { s with lanes := { s.lanes with refBad := bad } }
  let s := if sys then s else s.wrS LANE_REF_STAT_DEV dev
  if bad ≠ 0 then .next s
  else
    let s := s.wr LANE_REF_STAT_REF_OK 1
    if s.lanesApplied then
      .next ((List.range 112).foldl (fun s n =>
        if s.rd (LANE_CFG_MODE n) ≠ 0 ∧ s.laneSt n = LN_OFF then s.wr (LANE_STAT_STATE n) LN_SEEK else s) s)
    else .next s

/-- SIGNAL_DETECT_LOST: signal detect absent for 16 word clocks (`sig` false), or clock recovery out of lock (`cdr`
false), takes a receiver in LOCKED or ALIGN to SEEK (R94, R96). -/
def execSignalDetectLost (r : Rx) (sig cdr : Bool) (s : State) : Host.Outcome State Fault Refusal :=
  match r with
  | .lane n =>
    if n < 112 ∧ !isEth n ∧ !(sig && cdr) then
      let s := (s.wr (LANE_STAT_SIG_DET n) (b2n sig)).wr (LANE_STAT_CDR_LOCK n) (b2n cdr)
      .next (if s.laneSt n ≥ LN_ALIGN then s.laneDrop n LN_SEEK else s)
    else .next s
  | .port g p =>
    .next (s.onCell g (fun k =>
      if p < 2 ∧ k.lanesRun ∧ !(sig && cdr) then
        let k := (k.wr (SK_LINK_STAT_SIG_DET p) (b2n sig)).wr (SK_LINK_STAT_CDR_LOCK p) (b2n cdr)
        if k.rd (SK_LINK_STAT_STATE p) ≥ LN_ALIGN then k.portDrop p LN_SEEK else k
      else k))

/-- CLOCK_RECOVERED: signal detect present for 64 word clocks with clock recovery in lock takes SEEK to ALIGN (R94). -/
def execClockRecovered (r : Rx) (s : State) : Host.Outcome State Fault Refusal :=
  match r with
  | .lane n =>
    if n < 112 ∧ !isEth n then
      let s' := (s.wr (LANE_STAT_SIG_DET n) 1).wr (LANE_STAT_CDR_LOCK n) 1
      .next (if s.laneSt n = LN_SEEK then s'.wr (LANE_STAT_STATE n) LN_ALIGN else s)
    else .next s
  | .port g p =>
    .next (s.onCell g (fun k =>
      if p < 2 ∧ k.lanesRun ∧ k.rd (SK_LINK_STAT_STATE p) = LN_SEEK then
        ((k.wr (SK_LINK_STAT_SIG_DET p) 1).wr (SK_LINK_STAT_CDR_LOCK p) 1).wr (SK_LINK_STAT_STATE p) LN_ALIGN
      else k))

/-- COMMA_ALIGNED: 16 consecutive valid idle ordered sets at one alignment take ALIGN to LOCKED (R94, R95). -/
def execCommaAligned (r : Rx) (s : State) : Host.Outcome State Fault Refusal :=
  match r with
  | .lane n => if n < 112 ∧ !isEth n ∧ s.laneSt n = LN_ALIGN then .next (s.laneLock n) else .next s
  | .port g p =>
    .next (s.onCell g (fun k =>
      if p < 2 ∧ k.lanesRun ∧ k.rd (SK_LINK_STAT_STATE p) = LN_ALIGN then k.portLock p else k))

/-- LOSS_SCORE_LIMIT: symbol errors between frames, `errs` of them, bring the loss score to LOSS_SCORE: LOCKED becomes
ALIGN (R94, R95). -/
def execLossScoreLimit (r : Rx) (errs : Nat) (s : State) : Host.Outcome State Fault Refusal :=
  match r with
  | .lane n =>
    if n < 112 ∧ !isEth n ∧ s.laneLocked n then .next ((s.cnt (LANE_SYM_ERR n) errs).laneDrop n LN_ALIGN) else .next s
  | .port g p =>
    .next (s.onCell g (fun k =>
      if p < 2 ∧ k.lanesRun ∧ k.locked p then (k.cnt (SK_LINK_SYM_ERR p) errs).portDrop p LN_ALIGN else k))

/-- LOCK_TIMEOUT: lane n has not reached LOCKED within LOCK_TIMEOUT of entering SEEK: TIMEOUT, and lane-timeout once
(R100). -/
def execLockTimeout (n : Nat) (s : State) : Host.Outcome State Fault Refusal :=
  if n < 112 ∧ !s.laneLocked n ∧ s.laneSt n ≠ LN_OFF ∧ !s.on (LANE_STAT_TIMEOUT n) then
    .next ((s.wr (LANE_STAT_TIMEOUT n) 1).raise 0x044 n)
  else .next s

/-- ERR_INTERVAL_END: an interval of lane n in LOCKED ends; `errs` symbol errors fell between frames (R109). -/
def execErrIntervalEnd (n errs : Nat) (s : State) : Host.Outcome State Fault Refusal :=
  if n < 112 ∧ s.laneLocked n then
    let r := s.laneRx n
    let s := (s.cnt (LANE_SYM_ERR n) errs).setLaneRx n { r with errs := 0 }
    if r.errs + errs ≥ s.rd (LANE_CFG_ERR_LIMIT n) then .next ((s.putBitAt (A_LANE_DEGR 0) n true).raise 0x043 n)
    else .next s
  else .next s

/-- ELASTIC_SLIP: the elastic buffer of lane n deletes or repeats one idle ordered set (R102, R108). -/
def execElasticSlip (n : Nat) (s : State) : Host.Outcome State Fault Refusal :=
  if n < 112 ∧ !isEth n ∧ s.laneLocked n then .next (s.inc (LANE_SLIP_CNT n)) else .next s

/-- A write of LANE_EYE_CTRL[n]; START begins a scan, sets ABORT at once, or is refused (R112, R113). -/
def State.writeEye (s : State) (p : Port) (n v : Nat) : State :=
  let s := ((s.wr (LANE_EYE_CTRL_H_OFF n) v).wr (LANE_EYE_CTRL_V_OFF n) (v / 256)).wr (LANE_EYE_CTRL_DWELL n) (v / 65536)
  if !bitOf v 31 then s
  else if s.rd (LANE_CFG_MODE n) = 0 ∨ s.on (LANE_EYE_STAT_BUSY n) then s.range p (A_LANE_EYE_CTRL n)
  else if !s.laneLocked n then s.wr (LANE_EYE_STAT_ABORT n) 1
  else
    ((s.wr (LANE_EYE_STAT_DONE n) 0).wr (LANE_EYE_STAT_ABORT n) 0).wr (LANE_EYE_STAT_BUSY n) 1 |>.wr (LANE_EYE_ERR n) 0

/-- EYE_SCAN_START: the write `v` of LANE_EYE_CTRL[n]. -/
def execEyeScanStart (p : Port) (n : Nat) (v : Word) (s : State) : Host.Outcome State Fault Refusal :=
  if n < 112 then .next (s.writeEye p n v.toNat) else .next s

/-- EYE_SCAN_DONE: the scan of lane n has compared its bits, with `errs` mismatches (R112). -/
def execEyeScanDone (n errs : Nat) (s : State) : Host.Outcome State Fault Refusal :=
  if n < 112 ∧ s.on (LANE_EYE_STAT_BUSY n) then
    .next (((s.wr (LANE_EYE_STAT_BUSY n) 0).wr (LANE_EYE_STAT_DONE n) 1).wr (LANE_EYE_ERR n) (min errs 0xFFFFFFFF))
  else .next s

end Sys2Proof.Machine
end

