-- ==== Sys2Proof/Machine/Params.lean ====
section
/-! DEFINITION. The cell parameter set and the Skerry part: ranges, defaults, the register copies, applying and rejecting
(R75 to R81, R356, R396, R420, R669, R670). -/

namespace Sys2Proof.Machine
open Sys2Proof

/-- One check of a parameter set: the offset of its field, the field's value, whether it holds. -/
structure PCheck where
  off : Nat
  v : Nat
  ok : Bool
deriving DecidableEq, Repr

/-- A field within a range. -/
def inR (v lo hi : Nat) : Bool := decide (lo ≤ v ∧ v ≤ hi)

/-- The checks of R669 and R670 in the order of their offsets; `vfs` is full scale in volts. -/
def paramChecks (p : List Byte) (vfs : Nat) : List PCheck :=
  let c := fun (off v lo hi : Nat) => PCheck.mk off v (inR v lo hi)
  let upd := b8 p 31
  let pair := fun (i : Nat) => bitOf upd i == bitOf upd (i + 1)
  let trig := bitOf (b8 p 50) 4 || bitOf (b8 p 51) 4
  let vStart := b16 p 0
  [c 0 vStart 20 400, c 2 (b16 p 2) 10 (vStart - 10), c 4 (b8 p 4) 1 16, c 5 (b8 p 5) 50 200,
   c 12 (b16 p 12) (b16 p 2 + 5) 1000, c 14 (b16 p 14) 10 3600, c 16 (b8 p 16) 40 125, c 17 (b8 p 17) 0 0,
   c 18 (b16 p 18) 8 4095, c 20 (b16 p 20) 0 4095, c 22 (b16 p 22) 0 16383]
  ++ (List.range 6).map (fun j => c (24 + j) (b8 p (24 + j)) 1 255)
  ++ [PCheck.mk 31 upd (decide (upd < 32) && pair 0 && pair 2),
   c 32 (b16 p 32) 1 4095, c 34 (b32 p 34) 25 1048575, c 38 (b32 p 38) 0 (2 * b32 p 34 - 1), c 42 (b16 p 42) 100 vfs,
   c 44 (b32 p 44) 100 1000000, c 48 (b8 p 48) 0 3, c 49 (b8 p 49) 0 0, c 50 (b8 p 50) 0 31,
   PCheck.mk 51 (b8 p 51) (decide (b8 p 51 < 32) && !bitOf (b8 p 51) 3),
   if trig then c 52 (b8 p 52) 3 255 else c 52 (b8 p 52) 0 0,
   c 53 (b8 p 53) 0 0, c 54 (b32 p 54) 0 16777215,
   PCheck.mk 60 (b16 p 60) (decide (b16 p 60 = 0) || bitOf (b8 p 50) 0),
   c 62 (b8 p 62) 0 1, c 63 (b8 p 63) 0 0]
  ++ (List.range 92).map (fun j => c (148 + j) (b8 p (148 + j)) 0 0)

/-- The first failing check. -/
def paramBad (p : List Byte) (vfs : Nat) : Option PCheck := (paramChecks p vfs).find? (fun x => !x.ok)

/-! ### The part in a Skerry -/

/-- PARAM of the applied part; empty without one. -/
def Skerry.param (k : Skerry) : List Byte := (k.fr.part.drop 12).take 240

/-- The words of every register copy of a parameter-set field (R668), for a parameter set. -/
def paramWords (p : List Byte) : List (Fld × Nat) :=
  [(SK_PWR_THR_V_START, b16 p 0), (SK_PWR_THR_V_STOP, b16 p 2), (SK_PWR_FB_SS_MS, b8 p 4), (SK_PWR_FB_FB_FREQ, b8 p 5),
   (SK_PWR_TIMES_PARK_AFTER, b16 p 6), (SK_PWR_TIMES_DARK_HOLD, b16 p 8), (SK_PWR_DIS_DISCH_AFTER, b16 p 10),
   (SK_PWR_DIS_END_V_DIS_END, b16 p 12), (SK_PWR_DIS_DIS_TIMEOUT, b16 p 14), (SK_PWR_DIS_END_T_DIS_MAX, b8 p 16),
   (SK_GATE_TIME0_DEAD, b16 p 18), (SK_GATE_TIME0_MIN_PULSE, b16 p 20), (SK_GATE_TIME1_BLANK, b16 p 22),
   (SK_GATE_FILT_GS0, b8 p 24), (SK_GATE_FILT_GS1, b8 p 25), (SK_GATE_FILT_GS2, b8 p 26), (SK_GATE_FILT_GS3, b8 p 27),
   (SK_GATE_FILT2_OC, b8 p 28), (SK_GATE_FILT2_AUX, b8 p 29), (SK_GATE_REF_REF_LIM, b8 p 30),
   (SK_GATE_FILT2_UPD, b8 p 31 % 16), (SK_GATE_FILT2_FORCE_ALLOW, b8 p 31 / 16), (SK_GATE_TIME1_REF_MIN, b16 p 32),
   (SK_GATE_WPER, b32 p 34), (SK_GATE_WEAVE, b32 p 38), (SK_GATE_OV, b16 p 42), (SK_TIME_THRESH, b32 p 44),
   (SK_LINK_CFG_SWING, b8 p 48), (SK_CONV_CFG_MASK1, b8 p 50 % 16), (SK_CONV_CFG_MODE1, b8 p 50 / 16),
   (SK_CONV_CFG_MASK2, b8 p 51 % 8), (SK_CONV_CFG_MODE2, b8 p 51 / 16), (SK_CONV_CFG_DWELL, b8 p 52),
   (SK_CONV_MAINS_SW, b32 p 54), (SK_MON_CFG_MON_EN, b8 p 62), (SK_MON_STAT_ENABLED, b8 p 62),
   (SK_TOP_IMG_MINVER, b32 p 144)]

/-- The default parameter set (R669): the fields that are not 0. -/
def paramDefault (vfs : Nat) : List Byte :=
  [0, 60, 0, 40, 4, 100, 0, 50, 3, 232, 0, 0, 0, 50, 2, 88, 85, 0, 4, 226, 2, 113, 12, 53, 32, 32, 32, 32, 16, 255, 10, 0,
   2, 113, 0, 0, 2, 113, 0, 0, 0, 0] ++ beBytes 2 vfs ++ [0, 0, 3, 232, 2] ++ List.replicate 13 0 ++ [1] ++
  List.replicate 177 0

/-- The register copies take a parameter set's values; a changed WHALF begins with the next half (R396, R420, R668). -/
def Skerry.loadParams (k : Skerry) (p : List Byte) : Skerry :=
  let k := (paramWords p).foldl (fun k x => k.wr x.1 x.2) k
  let k := k.setGate { k.gate with whalf := b32 p 34, wpend := none }
  { k with conv := (k.conv.takeCfg 1 (k.convWant 1)).takeCfg 2 (k.convWant 2) }

/-- The cell is in block (R80): neither modulating nor in another state. -/
def Skerry.inBlock (k : Skerry) : Bool := k.applied = ST_BLOCK

/-- A part that Skerry `k` holds whole: the reason of its rejection (R78, R137, R676) with the PARAM offset, if any;
`id` is the ID that its blocks carried. -/
def Skerry.partFault (k : Skerry) (p : List Byte) (id : Nat) : Option (Nat × Nat) :=
  if crc32 (p.take 252) ≠ beNat ((p.drop 252).take 4) then some (1, 0xFF)
  else if b16 p 0 ≠ k.rd SK_TOP_CELL_G ∨ !k.on SK_TOP_CELL_VALID then some (2, 0xFF)
  else if b8 p 2 % 8 ≠ k.pow.ctype then some (3, 0xFF)
  else
    match paramBad ((p.drop 12).take 240) k.vfsV with
    | some c => some (4, c.off)
    | none => if b32 p 4 ≠ id then some (5, 0xFF) else none

/-- The four bytes of a word in the log, least significant first. -/
def leNums (v : Nat) : List Nat := [v % 256, v / 256 % 256, v / 65536 % 256, v / 16777216 % 256]

/-- A part is rejected: logged, no part, the defaults in force (R78, R356, R396, R668). -/
def Skerry.rejectPart (k : Skerry) (reason off id : Nat) : Skerry :=
  let k := k.log 0x0011 ([reason, off] ++ leNums id)
  let k := (k.setFr { k.fr with part := [], blocks := [] }).wr SK_TOP_STAT_PART 3
  k.loadParams (paramDefault k.vfsV)

/-- The bytes of a part that must be equal for it to be acknowledged without a change (R80). -/
def partSame (a b : List Byte) : Bool := decide (a.take 4 = b.take 4 ∧ (a.drop 12).take 240 = (b.drop 12).take 240)

/-- A sound part arrives: acknowledged, refused or applied (R80, R378). -/
def Skerry.takePart (k : Skerry) (p : List Byte) : Skerry :=
  let id := b32 p 4
  let k := k.setFr { k.fr with blocks := [] }
  if k.partOk ∧ partSame k.fr.part p then k.wr SK_TOP_PART_ID id
  else if !k.inBlock then (k.log 0x0012 (leNums id)).wr SK_TOP_STAT_PART (if k.fr.part.isEmpty then 0 else 2)
  else
    let k := ((k.setFr { k.fr with part := p }).wr SK_TOP_STAT_PART 2).wr SK_TOP_PART_ID id
    let k := k.loadParams ((p.drop 12).take 240)
    let k := k.log 0x0010 (leNums id)
    if bitOf (b8 p 2) 6 then
      (k.setGate { k.gate with mode := some 1 }).wr SK_GATE_STAT_MODE_PEND 1
    else k

/-- The part bytes that the blocks hold. -/
def partBytes (bs : List (Nat × List Byte)) : List Byte :=
  (List.range 6).flatMap (fun i => (tget (fun _ => []) bs i).take (if i = 5 then 16 else 48))

/-- A PART block arrives: index, ID and 48 bytes (R137). -/
def Skerry.partBlock (k : Skerry) (i id : Nat) (data : List Byte) : Skerry :=
  if i > 5 then k
  else
    let q := k.fr
    let held := if q.partId = id then q.blocks else []
    let bs := tset (fun _ => []) held i data
    let k := (k.setFr { q with partId := id, blocks := bs })
    let k := if k.partOk then k else k.wr SK_TOP_STAT_PART 1
    if (List.range 6).all (fun j => bs.any (fun b => decide (b.1 = j))) then
      let p := partBytes bs
      match k.partFault p id with
      | some (r, off) => k.rejectPart r off id
      | none => k.takePart p
    else k

end Sys2Proof.Machine
end

