-- ==== Sys2Proof/Machine/SkBus.lean ====
section
/-! DEFINITION. Reads and writes of a Skerry's address map by freight, its core pair and its monitor port (R11 to R19,
R136, R170, R346, R364, R397, R425, R508, R666 to R677). -/

namespace Sys2Proof.Machine
open Sys2Proof

/-- How an access ended: done, bus error, or refused by a lock or a level (R136). -/
inductive AccEnd where
  | done | bus | refused
deriving DecidableEq, Repr

/-! ### Access codes (R14) -/

/-- The word with every field of access `acc` replaced by its reset value, its other bits kept. -/
def fieldsReset (fs : List FieldDesc) (acc : Acc) (w : Word) : Word :=
  fs.foldl (fun w f => if f.acc = acc then bitsPut w f.lo f.w f.reset else w) w

/-- The word that a write of `v` leaves: RW fields take the written bits, WL fields too unless the block is locked, W1C
fields clear and W1S fields set on a 1; RO, RC and WO fields keep what they hold (R14, R16). -/
def accWrite (fs : List FieldDesc) (locked : Bool) (old v : Word) : Word :=
  fs.foldl (fun w f =>
    let x := bitsOf v f.lo f.w
    let o := bitsOf old f.lo f.w
    match f.acc with
    | .rw => bitsPut w f.lo f.w x
    | .wl => if locked then w else bitsPut w f.lo f.w x
    | .w1c => bitsPut w f.lo f.w (o &&& ((2 ^ f.w - 1) ^^^ x))
    | .w1s => bitsPut w f.lo f.w (o ||| x)
    | _ => w) old

/-! ### Latched time (R170, R673) -/

/-- The latch of a port; all zeros before its first read of NOW_FRAC. -/
def Clk.latchOf (c : Clk) (p : Port) : CtLatch := tget (fun _ => CtLatch.mk 0 0 0) c.latches p.master

def Clk.setLatch (c : Clk) (p : Port) (l : CtLatch) : Clk :=
  { c with latches := tset (fun _ => CtLatch.mk 0 0 0) c.latches p.master l }

/-- The word of NOW_FRAC: FRAC, PATH, STATE. -/
def CtLatch.frac (l : CtLatch) : Nat := ctFrac l.ct + 2 ^ 18 * l.path + 2 ^ 19 * l.st

/-- The latched word of NOW_NS, NOW_SEC_LO and NOW_SEC_HI, number 1, 2 and 3. -/
def CtLatch.word (l : CtLatch) (i : Nat) : Word :=
  BitVec.ofNat 32 (if i = 1 then ctNs l.ct else if i = 2 then ctSec l.ct else ctSec l.ct / 2 ^ 32)

/-! ### Reads -/

/-- The latch that a read of SK_TIME_NOW_FRAC takes. -/
def Skerry.latchNow (k : Skerry) : CtLatch := ⟨k.ct, k.rd SK_TIME_STAT_PATH, k.rd SK_TIME_STAT_STATE⟩

/-- What a register shows that time alone moves: refresh times, loss scores, edges due. -/
def Skerry.view (k : Skerry) : Skerry :=
  let k := k.refreshShow
  [0, 1].foldl (fun k p => if k.locked p then k.wr (SK_LINK_STAT_SCORE p) ((k.portRx p).at_ k.now) else k) k

/-- A read of the register at `a`: the word, and the Skerry with RC fields cleared and CT latched. -/
def Skerry.readReg (k : Skerry) (p : Port) (a : Nat) : Option Word × Skerry :=
  match findSk a with
  | none => (none, k)
  | some r =>
    if a = A_SK_TIME_NOW_FRAC then
      let l := k.latchNow
      (some (BitVec.ofNat 32 l.frac), { k with clk := k.clk.setLatch p l })
    else if a = A_SK_TIME_NOW_NS then (some ((k.clk.latchOf p).word 1), k)
    else if a = A_SK_TIME_NOW_SEC_LO then (some ((k.clk.latchOf p).word 2), k)
    else if a = A_SK_TIME_NOW_SEC_HI then (some ((k.clk.latchOf p).word 3), k)
    else
      let w := k.view.rdW a
      (some w, if r.fields.any (fun f => decide (f.acc = .rc)) then k.wrW a (fieldsReset r.fields .rc w) else k)

/-- An address of SRAM or of the retained log (R346). -/
def skMem (a : Nat) : Bool := decide (a < 0x80000 ∨ (0x10000000 ≤ a ∧ a < 0x10010000))

/-- The word that four bytes of memory hold. -/
def Skerry.memWord (k : Skerry) (a : Nat) : Word := BitVec.ofNat 32 (leNat (k.bytes a 4))

/-- A read of the aligned word at `a`; a misaligned or absent one is a bus error (R11, R346, R667). -/
def Skerry.readWord (k : Skerry) (p : Port) (a : Nat) : Option Word × Skerry :=
  if a % 4 ≠ 0 then (none, k)
  else if skMem a then (some (k.memWord a), k)
  else k.readReg p a

/-! ### Writes -/

/-- A write of SK_TIME_TRIG_CTRL[i]: CONT and DEST are stored, ARM and DISARM act (R198). -/
def Skerry.writeTrig (k : Skerry) (i v : Nat) : Skerry :=
  let k := (k.wr (SK_TIME_TRIG_CTRL_CONT i) (v / 4)).wr (SK_TIME_TRIG_CTRL_DEST i) (v / 16)
  let k := if bitOf v 1 then k.trigDisarm i else k
  if bitOf v 0 then k.trigArm i else k

/-- A write of SK_GATE_FORCE (R379 to R381). -/
def Skerry.writeForce (k : Skerry) (v : Nat) : AccEnd × Skerry :=
  if bitOf v 3 then
    let (ok, k) := k.force v
    (if ok then .done else .refused, k)
  else (.done, (k.release).wr SK_GATE_FORCE_STATE v)

/-- A write of SK_PWR_CTRL; `tag` is the freight tag of the access, for PARK (R358, R360). -/
def Skerry.writePwr (k : Skerry) (tag v : Nat) : Skerry :=
  let k := if bitOf v 0 then k.park tag else k
  if bitOf v 1 then k.disStop else k

/-- A write of the register at `a`; `still` are the fault inputs asserted on this edge, `tag` the freight tag. -/
def Skerry.writeReg (k : Skerry) (a : Nat) (v : Word) (still : List Nat) (tag : Nat) : AccEnd × Skerry :=
  match findSk a with
  | none => (.bus, k)
  | some r =>
    let n := v.toNat
    if a = A_SK_GATE_CTRL then (.done, if bitOf n 0 then k.clearGate still else k)
    else if a = A_SK_GATE_FORCE then k.writeForce n
    else if a = A_SK_GATE_WPER then (.done, k.wperWrite n)
    else if a = A_SK_FLT_LATCH then (.done, k.fltClear n still)
    else if a = A_SK_CONV_TRIG then (.done, k.writeConvTrig n)
    else if a = A_SK_CONV_MAINS_SW then (.done, k.writeMainsSw n)
    else if a = A_SK_PWR_CTRL then (.done, k.writePwr tag n)
    else if a = A_SK_TIME_TRIG_CTRL 0 then (.done, k.writeTrig 0 n)
    else if a = A_SK_TIME_TRIG_CTRL 1 then (.done, k.writeTrig 1 n)
    else if 0x20008000 ≤ a ∧ a < 0x20009000 then (.bus, k)
    else (.done, k.wrW a (accWrite r.fields false (k.rdW a) v))

/-- A write of the aligned word at `a`; the retained log is written by the Skerry alone, so a write there is a bus error
(R346, R667, R675). -/
def Skerry.writeWord (k : Skerry) (a : Nat) (v : Word) (still : List Nat) (tag : Nat) : AccEnd × Skerry :=
  if a % 4 ≠ 0 then (.bus, k)
  else if a < 0x80000 then (.done, k.setBytes a (leBytes 4 v.toNat))
  else if skMem a then (.bus, k)
  else k.writeReg a v still tag

/-- Whether a word could be read at `a`, and whether it could be written. -/
def skReadable (a : Nat) : Bool := decide (a % 4 = 0) && (skMem a || (findSk a).isSome)
def skWritable (a : Nat) : Bool :=
  decide (a % 4 = 0) && (decide (a < 0x80000) || ((findSk a).isSome && !decide (0x20008000 ≤ a ∧ a < 0x20009000)))

/-- Read `n` words from `a` upwards; every address is one that `skReadable` allows. -/
def Skerry.readWords (k : Skerry) (p : Port) (a : Nat) : Nat → List Byte × Skerry
  | 0 => ([], k)
  | n + 1 =>
    let (w, k) := k.readWord p a
    let (bs, k) := k.readWords p (a + 4) n
    (leBytes 4 (w.getD 0).toNat ++ bs, k)

/-- Write words from `a` upwards, stopping at the first that does not end well. -/
def Skerry.writeWords (k : Skerry) (a : Nat) (still : List Nat) (tag : Nat) : List Word → AccEnd × Skerry
  | [] => (.done, k)
  | v :: t =>
    match k.writeWord a v still tag with
    | (.done, k) => k.writeWords (a + 4) still tag t
    | e => e

/-- The words that bytes spell, least significant byte first. -/
def wordsOf : List Byte → List Word
  | a :: b :: c :: d :: t => BitVec.ofNat 32 (leNat [a, b, c, d]) :: wordsOf t
  | _ => []

end Sys2Proof.Machine
end

