-- ==== Sys2Proof/Machine/BusView.lean ====
section
/-! DEFINITION. What a Balgal register shows: the stored word, or what the units' states give, and zeros for an index not in
use (R27, R164, R238, R308, R341, R424, R444, R507, R651, R656). -/

namespace Sys2Proof.Machine
open Sys2Proof

/-- The index of an array register at `a`, its index 0 standing at `base`. -/
def idx (a base stride : Nat) : Nat := (a - base) / stride

/-- A word with a field's bits replaced. -/
def withFld (w : Word) (f : Fld) (v : Nat) : Word := bitsPut w f.lo f.w v

/-- The present word clocks of the statistics window (R338). -/
def State.winNow (s : State) : Nat := min ((s.clk.count - s.sched.winFrom) / 64) 0xFFFFFFFF

/-- µs left on the reaction timer of record k (R491, R507). -/
def State.timerLeft (s : State) (k : Nat) : Nat :=
  let t := tget (fun _ => 0) s.flt.timer k
  if k < 2 ∧ s.recValid k ∧ t ≠ 0 then min ((t - s.clk.count) / 625) 0xFFFF else 0

/-- Cells of the berth maps whose last written status does not report PART applied, or that have written none; bypassed
cells are not counted (R82). -/
def State.partPend (s : State) : Nat :=
  (s.allCells.filter (fun g => !((s.crec g).got && decide ((s.crec g).part = 2)) && decide (s.recHealth g ≠ 2))).length

/-- Blocks TOP, CHART, LANE (b ≤ 3). -/
def State.viewA (s : State) (a : Nat) : Word :=
  let w := s.rdW a
  if a = A_TOP_STAT then
    let w := withFld w TOP_STAT_PHASE s.phase
    let w := withFld w TOP_STAT_FSTATE (s.rd FLT_STAT_STATE)
    let w := withFld w TOP_STAT_COMMITTING (b2n s.committing)
    withFld w TOP_STAT_SAFE_RUN (b2n (decide (s.rd SAFE_STAT_STATE = 1)))
  else if a = A_TOP_IRQ_SUM then BitVec.ofNat 32 s.irqSum
  else if a = A_CHART_PART_PEND then BitVec.ofNat 32 s.partPend
  else if 0x40021000 ≤ a ∧ a < 0x40030000 ∧ a % 0x100 = 8 then
    let n := idx a 0x40021000 0x100
    if s.laneLocked n ∧ n / 4 ≠ 26 then withFld w (LANE_STAT_SCORE n) ((tget (fun _ => LaneRx.zero) s.lanes.rx n).at_ s.clk.count) else w
  else w

/-- Blocks CW, TIME, REEF, RUN, LOOP. -/
def State.viewB (s : State) (p : Port) (a : Nat) : Word :=
  let w := s.rdW a
  let b := blkOf a
  if b = 4 then (if 0x40041000 ≤ a ∧ !s.cwUsed (idx a 0x40041000 0x100) then 0 else w)
  else if b = 6 then
    if a = A_TIME_STAT then withFld w TIME_STAT_STEP_OK (b2n s.stepOk)
    else if a = A_TIME_NOW_NS then (s.clk.latchOf p).word 1
    else if a = A_TIME_NOW_SEC_LO then (s.clk.latchOf p).word 2
    else if a = A_TIME_NOW_SEC_HI then (s.clk.latchOf p).word 3
    else if a = A_TIME_SLEW_LEFT ∧ s.clk.accepted then
      BitVec.ofNat 32 (unsigned 32 (satInt 32 (to16thNs (s.clk.reload s.rate).left)))
    else if a = A_TIME_SRC (idx a (A_TIME_SRC 0) 4) ∧ a < A_TIME_SRC 4 ∧ bitsOf w 0 8 = 0 then 0x0000F200
    else w
  else if b = 7 then
    if 0x40074000 ≤ a then
      let g := idx a 0x40074000 8
      if !s.isCell g then 0
      else if a % 8 = 4 then withFld w (REEF_REC1_VPRED g) (min (s.vpred g).toNat 0xFFFF)
      else w
    else if 0x40070100 ≤ a then
      let r := if a < 0x40070400 then idx a 0x40070100 0x40 else idx a 0x40070400 0x40
      if s.arms.contains r then w else 0
    else w
  else if b = 8 then
    if a = A_RUN_STAT ∧ s.committing ∧ (ctCycle s.ct + 1) % 256 = 0 then withFld w RUN_STAT_FULL_PEND 1 else w
  else if b = 9 then
    if a = A_LOOP_FLAG_SUM 0 ∨ a = A_LOOP_FLAG_SUM 1 then
      let k := idx a (A_LOOP_FLAG_SUM 0) 4
      BitVec.ofNat 32 ((List.range 32).foldl (fun m j =>
        if 32 * k + j < 48 ∧ s.on (LOOP_FLAGS_STICKY (32 * k + j)) then m + 2 ^ j else m) 0)
    else if 0x40090200 ≤ a ∧ a < 0x40090600 then (if s.slotUsed (a % 0x100 / 4) then w else 0)
    else if 0x40090600 ≤ a ∧ a < 0x40090900 then (if s.slotUsed (idx a 0x40090600 8) then w else 0)
    else if 0x40092000 ≤ a then (if s.slotUsed (a % 0x800 / 0x20) then w else 0)
    else w
  else w

/-- Blocks SCHED, SND, CONV, ACQ. -/
def State.viewC (s : State) (p : Port) (a : Nat) : Word :=
  let w := s.rdW a
  let b := blkOf a
  if b = 10 then
    if a = A_SCHED_ASK then grantNone
    else if a = A_SCHED_GOT then
      (match p with | .engine e => BitVec.ofNat 32 (tget (fun _ => 0) s.sched.got e) | _ => 0)
    else if 0x400A1000 ≤ a ∧ a < 0x400A2000 ∧ a % 16 = 12 then
      let t := idx a 0x400A1000 16
      let ready := s.taskState t = ST_READY ∨ s.taskState t = ST_HELD
      withFld w (SCHED_TASK_STAT_WAIT_NOW t)
        (if ready then min ((s.clk.count - tget (fun _ => 0) s.sched.readyAt t) / 64) 0xFFFF else 0)
    else if 0x400A2400 ≤ a ∧ a < 0x400A2800 then s.rdW (a - 0x400)
    else if a = A_SCHED_ST_WIN ∧ s.on SCHED_OBS_STATS then BitVec.ofNat 32 s.winNow
    else if 0x400A3100 ≤ a ∧ a < 0x400A3148 ∧ s.on SCHED_OBS_STATS then
      BitVec.ofNat 32 (min (s.busyNow (idx a 0x400A3100 4) / 64) 0xFFFFFFFF)
    else w
  else if b = 12 then
    if 0x400C1000 ≤ a then
      let n := idx a 0x400C1000 0x100
      if s.rd (CONV_CFG_MASK n) ≠ 0 then w
      else if 0x40 ≤ a % 0x100 ∧ a % 0x100 < 0x80 then 0x01000000
      else 0
    else w
  else if b = 13 then (if s.rd ACQ_REC_SIZE = 0 then 0 else w)
  else w

/-- Blocks MEM to PWR. -/
def State.viewD (s : State) (a : Nat) : Word :=
  let w := s.rdW a
  let b := blkOf a
  if b = 15 then
    if a = A_DMA_ACTIVE then
      BitVec.ofNat 32 ((List.range 32).foldl (fun m n => if s.dmaState n ≠ DM_IDLE then m + 2 ^ n else m) 0)
    else w
  else if b = 16 then
    if 0x40100020 ≤ a ∧ a < 0x40100080 ∧ a % 0x20 = 0x10 then BitVec.ofNat 32 (s.timerLeft (idx a 0x40100020 0x20)) else w
  else if b = 17 then (if a = A_RED_HEALTH_OWN then BitVec.ofNat 32 s.health else w)
  else if b = 21 then
    if a = A_HOST_HDB_SET then s.rdW A_HOST_HDB
    else if a = A_HOST_PDB_SET then s.rdW A_HOST_PDB
    else if a = A_HOST_QY_QDB_SET then s.rdW A_HOST_QDB
    else w
  else if b = 23 then (if a = A_PWR_STAT then withFld w PWR_STAT_ATTEMPT s.attempts else w)
  else w

/-- The word that a read by port p of the register at `a` returns; WO fields read 0 as nothing is ever stored in them. -/
def State.regView (s : State) (p : Port) (a : Nat) : Word :=
  let b := blkOf a
  if b < 4 then s.viewA a else if b < 10 then s.viewB p a else if b < 14 then s.viewC p a else s.viewD a

end Sys2Proof.Machine
end

