-- ==== Sys2Proof/Machine/SafeOps.lean ====
section
/-! DEFINITION. The Lighthouse island: its section, log, outputs, states and judgements (R532 to R562). -/

namespace Sys2Proof.Machine
open Sys2Proof

def State.setSafe (s : State) (q : Safe) : State := { s with safe := q }
def State.safeFn (s : State) (f : Nat) : SafeFn := tget (fun _ => SafeFn.zero) s.safe.fns f
def State.setFn (s : State) (f : Nat) (x : SafeFn) : State :=
  s.setSafe { s.safe with fns := tset (fun _ => SafeFn.zero) s.safe.fns f x }

/-! ### The SAFETY section in force (R555) -/

def ISL_INIT : Nat := 0
def ISL_RUN : Nat := 1
def ISL_STOPPING : Nat := 2
def ISL_STOPPED : Nat := 3
def ISL_FAULT : Nat := 4

def FN_RELEASED : Nat := 1
def FN_RAMP : Nat := 2
def FN_STO : Nat := 3

def State.island (s : State) : Nat := s.rd SAFE_STAT_STATE
/-- SCYC in 0.1 ms. -/
def State.scyc (s : State) : Nat := b8 s.safe.sec 0
def State.fnB (s : State) (f i : Nat) : Nat := b8 s.safe.sec (80 + 64 * f + i)
def State.fn32 (s : State) (f i : Nat) : Nat := b32 s.safe.sec (80 + 64 * f + i)
def State.fnType (s : State) (f : Nat) : Nat := s.fnB f 0
def State.fnMask (s : State) (f : Nat) : Nat := s.fnB f 6
def State.fns (s : State) : List Nat := (List.range 4).filter (fun f => decide (s.fnType f ≠ 0))
def State.fnState (s : State) (f : Nat) : Nat := s.rd (SAFE_FUNC_STATE f)
def State.kUsed (s : State) (k : Nat) : Bool := b8 s.safe.sec (336 + 4 * k) = 1
def State.sinUsed (s : State) (i : Nat) : Bool := b8 s.safe.sec (16 + 4 * i) = 1
def State.sinTp (s : State) (i : Nat) : Nat := b8 s.safe.sec (17 + 4 * i)
def State.sinHigh (s : State) (i : Nat) : Bool := bitOf (s.rd SAFE_IN_LEVEL) i

/-! ### The change log (R561) -/

/-- Append an entry to the change log. -/
def State.safeLog (s : State) (code : Nat) (refused : Bool) (digest : List Byte) (data : Nat) : State :=
  let seq := (s.rd SAFE_LOG_SEQ + 1) % 65536
  let c := ct96 s.safe.ct % 2 ^ 95 + (if s.safe.lost then 2 ^ 95 else 0)
  let body := leBytes 12 c ++ [BitVec.ofNat 8 code, BitVec.ofNat 8 (b2n refused)] ++ leBytes 2 seq
    ++ (digest ++ List.replicate 8 0).take 8 ++ leBytes 4 data
  let e := body ++ leBytes 4 (crc32 body)
  let s := (List.range 8).foldl (fun s w => s.wr (SAFE_LOG (seq % 256) w) (leNat ((e.drop (4 * w)).take 4))) s
  s.wr SAFE_LOG_SEQ seq

/-! ### Contactor outputs (R542 to R544) -/

/-- Set or clear bit k of a field. -/
def State.putBit (s : State) (f : Fld) (k : Nat) (v : Bool) : State :=
  let w := s.rd f
  s.wr f (if v then w ||| 2 ^ k else w &&& (2 ^ f.w - 1 - 2 ^ k))

/-- A function that names output k is in STO. -/
def State.kStopped (s : State) (k : Nat) : Bool := s.fns.any (fun f => bitOf (s.fnMask f) k && decide (s.fnState f = FN_STO))
/-- K_DELAY of a function that names output k is running. -/
def State.kDelayed (s : State) (k : Nat) : Bool := s.fns.any (fun f => bitOf (s.fnMask f) k && (s.safeFn f).kdel)

/-- Bring output k up to date (R542, R544). -/
def State.kOut (s : State) (k : Nat) : State :=
  let on := bitOf (s.rd SAFE_OUT_KOUT) k
  let req := bitOf (s.rd SAFE_CTRL_K_REQ) k
  let run := decide (s.island = ISL_RUN ∨ s.island = ISL_STOPPING)
  let want := s.safe.powered && s.kUsed k && req && run && !s.kStopped k
  let hold := on && req && decide (s.island ≠ ISL_FAULT) && s.safe.powered && s.kDelayed k
  if want ∧ !on then
    if bitOf (s.rd SAFE_OUT_KFB) k then s.putBit SAFE_OUT_KFLT k true
    else (s.putBit SAFE_OUT_KOUT k true).setSafe { s.safe with seen := s.safe.seen &&& (255 - 2 ^ k) }
  else if on ∧ !want ∧ !hold then s.putBit SAFE_OUT_KOUT k false
  else s

def State.kOuts (s : State) : State :=
  let s := (List.range 8).foldl (fun s k => s.kOut k) s
  s.fns.foldl (fun s f => s.wr (SAFE_FUNC_KFLT f) (b2n (decide (s.fnMask f &&& s.rd SAFE_OUT_KFLT ≠ 0)))) s

/-! ### The island's state (R545) -/

/-- The state that follows from the functions. -/
def State.islandNow (s : State) : Nat :=
  if s.island = ISL_FAULT then ISL_FAULT
  else if s.safe.sec.isEmpty then ISL_INIT
  else if s.safe.fw || s.safe.partner || s.fns.any (fun f => decide (s.fnState f = FN_STO)) then ISL_STOPPED
  else if s.fns.any (fun f => decide (s.fnState f = FN_RAMP)) then ISL_STOPPING
  else ISL_RUN

/-- The island takes a state: route source 0x60, safe-stop, STOP_EV, the record of an entry into STOPPED (R545, R562). -/
def State.islandTo (s : State) (st : Nat) : State :=
  let was := s.island
  if st = was then s
  else
    let s := s.wr SAFE_STAT_STATE st
    let s := if st = ISL_STOPPING ∨ st = ISL_STOPPED then s.wr SAFE_STAT_STOP_EV 1 else s
    let s := if st = ISL_STOPPED then
        ((s.inc SAFE_STO_CNT).wr SAFE_STO_NS (ctNs s.safe.ct)).wr SAFE_STO_SEC (ctSec s.safe.ct)
      else s
    let s := if was = ISL_RUN ∧ (st = ISL_STOPPING ∨ st = ISL_STOPPED) then s.raise 0x242 0 else s
    s.fireRoute 0x60

/-- Function f enters STO with a cause; K_DELAY starts (R543). -/
def State.enterSto (s : State) (f cause : Nat) : State :=
  let s := (s.wr (SAFE_FUNC_STATE f) FN_STO).wr (SAFE_FUNC_CAUSE f) cause
  s.setFn f { s.safeFn f with kdel := decide (b16 s.safe.sec 8 ≠ 0) }

/-- Every function as at acceptance: in STO with cause 0xC (R545). -/
def State.fnsAccepted (s : State) : State :=
  s.fns.foldl (fun s f => ((s.setFn f SafeFn.zero).wrW (A_SAFE_FUNC f) 0).enterSto f 0xC) s

/-- A SAFETY section is accepted at the end of BUILD: every function is in STO with cause 0xC (R545). This is no reset of the
island (R536): a section in force already keeps its discrepancies, and demands and input faults stand. -/
def State.fnsTaken (s : State) (sec : List Byte) : State :=
  if s.safe.sec = sec then
    s.fns.foldl (fun s f => if s.fnState f = FN_STO then s.wr (SAFE_FUNC_CAUSE f) 0xC else s.enterSto f 0xC) s
  else
    let s := (List.range 4).foldl (fun s f => s.wrW (A_SAFE_FUNC f) 0) s
    (s.setSafe { s.safe with sec := sec, fns := [] }).fnsAccepted

/-! ### Judgement (R539, R540, R546 to R549) -/

/-- An input of function f has an input fault. -/
def State.fnInFault (s : State) (f : Nat) : Bool :=
  let m := s.rd SAFE_IN_FLT_SIN
  bitOf m (s.fnB f 1) || (decide (s.fnB f 2 ≠ 0xFF) && bitOf m (s.fnB f 2))

/-- A filtered channel of function f is low. -/
def State.fnDemand (s : State) (f : Nat) : Bool :=
  !s.sinHigh (s.fnB f 1) || (decide (s.fnB f 2 ≠ 0xFF) && !s.sinHigh (s.fnB f 2))

/-- The discrepancy of function f, one cycle on (R540). -/
def State.fnDiscrepancy (s : State) (f : Nat) : State :=
  let x := s.safeFn f
  if s.fnB f 2 = 0xFF then s
  else
    let a := s.sinHigh (s.fnB f 1)
    let b := s.sinHigh (s.fnB f 2)
    let lim := 10 * b16 s.safe.sec (80 + 64 * f + 4)
    let t := if a ≠ b then x.discT + s.scyc else 0
    let d :=
      if x.disc = 0 then (if a ≠ b ∧ t > lim then 1 else 0)
      else if !a ∧ !b then 2
      else if a ∧ b then (if x.disc ≥ 2 then 0 else x.disc)
      else if x.disc = 2 ∨ x.disc = 3 then (if t > lim then 1 else 3)
      else 1
    (s.setFn f { x with disc := d, discT := t }).wr (SAFE_FUNC_DISC f) (b2n (decide (d ≠ 0)))

/-- The result behind a source is marked OVR (R547). -/
def State.sourceOvr (s : State) (code : Nat) : Bool :=
  if 0x2000 ≤ code ∧ code < 0x2400 then s.on (CONV_RES_OVR (code % 0x100 / 4) ((code - 0x2000) / 0x100) (code % 4))
  else if 0x3000 ≤ code ∧ code < 0x3060 ∧ code % 16 = 0 then
    let n := s.iSense ((code - 0x3000) / 16)
    s.on (CONV_RES_OVR n 3 (s.conv1 n).sel)
  else false

/-- Read the sources of function f for one cycle: an invalid one keeps its last value (R547). -/
def State.fnSources (s : State) (f : Nat) : State :=
  (List.range (s.fnB f 7)).foldl (fun s j =>
    let code := b16 s.safe.sec (80 + 64 * f + 8 + 2 * j)
    let (v, ok) := s.source code
    let x := s.safeFn f
    if ok || s.sourceOvr code then
      s.setFn f { x with vals := tset (fun _ => (0 : Int)) x.vals j (signed 32 v), ages := tset (fun _ => 0) x.ages j 0 }
    else s.setFn f { x with ages := tset (fun _ => 0) x.ages j (min 3 (tget (fun _ => 0) x.ages j + 1)) }) s

/-- m of function f: the largest |x| over its sources, and whether one is stale (R547). -/
def State.fnM (s : State) (f : Nat) : Int × Bool :=
  let x := s.safeFn f
  let js := List.range (s.fnB f 7)
  (js.foldl (fun m j => max m ((tget (fun _ => (0 : Int)) x.vals j).natAbs : Int)) 0, js.any (fun j => decide (tget (fun _ => 0) x.ages j > 2)))

/-- m exceeds the envelope E(t) (R548, R549). -/
def State.fnOutside (s : State) (f : Nat) (m : Int) : Bool :=
  let x := s.safeFn f
  let tol := signed 32 (s.fn32 f 32)
  let rate : Int := s.fn32 f 24
  if s.fnType f = 2 then
    let t : Int := ((x.t - s.fn32 f 28 : Nat) : Int)
    decide (m * 10000 > (x.x0 + tol) * 10000 - rate * t)
  else decide (m * rate > x.x0 * max 0 (rate - x.t) + tol * rate)

/-- The causes of STO that hold for function f in this cycle (R546 to R551). -/
def State.fnCauses (s : State) (f : Nat) : List Nat :=
  let st := s.fnState f
  let dem := s.fnDemand f
  let (m, stale) := s.fnM f
  let x := s.safeFn f
  let ramp := decide (st = FN_RAMP)
  (if dem ∧ s.fnType f = 1 then [0x1] else [])
  ++ (if ramp ∧ m ≤ signed 32 (s.fn32 f 36) then [0x2] else [])
  ++ (if ramp ∧ s.fnOutside f m then [0x3] else [])
  ++ (if ramp ∧ x.t ≥ s.fn32 f 20 then [0x4] else [])
  ++ (if ramp ∧ stale then [0x5] else [])
  ++ (if s.fnInFault f then [0x6] else [])
  ++ (if x.disc ≠ 0 then [0x7] else [])
  ++ (if s.fnMask f &&& s.rd SAFE_OUT_KFLT ≠ 0 then [0x8] else [])
  ++ (if s.safe.fw then [0x9] else [])
  ++ (if s.safe.partner then [0xA] else [])
  ++ (if s.safe.lost then [0xB] else [])

/-- Judge function f: the entry for the end of the cycle. Where several causes hold at once, which of them is recorded is
an open value. -/
def State.judgeFn (s : State) (f : Nat) (reset : Bool) : State :=
  let st := s.fnState f
  let cs := s.fnCauses f
  let dem := s.fnDemand f
  let s := (s.wr (SAFE_FUNC_DEMAND f) (b2n dem)).wr (SAFE_FUNC_INFLT f) (b2n (s.fnInFault f))
  let m := (s.fnM f).1
  let s := s.wr (SAFE_FUNC_MON f) (if s.fnType f = 1 then 0 else min 0xFFFF (m.toNat / 65536))
  let put := fun (s : State) (e : Nat × Nat × Nat × Int) => s.setSafe { s.safe with judged := s.safe.judged ++ [e] }
  match cs with
  | [] =>
    if dem ∧ st = FN_RELEASED then put s (f, FN_RAMP, 0, m)
    else if reset ∧ st = FN_STO ∧ !dem then put s (f, FN_RELEASED, 0, 0)
    else s
  | c :: t =>
    if st = FN_STO then s
    else if t.isEmpty then put s (f, FN_STO, c, 0)
    else let (v, s) := s.free 8; put s (f, FN_STO, cs.getD (v % cs.length) c, 0)

/-- Apply what the cycle before has judged (R546). -/
def State.applyJudged (s : State) : State :=
  let js := s.safe.judged
  let s := s.setSafe { s.safe with judged := [] }
  js.foldl (fun s e =>
    if e.2.1 = FN_STO then s.enterSto e.1 e.2.2.1
    else if e.2.1 = FN_RAMP then (s.wr (SAFE_FUNC_STATE e.1) FN_RAMP).setFn e.1 { s.safeFn e.1 with x0 := e.2.2.2, t := 0 }
    else s.wr (SAFE_FUNC_STATE e.1) FN_RELEASED) s

/-- Function states follow into the island's state, the outputs and the injector; `before` lists the functions that were
in STO (R542, R546). -/
def State.islandFollow (s : State) (before : List Nat) : State :=
  let fresh := s.fns.any (fun f => decide (s.fnState f = FN_STO) && !before.contains f)
  let s := (s.islandTo s.islandNow).kOuts
  if fresh then s.blockAll 3 else s

def State.inSto (s : State) : List Nat := s.fns.filter (fun f => decide (s.fnState f = FN_STO))

end Sys2Proof.Machine
end

