-- ==== Sys2Proof/Machine/SafeIsland.lean ====
section
/-! DEFINITION. The commands of the Lighthouse island: inputs, test pulses, the safety cycle, outputs, demands, reset,
supply (R535 to R553). -/

namespace Sys2Proof.Machine
open Sys2Proof

/-! ### Inputs (R537 to R541) -/

/-- The contactor of output k shows closed or open; an energised output that loses its closed feedback fails its check (R544). -/
def State.kFeedback (s : State) (k : Nat) (closed : Bool) : State :=
  let on := bitOf (s.rd SAFE_OUT_KOUT) k
  let s := s.putBit SAFE_OUT_KFB k closed
  if !(s.kUsed k) then s
  else if closed then s.setSafe { s.safe with seen := s.safe.seen ||| 2 ^ k }
  else if on ∧ bitOf s.safe.seen k then (s.putBit SAFE_OUT_KFLT k true).kOuts
  else s

/-- SAFE_INPUT_CHANGE: safe input `i` (16 + k for KFBk) changes its filtered level. KFBk is high while the mirror contact is
closed, that is while the contactor is open. -/
def execSafeInputChange (i : Nat) (high : Bool) (s : State) : Host.Outcome State Fault Refusal :=
  if !s.safe.powered then .next s
  else if i < 16 then .next ((s.putBit SAFE_IN_LEVEL i high).putBit SAFE_IN_RAW i high)
  else if i < 24 then .next (s.kFeedback (i - 16) (!high))
  else .next s

/-- The response of input i to a pulse of its output: two periods in a row decide (R539). -/
def State.pulseSeen (s : State) (i : Nat) (low : Bool) : State :=
  if !s.sinHigh i ∧ !low then s
  else
    let m := if low then 0 else tget (fun _ => 0) s.safe.miss i + 1
    let g := if low then tget (fun _ => 0) s.safe.good i + 1 else 0
    let s := s.setSafe { s.safe with miss := tset (fun _ => 0) s.safe.miss i (min m 2), good := tset (fun _ => 0) s.safe.good i (min g 2) }
    if m ≥ 2 then s.putBit SAFE_IN_FLT_SIN i true else if g ≥ 2 then s.putBit SAFE_IN_FLT_SIN i false else s

/-- TEST_PULSE: the pulse of test-pulse output `k` and its blanking window end. Bit i of `lows`: a sample of input i within
the window showed low; `high`: the output's read-back stayed high during the pulse (R538, R539). -/
def execTestPulse (k lows : Nat) (high : Bool) (s : State) : Host.Outcome State Fault Refusal :=
  if !s.safe.powered ∨ k ≥ 8 then .next s
  else
    let fed := (List.range 16).filter (fun i => s.sinUsed i && decide (s.sinTp i = k) && decide (i ≠ b8 s.safe.sec 6))
    let s := s.putBit SAFE_IN_FLT_TP k high
    let s := fed.foldl (fun s i => s.pulseSeen i (bitOf lows i)) s
    .next (if high then fed.foldl (fun s i => s.putBit SAFE_IN_FLT_SIN i true) s else s)

/-- VS_SAFE_LOSS: every used input takes an input fault (R541). -/
def execVsSafeLoss (s : State) : Host.Outcome State Fault Refusal :=
  if s.safe.powered then
    .next (((List.range 16).filter (fun i => s.sinUsed i)).foldl (fun s i =>
      (s.putBit SAFE_IN_FLT_SIN i true).setSafe { s.safe with good := tset (fun _ => 0) s.safe.good i 0 }) s)
  else .next s

/-! ### The safety cycle (R536, R545, R546) -/

/-- A reset of the cycle: KFLT bits whose feedback shows open clear, firmware and partner demands clear, unless a demand
came in the same cycle (R544, R553). -/
def State.takeReset (s : State) : State × Bool :=
  let s := s.setSafe { s.safe with reset := false }
  if s.safe.fwNew || s.safe.partnerNew then (s, false)
  else
    let s := s.wr SAFE_OUT_KFLT (s.rd SAFE_OUT_KFLT &&& s.rd SAFE_OUT_KFB)
    (s.setSafe { s.safe with fw := false, partner := false }, true)

/-- The judgement of a cycle. MAIN_LOST tells of losses since the last reset, so an accepted reset sets it anew (R536, R562). -/
def State.judgeCycle (s : State) : State :=
  let had := s.safe.reset
  let (s, reset) := if had then s.takeReset else (s, false)
  let s := s.fns.foldl (fun s f => (s.fnDiscrepancy f).fnSources f) s
  let s := s.fns.foldl (fun s f => s.judgeFn f reset) s
  let freed := s.safe.judged.any (fun e => decide (e.2.1 = FN_RELEASED))
  let s := if had ∧ !freed then s.wr SAFE_STAT_RESET_REF 1 else s
  let s := if had ∧ freed then s.wr SAFE_STAT_MAIN_LOST (b2n s.safe.lost) else s
  let s := s.setSafe { s.safe with fwNew := false, partnerNew := false }
  s.fns.foldl (fun s f => if s.fnState f = FN_RAMP then s.setFn f { s.safeFn f with t := (s.safeFn f).t + s.scyc } else s) s

/-- SAFETY_CYCLE: a safety cycle ends and the next begins: the states judged at its start are set, then inputs and
monitored values are judged. `stale` says that the latched values have not been refreshed for 2 safety cycles (R536). -/
def execSafetyCycle (stale : Bool) (s : State) : Host.Outcome State Fault Refusal :=
  if !s.safe.powered then .next s
  else
    let before := s.inSto
    let s := s.applyJudged.islandFollow before
    let lost := stale || !s.on LANE_REF_STAT_REF_OK || decide (s.phase = PH_RESET)
    let s := s.setSafe { s.safe with lost := lost, ct := if lost then s.safe.ct + s.scyc * 100000 * nsU else s.ct }
    let s := if lost then s.wr SAFE_STAT_MAIN_LOST 1 else s
    .next (if s.safe.sec.isEmpty then s else s.judgeCycle)

/-- ISLAND_FAULT: the island enters FAULT with a cause of ICAUSE, 1 to 4: every output is de-energised, every function is
in STO, the injector sends, island-fault is raised (R535). -/
def execIslandFault (cause : Nat) (s : State) : Host.Outcome State Fault Refusal :=
  if !s.safe.powered ∨ s.island = ISL_FAULT ∨ cause = 0 ∨ cause > 4 then .next s
  else
    let s := s.setSafe { s.safe with judged := [] }
    let s := s.fns.foldl (fun s f => (s.enterSto f 0xD).setFn f { s.safeFn f with kdel := false }) s
    let s := (s.wr SAFE_STAT_ICAUSE cause).islandTo ISL_FAULT
    let s := (s.wr SAFE_OUT_KOUT 0).safeLog 0x09 false [] cause
    .next ((s.blockAll 3).raise 0x243 0)

/-- K_DELAY_EXPIRY: K_DELAY after function `f` entered STO its outputs are de-energised (R543). -/
def execKDelayExpiry (f : Nat) (s : State) : Host.Outcome State Fault Refusal :=
  if f < 4 ∧ (s.safeFn f).kdel then .next (s.setFn f { s.safeFn f with kdel := false }).kOuts else .next s

/-- CONTACTOR_FEEDBACK_TIMEOUT: within FB_T the feedback of output `k` has not shown what its output commands: KFLT is
set, and its functions enter STO with cause 0x8 (R544). -/
def execContactorFeedbackTimeout (k : Nat) (s : State) : Host.Outcome State Fault Refusal :=
  if s.safe.powered ∧ k < 8 ∧ s.kUsed k ∧ bitOf (s.rd SAFE_OUT_KOUT) k ≠ bitOf (s.rd SAFE_OUT_KFB) k then
    .next (s.putBit SAFE_OUT_KFLT k true).kOuts
  else .next s

/-! ### Demands and requests (R550 to R553) -/

/-- A firmware demand. -/
def State.stopReq (s : State) : State :=
  if s.safe.powered ∧ !s.safe.sec.isEmpty then s.setSafe { s.safe with fw := true, fwNew := true } else s

/-- STOP_REQ (R550). -/
def execStopReq (s : State) : Host.Outcome State Fault Refusal := .next s.stopReq

/-- A write of K_REQ (R550). -/
def State.kReq (s : State) (v : Nat) : State :=
  let s := s.wr SAFE_CTRL_K_REQ v
  let s := s.wr SAFE_OUT_KOUT (s.rd SAFE_OUT_KOUT &&& v % 256)
  if s.safe.powered then s.kOuts else s

/-- K_REQ. -/
def execKReq (v : Nat) (s : State) : Host.Outcome State Fault Refusal := .next (s.kReq v)

/-- SAFE_RESET: a low pulse of `low` × 0.1 ms on RESET_IN ends. One shorter than 0.1 s is no reset; one longer than 2.0 s
is refused (R553). -/
def execSafeReset (low : Nat) (s : State) : Host.Outcome State Fault Refusal :=
  if !s.safe.powered ∨ low < 1000 then .next s
  else if low > 20000 ∨ s.safe.sec.isEmpty ∨ s.island = ISL_FAULT then .next (s.wr SAFE_STAT_RESET_REF 1)
  else .next (s.setSafe { s.safe with reset := true })

/-- PARTNER_BLOCK_ALL: a valid block-all with REASON 0x03 has arrived on the lane of causeway `c` (R551). -/
def execPartnerBlockAll (c : Nat) (s : State) : Host.Outcome State Fault Refusal :=
  if (s.isActive ∨ s.isStandby) ∧ s.inRun ∧ s.cwUsed c ∧ s.safe.powered ∧ !s.safe.sec.isEmpty then
    .next (s.setSafe { s.safe with partner := true, partnerNew := true })
  else .next s

/-! ### Supply and the island's reset (R535, R536, R560) -/

/-- The registers of the SAFE block that the island's reset sets back: all but SAFE_CTRL, the log, the digest, and
what the inputs show. -/
def State.islandClear (s : State) : State :=
  let s := s.wrW A_SAFE_OUT (s.rdW A_SAFE_OUT &&& 0xFF00#32)
  let s := [A_SAFE_IN_FLT, A_SAFE_STO_CNT, A_SAFE_STO_NS, A_SAFE_STO_SEC, A_SAFE_FUNC 0, A_SAFE_FUNC 1,
    A_SAFE_FUNC 2, A_SAFE_FUNC 3].foldl (fun s a => s.wrW a 0) s
  let keep := s.rdW A_SAFE_STAT &&& 0x58#32
  s.wrW A_SAFE_STAT keep

/-- The island's memory after its reset; the store stays. -/
def Safe.restart (q : Safe) (sec : List Byte) : Safe :=
  { Safe.zero with sec := sec, refused := q.refused, digest := q.digest, salt := q.salt, record := q.record, wrong := q.wrong,
                   ct := q.ct, level := q.level }

/-- VDD_SAFE_LOSS: the island stops and its outputs are de-energised; FAULT is left (R535). -/
def execVddSafeLoss (s : State) : Host.Outcome State Fault Refusal :=
  let s := s.islandClear
  let s := (s.wr SAFE_STAT_SESSION 0).wr SAFE_STAT_LOCKOUT 0
  .next (s.setSafe { s.safe.restart [] with powered := false, refused := [], wrong := 0 })

/-- VDD_SAFE_RISE: the island is reset and is in INIT until a SAFETY section is accepted (R536, R545). -/
def execVddSafeRise (s : State) : Host.Outcome State Fault Refusal :=
  if s.safe.powered then .next s
  else .next ((s.islandClear).setSafe { s.safe.restart [] with wrong := 0 })

end Sys2Proof.Machine
end

