-- ==== Sys2Proof/Machine/SafeSession.lean ====
section
/-! DEFINITION. Sessions of the Lighthouse island over the monitor, and the acceptance of a SAFETY section (R65, R557 to
R561). -/

namespace Sys2Proof.Machine
open Sys2Proof

/-- A line of the Balgal's monitor. -/
def State.say (s : State) (l : Line) : State := s.emit (.line .balgal l)
def State.sayOk (s : State) : State := s.say .ok
def State.sayErr (s : State) (c : Nat) : State := s.say (.err c none)

/-- A disabled monitor serves no command (R631), nor one whose chip is held in reset. -/
def State.monServes (s : State) : Bool := decide (s.pwr.held = 0) && s.on MON_STAT_ENABLED

/-- A line that arrives while a command is served is discarded: ERR 0x05 follows the final line, and MON_DISCARD counts its
characters, whose number the command does not carry (R621). -/
def State.monLate (s : State) : State :=
  let (n, s) := s.free 7
  { s with mon := { s.mon with late := true } }.cnt MON_DISCARD (n + 1)

/-- Serve a command line (R621, R631). -/
def State.monCmd (s : State) (f : State → State) : State :=
  if !s.monServes then s else if s.on MON_STAT_BUSY then s.monLate else f (s.inc MON_CMD_CNT)

/-- A command whose level is not open (R625). -/
def State.monDenied (s : State) : State := ((s.inc MON_DENY_CNT).raise 0x2C2 2).sayErr 2

/-- Run a command that needs a level. -/
def State.atLevel (s : State) (n : Nat) (f : State → State) : State :=
  s.monCmd (fun s => if s.rd MON_STAT_LEVEL ≥ n then f s else s.monDenied)

/-- The session closes. -/
def State.closeSession (s : State) : State :=
  if s.on SAFE_STAT_SESSION then
    let s := (s.wr SAFE_STAT_SESSION 0).safeLog 0x08 false [] 0
    if s.rd MON_STAT_LEVEL = 3 then s.wr MON_STAT_LEVEL s.safe.level else s
  else s

/-- The level falls to VIEW, which closes an open session (R625). -/
def State.toView (s : State) : State := (s.closeSession).wr MON_STAT_LEVEL 0

/-- 8 to 32 printable ASCII characters. -/
def codeOk (pw : List Byte) : Bool :=
  decide (8 ≤ pw.length) && decide (pw.length ≤ 32) && pw.all (fun b => decide (0x20 ≤ b.toNat) && decide (b.toNat < 0x7F))

/-- The password is right, or the island is factory-new (R558, R559). -/
def State.pwRight (s : State) (pw : List Byte) : Bool := s.safe.record.isEmpty || pbkdf2 pw s.safe.salt 4096 = s.safe.record

/-- SAFE_OPEN: three wrong passwords in a row lock sessions out (R559). -/
def execSafeOpen (pw : List Byte) (s : State) : Host.Outcome State Fault Refusal :=
  .next (s.monCmd (fun s =>
    if !s.safe.powered then s.sayErr 8
    else if s.on SAFE_STAT_LOCKOUT then s.sayErr 7
    else if s.pwRight pw then
      let s := s.setSafe { s.safe with wrong := 0, level := if s.rd MON_STAT_LEVEL = 3 then s.safe.level else s.rd MON_STAT_LEVEL }
      (((s.wr SAFE_STAT_SESSION 1).wr MON_STAT_LEVEL 3).safeLog 0x01 false [] 0).sayOk
    else
      let n := s.safe.wrong + 1
      let s := ((s.setSafe { s.safe with wrong := if n ≥ 3 then 0 else n }).inc MON_DENY_CNT).safeLog 0x02 true [] 0
      let s := if n ≥ 3 then (s.wr SAFE_STAT_LOCKOUT 1).safeLog 0x03 false [] 0 else s
      s.sayErr 4))

/-- A session operation of a code, permitted in some island states; a refused one is logged (R560). A session without a
password accepts only SET_PW (R559). -/
def State.sessionOp (s : State) (code : Nat) (states : List Nat) (ok : State → Bool) (f : State → State) : State :=
  s.atLevel 3 (fun s =>
    if !s.on SAFE_STAT_SESSION then s.monDenied
    else if states.contains s.island ∧ (code = 0x05 ∨ s.on SAFE_STAT_PW_SET) ∧ ok s then (f s).sayOk
    else (s.safeLog 0x0A true [] code).sayErr (if states.contains s.island then 4 else 8))

/-- SET_PW: a new salt, from the island's random generator, and a new record (R558, R560). -/
def execSetPw (pw : List Byte) (s : State) : Host.Outcome State Fault Refusal :=
  .next (s.sessionOp 0x05 [ISL_INIT, ISL_STOPPED] (fun _ => codeOk pw) (fun s =>
    let (a, s) := s.free 64
    let (b, s) := s.free 64
    let salt := beBytes 8 a ++ beBytes 8 b
    let s := s.setSafe { s.safe with salt := salt, record := pbkdf2 pw salt 4096 }
    (s.wr SAFE_STAT_PW_SET 1).safeLog 0x05 false [] 0))

/-- ACCEPT: the last SAFETY section refused becomes the accepted one (R560). -/
def execAccept (s : State) : Host.Outcome State Fault Refusal :=
  .next (s.sessionOp 0x04 [ISL_INIT, ISL_STOPPED] (fun s => !s.safe.refused.isEmpty) (fun s =>
    let d := sha256 s.safe.refused
    let s := s.setSafe { s.safe with digest := d }
    (s.wr SAFE_DIGEST (beNat (d.take 4))).safeLog 0x04 false d 0))

/-- ISLAND_RESET: the session operation RESET: FAULT is left, and the functions are as at acceptance (R560). -/
def execIslandReset (s : State) : Host.Outcome State Fault Refusal :=
  .next (s.sessionOp 0x06 [ISL_INIT, ISL_STOPPED, ISL_FAULT] (fun _ => true) (fun s =>
    let s := (s.islandClear).setSafe (s.safe.restart s.safe.sec)
    let s := s.fnsAccepted
    let s := (s.islandTo s.islandNow).kOuts
    s.safeLog 0x06 false [] 0))

/-- SAFE_READ: the island's state, ICAUSE, the causes of the functions, and the digest (R560). -/
def execSafeRead (s : State) : Host.Outcome State Fault Refusal :=
  .next (s.sessionOp 0x00 [ISL_INIT, ISL_RUN, ISL_STOPPING, ISL_STOPPED, ISL_FAULT] (fun _ => true) (fun s =>
    (s.say (.values ([s.island, s.rd SAFE_STAT_ICAUSE] ++ (List.range 4).map (fun f => s.rd (SAFE_FUNC_CAUSE f))))).say
      (.bytes 0 s.safe.digest)))

/-- SAFE_CLOSE: the session ends (R559). -/
def execSafeClose (s : State) : Host.Outcome State Fault Refusal :=
  .next (s.atLevel 3 (fun s => s.closeSession.sayOk))

/-- SESSION_TIMEOUT: 300 s without a command close the session (R559). -/
def execSessionTimeout (s : State) : Host.Outcome State Fault Refusal := .next s.closeSession

/-- SAFE_LOCKOUT_END: 600 s after three wrong passwords (R559). -/
def execSafeLockoutEnd (s : State) : Host.Outcome State Fault Refusal := .next (s.wr SAFE_STAT_LOCKOUT 0)

/-- The island takes a SAFETY section handed over at the end of BUILD: it accepts it when its digest is the stored one
(R65); true for accepted. -/
def State.safetyHandover (s : State) (sec : List Byte) : State × Bool :=
  let d := sha256 sec
  if s.safe.powered ∧ s.safe.digest = d then
    let s := s.setSafe { s.safe with judged := [], lost := false, ct := s.ct }
    let s := if s.island = ISL_FAULT then s.setSafe { s.safe with sec := sec } else s.fnsTaken sec
    let s := (s.islandTo s.islandNow).kOuts
    (s.wr SAFE_DIGEST (beNat (d.take 4)), true)
  else
    let s := s.setSafe { s.safe with refused := sec, ct := s.ct }
    (s.safeLog 0x07 true d 0, false)

end Sys2Proof.Machine
end

