-- ==== Sys2Proof/Machine/Prof.lean ====
section
/-! DEFINITION. The profile generator (R563 to R583). The commands SERVO_PERIOD_START, MOVE, SPEED, PROFILE_HALT,
PROF_LIMIT_WRITE, PROF_ANGLE and PROFILE_FRAME. -/

namespace Sys2Proof.Machine
open Sys2Proof

def PS_IDLE : Nat := 0
def PS_MOVE : Nat := 1
def PS_SPEED : Nat := 2
def PS_HALT : Nat := 3
def PS_STOP : Nat := 4

def State.profSec (s : State) : List Byte := s.sec T_PROF 0
/-- The generator runs in an active or standby Balgal whose chart holds a PROF section. -/
def State.profOn (s : State) : Bool := !s.profSec.isEmpty && (s.isActive || s.isStandby)
def State.profState (s : State) : Nat := s.rd PROF_STAT_STATE
def State.pMin (s : State) : Int := signed 32 (b32 s.profSec 32)
def State.pMax (s : State) : Int := signed 32 (b32 s.profSec 36)

/-! ### Limits (R570, R578) -/

/-- The working limits in force. -/
def State.profLims (s : State) : Lims := ⟨.ofQ16 s.prof.limJ, .ofQ16 s.prof.limA, .ofQ16 s.prof.limD⟩
/-- The limits of the stop profile. -/
def State.stopLims (s : State) : Lims :=
  let d := F64.ofQ16 (b32 s.profSec 24)
  ⟨.ofQ16 (b32 s.profSec 28), d, d⟩

/-! ### Publication (R564, R565) -/

/-- A value as Q16.16, rounded and saturated. -/
def toQ16 (x : F64) : Int := satInt 32 (x.toFix 16)

/-- Publish p, v and a. -/
def State.publish (s : State) (x : F64 × F64 × F64) : State :=
  let p := if s.prof.posMode then x.1 else reducePos x.1
  ((s.wrS PROF_POS (toQ16 p)).wrS PROF_SPD (toQ16 x.2.1)).wrS PROF_ACC (toQ16 x.2.2)

/-- Show phase and reversal of the plan at CT c. -/
def State.showPhase (s : State) (c : Nat) : State :=
  let g := s.prof.seg (ctSeconds ((c : Int) - s.prof.t0))
  let ph := match g with | some g => g.phase | none => 0
  let rv := match g with | some g => g.rev | none => false
  (s.wr PROF_STAT_PHASE ph).wr PROF_STAT_REVERSING (b2n rv)

/-- Show the end of the present plan. -/
def State.showEnd (s : State) : State :=
  let e := s.prof.t0 + (s.prof.tE.mul (F64.ofInt (secU : Nat))).floor.toNat
  (s.wr PROF_END_NS (ctNs e)).wr PROF_END_SEC (ctSec e)

/-! ### Planning from the present state (R566, R570 to R573) -/

/-- Take a plan at CT c. -/
def State.takePlan (s : State) (c : Nat) (x : PlanAt) : State := (s.setProf (s.prof.take c x)).showEnd

/-- Plan for the present state and target from CT c (R573). -/
def State.replan (s : State) (c : Nat) : State :=
  let (p, v, a) := s.prof.eval c
  let st := s.profState
  let l := s.profLims
  if st = PS_MOVE then
    let p := if s.prof.posMode then p else reducePos p
    let (x, over_) := planMove l (.ofQ16 s.prof.limV) p v a (.ofQ16 s.prof.target)
    let out := x.leaves (.ofQ16 s.pMin) (.ofQ16 s.pMax)
    let s := (s.setProf { s.prof with posMode := true }).takePlan c x
    let s := if over_ then s.wr PROF_STAT_OVERSHOOT 1 else s
    if over_ || out then s.raise 0x262 0 else s
  else if st = PS_SPEED then
    let m : Int := s.prof.limV
    let t := clampI (-m) m s.prof.target
    (s.setProf { s.prof with posMode := false, target := t }).takePlan c (planSpeed l (planFrom p v a) (.ofQ16 t))
  else if st = PS_HALT then
    let x := planSpeed l (planFrom p v a) .zero
    let s' := s.takePlan c x
    if s.prof.posMode ∧ x.leaves (.ofQ16 s.pMin) (.ofQ16 s.pMax) then s'.raise 0x262 0 else s'
  else s

/-- A refused command (R568). -/
def State.profReject (s : State) (p : Port) : State := ((s.inc PROF_REJ_CNT).wr PROF_STAT_REJ_EV 1).range p A_PROF_CTRL

/-- The pending command takes effect or is refused (R566, R568, R573). -/
def State.takeCommand (s : State) (c : Nat) : State :=
  match s.prof.pend with
  | none => s
  | some (code, t) =>
    let s := (s.setProf { s.prof with pend := none }).wr PROF_STAT_CMD_PEND 0
    let t := signed 32 t
    if code = 0 ∨ code > 3 ∨ (code = 1 ∧ (t < s.pMin ∨ t > s.pMax)) ∨ (code = 2 ∧ t.natAbs > s.prof.limV)
        ∨ s.profState = PS_STOP ∨ !s.commitView then s.profReject .loader
    else
      let s := ((s.setProf { s.prof with target := t }).wr PROF_STAT_STATE code).wr PROF_STAT_AT_TARGET 0
      (s.replan c).inc PROF_REPLAN_CNT

/-- The working limits written since the last servo-period start come into force; a change replans (R566, R573). -/
def State.takeLimits (s : State) (c : Nat) : State :=
  let q := s.prof
  let n := { q with limV := s.rd PROF_V, limA := s.rd PROF_A, limD := s.rd PROF_D, limJ := s.rd PROF_J }
  if n = q then s
  else
    let s := s.setProf n
    let st := s.profState
    if st = PS_MOVE ∨ st = PS_SPEED ∨ st = PS_HALT then ((s.replan c).inc PROF_REPLAN_CNT).wr PROF_STAT_LIMIT_EV 1 else s

/-! ### STOP (R577 to R579) -/

/-- The states of the SS1-D functions. -/
def State.ss1d (s : State) : List Nat := (s.fns.filter (fun f => decide (s.fnType f = 2))).map s.fnState

/-- Enter or leave STOP. -/
def State.stopOrLeave (s : State) (c : Nat) : State :=
  let st := s.profState
  let stop := decide (s.island = ISL_STOPPING ∨ s.island = ISL_STOPPED) && s.ss1d.any (fun x => decide (x = FN_RAMP ∨ x = FN_STO))
  if st ≠ PS_STOP ∧ stop then
    let (p, v, a) := s.prof.eval c
    let s := ((s.setProf { s.prof with pend := none }).wr PROF_STAT_CMD_PEND 0).wr PROF_STAT_STATE PS_STOP
    s.takePlan c (planSpeed s.stopLims (planFrom p v a) .zero)
  else if st = PS_STOP ∧ s.ss1d.all (fun x => decide (x = FN_RELEASED)) then
    let p := (s.prof.eval c).1
    (s.setProf (s.prof.rest p)).wr PROF_STAT_STATE PS_IDLE
  else s

/-- A position move or a halt that has ended enters IDLE (R567, R571). -/
def State.endPlan (s : State) (c : Nat) : State :=
  if !s.prof.ended c then s
  else if s.profState = PS_MOVE then
    ((s.setProf (s.prof.rest (.ofQ16 s.prof.target))).wr PROF_STAT_STATE PS_IDLE).wr PROF_STAT_AT_TARGET 1
  else if s.profState = PS_HALT then (s.setProf (s.prof.rest s.prof.pE)).wr PROF_STAT_STATE PS_IDLE
  else s

/-- A write of PROF_CTRL.CMD: a pending command with the present PROF_TARGET (R566). -/
def State.profCommand (s : State) (code : Nat) : State :=
  if s.profSec.isEmpty then s
  else (s.setProf { s.prof with pend := some (code, s.rd PROF_TARGET) }).wr PROF_STAT_CMD_PEND 1

/-- MOVE. -/
def execMove (s : State) : Host.Outcome State Fault Refusal := .next (s.profCommand 1)
/-- SPEED. -/
def execSpeed (s : State) : Host.Outcome State Fault Refusal := .next (s.profCommand 2)
/-- PROFILE_HALT. -/
def execProfileHalt (s : State) : Host.Outcome State Fault Refusal := .next (s.profCommand 3)

/-- A write of a working limit: k = 0 PROF_V, 1 PROF_A, 2 PROF_D, 3 PROF_J (R573, R583). -/
def State.writeLimit (s : State) (p : Port) (k v : Nat) : State :=
  let f : Fld := if k = 0 then PROF_V else if k = 1 then PROF_A else if k = 2 then PROF_D else PROF_J
  if v = 0 ∨ v > b32 s.profSec (8 + 4 * k) then s.range p f.addr else s.wr f v

/-- PROF_LIMIT_WRITE. -/
def execProfLimitWrite (p : Port) (k : Nat) (v : Word) (s : State) : Host.Outcome State Fault Refusal :=
  if k < 4 then .next (s.writeLimit p k v.toNat) else .next s

/-- A write of PROF_ANGLE (R575). -/
def State.writeAngle (s : State) (p : Port) (v : Word) : State :=
  if s.committing then s.range p A_PROF_ANGLE else s.wrW A_PROF_ANGLE v

/-- PROF_ANGLE. -/
def execProfAngle (p : Port) (v : Word) (s : State) : Host.Outcome State Fault Refusal := .next (s.writeAngle p v)

/-! ### Stator angle (R574) -/

/-- Publish θ and ω at a control-period start at CT c. -/
def State.profAngles (s : State) (c : Nat) : State :=
  if !s.profOn then s
  else
    let v := (s.prof.eval c).2.1
    let fe := (v.mul (F64.ofInt (b8 s.profSec 2))).div (F64.ofQ16 (b32 s.profSec 4))
    let fe := if b8 s.profSec 3 = 0xFF then fe else fe.add (F64.ofQ16 (signed 32 s.prof.slip))
    let w := (fe.mul ((F64.ofInt 2).div (F64.ofInt 1000000))).toFix 32
    let th := s.rd PROF_ANGLE + unsigned 32 ((s.rd TIME_CP_CP_FERRIES : Int) * s.rdS PROF_OMEGA)
    let s := (s.wr PROF_ANGLE th).wrS PROF_OMEGA w
    s.setProf { s.prof with slip := if b8 s.profSec 3 = 0xFF then 0 else s.rd (LOOP_PARAM (b8 s.profSec 3)) }

/-- The generator at the end of BUILD (R574, R583). -/
def State.profBuild (s : State) : State :=
  if s.profSec.isEmpty then s
  else
    let l := fun (k : Nat) => b32 s.profSec (8 + 4 * k)
    let s := (((s.wr PROF_V (l 0)).wr PROF_A (l 1)).wr PROF_D (l 2)).wr PROF_J (l 3)
    (s.wr PROF_SERVO_FERRIES (b16 s.profSec 0)).setProf { Prof.zero with limV := l 0, limA := l 1, limD := l 2, limJ := l 3 }

/-! ### The profile frame (R576) -/

/-- The profile frame of this edge; without a pending command its target is that of the present one. -/
def State.profFrame (s : State) (c : Nat) : ProfFrame :=
  let (p, v, a) := s.prof.eval c
  { p := p.bits, v := v.bits, a := a.bits, theta := s.rd PROF_ANGLE, omega := s.rd PROF_OMEGA, state := s.profState,
    cmd := (s.prof.pend.map (·.1)).getD 0,
    target := match s.prof.pend with | some x => x.2 | none => unsigned 32 s.prof.target,
    lims := [s.prof.limV, s.prof.limA, s.prof.limD, s.prof.limJ] }

/-- A standby takes the generator state of a profile frame and plans on from it. -/
def State.takeProfFrame (s : State) (f : ProfFrame) : State :=
  let c := s.reef.start
  let lim := fun (k : Nat) => f.lims.getD k 0
  let p := F64.ofBits f.p
  let hold : PSeg := ⟨.zero, .ofInt 1, p, .ofBits f.v, .ofBits f.a, .zero, 0, false⟩
  let q : Prof := { s.prof with
    t0 := c, segs := [hold], tE := .zero, pE := p, vE := .ofBits f.v, target := signed 32 f.target,
    pend := if f.cmd = 0 then none else some (f.cmd, f.target), limV := lim 0, limA := lim 1, limD := lim 2, limJ := lim 3 }
  let s := ((s.setProf q).wr PROF_STAT_STATE f.state).wr PROF_STAT_CMD_PEND (b2n (decide (f.cmd ≠ 0)))
  let s := (((s.wr PROF_ANGLE f.theta).wr PROF_OMEGA f.omega).wr PROF_V (lim 0)).wr PROF_A (lim 1)
  let s := (s.wr PROF_D (lim 2)).wr PROF_J (lim 3)
  if f.state = PS_STOP then s.takePlan c (planSpeed s.stopLims (planFrom p (.ofBits f.v) (.ofBits f.a)) .zero)
  else if f.state = PS_IDLE then s.setProf (s.prof.rest p)
  else s.replan c

/-- SERVO_PERIOD_START: the first edge of a servo period (R563 to R567, R571, R577, R579), the profile frame of a redundant
active (R576), and route source 0x03. -/
def execServoPeriodStart (s : State) : Host.Outcome State Fault Refusal :=
  if !s.profOn ∨ !s.inRun then .next s
  else
    let c := s.reef.start
    let s := (s.endPlan c).stopOrLeave c
    let s := (s.takeLimits c).takeCommand c
    let s := (s.publish (s.prof.eval c)).showPhase c
    let s := if s.redundant ∧ s.isActive then s.emit (.profile (s.profFrame c)) else s
    .next (s.fireRoute 0x03)

end Sys2Proof.Machine
end

