-- ==== Sys2Proof/Machine/ChartBuild.lean ====
section
/-! DEFINITION. How BUILD and a hot load write the sections of a chart into the units (R60, R64, R72, R106, R201, R234, R299
to R302, R315, R317, R339, R422, R426, R505, R581, R599, R632). -/

namespace Sys2Proof.Machine
open Sys2Proof

/-- Fold an action over 0 to n − 1. -/
def upTo (n : Nat) (s : State) (f : State → Nat → State) : State := (List.range n).foldl f s

/-! ### Fixed sections -/

/-- ROLE: side, converter number and build (R47); the role itself shows at the end of BUILD. -/
def State.applyRole (s : State) (p : List Byte) : State :=
  ((s.wr TOP_STAT_SIDE (b8 p 1)).wr TOP_STAT_CONVERTER (b8 p 2)).wr TOP_STAT_REDUNDANT (b8 p 3)

/-- BERTH: the berth map, and the records of the cells with their starting mode (R52, R165, R203). -/
def State.applyBerth (s : State) (c : Nat) (p : List Byte) : State :=
  let s := upTo 16 s (fun s j =>
    s.wrW (A_CW_BERTH_MAP c j) (BitVec.ofNat 32 (leNat ((p.drop (4 + 4 * j)).take 4))))
  upTo (b8 p 1) s (fun s b =>
    let g := 64 * c + b
    let s := (s.wr (REEF_REC0_USED g) 1).wr (REEF_REC0_STATE g) ST_BLOCK
    s.setRec g { Rec.zero with weave := bitOf (b8 p (4 + b)) 6 })

/-- LANE (R106). -/
def State.applyLane (s : State) (p : List Byte) : State :=
  let s := (s.wr LANE_TIMING_LOCK_TIMEOUT (b16 p 0)).wr LANE_TIMING_ERR_INTERVAL (b8 p 2)
  upTo 112 s (fun s n =>
    let i := 16 + 8 * n
    let fl := b8 p (i + 1)
    let s := ((s.wr (LANE_CFG_MODE n) (b8 p i)).wr (LANE_CFG_TX_INV n) fl).wr (LANE_CFG_RX_INV n) (fl / 2)
    let s := (s.wr (LANE_CFG_LOSS_SCORE n) (fl / 16)).wr (LANE_CFG_ERR_LIMIT n) (b16 p (i + 6))
    ((s.wr (LANE_TXEQ_C_PRE n) (b8 p (i + 2))).wr (LANE_TXEQ_C_MAIN n) (b8 p (i + 3))).wr (LANE_TXEQ_C_POST n) (b8 p (i + 4)))

/-- TIME (R175, R201): with MAIN_EN 0 the Balgal runs on the fallback pair. -/
def State.applyTime (s : State) (p : List Byte) : State :=
  let s := ((s.wr TIME_THRESH_JUMP_NS (b32 p 0)).wr TIME_THRESH_SLEW_PPM (b8 p 4)).wr TIME_CP_CP_FERRIES (b8 p 5)
  let s := (s.wr TIME_CTRL_MAIN_EN (b8 p 6)).wr TIME_STAT_PATH (if b8 p 6 = 0 then 1 else s.rd TIME_STAT_PATH)
  upTo 4 s (fun s i => s.wr (TIME_SRC_CODE i) (b8 p (8 + i)))

/-- The acquisition part of ACQ: set-ups, streams and the mains windows (R413, R414, R422). -/
def State.applyConv (s : State) (p : List Byte) : State :=
  let m := b8 p 0
  let s := s.wr CONV_MAINS_STAT_STATE (if m = 1 then MW_NOMINAL else if m = 2 then MW_FIXED else MW_NONE)
  let s := (s.wr CONV_MAINS_SW (b32 p 4)).wr CONV_MAINS_T (if m = 1 then s.mainsNominal else 0)
  upTo 24 s (fun s n =>
    let i := 16 + 48 * n
    let cfg := b8 p (i + 1)
    let s := ((s.wr (CONV_CFG_MASK n) (b8 p i)).wr (CONV_CFG_GAIN n) cfg).wr (CONV_CFG_FILT n) (cfg / 4)
    let s := (s.wr (CONV_CFG_MODE n) (cfg / 16)).wr (CONV_CFG_DWELL n) (b8 p (i + 2))
    let s := (s.wr (CONV_STREAM_CTRL_EN n) (cfg / 32)).wr (CONV_STREAM_CTRL_KIND n) (cfg / 64)
    let s := (s.wr (CONV_STREAM_BASE_BASE n) (b32 p (i + 4) / 16)).wr (CONV_STREAM_SIZE n) (b16 p (i + 8))
    let s := upTo 4 s (fun s m => (s.wr (CONV_SCALE n m) (b32 p (i + 16 + 8 * m))).wr (CONV_OFFSET n m) (b32 p (i + 20 + 8 * m)))
    (s.setConv (s.conv.takeCfg n (s.convWant n))).convShow n)

/-- The recorder part of ACQ (R426). -/
def State.applyRec (s : State) (p : List Byte) : State :=
  let s := (s.wr ACQ_REC_BASE_BASE (b32 p 1168 / 65536)).wr ACQ_REC_SIZE (b32 p 1172 / 65536)
  let s := ((s.wr ACQ_REC_PRE (b32 p 1176)).wr ACQ_REC_POST (b32 p 1180)).wr ACQ_REC_CFG_CH (b8 p 1184)
  let md := b8 p 1187
  let s := (s.wr ACQ_REC_CFG_RATE (b8 p 1185)).wr ACQ_REC_CFG_SEGS (b8 p 1186)
  let s := ((s.wr ACQ_REC_CFG_AUTO md).wr ACQ_REC_CFG_REARM (md / 2)).wr ACQ_REC_CFG_OVERWRITE (md / 4)
  let s := s.wr ACQ_REC_AUTO (b16 p 1188)
  let s := upTo 16 s (fun s i => s.wr (ACQ_CHAN i) (b16 p (1200 + 2 * i)))
  upTo 8 s (fun s e =>
    let i := 1232 + 32 * e
    let c := b8 p (i + 1)
    let s := ((s.wr (ACQ_ENG_CFG_TYPE e) (b8 p i)).wr (ACQ_ENG_CFG_POL e) c).wr (ACQ_ENG_CFG_EITHER e) (c / 2)
    let s := ((s.wr (ACQ_ENG_CFG_RATE e) (c / 4)).wr (ACQ_ENG_CFG_CAPTURE e) (c / 16)).wr (ACQ_ENG_CFG_QUAL e) (b8 p (i + 2))
    let s := ((s.wr (ACQ_ENG_CFG_HOLD_MODE e) (b8 p (i + 3))).wr (ACQ_ENG_SRC_SOURCE e) (b16 p (i + 4))).wr (ACQ_ENG_SRC_N e) (b8 p (i + 6))
    let s := ((s.wr (ACQ_ENG_LEVEL e) (b32 p (i + 8))).wr (ACQ_ENG_AUX e) (b32 p (i + 12))).wr (ACQ_ENG_HOLD e) (b32 p (i + 16))
    s.wr (ACQ_ENG_SRC_MASK e) (b8 p (i + 20)))

/-- FAULT (R505): classes, latch flags and IRQ bits of the sources. -/
def State.applyFault (s : State) (p : List Byte) : State :=
  let s := (s.wr FLT_TIMING_REACT_C (b16 p 0)).wr FLT_TIMING_REACT_U (b16 p 2)
  let s := (s.wr FLT_QUIET_QUIET_MS (b16 p 4)).wr FLT_QUIET_REC_MAX (b8 p 6)
  upTo 768 s (fun s id =>
    if isSource id then
      let e := b8 p (16 + id)
      let s := (s.wr (FLT_CLASS_CLASS id) e).wr (FLT_CLASS_LATCH id) (e / 4)
      s.wrW (A_FLT_BLK_MASK (id / 32)) (bitsPut (s.rdW (A_FLT_BLK_MASK (id / 32))) (id % 32) 1 (e / 8))
    else s)

/-! ### Images (R315, R317) -/

/-- First address of the local memory of Sound engine e (R311). -/
def localBase (e : Nat) : Nat := 0x50000000 + 0x40000 * e

/-- Address of LOAD_BASE of an image. -/
def imageBase (e : Nat) (p : List Byte) : Nat := (if e < 16 then localBase e else 0) + b32 p 8

/-- Bytes from a to a + n − 1 read 0, and their words are clean. -/
def State.zeroRange (s : State) (a n : Nat) : State :=
  let s := { s with mem := s.mem.filter (fun c => !(decide (a ≤ c.1) && decide (c.1 < a + n))) }
  s.setMst { s.mst with poison := s.mst.poison.filter (fun w => !(decide (a ≤ 8 * w) && decide (8 * w + 8 ≤ a + n))),
                        wb := s.mst.wb.filter (fun x => !(decide (128 * x < a + n) && decide (a < 128 * x + 128))) }

/-- IMAGE: the code and data of engine e are copied, the bytes after them cleared, and the engine holds at ENTRY. -/
def State.applyImage (s : State) (e : Nat) (p : List Byte) : State :=
  let a := imageBase e p
  let len := b32 p 12
  let s := (s.zeroRange a (len + b32 p 16)).setBytes a ((p.drop 32).take len)
  (s.wr (SND_ENTRY e) (b32 p 4)).wr (SND_PC e) (b32 p 4)

/-- At the end of BUILD: engines with START 1 run, those with an image are halted, the others have none (R46, R317). -/
def State.startEngines (s : State) : State :=
  upTo 18 s (fun s e =>
    let p := s.sec T_IMAGE e
    s.wr (SND_STAT_STATE e) (if p.isEmpty then EN_NO_IMAGE else if bitOf (b8 p 1) 0 then EN_RUNNING else EN_HALTED))

/-! ### TASK (R318, R339) -/

def State.applyTask (s : State) (p : List Byte) : State :=
  let s := (s.wr SCHED_AGE_CEIL (b8 p 0)).wr SCHED_AGE_AGE_STEP (b16 p 2)
  let s := ((s.wr SCHED_OBS_MODE (b8 p 4)).wr SCHED_TRACE_SIZE (b16 p 6)).wr SCHED_TRACE_BASE_BASE (b32 p 8 / 16)
  let s := upTo 64 s (fun s k =>
    let i := 4160 + 4 * k
    ((s.wr (SCHED_ROUTE_SOURCE k) (b8 p i)).wr (SCHED_ROUTE_TASK k) (b8 p (i + 1))).wr (SCHED_ROUTE_FLAG k) (b8 p (i + 2)))
  upTo 256 s (fun s t =>
    let i := 64 + 16 * t
    let c := b8 p i
    let s := ((s.wr (SCHED_TASK_CFG_ENABLE t) c).wr (SCHED_TASK_CFG_ALL t) (c / 2)).wr (SCHED_TASK_CFG_LEVEL t) (b8 p (i + 1))
    let s := (s.wr (SCHED_TASK_CFG_FLOW t) (b8 p (i + 2))).wr (SCHED_TASK_CFG_RUN_LIMIT t) (b16 p (i + 12))
    let s := (s.wr (SCHED_TASK_AFF_AFFINITY t) (b32 p (i + 4))).wr (SCHED_TASK_AFF_ARG t) (b16 p (i + 14))
    (s.wr (SCHED_TASK_WAIT t) (b32 p (i + 8))).judgeTask t)

/-! ### Hot sections: at BUILD and on the apply edge (R72, R237, R299 to R301, R582, R601) -/

/-- REEF: the policy words; D is clamped to a new REG_DMAX (R237, R238). -/
def State.applyReef (s : State) (a : Nat) (p : List Byte) : State :=
  let s := upTo 12 s (fun s j => s.wrW (A_REEF_POL a j) (BitVec.ofNat 32 (b32 p (4 * j))))
  let d := s.rdS (REEF_REG_D a)
  let m : Int := (b8 p 24 : Nat)
  if d > m then s.wrS (REEF_REG_D a) m else if d < -m then s.wrS (REEF_REG_D a) (-m) else s

/-- LOOP: wiring, sinks and the words of both banks (R301, R302, R308). -/
def State.applyLoop (s : State) (p : List Byte) : State :=
  let s := ((s.wr LOOP_EVT_EN (b8 p 0)).wr LOOP_EVT_TASK (b8 p 1)).wr LOOP_EVT_FLAG (b8 p 2)
  let s := upTo 32 s (fun s t => s.wr (LOOP_SINK t) (b16 p (3088 + 2 * t)))
  upTo 48 s (fun s n =>
    let i := 16 + 64 * n
    let s := s.wr (LOOP_CFG n) (leNat ((p.drop i).take 4))
    let s := (s.wrW (A_LOOP_IN0 n) (BitVec.ofNat 32 (b16 p (i + 4) + 65536 * b16 p (i + 6))))
    let s := s.wrW (A_LOOP_IN1 n) (BitVec.ofNat 32 (b16 p (i + 8) + 65536 * b16 p (i + 10)))
    upTo 8 s (fun s k =>
      let w := b32 p (i + 16 + 4 * k)
      (s.wr (LOOP_COEF 0 n k) w).wr (LOOP_COEF 1 n k) w))

/-- A slot whose type, format, flags, signs and inputs are the same in two LOOP payloads (R300). -/
def slotSame (old new : List Byte) (n : Nat) : Bool :=
  decide ((old.drop (16 + 64 * n)).take 16 = (new.drop (16 + 64 * n)).take 16)

/-- The slots after a hot load of LOOP: unchanged ones are clamped as at a swap, the others start as at the end of BUILD; a
pending swap is cancelled and bank 0 is in use (R299, R300). `old` and `kp` are the payload and the words P0 before. -/
def State.loopHot (s : State) (old : List Byte) (kp : List Int) : State :=
  let s := if s.on LOOP_STAT_SWAP_PEND then (s.wr LOOP_STAT_SWAP_PEND 0).wr LOOP_STAT_SWAP_LOST 1 else s
  let s := s.wr LOOP_STAT_BANK 0
  upTo 48 s (fun s n =>
    if slotSame old s.loopSec n then s.swapSlot (kp.getD n 0) 0 n
    else
      let s := s.setLoop { s.loop with integ := tset (fun _ => (0 : Int)) s.loop.integ n 0,
                                       hist := tset (fun _ => []) s.loop.hist n [],
                                       start := s.loop.start.erase n }
      ((s.wr (LOOP_OUT n) 0).wrW (A_LOOP_FLAGS n) 0).slotRestart 0 n)

/-- The working limits take new ceilings where they exceed them, and that change replans (R573, R582). -/
def State.profHot (s : State) : State :=
  let cap := fun (s : State) (f : Fld) (k : Nat) => s.wr f (min (s.rd f) (b32 s.profSec (8 + 4 * k)))
  let s := cap (cap (cap (cap s PROF_V 0) PROF_A 1) PROF_D 2) PROF_J 3
  s.wr PROF_SERVO_FERRIES (b16 s.profSec 0)

/-- Bytes of a NET payload. -/
def netEntry (p : List Byte) (a n : Nat) : List Byte := (p.drop a).take n

/-- The NET entries that differ from `old` start afresh: ports in INITIALIZING, subscriptions stale with FALLBACK, rings at
index 0, publications with stNum 1 sent at the next ferry-cycle start (R596, R597, R601). -/
def State.netEntries (s : State) (old : List Byte) : State :=
  let new := s.sec T_NET 0
  let diff := fun (a n : Nat) => decide (netEntry old a n ≠ netEntry new a n)
  let s := upTo 4 s (fun s p =>
    if diff (16 + 32 * p) 32 then
      (s.setPtp p .zero).wr (NET_PTP_STAT_PSTATE p) (if s.ptpOn p then PTP_INIT else 0) |>.wr (NET_PTP_STAT_VALID p) 0
    else s)
  let s := upTo 8 s (fun s i =>
    if diff (144 + 64 * i) 64 then
      (s.setNet { s.net with sv := tset (fun _ => 0) s.net.sv i 0 }).wr (NET_SV_WIDX i) 0 |>.wr (NET_SV_STAT_STALE i) 1
    else s)
  let s := upTo 16 s (fun s i =>
    if diff (656 + 96 * i) 96 then (s.wr (NET_GSUB_VAL i) (b32 new (656 + 96 * i + 16))).wr (NET_GSUB_STAT_STALE i) 1 else s)
  upTo 4 s (fun s u =>
    if diff (2192 + 192 * u) 192 then
      (s.setNet { s.net with pubs := tset (fun _ => Pub.zero) s.net.pubs u .zero }).wr (NET_GPUB_ST u) 0
    else s)

/-- MON: the monitor leaves its defaults; disabled, it closes an open session (R624, R631, R632). -/
def State.applyMon (s : State) (p : List Byte) : State :=
  let s := if b8 p 0 = 0 then s.toView else s
  ((s.wr MON_STAT_ENABLED (b8 p 0)).wr MON_STAT_BAUD (b8 p 1)).wr MON_STAT_DEFAULTS 0

/-! ### BUILD applies every section -/

/-- One section of a chart in BUILD; WAVE, CELL, FRAME and SAFETY are read where they are used. -/
def State.applySec (s : State) (ty inst : Nat) (p : List Byte) : State :=
  if ty = T_ROLE then s.applyRole p
  else if ty = T_BERTH then s.applyBerth inst p
  else if ty = T_LANE then s.applyLane p
  else if ty = T_TIME then s.applyTime p
  else if ty = T_ACQ then (s.applyConv p).applyRec p
  else if ty = T_FAULT then s.applyFault p
  else if ty = T_IMAGE then s.applyImage inst p
  else if ty = T_TASK then s.applyTask p
  else if ty = T_REEF then s.applyReef inst p
  else if ty = T_LOOP then s.applyLoop p
  else if ty = T_NET then s.netEntries []
  else s

/-- Sections in ascending TYPE and INSTANCE: (key, payload), the key TYPE × 256 + INSTANCE. -/
abbrev Secs := List (Nat × List Byte)

/-- The chart store and the units take every section, in ascending TYPE and INSTANCE (R60, R69). -/
def State.applyAll (s : State) (secs : Secs) : State :=
  let s := { s with chart := { s.chart with secs := secs } }
  secs.foldl (fun s x => s.applySec (x.1 / 256) (x.1 % 256) x.2) s

/-- The LOCK bits of the blocks whose WL fields each section loads, and that of CHART (R64). -/
def lockOf (ty : Nat) : List Fld :=
  if ty = T_LANE then [LANE_CTRL_LOCK]
  else if ty = T_TIME then [TIME_CTRL_LOCK]
  else if ty = T_ACQ then [CONV_CTRL_LOCK, ACQ_REC_CTRL_LOCK]
  else if ty = T_FAULT then [FLT_CTRL_LOCK]
  else if ty = T_TASK then [SCHED_CTRL_LOCK]
  else if ty = T_LOOP then [LOOP_CTRL_LOCK]
  else []

def State.lockBlocks (s : State) (secs : Secs) : State :=
  let s := secs.foldl (fun s x => (lockOf (x.1 / 256)).foldl (fun s f => s.wr f 1) s) s
  s.wr CHART_CTRL_LOCK 1

end Sys2Proof.Machine
end

