-- ==== Sys2Proof/Machine/ChartCheckA.lean ====
section
/-! DEFINITION. The checks of the sections ROLE to TASK (R47 to R53, R106, R107, R201, R316, R340, R422, R423, R426, R427,
R505, R506, R670). Each answers the cause of its first failure: 0x0E for a zero outside a range, 0x0D for a level limit, 0x0F
otherwise. `t` is the machine with every section of the chart applied, which the cross-section rules read. -/

namespace Sys2Proof.Machine
open Sys2Proof

/-! ### Rules -/

/-- A rule that must hold. -/
def need (b : Bool) : Option Nat := if b then none else some 0x0F
/-- A field within a range; a zero outside it has its own cause. -/
def inRange (v lo hi : Nat) : Option Nat := if lo ≤ v ∧ v ≤ hi then none else if v = 0 then some 0x0E else some 0x0F
/-- A field that is not 0. -/
def notZero (v : Nat) : Option Nat := if v = 0 then some 0x0E else none
/-- The cause of the first rule that fails. -/
def firstBad (l : List (Option Nat)) : Option Nat := l.findSome? id
/-- The first failure over 0 to n − 1. -/
def eachBad (n : Nat) (f : Nat → Option Nat) : Option Nat := (List.range n).findSome? f
/-- Bytes a to a + n − 1 are 0x00. -/
def zeroBytes (p : List Byte) (a n : Nat) : Bool := ((p.drop a).take n).all (fun b => decide (b = 0))
def reserved (p : List Byte) (a n : Nat) : Option Nat := need (zeroBytes p a n)
/-- ASCII, padded with 0x00. -/
def asciiPadded (p : List Byte) (a n : Nat) : Bool :=
  let l := (p.drop a).take n
  l.all (fun b => decide (b.toNat < 128)) && (l.dropWhile (fun b => decide (b ≠ 0))).all (fun b => decide (b = 0))

/-! ### ROLE, FRAME, BERTH, CELL -/

def checkRole (p : List Byte) : Option Nat :=
  let role := b8 p 0
  firstBad [need (inR role 1 3), need (b8 p 1 ≤ 1), need (b8 p 2 ≤ 7), need (b8 p 3 ≤ 1), need (b8 p 4 ≤ 1), need (b8 p 5 ≤ 1),
    reserved p 6 10, need (b8 p 3 = 1 ∨ (role = 1 ∧ b8 p 1 = 0 ∧ b8 p 5 = 0)), need (role ≠ 3 ∨ b8 p 1 = 0)]

def State.checkFrame (t : State) (p : List Byte) : Option Nat :=
  let legs := b8 p 0
  let of_ := fun c => b8 p (4 + c)
  let ways := fun a => (List.range 96).filter (fun c => decide (of_ c = a))
  let level := fun (b : Bool) => if b then none else some 0x0D
  let sense := fun a => b8 p (106 + a)
  firstBad [inRange legs 1 3, reserved p 1 3,
    eachBad 6 (fun a => level (if a < 2 * legs then !(ways a).isEmpty else (ways a).isEmpty)),
    eachBad 6 (fun a => level (decide ((ways a).length ≤ 16) && decide (((ways a).map t.cwCount).foldl (· + ·) 0 ≤ 1024))),
    eachBad 96 (fun c => need (of_ c ≤ 5 ∨ of_ c = 0xFF)),
    eachBad 6 (fun a => need (b8 p (100 + a) ≤ 1)),
    eachBad 6 (fun a => need (if a < 2 * legs then sense a ≤ 23 else sense a = 0xFF)),
    need (t.redundant || (List.range 48).all (fun c => decide (of_ (48 + c) = 0xFF))),
    need (((List.range (2 * legs)).map sense).Nodup),
    eachBad (2 * legs) (fun a => need ((cfgInputs (b8 (t.sec T_ACQ 0) (16 + 48 * sense a))).length ≤ 1))]

def checkBerth (inst : Nat) (p : List Byte) : Option Nat :=
  let n := b8 p 1
  firstBad [need (b8 p 0 = inst), inRange n 1 64, reserved p 2 2,
    eachBad 64 (fun b =>
      let e := b8 p (4 + b)
      if b < n then need (inR (e % 8) 1 3 && !bitOf e 3 && !bitOf e 7 && !(bitOf e 6 && decide (e % 8 = 3))) else need (e = 0))]

/-- Full scale that the Balgal holds a parameter set to: the largest of R355. -/
def vfsMax : Nat := 6000

def checkCell (p : List Byte) : Option Nat :=
  match paramBad p vfsMax with
  | some c => if c.v = 0 then some 0x0E else some 0x0F
  | none => none

/-! ### LANE (R31, R32, R84, R85, R104, R106, R107) -/

/-- A lane that R31, R32 or R84 gives a use. -/
def State.laneNeeded (t : State) (arb : Bool) (n : Nat) : Bool :=
  if n < 96 then !arb && (if t.redundant ∨ n < 48 then t.cwUsed n else t.cwUsed (n - 48))
  else if n < 100 then t.redundant && !arb
  else if n < 102 then t.redundant
  else decide (n < 104) && arb

def State.checkLane (t : State) (arb : Bool) (p : List Byte) : Option Nat :=
  firstBad [inRange (b16 p 0) 1 65535, inRange (b8 p 2) 1 255, reserved p 3 13,
    eachBad 112 (fun n =>
      let i := 16 + 8 * n
      let m := b8 p i
      let fl := b8 p (i + 1)
      let pre := b8 p (i + 2)
      let main := b8 p (i + 3)
      let post := b8 p (i + 4)
      if m = 0 then firstBad [reserved p (i + 1) 7, need (!t.laneNeeded arb n)]
      else
        firstBad [need (m ≤ 1 ∨ (m ≤ 3 ∧ n / 4 = 26)), need (fl / 4 % 4 = 0), inRange (fl / 16) 1 15, need (pre ≤ 15),
          inRange main 1 63, need (post ≤ 31), need (pre + main + post ≤ 63 ∧ pre + post + 8 ≤ main), reserved p (i + 5) 1,
          inRange (b16 p (i + 6)) 1 65535,
          need (if n < 104 then t.laneNeeded arb n else n < 108 ∨ !arb)])]

/-! ### TIME (R201) -/

def State.checkTime (t : State) (arb : Bool) (p : List Byte) : Option Nat :=
  let n := b8 p 7
  let src := fun i => b8 p (8 + i)
  firstBad [inRange (b32 p 0) 100 1000000, inRange (b8 p 4) 1 20, inRange (b8 p 5) 5 50,
    need (b8 p 6 = 1 ∨ (b8 p 6 = 0 ∧ arb)), need (n ≤ 4),
    eachBad 4 (fun i =>
      let c := src i
      if i < n then
        firstBad [notZero c, need ((0x10 ≤ c ∧ c < 0x14) ∨ (0x20 ≤ c ∧ c < 0x24)),
          need (t.rd (LANE_CFG_MODE (if c < 0x20 then 104 + (c - 0x10) else 108 + (c - 0x20))) ≠ 0)]
      else need (c = 0)),
    need (((List.range (min n 4)).map src).Nodup), need (b8 p 12 ≤ 7), inRange (b8 p 13) (b8 p 12 + 1) 15, inRange (b8 p 14) 1 16,
    inRange (b8 p 15) 1 255, reserved p 16 16]

/-! ### ACQ (R422, R423, R426, R427) -/

def checkConvHead (p : List Byte) : Option Nat :=
  let m := b8 p 0
  firstBad [need (m ≤ 2),
    (if m = 1 then
      firstBad [need (b8 p 1 ≤ 23), need (b8 p 2 ≤ 3), inRange (b8 p 3) 45 66, need (bitOf (b8 p (16 + 48 * b8 p 1)) (b8 p 2))]
    else firstBad [need (b8 p 1 = 0xFF), need (b8 p 2 = 0), need (b8 p 3 = 0)]),
    (if m = 2 then inRange (b32 p 4) 25 16777215 else need (b32 p 4 = 0)), reserved p 8 8]

def checkConvEntry (p : List Byte) (n : Nat) : Option Nat :=
  let i := 16 + 48 * n
  let mask := b8 p i
  let cfg := b8 p (i + 1)
  if mask = 0 then reserved p i 48
  else
    firstBad [need (mask < 16), need (cfg / 4 % 4 ≤ 2), need (cfg / 64 ≤ 2),
      (if bitOf cfg 4 then inRange (b8 p (i + 2)) 3 255 else need (b8 p (i + 2) = 0)), reserved p (i + 3) 1,
      (if bitOf cfg 5 then
        firstBad [need (b32 p (i + 4) % 16 = 0), inRange (b16 p (i + 8)) 1 65535,
          need (b32 p (i + 4) + 16 * b16 p (i + 8) ≤ 0x04000000)]
      else firstBad [need (b32 p (i + 4) = 0), need (b16 p (i + 8) = 0)]),
      reserved p (i + 10) 6,
      eachBad 4 (fun m => if bitOf mask m then notZero (b32 p (i + 16 + 8 * m)) else need (b32 p (i + 16 + 8 * m) = 0))]

/-- The stream rings of an ACQ payload: start and length. -/
def convRings (p : List Byte) : List (Nat × Nat) :=
  (List.range 24).map (fun n => (b32 p (16 + 48 * n + 4), 16 * b16 p (16 + 48 * n + 8)))

/-- No two ranges of a list overlap. -/
def apart : List (Nat × Nat) → Bool
  | [] => true
  | r :: l => l.all (fun q => !overlaps r.1 r.2 q.1 q.2) && apart l

/-- The recorder set-up of an ACQ payload. -/
def secRec (p : List Byte) : RecCfg :=
  { base := b32 p 1168 / 65536, size := b32 p 1172 / 65536, pre := b32 p 1176, post := b32 p 1180, ch := b8 p 1184,
    rate := b8 p 1185, segs := b8 p 1186, chans := (List.range 16).map (fun i => b16 p (1200 + 2 * i)),
    engs := (List.range 8).map (fun e =>
      let i := 1232 + 32 * e
      let c := b8 p (i + 1)
      { type := b8 p i, pol := c % 2, either := c / 2 % 2, rate := c / 4 % 4, capture := c / 16 % 2, qual := b8 p (i + 2),
        holdMode := b8 p (i + 3), source := b16 p (i + 4), n := b8 p (i + 6), level := signed 32 (b32 p (i + 8)),
        aux := signed 32 (b32 p (i + 12)), hold := b32 p (i + 16), mask := b8 p (i + 20) }) }

/-- Byte ranges of one trigger engine's entry, and the zeros that its ranges exclude. -/
def checkEng (p : List Byte) (e : Nat) : Option Nat :=
  let i := 1232 + 32 * e
  let ty := b8 p i
  if ty = 0 then reserved p i 32
  else
    firstBad [need (b8 p (i + 1) < 32), if ty = 4 then notZero (b8 p (i + 6)) else none, reserved p (i + 7) 1,
      if b8 p (i + 3) ≠ 0 then notZero (b32 p (i + 16)) else none, reserved p (i + 21) 11]

def State.checkRec (t : State) (p : List Byte) : Option Nat :=
  if b32 p 1172 = 0 then reserved p 1168 320
  else
    firstBad [need (b32 p 1168 % 65536 = 0), need (b32 p 1172 % 65536 = 0), notZero (b8 p 1186), need (b8 p 1187 < 8),
      reserved p 1190 10, eachBad 8 (checkEng p), need ((secRec p).ok t.recEnv)]

def State.checkAcq (t : State) (p : List Byte) : Option Nat :=
  firstBad [checkConvHead p, eachBad 24 (checkConvEntry p), need (apart (convRings p)), t.checkRec p]

/-! ### FAULT (R487, R505, R506) -/

def checkFault (p : List Byte) : Option Nat :=
  firstBad [notZero (b16 p 2), reserved p 7 9,
    eachBad 768 (fun id =>
      let e := b8 p (16 + id)
      if isSource id then
        need (decide (e < 16) && decide (e % 4 ≠ 3) && (bitOf e 2 || decide (e % 4 = 0))
          && (!srcFixed.contains id || decide (e % 8 = defaultClass id)))
      else need (e = 0))]

/-! ### IMAGE (R315, R316) -/

def State.checkImage (t : State) (inst : Nat) (p : List Byte) : Option Nat :=
  let len := b32 p 12
  let base := b32 p 8
  let entry := b32 p 4
  let all := len + b32 p 16
  let sound := decide (inst < 16)
  let other := t.sec T_IMAGE (if inst = 16 then 17 else 16)
  firstBad [notZero len, need (p.length = 32 + len), need (len ≤ if sound then 262144 else 16777216), need (b8 p 0 = inst),
    need (b8 p 1 ≤ 1), reserved p 2 2, need (entry % (if sound then 16 else 4) = 0), need (base % 16 = 0),
    need (base ≤ entry ∧ entry < base + len), need (base + all ≤ if sound then 262144 else 0x04000000),
    need (sound || other.isEmpty || !overlaps base all (b32 other 8) (b32 other 12 + b32 other 16)), reserved p 20 12]

/-! ### TASK (R331, R339, R340) -/

/-- A route source of R331. -/
def isRoute (c : Nat) : Bool :=
  [0, 1, 2, 3, 0x30, 0x31, 0x38, 0x40, 0x48, 0x50, 0x51, 0x52, 0x53, 0x58, 0x59, 0x60].contains c || inR c 0x10 0x2F

/-- The section that owns a route source, where a chart may lack it. -/
def State.routeOwned (t : State) (c : Nat) : Bool :=
  if c = 3 then !(t.sec T_PROF 0).isEmpty
  else if 0x50 ≤ c ∧ c ≤ 0x52 then !(t.sec T_NET 0).isEmpty
  else true

def State.checkTask (t : State) (p : List Byte) : Option Nat :=
  let route := fun k => (p.drop (4160 + 4 * k)).take 3
  let used := (List.range 64).filter (fun k => decide (b8 p (4160 + 4 * k) ≠ 0))
  firstBad [need (b8 p 0 ≤ 7), reserved p 1 1, need (b8 p 4 ≤ 3), reserved p 5 1, need (b32 p 8 % 16 = 0),
    need (b32 p 8 < 0x04000000 ∧ b32 p 8 + 16 * b16 p 6 ≤ 0x04000000), reserved p 12 52,
    eachBad 256 (fun k =>
      let i := 64 + 16 * k
      let aff := b32 p (i + 4)
      firstBad [need (b8 p i ≤ 3), need (b8 p (i + 1) ≤ 7), need (b8 p (i + 2) ≤ 63 ∨ b8 p (i + 2) = 0xFF), reserved p (i + 3) 1,
        need (aff < 2 ^ 18), need (!bitOf (b8 p i) 0 ∨ aff ≠ 0),
        need ((List.range 18).all (fun e => !bitOf aff e || !(t.sec T_IMAGE e).isEmpty)), need (b16 p (i + 14) < 2 ^ 14)]),
    eachBad 64 (fun k =>
      let i := 4160 + 4 * k
      let c := b8 p i
      if c = 0 then reserved p i 4 else firstBad [need (isRoute c), need (b8 p (i + 2) ≤ 31), reserved p (i + 3) 1, need (t.routeOwned c)]),
    need ((used.map route).Nodup)]

end Sys2Proof.Machine
end

