-- ==== Sys2Proof/Machine/ChartCheckB.lean ====
section
/-! DEFINITION. The checks of the sections REEF to SAFETY (R235, R236, R275, R278, R296, R303, R555, R556, R580 to R582, R600,
R632). -/

namespace Sys2Proof.Machine
open Sys2Proof

/-! ### REEF (R234, R235) and WAVE (R236) -/

def State.checkReef (t : State) (a : Nat) (p : List Byte) : Option Nat :=
  let cells := t.armCells a
  let step := cells.filter (fun g => !t.cellWeave g)
  let setOf := fun g => t.berthEntry g / 16 % 4
  let usedSet := fun k => cells.any (fun g => decide (setOf g = k))
  let nMin := b16 p 26
  firstBad [need (b8 p 0 = a), need (b8 p 1 ≤ 3), inRange (b16 p 2) 1 65535, inRange (b16 p 4) 1 1000, need (b8 p 8 ≤ 16),
    need (b8 p 9 ≤ 16), inRange (b16 p 10) 25 1000, need (decide (-40 ≤ signed 8 (b8 p 14)) && decide (signed 8 (b8 p 14) ≤ 125)),
    inRange (b8 p 15) 1 32, inRange (b16 p 18) 1 65535, inRange (b16 p 20) 1 65535, inRange (b8 p 22) 1 25, need (b8 p 23 ≤ 19),
    inRange (b8 p 24) 1 16, inRange nMin 1 1024, inRange (b16 p 28) 1 nMin, inRange (b16 p 30) (b16 p 2 + 1) 65535,
    eachBad 4 (fun k => need (decide (b16 p (32 + 2 * k) ≠ 0) == usedSet k)), reserved p 40 8, need (nMin ≤ step.length),
    need (step.all (fun g => decide (t.cellType g = 3)) || step.all (fun g => decide (t.cellType g ≠ 3))),
    eachBad 4 (fun k => need (!usedSet k || decide (2 * b16 (t.sec T_CELL k) 18 < b16 p 10))),
    need (!bitOf (b8 p 1) 1 || cells.any t.cellWeave)]

def checkWave (p : List Byte) : Option Nat := firstBad [need (b16 p 0 = 1536), reserved p 2 14]

/-! ### LOOP (R275, R278, R296, R301 to R303) -/

/-- A source code that an input may name: a code of R275 whose slot, arm, converter input or profile generator is in use. -/
def State.srcUsed (t : State) (c : Nat) : Bool :=
  t.isSourceCode c
    && (!isConvCode c || bitOf (b8 (t.sec T_ACQ 0) (16 + 48 * (c % 0x100 / 4))) (c % 4))
    && (!decide (0x3000 ≤ c ∧ c < 0x3060) || t.arms.contains ((c - 0x3000) / 16))
    && (!decide (0x5000 ≤ c) || !(t.sec T_PROF 0).isEmpty)

/-- A source feeds an input of a format; true for Q16.16 (R275, R278). -/
def State.srcFormat (t : State) (c : Nat) (q16 : Bool) : Bool :=
  if 0x0100 ≤ c ∧ c < 0x0130 then t.slotQ16 (c - 0x0100) == q16
  else if (0x2000 ≤ c ∧ c < 0x4000) ∨ (0x5000 ≤ c ∧ c ≤ 0x5002) then q16
  else true

def State.srcGood (t : State) (c : Nat) (q16 : Bool) : Bool := t.srcUsed c && t.srcFormat c q16

/-- The inputs that a slot's type has. -/
def State.slotWired (t : State) (n : Nat) : List Nat := if t.slotType n = 5 then [0, 1, 2, 3] else t.slotInputs n

/-- A coefficient is 0 where its range excludes 0 (R283, R285). -/
def State.coefZero (t : State) (n : Nat) : Bool :=
  let z := fun k => decide (t.coef 0 n k = 0)
  match t.slotType n with
  | 1 => z 0 || z 1 || z 2 || decide (unsigned 32 (t.coef 0 n 6) / 65536 % 256 = 0)
  | 3 => z 0 || z 1
  | _ => false

def State.checkSlot (t : State) (p : List Byte) (n : Nat) : Option Nat :=
  let i := 16 + 64 * n
  let ty := b8 p i
  let fmt := b8 p (i + 1)
  let fl := b8 p (i + 2)
  let inQ := if ty = 6 then bitOf fmt 1 else bitOf fmt 0
  if ty = 0 then reserved p i 64
  else
    firstBad [need (ty ≤ 6), need (decide (fmt < 16) && (decide (ty = 6) || (bitOf fmt 0 == bitOf fmt 1))),
      need (decide (fl < 32) && (!bitOf fl 2 || decide (ty = 2)) && (!bitOf fl 4 || decide (ty = 4))), reserved p (i + 3) 1,
      eachBad 4 (fun k =>
        need (if (t.slotWired n).contains k then t.srcGood (t.slotIn n k) inQ else decide (t.slotIn n k = 0))),
      need (if ty = 5 then (List.range 4).all (fun k => decide (t.slotSign n k ≠ 3)) else decide (b8 p (i + 12) = 0)),
      reserved p (i + 13) 3, (if t.coefZero n then some 0x0E else none), need (t.coefOk 0 n), reserved p (i + 48) 16]

/-- The leg, or the arm, of a sink is in use; sink 21 is every leg's. -/
def State.sinkUsed (t : State) (k : Nat) : Bool :=
  let legs := b8 (t.sec T_FRAME 0) 0
  if k < 12 then decide (k % 6 < 2 * legs) else if k < 21 then decide (k % 3 < legs) else if k = 21 then true
  else decide (k < 25 ∧ k - 22 < legs)

/-- A sink that must be driven where its arm or leg is in use (R303). -/
def sinkMust (k : Nat) : Bool := decide (k < 6) || inR k 12 21

/-- The sources that sink k accepts (R296). -/
def State.sinkTakes (t : State) (k c : Nat) : Bool :=
  if 0x4000 ≤ c ∧ c < 0x4040 then true
  else if 18 ≤ k ∧ k ≤ 20 then decide (c = 0x5003) && t.srcUsed c
  else if k = 21 then decide (c = 0x5004) && t.srcUsed c
  else decide (0x0100 ≤ c) && t.slotUsed (c - 0x0100) && (t.slotQ16 (c - 0x0100) == !inR k 15 17)

def State.checkLoop (t : State) (p : List Byte) : Option Nat :=
  firstBad [need (b8 p 0 ≤ 1), need (b8 p 2 ≤ 31), reserved p 3 13, eachBad 48 (t.checkSlot p),
    eachBad 32 (fun k =>
      let c := b16 p (3088 + 2 * k)
      need (if t.sinkUsed k then (if c = 0 then !sinkMust k else t.sinkTakes k c) else decide (c = 0)))]

/-! ### PROF (R580 to R582) -/

/-- A signed Q16.16 value above 0. -/
def above0 (v : Nat) : Option Nat := inRange v 1 0x7FFFFFFF

/-- Function f of a SAFETY payload, and a 32-bit field of it. -/
def fnAt (sec : List Byte) (f i : Nat) : Nat := b8 sec (80 + 64 * f + i)
def fnAt32 (sec : List Byte) (f i : Nat) : Nat := b32 sec (80 + 64 * f + i)

/-- The bounds of R580 on an SS1-D function, in exact arithmetic: times in µs, values in 2^-16 units. -/
def stopBound (p sec : List Byte) (f : Nat) : Bool :=
  let ts := 2 * b16 p 0
  let v := b32 p 8
  let a := b32 p 12
  let d := b32 p 24
  let j := b32 p 28
  let dec := fnAt32 sec f 24
  let tol := fnAt32 sec f 32
  let tj := 100 * fnAt32 sec f 28
  decide (dec ≤ d)
    && decide (2 * a * j * (100 * b8 sec 0 + ts) + 1000000 * a * a ≤ 2000000 * j * tol)
    && decide (ts * j + 1000000 * (a + d) ≤ tj * j)
    && decide (tj * dec + 1000000 * (v + tol) ≤ 100 * fnAt32 sec f 20 * dec)

def State.checkProf (t : State) (p : List Byte) : Option Nat :=
  let sec := t.sec T_SAFETY 0
  firstBad [inRange (b16 p 0) 5 500, need (b16 p 0 % max (t.rd TIME_CP_CP_FERRIES) 1 = 0), inRange (b8 p 2) 1 64,
    need (b8 p 3 ≤ 63 ∨ b8 p 3 = 0xFF), eachBad 7 (fun k => above0 (b32 p (4 + 4 * k))),
    need (signed 32 (b32 p 32) < signed 32 (b32 p 36)), reserved p 52 12,
    eachBad 4 (fun f => need (decide (fnAt sec f 0 ≠ 2) || stopBound p sec f))]

/-! ### NET (R599, R600) -/

/-- An Ethernet lane of a mode that makes a port (R600). -/
def State.portLane (t : State) (q : Nat) : Bool := decide (t.rd (LANE_CFG_MODE (104 + q)) ≥ 2)

/-- A port with an entry of zeros is not in use. -/
def State.checkPort (t : State) (p : List Byte) (q : Nat) : Option Nat :=
  let i := 16 + 32 * q
  if zeroBytes p i 32 then none
  else
    firstBad [need (t.portLane q), need (b8 p (i + 6) ≤ 2), need (b8 p (i + 7) ≤ 1 ∧ (b8 p (i + 7) = 0 ∨ t.rd (LANE_CFG_MODE (104 + q)) = 2)),
      need (b16 p (i + 8) ≤ 4094), need (b8 p (i + 10) ≤ 7),
      need (decide (-4 ≤ signed 8 (b8 p (i + 11))) && decide (signed 8 (b8 p (i + 11)) ≤ 0)), inRange (b8 p (i + 14)) 6 255,
      reserved p (i + 15) 17]

/-- A subscription's or publication's port is in use. -/
def State.netPort (t : State) (q : Nat) : Bool := t.portUsed q

/-- RATE is one byte: 80, or 0 for 256. -/
def State.checkSv (t : State) (p : List Byte) (j : Nat) : Option Nat :=
  let i := 144 + 64 * j
  if b8 p (i + 1) = 0 then reserved p i 64
  else
    firstBad [need (t.netPort (b8 p i)), need (b8 p (i + 1) = 1), need (b8 p (i + 2) = 80 ∨ b8 p (i + 2) = 0),
      need (b8 p (i + 3) = 50 ∨ b8 p (i + 3) = 60), inRange (b16 p (i + 4)) 0x4000 0x7FFF, inRange (b8 p (i + 16)) 1 255,
      reserved p (i + 17) 1, inRange (b16 p (i + 18)) 1 65535, need (b32 p (i + 20) % 64 = 0),
      need (b32 p (i + 20) + 64 * b16 p (i + 18) ≤ 0x04000000), need (asciiPadded p (i + 24) 35), reserved p (i + 59) 5]

/-- The bytes that a GOOSE subscription and a publication share. -/
def State.checkGoose (t : State) (p : List Byte) (i : Nat) : Option Nat :=
  firstBad [need (t.netPort (b8 p i)), need (b8 p (i + 1) = 1), inRange (b8 p (i + 2)) 1 32, reserved p (i + 3) 1,
    need (b16 p (i + 4) ≤ 0x3FFF)]

def State.checkGsub (t : State) (p : List Byte) (j : Nat) : Option Nat :=
  let i := 656 + 96 * j
  if b8 p (i + 1) = 0 then reserved p i 96
  else firstBad [t.checkGoose p i, reserved p (i + 20) 4, need (asciiPadded p (i + 24) 64), reserved p (i + 88) 8]

def State.checkPub (t : State) (p : List Byte) (j : Nat) : Option Nat :=
  let i := 2192 + 192 * j
  if b8 p (i + 1) = 0 then reserved p i 192
  else
    firstBad [t.checkGoose p i, inRange (b16 p (i + 16)) 1 1000, inRange (b16 p (i + 18)) (b16 p (i + 16)) 60000,
      eachBad 32 (fun m => need (if m < b8 p (i + 2) then b8 p (i + 20 + m) ≤ 4 else b8 p (i + 20 + m) = 0)),
      need (asciiPadded p (i + 52) 64), need (asciiPadded p (i + 116) 64), reserved p (i + 180) 12]

/-- The keys PORT, DST, APPID of the enabled subscriptions of one kind. -/
def subKeys (p : List Byte) (base size n : Nat) : List (Nat × List Byte) :=
  ((List.range n).filter (fun j => decide (b8 p (base + size * j + 1) ≠ 0))).map (fun j =>
    (b8 p (base + size * j), (p.drop (base + size * j + 4)).take 8))

/-- The rings, buffers and areas of SRAM that a sampled-value ring must stay clear of. -/
def State.sramAreas (t : State) : List (Nat × Nat) :=
  let acq := t.sec T_ACQ 0
  let task := t.sec T_TASK 0
  convRings acq ++ [(b32 acq 1168, b32 acq 1172), (b32 task 8, 16 * b16 task 6)]
    ++ (if (t.sec T_LOOP 0).isEmpty then [] else [(t.rd LOOP_TRACE_BASE_BASE * 262144, 262144)])

def State.checkNet (t : State) (p : List Byte) : Option Nat :=
  let rings := ((List.range 8).filter (fun j => decide (b8 p (144 + 64 * j + 1) ≠ 0))).map (fun j =>
    (b32 p (144 + 64 * j + 20), 64 * b16 p (144 + 64 * j + 18)))
  firstBad [inRange (b16 p 0) 1 65535, need (b8 p 2 ≤ 1), reserved p 3 13, eachBad 4 (t.checkPort p), eachBad 8 (t.checkSv p),
    eachBad 16 (t.checkGsub p), eachBad 4 (t.checkPub p), need ((subKeys p 144 64 8).Nodup), need ((subKeys p 656 96 16).Nodup),
    need (apart rings && rings.all (fun r => t.sramAreas.all (fun q => !overlaps r.1 r.2 q.1 q.2))),
    eachBad 4 (fun i =>
      let c := t.rd (TIME_SRC_CODE i)
      need (!inR c 0x10 0x13 || decide (b8 p (16 + 32 * (c - 0x10) + 6) ≠ 0)))]

/-! ### MON (R632) -/

def checkMon (p : List Byte) : Option Nat :=
  firstBad [need (b8 p 0 ≤ 1), need (b8 p 1 ≤ 5), inRange (b8 p 2) 1 255, reserved p 3 1, reserved p 52 12]

/-! ### SAFETY (R555, R556) -/

/-- The input channels of function f. -/
def fnIns (p : List Byte) (f : Nat) : List Nat := fnAt p f 1 :: (if fnAt p f 2 = 0xFF then [] else [fnAt p f 2])

def State.checkFn (t : State) (p : List Byte) (f : Nat) : Option Nat :=
  let i := 80 + 64 * f
  let ty := b8 p i
  let two := decide (b8 p (i + 2) ≠ 0xFF)
  let n := b8 p (i + 7)
  let src := fun j => b16 p (i + 8 + 2 * j)
  let used := fun (k : Nat) => decide (b8 p (16 + 4 * k) = 1)
  let tp := fun (k : Nat) => b8 p (16 + 4 * k + 1)
  let z := fun (v : Nat) => need (v = 0)
  if ty = 0 then reserved p i 64
  else
    firstBad [need (ty ≤ 3), need (b8 p (i + 1) ≤ 15), need (b8 p (i + 2) ≤ 15 ∨ !two), reserved p (i + 3) 1,
      (if two then inRange (b16 p (i + 4)) 10 1000 else z (b16 p (i + 4))),
      (if ty = 1 then z n else inRange n 1 6),
      eachBad 6 (fun j => need (if j < n then t.srcGood (src j) true else decide (src j = 0))),
      (if ty = 1 then z (b32 p (i + 20)) else inRange (b32 p (i + 20)) 10 600000),
      (if ty = 1 then z (b32 p (i + 24)) else if ty = 2 then above0 (b32 p (i + 24)) else inRange (b32 p (i + 24)) 10 600000),
      (if ty = 2 then need (b32 p (i + 28) ≤ 100000) else z (b32 p (i + 28))),
      (if ty = 1 then z (b32 p (i + 32)) else need (b32 p (i + 32) ≤ 0x7FFFFFFF)),
      (if ty = 1 then z (b32 p (i + 36)) else need (b32 p (i + 36) ≤ 0x7FFFFFFF)), reserved p (i + 40) 24,
      need ((fnIns p f).all used),
      need (!two || decide (tp (b8 p (i + 1)) = 0xFF) || decide (tp (b8 p (i + 1)) ≠ tp (b8 p (i + 2)))),
      need ((List.range 8).all (fun k => !bitOf (b8 p (i + 6)) k || decide (b8 p (336 + 4 * k) = 1))),
      need (ty ≠ 2 ∨ !(t.sec T_PROF 0).isEmpty)]

def State.checkSafety (t : State) (p : List Byte) : Option Nat :=
  let fns := (List.range 4).filter (fun f => decide (fnAt p f 0 ≠ 0))
  let ins := fns.flatMap (fun f => (fnIns p f).dedup)
  let used := fun (k : Nat) => decide (b8 p (16 + 4 * k) = 1)
  firstBad [inRange (b8 p 0) 3 20, inRange (b8 p 1) 4 100, inRange (b16 p 2) 100 1000, need (b16 p 4 ≤ 1000), need (b8 p 6 ≤ 15),
    reserved p 7 1, need (b16 p 8 ≤ 1000), inRange (b16 p 10) 10 1000, reserved p 12 4,
    eachBad 16 (fun k =>
      let i := 16 + 4 * k
      if b8 p i = 0 then reserved p i 4
      else firstBad [need (b8 p i = 1), need (b8 p (i + 1) ≤ 7 ∨ b8 p (i + 1) = 0xFF), inRange (b8 p (i + 2)) 2 255, reserved p (i + 3) 1]),
    eachBad 4 (t.checkFn p),
    eachBad 8 (fun k => if b8 p (336 + 4 * k) = 0 then reserved p (336 + 4 * k) 4 else firstBad [need (b8 p (336 + 4 * k) = 1), reserved p (337 + 4 * k) 3]),
    need (4 * (b16 p 2 + b16 p 4) ≤ 1000 * b8 p 1), need (!fns.isEmpty), need ((b8 p 6 :: ins).Nodup), need (used (b8 p 6)),
    need ((List.range 8).all (fun k => decide (b8 p (336 + 4 * k) = 0) || fns.any (fun f => bitOf (fnAt p f 6) k)))]

end Sys2Proof.Machine
end

