-- ==== Sys2Proof/Machine/Red.lean ====
section
/-! DEFINITION. The commands of redundancy: frames received, liveness, orders, fences, shadow windows (R161, R183, R195,
R509 to R530, R576). -/

namespace Sys2Proof.Machine
open Sys2Proof

/-! ### What a frame of the active brings (R183, R187, R195, R268, R515) -/

/-- The control-period anchor, an announced step and the generation, which a standby or an arbiter takes. -/
def State.followActive (s : State) (f : List Sym) : State :=
  let s := (s.wr TIME_CP_ANCHOR_HI (fld f 42 4)).wr TIME_CP_ANCHOR_LO (fld f 46 4)
  let g := hGen (fld f 30 4)
  let s := if newerGen g (s.rd RED_STAT_GEN) ∧ s.red.pend.isNone then s.wr RED_STAT_GEN g else s
  let st := signed 32 (fld f 50 4)
  if st ≠ 0 then s.stepRaw (st * nsU) else s

/-- A standby's RUN_TIMING and RUN_SIGN, and what follows COMMITTING of the active (R268, R290, R569). -/
def State.followRun (s : State) (f : List Sym) (was : Bool) : State :=
  let t := fld f 54 4
  let s := if (s.rdW A_RUN_TIMING).toNat = t then s else
    s.causeways.foldl (fun s c => s.marginCheck c) (s.wrW A_RUN_TIMING (BitVec.ofNat 32 t))
  let s := s.wrW A_RUN_SIGN (BitVec.ofNat 32 (fld f 58 4))
  let s := if was ∧ !s.commitView then s.profIdle else s
  s.observe

/-- One time sample in a ferry cycle, from the lowest lane in LOCKED of those in `ls` (R187). -/
def State.partnerTime (s : State) (n : Nat) (ls : List Nat) (f : List Sym) (arr : Nat) : State :=
  let n0 := ls.find? (fun m => s.laneLocked m)
  if s.isActive ∨ hRole (fld f 30 4) ≠ 1 ∨ n0 ≠ some n ∨ s.tim.sampled = ctCycle s.ct + 1 ∨ !s.on TIME_CTRL_MAIN_EN
      ∨ s.rd TIME_STAT_PATH ≠ 0 then s
  else
    match s.pairError n f arr with
    | some e => (s.setTim { s.tim with sampled := ctCycle s.ct + 1 }).timeSample e (partnerGain (nsU / 2 : Nat))
    | none => s

/-! ### The shadow (R516) -/

/-- One arm mismatches: the plans differ by more than SHADOW_TOL, or the stages differ with both currents above twice HYST;
the current of the active is not in its frame and is open (assumption log, entry 92). -/
def State.armMismatch (s : State) (f : List Sym) (a ip : Nat) : Bool :=
  let w := fld f (68 + 4 * a) 4
  let tol := (s.rd RED_SHADOW_CFG_TOL : Int)
  let da := signed 12 (w % 4096) - s.rdS (REEF_NPLAN_NA a)
  let db := signed 12 (w / 65536 % 4096) - s.rdS (REEF_NPLAN_NB a)
  let h := 2 * s.rd RUN_SIGN_HYST
  decide (da > tol ∨ da < -tol ∨ db > tol ∨ db < -tol) ||
    (match s.red.own.find? (fun x => x.1 = a) with
     | some x => decide (x.2.1 ≠ b2n (bitOf (fld f 92 1) a)) && decide (x.2.2.natAbs > h) && decide (ip > h)
     | none => false)

/-- The comparison of one ferry cycle at the active's frame. -/
def State.shadow (s : State) (f : List Sym) : State :=
  if !(s.selfTest ∧ s.isStandby ∧ s.inRun ∧ hRole (fld f 30 4) = 1 ∧ hCommit (fld f 30 4)) ∨ s.on CHART_STATUS_HOT_DIFFERS
      ∨ s.red.shHold > 0 then s
  else
    let (m, s) := s.arms.foldl (fun (x : Nat × State) a =>
      let (ip, s) := x.2.free 16
      (x.1 + b2n (s.armMismatch f a ip), s)) (0, s)
    (s.cnt RED_SHADOW_CNT m).setRed { s.red with shCyc := s.red.shCyc + 1, shMis := s.red.shMis + m }

/-- SHADOW_WINDOW_END: 1,024 ferry cycles have been compared: the window fails or restores FIT. -/
def execShadowWindowEnd (s : State) : Host.Outcome State Fault Refusal :=
  if s.red.shCyc < 1024 then .next s
  else
    let bad := decide (s.red.shMis > s.rd RED_SHADOW_CFG_MAX)
    let s := s.setRed { s.red with shCyc := 0, shMis := 0, shFail := bad, shPass := s.red.shPass || !bad }
    .next ((if bad then s.raise 0x226 0 else s).fitFollow)

/-! ### Frames received (R509, R510, R520, R525) -/

/-- A mate frame: its content acts once in a ferry cycle. `same`: the partner's SIDE equals the own one. -/
def State.mateFrame (s : State) (f : List Sym) (same : Bool) : State :=
  if s.red.mateGot then s
  else
    let was := s.commitView
    let old := s.rd RED_HEALTH_MATE
    let h := fld f 30 4
    let s := (s.setRed { s.red with mateGot := true, mateLost := false }).wr RED_HEALTH_MATE h
    let s := (s.wr CHART_MATE_DIGEST (fld f 34 4)).wr CHART_STATUS_HOT_DIFFERS (b2n (decide (fld f 38 4 ≠ s.rd CHART_HOT_DIGEST)))
    let s := s.wr RED_UNFIT_CHART (b2n (s.isStandby && (decide (fld f 34 4 ≠ s.rd CHART_BUILD_DIGEST) || same)))
    let s := if s.isActive ∧ hFit old ∧ !hFit h then s.raise 0x225 0 else s
    let s := if s.isActive ∧ hRole h = 1 ∧ newerGen (hGen h) (s.rd RED_STAT_GEN) then s.fence (hGen h) else s
    let s := if s.isStandby ∧ hRole h = 1 then (s.followActive f).followRun f was else s
    let k := fld f 62 1
    let s := if k = 1 ∨ k = 2 then s.takeOrder (3 - k) (fld f 63 1) (fld f 64 4) else s
    (s.shadow f).fitFollow

/-- An arbiter frame at a partner. -/
def State.arbFrame (s : State) (f : List Sym) : State :=
  if s.red.arbGot then s
  else
    let s := (s.setRed { s.red with arbGot := true }).wr RED_HEALTH_ARB (fld f 30 4)
    let s := if s.on RED_STAT_ALIVE1_RUN then (s.setRed { s.red with arbLost := false }).wr RED_STAT_ARB_LOST 0 else s
    let k := fld f 62 1
    if k = 1 ∨ k = 2 then s.takeOrder k (fld f 63 1) (fld f 64 4) else s

/-- A partner's frame at the arbiter; `halted`: COMMITTING 0 in it follows a write of RUN_CTRL.HALT. -/
def State.atArbiter (s : State) (tail halted : Bool) (f : List Sym) : State :=
  if (if tail then s.red.arbGot else s.red.mateGot) then s
  else
    let old := s.healthOf tail
    let h := fld f 30 4
    let s := if tail then (s.setRed { s.red with arbGot := true, arbLost := false }).wr RED_HEALTH_ARB h
      else (s.setRed { s.red with mateGot := true, mateLost := false }).wr RED_HEALTH_MATE h
    let s := if hRole h = 1 then s.followActive f else s
    let s := s.arbJudge halted
    let s := if hRole h = 1 then s.setRed { s.red with sawCommit := hCommit h || (s.red.sawCommit && !halted) } else s
    let s := if hReq h ∧ !hReq old then s.arbRequest else s
    s.arbFence

/-- PARTNER_FRAME: what arrived as a frame on mate or arbiter lane n; `back` sixteenths of a word clock have gone since the
first bit of its SOF. -/
def execPartnerFrame (n : Nat) (ss : List Sym) (back : Nat) (halted same : Bool) (s : State) : Host.Outcome State Fault Refusal :=
  if !(s.redundant ∧ s.lanesApplied ∧ 96 ≤ n ∧ n < 104 ∧ s.rd (LANE_CFG_MODE n) ≠ 0 ∧ s.laneLocked n) then .next s
  else
    let (s, ok) := s.laneTake n ss
    if !(ok && s.frameValid n ss) then .next s
    else
      let arr := ((s.ct : Int) - sixteenths back).toNat
      let s := s.noteHeard n (frSeq ss) arr
      if n < 100 then .next ((s.mateFrame ss same).partnerTime n [96, 97, 98, 99] ss arr)
      else if s.isArbiter then
        .next ((s.atArbiter (decide (n ≥ 102)) halted ss).partnerTime n (if n < 102 then [100, 101] else [102, 103]) ss arr)
      else .next (s.arbFrame ss)

/-- RELAY_FRAME: a relay frame has ended on mate lane 1 or 2: a standby takes the berths, the stages and the COLLECT that it
is to relay in its next ferries (R133, R139, R515). -/
def execRelayFrame (n : Nat) (ss : List Sym) (s : State) : Host.Outcome State Fault Refusal :=
  if !(s.redundant ∧ s.inRun ∧ s.isStandby ∧ (n = 97 ∨ n = 98) ∧ s.laneLocked n) then .next s
  else
    let (s, ok) := s.laneTake n ss
    let r := fld ss 26 1
    let len := ss.length
    let good := decide (r ≤ 80) && (decide (len = 33 + 12 * r) || decide (len = 101 + 12 * r)) && frameOk ss len &&
      decide (fld ss 1 1 / 16 = 4) && decide (fld ss 2 1 = s.rd TOP_STAT_CONVERTER) &&
      decide (crc32 (ferryBytes ss 1 (len - 6)) = fld ss (len - 5) 4)
    if !(ok && good) then .next s
    else
      let hs := (List.range r).map (fun j => (fld ss (28 + 12 * j) 2, halfOf (ferryBytes ss (30 + 12 * j) 8)))
      let cs := if len = 101 + 12 * r then [(fld ss (28 + 12 * r) 1, ferryBytes ss (32 + 12 * r) 64)] else []
      let q := s.red.relay
      .next (s.setRed { s.red with
        relay := ⟨fld ss 20 1, fld ss 21 1, fld ss 22 4, q.halves ++ hs, q.collects ++ cs⟩ })

/-! ### The Reef copy (R530) -/

/-- The copy of a cell's record, at a ferry-cycle start. -/
def State.copyOf (s : State) (g : Nat) : CopyRec :=
  let r := s.crec g
  ⟨g, s.rdW (A_REEF_REC0 g), s.rdW (A_REEF_REC1 g), r.sw, if r.refAt = 0 then 0 else (s.clk.count + 1 - r.refAt) / 1250, 0, 0, 0, []⟩

/-- The copy of an arm's record. -/
def State.copyArm (s : State) (a : Nat) : CopyRec :=
  let q := s.arm a
  ⟨0x2000 + a, 0, 0, 0, 0, s.rdS (REEF_REG_D a), q.gap, q.cyc, (s.armCells a).filter (fun g => (s.crec g).hold ≠ 0)⟩

/-- Every record of a pass, in order. -/
def State.copyKeys (s : State) : List Nat := s.allCells ++ s.arms.map (0x2000 + ·)
def State.copyRec (s : State) (k : Nat) : CopyRec := if k < 0x2000 then s.copyOf k else s.copyArm (k - 0x2000)

/-- A standby replaces its record of a cell with the copy, but for what it observed itself since the ferry-cycle start: a
later STATE, and a status of this ferry cycle. -/
def State.takeCopy (s : State) (x : CopyRec) : State :=
  if x.g < 0x2000 then
    let r := s.crec x.g
    let late := match r.segs with | e :: _ => decide (e.ct > s.reef.start) | [] => false
    let mine := r.got && decide (r.age = 0)
    let st := if late then s.expSt x.g else bitsOf x.rec0 24 3
    let w0 := if mine then s.rdW (A_REEF_REC0 x.g) else x.rec0
    let s := (s.wrW (A_REEF_REC0 x.g) (bitsPut w0 24 3 st)).wrW (A_REEF_REC1 x.g) (if mine then s.rdW (A_REEF_REC1 x.g) else x.rec1)
    let seen := bitOf w0.toNat 30
    s.setRec x.g { r with
      sw := if mine then r.sw else x.sw, got := r.got || bitOf x.rec0.toNat 31,
      refAt := if seen then s.clk.count + 1 - x.age * 1250 else 0,
      segs := if late then r.segs else ⟨s.reef.start, st, (s.arm (s.armOfCell x.g)).q, (s.arm (s.armOfCell x.g)).qp⟩ :: r.segs.take 7 }
  else
    let a := x.g - 0x2000
    let s := (s.wrS (REEF_REG_D a) x.d).setArm a { s.arm a with gap := x.gap, cyc := x.cyc }
    x.held.foldl (fun s g => if (s.crec g).hold = 0 then s.setRec g { s.crec g with hold := s.ct + cycU } else s) s

/-- COPY_FRAME: a copy frame has ended on mate lane n; `ok`: its framing and CRC are right. A frame out of its turn, or a bad
one, restarts the pass. -/
def execCopyFrame (n : Nat) (ok : Bool) (recs : List CopyRec) (s : State) : Host.Outcome State Fault Refusal :=
  if !(s.redundant ∧ s.inRun ∧ s.isStandby ∧ (n = 97 ∨ n = 98) ∧ s.laneLocked n ∧ !s.red.copyDone) then .next s
  else
    let ks := s.copyKeys
    let restart := (s.setRed { s.red with copyNext := 0 }).wr RED_COPY_RECORDS 0
    let from_ := if (recs.head?.map (·.g)) = ks.head? then 0 else s.red.copyNext
    if !ok ∨ recs.map (·.g) ≠ (ks.drop from_).take recs.length ∨ recs.isEmpty ∨ recs.length > 60 then .next restart
    else
      let s := recs.foldl (fun s x => s.takeCopy x) s
      let m := from_ + recs.length
      let s := (s.setRed { s.red with copyNext := m }).wr RED_COPY_RECORDS m
      if m = ks.length then
        .next ((((s.setRed { s.red with copyDone := true }).wr RED_COPY_COPY_DONE 1).resortStart).fitFollow)
      else .next s

/-- PROFILE_FRAME: a profile frame has ended on mate lane 0; a bad one leaves the standby on its own plan (R576). -/
def execProfileFrame (ok : Bool) (f : ProfFrame) (s : State) : Host.Outcome State Fault Refusal :=
  if s.redundant ∧ s.inRun ∧ s.isStandby ∧ s.profOn ∧ s.laneLocked 96 ∧ ok then .next (s.takeProfFrame f) else .next s

/-- RELAYED_FLASH_ORDER: a route byte and a flash order have arrived on mate lane 3: the standby sends the order on its
causeway lanes, a commit on those of its arm, a block-all on all, another on that of its cell (R161, R515), and follows it
(R207, R220). -/
def execRelayedFlashOrder (ss : List Sym) (s : State) : Host.Outcome State Fault Refusal :=
  if !(s.redundant ∧ s.inRun ∧ s.isStandby ∧ s.laneLocked relayLane) then .next s
  else
    match ss with
    | .d r :: rest =>
      match flashOf rest with
      | none => .next s
      | some o =>
        let kind : FlashKind := if o.1 = 0x9C then .blockAll else if o.1 = 0xDC then .commit else if o.1 = 0x5C then .bypassOne
          else if o.1 = 0x1C then .insertOne else if o.1 = 0xF7 then .timeMark else .wake
        let c := orderCell o.2.1 o.2.2 / 64
        let cs := if kind = .commit then s.armCws r.toNat
          else if kind = .blockAll then s.causeways
          else if s.cwUsed c then [c] else if kind = .wake then s.causeways else []
        let s := cs.foldl (fun s c => s.needFlash c kind o.2.1 o.2.2) s
        .next (match cs with
          | c :: _ => if kind = .blockAll then s else s.followFlash c (if s.tailSide then 1 else 0) s.ct o
          | [] => s)
    | _ => .next s

/-! ### Liveness (R512) -/

/-- The arbiter is lost to this partner. -/
def State.arbiterLost (s : State) : State :=
  if s.red.arbLost then s else ((s.setRed { s.red with arbLost := true }).wr RED_STAT_ARB_LOST 1).raise 0x223 0

/-- The arbiter loses a partner, which it raises once. -/
def State.sideLost (s : State) (tail : Bool) : State :=
  if (if tail then s.red.arbLost else s.red.mateLost) then s
  else
    let s := s.setRed (if tail then { s.red with arbLost := true } else { s.red with mateLost := true })
    let s := if s.activeSide = some tail then s.holdover else s
    s.raise 0x222 0

/-- PEER_ALIVE_STOP: no edge of PEER_ALIVE i has counted for 100 µs. -/
def execPeerAliveStop (i : Nat) (s : State) : Host.Outcome State Fault Refusal :=
  if !s.redundant ∨ i > 1 then .next s
  else
    let s := s.wr (if i = 0 then RED_STAT_ALIVE0_RUN else RED_STAT_ALIVE1_RUN) 0
    if s.isArbiter then .next ((s.sideLost (decide (i = 1))).arbJudge true)
    else if i = 1 then .next s.arbiterLost
    else .next s

/-- PEER_ALIVE_RESUME: two edges of PEER_ALIVE i have counted. -/
def execPeerAliveResume (i : Nat) (s : State) : Host.Outcome State Fault Refusal :=
  if !s.redundant ∨ i > 1 then .next s
  else
    let s := s.wr (if i = 0 then RED_STAT_ALIVE0_RUN else RED_STAT_ALIVE1_RUN) 1
    if !s.isArbiter ∧ i = 1 ∧ s.red.arbGap = 0 then .next ((s.setRed { s.red with arbLost := false }).wr RED_STAT_ARB_LOST 0)
    else .next s

/-- PARTNER_LOST: no valid frame of the partner (on the arbiter: of the one on side `tail`) for 4 ferry cycles. -/
def execPartnerLost (tail : Bool) (s : State) : Host.Outcome State Fault Refusal :=
  if !s.redundant then .next s
  else if s.isArbiter then
    if s.gapOf tail ≥ 4 then .next ((s.sideLost tail).arbJudge true) else .next s
  else if s.red.mateGap ≥ 4 ∧ !s.red.mateLost then
    let s := (s.setRed { s.red with mateLost := true }).raise 0x222 0
    .next (if s.isStandby then s.holdover else s)
  else .next s

/-- ARBITER_LOST: no valid arbiter frame for 4 ferry cycles, or PEER_ALIVE1 stopped. -/
def execArbiterLost (s : State) : Host.Outcome State Fault Refusal :=
  if s.redundant ∧ !s.isArbiter ∧ (s.red.arbGap ≥ 4 ∨ !s.on RED_STAT_ALIVE1_RUN) then .next s.arbiterLost else .next s

/-- STANDBY_SETTLED: 64 ferry cycles have passed since the entry into the standby role (R514). -/
def execStandbySettled (s : State) : Host.Outcome State Fault Refusal :=
  if s.redundant ∧ s.isStandby then .next ((s.setRed { s.red with settle := 0 }).fitFollow) else .next s

/-! ### Requests, orders, roles -/

/-- A write of RED_CTRL.REQUEST (R518). -/
def State.redRequest (s : State) : State :=
  if !s.redundant then s
  else if s.isArbiter then s.arbRequest
  else s.setRed { s.red with req := 8 }

/-- REQUEST. -/
def execRequest (s : State) : Host.Outcome State Fault Refusal := .next s.redRequest

/-- YIELD: an order YIELD of generation `gen` for cycle `k` is received (R520, R521). -/
def execYield (gen k : Nat) (s : State) : Host.Outcome State Fault Refusal :=
  if s.redundant ∧ !s.isArbiter then .next (s.takeOrder 2 gen k) else .next s

/-- TAKE: an order TAKE is received (R520, R522). -/
def execTake (gen k : Nat) (s : State) : Host.Outcome State Fault Refusal :=
  if s.redundant ∧ !s.isArbiter then .next (s.takeOrder 1 gen k) else .next s

/-- TAKEOVER_CYCLE: the cycle of the pending order starts. -/
def execTakeoverCycle (s : State) : Host.Outcome State Fault Refusal := if s.takeoverDue then .next s.takeover else .next s

/-- FENCE: the active sees another active, of generation `gen` (R525). -/
def execFence (gen : Nat) (s : State) : Host.Outcome State Fault Refusal := .next (s.fence gen)

/-- WITNESS_TAKEOVER: a fit standby without arbiter, whose partner's ALIVE has stopped, takes over on 4 witnessing cycles
(R528). -/
def execWitnessTakeover (s : State) : Host.Outcome State Fault Refusal :=
  if s.redundant ∧ s.isStandby ∧ s.on RED_STAT_ARB_LOST ∧ s.on RED_STAT_FIT ∧ !s.on RED_STAT_ALIVE0_RUN ∧ s.red.witRun ≥ 4
      ∧ s.red.pend.isNone then
    let o : Order := ⟨1, (s.rd RED_STAT_GEN + 1) % 256, (ctCycle s.ct + 2) % 2 ^ 32⟩
    .next (((s.setRed { s.red with pend := some o, last := some o }).wr RED_STAT_ORDER_PEND 1).hotDrop 0x21)
  else .next s

end Sys2Proof.Machine
end

