-- ==== Sys2Proof/Machine/Chart.lean ====
section
/-! DEFINITION. Loading a chart and hot loading (R38 to R46, R54 to R74): the commands CHART_FETCH, CHART_VERIFY, CHART_CHECK,
CHART_BUILD, LOAD, HOT_LOAD, HOT_CHECK, HOT_APPLY and HOT_ABORT. -/

namespace Sys2Proof.Machine
open Sys2Proof

/-! ### Header and directory (R38 to R42) -/

/-- TOTAL_LENGTH, SECTION_COUNT and KEY_SLOT of a header. -/
def hdrTotal (h : List Byte) : Nat := b32 h 8
def hdrCount (h : List Byte) : Nat := b16 h 6

/-- The cause of the first header check that fails, in the order of R39; `room` is how far the chart may reach (R59). -/
def headerBad (h : List Byte) (room : Nat) : Option Nat :=
  let c := fun (b : Bool) (cause : Nat) => if b then none else some cause
  firstBad [c (decide (b32 h 0 = 0x464C4348)) 0x02, c (decide (crc32 (h.take 60) = b32 h 60)) 0x05, c (decide (b16 h 4 = 1)) 0x03,
    c (inR (hdrCount h) 1 160) 0x08,
    c (inR (hdrTotal h) 160 16777216 && decide (hdrTotal h % 16 = 0) && decide (hdrTotal h ≤ room)) 0x04,
    c (decide (b16 h 16 = 0x6144)) 0x11, c (decide (b8 h 18 ≤ 3)) 0x06, c (zeroBytes h 19 41) 0x03]

/-- An entry of the section directory (R41), with its number. -/
structure DirEnt where
  idx : Nat
  ty : Nat
  inst : Nat
  flags : Nat
  rsv : Nat
  off : Nat
  len : Nat
  crc : Nat
deriving DecidableEq, Repr

def DirEnt.key (e : DirEnt) : Nat := e.ty * 256 + e.inst

def dirEnt (img : List Byte) (i : Nat) : DirEnt :=
  let e := (img.drop (64 + 16 * i)).take 16
  ⟨i, b8 e 0, b8 e 1, b8 e 2, b8 e 3, b32 e 4, b32 e 8, b32 e 12⟩

def chartDir (img : List Byte) : List DirEnt := (List.range (hdrCount img)).map (dirEnt img)

/-- The payload of an entry. -/
def DirEnt.payload (e : DirEnt) (img : List Byte) : List Byte := (img.drop e.off).take e.len

/-- The number of the first entry with a fault of R42. -/
def dirBad (img : List Byte) : Option Nat :=
  let d := chartDir img
  let top := 64 + 16 * d.length
  (d.find? (fun e => decide (e.off % 16 ≠ 0) || decide (e.off < top) || decide (hdrTotal img - 64 < e.off + e.len) || decide (e.len = 0)
    || decide (e.rsv ≠ 0) || decide (4 ≤ e.flags) || d.any (fun f => decide (f.idx < e.idx) && overlaps e.off e.len f.off f.len))).map
    DirEnt.idx

/-- FETCH: the bytes that the source gives; none where it does not respond. A chart of sound header and directory, or the
cause and the directory index. -/
def fetchBytes (data : Option (List Byte)) (room : Nat) : Except (Nat × Nat) (List Byte) :=
  match data with
  | none => .error (0x01, 0xFF)
  | some d =>
    if d.length < 64 then .error (0x01, 0xFF)
    else
      match headerBad d room with
      | some c => .error (c, 0xFF)
      | none =>
        if d.length < hdrTotal d then .error (0x01, 0xFF)
        else
          let img := d.take (hdrTotal d)
          match dirBad img with
          | some i => .error (0x08, i)
          | none => .ok img

/-! ### The chart at CHART_STAGE_BASE (R58, R59, R71) -/

def State.stageBase (s : State) : Nat := s.rd CHART_STAGE_BASE_BASE * 16

/-- How far a chart from there may reach. -/
def State.stageRoom (s : State) : Nat := 0x04000000 - s.stageBase

/-- The bytes there, up to the chart's own length; none where memory answers with a bus error. -/
def State.stageRead (s : State) : Option (List Byte) :=
  match (s.readMem .loader s.stageBase 64).1 with
  | .error _ => none
  | .ok h =>
    if (headerBad h s.stageRoom).isSome then some h
    else match (s.readMem .loader s.stageBase (hdrTotal h)).1 with
      | .error _ => none
      | .ok d => some d

/-! ### VERIFY (R54) -/

/-- The cause of a failing signature. -/
def State.verifyBad (s : State) (img : List Byte) : Option Nat :=
  let k := b8 img 18
  let n := hdrTotal img - 64
  if !bitOf s.chart.keyProg k || bitOf s.chart.keyRev k then some 0x06
  else if ed25519 (tget (fun _ => []) s.chart.keys k) (img.take n) ((img.drop n).take 64) then none else some 0x07

/-! ### CHECK (R43 to R46, R55, R60, R61, R696) -/

/-- The highest INSTANCE of a section type (R44). -/
def instMax (ty : Nat) : Option Nat :=
  if ty = T_BERTH then some 95 else if ty = T_CELL then some 3 else if ty = T_IMAGE then some 17 else if ty = T_REEF then some 5
  else if 1 ≤ ty ∧ ty ≤ 0x11 then some 0 else none

/-- HOT and LOCKED of a section type (R43, R44). -/
def isHot (ty : Nat) : Bool := inR ty T_REEF T_NET
def typeFlags (ty : Nat) : Nat := b2n (isHot ty) + 2 * b2n (decide (ty = T_SAFETY))

/-- The length that a section type fixes (R696); IMAGE has its own. -/
def secLen (ty : Nat) : Nat :=
  [0, 16, 112, 68, 240, 912, 32, 1488, 784, 0, 4416, 48, 3152, 3088, 64, 2960, 64, 368].getD ty 0

/-- The sections of a chart by TYPE and INSTANCE. -/
def chartSecs (img : List Byte) : Secs := (chartDir img).foldl (fun l e => tins e.key (e.payload img) l) []

def secIn (l : Secs) (ty inst : Nat) : List Byte := tget (fun _ => []) l (ty * 256 + inst)

/-- Types that every chart holds, and those that an active or standby adds and an arbiter must not hold (R45). -/
def alwaysTypes : List Nat := [T_ROLE, T_LANE, T_TIME, T_FAULT]
def fullTypes : List Nat := [T_FRAME, T_ACQ, T_TASK, T_LOOP, T_WAVE, T_SAFETY]

/-- A section that the role allows (R45). -/
def secAllowed (l : Secs) (arb : Bool) (ty inst : Nat) : Bool :=
  let f := secIn l T_FRAME 0
  if arb then alwaysTypes.contains ty || decide (ty = T_NET ∨ ty = T_MON) || (decide (ty = T_IMAGE) && decide (16 ≤ inst))
  else if ty = T_BERTH then decide (b8 f (4 + inst) ≠ 0xFF)
  else if ty = T_REEF then decide (inst < 2 * b8 f 0)
  else true

/-- Every section that the role requires is present (R45). -/
def secsPresent (l : Secs) (arb : Bool) : Bool :=
  let has := fun (ty inst : Nat) => !(secIn l ty inst).isEmpty
  let f := secIn l T_FRAME 0
  let ways := (List.range 96).filter (fun c => decide (b8 f (4 + c) ≠ 0xFF))
  alwaysTypes.all (fun ty => has ty 0)
    && (arb || (fullTypes.all (fun ty => has ty 0) && ways.all (fun c => has T_BERTH c)
        && (List.range (2 * min (b8 f 0) 3)).all (fun a => has T_REEF a)
        && ways.all (fun c => let p := secIn l T_BERTH c
            (List.range (min (b8 p 1) 64)).all (fun b => has T_CELL (b8 p (4 + b) / 16 % 4)))))

/-- The check of one section. -/
def State.checkSec (t : State) (arb : Bool) (ty inst : Nat) (p : List Byte) : Option Nat :=
  if ty = T_ROLE then checkRole p
  else if ty = T_FRAME then t.checkFrame p
  else if ty = T_BERTH then checkBerth inst p
  else if ty = T_CELL then checkCell p
  else if ty = T_LANE then t.checkLane arb p
  else if ty = T_TIME then t.checkTime arb p
  else if ty = T_ACQ then t.checkAcq p
  else if ty = T_FAULT then checkFault p
  else if ty = T_IMAGE then t.checkImage inst p
  else if ty = T_TASK then t.checkTask p
  else if ty = T_REEF then t.checkReef inst p
  else if ty = T_LOOP then t.checkLoop p
  else if ty = T_WAVE then checkWave p
  else if ty = T_PROF then t.checkProf p
  else if ty = T_NET then t.checkNet p
  else if ty = T_MON then checkMon p
  else t.checkSafety p

/-- CHECK of a chart: the cause and the directory index of the first failure, if any. -/
def State.checkBad (s : State) (img : List Byte) : Option (Nat × Nat) :=
  let d := chartDir img
  let l := chartSecs img
  let arb := decide (b8 (secIn l T_ROLE 0) 0 = 3)
  let bad := fun (p : DirEnt → Bool) (cause : Nat) => (d.find? p).map (fun e => (cause, e.idx))
  let steps : List (Option (Nat × Nat)) := [
    bad (fun e => decide (crc32 (e.payload img) ≠ e.crc)) 0x09,
    bad (fun e => match instMax e.ty with | some m => decide (m < e.inst) | none => true) 0x0A,
    bad (fun e => d.any (fun f => decide (f.idx < e.idx ∧ f.key = e.key))) 0x0B,
    bad (fun e => decide (e.flags ≠ typeFlags e.ty)) 0x0C,
    bad (fun e => !secAllowed l arb e.ty e.inst) 0x0B,
    if secsPresent l arb then none else some (0x0B, 0xFF),
    bad (fun e => decide (e.ty ≠ T_IMAGE ∧ e.len ≠ secLen e.ty)) 0x0F]
  match steps.findSome? id with
  | some x => some x
  | none =>
    let t := s.applyAll l
    l.findSome? (fun x =>
      (t.checkSec arb (x.1 / 256) (x.1 % 256) x.2).map (fun c => (c, ((d.find? (fun e => decide (e.key = x.1))).map DirEnt.idx).getD 0xFF)))

/-! ### Digests (R67) -/

/-- The CRC-32 of the CRC fields of the sections that `p` names, in ascending TYPE and INSTANCE order. -/
def digestOf (img : List Byte) (p : Nat → Bool) : Nat :=
  let l := (chartDir img).foldl (fun (l : List (Nat × Nat)) e => tins e.key e.crc l) []
  crc32 ((l.filter (fun x => p (x.1 / 256))).flatMap (fun x => beBytes 4 x.2))

def buildDigest (img : List Byte) : Nat := digestOf img (fun ty => !isHot ty && decide (ty ≠ T_ROLE))
def hotDigest (img : List Byte) : Nat := digestOf img isHot

/-- The directory as the state keeps it. -/
def dirKeep (img : List Byte) : List (Nat × Nat × Nat × Nat) := (chartDir img).map (fun e => (e.key, e.flags, e.len, e.crc))

/-! ### The load (R56 to R62) -/

def State.setChart (s : State) (c : Chart) : State := { s with chart := c }

/-- A load fails before BUILD: slot 0 falls back to slot 1, any other source enters phase FAILED (R56, R57). -/
def State.loadFailed (s : State) (cause idx : Nat) : State :=
  let s := s.setChart { s.chart with img := [] }
  if s.chart.src = 0 then
    let s := (s.wr CHART_FAIL_INFO_SLOT0_CAUSE cause).wr CHART_FAIL_INFO_SLOT0_INDEX idx
    (s.setChart { s.chart with src := 1 }).wr CHART_STATUS_PHASE PH_FETCH
  else s.enterFailed cause idx

/-- CHART_FETCH: the header and the directory are read and checked. `data` is what the flash slot gives; a load from SRAM
reads CHART_STAGE_BASE instead. -/
def execChartFetch (data : Option (List Byte)) (s : State) : Host.Outcome State Fault Refusal :=
  if s.phase ≠ PH_FETCH ∨ s.pwr.held ≠ 0 then .next s
  else
    match (if s.chart.src = 2 then fetchBytes s.stageRead s.stageRoom else fetchBytes data 16777216) with
    | .error (c, i) => .next (s.loadFailed c i)
    | .ok img => .next ((s.setChart { s.chart with img := img }).wr CHART_STATUS_PHASE PH_VERIFY)

/-- CHART_VERIFY: the signature (R54). -/
def execChartVerify (s : State) : Host.Outcome State Fault Refusal :=
  if s.phase ≠ PH_VERIFY then .next s
  else match s.verifyBad s.chart.img with
    | some c => .next (s.loadFailed c 0xFF)
    | none => .next (s.wr CHART_STATUS_PHASE PH_CHECK)

/-- CHART_CHECK: the CRCs, the ranges, the level limits and the cross-section rules. -/
def execChartCheck (s : State) : Host.Outcome State Fault Refusal :=
  if s.phase ≠ PH_CHECK then .next s
  else match s.checkBad s.chart.img with
    | some (c, i) => .next (s.loadFailed c i)
    | none => .next (s.wr CHART_STATUS_PHASE PH_BUILD)

/-- The lanes that the LANE section turns on begin to seek, with both references good (R94). -/
def State.lanesSeek (s : State) : State :=
  if s.lanes.refBad ≠ 0 then s
  else upTo 112 s (fun s n =>
    if s.rd (LANE_CFG_MODE n) ≠ 0 ∧ s.laneSt n = LN_OFF then s.wr (LANE_STAT_STATE n) LN_SEEK else s)

/-- BUILD ends and phase RUN begins in a role; `returning` when a partner was found active (R49, R317, R499, R624). -/
def State.enterRun (s : State) (role : Nat) (returning : Bool) : State :=
  let s := (((s.wr CHART_STATUS_PHASE PH_RUN).wr TOP_STAT_ROLE role).wr RED_STAT_ROLE role).startEngines
  let s := s.setRed { s.red with shPass := decide (role ≠ 3) && !returning, shHold := 0 }
  let s := if role = 2 then s.enterStandby else s
  let s := s.loopBuild.profBuild
  let s := if (s.sec T_MON 0).isEmpty then s else s.applyMon (s.sec T_MON 0)
  let s := s.lanesSeek.selectSource
  let s := s.setTim { s.tim with anchor := decide (role = 1) }
  let s := { s with flt := { s.flt with runEdge := s.clk.count } }
  let s := s.wr FLT_STAT_ALIVE (b2n (decide (s.rd FLT_STAT_STATE ≠ 2) && s.on LANE_REF_STAT_REF_OK))
  let s := if s.hasRec then s.recEnter else s
  s.observe.irqUpdate

/-- CHART_BUILD: the sections are applied, the island takes the SAFETY section, the partner is looked for, and phase RUN
begins; `mateActive`: an active partner is on the mate lanes (R49, R60 to R67). -/
def execChartBuild (mateActive : Bool) (s : State) : Host.Outcome State Fault Refusal :=
  if s.phase ≠ PH_BUILD then .next s
  else
    let img := s.chart.img
    let l := chartSecs img
    let role := b8 (secIn l T_ROLE 0) 0
    let s := s.applyAll l
    let s := s.setChart { s.chart with dir := dirKeep img, img := [], hot := [], hotReady := false }
    let s := ((s.wr CHART_ID (b32 img 12)).wr CHART_BUILD_DIGEST (buildDigest img)).wr CHART_HOT_DIGEST (hotDigest img)
    let s := (s.wr CHART_STATUS_SLOT (b2n (decide (s.chart.src = 1)))).lockBlocks l
    let s := s.wr CHART_LOAD_TIME ((s.clk.count - s.chart.loadFrom) / 625)
    let s := if s.chart.src = 1 then s.raise 0x022 0 else s
    let safety := secIn l T_SAFETY 0
    let (s, ok) := if safety.isEmpty then (s, true) else s.safetyHandover safety
    if !ok then
      .next (s.enterFailed 0x10 (((chartDir img).find? (fun e => decide (e.ty = T_SAFETY))).elim 0xFF DirEnt.idx))
    else
      let s := if safety.isEmpty then s else s.wr CHART_STATUS_SAFETY_OK 1
      let met := mateActive && s.redundant && decide (role = 1)
      if met ∧ b8 (secIn l T_ROLE 0) 5 = 0 then .next (s.enterFailed 0x12 0xFF)
      else .next (s.enterRun (if met then 2 else role) (met || (decide (role = 2) && mateActive)))

/-- CHART_CTRL.LOAD (R58, R59). -/
def State.loadReq (s : State) (p : Port) : State :=
  if s.phase ≠ PH_FAILED then s.range p A_CHART_CTRL
  else ((s.setChart { s.chart with src := 2, img := [], loadFrom := s.clk.count }).wr CHART_STATUS_PHASE PH_FETCH).irqUpdate

/-- LOAD. -/
def execLoad (p : Port) (s : State) : Host.Outcome State Fault Refusal := .next (s.loadReq p)

/-! ### Hot loads (R70 to R74) -/

/-- CHART_CTRL.HOT_LOAD (R70). -/
def State.hotReq (s : State) (p : Port) : State :=
  if !(s.inRun && s.redundant && s.isStandby) then s.wr CHART_STATUS_CAUSE 0x22
  else if s.on CHART_STATUS_HOT_PEND then s.range p A_CHART_CTRL
  else (s.setChart { s.chart with hot := [], hotReady := false }).wr CHART_STATUS_HOT_PEND 1

/-- HOT_LOAD. -/
def execHotLoad (p : Port) (s : State) : Host.Outcome State Fault Refusal := .next (s.hotReq p)

/-- The number of the first section that is not hot and differs from the running chart's in presence, LENGTH or CRC (R71);
0xFF for one that is missing. -/
def State.hotDiffers (s : State) (img : List Byte) : Option Nat :=
  let cold := fun (key : Nat) => !isHot (key / 256)
  match (chartDir img).find? (fun e => cold e.key && !(s.chart.dir.any (fun x => decide (x = (e.key, e.flags, e.len, e.crc))))) with
  | some e => some e.idx
  | none => if s.chart.dir.any (fun x => cold x.1 && !((chartDir img).any (fun e => decide (e.key = x.1)))) then some 0xFF else none

/-- HOT_CHECK: FETCH, VERIFY and CHECK of a pending hot load, and the comparison of R71. -/
def execHotCheck (s : State) : Host.Outcome State Fault Refusal :=
  if !s.on CHART_STATUS_HOT_PEND ∨ s.chart.hotReady then .next s
  else
    let refuse := fun (c i : Nat) => Host.Outcome.next ((s.hotDrop c).wr CHART_STATUS_FAIL_INDEX i)
    match fetchBytes s.stageRead s.stageRoom with
    | .error (c, i) => refuse c i
    | .ok img =>
      match s.verifyBad img with
      | some c => refuse c 0xFF
      | none =>
        match s.checkBad img with
        | some (c, i) => refuse c i
        | none =>
          match s.hotDiffers img with
          | some i => refuse 0x20 i
          | none => .next (s.setChart { s.chart with hot := img, hotReady := true })

/-- The hot sections of a chart replace the running ones (R72, R73, R237, R299 to R301, R582, R601). -/
def State.hotTake (s : State) (img : List Byte) : State :=
  let old := s.chart.secs
  let hot := (chartSecs img).filter (fun x => isHot (x.1 / 256))
  let kp := (List.range 48).map (fun n => s.coef (s.rd LOOP_STAT_BANK) n 0)
  let keep := old.filter (fun x => !isHot (x.1 / 256))
  let s := s.setChart { s.chart with secs := hot.foldl (fun l x => tins x.1 x.2 l) keep, dir := dirKeep img }
  let s := hot.foldl (fun s x =>
    let ty := x.1 / 256
    if ty = T_REEF then s.applyReef (x.1 % 256) x.2 else if ty = T_LOOP then s.applyLoop x.2 else s) s
  let s := s.resortStart
  let s := s.loopHot (secIn old T_LOOP 0) kp
  let s := if s.profSec.isEmpty then s else if (secIn old T_PROF 0).isEmpty then s.profBuild else s.profHot
  let s := s.netEntries (secIn old T_NET 0)
  (s.wr CHART_ID (b32 img 12)).wr CHART_HOT_DIGEST (hotDigest img)

/-- HOT_APPLY: this edge is the first of a control period, and a hot load that has passed its checks takes effect (R72). -/
def execHotApply (s : State) : Host.Outcome State Fault Refusal :=
  if s.on CHART_STATUS_HOT_PEND ∧ s.chart.hotReady then
    let s := s.hotTake s.chart.hot
    let s := s.setChart { s.chart with hot := [], hotReady := false }
    let s := s.setRed { s.red with shHold := 64 }
    .next ((s.wr CHART_STATUS_HOT_PEND 0).wr CHART_STATUS_CAUSE 0)
  else .next s

/-- HOT_ABORT: CHART_CTRL.HOT_ABORT before the apply edge (R73). -/
def execHotAbort (s : State) : Host.Outcome State Fault Refusal := .next (s.hotDrop 0x23)

end Sys2Proof.Machine
end

