-- ==== Sys2Proof/Machine/CwFreight.lean ====
section
/-! DEFINITION. The freight engine: the ring of descriptors, requests, COLLECTs, replies, and the private slot of the
Harbour monitor (R140 to R143, R460, R629). -/

namespace Sys2Proof.Machine
open Sys2Proof

/-! ### The ring (R140, R141) -/

/-- The SRAM address of a descriptor. -/
def State.descAt (s : State) (i : Nat) : Nat := s.rd CW_FR_BASE_BASE * 64 + 64 * i

/-- BUSY: a posted descriptor is not yet done or failed. -/
def State.frBusy (s : State) : State := s.wr CW_FR_STAT_BUSY (b2n (decide (s.rd CW_FR_HEAD ≠ s.rd CW_FR_TAIL)))

/-- A write of CW_FR_HEAD (R141, R165). -/
def State.writeFrHead (s : State) (p : Port) (h : Nat) : State :=
  let n := s.rd CW_FR_SIZE
  let hd := s.rd CW_FR_HEAD
  let tl := s.rd CW_FR_TAIL
  if h < n ∧ (h + n - tl % n) % n ≥ (hd + n - tl % n) % n ∧ !(s.on CW_FR_STAT_BUSY ∧ h = hd) then (s.wr CW_FR_HEAD h).frBusy
  else s.range p A_CW_FR_HEAD

/-- A write of CW_FR_BASE or CW_FR_SIZE (R165). -/
def State.writeFrRing (s : State) (p : Port) (a v : Nat) : State :=
  if s.on CW_FR_STAT_BUSY ∨ (a = A_CW_FR_SIZE ∧ v % 8192 > 4096) then s.range p a
  else if a = A_CW_FR_SIZE then s.wr CW_FR_SIZE v else s.wr CW_FR_BASE_BASE (v / 64)

/-- FREIGHT_POST. -/
def execFreightPost (p : Port) (h : Nat) (s : State) : Host.Outcome State Fault Refusal := .next (s.writeFrHead p (h % 4096))

/-- STATE of a descriptor. -/
def State.descState (s : State) (i : Nat) : Nat := (s.byte (s.descAt i + 3)).toNat

/-- The engine writes a byte of a descriptor. -/
def State.descPut (s : State) (i o v : Nat) : State :=
  if i < 4096 then s.setByte (s.descAt i + o) (BitVec.ofNat 8 v) else s

/-- CW_FR_TAIL passes every leading descriptor that is done or failed. -/
def State.tailGo : Nat → State → State
  | 0, s => s
  | k + 1, s =>
    let t := s.rd CW_FR_TAIL
    if t ≠ s.rd CW_FR_HEAD ∧ s.descState t ≥ 2 then tailGo k (s.wr CW_FR_TAIL ((t + 1) % max (s.rd CW_FR_SIZE) 1)) else s

def State.tailMove (s : State) : State := (tailGo (s.rd CW_FR_SIZE) s).frBusy

/-- A descriptor fails: STATE 0x03, its RSP, CW_FR_STAT.FAILED, route source 0x31 (R141, R142, R331). -/
def State.descFail (s : State) (i rsp : Nat) : State :=
  (((s.descPut i 3 3).descPut i 57 rsp).wr CW_FR_STAT_FAILED 1 |>.tailMove).fireRoute 0x31

/-- A descriptor is done: STATE 0x02, its RSP, the count, route source 0x30. -/
def State.descDone (s : State) (i rsp : Nat) : State :=
  (((s.descPut i 3 2).descPut i 57 rsp).incW CW_FR_STAT_DONE_CNT |>.tailMove).fireRoute 0x30

/-! ### Checks (R142) -/

/-- The causeways that a request concerns (R143). -/
def State.frWays (s : State) (cell : Nat) : List Nat :=
  if bitOf cell 14 then s.causeways
  else if bitOf cell 15 then (if s.cwUsed (cell / 64 % 128) then [cell / 64 % 128] else [])
  else [cell % 8192 / 64]

/-- A request of R142's form is refused. -/
def State.frRefused (s : State) (cell op addr len index : Nat) : Bool :=
  let many := bitOf cell 14 || bitOf cell 15
  let rw := decide (op = 1 ∨ op = 2)
  !(decide (1 ≤ op) && decide (op ≤ 6))
  || (!many && !s.isCell (cell % 8192))
  || (many && decide (op ≠ 4))
  || decide (len > 48) || (rw && decide (len % 4 ≠ 0))
  || decide (index > (if op = 3 then 5 else if op = 4 then 8191 else 0))
  || (rw && decide (addr % 4 ≠ 0)) || (decide (op = 6) && decide (addr ≠ 0x80000000 + cell % 8192))

/-! ### Issue (R141, R143, R629) -/

def State.setJob (s : State) (c : Nat) (j : Option FrJob) : State := s.setWay c { s.way c with job := j, back := [] }

/-- A request enters the causeways it concerns, to leave with their next ferries. A cell whose record is STALE, as a parked
cell's is, is sent a wake order first (R360). -/
def State.issue (s : State) (j : FrJob) : State :=
  let many := bitOf j.cell 14 || bitOf j.cell 15
  let s := if !many ∧ s.stale (j.cell % 8192) then s.needSingle (j.cell % 8192) .wake 0 else s
  (s.frWays j.cell).foldl (fun s c => s.setJob c (some j)) s

/-- The causeways of a request are all free. -/
def State.waysFree (s : State) (cell : Nat) : Bool := (s.frWays cell).all (fun c => (s.way c).job.isNone)

/-- The job of descriptor i, from its 64 bytes. -/
def jobOf (i : Nat) (b : List Byte) : FrJob :=
  { idx := i, cell := leNat (b.take 2), op := b8 b 2, addr := leNat ((b.drop 4).take 4), data := (b.drop 8).take 48, len := b8 b 56,
    index := leNat ((b.drop 60).take 2), tries := 0, coll := 0, phase := 0, at_ := 0 }

/-- Look at descriptor i: refused, failed, issued where its causeways are free, or passed over. -/
def State.issueDesc (s : State) (i : Nat) : State × Bool :=
  if s.descState i ≠ 0 then (s, false)
  else
    match s.readMem .freight (s.descAt i) 64 with
    | (.error _, s) => ((s.raise 0x084 i).descFail i 0xFF, true)
    | (.ok b, s) =>
      let j := jobOf i b
      if s.frRefused j.cell j.op j.addr j.len j.index then (((s.descPut i 58 0).raise 0x084 i).descFail i 0xFE, true)
      else if (s.frWays j.cell).isEmpty then (s.descDone i 1, true)
      else if s.waysFree j.cell then ((s.descPut i 3 1).issue j, true)
      else (s, false)

/-- The first descriptor from index i on, `k` of them to look at, that the engine can act on. -/
def State.issueFrom : Nat → Nat → State → State
  | 0, _, s => s
  | k + 1, i, s =>
    if i = s.rd CW_FR_HEAD then s
    else
      let (s, acted) := s.issueDesc i
      if acted then s else State.issueFrom k ((i + 1) % max (s.rd CW_FR_SIZE) 1) s

/-- FREIGHT_ISSUE: the freight engine of an active serves the monitor's slot, then the next descriptor whose causeway is free
(R141, R143, R629). -/
def execFreightIssue (s : State) : Host.Outcome State Fault Refusal :=
  if !(s.inRun ∧ s.isActive) then .next s
  else
    match s.mon.slot with
    | some j =>
      if s.waysFree j.cell then .next (({ s with mon := { s.mon with slot := none } }).issue j)
      else .next (State.issueFrom (s.rd CW_FR_SIZE) (s.rd CW_FR_TAIL) s)
    | none => .next (State.issueFrom (s.rd CW_FR_SIZE) (s.rd CW_FR_TAIL) s)

/-- FREIGHT_COLLECT: the COLLECT of causeway c's request is to leave with its next ferry, which is at least the second after
the request's (R141). -/
def execFreightCollect (c : Nat) (s : State) : Host.Outcome State Fault Refusal :=
  match (s.way c).job with
  | none => .next s
  | some j =>
    if j.phase = 1 ∧ (j.op = 1 ∨ j.op = 2 ∨ j.op = 5) ∧ s.reef.cyc ≥ j.at_ + 1 then
      .next (s.setJob c (some { j with phase := 2 }))
    else .next s

/-! ### Replies (R139, R141, R143, R629) -/

/-- The words of a byte string with their addresses, as the monitor prints them. -/
def wordLines (a : Nat) : Nat → List Byte → List Line
  | 0, _ => []
  | k + 1, b => .word a (BitVec.ofNat 32 (leNat (b.take 4))) :: wordLines (a + 4) k (b.drop 4)

/-- The final lines of a monitor command that took time (R621). -/
def State.monEnd (s : State) (l : Line) : State :=
  let s := (s.say l).wr MON_STAT_BUSY 0
  let s := if s.mon.late then s.sayErr 5 else s
  { s with mon := { s.mon with late := false } }

/-- The final lines of a CELL command with its FR_RSP (R629). -/
def State.monReply (s : State) (j : FrJob) (rsp len : Nat) (data : List Byte) : State :=
  let s :=
    if rsp ≠ 1 then s
    else if j.op = 1 then (wordLines j.addr (len / 4) data).foldl (fun s l => s.say l) s
    else if j.op = 5 then s.say (.bytes j.addr (data.take 48))
    else s
  s.monEnd (if rsp = 1 then .ok else if rsp = 5 ∨ rsp = 6 then .err 4 none else if rsp = 4 then .err 3 (some 4) else .err 6 (some rsp))

/-- The request of causeway c ends with an RSP, done or failed. -/
def State.jobEnd (s : State) (c : Nat) (j : FrJob) (done : Bool) (rsp len : Nat) (data : List Byte) : State :=
  let s := s.setJob c none
  if j.idx ≥ 4096 then s.monReply j rsp len data
  else
    let others := s.causeways.any (fun d => match (s.way d).job with | some k => decide (k.idx = j.idx) | none => false)
    if !done then s.descFail j.idx rsp
    else if others ∨ s.descState j.idx ≥ 2 then s
    else
      let s := if j.op = 1 ∨ j.op = 5 then (s.setBytes (s.descAt j.idx + 8) data).descPut j.idx 56 len else s
      s.descDone j.idx rsp

/-- The request is sent again, up to three times in all (R141). -/
def State.jobAgain (s : State) (c : Nat) (j : FrJob) : State :=
  if j.tries < 3 then s.setJob c (some { j with phase := 0, coll := 0 }) else s.jobEnd c j false 0xFF 0 []

/-- FREIGHT_REPLY: the ferry that carried the freight of causeway c has come back, or has not: the reply completes the
request, brings a further COLLECT, or the request again (R141, R143). -/
def execFreightReply (c : Nat) (s : State) : Host.Outcome State Fault Refusal :=
  let w := s.way c
  match w.job with
  | none => .next s
  | some j =>
    let head := w.back.take 4
    let fr := w.back.drop 4
    let good := decide (fr.length = 64) && decide (crc32 (head ++ fr.take 60) = beNat ((fr.drop 60).take 4))
    if j.phase = 3 then
      let rsp := b8 fr 53
      if !good ∨ b8 head 2 ≠ 0x10 ∨ rsp = 0 ∨ rsp = 3 then .next (s.jobAgain c j)
      else if rsp = 2 then
        if j.coll < 8 then .next (s.setJob c (some { j with phase := 2, coll := j.coll + 1 })) else .next (s.jobAgain c j)
      else .next (s.jobEnd c j true rsp (b8 fr 52) ((fr.drop 4).take 48))
    else if j.phase = 1 ∧ !(j.op = 1 ∨ j.op = 2 ∨ j.op = 5) then
      if s.redundant ∨ !w.back.isEmpty then .next (s.jobEnd c j true 1 0 []) else .next (s.jobAgain c j)
    else .next s

end Sys2Proof.Machine
end

