-- ==== Sys2Proof/Machine/Bus.lean ====
section
/-! DEFINITION. Reads and writes of the Balgal's address map by every port: access codes, LOCK, range and lock-write raises,
the registers whose write acts, bus errors (R11 to R21, R27, R63, R170, R311, R317, R459, R651 to R653). -/

namespace Sys2Proof.Machine
open Sys2Proof

/-! ### LOCK and stored fields (R14 to R16, R21, R653) -/

/-- The register that holds the LOCK bit of block b: the first of the block, or of the first LANE or CW block (R650). -/
def lockAddr (b : Nat) : Nat := 0x40000000 + 0x10000 * (if b = 3 then 2 else if b = 5 then 4 else b)

/-- LOCK of the block of a register. -/
def State.locked (s : State) (a : Nat) : Bool := bitOf (s.rdW (lockAddr (blkOf a))).toNat 31

/-- The WL fields whose range excludes 0 (R21, R106, R117, R201, R427, R505). -/
def notZeroFields : List (Nat × Nat × Nat × Nat × Nat) :=
  [(A_LANE_TIMING, 4, 1, 0, 16), (A_LANE_TIMING, 4, 1, 16, 8), (A_LANE_CFG 0, 0x100, 112, 4, 4), (A_LANE_CFG 0, 0x100, 112, 16, 16),
   (A_LANE_TXEQ 0, 0x100, 112, 8, 6), (A_TIME_THRESH, 4, 1, 0, 20), (A_TIME_THRESH, 4, 1, 24, 5), (A_TIME_CP, 4, 1, 0, 6),
   (A_FLT_TIMING, 4, 1, 16, 16), (A_ACQ_REC_CFG, 4, 1, 8, 7)]

/-- Whether the field (bit lo, width w) of the register at `a` excludes 0. -/
def notZeroFld (a lo w : Nat) : Bool :=
  notZeroFields.any (fun f => decide (f.1 ≤ a) && decide ((a - f.1) % f.2.1 = 0) && decide ((a - f.1) / f.2.1 < f.2.2.1) &&
    decide (f.2.2.2.1 = lo) && decide (f.2.2.2.2 = w))

/-- The value written, with each zero that its field excludes replaced by the stored value. -/
def keepZeros (a : Nat) (fs : List FieldDesc) (old v : Word) : Word :=
  fs.foldl (fun v f => if notZeroFld a f.lo f.w ∧ bitsOf v f.lo f.w = 0 then bitsPut v f.lo f.w (bitsOf old f.lo f.w) else v) v

/-- A write for a WL field carries a value that differs from the stored one. -/
def wlDiffers (fs : List FieldDesc) (old v : Word) : Bool :=
  fs.any (fun f => decide (f.acc = .wl) && decide (bitsOf v f.lo f.w ≠ bitsOf old f.lo f.w))

/-- Store a write of `v` by the access codes of the register's fields: WL fields while LOCK is 0, else lock-write when one
differs; a zero that a field excludes raises range (R14, R16, R21, R653). -/
def State.store (s : State) (p : Port) (a : Nat) (r : RegDesc) (v : Word) : State :=
  let old := s.rdW a
  let lk := s.locked a
  let v' := if lk then v else keepZeros a r.fields old v
  let s := s.wrW a (accWrite r.fields lk old v')
  let s := if lk ∧ wlDiffers r.fields old v then s.lockWrite p a else s
  if v' ≠ v then s.range p a else s

/-! ### Registers whose write acts -/

/-- The state that a command's meaning leaves. -/
def State.run (s : State) (f : State → Host.Outcome State Fault Refusal) : State :=
  match f s with
  | .next t => t
  | _ => s

/-- TOP. -/
def State.writeTop (s : State) (p : Port) (a : Nat) (r : RegDesc) (v : Word) : State :=
  if a = A_TOP_RESET then s.writeReset p v
  else if a = A_TOP_BLOCKALL then s.writeBlockall p v
  else
    let s := s.store p a r v
    if a = A_TOP_TEMP ∧ bitOf v.toNat 31 then s.run execPeakClr else s

/-- CHART: LOAD, HOT_LOAD, HOT_ABORT (R59, R70, R73). -/
def State.writeChart (s : State) (p : Port) (a : Nat) (r : RegDesc) (v : Word) : State :=
  let s := s.store p a r v
  if a = A_CHART_CTRL then
    let s := if bitOf v.toNat 0 then s.loadReq p else s
    let s := if bitOf v.toNat 1 then s.hotReq p else s
    if bitOf v.toNat 2 then s.run execHotAbort else s
  else s

/-- LANE. -/
def State.writeLane (s : State) (p : Port) (a : Nat) (r : RegDesc) (v : Word) : State :=
  if 0x40031000 ≤ a ∧ a % 0x100 = 0x10 then s.writeEye p (idx a 0x40031000 0x100) v.toNat else s.store p a r v

/-- CW: the freight ring, MEASURE; a causeway not in use takes no write (R164, R165). -/
def State.writeCw (s : State) (p : Port) (a : Nat) (r : RegDesc) (v : Word) : State :=
  if a = A_CW_FR_BASE ∨ a = A_CW_FR_SIZE then s.writeFrRing p a v.toNat
  else if a = A_CW_FR_HEAD then s.writeFrHead p (v.toNat % 4096)
  else if 0x40041000 ≤ a ∧ a < 0x40050000 then
    let c := idx a 0x40041000 0x100
    if !s.cwUsed c then s else if a % 0x100 = 0 then s.writeMeasure p c v.toNat else s
  else s.store p a r v

/-- TIME_CTRL: the commands act whatever LOCK holds; MAIN_EN 0 takes CT to the fallback pair (R16, R175, R182). -/
def State.writeTimeCtrl (s : State) (p : Port) (r : RegDesc) (v : Word) : State :=
  let s := s.store p A_TIME_CTRL r v
  let s := if s.on TIME_CTRL_MAIN_EN then s else s.wr TIME_STAT_PATH 1
  let s := if bitOf v.toNat 1 then s.acceptStep p else s
  let s := if bitOf v.toNat 2 then s.slewJump p else s
  if bitOf v.toNat 3 then s.discardJump p else s

/-- TIME. -/
def State.writeTime (s : State) (p : Port) (a : Nat) (r : RegDesc) (v : Word) : State :=
  if a = A_TIME_CTRL then s.writeTimeCtrl p r v
  else if a = A_TIME_MARK_CTRL then s.writeMark p v.toNat
  else if 0x40060100 ≤ a ∧ a < 0x40060300 ∧ a % 0x20 = 0x14 then
    let k := idx a 0x40060100 0x20
    let s := s.store p a r v
    let s := if bitOf v.toNat 1 then s.trigDisarm k else s
    if bitOf v.toNat 0 then s.trigArm p k else s
  else s.store p a r v

/-- REEF. -/
def State.writeReef (s : State) (p : Port) (a : Nat) (r : RegDesc) (v : Word) : State :=
  if a = A_REEF_RETIRE then s.writeRetire p v.toNat
  else if a = A_REEF_HEALTH_SET then s.writeHealth p v.toNat
  else s.store p a r v

/-- RUN: HALT before GO, which a block-all on its edge turns away (R265, R657). -/
def State.writeRun (s : State) (p : Port) (a : Nat) (r : RegDesc) (v : Word) : State :=
  if a = A_RUN_CTRL then
    let s := if bitOf v.toNat 1 then s.blockAll 1 else s
    if bitOf v.toNat 0 then s.go p else s
  else if a = A_RUN_TIMING then s.writeTiming p v.toNat
  else if a = A_RUN_SIGN then s.writeSign p v.toNat
  else s.store p a r v

/-- LOOP (R292, R293, R305 to R308). -/
def State.writeLoop (s : State) (p : Port) (a : Nat) (r : RegDesc) (v : Word) : State :=
  if a = A_LOOP_CTRL then
    let s := s.store p a r v
    if bitOf v.toNat 0 then s.run execSwap else s
  else if a = A_LOOP_RESTART then s.writeRestart p v.toNat
  else if a = A_LOOP_TRACE_BASE then s.writeTraceBase p v.toNat
  else if 0x40091000 ≤ a ∧ a < 0x40092000 then
    let u := idx a 0x40091000 0x20
    let o := a % 0x20
    if o = 0 ∨ o = 4 then s.writeTap p u a v.toNat
    else if o = 8 then s.writeTapCtrl p u v.toNat
    else s.store p a r v
  else if 0x40092000 ≤ a then
    s.writeCoef p (idx a 0x40092000 0x800) (a % 0x800 / 0x20) (a % 0x20 / 4) v
  else if 0x40090200 ≤ a ∧ a < 0x40090600 ∧ !s.slotUsed (a % 0x100 / 4) then s
  else s.store p a r v

/-- SCHED (R318 to R325, R336, R341). -/
def State.writeSched (s : State) (p : Port) (a : Nat) (r : RegDesc) (v : Word) : State :=
  if a = A_SCHED_CTRL then
    let s := s.store p a r v
    if bitOf v.toNat 0 then s.run execObsClear else s
  else if a = A_SCHED_OBS then (s.store p a r v).observe
  else if a = A_SCHED_TRACE_BASE ∨ a = A_SCHED_TRACE_SIZE then
    (if s.on SCHED_OBS_TRACING then s.range p a else s.store p a r v)
  else if a = A_SCHED_SET then s.run (execSchedSet p v)
  else if a = A_SCHED_DONE then s.run (execSchedDone p v)
  else if 0x400A1000 ≤ a ∧ a < 0x400A2000 then
    let t := idx a 0x400A1000 16
    if a % 16 = 0 then (s.store p a r v).run (execTaskEnable t (bitOf v.toNat 0))
    else if a % 16 = 8 then s.run (execWaitWrite t v)
    else s.store p a r v
  else if 0x400A2000 ≤ a ∧ a < 0x400A2400 then s.run (execSchedFlags (idx a 0x400A2000 4) v)
  else if 0x400A2400 ≤ a ∧ a < 0x400A2800 then s.run (execSchedFlagsClr (idx a 0x400A2400 4) v)
  else s.store p a r v

/-- Sixty-four free values: the registers of an engine as its program left them. -/
def State.freeWords (s : State) : Nat → List Word × State
  | 0 => ([], s)
  | n + 1 =>
    let (v, s) := s.free 32
    let (t, s) := s.freeWords n
    (BitVec.ofNat 32 v :: t, s)

/-- SND_CTRL[e]: HALT, RESET, RUN. The program counter and the registers that a halt finds are the program's, and free
here. -/
def State.writeSnd (s : State) (p : Port) (a : Nat) (r : RegDesc) (v : Word) : State :=
  if 0x400B1000 ≤ a ∧ a % 0x100 = 0 then
    let e := idx a 0x400B1000 0x100
    let s := if bitOf v.toNat 0 then
        let (pc, s) := s.free 32
        let (rs, s) := s.freeWords 64
        s.run (execEngineHalt p e pc rs)
      else s
    let s := if bitOf v.toNat 2 then s.run (execEngineReset p e) else s
    if bitOf v.toNat 1 then s.run (execEngineRun p e) else s
  else s.store p a r v

/-- CONV (R407, R410, R415, R419, R424). -/
def State.writeConv (s : State) (p : Port) (a : Nat) (r : RegDesc) (v : Word) : State :=
  if a = A_CONV_MAINS_SW then s.writeMainsSw p v.toNat
  else if a = A_CONV_TRIG then s.writeConvTrig v.toNat
  else if 0x400C1000 ≤ a then
    let n := idx a 0x400C1000 0x100
    if a % 0x100 = 0 then s.writeConvCfg p n v
    else if a % 0x100 = 8 then s.writeStream p n v.toNat
    else s.store p a r v
  else s.store p a r v

/-- ACQ: no effect with REC_SIZE 0; a WL field is written in IDLE only, PRE and POST to 24 bits (R444). -/
def State.writeAcq (s : State) (p : Port) (a : Nat) (r : RegDesc) (v : Word) : State :=
  if s.rd ACQ_REC_SIZE = 0 then s
  else if a = A_ACQ_REC_CTRL then
    let s := s.store p a r v
    let s := if bitOf v.toNat 2 then s.recStop p else s
    let s := if bitOf v.toNat 0 then s.recArm p else s
    if bitOf v.toNat 1 then s.recForce p else s
  else if a = A_ACQ_SEG_FULL 0 ∨ a = A_ACQ_SEG_FULL 1 then s.segFree (idx a (A_ACQ_SEG_FULL 0) 4) v.toNat
  else if a = A_ACQ_REC_PRE ∨ a = A_ACQ_REC_POST then (if v.toNat ≥ 2 ^ 24 then s.range p a else s.store p a r v)
  else if 0x400D1000 ≤ a ∧ 8 ≤ a % 0x40 ∧ a % 0x40 ≤ 0x10 then s.engWrite (idx a 0x400D1000 0x40) (a % 0x40 / 4 - 2) v
  else if !s.locked a ∧ s.recState ≠ RS_IDLE ∧ r.fields.any (fun f => decide (f.acc = .wl)) then s.range p a
  else s.store p a r v

/-- MEM (R451, R465, R466, R480). -/
def State.writeMemReg (s : State) (p : Port) (a : Nat) (r : RegDesc) (v : Word) : State :=
  if a = A_MEM_RETIRE then s.writeMemRetire p v.toNat
  else if a = A_MEM_PWR then s.writeMemPwr p v.toNat
  else if a = A_MEM_BIST_CTRL then s.writeBist v.toNat
  else if a = A_MEM_UE_INFO then (if bitOf v.toNat 0 then (s.wrW A_MEM_UE_INFO 0).wrW A_MEM_UE_ADDR 0 else s)
  else s.store p a r v

/-- DMA (R476 to R483). -/
def State.writeDma (s : State) (p : Port) (a : Nat) (r : RegDesc) (v : Word) : State :=
  if a = A_DMA_CTRL then
    let s := s.store p a r v
    if bitOf v.toNat 0 then s.dmaClear p else s
  else if 0x400F1000 ≤ a then
    let n := idx a 0x400F1000 0x40
    if a % 0x40 = 0 then s.writeDmaCtrl p n v.toNat
    else if a % 0x40 = 4 then s.dmaDesc p n v.toNat
    else s.store p a r v
  else s.store p a r v

/-- A write of FLT_CLASS[i]: fixed sources and IDs that name none are read-only; a value that breaks R487 or R506 raises
range. -/
def State.writeClass (s : State) (p : Port) (a : Nat) (r : RegDesc) (v : Word) : State :=
  let i := idx a 0x40101000 4
  if srcFixed.contains i ∨ !isSource i then s
  else if bitsOf v 0 2 = 3 ∨ (bitsOf v 0 2 ≠ 0 ∧ bitsOf v 2 1 = 0) then s.range p a
  else s.store p a r v

/-- FLT (R492, R493, R507). -/
def State.writeFlt (s : State) (p : Port) (a : Nat) (r : RegDesc) (v : Word) : State :=
  if a = A_FLT_SW then s.run (execFltSw v)
  else if 0x40100020 ≤ a ∧ a < 0x40100080 ∧ a % 0x20 = 0 then
    (if bitOf v.toNat 31 then s.run (execFaultAck p (idx a 0x40100020 0x20)) else s)
  else if 0x40101000 ≤ a ∧ a < 0x40102000 then s.writeClass p a r v
  else s.store p a r v

/-- RED: REQUEST (R518). -/
def State.writeRed (s : State) (p : Port) (a : Nat) (r : RegDesc) (v : Word) : State :=
  let s := s.store p a r v
  if a = A_RED_CTRL ∧ bitOf v.toNat 0 then s.redRequest else s

/-- SAFE: STOP_REQ and K_REQ (R550). -/
def State.writeSafe (s : State) (p : Port) (a : Nat) (r : RegDesc) (v : Word) : State :=
  let s := s.store p a r v
  if a = A_SAFE_CTRL then
    let s := s.kReq (bitsOf v 8 8)
    if bitOf v.toNat 0 then s.stopReq else s
  else s

/-- PROF (R566, R573, R575). -/
def State.writeProf (s : State) (p : Port) (a : Nat) (r : RegDesc) (v : Word) : State :=
  if a = A_PROF_CTRL then (s.store p a r v).profCommand (bitsOf v 0 3)
  else if A_PROF_V ≤ a ∧ a ≤ A_PROF_J then s.writeLimit p (idx a A_PROF_V 4) v.toNat
  else if a = A_PROF_ANGLE then s.writeAngle p v
  else s.store p a r v

/-- NET: the strait mailboxes (R611). -/
def State.writeNet (s : State) (p : Port) (a : Nat) (r : RegDesc) (v : Word) : State :=
  if 0x40145000 ≤ a then
    let n := idx a 0x40145000 0x100
    if a % 0x100 = 4 then s.writeTxCtrl p n v.toNat
    else if 0x40 ≤ a % 0x100 ∧ a % 0x100 < 0x70 then s.writeTxBuf p n (a % 0x100 / 4 - 16) v
    else s.store p a r v
  else s.store p a r v

/-- HOST: the doorbells (R604, R607, R618). -/
def State.writeHost (s : State) (p : Port) (a : Nat) (r : RegDesc) (v : Word) : State :=
  if a = A_HOST_MSI_ACK then (if bitOf v.toNat 0 then s.msiAck else s)
  else if a = A_HOST_HDB_SET then s.hdbSet v
  else if a = A_HOST_PDB_SET then s.pdbSet p v
  else if a = A_HOST_QY_QDB_SET then s.qdbSet p v
  else s.store p a r v

/-- The monitor is disabled: it holds its output high, ignores its input and closes any open safety session (R631). -/
def State.monDisable (s : State) : State := (s.toView.wr MON_STAT_ENABLED 0).wr MON_CTRL_OFF 1

/-- MON: OFF (R631). -/
def State.writeMon (s : State) (p : Port) (a : Nat) (r : RegDesc) (v : Word) : State :=
  let s := s.store p a r v
  if a = A_MON_CTRL ∧ bitOf v.toNat 0 then s.monDisable else s

/-- A write of an existing register by its block. -/
def State.regAct (s : State) (p : Port) (a : Nat) (r : RegDesc) (v : Word) : State :=
  match blkOf a with
  | 0 => s.writeTop p a r v
  | 1 => s.writeChart p a r v
  | 2 => s.writeLane p a r v
  | 3 => s.writeLane p a r v
  | 4 => s.writeCw p a r v
  | 5 => s.writeCw p a r v
  | 6 => s.writeTime p a r v
  | 7 => s.writeReef p a r v
  | 8 => s.writeRun p a r v
  | 9 => s.writeLoop p a r v
  | 10 => s.writeSched p a r v
  | 11 => s.writeSnd p a r v
  | 12 => s.writeConv p a r v
  | 13 => s.writeAcq p a r v
  | 14 => s.writeMemReg p a r v
  | 15 => s.writeDma p a r v
  | 16 => s.writeFlt p a r v
  | 17 => s.writeRed p a r v
  | 18 => s.writeSafe p a r v
  | 19 => s.writeProf p a r v
  | 20 => s.writeNet p a r v
  | 21 => s.writeHost p a r v
  | 22 => s.writeMon p a r v
  | _ => s.store p a r v

/-- From FETCH to the end of BUILD a write reaches TOP, CHART and MON alone (R63). -/
def State.frozen (s : State) (a : Nat) : Bool :=
  decide (PH_FETCH ≤ s.phase) && decide (s.phase ≤ PH_BUILD) && !([0, 1, 22].contains (blkOf a))

/-- A write of `v` to an aligned word of register space: a bus error, or the state after it; the interrupt condition follows
(R11, R63, R500, R651). -/
def State.regWrite (s : State) (p : Port) (a : Nat) (v : Word) : Option Nat × State :=
  if a % 4 ≠ 0 then (some 3, s)
  else match findBal a with
    | none => (some 2, s)
    | some r => (none, if s.frozen a then s else (s.regAct p a r v).irqUpdate)

/-! ### Reads -/

/-- The latch that a read of TIME_NOW_FRAC takes (R170). -/
def State.latchNow (s : State) : CtLatch := ⟨s.ct, s.rd TIME_STAT_PATH, s.rd TIME_STAT_STATE⟩

/-- A read of TIME_NOW_FRAC by port p: its word, the value latched. -/
def State.readNow (s : State) (p : Port) : Word × State :=
  let l := s.latchNow
  (BitVec.ofNat 32 l.frac, { s with clk := s.clk.setLatch p l })

/-- A read of DMA_CH_STAT[n]: the requests that a running channel has outstanding are free within their ranges. -/
def State.readDmaStat (s : State) (n : Nat) : Word × State :=
  let w := s.rdW (A_DMA_CH_STAT n)
  if s.dmaState n = DM_RUN then
    let (r, s) := s.free 8
    let (q, s) := s.free 8
    (withFld (withFld w (DMA_CH_STAT_READS n) (r % 5)) (DMA_CH_STAT_WRITES n) (q % 9), s)
  else (w, s)

/-- A read of an existing register: the word, and the state with its RC fields cleared (R14, R19). -/
def State.regReadAt (s : State) (p : Port) (a : Nat) (r : RegDesc) : Word × State :=
  if a = A_TIME_NOW_FRAC then s.readNow p
  else if 0x400F1000 ≤ a ∧ a < 0x40100000 ∧ a % 0x40 = 8 then s.readDmaStat (idx a 0x400F1000 0x40)
  else
    (s.regView p a, if r.fields.any (fun f => decide (f.acc = .rc)) then s.wrW a (fieldsReset r.fields .rc (s.rdW a)) else s)

/-- A read of an aligned word of register space. -/
def State.regRead (s : State) (p : Port) (a : Nat) : Except Nat Word × State :=
  if a % 4 ≠ 0 then (.error 3, s)
  else match findBal a with
    | none => (.error 2, s)
    | some r => let (w, s) := s.regReadAt p a r; (.ok w, s)

/-! ### The whole map (R311, R312, R603) -/

def isRegSpace (a : Nat) : Bool := decide (0x40000000 ≤ a) && decide (a < 0x40180000)
def isHostSpace (a : Nat) : Bool := decide (0x60000000 ≤ a) && decide (a < 0x80000000)

/-- Where port p's address lies in the Balgal's map: an engine's own local memory is also that of R312. -/
def mapAddr (p : Port) (a : Nat) : Nat :=
  match p with
  | .engine e => if e < 16 ∧ 0x80000000 ≤ a ∧ a < 0x80040000 then a - 0x80000000 + 0x50000000 + 0x40000 * e else a
  | _ => a

/-- An outbound request can reach the host: the link is up and bus mastering enabled (R603). -/
def State.hostUp (s : State) : Bool := s.on HOST_STAT_LINK && s.mon.master

/-- The host address of an outbound request (R603). -/
def State.hostAddr (s : State) (a : Nat) : Nat :=
  s.rd HOST_OB_BASE_HI * 2 ^ 32 + s.rd HOST_OB_BASE_LO_ADDR * 2 ^ 29 + (a - 0x60000000)

/-- Read an aligned word; `host` is what the host answers with (R603). -/
def State.busRead (s : State) (p : Port) (a : Nat) (host : Word) : Except Nat Word × State :=
  let a := mapAddr p a
  if isRegSpace a then s.regRead p a
  else if a % 4 ≠ 0 then (.error 3, s)
  else if isHostSpace a then
    if s.hostUp then (.ok host, s.emit (.host false (s.hostAddr a) (leBytes 4 host.toNat))) else (.error 5, s)
  else match s.readMem p a 4 with
    | (.ok b, s) => (.ok (BitVec.ofNat 32 (leNat b)), s)
    | (.error c, s) => (.error c, s)

/-- Write an aligned word. -/
def State.busWrite (s : State) (p : Port) (a : Nat) (v : Word) : Option Nat × State :=
  let a := mapAddr p a
  if isRegSpace a then s.regWrite p a v
  else if a % 4 ≠ 0 then (some 3, s)
  else if isHostSpace a then
    if s.hostUp then (none, s.emit (.host true (s.hostAddr a) (leBytes 4 v.toNat))) else (some 5, s)
  else s.writeMem a (leBytes 4 v.toNat)

/-! ### The commands -/

/-- Show a read's result to its port. -/
def State.answer (s : State) (p : Port) : Except Nat Word → State
  | .ok w => s.emit (.readData p w)
  | .error c => s.emit (.busErr p c)

/-- Show a write's bus error to its port. -/
def State.answerWrite (s : State) (p : Port) : Option Nat → State
  | none => s
  | some c => s.emit (.busErr p c)

/-- REGISTER_WRITE: port p writes `len` bytes at register address `a`; an access other than an aligned word is a bus error
that changes nothing (R11, R14, R651). Nothing answers while the chip is held in reset, or a cell's fast domain is off;
`still` are the cell's fault inputs asserted now. -/
def execRegisterWrite (tgt : Chip) (p : Port) (len a : Nat) (v : Word) (still : List Nat) (s : State) :
    Host.Outcome State Fault Refusal :=
  match tgt with
  | .balgal =>
    if s.pwr.held ≠ 0 then .next s
    else if len ≠ 4 ∨ a % 4 ≠ 0 then .next (s.emit (.busErr p 3))
    else
      let (c, s) := s.regWrite p a v
      .next (s.answerWrite p c)
  | .skerry g =>
    if !(s.cell g).inRun then .next s
    else if len ≠ 4 ∨ a % 4 ≠ 0 then .next (s.emit (.busErr p 3))
    else if (findSk a).isNone then .next (s.emit (.busErr p 2))
    else .next (s.onCell g (fun k => (k.writeReg a v still 0).2))

/-- A register read of either chip. -/
def State.readAny (s : State) (tgt : Chip) (p : Port) (len a : Nat) : State :=
  match tgt with
  | .balgal =>
    if s.pwr.held ≠ 0 then s
    else if len ≠ 4 ∨ a % 4 ≠ 0 then s.emit (.busErr p 3)
    else if a = A_SCHED_ASK then s.run (execSchedAsk p)
    else
      let (w, s) := s.regRead p a
      s.answer p w
  | .skerry g =>
    if !(s.cell g).inRun then s
    else if len ≠ 4 ∨ a % 4 ≠ 0 then s.emit (.busErr p 3)
    else match ((s.cell g).readReg p a).1 with
      | none => s.emit (.busErr p 2)
      | some w => (s.onCell g (fun k => (k.readReg p a).2)).emit (.readData p w)

/-- RC_READ: port p reads `len` bytes at register address `a`: the stored value, and RC fields clear (R19). -/
def execRcRead (tgt : Chip) (p : Port) (len a : Nat) (s : State) : Host.Outcome State Fault Refusal := .next (s.readAny tgt p len a)

/-- TIME_NOW_LATCH: a read of TIME_NOW_FRAC, or of a cell's SK_TIME_NOW_FRAC, latches CT for the port (R170). -/
def execTimeNowLatch (tgt : Chip) (p : Port) (s : State) : Host.Outcome State Fault Refusal :=
  match tgt with
  | .balgal => .next (s.readAny .balgal p 4 A_TIME_NOW_FRAC)
  | .skerry g => .next (s.readAny (.skerry g) p 4 A_SK_TIME_NOW_FRAC)

/-- MON_OFF_WRITE: a write of 1 to MON_CTRL.OFF (R631). -/
def execMonOffWrite (s : State) : Host.Outcome State Fault Refusal := .next (if s.pwr.held ≠ 0 then s else s.monDisable)

end Sys2Proof.Machine
end

