-- ==== Sys2Proof/Machine/Dma.lean ====
section
/-! DEFINITION. The DMA engine: descriptors, transfers, the stop and what follows it (R471 to R479, R483). Data moves in the
command that reports the responses; the reads and writes of one transfer happen in order, element by element. -/

namespace Sys2Proof.Machine
open Sys2Proof

/-- Address of the current descriptor. -/
def State.dmaDescAddr (s : State) (n : Nat) : Nat := 32 * s.rd (DMA_CH_DESC_DESC n)

/-- The engine stops on a bus error (R477). A further error during the drain changes nothing more. -/
def State.dmaStop (s : State) (dir cause addr : Nat) : State :=
  if s.on DMA_STAT_STOPPED then s
  else
    let s := (s.wr DMA_STAT_STOPPED 1).wr DMA_STAT_DRAINED 0
    let s := ((s.wr DMA_STAT_ERR_EV 1).wrW A_DMA_ERR_ADDR (BitVec.ofNat 32 addr)).wr DMA_ERR_INFO_DIR dir
    let s := (s.wr DMA_ERR_INFO_CAUSE cause).raise 0x1E3 (0x1F + 256 * cause)
    (List.range 32).foldl (fun s n => if s.dmaState n = DM_FETCH ∨ s.dmaState n = DM_RUN then s.dmaTo n DM_STOPPED else s) s

/-! ### Descriptors (R471, R472) -/

def DmaCh.srcW (c : DmaCh) : Nat := 2 ^ c.sw
def DmaCh.dstW (c : DmaCh) : Nat := 2 ^ c.dw
def DmaCh.wide (c : DmaCh) : Nat := max c.srcW c.dstW
def DmaCh.srcInc (c : DmaCh) : Bool := bitOf c.flags 0
def DmaCh.dstInc (c : DmaCh) : Bool := bitOf c.flags 1
def DmaCh.last (c : DmaCh) : Bool := bitOf c.flags 2
def DmaCh.event (c : DmaCh) : Bool := bitOf c.flags 3

/-- The fields of a descriptor, least significant byte first. -/
def dmaParse (d : List Byte) : DmaCh :=
  let w := leNat (d.drop 12 |>.take 1)
  { src := leNat (d.take 4), dst := leNat (d.drop 4 |>.take 4), len := leNat (d.drop 8 |>.take 4), sw := w % 8, dw := w / 16 % 8,
    flags := leNat (d.drop 13 |>.take 1), next := leNat (d.drop 16 |>.take 4) }

/-- The region of an address: the SRAM window, a register block, a local memory, or the PCIe window (R311, R472). -/
def dmaRegion (a : Nat) : Option Nat :=
  if a < 0x04000000 then some 0
  else if isRegSpace a then some (1 + blkOf a)
  else if 0x50000000 ≤ a ∧ a < 0x50400000 then some (0x1000 + (a - 0x50000000) / 0x40000)
  else if isHostSpace a then some 0x2000
  else none

/-- An advancing range of `len` bytes leaves its region. -/
def dmaCrosses (inc : Bool) (a len : Nat) : Bool := inc && decide (len ≠ 0) && decide (dmaRegion a ≠ dmaRegion (a + len - 1))

/-- A fixed address in register space with a width other than 32 bits. -/
def dmaFixed (inc : Bool) (a w : Nat) : Bool := !inc && isRegSpace a && decide (w ≠ 2)

/-- The refusal reason of a descriptor, the lowest that holds; 0 accepts it. -/
def dmaReason (d : List Byte) : Nat :=
  let c := dmaParse d
  let w := leNat (d.drop 12 |>.take 1)
  if c.sw ≥ 5 ∨ c.dw ≥ 5 ∨ bitOf w 3 ∨ bitOf w 7 ∨ c.flags ≥ 16 ∨ leNat (d.drop 14 |>.take 2) ≠ 0 ∨ leNat (d.drop 24 |>.take 8) ≠ 0 then 1
  else if c.src % c.srcW ≠ 0 ∨ c.dst % c.dstW ≠ 0 then 2
  else if c.len % c.wide ≠ 0 then 3
  else if dmaFixed c.srcInc c.src c.sw ∨ dmaFixed c.dstInc c.dst c.dw then 4
  else if dmaCrosses c.srcInc c.src c.len ∨ dmaCrosses c.dstInc c.dst c.len then 5
  else if !c.last ∧ (c.next % 32 ≠ 0 ∨ c.next ≥ 0x04000000) then 6
  else 0

/-- Write RESULT of channel n's descriptor: bytes, code, reason. A bus error stops the engine (R479). -/
def State.dmaResult (s : State) (n bytes code reason : Nat) : Bool × State :=
  let a := s.dmaDescAddr n + 20
  match s.writeMem a (leBytes 4 (bytes % 2 ^ 25 + code * 2 ^ 25 + reason * 2 ^ 28)) with
  | (none, s) => (true, s)
  | (some c, s) => (false, s.dmaStop 1 c a)

/-- All data of the descriptor is written: RESULT, the count, the event, then NEXT or IDLE (R475). -/
def State.dmaFinish (s : State) (n : Nat) : State :=
  let c := s.dmaCh n
  match s.dmaResult n c.len 1 0 with
  | (false, s) => s
  | (true, s) =>
    let s := s.inc (DMA_CH_CNT n)
    let s := if c.event then s.fireRoute (0x10 + n) else s
    if c.last then s.dmaTo n DM_IDLE else (s.wr (DMA_CH_DESC_DESC n) (c.next / 32)).dmaToFetch n

/-- Refuse the descriptor of channel n (R472). -/
def State.dmaRefuse (s : State) (n reason : Nat) : State :=
  match s.dmaResult n 0 2 reason with
  | (false, s) => s
  | (true, s) =>
    let s := ((s.dmaTo n DM_ERROR).wr (DMA_CH_STAT_REFUSED_EV n) 1).wr (DMA_CH_STAT_REASON n) reason
    (s.wr DMA_STAT_DESC_EV 1).raise 0x1E2 (n + 256 * reason)

/-- DMA_FETCH: channel n's descriptor has been read (R472, R474). -/
def execDmaFetch (n : Nat) (s : State) : Host.Outcome State Fault Refusal :=
  if n ≥ 32 ∨ s.dmaState n ≠ DM_FETCH ∨ s.on DMA_STAT_STOPPED then .next s
  else
    let a := s.dmaDescAddr n
    match if isSram a then s.readMem .dma a 32 else (.error 2, s) with
    | (.error c, s) => .next (s.dmaStop 0 c a)
    | (.ok d, s) =>
      let r := dmaReason d
      if r ≠ 0 then .next (s.dmaRefuse n r)
      else
        let s := (s.setDmaCh n (dmaParse d)).wr (DMA_CH_DONE_BYTES n) 0
        if (dmaParse d).len = 0 then .next (s.dmaFinish n) else .next (s.dmaTo n DM_RUN)

/-! ### Transfers (R473) -/

/-- A transfer under way: the state, what the host still answers with, and the first bus error (direction, cause, address). -/
structure Xfer where
  st : State
  host : List Byte
  bad : Option (Nat × Nat × Nat)

/-- Read one element of w bytes. -/
def Xfer.read (x : Xfer) (a w : Nat) : List Byte × Xfer :=
  if x.bad.isSome then ([], x)
  else if isRegSpace a then
    if w ≠ 4 then ([], { x with bad := some (0, 3, a) })
    else match x.st.busRead .dma a 0 with
      | (.ok v, s) => (leBytes 4 v.toNat, { x with st := s })
      | (.error c, s) => ([], { x with st := s, bad := some (0, c, a) })
  else if isHostSpace a then
    if x.st.hostUp then
      (x.host.take w, { x with st := x.st.emit (.host false (x.st.hostAddr a) (x.host.take w)), host := x.host.drop w })
    else ([], { x with bad := some (0, 5, a) })
  else match x.st.readMem .dma a w with
    | (.ok b, s) => (b, { x with st := s })
    | (.error c, s) => ([], { x with st := s, bad := some (0, c, a) })

/-- Write one element. -/
def Xfer.write (x : Xfer) (a : Nat) (bs : List Byte) : Xfer :=
  if x.bad.isSome then x
  else if isRegSpace a then
    if bs.length ≠ 4 then { x with bad := some (1, 3, a) }
    else match x.st.busWrite .dma a (BitVec.ofNat 32 (leNat bs)) with
      | (none, s) => { x with st := s }
      | (some c, s) => { x with st := s, bad := some (1, c, a) }
  else if isHostSpace a then
    if x.st.hostUp then { x with st := x.st.emit (.host true (x.st.hostAddr a) bs) } else { x with bad := some (1, 5, a) }
  else match x.st.writeMem a bs with
    | (none, s) => { x with st := s }
    | (some c, s) => { x with st := s, bad := some (1, c, a) }

/-- Read k elements of w bytes from stream offset `off` on. -/
def Xfer.gather (x : Xfer) (base : Nat) (inc : Bool) (w off : Nat) : Nat → List Byte × Xfer
  | 0 => ([], x)
  | k + 1 =>
    let (b, x) := x.read (if inc then base + off else base) w
    let (t, x) := x.gather base inc w (off + w) k
    (b ++ t, x)

/-- Write k elements of w bytes. -/
def Xfer.scatter (x : Xfer) (base : Nat) (inc : Bool) (w off : Nat) : Nat → List Byte → Xfer
  | 0, _ => x
  | k + 1, b => (x.write (if inc then base + off else base) (b.take w)).scatter base inc w (off + w) k (b.drop w)

/-- One fill of the holding register: as wide as the larger width (R473); its bytes count once they are written. -/
def Xfer.chunk (x : Xfer) (n : Nat) (c : DmaCh) : Xfer :=
  if x.bad.isSome then x
  else
    let off := x.st.rd (DMA_CH_DONE_BYTES n)
    let (b, x) := x.gather c.src c.srcInc c.srcW off (c.wide / c.srcW)
    let x := x.scatter c.dst c.dstInc c.dstW off (c.wide / c.dstW) b
    if x.bad.isSome then x else { x with st := x.st.wr (DMA_CH_DONE_BYTES n) (off + c.wide) }

def Xfer.chunks (x : Xfer) (n : Nat) (c : DmaCh) : Nat → Xfer
  | 0 => x
  | k + 1 => (x.chunk n c).chunks n c k

/-- Move channel n's data on until `upTo` bytes of its descriptor are done; the first bus error stops the engine. -/
def State.dmaMove (s : State) (n upTo : Nat) (host : List Byte) : State :=
  let c := s.dmaCh n
  if c.len = 0 then s
  else
    let x := (Xfer.mk s host none).chunks n c ((min upTo c.len - s.rd (DMA_CH_DONE_BYTES n)) / c.wide)
    match x.bad with
    | none => x.st
    | some (d, k, a) => x.st.dmaStop d k a

/-- Progress of several channels: (channel, bytes done, host data). -/
def State.dmaProgress (s : State) (st : Nat) : List (Nat × Nat × List Byte) → State
  | [] => s
  | (n, b, h) :: t => (if n < 32 ∧ s.dmaState n = st then s.dmaMove n b h else s).dmaProgress st t

/-- DMA_COMPLETE: the last write responses of channel n's descriptor and its RESULT's have returned (R475); `host` is what the
host answered with. A bus error met on the way stops the engine instead (R477). -/
def execDmaComplete (n : Nat) (host : List Byte) (s : State) : Host.Outcome State Fault Refusal :=
  if n ≥ 32 ∨ s.dmaState n ≠ DM_RUN ∨ s.on DMA_STAT_STOPPED then .next s
  else
    let s := s.dmaMove n (s.dmaCh n).len host
    .next (if s.on DMA_STAT_STOPPED then s else s.dmaFinish n)

/-- DMA_BUS_ERROR: a response carries bus error `cause` for address `addr`, after the channels have progressed as `prog`
says (R477). -/
def execDmaBusError (dir : Bool) (cause addr : Nat) (prog : List (Nat × Nat × List Byte)) (s : State) :
    Host.Outcome State Fault Refusal :=
  if (List.range 32).all (fun n => decide (s.dmaState n ≠ DM_FETCH) && decide (s.dmaState n ≠ DM_RUN)) then .next s
  else .next ((s.dmaProgress DM_RUN prog).dmaStop (b2n dir) cause addr)

/-- DMA_DRAINED: the last outstanding response after a stop has returned; write responses that returned during the drain
count (R477). -/
def execDmaDrained (prog : List (Nat × Nat × List Byte)) (s : State) : Host.Outcome State Fault Refusal :=
  if s.on DMA_STAT_STOPPED then .next ((s.dmaProgress DM_STOPPED prog).wr DMA_STAT_DRAINED 1) else .next s

/-- DMA_START: DMA_CH_CTRL[n].START (R476, R479). -/
def execDmaStart (p : Port) (n : Nat) (s : State) : Host.Outcome State Fault Refusal := .next (if n < 32 then s.dmaStart p n else s)

/-- DMA_CLEAR: DMA_CTRL.CLEAR (R478, R479). -/
def execDmaClear (p : Port) (s : State) : Host.Outcome State Fault Refusal := .next (s.dmaClear p)

/-- DMA_RESUME: DMA_CH_CTRL[n].RESUME (R478, R479). -/
def execDmaResume (p : Port) (n : Nat) (s : State) : Host.Outcome State Fault Refusal := .next (if n < 32 then s.dmaResume p n else s)

/-- DMA_ABORT: DMA_CH_CTRL[n].ABORT; the channel drains, after which `prog` bytes of its descriptor are done (R478, R479). -/
def execDmaAbort (n prog : Nat) (host : List Byte) (s : State) : Host.Outcome State Fault Refusal :=
  if n ≥ 32 then .next s
  else .next ((if s.dmaState n = DM_RUN ∨ s.dmaState n = DM_STOPPED then s.dmaMove n prog host else s).dmaAbort n)

/-- DMA_DESC_WRITE: a write of DMA_CH_DESC[n] (R483). -/
def execDmaDescWrite (p : Port) (n : Nat) (v : Word) (s : State) : Host.Outcome State Fault Refusal :=
  .next (if n < 32 then s.dmaDesc p n v.toNat else s)

end Sys2Proof.Machine
end

