-- ==== Sys2Proof/Machine/Host.lean ====
section
/-! DEFINITION. The PCIe endpoint and the quay port (R602 to R608, R618). -/

namespace Sys2Proof.Machine
open Sys2Proof

/-! ### PCIe: inbound requests (R602) -/

/-- A byte of the MSI-X table or of the PBA, by its offset in BAR0; a vector is masked until the host unmasks it, as the PCIe
standard has it. -/
def msixReset (o : Nat) : Byte := if o = 0x1F000C ∨ o = 0x1F001C then 1 else 0

def State.msixByte (s : State) (o : Nat) : Byte := tget msixReset s.mon.msix o

def State.msixBytes (s : State) (o : Nat) : Nat → List Byte
  | 0 => []
  | n + 1 => s.msixByte o :: s.msixBytes (o + 1) n

def State.setMsix (s : State) (o : Nat) : List Byte → State
  | [] => s
  | b :: t => ({ s with mon := { s.mon with msix := tset msixReset s.mon.msix o b } }).setMsix (o + 1) t

/-- The bytes from `off` on lie in the MSI-X table of two vectors; in the PBA. -/
def inMsix (off n : Nat) : Bool := decide (0x1F0000 ≤ off) && decide (off + n ≤ 0x1F0020)
def inPba (off n : Nat) : Bool := decide (0x1F8000 ≤ off) && decide (off + n ≤ 0x1F8008)

/-- The address in the Balgal's map of a request of n bytes, where a BAR maps all of it to registers or memory. -/
def barAddr (bar off n : Nat) : Option Nat :=
  if bar = 0 ∧ off + n ≤ 0x180000 then some (0x40000000 + off)
  else if bar = 2 ∧ off + n ≤ 0x4000000 then some off
  else if bar = 4 ∧ off + n ≤ 0x400000 then some (0x50000000 + off)
  else none

/-- Read n bytes through a BAR. -/
def State.pcieRead (s : State) (bar off n : Nat) : State :=
  if bar = 0 ∧ (inMsix off n ∨ inPba off n) then s.emit (.readBytes .pcie (s.msixBytes off n))
  else match barAddr bar off n with
    | none => s.emit (.busErr .pcie 2)
    | some a =>
      if isRegSpace a then s.readAny .balgal .pcie n a
      else match s.readMem .pcie a n with
        | (.ok b, s) => s.emit (.readBytes .pcie b)
        | (.error c, s) => s.emit (.busErr .pcie c)

/-- Write bytes through a BAR; the PBA is read-only. -/
def State.pcieWrite (s : State) (bar off : Nat) (d : List Byte) : State :=
  let n := d.length
  if bar = 0 ∧ inMsix off n then s.setMsix off d
  else if bar = 0 ∧ inPba off n then s
  else match barAddr bar off n with
    | none => s.emit (.busErr .pcie 2)
    | some a =>
      if isRegSpace a then
        (if n ≠ 4 then s.emit (.busErr .pcie 3)
         else
           let (c, s) := s.regWrite .pcie a (BitVec.ofNat 32 (leNat d))
           s.answerWrite .pcie c)
      else
        let (c, s) := s.writeMem a d
        s.answerWrite .pcie c

/-- PCIE_REQUEST: an inbound read of `len` bytes, or write of `data`, at an offset of a BAR; an unmapped offset or a breach of
R11 completes with completer abort. -/
def execPcieRequest (wr : Bool) (bar off len : Nat) (data : List Byte) (s : State) : Host.Outcome State Fault Refusal :=
  if s.pwr.held ≠ 0 ∨ !s.on HOST_STAT_LINK then .next s
  else if wr then .next (if data.isEmpty then s else s.pcieWrite bar off data)
  else .next (if len = 0 then s else s.pcieRead bar off len)

/-! ### PCIe: the link and resets (R602, R605) -/

/-- The link is lost (R605). -/
def State.linkLost (s : State) : State :=
  if s.on HOST_STAT_LINK then (((s.wr HOST_STAT_LINK 0).wr HOST_STAT_SPEED 0).wr HOST_STAT_WIDTH 0).raise 0x2A2 0 else s

/-- PCIE_LINK_UP: the endpoint trains at Gen1 to Gen3 on x1, x2 or x4; the host has enabled MSI-X and bus mastering or not. -/
def execPcieLinkUp (gen width : Nat) (msix master : Bool) (s : State) : Host.Outcome State Fault Refusal :=
  if s.pwr.held = 0 ∧ 1 ≤ gen ∧ gen ≤ 3 ∧ (width = 1 ∨ width = 2 ∨ width = 4) then
    let s := ((s.wr HOST_STAT_LINK 1).wr HOST_STAT_SPEED gen).wr HOST_STAT_WIDTH width
    let s := s.wr HOST_STAT_MSIX (b2n msix)
    .next { s with mon := { s.mon with master := master } }
  else .next s

/-- PCIE_LINK_LOSS. -/
def execPcieLinkLoss (s : State) : Host.Outcome State Fault Refusal := .next s.linkLost

/-- PCIE_RESET: PERST_N, a hot reset or a Function Level Reset: the endpoint, its configuration space and HOST_OB_BASE alone;
`up` tells that the link stays up (R605). -/
def execPcieReset (up : Bool) (s : State) : Host.Outcome State Fault Refusal :=
  let s := ((s.wrW A_HOST_OB_BASE_LO 0).wrW A_HOST_OB_BASE_HI 0).wr HOST_STAT_MSIX 0
  let s := { s with mon := { s.mon with msix := [], master := false } }
  .next (if up then s else s.linkLost)

/-! ### Doorbells (R604, R607) -/

/-- MSI_ACK: a write of HOST_MSI_ACK. -/
def execMsiAck (s : State) : Host.Outcome State Fault Refusal := .next s.msiAck

/-- HDB_SET: a write of HOST_HDB_SET. -/
def execHdbSet (v : Word) (s : State) : Host.Outcome State Fault Refusal := .next (s.hdbSet v)

/-- PDB_SET: a write of HOST_PDB_SET by port p. -/
def execPdbSet (p : Port) (v : Word) (s : State) : Host.Outcome State Fault Refusal := .next (s.pdbSet p v)

/-- QUAY_DOORBELL: a write of HOST_QY_QDB_SET by port p. -/
def execQuayDoorbell (p : Port) (v : Word) (s : State) : Host.Outcome State Fault Refusal := .next (s.qdbSet p v)

/-! ### The quay port (R606, R607, R608) -/

/-- The address in the Balgal's map of quay byte address q. -/
def State.quayAddr (s : State) (q : Nat) : Option Nat :=
  if q < 0x800000 then some (s.rd HOST_QY_PAGE * 0x800000 + q)
  else if q < 0x980000 then some (0x40000000 + (q - 0x800000))
  else if 0xA00000 ≤ q ∧ q < 0xE00000 then some (0x50000000 + (q - 0xA00000))
  else none

/-- An access ends with QY_ERR_N low; the first since the last clear is latched. -/
def State.quayErr (s : State) (q c : Nat) : State :=
  let s := s.emit (.busErr .quay c)
  if s.on HOST_QY_ERR_VALID then s
  else ((s.wr HOST_QY_ERR_Q (q / 4)).wr HOST_QY_ERR_CAUSE c).wr HOST_QY_ERR_VALID 1

/-- A strobe of the quay port with QY_RD_N low (`rd`) or QY_WR_N low (`wr`). -/
def State.quayAccess (s : State) (rd wr : Bool) (q : Nat) (v : Word) : State :=
  let q := q % 2 ^ 24 / 4 * 4
  if !rd ∧ !wr then s
  else if rd ∧ wr then s.quayErr q 2
  else match s.quayAddr q with
    | none => s.quayErr q 2
    | some a =>
      if rd then
        match s.busRead .quay a 0 with
        | (.ok w, s) => s.emit (.readData .quay w)
        | (.error c, s) => s.quayErr q c
      else
        match s.busWrite .quay a v with
        | (none, s) => s
        | (some c, s) => s.quayErr q c

/-- QUAY_ACCESS. -/
def execQuayAccess (rd wr : Bool) (q : Nat) (v : Word) (s : State) : Host.Outcome State Fault Refusal :=
  .next (if s.pwr.held ≠ 0 then s else s.quayAccess rd wr q v)

/-- QUAY_STROBE_STUCK: a strobe still low 10 µs after the release of QY_BUSY_N (R608). -/
def execQuayStrobeStuck (s : State) : Host.Outcome State Fault Refusal := .next (s.inc HOST_QY_STUCK)

end Sys2Proof.Machine
end

