-- ==== Sys2Proof/Machine/Mon.lean ====
section
/-! DEFINITION. The commands of the Harbour monitors (R619 to R633, R677). Replies are the lines of R621 as data. -/

namespace Sys2Proof.Machine
open Sys2Proof

def State.sayAll (s : State) (ls : List Line) : State := ls.foldl (fun s l => s.say l) s

/-- The line of a bus error. -/
def State.sayBus (s : State) (c : Nat) : State := s.say (.err 3 (some c))

/-! ### The Skerry monitor (R630, R677) -/

/-- A line that the monitor port of cell g prints. -/
def State.skSay (s : State) (g : Nat) (l : Line) : State := s.emit (.line (.skerry g) l)

/-- The Skerry monitor serves in RUN, while its port is enabled. -/
def Skerry.monServes (k : Skerry) : Bool := k.inRun && k.on SK_MON_STAT_ENABLED

def State.skCmd (s : State) (g : Nat) (f : State → State) : State := if (s.cell g).monServes then f s else s

/-- A command that needs SERVICE. -/
def State.skService (s : State) (g : Nat) (f : State → State) : State :=
  s.skCmd g (fun s =>
    if (s.cell g).on SK_MON_STAT_LEVEL then f s else (s.onCell g (fun k => k.inc SK_MON_DENY_CNT)).skSay g (.err 2 none))

/-! ### Levels (R622 to R625, R630) -/

/-- Open level n where a lower one is open; an open safety session keeps its level and returns to this one. -/
def State.openLevel (s : State) (n : Nat) : State :=
  let l := s.rd MON_STAT_LEVEL
  if l = 3 then s.setSafe { s.safe with level := max s.safe.level n } else s.wr MON_STAT_LEVEL (max l n)

/-- LEVEL 1 with a code. -/
def State.level1 (s : State) (code : List Byte) : State :=
  let p := s.sec T_MON 0
  if s.on MON_STAT_DEFAULTS ∨ p.isEmpty then (s.openLevel 1).sayOk
  else
    let digest := (p.drop 20).take 32
    if digest.all (fun b => decide (b = 0)) then s.sayErr 4
    else if codeOk code ∧ sha256 ((p.drop 4).take 16 ++ code) = digest then
      ({ s with mon := { s.mon with wrong := 0 } }.openLevel 1).sayOk
    else
      let n := s.mon.wrong + 1
      let s := { s with mon := { s.mon with wrong := if n ≥ 3 then 0 else n } }.inc MON_DENY_CNT
      let s := if n ≥ 3 then (s.wr MON_STAT_LOCKOUT 1).raise 0x2C2 1 else s
      s.sayErr 4

/-- The cell's LEVEL n. -/
def State.skLevel (s : State) (g n : Nat) (code : List Byte) : State :=
  let k := s.cell g
  if k.on SK_MON_STAT_LOCKOUT then s.skSay g (.err 7 none)
  else if n ≠ 1 then s.skSay g (.err 4 none)
  else
    let p := k.param
    let digest := (p.drop 80).take 32
    if p.isEmpty ∨ digest.all (fun b => decide (b = 0)) then s.skSay g (.err 4 none)
    else if codeOk code ∧ sha256 ((p.drop 64).take 16 ++ code) = digest then
      (s.onCell g (fun k => { k with monBad := 0 }.wr SK_MON_STAT_LEVEL 1)).skSay g .ok
    else
      let b := k.monBad + 1
      let s := s.onCell g (fun k =>
        let k := { k with monBad := if b ≥ 3 then 0 else b }.inc SK_MON_DENY_CNT
        if b ≥ 3 then k.wr SK_MON_STAT_LOCKOUT 1 else k)
      s.skSay g (.err 4 none)

/-- LEVEL n [code]. -/
def execLevel (c : Chip) (n : Nat) (code : List Byte) (s : State) : Host.Outcome State Fault Refusal :=
  match c with
  | .balgal =>
    .next (s.monCmd (fun s =>
      if s.on MON_STAT_LOCKOUT then s.sayErr 7
      else if n = 1 then s.level1 code
      else if n = 2 then
        (if s.rd MON_STAT_LEVEL = 0 then s.monDenied
         else if s.on MON_STAT_KEY_STRAP then (s.openLevel 2).sayOk
         else s.sayErr 8)
      else s.sayErr 4))
  | .skerry g => .next (s.skCmd g (fun s => s.skLevel g n code))

/-- QUIT. -/
def execQuit (c : Chip) (s : State) : Host.Outcome State Fault Refusal :=
  match c with
  | .balgal => .next (s.monCmd (fun s => s.toView.sayOk))
  | .skerry g => .next (s.skCmd g (fun s => (s.onCell g (fun k => k.wr SK_MON_STAT_LEVEL 0)).skSay g .ok))

/-- MON_IDLE_TIMEOUT: IDLE_MIN minutes without a complete line (R625). A Skerry has no such time. -/
def execMonIdleTimeout (c : Chip) (s : State) : Host.Outcome State Fault Refusal :=
  match c with
  | .balgal => .next s.toView
  | .skerry _ => .next s

/-- MON_LOCKOUT_END: 60 s after three wrong codes (R623, R677). -/
def execMonLockoutEnd (c : Chip) (s : State) : Host.Outcome State Fault Refusal :=
  match c with
  | .balgal => .next (s.wr MON_STAT_LOCKOUT 0)
  | .skerry g => .next (s.onCell g (fun k => if k.inRun then k.wr SK_MON_STAT_LOCKOUT 0 else k))

/-- PARTIAL_LINE_TIMEOUT: the characters of a line without terminator are dropped (R620); the state holds none of them. -/
def execPartialLineTimeout (_c : Chip) (s : State) : Host.Outcome State Fault Refusal := .next s

/-- UNKNOWN_COMMAND: a line that is empty, or one that is no command (R620, R621). -/
def execUnknownCommand (c : Chip) (empty : Bool) (s : State) : Host.Outcome State Fault Refusal :=
  let l := if empty then Line.ok else .err 1 none
  match c with
  | .balgal => .next (if !s.monServes then s else if s.on MON_STAT_BUSY then s.monLate else s.say l)
  | .skerry g => .next (s.skCmd g (fun s => s.skSay g l))

/-! ### Reads and writes (R626, R627, R630) -/

/-- RD: the words from a on, each its own access, to the first bus error. -/
def State.monRd (s : State) (a : Nat) (host : List Word) : Nat → State
  | 0 => s.sayOk
  | n + 1 =>
    match s.busRead .monitor a (host.headD 0) with
    | (.ok w, s) => (s.say (.word a w)).monRd (a + 4) (host.drop 1) n
    | (.error c, s) => s.sayBus c

/-- The same at a cell's port. -/
def State.skRd (s : State) (g a : Nat) : Nat → State
  | 0 => s.skSay g .ok
  | n + 1 =>
    match ((s.cell g).readWord .monitor a).1 with
    | some w => ((s.onCell g (fun k => (k.readWord .monitor a).2)).skSay g (.word a w)).skRd g (a + 4) n
    | none => s.skSay g (.err 3 (some (if a % 4 = 0 then 2 else 3)))

/-- RD addr [n]; `host` is what the host answers with where the words lie in the PCIe window. -/
def execRd (c : Chip) (a n : Nat) (host : List Word) (s : State) : Host.Outcome State Fault Refusal :=
  match c with
  | .balgal => .next (s.atLevel 0 (fun s => if n = 0 ∨ n > 256 then s.sayErr 4 else s.monRd a host n))
  | .skerry g => .next (s.skCmd g (fun s => if n = 0 ∨ n > 256 then s.skSay g (.err 4 none) else s.skRd g a n))

/-- WR addr value; `still` are the cell's fault inputs asserted now. -/
def execWr (c : Chip) (a : Nat) (v : Word) (still : List Nat) (s : State) : Host.Outcome State Fault Refusal :=
  match c with
  | .balgal =>
    .next (s.atLevel 1 (fun s =>
      match s.busWrite .monitor a v with
      | (none, s) => s.sayOk
      | (some e, s) => s.sayBus e))
  | .skerry g =>
    .next (s.skService g (fun s =>
      let e := ((s.cell g).writeWord a v still 0).1
      let s := s.onCell g (fun k => (k.writeWord a v still 0).2)
      s.skSay g (match e with
        | .done => .ok
        | .bus => .err 3 (some (if a % 4 = 0 then 2 else 3))
        | .refused => .err 4 none)))

/-- DUMP: up to sixteen bytes a line. -/
def State.monDump (s : State) : Nat → Nat → Nat → State
  | 0, _, _ => s.sayOk
  | k + 1, a, n =>
    if n = 0 then s.sayOk
    else match s.readMem .monitor a (min n 16) with
      | (.ok b, s) => (s.say (.bytes a b)).monDump k (a + 16) (n - 16)
      | (.error c, s) => s.sayBus c

def State.skDump (s : State) (g : Nat) : Nat → Nat → Nat → State
  | 0, _, _ => s.skSay g .ok
  | k + 1, a, n =>
    if n = 0 then s.skSay g .ok
    else if skMem a ∧ skMem (a + min n 16 - 1) then (s.skSay g (.bytes a ((s.cell g).bytes a (min n 16)))).skDump g k (a + 16) (n - 16)
    else s.skSay g (.err 3 (some 2))

/-- DUMP addr bytes: SRAM or a local memory, 1 to 65,536 bytes. -/
def execDump (c : Chip) (a n : Nat) (s : State) : Host.Outcome State Fault Refusal :=
  match c with
  | .balgal =>
    .next (s.atLevel 0 (fun s => if n = 0 ∨ n > 65536 ∨ isRegSpace a then s.sayErr 4 else s.monDump 4096 a n))
  | .skerry g =>
    .next (s.skCmd g (fun s =>
      if n = 0 ∨ n > 65536 ∨ (0x20000000 ≤ a ∧ a < 0x2000A000) then s.skSay g (.err 4 none) else s.skDump g 4096 a n))

/-- Print n words that lie `step` bytes apart in a ring of `size` entries, from entry `i` on. -/
def State.monRing (s : State) (base step size : Nat) : Nat → Nat → State
  | 0, _ => s.sayOk
  | n + 1, i =>
    let a := base + step * (i % max size 1)
    match s.readMem .monitor a step with
    | (.ok b, s) => (s.say (.bytes a b)).monRing base step size n (i + 1)
    | (.error c, s) => s.sayBus c

/-- TRACE TAP u: LOOP_TAP_STAT[u], LOOP_TAP_T0, then the samples held, in recording order. -/
def execTraceTap (u : Nat) (s : State) : Host.Outcome State Fault Refusal :=
  .next (s.atLevel 0 (fun s =>
    if u ≥ 16 then s.sayErr 4
    else
      let s := s.say (.values [(s.rdW (A_LOOP_TAP_STAT u)).toNat, s.rd (LOOP_TAP_T0_NS u), s.rd (LOOP_TAP_T0_SEC u)])
      let depth := s.rd (LOOP_TAP_LEN_DEPTH u)
      let n := (s.tap u).n
      s.monRing (s.rd LOOP_TRACE_BASE_BASE * 262144 + u * 16384) 4 depth (min n depth) (if n ≤ depth then 0 else n % depth)))

/-- TRACE SCHED n: the last n records of the scheduler trace ring, newest last. -/
def execTraceSched (n : Nat) (s : State) : Host.Outcome State Fault Refusal :=
  .next (s.atLevel 0 (fun s =>
    if n = 0 ∨ n > 4096 then s.sayErr 4
    else
      let size := s.rd SCHED_TRACE_SIZE
      let k := min n size
      s.monRing (s.rd SCHED_TRACE_BASE_BASE * 16) 16 size k (s.rd SCHED_TRACE_WIDX + size - k)))

/-! ### The chart (R69, R626) -/

/-- The types of the sections that the chart store keeps. -/
def storeTypes : List Nat := [T_ROLE, T_FRAME, T_BERTH, T_CELL]

/-- CHART: CHART_STATUS, CHART_FAIL_INFO, CHART_ID, both digests, then the directory of the stored sections. -/
def execChart (s : State) : Host.Outcome State Fault Refusal :=
  .next (s.atLevel 0 (fun s =>
    let s := s.say (.values ([A_CHART_STATUS, A_CHART_FAIL_INFO, A_CHART_ID, A_CHART_BUILD_DIGEST, A_CHART_HOT_DIGEST].map
      (fun a => (s.regView .monitor a).toNat)))
    let dir := s.chart.dir.filter (fun e => storeTypes.contains (e.1 / 256))
    (s.sayAll (dir.map (fun e => Line.values [e.1 / 256, e.1 % 256, e.2.1, e.2.2.1, e.2.2.2]))).sayOk))

/-- CHART SEC type inst: one stored section. -/
def execChartSec (ty inst : Nat) (s : State) : Host.Outcome State Fault Refusal :=
  .next (s.atLevel 0 (fun s =>
    let p := s.sec ty inst
    if storeTypes.contains ty ∧ inst < 256 ∧ !p.isEmpty then (s.say (.bytes 0 p)).sayOk else s.sayErr 4))

/-! ### Remote cells (R629) -/

/-- A CELL command becomes one request in the private slot; its final line follows when the reply is in. -/
def State.monCell (s : State) (g op a len : Nat) (data : List Byte) : State :=
  if !s.isCell g then s.sayErr 4
  else if !(s.inRun && s.isActive) then s.sayErr 8
  else if s.frRefused g op a len 0 then s.say (.err 6 (some 0xFE))
  else
    let j : FrJob := { idx := 4096, cell := g, op := op, addr := a, data := data, len := len, index := 0, tries := 0, coll := 0, phase := 0, at_ := 0 }
    { s with mon := { s.mon with slot := some j } }.wr MON_STAT_BUSY 1

/-- CELL G RD addr [n]. -/
def execCellRd (g a n : Nat) (s : State) : Host.Outcome State Fault Refusal :=
  .next (s.atLevel 0 (fun s => if n = 0 ∨ n > 12 then s.sayErr 4 else s.monCell g 1 a (4 * n) []))

/-- CELL G WR addr value. -/
def execCellWr (g a : Nat) (v : Word) (s : State) : Host.Outcome State Fault Refusal :=
  .next (s.atLevel 1 (fun s => s.monCell g 2 a 4 (leBytes 4 v.toNat)))

/-- CELL G LOG off. -/
def execCellLog (g off : Nat) (s : State) : Host.Outcome State Fault Refusal :=
  .next (s.atLevel 0 (fun s => s.monCell g 5 off 48 []))

/-- CELL G RESET. -/
def execCellReset (g : Nat) (s : State) : Host.Outcome State Fault Refusal :=
  .next (s.atLevel 1 (fun s => s.monCell g 6 (0x80000000 + g) 0 []))

/-- MON_LOG: LOG off at a cell's port prints 48 bytes of the retained log. -/
def execMonLog (g off : Nat) (s : State) : Host.Outcome State Fault Refusal :=
  .next (s.skCmd g (fun s =>
    if off + 48 > 0x10000 then s.skSay g (.err 4 none)
    else (s.skSay g (.bytes off ((s.cell g).bytes (0x10000000 + off) 48))).skSay g .ok))

/-! ### Keys and OFF (R628, R631) -/

/-- KEY k PROG: an empty slot takes 32 bytes. -/
def execKeyProg (k : Nat) (key : List Byte) (s : State) : Host.Outcome State Fault Refusal :=
  .next (s.atLevel 2 (fun s =>
    if key.length ≠ 32 then s.sayErr 1
    else if k ≥ 4 ∨ bitOf s.chart.keyProg k ∨ bitOf s.chart.keyRev k then s.sayErr 4
    else
      let c := { s.chart with keys := tset (fun _ => []) s.chart.keys k key, keyProg := s.chart.keyProg ||| 2 ^ k }
      (({ s with chart := c }).wr CHART_KEY_STATE_PROG c.keyProg).sayOk))

/-- KEY k REVOKE. -/
def execKeyRevoke (k : Nat) (s : State) : Host.Outcome State Fault Refusal :=
  .next (s.atLevel 2 (fun s =>
    if k ≥ 4 ∨ !bitOf s.chart.keyProg k then s.sayErr 4
    else
      let c := { s.chart with keyRev := s.chart.keyRev ||| 2 ^ k }
      (({ s with chart := c }).wr CHART_KEY_STATE_REVOKED c.keyRev).sayOk))

/-- OFF: the final line, then the output stays high. -/
def execOff (s : State) : Host.Outcome State Fault Refusal := .next (s.atLevel 1 (fun s => s.sayOk.monDisable))

end Sys2Proof.Machine
end

