-- ==== Sys2Proof/Machine/Period.lean ====
section
/-! DEFINITION. The commands of the other grids: the end of a sub-window, the start of a control period, and the resending of
a part (R36, R77, R195, R205, R216, R266, R270, R298, R304, R399 to R405, R574). -/

namespace Sys2Proof.Machine
open Sys2Proof

/-- The sub-window of a Balgal: fast results, engines, arms, taps, then the boundary of the scans. -/
def State.subWindow (s : State) (dur : Nat) (qs : List (Nat × Int × Int)) : State :=
  let s := (s.convFast dur qs).engsAt 0
  let s := if s.isArbiter then s else s.arms.foldl (fun s a => s.armSub a) s
  (s.tapsAt 2).convBoundary

/-- The end of a ferry cycle on a Skerry: the ferry-cycle result, SILENT up to 31 (the step to 32 is SILENT_BLOCK), and the
cycles in block (R184, R266). -/
def Skerry.cycleEnd (k : Skerry) (f : Nat → Int) : Skerry :=
  let k := k.convCycle f
  let k := if k.rd SK_CMD_SILENT < 31 then k.wr SK_CMD_SILENT (k.rd SK_CMD_SILENT + 1) else k
  k.setCmd { k.cmd with inBlock := if k.inBlock then min (k.cmd.inBlock + 1) 64 else 0 }

/-- SUBWINDOW_END: a sub-window of `dur` word clocks has ended on a chip; `qs` holds for each converter its charge in 1/256
packets and the sign of its last railed edge. On a Skerry `last` marks the last sub-window of a ferry cycle, and `gs` and
`fb` are the GS_OK and BYP_FB pins as filtered. -/
def execSubwindowEnd (c : Chip) (dur : Nat) (qs : List (Nat × Int × Int)) (last : Bool) (gs : Nat) (fb : Bool) (s : State) :
    Host.Outcome State Fault Refusal :=
  match c with
  | .balgal => if s.inRun then .next (s.subWindow dur qs) else .next s
  | .skerry g =>
    let f := s.codes
    .next (s.runCell g (fun k =>
      let k := k.convSub f dur qs
      let k := (k.wr SK_PWR_STAT_GS_OK gs).wr SK_GATE_STAT_BYP_FB (b2n fb)
      if last then k.cycleEnd f else k)).codesUsed

/-- CONTROL_PERIOD_START: this ferry-cycle start starts a control period: the means of the last one, sinks, a pending swap,
θ and ω, the latches and the pass, route source 0x02 (R195, R270 to R296, R298, R574). -/
def execControlPeriodStart (s : State) : Host.Outcome State Fault Refusal :=
  if !s.inRun then .next s
  else
    let s := (s.convPeriod).engsAt 2
    let s := if s.isArbiter then s else ((s.takeSinks.takeSwap).profAngles s.reef.start).loopPass
    let s := s.setReef { s.reef with ferry := 0 }
    .next (s.fireRoute 2)

/-- PART_RESEND_TIMEOUT: 8 ferry cycles after the last block of the part of cell g, whose statuses still report PART absent or
receiving: the part is sent again (R77). -/
def execPartResendTimeout (g : Nat) (s : State) : Host.Outcome State Fault Refusal :=
  let r := s.crec g
  if s.inRun ∧ s.isActive ∧ s.isCell g ∧ r.partBusy ∧ r.partBlk = 6 ∧ r.part < 2 ∧ s.reef.cyc + 1 ≥ r.partAt + 8 then
    .next (s.partStart g)
  else .next s

end Sys2Proof.Machine
end

