-- ==== Sys2Proof/Machine/Send.lean ====
section
/-! DEFINITION. The start of a ferry cycle at a Balgal: what closes, and the ferries, partner frames, relay and copy frames,
strait frames and publications that leave (R121 to R124, R133, R134, R141, R144, R163, R195, R240, R241, R509, R515, R530). -/

namespace Sys2Proof.Machine
open Sys2Proof

/-! ### Parts (R75, R77, R143) -/

/-- The 256 bytes of the part of cell g (R75). -/
def State.partBytes (s : State) (g : Nat) : List Byte :=
  let e := s.berthEntry g
  let param := (s.sec T_CELL (e / 16 % 4) ++ List.replicate 240 0).take 240
  let b := beBytes 2 g ++ [BitVec.ofNat 8 e, 0] ++ beBytes 4 (s.rd CHART_ID) ++ [0, 0, 0, 0] ++ param
  b ++ beBytes 4 (crc32 b)

/-- The cell of causeway c whose part is being sent: one already begun first, then the lowest berth. -/
def State.partCell (s : State) (c : Nat) : Option Nat :=
  let gs := (s.cwCells c).filter (fun g => (s.crec g).partBusy && decide ((s.crec g).partBlk < 6))
  match gs.find? (fun g => decide ((s.crec g).partBlk > 0)) with
  | some g => some g
  | none => gs.head?

/-! ### Freight of a ferry (R134, R141) -/

/-- What one lane's ferry carries as freight: header bytes 26 to 29 and the 64 bytes. -/
structure Freight where
  head : List Byte
  body : List Byte
deriving DecidableEq, Repr

def freightOf (cell op tag addr : Nat) (data : List Byte) (len index : Nat) : Freight :=
  let h := beBytes 2 cell ++ [BitVec.ofNat 8 op, BitVec.ofNat 8 tag]
  ⟨h, freightBytes h addr data len index⟩

/-- No freight: FR_OP 0x00. -/
def Freight.none : Freight := ⟨[0, 0, 0, 0], List.replicate 64 0⟩

/-- This Balgal's lane for the freight of a cell of causeway c: the end that reaches it; the head lane for several cells. -/
def State.frLane (s : State) (c cell : Nat) : Nat :=
  if bitOf cell 14 ∨ bitOf cell 15 then (s.lanesOf c).headD c
  else (((s.endsOf (cell % 8192)).filterMap (fun e => s.endLane c e)).head?).getD ((s.lanesOf c).headD c)

/-- The next block of the part of cell g. -/
def State.partFreight (s : State) (g : Nat) : Freight :=
  let i := (s.crec g).partBlk
  freightOf g 3 0 (s.rd CHART_ID) ((s.partBytes g).drop (48 * i)) (if i = 5 then 16 else 48) i

/-- The request, or the COLLECT, of a job. -/
def FrJob.freight (j : FrJob) (collect : Bool) : Freight :=
  if collect then freightOf j.cell 0x10 (j.idx % 256) 0 [] 0 0
  else freightOf j.cell j.op (j.idx % 256) (if j.op = 3 ∨ j.op = 4 then (if j.op = 3 then j.addr else 0) else j.addr) j.data j.len j.index

/-- The freight that causeway c of an active carries in this cycle, on its lane: a part ahead of a descriptor's request or
COLLECT. In a redundant build the COLLECT goes to the standby. Gives the freight, the handed COLLECT and the state after. -/
def State.wayFreight (s : State) (c : Nat) : Option (Nat × Freight) × Option (Nat × List Byte) × State :=
  match s.partCell c with
  | some g =>
    let r := s.crec g
    let i := r.partBlk + 1
    (some (s.frLane c g, s.partFreight g), none,
      s.setRec g { r with partBlk := i, partAt := if i = 6 then s.reef.cyc + 1 else r.partAt })
  | none =>
    match (s.way c).job with
    | none => (none, none, s)
    | some j =>
      if j.phase = 0 then
        (some (s.frLane c j.cell, j.freight false), none,
          (s.setJob c (some { j with phase := 1, tries := j.tries + 1, at_ := s.reef.cyc + 1 })).descPut j.idx 58 (j.tries + 1))
      else if j.phase = 2 then
        let t := s.setJob c (some { j with phase := 3, at_ := s.reef.cyc + 1 })
        if s.redundant then (none, some (c, (j.freight true).body), t) else (some (s.frLane c j.cell, j.freight true), none, t)
      else (none, none, s)

/-- The COLLECT that a standby was handed for causeway c; its header names the cell and tag of the active's last freight
(R139). -/
def State.relayFreight (s : State) (c : Nat) : Option Freight :=
  (s.red.relay.collects.find? (fun x => decide (x.1 = c))).map (fun x =>
    let b := (s.way c).back.take 4
    let h := b.take 2 ++ [0x10] ++ (b.drop 3)
    let body := x.2.take 60
    ⟨h, body ++ beBytes 4 (crc32 (h ++ body))⟩)

/-! ### Command halves (R127, R133, R240, R250) -/

/-- The plan made full: every cell of every arm in use, each state explicit (R250). -/
def State.fullPlan (s : State) : List (Nat × Berth) :=
  s.arms.flatMap (fun a => (s.armCells a).map (fun g =>
    let b := berthOf s.reef.plan g
    if b.valid ∧ b.action ≠ 0 then (g, b)
    else if (s.crec g).weave then (g, { b with valid := true })
    else (g, { b with
      valid := true,
      stA := if b.stA = ST_HOLD then s.baseSt g false else b.stA,
      stB := if b.stB = ST_HOLD then s.baseSt g true else b.stB })))

/-- The command halves of an active's ferries: its plan while COMMITTING is 1, else ACTIONs alone (R230, R240, R241). -/
def State.sendPlan (s : State) : List (Nat × Berth) :=
  if s.committing then
    (if s.on RUN_STAT_FULL_PEND ∨ s.reef.full ∨ ctCycle s.ct % 256 = 0 then s.fullPlan else s.reef.plan)
  else s.reef.plan.filter (fun x => decide (x.2.action ≠ 0))

/-- EPOCH, STAGED and COMMIT_AT. -/
structure Stage where
  epoch : Nat
  staged : Nat
  at_ : Nat
deriving DecidableEq, Repr

/-- COMMIT_AT of a commit instant (R124). -/
def commitAt (c : Nat) : Nat := ctSec c % 4 * 2 ^ 30 + ctNs c

/-- C of the ferry cycle in progress (R240). -/
def State.commitCt (s : State) : Nat := ctCycle s.ct * cycU + wcs (s.rd RUN_TIMING_LAG)

/-- The stage fields of an active's ferries (R240, R241). -/
def State.stageNow (s : State) : Stage :=
  if s.committing then ⟨ctCycle s.ct % 256, 1, commitAt s.commitCt⟩ else ⟨0, 0, 0⟩

/-! ### One ferry (R124, R144) -/

/-- Offsets 1 to 1,119 of the ferry that lane n of causeway c sends now. -/
def State.ferryBody (s : State) (n c : Nat) (st : Stage) (half : Nat → Berth) (fr : Freight) : List Byte :=
  let kind := 0x10 + (if s.laneTail n then 8 else 0) + (if s.measuresNow c then 4 else 0) + (if s.isActive then 1 else 2)
  [BitVec.ofNat 8 kind, BitVec.ofNat 8 c, 0] ++ s.departBytes ++
  [BitVec.ofNat 8 st.epoch, BitVec.ofNat 8 st.staged] ++ beBytes 4 st.at_ ++ fr.head ++ [BitVec.ofNat 8 (s.cwCount c), 0] ++
  (List.range 64).flatMap (fun b => halfBytes (if b < s.cwCount c then half (64 * c + b) else Berth.zero) ++ List.replicate 8 0) ++
  fr.body

/-- The trailer of lane n's ferry, whose CRC register over offsets 1 to 1,119 is `reg`: OPP_ARRIVE and OPP_SEQ of the last
valid ferry known, the CRC, EOF (R144). -/
def State.trailer (s : State) (n reg : Nat) : List Sym :=
  let (seq, arr) := tget (fun _ => (0, 0)) s.cws.arrived n
  let b := oppBytes (if seq = 0 ∧ arr = 0 then none else some (seq, arr)) ++ [0]
  (b ++ beBytes 4 (crc32From reg b ^^^ 0xFFFFFFFF)).map Sym.d ++ [.k kEOF]

/-- The trailers still to leave leave. -/
def State.sendTails (s : State) : State :=
  (s.cws.tails.foldl (fun s x => s.emit (.frame x.1 (s.trailer x.1 x.2))) s).setCws { s.cws with tails := [] }

/-- Lane n of causeway c begins its ferry. -/
def State.sendLane (s : State) (n c : Nat) (st : Stage) (half : Nat → Berth) (fr : Freight) : State :=
  if s.rd (LANE_CFG_MODE n) = 0 then s
  else
    let b := s.ferryBody n c st half fr
    (s.emit (.frame n (.k kSOF :: b.map Sym.d))).setCws { s.cws with tails := s.cws.tails ++ [(n, crc32From 0xFFFFFFFF b)] }

/-- The ferries of causeway c of an active. -/
def State.sendActive (s : State) (st : Stage) (plan : List (Nat × Berth)) (c : Nat) (hand : List (Nat × List Byte)) :
    State × List (Nat × List Byte) :=
  let (fr, coll, s) := s.wayFreight c
  let s := (s.lanesOf c).foldl (fun s n =>
    s.sendLane n c st (berthOf plan) (match fr with | some (m, f) => if m = n then f else .none | none => .none)) s
  (s, hand ++ coll.toList)

/-- The ferry of causeway c of a standby: VALID 0 but for the berths that it relays (R133, R241). -/
def State.sendStandby (s : State) (c : Nat) : State :=
  let q := s.red.relay
  let hs := q.halves.filter (fun x => decide (x.1 / 64 = c))
  let st : Stage := if hs.isEmpty then ⟨0, 0, 0⟩ else ⟨q.epoch, q.staged, q.at_⟩
  let fr := (s.relayFreight c).getD .none
  let s := (s.lanesOf c).foldl (fun s n => s.sendLane n c st (berthOf hs) fr) s
  s.wr (CW_STAT_RELAY c) (b2n (!hs.isEmpty))

/-! ### Relay and copy frames (R163, R515, R530) -/

/-- The berths that the active's own ferries do not reach, in ascending G (R163). -/
def State.relayCells (s : State) : List Nat :=
  s.causeways.flatMap (fun c => if s.cwSt c = CWS_CUT then (s.cwCells c).filter (fun g => s.hidden g s.tailSide) else [])

/-- A relay frame (R515). -/
def State.relayBytes (s : State) (st : Stage) (plan : List (Nat × Berth)) (gs : List Nat) (coll : Option (Nat × List Byte)) :
    List Sym :=
  let byte := fun (v : Nat) => (BitVec.ofNat 8 v : Byte)
  sealFrame ([0x40, byte (s.rd TOP_STAT_CONVERTER)] ++ [0] ++ s.departBytes ++
    [byte st.epoch, byte st.staged] ++ beBytes 4 st.at_ ++ [byte gs.length, 0] ++
    gs.flatMap (fun g => beBytes 2 g ++ halfBytes (berthOf plan g) ++ [0, 0]) ++
    (match coll with | some (c, b) => [byte c, 0, 0, 0] ++ b | none => []))

/-- Mate lanes 1 and 2, where they are enabled. -/
def State.handLanes (s : State) : List Nat := [97, 98].filter (fun n => decide (s.rd (LANE_CFG_MODE n) ≠ 0))

/-- The relay frames of this cycle, if any is due; the berths beyond 160, or beyond the lanes there are, are counted. COLLECTs
beyond one a lane are asked for again in the next cycle. -/
def State.sendRelay (s : State) (st : Stage) (plan : List (Nat × Berth)) (hand : List (Nat × List Byte)) : State × Bool :=
  let gs := s.relayCells
  let s := s.causeways.foldl (fun s c => s.wr (CW_STAT_RELAY c) (b2n (gs.any (fun g => g / 64 = c)))) s
  if gs.isEmpty ∧ hand.isEmpty then (s, false)
  else
    let ls := s.handLanes
    let s := (ls.zipIdx).foldl (fun s x =>
      s.emit (.frame x.1 (s.relayBytes st plan ((gs.drop (80 * x.2)).take 80) (hand[x.2]?)))) s
    let s := s.cnt RED_RELAY_DROP (gs.length - 80 * ls.length)
    ((hand.drop ls.length).foldl (fun s x =>
      match (s.way x.1).job with | some j => s.setJob x.1 (some { j with phase := 2 }) | none => s) s, true)

/-- The copy frames of this cycle, on both mate lanes, while the partner is a standby without its copy (R530). -/
def State.sendCopy (s : State) : State :=
  let h := s.rd RED_HEALTH_MATE
  if hRole h = 2 ∧ !hCopied h then
    let ks := s.copyKeys
    s.handLanes.foldl (fun s n =>
      let i := if s.red.copyNext ≥ ks.length then 0 else s.red.copyNext
      let part := (ks.drop i).take 60
      if part.isEmpty then s
      else (s.emit (.copy n (part.map s.copyRec))).setRed { s.red with copyNext := i + part.length }) s
  else s.setRed { s.red with copyNext := 0 }

/-! ### The counts of the sorter at a ferry-cycle start -/

/-- One arm: the changes of the last cycle, the quiet run and the charges at the start (R205, R217, R219). -/
def State.armStart (s : State) (a : Nat) : State :=
  let q := s.arm a
  s.setArm a { q with
    quiet := if q.cyc = 0 then min (q.quiet + 1) 256 else 0, cyc := 0, wasIn := q.inBand, inBand := true,
    starts := ((ctCycle s.ct, s.ct, q.q, q.qp) :: q.starts).take 4 }

/-- The sorter begins a ferry cycle: its number and start, ages, budgets, the full re-sort (R159, R209, R214). -/
def State.reefStart (s : State) : State :=
  let n := ctCycle s.ct
  let s := s.setReef { s.reef with cyc := n, start := n * cycU, ferry := s.reef.ferry + 1 }
  let s := s.arms.foldl (fun s a => s.armStart a) s
  let s := s.allCells.foldl (fun s g => let r := s.crec g; s.setRec g { r with age := min (r.age + 1) 256 }) s
  s.resortStart

/-! ### What leaves -/

/-- An epoch is staged: it is kept, and RUN_EPOCH and FULL_PEND follow (R240, R250, R268). -/
def State.stageKept (s : State) (plan : List (Nat × Berth)) : State :=
  if !s.committing then s
  else
    let full := s.on RUN_STAT_FULL_PEND || s.reef.full || decide (ctCycle s.ct % 256 = 0)
    let e : Epoch := ⟨ctCycle s.ct % 256, s.commitCt, plan.filter (fun x => x.2.valid), [], s.reef.rot⟩
    let s := s.setReef { s.reef with epochs := (e :: s.reef.epochs).take 4 }
    ((s.wr RUN_EPOCH_STAGED e.num).wr RUN_EPOCH_STAGED_FULL (b2n full)).wr RUN_STAT_FULL_PEND 0

/-- The ferries of every causeway lane, and the relay or copy frames. -/
def State.sendFerries (s : State) : State :=
  let s := s.setCws { s.cws with departs := ((ctCycle s.ct % 2 ^ 32, s.ct) :: s.cws.departs).take 16 }
  if s.isActive then
    let plan := s.sendPlan
    let st := s.stageNow
    let s := s.stageKept plan
    let (s, hand) := s.causeways.foldl (fun x c => x.1.sendActive st plan c x.2) (s, [])
    if !s.redundant then s
    else
      let (s, due) := s.sendRelay st plan hand
      if due then s else s.sendCopy
  else
    let s := s.causeways.foldl (fun s c => s.sendStandby c) s
    s.setRed { s.red with relay := .zero }

/-- The mate and arbiter frames (R509). -/
def State.sendPartners (s : State) : State :=
  if !(s.redundant ∧ s.lanesApplied) then s
  else
    let s := s.partnerLanes.foldl (fun s n => (s.emit (.frame n (s.partnerFrame n))).noteSent n) s
    s.setTim { s.tim with announce := 0 }

/-- The block-all that the injector sends in every ferry cycle of an island in STOPPED or FAULT (R534, R535). -/
def State.injectStart (s : State) : State :=
  let st := s.rd SAFE_STAT_STATE
  if s.safe.powered ∧ (st = ISL_STOPPED ∨ st = ISL_FAULT) ∧ s.lanesApplied then s.blockAll 3 else s

/-- The first ferry-cycle start after BUILD, or after a step of the active, is the anchor N0 of the control periods
(R195). -/
def State.anchorStart (s : State) : State :=
  if s.tim.anchor ∧ s.inRun then
    let n := ctCycle s.ct
    ((s.wr TIME_CP_ANCHOR_LO n).wr TIME_CP_ANCHOR_HI (n / 2 ^ 32)).setTim { s.tim with anchor := false }
  else s

/-- A takeover cycle begins with this start (R521, R522). -/
def State.takeoverStart (s : State) : State := if s.takeoverDue then s.takeover else s

/-- FERRY_CYCLE_START: this edge is the first of a ferry cycle of this Balgal's CT. -/
def execFerryCycleStart (s : State) : Host.Outcome State Fault Refusal :=
  let s := s.sendTails
  let s := s.setTim { s.tim with loadDue := true }
  let s := { s with flash := { s.flash with sent := [], sentBA := [], sentC := [] } }
  let s := if s.inRun then s.takeoverStart else s
  let s := s.redClose
  let s := if s.inRun ∧ !s.isArbiter then s.causeways.foldl (fun s c => s.cwClose c) s else s
  let s := s.anchorStart
  let s := if s.inRun ∧ !s.isArbiter then ((((s.reefDue).reefStart).convCycle).engsAt 1).tapsAt 1 else s
  let s := if s.inRun ∧ !s.isArbiter then s.sendFerries else s
  let s := s.sendPartners
  let s := if s.lanesApplied then [0, 1, 2, 3].foldl (fun s i => s.straitSend i) s else s
  let s := if s.inRun then [0, 1, 2, 3].foldl (fun s u => s.gooseChange u) s else s
  let s := s.injectStart
  .next (if s.inRun then s.fireRoute 1 else s)

end Sys2Proof.Machine
end

