-- ==== Sys2Proof/Machine/SkCommit.lean ====
section
/-! DEFINITION. Arming and commits in the cell, and the flash orders it obeys (R129, R155 to R157, R239 to R266). -/

namespace Sys2Proof.Machine
open Sys2Proof

/-- The 250 word clocks between a commit instant and its deadline, and the 1,250 and 2,500 of R253 and R260, in units of
2^-18 ns. -/
def deadlineU : Nat := 400 * nsU

/-- The cell's state follows an order of rank 5 or 6, unless a higher rank decides. -/
def Skerry.moveTo (k : Skerry) (st : Nat) : Skerry := if k.mayMove then k.setTarget st else k

/-! ### Applying a stage (R256, R376, R378) -/

/-- A pending mode order takes effect with an applied commit; `hold` says that the stage carries hold (R378). -/
def Skerry.takeMode (k : Skerry) (hold : Bool) : Skerry :=
  match k.gate.mode with
  | none => k
  | some m =>
    let k := (k.setGate { k.gate with mode := none }).wr SK_GATE_STAT_MODE_PEND 0
    if m = 0 then
      let k := k.wr SK_GATE_STAT_MODE 0
      let k := k.setGate { k.gate with half := 0, anchor := false, resume := false }
      if hold then k.moveTo ST_BYPASS else k
    else
      (k.wr SK_GATE_STAT_MODE 1).setGate { k.gate with anchor := true, half := 0 }

/-- Apply the chosen stage of slot i on this edge: the state or hold, the duty, EPOCH_DONE, SILENT 0, the AFTER change
(R255, R256, R261, R263). `late` says that the commit acted after its instant. -/
def Skerry.applySlot (k : Skerry) (i : Nat) (late : Bool) : Skerry :=
  let sl := k.slot i
  let b := k.rd (SK_CMD_SLOT_STAGE i) = 1
  let st := if b then sl.stB else sl.stA
  let duty := if b then sl.dutyB else sl.dutyA
  let k := k.cancelAfter
  let k := k.setCmd { k.cmd with blocked := false }
  let k := k.takeMode (decide (st = ST_HOLD))
  let weave := k.mode = 1
  let k := match duty with
    | some d => if weave ∧ st = ST_HOLD then k.wr SK_GATE_DUTY_NOW d else k
    | none => k
  let k := if st = ST_HOLD then
      (if weave ∧ !k.modulating ∧ k.mayMove then k.setGate { k.gate with resume := true } else k)
    else k.moveTo st
  let k := (k.wr SK_CMD_DONE_EPOCH_DONE (k.rd (SK_CMD_SLOT_EPOCH i))).wr SK_CMD_DONE_VALID 1
  let k := (k.wr SK_CMD_SILENT 0).wr (SK_CMD_SLOT_STATE i) SL_APPLIED
  if sl.after ≠ 0 ∧ sl.stAfter ≠ ST_HOLD ∧ !weave then
    let t := sl.at_ + (sl.after * wcU5 + 4) / 5
    let t := if late then max t (k.ct + 1) else t
    (k.setGate { k.gate with after := some ⟨sl.stAfter, t, i⟩ }).wr (SK_CMD_SLOT_AFTER_PEND i) 1
  else k

/-- COMMIT_INSTANT: CT reaches the commit instant of the CHOSEN slot `i` of cell `g` (R255). A cell whose discipline
keeps it from applying does not (R185). -/
def execCommitInstant (g i : Nat) (s : State) : Host.Outcome State Fault Refusal :=
  .next (s.runCell g (fun k =>
    if i < 2 ∧ k.rd (SK_CMD_SLOT_STATE i) = SL_CHOSEN ∧ k.timeOk ∧ k.partOk ∧ !k.discharging ∧ !k.fired then k.applySlot i false else k))

/-- AFTER_CHANGE: C + AFTER: the cell takes STATE_AFTER (R256). -/
def execAfterChange (g : Nat) (s : State) : Host.Outcome State Fault Refusal :=
  .next (s.runCell g (fun k =>
    match k.gate.after with
    | some a => (k.cancelAfter).moveTo a.state
    | none => k))

/-- EPOCH_DEADLINE: the deadline of slot `i`: freed, through MISSED with a commit miss when nothing was applied (R254,
R257). Index 2 stands for the oldest epoch whose commit R185 has kept from applying without a slot: a commit miss. -/
def execEpochDeadline (g i : Nat) (s : State) : Host.Outcome State Fault Refusal :=
  .next (s.runCell g (fun k =>
    if i < 2 ∧ k.rd (SK_CMD_SLOT_STATE i) ≠ SL_FREE then
      let st := k.rd (SK_CMD_SLOT_STATE i)
      let k := if st = SL_APPLIED then k else k.inc SK_CMD_COMMIT_MISS
      k.freeSlot i
    else if i = 2 ∧ !k.cmd.missed.isEmpty then
      (k.setCmd { k.cmd with missed := k.cmd.missed.tail }).inc SK_CMD_COMMIT_MISS
    else k))

/-! ### Arming (R252 to R254, R260) -/

/-- The slot for a new epoch: a free one, else that with the earlier commit instant, which is dropped (R254). -/
def Skerry.slotFor (k : Skerry) : Nat × Skerry :=
  if k.rd (SK_CMD_SLOT_STATE 0) = SL_FREE then (0, k)
  else if k.rd (SK_CMD_SLOT_STATE 1) = SL_FREE then (1, k)
  else
    let i := if (k.slot 1).at_ < (k.slot 0).at_ then 1 else 0
    (i, (k.freeSlot i).inc SK_CMD_STAGE_DROP)

/-- Arm an epoch with its stages; an early commit that names it chooses at once, one that names another is discarded
(R252, R254, R260). -/
def Skerry.arm (k : Skerry) (epoch : Nat) (sl : Slot) : Skerry :=
  let (i, k) := k.slotFor
  let k := k.setCmd { k.cmd with slots := tset (fun _ => Slot.zero) k.cmd.slots i sl,
                                 cyc := { k.cmd.cyc with slot := some i } }
  let k := ((k.wrW (A_SK_CMD_SLOT i) 0).wr (SK_CMD_SLOT_STATE i) SL_ARMED).wr (SK_CMD_SLOT_EPOCH i) epoch
  let k := (k.wr (SK_CMD_SLOT_AT_NS i) (ctNs sl.at_)).wr (SK_CMD_SLOT_AT_SEC i) (ctSec sl.at_)
  if k.on SK_CMD_EARLY_VALID then
    if k.rd SK_CMD_EARLY_EPOCH = epoch then
      let k := (k.wr (SK_CMD_SLOT_STATE i) SL_CHOSEN).wr (SK_CMD_SLOT_STAGE i) (k.rd SK_CMD_EARLY_STAGE)
      (k.inc SK_CMD_COMMIT_EARLY).wrW A_SK_CMD_EARLY 0
    else k.dropEarly
  else k

/-! ### Flash orders (R155 to R157, R255 to R263) -/

/-- A commit of `epoch` with `stage` acts (R255, R257 to R260). -/
def Skerry.commit (k : Skerry) (epoch stage : Nat) : Skerry :=
  if !k.partOk ∨ k.discharging ∨ k.fired then k
  else
    let held := [0, 1].filter (fun i =>
      k.rd (SK_CMD_SLOT_STATE i) ≠ SL_FREE && k.rd (SK_CMD_SLOT_STATE i) ≠ SL_MISSED && k.rd (SK_CMD_SLOT_EPOCH i) = epoch)
    match held with
    | i :: _ =>
      let st := k.rd (SK_CMD_SLOT_STATE i)
      if st = SL_ARMED then
        if !k.timeOk then k
        else
          let k := (k.wr (SK_CMD_SLOT_STATE i) SL_CHOSEN).wr (SK_CMD_SLOT_STAGE i) stage
          let sl := k.slot i
          if k.ct > sl.at_ + deadlineU then k
          else if k.ct > sl.at_ then (k.inc SK_CMD_COMMIT_LATE).applySlot i true
          else k
      else if k.rd (SK_CMD_SLOT_STAGE i) = stage then k
      else k.inc SK_CMD_COMMIT_CONFLICT
    | [] =>
      if !k.timeOk then
        (if k.cmd.missed.contains epoch then k else k.setCmd { k.cmd with missed := k.cmd.missed ++ [epoch] })
      else if k.on SK_CMD_EARLY_VALID ∧ k.rd SK_CMD_EARLY_EPOCH = epoch then
        (if k.rd SK_CMD_EARLY_STAGE = stage then k else k.inc SK_CMD_COMMIT_CONFLICT)
      else
        let k := k.dropEarly
        ((k.wr SK_CMD_EARLY_EPOCH epoch).wr SK_CMD_EARLY_STAGE stage).wr SK_CMD_EARLY_VALID 1

/-- COMMIT: a valid commit flash order acts in cell `g`. -/
def execCommit (g epoch stage : Nat) (s : State) : Host.Outcome State Fault Refusal :=
  .next (s.runCell g (fun k => k.commit (epoch % 256) (stage % 2)))

/-- EARLY_COMMIT_EXPIRE: an early commit has been held for 1,250 word clocks (R260). -/
def execEarlyCommitExpire (g : Nat) (s : State) : Host.Outcome State Fault Refusal := .next (s.runCell g Skerry.dropEarly)

/-- An insert-one or bypass-one that names the cell (R156, R157, R261, R262). -/
def Skerry.single (k : Skerry) (st : Nat) : Skerry :=
  if !k.partOk ∨ k.cmd.blocked ∨ k.discharging ∨ k.fired then k else (k.cancelAfter).moveTo st

/-- INSERT_ONE: with polarity `pol`; POL 1 in a cell that is not full-bridge is ignored and counted (R156). -/
def execInsertOne (g pol : Nat) (s : State) : Host.Outcome State Fault Refusal :=
  .next (s.runCell g (fun k =>
    if pol % 2 = 1 ∧ k.pow.ctype ≠ 2 then k.inc SK_CMD_FLASH_IGN
    else k.single (if pol % 2 = 1 then ST_INSN else ST_INSP)))

/-- BYPASS_ONE (R156). -/
def execBypassOne (g : Nat) (s : State) : Host.Outcome State Fault Refusal := .next (s.runCell g (fun k => k.single ST_BYPASS))

/-- BLOCK_ALL: the cell blocks, frees its slots and logs the REASON (R156, R263, R392). -/
def execBlockAll (g reason : Nat) (s : State) : Host.Outcome State Fault Refusal :=
  .next (s.runCell g (fun k => (k.obeyBlock.rank3).log 0x0020 [reason % 256]))

/-- SILENT_BLOCK: SK_CMD_SILENT reaches 32: the cell blocks, once, and logs it (R266). -/
def execSilentBlock (g : Nat) (s : State) : Host.Outcome State Fault Refusal :=
  .next (s.runCell g (fun k =>
    if k.rd SK_CMD_SILENT < 32 then ((k.wr SK_CMD_SILENT 32).obeyBlock.rank3).log 0x0021 [] else k))

/-- The cell's delay from the end of port p, in units of 2^-18 ns: the mean of 64 values, or k hops (R126, R147, R191). -/
def Skerry.delay (k : Skerry) (p : Nat) : Int :=
  let ds := if p = 0 then k.cmd.dH else k.cmd.dT
  if k.on SK_TOP_STAT_DLY_OK ∧ ds.length ≠ 0 then ds.foldl (· + ·) 0 / (ds.length : Int)
  else ((k.rd (if p = 0 then SK_LINK_POS_HOP_H else SK_LINK_POS_HOP_T) * 2 * wcU5 / 5 : Nat) : Int)

/-- TIME_MARK: a valid time-mark on port `p`; `back` is the time since the first bit of symbol 0 arrived, in 1/16 word
clocks (R156, R194, R673). -/
def execTimeMark (g p mark back : Nat) (s : State) : Host.Outcome State Fault Refusal :=
  .next (s.runCell g (fun k =>
    let t := ((k.ct : Int) - sixteenths back - k.delay p).toNat
    let k := (k.wr SK_TIME_MARK_MARK mark).wr SK_TIME_MARK_VALID 1
    (k.wr SK_TIME_MARK_NS (ctNs t)).wr SK_TIME_MARK_SEC (ctSec t)))

/-- WAKE: a valid wake naming cell `g` or all cells; it returns a cell in REPEAT to RUN, by cause 5 (R156, R348). -/
def execWake (g : Nat) (s : State) : Host.Outcome State Fault Refusal :=
  .next (s.onCell g (fun k => if k.pow.state = .repeating then k.wakeRun 5 else k))

end Sys2Proof.Machine
end

