-- ==== Sys2Proof/Machine/SkFreight.lean ====
section
/-! DEFINITION. Freight in the Skerry: requests, replies, parts, images (R75 to R81, R134 to R139, R361, R614 to R616). The
commands FREIGHT_READ, FREIGHT_WRITE, FREIGHT_PART, FREIGHT_IMAGE, FREIGHT_LOG, COLLECT, REPLY_READY, IMAGE_VERIFY. -/

namespace Sys2Proof.Machine
open Sys2Proof

/-- The bytes that no rule states, for one reply: 48 of data and a length. -/
def openBytes (opens : Nat) : List Byte := (List.range 49).map (fun i => BitVec.ofNat 8 (Config.freeValue (opens + i)).toNat)
def State.fill (s : State) : List Byte := openBytes s.opens
def State.filled (s : State) : State := { s with opens := s.opens + 49 }

/-! ### Firmware images (R614 to R616) -/

/-- LENGTH of the image whose block 0 is held, and its number of blocks. -/
def imgLength (b0 : List Byte) : Nat := b32 b0 8
def imgBlocks (b0 : List Byte) : Nat := (128 + imgLength b0 + 47) / 48

/-- Block 0 keeps R614. -/
def imgHeadOk (b0 : List Byte) : Bool :=
  decide (b32 b0 0 = 0x534B494D ∧ b16 b0 4 = 1 ∧ b16 b0 6 = 0) && inR (imgLength b0) 1 393088
  && decide (b32 b0 16 % 4 = 0 ∧ b32 b0 16 < imgLength b0) && (List.range 28).all (fun i => decide (b8 b0 (20 + i) = 0))

def Skerry.img0 (k : Skerry) : List Byte := tget (fun _ => []) k.fr.image 0

/-- Every block of the image is held. -/
def Skerry.imgWhole (k : Skerry) : Bool := !k.img0.isEmpty && decide (k.fr.image.length = imgBlocks k.img0)

/-- The first block number from `i` on that is not held; `fuel` bounds the search. -/
def firstGap (bs : List (Nat × List Byte)) (i : Nat) : Nat → Nat
  | 0 => i
  | fuel + 1 => if bs.any (fun b => decide (b.1 = i)) then firstGap bs (i + 1) fuel else i

/-- HELD, FIRST, COMPLETE, and the start of the verification once the part is applied. -/
def Skerry.imgShow (k : Skerry) : Skerry :=
  let n := k.fr.image.length
  let k := (k.wr SK_TOP_IMG_HELD n).wr SK_TOP_IMG_MISS_FIRST (firstGap k.fr.image 0 n)
  let k := k.wr SK_TOP_IMG_MISS_COMPLETE (b2n k.imgWhole)
  if k.imgWhole ∧ k.partOk ∧ k.rd SK_TOP_IMG_STATE = 1 then k.wr SK_TOP_IMG_STATE 2 else k

/-- An IMAGE block arrives (R615). -/
def Skerry.imageBlock (k : Skerry) (i : Nat) (data : List Byte) : Skerry :=
  let q := k.fr
  let drop := (k.setFr { q with discarded := q.discarded + 1 })
  if i = 0 then
    if !imgHeadOk data then drop
    else
      let new := decide (k.img0 ≠ data)
      let k := k.setFr { q with image := if new then [(0, data)] else q.image }
      let st := k.rd SK_TOP_IMG_STATE
      (if new ∨ st = 2 then k.wr SK_TOP_IMG_STATE 1 else k).imgShow
  else if k.img0.isEmpty ∨ i ≥ imgBlocks k.img0 then drop
  else
    let was := tget (fun _ => []) q.image i
    let k := k.setFr { q with image := tset (fun _ => []) q.image i data }
    (if was ≠ data ∧ k.rd SK_TOP_IMG_STATE = 2 then k.wr SK_TOP_IMG_STATE 1 else k).imgShow

/-- The bytes of the image held. -/
def Skerry.imgBytes (k : Skerry) : List Byte := k.fr.image.flatMap (fun b => b.2)

/-- The reason of SK_TOP_IMG for which the image held is rejected; 0 for none (R616). -/
def Skerry.imgReason (k : Skerry) : Nat :=
  let m := k.imgBytes
  let p := k.param
  let key := (p.drop 112).take 32
  if !((m.drop 48).take 16).all (fun b => decide (b = 0)) then 1
  else if key.all (fun b => decide (b = 0)) then 2
  else if !ed25519 key (m.take 64 ++ (m.drop 128).take (imgLength m)) ((m.drop 64).take 64) then 3
  else if b32 m 12 < b32 p 144 then 4 else 0

/-- The verification of a whole image ends (R616). -/
def Skerry.imageVerify (k : Skerry) : Skerry :=
  if k.rd SK_TOP_IMG_STATE ≠ 2 ∨ !k.partOk then k
  else
    let r := k.imgReason
    if r = 0 then
      let m := k.imgBytes
      let k := k.setFr { k.fr with running := (m.drop 128).take (imgLength m), reply := none }
      let k := (k.wr SK_TOP_IMG_STATE 3).wr SK_TOP_IMG_VER (b32 m 12)
      (if k.fr.coreUp then k.wr SK_TOP_STAT_CORE 1 else k).log 0x0071 (leNums (b32 m 12))
    else
      let k := (k.setFr { k.fr with image := [] }).wr SK_TOP_IMG_STATE 4
      ((k.wr SK_TOP_IMG_REASON r).log 0x0070 [r]).imgShow

/-- IMAGE_VERIFY: the verification of cell `g` ends. -/
def execImageVerify (g : Nat) (s : State) : Host.Outcome State Fault Refusal := .next (s.runCell g Skerry.imageVerify)

/-! ### Requests (R135, R136, R138) -/

/-- Leave a reply pending in place of an uncollected one. -/
def Skerry.leave (k : Skerry) (tag addr index : Nat) (data : List Byte) (len rsp : Nat) : Skerry :=
  k.setFr { k.fr with reply := some ⟨tag, addr, index, data, len, rsp, false⟩ }

/-- A reply whose data no rule states. -/
def Skerry.leaveBare (k : Skerry) (tag addr index rsp : Nat) (fill : List Byte) : Skerry :=
  k.leave tag addr index (fill.take 48) (b8 fill 48) rsp

/-- FR_LEN of a READ or WRITE: 4 to 48 in steps of 4. -/
def lenOk (len : Nat) : Bool := decide (4 ≤ len ∧ len ≤ 48 ∧ len % 4 = 0)

/-- A READ (R135, R136). -/
def Skerry.freightRead (k : Skerry) (tag addr len : Nat) (fill : List Byte) : Skerry :=
  if len = 0 then k.leave tag addr 0 (fill.take 48) 0 1
  else if !lenOk len then k.leaveBare tag addr 0 6 fill
  else if !(List.range (len / 4)).all (fun i => skReadable (addr + 4 * i)) then k.leaveBare tag addr 0 4 fill
  else
    let (bs, k) := k.readWords .freight addr (len / 4)
    k.leave tag addr 0 (bs ++ (fill.take 48).drop len) len 1

/-- A WRITE (R135, R136). -/
def Skerry.freightWrite (k : Skerry) (tag addr len : Nat) (data : List Byte) (still : List Nat) (fill : List Byte) : Skerry :=
  if len = 0 then k.leave tag addr 0 (fill.take 48) 0 1
  else if !lenOk len then k.leaveBare tag addr 0 6 fill
  else if !(List.range (len / 4)).all (fun i => skWritable (addr + 4 * i)) then k.leaveBare tag addr 0 4 fill
  else
    let (e, k) := k.writeWords addr still tag (wordsOf (data.take len))
    k.leaveBare tag addr 0 (match e with | .done => 1 | .bus => 4 | .refused => 5) fill

/-- The 48 log bytes from an offset; `bad` are the 8-byte words that the code cannot correct (R469). Bytes beyond the
log are open. -/
def Skerry.logBytes (k : Skerry) (off : Nat) (bad : List Nat) (fill : List Byte) : List Byte :=
  (List.range 48).map (fun i =>
    let a := off + i
    if a ≥ 65536 then fill.getD i 0 else if bad.contains (a / 8) then 0xFF else k.byte (0x10000000 + a))

/-- A LOG (R135, R136, R469); `fixed` words were corrected. -/
def Skerry.freightLog (k : Skerry) (tag off len : Nat) (bad : List Nat) (fixed : Nat) (fill : List Byte) : Skerry :=
  if len > 48 then k.leaveBare tag off 0 6 fill
  else
    let hit := (List.range 48).any (fun i => bad.contains ((off + i) / 8))
    let k := k.cnt SK_TOP_ECC_LOG fixed
    k.leave tag off 0 (k.logBytes off bad fill) 48 (if hit then 4 else 1)

/-- A Skerry whose core pair is halted serves no freight but RESET; READ, WRITE and LOG need the core pair (R362). -/
def Skerry.serves (k : Skerry) (core : Bool) : Bool := k.rd SK_TOP_STAT_CORE ≠ 2 && (!core || k.fr.coreUp)

/-- A freight that names the Skerry is acted on (R135). -/
def Skerry.freight (k : Skerry) (op tag addr len index : Nat) (data : List Byte) (still : List Nat) (fill : List Byte) : Skerry :=
  if op = 1 then (if k.serves true then k.freightRead tag addr len fill else k)
  else if op = 2 then (if k.serves true then k.freightWrite tag addr len data still fill else k)
  else if op = 3 then (if k.serves false then (k.partBlock index addr data).imgShow else k)
  else if op = 4 then (if k.serves false then k.imageBlock index data else k)
  else if op = 5 then (if k.serves true then k.freightLog tag addr len [] 0 fill else k)
  else if op = 6 then (if addr = 0x80000000 + k.rd SK_TOP_CELL_G then k.remoteReset else k)
  else k

/-! ### Replies (R139) -/

/-- The pending reply with a tag, as a COLLECT finds it. -/
def Skerry.replyOf (k : Skerry) (tag : Nat) : Option SkReply := k.fr.reply.filter (fun r => decide (r.tag = tag))

/-- The freight bytes 0 to 63 that a COLLECT leaves with the reply `rep`, over the bytes `fr` that arrived under header bytes
26 to 29 (R139). -/
def collectBytes (rep : Option SkReply) (head fr : List Byte) : List Byte :=
  let fr := (fr ++ List.replicate 64 0).take 64
  let body : List Byte :=
    match rep with
    | none => fr.take 53 ++ [3] ++ (fr.drop 54).take 2
    | some r =>
      beBytes 4 r.addr ++ (if r.ready then r.data.take 48 else (fr.drop 4).take 48) ++
        [if r.ready then BitVec.ofNat 8 r.len else fr.getD 52 0, if r.ready then BitVec.ofNat 8 r.rsp else 2] ++ beBytes 2 r.index
  let body := body ++ [0, 0, 0, 0]
  body ++ beBytes 4 (crc32 (head ++ body))

/-- PARK sees that its reply has been collected (R360). -/
def Skerry.collected (k : Skerry) (rep : Option SkReply) : Skerry :=
  match rep with
  | some r => if r.ready ∧ k.on SK_PWR_STAT_PARK_PEND ∧ r.tag = k.pow.parkTag
              then k.setPow { k.pow with parkCollected := true } else k
  | none => k

/-- REPLY_READY: the pending reply of cell `g` is ready (R138). -/
def execReplyReady (g : Nat) (s : State) : Host.Outcome State Fault Refusal :=
  .next (s.runCell g (fun k => k.setFr { k.fr with reply := k.fr.reply.map (fun r => { r with ready := true }) }))

/-! ### The commands -/

/-- FREIGHT_READ: a READ for cell `g`; `fixed` SRAM words were corrected (R469). -/
def execFreightRead (g tag addr len fixed : Nat) (s : State) : Host.Outcome State Fault Refusal :=
  .next (s.runCell g (fun k =>
    if k.serves true then (k.cnt SK_TOP_ECC_SRAM fixed).freightRead (tag % 256) addr (len % 256) s.fill else k)).filled

/-- FREIGHT_WRITE: a WRITE for cell `g`; `still` are the fault inputs asserted. -/
def execFreightWrite (g tag addr len : Nat) (data : List Byte) (still : List Nat) (s : State) :
    Host.Outcome State Fault Refusal :=
  .next (s.runCell g (fun k =>
    if k.serves true then k.freightWrite (tag % 256) addr (len % 256) data still s.fill else k)).filled

/-- FREIGHT_PART: PART block `i` under `id` for cell `g`. -/
def execFreightPart (g i id : Nat) (data : List Byte) (s : State) : Host.Outcome State Fault Refusal :=
  .next (s.runCell g (fun k => if k.serves false then (k.partBlock i id data).imgShow else k))

/-- FREIGHT_IMAGE: IMAGE block `i` for cell `g`. -/
def execFreightImage (g i : Nat) (data : List Byte) (s : State) : Host.Outcome State Fault Refusal :=
  .next (s.runCell g (fun k => if k.serves false then k.imageBlock i data else k))

/-- FREIGHT_LOG: a LOG for cell `g`. -/
def execFreightLog (g tag off len : Nat) (bad : List Nat) (fixed : Nat) (s : State) : Host.Outcome State Fault Refusal :=
  .next (s.runCell g (fun k =>
    if k.serves true then k.freightLog (tag % 256) off (len % 256) bad fixed s.fill else k)).filled

/-- COLLECT: a COLLECT of `tag` passes cell `g` over an empty freight; the bytes that it leaves. -/
def execCollect (g tag : Nat) (s : State) : Host.Outcome State Fault Refusal :=
  let k := s.cell g
  if k.inRun then
    let rep := k.replyOf (tag % 256)
    let bs := collectBytes rep (beBytes 2 g ++ [0x10, BitVec.ofNat 8 tag]) []
    .next ((s.setCell g (k.collected rep)).emit (.readBytes .freight bs))
  else .next s

end Sys2Proof.Machine
end

