-- ==== Sys2Proof/Machine/SkFerry.lean ====
section
/-! DEFINITION. A ferry through a Skerry (R91, R92, R98, R99, R121 to R149, R190, R191, R242, R252, R253, R421). The
commands FERRY_RECEIVE_SKERRY and MISSING_FERRY. -/

namespace Sys2Proof.Machine
open Sys2Proof

/-! ### The status half (R131, R149, R421) -/

/-- VCAP in 0.1 V; 0xFFFF at full scale. -/
def Skerry.statusVcap (k : Skerry) : Nat :=
  let c := k.rd (SK_CONV_RES_CODE 1 0 0)
  if c = 8388607 then 0xFFFF else (rnd ((c : Int) * k.vfsV * 10) fsCode).toNat

/-- TEMP in °C, two's complement; 0x80 where the input is not enabled or its result is SETTLE or OVR. -/
def Skerry.statusTemp (k : Skerry) : Nat :=
  if !bitOf (k.rd SK_CONV_CFG_MASK1) 0 ∨ k.on (SK_CONV_RES_SETTLE 1 1 0) ∨ k.on (SK_CONV_RES_OVR 1 1 0) then 0x80
  else
    let p := k.param
    let t := rnd (signed 16 (b16 p 58) * fsCode + signed 16 (b16 p 60) * (k.rdS (SK_CONV_RES_CODE 1 1 0))) (100 * fsCode)
    unsigned 8 (max (-127) (min 127 t))

/-- The eight status bytes of an ordinary ferry. -/
def Skerry.status (k : Skerry) : List Byte :=
  beBytes 2 k.statusVcap ++
  [BitVec.ofNat 8 k.statusTemp,
   BitVec.ofNat 8 (k.applied * 32 + k.rd SK_TOP_STAT_PART * 8 + b2n k.refreshDue * 4 + b2n (k.locked 0) * 2 + b2n (k.locked 1)),
   BitVec.ofNat 8 (k.health * 64 + k.cmd.miss % 2 * 32 + k.cmd.miss / 2 % 2 * 16 + k.rd (SK_CONV_RES_OVR 1 0 0) * 8
     + b2n (k.on SK_FLT_LATCH_LATCH) * 4 + k.rd SK_TOP_STAT_DLY_OK * 2 + k.rd (SK_CONV_RES_SETTLE 1 0 0)),
   BitVec.ofNat 8 (k.rd SK_CMD_DONE_EPOCH_DONE)] ++ beBytes 2 (k.rd SK_GATE_SW_CNT % 65536)

/-- The eight status bytes of a measurement ferry. -/
def Skerry.measureStatus (k : Skerry) : List Byte :=
  beBytes 4 (k.rd SK_LINK_DLY_H_D) ++
  [BitVec.ofNat 8 (k.rd SK_LINK_POS_HOP_H), BitVec.ofNat 8 (k.rd SK_LINK_POS_HOP_T),
   BitVec.ofNat 8 (k.rd SK_TOP_STAT_DLY_OK + 2 * b2n (k.locked 0) + 4 * b2n (k.locked 1) + 8 * k.rd SK_TOP_STAT_PART),
   BitVec.ofNat 8 (k.rd SK_LINK_DLY_H_SAMPLES)]

/-! ### Passing the ferry on (R92, R99, R124, R139, R145, R146) -/

def Skerry.passOf (k : Skerry) (p : Nat) : Pass := tget (fun _ => Pass.zero) k.pass p
def Skerry.setPass (k : Skerry) (p : Nat) (q : Pass) : Skerry := { k with pass := tset (fun _ => Pass.zero) k.pass p q }

/-- The offset of the status half of this Skerry's berth. -/
def Skerry.statusAt (k : Skerry) : Nat := 40 + 16 * (k.rd SK_TOP_CELL_G % 64)

/-- The freight of the ferry is a COLLECT that names this Skerry. -/
def Skerry.collectMine (k : Skerry) (f : List Sym) : Bool :=
  let head := ferryBytes f 26 4
  decide (b8 head 2 = 0x10 ∧ b16 head 0 = k.rd SK_TOP_CELL_G)

/-- A Skerry in RUN that has its berth fixes its status as the first byte of its status half passes, and the reply to a
COLLECT that names it as the first byte of the freight passes (R131, R139). -/
def Skerry.passNow (k : Skerry) (q : Pass) (f : List Sym) : Pass × Skerry :=
  if !k.inRun ∨ !k.on SK_TOP_CELL_VALID then (q, k)
  else
    let q := if q.status.isNone ∧ f.length > k.statusAt then
      { q with status := some (if frMeasure f then k.measureStatus else k.status) } else q
    if q.coll.isNone ∧ f.length > 1056 ∧ k.collectMine f then
      let rep := k.replyOf (fld f 29 1)
      ({ q with coll := some rep }, k.collected rep)
    else (q, k)

/-- The bytes written over the ferry: offset of the first, and the bytes. -/
def Skerry.overwrites (k : Skerry) (q : Pass) (f : List Sym) : List (Nat × List Byte) :=
  (match q.status with | some b => [(k.statusAt, b)] | none => []) ++
  (match q.coll with | some rep => [(1056, collectBytes rep (ferryBytes f 26 4) (ferryBytes f 1056 64))] | none => [])

/-- The byte that the Skerry writes at an offset, if any. -/
def overAt (os : List (Nat × List Byte)) (i : Nat) : Option Byte :=
  (os.find? (fun o => decide (o.1 ≤ i ∧ i < o.1 + o.2.length))).bind (fun o => o.2[i - o.1]?)

/-- The ferry as received was damaged: wrong CRC, ended in K28.1, or held a symbol error (R145). -/
def damaged (f : List Sym) : Bool :=
  f.any (fun x => decide (x = .err ∨ x = .k kPROP)) || decide (f.getLast? = some (.k kMARK)) || !crcOk f

/-- The ferry as sent on: HOPS + 1, the overwrites, a new CRC and EOF. -/
def ferryOn (f : List Sym) (os : List (Nat × List Byte)) : List Sym :=
  let body := ((f.zipIdx).take 1131).map (fun x =>
    if x.2 = 3 then (if isData x.1 then .d (BitVec.ofNat 8 (frHops f + 1)) else repeated x.1)
    else match overAt os x.2 with
      | some b => .d b
      | none => repeated x.1)
  body ++ (beBytes 4 (crc32 ((body.drop 1).map symByte))).map Sym.d ++ [.k (if damaged f then kMARK else kEOF)]

/-- The stretch with its flash orders, the ferry's symbols replaced by those sent on. -/
def rejoin (ts : List (Sym × Option Nat)) (f : List Sym) : List Sym :=
  ts.map (fun x => match x.2 with
    | some i => f.getD i (repeated x.1)
    | none => repeated x.1)

/-! ### Learning and delays (R125, R147, R148) -/

/-- The ferry is valid at port `p` of this Skerry (R125). -/
def Skerry.valid (k : Skerry) (p : Nat) (f : List Sym) : Bool :=
  ferryOk f p && decide (frHops f < frCount f)
  && (!k.cmd.learnt || (decide (frCauseway f = k.rd SK_LINK_POS_CAUSEWAY) && decide (frCount f = k.rd SK_TOP_CELL_COUNT)))

/-- Place and hop positions from a valid ferry (R26, R147). -/
def Skerry.learn (k : Skerry) (p : Nat) (f : List Sym) : Skerry :=
  let h := frHops f
  let n := frCount f
  let b := if p = 0 then h else n - 1 - h
  let fresh := !k.cmd.learnt
  let k := ((k.wr SK_LINK_POS_CAUSEWAY (frCauseway f)).wr SK_TOP_CELL_COUNT n).wr SK_TOP_CELL_G (64 * frCauseway f + b)
  let k := if p = 0 ∨ fresh then k.wr SK_LINK_POS_HOP_H b else k
  let k := if p = 1 ∨ fresh then k.wr SK_LINK_POS_HOP_T (n - 1 - b) else k
  let k := (k.wr SK_TOP_CELL_VALID 1).wr SK_LINK_POS_VALID 1
  k.setCmd { k.cmd with learnt := true }

/-- The mean of 64 delays in 1/16 word clocks (R147, R672). -/
def meanDly (ds : List Int) : Nat := (toSixteenth (ds.foldl (· + ·) 0 / (ds.length : Int))).toNat

/-- Show a delay register once its 64 values are held. -/
def Skerry.showDly (k : Skerry) : Skerry :=
  let k := if k.cmd.dH.length = 64 then (k.wr SK_LINK_DLY_H_D (meanDly k.cmd.dH)).wr SK_LINK_DLY_H_SAMPLES 64 else k
  if k.cmd.dT.length = 64 then (k.wr SK_LINK_DLY_T_D (meanDly k.cmd.dT)).wr SK_LINK_DLY_T_SAMPLES 64 else k

/-- The hop of R35 in units of 2^-18 ns: 2 word clocks. -/
def hopU : Int := 2 * (wcU5 : Int) / 5

/-- Δ of a cycle from its two ferries, with the check of the hop positions (R147). -/
def Skerry.pairUp (k : Skerry) (p : Nat) (f : List Sym) (arr : Int) : Skerry :=
  let q := frSeq f
  match k.cmd.first with
  | some (q', p', arr', dep') =>
    if q' = q ∧ p' ≠ p then
      let d := frDepart f
      let pr : SkPair := if p = 0 then ⟨q, arr' - arr, d, dep'⟩ else ⟨q, arr - arr', dep', d⟩
      let bad := decide (k.rd SK_LINK_POS_HOP_H + k.rd SK_LINK_POS_HOP_T + 1 ≠ frCount f)
      (k.setCmd { k.cmd with first := none, pairs := (pr :: k.cmd.pairs).take 16, hopBad := bad }).heal
    else k.setCmd { k.cmd with first := some (q, p, arr, frDepart f) }
  | none => k.setCmd { k.cmd with first := some (q, p, arr, frDepart f) }

/-- d_H or d_T from the trailer of a ferry (R147, R148). -/
def Skerry.measure (k : Skerry) (p : Nat) (f : List Sym) : Skerry :=
  match oppAt f 1120 (frDepart f) with
  | none => k
  | some (opp, q) =>
    match k.cmd.pairs.find? (fun x => decide (x.seq % 65536 = q)) with
    | none => k
    | some x =>
      let dl := sixteenths x.delta
      let d := if p = 0 then ((opp : Int) - x.depH - dl - hopU) / 2 else ((opp : Int) - x.depT + dl - hopU) / 2
      let c := k.cmd
      let c := if p = 0 then { c with dH := (d :: c.dH).take 64 } else { c with dT := (d :: c.dT).take 64 }
      let k := (k.setCmd c).showDly
      if c.dH.length = 64 ∧ c.dT.length = 64 ∧ !k.on SK_TOP_STAT_DLY_OK then
        (k.wr SK_TOP_STAT_DLY_OK 1).setCmd { c with dlyNew := true }
      else k

/-! ### Time (R190, R191) -/

/-- The time port follows the senders of the valid ferries, port H first. -/
def Skerry.timePort (k : Skerry) (p : Nat) (f : List Sym) : Skerry :=
  if frSender f ≠ 1 then k.wr (SK_LINK_STAT_TIMEPORT p) 0
  else if p = 0 then (k.wr (SK_LINK_STAT_TIMEPORT 0) 1).wr (SK_LINK_STAT_TIMEPORT 1) 0
  else if k.on (SK_LINK_STAT_TIMEPORT 0) then k else k.wr (SK_LINK_STAT_TIMEPORT 1) 1

/-- The sample of a ferry on the time port; `back` sixteenths of a word clock have passed since its SOF. -/
def Skerry.ferrySample (k : Skerry) (p : Nat) (f : List Sym) (back : Int) : Skerry :=
  if k.on (SK_LINK_STAT_TIMEPORT p) then k.sample ((frDepart f : Int) + k.delay p - ((k.ct : Int) - sixteenths back)) else k

/-! ### Commands (R129, R130, R132, R242, R252, R253) -/

/-- A full CT from COMMIT_AT: SEC[1:0] and nanoseconds, in the four seconds from 2 s before `now` on (R242). -/
def commitFull (v now : Nat) : Int :=
  let span : Int := 4 * (secU : Int)
  let low : Int := (v / 2 ^ 30 % 4 : Nat) * (secU : Int) + (v % 2 ^ 30 : Nat) * (nsU : Int)
  let from_ : Int := (now : Int) - span / 2
  from_ + (low - from_) % span

/-- A berth with a refused state code (R128, R129). -/
def Skerry.berthBad (k : Skerry) (b : Berth) : Bool :=
  !(stateOk k.pow.ctype b.stA) || !(stateOk k.pow.ctype b.stB) || !(stateOk k.pow.ctype b.stAfter)

/-- The slot that a command half fills at a commit instant; hold and no change without one (R252). -/
def slotOf (at_ : Nat) (b : Option Berth) : Slot :=
  match b with
  | some b => ⟨at_, b.stA, b.stB, some b.dutyA, some b.dutyB, b.stAfter, b.after⟩
  | none => { Slot.zero with at_ := at_ }

/-- The Skerry takes stages at all: part applied, time in order, no discharge, not fired (R79, R185, R358, R392). -/
def Skerry.takesStages (k : Skerry) : Bool := k.partOk && k.timeOk && !k.discharging && !k.fired

/-- A valid ferry begins the cycle of its SEQ; the one before is over, with or without a usable command half (R132). -/
def Skerry.openCycle (k : Skerry) (q : Nat) : Skerry :=
  let c := k.cmd.cyc
  if c.seq = q ∧ (c.got ≠ 0 ∨ c.lost ≠ 0) then k
  else
    let k := if !c.used ∧ (c.got ||| c.lost) ≠ 0 ∧ (c.got ||| c.lost) ≠ 3 then k.inc SK_CMD_NOCMD else k
    k.setCmd { k.cmd with cyc := { SkCycle.zero with seq := q } }

/-- STAGE 1 in a valid ferry whose half is `b`, when it is the half used (R252, R253). -/
def Skerry.stage (k : Skerry) (f : List Sym) (b : Option Berth) : Skerry :=
  let c := k.cmd.cyc
  let bad := b.any k.berthBad
  match c.staged with
  | none =>
    let k := k.setCmd { k.cmd with cyc := { c with staged := some (frEpoch f, frAt f) } }
    if !k.takesStages then k
    else
      let t := commitFull (frAt f) k.ct
      if t < k.ct ∨ t > (frDepart f : Int) + 4000 * nsU ∨ bad then k.inc SK_CMD_STAGE_REJ
      else k.arm (frEpoch f) (slotOf t.toNat b)
  | some x =>
    if x ≠ (frEpoch f, frAt f) then
      let k := if !c.refused ∧ k.takesStages then k.inc SK_CMD_STAGE_REJ else k
      let k := match c.slot with
        | some i => if k.rd (SK_CMD_SLOT_STATE i) = SL_APPLIED then k else k.freeSlot i
        | none => k
      k.setCmd { k.cmd with cyc := { k.cmd.cyc with refused := true, slot := none } }
    else
      match c.slot with
      | some i =>
        let st := k.rd (SK_CMD_SLOT_STATE i)
        if b.isSome ∧ !bad ∧ (st = SL_ARMED ∨ st = SL_CHOSEN) then
          k.setCmd { k.cmd with slots := tset (fun _ => Slot.zero) k.cmd.slots i (slotOf (k.slot i).at_ b) }
        else k
      | none => k

/-- An ACTION; `still` are the fault inputs asserted (R130). -/
def Skerry.action (k : Skerry) (a : Nat) (still : List Nat) : Skerry :=
  if a = 0 then k
  else if a = 1 then k.retire
  else if a = 2 then k.trigThy
  else if a = 3 then k.startDischarge
  else if a = 4 then k.clearFaults still
  else if a = 5 then k.modeOrder 0
  else if a = 6 then k.modeOrder 1
  else k.inc SK_CMD_ACTION_REJ

/-- The command half of a valid ferry: used by the first with VALID 1 (R132). -/
def Skerry.commands (k : Skerry) (f : List Sym) (still : List Nat) : Skerry :=
  let b := halfOf (ferryBytes f (32 + 16 * (k.rd SK_TOP_CELL_G % 64)) 8)
  let use := b.valid && !k.cmd.cyc.used
  let k := if use then k.setCmd { k.cmd with cyc := { k.cmd.cyc with used := true } } else k
  let k := if use ∧ k.berthBad b then k.inc SK_CMD_STATE_REJ else k
  let k := if frStage f then k.stage f (if use then some b else none) else k
  if use then k.action b.action still else k

/-- The freight of a valid ferry (R135). -/
def Skerry.ferryFreight (k : Skerry) (f : List Sym) (still : List Nat) (fill : List Byte) : Skerry :=
  let cell := fld f 26 2
  let op := fld f 28 1
  let g := k.rd SK_TOP_CELL_G
  let all := bitOf cell 14
  let bcast := bitOf cell 15
  let mine := if all then true else if bcast then decide (cell / 64 % 128 = g / 64) else decide (cell = g)
  let crc := decide (crc32 (ferryBytes f 26 4 ++ ferryBytes f 1056 60) = fld f 1116 4)
  if mine ∧ crc ∧ (!(all || bcast) ∨ op = 4) then
    k.freight op (fld f 29 1) (fld f 1056 4) (fld f 1108 1) (fld f 1110 2) (ferryBytes f 1060 48) still fill
  else k

/-- A valid ferry is used, 3 word clocks after its last symbol (R130, R132). -/
def Skerry.useFerry (k : Skerry) (p : Nat) (f : List Sym) (back : Int) (still : List Nat) (fill : List Byte) : Skerry :=
  let k := (k.learn p f).openCycle (frSeq f)
  let k := k.setCmd { k.cmd with cyc := { k.cmd.cyc with got := k.cmd.cyc.got ||| 2 ^ p },
                                 miss := k.cmd.miss &&& (3 ^^^ 2 ^ p) }
  let k := (k.pairUp p f ((k.now : Int) * 16 - back)).measure p f
  let k := (k.timePort p f).ferrySample p f back
  (k.commands f still).ferryFreight f still fill

/-- The ferry has ended: at offset 1,135, or early at an end-of-ferry symbol. -/
def ferryEnded (f : List Sym) : Bool :=
  decide (f.length ≥ 1136) || decide (f.getLast? = some (.k kEOF)) || decide (f.getLast? = some (.k kMARK))

/-- The invalid flash orders among received symbols (R155). -/
def badFlashes (ss : List Sym) : Nat := ((flashesOf (tagSyms ss 0 0)).filter (fun x => (flashOf x).isNone)).length

/-- Symbols of a ferry reach port `p` of a Skerry, after those of the ferry received before: what it becomes, and the symbols
that leave the other port. Symbols that are all of flash orders between two ferries are passed on. The end of the ferry is judged and its command used with the stretch that ends it. -/
def Skerry.ferry (k : Skerry) (p : Nat) (ss : List Sym) (back : Int) (still : List Nat) (fill : List Byte) :
    Skerry × List Sym :=
  let q := k.passOf p
  let all := q.got ++ ss
  let ts := tagSyms all 0 0
  let f := ferryOf ts
  let k := if k.inRun then k.portTake p ss else k
  let k := if k.inRun then k.cnt (SK_LINK_FLASH_BAD p) (badFlashes all - badFlashes q.got) else k
  if f = [] then (k, ss.map repeated)
  else if f.length > 1136 ∨ f.head? ≠ some (.k kSOF) then
    ((if k.inRun then k.inc (SK_LINK_FERRY_BAD p) else k).setPass p .zero, ss.map repeated)
  else
    let (q, k) := k.passNow { q with got := all } f
    let on := (rejoin ts (ferryOn f (k.overwrites q f))).drop (all.length - ss.length)
    if !ferryEnded f then (k.setPass p q, on)
    else
      let k := k.setPass p .zero
      if !k.inRun then (k, on)
      else
        let k := if f.getLast? = some (.k kEOF) ∧ damaged f then k.inc (SK_LINK_FERRY_MARK p) else k
        if k.valid p f then (k.useFerry p f back still fill, on) else (k.inc (SK_LINK_FERRY_BAD p), on)

/-- FERRY_RECEIVE_SKERRY: symbols of a ferry, with any flash orders injected into it, have passed port `p` of cell `g`'s
Skerry: the whole ferry, or a part that follows the parts before (so that the status half is of the moment at which it
passes). With the part that ends the ferry, `back` sixteenths of a word clock have gone since the first bit of its SOF, and
`still` are the fault inputs asserted. -/
def execFerryReceiveSkerry (g p : Nat) (ss : List Sym) (back : Nat) (still : List Nat) (s : State) :
    Host.Outcome State Fault Refusal :=
  let k := s.cell g
  if p < 2 ∧ k.lanesRun ∧ k.locked p then
    let (k, on) := k.ferry p ss back still s.fill
    .next ((s.setCell g k).emit (.onward g (1 - p) on)).filled
  else .next s

/-- MISSING_FERRY: no valid ferry with SEQ `q` has ended on port `p` in time (R126). -/
def execMissingFerry (g p q : Nat) (s : State) : Host.Outcome State Fault Refusal :=
  .next (s.runCell g (fun k =>
    let c := k.cmd.cyc
    if p ≥ 2 ∨ (c.seq = q ∧ bitOf (c.got ||| c.lost) p) then k
    else
      let k := k.openCycle q
      let c := k.cmd.cyc
      let k := k.setCmd { k.cmd with cyc := { c with lost := c.lost ||| 2 ^ p }, miss := k.cmd.miss ||| 2 ^ p }
      let c := k.cmd.cyc
      let k := if (c.got ||| c.lost) = 3 ∧ !c.used then k.inc SK_CMD_NOCMD else k
      let k := k.wr (SK_LINK_STAT_TIMEPORT p) 0
      if k.locked p then k.inc (SK_LINK_MISS p) else k))

end Sys2Proof.Machine
end

