-- ==== Sys2Proof/Machine/Dispatch.lean ====
section
/-! DEFINITION. The dispatch: one arm per command, each a direct call of that command's meaning. -/

namespace Sys2Proof.Machine
open Sys2Proof

def exec (i : Instr) (s : State) : Host.Outcome State Fault Refusal :=
  match i with
  | .registerWrite tgt p len a v still => Sys2Proof.Machine.execRegisterWrite tgt p len a v still s
  | .rcRead tgt p len a => Sys2Proof.Machine.execRcRead tgt p len a s
  | .timeNowLatch tgt p => Sys2Proof.Machine.execTimeNowLatch tgt p s
  | .powerOnReset sel => Sys2Proof.Machine.execPowerOnReset sel s
  | .vaonFall => Sys2Proof.Machine.execVaonFall s
  | .railUp mv => Sys2Proof.Machine.execRailUp mv s
  | .railStartFailure => Sys2Proof.Machine.execRailStartFailure s
  | .railPoll rs => Sys2Proof.Machine.execRailPoll rs s
  | .pmbAlert rs => Sys2Proof.Machine.execPmbAlert rs s
  | .railHardFault n => Sys2Proof.Machine.execRailHardFault n s
  | .railDown => Sys2Proof.Machine.execRailDown s
  | .railRetry => Sys2Proof.Machine.execRailRetry s
  | .pinReset => Sys2Proof.Machine.execPinReset s
  | .pinResetRelease => Sys2Proof.Machine.execPinResetRelease s
  | .rstStuck => Sys2Proof.Machine.execRstStuck s
  | .rstMaskLift => Sys2Proof.Machine.execRstMaskLift s
  | .softReset p v => Sys2Proof.Machine.execSoftReset p v s
  | .softResetEnd => Sys2Proof.Machine.execSoftResetEnd s
  | .resetComplete testEn keyLow => Sys2Proof.Machine.execResetComplete testEn keyLow s
  | .groupClearDone g => Sys2Proof.Machine.execGroupClearDone g s
  | .chartFetch data => Sys2Proof.Machine.execChartFetch data s
  | .chartVerify => Sys2Proof.Machine.execChartVerify s
  | .chartCheck => Sys2Proof.Machine.execChartCheck s
  | .chartBuild mateActive => Sys2Proof.Machine.execChartBuild mateActive s
  | .load p => Sys2Proof.Machine.execLoad p s
  | .hotLoad p => Sys2Proof.Machine.execHotLoad p s
  | .hotCheck => Sys2Proof.Machine.execHotCheck s
  | .hotApply => Sys2Proof.Machine.execHotApply s
  | .hotAbort => Sys2Proof.Machine.execHotAbort s
  | .partResendTimeout g => Sys2Proof.Machine.execPartResendTimeout g s
  | .refClockBad sys dev => Sys2Proof.Machine.execRefClockBad sys dev s
  | .refClockGood sys dev => Sys2Proof.Machine.execRefClockGood sys dev s
  | .signalDetectLost r sig cdr => Sys2Proof.Machine.execSignalDetectLost r sig cdr s
  | .clockRecovered r => Sys2Proof.Machine.execClockRecovered r s
  | .commaAligned r => Sys2Proof.Machine.execCommaAligned r s
  | .lossScoreLimit r errs => Sys2Proof.Machine.execLossScoreLimit r errs s
  | .lockTimeout n => Sys2Proof.Machine.execLockTimeout n s
  | .errIntervalEnd n errs => Sys2Proof.Machine.execErrIntervalEnd n errs s
  | .elasticSlip n => Sys2Proof.Machine.execElasticSlip n s
  | .eyeScanStart p n v => Sys2Proof.Machine.execEyeScanStart p n v s
  | .eyeScanDone n errs => Sys2Proof.Machine.execEyeScanDone n errs s
  | .ferryCycleStart => Sys2Proof.Machine.execFerryCycleStart s
  | .ferryReceiveSkerry g p ss back still => Sys2Proof.Machine.execFerryReceiveSkerry g p ss back still s
  | .missingFerry g p q => Sys2Proof.Machine.execMissingFerry g p q s
  | .balgalFerryReceive n ss back => Sys2Proof.Machine.execBalgalFerryReceive n ss back s
  | .causewayDown c mate => Sys2Proof.Machine.execCausewayDown c mate s
  | .causewayCut c mate => Sys2Proof.Machine.execCausewayCut c mate s
  | .measure p c => Sys2Proof.Machine.execMeasure p c s
  | .causewayMeasuring c mate => Sys2Proof.Machine.execCausewayMeasuring c mate s
  | .causewayUp c => Sys2Proof.Machine.execCausewayUp c s
  | .cutClear c mate => Sys2Proof.Machine.execCutClear c mate s
  | .splitSet c => Sys2Proof.Machine.execSplitSet c s
  | .freightPost p h => Sys2Proof.Machine.execFreightPost p h s
  | .freightIssue => Sys2Proof.Machine.execFreightIssue s
  | .freightCollect c => Sys2Proof.Machine.execFreightCollect c s
  | .freightReply c => Sys2Proof.Machine.execFreightReply c s
  | .freightRead g tag addr len fixed => Sys2Proof.Machine.execFreightRead g tag addr len fixed s
  | .freightWrite g tag addr len data still => Sys2Proof.Machine.execFreightWrite g tag addr len data still s
  | .freightPart g n id data => Sys2Proof.Machine.execFreightPart g n id data s
  | .freightImage g n data => Sys2Proof.Machine.execFreightImage g n data s
  | .freightLog g tag off len bad fixed => Sys2Proof.Machine.execFreightLog g tag off len bad fixed s
  | .freightReset g addr => Sys2Proof.Machine.execFreightReset g addr s
  | .collect g tag => Sys2Proof.Machine.execCollect g tag s
  | .retire g => Sys2Proof.Machine.execRetire g s
  | .thyristorTrigger g => Sys2Proof.Machine.execThyristorTrigger g s
  | .managedDischargeStart g => Sys2Proof.Machine.execManagedDischargeStart g s
  | .clearLatchedFaults g still => Sys2Proof.Machine.execClearLatchedFaults g still s
  | .stepMode g => Sys2Proof.Machine.execStepMode g s
  | .weaveMode g => Sys2Proof.Machine.execWeaveMode g s
  | .flashOrderSend n => Sys2Proof.Machine.execFlashOrderSend n s
  | .relayedFlashOrder ss => Sys2Proof.Machine.execRelayedFlashOrder ss s
  | .insertOne g pol => Sys2Proof.Machine.execInsertOne g pol s
  | .bypassOne g => Sys2Proof.Machine.execBypassOne g s
  | .blockAll g reason => Sys2Proof.Machine.execBlockAll g reason s
  | .commit g epoch stage => Sys2Proof.Machine.execCommit g epoch stage s
  | .timeMark g p mark back => Sys2Proof.Machine.execTimeMark g p mark back s
  | .wake g => Sys2Proof.Machine.execWake g s
  | .partnerBlockAll c => Sys2Proof.Machine.execPartnerBlockAll c s
  | .mainPathLost c => Sys2Proof.Machine.execMainPathLost c s
  | .mainPathReturn c => Sys2Proof.Machine.execMainPathReturn c s
  | .fallbackLoad c => Sys2Proof.Machine.execFallbackLoad c s
  | .sourceTimeout c n => Sys2Proof.Machine.execSourceTimeout c n s
  | .slewEnd c => Sys2Proof.Machine.execSlewEnd c s
  | .acceptStep p => Sys2Proof.Machine.execAcceptStep p s
  | .slewJump p => Sys2Proof.Machine.execSlewJump p s
  | .discardJump p => Sys2Proof.Machine.execDiscardJump p s
  | .skerryReacquire g => Sys2Proof.Machine.execSkerryReacquire g s
  | .timeMarkSend p v => Sys2Proof.Machine.execTimeMarkSend p v s
  | .controlPeriodStart => Sys2Proof.Machine.execControlPeriodStart s
  | .triggerArm c p k => Sys2Proof.Machine.execTriggerArm c p k s
  | .triggerDisarm c k => Sys2Proof.Machine.execTriggerDisarm c k s
  | .triggerFire c k => Sys2Proof.Machine.execTriggerFire c k s
  | .subwindowEnd c dur qs last gs fb => Sys2Proof.Machine.execSubwindowEnd c dur qs last gs fb s
  | .rerank a => Sys2Proof.Machine.execRerank a s
  | .resortComplete a => Sys2Proof.Machine.execResortComplete a s
  | .plan => Sys2Proof.Machine.execPlan s
  | .swapEnd g => Sys2Proof.Machine.execSwapEnd g s
  | .stale g => Sys2Proof.Machine.execStale g s
  | .retireActionTimeout g => Sys2Proof.Machine.execRetireActionTimeout g s
  | .reefRetire p v => Sys2Proof.Machine.execReefRetire p v s
  | .reefHealthSet p v => Sys2Proof.Machine.execReefHealthSet p v s
  | .stageDecision a => Sys2Proof.Machine.execStageDecision a s
  | .commitInstant g n => Sys2Proof.Machine.execCommitInstant g n s
  | .afterChange g => Sys2Proof.Machine.execAfterChange g s
  | .epochDeadline g n => Sys2Proof.Machine.execEpochDeadline g n s
  | .earlyCommitExpire g => Sys2Proof.Machine.execEarlyCommitExpire g s
  | .silentBlock g => Sys2Proof.Machine.execSilentBlock g s
  | .go p => Sys2Proof.Machine.execGo p s
  | .halt => Sys2Proof.Machine.execHalt s
  | .runTimingWrite p v => Sys2Proof.Machine.execRunTimingWrite p v s
  | .runSignWrite p v => Sys2Proof.Machine.execRunSignWrite p v s
  | .loopPassEnd => Sys2Proof.Machine.execLoopPassEnd s
  | .swap => Sys2Proof.Machine.execSwap s
  | .loopRestart p v => Sys2Proof.Machine.execLoopRestart p v s
  | .coefWrite p b n w v => Sys2Proof.Machine.execCoefWrite p b n w v s
  | .tapArm p u => Sys2Proof.Machine.execTapArm p u s
  | .tapTrig u => Sys2Proof.Machine.execTapTrig u s
  | .tapStop u => Sys2Proof.Machine.execTapStop u s
  | .tapDone u => Sys2Proof.Machine.execTapDone u s
  | .traceBaseWrite p v => Sys2Proof.Machine.execTraceBaseWrite p v s
  | .schedSet p v => Sys2Proof.Machine.execSchedSet p v s
  | .schedFlags t v => Sys2Proof.Machine.execSchedFlags t v s
  | .schedFlagsClr t v => Sys2Proof.Machine.execSchedFlagsClr t v s
  | .taskEnable t en => Sys2Proof.Machine.execTaskEnable t en s
  | .waitWrite t v => Sys2Proof.Machine.execWaitWrite t v s
  | .schedAsk p => Sys2Proof.Machine.execSchedAsk p s
  | .schedGrant => Sys2Proof.Machine.execSchedGrant s
  | .schedDone p v => Sys2Proof.Machine.execSchedDone p v s
  | .runLimitOverrun e => Sys2Proof.Machine.execRunLimitOverrun e s
  | .agePromotion t => Sys2Proof.Machine.execAgePromotion t s
  | .engineFault e cause pc rs => Sys2Proof.Machine.execEngineFault e cause pc rs s
  | .engineHalt p e pc rs => Sys2Proof.Machine.execEngineHalt p e pc rs s
  | .engineRun p e => Sys2Proof.Machine.execEngineRun p e s
  | .engineReset p e => Sys2Proof.Machine.execEngineReset p e s
  | .obsClear => Sys2Proof.Machine.execObsClear s
  | .vretLoss g => Sys2Proof.Machine.execVretLoss g s
  | .capUndervoltage g => Sys2Proof.Machine.execCapUndervoltage g s
  | .vretPowerUp g ctype vfs charged => Sys2Proof.Machine.execVretPowerUp g ctype vfs charged s
  | .deepHoldWake g src => Sys2Proof.Machine.execDeepHoldWake g src s
  | .runEntry g gs fb => Sys2Proof.Machine.execRunEntry g gs fb s
  | .repeatWake g cause => Sys2Proof.Machine.execRepeatWake g cause s
  | .parkEntry g => Sys2Proof.Machine.execParkEntry g s
  | .darkHoldExpiry g => Sys2Proof.Machine.execDarkHoldExpiry g s
  | .softStartEnd g => Sys2Proof.Machine.execSoftStartEnd g s
  | .flybackFault g kind => Sys2Proof.Machine.execFlybackFault g kind s
  | .retryEnd g => Sys2Proof.Machine.execRetryEnd g s
  | .gateSupplyTimeout g j => Sys2Proof.Machine.execGateSupplyTimeout g j s
  | .dischAfterExpiry g charged => Sys2Proof.Machine.execDischAfterExpiry g charged s
  | .dischargePause g => Sys2Proof.Machine.execDischargePause g s
  | .dischargeResume g => Sys2Proof.Machine.execDischargeResume g s
  | .dischargeDone g => Sys2Proof.Machine.execDischargeDone g s
  | .disTimeout g => Sys2Proof.Machine.execDisTimeout g s
  | .disStop g => Sys2Proof.Machine.execDisStop g s
  | .park g tag => Sys2Proof.Machine.execPark g tag s
  | .parkEffect g late => Sys2Proof.Machine.execParkEffect g late s
  | .coreRestart g sram => Sys2Proof.Machine.execCoreRestart g sram s
  | .sramClearDone g => Sys2Proof.Machine.execSramClearDone g s
  | .imageVerify g => Sys2Proof.Machine.execImageVerify g s
  | .gateEdge g => Sys2Proof.Machine.execGateEdge g s
  | .weaveReload g => Sys2Proof.Machine.execWeaveReload g s
  | .wperWrite g v => Sys2Proof.Machine.execWperWrite g v s
  | .gateForce g v => Sys2Proof.Machine.execGateForce g v s
  | .forceApply g => Sys2Proof.Machine.execForceApply g s
  | .forceRelease g => Sys2Proof.Machine.execForceRelease g s
  | .refreshRequest g => Sys2Proof.Machine.execRefreshRequest g s
  | .faultInput g ins => Sys2Proof.Machine.execFaultInput g ins s
  | .fltClr g still => Sys2Proof.Machine.execFltClr g still s
  | .overVoltage g => Sys2Proof.Machine.execOverVoltage g s
  | .firePulseEnd g thy => Sys2Proof.Machine.execFirePulseEnd g thy s
  | .bypassConfirm g => Sys2Proof.Machine.execBypassConfirm g s
  | .bypassConfirmTimeout g => Sys2Proof.Machine.execBypassConfirmTimeout g s
  | .mainsWindowEnd c => Sys2Proof.Machine.execMainsWindowEnd c s
  | .mainsTrackTimeout => Sys2Proof.Machine.execMainsTrackTimeout s
  | .convTrig c v => Sys2Proof.Machine.execConvTrig c v s
  | .scanEnd c n => Sys2Proof.Machine.execScanEnd c n s
  | .convCfgWrite p n v => Sys2Proof.Machine.execConvCfgWrite p n v s
  | .convMainsSw c p v => Sys2Proof.Machine.execConvMainsSw c p v s
  | .streamRestore n => Sys2Proof.Machine.execStreamRestore n s
  | .streamEnable p n kind en => Sys2Proof.Machine.execStreamEnable p n kind en s
  | .recArm p => Sys2Proof.Machine.execRecArm p s
  | .recForce p => Sys2Proof.Machine.execRecForce p s
  | .recStop p => Sys2Proof.Machine.execRecStop p s
  | .recorderRow => Sys2Proof.Machine.execRecorderRow s
  | .autoTrigger => Sys2Proof.Machine.execAutoTrigger s
  | .holdoffEnd e => Sys2Proof.Machine.execHoldoffEnd e s
  | .segFree k v => Sys2Proof.Machine.execSegFree k v s
  | .engineLevelWrite e which v => Sys2Proof.Machine.execEngineLevelWrite e which v s
  | .sramRead p a n ones bad outer waits => Sys2Proof.Machine.execSramRead p a n ones bad outer waits s
  | .sramWrite p a data ones bad outer waits => Sys2Proof.Machine.execSramWrite p a data ones bad outer waits s
  | .writeBack x => Sys2Proof.Machine.execWriteBack x s
  | .memRetire p v => Sys2Proof.Machine.execMemRetire p v s
  | .bistRegionStart => Sys2Proof.Machine.execBistRegionStart s
  | .bistRegionEnd fail word bit => Sys2Proof.Machine.execBistRegionEnd fail word bit s
  | .bistStop => Sys2Proof.Machine.execBistStop s
  | .memPwrWrite p v => Sys2Proof.Machine.execMemPwrWrite p v s
  | .dmaStart p n => Sys2Proof.Machine.execDmaStart p n s
  | .dmaFetch n => Sys2Proof.Machine.execDmaFetch n s
  | .dmaComplete n host => Sys2Proof.Machine.execDmaComplete n host s
  | .dmaBusError dir cause addr prog => Sys2Proof.Machine.execDmaBusError dir cause addr prog s
  | .dmaDrained prog => Sys2Proof.Machine.execDmaDrained prog s
  | .dmaClear p => Sys2Proof.Machine.execDmaClear p s
  | .dmaResume p n => Sys2Proof.Machine.execDmaResume p n s
  | .dmaAbort n prog host => Sys2Proof.Machine.execDmaAbort n prog host s
  | .dmaDescWrite p n v => Sys2Proof.Machine.execDmaDescWrite p n v s
  | .faultRaise also => Sys2Proof.Machine.execFaultRaise also s
  | .reactionTimeout k => Sys2Proof.Machine.execReactionTimeout k s
  | .faultAck p k => Sys2Proof.Machine.execFaultAck p k s
  | .quietExpire => Sys2Proof.Machine.execQuietExpire s
  | .fltSw v => Sys2Proof.Machine.execFltSw v s
  | .aliveToggle => Sys2Proof.Machine.execAliveToggle s
  | .skFltClear g v still => Sys2Proof.Machine.execSkFltClear g v still s
  | .partnerFrame n ss back halted same => Sys2Proof.Machine.execPartnerFrame n ss back halted same s
  | .relayFrame n ss => Sys2Proof.Machine.execRelayFrame n ss s
  | .copyFrame n ok recs => Sys2Proof.Machine.execCopyFrame n ok recs s
  | .profileFrame ok f => Sys2Proof.Machine.execProfileFrame ok f s
  | .straitFrame n ss back => Sys2Proof.Machine.execStraitFrame n ss back s
  | .peerAliveStop n => Sys2Proof.Machine.execPeerAliveStop n s
  | .peerAliveResume n => Sys2Proof.Machine.execPeerAliveResume n s
  | .partnerLost tail => Sys2Proof.Machine.execPartnerLost tail s
  | .arbiterLost => Sys2Proof.Machine.execArbiterLost s
  | .standbySettled => Sys2Proof.Machine.execStandbySettled s
  | .shadowWindowEnd => Sys2Proof.Machine.execShadowWindowEnd s
  | .request => Sys2Proof.Machine.execRequest s
  | .yield gen k => Sys2Proof.Machine.execYield gen k s
  | .take gen k => Sys2Proof.Machine.execTake gen k s
  | .takeoverCycle => Sys2Proof.Machine.execTakeoverCycle s
  | .fence gen => Sys2Proof.Machine.execFence gen s
  | .witnessTakeover => Sys2Proof.Machine.execWitnessTakeover s
  | .safeInputChange n high => Sys2Proof.Machine.execSafeInputChange n high s
  | .testPulse k lows high => Sys2Proof.Machine.execTestPulse k lows high s
  | .safetyCycle stale => Sys2Proof.Machine.execSafetyCycle stale s
  | .islandFault cause => Sys2Proof.Machine.execIslandFault cause s
  | .kDelayExpiry f => Sys2Proof.Machine.execKDelayExpiry f s
  | .contactorFeedbackTimeout k => Sys2Proof.Machine.execContactorFeedbackTimeout k s
  | .stopReq => Sys2Proof.Machine.execStopReq s
  | .kReq v => Sys2Proof.Machine.execKReq v s
  | .safeReset low => Sys2Proof.Machine.execSafeReset low s
  | .vddSafeRise => Sys2Proof.Machine.execVddSafeRise s
  | .safeOpen pw => Sys2Proof.Machine.execSafeOpen pw s
  | .setPw pw => Sys2Proof.Machine.execSetPw pw s
  | .accept => Sys2Proof.Machine.execAccept s
  | .islandReset => Sys2Proof.Machine.execIslandReset s
  | .safeRead => Sys2Proof.Machine.execSafeRead s
  | .safeClose => Sys2Proof.Machine.execSafeClose s
  | .sessionTimeout => Sys2Proof.Machine.execSessionTimeout s
  | .safeLockoutEnd => Sys2Proof.Machine.execSafeLockoutEnd s
  | .servoPeriodStart => Sys2Proof.Machine.execServoPeriodStart s
  | .move => Sys2Proof.Machine.execMove s
  | .speed => Sys2Proof.Machine.execSpeed s
  | .profileHalt => Sys2Proof.Machine.execProfileHalt s
  | .profLimitWrite p k v => Sys2Proof.Machine.execProfLimitWrite p k v s
  | .profAngle p v => Sys2Proof.Machine.execProfAngle p v s
  | .ethFrameReceive p len etype fcs ign => Sys2Proof.Machine.execEthFrameReceive p len etype fcs ign s
  | .ptpSync p seq dom two logInt origin corr back => Sys2Proof.Machine.execPtpSync p seq dom two logInt origin corr back s
  | .ptpFollowUp p seq origin corr => Sys2Proof.Machine.execPtpFollowUp p seq origin corr s
  | .ptpPdelayReq p seq turn => Sys2Proof.Machine.execPtpPdelayReq p seq turn s
  | .ptpPdelayResp p seq turn back => Sys2Proof.Machine.execPtpPdelayResp p seq turn back s
  | .ptpAnnounce p st => Sys2Proof.Machine.execPtpAnnounce p st s
  | .ptpPdelaySend p => Sys2Proof.Machine.execPtpPdelaySend p s
  | .ptpMasterSend p sync => Sys2Proof.Machine.execPtpMasterSend p sync s
  | .announceTimeout p => Sys2Proof.Machine.execAnnounceTimeout p s
  | .svFrame p dst appid sim asdus back => Sys2Proof.Machine.execSvFrame p dst appid sim asdus back s
  | .svSetTimeout n => Sys2Proof.Machine.execSvSetTimeout n s
  | .svStale n => Sys2Proof.Machine.execSvStale n s
  | .gooseReceive p m => Sys2Proof.Machine.execGooseReceive p m s
  | .gooseTtlExpire n => Sys2Proof.Machine.execGooseTtlExpire n s
  | .gooseRepeat u => Sys2Proof.Machine.execGooseRepeat u s
  | .pcieRequest wr bar off len data => Sys2Proof.Machine.execPcieRequest wr bar off len data s
  | .pcieReset up => Sys2Proof.Machine.execPcieReset up s
  | .pcieLinkLoss => Sys2Proof.Machine.execPcieLinkLoss s
  | .msiAck => Sys2Proof.Machine.execMsiAck s
  | .hdbSet v => Sys2Proof.Machine.execHdbSet v s
  | .pdbSet p v => Sys2Proof.Machine.execPdbSet p v s
  | .quayAccess rd wr q v => Sys2Proof.Machine.execQuayAccess rd wr q v s
  | .quayDoorbell p v => Sys2Proof.Machine.execQuayDoorbell p v s
  | .quayStrobeStuck => Sys2Proof.Machine.execQuayStrobeStuck s
  | .straitSend p n v => Sys2Proof.Machine.execStraitSend p n v s
  | .straitSendFail n => Sys2Proof.Machine.execStraitSendFail n s
  | .rxFullFree n => Sys2Proof.Machine.execRxFullFree n s
  | .level c n code => Sys2Proof.Machine.execLevel c n code s
  | .quit c => Sys2Proof.Machine.execQuit c s
  | .rd c a n host => Sys2Proof.Machine.execRd c a n host s
  | .wr c a v still => Sys2Proof.Machine.execWr c a v still s
  | .dump c a n => Sys2Proof.Machine.execDump c a n s
  | .traceTap u => Sys2Proof.Machine.execTraceTap u s
  | .traceSched n => Sys2Proof.Machine.execTraceSched n s
  | .chart => Sys2Proof.Machine.execChart s
  | .chartSec ty inst => Sys2Proof.Machine.execChartSec ty inst s
  | .cellRd g a n => Sys2Proof.Machine.execCellRd g a n s
  | .cellWr g a v => Sys2Proof.Machine.execCellWr g a v s
  | .cellLog g off => Sys2Proof.Machine.execCellLog g off s
  | .cellReset g => Sys2Proof.Machine.execCellReset g s
  | .keyProg k key => Sys2Proof.Machine.execKeyProg k key s
  | .keyRevoke k => Sys2Proof.Machine.execKeyRevoke k s
  | .off => Sys2Proof.Machine.execOff s
  | .monLog g off => Sys2Proof.Machine.execMonLog g off s
  | .monOffWrite => Sys2Proof.Machine.execMonOffWrite s
  | .monIdleTimeout c => Sys2Proof.Machine.execMonIdleTimeout c s
  | .monLockoutEnd c => Sys2Proof.Machine.execMonLockoutEnd c s
  | .partialLineTimeout c => Sys2Proof.Machine.execPartialLineTimeout c s
  | .topBlockall p v => Sys2Proof.Machine.execTopBlockall p v s
  | .tempUpdate t => Sys2Proof.Machine.execTempUpdate t s
  | .peakClr => Sys2Proof.Machine.execPeakClr s
  | .vddSafeLoss => Sys2Proof.Machine.execVddSafeLoss s
  | .vsSafeLoss => Sys2Proof.Machine.execVsSafeLoss s
  | .replyReady g => Sys2Proof.Machine.execReplyReady g s
  | .ethLinkUp p full => Sys2Proof.Machine.execEthLinkUp p full s
  | .ethLinkDown p => Sys2Proof.Machine.execEthLinkDown p s
  | .pcieLinkUp gen width msix master => Sys2Proof.Machine.execPcieLinkUp gen width msix master s
  | .timeOutPulseEnd => Sys2Proof.Machine.execTimeOutPulseEnd s
  | .unknownCommand c empty => Sys2Proof.Machine.execUnknownCommand c empty s

end Sys2Proof.Machine
end

