-- ==== Sys2Proof/Machine/Tick.lean ====
section
/-! DEFINITION. What one word clock does with no command waiting: what left the chips is gone, the counters count, and
queued records reach SRAM (R168, R171, R176, R207, R227, R337, R338, R342, R418, R442, R458, R460). -/

namespace Sys2Proof.Machine
open Sys2Proof

/-! ### Clocks -/

/-- One 32.768 kHz tick: 30,517 ns, and 1 ns more on the first 37 of every 64 (R176). -/
def Clk.slowTick (c : Clk) : Clk :=
  { c with fb := c.fb + 30517 + (if c.fbTick < 37 then 1 else 0), fbTick := (c.fbTick + 1) % 64 }

/-- One word clock of the 25 MHz fallback clock: a tick of 40 ns every 25 (R171). -/
def Clk.fbStep (c : Clk) : Clk :=
  if c.fbAcc + 1 ≥ 25 then { c with fbAcc := 0, fb := c.fb + 40 } else { c with fbAcc := c.fbAcc + 1 }

/-- One word clock of the 32.768 kHz fallback clock, whose tick lasts 9,765,625 / 512 word clocks. -/
def Clk.fbSlow (c : Clk) : Clk :=
  if c.fbAcc + 512 ≥ 9765625 then { c with fbAcc := c.fbAcc + 512 - 9765625 }.slowTick else { c with fbAcc := c.fbAcc + 512 }

/-- A Skerry's clocks in its power state (R343). -/
def Skerry.tick (k : Skerry) : Skerry :=
  match k.pow.state with
  | .dark => k
  | .deepHold => { k with clk := k.clk.fbSlow }
  | .start => { k with clk := k.clk.fbStep }
  | .repeating => { k with clk := k.clk.fbStep }
  | .run => { k with clk := { k.clk.fbStep with count := k.clk.count + 1 } }

/-! ### Records that wait for SRAM -/

/-- The oldest scheduler trace record is written; a write that fails is a dropped record (R337, R460). -/
def State.traceDrain (s : State) : State :=
  match s.sched.traceQ with
  | [] => s
  | r :: t =>
    let s := { s with sched := { s.sched with traceQ := t } }
    let n := max (s.rd SCHED_TRACE_SIZE) 1
    let i := s.rd SCHED_TRACE_WIDX % n
    match s.writeMem (s.rd SCHED_TRACE_BASE_BASE * 16 + 16 * i) r with
    | (none, s) => s.wr SCHED_TRACE_WIDX ((i + 1) % n)
    | (some _, s) => s.inc SCHED_TRACE_LOST

/-- The oldest stream record of converter n (R418). -/
def State.streamDrain (s : State) (n : Nat) : State :=
  match (s.conv1 n).queue with
  | [] => s
  | r :: t =>
    let s := s.convQueue n t
    let k := max (s.rd (CONV_STREAM_SIZE n)) 1
    let i := s.rd (CONV_STREAM_WIDX n) % k
    match s.writeMem (s.rd (CONV_STREAM_BASE_BASE n) * 16 + 16 * i) r with
    | (none, s) => s.wr (CONV_STREAM_WIDX n) ((i + 1) % k)
    | (some _, s) => s.inc (CONV_STREAM_LOST n)

/-- The oldest recorder row or header (R442). -/
def State.recDrain (s : State) : State :=
  match s.recd.queue with
  | [] => s
  | (a, bs) :: t =>
    let s := s.setRecd { s.recd with queue := t }
    match s.writeMem a bs with
    | (none, s) => s
    | (some _, s) => s.inc ACQ_REC_DROP

def State.drains (s : State) : State :=
  ((List.range 16).foldl (fun s n => s.streamDrain n) s.traceDrain).recDrain

/-! ### Counters -/

/-- SND_CYCLES of every engine that runs: two engine cycles a word clock (R342). -/
def State.engCycles (s : State) : State :=
  (List.range 18).foldl (fun s e => if s.engState e = EN_RUNNING then s.cnt (SND_CYCLES e) 2 else s) s

/-- The queue depths, sampled every 64 word clocks of the statistics window (R338). -/
def State.qSample (s : State) : State :=
  if s.on SCHED_OBS_STATS ∧ s.clk.count > s.sched.winFrom ∧ (s.clk.count - s.sched.winFrom) % 64 = 0 then
    (List.range 8).foldl (fun s p => s.cnt (SCHED_ST_QSUM p) (s.qdepth p)) s
  else s

/-- What the Balgal does in one word clock out of reset. -/
def State.balgalTick (s : State) : State :=
  let s := { s with clk := { s.clk.fbStep with count := s.clk.count + 1 } }
  let s := (s.drains.engCycles).qSample
  let s := if s.inRun ∧ !s.isArbiter then s.reefDue else s
  if s.ct ≥ s.reef.start + wcs 1120 then s.sendTails else s

/-- IRQ_N on the next edge, from the condition on this one and on the one before (R500). -/
def State.irqStep (s : State) : State :=
  let c := s.irq
  { s with flt := { s.flt with irqPin := c || s.flt.irqWas, irqWas := c } }

/-- One word clock: what follows from the present edge, then the next edge. -/
def State.tick (s : State) : State :=
  let s : State := if s.inRun then s.fitFollow.irqUpdate else s.irqUpdate
  let s := s.irqStep
  let s := { s with out := [], cells := s.cells.map (fun (e : Nat × Skerry) => (e.1, e.2.tick)) }
  let s := if s.pwr.on then { s with pwr := { s.pwr with now := s.pwr.now + 1 } } else s
  if s.pwr.held ≠ 0 then { s with clk := { s.clk.fbStep with count := s.clk.count + 1 } } else s.balgalTick

end Sys2Proof.Machine
end

