-- ==== Sys2Proof/Safety.lean ====
section
/-! DEFINITION. What claims are stated in: fields that share no bit, what a command leaves unchanged, the canonical forms of
memory and registers, and a step that goes on. -/

namespace Sys2Proof.Machine
open Sys2Proof

/-- Two fields share no bit. -/
abbrev Fld.apart (f g : Fld) : Prop := f.addr ≠ g.addr ∨ f.lo + f.w ≤ g.lo ∨ g.lo + g.w ≤ f.lo

/-- Every field of the Balgal's registers apart from those named reads in `t` as in `s`. -/
def State.keepsBut (s t : State) (fs : List Fld) : Prop := ∀ g : Fld, (∀ f ∈ fs, f.apart g) → t.rd g = s.rd g

/-- Every field of a Skerry's registers apart from those named reads in `l` as in `k`. -/
def Skerry.keepsBut (k l : Skerry) (fs : List Fld) : Prop := ∀ g : Fld, (∀ f ∈ fs, f.apart g) → l.rd g = k.rd g

/-- Nothing but the named fields of the Balgal's registers differs between `s` and `t`. -/
def State.onlyFields (s t : State) (fs : List Fld) : Prop := t = { s with regs := t.regs } ∧ s.keepsBut t fs

/-- Nothing but the named fields of a Skerry's registers differs between `k` and `l`. -/
def Skerry.onlyFields (k l : Skerry) (fs : List Fld) : Prop := l = { k with regs := l.regs } ∧ k.keepsBut l fs

/-- Nothing but cell `g` differs between `s` and `t`. -/
def State.onlyCell (s t : State) (g : Nat) : Prop := t = { s with cells := t.cells } ∧ ∀ h, h ≠ g → t.cell h = s.cell h

/-- Memory is in its canonical form: addresses rise strictly, and no entry is 0, which an unlisted address reads as. -/
def Memory.wf (m : List Host.Cell) : Bool := twf (fun _ => (0 : Byte)) m

/-- A register file is in its canonical form for the reset words `d`. -/
def Regs.wf (d : Nat → Word) (r : List (Nat × Word)) : Bool := twf d r

/-- The keys of a table rise strictly, so that no cell is listed twice. -/
def Keys.rise {α : Type} : List (Nat × α) → Bool
  | [] => true
  | e :: t => t.all (fun f => decide (e.1 < f.1)) && Keys.rise t

/-- A Skerry's registers and memory are in their canonical forms. -/
def Skerry.wf (k : Skerry) : Bool := Regs.wf skReset k.regs && Memory.wf k.mem

/-- Every register file and every memory of the chip set is in its canonical form, and each cell is listed at most once. -/
def State.wf (s : State) : Bool :=
  Regs.wf balReset s.regs && Memory.wf s.mem && Keys.rise s.cells && s.cells.all (fun e => e.2.wf)

/-- No source has been raised on this edge. -/
abbrev State.fresh (s : State) : Prop := ∀ x ∈ s.flt.raised, x.edge ≠ s.clk.count

/-- The fault unit of `t` is that of `s` with source `id` raised on this edge (stamped with some CT). -/
def State.raisedAs (s t : State) (id info : Nat) : Prop :=
  ∃ ct, t.flt = { s.flt with raised := s.flt.raised ++ [⟨id, info, s.clk.count, ct⟩] }

/-- What `t` has put out beyond `s`: the lines `ls`, in this order, on the monitor port of chip `c`. -/
def State.says (s t : State) (c : Chip) (ls : List Line) : Prop := t.out = s.out ++ ls.map (fun l => Out.line c l)

/-- A step that goes on. -/
def State.runs (s : State) : Prop := ∃ t, step s = .next t

end Sys2Proof.Machine
end

