-- ==== Sys2Proof/Certificates/Slice0/Obligations.lean ====
section
/-! DEFINITION. The statements for the provers. Each one names the commands that it is about, says that every one of them goes on
to a next state under hypotheses on the state and the operands alone, and what that state holds and keeps. -/

open Sys2Proof Sys2Proof.Machine

/-! ### The machine as a whole -/

/-- The command at the front of the queue runs on the state with the queue's rest. -/
def Obligations.StepRunsFront : Prop :=
  ∀ (c : Instr) (rest : List Instr) (s : State), s.pending = c :: rest → step s = exec c { s with pending := rest }

/-- With no command waiting a step goes on with an empty queue; while reset is asserted it is one word clock of COUNT and of
every running cell's COUNT, and what had left the chips is gone (DESIGN CHOICE, log entry 4). -/
def Obligations.IdleStepIsAWordClock : Prop :=
  (∀ s : State, s.pending = [] → ∃ t, step s = .next t ∧ t.pending = []) ∧
  (∀ s : State, s.pending = [] → s.pwr.held ≠ 0 → ∃ t, step s = .next t ∧ t.clk.count = s.clk.count + 1 ∧ t.out = [] ∧
    t.mem = s.mem ∧ t.cells.map Prod.fst = s.cells.map Prod.fst ∧
    ∀ g, (s.cell g).pow.state = .run → (t.cell g).clk.count = (s.cell g).clk.count + 1)

/-- Every command goes on to a next state, and leaves the commands that wait as they are. -/
def Obligations.EveryCommandGoesOn : Prop :=
  ∀ (c : Instr) (s : State), ∃ t, exec c s = .next t ∧ t.pending = s.pending

/-- A step keeps the canonical forms of every register file and every memory, and lists no cell twice. -/
def Obligations.StepKeepsForm : Prop :=
  ∀ s t : State, s.wf = true → step s = .next t → t.wf = true

/-- Before the release of the power-on reset the canonical forms hold, no command waits, every field of a register reads what its
table gives, the phase is RESET and no reset has been counted; every cell is in DARK. -/
def Obligations.ResetState : Prop :=
  State.reset.wf = true ∧ State.reset.pending = [] ∧ (∀ a, State.reset.rdW a = balReset a) ∧ State.reset.phase = PH_RESET ∧
  State.reset.rd TOP_RST_CNT = 0 ∧ (∀ a, State.reset.byte a = 0) ∧ ∀ g, (State.reset.cell g).pow.state = .dark

/-! ### Registers -/

/-- R11: an access that is no aligned word ends with a bus error and changes no register, on either chip. -/
def Obligations.UnalignedAccessIsABusError : Prop :=
  (∀ p len a v still (s : State), s.pwr.held = 0 → (len ≠ 4 ∨ a % 4 ≠ 0) →
    ∃ t, exec (.registerWrite .balgal p len a v still) s = .next t ∧ t = { s with out := s.out ++ [.busErr p 3] }) ∧
  (∀ p len a (s : State), s.pwr.held = 0 → (len ≠ 4 ∨ a % 4 ≠ 0) →
    ∃ t, exec (.rcRead .balgal p len a) s = .next t ∧ t = { s with out := s.out ++ [.busErr p 3] }) ∧
  (∀ g p len a v still (s : State), (s.cell g).inRun = true → (len ≠ 4 ∨ a % 4 ≠ 0) →
    ∃ t, exec (.registerWrite (.skerry g) p len a v still) s = .next t ∧ t = { s with out := s.out ++ [.busErr p 3] }) ∧
  (∀ g p len a (s : State), (s.cell g).inRun = true → (len ≠ 4 ∨ a % 4 ≠ 0) →
    ∃ t, exec (.rcRead (.skerry g) p len a) s = .next t ∧ t = { s with out := s.out ++ [.busErr p 3] })

/-- R651: an aligned word at which no register of the map stands ends with bus error cause 0x2 and changes nothing. -/
def Obligations.AbsentRegisterIsABusError : Prop :=
  (∀ p a v still (s : State), s.pwr.held = 0 → a % 4 = 0 → findBal a = none →
    ∃ t, exec (.registerWrite .balgal p 4 a v still) s = .next t ∧ t = { s with out := s.out ++ [.busErr p 2] }) ∧
  (∀ p a (s : State), s.pwr.held = 0 → a % 4 = 0 → findBal a = none →
    ∃ t, exec (.rcRead .balgal p 4 a) s = .next t ∧ t = { s with out := s.out ++ [.busErr p 2] }) ∧
  (∀ g p a v still (s : State), (s.cell g).inRun = true → a % 4 = 0 → findSk a = none →
    ∃ t, exec (.registerWrite (.skerry g) p 4 a v still) s = .next t ∧ t = { s with out := s.out ++ [.busErr p 2] }) ∧
  (∀ g p a (s : State), (s.cell g).inRun = true → a % 4 = 0 → findSk a = none →
    ∃ t, exec (.rcRead (.skerry g) p 4 a) s = .next t ∧ t = { s with out := s.out ++ [.busErr p 2] })

/-- The access codes on the registers of blocks LANE and PWR, whose writes act on nothing else: RW takes the written bits, WL
takes them while LOCK is 0 and keeps its own while LOCK is 1, W1C clears and W1S sets on a 1, RO, RC and WO keep what they hold;
a zero that a field excludes is not taken. Every other register and all of memory stay. -/
def Obligations.AccessCodesOfAWrite : Prop :=
  ∀ p a v still r (s : State), s.pwr.held = 0 → a % 4 = 0 → findBal a = some r → (blkOf a = 2 ∨ blkOf a = 23) →
    s.frozen a = false →
    ∃ t, exec (.registerWrite .balgal p 4 a v still) s = .next t ∧
      (∀ f ∈ r.fields,
        (f.acc = .rw → (notZeroFld a f.lo f.w = false ∨ bitsOf v f.lo f.w ≠ 0) → bitsOf (t.rdW a) f.lo f.w = bitsOf v f.lo f.w) ∧
        (f.acc = .wl → s.locked a = false → (notZeroFld a f.lo f.w = false ∨ bitsOf v f.lo f.w ≠ 0) →
          bitsOf (t.rdW a) f.lo f.w = bitsOf v f.lo f.w) ∧
        (f.acc = .wl → s.locked a = false → notZeroFld a f.lo f.w = true → bitsOf v f.lo f.w = 0 →
          bitsOf (t.rdW a) f.lo f.w = bitsOf (s.rdW a) f.lo f.w) ∧
        (f.acc = .wl → s.locked a = true → bitsOf (t.rdW a) f.lo f.w = bitsOf (s.rdW a) f.lo f.w) ∧
        (f.acc = .w1c → bitsOf (t.rdW a) f.lo f.w = bitsOf (s.rdW a) f.lo f.w &&& ((2 ^ f.w - 1) ^^^ bitsOf v f.lo f.w)) ∧
        (f.acc = .w1s → bitsOf (t.rdW a) f.lo f.w = bitsOf (s.rdW a) f.lo f.w ||| bitsOf v f.lo f.w) ∧
        ((f.acc = .ro ∨ f.acc = .rc ∨ f.acc = .wo) → bitsOf (t.rdW a) f.lo f.w = bitsOf (s.rdW a) f.lo f.w)) ∧
      (∀ b, b ≠ a → t.rdW b = s.rdW b) ∧ t.mem = s.mem ∧ t.cells = s.cells

/-- R16: while LOCK of block LANE or PWR is 1, a write raises the block's lock-write source when, and only when, it carries for a
WL field a value that differs from the stored one, and no raise of that source has been made on this edge. -/
def Obligations.LockWriteIsReported : Prop :=
  ∀ p a v still r (s : State), s.pwr.held = 0 → a % 4 = 0 → findBal a = some r → (blkOf a = 2 ∨ blkOf a = 23) →
    s.frozen a = false → s.locked a = true → (∀ x ∈ s.flt.raised, x.edge ≠ s.clk.count) →
    ∃ t, exec (.registerWrite .balgal p 4 a v still) s = .next t ∧
      ((∃ f ∈ r.fields, f.acc = .wl ∧ bitsOf v f.lo f.w ≠ bitsOf (s.rdW a) f.lo f.w) →
        t.flt.raised.map (fun x => (x.id, x.info, x.edge)) =
          s.flt.raised.map (fun x => (x.id, x.info, x.edge)) ++ [(32 * blkOf a + 1, a % 0x10000 + p.master * 65536, s.clk.count)]) ∧
      ((∀ f ∈ r.fields, f.acc = .wl → bitsOf v f.lo f.w = bitsOf (s.rdW a) f.lo f.w) → t.flt.raised = s.flt.raised)

/-- R19: a read shows the word and clears every RC field of it, whichever port issued it; every other register stays. -/
def Obligations.ReadClearsRc : Prop :=
  (∀ p a r f (s : State), s.pwr.held = 0 → a % 4 = 0 → findBal a = some r → f ∈ r.fields → f.acc = .rc →
    ∃ t, exec (.rcRead .balgal p 4 a) s = .next t ∧ bitsOf (t.rdW a) f.lo f.w = f.reset ∧ (∀ b, b ≠ a → t.rdW b = s.rdW b) ∧
      t = { s with regs := t.regs, out := s.out ++ [.readData p (s.regView p a)] }) ∧
  (∀ g p a r f (s : State), (s.cell g).inRun = true → a % 4 = 0 → findSk a = some r → f ∈ r.fields → f.acc = .rc →
    ∃ t, exec (.rcRead (.skerry g) p 4 a) s = .next t ∧ bitsOf ((t.cell g).rdW a) f.lo f.w = f.reset ∧
      (∀ b, b ≠ a → (t.cell g).rdW b = (s.cell g).rdW b) ∧ (∀ h, h ≠ g → t.cell h = s.cell h) ∧
      t = { s with cells := t.cells, out := s.out ++ [.readData p ((s.cell g).view.rdW a)] })

/-- R170: a read of TIME_NOW_FRAC, or of a cell's SK_TIME_NOW_FRAC, returns its word and latches CT for the port that read; the
other three words then read what was latched. -/
def Obligations.TimeNowLatches : Prop :=
  (∀ p (s : State), s.pwr.held = 0 →
    ∃ t, exec (.timeNowLatch .balgal p) s = .next t ∧
      t = { s with clk := t.clk, out := s.out ++ [.readData p (BitVec.ofNat 32 s.latchNow.frac)] } ∧
      (t.clk.latchOf p).ct = s.ct ∧ (∀ q : Port, q.master ≠ p.master → t.clk.latchOf q = s.clk.latchOf q) ∧ t.ct = s.ct) ∧
  (∀ g p (s : State), (s.cell g).inRun = true →
    ∃ t, exec (.timeNowLatch (.skerry g) p) s = .next t ∧ (∀ h, h ≠ g → t.cell h = s.cell h) ∧
      t = { s with cells := t.cells, out := s.out ++ [.readData p (BitVec.ofNat 32 (s.cell g).latchNow.frac)] } ∧
      ((t.cell g).clk.latchOf p).ct = (s.cell g).ct ∧ (t.cell g).regs = (s.cell g).regs)

/-! ### Power, resets and temperature -/

/-- The rails come up in ascending order and go down in descending order; a rail that does not rise, or leaves its hard window, asserts a
RAIL reset; the polls show what was read. -/
def Obligations.RailSequence : Prop :=
  (∀ sel (s : State), s.pwr.on = false → ∃ t, exec (.powerOnReset sel) s = .next t ∧ t.pwr.on = true ∧ t.pwr.sel = sel ∧ t.pwr.idx = 0 ∧
    t.pwr.held = 1 ∧ t.rd PWR_STAT_STATE = PWR_SEQ_UP ∧ t.cells = s.cells ∧ t.safe = s.safe ∧
    t.out = s.out ++ [.pmbus (if sel then 0x30 else 0x20) 0x03 0, .pmbus (if sel then 0x30 else 0x20) 0x21 750,
      .pmbus (if sel then 0x30 else 0x20) 0x01 0x80]) ∧
  (∀ s : State, ∃ t, exec .vaonFall s = .next t ∧ t.pwr = .zero ∧ t.phase = PH_RESET ∧ t.rd PWR_STAT_UP = 0 ∧ t.cells = s.cells ∧
    t.safe = s.safe ∧ t.out = s.out) ∧
  (∀ mv (s : State), s.rd PWR_STAT_STATE = PWR_SEQ_UP → s.pwr.idx < 5 → railIn s.pwr.idx 3 mv = true →
    ∃ t, exec (.railUp mv) s = .next t ∧ t.rd PWR_STAT_UP = (s.rd PWR_STAT_UP ||| 2 ^ s.pwr.idx) % 64 ∧ t.pwr.idx = s.pwr.idx + 1 ∧
      t = { s with regs := t.regs, pwr := { s.pwr with idx := s.pwr.idx + 1 }, out := s.out ++ [.pmbus (s.railAddr (s.pwr.idx + 1)) 0x03 0,
        .pmbus (s.railAddr (s.pwr.idx + 1)) 0x21 (railNom (s.pwr.idx + 1)), .pmbus (s.railAddr (s.pwr.idx + 1)) 0x01 0x80] } ∧
      s.keepsBut t [PWR_STAT_UP, PWR_RAIL0_VOUT s.pwr.idx]) ∧
  (∀ mv (s : State), s.rd PWR_STAT_STATE = PWR_SEQ_UP → s.pwr.idx = 5 → s.pwr.held = 1 → railIn 5 3 mv = true →
    ∃ t, exec (.railUp mv) s = .next t ∧ t.pwr.held = 0 ∧ t.clk.count = 0 ∧ t.phase = PH_RESET ∧ t.cells = s.cells ∧ t.safe = s.safe ∧
      t.rd PWR_STAT_STATE = if s.lanes.refBad = 0 then PWR_ON else PWR_WAIT_REF) ∧
  (∀ s : State, s.rd PWR_STAT_STATE = PWR_SEQ_UP → ∃ t, exec .railStartFailure s = .next t ∧ t.pwr.held % 2 = 1 ∧
    bitOf (t.rd ⟨A_TOP_RST_CAUSE, 0, 4⟩) 3 = true ∧ t.pwr.clear = true ∧ t.cells = s.cells ∧ t.safe = s.safe) ∧
  (∀ i (s : State), i < 3 → bitOf (s.rd PWR_STAT_UP) i = true → s.rd PWR_STAT_STATE = PWR_ON →
    ∃ t, exec (.railHardFault i) s = .next t ∧ t.pwr.held % 2 = 1 ∧ bitOf (t.rd ⟨A_TOP_RST_CAUSE, 0, 4⟩) 3 = true ∧
      t.pwr.clear = true ∧ t.cells = s.cells ∧ t.safe = s.safe) ∧
  (∀ s : State, s.rd PWR_STAT_STATE = PWR_SEQ_DOWN → (s.rd PWR_STAT_UP &&& (63 ^^^ 2 ^ s.pwr.idx)) = 0 →
    ∃ t, exec .railDown s = .next t ∧ t.rd PWR_STAT_UP = 0 ∧
      t.rd PWR_STAT_STATE = (if s.rd PWR_STAT_ATTEMPT = 3 then PWR_OFF_LOCKED else PWR_WAIT_RETRY) ∧
      s.onlyFields t [PWR_STAT_UP, PWR_STAT_STATE]) ∧
  (∀ s : State, s.rd PWR_STAT_STATE = PWR_WAIT_RETRY → ∃ t, exec .railRetry s = .next t ∧ t.rd PWR_STAT_STATE = PWR_SEQ_UP ∧
    t = { s with regs := t.regs, pwr := { s.pwr with idx := 0 }, out := t.out } ∧ s.keepsBut t [PWR_STAT_STATE])

/-- The polls of one rail, by the 1 ms poll and by PMB_ALERT_N: what was read is shown, and a rail outside its warn window is
warned of, and one whose STATUS_WORD has a fault bit is faulted. -/
def Obligations.RailPolls : Prop :=
  (∀ i mv w (s : State), s.railsUp = true → i < 6 → railIn i 3 mv = true → railIn i 6 mv = true →
    ∃ t, exec (.railPoll [⟨i, true, mv, w, false, false⟩]) s = .next t ∧ t.rd (PWR_RAIL0_VOUT i) = mv % 65536 ∧
      t.rd (PWR_RAIL0_STATUS i) = w % 65536 ∧ t = { s with regs := t.regs, pwr := t.pwr } ∧
      s.keepsBut t [PWR_RAIL0_VOUT i, PWR_RAIL0_STATUS i]) ∧
  (∀ i w (s : State), s.railsUp = true → i < 6 → s.pwr.held = 0 → s.fresh →
    ∃ t, exec (.pmbAlert [⟨i, true, 0, w, false, true⟩]) s = .next t ∧ t.rd (PWR_RAIL0_STATUS i) = w % 65536 ∧
      t.rd PWR_STAT_FAULT = (s.rd PWR_STAT_FAULT ||| 2 ^ i) % 64 ∧
      t = { s with regs := t.regs, pwr := t.pwr, flt := t.flt } ∧ s.raisedAs t 0x2E3 i ∧ s.keepsBut t [PWR_RAIL0_STATUS i, PWR_STAT_FAULT])

/-- PIN and SOFT resets: what asserts one sets its cause and holds reset; what lets go of the last hold starts COUNT from 0 in phase
RESET; a stuck pin is masked until the mask is lifted. The Skerries and the safety island run on (R634, R641 to R644). -/
def Obligations.PinAndSoftResets : Prop :=
  (∀ s : State, s.pwr.on = true → s.pwr.masked = false → bitOf s.pwr.held 1 = false → s.rd PWR_STAT_STATE ≠ PWR_OFF_LOCKED →
    ∃ t, exec .pinReset s = .next t ∧ t.pwr = { s.pwr with held := s.pwr.held ||| 2 } ∧ t.phase = PH_RESET ∧
      t.rd ⟨A_TOP_RST_CAUSE, 0, 4⟩ = (if s.pwr.held ≠ 0 then s.rd ⟨A_TOP_RST_CAUSE, 0, 4⟩ else 0) ||| 2 ∧
      t.flt = .zero ∧ t.cells = s.cells ∧ t.safe = s.safe ∧ t.pending = s.pending) ∧
  (∀ p v (s : State), s.pwr.held = 0 → bitsOf v 16 16 = 0x5AFE → bitsOf v 0 1 = 1 →
    ∃ t, exec (.softReset p v) s = .next t ∧ t.pwr = { s.pwr with held := 4 } ∧ t.phase = PH_RESET ∧
      t.rd ⟨A_TOP_RST_CAUSE, 0, 4⟩ = 4 ∧ t.flt = .zero ∧ t.cells = s.cells ∧ t.safe = s.safe ∧ t.pending = s.pending) ∧
  (∀ p v (s : State), s.pwr.held = 0 → bitsOf v 16 16 ≠ 0x5AFE → s.fresh →
    ∃ t, exec (.softReset p v) s = .next t ∧ t = { s with flt := t.flt } ∧
      s.raisedAs t 0x000 (A_TOP_RESET % 0x10000 + p.master * 65536)) ∧
  (∀ s : State, s.pwr.held = 2 → ∃ t, exec .pinResetRelease s = .next t ∧ t.pwr = { s.pwr with held := 0 } ∧ t.clk.count = 0 ∧
    t.phase = PH_RESET ∧ t.rd TOP_RST_CAUSE_STUCK = s.rd TOP_RST_CAUSE_STUCK ∧ t.cells = s.cells ∧ t.safe = s.safe) ∧
  (∀ s : State, s.pwr.held = 2 → ∃ t, exec .rstStuck s = .next t ∧ t.pwr = { s.pwr with held := 0, masked := true } ∧ t.clk.count = 0 ∧
    t.phase = PH_RESET ∧ t.rd TOP_RST_CAUSE_STUCK = 1 ∧ t.cells = s.cells ∧ t.safe = s.safe) ∧
  (∀ s : State, s.pwr.masked = true → ∃ t, exec .rstMaskLift s = .next t ∧ t.rd TOP_RST_CAUSE_STUCK = 0 ∧
    t = { s with regs := t.regs, pwr := { s.pwr with masked := false } } ∧ s.keepsBut t [TOP_RST_CAUSE_STUCK]) ∧
  (∀ s : State, s.pwr.held = 4 → ∃ t, exec .softResetEnd s = .next t ∧ t.pwr = { s.pwr with held := 0 } ∧ t.clk.count = 0 ∧
    t.phase = PH_RESET ∧ t.cells = s.cells ∧ t.safe = s.safe)

/-- FETCH follows once the rails are up and the references in range, with SRAM cleared and READY after a power-on or RAIL reset and
kept after any other; and a group whose clearing ends reads READY (R467, R468, R645). -/
def Obligations.ResetCompletes : Prop :=
  (∀ key (s : State), s.pwr.held = 0 → s.railsUp = true → s.phase = PH_RESET → s.lanes.refBad = 0 → s.pwr.clear = true →
    ∃ t, exec (.resetComplete false key) s = .next t ∧ t.phase = PH_FETCH ∧ t.rd MEM_STAT_READY = 15 ∧ t.rd PWR_STAT_STATE = PWR_ON ∧
      t.rd LANE_REF_STAT_REF_OK = 1 ∧ t.rd MON_STAT_KEY_STRAP = b2n key ∧ (∀ a, isSram a = true → t.byte a = 0) ∧ t.cells = s.cells ∧
      s.keepsBut t [CHART_STATUS_PHASE, MEM_STAT_READY, PWR_STAT_STATE, LANE_REF_STAT_REF_OK, MON_STAT_KEY_STRAP]) ∧
  (∀ key (s : State), s.pwr.held = 0 → s.railsUp = true → s.phase = PH_RESET → s.lanes.refBad = 0 → s.pwr.clear = false →
    ∃ t, exec (.resetComplete false key) s = .next t ∧ t.phase = PH_FETCH ∧ t.rd PWR_STAT_STATE = PWR_ON ∧
      t.rd LANE_REF_STAT_REF_OK = 1 ∧ t.rd MON_STAT_KEY_STRAP = b2n key ∧
      t = { s with regs := t.regs, chart := { s.chart with src := 0, loadFrom := s.clk.count } } ∧
      s.keepsBut t [CHART_STATUS_PHASE, PWR_STAT_STATE, LANE_REF_STAT_REF_OK, MON_STAT_KEY_STRAP]) ∧
  (∀ g (s : State), g < 4 → bitOf (s.rd MEM_PWR_OFF) g = false →
    ∃ t, exec (.groupClearDone g) s = .next t ∧ t.rd MEM_STAT_READY = s.rd MEM_STAT_READY ||| 2 ^ g ∧ s.onlyFields t [MEM_STAT_READY])

/-- TEMP takes the mean, PEAK its maximum, HOT and CRIT set above their limits and clear 5 degrees below them, and only a setting
raises a source (R658); PEAK_CLR takes TEMP. -/
def Obligations.DieTemperature : Prop :=
  (∀ x (s : State), s.pwr.held = 0 → -2048 ≤ x → x < 2048 → ∃ t, exec (.tempUpdate x) s = .next t ∧ t.rdS TOP_TEMP_TEMP = x ∧
    t.rdS TOP_TEMP_PEAK = max x (s.rdS TOP_TEMP_PEAK) ∧ (960 < x → t.rd TOP_TEMP_HOT = 1) ∧ (x ≤ 920 → t.rd TOP_TEMP_HOT = 0) ∧
    (920 < x → x ≤ 960 → t.rd TOP_TEMP_HOT = s.rd TOP_TEMP_HOT) ∧ (1056 < x → t.rd TOP_TEMP_CRIT = 1) ∧
    (x ≤ 1016 → t.rd TOP_TEMP_CRIT = 0) ∧ (1016 < x → x ≤ 1056 → t.rd TOP_TEMP_CRIT = s.rd TOP_TEMP_CRIT) ∧
    t = { s with regs := t.regs, flt := t.flt } ∧
    s.keepsBut t [TOP_TEMP_TEMP, TOP_TEMP_PEAK, TOP_TEMP_HOT, TOP_TEMP_HOT_EV, TOP_TEMP_CRIT, TOP_TEMP_CRIT_EV] ∧
    (s.fresh → 960 < x → x ≤ 1056 → s.rd TOP_TEMP_HOT = 0 → s.raisedAs t 0x002 0 ∧ t.rd TOP_TEMP_HOT_EV = 1) ∧
    (s.fresh → 1056 < x → s.rd TOP_TEMP_HOT = 1 → s.rd TOP_TEMP_CRIT = 0 → s.raisedAs t 0x003 0 ∧ t.rd TOP_TEMP_CRIT_EV = 1) ∧
    ((x ≤ 960 ∨ s.rd TOP_TEMP_HOT = 1) → (x ≤ 1056 ∨ s.rd TOP_TEMP_CRIT = 1) → t.flt = s.flt)) ∧
  (∀ s : State, ∃ t, exec .peakClr s = .next t ∧ t.rd TOP_TEMP_PEAK = s.rd TOP_TEMP_TEMP ∧ s.onlyFields t [TOP_TEMP_PEAK])

/-! ### The chart -/

/-- FETCH, VERIFY, CHECK and BUILD: a good image takes the next phase and nothing else; a slot 0 image with a fault is left for slot 1,
with its cause shown; a BUILD without a SAFETY section and without a partner begins RUN in the role that the chart gives. -/
def Obligations.ChartLoads : Prop :=
  (∀ d (s : State), s.phase = PH_FETCH → s.pwr.held = 0 → ∃ t, exec (.chartFetch d) s = .next t ∧
    match (if s.chart.src = 2 then fetchBytes s.stageRead s.stageRoom else fetchBytes d 16777216) with
    | .ok img => t.phase = PH_VERIFY ∧ t = { s with regs := t.regs, chart := { s.chart with img := img } } ∧ s.keepsBut t [CHART_STATUS_PHASE]
    | .error (c, i) => if s.chart.src = 0 then t.phase = PH_FETCH ∧ t.chart.src = 1 ∧ t.rd CHART_FAIL_INFO_SLOT0_CAUSE = c % 256 ∧
          t.rd CHART_FAIL_INFO_SLOT0_INDEX = i % 256 ∧
          s.keepsBut t [CHART_STATUS_PHASE, CHART_FAIL_INFO_SLOT0_CAUSE, CHART_FAIL_INFO_SLOT0_INDEX]
        else t.phase = PH_FAILED ∧ t.role = 0 ∧ t.rd CHART_STATUS_CAUSE = c % 256) ∧
  (∀ s : State, s.phase = PH_VERIFY → ∃ t, exec .chartVerify s = .next t ∧
    match s.verifyBad s.chart.img with
    | none => t.phase = PH_CHECK ∧ s.onlyFields t [CHART_STATUS_PHASE]
    | some c => if s.chart.src = 0 then t.phase = PH_FETCH ∧ t.chart.src = 1 ∧ t.rd CHART_FAIL_INFO_SLOT0_CAUSE = c % 256
        else t.phase = PH_FAILED ∧ t.role = 0 ∧ t.rd CHART_STATUS_CAUSE = c % 256) ∧
  (∀ s : State, s.phase = PH_CHECK → ∃ t, exec .chartCheck s = .next t ∧
    match s.checkBad s.chart.img with
    | none => t.phase = PH_BUILD ∧ s.onlyFields t [CHART_STATUS_PHASE]
    | some (c, _) => if s.chart.src = 0 then t.phase = PH_FETCH ∧ t.chart.src = 1 ∧ t.rd CHART_FAIL_INFO_SLOT0_CAUSE = c % 256
        else t.phase = PH_FAILED ∧ t.role = 0 ∧ t.rd CHART_STATUS_CAUSE = c % 256) ∧
  (∀ s : State, s.phase = PH_BUILD → (secIn (chartSecs s.chart.img) T_SAFETY 0).isEmpty = true →
    ∃ t, exec (.chartBuild false) s = .next t ∧ t.phase = PH_RUN ∧
      t.role = b8 (secIn (chartSecs s.chart.img) T_ROLE 0) 0 % 4)

/-- LOAD and the hot load: LOAD acts in FAILED alone; a hot load is taken by a standby of a redundant build, and the other orders leave
cause 0x22; its image is refused with a cause or kept for the first edge of a control period; an abort drops it with cause 0x23. -/
def Obligations.LoadRequests : Prop :=
  (∀ p (s : State), s.phase = PH_FAILED → ∃ t, exec (.load p) s = .next t ∧ t.phase = PH_FETCH ∧
    t = { s with regs := t.regs, flt := t.flt, out := t.out, chart := { s.chart with src := 2, img := [], loadFrom := s.clk.count } } ∧
    s.keepsBut t [CHART_STATUS_PHASE]) ∧
  (∀ p (s : State), s.phase ≠ PH_FAILED → s.fresh → ∃ t, exec (.load p) s = .next t ∧ t = { s with flt := t.flt } ∧
    s.raisedAs t 0x020 (A_CHART_CTRL % 0x10000 + p.master * 65536)) ∧
  (∀ p (s : State), s.inRun = true → s.redundant = true → s.isStandby = true → s.rd CHART_STATUS_HOT_PEND = 0 →
    ∃ t, exec (.hotLoad p) s = .next t ∧ t.rd CHART_STATUS_HOT_PEND = 1 ∧
      t = { s with regs := t.regs, chart := { s.chart with hot := [], hotReady := false } } ∧ s.keepsBut t [CHART_STATUS_HOT_PEND]) ∧
  (∀ p (s : State), (s.inRun = false ∨ s.redundant = false ∨ s.isStandby = false) →
    ∃ t, exec (.hotLoad p) s = .next t ∧ t.rd CHART_STATUS_CAUSE = 0x22 ∧ s.onlyFields t [CHART_STATUS_CAUSE]) ∧
  (∀ s : State, s.rd CHART_STATUS_HOT_PEND = 1 → s.chart.hotReady = false → ∃ t, exec .hotCheck s = .next t ∧
    match fetchBytes s.stageRead s.stageRoom with
    | .error (c, i) => t.rd CHART_STATUS_HOT_PEND = 0 ∧ t.rd CHART_STATUS_CAUSE = c % 256 ∧ t.rd CHART_STATUS_FAIL_INDEX = i % 256 ∧
        s.keepsBut t [CHART_STATUS_HOT_PEND, CHART_STATUS_CAUSE, CHART_STATUS_FAIL_INDEX]
    | .ok img => s.verifyBad img = none → s.checkBad img = none → s.hotDiffers img = none →
        t = { s with chart := { s.chart with hot := img, hotReady := true } }) ∧
  (∀ s : State, s.rd CHART_STATUS_HOT_PEND = 1 → s.chart.hotReady = true → ∃ t, exec .hotApply s = .next t ∧
    t.rd CHART_STATUS_HOT_PEND = 0 ∧ t.rd CHART_STATUS_CAUSE = 0 ∧ t.chart.hot = [] ∧ t.chart.hotReady = false ∧ t.red.shHold = 64) ∧
  (∀ s : State, s.rd CHART_STATUS_HOT_PEND = 1 → ∃ t, exec .hotAbort s = .next t ∧ t.rd CHART_STATUS_HOT_PEND = 0 ∧
    t.rd CHART_STATUS_CAUSE = 0x23 ∧ t = { s with regs := t.regs, chart := { s.chart with hot := [], hotReady := false } } ∧
    s.keepsBut t [CHART_STATUS_HOT_PEND, CHART_STATUS_CAUSE])

/-! ### Lanes -/

/-- A reference clock out of range takes every lane OFF, holds ALIVE low and raises lane-reference, with INFO 0x7F for SYS_REF; with both
clocks in range again REF_OK reads 1 (R94, R96, R499). -/
def Obligations.ReferenceClocks : Prop :=
  (∀ sys dev (s : State), ∃ t, exec (.refClockBad sys dev) s = .next t ∧ t.lanes.refBad = s.lanes.refBad ||| (if sys then 2 else 1) ∧
    t.rd LANE_REF_STAT_REF_OK = 0 ∧ t.rd FLT_STAT_ALIVE = 0 ∧ (∀ n, n < 112 → t.laneSt n = LN_OFF) ∧
    (∃ x ∈ t.flt.raised, x.id = 0x045 ∧ x.edge = s.clk.count) ∧ t.cells = s.cells ∧ t.mem = s.mem) ∧
  (∀ sys dev (s : State), s.lanes.refBad = (if sys then 2 else 1) → ∃ t, exec (.refClockGood sys dev) s = .next t ∧
    t.lanes.refBad = 0 ∧ t.rd LANE_REF_STAT_REF_OK = 1 ∧
    (∀ n, n < 112 → s.lanesApplied = true → s.rd (LANE_CFG_MODE n) ≠ 0 → s.laneSt n = LN_OFF → t.laneSt n = LN_SEEK) ∧
    t.cells = s.cells ∧ t.mem = s.mem ∧ t.out = s.out)

/-- The receiver of a Balgal's lane or of a Skerry's port: loss of signal, recovered clock, alignment, loss of lock (R94 to R96). -/
def Obligations.ReceiverStates : Prop :=
  (∀ n (s : State), n < 112 → isEth n = false → s.laneSt n = LN_SEEK → ∃ t, exec (.clockRecovered (.lane n)) s = .next t ∧
    t.laneSt n = LN_ALIGN ∧ t.rd (LANE_STAT_SIG_DET n) = 1 ∧ t.rd (LANE_STAT_CDR_LOCK n) = 1 ∧
    s.onlyFields t [LANE_STAT_STATE n, LANE_STAT_SIG_DET n, LANE_STAT_CDR_LOCK n]) ∧
  (∀ n (s : State), n < 112 → isEth n = false → s.laneSt n = LN_ALIGN → ∃ t, exec (.commaAligned (.lane n)) s = .next t ∧
    t.laneLocked n = true ∧ t.bitAt (A_LANE_LOCKED 0) n = true ∧
    t.rd (LANE_STAT_TIMEOUT n) = 0 ∧ t.laneRx n = ⟨0, s.clk.count, 0⟩ ∧ t = { s with regs := t.regs, lanes := t.lanes }) ∧
  (∀ n sig (s : State), n < 104 → s.laneSt n = LN_ALIGN → ∃ t, exec (.signalDetectLost (.lane n) sig false) s = .next t ∧
    t.laneSt n = LN_SEEK ∧ t.rd (LANE_STAT_SIG_DET n) = b2n sig ∧ t.rd (LANE_STAT_CDR_LOCK n) = 0 ∧ t.cells = s.cells ∧ t.mem = s.mem) ∧
  (∀ n errs (s : State), n < 104 → s.laneLocked n = true → ∃ t, exec (.lossScoreLimit (.lane n) errs) s = .next t ∧
    t.laneSt n = LN_ALIGN ∧ t.bitAt (A_LANE_LOCKED 0) n = false ∧ t.bitAt (A_LANE_LOST 0) n = true ∧
    (∃ x ∈ t.flt.raised, x.id = 0x042 ∧ x.edge = s.clk.count) ∧ t.cells = s.cells ∧ t.mem = s.mem) ∧
  (∀ g p (s : State), p < 2 → (s.cell g).lanesRun = true → (s.cell g).rd (SK_LINK_STAT_STATE p) = LN_SEEK →
    ∃ t, exec (.clockRecovered (.port g p)) s = .next t ∧ (t.cell g).rd (SK_LINK_STAT_STATE p) = LN_ALIGN ∧
      (s.cell g).onlyFields (t.cell g) [SK_LINK_STAT_STATE p, SK_LINK_STAT_SIG_DET p, SK_LINK_STAT_CDR_LOCK p] ∧ s.onlyCell t g) ∧
  (∀ g p (s : State), p < 2 → (s.cell g).lanesRun = true → (s.cell g).rd (SK_LINK_STAT_STATE p) = LN_ALIGN →
    ∃ t, exec (.commaAligned (.port g p)) s = .next t ∧ (t.cell g).locked p = true ∧ s.onlyCell t g ∧
      (s.cell g).keepsBut (t.cell g) [SK_LINK_STAT_STATE p, SK_TOP_STAT_LOCK_H, SK_TOP_STAT_LOCK_T]) ∧
  (∀ g p sig (s : State), p < 2 → (s.cell g).lanesRun = true → (s.cell g).locked p = true →
    ∃ t, exec (.signalDetectLost (.port g p) sig false) s = .next t ∧ (t.cell g).rd (SK_LINK_STAT_STATE p) = LN_SEEK ∧
      (t.cell g).rd (SK_LINK_STAT_SIG_DET p) = b2n sig ∧ (t.cell g).rd (SK_LINK_STAT_CDR_LOCK p) = 0 ∧ s.onlyCell t g) ∧
  (∀ g p errs (s : State), p < 2 → (s.cell g).lanesRun = true → (s.cell g).locked p = true →
    ∃ t, exec (.lossScoreLimit (.port g p) errs) s = .next t ∧ (t.cell g).rd (SK_LINK_STAT_STATE p) = LN_ALIGN ∧ s.onlyCell t g ∧
      (s.cell g).keepsBut (t.cell g) [SK_LINK_STAT_STATE p, SK_LINK_STAT_SCORE p, SK_TOP_STAT_LOCK_H, SK_TOP_STAT_LOCK_T,
        SK_LINK_LOSS_CNT p, SK_LINK_STAT_TIMEPORT p, SK_LINK_SYM_ERR p])

/-- The watches of a lane: its lock timeout, the end of an error interval, a slip, and an eye scan (R100, R102, R109, R112). -/
def Obligations.LaneWatches : Prop :=
  (∀ n (s : State), n < 112 → s.laneLocked n = false → s.laneSt n ≠ LN_OFF → s.rd (LANE_STAT_TIMEOUT n) = 0 → s.fresh →
    ∃ t, exec (.lockTimeout n) s = .next t ∧ t.rd (LANE_STAT_TIMEOUT n) = 1 ∧ t = { s with regs := t.regs, flt := t.flt } ∧
      s.raisedAs t 0x044 n ∧ s.keepsBut t [LANE_STAT_TIMEOUT n]) ∧
  (∀ n errs (s : State), n < 112 → s.laneLocked n = true → s.rd (LANE_CFG_ERR_LIMIT n) ≤ (s.laneRx n).errs + errs → s.fresh →
    ∃ t, exec (.errIntervalEnd n errs) s = .next t ∧ t.bitAt (A_LANE_DEGR 0) n = true ∧ s.raisedAs t 0x043 n ∧ (t.laneRx n).errs = 0 ∧
      t.rd (LANE_SYM_ERR n) = min (s.rd (LANE_SYM_ERR n) + errs) 0xFFFFFFFF ∧ t = { s with regs := t.regs, flt := t.flt, lanes := t.lanes }) ∧
  (∀ n errs (s : State), n < 112 → s.laneLocked n = true → (s.laneRx n).errs + errs < s.rd (LANE_CFG_ERR_LIMIT n) →
    ∃ t, exec (.errIntervalEnd n errs) s = .next t ∧ (t.laneRx n).errs = 0 ∧
      t.rd (LANE_SYM_ERR n) = min (s.rd (LANE_SYM_ERR n) + errs) 0xFFFFFFFF ∧ t = { s with regs := t.regs, lanes := t.lanes } ∧
      s.keepsBut t [LANE_SYM_ERR n]) ∧
  (∀ n (s : State), n < 112 → isEth n = false → s.laneLocked n = true → ∃ t, exec (.elasticSlip n) s = .next t ∧
    t.rd (LANE_SLIP_CNT n) = min (s.rd (LANE_SLIP_CNT n) + 1) (2 ^ (LANE_SLIP_CNT n).w - 1) ∧ s.onlyFields t [LANE_SLIP_CNT n]) ∧
  (∀ p n v (s : State), n < 112 → bitOf v.toNat 31 = true → s.rd (LANE_CFG_MODE n) ≠ 0 → s.rd (LANE_EYE_STAT_BUSY n) = 0 →
    s.laneLocked n = true → ∃ t, exec (.eyeScanStart p n v) s = .next t ∧ t.rd (LANE_EYE_STAT_BUSY n) = 1 ∧
      t.rd (LANE_EYE_STAT_DONE n) = 0 ∧ t.rd (LANE_EYE_STAT_ABORT n) = 0 ∧ t.rd (LANE_EYE_ERR n) = 0 ∧
      s.onlyFields t [LANE_EYE_CTRL_H_OFF n, LANE_EYE_CTRL_V_OFF n, LANE_EYE_CTRL_DWELL n, LANE_EYE_STAT_BUSY n, LANE_EYE_STAT_DONE n,
        LANE_EYE_STAT_ABORT n, LANE_EYE_ERR n]) ∧
  (∀ p n v (s : State), n < 112 → bitOf v.toNat 31 = true → s.rd (LANE_EYE_STAT_BUSY n) = 1 → s.fresh →
    ∃ t, exec (.eyeScanStart p n v) s = .next t ∧ t.rd (LANE_EYE_STAT_BUSY n) = 1 ∧
      s.raisedAs t 0x060 (A_LANE_EYE_CTRL n % 0x10000 + p.master * 65536) ∧
      s.keepsBut t [LANE_EYE_CTRL_H_OFF n, LANE_EYE_CTRL_V_OFF n, LANE_EYE_CTRL_DWELL n]) ∧
  (∀ n errs (s : State), n < 112 → s.rd (LANE_EYE_STAT_BUSY n) = 1 → ∃ t, exec (.eyeScanDone n errs) s = .next t ∧
    t.rd (LANE_EYE_STAT_BUSY n) = 0 ∧ t.rd (LANE_EYE_STAT_DONE n) = 1 ∧ t.rd (LANE_EYE_ERR n) = min errs 0xFFFFFFFF ∧
    s.onlyFields t [LANE_EYE_STAT_BUSY n, LANE_EYE_STAT_DONE n, LANE_EYE_ERR n])

/-! ### Causeways and ferries -/

/-- The rows of a causeway's state: DOWN and CUT with their sources, the request to measure, MEASURING, UP and the end of CUT, and SPLIT (R151,
R162). -/
def Obligations.CausewayStates : Prop :=
  (∀ c mate (s : State), c < 96 → s.cwJudged c = true → s.downRow c mate = true → s.cwSt c ≠ CWS_DOWN → s.fresh →
    ∃ t, exec (.causewayDown c mate) s = .next t ∧ t.cwSt c = CWS_DOWN ∧ t.bitAt (A_CW_UP 0) c = false ∧ t.bitAt (A_CW_CUT 0) c = false ∧
      t.way c = { s.way c with moved := true, meas := 0 } ∧ s.raisedAs t 0x083 c ∧
      t = { s with regs := t.regs, flt := t.flt, cws := t.cws }) ∧
  (∀ c mate (s : State), c < 96 → s.cwJudged c = true → s.cutRow c mate = true → s.downRow c true = false → s.fresh →
    ∃ t, exec (.causewayCut c mate) s = .next t ∧ t.cwSt c = CWS_CUT ∧ t.bitAt (A_CW_UP 0) c = false ∧ t.bitAt (A_CW_CUT 0) c = true ∧
      t.bitAt (A_CW_CUT_EV 0) c = true ∧ t.way c = { s.way c with moved := true, meas := 0 } ∧ s.raisedAs t 0x082 c ∧
      t = { s with regs := t.regs, flt := t.flt, cws := t.cws }) ∧
  (∀ p c (s : State), c < 96 → s.cwUsed c = true → s.cwSt c ≠ CWS_DOWN → ∃ t, exec (.measure p c) s = .next t ∧
    t.way c = { s.way c with request := true } ∧ t = { s with cws := t.cws }) ∧
  (∀ p c (s : State), c < 96 → s.cwUsed c = true → s.cwSt c = CWS_DOWN → s.fresh → ∃ t, exec (.measure p c) s = .next t ∧
    s.raisedAs t 0x080 (A_CW_CMD c % 0x10000 + p.master * 65536) ∧ t = { s with flt := t.flt }) ∧
  (∀ c mate (s : State), c < 96 → s.inRun = true → s.isArbiter = false → s.cwUsed c = true → (s.way c).request = true → (s.way c).blocks = true →
    (s.way c).moved = false → s.cwSt c ≠ CWS_DOWN → (s.way c).silent < 32 → s.cutRow c false = false →
    ∃ t, exec (.causewayMeasuring c mate) s = .next t ∧ t.cwSt c = CWS_MEASURING ∧ t.bitAt (A_CW_UP 0) c = false ∧
      t.way c = { s.way c with request := false, moved := true, meas := 0 } ∧ t = { s with regs := t.regs, cws := t.cws }) ∧
  (∀ c (s : State), c < 96 → s.inRun = true → s.isArbiter = false → s.cwUsed c = true → (s.way c).request = false →
    (s.way c).moved = false → s.cwSt c = CWS_DOWN → 64 ≤ (s.way c).ready →
    ∃ t, exec (.causewayMeasuring c true) s = .next t ∧ t.cwSt c = CWS_MEASURING ∧ (t.way c).moved = true ∧ (t.way c).meas = 0 ∧
      t = { s with regs := t.regs, cws := t.cws }) ∧
  (∀ c (s : State), c < 96 → s.cwJudged c = true → s.cwSt c = CWS_MEASURING → 8 ≤ (s.way c).meas → s.downRow c true = false →
    s.cutRow c false = false → ∃ t, exec (.causewayUp c) s = .next t ∧ t.cwSt c = CWS_UP ∧ t.bitAt (A_CW_UP 0) c = true ∧
      t.way c = { s.way c with moved := true, meas := 0 } ∧ t = { s with regs := t.regs, flt := t.flt, cws := t.cws }) ∧
  (∀ c (s : State), c < 96 → s.cwJudged c = true → s.cwSt c = CWS_CUT → 64 ≤ (s.way c).calm → s.downRow c true = false →
    ∃ t, exec (.cutClear c true) s = .next t ∧ t.cwSt c = CWS_UP ∧ t.bitAt (A_CW_UP 0) c = true ∧ t.bitAt (A_CW_CUT 0) c = false ∧
      t.rd (CW_STAT_RELAY c) = 0 ∧ t = { s with regs := t.regs, flt := t.flt, cws := t.cws }) ∧
  (∀ c (s : State), c < 96 → s.inRun = true → s.isArbiter = false → s.cwUsed c = true → 2 ≤ (s.way c).mute → (s.way c).muteUp = true →
    ∃ t, exec (.splitSet c) s = .next t ∧ t.rd (CW_STAT_SPLIT c) = 1 ∧ s.onlyFields t [CW_STAT_SPLIT c])

/-- The start of a ferry cycle gives every lane its budget of flash orders anew and lets the fallback pair load; outside RUN, in a build
without a partner and without lanes, it does nothing else but send the tails that are due (R159, R172). -/
def Obligations.FerryCycleStart : Prop :=
  (∀ s : State, ∃ t, exec .ferryCycleStart s = .next t ∧ t.flash.sent = [] ∧ t.flash.sentBA = [] ∧ t.flash.sentC = [] ∧
    t.tim.loadDue = true) ∧
  (∀ s : State, s.inRun = false → s.redundant = false → s.lanesApplied = false → s.cws.tails = [] →
    ∃ t, exec .ferryCycleStart s = .next t ∧
      t = { s with tim := { s.tim with loadDue := true }, cws := { s.cws with tails := [] },
                   flash := { s.flash with sent := [], sentBA := [], sentC := [] } })

/-- What passes a Skerry's port goes on from its other port, and a cell in REPEAT counts nothing; a port that misses the ferry of a
cycle notes it; and what a Balgal's lane receives outside a valid ferry is counted as a bad ferry (R125, R126, R150). -/
def Obligations.FerriesPass : Prop :=
  (∀ g p ss back still (s : State), p < 2 → (s.cell g).lanesRun = true → (s.cell g).locked p = true →
    ∃ t on, exec (.ferryReceiveSkerry g p ss back still) s = .next t ∧ t.out = s.out ++ [.onward g (1 - p) on] ∧
      t.regs = s.regs ∧ t.mem = s.mem ∧ ∀ h, h ≠ g → t.cell h = s.cell h) ∧
  (∀ g p q (s : State), p < 2 → (s.cell g).inRun = true → (s.cell g).cmd.cyc.seq ≠ q →
    ∃ t, exec (.missingFerry g p q) s = .next t ∧ s.onlyCell t g ∧ (t.cell g).cmd.cyc.seq = q ∧
      (t.cell g).cmd.cyc.lost = 2 ^ p ∧ (t.cell g).rd (SK_LINK_STAT_TIMEPORT p) = 0 ∧
      (t.cell g).cmd.miss = (s.cell g).cmd.miss ||| 2 ^ p) ∧
  (∀ n ss back (s : State), s.inRun = true → s.isArbiter = false → n < 96 → s.cwUsed (s.cwOfLane n) = true →
    (s.lanesOf (s.cwOfLane n)).contains n = true → s.laneLocked n = true →
    ferryOk (ferryOf (tagSyms ss 0 0)) (if s.laneTail n then 0 else 1) = false →
    ∃ t, exec (.balgalFerryReceive n ss back) s = .next t ∧
      t.rd (CW_FERRY_BAD (s.cwOfLane n)) = min (s.rd (CW_FERRY_BAD (s.cwOfLane n)) + 1) (2 ^ (CW_FERRY_BAD (s.cwOfLane n)).w - 1) ∧
      (t.way (s.cwOfLane n)).seen = (s.way (s.cwOfLane n)).seen ||| (if s.laneTail n then 2 else 1) ∧ t.cells = s.cells ∧ t.mem = s.mem)

/-! ### Freight of the Balgal -/

/-- The freight queue: a post moves HEAD within the queue or raises range; the engine issues the monitor's slot first and then the next
descriptor to every causeway of its cell; a request waits for its COLLECT, is repeated, or ends in its descriptor; a part whose cell
stays silent is sent again (R141, R143, R77). -/
def Obligations.FreightQueue : Prop :=
  (∀ p h (s : State), h % 4096 < s.rd CW_FR_SIZE → s.rd CW_FR_STAT_BUSY = 0 →
    (s.rd CW_FR_HEAD + s.rd CW_FR_SIZE - s.rd CW_FR_TAIL % s.rd CW_FR_SIZE) % s.rd CW_FR_SIZE ≤
      (h % 4096 + s.rd CW_FR_SIZE - s.rd CW_FR_TAIL % s.rd CW_FR_SIZE) % s.rd CW_FR_SIZE →
    ∃ t, exec (.freightPost p h) s = .next t ∧ t.rd CW_FR_HEAD = h % 4096 ∧
      t.rd CW_FR_STAT_BUSY = b2n (decide (h % 4096 ≠ s.rd CW_FR_TAIL)) ∧ s.onlyFields t [CW_FR_HEAD, CW_FR_STAT_BUSY]) ∧
  (∀ p h (s : State), s.rd CW_FR_SIZE ≤ h % 4096 → s.fresh → ∃ t, exec (.freightPost p h) s = .next t ∧
    s.raisedAs t 0x080 (A_CW_FR_HEAD % 0x10000 + p.master * 65536) ∧ t = { s with flt := t.flt }) ∧
  (∀ j (s : State), s.inRun = true → s.isActive = true → s.mon.slot = some j → s.waysFree j.cell = true →
    ∃ t, exec .freightIssue s = .next t ∧ t.mon = { s.mon with slot := none } ∧ (∀ c ∈ s.frWays j.cell, (t.way c).job = some j) ∧
      t = { s with cws := t.cws, mon := t.mon, flash := t.flash }) ∧
  (∀ b (s : State), s.inRun = true → s.isActive = true → s.mon.slot = none → 0 < s.rd CW_FR_SIZE → s.rd CW_FR_TAIL ≠ s.rd CW_FR_HEAD →
    s.descState (s.rd CW_FR_TAIL) = 0 → s.readMem .freight (s.descAt (s.rd CW_FR_TAIL)) 64 = (.ok b, s) →
    s.frRefused (jobOf (s.rd CW_FR_TAIL) b).cell (jobOf (s.rd CW_FR_TAIL) b).op (jobOf (s.rd CW_FR_TAIL) b).addr
      (jobOf (s.rd CW_FR_TAIL) b).len (jobOf (s.rd CW_FR_TAIL) b).index = false →
    s.frWays (jobOf (s.rd CW_FR_TAIL) b).cell ≠ [] → s.waysFree (jobOf (s.rd CW_FR_TAIL) b).cell = true →
    ∃ t, exec .freightIssue s = .next t ∧ t.byte (s.descAt (s.rd CW_FR_TAIL) + 3) = 1 ∧
      (∀ c ∈ s.frWays (jobOf (s.rd CW_FR_TAIL) b).cell, (t.way c).job = some (jobOf (s.rd CW_FR_TAIL) b)) ∧
      (∀ a, a ≠ s.descAt (s.rd CW_FR_TAIL) + 3 → t.byte a = s.byte a) ∧ t.regs = s.regs ∧ t.cells = s.cells) ∧
  (∀ c j (s : State), (s.way c).job = some j → j.phase = 1 → (j.op = 1 ∨ j.op = 2 ∨ j.op = 5) → j.at_ + 1 ≤ s.reef.cyc →
    ∃ t, exec (.freightCollect c) s = .next t ∧ t.way c = { s.way c with job := some { j with phase := 2 }, back := [] } ∧
      (∀ d, d ≠ c → t.way d = s.way d) ∧ t = { s with cws := t.cws }) ∧
  (∀ c j (s : State), (s.way c).job = some j → j.phase = 3 → (s.way c).back = [] → j.tries < 3 →
    ∃ t, exec (.freightReply c) s = .next t ∧ t.way c = { s.way c with job := some { j with phase := 0, coll := 0 }, back := [] } ∧
      (∀ d, d ≠ c → t.way d = s.way d) ∧ t = { s with cws := t.cws }) ∧
  (∀ c j (s : State), (s.way c).job = some j → j.phase = 1 → j.op = 4 → (s.way c).back ≠ [] → j.idx < 4096 →
    s.descState j.idx < 2 → (∀ d, d ≠ c → (s.way d).job = none) →
    ∃ t, exec (.freightReply c) s = .next t ∧ (t.way c).job = none ∧ t.byte (s.descAt j.idx + 3) = 2 ∧ t.byte (s.descAt j.idx + 57) = 1 ∧
      (∀ a, a ≠ s.descAt j.idx + 3 → a ≠ s.descAt j.idx + 57 → t.byte a = s.byte a) ∧ t.cells = s.cells) ∧
  (∀ g (s : State), s.inRun = true → s.isActive = true → s.isCell g = true → (s.crec g).partBusy = true → (s.crec g).partBlk = 6 →
    (s.crec g).part < 2 → (s.crec g).partAt + 8 ≤ s.reef.cyc + 1 → ∃ t, exec (.partResendTimeout g) s = .next t ∧
      t.crec g = { s.crec g with partBusy := true, partBlk := 0, partAt := 0, partSeen := false } ∧
      (∀ h, h ≠ g → t.crec h = s.crec h) ∧ t = { s with reef := t.reef })

/-! ### Freight in the Skerry -/

/-- What a Skerry in RUN does with a READ, a WRITE and a LOG: the reply that it leaves, with its response code, and the bytes of SRAM that a
WRITE stores (R137, R138, R469). -/
def Obligations.SkerryMemoryFreight : Prop :=
  (∀ g tag addr len fixed (s : State), (s.cell g).inRun = true → (s.cell g).serves true = true →
    ∃ t, exec (.freightRead g tag addr len fixed) s = .next t ∧
      (t.cell g).fr.reply.map (fun r => (r.tag, r.addr, r.rsp, r.ready)) = some (tag % 256, addr,
        (if len % 256 = 0 then 1 else if lenOk (len % 256) = false then 6
          else if (List.range (len % 256 / 4)).all (fun i => skReadable (addr + 4 * i)) then 1 else 4), false) ∧
      (t.cell g).mem = (s.cell g).mem ∧ (∀ h, h ≠ g → t.cell h = s.cell h) ∧ t = { s with cells := t.cells, opens := t.opens }) ∧
  (∀ g tag addr (data : List Byte) still (s : State), (s.cell g).inRun = true → (s.cell g).serves true = true →
    lenOk data.length = true → addr % 4 = 0 → addr + data.length ≤ 0x80000 →
    ∃ t, exec (.freightWrite g tag addr data.length data still) s = .next t ∧
      (t.cell g).fr.reply.map (fun r => (r.tag, r.addr, r.rsp, r.ready)) = some (tag % 256, addr, 1, false) ∧
      (∀ i, (h : i < data.length) → (t.cell g).byte (addr + i) = data[i]) ∧
      (∀ a, a < addr ∨ addr + data.length ≤ a → (t.cell g).byte a = (s.cell g).byte a) ∧ (t.cell g).regs = (s.cell g).regs ∧
      (∀ h, h ≠ g → t.cell h = s.cell h) ∧ t = { s with cells := t.cells, opens := t.opens }) ∧
  (∀ g tag addr len data still (s : State), (s.cell g).inRun = true → (s.cell g).serves true = true → len % 256 ≠ 0 →
    lenOk (len % 256) = false → ∃ t, exec (.freightWrite g tag addr len data still) s = .next t ∧
      (t.cell g).fr.reply.map (fun r => (r.tag, r.addr, r.rsp, r.ready)) = some (tag % 256, addr, 6, false) ∧
      (t.cell g).mem = (s.cell g).mem ∧ (t.cell g).regs = (s.cell g).regs ∧ ∀ h, h ≠ g → t.cell h = s.cell h) ∧
  (∀ g tag off len fixed (s : State), (s.cell g).inRun = true → (s.cell g).serves true = true → len % 256 ≤ 48 →
    ∃ t, exec (.freightLog g tag off len [] fixed) s = .next t ∧
      (t.cell g).fr.reply.map (fun r => (r.tag, r.addr, r.len, r.rsp, r.ready)) = some (tag % 256, off, 48, 1, false) ∧
      (t.cell g).mem = (s.cell g).mem ∧ (s.cell g).keepsBut (t.cell g) [SK_TOP_ECC_LOG] ∧ ∀ h, h ≠ g → t.cell h = s.cell h)

/-- What else a freight does in a Skerry: PART and IMAGE blocks are gathered, a RESET that names the cell restarts it while its gates are off
and is logged as refused otherwise, and a COLLECT brings the reply that its tag names (R135, R138, R647). -/
def Obligations.SkerryOtherFreight : Prop :=
  (∀ g i id (data : List Byte) (s : State), (s.cell g).inRun = true → (s.cell g).serves false = true → i < 6 → (s.cell g).fr.partId ≠ id →
    data ≠ [] → ∃ t, exec (.freightPart g i id data) s = .next t ∧ (t.cell g).fr.partId = id ∧ (t.cell g).fr.blocks = [(i, data)] ∧
      (t.cell g).rd SK_TOP_STAT_PART = (if (s.cell g).partOk then 2 else 1) ∧ (t.cell g).mem = (s.cell g).mem ∧ s.onlyCell t g) ∧
  (∀ g i data (s : State), (s.cell g).inRun = true → (s.cell g).serves false = true → 0 < i → (s.cell g).img0.isEmpty = true →
    ∃ t, exec (.freightImage g i data) s = .next t ∧ (t.cell g).fr.discarded = (s.cell g).fr.discarded + 1 ∧
      t.cell g = { s.cell g with fr := (t.cell g).fr } ∧ s.onlyCell t g) ∧
  (∀ g i data (s : State), (s.cell g).inRun = true → (s.cell g).serves false = true → 0 < i → (s.cell g).img0.isEmpty = false →
    i < imgBlocks (s.cell g).img0 → ∃ t, exec (.freightImage g i data) s = .next t ∧
      tget (fun _ => []) (t.cell g).fr.image i = data ∧ (∀ j, j ≠ i → tget (fun _ => []) (t.cell g).fr.image j = tget (fun _ => []) (s.cell g).fr.image j) ∧
      (t.cell g).mem = (s.cell g).mem ∧ s.onlyCell t g) ∧
  (∀ g (s : State), (s.cell g).inRun = true → (s.cell g).gatesOff = true →
    ∃ t, exec (.freightReset g (0x80000000 + g)) s = .next t ∧ (t.cell g).rd SK_PWR_STAT_WAKE_CAUSE = 9 ∧
      (t.cell g).rd SK_PWR_STAT_PREV = (s.cell g).rd SK_PWR_STAT_PREV ∧ (t.cell g).fr = SkFreight.zero ∧ (t.cell g).inRun = true ∧
      (∀ a, a < 0x10000000 → (t.cell g).byte a = 0) ∧ s.onlyCell t g) ∧
  (∀ g (s : State), (s.cell g).inRun = true → (s.cell g).gatesOff = false →
    ∃ t, exec (.freightReset g (0x80000000 + g)) s = .next t ∧ t.cell g = (s.cell g).log 0x0080 [(s.cell g).applied] ∧ s.onlyCell t g) ∧
  (∀ g tag (s : State), (s.cell g).inRun = true → (s.cell g).rd SK_PWR_STAT_PARK_PEND = 0 →
    ∃ t, exec (.collect g tag) s = .next t ∧ (∀ h, t.cell h = s.cell h) ∧
      t.out = s.out ++ [.readBytes .freight (collectBytes ((s.cell g).replyOf (tag % 256)) (beBytes 2 g ++ [0x10, BitVec.ofNat 8 tag]) [])] ∧
      t.regs = s.regs ∧ t.mem = s.mem) ∧
  (∀ g r (s : State), (s.cell g).inRun = true → (s.cell g).fr.reply = some r →
    ∃ t, exec (.replyReady g) s = .next t ∧ t.cell g = { s.cell g with fr := { (s.cell g).fr with reply := some { r with ready := true } } } ∧
      s.onlyCell t g)

/-- The actions of R130: what each does in the cell whose ferry slot carries it, and when it is refused and counted. -/
def Obligations.CellActions : Prop :=
  (∀ g (s : State), (s.cell g).inRun = true → (s.cell g).fired = false → (s.cell g).rd SK_GATE_STAT_BYP_FB = 0 →
    ∃ t, exec (.retire g) s = .next t ∧ (t.cell g).rd SK_GATE_STAT_FIRED = 1 ∧
      (t.cell g).pow = { (s.cell g).pow with byp := true, fireCause := 2, fireSec := ctSec (s.cell g).ct } ∧
      t.cell g = { s.cell g with regs := (t.cell g).regs, pow := (t.cell g).pow } ∧
      (s.cell g).keepsBut (t.cell g) [SK_GATE_STAT_FIRED] ∧ s.onlyCell t g) ∧
  (∀ g (s : State), (s.cell g).inRun = true → ∃ t, exec (.thyristorTrigger g) s = .next t ∧
    t.cell g = { s.cell g with pow := { (s.cell g).pow with thy := true } } ∧ s.onlyCell t g) ∧
  (∀ g (s : State), (s.cell g).inRun = true → (s.cell g).gatesOff = true → (s.cell g).discharging = false →
    ∃ t, exec (.managedDischargeStart g) s = .next t ∧ (t.cell g).rd SK_PWR_STAT_DISCHARGING = 1 ∧ (t.cell g).rd SK_PWR_STAT_DIS_PAUSED = 0 ∧
      t.cell g = { s.cell g with regs := (t.cell g).regs, pow := { (s.cell g).pow with disFrom := ctSec (s.cell g).ct } } ∧
      (s.cell g).keepsBut (t.cell g) [SK_PWR_STAT_DISCHARGING, SK_PWR_STAT_DIS_PAUSED] ∧ s.onlyCell t g) ∧
  (∀ g (s : State), (s.cell g).inRun = true → ((s.cell g).gatesOff = false ∨ (s.cell g).discharging = true) →
    ∃ t, exec (.managedDischargeStart g) s = .next t ∧
      (t.cell g).rd SK_CMD_ACTION_REJ = min ((s.cell g).rd SK_CMD_ACTION_REJ + 1) (2 ^ SK_CMD_ACTION_REJ.w - 1) ∧
      (s.cell g).keepsBut (t.cell g) [SK_CMD_ACTION_REJ, SK_LOG_WIDX, SK_LOG_CNT] ∧ s.onlyCell t g) ∧
  (∀ g (s : State), (s.cell g).inRun = true → (s.cell g).latchedInputs ≠ [] → ∃ t, exec (.clearLatchedFaults g []) s = .next t ∧
    bitOf ((t.cell g).rd SK_FLT_LATCH_LATCH) 0 = false ∧ (t.cell g).rd SK_GATE_FLT_DESAT = 0 ∧ (t.cell g).rd SK_GATE_FLT_OC = 0 ∧
    (t.cell g).rd SK_GATE_FLT_GS = 0 ∧ (t.cell g).rd SK_GATE_FLT_AUX = 0 ∧ (t.cell g).rd SK_GATE_STAT_HIZ = 0 ∧ (t.cell g).mem = (s.cell g).mem ∧
    s.onlyCell t g) ∧
  (∀ g (s : State), (s.cell g).inRun = true → (s.cell g).pow.ctype ≠ 3 → (s.cell g).mode = 1 → ∃ t, exec (.stepMode g) s = .next t ∧
    (t.cell g).gate = { (s.cell g).gate with mode := some 0 } ∧ (t.cell g).rd SK_GATE_STAT_MODE_PEND = 1 ∧
    t.cell g = { s.cell g with regs := (t.cell g).regs, gate := (t.cell g).gate } ∧
    (s.cell g).keepsBut (t.cell g) [SK_GATE_STAT_MODE_PEND] ∧ s.onlyCell t g) ∧
  (∀ g (s : State), (s.cell g).inRun = true → (s.cell g).pow.ctype ≠ 3 → (s.cell g).mode ≠ 1 → ∃ t, exec (.weaveMode g) s = .next t ∧
    (t.cell g).gate = { (s.cell g).gate with mode := some 1 } ∧ (t.cell g).rd SK_GATE_STAT_MODE_PEND = 1 ∧
    t.cell g = { s.cell g with regs := (t.cell g).regs, gate := (t.cell g).gate } ∧
    (s.cell g).keepsBut (t.cell g) [SK_GATE_STAT_MODE_PEND] ∧ s.onlyCell t g)

/-! ### Flash orders -/

/-- What a flash order does in a Skerry in RUN: a single insertion or bypass, a block, a time mark, a wake, and a commit that is held as early
until a slot of its epoch is armed (R156, R255, R260). -/
def Obligations.FlashOrdersAct : Prop :=
  (∀ g pol (s : State), (s.cell g).inRun = true → pol % 2 = 1 → (s.cell g).pow.ctype ≠ 2 → ∃ t, exec (.insertOne g pol) s = .next t ∧
    (t.cell g).rd SK_CMD_FLASH_IGN = min ((s.cell g).rd SK_CMD_FLASH_IGN + 1) (2 ^ SK_CMD_FLASH_IGN.w - 1) ∧
    (s.cell g).onlyFields (t.cell g) [SK_CMD_FLASH_IGN] ∧ s.onlyCell t g) ∧
  (∀ g pol (s : State), (s.cell g).inRun = true → pol % 2 = 0 → (s.cell g).partOk = true → (s.cell g).cmd.blocked = false →
    (s.cell g).discharging = false → (s.cell g).fired = false → ∃ t, exec (.insertOne g pol) s = .next t ∧
      t.cell g = (s.cell g).cancelAfter.moveTo ST_INSP ∧ s.onlyCell t g) ∧
  (∀ g (s : State), (s.cell g).inRun = true → (s.cell g).partOk = true → (s.cell g).cmd.blocked = false →
    (s.cell g).discharging = false → (s.cell g).fired = false → ∃ t, exec (.bypassOne g) s = .next t ∧
      t.cell g = (s.cell g).cancelAfter.moveTo ST_BYPASS ∧ s.onlyCell t g) ∧
  (∀ g reason (s : State), (s.cell g).inRun = true → ∃ t, exec (.blockAll g reason) s = .next t ∧ (t.cell g).cmd.blocked = true ∧
    (t.cell g).rd (SK_CMD_SLOT_STATE 0) = SL_FREE ∧ (t.cell g).rd (SK_CMD_SLOT_STATE 1) = SL_FREE ∧
    ((s.cell g).hiZ = false → (s.cell g).fired = false → (t.cell g).rd SK_GATE_STAT_TARGET = ST_BLOCK) ∧ s.onlyCell t g) ∧
  (∀ g epoch stage (s : State), (s.cell g).inRun = true → (s.cell g).partOk = true → (s.cell g).discharging = false →
    (s.cell g).fired = false → (s.cell g).timeOk = true → (s.cell g).rd (SK_CMD_SLOT_STATE 0) = SL_FREE →
    (s.cell g).rd (SK_CMD_SLOT_STATE 1) = SL_FREE → (s.cell g).rd SK_CMD_EARLY_VALID = 0 → ∃ t, exec (.commit g epoch stage) s = .next t ∧
      (t.cell g).rd SK_CMD_EARLY_VALID = 1 ∧ (t.cell g).rd SK_CMD_EARLY_EPOCH = epoch % 256 ∧ (t.cell g).rd SK_CMD_EARLY_STAGE = stage % 2 ∧
      (s.cell g).onlyFields (t.cell g) [SK_CMD_EARLY_VALID, SK_CMD_EARLY_EPOCH, SK_CMD_EARLY_STAGE] ∧ s.onlyCell t g) ∧
  (∀ g p mark back (s : State), (s.cell g).inRun = true → ∃ t, exec (.timeMark g p mark back) s = .next t ∧
    (t.cell g).rd SK_TIME_MARK_VALID = 1 ∧ (t.cell g).rd SK_TIME_MARK_MARK = mark % 2 ^ SK_TIME_MARK_MARK.w ∧
    (s.cell g).onlyFields (t.cell g) [SK_TIME_MARK_VALID, SK_TIME_MARK_MARK, SK_TIME_MARK_NS, SK_TIME_MARK_SEC] ∧ s.onlyCell t g) ∧
  (∀ g (s : State), (s.cell g).pow.state = .repeating → ∃ t, exec (.wake g) s = .next t ∧ (t.cell g).pow.state = .run ∧
    (t.cell g).rd SK_PWR_STAT_WAKE_CAUSE = 5 ∧ (t.cell g).rd SK_PWR_STAT_PREV = 2 ∧ s.onlyCell t g) ∧
  (∀ g (s : State), (s.cell g).pow.state ≠ .repeating → ∃ t, exec (.wake g) s = .next t ∧ ∀ h, t.cell h = s.cell h)

/-- The Balgal's orders: a due order leaves its lane with the symbols of R156 and is counted, a second block-all of one lane in one ferry cycle
is dropped and counted, a HALT and a TOP_BLOCKALL stop committing, a standby relays, and the island hears its partner (R159, R161, R264, R657). -/
def Obligations.BalgalSendsOrders : Prop :=
  (∀ n o (s : State), n ≠ relayLane → s.flash.due = [o] → o.lane = n → o.kind = .wake → tget (fun _ => 0) s.flash.sent n < 19 →
    ∃ t, exec (.flashOrderSend n) s = .next t ∧ t.flash.due = [] ∧ t.out = s.out ++ [.flash n (flashSyms .wake o.d1 o.d2)] ∧
      tget (fun _ => 0) t.flash.sent n = tget (fun _ => 0) s.flash.sent n + 1 ∧ t.cells = s.cells ∧ t.mem = s.mem) ∧
  (∀ n o (s : State), n ≠ relayLane → s.flash.due = [o] → o.lane = n → o.kind = .blockAll → tget (fun _ => 0) s.flash.sent n < 19 →
    s.flash.sentBA.contains n = true → ∃ t, exec (.flashOrderSend n) s = .next t ∧ t.flash = { s.flash with due := [] } ∧ t.out = s.out ∧
      t.rd (CW_FLASH_DEFER (s.cwOfLane n)) = min (s.rd (CW_FLASH_DEFER (s.cwOfLane n)) + 1) (2 ^ (CW_FLASH_DEFER (s.cwOfLane n)).w - 1) ∧
      s.keepsBut t [CW_FLASH_DEFER (s.cwOfLane n)]) ∧
  (∀ s : State, s.isActive = true → ∃ t, exec .halt s = .next t ∧ t.rd RUN_STAT_HALTED_EV = 1 ∧ t.committing = false ∧
    t.flash.lastBA = s.clk.count + 1 ∧ (∀ c, s.cwUsed c = true → ∀ n ∈ s.lanesOf c,
      ⟨n, .blockAll, 1, 0xA5, 0, s.clk.count, false⟩ ∈ t.flash.due) ∧ t.cells = s.cells ∧ t.mem = s.mem) ∧
  (∀ p v (s : State), s.pwr.held = 0 → s.inRun = true → s.isActive = true → bitsOf v 0 1 = 1 → bitsOf v 16 16 = 0xB10C →
    ∃ t, exec (.topBlockall p v) s = .next t ∧ t.rd RUN_STAT_HALTED_EV = 1 ∧ t.committing = false ∧
      (∀ c, s.cwUsed c = true → ∀ n ∈ s.lanesOf c, ⟨n, .blockAll, 4, 0xA5, 0, s.clk.count, false⟩ ∈ t.flash.due) ∧ t.cells = s.cells) ∧
  (∀ p v (s : State), s.pwr.held = 0 → bitsOf v 0 1 = 1 → (bitsOf v 16 16 ≠ 0xB10C ∨ s.inRun = false) → s.fresh →
    ∃ t, exec (.topBlockall p v) s = .next t ∧ t = { s with flt := t.flt } ∧
      s.raisedAs t 0x000 (A_TOP_BLOCKALL % 0x10000 + p.master * 65536)) ∧
  (∀ r d1 d2 (s : State), s.redundant = true → s.inRun = true → s.isStandby = true → s.laneLocked relayLane = true →
    flashOf (flashSyms .blockAll d1 d2) = some (0x9C, d1, d2) →
    ∃ t, exec (.relayedFlashOrder (.d r :: flashSyms .blockAll d1 d2)) s = .next t ∧
      (∀ c, s.cwUsed c = true → ⟨c, .blockAll, d1, d2, 0, s.clk.count, false⟩ ∈ t.flash.due) ∧ t = { s with flash := t.flash }) ∧
  (∀ c (s : State), s.isActive = true → s.inRun = true → s.cwUsed c = true → s.safe.powered = true → s.safe.sec ≠ [] →
    ∃ t, exec (.partnerBlockAll c) s = .next t ∧ t = { s with safe := { s.safe with partner := true, partnerNew := true } })

/-! ### Time -/

/-- The main path's loss and return, the fallback load, a silent source and the end of a slew, in the Balgal and in a Skerry (R172 to R174,
R178, R179). -/
def Obligations.TimePaths : Prop :=
  (∀ s : State, s.rd TIME_STAT_PATH = 0 → s.fresh → ∃ t, exec (.mainPathLost .balgal) s = .next t ∧ t.rd TIME_STAT_PATH = 1 ∧
    t.rd TIME_STAT_FALLBACK_EV = 1 ∧ s.keepsBut t [TIME_STAT_PATH, TIME_STAT_FALLBACK_EV] ∧ s.raisedAs t 0x0C2 0 ∧
    t = { s with regs := t.regs, flt := t.flt }) ∧
  (∀ g (s : State), (s.cell g).inRun = true → (s.cell g).rd SK_TIME_STAT_PATH = 0 → ∃ t, exec (.mainPathLost (.skerry g)) s = .next t ∧
    (t.cell g).rd SK_TIME_STAT_PATH = 1 ∧ (t.cell g).rd SK_TIME_STAT_FALLBACK_EV = 1 ∧
    (s.cell g).onlyFields (t.cell g) [SK_TIME_STAT_PATH, SK_TIME_STAT_FALLBACK_EV] ∧ s.onlyCell t g) ∧
  (∀ s : State, s.rd TIME_STAT_PATH = 1 → s.rd TIME_CTRL_MAIN_EN = 1 → ∃ t, exec (.mainPathReturn .balgal) s = .next t ∧
    t.rd TIME_STAT_PATH = 0 ∧ t.rd TIME_STAT_SLEWING = 0 ∧
    t.rd TIME_STAT_STATE = (if s.rd TIME_STAT_STATE = TS_FREE then TS_FREE else TS_HOLDOVER) ∧ t.clk.base = s.clk.fb * nsU ∧
    t.clk.slew = 0 ∧ t = { s with regs := t.regs, clk := t.clk } ∧ s.keepsBut t [TIME_STAT_PATH, TIME_STAT_SLEWING, TIME_STAT_STATE]) ∧
  (∀ g (s : State), (s.cell g).inRun = true → (s.cell g).rd SK_TIME_STAT_PATH = 1 → ∃ t, exec (.mainPathReturn (.skerry g)) s = .next t ∧
    (t.cell g).rd SK_TIME_STAT_PATH = 0 ∧
    (t.cell g).rd SK_TIME_STAT_STATE = (if (s.cell g).rd SK_TIME_STAT_STATE = TS_FREE then TS_FREE else TS_HOLDOVER) ∧
    (s.cell g).keepsBut (t.cell g) [SK_TIME_STAT_PATH, SK_TIME_STAT_SLEWING, SK_TIME_STAT_STATE] ∧ s.onlyCell t g) ∧
  (∀ s : State, s.rd TIME_STAT_PATH = 0 → ∃ t, exec (.fallbackLoad .balgal) s = .next t ∧ t.clk = { s.clk with fb := s.ct / nsU / 40 * 40, fbAcc := 0 } ∧
    t = { s with clk := t.clk, tim := { s.tim with loadDue := false } }) ∧
  (∀ g (s : State), (s.cell g).inRun = true → (s.cell g).rd SK_TIME_STAT_PATH = 0 → ∃ t, exec (.fallbackLoad (.skerry g)) s = .next t ∧
    t.cell g = { s.cell g with clk := { (s.cell g).clk with fb := (s.cell g).ct / nsU / 40 * 40, fbAcc := 0 } } ∧ s.onlyCell t g) ∧
  (∀ i (s : State), 32 ≤ i → s.isActive = false → s.rd TIME_STAT_STATE = TS_LOCKED → ∃ t, exec (.sourceTimeout .balgal i) s = .next t ∧
    t.rd TIME_STAT_STATE = TS_HOLDOVER ∧ t.clk.slew = 0 ∧ t.cells = s.cells ∧ t.mem = s.mem) ∧
  (∀ i (s : State), i < 4 → s.isActive = true → s.rd (TIME_SRC_CODE i) ≠ 0 → s.rd (TIME_SRC_CODE i) < 16 → s.rd (TIME_SRC_VALID i) = 1 →
    ∃ t, exec (.sourceTimeout .balgal i) s = .next t ∧ t.rd (TIME_SRC_VALID i) = 0 ∧ t.rd (TIME_SRC_REASON i) = 2 ∧ t.cells = s.cells ∧
      t.mem = s.mem) ∧
  (∀ g i (s : State), (s.cell g).inRun = true → (s.cell g).rd SK_TIME_STAT_STATE = TS_LOCKED → ∃ t, exec (.sourceTimeout (.skerry g) i) s = .next t ∧
    (t.cell g).rd SK_TIME_STAT_STATE = TS_HOLDOVER ∧ (t.cell g).rd SK_TIME_STAT_SLEWING = 0 ∧ (t.cell g).clk.slew = 0 ∧
    (s.cell g).keepsBut (t.cell g) [SK_TIME_STAT_STATE, SK_TIME_STAT_SLEWING] ∧ s.onlyCell t g) ∧
  (∀ s : State, s.clk.slew ≠ 0 → ∃ t, exec (.slewEnd .balgal) s = .next t ∧ t.clk.slew = 0 ∧ t.clk.left = 0 ∧ t.clk.accepted = false ∧
    t.rd TIME_STAT_SLEWING = 0 ∧ t.rd TIME_SLEW_LEFT = 0 ∧ s.keepsBut t [TIME_STAT_SLEWING, TIME_SLEW_LEFT] ∧
    t = { s with regs := t.regs, clk := t.clk }) ∧
  (∀ g (s : State), (s.cell g).inRun = true → (s.cell g).clk.slew ≠ 0 → ∃ t, exec (.slewEnd (.skerry g)) s = .next t ∧
    (t.cell g).clk.slew = 0 ∧ (t.cell g).clk.left = 0 ∧ (t.cell g).rd SK_TIME_STAT_SLEWING = 0 ∧
    (s.cell g).keepsBut (t.cell g) [SK_TIME_STAT_SLEWING] ∧ s.onlyCell t g)

/-- A refused jump is stepped, slewed or discarded on order, and on order alone; a Skerry that was refused reacquires in block (R181 to R184). -/
def Obligations.TimeJumps : Prop :=
  (∀ p (s : State), s.rd TIME_STAT_STATE = TS_REFUSED → s.stepOk = true → ∃ t, exec (.acceptStep p) s = .next t ∧
    t.rd TIME_STAT_STATE = TS_ACQUIRE ∧ t.clk.lockCnt = 0 ∧ t.cells = s.cells) ∧
  (∀ p (s : State), s.rd TIME_STAT_STATE = TS_REFUSED → ∃ t, exec (.slewJump p) s = .next t ∧ t.rd TIME_STAT_STATE = TS_LOCKED ∧
    t.clk.left = s.rdS TIME_JUMP_NS * nsU ∧ t.rd TIME_STAT_SLEWING = b2n (decide (s.rdS TIME_JUMP_NS ≠ 0)) ∧
    s.keepsBut t [TIME_STAT_STATE, TIME_STAT_SLEWING, TIME_SLEW_LEFT] ∧ t = { s with regs := t.regs, clk := t.clk }) ∧
  (∀ p (s : State), s.rd TIME_STAT_STATE = TS_REFUSED → 4 ≤ s.rd TIME_STAT_SRC → ∃ t, exec (.discardJump p) s = .next t ∧ t = s) ∧
  (∀ p (s : State), s.rd TIME_STAT_STATE = TS_REFUSED → s.rd TIME_STAT_SRC < 4 → ∃ t, exec (.discardJump p) s = .next t ∧
    t.rd (TIME_SRC_VALID (s.rd TIME_STAT_SRC)) = 0 ∧ t.rd (TIME_SRC_REASON (s.rd TIME_STAT_SRC)) = 3 ∧ t.cells = s.cells ∧ t.mem = s.mem) ∧
  (∀ p (s : State), s.rd TIME_STAT_STATE ≠ TS_REFUSED → s.fresh →
    (∃ t, exec (.acceptStep p) s = .next t ∧ t = { s with flt := t.flt } ∧ s.raisedAs t 0x0C0 (A_TIME_CTRL % 0x10000 + p.master * 65536)) ∧
    (∃ t, exec (.slewJump p) s = .next t ∧ t = { s with flt := t.flt } ∧ s.raisedAs t 0x0C0 (A_TIME_CTRL % 0x10000 + p.master * 65536)) ∧
    (∃ t, exec (.discardJump p) s = .next t ∧ t = { s with flt := t.flt } ∧ s.raisedAs t 0x0C0 (A_TIME_CTRL % 0x10000 + p.master * 65536))) ∧
  (∀ g (s : State), (s.cell g).inRun = true → (s.cell g).rd SK_TIME_STAT_STATE = TS_REFUSED → 64 ≤ (s.cell g).cmd.inBlock →
    (s.cell g).cmd.errs ≠ [] → within100 (s.cell g).cmd.errs = true → ∃ t, exec (.skerryReacquire g) s = .next t ∧
      (t.cell g).rd SK_TIME_STAT_STATE = TS_ACQUIRE ∧ (t.cell g).rd SK_TIME_STAT_RESTEP_EV = 1 ∧ (t.cell g).rd SK_TIME_LOCKCNT = 0 ∧
      (t.cell g).cmd.errs = [] ∧ s.onlyCell t g)

/-- A time mark is due on the lane that its end names; a trigger is armed from its registers, fires when its instant has passed, and is
disarmed; the TIME_OUT pulse ends (R194, R196 to R199, R202). -/
def Obligations.MarksAndTriggers : Prop :=
  (∀ p v (s : State), bitOf v.toNat 31 = true → s.flash.due = [] → s.cwUsed (v.toNat / 256 % 128) = true → s.redundant = false →
    ∃ t, exec (.timeMarkSend p v) s = .next t ∧ t.flash.due = [⟨(if bitOf v.toNat 15 then v.toNat / 256 % 128 + 48 else v.toNat / 256 % 128),
        .timeMark, v.toNat % 256, 0, 0, s.clk.count, false⟩] ∧ (∀ a, a ≠ A_TIME_MARK_CTRL → t.rdW a = s.rdW a) ∧
      t = { s with regs := t.regs, flash := t.flash }) ∧
  (∀ p k (s : State), k < 16 → s.rd (TIME_TRIG_STAT_ARMED k) = 0 → 0 < s.rd (TIME_TRIG_COUNT k) → 0 < s.rd (TIME_TRIG_PERIOD k) →
    ∃ t, exec (.triggerArm .balgal p k) s = .next t ∧ t.rd (TIME_TRIG_STAT_ARMED k) = 1 ∧ t.rd (TIME_TRIG_STAT_MISSED k) = 0 ∧
      (t.trig k).period = s.rd (TIME_TRIG_PERIOD k) ∧ (t.trig k).count = s.rd (TIME_TRIG_COUNT k) ∧ (t.trig k).k = 0 ∧
      s.keepsBut t [TIME_TRIG_STAT_ARMED k, TIME_TRIG_STAT_MISSED k] ∧ t.cells = s.cells ∧ t.mem = s.mem) ∧
  (∀ p k (s : State), k < 16 → s.rd (TIME_TRIG_STAT_ARMED k) = 1 → s.fresh → ∃ t, exec (.triggerArm .balgal p k) s = .next t ∧
    t = { s with flt := t.flt } ∧ s.raisedAs t 0x0C0 (A_TIME_TRIG_CTRL k % 0x10000 + p.master * 65536)) ∧
  (∀ g p k (s : State), k < 2 → (s.cell g).inRun = true → (s.cell g).rd (SK_TIME_TRIG_STAT_ARMED k) = 0 → 0 < (s.cell g).rd (SK_TIME_TRIG_COUNT k) →
    0 < (s.cell g).rd (SK_TIME_TRIG_PERIOD k) → ∃ t, exec (.triggerArm (.skerry g) p k) s = .next t ∧
      (t.cell g).rd (SK_TIME_TRIG_STAT_ARMED k) = 1 ∧ (t.cell g).rd (SK_TIME_TRIG_STAT_MISSED k) = 0 ∧
      ((t.cell g).trig k).count = (s.cell g).rd (SK_TIME_TRIG_COUNT k) ∧
      (s.cell g).keepsBut (t.cell g) [SK_TIME_TRIG_STAT_ARMED k, SK_TIME_TRIG_STAT_MISSED k] ∧ s.onlyCell t g) ∧
  (∀ k (s : State), k < 16 → s.ct < (s.trig k).next → ∃ t, exec (.triggerDisarm .balgal k) s = .next t ∧
    t.rd (TIME_TRIG_STAT_ARMED k) = 0 ∧ s.onlyFields t [TIME_TRIG_STAT_ARMED k]) ∧
  (∀ g k (s : State), k < 2 → (s.cell g).inRun = true → (s.cell g).ct < ((s.cell g).trig k).next →
    ∃ t, exec (.triggerDisarm (.skerry g) k) s = .next t ∧ (t.cell g).rd (SK_TIME_TRIG_STAT_ARMED k) = 0 ∧
      (s.cell g).onlyFields (t.cell g) [SK_TIME_TRIG_STAT_ARMED k] ∧ s.onlyCell t g) ∧
  (∀ k (s : State), k < 16 → s.rd (TIME_TRIG_STAT_ARMED k) = 1 → (s.trig k).next ≤ s.ct → (s.trig k).period = 0 → (s.trig k).count = 1 →
    s.rd (TIME_TRIG_CTRL_CONT k) = 0 → s.rd (TIME_TRIG_CTRL_DEST k) = 0 → ∃ t, exec (.triggerFire .balgal k) s = .next t ∧
      t.rd (TIME_TRIG_STAT_ARMED k) = 0 ∧ t.rd (TIME_TRIG_STAT_DONE k) = 1 ∧ (t.trig k).count = 0 ∧ (t.trig k).k = (s.trig k).k + 1 ∧
      s.keepsBut t [TIME_TRIG_STAT_ARMED k, TIME_TRIG_STAT_DONE k, TIME_TRIG_STAT_MISSED k, TIME_TRIG_STAT_LATE k] ∧ t.cells = s.cells) ∧
  (∀ g k (s : State), k < 2 → (s.cell g).inRun = true → (s.cell g).rd (SK_TIME_TRIG_STAT_ARMED k) = 1 →
    ((s.cell g).trig k).next ≤ (s.cell g).ct → ((s.cell g).trig k).period = 0 → ((s.cell g).trig k).count = 1 →
    (s.cell g).rd (SK_TIME_TRIG_CTRL_CONT k) = 0 → (s.cell g).rd (SK_TIME_TRIG_CTRL_DEST k) = 4 →
    ∃ t, exec (.triggerFire (.skerry g) k) s = .next t ∧ (t.cell g).rd (SK_TIME_TRIG_STAT_ARMED k) = 0 ∧
      (t.cell g).rd (SK_TIME_TRIG_STAT_DONE k) = 1 ∧ (t.cell g).fr = { (s.cell g).fr with coreIrq := true } ∧ s.onlyCell t g) ∧
  (∀ s : State, s.tim.outTo ≤ s.clk.count → ∃ t, exec .timeOutPulseEnd s = .next t ∧ t = { s with tim := { s.tim with outTo := 0 } })

/-! ### Control periods, sub-windows and the arms -/

/-- A control period starts the count of its ferry cycles; a sub-window of a Skerry shows its pins; outside RUN neither does anything (R195,
R270, R402). -/
def Obligations.Periods : Prop :=
  (∀ s : State, s.inRun = false → ∃ t, exec .controlPeriodStart s = .next t ∧ t = s) ∧
  (∀ s : State, s.inRun = true → ∃ t, exec .controlPeriodStart s = .next t ∧ t.reef.ferry = 0 ∧ t.cells = s.cells ∧ t.pending = s.pending) ∧
  (∀ dur qs last gs fb (s : State), s.inRun = false → ∃ t, exec (.subwindowEnd .balgal dur qs last gs fb) s = .next t ∧ t = s) ∧
  (∀ dur qs last gs fb (s : State), s.inRun = true → ∃ t, exec (.subwindowEnd .balgal dur qs last gs fb) s = .next t ∧ t.cells = s.cells ∧
    t.pending = s.pending) ∧
  (∀ g dur qs gs fb (s : State), (s.cell g).inRun = true → ∃ t, exec (.subwindowEnd (.skerry g) dur qs false gs fb) s = .next t ∧
    (t.cell g).rd SK_PWR_STAT_GS_OK = gs % 2 ^ SK_PWR_STAT_GS_OK.w ∧ (t.cell g).rd SK_GATE_STAT_BYP_FB = b2n fb ∧
    (∀ h, h ≠ g → t.cell h = s.cell h) ∧ t.regs = s.regs ∧ t.mem = s.mem)

/-- The lists of an arm: the oldest queued update is re-ranked, a full re-sort ends, a plan begins anew, a swap ends, a silent cell goes stale, a
retired cell's ACTION is repeated and then given up, and REEF_RETIRE marks a cell in use alone (R209, R213, R214, R225, R227, R230). -/
def Obligations.ArmLists : Prop :=
  (∀ a g r (s : State), (s.arm a).queue = g :: r → ∃ t, exec (.rerank a) s = .next t ∧ (t.arm a).queue = r ∧
    t = { s with regs := t.regs, reef := t.reef }) ∧
  (∀ a (s : State), (s.arm a).queue = [] → ∃ t, exec (.rerank a) s = .next t ∧ t = s) ∧
  (∀ a (s : State), a < 6 → bitOf (s.rd REEF_STAT_SORTING) a = true → ∃ t, exec (.resortComplete a) s = .next t ∧
    bitOf (t.rd REEF_STAT_SORTING) a = false ∧ (t.arm a).resort = [] ∧ (t.arm a).since = [] ∧ (t.arm a).queue = [] ∧
    t = { s with regs := t.regs, reef := t.reef }) ∧
  (∀ s : State, s.inRun = true → s.isArbiter = false → ∃ t, exec .plan s = .next t ∧ t.reef.rot.map Prod.fst = s.arms ∧
    t.reef.full = (s.on RUN_STAT_FULL_PEND || decide ((s.reef.cyc + 1) % 256 = 0)) ∧ t.cells = s.cells ∧ t.mem = s.mem) ∧
  (∀ g (s : State), (s.crec g).hold ≠ 0 → ∃ t, exec (.swapEnd g) s = .next t ∧ (t.crec g).hold = 0 ∧
    (s.armOfCell g < 6 → (t.arm (s.armOfCell g)).queue = (s.arm (s.armOfCell g)).queue ++ [g]) ∧ (∀ h, h ≠ g → t.crec h = s.crec h) ∧
    t.cells = s.cells ∧ t.mem = s.mem) ∧
  (∀ g (s : State), s.isCell g = true → s.armOfCell g < 6 → s.stale g = false → s.polStaleLim (s.armOfCell g) ≤ (s.crec g).age →
    ∃ t, exec (.stale g) s = .next t ∧ t.stale g = true ∧
      (t.arm (s.armOfCell g)).queue = (s.arm (s.armOfCell g)).queue ++ [g] ∧ t.cells = s.cells ∧ t.mem = s.mem) ∧
  (∀ g (s : State), (s.crec g).retire = true → (s.crec g).actAt ≠ 0 → (s.crec g).actAt + 8 ≤ s.reef.cyc + 1 → s.recHealth g ≠ 2 →
    (s.crec g).thy = false → (s.crec g).again = false → (s.crec g).tries < 3 → ∃ t, exec (.retireActionTimeout g) s = .next t ∧
      t.crec g = { s.crec g with again := true } ∧ (∀ h, h ≠ g → t.crec h = s.crec h) ∧ t = { s with reef := t.reef }) ∧
  (∀ g (s : State), (s.crec g).retire = true → (s.crec g).actAt ≠ 0 → (s.crec g).actAt + 8 ≤ s.reef.cyc + 1 → s.recHealth g ≠ 2 →
    (s.crec g).thy = false → (s.crec g).again = false → 3 ≤ (s.crec g).tries → s.fresh → ∃ t, exec (.retireActionTimeout g) s = .next t ∧
      t.crec g = { s.crec g with again := true, thy := true } ∧ s.raisedAs t 0x0E6 (s.armOfCell g) ∧ t = { s with reef := t.reef, flt := t.flt }) ∧
  (∀ p v (s : State), bitOf v.toNat 31 = true → s.isCell (v.toNat % 8192) = true → s.armOfCell (v.toNat % 8192) < 6 →
    (s.crec (v.toNat % 8192)).retire = false → s.recHealth (v.toNat % 8192) ≠ 2 → ∃ t, exec (.reefRetire p v) s = .next t ∧
      (t.crec (v.toNat % 8192)).retire = true ∧ t.recHealth (v.toNat % 8192) = 3 ∧ t.cells = s.cells ∧ t.mem = s.mem) ∧
  (∀ p v (s : State), bitOf v.toNat 31 = true → s.isCell (v.toNat % 8192) = false → s.fresh →
    (∃ t, exec (.reefRetire p v) s = .next t ∧ t = { s with flt := t.flt } ∧ s.raisedAs t 0x0E0 (A_REEF_RETIRE % 0x10000 + p.master * 65536)) ∧
    (∃ t, exec (.reefHealthSet p v) s = .next t ∧ t = { s with flt := t.flt } ∧
      s.raisedAs t 0x0E0 (A_REEF_HEALTH_SET % 0x10000 + p.master * 65536))) ∧
  (∀ p v (s : State), bitOf v.toNat 31 = true → s.isCell (v.toNat % 8192) = true → s.armOfCell (v.toNat % 8192) < 6 → v.toNat / 8192 % 4 ≤ 1 →
    s.recHealth (v.toNat % 8192) = 2 → (s.crec (v.toNat % 8192)).got = true → (s.crec (v.toNat % 8192)).health = 0 →
    (s.crec (v.toNat % 8192)).part = 2 → ∃ t, exec (.reefHealthSet p v) s = .next t ∧ t.recHealth (v.toNat % 8192) = v.toNat / 8192 % 4 ∧
      (t.crec (v.toNat % 8192)).retire = false ∧ t.cells = s.cells ∧ t.mem = s.mem)

/-! ### Run-ahead and commit -/

/-- A stage is decided for the oldest undecided epoch and its commit becomes due; a Skerry applies the chosen stage at its instant, takes the
state after, and frees its slots at their deadlines, with a miss where nothing was applied (R246, R247, R254 to R257, R260, R266). -/
def Obligations.StagesAndSlots : Prop :=
  (∀ a e (s : State), a < 6 → s.arms.contains a = true → s.committing = true → s.isActive = true → s.toDecide a = some e → s.redundant = false →
    ∃ t, exec (.stageDecision a) s = .next t ∧ t.rd (RUN_ARM_STAGE a) = b2n (s.stageChoice a e.ct).1 ∧
      t.rd (RUN_ARM_HELD a) = b2n (s.stageChoice a e.ct).2.1 ∧ (t.arm a).decided = true ∧
      (∀ c ∈ s.armCws a, ⟨c, .commit, e.num, b2n (s.stageChoice a e.ct).1, 0, s.clk.count, false⟩ ∈ t.flash.due) ∧ t.cells = s.cells) ∧
  (∀ g i (s : State), (s.cell g).inRun = true → i < 2 → (s.cell g).rd (SK_CMD_SLOT_STATE i) = SL_CHOSEN → (s.cell g).timeOk = true →
    (s.cell g).partOk = true → (s.cell g).discharging = false → (s.cell g).fired = false → ∃ t, exec (.commitInstant g i) s = .next t ∧
      (t.cell g).rd (SK_CMD_SLOT_STATE i) = SL_APPLIED ∧ (t.cell g).rd SK_CMD_DONE_EPOCH_DONE = (s.cell g).rd (SK_CMD_SLOT_EPOCH i) ∧
      (t.cell g).rd SK_CMD_DONE_VALID = 1 ∧ (t.cell g).rd SK_CMD_SILENT = 0 ∧ (t.cell g).cmd.blocked = false ∧ s.onlyCell t g) ∧
  (∀ g (s : State) a, (s.cell g).inRun = true → (s.cell g).gate.after = some a → ∃ t, exec (.afterChange g) s = .next t ∧
    (t.cell g).gate.after = none ∧ ((s.cell g).mayMove = true → (t.cell g).rd SK_GATE_STAT_TARGET = a.state % 2 ^ SK_GATE_STAT_TARGET.w) ∧ s.onlyCell t g) ∧
  (∀ g i (s : State), (s.cell g).inRun = true → i < 2 → (s.cell g).rd (SK_CMD_SLOT_STATE i) ≠ SL_FREE → ∃ t, exec (.epochDeadline g i) s = .next t ∧
    (t.cell g).rd (SK_CMD_SLOT_STATE i) = SL_FREE ∧ (t.cell g).slot i = Slot.zero ∧ (t.cell g).rd SK_CMD_COMMIT_MISS =
      (if (s.cell g).rd (SK_CMD_SLOT_STATE i) = SL_APPLIED then (s.cell g).rd SK_CMD_COMMIT_MISS
       else min ((s.cell g).rd SK_CMD_COMMIT_MISS + 1) (2 ^ SK_CMD_COMMIT_MISS.w - 1)) ∧ (t.cell g).mem = (s.cell g).mem ∧ s.onlyCell t g) ∧
  (∀ g (s : State), (s.cell g).inRun = true → (s.cell g).rd SK_CMD_EARLY_VALID = 1 → ∃ t, exec (.earlyCommitExpire g) s = .next t ∧
    (t.cell g).rd SK_CMD_EARLY_VALID = 0 ∧
    (t.cell g).rd SK_CMD_COMMIT_WRONG = min ((s.cell g).rd SK_CMD_COMMIT_WRONG + 1) (2 ^ SK_CMD_COMMIT_WRONG.w - 1) ∧
    (t.cell g) = { s.cell g with regs := (t.cell g).regs } ∧ s.onlyCell t g) ∧
  (∀ g (s : State), (s.cell g).inRun = true → (s.cell g).rd SK_CMD_SILENT < 32 → ∃ t, exec (.silentBlock g) s = .next t ∧
    (t.cell g).rd SK_CMD_SILENT = 32 ∧ (t.cell g).cmd.blocked = true ∧ (t.cell g).rd (SK_CMD_SLOT_STATE 0) = SL_FREE ∧
    (t.cell g).rd (SK_CMD_SLOT_STATE 1) = SL_FREE ∧ s.onlyCell t g)

/-- GO begins committing under its conditions and raises range otherwise; the timing and the sign of the decision are taken while nothing is
committed, within their ranges (R243, R248, R264, R265). -/
def Obligations.RunOrders : Prop :=
  (∀ p (s : State), s.isActive = true → s.inRun = true → s.committing = false → s.rd CHART_STATUS_SAFETY_OK = 1 → s.rd SAFE_STAT_STATE = 1 →
    s.flash.lastBA ≠ s.clk.count + 1 → ∃ t, exec (.go p) s = .next t ∧ t.committing = true ∧ t.rd RUN_STAT_FULL_PEND = 1 ∧
      t.reef.epochs = [] ∧ t.cells = s.cells ∧ t.mem = s.mem) ∧
  (∀ p (s : State), (s.isActive = false ∨ s.inRun = false ∨ s.committing = true ∨ s.rd CHART_STATUS_SAFETY_OK = 0 ∨
      s.rd SAFE_STAT_STATE ≠ 1 ∨ s.flash.lastBA = s.clk.count + 1) → s.fresh → ∃ t, exec (.go p) s = .next t ∧ t = { s with flt := t.flt } ∧
      s.raisedAs t 0x100 (A_RUN_CTRL % 0x10000 + p.master * 65536)) ∧
  (∀ p (v : Word) (s : State), s.committing = false → 1235 ≤ v.toNat % 4096 → v.toNat % 4096 ≤ 2250 → v.toNat % 4096 % 5 = 0 →
    16 ≤ v.toNat / 65536 % 4096 → v.toNat / 65536 % 4096 + 1216 ≤ v.toNat % 4096 → ∃ t, exec (.runTimingWrite p v) s = .next t ∧
      t.rd RUN_TIMING_LAG = v.toNat % 4096 ∧ t.rd RUN_TIMING_LEAD = v.toNat / 65536 % 4096 ∧ t = { s with regs := t.regs, flt := t.flt }) ∧
  (∀ p (v : Word) (s : State), (s.committing = true ∨ v.toNat % 4096 < 1235 ∨ 2250 < v.toNat % 4096) → s.fresh →
    ∃ t, exec (.runTimingWrite p v) s = .next t ∧ t = { s with flt := t.flt } ∧
      s.raisedAs t 0x100 (A_RUN_TIMING % 0x10000 + p.master * 65536)) ∧
  (∀ p (v : Word) (s : State), s.committing = false → v.toNat / 65536 % 32 ≤ 25 → ∃ t, exec (.runSignWrite p v) s = .next t ∧
    t.rd RUN_SIGN_HYST = v.toNat % 2 ^ RUN_SIGN_HYST.w ∧ t.rd RUN_SIGN_SLOPE_N = v.toNat / 65536 % 2 ^ RUN_SIGN_SLOPE_N.w ∧
    s.onlyFields t [RUN_SIGN_HYST, RUN_SIGN_SLOPE_N]) ∧
  (∀ p (v : Word) (s : State), (s.committing = true ∨ 25 < v.toNat / 65536 % 32) → s.fresh → ∃ t, exec (.runSignWrite p v) s = .next t ∧
    t = { s with flt := t.flt } ∧ s.raisedAs t 0x100 (A_RUN_SIGN % 0x10000 + p.master * 65536))

/-! ### Loop engine and taps -/

/-- A pass that completes shows PASS_EV and READY and counts; a swap is pended, a restart names a slot in use, and a coefficient is taken into the
idle bank while no swap is pending (R274, R277, R293, R294). -/
def Obligations.LoopOrders : Prop :=
  (∀ s : State, s.rd LOOP_STAT_PASS = 1 → ∃ t, exec .loopPassEnd s = .next t ∧ t.rd LOOP_STAT_PASS = 0 ∧ t.rd LOOP_STAT_PASS_EV = 1 ∧
    t.rd LOOP_PASS_CNT = (s.rd LOOP_PASS_CNT + 1) % 2 ^ LOOP_PASS_CNT.w ∧ t.cells = s.cells ∧
    t.rd LOOP_STAT_READY = b2n ((List.range 48).all (fun n => !s.slotUsed n || s.on (LOOP_FLAGS_READY n)))) ∧
  (∀ s : State, s.rd LOOP_STAT_PASS = 0 → ∃ t, exec .loopPassEnd s = .next t ∧ t = s) ∧
  (∀ s : State, ∃ t, exec .swap s = .next t ∧ t.rd LOOP_STAT_SWAP_PEND = 1 ∧ s.onlyFields t [LOOP_STAT_SWAP_PEND]) ∧
  (∀ p v (s : State), bitOf v.toNat 31 = true → s.slotUsed (v.toNat % 64) = true → ∃ t, exec (.loopRestart p v) s = .next t ∧
    v.toNat % 64 ∈ t.loop.restart ∧ (∀ n, n ≠ v.toNat % 64 → (n ∈ t.loop.restart ↔ n ∈ s.loop.restart)) ∧
    t = { s with loop := { s.loop with restart := t.loop.restart } }) ∧
  (∀ p v (s : State), bitOf v.toNat 31 = true → s.slotUsed (v.toNat % 64) = false → s.fresh → ∃ t, exec (.loopRestart p v) s = .next t ∧
    t = { s with flt := t.flt } ∧ s.raisedAs t 0x120 (A_LOOP_RESTART % 0x10000 + p.master * 65536)) ∧
  (∀ p b n w v (s : State), b < 2 → n < 48 → w < 8 → s.slotUsed n = true → s.rd LOOP_STAT_BANK ≠ b → s.rd LOOP_STAT_SWAP_PEND = 0 →
    ∃ t, exec (.coefWrite p b n w v) s = .next t ∧ t.rdW (A_LOOP_COEF b n w) = v ∧ (∀ a, a ≠ A_LOOP_COEF b n w → t.rdW a = s.rdW a) ∧
      t = { s with regs := t.regs }) ∧
  (∀ p b n w v (s : State), b < 2 → n < 48 → w < 8 → s.slotUsed n = true → (s.rd LOOP_STAT_BANK = b ∨ s.rd LOOP_STAT_SWAP_PEND = 1) → s.fresh →
    ∃ t, exec (.coefWrite p b n w v) s = .next t ∧ t = { s with flt := t.flt } ∧
      s.raisedAs t 0x120 (A_LOOP_COEF b n w % 0x10000 + p.master * 65536))

/-- A tap is armed, triggered, stopped and done, and the trace base moves only while no tap runs (R301 to R306). -/
def Obligations.Taps : Prop :=
  (∀ p u (s : State), u < 16 → s.rd (LOOP_TAP_LEN_POST u) ≤ s.rd (LOOP_TAP_LEN_DEPTH u) → 0 < s.rd (LOOP_TAP_LEN_DEPTH u) →
    s.rd (LOOP_TAP_CFG_RATE u) ≠ 3 → s.isNode (s.rd (LOOP_TAP_CFG_NODE u)) = true → ∃ t, exec (.tapArm p u) s = .next t ∧
      t.rd (LOOP_TAP_STAT_RUN u) = 1 ∧ t.rd (LOOP_TAP_STAT_DONE u) = 0 ∧ t.rd (LOOP_TAP_STAT_TRIGGERED u) = 0 ∧ t.tap u = Tap.zero ∧
      t.cells = s.cells ∧ t.mem = s.mem) ∧
  (∀ p u (s : State), u < 16 → s.rd (LOOP_TAP_LEN_DEPTH u) < s.rd (LOOP_TAP_LEN_POST u) → s.fresh → ∃ t, exec (.tapArm p u) s = .next t ∧
    t = { s with flt := t.flt } ∧ s.raisedAs t 0x120 (A_LOOP_TAP_CTRL u % 0x10000 + p.master * 65536)) ∧
  (∀ u (s : State), u < 16 → s.rd (LOOP_TAP_STAT_TRIGGERED u) = 0 → s.rd (LOOP_TAP_STAT_RUN u) = 1 → ∃ t, exec (.tapTrig u) s = .next t ∧
    t.rd (LOOP_TAP_STAT_TRIGGERED u) = 1 ∧
    (t.tap u).left = (if s.rd (LOOP_TAP_CFG_MODE u) = 0 then s.rd (LOOP_TAP_LEN_POST u) else s.rd (LOOP_TAP_LEN_DEPTH u)) ∧
    s.keepsBut t [LOOP_TAP_STAT_TRIGGERED u, LOOP_TAP_STAT_TRIG_IDX u, LOOP_TAP_PRE u] ∧ t = { s with regs := t.regs, loop := t.loop }) ∧
  (∀ u (s : State), u < 16 → s.rd (LOOP_TAP_STAT_TRIGGERED u) = 1 → ∃ t, exec (.tapTrig u) s = .next t ∧
    t.rd (LOOP_TAP_STAT_EXTRA u) = min (s.rd (LOOP_TAP_STAT_EXTRA u) + 1) (2 ^ (LOOP_TAP_STAT_EXTRA u).w - 1) ∧
    s.onlyFields t [LOOP_TAP_STAT_EXTRA u]) ∧
  (∀ u (s : State), u < 16 → s.rd (LOOP_TAP_STAT_RUN u) = 1 → ∃ t, exec (.tapStop u) s = .next t ∧ t.rd (LOOP_TAP_STAT_RUN u) = 0 ∧
    t.rd (LOOP_TAP_STAT_DONE u) = 1 ∧ s.onlyFields t [LOOP_TAP_STAT_RUN u, LOOP_TAP_STAT_DONE u]) ∧
  (∀ u (s : State), u < 16 → s.rd (LOOP_TAP_STAT_TRIGGERED u) = 1 → (s.tap u).left = 0 → s.rd (LOOP_TAP_STAT_RUN u) = 1 →
    ∃ t, exec (.tapDone u) s = .next t ∧ t.rd (LOOP_TAP_STAT_RUN u) = 0 ∧ t.rd (LOOP_TAP_STAT_DONE u) = 1 ∧
      s.onlyFields t [LOOP_TAP_STAT_RUN u, LOOP_TAP_STAT_DONE u]) ∧
  (∀ p v (s : State), (∀ u, u < 16 → s.rd (LOOP_TAP_STAT_RUN u) = 0) → ∃ t, exec (.traceBaseWrite p v) s = .next t ∧
    t.rd LOOP_TRACE_BASE_BASE = v.toNat / 262144 % 2 ^ LOOP_TRACE_BASE_BASE.w ∧ s.onlyFields t [LOOP_TRACE_BASE_BASE]) ∧
  (∀ p v u (s : State), u < 16 → s.rd (LOOP_TAP_STAT_RUN u) = 1 → s.fresh → ∃ t, exec (.traceBaseWrite p v) s = .next t ∧
    t = { s with flt := t.flt } ∧ s.raisedAs t 0x120 (A_LOOP_TRACE_BASE % 0x10000 + p.master * 65536))

/-! ### Scheduler and engines -/

/-- Flags set and cleared, a task enabled, its WAIT written: what the registers hold, and that an enabled task whose flags meet its WAIT becomes
READY (R318 to R323). -/
def Obligations.TaskFlags : Prop :=
  (∀ p v (s : State), v.toNat / 256 ≤ 31 → ∃ t, exec (.schedSet p v) s = .next t ∧
    t.taskFlags (bitsOf v 0 8) = s.taskFlags (bitsOf v 0 8) ||| 2 ^ bitsOf v 8 5 ∧ t.cells = s.cells ∧ t.mem = s.mem ∧ t.out = s.out) ∧
  (∀ p v (s : State), 31 < v.toNat / 256 → s.fresh → ∃ t, exec (.schedSet p v) s = .next t ∧ t = { s with flt := t.flt } ∧
    s.raisedAs t 0x140 (A_SCHED_SET % 0x10000 + p.master * 65536)) ∧
  (∀ k v (s : State), k < 256 → v ≠ 0 → ∃ t, exec (.schedFlags k v) s = .next t ∧ t.taskFlags k = s.taskFlags k ||| v.toNat ∧
    (∀ j, j < 256 → j ≠ k → t.taskFlags j = s.taskFlags j) ∧ t.cells = s.cells ∧ t.mem = s.mem ∧ t.out = s.out) ∧
  (∀ k v (s : State), k < 256 → ∃ t, exec (.schedFlagsClr k v) s = .next t ∧
    t.taskFlags k = s.taskFlags k &&& (0xFFFFFFFF ^^^ v.toNat) ∧ (∀ j, j < 256 → j ≠ k → t.taskFlags j = s.taskFlags j) ∧
    t.cells = s.cells ∧ t.mem = s.mem ∧ t.out = s.out) ∧
  (∀ k (s : State), k < 256 → s.taskState k = ST_DISABLED → s.taskReady k = true → s.flowBusy k = false → ∃ t, exec (.taskEnable k true) s = .next t ∧
    t.taskState k = ST_READY ∧ t.rd (SCHED_TASK_CFG_ENABLE k) = 1 ∧ t.cells = s.cells ∧ t.mem = s.mem) ∧
  (∀ k (s : State), k < 256 → s.taskState k = ST_WAITING → ∃ t, exec (.taskEnable k false) s = .next t ∧ t.taskState k = ST_DISABLED ∧
    t.rd (SCHED_TASK_CFG_ENABLE k) = 0 ∧ t.cells = s.cells ∧ t.mem = s.mem) ∧
  (∀ k v (s : State), k < 256 → ∃ t, exec (.waitWrite k v) s = .next t ∧ t.rd (SCHED_TASK_WAIT k) = v.toNat ∧
    (v = 0 → s.rd (SCHED_TASK_CFG_ENABLE k) = 1 → s.taskState k = ST_READY → t.taskState k = ST_WAITING) ∧ t.cells = s.cells ∧ t.mem = s.mem)

/-- Asking, the grant, the completion, the limits and the statistics of the scheduler (R324 to R329, R336). -/
def Obligations.Grants : Prop :=
  (∀ e (s : State), e < 16 → s.engState e = EN_RUNNING → s.engTask e = none → ∃ t, exec (.schedAsk (.engine e)) s = .next t ∧
    t.engState e = EN_ASKING ∧ t.rd (SCHED_ENG_ASKING e) = 1 ∧ t.sched = { s.sched with asks := askInsert e s.clk.count s.sched.asks } ∧
    t = { s with regs := t.regs, sched := t.sched } ∧ s.keepsBut t [SND_STAT_STATE e, SCHED_ENG_ASKING e]) ∧
  (∃ w, ∀ p (s : State), (∀ e, p ≠ .engine e) → ∃ t, exec (.schedAsk p) s = .next t ∧ t = { s with out := s.out ++ [.readData p w] }) ∧
  (∀ e k (s : State), s.nextGrant s.sched.asks = some (e, k) → e < 16 → k < 256 → 64 ≤ s.taskFlow k → ∃ t, exec .schedGrant s = .next t ∧
    t.taskState k = ST_RUNNING ∧ t.engTask e = some k ∧ t.engState e = EN_RUNNING ∧ t.rd (SCHED_ENG_ASKING e) = 0 ∧
    t.taskFlags k = s.taskFlags k &&& (0xFFFFFFFF ^^^ (s.taskFlags k &&& s.rd (SCHED_TASK_WAIT k))) ∧
    t.out = s.out ++ [.readData (.engine e) (s.grantWord k)] ∧ t.cells = s.cells ∧ t.mem = s.mem) ∧
  (∀ s : State, s.nextGrant s.sched.asks = none → ∃ t, exec .schedGrant s = .next t ∧ t = s) ∧
  (∀ e v (s : State), e < 18 → s.engTask e = some (bitsOf v 0 8) → 64 ≤ s.taskFlow (bitsOf v 0 8) → s.rd (SCHED_TASK_CFG_ENABLE (bitsOf v 0 8)) = 0 →
    ∃ t, exec (.schedDone (.engine e) v) s = .next t ∧ t.engTask e = none ∧ t.taskState (bitsOf v 0 8) = ST_DISABLED ∧ t.cells = s.cells ∧
      t.mem = s.mem) ∧
  (∀ e v (s : State), s.engTask e ≠ some (bitsOf v 0 8) → s.fresh → ∃ t, exec (.schedDone (.engine e) v) s = .next t ∧
    t = { s with flt := t.flt } ∧ s.raisedAs t 0x140 (A_SCHED_DONE % 0x10000 + e * 65536)) ∧
  (∀ e k (s : State), s.engTask e = some k → k < 256 → s.rd (SCHED_TASK_CFG_RUN_LIMIT k) ≠ 0 → s.sched.late.contains e = false → s.fresh →
    ∃ t, exec (.runLimitOverrun e) s = .next t ∧ t.rd (SCHED_TASK_STAT_LATE k) = 1 ∧ t.sched.late = s.sched.late ++ [e] ∧
      s.raisedAs t 0x142 (e + 256 * k + 65536 * s.rd (SND_STAT_FAULT e)) ∧ t.cells = s.cells ∧ t.mem = s.mem) ∧
  (∀ k (s : State), k < 256 → s.taskState k = ST_READY → s.effLevel k < s.rd (SCHED_TASK_STAT_ELEVEL k) → s.effLevel k < 8 →
    ∃ t, exec (.agePromotion k) s = .next t ∧ t.rd (SCHED_TASK_STAT_ELEVEL k) = s.effLevel k ∧ t.taskState k = ST_READY ∧ t.cells = s.cells ∧
      t.mem = s.mem) ∧
  (∀ s : State, ∃ t, exec .obsClear s = .next t ∧ t.rd (SCHED_ST_QMAX 0) = 0 ∧ t.cells = s.cells ∧ t.mem = s.mem ∧ t.out = s.out)

/-- A Sound engine's fault, halt, run and reset (R333 to R335). -/
def Obligations.EngineControl : Prop :=
  (∀ e cause pc rs (s : State), e < 16 → s.engState e = EN_RUNNING → 1 ≤ cause → cause ≤ 4 → s.engTask e = none → s.fresh →
    ∃ t, exec (.engineFault e cause pc rs) s = .next t ∧ t.engState e = EN_FAULTED ∧ t.rd (SND_STAT_FAULT e) = cause ∧
      t.rd (SND_STAT_FAULT_EV e) = 1 ∧ t.rd SCHED_STAT_FAULT_EV = 1 ∧ t.rd (SND_PC e) = pc % 2 ^ (SND_PC e).w ∧
      s.raisedAs t 0x162 (e + 256 * s.rd (SND_STAT_TASK e) + 65536 * cause) ∧
      s.keepsBut t [SND_STAT_STATE e, SND_STAT_FAULT e, SND_STAT_FAULT_EV e, SCHED_STAT_FAULT_EV, SND_PC e] ∧ t.cells = s.cells ∧ t.mem = s.mem) ∧
  (∀ p e pc rs (s : State), e < 18 → s.engState e = EN_ASKING → ∃ t, exec (.engineHalt p e pc rs) s = .next t ∧ t.engState e = EN_HALTED ∧
    t.rd (SCHED_ENG_ASKING e) = 0 ∧ t.rd (SND_PC e) = pc % 2 ^ (SND_PC e).w ∧ t.sched.asks = s.sched.asks.filter (fun a => a.1 ≠ e) ∧
    s.keepsBut t [SND_STAT_STATE e, SCHED_ENG_ASKING e, SND_PC e] ∧ t.cells = s.cells ∧ t.mem = s.mem) ∧
  (∀ p e pc rs (s : State), e < 18 → s.engState e = EN_RUNNING → s.engTask e = none → ∃ t, exec (.engineHalt p e pc rs) s = .next t ∧
    t.engState e = EN_HALTED ∧ t.rd (SND_PC e) = pc % 2 ^ (SND_PC e).w ∧ s.keepsBut t [SND_STAT_STATE e, SND_PC e] ∧
    t = { s with regs := t.regs, engRegs := t.engRegs }) ∧
  (∀ p e (s : State), e < 18 → s.engState e = EN_HALTED → ∃ t, exec (.engineRun p e) s = .next t ∧ t.engState e = EN_RUNNING ∧
    s.onlyFields t [SND_STAT_STATE e]) ∧
  (∀ p e (s : State), e < 18 → s.engState e = EN_FAULTED → ∃ t, exec (.engineRun p e) s = .next t ∧ t = s) ∧
  (∀ p e (s : State), e < 18 → (s.engState e = EN_HALTED ∨ s.engState e = EN_FAULTED) → ∃ t, exec (.engineReset p e) s = .next t ∧
    t.engState e = EN_HALTED ∧ t.rd (SND_PC e) = s.rd (SND_ENTRY e) % 2 ^ (SND_PC e).w ∧ s.keepsBut t [SND_STAT_STATE e, SND_PC e] ∧
    t = { s with regs := t.regs, engRegs := t.engRegs }) ∧
  (∀ p e (s : State), e < 18 → s.engState e = EN_RUNNING → s.fresh → ∃ t, exec (.engineReset p e) s = .next t ∧ t = { s with flt := t.flt } ∧
    s.raisedAs t 0x160 (A_SND_CTRL e % 0x10000 + p.master * 65536))

/-! ### Skerry power -/

/-- The power states of a Skerry: what takes it to DARK, DEEP HOLD, START, RUN and REPEAT, and what the wake cause, the history and the latches show
then (R351, R352, R353). -/
def Obligations.SkerryPowerStates : Prop :=
  (∀ g (s : State), ∃ t, exec (.vretLoss g) s = .next t ∧ t.cell g = Skerry.dark ∧ s.onlyCell t g) ∧
  (∀ g (s : State), ((s.cell g).pow.state = .start ∨ (s.cell g).inRun = true ∨ (s.cell g).pow.state = .repeating) →
    ∃ t, exec (.capUndervoltage g) s = .next t ∧ (t.cell g).pow.state = .deepHold ∧ (t.cell g).rd SK_PWR_EVT_HELD = 1 ∧
      (t.cell g).rd SK_PWR_STAT_AUX = 0 ∧ (t.cell g).pow.lockout = decide ((s.cell g).rd SK_PWR_STAT_AUX = 4) ∧
      (∀ a, a < 0x10000000 → (t.cell g).byte a = 0) ∧ (t.cell g).rd SK_GATE_STAT_FIRED = (s.cell g).rd SK_GATE_STAT_FIRED ∧ s.onlyCell t g) ∧
  (∀ g (s : State), (s.cell g).pow.state = .deepHold → ∃ t, exec (.capUndervoltage g) s = .next t ∧
    t.cell g = { s.cell g with pow := { (s.cell g).pow with fell := true } } ∧ s.onlyCell t g) ∧
  (∀ g ctype vfs charged (s : State), (s.cell g).pow.state = .dark → ∃ t, exec (.vretPowerUp g ctype vfs charged) s = .next t ∧
    (t.cell g).pow.state = (if charged then .start else .deepHold) ∧ (t.cell g).pow.ctype = ctype % 8 ∧ (t.cell g).pow.vfs = vfs % 4 ∧
    (t.cell g).pow.fromDark = true ∧ (t.cell g).rd SK_PWR_STAT_AUX = b2n charged ∧ s.onlyCell t g) ∧
  (∀ g src (s : State), (s.cell g).pow.state = .deepHold → 1 ≤ src → src ≤ 4 →
    ((s.cell g).pow.lockout = false ∨ src = 3 ∨ (src = 2 ∧ (s.cell g).pow.fell = true)) → ∃ t, exec (.deepHoldWake g src) s = .next t ∧
      (t.cell g).pow.state = .start ∧ (t.cell g).pow.wake = src ∧ (t.cell g).pow.disNext = decide (src = 4) ∧
      (t.cell g).rd SK_PWR_STAT_AUX = 1 ∧ (s.cell g).keepsBut (t.cell g) [SK_PWR_STAT_AUX] ∧ s.onlyCell t g) ∧
  (∀ g src (s : State), (s.cell g).pow.state = .deepHold → (s.cell g).pow.lockout = true → src ≠ 3 → src ≠ 2 →
    ∃ t, exec (.deepHoldWake g src) s = .next t ∧ ∀ h, t.cell h = s.cell h) ∧
  (∀ g gs fb (s : State), (s.cell g).pow.state = .start → (s.cell g).pow.inputs = [] → (s.cell g).pow.disNext = false →
    ∃ t, exec (.runEntry g gs fb) s = .next t ∧ (t.cell g).pow.state = .run ∧ (t.cell g).rd SK_PWR_STAT_AUX = 2 ∧
      (t.cell g).rd SK_PWR_STAT_GS_OK = gs % 16 ∧ (t.cell g).pow.fromDark = false ∧
      (t.cell g).rd SK_PWR_STAT_WAKE_CAUSE = (if (s.cell g).pow.fromDark then 0 else (s.cell g).pow.wake % 16) ∧
      (t.cell g).rd SK_PWR_STAT_PREV = (if (s.cell g).pow.fromDark then 0 else 1) ∧
      (fb = true → (t.cell g).rd SK_GATE_STAT_FIRED = 1 ∧ (t.cell g).rd SK_GATE_STAT_BYP_FB = 1 ∧ (t.cell g).pow.closed = true) ∧
      (∀ a, a < 0x10000000 → (t.cell g).byte a = 0) ∧ s.onlyCell t g) ∧
  (∀ g cause (s : State), (s.cell g).pow.state = .repeating → (cause = 5 ∨ cause = 8 ∨ (cause = 6 ∧ (s.cell g).pow.bySilence = true)) →
    ∃ t, exec (.repeatWake g cause) s = .next t ∧ (t.cell g).pow.state = .run ∧ (t.cell g).rd SK_PWR_STAT_WAKE_CAUSE = cause ∧
      (t.cell g).rd SK_PWR_STAT_PREV = 2 ∧ (t.cell g).cmd.blocked = true ∧ s.onlyCell t g) ∧
  (∀ g (s : State), (s.cell g).inRun = true → (s.cell g).gatesOff = true → (s.cell g).discharging = false →
    (s.cell g).rd SK_PWR_TIMES_PARK_AFTER ≠ 0 → ((s.cell g).locked 0 = true ∨ (s.cell g).locked 1 = true) →
    ∃ t, exec (.parkEntry g) s = .next t ∧ (t.cell g).pow.state = .repeating ∧ (t.cell g).pow.bySilence = true ∧
      (t.cell g).rd SK_PWR_EVT_PARKED = 1 ∧ s.onlyCell t g) ∧
  (∀ g (s : State), ((s.cell g).inRun = true ∨ (s.cell g).pow.state = .repeating) → (s.cell g).gatesOff = true →
    (s.cell g).discharging = false → (s.cell g).rd SK_PWR_TIMES_DARK_HOLD ≠ 0 → (s.cell g).locked 0 = false → (s.cell g).locked 1 = false →
    ∃ t, exec (.darkHoldExpiry g) s = .next t ∧ (t.cell g).pow.state = .deepHold ∧ (t.cell g).rd SK_PWR_EVT_HELD = 1 ∧
      (t.cell g).rd SK_PWR_STAT_AUX = 0 ∧ (∀ a, a < 0x10000000 → (t.cell g).byte a = 0) ∧ s.onlyCell t g) ∧
  (∀ g tag (s : State), (s.cell g).inRun = true → (s.cell g).gatesOff = true → (s.cell g).discharging = false →
    ∃ t, exec (.park g tag) s = .next t ∧ (t.cell g).rd SK_PWR_STAT_PARK_PEND = 1 ∧ (s.cell g).keepsBut (t.cell g) [SK_PWR_STAT_PARK_PEND] ∧
      (t.cell g).pow = { (s.cell g).pow with parkTag := tag, parkCollected := false } ∧ s.onlyCell t g) ∧
  (∀ g late (s : State), (s.cell g).inRun = true → (s.cell g).rd SK_PWR_STAT_PARK_PEND = 1 →
    ((s.cell g).pow.parkCollected = true ∨ late = true) → (s.cell g).gatesOff = true → (s.cell g).discharging = false →
    ∃ t, exec (.parkEffect g late) s = .next t ∧ (t.cell g).pow.state = .repeating ∧ (t.cell g).pow.bySilence = false ∧
      (t.cell g).rd SK_PWR_EVT_PARKED = 1 ∧ (t.cell g).rd SK_PWR_STAT_PARK_PEND = 0 ∧ s.onlyCell t g)

/-- The supplies and the discharge of a Skerry: the states of the flyback, its retries and its lockout, the gate supplies, the core pair and its
image, and the discharge from its start to each of its ends (R351, R354, R356 to R360, R470). -/
def Obligations.SkerrySuppliesAndDischarge : Prop :=
  (∀ g (s : State), (s.cell g).rd SK_PWR_STAT_AUX = 1 → ∃ t, exec (.softStartEnd g) s = .next t ∧ (t.cell g).rd SK_PWR_STAT_AUX = 2 ∧
    (s.cell g).onlyFields (t.cell g) [SK_PWR_STAT_AUX] ∧ s.onlyCell t g) ∧
  (∀ g kind (s : State), ((s.cell g).rd SK_PWR_STAT_AUX = 1 ∨ (s.cell g).rd SK_PWR_STAT_AUX = 2) → kind < 4 → (s.cell g).pow.faults = [] →
    ∃ t, exec (.flybackFault g kind) s = .next t ∧ (t.cell g).rd SK_PWR_STAT_AUX = 3 ∧ (t.cell g).pow.faults = [(s.cell g).clk.fb] ∧
      (kind = 0 → (t.cell g).rd SK_PWR_EVT_FB_OV = 1) ∧ (kind = 1 → (t.cell g).rd SK_PWR_EVT_FB_UV = 1) ∧
      (kind = 2 → (t.cell g).rd SK_PWR_EVT_FB_OC = 1) ∧ s.onlyCell t g) ∧
  (∀ g kind a b c (s : State), ((s.cell g).rd SK_PWR_STAT_AUX = 1 ∨ (s.cell g).rd SK_PWR_STAT_AUX = 2) → (s.cell g).pow.faults = [a, b, c] →
    (s.cell g).clk.fb < a + 10000000000 → (s.cell g).clk.fb < b + 10000000000 → (s.cell g).clk.fb < c + 10000000000 →
    ∃ t, exec (.flybackFault g kind) s = .next t ∧ (t.cell g).rd SK_PWR_STAT_AUX = 4 ∧ (t.cell g).rd SK_PWR_EVT_LOCKOUT = 1 ∧ s.onlyCell t g) ∧
  (∀ g (s : State), (s.cell g).rd SK_PWR_STAT_AUX = 3 → ∃ t, exec (.retryEnd g) s = .next t ∧ (t.cell g).rd SK_PWR_STAT_AUX = 1 ∧
    (s.cell g).onlyFields (t.cell g) [SK_PWR_STAT_AUX] ∧ s.onlyCell t g) ∧
  (∀ g j (s : State), (s.cell g).inRun = true → j < 4 → ((s.cell g).pow.ctype = 1 → j < 2) → ∃ t, exec (.gateSupplyTimeout g j) s = .next t ∧
    bitOf ((t.cell g).rd SK_PWR_STAT_GS_OK) j = false ∧ (t.cell g).rd SK_PWR_EVT_GS_FAIL = 1 ∧
    bitOf ((t.cell g).rd SK_FLT_LATCH_LATCH) 1 = true ∧ ((s.cell g).pow.closed = false → (t.cell g).rd SK_TOP_STAT_HEALTH = 3) ∧ s.onlyCell t g) ∧
  (∀ g sram (s : State), (s.cell g).inRun = true → (s.cell g).fr.coreUp = true → (s.cell g).fr.restarts = [] →
    ∃ t, exec (.coreRestart g sram) s = .next t ∧ bitOf ((t.cell g).rd SK_FLT_LATCH_LATCH) (if sram then 4 else 3) = true ∧
      (t.cell g).fr.reply = none ∧ (t.cell g).fr.running = [] ∧ (t.cell g).fr.coreUp = true ∧ (t.cell g).rd SK_TOP_IMG_VER = 0 ∧
      (t.cell g).rd SK_TOP_STAT_CORE = 0 ∧
      (t.cell g).rd SK_TOP_CORE_CNT = min ((s.cell g).rd SK_TOP_CORE_CNT + 1) 0xFFFF ∧ s.onlyCell t g) ∧
  (∀ g (s : State), (s.cell g).inRun = true → (s.cell g).rd SK_TOP_STAT_CORE ≠ 2 → ∃ t, exec (.sramClearDone g) s = .next t ∧
    (t.cell g).fr = { (s.cell g).fr with coreUp := true } ∧ (t.cell g).rd SK_TOP_STAT_CORE = 0 ∧
    (s.cell g).keepsBut (t.cell g) [SK_TOP_STAT_CORE] ∧ s.onlyCell t g) ∧
  (∀ g (s : State), (s.cell g).inRun = true → (s.cell g).rd SK_TOP_IMG_STATE = 2 → (s.cell g).partOk = true → ∃ t, exec (.imageVerify g) s = .next t ∧
    ((s.cell g).imgReason = 0 → (t.cell g).rd SK_TOP_IMG_STATE = 3 ∧ (t.cell g).fr.reply = none ∧
      ((s.cell g).fr.coreUp = true → (t.cell g).rd SK_TOP_STAT_CORE = 1)) ∧
    ((s.cell g).imgReason ≠ 0 → (t.cell g).rd SK_TOP_IMG_STATE = 4 ∧ (t.cell g).fr.image = [] ∧
      (t.cell g).rd SK_TOP_IMG_REASON = (s.cell g).imgReason) ∧ s.onlyCell t g) ∧
  (∀ g charged (s : State), (s.cell g).inRun = true → (s.cell g).gatesOff = true → (s.cell g).discharging = false →
    ∃ t, exec (.dischAfterExpiry g charged) s = .next t ∧ (t.cell g).rd SK_PWR_STAT_DISCHARGING = 1 ∧ (t.cell g).rd SK_PWR_STAT_DIS_PAUSED = 0 ∧
      (t.cell g).pow = { (s.cell g).pow with disFrom := ctSec (s.cell g).ct } ∧
      (s.cell g).keepsBut (t.cell g) [SK_PWR_STAT_DISCHARGING, SK_PWR_STAT_DIS_PAUSED] ∧ s.onlyCell t g) ∧
  (∀ g (s : State), (s.cell g).pow.state = .deepHold → (s.cell g).pow.lockout = false → ∃ t, exec (.dischAfterExpiry g true) s = .next t ∧
    (t.cell g).pow.state = .start ∧ (t.cell g).pow.wake = 4 ∧ (t.cell g).pow.disNext = true ∧ s.onlyCell t g) ∧
  (∀ g (s : State), (s.cell g).pow.state = .deepHold → ∃ t, exec (.dischAfterExpiry g false) s = .next t ∧ ∀ h, t.cell h = s.cell h) ∧
  (∀ g (s : State), (s.cell g).discharging = true → ∃ t, exec (.dischargePause g) s = .next t ∧ (t.cell g).rd SK_PWR_STAT_DIS_PAUSED = 1 ∧
    (s.cell g).onlyFields (t.cell g) [SK_PWR_STAT_DIS_PAUSED] ∧ s.onlyCell t g) ∧
  (∀ g (s : State), (s.cell g).discharging = true → ∃ t, exec (.dischargeResume g) s = .next t ∧ (t.cell g).rd SK_PWR_STAT_DIS_PAUSED = 0 ∧
    (s.cell g).onlyFields (t.cell g) [SK_PWR_STAT_DIS_PAUSED] ∧ s.onlyCell t g) ∧
  (∀ g (s : State), (s.cell g).discharging = true → ∃ t, exec (.dischargeDone g) s = .next t ∧ (t.cell g).pow.state = .deepHold ∧
    (t.cell g).rd SK_PWR_EVT_DIS_DONE = 1 ∧ (t.cell g).rd SK_PWR_EVT_HELD = 1 ∧ (t.cell g).discharging = false ∧ s.onlyCell t g) ∧
  (∀ g (s : State), (s.cell g).discharging = true → ∃ t, exec (.disTimeout g) s = .next t ∧ (t.cell g).pow.state = (s.cell g).pow.state ∧
    (t.cell g).rd SK_PWR_EVT_DIS_TIMEOUT = 1 ∧ bitOf ((t.cell g).rd SK_FLT_LATCH_LATCH) 2 = true ∧ (t.cell g).discharging = false ∧
    s.onlyCell t g) ∧
  (∀ g (s : State), (s.cell g).inRun = true → (s.cell g).discharging = true → ∃ t, exec (.disStop g) s = .next t ∧
    (t.cell g).discharging = false ∧ (t.cell g).rd SK_PWR_DIS_TIME = min (ctSec (s.cell g).ct - (s.cell g).pow.disFrom) 0xFFFF ∧
    (s.cell g).onlyFields (t.cell g) [SK_PWR_STAT_DISCHARGING, SK_PWR_STAT_DIS_PAUSED, SK_PWR_DIS_TIME] ∧ s.onlyCell t g)

/-! ### Gates and bypass -/

/-- The gates of a Skerry: an edge and a weave reload never put both channels of a half bridge on, what the next weave period and a forced state
are, and the refresh request (R369, R374, R375, R379 to R383). -/
def Obligations.GateEdges : Prop :=
  (∀ g (s : State), (s.cell g).inRun = true → (s.cell g).hiZ = false → ∃ t, exec (.gateEdge g) s = .next t ∧
    (t.cell g).gate.cmds = (s.cell g).gate.cmds.filter (fun c => ¬ c.1 ≤ (s.cell g).now) ∧
    (∀ p, p < 2 → ((s.cell g).out (2 * p) && (s.cell g).out (2 * p + 1)) = false → ((t.cell g).out (2 * p) && (t.cell g).out (2 * p + 1)) = false) ∧
    (t.cell g).rd SK_GATE_STAT_TARGET = (s.cell g).rd SK_GATE_STAT_TARGET ∧
    (t.cell g).rd SK_GATE_STAT_EDGE_PEND =
      b2n (decide ((t.cell g).rd SK_GATE_STAT_OUT ≠ (t.cell g).gate.want) || !(t.cell g).gate.cmds.isEmpty) ∧
    (t.cell g).mem = (s.cell g).mem ∧ (t.cell g).pow = (s.cell g).pow ∧ s.onlyCell t g) ∧
  (∀ g (s : State), (s.cell g).inRun = true → (s.cell g).hiZ = true → ∃ t, exec (.gateEdge g) s = .next t ∧ ∀ h, t.cell h = s.cell h) ∧
  (∀ g (s : State), (s.cell g).inRun = true → (s.cell g).mode = 1 → ∃ t, exec (.weaveReload g) s = .next t ∧
    (t.cell g).gate.half = (if (s.cell g).gate.half = 1 then 2 else 1) ∧
    (∀ p, p < 2 → ((s.cell g).out (2 * p) && (s.cell g).out (2 * p + 1)) = false → ((t.cell g).out (2 * p) && (t.cell g).out (2 * p + 1)) = false) ∧
    (t.cell g).mem = (s.cell g).mem ∧ (t.cell g).pow = (s.cell g).pow ∧ s.onlyCell t g) ∧
  (∀ g v (s : State), (s.cell g).inRun = true → 25 ≤ v.toNat → v.toNat ≤ 1048575 → ∃ t, exec (.wperWrite g v) s = .next t ∧
    (t.cell g).rd SK_GATE_WPER = v.toNat ∧ (t.cell g).gate = { (s.cell g).gate with wpend := some v.toNat } ∧
    (s.cell g).keepsBut (t.cell g) [SK_GATE_WPER] ∧ s.onlyCell t g) ∧
  (∀ g v (s : State), (s.cell g).inRun = true → (v.toNat < 25 ∨ 1048575 < v.toNat) → ∃ t, exec (.wperWrite g v) s = .next t ∧
    ∀ h, t.cell h = s.cell h) ∧
  (∀ g v (s : State), (s.cell g).inRun = true → (s.cell g).forceRefused (v.toNat % 8) = false → ∃ t, exec (.gateForce g v) s = .next t ∧
    (t.cell g).rd SK_GATE_FORCE_STATE = v.toNat % 8 ∧ (t.cell g).rd SK_GATE_FORCE_EN = 1 ∧ (t.cell g).rd SK_GATE_FORCE_PEND = 1 ∧
    (t.cell g).gate = { (s.cell g).gate with force := some (v.toNat % 8) } ∧
    (s.cell g).keepsBut (t.cell g) [SK_GATE_FORCE_STATE, SK_GATE_FORCE_EN, SK_GATE_FORCE_PEND] ∧ s.onlyCell t g) ∧
  (∀ g v (s : State), (s.cell g).inRun = true → (s.cell g).forceRefused (v.toNat % 8) = true → ∃ t, exec (.gateForce g v) s = .next t ∧
    ∀ h, t.cell h = s.cell h) ∧
  (∀ g st (s : State), (s.cell g).inRun = true → (s.cell g).gate.force = some st → st < 8 → (s.cell g).hiZ = false → (s.cell g).fired = false →
    ∃ t, exec (.forceApply g) s = .next t ∧ (t.cell g).rd SK_GATE_STAT_TARGET = st ∧ (t.cell g).rd SK_GATE_STAT_FORCED = 1 ∧
      (t.cell g).rd SK_GATE_FORCE_PEND = 0 ∧ (t.cell g).rd SK_GATE_STAT_MODULATING = 0 ∧ (t.cell g).gate.force = none ∧
      (t.cell g).mem = (s.cell g).mem ∧ (t.cell g).pow = (s.cell g).pow ∧ s.onlyCell t g) ∧
  (∀ g (s : State), (s.cell g).inRun = true → ∃ t, exec (.forceRelease g) s = .next t ∧ (t.cell g).rd SK_GATE_FORCE_EN = 0 ∧
    (t.cell g).rd SK_GATE_FORCE_PEND = 0 ∧ (t.cell g).rd SK_GATE_STAT_FORCED = 0 ∧
    (t.cell g).gate = { (s.cell g).gate with force := none, resume :=
      (s.cell g).gate.resume || (decide ((s.cell g).rd SK_GATE_STAT_FORCED = 1) && decide ((s.cell g).mode = 1)) } ∧
    (s.cell g).keepsBut (t.cell g) [SK_GATE_FORCE_EN, SK_GATE_FORCE_PEND, SK_GATE_STAT_FORCED] ∧ s.onlyCell t g) ∧
  (∀ g (s : State), (s.cell g).inRun = true → ∃ t, exec (.refreshRequest g) s = .next t ∧
    (t.cell g).rd SK_GATE_STAT_REFRESH_REQ = b2n (s.cell g).refreshDue ∧
    (t.cell g).rd SK_GATE_REF_PAIR0 = min ((s.cell g).refTime 0 / 625000) 4095 ∧
    (s.cell g).onlyFields (t.cell g) [SK_GATE_REF_PAIR0, SK_GATE_REF_PAIR1, SK_GATE_STAT_REFRESH_REQ] ∧ s.onlyCell t g)

/-- A fault input takes the gates of a Skerry to high impedance and is latched until it is cleared, an over-voltage fires the bypass, and the
feedback of the bypass confirms it or its absence is latched (R386, R388 to R393). -/
def Obligations.FaultsAndBypass : Prop :=
  (∀ g ins (s : State), (s.cell g).inRun = true → (s.cell g).hiZ = false → 4 ∈ ins → ∃ t, exec (.faultInput g ins) s = .next t ∧
    (t.cell g).rd SK_GATE_STAT_HIZ = 1 ∧ (t.cell g).rd SK_GATE_STAT_TARGET = ST_BLOCK ∧ (t.cell g).rd SK_GATE_STAT_OUT = 0 ∧
    (t.cell g).rd SK_GATE_FLT_OC = 1 ∧ bitOf ((t.cell g).rd SK_FLT_LATCH_LATCH) 0 = true ∧ (t.cell g).pow.hard = true ∧ s.onlyCell t g) ∧
  (∀ g ins (s : State), (s.cell g).inRun = true → (s.cell g).hiZ = false → (∀ c ∈ ins, 9 < c) → ∃ t, exec (.faultInput g ins) s = .next t ∧
    ∀ h, t.cell h = s.cell h) ∧
  (∀ g ins (s : State), (s.cell g).pow.state = .repeating → ∃ t, exec (.faultInput g ins) s = .next t ∧
    t.cell g = { s.cell g with pow := { (s.cell g).pow with inputs := (s.cell g).pow.inputs ++ ins.filter (fun c => c = 4 || c = 9) } } ∧
    s.onlyCell t g) ∧
  (∀ g still (s : State), (s.cell g).inRun = true → (s.cell g).latchedInputs ≠ [] →
    (s.cell g).latchedInputs.any (fun c => still.contains c) = false → ∃ t, exec (.fltClr g still) s = .next t ∧
      (t.cell g).rd SK_GATE_FLT_DESAT = 0 ∧ (t.cell g).rd SK_GATE_FLT_OC = 0 ∧ (t.cell g).rd SK_GATE_FLT_GS = 0 ∧
      (t.cell g).rd SK_GATE_FLT_AUX = 0 ∧ (t.cell g).rd SK_GATE_FLT_FIRST = 15 ∧ (t.cell g).rd SK_GATE_STAT_HIZ = 0 ∧
      (t.cell g).rd SK_GATE_STAT_TARGET = ST_BLOCK ∧
      (s.cell g).onlyFields (t.cell g) [SK_GATE_FLT_DESAT, SK_GATE_FLT_OC, SK_GATE_FLT_GS, SK_GATE_FLT_AUX, SK_GATE_FLT_FIRST, SK_GATE_STAT_HIZ,
        SK_GATE_STAT_TARGET] ∧ s.onlyCell t g) ∧
  (∀ g still (s : State), (s.cell g).inRun = true → (s.cell g).latchedInputs ≠ [] →
    (s.cell g).latchedInputs.any (fun c => still.contains c) = true → ∃ t, exec (.fltClr g still) s = .next t ∧
      (t.cell g).rd SK_GATE_FLT_CLR_REFUSED = 1 ∧ (t.cell g).hiZ = (s.cell g).hiZ ∧
      (s.cell g).keepsBut (t.cell g) [SK_GATE_FLT_CLR_REFUSED, SK_LOG_WIDX, SK_LOG_CNT] ∧ s.onlyCell t g) ∧
  (∀ g (s : State), (s.cell g).pow.state ≠ .dark → ∃ t, exec (.overVoltage g) s = .next t ∧ (t.cell g).pow.thy = true ∧
    (t.cell g).pow.byp = true ∧ (t.cell g).rd SK_GATE_STAT_FIRED = 1 ∧ (t.cell g).pow.state = (s.cell g).pow.state ∧
    ((s.cell g).inRun = true → (s.cell g).fired = false → (s.cell g).hiZ = false → (t.cell g).rd SK_GATE_STAT_TARGET = ST_BYPASS) ∧
    ((s.cell g).fired = false → (t.cell g).pow.fireCause = 1) ∧ s.onlyCell t g) ∧
  (∀ g thy (s : State), ∃ t, exec (.firePulseEnd g thy) s = .next t ∧
    t.cell g = { s.cell g with pow := (if thy then { (s.cell g).pow with thy := false } else { (s.cell g).pow with byp := false }) } ∧
    s.onlyCell t g) ∧
  (∀ g (s : State), (s.cell g).pow.state ≠ .dark → (s.cell g).fired = true → (s.cell g).pow.closed = false →
    bitOf ((s.cell g).rd SK_FLT_LATCH_LATCH) 5 = false → ∃ t, exec (.bypassConfirm g) s = .next t ∧ (t.cell g).rd SK_GATE_STAT_BYP_FB = 1 ∧
      (t.cell g).pow = { (s.cell g).pow with closed := true } ∧ (t.cell g).rd SK_GATE_FIRE_SEC = (s.cell g).pow.fireSec % 2 ^ 32 ∧
      (t.cell g).rd SK_TOP_STAT_HEALTH = 2 ∧ s.onlyCell t g) ∧
  (∀ g (s : State), (s.cell g).pow.state ≠ .dark → (s.cell g).fired = false → ∃ t, exec (.bypassConfirm g) s = .next t ∧
    (t.cell g).rd SK_GATE_STAT_BYP_FB = 1 ∧ (s.cell g).onlyFields (t.cell g) [SK_GATE_STAT_BYP_FB] ∧ s.onlyCell t g) ∧
  (∀ g (s : State), (s.cell g).pow.state ≠ .dark → (s.cell g).fired = true → (s.cell g).pow.closed = false →
    ∃ t, exec (.bypassConfirmTimeout g) s = .next t ∧ bitOf ((t.cell g).rd SK_FLT_LATCH_LATCH) 5 = true ∧ (t.cell g).rd SK_TOP_STAT_HEALTH = 3 ∧
      (t.cell g).pow = (s.cell g).pow ∧ s.onlyCell t g)

/-! ### Converters and recorder -/

/-- The converters of both chips: the mains window and its hold, triggers and the ends of their scans, a configuration, the fixed length of the
mains window and the streams (R407, R408, R412 to R414, R417, R420). -/
def Obligations.WindowsAndScans : Prop :=
  (∀ s : State, s.conv.mainsOn = true → s.conv.mainsLeft = 0 → ∃ t, exec (.mainsWindowEnd .balgal) s = .next t ∧ t.conv.mainsOn = true ∧
    t.conv.mainsLeft = s.mainsL ∧ t.rd CONV_MAINS_LEN = s.mainsL % 2 ^ 24 ∧ t.cells = s.cells) ∧
  (∀ s : State, s.conv.mainsOn = false → ∃ t, exec (.mainsWindowEnd .balgal) s = .next t ∧ t = s) ∧
  (∀ g (s : State), (s.cell g).inRun = true → (s.cell g).conv.mainsOn = true → (s.cell g).conv.mainsLeft = 0 →
    ∃ t, exec (.mainsWindowEnd (.skerry g)) s = .next t ∧ (t.cell g).conv.mainsLeft = (s.cell g).rd SK_CONV_MAINS_SW ∧
      (t.cell g).mem = (s.cell g).mem ∧ (t.cell g).pow = (s.cell g).pow ∧ (t.cell g).gate = (s.cell g).gate ∧
      (∀ h, h ≠ g → t.cell h = s.cell h) ∧ t = { s with cells := t.cells, opens := s.opens + 512 }) ∧
  (∀ s : State, s.rd CONV_MAINS_STAT_STATE = MW_TRACKING → s.fresh → ∃ t, exec .mainsTrackTimeout s = .next t ∧
    t.rd CONV_MAINS_STAT_STATE = MW_HOLD ∧ t.rd CONV_MAINS_STAT_HOLD_EV = 1 ∧ t.conv = { s.conv with accepted := 0 } ∧
    s.raisedAs t 0x182 0 ∧ s.keepsBut t [CONV_MAINS_STAT_STATE, CONV_MAINS_STAT_HOLD_EV] ∧ t.cells = s.cells ∧ t.mem = s.mem) ∧
  (∀ n v (s : State), n < 24 → v.toNat = 2 ^ n → cfgTrig (s.conv1 n).cfg = true → cfgMask (s.conv1 n).cfg ≠ 0 →
    (s.conv1 n).trigAt ≠ s.clk.count + 1 → (s.conv1 n).trig = false → (s.conv1 n).scanning = false →
    ∃ t, exec (.convTrig .balgal v) s = .next t ∧ (t.conv1 n).trig = true ∧ (t.conv1 n).trigAt = s.clk.count + 1 ∧
      (∀ m, m ≠ n → t.conv1 m = s.conv1 m) ∧ t = { s with regs := t.regs, conv := t.conv } ∧
      s.keepsBut t [CONV_STAT_INPUT n, CONV_STAT_SCANNING n, CONV_STAT_TPEND n, CONV_CFG_PEND n]) ∧
  (∀ g (s : State), (s.cell g).inRun = true → cfgTrig ((s.cell g).conv.get 1).cfg = true → cfgMask ((s.cell g).conv.get 1).cfg ≠ 0 →
    ((s.cell g).conv.get 1).trigAt ≠ (s.cell g).now + 1 → ((s.cell g).conv.get 1).trig = false → ((s.cell g).conv.get 1).scanning = false →
    ∃ t, exec (.convTrig (.skerry g) 1) s = .next t ∧ ((t.cell g).conv.get 1).trig = true ∧ s.onlyCell t g) ∧
  (∀ n (s : State), n < 24 → s.conv.scanOver n = true → (s.conv1 n).tpend = false → ∃ t, exec (.scanEnd .balgal n) s = .next t ∧
    (t.conv1 n).scanning = false ∧ t.rd (CONV_STAT_SCANNING n) = 0 ∧ t.cells = s.cells) ∧
  (∀ n (s : State), s.conv.scanOver n = false → ∃ t, exec (.scanEnd .balgal n) s = .next t ∧ t = s) ∧
  (∀ g n (s : State), (s.cell g).inRun = true → (s.cell g).conv.scanOver n = true → ((s.cell g).conv.get n).tpend = false →
    ∃ t, exec (.scanEnd (.skerry g) n) s = .next t ∧ ((t.cell g).conv.get n).scanning = false ∧ (t.cell g).mem = (s.cell g).mem ∧
      (∀ h, h ≠ g → t.cell h = s.cell h) ∧ t = { s with cells := t.cells, opens := s.opens + 512 }) ∧
  (∀ p n v (s : State), n < 24 → s.cfgRefused n v.toNat = false → ∃ t, exec (.convCfgWrite p n v) s = .next t ∧
    t.convWant n = v.toNat % 512 + 65536 * cfgDwell v.toNat ∧ (∀ m, m < 24 → m ≠ n → t.convWant m = s.convWant m) ∧
    t = { s with regs := t.regs }) ∧
  (∀ p n v (s : State), n < 24 → s.cfgRefused n v.toNat = true → s.fresh → ∃ t, exec (.convCfgWrite p n v) s = .next t ∧
    t = { s with flt := t.flt } ∧ s.raisedAs t 0x180 (A_CONV_CFG n % 0x10000 + p.master * 65536)) ∧
  (∀ p v (s : State), s.rd CONV_MAINS_STAT_STATE = MW_FIXED → v.toNat % 0x1000000 ≠ 0 → ∃ t, exec (.convMainsSw .balgal p v) s = .next t ∧
    t.rd CONV_MAINS_SW = v.toNat % 2 ^ 24 ∧ s.onlyFields t [CONV_MAINS_SW]) ∧
  (∀ p v (s : State), (s.rd CONV_MAINS_STAT_STATE ≠ MW_FIXED ∨ v.toNat % 0x1000000 = 0) → s.fresh →
    ∃ t, exec (.convMainsSw .balgal p v) s = .next t ∧ t = { s with flt := t.flt } ∧
      s.raisedAs t 0x180 (A_CONV_MAINS_SW % 0x10000 + p.master * 65536)) ∧
  (∀ g p v (s : State), (s.cell g).inRun = true → (s.cell g).rd SK_CONV_MAINS_SW ≠ 0 → v.toNat % 0x1000000 ≠ 0 →
    ∃ t, exec (.convMainsSw (.skerry g) p v) s = .next t ∧ (t.cell g).rd SK_CONV_MAINS_SW = v.toNat % 2 ^ 24 ∧
      (s.cell g).onlyFields (t.cell g) [SK_CONV_MAINS_SW] ∧ s.onlyCell t g) ∧
  (∀ n (s : State), n < 24 → ∃ t, exec (.streamRestore n) s = .next t ∧ t.rd (CONV_STAT_D n) = 0 ∧ s.onlyFields t [CONV_STAT_D n]) ∧
  (∀ p n kind en (s : State), n < 24 → kind % 4 ≠ 3 → ∃ t, exec (.streamEnable p n kind en) s = .next t ∧
    t.rd (CONV_STREAM_CTRL_EN n) = b2n en ∧ t.rd (CONV_STREAM_CTRL_KIND n) = kind % 4 ∧ (t.conv1 n).comb = [] ∧
    (en = true → t.rd (CONV_STAT_D n) = 0 ∧ t.rd (CONV_STREAM_WIDX n) = 0) ∧
    s.keepsBut t [CONV_STREAM_CTRL_EN n, CONV_STREAM_CTRL_KIND n, CONV_STAT_D n, CONV_STREAM_WIDX n] ∧
    t = { s with regs := t.regs, conv := t.conv })

/-- The recorder: arming, the forced and the automatic trigger, its stop, its rows, the hold-off, and what frees a segment and writes an engine
(R426 to R433, R440, R442). -/
def Obligations.Recorder : Prop :=
  (∀ p j (s : State), s.hasRec = true → s.recState = RS_IDLE → s.recCfg.ok s.recEnv = true → s.nextSeg = some j → j < 64 →
    ∃ t, exec (.recArm p) s = .next t ∧ t.rd ACQ_REC_STAT_STATE = (if t.rd ACQ_REC_GPRE = 0 then RS_READY else RS_FILL) ∧
      t.rd ACQ_REC_STAT_SEG = j ∧ t.recd.rows = 0 ∧ t.rd ACQ_REC_STAT_D = 0 ∧ t.cells = s.cells ∧ t.mem = s.mem) ∧
  (∀ p (s : State), s.hasRec = true → s.recState ≠ RS_IDLE → s.fresh → ∃ t, exec (.recArm p) s = .next t ∧ t = { s with flt := t.flt } ∧
    s.raisedAs t 0x1A0 (A_ACQ_REC_CTRL % 0x10000 + p.master * 65536)) ∧
  (∀ p (s : State), s.hasRec = true → (s.recState = RS_FILL ∨ s.recState = RS_READY) → s.rd ACQ_REC_GPOST ≠ 0 →
    ∃ t, exec (.recForce p) s = .next t ∧ t.recState = RS_POST ∧ t.recd.left = s.rd ACQ_REC_GPOST ∧ t.recd.how = 1 ∧ t.recd.fires = 0 ∧
      t.recd.trigNext = true ∧ t.cells = s.cells ∧ t.mem = s.mem) ∧
  (∀ p (s : State), s.hasRec = true → s.recState = RS_IDLE → s.fresh → ∃ t, exec (.recForce p) s = .next t ∧ t = { s with flt := t.flt } ∧
    s.raisedAs t 0x1A0 (A_ACQ_REC_CTRL % 0x10000 + p.master * 65536)) ∧
  (∀ p (s : State), s.hasRec = true → (s.recState = RS_FILL ∨ s.recState = RS_READY) → ∃ t, exec (.recStop p) s = .next t ∧
    t.recState = RS_IDLE ∧ s.onlyFields t [ACQ_REC_STAT_STATE]) ∧
  (∀ p (s : State), s.hasRec = true → s.recState = RS_POST → ∃ t, exec (.recStop p) s = .next t ∧ t.recState = RS_IDLE ∧
    t.rd ACQ_REC_STAT_DONE_EV = 1 ∧ t.segFull (s.rd ACQ_REC_STAT_SEG) = true ∧ t.cells = s.cells ∧ t.mem = s.mem) ∧
  (∀ s : State, s.hasRec = true → s.recState ≠ RS_IDLE → s.rd ACQ_REC_STAT_D ≠ 0 → s.recd.edges + 1 < 2 ^ s.rd ACQ_REC_STAT_D →
    ∃ t, exec .recorderRow s = .next t ∧ t.recd.edges = s.recd.edges + 1 ∧ t.recd.rows = s.recd.rows ∧ t = { s with recd := t.recd }) ∧
  (∀ s : State, s.hasRec = true → (s.recState = RS_FILL ∨ s.recState = RS_READY) → s.rd ACQ_REC_STAT_D = 0 → s.recd.queue.length < 47 →
    ∃ t, exec .recorderRow s = .next t ∧ t.recd.rows = s.recd.rows + 1 ∧ t.recd.queue.length = s.recd.queue.length + 1 ∧
      t.cells = s.cells ∧ t.mem = s.mem) ∧
  (∀ s : State, s.hasRec = true → s.recState ≠ RS_IDLE → s.rd ACQ_REC_STAT_D = 0 → 64 ≤ s.recd.queue.length →
    ∃ t, exec .recorderRow s = .next t ∧ t.recd.dropped = true ∧ t.recd.queue = s.recd.queue ∧ t.recd.rows = s.recd.rows ∧
      t.rd ACQ_REC_DROP = min (s.rd ACQ_REC_DROP + 1) (2 ^ ACQ_REC_DROP.w - 1) ∧ s.keepsBut t [ACQ_REC_DROP] ∧ t.mem = s.mem) ∧
  (∀ s : State, s.hasRec = true → s.recState = RS_READY → s.on ACQ_REC_CFG_AUTO = true → s.recd.readyAt < s.clk.count →
    s.recd.readyAt + 625000 * s.rd ACQ_REC_AUTO ≤ s.clk.count → s.rd ACQ_REC_GPOST ≠ 0 → ∃ t, exec .autoTrigger s = .next t ∧
      t.recState = RS_POST ∧ t.recd.left = s.rd ACQ_REC_GPOST ∧ t.recd.how = 2 ∧ t.recd.fires = 0 ∧ t.cells = s.cells ∧ t.mem = s.mem) ∧
  (∀ s : State, s.recState ≠ RS_READY → ∃ t, exec .autoTrigger s = .next t ∧ t = s) ∧
  (∀ e (s : State), e < 8 → s.on (ACQ_ENG_STAT_HOLDING e) = true → s.rd (ACQ_ENG_CFG_HOLD_MODE e) = 1 → (s.eng e).holdTo ≤ s.clk.count →
    ∃ t, exec (.holdoffEnd e) s = .next t ∧ t.rd (ACQ_ENG_STAT_HOLDING e) = 0 ∧ s.onlyFields t [ACQ_ENG_STAT_HOLDING e]) ∧
  (∀ k v (s : State), k < 2 → s.hasRec = true → ∃ t, exec (.segFree k v) s = .next t ∧
    t.rd (ACQ_SEG_FULL k) = s.rd (ACQ_SEG_FULL k) &&& (0xFFFFFFFF ^^^ v.toNat) ∧
    (∀ j, j ∈ t.recd.caps ↔ j ∈ s.recd.caps ∧ ¬ (j / 32 = k ∧ bitOf v.toNat (j % 32) = true)) ∧
    s.keepsBut t [ACQ_SEG_FULL k] ∧ t = { s with regs := t.regs, recd := t.recd }) ∧
  (∀ e v (s : State), e < 8 → s.hasRec = true → ∃ t, exec (.engineLevelWrite e 2 v) s = .next t ∧
    t.rd (ACQ_ENG_HOLD e) = v.toNat % 2 ^ 20 ∧ s.onlyFields t [ACQ_ENG_HOLD e]) ∧
  (∀ e v (s : State), e < 8 → s.hasRec = true → s.rd (ACQ_ENG_CFG_TYPE e) ≠ 2 → ∃ t, exec (.engineLevelWrite e 0 v) s = .next t ∧
    t.rd (ACQ_ENG_LEVEL e) = v.toNat ∧ s.onlyFields t [ACQ_ENG_LEVEL e]) ∧
  (∀ e v (s : State), e < 8 → s.hasRec = true → s.rd (ACQ_ENG_CFG_TYPE e) = 2 → ∃ t, exec (.engineLevelWrite e 1 v) s = .next t ∧
    t.rd (ACQ_ENG_AUX e) = v.toNat ∧ t.rd (ACQ_ENG_STAT_PRIMED e) = 0 ∧ (t.eng e).rise = false ∧ (t.eng e).fall = false ∧
    s.keepsBut t [ACQ_ENG_AUX e, ACQ_ENG_STAT_PRIMED e] ∧ t.mem = s.mem)

/-! ### Shared memory and DMA -/

/-- The shared SRAM: a read answers with the bytes, a write stores them, the errors of both ports, what the decoder finds, retirement, the
self-test and the power of the groups (R447 to R449, R452 to R458, R460 to R464). -/
def Obligations.SharedMemory : Prop :=
  (∀ p a n ones bad waits (s : State), isSram a = true → 0 < n → a % 128 + n ≤ 128 → s.ready (groupOf a) = true → s.poisoned a n = false →
    s.erasures (groupOf a) (stripeOf ones bad 0) = [] → (stripeOf ones bad 0).ones = [] → ∃ t, exec (.sramRead p a n ones bad 0 waits) s = .next t ∧
      t.out = s.out ++ [.readBytes p (s.bytes a n)] ∧ t.rd MEM_COLL_CNT = min (s.rd MEM_COLL_CNT + waits) (2 ^ 32 - 1) ∧
      s.keepsBut t [MEM_COLL_CNT] ∧ t = { s with regs := t.regs, out := t.out }) ∧
  (∀ p a n ones bad outer waits (s : State), (isSram a = false ∨ n = 0 ∨ 128 < a % 128 + n) → ∃ t, exec (.sramRead p a n ones bad outer waits) s = .next t ∧
    t.out = s.out ++ [.busErr p 2] ∧ s.keepsBut t [MEM_COLL_CNT] ∧ t = { s with regs := t.regs, out := t.out }) ∧
  (∀ p a n ones bad outer waits (s : State), isSram a = true → 0 < n → a % 128 + n ≤ 128 → s.ready (groupOf a) = false →
    ∃ t, exec (.sramRead p a n ones bad outer waits) s = .next t ∧ t.out = s.out ++ [.busErr p 4] ∧ s.keepsBut t [MEM_COLL_CNT] ∧
      t = { s with regs := t.regs, out := t.out }) ∧
  (∀ p a n ones bad outer waits (s : State), isSram a = true → 0 < n → a % 128 + n ≤ 128 → s.ready (groupOf a) = true → s.poisoned a n = true →
    ∃ t, exec (.sramRead p a n ones bad outer waits) s = .next t ∧ t.out = s.out ++ [.busErr p 6] ∧ t.rd MEM_UE_INFO_VALID = 1 ∧
      (s.rd MEM_UE_INFO_VALID = 1 → t.rd MEM_UE_INFO_OVF = 1 ∧ t.rd MEM_UE_ADDR = s.rd MEM_UE_ADDR) ∧
      (s.rd MEM_UE_INFO_VALID = 0 → t.rd MEM_UE_INFO_CAUSE = 6 ∧ t.rd MEM_UE_ADDR = a / 8 * 8) ∧ t.mem = s.mem ∧ t.cells = s.cells) ∧
  (∀ p a n ones bad outer waits (s : State), isSram a = true → 0 < n → a % 128 + n ≤ 128 → s.ready (groupOf a) = true → s.poisoned a n = false →
    3 ≤ (s.erasures (groupOf a) (stripeOf ones bad outer)).length → ∃ t, exec (.sramRead p a n ones bad outer waits) s = .next t ∧
      t.out = s.out ++ [.busErr p 1] ∧ t.rd MEM_STAT_UE_EV = 1 ∧ t.rd MEM_UE_CNT = min (s.rd MEM_UE_CNT + 1) (2 ^ 32 - 1) ∧
      t.rd MEM_UE_INFO_VALID = 1 ∧ t.mem = s.mem ∧ t.cells = s.cells) ∧
  (∀ p a (data : List Byte) ones bad waits (s : State), isSram a = true → data ≠ [] → a % 128 + data.length ≤ 128 → s.ready (groupOf a) = true →
    s.partPoison a data.length = false → s.erasures (groupOf a) (stripeOf ones bad 0) = [] → (stripeOf ones bad 0).ones = [] →
    ∃ t, exec (.sramWrite p a data ones bad 0 waits) s = .next t ∧ (∀ i, (h : i < data.length) → t.byte (a + i) = data[i]) ∧
      (∀ b, b < a ∨ a + data.length ≤ b → t.byte b = s.byte b) ∧ s.keepsBut t [MEM_COLL_CNT] ∧
      t = { s with regs := t.regs, mem := t.mem, mst := t.mst }) ∧
  (∀ p a (data : List Byte) ones bad outer waits (s : State), isSram a = true → data ≠ [] → a % 128 + data.length ≤ 128 →
    s.ready (groupOf a) = false → ∃ t, exec (.sramWrite p a data ones bad outer waits) s = .next t ∧ t.out = s.out ++ [.busErr p 4] ∧
      s.keepsBut t [MEM_COLL_CNT] ∧ t = { s with regs := t.regs, out := t.out }) ∧
  (∀ x (s : State), ∃ t, exec (.writeBack x) s = .next t ∧ (∀ y, y ∈ t.mst.wb ↔ y ∈ s.mst.wb ∧ y ≠ x) ∧
    t = { s with mst := { s.mst with wb := t.mst.wb } }) ∧
  (∀ p v (s : State), bitOf v.toNat 31 = true → v.toNat % 128 < 72 → s.retiredOf (v.toNat % 128 / 18) = [] → s.fresh →
    ∃ t, exec (.memRetire p v) s = .next t ∧ t.retired (v.toNat % 128) = true ∧ (∀ k, k < 72 → k ≠ v.toNat % 128 → t.retired k = s.retired k) ∧
      t.rd MEM_STAT_RETIRE_EV = 1 ∧ s.raisedAs t 0x1C4 (v.toNat % 128) ∧ t.mem = s.mem ∧ t.cells = s.cells) ∧
  (∀ p v (s : State), bitOf v.toNat 31 = true → v.toNat % 128 < 72 → s.retired (v.toNat % 128) = false →
    2 ≤ (s.retiredOf (v.toNat % 128 / 18)).length → ∃ t, exec (.memRetire p v) s = .next t ∧
      t.rd MEM_RETIRE_REF = min (s.rd MEM_RETIRE_REF + 1) (2 ^ 8 - 1) ∧ s.onlyFields t [MEM_RETIRE_REF]) ∧
  (∀ p v (s : State), bitOf v.toNat 31 = true → 72 ≤ v.toNat % 128 → s.fresh → ∃ t, exec (.memRetire p v) s = .next t ∧
    t = { s with flt := t.flt } ∧ s.raisedAs t 0x1C0 (A_MEM_RETIRE % 0x10000 + p.master * 65536)) ∧
  (∀ s : State, s.rd MEM_BIST_CTRL_EN = 1 → s.rd MEM_BIST_STAT_ACTIVE = 0 → s.mst.bist = false → s.bistable 0 = true →
    ∃ t, exec .bistRegionStart s = .next t ∧ t.rd MEM_BIST_STAT_BANK = 0 ∧ t.rd MEM_BIST_STAT_RUN = 1 ∧ t.rd MEM_BIST_STAT_ACTIVE = 1 ∧
      t.mst = { s.mst with bist := true } ∧ s.keepsBut t [MEM_BIST_STAT_BANK, MEM_BIST_STAT_RUN, MEM_BIST_STAT_ACTIVE] ∧ t.mem = s.mem) ∧
  (∀ word bit (s : State), s.rd MEM_BIST_STAT_ACTIVE = 1 → s.rd MEM_BIST_CTRL_EN = 1 → ∃ t, exec (.bistRegionEnd false word bit) s = .next t ∧
    t.rd MEM_BIST_STAT_ACTIVE = 0 ∧ s.onlyFields t [MEM_BIST_STAT_ACTIVE]) ∧
  (∀ word bit (s : State), s.rd MEM_BIST_STAT_ACTIVE = 1 → s.rd MEM_CTRL_AUTO_RETIRE = 0 → s.fresh →
    ∃ t, exec (.bistRegionEnd true word bit) s = .next t ∧ t.rd MEM_BIST_FAIL_BANK = s.rd MEM_BIST_STAT_BANK ∧
      t.rd MEM_BIST_FAIL_WORD = word % 256 ∧ t.rd MEM_BIST_FAIL_BIT = bit % 128 ∧ t.rd MEM_BIST_FAIL_VALID = 1 ∧ t.rd MEM_STAT_BIST_EV = 1 ∧
      s.raisedAs t 0x1C5 (s.rd MEM_BIST_STAT_BANK) ∧ t.mem = s.mem) ∧
  (∀ s : State, ∃ t, exec .bistStop s = .next t ∧ t.rd MEM_BIST_CTRL_EN = 0 ∧ (s.rd MEM_BIST_STAT_ACTIVE = 0 → t.rd MEM_BIST_STAT_RUN = 0) ∧
    s.onlyFields t [MEM_BIST_CTRL_EN, MEM_BIST_STAT_RUN]) ∧
  (∀ p v (s : State), s.heldRanges = [] → ∃ t, exec (.memPwrWrite p v) s = .next t ∧ t.rd MEM_PWR_OFF = v.toNat % 16 ∧
    (∀ g, g < 4 → bitOf v.toNat g ≠ bitOf (s.rd MEM_PWR_OFF) g → t.ready g = false ∧ ∀ a, isSram a = true → groupOf a = g → t.byte a = 0) ∧
    (∀ a, (isSram a = true → bitOf v.toNat (groupOf a) = bitOf (s.rd MEM_PWR_OFF) (groupOf a)) → t.byte a = s.byte a) ∧
    s.keepsBut t [MEM_PWR_OFF, MEM_STAT_READY] ∧ t.cells = s.cells)

/-- A DMA channel from its start to its end: the descriptor fetched or refused, a copy of bytes with its RESULT, the bus error that stops the engine
and what clears it, a channel resumed or aborted (R471 to R479, R483). -/
def Obligations.DmaTransfers : Prop :=
  (∀ p n (s : State), n < 32 → (s.dmaState n = DM_IDLE ∨ s.dmaState n = DM_ERROR) → s.dmaDraining = false →
    ∃ t, exec (.dmaStart p n) s = .next t ∧ t.dmaState n = DM_FETCH ∧ t.rd (DMA_CH_STAT_REASON n) = 0 ∧ t.rd (DMA_CH_DONE_BYTES n) = 0 ∧
      t.dmaCh n = DmaCh.zero ∧ (∀ m, m ≠ n → t.dmaCh m = s.dmaCh m) ∧
      s.keepsBut t [DMA_CH_STAT_STATE n, DMA_CH_STAT_REASON n, DMA_CH_DONE_BYTES n] ∧ t = { s with regs := t.regs, dma := t.dma }) ∧
  (∀ p n (s : State), n < 32 → (s.dmaState n = DM_FETCH ∨ s.dmaState n = DM_RUN ∨ s.dmaDraining = true) → s.fresh →
    ∃ t, exec (.dmaStart p n) s = .next t ∧ t = { s with flt := t.flt } ∧ s.raisedAs t 0x1E0 (A_DMA_CH_CTRL n % 0x10000 + p.master * 65536)) ∧
  (∀ n (s : State), n < 32 → s.dmaState n = DM_FETCH → s.rd DMA_STAT_STOPPED = 0 → isSram (s.dmaDescAddr n) = true →
    s.memCause (s.dmaDescAddr n) 32 = none → s.poisoned (s.dmaDescAddr n) 32 = false → dmaReason (s.bytes (s.dmaDescAddr n) 32) = 0 →
    (dmaParse (s.bytes (s.dmaDescAddr n) 32)).len ≠ 0 → ∃ t, exec (.dmaFetch n) s = .next t ∧ t.dmaState n = DM_RUN ∧
      t.dmaCh n = dmaParse (s.bytes (s.dmaDescAddr n) 32) ∧ t.rd (DMA_CH_DONE_BYTES n) = 0 ∧ (∀ m, m ≠ n → t.dmaCh m = s.dmaCh m) ∧
      s.keepsBut t [DMA_CH_STAT_STATE n, DMA_CH_DONE_BYTES n] ∧ t = { s with regs := t.regs, dma := t.dma }) ∧
  (∀ n (s : State), n < 32 → s.dmaState n = DM_FETCH → s.rd DMA_STAT_STOPPED = 0 → isSram (s.dmaDescAddr n) = true →
    s.memCause (s.dmaDescAddr n) 32 = none → s.poisoned (s.dmaDescAddr n) 32 = false → dmaReason (s.bytes (s.dmaDescAddr n) 32) ≠ 0 → s.fresh →
    ∃ t, exec (.dmaFetch n) s = .next t ∧ t.dmaState n = DM_ERROR ∧ t.rd (DMA_CH_STAT_REFUSED_EV n) = 1 ∧
      t.rd (DMA_CH_STAT_REASON n) = dmaReason (s.bytes (s.dmaDescAddr n) 32) ∧ t.rd DMA_STAT_DESC_EV = 1 ∧
      t.bytes (s.dmaDescAddr n + 20) 4 = leBytes 4 (2 * 2 ^ 25 + dmaReason (s.bytes (s.dmaDescAddr n) 32) * 2 ^ 28) ∧
      (∀ a, a < s.dmaDescAddr n + 20 ∨ s.dmaDescAddr n + 24 ≤ a → t.byte a = s.byte a) ∧
      s.raisedAs t 0x1E2 (n + 256 * dmaReason (s.bytes (s.dmaDescAddr n) 32)) ∧ t.cells = s.cells) ∧
  (∀ n (s : State), n < 32 → s.dmaState n = DM_FETCH → s.rd DMA_STAT_STOPPED = 0 → isSram (s.dmaDescAddr n) = false → s.fresh →
    ∃ t, exec (.dmaFetch n) s = .next t ∧ t.rd DMA_STAT_STOPPED = 1 ∧ t.rd DMA_STAT_ERR_EV = 1 ∧ t.rd DMA_ERR_ADDR = s.dmaDescAddr n % 2 ^ 32 ∧
      t.rd DMA_ERR_INFO_DIR = 0 ∧ t.rd DMA_ERR_INFO_CAUSE = 2 ∧ t.dmaState n = DM_STOPPED ∧ s.raisedAs t 0x1E3 0x21F ∧ t.mem = s.mem) ∧
  (∀ n host (s : State), n < 32 → s.dmaState n = DM_RUN → s.rd DMA_STAT_STOPPED = 0 → (s.dmaCh n).sw = 0 → (s.dmaCh n).dw = 0 →
    (s.dmaCh n).flags = 7 → (s.dmaCh n).len < 2 ^ 25 → s.rd (DMA_CH_DONE_BYTES n) = 0 → s.rd MEM_STAT_READY = 15 → s.mst.poison = [] →
    (s.dmaCh n).src + (s.dmaCh n).len ≤ 0x04000000 → (s.dmaCh n).dst + (s.dmaCh n).len ≤ 0x04000000 →
    ((s.dmaCh n).src + (s.dmaCh n).len ≤ (s.dmaCh n).dst ∨ (s.dmaCh n).dst + (s.dmaCh n).len ≤ (s.dmaCh n).src) →
    s.dmaDescAddr n + 24 ≤ 0x04000000 →
    ((s.dmaCh n).dst + (s.dmaCh n).len ≤ s.dmaDescAddr n + 20 ∨ s.dmaDescAddr n + 24 ≤ (s.dmaCh n).dst) →
    ∃ t, exec (.dmaComplete n host) s = .next t ∧ t.dmaState n = DM_IDLE ∧ t.rd (DMA_CH_DONE_BYTES n) = (s.dmaCh n).len ∧
      (∀ i, i < (s.dmaCh n).len → t.byte ((s.dmaCh n).dst + i) = s.byte ((s.dmaCh n).src + i)) ∧
      t.bytes (s.dmaDescAddr n + 20) 4 = leBytes 4 ((s.dmaCh n).len + 2 ^ 25) ∧
      (∀ a, (a < (s.dmaCh n).dst ∨ (s.dmaCh n).dst + (s.dmaCh n).len ≤ a) → (a < s.dmaDescAddr n + 20 ∨ s.dmaDescAddr n + 24 ≤ a) →
        t.byte a = s.byte a) ∧
      t.rd (DMA_CH_CNT n) = min (s.rd (DMA_CH_CNT n) + 1) (2 ^ 32 - 1) ∧
      s.keepsBut t [DMA_CH_STAT_STATE n, DMA_CH_DONE_BYTES n, DMA_CH_CNT n] ∧ t.cells = s.cells ∧ t.out = s.out) ∧
  (∀ dir cause addr n (s : State), n < 32 → (s.dmaState n = DM_FETCH ∨ s.dmaState n = DM_RUN) → s.rd DMA_STAT_STOPPED = 0 → s.fresh →
    ∃ t, exec (.dmaBusError dir cause addr []) s = .next t ∧ t.rd DMA_STAT_STOPPED = 1 ∧ t.rd DMA_STAT_DRAINED = 0 ∧ t.rd DMA_STAT_ERR_EV = 1 ∧
      t.rd DMA_ERR_ADDR = addr % 2 ^ 32 ∧ t.rd DMA_ERR_INFO_DIR = b2n dir ∧ t.rd DMA_ERR_INFO_CAUSE = cause % 8 ∧
      (∀ m, m < 32 → t.dmaState m = (if s.dmaState m = DM_FETCH ∨ s.dmaState m = DM_RUN then DM_STOPPED else s.dmaState m)) ∧
      s.raisedAs t 0x1E3 (0x1F + 256 * cause) ∧ t.mem = s.mem ∧ t.cells = s.cells) ∧
  (∀ s : State, s.rd DMA_STAT_STOPPED = 1 → ∃ t, exec (.dmaDrained []) s = .next t ∧ t.rd DMA_STAT_DRAINED = 1 ∧ s.onlyFields t [DMA_STAT_DRAINED]) ∧
  (∀ prog (s : State), s.rd DMA_STAT_STOPPED = 0 → ∃ t, exec (.dmaDrained prog) s = .next t ∧ t = s) ∧
  (∀ p (s : State), s.rd DMA_STAT_DRAINED = 1 → ∃ t, exec (.dmaClear p) s = .next t ∧ t.rd DMA_STAT_STOPPED = 0 ∧ s.onlyFields t [DMA_STAT_STOPPED]) ∧
  (∀ p (s : State), s.rd DMA_STAT_DRAINED = 0 → s.fresh → ∃ t, exec (.dmaClear p) s = .next t ∧ t = { s with flt := t.flt } ∧
    s.raisedAs t 0x1E0 (A_DMA_CTRL % 0x10000 + p.master * 65536)) ∧
  (∀ p n (s : State), n < 32 → s.dmaDraining = false → s.dmaState n = DM_STOPPED → ∃ t, exec (.dmaResume p n) s = .next t ∧
    t.dmaState n = (if (s.dmaCh n).len = 0 then DM_FETCH else DM_RUN) ∧ s.keepsBut t [DMA_CH_STAT_STATE n, DMA_CH_DONE_BYTES n] ∧
    t = { s with regs := t.regs, dma := t.dma }) ∧
  (∀ p n (s : State), n < 32 → s.dmaDraining = false → s.dmaState n ≠ DM_STOPPED → ∃ t, exec (.dmaResume p n) s = .next t ∧ t = s) ∧
  (∀ n prog host (s : State), n < 32 → s.dmaState n = DM_FETCH → ∃ t, exec (.dmaAbort n prog host) s = .next t ∧ t.dmaState n = DM_IDLE ∧
    s.onlyFields t [DMA_CH_STAT_STATE n]) ∧
  (∀ n prog host (s : State), n < 32 → (s.dmaState n = DM_RUN ∨ s.dmaState n = DM_STOPPED) → prog ≤ s.rd (DMA_CH_DONE_BYTES n) →
    ∃ t, exec (.dmaAbort n prog host) s = .next t ∧ t.dmaState n = DM_IDLE ∧ s.onlyFields t [DMA_CH_STAT_STATE n]) ∧
  (∀ p n v (s : State), n < 32 → (s.dmaState n = DM_IDLE ∨ s.dmaState n = DM_ERROR) → ∃ t, exec (.dmaDescWrite p n v) s = .next t ∧
    t.dmaDescAddr n = v.toNat / 32 * 32 ∧ s.onlyFields t [DMA_CH_DESC_DESC n]) ∧
  (∀ p n v (s : State), n < 32 → (s.dmaState n = DM_FETCH ∨ s.dmaState n = DM_RUN ∨ s.dmaState n = DM_STOPPED) → s.fresh →
    ∃ t, exec (.dmaDescWrite p n v) s = .next t ∧ t = { s with flt := t.flt } ∧
      s.raisedAs t 0x1E0 (A_DMA_CH_DESC n % 0x10000 + p.master * 65536))

/-! ### Fault unit -/

/-- The fault unit: a latched raise fills the record of its class and is counted, an unanswered record escalates, an acknowledge frees it, the
quiet period leaves FATAL, and ALIVE toggles in RUN (R485, R487, R489 to R499). -/
def Obligations.FaultUnit : Prop :=
  (∀ id info ct edge (s : State), s.flt.raised = [⟨id, info, edge, ct⟩] → isSource id = true → s.srcClass id = 0 → s.on (FLT_CLASS_LATCH id) = true →
    s.recValid 0 = false → s.recValid 1 = false → s.recValid 2 = false → tget (fun _ => 0) s.flt.moved 0 ≠ edge + 2 →
    ∃ t, exec (.faultRaise []) s = .next t ∧ t.rd (FLT_REC0_VALID 0) = 1 ∧ t.rd (FLT_REC0_ID 0) = id ∧ t.rd (FLT_REC1 0) = info % 2 ^ 32 ∧
      t.rd (FLT_CNT id) = min (s.rd (FLT_CNT id) + 1) (2 ^ 16 - 1) ∧ bitOf (t.rd (FLT_BLK_CAUSE (id / 32))) (id % 32) = true ∧
      t.rd FLT_STAT_STATE = 0 ∧ t.cells = s.cells) ∧
  (∀ id info ct edge (s : State), s.flt.raised = [⟨id, info, edge, ct⟩] → isSource id = true → s.srcClass id = 2 → s.recValid 2 = false →
    s.rd FLT_STAT_STATE ≠ 2 → s.inRun = true → s.isActive = false → ∃ t, exec (.faultRaise []) s = .next t ∧ t.rd (FLT_REC0_VALID 2) = 1 ∧
      t.rd (FLT_REC0_ID 2) = id ∧ t.rd FLT_STAT_STATE = 2 ∧ t.rd FLT_STAT_FATAL_EV = 1 ∧ t.rd FLT_STAT_ALIVE = 0 ∧ t.cells = s.cells) ∧
  (∀ s : State, s.recValid 0 = true → tget (fun _ => 0) s.flt.timer 0 ≠ 0 → s.recValid 1 = false → s.recValid 2 = false →
    ∃ t, exec (.reactionTimeout 0) s = .next t ∧ t.recValid 0 = false ∧ t.recValid 1 = true ∧ t.rd (FLT_REC0_ID 1) = s.rd (FLT_REC0_ID 0) ∧
      t.rd (FLT_REC0_ESC 1) = 1 ∧ t.rd (FLT_REC0_ESC_CAUSE 1) = 2 ∧ t.rd (FLT_REC1 1) = s.rd (FLT_REC1 0) ∧ t.rd FLT_STAT_STATE = 1 ∧
      t.cells = s.cells) ∧
  (∀ k (s : State), tget (fun _ => 0) s.flt.timer k = 0 → ∃ t, exec (.reactionTimeout k) s = .next t ∧ t = s) ∧
  (∀ p k (s : State), k < 2 → s.recValid 2 = false → ∃ t, exec (.faultAck p k) s = .next t ∧ t.recValid k = false ∧
    (∀ j, j < 3 → j ≠ k → t.recValid j = s.recValid j) ∧ t.rd FLT_STAT_STATE = (if k = 0 ∧ s.recValid 1 = true then 1 else 0) ∧
    t.cells = s.cells ∧ t.mem = s.mem) ∧
  (∀ p (s : State), s.fresh → ∃ t, exec (.faultAck p 2) s = .next t ∧ t = { s with flt := t.flt } ∧
    s.raisedAs t 0x200 (A_FLT_REC0 2 % 0x10000 + p.master * 65536)) ∧
  (∀ s : State, s.rd FLT_STAT_QUIETING = 1 → (∀ r ∈ s.flt.raised, s.srcClass r.id = 0) → ∃ t, exec .quietExpire s = .next t ∧
    (∀ j, j < 4 → t.rdW (A_FLT_PREV j) = s.rdW (A_FLT_REC0 2 + 4 * j)) ∧ t.recValid 2 = false ∧
    t.rd FLT_RECOVER_CNT = min (s.rd FLT_RECOVER_CNT + 1) (2 ^ 16 - 1) ∧ t.rd FLT_STAT_RECOVERED_EV = 1 ∧
    t.rd FLT_STAT_STATE = b2n (s.recValid 1) ∧ t.cells = s.cells ∧ t.mem = s.mem) ∧
  (∀ s : State, s.rd FLT_STAT_QUIETING = 0 → ∃ t, exec .quietExpire s = .next t ∧ t = s) ∧
  (∀ v (s : State), s.fresh → ∃ t, exec (.fltSw v) s = .next t ∧ t = { s with flt := t.flt } ∧
    s.raisedAs t (0x202 + v.toNat % 8) (v.toNat / 256)) ∧
  (∀ s : State, s.inRun = true → s.rd FLT_STAT_STATE ≠ 2 → s.on LANE_REF_STAT_REF_OK = true → ∃ t, exec .aliveToggle s = .next t ∧
    t.rd FLT_STAT_ALIVE = 1 - s.rd FLT_STAT_ALIVE ∧ s.onlyFields t [FLT_STAT_ALIVE]) ∧
  (∀ s : State, (s.inRun = false ∨ s.rd FLT_STAT_STATE = 2 ∨ s.on LANE_REF_STAT_REF_OK = false) → ∃ t, exec .aliveToggle s = .next t ∧
    t.rd FLT_STAT_ALIVE = 0 ∧ s.onlyFields t [FLT_STAT_ALIVE]) ∧
  (∀ g v still (s : State), (s.cell g).inRun = true → ∃ t, exec (.skFltClear g v still) s = .next t ∧
    (∀ b, 2 ≤ b → b ≤ 4 → bitOf v.toNat b = true → bitOf ((t.cell g).rd SK_FLT_LATCH_LATCH) b = false) ∧
    (∀ b, b < 6 → (b = 5 ∨ bitOf v.toNat b = false) → bitOf ((t.cell g).rd SK_FLT_LATCH_LATCH) b = bitOf ((s.cell g).rd SK_FLT_LATCH_LATCH) b) ∧
    (s.cell g).keepsBut (t.cell g) [SK_FLT_LATCH_LATCH, SK_FLT_LATCH_CLR_REFUSED, SK_FLT_FIRST_BIT, SK_TOP_STAT_HEALTH, SK_TOP_STAT_FAULT] ∧
    s.onlyCell t g)

/-! ### Redundancy -/

/-- What the frames of the other chips leave: the health of the partner and of the arbiter, what a standby is to relay, the copy of the records,
the partner's plan, and a strait message with its sender (R133, R507, R514, R515, R576, R610). -/
def Obligations.PartnerFrames : Prop :=
  (∀ n ss back halted same (s : State), s.redundant = true → s.lanesApplied = true → 96 ≤ n → n < 100 → s.rd (LANE_CFG_MODE n) ≠ 0 →
    s.laneLocked n = true → (s.laneTake n ss).2 = true → s.frameValid n ss = true → s.isActive = true → s.red.mateGot = false →
    hRole (fld ss 30 4) ≠ 1 → fld ss 62 1 = 0 → ∃ t, exec (.partnerFrame n ss back halted same) s = .next t ∧
      t.red = { s.red with mateGot := true, mateLost := false } ∧ t.rd RED_HEALTH_MATE = fld ss 30 4 % 2 ^ 32 ∧
      t.rd CHART_MATE_DIGEST = fld ss 34 4 % 2 ^ 32 ∧ t.cells = s.cells ∧ t.mem = s.mem ∧ t.out = s.out) ∧
  (∀ n ss back halted same (s : State), s.redundant = true → s.lanesApplied = true → 100 ≤ n → n < 104 → s.rd (LANE_CFG_MODE n) ≠ 0 →
    s.laneLocked n = true → (s.laneTake n ss).2 = true → s.frameValid n ss = true → s.isArbiter = false → s.red.arbGot = false →
    s.rd RED_STAT_ALIVE1_RUN = 1 → fld ss 62 1 = 0 → ∃ t, exec (.partnerFrame n ss back halted same) s = .next t ∧
      t.red = { s.red with arbGot := true, arbLost := false } ∧ t.rd RED_HEALTH_ARB = fld ss 30 4 % 2 ^ 32 ∧ t.rd RED_STAT_ARB_LOST = 0 ∧
      t.cells = s.cells ∧ t.mem = s.mem ∧ t.out = s.out) ∧
  (∀ n ss back halted same (s : State), (s.redundant = false ∨ n < 96 ∨ 104 ≤ n) → ∃ t, exec (.partnerFrame n ss back halted same) s = .next t ∧
    t = s) ∧
  (∀ n ss (s : State), s.redundant = true → s.inRun = true → s.isStandby = true → (n = 97 ∨ n = 98) → s.laneLocked n = true →
    (s.laneTake n ss).2 = true → fld ss 26 1 ≤ 80 → ss.length = 33 + 12 * fld ss 26 1 → frameOk ss ss.length = true → fld ss 1 1 / 16 = 4 →
    fld ss 2 1 = s.rd TOP_STAT_CONVERTER → crc32 (ferryBytes ss 1 (ss.length - 6)) = fld ss (ss.length - 5) 4 →
    ∃ t, exec (.relayFrame n ss) s = .next t ∧ t.red.relay.collects = s.red.relay.collects ∧
      t.red.relay.halves = s.red.relay.halves ++
        (List.range (fld ss 26 1)).map (fun j => (fld ss (28 + 12 * j) 2, halfOf (ferryBytes ss (30 + 12 * j) 8))) ∧
      t.red = { s.red with relay := t.red.relay } ∧ t.cells = s.cells ∧ t.mem = s.mem) ∧
  (∀ n recs (s : State), s.redundant = true → s.inRun = true → s.isStandby = true → (n = 97 ∨ n = 98) → s.laneLocked n = true →
    s.red.copyDone = false → ∃ t, exec (.copyFrame n false recs) s = .next t ∧ t.rd RED_COPY_RECORDS = 0 ∧ t.red = { s.red with copyNext := 0 } ∧
      s.keepsBut t [RED_COPY_RECORDS] ∧ t = { s with regs := t.regs, red := t.red }) ∧
  (∀ n (recs : List CopyRec) (s : State), s.redundant = true → s.inRun = true → s.isStandby = true → (n = 97 ∨ n = 98) → s.laneLocked n = true →
    s.red.copyDone = false → recs ≠ [] → recs.length ≤ 60 → recs.head?.map (·.g) ≠ s.copyKeys.head? →
    recs.map (·.g) = (s.copyKeys.drop s.red.copyNext).take recs.length → s.red.copyNext + recs.length < s.copyKeys.length →
    ∃ t, exec (.copyFrame n true recs) s = .next t ∧ t.rd RED_COPY_RECORDS = (s.red.copyNext + recs.length) % 2 ^ 13 ∧
      t.red = { s.red with copyNext := s.red.copyNext + recs.length } ∧ t.cells = s.cells ∧ t.mem = s.mem) ∧
  (∀ f (s : State), s.redundant = true → s.inRun = true → s.isStandby = true → s.profOn = true → s.laneLocked 96 = true → f.state = PS_IDLE →
    ∃ t, exec (.profileFrame true f) s = .next t ∧ t.rd PROF_STAT_STATE = PS_IDLE ∧ t.rd PROF_ANGLE = f.theta % 2 ^ PROF_ANGLE.w ∧
      t.rd PROF_V = f.lims.getD 0 0 % 2 ^ PROF_V.w ∧ t.prof.segs = [] ∧ t.prof.pE = F64.ofBits f.p ∧ t.cells = s.cells ∧ t.mem = s.mem) ∧
  (∀ f (s : State), ∃ t, exec (.profileFrame false f) s = .next t ∧ t = s) ∧
  (∀ n ss back (s : State), s.inRun = true → s.isArbiter = false → n < 4 → s.rd (LANE_CFG_MODE (108 + n)) ≠ 0 → s.laneLocked (108 + n) = true →
    (s.laneTake (108 + n) ss).2 = true → straitOk ss = false → ∃ t, exec (.straitFrame n ss back) s = .next t ∧
      t.rd (NET_ST_BAD n) = min (s.rd (NET_ST_BAD n) + 1) (2 ^ (NET_ST_BAD n).w - 1) ∧ t.net = s.net ∧ t.cells = s.cells ∧ t.mem = s.mem) ∧
  (∀ n ss back (s : State), s.inRun = true → s.isArbiter = false → n < 4 → s.rd (LANE_CFG_MODE (108 + n)) ≠ 0 → s.laneLocked (108 + n) = true →
    (s.laneTake (108 + n) ss).2 = true → straitOk ss = true → ∃ t, exec (.straitFrame n ss back) s = .next t ∧
      t.rd (NET_ST_STAT_PEER_CONV n) = fld ss 2 1 % 2 ^ (NET_ST_STAT_PEER_CONV n).w ∧
      t.rd (NET_ST_STAT_PEER_SESSION n) = fld ss 39 1 % 2 ^ (NET_ST_STAT_PEER_SESSION n).w ∧ (t.stLane n).got = true ∧
      (fld ss 2 1 ≠ s.rd TOP_STAT_CONVERTER → fld ss 38 1 ≠ 0 → fld ss 39 1 = (s.stLane n).seen → fld ss 36 1 ≠ (s.stLane n).ack →
        s.rd (NET_ST_RXSTAT_RX_FULL n) = 0 → t.rd (NET_ST_RXSTAT_RX_FULL n) = 1 ∧
        t.rd (NET_ST_RXSTAT_LEN n) = fld ss 38 1 % 2 ^ (NET_ST_RXSTAT_LEN n).w ∧ (t.stLane n).ack = fld ss 36 1) ∧ t.cells = s.cells)

/-- Who is active and when that changes: the partner and the arbiter lost, a standby settled and its shadow window, the request, the orders YIELD
and TAKE and the cycle they name, the fence and the takeover on witnesses (R508, R514, R516 to R528). -/
def Obligations.Takeover : Prop :=
  (∀ s : State, s.redundant = true → s.isArbiter = false → ∃ t, exec (.peerAliveStop 0) s = .next t ∧ t.rd RED_STAT_ALIVE0_RUN = 0 ∧
    s.onlyFields t [RED_STAT_ALIVE0_RUN]) ∧
  (∀ s : State, s.redundant = true → s.isArbiter = false → s.red.arbLost = false → s.fresh → ∃ t, exec (.peerAliveStop 1) s = .next t ∧
    t.rd RED_STAT_ALIVE1_RUN = 0 ∧ t.rd RED_STAT_ARB_LOST = 1 ∧ t.red = { s.red with arbLost := true } ∧ s.raisedAs t 0x223 0 ∧
    s.keepsBut t [RED_STAT_ALIVE1_RUN, RED_STAT_ARB_LOST] ∧ t.cells = s.cells ∧ t.mem = s.mem) ∧
  (∀ s : State, s.redundant = true → s.isArbiter = false → s.red.arbGap = 0 → ∃ t, exec (.peerAliveResume 1) s = .next t ∧
    t.rd RED_STAT_ALIVE1_RUN = 1 ∧ t.rd RED_STAT_ARB_LOST = 0 ∧ t.red = { s.red with arbLost := false } ∧
    s.keepsBut t [RED_STAT_ALIVE1_RUN, RED_STAT_ARB_LOST] ∧ t = { s with regs := t.regs, red := t.red }) ∧
  (∀ tail (s : State), s.redundant = true → s.isArbiter = false → s.isStandby = false → 4 ≤ s.red.mateGap → s.red.mateLost = false → s.fresh →
    ∃ t, exec (.partnerLost tail) s = .next t ∧ t.red = { s.red with mateLost := true } ∧ s.raisedAs t 0x222 0 ∧
      t = { s with red := t.red, flt := t.flt }) ∧
  (∀ tail (s : State), s.redundant = true → s.isStandby = true → 4 ≤ s.red.mateGap → s.red.mateLost = false →
    s.rd TIME_STAT_STATE = TS_LOCKED → s.fresh → ∃ t, exec (.partnerLost tail) s = .next t ∧ t.red = { s.red with mateLost := true } ∧
      t.rd TIME_STAT_STATE = TS_HOLDOVER ∧ s.raisedAs t 0x222 0 ∧ t.cells = s.cells ∧ t.mem = s.mem) ∧
  (∀ s : State, s.redundant = true → s.isArbiter = false → 4 ≤ s.red.arbGap → s.red.arbLost = false → s.fresh →
    ∃ t, exec .arbiterLost s = .next t ∧ t.rd RED_STAT_ARB_LOST = 1 ∧ t.red = { s.red with arbLost := true } ∧ s.raisedAs t 0x223 0 ∧
      s.keepsBut t [RED_STAT_ARB_LOST] ∧ t.cells = s.cells ∧ t.mem = s.mem) ∧
  (∀ s : State, s.redundant = true → s.isStandby = true → ∃ t, exec .standbySettled s = .next t ∧ t.red = { s.red with settle := 0 } ∧
    t.rd RED_UNFIT_SETTLING = 0 ∧ t.cells = s.cells ∧ t.mem = s.mem) ∧
  (∀ s : State, 1024 ≤ s.red.shCyc → s.red.shMis ≤ s.rd RED_SHADOW_CFG_MAX → ∃ t, exec .shadowWindowEnd s = .next t ∧
    t.red = { s.red with shCyc := 0, shMis := 0, shFail := false, shPass := true } ∧ t.cells = s.cells ∧ t.mem = s.mem) ∧
  (∀ s : State, 1024 ≤ s.red.shCyc → s.rd RED_SHADOW_CFG_MAX < s.red.shMis → ∃ t, exec .shadowWindowEnd s = .next t ∧
    t.red = { s.red with shCyc := 0, shMis := 0, shFail := true } ∧ (∃ r ∈ t.flt.raised, r.id = 0x226 ∧ r.edge = s.clk.count) ∧
    t.cells = s.cells ∧ t.mem = s.mem) ∧
  (∀ s : State, s.redundant = true → s.isArbiter = false → ∃ t, exec .request s = .next t ∧ t = { s with red := { s.red with req := 8 } }) ∧
  (∀ gen k (s : State), s.redundant = true → s.isActive = true → gen = (s.rd RED_STAT_GEN + 1) % 256 → s.red.pend = none → s.red.last = none →
    ∃ t, exec (.yield gen k) s = .next t ∧ t.rd RED_STAT_ORDER_PEND = 1 ∧ t.rd RUN_STAT_COMMITTING = 0 ∧
      t.red = { s.red with pend := some ⟨2, gen, (s.orderCycle k).1⟩, last := some ⟨2, gen, k⟩ } ∧ t.cells = s.cells ∧ t.mem = s.mem) ∧
  (∀ gen k (s : State), s.redundant = true → s.isArbiter = false → gen ≠ (s.rd RED_STAT_GEN + 1) % 256 → s.red.last = none →
    ∃ t, exec (.yield gen k) s = .next t ∧ t.rd RED_ORDER_REJ = min (s.rd RED_ORDER_REJ + 1) (2 ^ 32 - 1) ∧ s.onlyFields t [RED_ORDER_REJ]) ∧
  (∀ gen k (s : State), s.redundant = true → s.isStandby = true → gen = (s.rd RED_STAT_GEN + 1) % 256 → s.red.pend = none → s.red.last = none →
    s.rd CHART_STATUS_HOT_PEND = 0 → ∃ t, exec (.take gen k) s = .next t ∧ t.rd RED_STAT_ORDER_PEND = 1 ∧
      t.red = { s.red with pend := some ⟨1, gen, (s.orderCycle k).1⟩, last := some ⟨1, gen, k⟩ } ∧
      s.keepsBut t [RED_STAT_ORDER_PEND, RED_LATE_CNT] ∧ t = { s with regs := t.regs, red := t.red }) ∧
  (∀ o (s : State), s.red.pend = some o → o.kind = 1 → s.takeoverDue = true → s.fresh → ∃ t, exec .takeoverCycle s = .next t ∧
    t.rd TOP_STAT_ROLE = 1 ∧ t.rd RED_STAT_ROLE = 1 ∧ t.rd RED_STAT_GEN = o.gen % 256 ∧ t.rd RED_STAT_ORDER_PEND = 0 ∧
    t.rd RUN_STAT_COMMITTING = 1 ∧ t.red.pend = none ∧ (∀ a, a < 6 → t.rd (REEF_REG_D a) = 0) ∧ s.raisedAs t 0x224 0 ∧ t.cells = s.cells) ∧
  (∀ o (s : State), s.red.pend = some o → o.kind = 2 → s.red.mateLost = false → s.takeoverDue = true → ∃ t, exec .takeoverCycle s = .next t ∧
    t.rd TOP_STAT_ROLE = 2 ∧ t.rd RED_STAT_ROLE = 2 ∧ t.rd RED_STAT_GEN = o.gen % 256 ∧ t.rd RED_STAT_ORDER_PEND = 0 ∧
    t.rd RUN_STAT_COMMITTING = 0 ∧ t.red.pend = none ∧ t.cells = s.cells) ∧
  (∀ gen (s : State), s.redundant = true → s.isActive = true → s.red.pend = none → s.fresh → ∃ t, exec (.fence gen) s = .next t ∧
    t.rd RED_STAT_FENCE_EV = 1 ∧ t.rd RED_FENCE_CNT = min (s.rd RED_FENCE_CNT + 1) (2 ^ 32 - 1) ∧ t.rd RUN_STAT_COMMITTING = 0 ∧
    t.red.pend = some ⟨3, if newerGen gen (s.rd RED_STAT_GEN) then gen else s.rd RED_STAT_GEN, 0⟩ ∧ s.raisedAs t 0x224 0 ∧ t.cells = s.cells) ∧
  (∀ s : State, s.redundant = true → s.isStandby = true → s.rd RED_STAT_ARB_LOST = 1 → s.rd RED_STAT_FIT = 1 → s.rd RED_STAT_ALIVE0_RUN = 0 →
    4 ≤ s.red.witRun → s.red.pend = none → s.rd CHART_STATUS_HOT_PEND = 0 → ∃ t, exec .witnessTakeover s = .next t ∧
      t.rd RED_STAT_ORDER_PEND = 1 ∧ t.red.pend = some ⟨1, (s.rd RED_STAT_GEN + 1) % 256, (ctCycle s.ct + 2) % 2 ^ 32⟩ ∧
      s.keepsBut t [RED_STAT_ORDER_PEND] ∧ t = { s with regs := t.regs, red := t.red })

/-! ### Safety island -/

/-- The island: its inputs and test pulses, the states that a safety cycle sets, its FAULT, its outputs, what stops it and what resets it
(R535, R536, R538 to R545, R550, R553). -/
def Obligations.SafetyIsland : Prop :=
  (∀ i high (s : State), s.safe.powered = true → i < 16 → ∃ t, exec (.safeInputChange i high) s = .next t ∧
    bitOf (t.rd SAFE_IN_LEVEL) i = high ∧ bitOf (t.rd SAFE_IN_RAW) i = high ∧
    (∀ j, j < 16 → j ≠ i → bitOf (t.rd SAFE_IN_LEVEL) j = bitOf (s.rd SAFE_IN_LEVEL) j) ∧ s.onlyFields t [SAFE_IN_LEVEL, SAFE_IN_RAW]) ∧
  (∀ k high (s : State), s.safe.powered = true → k < 8 → s.kUsed k = false → ∃ t, exec (.safeInputChange (16 + k) high) s = .next t ∧
    bitOf (t.rd SAFE_OUT_KFB) k = !high ∧ s.onlyFields t [SAFE_OUT_KFB]) ∧
  (∀ k (s : State), s.safe.powered = true → k < 8 → s.kUsed k = true → ∃ t, exec (.safeInputChange (16 + k) false) s = .next t ∧
    bitOf (t.rd SAFE_OUT_KFB) k = true ∧ t.safe = { s.safe with seen := s.safe.seen ||| 2 ^ k } ∧ s.keepsBut t [SAFE_OUT_KFB] ∧
    t = { s with regs := t.regs, safe := t.safe }) ∧
  (∀ k lows high (s : State), s.safe.powered = true → k < 8 → ∃ t, exec (.testPulse k lows high) s = .next t ∧
    bitOf (t.rd SAFE_IN_FLT_TP) k = high ∧ (∀ j, j < 8 → j ≠ k → bitOf (t.rd SAFE_IN_FLT_TP) j = bitOf (s.rd SAFE_IN_FLT_TP) j) ∧
    (high = true → ∀ i, i < 16 → s.sinUsed i = true → s.sinTp i = k → i ≠ b8 s.safe.sec 6 → bitOf (t.rd SAFE_IN_FLT_SIN) i = true) ∧
    s.keepsBut t [SAFE_IN_FLT_TP, SAFE_IN_FLT_SIN] ∧ t = { s with regs := t.regs, safe := t.safe }) ∧
  (∀ stale (s : State), s.safe.powered = true → s.safe.sec = [] → s.safe.judged = [] → ∃ t, exec (.safetyCycle stale) s = .next t ∧
    t.island = (if s.island = ISL_FAULT then ISL_FAULT else ISL_INIT) ∧
    t.safe.lost = (stale || !s.on LANE_REF_STAT_REF_OK || decide (s.phase = PH_RESET)) ∧
    (t.safe.lost = true → t.rd SAFE_STAT_MAIN_LOST = 1) ∧ t.cells = s.cells ∧ t.mem = s.mem) ∧
  (∀ stale (s : State), s.safe.powered = true → s.safe.sec ≠ [] → s.safe.judged = [] → s.safe.fw = true → s.island ≠ ISL_FAULT →
    ∃ t, exec (.safetyCycle stale) s = .next t ∧ t.island = ISL_STOPPED ∧ t.cells = s.cells ∧ t.mem = s.mem) ∧
  (∀ cause (s : State), s.safe.powered = true → s.island ≠ ISL_FAULT → 1 ≤ cause → cause ≤ 4 → ∃ t, exec (.islandFault cause) s = .next t ∧
    t.island = ISL_FAULT ∧ t.rd SAFE_STAT_ICAUSE = cause ∧ t.rd SAFE_OUT_KOUT = 0 ∧ t.safe.judged = [] ∧
    (∀ f, f < 4 → s.fnType f ≠ 0 → t.rd (SAFE_FUNC_STATE f) = FN_STO ∧ t.rd (SAFE_FUNC_CAUSE f) = 0xD) ∧
    t.rd SAFE_LOG_SEQ = (s.rd SAFE_LOG_SEQ + 1) % 65536 ∧ (∃ r ∈ t.flt.raised, r.id = 0x243 ∧ r.edge = s.clk.count) ∧ t.cells = s.cells) ∧
  (∀ cause (s : State), s.island = ISL_FAULT → ∃ t, exec (.islandFault cause) s = .next t ∧ t = s) ∧
  (∀ f (s : State), f < 4 → (s.safeFn f).kdel = true → ∃ t, exec (.kDelayExpiry f) s = .next t ∧ (t.safeFn f).kdel = false ∧
    t.rd SAFE_STAT_STATE = s.rd SAFE_STAT_STATE ∧ t.cells = s.cells ∧ t.mem = s.mem) ∧
  (∀ k (s : State), s.safe.powered = true → k < 8 → s.kUsed k = true → bitOf (s.rd SAFE_OUT_KOUT) k ≠ bitOf (s.rd SAFE_OUT_KFB) k →
    ∃ t, exec (.contactorFeedbackTimeout k) s = .next t ∧ bitOf (t.rd SAFE_OUT_KFLT) k = true ∧ t.rd SAFE_OUT_KFB = s.rd SAFE_OUT_KFB ∧
      t.cells = s.cells ∧ t.mem = s.mem) ∧
  (∀ s : State, s.safe.powered = true → s.safe.sec ≠ [] → ∃ t, exec .stopReq s = .next t ∧
    t = { s with safe := { s.safe with fw := true, fwNew := true } }) ∧
  (∀ v (s : State), ∃ t, exec (.kReq v) s = .next t ∧ t.rd SAFE_CTRL_K_REQ = v % 256 ∧
    (∀ k, k < 8 → bitOf v k = false → bitOf (t.rd SAFE_OUT_KOUT) k = false) ∧ t.cells = s.cells ∧ t.mem = s.mem) ∧
  (∀ low (s : State), low < 1000 → ∃ t, exec (.safeReset low) s = .next t ∧ t = s) ∧
  (∀ low (s : State), s.safe.powered = true → 1000 ≤ low → low ≤ 20000 → s.safe.sec ≠ [] → s.island ≠ ISL_FAULT →
    ∃ t, exec (.safeReset low) s = .next t ∧ t = { s with safe := { s.safe with reset := true } }) ∧
  (∀ low (s : State), s.safe.powered = true → 20000 < low → ∃ t, exec (.safeReset low) s = .next t ∧ t.rd SAFE_STAT_RESET_REF = 1 ∧
    s.onlyFields t [SAFE_STAT_RESET_REF]) ∧
  (∀ s : State, s.safe.powered = false → ∃ t, exec .vddSafeRise s = .next t ∧ t.safe = { s.safe.restart [] with wrong := 0 } ∧ t.island = ISL_INIT ∧
    t.rd SAFE_OUT_KOUT = 0 ∧ t.rd SAFE_STAT_ICAUSE = 0 ∧ t = { s with regs := t.regs, safe := t.safe }) ∧
  (∀ s : State, ∃ t, exec .vddSafeLoss s = .next t ∧ t.safe.powered = false ∧ t.safe.sec = [] ∧ t.safe.digest = s.safe.digest ∧
    t.safe.record = s.safe.record ∧ t.rd SAFE_STAT_SESSION = 0 ∧ t.rd SAFE_OUT_KOUT = 0 ∧ t.island = ISL_INIT ∧
    t = { s with regs := t.regs, safe := t.safe }) ∧
  (∀ s : State, s.safe.powered = true → ∃ t, exec .vsSafeLoss s = .next t ∧
    (∀ i, i < 16 → bitOf (t.rd SAFE_IN_FLT_SIN) i = (s.sinUsed i || bitOf (s.rd SAFE_IN_FLT_SIN) i)) ∧ s.keepsBut t [SAFE_IN_FLT_SIN] ∧
    t = { s with regs := t.regs, safe := t.safe })

/-- A safety session of the monitor: it opens on the password and locks out after three wrong ones; within it the password is set, a section is
accepted, the island is reset and read; it closes on command and on its timeout (R558 to R560). -/
def Obligations.SafetySession : Prop :=
  (∀ pw (s : State), s.monServes = true → s.rd MON_STAT_BUSY = 0 → s.safe.powered = true → s.rd SAFE_STAT_LOCKOUT = 0 → s.pwRight pw = true →
    ∃ t, exec (.safeOpen pw) s = .next t ∧ t.rd SAFE_STAT_SESSION = 1 ∧ t.rd MON_STAT_LEVEL = 3 ∧ t.safe.wrong = 0 ∧
      t.rd SAFE_LOG_SEQ = (s.rd SAFE_LOG_SEQ + 1) % 65536 ∧ s.says t .balgal [.ok] ∧ t.cells = s.cells ∧ t.mem = s.mem) ∧
  (∀ pw (s : State), s.monServes = true → s.rd MON_STAT_BUSY = 0 → s.safe.powered = true → s.rd SAFE_STAT_LOCKOUT = 0 → s.pwRight pw = false →
    ∃ t, exec (.safeOpen pw) s = .next t ∧ t.rd SAFE_STAT_SESSION = s.rd SAFE_STAT_SESSION ∧ t.rd MON_STAT_LEVEL = s.rd MON_STAT_LEVEL ∧
      t.safe.wrong = (if 2 ≤ s.safe.wrong then 0 else s.safe.wrong + 1) ∧ t.rd SAFE_STAT_LOCKOUT = b2n (decide (2 ≤ s.safe.wrong)) ∧
      s.says t .balgal [.err 4 none] ∧ t.cells = s.cells ∧ t.mem = s.mem) ∧
  (∀ pw (s : State), s.monServes = true → s.rd MON_STAT_BUSY = 0 → s.rd MON_STAT_LEVEL = 3 → s.rd SAFE_STAT_SESSION = 1 →
    (s.island = ISL_INIT ∨ s.island = ISL_STOPPED) → codeOk pw = true → ∃ t, exec (.setPw pw) s = .next t ∧ t.rd SAFE_STAT_PW_SET = 1 ∧
      t.safe.record = pbkdf2 pw t.safe.salt 4096 ∧ t.safe.salt.length = 16 ∧ s.says t .balgal [.ok] ∧ t.cells = s.cells ∧
      t.mem = s.mem) ∧
  (∀ s : State, s.monServes = true → s.rd MON_STAT_BUSY = 0 → s.rd MON_STAT_LEVEL = 3 → s.rd SAFE_STAT_SESSION = 1 → s.rd SAFE_STAT_PW_SET = 1 →
    (s.island = ISL_INIT ∨ s.island = ISL_STOPPED) → s.safe.refused ≠ [] → ∃ t, exec .accept s = .next t ∧
      t.safe = { s.safe with digest := sha256 s.safe.refused } ∧ t.rd SAFE_DIGEST = beNat ((sha256 s.safe.refused).take 4) % 2 ^ 32 ∧
      s.says t .balgal [.ok] ∧ t.cells = s.cells ∧ t.mem = s.mem) ∧
  (∀ s : State, s.monServes = true → s.rd MON_STAT_BUSY = 0 → s.rd MON_STAT_LEVEL = 3 → s.rd SAFE_STAT_SESSION = 1 → s.rd SAFE_STAT_PW_SET = 1 →
    s.island = ISL_FAULT → ∃ t, exec .islandReset s = .next t ∧ t.island ≠ ISL_FAULT ∧ (s.safe.sec = [] → t.island = ISL_INIT) ∧
      t.rd SAFE_STAT_ICAUSE = 0 ∧ t.safe.sec = s.safe.sec ∧ s.says t .balgal [.ok] ∧ t.cells = s.cells ∧ t.mem = s.mem) ∧
  (∀ s : State, s.monServes = true → s.rd MON_STAT_BUSY = 0 → s.rd MON_STAT_LEVEL = 3 → s.rd SAFE_STAT_SESSION = 1 → s.rd SAFE_STAT_PW_SET = 1 →
    s.island ≤ ISL_FAULT → ∃ t, exec .safeRead s = .next t ∧
      s.says t .balgal [.values ([s.island, s.rd SAFE_STAT_ICAUSE] ++ (List.range 4).map (fun f => s.rd (SAFE_FUNC_CAUSE f))), .bytes 0 s.safe.digest, .ok] ∧
      s.keepsBut t [MON_CMD_CNT] ∧ t = { s with regs := t.regs, out := t.out }) ∧
  (∀ s : State, s.monServes = true → s.rd MON_STAT_BUSY = 0 → s.rd MON_STAT_LEVEL = 3 → s.rd SAFE_STAT_SESSION = 1 →
    ∃ t, exec .safeClose s = .next t ∧ t.rd SAFE_STAT_SESSION = 0 ∧ t.rd MON_STAT_LEVEL = s.safe.level % 4 ∧
      s.says t .balgal [.ok] ∧ t.cells = s.cells ∧ t.mem = s.mem) ∧
  (∀ s : State, s.monServes = true → s.rd MON_STAT_BUSY = 0 → s.rd MON_STAT_LEVEL < 3 → s.fresh → ∃ t, exec .safeClose s = .next t ∧
    s.says t .balgal [.err 2 none] ∧ s.raisedAs t 0x2C2 2 ∧ s.keepsBut t [MON_CMD_CNT, MON_DENY_CNT] ∧ t.safe = s.safe) ∧
  (∀ s : State, s.rd SAFE_STAT_SESSION = 1 → ∃ t, exec .sessionTimeout s = .next t ∧ t.rd SAFE_STAT_SESSION = 0 ∧
    t.rd SAFE_LOG_SEQ = (s.rd SAFE_LOG_SEQ + 1) % 65536 ∧ t.out = s.out ∧ t.cells = s.cells ∧ t.mem = s.mem) ∧
  (∀ s : State, s.rd SAFE_STAT_SESSION = 0 → ∃ t, exec .sessionTimeout s = .next t ∧ t = s) ∧
  (∀ s : State, ∃ t, exec .safeLockoutEnd s = .next t ∧ t.rd SAFE_STAT_LOCKOUT = 0 ∧ s.onlyFields t [SAFE_STAT_LOCKOUT])

/-! ### Profile generator -/

/-- The profile generator: an idle and a finished servo period, the commands MOVE, SPEED and HALT as they wait for the next period and as HALT is
taken, the limits and the angle (R563 to R567, R571, R577, R579). -/
def Obligations.ProfileGenerator : Prop :=
  (∀ s : State, s.profOn = true → s.inRun = true → s.profState = PS_IDLE → s.prof.pend = none → s.island = ISL_RUN →
    s.prof.limV = s.rd PROF_V → s.prof.limA = s.rd PROF_A → s.prof.limD = s.rd PROF_D → s.prof.limJ = s.rd PROF_J →
    ∃ t, exec .servoPeriodStart s = .next t ∧ t.prof = s.prof ∧ t.profState = PS_IDLE ∧
      t.rd PROF_SPD = unsigned 32 (toQ16 (s.prof.eval s.reef.start).2.1) ∧ t.rd PROF_ACC = unsigned 32 (toQ16 (s.prof.eval s.reef.start).2.2) ∧
      t.cells = s.cells ∧ t.mem = s.mem) ∧
  (∀ s : State, s.profOn = true → s.inRun = true → s.profState = PS_MOVE → s.prof.ended s.reef.start = true → s.prof.pend = none →
    s.island = ISL_RUN → s.prof.limV = s.rd PROF_V → s.prof.limA = s.rd PROF_A → s.prof.limD = s.rd PROF_D → s.prof.limJ = s.rd PROF_J →
    ∃ t, exec .servoPeriodStart s = .next t ∧ t.profState = PS_IDLE ∧ t.rd PROF_STAT_AT_TARGET = 1 ∧
      t.prof = s.prof.rest (.ofQ16 s.prof.target) ∧ t.cells = s.cells ∧ t.mem = s.mem) ∧
  (∀ x (s : State), s.profOn = true → s.inRun = true → s.profState = PS_IDLE → s.prof.pend = some (3, x) → s.commitView = true →
    s.island = ISL_RUN → s.prof.limV = s.rd PROF_V → s.prof.limA = s.rd PROF_A → s.prof.limD = s.rd PROF_D → s.prof.limJ = s.rd PROF_J →
    ∃ t, exec .servoPeriodStart s = .next t ∧ t.profState = PS_HALT ∧ t.prof.pend = none ∧ t.rd PROF_STAT_CMD_PEND = 0 ∧
      t.rd PROF_REPLAN_CNT = min (s.rd PROF_REPLAN_CNT + 1) (2 ^ 32 - 1) ∧ t.cells = s.cells ∧ t.mem = s.mem) ∧
  (∀ s : State, (s.profOn = false ∨ s.inRun = false) → ∃ t, exec .servoPeriodStart s = .next t ∧ t = s) ∧
  (∀ s : State, s.profSec ≠ [] → ∃ t, exec .move s = .next t ∧ t.prof = { s.prof with pend := some (1, s.rd PROF_TARGET) } ∧
    t.rd PROF_STAT_CMD_PEND = 1 ∧ s.keepsBut t [PROF_STAT_CMD_PEND] ∧ t = { s with regs := t.regs, prof := t.prof }) ∧
  (∀ s : State, s.profSec ≠ [] → ∃ t, exec .speed s = .next t ∧ t.prof = { s.prof with pend := some (2, s.rd PROF_TARGET) } ∧
    t.rd PROF_STAT_CMD_PEND = 1 ∧ s.keepsBut t [PROF_STAT_CMD_PEND] ∧ t = { s with regs := t.regs, prof := t.prof }) ∧
  (∀ s : State, s.profSec ≠ [] → ∃ t, exec .profileHalt s = .next t ∧ t.prof = { s.prof with pend := some (3, s.rd PROF_TARGET) } ∧
    t.rd PROF_STAT_CMD_PEND = 1 ∧ s.keepsBut t [PROF_STAT_CMD_PEND] ∧ t = { s with regs := t.regs, prof := t.prof }) ∧
  (∀ p v (s : State), v.toNat ≠ 0 → v.toNat ≤ b32 s.profSec 8 → ∃ t, exec (.profLimitWrite p 0 v) s = .next t ∧ t.rd PROF_V = v.toNat ∧
    s.onlyFields t [PROF_V]) ∧
  (∀ p v (s : State), v.toNat ≠ 0 → v.toNat ≤ b32 s.profSec 12 → ∃ t, exec (.profLimitWrite p 1 v) s = .next t ∧ t.rd PROF_A = v.toNat ∧
    s.onlyFields t [PROF_A]) ∧
  (∀ p v (s : State), v.toNat ≠ 0 → v.toNat ≤ b32 s.profSec 16 → ∃ t, exec (.profLimitWrite p 2 v) s = .next t ∧ t.rd PROF_D = v.toNat ∧
    s.onlyFields t [PROF_D]) ∧
  (∀ p v (s : State), v.toNat ≠ 0 → v.toNat ≤ b32 s.profSec 20 → ∃ t, exec (.profLimitWrite p 3 v) s = .next t ∧ t.rd PROF_J = v.toNat ∧
    s.onlyFields t [PROF_J]) ∧
  (∀ p k v (s : State), k < 4 → (v.toNat = 0 ∨ b32 s.profSec (8 + 4 * k) < v.toNat) → s.fresh → ∃ t, exec (.profLimitWrite p k v) s = .next t ∧
    t = { s with flt := t.flt } ∧ s.raisedAs t 0x260 (A_PROF_V % 0x10000 + 4 * k + p.master * 65536)) ∧
  (∀ p v (s : State), s.rd RUN_STAT_COMMITTING = 0 → ∃ t, exec (.profAngle p v) s = .next t ∧ t.rd PROF_ANGLE = v.toNat ∧
    s.onlyFields t [PROF_ANGLE]) ∧
  (∀ p v (s : State), s.rd RUN_STAT_COMMITTING = 1 → s.fresh → ∃ t, exec (.profAngle p v) s = .next t ∧ t = { s with flt := t.flt } ∧
    s.raisedAs t 0x260 (A_PROF_ANGLE % 0x10000 + p.master * 65536))

/-! ### Network -/

/-- The Ethernet ports and the strait: what a port drops, the PTP messages and states, sampled values, GOOSE in both directions, the links, and the
message buffers of a strait lane (R584 to R597, R599, R611, R612). -/
def Obligations.Network : Prop :=
  (∀ p len etype ign (s : State), s.portUsed p = true → ∃ t, exec (.ethFrameReceive p len etype false ign) s = .next t ∧
    t.rd (NET_RX_DROP p) = min (s.rd (NET_RX_DROP p) + 1) (2 ^ 32 - 1) ∧ s.onlyFields t [NET_RX_DROP p]) ∧
  (∀ p seq dom two l o c b (s : State), s.ptpOn p = true → dom ≠ 0 → ∃ t, exec (.ptpSync p seq dom two l o c b) s = .next t ∧
    t.rd (NET_PTP_IGN p) = min (s.rd (NET_PTP_IGN p) + 1) (2 ^ 32 - 1) ∧ s.onlyFields t [NET_PTP_IGN p]) ∧
  (∀ p seq l o c b (s : State), s.ptpOn p = true → -4 ≤ l → l ≤ 0 → s.portState p = PTP_SLAVE → (s.ptp p).two = none →
    ∃ t, exec (.ptpSync p seq 0 true l o c b) s = .next t ∧
      t.ptp p = { s.ptp p with two := some (seq, (s.ct : Int) - sixteenths b, c * 4), logInt := l } ∧ (∀ q, q ≠ p → t.ptp q = s.ptp q) ∧
      t = { s with net := t.net }) ∧
  (∀ p seq l o c b (s : State), s.ptpOn p = true → -4 ≤ l → l ≤ 0 → s.portState p = PTP_SLAVE → (s.ptp p).two = none →
    ∃ t, exec (.ptpSync p seq 0 false l o c b) s = .next t ∧ (t.ptp p).sync = true ∧
      t.rd (NET_PTP_OFS p) = unsigned 32 (satInt 32 (to16thNs ((s.ct : Int) - sixteenths b - (o : Int) - c * 4 - (s.ptp p).mean))) ∧
      t.cells = s.cells) ∧
  (∀ p seq arr c0 o c (s : State), s.ptpOn p = true → s.portState p = PTP_SLAVE → (s.ptp p).two = some (seq, arr, c0) →
    ∃ t, exec (.ptpFollowUp p seq o c) s = .next t ∧ (t.ptp p).sync = true ∧ (t.ptp p).two = none ∧
      t.rd (NET_PTP_OFS p) = unsigned 32 (satInt 32 (to16thNs (arr - (o : Int) - (c0 + c * 4) - (s.ptp p).mean))) ∧ t.cells = s.cells) ∧
  (∀ p seq turn (s : State), s.ptpOn p = true → ∃ t, exec (.ptpPdelayReq p seq turn) s = .next t ∧
    t = { s with out := s.out ++ [.eth p (.pdelayResp seq turn)] }) ∧
  (∀ p seq t1 turn b (s : State), s.ptpOn p = true → (s.ptp p).req = some (seq, t1) → ∃ t, exec (.ptpPdelayResp p seq turn b) s = .next t ∧
    t.ptp p = { s.ptp p with
      delays := ((((s.ct : Int) - sixteenths b - (t1 : Int) - turn) / 2) :: (s.ptp p).delays).take 8, req := none } ∧
    t.cells = s.cells ∧ t.mem = s.mem) ∧
  (∀ p st (s : State), s.ptpOn p = true → 1 ≤ st → st ≤ 9 → st ≠ PTP_MASTER → ∃ t, exec (.ptpAnnounce p st) s = .next t ∧
    t.portState p = st ∧ t.ptp p = { s.ptp p with ann := true } ∧ t.cells = s.cells ∧ t.mem = s.mem) ∧
  (∀ p (s : State), s.ptpOn p = true → ∃ t, exec (.ptpPdelaySend p) s = .next t ∧
    t.ptp p = { s.ptp p with seqReq := ((s.ptp p).seqReq + 1) % 65536, req := some (((s.ptp p).seqReq + 1) % 65536, s.ct) } ∧
    t.out = s.out ++ [.eth p (.pdelayReq (((s.ptp p).seqReq + 1) % 65536))] ∧ t = { s with net := t.net, out := t.out }) ∧
  (∀ p (s : State), s.ptpOn p = true → s.portState p = PTP_MASTER → s.mayMaster p = true → ∃ t, exec (.ptpMasterSend p true) s = .next t ∧
    t.ptp p = { s.ptp p with seqSync := ((s.ptp p).seqSync + 1) % 65536 } ∧
    t.out = s.out ++ [.eth p (.sync (((s.ptp p).seqSync + 1) % 65536) s.ct)] ∧ t = { s with net := t.net, out := t.out }) ∧
  (∀ p sync (s : State), s.ptpOn p = true → s.portState p = PTP_MASTER → s.mayMaster p = false → ∃ t, exec (.ptpMasterSend p sync) s = .next t ∧
    t.portState p = PTP_LISTENING ∧ s.onlyFields t [NET_PTP_STAT_PSTATE p]) ∧
  (∀ p (s : State), s.ptpOn p = true → ∃ t, exec (.announceTimeout p) s = .next t ∧
    t.portState p = (if s.mayMaster p then PTP_MASTER else PTP_LISTENING) ∧ t.ptp p = { s.ptp p with ann := false, sync := false } ∧
    t.rd (NET_PTP_STAT_VALID p) = 0 ∧ t.cells = s.cells ∧ t.mem = s.mem) ∧
  (∀ p dst appid i a b (s : State), s.portUsed p = true → s.svFor p dst appid = some i → s.svGood i false [a] = true → a.smpCnt < 65536 →
    tget (fun _ => 0) s.net.sv i ≠ a.smpCnt + 1 → ∃ t, exec (.svFrame p dst appid false [a] b) s = .next t ∧
      t.rd (NET_SV_STAT_STALE i) = 0 ∧ t.rd (NET_SV_STAT_SMPCNT i) = a.smpCnt ∧ tget (fun _ => 0) t.net.sv i = a.smpCnt + 1 ∧
      t.cells = s.cells) ∧
  (∀ p dst appid i sim asdus b (s : State), s.portUsed p = true → s.svFor p dst appid = some i → s.svGood i sim asdus = false →
    ∃ t, exec (.svFrame p dst appid sim asdus b) s = .next t ∧ t.rd (NET_SV_BAD i) = min (s.rd (NET_SV_BAD i) + 1) (2 ^ 32 - 1) ∧
      s.onlyFields t [NET_SV_BAD i]) ∧
  (∀ n (s : State), s.net.sets.any (fun x => x.1 = n) = true → ∃ t, exec (.svSetTimeout n) s = .next t ∧ (∀ x ∈ t.net.sets, x.1 ≠ n) ∧
    t.net.fired.head? = some n ∧ t.cells = s.cells ∧ t.mem = s.mem) ∧
  (∀ i (s : State), i < 8 → s.svOn i = true → s.rd (NET_SV_STAT_STALE i) = 0 → s.fresh → ∃ t, exec (.svStale i) s = .next t ∧
    t.rd (NET_SV_STAT_STALE i) = 1 ∧ s.raisedAs t 0x284 i ∧ s.keepsBut t [NET_SV_STAT_STALE i] ∧ t.cells = s.cells ∧ t.mem = s.mem) ∧
  (∀ p i m (s : State), s.portUsed p = true → s.gsFor p m = some i → s.gsGood i m = true → m.stNum ≠ s.rd (NET_GSUB_ST i) → m.stNum < 2 ^ 32 →
    ∃ t, exec (.gooseReceive p m) s = .next t ∧ t.rd (NET_GSUB_ST i) = m.stNum ∧ t.rd (NET_GSUB_STAT_STALE i) = 0 ∧
      t.rd (NET_GSUB_VAL i) = m.vals % 2 ^ s.gsB i 2 % 2 ^ 32 ∧ t.cells = s.cells ∧ t.mem = s.mem) ∧
  (∀ p i m (s : State), s.portUsed p = true → s.gsFor p m = some i → s.gsGood i m = false → ∃ t, exec (.gooseReceive p m) s = .next t ∧
    t.rd (NET_GS_BAD i) = min (s.rd (NET_GS_BAD i) + 1) (2 ^ 32 - 1) ∧ s.onlyFields t [NET_GS_BAD i]) ∧
  (∀ i (s : State), i < 16 → s.gsOn i = true → s.rd (NET_GSUB_STAT_STALE i) = 0 → s.fresh → ∃ t, exec (.gooseTtlExpire i) s = .next t ∧
    t.rd (NET_GSUB_STAT_STALE i) = 1 ∧ t.rd (NET_GSUB_VAL i) = beNat (s.gsBytes i 16 4) % 2 ^ 32 ∧ s.raisedAs t 0x283 i ∧
    s.keepsBut t [NET_GSUB_STAT_STALE i, NET_GSUB_VAL i] ∧ t.cells = s.cells ∧ t.mem = s.mem) ∧
  (∀ u (s : State), u < 4 → s.pubOn u = true → (s.pub u).sent = true → ∃ t, exec (.gooseRepeat u) s = .next t ∧
    t.pub u = { s.pub u with sq := ((s.pub u).sq + 1) % 2 ^ 32, gap := min (2 * (s.pub u).gap) (s.pub16 u 18) } ∧
    t.out.length = s.out.length + 1 ∧ t = { s with net := t.net, out := t.out }) ∧
  (∀ p (s : State), s.portUsed p = true → ∃ t, exec (.ethLinkUp p true) s = .next t ∧ t.laneLocked (104 + p) = true ∧
    t.rd (NET_PTP_STAT_LINK p) = 1 ∧ t.cells = s.cells ∧ t.mem = s.mem) ∧
  (∀ p (s : State), s.portUsed p = true → ∃ t, exec (.ethLinkDown p) s = .next t ∧ t.laneLocked (104 + p) = false ∧
    t.rd (NET_PTP_STAT_LINK p) = 0 ∧ t.cells = s.cells ∧ t.mem = s.mem) ∧
  (∀ p n v (s : State), n < 4 → bitOf v.toNat 8 = true → s.rd (NET_ST_TXCTRL_TX_BUSY n) = 0 → 1 ≤ v.toNat % 64 → v.toNat % 64 ≤ 48 →
    ∃ t, exec (.straitSend p n v) s = .next t ∧ t.rd (NET_ST_TXCTRL_TX_BUSY n) = 1 ∧ t.rd (NET_ST_TXCTRL_LEN n) = v.toNat % 64 ∧
      t.rd (NET_ST_TXCTRL_SEQ n) = (if s.rd (NET_ST_TXCTRL_SEQ n) = 255 then 1 else s.rd (NET_ST_TXCTRL_SEQ n) + 1) ∧
      (t.stLane n).carried = 0 ∧ t = { s with regs := t.regs, net := t.net }) ∧
  (∀ p n v (s : State), n < 4 → bitOf v.toNat 8 = true → bitOf v.toNat 17 = false → bitOf v.toNat 18 = false →
    (s.rd (NET_ST_TXCTRL_TX_BUSY n) = 1 ∨ v.toNat % 64 = 0 ∨ 48 < v.toNat % 64) → s.fresh → ∃ t, exec (.straitSend p n v) s = .next t ∧
      t = { s with flt := t.flt } ∧ s.raisedAs t 0x280 (A_NET_ST_TXCTRL n % 0x10000 + p.master * 65536)) ∧
  (∀ n (s : State), n < 4 → s.rd (NET_ST_TXCTRL_TX_BUSY n) = 1 → 64 ≤ (s.stLane n).carried → ∃ t, exec (.straitSendFail n) s = .next t ∧
    t.rd (NET_ST_TXCTRL_TX_BUSY n) = 0 ∧ t.rd (NET_ST_TXCTRL_TX_FAIL n) = 1 ∧
    s.onlyFields t [NET_ST_TXCTRL_TX_BUSY n, NET_ST_TXCTRL_TX_FAIL n]) ∧
  (∀ n (s : State), n < 4 → ∃ t, exec (.rxFullFree n) s = .next t ∧ t.rd (NET_ST_RXSTAT_RX_FULL n) = 0 ∧ s.onlyFields t [NET_ST_RXSTAT_RX_FULL n])

/-! ### Host interfaces -/

/-- The PCIe endpoint and the quay: inbound reads and writes and what they abort on, reset and link, the message that is acknowledged, the doorbells
in both directions, and a quay cycle (R600, R602 to R608). -/
def Obligations.HostInterfaces : Prop :=
  (∀ off len (s : State), s.pwr.held = 0 → s.rd HOST_STAT_LINK = 1 → 0 < len → off + len ≤ 0x4000000 → s.memCause off len = none →
    s.poisoned off len = false → ∃ t, exec (.pcieRequest false 2 off len []) s = .next t ∧
      t = { s with out := s.out ++ [.readBytes .pcie (s.bytes off len)] }) ∧
  (∀ off (data : List Byte) len (s : State), s.pwr.held = 0 → s.rd HOST_STAT_LINK = 1 → data ≠ [] → off + data.length ≤ 0x4000000 →
    s.memCause off data.length = none → s.partPoison off data.length = false → ∃ t, exec (.pcieRequest true 2 off len data) s = .next t ∧
      (∀ i, (h : i < data.length) → t.byte (off + i) = data[i]) ∧ (∀ a, a < off ∨ off + data.length ≤ a → t.byte a = s.byte a) ∧
      t.out = s.out ∧ t = { s with mem := t.mem, mst := t.mst }) ∧
  (∀ bar off len (s : State), s.pwr.held = 0 → s.rd HOST_STAT_LINK = 1 → 0 < len → bar ≠ 0 → barAddr bar off len = none →
    ∃ t, exec (.pcieRequest false bar off len []) s = .next t ∧ t = { s with out := s.out ++ [.busErr .pcie 2] }) ∧
  (∀ wr bar off len data (s : State), (s.pwr.held ≠ 0 ∨ s.rd HOST_STAT_LINK = 0) → ∃ t, exec (.pcieRequest wr bar off len data) s = .next t ∧ t = s) ∧
  (∀ up (s : State), s.rd HOST_STAT_LINK = 1 → s.fresh → ∃ t, exec (.pcieReset up) s = .next t ∧ t.rd HOST_OB_BASE_HI = 0 ∧
    t.rd HOST_OB_BASE_LO_ADDR = 0 ∧ t.rd HOST_STAT_MSIX = 0 ∧ t.mon.master = false ∧ t.mon.msix = [] ∧ t.rd HOST_STAT_LINK = b2n up ∧
    (up = true → t.flt = s.flt) ∧ (up = false → s.raisedAs t 0x2A2 0) ∧ t.cells = s.cells ∧ t.mem = s.mem) ∧
  (∀ s : State, s.rd HOST_STAT_LINK = 1 → s.fresh → ∃ t, exec .pcieLinkLoss s = .next t ∧ t.rd HOST_STAT_LINK = 0 ∧ t.rd HOST_STAT_SPEED = 0 ∧
    t.rd HOST_STAT_WIDTH = 0 ∧ s.raisedAs t 0x2A2 0 ∧ s.keepsBut t [HOST_STAT_LINK, HOST_STAT_SPEED, HOST_STAT_WIDTH] ∧ t.cells = s.cells ∧
    t.mem = s.mem) ∧
  (∀ s : State, s.rd HOST_STAT_LINK = 0 → ∃ t, exec .pcieLinkLoss s = .next t ∧ t = s) ∧
  (∀ gen width msix master (s : State), s.pwr.held = 0 → 1 ≤ gen → gen ≤ 3 → (width = 1 ∨ width = 2 ∨ width = 4) →
    ∃ t, exec (.pcieLinkUp gen width msix master) s = .next t ∧ t.rd HOST_STAT_LINK = 1 ∧ t.rd HOST_STAT_SPEED = gen ∧
      t.rd HOST_STAT_WIDTH = width ∧ t.rd HOST_STAT_MSIX = b2n msix ∧ t.mon.master = master ∧
      s.keepsBut t [HOST_STAT_LINK, HOST_STAT_SPEED, HOST_STAT_WIDTH, HOST_STAT_MSIX] ∧ t.cells = s.cells ∧ t.mem = s.mem) ∧
  (∀ s : State, s.irq = true → s.rd HOST_STAT_MSIX = 1 → s.rd HOST_STAT_LINK = 1 → ∃ t, exec .msiAck s = .next t ∧
    t = { s with out := s.out ++ [.msix 0] }) ∧
  (∀ s : State, s.irq = false → ∃ t, exec .msiAck s = .next t ∧ t = s) ∧
  (∀ v (s : State), v ≠ 0 → s.rd HOST_STAT_LINK = 1 → ∃ t, exec (.hdbSet v) s = .next t ∧ t.rd HOST_HDB = s.rd HOST_HDB ||| v.toNat ∧
    t.out = s.out ++ (if s.rd HOST_STAT_MSIX = 1 then [.msix 1] else []) ∧ s.keepsBut t [HOST_HDB] ∧
    t = { s with regs := t.regs, out := t.out }) ∧
  (∀ v (s : State), v ≠ 0 → ∃ t, exec (.pdbSet .pcie v) s = .next t ∧ t.rd HOST_PDB = s.rd HOST_PDB ||| v.toNat ∧ t.cells = s.cells ∧
    t.mem = s.mem ∧ t.out = s.out) ∧
  (∀ p v (s : State), p ≠ .pcie → s.fresh → ∃ t, exec (.pdbSet p v) s = .next t ∧ t = { s with flt := t.flt } ∧
    s.raisedAs t 0x2A0 (A_HOST_PDB_SET % 0x10000 + p.master * 65536)) ∧
  (∀ q v a w (s : State), s.pwr.held = 0 → s.quayAddr (q % 2 ^ 24 / 4 * 4) = some a → (s.busRead .quay a 0).1 = .ok w →
    ∃ t, exec (.quayAccess true false q v) s = .next t ∧ t = { (s.busRead .quay a 0).2 with out := (s.busRead .quay a 0).2.out ++ [.readData .quay w] }) ∧
  (∀ q v (s : State), s.pwr.held = 0 → s.quayAddr (q % 2 ^ 24 / 4 * 4) = none → s.rd HOST_QY_ERR_VALID = 0 →
    ∃ t, exec (.quayAccess true false q v) s = .next t ∧ t.out = s.out ++ [.busErr .quay 2] ∧ t.rd HOST_QY_ERR_VALID = 1 ∧
      t.rd HOST_QY_ERR_CAUSE = 2 ∧ t.rd HOST_QY_ERR_Q = q % 2 ^ 24 / 4 ∧
      s.keepsBut t [HOST_QY_ERR_Q, HOST_QY_ERR_CAUSE, HOST_QY_ERR_VALID] ∧ t = { s with regs := t.regs, out := t.out }) ∧
  (∀ q v (s : State), ∃ t, exec (.quayAccess false false q v) s = .next t ∧ t = s) ∧
  (∀ v (s : State), v ≠ 0 → ∃ t, exec (.quayDoorbell .quay v) s = .next t ∧ t.rd HOST_QDB = s.rd HOST_QDB ||| v.toNat ∧ t.cells = s.cells ∧
    t.mem = s.mem ∧ t.out = s.out) ∧
  (∀ p v (s : State), p ≠ .quay → s.fresh → ∃ t, exec (.quayDoorbell p v) s = .next t ∧ t = { s with flt := t.flt } ∧
    s.raisedAs t 0x2A0 (A_HOST_QY_QDB_SET % 0x10000 + p.master * 65536)) ∧
  (∀ s : State, ∃ t, exec .quayStrobeStuck s = .next t ∧ t.rd HOST_QY_STUCK = min (s.rd HOST_QY_STUCK + 1) (2 ^ 32 - 1) ∧
    s.onlyFields t [HOST_QY_STUCK])

/-! ### Monitor -/

/-- The levels of the monitor ports of both chips: what raises and drops them, what disables a port, what an unknown and a partial line do, and the
keys that are programmed and revoked (R620, R621, R623, R625, R628, R631, R677). -/
def Obligations.MonitorLevels : Prop :=
  (∀ code (s : State), s.monServes = true → s.rd MON_STAT_BUSY = 0 → s.rd MON_STAT_LOCKOUT = 0 → s.rd MON_STAT_DEFAULTS = 1 →
    s.rd MON_STAT_LEVEL < 3 → ∃ t, exec (.level .balgal 1 code) s = .next t ∧ t.rd MON_STAT_LEVEL = max (s.rd MON_STAT_LEVEL) 1 ∧
      s.says t .balgal [.ok] ∧ s.keepsBut t [MON_STAT_LEVEL, MON_CMD_CNT] ∧ t = { s with regs := t.regs, out := t.out }) ∧
  (∀ code (s : State), s.monServes = true → s.rd MON_STAT_BUSY = 0 → s.rd MON_STAT_LOCKOUT = 0 → s.rd MON_STAT_KEY_STRAP = 1 →
    1 ≤ s.rd MON_STAT_LEVEL → s.rd MON_STAT_LEVEL ≤ 2 → ∃ t, exec (.level .balgal 2 code) s = .next t ∧ t.rd MON_STAT_LEVEL = 2 ∧
      s.says t .balgal [.ok] ∧ s.keepsBut t [MON_STAT_LEVEL, MON_CMD_CNT] ∧ t = { s with regs := t.regs, out := t.out }) ∧
  (∀ n code (s : State), s.monServes = true → s.rd MON_STAT_BUSY = 0 → s.rd MON_STAT_LOCKOUT = 1 → ∃ t, exec (.level .balgal n code) s = .next t ∧
    s.says t .balgal [.err 7 none] ∧ s.keepsBut t [MON_CMD_CNT] ∧ t = { s with regs := t.regs, out := t.out }) ∧
  (∀ g code (s : State), (s.cell g).monServes = true → (s.cell g).rd SK_MON_STAT_LOCKOUT = 0 → (s.cell g).param ≠ [] →
    (((s.cell g).param.drop 80).take 32).all (fun b => decide (b = 0)) = false → codeOk code = true →
    sha256 (((s.cell g).param.drop 64).take 16 ++ code) = ((s.cell g).param.drop 80).take 32 →
    ∃ t, exec (.level (.skerry g) 1 code) s = .next t ∧ (t.cell g).rd SK_MON_STAT_LEVEL = 1 ∧ (t.cell g).monBad = 0 ∧
      s.says t (.skerry g) [.ok] ∧ (∀ h, h ≠ g → t.cell h = s.cell h) ∧ t = { s with cells := t.cells, out := t.out }) ∧
  (∀ s : State, s.monServes = true → s.rd MON_STAT_BUSY = 0 → ∃ t, exec (.quit .balgal) s = .next t ∧ t.rd MON_STAT_LEVEL = 0 ∧
    t.rd SAFE_STAT_SESSION = 0 ∧ s.says t .balgal [.ok] ∧ t.cells = s.cells ∧ t.mem = s.mem) ∧
  (∀ g (s : State), (s.cell g).monServes = true → ∃ t, exec (.quit (.skerry g)) s = .next t ∧ (t.cell g).rd SK_MON_STAT_LEVEL = 0 ∧
    (s.cell g).onlyFields (t.cell g) [SK_MON_STAT_LEVEL] ∧ s.says t (.skerry g) [.ok] ∧ (∀ h, h ≠ g → t.cell h = s.cell h) ∧
    t = { s with cells := t.cells, out := t.out }) ∧
  (∀ s : State, s.monServes = true → s.rd MON_STAT_BUSY = 0 → 1 ≤ s.rd MON_STAT_LEVEL → ∃ t, exec .off s = .next t ∧
    t.rd MON_STAT_ENABLED = 0 ∧ t.rd MON_STAT_LEVEL = 0 ∧ t.rd MON_CTRL_OFF = 1 ∧ s.says t .balgal [.ok] ∧ t.cells = s.cells) ∧
  (∀ s : State, s.monServes = true → s.rd MON_STAT_BUSY = 0 → s.rd MON_STAT_LEVEL = 0 → s.fresh → ∃ t, exec .off s = .next t ∧
    s.says t .balgal [.err 2 none] ∧ t.rd MON_STAT_ENABLED = s.rd MON_STAT_ENABLED ∧ s.raisedAs t 0x2C2 2 ∧
    t.rd MON_DENY_CNT = min (s.rd MON_DENY_CNT + 1) (2 ^ 32 - 1)) ∧
  (∀ s : State, s.pwr.held = 0 → ∃ t, exec .monOffWrite s = .next t ∧ t.rd MON_STAT_ENABLED = 0 ∧ t.rd MON_STAT_LEVEL = 0 ∧
    t.rd MON_CTRL_OFF = 1 ∧ t.out = s.out ∧ t.cells = s.cells) ∧
  (∀ s : State, ∃ t, exec (.monIdleTimeout .balgal) s = .next t ∧ t.rd MON_STAT_LEVEL = 0 ∧ t.rd SAFE_STAT_SESSION = 0 ∧
    t.rd MON_STAT_ENABLED = s.rd MON_STAT_ENABLED ∧ t.out = s.out ∧ t.cells = s.cells) ∧
  (∀ g (s : State), ∃ t, exec (.monIdleTimeout (.skerry g)) s = .next t ∧ t = s) ∧
  (∀ s : State, ∃ t, exec (.monLockoutEnd .balgal) s = .next t ∧ t.rd MON_STAT_LOCKOUT = 0 ∧ s.onlyFields t [MON_STAT_LOCKOUT]) ∧
  (∀ g (s : State), (s.cell g).inRun = true → ∃ t, exec (.monLockoutEnd (.skerry g)) s = .next t ∧ (t.cell g).rd SK_MON_STAT_LOCKOUT = 0 ∧
    (s.cell g).onlyFields (t.cell g) [SK_MON_STAT_LOCKOUT] ∧ s.onlyCell t g) ∧
  (∀ c (s : State), ∃ t, exec (.partialLineTimeout c) s = .next t ∧ t = s) ∧
  (∀ empty (s : State), s.monServes = true → s.rd MON_STAT_BUSY = 0 → ∃ t, exec (.unknownCommand .balgal empty) s = .next t ∧
    s.says t .balgal [if empty then .ok else .err 1 none] ∧ t = { s with out := t.out }) ∧
  (∀ g empty (s : State), (s.cell g).monServes = true → ∃ t, exec (.unknownCommand (.skerry g) empty) s = .next t ∧
    s.says t (.skerry g) [if empty then .ok else .err 1 none] ∧ t = { s with out := t.out }) ∧
  (∀ k (key : List Byte) (s : State), s.monServes = true → s.rd MON_STAT_BUSY = 0 → 2 ≤ s.rd MON_STAT_LEVEL → key.length = 32 → k < 4 →
    bitOf s.chart.keyProg k = false → bitOf s.chart.keyRev k = false → ∃ t, exec (.keyProg k key) s = .next t ∧
      tget (fun _ => []) t.chart.keys k = key ∧ bitOf t.chart.keyProg k = true ∧ (∀ j, j ≠ k → tget (fun _ => []) t.chart.keys j = tget (fun _ => []) s.chart.keys j) ∧
      t.rd CHART_KEY_STATE_PROG = (s.chart.keyProg ||| 2 ^ k) % 16 ∧ s.says t .balgal [.ok] ∧
      s.keepsBut t [CHART_KEY_STATE_PROG, MON_CMD_CNT] ∧ t.cells = s.cells ∧ t.mem = s.mem) ∧
  (∀ k (s : State), s.monServes = true → s.rd MON_STAT_BUSY = 0 → 2 ≤ s.rd MON_STAT_LEVEL → k < 4 → bitOf s.chart.keyProg k = true →
    ∃ t, exec (.keyRevoke k) s = .next t ∧ t.chart = { s.chart with keyRev := s.chart.keyRev ||| 2 ^ k } ∧
      t.rd CHART_KEY_STATE_REVOKED = (s.chart.keyRev ||| 2 ^ k) % 16 ∧ s.says t .balgal [.ok] ∧
      s.keepsBut t [CHART_KEY_STATE_REVOKED, MON_CMD_CNT] ∧ t.cells = s.cells ∧ t.mem = s.mem)

/-- What the monitor prints and writes: words, dumps, the traces, the chart and its sections, a cell's log, and the freight it asks for
(R626 to R630, R675, R676). -/
def Obligations.MonitorAccess : Prop :=
  (∀ a host (s : State), s.monServes = true → s.rd MON_STAT_BUSY = 0 → a % 4 = 0 → a + 4 ≤ 0x04000000 → s.memCause a 4 = none →
    s.poisoned a 4 = false → ∃ t, exec (.rd .balgal a 1 host) s = .next t ∧
      s.says t .balgal [.word a (BitVec.ofNat 32 (leNat (s.bytes a 4))), .ok] ∧ s.keepsBut t [MON_CMD_CNT] ∧
      t = { s with regs := t.regs, out := t.out }) ∧
  (∀ a n host (s : State), s.monServes = true → s.rd MON_STAT_BUSY = 0 → (n = 0 ∨ 256 < n) → ∃ t, exec (.rd .balgal a n host) s = .next t ∧
    s.says t .balgal [.err 4 none] ∧ s.keepsBut t [MON_CMD_CNT] ∧ t = { s with regs := t.regs, out := t.out }) ∧
  (∀ g a host (s : State), (s.cell g).monServes = true → a % 4 = 0 → a < 0x80000 → ∃ t, exec (.rd (.skerry g) a 1 host) s = .next t ∧
    s.says t (.skerry g) [.word a ((s.cell g).memWord a), .ok] ∧ (∀ h, t.cell h = s.cell h) ∧
    t = { s with cells := t.cells, out := t.out }) ∧
  (∀ a v still (s : State), s.monServes = true → s.rd MON_STAT_BUSY = 0 → 1 ≤ s.rd MON_STAT_LEVEL → a % 4 = 0 → a + 4 ≤ 0x04000000 →
    s.memCause a 4 = none → s.partPoison a 4 = false → ∃ t, exec (.wr .balgal a v still) s = .next t ∧ t.bytes a 4 = leBytes 4 v.toNat ∧
      (∀ b, b < a ∨ a + 4 ≤ b → t.byte b = s.byte b) ∧ s.says t .balgal [.ok] ∧ s.keepsBut t [MON_CMD_CNT] ∧ t.cells = s.cells) ∧
  (∀ g a v still (s : State), (s.cell g).monServes = true → (s.cell g).rd SK_MON_STAT_LEVEL = 1 → a % 4 = 0 → a < 0x80000 →
    ∃ t, exec (.wr (.skerry g) a v still) s = .next t ∧ (t.cell g).bytes a 4 = leBytes 4 v.toNat ∧
      (∀ b, b < a ∨ a + 4 ≤ b → (t.cell g).byte b = (s.cell g).byte b) ∧ t.cell g = { s.cell g with mem := (t.cell g).mem } ∧
      s.says t (.skerry g) [.ok] ∧ (∀ h, h ≠ g → t.cell h = s.cell h) ∧ t = { s with cells := t.cells, out := t.out }) ∧
  (∀ a n (s : State), s.monServes = true → s.rd MON_STAT_BUSY = 0 → 1 ≤ n → n ≤ 16 → a + n ≤ 0x04000000 → s.memCause a n = none →
    s.poisoned a n = false → ∃ t, exec (.dump .balgal a n) s = .next t ∧
      s.says t .balgal [.bytes a (s.bytes a n), .ok] ∧ s.keepsBut t [MON_CMD_CNT] ∧
      t = { s with regs := t.regs, out := t.out }) ∧
  (∀ g a n (s : State), (s.cell g).monServes = true → 1 ≤ n → n ≤ 16 → a + n ≤ 0x80000 → ∃ t, exec (.dump (.skerry g) a n) s = .next t ∧
    s.says t (.skerry g) [.bytes a ((s.cell g).bytes a n), .ok] ∧ t = { s with out := t.out }) ∧
  (∀ u (s : State), s.monServes = true → s.rd MON_STAT_BUSY = 0 → u < 16 → (s.tap u).n = 0 → ∃ t, exec (.traceTap u) s = .next t ∧
    s.says t .balgal [.values [(s.rdW (A_LOOP_TAP_STAT u)).toNat, s.rd (LOOP_TAP_T0_NS u), s.rd (LOOP_TAP_T0_SEC u)], .ok] ∧ s.keepsBut t [MON_CMD_CNT] ∧ t = { s with regs := t.regs, out := t.out }) ∧
  (∀ a (s : State), s.monServes = true → s.rd MON_STAT_BUSY = 0 → 1 ≤ s.rd SCHED_TRACE_SIZE →
    a = s.rd SCHED_TRACE_BASE_BASE * 16 + 16 * ((s.rd SCHED_TRACE_WIDX + s.rd SCHED_TRACE_SIZE - 1) % s.rd SCHED_TRACE_SIZE) →
    s.memCause a 16 = none → s.poisoned a 16 = false → ∃ t, exec (.traceSched 1) s = .next t ∧
      s.says t .balgal [.bytes a (s.bytes a 16), .ok] ∧ s.keepsBut t [MON_CMD_CNT] ∧
      t = { s with regs := t.regs, out := t.out }) ∧
  (∀ s : State, s.monServes = true → s.rd MON_STAT_BUSY = 0 → ∃ t, exec .chart s = .next t ∧
    s.says t .balgal (Line.values ([A_CHART_STATUS, A_CHART_FAIL_INFO, A_CHART_ID, A_CHART_BUILD_DIGEST, A_CHART_HOT_DIGEST].map
        (fun a => (s.regView .monitor a).toNat)) ::
      ((s.chart.dir.filter (fun e => storeTypes.contains (e.1 / 256))).map
        (fun e => Line.values [e.1 / 256, e.1 % 256, e.2.1, e.2.2.1, e.2.2.2]) ++ [Line.ok])) ∧
    s.keepsBut t [MON_CMD_CNT] ∧ t = { s with regs := t.regs, out := t.out }) ∧
  (∀ ty inst (s : State), s.monServes = true → s.rd MON_STAT_BUSY = 0 → storeTypes.contains ty = true → inst < 256 → s.sec ty inst ≠ [] →
    ∃ t, exec (.chartSec ty inst) s = .next t ∧ s.says t .balgal [.bytes 0 (s.sec ty inst), .ok] ∧
      s.keepsBut t [MON_CMD_CNT] ∧ t = { s with regs := t.regs, out := t.out }) ∧
  (∀ g a n (s : State), s.monServes = true → s.rd MON_STAT_BUSY = 0 → 1 ≤ n → n ≤ 12 → s.isCell g = true → s.inRun = true → s.isActive = true →
    s.frRefused g 1 a (4 * n) 0 = false → ∃ t, exec (.cellRd g a n) s = .next t ∧ t.rd MON_STAT_BUSY = 1 ∧
      t.mon.slot.map (fun j => (j.cell, j.op, j.addr, j.len, j.data)) = some (g, 1, a, 4 * n, []) ∧ s.keepsBut t [MON_STAT_BUSY, MON_CMD_CNT] ∧
      t = { s with regs := t.regs, mon := t.mon }) ∧
  (∀ g a v (s : State), s.monServes = true → s.rd MON_STAT_BUSY = 0 → 1 ≤ s.rd MON_STAT_LEVEL → s.isCell g = true → s.inRun = true →
    s.isActive = true → s.frRefused g 2 a 4 0 = false → ∃ t, exec (.cellWr g a v) s = .next t ∧ t.rd MON_STAT_BUSY = 1 ∧
      t.mon.slot.map (fun j => (j.cell, j.op, j.addr, j.len, j.data)) = some (g, 2, a, 4, leBytes 4 v.toNat) ∧
      s.keepsBut t [MON_STAT_BUSY, MON_CMD_CNT] ∧ t = { s with regs := t.regs, mon := t.mon }) ∧
  (∀ g off (s : State), s.monServes = true → s.rd MON_STAT_BUSY = 0 → s.isCell g = true → s.inRun = true → s.isActive = true →
    s.frRefused g 5 off 48 0 = false → ∃ t, exec (.cellLog g off) s = .next t ∧ t.rd MON_STAT_BUSY = 1 ∧
      t.mon.slot.map (fun j => (j.cell, j.op, j.addr, j.len, j.data)) = some (g, 5, off, 48, []) ∧ s.keepsBut t [MON_STAT_BUSY, MON_CMD_CNT] ∧
      t = { s with regs := t.regs, mon := t.mon }) ∧
  (∀ g (s : State), s.monServes = true → s.rd MON_STAT_BUSY = 0 → 1 ≤ s.rd MON_STAT_LEVEL → s.isCell g = true → s.inRun = true →
    s.isActive = true → s.frRefused g 6 (0x80000000 + g) 0 0 = false → ∃ t, exec (.cellReset g) s = .next t ∧ t.rd MON_STAT_BUSY = 1 ∧
      t.mon.slot.map (fun j => (j.cell, j.op, j.addr, j.len, j.data)) = some (g, 6, 0x80000000 + g, 0, []) ∧
      s.keepsBut t [MON_STAT_BUSY, MON_CMD_CNT] ∧ t = { s with regs := t.regs, mon := t.mon }) ∧
  (∀ g off (s : State), (s.cell g).monServes = true → off + 48 ≤ 0x10000 → ∃ t, exec (.monLog g off) s = .next t ∧
    s.says t (.skerry g) [.bytes off ((s.cell g).bytes (0x10000000 + off) 48), .ok] ∧ t = { s with out := t.out })
end

