-- ==== Sys2Proof/Laws/Tables.lean ====
section
/-! SUPPORT. Sparse tables: a read after a write, and every operation keeps the canonical form. -/

namespace Sys2Proof.Machine

variable {α : Type}

@[simp] theorem tget_nil (d : Nat → α) (k : Nat) : tget d [] k = d k := rfl

theorem tget_tdel_same (d : Nat → α) (m : List (Nat × α)) (k : Nat) : tget d (tdel k m) k = d k := by
  induction m with
  | nil => rfl
  | cons e t ih => by_cases h : e.1 = k <;> simp [tdel, tget, h, ih]

theorem tget_tdel_ne (d : Nat → α) (m : List (Nat × α)) {k j : Nat} (h : k ≠ j) : tget d (tdel k m) j = tget d m j := by
  induction m with
  | nil => rfl
  | cons e t ih =>
    by_cases hk : e.1 = k
    · simp [tdel, tget, hk, h, ih]
    · simp [tdel, tget, hk, ih]

theorem tget_tins_ne (d : Nat → α) (m : List (Nat × α)) (v : α) {k j : Nat} (h : k ≠ j) :
    tget d (tins k v m) j = tget d m j := by
  induction m with
  | nil => simp [tins, tget, h]
  | cons e t ih =>
    by_cases hlt : k < e.1
    · simp [tins, tget, hlt, h]
    · simp [tins, tget, hlt, ih]

theorem tget_tins_tdel_same (d : Nat → α) (m : List (Nat × α)) (k : Nat) (v : α) :
    tget d (tins k v (tdel k m)) k = v := by
  induction m with
  | nil => simp [tdel, tins, tget]
  | cons e t ih =>
    by_cases hk : e.1 = k
    · simp [tdel, hk, ih]
    · by_cases hlt : k < e.1 <;> simp [tdel, tins, tget, hk, hlt, ih]

theorem tdel_eq_filter (k : Nat) : ∀ m : List (Nat × α), tdel k m = m.filter (fun e => decide (e.1 ≠ k))
  | [] => rfl
  | e :: t => by by_cases h : e.1 = k <;> simp [tdel, h, tdel_eq_filter k t]

theorem not_mem_tdel (k : Nat) (m : List (Nat × α)) : ∀ e ∈ tdel k m, e.1 ≠ k := by
  intro e he
  rw [tdel_eq_filter] at he
  simpa using (List.mem_filter.mp he).2

variable [DecidableEq α]

/-- Reading a key after writing it gives the value written. -/
@[simp] theorem tget_tset_same (d : Nat → α) (m : List (Nat × α)) (k : Nat) (v : α) : tget d (tset d m k v) k = v := by
  unfold tset
  split
  · rename_i h; rw [tget_tdel_same, h]
  · exact tget_tins_tdel_same d m k v

/-- Writing a key leaves every other key alone. -/
theorem tget_tset_ne (d : Nat → α) (m : List (Nat × α)) (v : α) {k j : Nat} (h : k ≠ j) :
    tget d (tset d m k v) j = tget d m j := by
  unfold tset
  split
  · exact tget_tdel_ne d m h
  · rw [tget_tins_ne d _ v h, tget_tdel_ne d m h]

theorem tget_tset (d : Nat → α) (m : List (Nat × α)) (k j : Nat) (v : α) :
    tget d (tset d m k v) j = if k = j then v else tget d m j := by
  by_cases h : k = j
  · subst h; simp
  · simp [h, tget_tset_ne d m v h]

/-! ### The canonical form -/

/-- A bound below the first key can be lowered. -/
theorem twfFrom_mono (d : Nat → α) {b c : Nat} (h : b ≤ c) :
    ∀ m : List (Nat × α), twfFrom d (some c) m = true → twfFrom d (some b) m = true
  | [], _ => rfl
  | (k, v) :: t, hm => by
    simp only [twfFrom, Bool.and_eq_true, decide_eq_true_eq] at hm ⊢
    exact ⟨⟨Nat.lt_of_le_of_lt h hm.1.1, hm.1.2⟩, hm.2⟩

theorem twfFrom_none_of_some (d : Nat → α) (b : Nat) :
    ∀ m : List (Nat × α), twfFrom d (some b) m = true → twfFrom d none m = true
  | [], _ => rfl
  | (k, v) :: t, hm => by
    simp only [twfFrom, Bool.and_eq_true, decide_eq_true_eq] at hm ⊢
    exact ⟨⟨trivial, hm.1.2⟩, hm.2⟩

theorem twfFrom_filter (d : Nat → α) (p : Nat × α → Bool) :
    ∀ (m : List (Nat × α)) (b : Option Nat), twfFrom d b m = true → twfFrom d b (m.filter p) = true
  | [], _, _ => by simp [twfFrom]
  | (k, v) :: t, b, hm => by
    simp only [twfFrom, Bool.and_eq_true] at hm
    have ih := twfFrom_filter d p t (some k) hm.2
    by_cases hp : p (k, v) = true
    · simp only [List.filter_cons, hp, if_true, twfFrom, Bool.and_eq_true]
      exact ⟨hm.1, ih⟩
    · simp only [List.filter_cons, hp]
      cases b with
      | none => exact twfFrom_none_of_some d k _ ih
      | some c => exact twfFrom_mono d (Nat.le_of_lt (by simpa using hm.1.1)) _ ih

theorem twfFrom_tdel (d : Nat → α) (k : Nat) (m : List (Nat × α)) (b : Option Nat) (h : twfFrom d b m = true) :
    twfFrom d b (tdel k m) = true := by
  rw [tdel_eq_filter]; exact twfFrom_filter d _ m b h

/-- A new entry keeps the form of a table that does not list its key. -/
theorem twfFrom_tins (d : Nat → α) (k : Nat) (v : α) (hv : v ≠ d k) :
    ∀ (m : List (Nat × α)) (b : Option Nat), (∀ c, b = some c → c < k) → (∀ e ∈ m, e.1 ≠ k) → twfFrom d b m = true →
      twfFrom d b (tins k v m) = true
  | [], b, hb, _, _ => by cases b with
    | none => simp [tins, twfFrom, hv]
    | some c => simp [tins, twfFrom, hv, hb c rfl]
  | (j, w) :: t, b, hb, hne, hm => by
    simp only [twfFrom, Bool.and_eq_true] at hm
    by_cases hlt : k < j
    · simp only [tins, hlt, if_true, twfFrom, Bool.and_eq_true]
      refine ⟨⟨?_, by simpa using hv⟩, ⟨by simp, hm.1.2⟩, hm.2⟩
      cases b with
      | none => rfl
      | some c => simpa using hb c rfl
    · simp only [tins, hlt, if_false, twfFrom, Bool.and_eq_true]
      have hjk : j ≠ k := hne (j, w) (by simp)
      exact ⟨hm.1, twfFrom_tins d k v hv t (some j) (by intro c hc; cases hc; omega)
        (fun e he => hne e (by simp [he])) hm.2⟩

/-- A write keeps the canonical form. -/
theorem twf_tset (d : Nat → α) (m : List (Nat × α)) (k : Nat) (v : α) (h : twf d m = true) : twf d (tset d m k v) = true := by
  unfold tset twf at *
  split
  · exact twfFrom_tdel d k m none h
  · rename_i hv
    exact twfFrom_tins d k v hv _ none (by simp) (not_mem_tdel k m) (twfFrom_tdel d k m none h)

/-- Dropping entries keeps the canonical form. -/
theorem twf_filter (d : Nat → α) (p : Nat × α → Bool) (m : List (Nat × α)) (h : twf d m = true) :
    twf d (m.filter p) = true := twfFrom_filter d p m none h

@[simp] theorem twf_nil (d : Nat → α) : twf d [] = true := rfl

end Sys2Proof.Machine
end

