-- ==== Sys2Proof/Laws/Fields.lean ====
section
/-! SUPPORT. Bit fields of register words: what a field reads after a field is written, in a word, on the Balgal and on a
Skerry (R6). -/

namespace Sys2Proof.Machine
open Sys2Proof

theorem testBit_bitsOf (w : Word) (lo n i : Nat) : (bitsOf w lo n).testBit i = (decide (i < n) && w.getLsbD (lo + i)) := by
  simp [bitsOf, Nat.testBit_mod_two_pow, Nat.testBit_shiftRight, BitVec.getLsbD]

theorem getLsbD_bitsPut (w : Word) (lo n v i : Nat) (hi : i < 32) :
    (bitsPut w lo n v).getLsbD i = if lo ≤ i ∧ i < lo + n then v.testBit (i - lo) else w.getLsbD i := by
  simp only [bitsPut, BitVec.getLsbD_or, BitVec.getLsbD_and, BitVec.getLsbD_not, BitVec.getLsbD_ofNat, Nat.testBit_shiftLeft,
    Nat.testBit_mod_two_pow, Nat.testBit_two_pow_sub_one, hi, decide_true, Bool.true_and]
  by_cases h1 : lo ≤ i
  · by_cases h2 : i < lo + n
    · have h3 : i - lo < n := by omega
      simp [h1, h2, h3]
    · have h3 : ¬ i - lo < n := by omega
      simp [h1, h2, h3]
  · simp [h1]

/-- A field reads the low bits of what was written to it. -/
theorem bitsOf_bitsPut_same (w : Word) (lo n v : Nat) (h : lo + n ≤ 32) : bitsOf (bitsPut w lo n v) lo n = v % 2 ^ n := by
  apply Nat.eq_of_testBit_eq
  intro i
  rw [testBit_bitsOf, Nat.testBit_mod_two_pow]
  by_cases hi : i < n
  · rw [getLsbD_bitsPut _ _ _ _ _ (by omega)]
    simp [hi]
  · simp [hi]

/-- A field apart from the one written keeps its value. -/
theorem bitsOf_bitsPut_apart (w : Word) (lo n v lo' n' : Nat) (h : lo + n ≤ lo' ∨ lo' + n' ≤ lo) :
    bitsOf (bitsPut w lo n v) lo' n' = bitsOf w lo' n' := by
  apply Nat.eq_of_testBit_eq
  intro i
  rw [testBit_bitsOf, testBit_bitsOf]
  by_cases hi : i < n'
  · by_cases h32 : lo' + i < 32
    · rw [getLsbD_bitsPut _ _ _ _ _ h32, if_neg (by omega)]
    · rw [BitVec.getLsbD_of_ge _ _ (by omega), BitVec.getLsbD_of_ge _ _ (by omega)]
  · simp [hi]

theorem bitsOf_lt (w : Word) (lo n : Nat) : bitsOf w lo n < 2 ^ n := Nat.mod_lt _ (Nat.two_pow_pos n)

/-! ### The Balgal's registers -/

@[simp] theorem State.rdW_wrW_same (s : State) (a : Nat) (v : Word) : (s.wrW a v).rdW a = v := by simp [State.rdW, State.wrW]

theorem State.rdW_wrW_ne (s : State) (v : Word) {a b : Nat} (h : a ≠ b) : (s.wrW a v).rdW b = s.rdW b := by
  simp [State.rdW, State.wrW, tget_tset_ne _ _ _ h]

theorem State.rd_lt (s : State) (f : Fld) : s.rd f < 2 ^ f.w := bitsOf_lt _ _ _

/-- A field reads the low bits of what was written to it. -/
theorem State.rd_wr_same (s : State) (f : Fld) (v : Nat) (h : f.lo + f.w ≤ 32) : (s.wr f v).rd f = v % 2 ^ f.w := by
  simp [State.rd, State.wr, bitsOf_bitsPut_same _ _ _ _ h]

/-- A field apart from the one written keeps its value. -/
theorem State.rd_wr_apart (s : State) (f g : Fld) (v : Nat) (h : f.apart g) : (s.wr f v).rd g = s.rd g := by
  by_cases ha : f.addr = g.addr
  · have hb : f.lo + f.w ≤ g.lo ∨ g.lo + g.w ≤ f.lo := h.resolve_left (not_not.mpr ha)
    simp [State.rd, State.wr, ha, bitsOf_bitsPut_apart _ _ _ _ _ _ hb]
  · simp [State.rd, State.wr, State.rdW_wrW_ne _ _ ha]

theorem State.rd_wrW_ne (s : State) (v : Word) (g : Fld) {a : Nat} (h : a ≠ g.addr) : (s.wrW a v).rd g = s.rd g := by
  simp [State.rd, State.rdW_wrW_ne _ _ h]

theorem State.rdW_wr_ne (s : State) (f : Fld) (v : Nat) {a : Nat} (h : f.addr ≠ a) : (s.wr f v).rdW a = s.rdW a := by
  simp [State.wr, State.rdW_wrW_ne _ _ h]

/-! ### A Skerry's registers -/

@[simp] theorem Skerry.rdW_wrW_same (k : Skerry) (a : Nat) (v : Word) : (k.wrW a v).rdW a = v := by
  simp [Skerry.rdW, Skerry.wrW]

theorem Skerry.rdW_wrW_ne (k : Skerry) (v : Word) {a b : Nat} (h : a ≠ b) : (k.wrW a v).rdW b = k.rdW b := by
  simp [Skerry.rdW, Skerry.wrW, tget_tset_ne _ _ _ h]

theorem Skerry.rd_lt (k : Skerry) (f : Fld) : k.rd f < 2 ^ f.w := bitsOf_lt _ _ _

theorem Skerry.rd_wr_same (k : Skerry) (f : Fld) (v : Nat) (h : f.lo + f.w ≤ 32) : (k.wr f v).rd f = v % 2 ^ f.w := by
  simp [Skerry.rd, Skerry.wr, bitsOf_bitsPut_same _ _ _ _ h]

theorem Skerry.rd_wr_apart (k : Skerry) (f g : Fld) (v : Nat) (h : f.apart g) : (k.wr f v).rd g = k.rd g := by
  by_cases ha : f.addr = g.addr
  · have hb : f.lo + f.w ≤ g.lo ∨ g.lo + g.w ≤ f.lo := h.resolve_left (not_not.mpr ha)
    simp [Skerry.rd, Skerry.wr, ha, bitsOf_bitsPut_apart _ _ _ _ _ _ hb]
  · simp [Skerry.rd, Skerry.wr, Skerry.rdW_wrW_ne _ _ ha]

theorem Skerry.rd_wrW_ne (k : Skerry) (v : Word) (g : Fld) {a : Nat} (h : a ≠ g.addr) : (k.wrW a v).rd g = k.rd g := by
  simp [Skerry.rd, Skerry.rdW_wrW_ne _ _ h]

/-! ### Cells -/

@[simp] theorem State.cell_setCell_same (s : State) (g : Nat) (k : Skerry) : (s.setCell g k).cell g = k := by
  simp [State.cell, State.setCell]

theorem State.cell_setCell_ne (s : State) (k : Skerry) {g h : Nat} (hne : g ≠ h) : (s.setCell g k).cell h = s.cell h := by
  simp [State.cell, State.setCell, tget_tset_ne _ _ _ hne]

/-! ### Memory -/

@[simp] theorem State.byte_setByte_same (s : State) (a : Nat) (b : Byte) : (s.setByte a b).byte a = b := by
  simp [State.byte, State.setByte]

theorem State.byte_setByte_ne (s : State) (b : Byte) {a c : Nat} (h : a ≠ c) : (s.setByte a b).byte c = s.byte c := by
  simp [State.byte, State.setByte, tget_tset_ne _ _ _ h]

/-- Every byte outside the stored ones keeps its value. -/
theorem State.byte_setBytes_outside (l : List Byte) : ∀ (s : State) (a c : Nat), c < a ∨ a + l.length ≤ c →
    (s.setBytes a l).byte c = s.byte c := by
  induction l with
  | nil => intro s a c _; rfl
  | cons b t ih =>
    intro s a c h
    simp only [List.length_cons] at h
    rw [State.setBytes, ih _ _ _ (by omega), State.byte_setByte_ne _ _ (by omega)]

/-- The bytes stored are the bytes read back. -/
theorem State.byte_setBytes_inside (l : List Byte) : ∀ (s : State) (a i : Nat) (h : i < l.length),
    (s.setBytes a l).byte (a + i) = l[i] := by
  induction l with
  | nil => intro s a i h; simp at h
  | cons b t ih =>
    intro s a i h
    cases i with
    | zero => rw [State.setBytes, State.byte_setBytes_outside _ _ _ _ (by omega)]; simp
    | succ j =>
      have := ih (s.setByte a b) (a + 1) j (by simpa using h)
      simpa [State.setBytes, Nat.add_assoc, Nat.add_comm 1 j] using this

end Sys2Proof.Machine
end

