-- ==== Sys2Proof/Laws/State.lean ====
section
/-! SUPPORT. Each named update of the state changes one part of it: what every other part, every register field, every byte and
every cell reads as afterwards. -/

namespace Sys2Proof.Machine
open Sys2Proof

@[simp] theorem State.wrW_regs (s : State) (a : Nat) (v : Word) : (s.wrW a v).regs = tset balReset s.regs a v := rfl
@[simp] theorem State.wrW_mem (s : State) (a : Nat) (v : Word) : (s.wrW a v).mem = s.mem := rfl
@[simp] theorem State.wrW_clk (s : State) (a : Nat) (v : Word) : (s.wrW a v).clk = s.clk := rfl
@[simp] theorem State.wrW_flt (s : State) (a : Nat) (v : Word) : (s.wrW a v).flt = s.flt := rfl
@[simp] theorem State.wrW_sched (s : State) (a : Nat) (v : Word) : (s.wrW a v).sched = s.sched := rfl
@[simp] theorem State.wrW_engRegs (s : State) (a : Nat) (v : Word) : (s.wrW a v).engRegs = s.engRegs := rfl
@[simp] theorem State.wrW_chart (s : State) (a : Nat) (v : Word) : (s.wrW a v).chart = s.chart := rfl
@[simp] theorem State.wrW_flash (s : State) (a : Nat) (v : Word) : (s.wrW a v).flash = s.flash := rfl
@[simp] theorem State.wrW_lanes (s : State) (a : Nat) (v : Word) : (s.wrW a v).lanes = s.lanes := rfl
@[simp] theorem State.wrW_conv (s : State) (a : Nat) (v : Word) : (s.wrW a v).conv = s.conv := rfl
@[simp] theorem State.wrW_reef (s : State) (a : Nat) (v : Word) : (s.wrW a v).reef = s.reef := rfl
@[simp] theorem State.wrW_cws (s : State) (a : Nat) (v : Word) : (s.wrW a v).cws = s.cws := rfl
@[simp] theorem State.wrW_red (s : State) (a : Nat) (v : Word) : (s.wrW a v).red = s.red := rfl
@[simp] theorem State.wrW_loop (s : State) (a : Nat) (v : Word) : (s.wrW a v).loop = s.loop := rfl
@[simp] theorem State.wrW_prof (s : State) (a : Nat) (v : Word) : (s.wrW a v).prof = s.prof := rfl
@[simp] theorem State.wrW_recd (s : State) (a : Nat) (v : Word) : (s.wrW a v).recd = s.recd := rfl
@[simp] theorem State.wrW_tim (s : State) (a : Nat) (v : Word) : (s.wrW a v).tim = s.tim := rfl
@[simp] theorem State.wrW_safe (s : State) (a : Nat) (v : Word) : (s.wrW a v).safe = s.safe := rfl
@[simp] theorem State.wrW_mst (s : State) (a : Nat) (v : Word) : (s.wrW a v).mst = s.mst := rfl
@[simp] theorem State.wrW_dma (s : State) (a : Nat) (v : Word) : (s.wrW a v).dma = s.dma := rfl
@[simp] theorem State.wrW_pwr (s : State) (a : Nat) (v : Word) : (s.wrW a v).pwr = s.pwr := rfl
@[simp] theorem State.wrW_net (s : State) (a : Nat) (v : Word) : (s.wrW a v).net = s.net := rfl
@[simp] theorem State.wrW_mon (s : State) (a : Nat) (v : Word) : (s.wrW a v).mon = s.mon := rfl
@[simp] theorem State.wrW_cells (s : State) (a : Nat) (v : Word) : (s.wrW a v).cells = s.cells := rfl
@[simp] theorem State.wrW_out (s : State) (a : Nat) (v : Word) : (s.wrW a v).out = s.out := rfl
@[simp] theorem State.wrW_opens (s : State) (a : Nat) (v : Word) : (s.wrW a v).opens = s.opens := rfl
@[simp] theorem State.wrW_pending (s : State) (a : Nat) (v : Word) : (s.wrW a v).pending = s.pending := rfl
@[simp] theorem State.wrW_cell (s : State) (a : Nat) (v : Word) (ce : Nat) : (s.wrW a v).cell ce = s.cell ce := rfl
@[simp] theorem State.wrW_byte (s : State) (a : Nat) (v : Word) (ad : Nat) : (s.wrW a v).byte ad = s.byte ad := rfl

@[simp] theorem State.wr_mem (s : State) (f : Fld) (v : Nat) : (s.wr f v).mem = s.mem := rfl
@[simp] theorem State.wr_clk (s : State) (f : Fld) (v : Nat) : (s.wr f v).clk = s.clk := rfl
@[simp] theorem State.wr_flt (s : State) (f : Fld) (v : Nat) : (s.wr f v).flt = s.flt := rfl
@[simp] theorem State.wr_sched (s : State) (f : Fld) (v : Nat) : (s.wr f v).sched = s.sched := rfl
@[simp] theorem State.wr_engRegs (s : State) (f : Fld) (v : Nat) : (s.wr f v).engRegs = s.engRegs := rfl
@[simp] theorem State.wr_chart (s : State) (f : Fld) (v : Nat) : (s.wr f v).chart = s.chart := rfl
@[simp] theorem State.wr_flash (s : State) (f : Fld) (v : Nat) : (s.wr f v).flash = s.flash := rfl
@[simp] theorem State.wr_lanes (s : State) (f : Fld) (v : Nat) : (s.wr f v).lanes = s.lanes := rfl
@[simp] theorem State.wr_conv (s : State) (f : Fld) (v : Nat) : (s.wr f v).conv = s.conv := rfl
@[simp] theorem State.wr_reef (s : State) (f : Fld) (v : Nat) : (s.wr f v).reef = s.reef := rfl
@[simp] theorem State.wr_cws (s : State) (f : Fld) (v : Nat) : (s.wr f v).cws = s.cws := rfl
@[simp] theorem State.wr_red (s : State) (f : Fld) (v : Nat) : (s.wr f v).red = s.red := rfl
@[simp] theorem State.wr_loop (s : State) (f : Fld) (v : Nat) : (s.wr f v).loop = s.loop := rfl
@[simp] theorem State.wr_prof (s : State) (f : Fld) (v : Nat) : (s.wr f v).prof = s.prof := rfl
@[simp] theorem State.wr_recd (s : State) (f : Fld) (v : Nat) : (s.wr f v).recd = s.recd := rfl
@[simp] theorem State.wr_tim (s : State) (f : Fld) (v : Nat) : (s.wr f v).tim = s.tim := rfl
@[simp] theorem State.wr_safe (s : State) (f : Fld) (v : Nat) : (s.wr f v).safe = s.safe := rfl
@[simp] theorem State.wr_mst (s : State) (f : Fld) (v : Nat) : (s.wr f v).mst = s.mst := rfl
@[simp] theorem State.wr_dma (s : State) (f : Fld) (v : Nat) : (s.wr f v).dma = s.dma := rfl
@[simp] theorem State.wr_pwr (s : State) (f : Fld) (v : Nat) : (s.wr f v).pwr = s.pwr := rfl
@[simp] theorem State.wr_net (s : State) (f : Fld) (v : Nat) : (s.wr f v).net = s.net := rfl
@[simp] theorem State.wr_mon (s : State) (f : Fld) (v : Nat) : (s.wr f v).mon = s.mon := rfl
@[simp] theorem State.wr_cells (s : State) (f : Fld) (v : Nat) : (s.wr f v).cells = s.cells := rfl
@[simp] theorem State.wr_out (s : State) (f : Fld) (v : Nat) : (s.wr f v).out = s.out := rfl
@[simp] theorem State.wr_opens (s : State) (f : Fld) (v : Nat) : (s.wr f v).opens = s.opens := rfl
@[simp] theorem State.wr_pending (s : State) (f : Fld) (v : Nat) : (s.wr f v).pending = s.pending := rfl
@[simp] theorem State.wr_cell (s : State) (f : Fld) (v : Nat) (ce : Nat) : (s.wr f v).cell ce = s.cell ce := rfl
@[simp] theorem State.wr_byte (s : State) (f : Fld) (v : Nat) (ad : Nat) : (s.wr f v).byte ad = s.byte ad := rfl

@[simp] theorem State.cnt_mem (s : State) (f : Fld) (n : Nat) : (s.cnt f n).mem = s.mem := rfl
@[simp] theorem State.cnt_clk (s : State) (f : Fld) (n : Nat) : (s.cnt f n).clk = s.clk := rfl
@[simp] theorem State.cnt_flt (s : State) (f : Fld) (n : Nat) : (s.cnt f n).flt = s.flt := rfl
@[simp] theorem State.cnt_sched (s : State) (f : Fld) (n : Nat) : (s.cnt f n).sched = s.sched := rfl
@[simp] theorem State.cnt_engRegs (s : State) (f : Fld) (n : Nat) : (s.cnt f n).engRegs = s.engRegs := rfl
@[simp] theorem State.cnt_chart (s : State) (f : Fld) (n : Nat) : (s.cnt f n).chart = s.chart := rfl
@[simp] theorem State.cnt_flash (s : State) (f : Fld) (n : Nat) : (s.cnt f n).flash = s.flash := rfl
@[simp] theorem State.cnt_lanes (s : State) (f : Fld) (n : Nat) : (s.cnt f n).lanes = s.lanes := rfl
@[simp] theorem State.cnt_conv (s : State) (f : Fld) (n : Nat) : (s.cnt f n).conv = s.conv := rfl
@[simp] theorem State.cnt_reef (s : State) (f : Fld) (n : Nat) : (s.cnt f n).reef = s.reef := rfl
@[simp] theorem State.cnt_cws (s : State) (f : Fld) (n : Nat) : (s.cnt f n).cws = s.cws := rfl
@[simp] theorem State.cnt_red (s : State) (f : Fld) (n : Nat) : (s.cnt f n).red = s.red := rfl
@[simp] theorem State.cnt_loop (s : State) (f : Fld) (n : Nat) : (s.cnt f n).loop = s.loop := rfl
@[simp] theorem State.cnt_prof (s : State) (f : Fld) (n : Nat) : (s.cnt f n).prof = s.prof := rfl
@[simp] theorem State.cnt_recd (s : State) (f : Fld) (n : Nat) : (s.cnt f n).recd = s.recd := rfl
@[simp] theorem State.cnt_tim (s : State) (f : Fld) (n : Nat) : (s.cnt f n).tim = s.tim := rfl
@[simp] theorem State.cnt_safe (s : State) (f : Fld) (n : Nat) : (s.cnt f n).safe = s.safe := rfl
@[simp] theorem State.cnt_mst (s : State) (f : Fld) (n : Nat) : (s.cnt f n).mst = s.mst := rfl
@[simp] theorem State.cnt_dma (s : State) (f : Fld) (n : Nat) : (s.cnt f n).dma = s.dma := rfl
@[simp] theorem State.cnt_pwr (s : State) (f : Fld) (n : Nat) : (s.cnt f n).pwr = s.pwr := rfl
@[simp] theorem State.cnt_net (s : State) (f : Fld) (n : Nat) : (s.cnt f n).net = s.net := rfl
@[simp] theorem State.cnt_mon (s : State) (f : Fld) (n : Nat) : (s.cnt f n).mon = s.mon := rfl
@[simp] theorem State.cnt_cells (s : State) (f : Fld) (n : Nat) : (s.cnt f n).cells = s.cells := rfl
@[simp] theorem State.cnt_out (s : State) (f : Fld) (n : Nat) : (s.cnt f n).out = s.out := rfl
@[simp] theorem State.cnt_opens (s : State) (f : Fld) (n : Nat) : (s.cnt f n).opens = s.opens := rfl
@[simp] theorem State.cnt_pending (s : State) (f : Fld) (n : Nat) : (s.cnt f n).pending = s.pending := rfl
@[simp] theorem State.cnt_cell (s : State) (f : Fld) (n : Nat) (ce : Nat) : (s.cnt f n).cell ce = s.cell ce := rfl
@[simp] theorem State.cnt_byte (s : State) (f : Fld) (n : Nat) (ad : Nat) : (s.cnt f n).byte ad = s.byte ad := rfl

@[simp] theorem State.inc_mem (s : State) (f : Fld) : (s.inc f).mem = s.mem := rfl
@[simp] theorem State.inc_clk (s : State) (f : Fld) : (s.inc f).clk = s.clk := rfl
@[simp] theorem State.inc_flt (s : State) (f : Fld) : (s.inc f).flt = s.flt := rfl
@[simp] theorem State.inc_sched (s : State) (f : Fld) : (s.inc f).sched = s.sched := rfl
@[simp] theorem State.inc_engRegs (s : State) (f : Fld) : (s.inc f).engRegs = s.engRegs := rfl
@[simp] theorem State.inc_chart (s : State) (f : Fld) : (s.inc f).chart = s.chart := rfl
@[simp] theorem State.inc_flash (s : State) (f : Fld) : (s.inc f).flash = s.flash := rfl
@[simp] theorem State.inc_lanes (s : State) (f : Fld) : (s.inc f).lanes = s.lanes := rfl
@[simp] theorem State.inc_conv (s : State) (f : Fld) : (s.inc f).conv = s.conv := rfl
@[simp] theorem State.inc_reef (s : State) (f : Fld) : (s.inc f).reef = s.reef := rfl
@[simp] theorem State.inc_cws (s : State) (f : Fld) : (s.inc f).cws = s.cws := rfl
@[simp] theorem State.inc_red (s : State) (f : Fld) : (s.inc f).red = s.red := rfl
@[simp] theorem State.inc_loop (s : State) (f : Fld) : (s.inc f).loop = s.loop := rfl
@[simp] theorem State.inc_prof (s : State) (f : Fld) : (s.inc f).prof = s.prof := rfl
@[simp] theorem State.inc_recd (s : State) (f : Fld) : (s.inc f).recd = s.recd := rfl
@[simp] theorem State.inc_tim (s : State) (f : Fld) : (s.inc f).tim = s.tim := rfl
@[simp] theorem State.inc_safe (s : State) (f : Fld) : (s.inc f).safe = s.safe := rfl
@[simp] theorem State.inc_mst (s : State) (f : Fld) : (s.inc f).mst = s.mst := rfl
@[simp] theorem State.inc_dma (s : State) (f : Fld) : (s.inc f).dma = s.dma := rfl
@[simp] theorem State.inc_pwr (s : State) (f : Fld) : (s.inc f).pwr = s.pwr := rfl
@[simp] theorem State.inc_net (s : State) (f : Fld) : (s.inc f).net = s.net := rfl
@[simp] theorem State.inc_mon (s : State) (f : Fld) : (s.inc f).mon = s.mon := rfl
@[simp] theorem State.inc_cells (s : State) (f : Fld) : (s.inc f).cells = s.cells := rfl
@[simp] theorem State.inc_out (s : State) (f : Fld) : (s.inc f).out = s.out := rfl
@[simp] theorem State.inc_opens (s : State) (f : Fld) : (s.inc f).opens = s.opens := rfl
@[simp] theorem State.inc_pending (s : State) (f : Fld) : (s.inc f).pending = s.pending := rfl
@[simp] theorem State.inc_cell (s : State) (f : Fld) (ce : Nat) : (s.inc f).cell ce = s.cell ce := rfl
@[simp] theorem State.inc_byte (s : State) (f : Fld) (ad : Nat) : (s.inc f).byte ad = s.byte ad := rfl

@[simp] theorem State.incW_mem (s : State) (f : Fld) : (s.incW f).mem = s.mem := rfl
@[simp] theorem State.incW_clk (s : State) (f : Fld) : (s.incW f).clk = s.clk := rfl
@[simp] theorem State.incW_flt (s : State) (f : Fld) : (s.incW f).flt = s.flt := rfl
@[simp] theorem State.incW_sched (s : State) (f : Fld) : (s.incW f).sched = s.sched := rfl
@[simp] theorem State.incW_engRegs (s : State) (f : Fld) : (s.incW f).engRegs = s.engRegs := rfl
@[simp] theorem State.incW_chart (s : State) (f : Fld) : (s.incW f).chart = s.chart := rfl
@[simp] theorem State.incW_flash (s : State) (f : Fld) : (s.incW f).flash = s.flash := rfl
@[simp] theorem State.incW_lanes (s : State) (f : Fld) : (s.incW f).lanes = s.lanes := rfl
@[simp] theorem State.incW_conv (s : State) (f : Fld) : (s.incW f).conv = s.conv := rfl
@[simp] theorem State.incW_reef (s : State) (f : Fld) : (s.incW f).reef = s.reef := rfl
@[simp] theorem State.incW_cws (s : State) (f : Fld) : (s.incW f).cws = s.cws := rfl
@[simp] theorem State.incW_red (s : State) (f : Fld) : (s.incW f).red = s.red := rfl
@[simp] theorem State.incW_loop (s : State) (f : Fld) : (s.incW f).loop = s.loop := rfl
@[simp] theorem State.incW_prof (s : State) (f : Fld) : (s.incW f).prof = s.prof := rfl
@[simp] theorem State.incW_recd (s : State) (f : Fld) : (s.incW f).recd = s.recd := rfl
@[simp] theorem State.incW_tim (s : State) (f : Fld) : (s.incW f).tim = s.tim := rfl
@[simp] theorem State.incW_safe (s : State) (f : Fld) : (s.incW f).safe = s.safe := rfl
@[simp] theorem State.incW_mst (s : State) (f : Fld) : (s.incW f).mst = s.mst := rfl
@[simp] theorem State.incW_dma (s : State) (f : Fld) : (s.incW f).dma = s.dma := rfl
@[simp] theorem State.incW_pwr (s : State) (f : Fld) : (s.incW f).pwr = s.pwr := rfl
@[simp] theorem State.incW_net (s : State) (f : Fld) : (s.incW f).net = s.net := rfl
@[simp] theorem State.incW_mon (s : State) (f : Fld) : (s.incW f).mon = s.mon := rfl
@[simp] theorem State.incW_cells (s : State) (f : Fld) : (s.incW f).cells = s.cells := rfl
@[simp] theorem State.incW_out (s : State) (f : Fld) : (s.incW f).out = s.out := rfl
@[simp] theorem State.incW_opens (s : State) (f : Fld) : (s.incW f).opens = s.opens := rfl
@[simp] theorem State.incW_pending (s : State) (f : Fld) : (s.incW f).pending = s.pending := rfl
@[simp] theorem State.incW_cell (s : State) (f : Fld) (ce : Nat) : (s.incW f).cell ce = s.cell ce := rfl
@[simp] theorem State.incW_byte (s : State) (f : Fld) (ad : Nat) : (s.incW f).byte ad = s.byte ad := rfl

@[simp] theorem State.wrS_mem (s : State) (f : Fld) (v : Int) : (s.wrS f v).mem = s.mem := rfl
@[simp] theorem State.wrS_clk (s : State) (f : Fld) (v : Int) : (s.wrS f v).clk = s.clk := rfl
@[simp] theorem State.wrS_flt (s : State) (f : Fld) (v : Int) : (s.wrS f v).flt = s.flt := rfl
@[simp] theorem State.wrS_sched (s : State) (f : Fld) (v : Int) : (s.wrS f v).sched = s.sched := rfl
@[simp] theorem State.wrS_engRegs (s : State) (f : Fld) (v : Int) : (s.wrS f v).engRegs = s.engRegs := rfl
@[simp] theorem State.wrS_chart (s : State) (f : Fld) (v : Int) : (s.wrS f v).chart = s.chart := rfl
@[simp] theorem State.wrS_flash (s : State) (f : Fld) (v : Int) : (s.wrS f v).flash = s.flash := rfl
@[simp] theorem State.wrS_lanes (s : State) (f : Fld) (v : Int) : (s.wrS f v).lanes = s.lanes := rfl
@[simp] theorem State.wrS_conv (s : State) (f : Fld) (v : Int) : (s.wrS f v).conv = s.conv := rfl
@[simp] theorem State.wrS_reef (s : State) (f : Fld) (v : Int) : (s.wrS f v).reef = s.reef := rfl
@[simp] theorem State.wrS_cws (s : State) (f : Fld) (v : Int) : (s.wrS f v).cws = s.cws := rfl
@[simp] theorem State.wrS_red (s : State) (f : Fld) (v : Int) : (s.wrS f v).red = s.red := rfl
@[simp] theorem State.wrS_loop (s : State) (f : Fld) (v : Int) : (s.wrS f v).loop = s.loop := rfl
@[simp] theorem State.wrS_prof (s : State) (f : Fld) (v : Int) : (s.wrS f v).prof = s.prof := rfl
@[simp] theorem State.wrS_recd (s : State) (f : Fld) (v : Int) : (s.wrS f v).recd = s.recd := rfl
@[simp] theorem State.wrS_tim (s : State) (f : Fld) (v : Int) : (s.wrS f v).tim = s.tim := rfl
@[simp] theorem State.wrS_safe (s : State) (f : Fld) (v : Int) : (s.wrS f v).safe = s.safe := rfl
@[simp] theorem State.wrS_mst (s : State) (f : Fld) (v : Int) : (s.wrS f v).mst = s.mst := rfl
@[simp] theorem State.wrS_dma (s : State) (f : Fld) (v : Int) : (s.wrS f v).dma = s.dma := rfl
@[simp] theorem State.wrS_pwr (s : State) (f : Fld) (v : Int) : (s.wrS f v).pwr = s.pwr := rfl
@[simp] theorem State.wrS_net (s : State) (f : Fld) (v : Int) : (s.wrS f v).net = s.net := rfl
@[simp] theorem State.wrS_mon (s : State) (f : Fld) (v : Int) : (s.wrS f v).mon = s.mon := rfl
@[simp] theorem State.wrS_cells (s : State) (f : Fld) (v : Int) : (s.wrS f v).cells = s.cells := rfl
@[simp] theorem State.wrS_out (s : State) (f : Fld) (v : Int) : (s.wrS f v).out = s.out := rfl
@[simp] theorem State.wrS_opens (s : State) (f : Fld) (v : Int) : (s.wrS f v).opens = s.opens := rfl
@[simp] theorem State.wrS_pending (s : State) (f : Fld) (v : Int) : (s.wrS f v).pending = s.pending := rfl
@[simp] theorem State.wrS_cell (s : State) (f : Fld) (v : Int) (ce : Nat) : (s.wrS f v).cell ce = s.cell ce := rfl
@[simp] theorem State.wrS_byte (s : State) (f : Fld) (v : Int) (ad : Nat) : (s.wrS f v).byte ad = s.byte ad := rfl

@[simp] theorem State.putBitAt_mem (s : State) (b j : Nat) (v : Bool) : (s.putBitAt b j v).mem = s.mem := rfl
@[simp] theorem State.putBitAt_clk (s : State) (b j : Nat) (v : Bool) : (s.putBitAt b j v).clk = s.clk := rfl
@[simp] theorem State.putBitAt_flt (s : State) (b j : Nat) (v : Bool) : (s.putBitAt b j v).flt = s.flt := rfl
@[simp] theorem State.putBitAt_sched (s : State) (b j : Nat) (v : Bool) : (s.putBitAt b j v).sched = s.sched := rfl
@[simp] theorem State.putBitAt_engRegs (s : State) (b j : Nat) (v : Bool) : (s.putBitAt b j v).engRegs = s.engRegs := rfl
@[simp] theorem State.putBitAt_chart (s : State) (b j : Nat) (v : Bool) : (s.putBitAt b j v).chart = s.chart := rfl
@[simp] theorem State.putBitAt_flash (s : State) (b j : Nat) (v : Bool) : (s.putBitAt b j v).flash = s.flash := rfl
@[simp] theorem State.putBitAt_lanes (s : State) (b j : Nat) (v : Bool) : (s.putBitAt b j v).lanes = s.lanes := rfl
@[simp] theorem State.putBitAt_conv (s : State) (b j : Nat) (v : Bool) : (s.putBitAt b j v).conv = s.conv := rfl
@[simp] theorem State.putBitAt_reef (s : State) (b j : Nat) (v : Bool) : (s.putBitAt b j v).reef = s.reef := rfl
@[simp] theorem State.putBitAt_cws (s : State) (b j : Nat) (v : Bool) : (s.putBitAt b j v).cws = s.cws := rfl
@[simp] theorem State.putBitAt_red (s : State) (b j : Nat) (v : Bool) : (s.putBitAt b j v).red = s.red := rfl
@[simp] theorem State.putBitAt_loop (s : State) (b j : Nat) (v : Bool) : (s.putBitAt b j v).loop = s.loop := rfl
@[simp] theorem State.putBitAt_prof (s : State) (b j : Nat) (v : Bool) : (s.putBitAt b j v).prof = s.prof := rfl
@[simp] theorem State.putBitAt_recd (s : State) (b j : Nat) (v : Bool) : (s.putBitAt b j v).recd = s.recd := rfl
@[simp] theorem State.putBitAt_tim (s : State) (b j : Nat) (v : Bool) : (s.putBitAt b j v).tim = s.tim := rfl
@[simp] theorem State.putBitAt_safe (s : State) (b j : Nat) (v : Bool) : (s.putBitAt b j v).safe = s.safe := rfl
@[simp] theorem State.putBitAt_mst (s : State) (b j : Nat) (v : Bool) : (s.putBitAt b j v).mst = s.mst := rfl
@[simp] theorem State.putBitAt_dma (s : State) (b j : Nat) (v : Bool) : (s.putBitAt b j v).dma = s.dma := rfl
@[simp] theorem State.putBitAt_pwr (s : State) (b j : Nat) (v : Bool) : (s.putBitAt b j v).pwr = s.pwr := rfl
@[simp] theorem State.putBitAt_net (s : State) (b j : Nat) (v : Bool) : (s.putBitAt b j v).net = s.net := rfl
@[simp] theorem State.putBitAt_mon (s : State) (b j : Nat) (v : Bool) : (s.putBitAt b j v).mon = s.mon := rfl
@[simp] theorem State.putBitAt_cells (s : State) (b j : Nat) (v : Bool) : (s.putBitAt b j v).cells = s.cells := rfl
@[simp] theorem State.putBitAt_out (s : State) (b j : Nat) (v : Bool) : (s.putBitAt b j v).out = s.out := rfl
@[simp] theorem State.putBitAt_opens (s : State) (b j : Nat) (v : Bool) : (s.putBitAt b j v).opens = s.opens := rfl
@[simp] theorem State.putBitAt_pending (s : State) (b j : Nat) (v : Bool) : (s.putBitAt b j v).pending = s.pending := rfl
@[simp] theorem State.putBitAt_cell (s : State) (b j : Nat) (v : Bool) (ce : Nat)
    : (s.putBitAt b j v).cell ce = s.cell ce := rfl
@[simp] theorem State.putBitAt_byte (s : State) (b j : Nat) (v : Bool) (ad : Nat)
    : (s.putBitAt b j v).byte ad = s.byte ad := rfl

@[simp] theorem State.setByte_regs (s : State) (a : Nat) (b : Byte) : (s.setByte a b).regs = s.regs := rfl
@[simp] theorem State.setByte_mem (s : State) (a : Nat) (b : Byte) : (s.setByte a b).mem = tset (fun _ => 0) s.mem a b := rfl
@[simp] theorem State.setByte_clk (s : State) (a : Nat) (b : Byte) : (s.setByte a b).clk = s.clk := rfl
@[simp] theorem State.setByte_flt (s : State) (a : Nat) (b : Byte) : (s.setByte a b).flt = s.flt := rfl
@[simp] theorem State.setByte_sched (s : State) (a : Nat) (b : Byte) : (s.setByte a b).sched = s.sched := rfl
@[simp] theorem State.setByte_engRegs (s : State) (a : Nat) (b : Byte) : (s.setByte a b).engRegs = s.engRegs := rfl
@[simp] theorem State.setByte_chart (s : State) (a : Nat) (b : Byte) : (s.setByte a b).chart = s.chart := rfl
@[simp] theorem State.setByte_flash (s : State) (a : Nat) (b : Byte) : (s.setByte a b).flash = s.flash := rfl
@[simp] theorem State.setByte_lanes (s : State) (a : Nat) (b : Byte) : (s.setByte a b).lanes = s.lanes := rfl
@[simp] theorem State.setByte_conv (s : State) (a : Nat) (b : Byte) : (s.setByte a b).conv = s.conv := rfl
@[simp] theorem State.setByte_reef (s : State) (a : Nat) (b : Byte) : (s.setByte a b).reef = s.reef := rfl
@[simp] theorem State.setByte_cws (s : State) (a : Nat) (b : Byte) : (s.setByte a b).cws = s.cws := rfl
@[simp] theorem State.setByte_red (s : State) (a : Nat) (b : Byte) : (s.setByte a b).red = s.red := rfl
@[simp] theorem State.setByte_loop (s : State) (a : Nat) (b : Byte) : (s.setByte a b).loop = s.loop := rfl
@[simp] theorem State.setByte_prof (s : State) (a : Nat) (b : Byte) : (s.setByte a b).prof = s.prof := rfl
@[simp] theorem State.setByte_recd (s : State) (a : Nat) (b : Byte) : (s.setByte a b).recd = s.recd := rfl
@[simp] theorem State.setByte_tim (s : State) (a : Nat) (b : Byte) : (s.setByte a b).tim = s.tim := rfl
@[simp] theorem State.setByte_safe (s : State) (a : Nat) (b : Byte) : (s.setByte a b).safe = s.safe := rfl
@[simp] theorem State.setByte_mst (s : State) (a : Nat) (b : Byte) : (s.setByte a b).mst = s.mst := rfl
@[simp] theorem State.setByte_dma (s : State) (a : Nat) (b : Byte) : (s.setByte a b).dma = s.dma := rfl
@[simp] theorem State.setByte_pwr (s : State) (a : Nat) (b : Byte) : (s.setByte a b).pwr = s.pwr := rfl
@[simp] theorem State.setByte_net (s : State) (a : Nat) (b : Byte) : (s.setByte a b).net = s.net := rfl
@[simp] theorem State.setByte_mon (s : State) (a : Nat) (b : Byte) : (s.setByte a b).mon = s.mon := rfl
@[simp] theorem State.setByte_cells (s : State) (a : Nat) (b : Byte) : (s.setByte a b).cells = s.cells := rfl
@[simp] theorem State.setByte_out (s : State) (a : Nat) (b : Byte) : (s.setByte a b).out = s.out := rfl
@[simp] theorem State.setByte_opens (s : State) (a : Nat) (b : Byte) : (s.setByte a b).opens = s.opens := rfl
@[simp] theorem State.setByte_pending (s : State) (a : Nat) (b : Byte) : (s.setByte a b).pending = s.pending := rfl
@[simp] theorem State.setByte_rd (s : State) (a : Nat) (b : Byte) (fd : Fld) : (s.setByte a b).rd fd = s.rd fd := rfl
@[simp] theorem State.setByte_rdW (s : State) (a : Nat) (b : Byte) (ad : Nat) : (s.setByte a b).rdW ad = s.rdW ad := rfl
@[simp] theorem State.setByte_cell (s : State) (a : Nat) (b : Byte) (ce : Nat) : (s.setByte a b).cell ce = s.cell ce := rfl

@[simp] theorem State.emit_regs (s : State) (o : Out) : (s.emit o).regs = s.regs := rfl
@[simp] theorem State.emit_mem (s : State) (o : Out) : (s.emit o).mem = s.mem := rfl
@[simp] theorem State.emit_clk (s : State) (o : Out) : (s.emit o).clk = s.clk := rfl
@[simp] theorem State.emit_flt (s : State) (o : Out) : (s.emit o).flt = s.flt := rfl
@[simp] theorem State.emit_sched (s : State) (o : Out) : (s.emit o).sched = s.sched := rfl
@[simp] theorem State.emit_engRegs (s : State) (o : Out) : (s.emit o).engRegs = s.engRegs := rfl
@[simp] theorem State.emit_chart (s : State) (o : Out) : (s.emit o).chart = s.chart := rfl
@[simp] theorem State.emit_flash (s : State) (o : Out) : (s.emit o).flash = s.flash := rfl
@[simp] theorem State.emit_lanes (s : State) (o : Out) : (s.emit o).lanes = s.lanes := rfl
@[simp] theorem State.emit_conv (s : State) (o : Out) : (s.emit o).conv = s.conv := rfl
@[simp] theorem State.emit_reef (s : State) (o : Out) : (s.emit o).reef = s.reef := rfl
@[simp] theorem State.emit_cws (s : State) (o : Out) : (s.emit o).cws = s.cws := rfl
@[simp] theorem State.emit_red (s : State) (o : Out) : (s.emit o).red = s.red := rfl
@[simp] theorem State.emit_loop (s : State) (o : Out) : (s.emit o).loop = s.loop := rfl
@[simp] theorem State.emit_prof (s : State) (o : Out) : (s.emit o).prof = s.prof := rfl
@[simp] theorem State.emit_recd (s : State) (o : Out) : (s.emit o).recd = s.recd := rfl
@[simp] theorem State.emit_tim (s : State) (o : Out) : (s.emit o).tim = s.tim := rfl
@[simp] theorem State.emit_safe (s : State) (o : Out) : (s.emit o).safe = s.safe := rfl
@[simp] theorem State.emit_mst (s : State) (o : Out) : (s.emit o).mst = s.mst := rfl
@[simp] theorem State.emit_dma (s : State) (o : Out) : (s.emit o).dma = s.dma := rfl
@[simp] theorem State.emit_pwr (s : State) (o : Out) : (s.emit o).pwr = s.pwr := rfl
@[simp] theorem State.emit_net (s : State) (o : Out) : (s.emit o).net = s.net := rfl
@[simp] theorem State.emit_mon (s : State) (o : Out) : (s.emit o).mon = s.mon := rfl
@[simp] theorem State.emit_cells (s : State) (o : Out) : (s.emit o).cells = s.cells := rfl
@[simp] theorem State.emit_out (s : State) (o : Out) : (s.emit o).out = s.out ++ [o] := rfl
@[simp] theorem State.emit_opens (s : State) (o : Out) : (s.emit o).opens = s.opens := rfl
@[simp] theorem State.emit_pending (s : State) (o : Out) : (s.emit o).pending = s.pending := rfl
@[simp] theorem State.emit_rd (s : State) (o : Out) (fd : Fld) : (s.emit o).rd fd = s.rd fd := rfl
@[simp] theorem State.emit_rdW (s : State) (o : Out) (ad : Nat) : (s.emit o).rdW ad = s.rdW ad := rfl
@[simp] theorem State.emit_cell (s : State) (o : Out) (ce : Nat) : (s.emit o).cell ce = s.cell ce := rfl
@[simp] theorem State.emit_byte (s : State) (o : Out) (ad : Nat) : (s.emit o).byte ad = s.byte ad := rfl

@[simp] theorem State.setClk_regs (s : State) (c : Clk) : (s.setClk c).regs = s.regs := rfl
@[simp] theorem State.setClk_mem (s : State) (c : Clk) : (s.setClk c).mem = s.mem := rfl
@[simp] theorem State.setClk_clk (s : State) (c : Clk) : (s.setClk c).clk = c := rfl
@[simp] theorem State.setClk_flt (s : State) (c : Clk) : (s.setClk c).flt = s.flt := rfl
@[simp] theorem State.setClk_sched (s : State) (c : Clk) : (s.setClk c).sched = s.sched := rfl
@[simp] theorem State.setClk_engRegs (s : State) (c : Clk) : (s.setClk c).engRegs = s.engRegs := rfl
@[simp] theorem State.setClk_chart (s : State) (c : Clk) : (s.setClk c).chart = s.chart := rfl
@[simp] theorem State.setClk_flash (s : State) (c : Clk) : (s.setClk c).flash = s.flash := rfl
@[simp] theorem State.setClk_lanes (s : State) (c : Clk) : (s.setClk c).lanes = s.lanes := rfl
@[simp] theorem State.setClk_conv (s : State) (c : Clk) : (s.setClk c).conv = s.conv := rfl
@[simp] theorem State.setClk_reef (s : State) (c : Clk) : (s.setClk c).reef = s.reef := rfl
@[simp] theorem State.setClk_cws (s : State) (c : Clk) : (s.setClk c).cws = s.cws := rfl
@[simp] theorem State.setClk_red (s : State) (c : Clk) : (s.setClk c).red = s.red := rfl
@[simp] theorem State.setClk_loop (s : State) (c : Clk) : (s.setClk c).loop = s.loop := rfl
@[simp] theorem State.setClk_prof (s : State) (c : Clk) : (s.setClk c).prof = s.prof := rfl
@[simp] theorem State.setClk_recd (s : State) (c : Clk) : (s.setClk c).recd = s.recd := rfl
@[simp] theorem State.setClk_tim (s : State) (c : Clk) : (s.setClk c).tim = s.tim := rfl
@[simp] theorem State.setClk_safe (s : State) (c : Clk) : (s.setClk c).safe = s.safe := rfl
@[simp] theorem State.setClk_mst (s : State) (c : Clk) : (s.setClk c).mst = s.mst := rfl
@[simp] theorem State.setClk_dma (s : State) (c : Clk) : (s.setClk c).dma = s.dma := rfl
@[simp] theorem State.setClk_pwr (s : State) (c : Clk) : (s.setClk c).pwr = s.pwr := rfl
@[simp] theorem State.setClk_net (s : State) (c : Clk) : (s.setClk c).net = s.net := rfl
@[simp] theorem State.setClk_mon (s : State) (c : Clk) : (s.setClk c).mon = s.mon := rfl
@[simp] theorem State.setClk_cells (s : State) (c : Clk) : (s.setClk c).cells = s.cells := rfl
@[simp] theorem State.setClk_out (s : State) (c : Clk) : (s.setClk c).out = s.out := rfl
@[simp] theorem State.setClk_opens (s : State) (c : Clk) : (s.setClk c).opens = s.opens := rfl
@[simp] theorem State.setClk_pending (s : State) (c : Clk) : (s.setClk c).pending = s.pending := rfl
@[simp] theorem State.setClk_rd (s : State) (c : Clk) (fd : Fld) : (s.setClk c).rd fd = s.rd fd := rfl
@[simp] theorem State.setClk_rdW (s : State) (c : Clk) (ad : Nat) : (s.setClk c).rdW ad = s.rdW ad := rfl
@[simp] theorem State.setClk_cell (s : State) (c : Clk) (ce : Nat) : (s.setClk c).cell ce = s.cell ce := rfl
@[simp] theorem State.setClk_byte (s : State) (c : Clk) (ad : Nat) : (s.setClk c).byte ad = s.byte ad := rfl

@[simp] theorem State.setChart_regs (s : State) (c : Chart) : (s.setChart c).regs = s.regs := rfl
@[simp] theorem State.setChart_mem (s : State) (c : Chart) : (s.setChart c).mem = s.mem := rfl
@[simp] theorem State.setChart_clk (s : State) (c : Chart) : (s.setChart c).clk = s.clk := rfl
@[simp] theorem State.setChart_flt (s : State) (c : Chart) : (s.setChart c).flt = s.flt := rfl
@[simp] theorem State.setChart_sched (s : State) (c : Chart) : (s.setChart c).sched = s.sched := rfl
@[simp] theorem State.setChart_engRegs (s : State) (c : Chart) : (s.setChart c).engRegs = s.engRegs := rfl
@[simp] theorem State.setChart_chart (s : State) (c : Chart) : (s.setChart c).chart = c := rfl
@[simp] theorem State.setChart_flash (s : State) (c : Chart) : (s.setChart c).flash = s.flash := rfl
@[simp] theorem State.setChart_lanes (s : State) (c : Chart) : (s.setChart c).lanes = s.lanes := rfl
@[simp] theorem State.setChart_conv (s : State) (c : Chart) : (s.setChart c).conv = s.conv := rfl
@[simp] theorem State.setChart_reef (s : State) (c : Chart) : (s.setChart c).reef = s.reef := rfl
@[simp] theorem State.setChart_cws (s : State) (c : Chart) : (s.setChart c).cws = s.cws := rfl
@[simp] theorem State.setChart_red (s : State) (c : Chart) : (s.setChart c).red = s.red := rfl
@[simp] theorem State.setChart_loop (s : State) (c : Chart) : (s.setChart c).loop = s.loop := rfl
@[simp] theorem State.setChart_prof (s : State) (c : Chart) : (s.setChart c).prof = s.prof := rfl
@[simp] theorem State.setChart_recd (s : State) (c : Chart) : (s.setChart c).recd = s.recd := rfl
@[simp] theorem State.setChart_tim (s : State) (c : Chart) : (s.setChart c).tim = s.tim := rfl
@[simp] theorem State.setChart_safe (s : State) (c : Chart) : (s.setChart c).safe = s.safe := rfl
@[simp] theorem State.setChart_mst (s : State) (c : Chart) : (s.setChart c).mst = s.mst := rfl
@[simp] theorem State.setChart_dma (s : State) (c : Chart) : (s.setChart c).dma = s.dma := rfl
@[simp] theorem State.setChart_pwr (s : State) (c : Chart) : (s.setChart c).pwr = s.pwr := rfl
@[simp] theorem State.setChart_net (s : State) (c : Chart) : (s.setChart c).net = s.net := rfl
@[simp] theorem State.setChart_mon (s : State) (c : Chart) : (s.setChart c).mon = s.mon := rfl
@[simp] theorem State.setChart_cells (s : State) (c : Chart) : (s.setChart c).cells = s.cells := rfl
@[simp] theorem State.setChart_out (s : State) (c : Chart) : (s.setChart c).out = s.out := rfl
@[simp] theorem State.setChart_opens (s : State) (c : Chart) : (s.setChart c).opens = s.opens := rfl
@[simp] theorem State.setChart_pending (s : State) (c : Chart) : (s.setChart c).pending = s.pending := rfl
@[simp] theorem State.setChart_rd (s : State) (c : Chart) (fd : Fld) : (s.setChart c).rd fd = s.rd fd := rfl
@[simp] theorem State.setChart_rdW (s : State) (c : Chart) (ad : Nat) : (s.setChart c).rdW ad = s.rdW ad := rfl
@[simp] theorem State.setChart_cell (s : State) (c : Chart) (ce : Nat) : (s.setChart c).cell ce = s.cell ce := rfl
@[simp] theorem State.setChart_byte (s : State) (c : Chart) (ad : Nat) : (s.setChart c).byte ad = s.byte ad := rfl

@[simp] theorem State.setConv_regs (s : State) (c : Conv) : (s.setConv c).regs = s.regs := rfl
@[simp] theorem State.setConv_mem (s : State) (c : Conv) : (s.setConv c).mem = s.mem := rfl
@[simp] theorem State.setConv_clk (s : State) (c : Conv) : (s.setConv c).clk = s.clk := rfl
@[simp] theorem State.setConv_flt (s : State) (c : Conv) : (s.setConv c).flt = s.flt := rfl
@[simp] theorem State.setConv_sched (s : State) (c : Conv) : (s.setConv c).sched = s.sched := rfl
@[simp] theorem State.setConv_engRegs (s : State) (c : Conv) : (s.setConv c).engRegs = s.engRegs := rfl
@[simp] theorem State.setConv_chart (s : State) (c : Conv) : (s.setConv c).chart = s.chart := rfl
@[simp] theorem State.setConv_flash (s : State) (c : Conv) : (s.setConv c).flash = s.flash := rfl
@[simp] theorem State.setConv_lanes (s : State) (c : Conv) : (s.setConv c).lanes = s.lanes := rfl
@[simp] theorem State.setConv_conv (s : State) (c : Conv) : (s.setConv c).conv = c := rfl
@[simp] theorem State.setConv_reef (s : State) (c : Conv) : (s.setConv c).reef = s.reef := rfl
@[simp] theorem State.setConv_cws (s : State) (c : Conv) : (s.setConv c).cws = s.cws := rfl
@[simp] theorem State.setConv_red (s : State) (c : Conv) : (s.setConv c).red = s.red := rfl
@[simp] theorem State.setConv_loop (s : State) (c : Conv) : (s.setConv c).loop = s.loop := rfl
@[simp] theorem State.setConv_prof (s : State) (c : Conv) : (s.setConv c).prof = s.prof := rfl
@[simp] theorem State.setConv_recd (s : State) (c : Conv) : (s.setConv c).recd = s.recd := rfl
@[simp] theorem State.setConv_tim (s : State) (c : Conv) : (s.setConv c).tim = s.tim := rfl
@[simp] theorem State.setConv_safe (s : State) (c : Conv) : (s.setConv c).safe = s.safe := rfl
@[simp] theorem State.setConv_mst (s : State) (c : Conv) : (s.setConv c).mst = s.mst := rfl
@[simp] theorem State.setConv_dma (s : State) (c : Conv) : (s.setConv c).dma = s.dma := rfl
@[simp] theorem State.setConv_pwr (s : State) (c : Conv) : (s.setConv c).pwr = s.pwr := rfl
@[simp] theorem State.setConv_net (s : State) (c : Conv) : (s.setConv c).net = s.net := rfl
@[simp] theorem State.setConv_mon (s : State) (c : Conv) : (s.setConv c).mon = s.mon := rfl
@[simp] theorem State.setConv_cells (s : State) (c : Conv) : (s.setConv c).cells = s.cells := rfl
@[simp] theorem State.setConv_out (s : State) (c : Conv) : (s.setConv c).out = s.out := rfl
@[simp] theorem State.setConv_opens (s : State) (c : Conv) : (s.setConv c).opens = s.opens := rfl
@[simp] theorem State.setConv_pending (s : State) (c : Conv) : (s.setConv c).pending = s.pending := rfl
@[simp] theorem State.setConv_rd (s : State) (c : Conv) (fd : Fld) : (s.setConv c).rd fd = s.rd fd := rfl
@[simp] theorem State.setConv_rdW (s : State) (c : Conv) (ad : Nat) : (s.setConv c).rdW ad = s.rdW ad := rfl
@[simp] theorem State.setConv_cell (s : State) (c : Conv) (ce : Nat) : (s.setConv c).cell ce = s.cell ce := rfl
@[simp] theorem State.setConv_byte (s : State) (c : Conv) (ad : Nat) : (s.setConv c).byte ad = s.byte ad := rfl

@[simp] theorem State.setReef_regs (s : State) (r : Reef) : (s.setReef r).regs = s.regs := rfl
@[simp] theorem State.setReef_mem (s : State) (r : Reef) : (s.setReef r).mem = s.mem := rfl
@[simp] theorem State.setReef_clk (s : State) (r : Reef) : (s.setReef r).clk = s.clk := rfl
@[simp] theorem State.setReef_flt (s : State) (r : Reef) : (s.setReef r).flt = s.flt := rfl
@[simp] theorem State.setReef_sched (s : State) (r : Reef) : (s.setReef r).sched = s.sched := rfl
@[simp] theorem State.setReef_engRegs (s : State) (r : Reef) : (s.setReef r).engRegs = s.engRegs := rfl
@[simp] theorem State.setReef_chart (s : State) (r : Reef) : (s.setReef r).chart = s.chart := rfl
@[simp] theorem State.setReef_flash (s : State) (r : Reef) : (s.setReef r).flash = s.flash := rfl
@[simp] theorem State.setReef_lanes (s : State) (r : Reef) : (s.setReef r).lanes = s.lanes := rfl
@[simp] theorem State.setReef_conv (s : State) (r : Reef) : (s.setReef r).conv = s.conv := rfl
@[simp] theorem State.setReef_reef (s : State) (r : Reef) : (s.setReef r).reef = r := rfl
@[simp] theorem State.setReef_cws (s : State) (r : Reef) : (s.setReef r).cws = s.cws := rfl
@[simp] theorem State.setReef_red (s : State) (r : Reef) : (s.setReef r).red = s.red := rfl
@[simp] theorem State.setReef_loop (s : State) (r : Reef) : (s.setReef r).loop = s.loop := rfl
@[simp] theorem State.setReef_prof (s : State) (r : Reef) : (s.setReef r).prof = s.prof := rfl
@[simp] theorem State.setReef_recd (s : State) (r : Reef) : (s.setReef r).recd = s.recd := rfl
@[simp] theorem State.setReef_tim (s : State) (r : Reef) : (s.setReef r).tim = s.tim := rfl
@[simp] theorem State.setReef_safe (s : State) (r : Reef) : (s.setReef r).safe = s.safe := rfl
@[simp] theorem State.setReef_mst (s : State) (r : Reef) : (s.setReef r).mst = s.mst := rfl
@[simp] theorem State.setReef_dma (s : State) (r : Reef) : (s.setReef r).dma = s.dma := rfl
@[simp] theorem State.setReef_pwr (s : State) (r : Reef) : (s.setReef r).pwr = s.pwr := rfl
@[simp] theorem State.setReef_net (s : State) (r : Reef) : (s.setReef r).net = s.net := rfl
@[simp] theorem State.setReef_mon (s : State) (r : Reef) : (s.setReef r).mon = s.mon := rfl
@[simp] theorem State.setReef_cells (s : State) (r : Reef) : (s.setReef r).cells = s.cells := rfl
@[simp] theorem State.setReef_out (s : State) (r : Reef) : (s.setReef r).out = s.out := rfl
@[simp] theorem State.setReef_opens (s : State) (r : Reef) : (s.setReef r).opens = s.opens := rfl
@[simp] theorem State.setReef_pending (s : State) (r : Reef) : (s.setReef r).pending = s.pending := rfl
@[simp] theorem State.setReef_rd (s : State) (r : Reef) (fd : Fld) : (s.setReef r).rd fd = s.rd fd := rfl
@[simp] theorem State.setReef_rdW (s : State) (r : Reef) (ad : Nat) : (s.setReef r).rdW ad = s.rdW ad := rfl
@[simp] theorem State.setReef_cell (s : State) (r : Reef) (ce : Nat) : (s.setReef r).cell ce = s.cell ce := rfl
@[simp] theorem State.setReef_byte (s : State) (r : Reef) (ad : Nat) : (s.setReef r).byte ad = s.byte ad := rfl

@[simp] theorem State.setRec_regs (s : State) (g : Nat) (r : Rec) : (s.setRec g r).regs = s.regs := rfl
@[simp] theorem State.setRec_mem (s : State) (g : Nat) (r : Rec) : (s.setRec g r).mem = s.mem := rfl
@[simp] theorem State.setRec_clk (s : State) (g : Nat) (r : Rec) : (s.setRec g r).clk = s.clk := rfl
@[simp] theorem State.setRec_flt (s : State) (g : Nat) (r : Rec) : (s.setRec g r).flt = s.flt := rfl
@[simp] theorem State.setRec_sched (s : State) (g : Nat) (r : Rec) : (s.setRec g r).sched = s.sched := rfl
@[simp] theorem State.setRec_engRegs (s : State) (g : Nat) (r : Rec) : (s.setRec g r).engRegs = s.engRegs := rfl
@[simp] theorem State.setRec_chart (s : State) (g : Nat) (r : Rec) : (s.setRec g r).chart = s.chart := rfl
@[simp] theorem State.setRec_flash (s : State) (g : Nat) (r : Rec) : (s.setRec g r).flash = s.flash := rfl
@[simp] theorem State.setRec_lanes (s : State) (g : Nat) (r : Rec) : (s.setRec g r).lanes = s.lanes := rfl
@[simp] theorem State.setRec_conv (s : State) (g : Nat) (r : Rec) : (s.setRec g r).conv = s.conv := rfl
@[simp] theorem State.setRec_cws (s : State) (g : Nat) (r : Rec) : (s.setRec g r).cws = s.cws := rfl
@[simp] theorem State.setRec_red (s : State) (g : Nat) (r : Rec) : (s.setRec g r).red = s.red := rfl
@[simp] theorem State.setRec_loop (s : State) (g : Nat) (r : Rec) : (s.setRec g r).loop = s.loop := rfl
@[simp] theorem State.setRec_prof (s : State) (g : Nat) (r : Rec) : (s.setRec g r).prof = s.prof := rfl
@[simp] theorem State.setRec_recd (s : State) (g : Nat) (r : Rec) : (s.setRec g r).recd = s.recd := rfl
@[simp] theorem State.setRec_tim (s : State) (g : Nat) (r : Rec) : (s.setRec g r).tim = s.tim := rfl
@[simp] theorem State.setRec_safe (s : State) (g : Nat) (r : Rec) : (s.setRec g r).safe = s.safe := rfl
@[simp] theorem State.setRec_mst (s : State) (g : Nat) (r : Rec) : (s.setRec g r).mst = s.mst := rfl
@[simp] theorem State.setRec_dma (s : State) (g : Nat) (r : Rec) : (s.setRec g r).dma = s.dma := rfl
@[simp] theorem State.setRec_pwr (s : State) (g : Nat) (r : Rec) : (s.setRec g r).pwr = s.pwr := rfl
@[simp] theorem State.setRec_net (s : State) (g : Nat) (r : Rec) : (s.setRec g r).net = s.net := rfl
@[simp] theorem State.setRec_mon (s : State) (g : Nat) (r : Rec) : (s.setRec g r).mon = s.mon := rfl
@[simp] theorem State.setRec_cells (s : State) (g : Nat) (r : Rec) : (s.setRec g r).cells = s.cells := rfl
@[simp] theorem State.setRec_out (s : State) (g : Nat) (r : Rec) : (s.setRec g r).out = s.out := rfl
@[simp] theorem State.setRec_opens (s : State) (g : Nat) (r : Rec) : (s.setRec g r).opens = s.opens := rfl
@[simp] theorem State.setRec_pending (s : State) (g : Nat) (r : Rec) : (s.setRec g r).pending = s.pending := rfl
@[simp] theorem State.setRec_rd (s : State) (g : Nat) (r : Rec) (fd : Fld) : (s.setRec g r).rd fd = s.rd fd := rfl
@[simp] theorem State.setRec_rdW (s : State) (g : Nat) (r : Rec) (ad : Nat) : (s.setRec g r).rdW ad = s.rdW ad := rfl
@[simp] theorem State.setRec_cell (s : State) (g : Nat) (r : Rec) (ce : Nat) : (s.setRec g r).cell ce = s.cell ce := rfl
@[simp] theorem State.setRec_byte (s : State) (g : Nat) (r : Rec) (ad : Nat) : (s.setRec g r).byte ad = s.byte ad := rfl

@[simp] theorem State.setArm_regs (s : State) (a : Nat) (q : ArmSt) : (s.setArm a q).regs = s.regs := rfl
@[simp] theorem State.setArm_mem (s : State) (a : Nat) (q : ArmSt) : (s.setArm a q).mem = s.mem := rfl
@[simp] theorem State.setArm_clk (s : State) (a : Nat) (q : ArmSt) : (s.setArm a q).clk = s.clk := rfl
@[simp] theorem State.setArm_flt (s : State) (a : Nat) (q : ArmSt) : (s.setArm a q).flt = s.flt := rfl
@[simp] theorem State.setArm_sched (s : State) (a : Nat) (q : ArmSt) : (s.setArm a q).sched = s.sched := rfl
@[simp] theorem State.setArm_engRegs (s : State) (a : Nat) (q : ArmSt) : (s.setArm a q).engRegs = s.engRegs := rfl
@[simp] theorem State.setArm_chart (s : State) (a : Nat) (q : ArmSt) : (s.setArm a q).chart = s.chart := rfl
@[simp] theorem State.setArm_flash (s : State) (a : Nat) (q : ArmSt) : (s.setArm a q).flash = s.flash := rfl
@[simp] theorem State.setArm_lanes (s : State) (a : Nat) (q : ArmSt) : (s.setArm a q).lanes = s.lanes := rfl
@[simp] theorem State.setArm_conv (s : State) (a : Nat) (q : ArmSt) : (s.setArm a q).conv = s.conv := rfl
@[simp] theorem State.setArm_cws (s : State) (a : Nat) (q : ArmSt) : (s.setArm a q).cws = s.cws := rfl
@[simp] theorem State.setArm_red (s : State) (a : Nat) (q : ArmSt) : (s.setArm a q).red = s.red := rfl
@[simp] theorem State.setArm_loop (s : State) (a : Nat) (q : ArmSt) : (s.setArm a q).loop = s.loop := rfl
@[simp] theorem State.setArm_prof (s : State) (a : Nat) (q : ArmSt) : (s.setArm a q).prof = s.prof := rfl
@[simp] theorem State.setArm_recd (s : State) (a : Nat) (q : ArmSt) : (s.setArm a q).recd = s.recd := rfl
@[simp] theorem State.setArm_tim (s : State) (a : Nat) (q : ArmSt) : (s.setArm a q).tim = s.tim := rfl
@[simp] theorem State.setArm_safe (s : State) (a : Nat) (q : ArmSt) : (s.setArm a q).safe = s.safe := rfl
@[simp] theorem State.setArm_mst (s : State) (a : Nat) (q : ArmSt) : (s.setArm a q).mst = s.mst := rfl
@[simp] theorem State.setArm_dma (s : State) (a : Nat) (q : ArmSt) : (s.setArm a q).dma = s.dma := rfl
@[simp] theorem State.setArm_pwr (s : State) (a : Nat) (q : ArmSt) : (s.setArm a q).pwr = s.pwr := rfl
@[simp] theorem State.setArm_net (s : State) (a : Nat) (q : ArmSt) : (s.setArm a q).net = s.net := rfl
@[simp] theorem State.setArm_mon (s : State) (a : Nat) (q : ArmSt) : (s.setArm a q).mon = s.mon := rfl
@[simp] theorem State.setArm_cells (s : State) (a : Nat) (q : ArmSt) : (s.setArm a q).cells = s.cells := rfl
@[simp] theorem State.setArm_out (s : State) (a : Nat) (q : ArmSt) : (s.setArm a q).out = s.out := rfl
@[simp] theorem State.setArm_opens (s : State) (a : Nat) (q : ArmSt) : (s.setArm a q).opens = s.opens := rfl
@[simp] theorem State.setArm_pending (s : State) (a : Nat) (q : ArmSt) : (s.setArm a q).pending = s.pending := rfl
@[simp] theorem State.setArm_rd (s : State) (a : Nat) (q : ArmSt) (fd : Fld) : (s.setArm a q).rd fd = s.rd fd := rfl
@[simp] theorem State.setArm_rdW (s : State) (a : Nat) (q : ArmSt) (ad : Nat) : (s.setArm a q).rdW ad = s.rdW ad := rfl
@[simp] theorem State.setArm_cell (s : State) (a : Nat) (q : ArmSt) (ce : Nat) : (s.setArm a q).cell ce = s.cell ce := rfl
@[simp] theorem State.setArm_byte (s : State) (a : Nat) (q : ArmSt) (ad : Nat) : (s.setArm a q).byte ad = s.byte ad := rfl

@[simp] theorem State.setCws_regs (s : State) (c : Cws) : (s.setCws c).regs = s.regs := rfl
@[simp] theorem State.setCws_mem (s : State) (c : Cws) : (s.setCws c).mem = s.mem := rfl
@[simp] theorem State.setCws_clk (s : State) (c : Cws) : (s.setCws c).clk = s.clk := rfl
@[simp] theorem State.setCws_flt (s : State) (c : Cws) : (s.setCws c).flt = s.flt := rfl
@[simp] theorem State.setCws_sched (s : State) (c : Cws) : (s.setCws c).sched = s.sched := rfl
@[simp] theorem State.setCws_engRegs (s : State) (c : Cws) : (s.setCws c).engRegs = s.engRegs := rfl
@[simp] theorem State.setCws_chart (s : State) (c : Cws) : (s.setCws c).chart = s.chart := rfl
@[simp] theorem State.setCws_flash (s : State) (c : Cws) : (s.setCws c).flash = s.flash := rfl
@[simp] theorem State.setCws_lanes (s : State) (c : Cws) : (s.setCws c).lanes = s.lanes := rfl
@[simp] theorem State.setCws_conv (s : State) (c : Cws) : (s.setCws c).conv = s.conv := rfl
@[simp] theorem State.setCws_reef (s : State) (c : Cws) : (s.setCws c).reef = s.reef := rfl
@[simp] theorem State.setCws_cws (s : State) (c : Cws) : (s.setCws c).cws = c := rfl
@[simp] theorem State.setCws_red (s : State) (c : Cws) : (s.setCws c).red = s.red := rfl
@[simp] theorem State.setCws_loop (s : State) (c : Cws) : (s.setCws c).loop = s.loop := rfl
@[simp] theorem State.setCws_prof (s : State) (c : Cws) : (s.setCws c).prof = s.prof := rfl
@[simp] theorem State.setCws_recd (s : State) (c : Cws) : (s.setCws c).recd = s.recd := rfl
@[simp] theorem State.setCws_tim (s : State) (c : Cws) : (s.setCws c).tim = s.tim := rfl
@[simp] theorem State.setCws_safe (s : State) (c : Cws) : (s.setCws c).safe = s.safe := rfl
@[simp] theorem State.setCws_mst (s : State) (c : Cws) : (s.setCws c).mst = s.mst := rfl
@[simp] theorem State.setCws_dma (s : State) (c : Cws) : (s.setCws c).dma = s.dma := rfl
@[simp] theorem State.setCws_pwr (s : State) (c : Cws) : (s.setCws c).pwr = s.pwr := rfl
@[simp] theorem State.setCws_net (s : State) (c : Cws) : (s.setCws c).net = s.net := rfl
@[simp] theorem State.setCws_mon (s : State) (c : Cws) : (s.setCws c).mon = s.mon := rfl
@[simp] theorem State.setCws_cells (s : State) (c : Cws) : (s.setCws c).cells = s.cells := rfl
@[simp] theorem State.setCws_out (s : State) (c : Cws) : (s.setCws c).out = s.out := rfl
@[simp] theorem State.setCws_opens (s : State) (c : Cws) : (s.setCws c).opens = s.opens := rfl
@[simp] theorem State.setCws_pending (s : State) (c : Cws) : (s.setCws c).pending = s.pending := rfl
@[simp] theorem State.setCws_rd (s : State) (c : Cws) (fd : Fld) : (s.setCws c).rd fd = s.rd fd := rfl
@[simp] theorem State.setCws_rdW (s : State) (c : Cws) (ad : Nat) : (s.setCws c).rdW ad = s.rdW ad := rfl
@[simp] theorem State.setCws_cell (s : State) (c : Cws) (ce : Nat) : (s.setCws c).cell ce = s.cell ce := rfl
@[simp] theorem State.setCws_byte (s : State) (c : Cws) (ad : Nat) : (s.setCws c).byte ad = s.byte ad := rfl

@[simp] theorem State.setWay_regs (s : State) (c : Nat) (w : Cway) : (s.setWay c w).regs = s.regs := rfl
@[simp] theorem State.setWay_mem (s : State) (c : Nat) (w : Cway) : (s.setWay c w).mem = s.mem := rfl
@[simp] theorem State.setWay_clk (s : State) (c : Nat) (w : Cway) : (s.setWay c w).clk = s.clk := rfl
@[simp] theorem State.setWay_flt (s : State) (c : Nat) (w : Cway) : (s.setWay c w).flt = s.flt := rfl
@[simp] theorem State.setWay_sched (s : State) (c : Nat) (w : Cway) : (s.setWay c w).sched = s.sched := rfl
@[simp] theorem State.setWay_engRegs (s : State) (c : Nat) (w : Cway) : (s.setWay c w).engRegs = s.engRegs := rfl
@[simp] theorem State.setWay_chart (s : State) (c : Nat) (w : Cway) : (s.setWay c w).chart = s.chart := rfl
@[simp] theorem State.setWay_flash (s : State) (c : Nat) (w : Cway) : (s.setWay c w).flash = s.flash := rfl
@[simp] theorem State.setWay_lanes (s : State) (c : Nat) (w : Cway) : (s.setWay c w).lanes = s.lanes := rfl
@[simp] theorem State.setWay_conv (s : State) (c : Nat) (w : Cway) : (s.setWay c w).conv = s.conv := rfl
@[simp] theorem State.setWay_reef (s : State) (c : Nat) (w : Cway) : (s.setWay c w).reef = s.reef := rfl
@[simp] theorem State.setWay_red (s : State) (c : Nat) (w : Cway) : (s.setWay c w).red = s.red := rfl
@[simp] theorem State.setWay_loop (s : State) (c : Nat) (w : Cway) : (s.setWay c w).loop = s.loop := rfl
@[simp] theorem State.setWay_prof (s : State) (c : Nat) (w : Cway) : (s.setWay c w).prof = s.prof := rfl
@[simp] theorem State.setWay_recd (s : State) (c : Nat) (w : Cway) : (s.setWay c w).recd = s.recd := rfl
@[simp] theorem State.setWay_tim (s : State) (c : Nat) (w : Cway) : (s.setWay c w).tim = s.tim := rfl
@[simp] theorem State.setWay_safe (s : State) (c : Nat) (w : Cway) : (s.setWay c w).safe = s.safe := rfl
@[simp] theorem State.setWay_mst (s : State) (c : Nat) (w : Cway) : (s.setWay c w).mst = s.mst := rfl
@[simp] theorem State.setWay_dma (s : State) (c : Nat) (w : Cway) : (s.setWay c w).dma = s.dma := rfl
@[simp] theorem State.setWay_pwr (s : State) (c : Nat) (w : Cway) : (s.setWay c w).pwr = s.pwr := rfl
@[simp] theorem State.setWay_net (s : State) (c : Nat) (w : Cway) : (s.setWay c w).net = s.net := rfl
@[simp] theorem State.setWay_mon (s : State) (c : Nat) (w : Cway) : (s.setWay c w).mon = s.mon := rfl
@[simp] theorem State.setWay_cells (s : State) (c : Nat) (w : Cway) : (s.setWay c w).cells = s.cells := rfl
@[simp] theorem State.setWay_out (s : State) (c : Nat) (w : Cway) : (s.setWay c w).out = s.out := rfl
@[simp] theorem State.setWay_opens (s : State) (c : Nat) (w : Cway) : (s.setWay c w).opens = s.opens := rfl
@[simp] theorem State.setWay_pending (s : State) (c : Nat) (w : Cway) : (s.setWay c w).pending = s.pending := rfl
@[simp] theorem State.setWay_rd (s : State) (c : Nat) (w : Cway) (fd : Fld) : (s.setWay c w).rd fd = s.rd fd := rfl
@[simp] theorem State.setWay_rdW (s : State) (c : Nat) (w : Cway) (ad : Nat) : (s.setWay c w).rdW ad = s.rdW ad := rfl
@[simp] theorem State.setWay_cell (s : State) (c : Nat) (w : Cway) (ce : Nat) : (s.setWay c w).cell ce = s.cell ce := rfl
@[simp] theorem State.setWay_byte (s : State) (c : Nat) (w : Cway) (ad : Nat) : (s.setWay c w).byte ad = s.byte ad := rfl

@[simp] theorem State.setJob_regs (s : State) (c : Nat) (j : Option FrJob) : (s.setJob c j).regs = s.regs := rfl
@[simp] theorem State.setJob_mem (s : State) (c : Nat) (j : Option FrJob) : (s.setJob c j).mem = s.mem := rfl
@[simp] theorem State.setJob_clk (s : State) (c : Nat) (j : Option FrJob) : (s.setJob c j).clk = s.clk := rfl
@[simp] theorem State.setJob_flt (s : State) (c : Nat) (j : Option FrJob) : (s.setJob c j).flt = s.flt := rfl
@[simp] theorem State.setJob_sched (s : State) (c : Nat) (j : Option FrJob) : (s.setJob c j).sched = s.sched := rfl
@[simp] theorem State.setJob_engRegs (s : State) (c : Nat) (j : Option FrJob) : (s.setJob c j).engRegs = s.engRegs := rfl
@[simp] theorem State.setJob_chart (s : State) (c : Nat) (j : Option FrJob) : (s.setJob c j).chart = s.chart := rfl
@[simp] theorem State.setJob_flash (s : State) (c : Nat) (j : Option FrJob) : (s.setJob c j).flash = s.flash := rfl
@[simp] theorem State.setJob_lanes (s : State) (c : Nat) (j : Option FrJob) : (s.setJob c j).lanes = s.lanes := rfl
@[simp] theorem State.setJob_conv (s : State) (c : Nat) (j : Option FrJob) : (s.setJob c j).conv = s.conv := rfl
@[simp] theorem State.setJob_reef (s : State) (c : Nat) (j : Option FrJob) : (s.setJob c j).reef = s.reef := rfl
@[simp] theorem State.setJob_red (s : State) (c : Nat) (j : Option FrJob) : (s.setJob c j).red = s.red := rfl
@[simp] theorem State.setJob_loop (s : State) (c : Nat) (j : Option FrJob) : (s.setJob c j).loop = s.loop := rfl
@[simp] theorem State.setJob_prof (s : State) (c : Nat) (j : Option FrJob) : (s.setJob c j).prof = s.prof := rfl
@[simp] theorem State.setJob_recd (s : State) (c : Nat) (j : Option FrJob) : (s.setJob c j).recd = s.recd := rfl
@[simp] theorem State.setJob_tim (s : State) (c : Nat) (j : Option FrJob) : (s.setJob c j).tim = s.tim := rfl
@[simp] theorem State.setJob_safe (s : State) (c : Nat) (j : Option FrJob) : (s.setJob c j).safe = s.safe := rfl
@[simp] theorem State.setJob_mst (s : State) (c : Nat) (j : Option FrJob) : (s.setJob c j).mst = s.mst := rfl
@[simp] theorem State.setJob_dma (s : State) (c : Nat) (j : Option FrJob) : (s.setJob c j).dma = s.dma := rfl
@[simp] theorem State.setJob_pwr (s : State) (c : Nat) (j : Option FrJob) : (s.setJob c j).pwr = s.pwr := rfl
@[simp] theorem State.setJob_net (s : State) (c : Nat) (j : Option FrJob) : (s.setJob c j).net = s.net := rfl
@[simp] theorem State.setJob_mon (s : State) (c : Nat) (j : Option FrJob) : (s.setJob c j).mon = s.mon := rfl
@[simp] theorem State.setJob_cells (s : State) (c : Nat) (j : Option FrJob) : (s.setJob c j).cells = s.cells := rfl
@[simp] theorem State.setJob_out (s : State) (c : Nat) (j : Option FrJob) : (s.setJob c j).out = s.out := rfl
@[simp] theorem State.setJob_opens (s : State) (c : Nat) (j : Option FrJob) : (s.setJob c j).opens = s.opens := rfl
@[simp] theorem State.setJob_pending (s : State) (c : Nat) (j : Option FrJob) : (s.setJob c j).pending = s.pending := rfl
@[simp] theorem State.setJob_rd (s : State) (c : Nat) (j : Option FrJob) (fd : Fld) : (s.setJob c j).rd fd = s.rd fd := rfl
@[simp] theorem State.setJob_rdW (s : State) (c : Nat) (j : Option FrJob) (ad : Nat) : (s.setJob c j).rdW ad = s.rdW ad := rfl
@[simp] theorem State.setJob_cell (s : State) (c : Nat) (j : Option FrJob) (ce : Nat)
    : (s.setJob c j).cell ce = s.cell ce := rfl
@[simp] theorem State.setJob_byte (s : State) (c : Nat) (j : Option FrJob) (ad : Nat)
    : (s.setJob c j).byte ad = s.byte ad := rfl

@[simp] theorem State.setRed_regs (s : State) (r : Red) : (s.setRed r).regs = s.regs := rfl
@[simp] theorem State.setRed_mem (s : State) (r : Red) : (s.setRed r).mem = s.mem := rfl
@[simp] theorem State.setRed_clk (s : State) (r : Red) : (s.setRed r).clk = s.clk := rfl
@[simp] theorem State.setRed_flt (s : State) (r : Red) : (s.setRed r).flt = s.flt := rfl
@[simp] theorem State.setRed_sched (s : State) (r : Red) : (s.setRed r).sched = s.sched := rfl
@[simp] theorem State.setRed_engRegs (s : State) (r : Red) : (s.setRed r).engRegs = s.engRegs := rfl
@[simp] theorem State.setRed_chart (s : State) (r : Red) : (s.setRed r).chart = s.chart := rfl
@[simp] theorem State.setRed_flash (s : State) (r : Red) : (s.setRed r).flash = s.flash := rfl
@[simp] theorem State.setRed_lanes (s : State) (r : Red) : (s.setRed r).lanes = s.lanes := rfl
@[simp] theorem State.setRed_conv (s : State) (r : Red) : (s.setRed r).conv = s.conv := rfl
@[simp] theorem State.setRed_reef (s : State) (r : Red) : (s.setRed r).reef = s.reef := rfl
@[simp] theorem State.setRed_cws (s : State) (r : Red) : (s.setRed r).cws = s.cws := rfl
@[simp] theorem State.setRed_red (s : State) (r : Red) : (s.setRed r).red = r := rfl
@[simp] theorem State.setRed_loop (s : State) (r : Red) : (s.setRed r).loop = s.loop := rfl
@[simp] theorem State.setRed_prof (s : State) (r : Red) : (s.setRed r).prof = s.prof := rfl
@[simp] theorem State.setRed_recd (s : State) (r : Red) : (s.setRed r).recd = s.recd := rfl
@[simp] theorem State.setRed_tim (s : State) (r : Red) : (s.setRed r).tim = s.tim := rfl
@[simp] theorem State.setRed_safe (s : State) (r : Red) : (s.setRed r).safe = s.safe := rfl
@[simp] theorem State.setRed_mst (s : State) (r : Red) : (s.setRed r).mst = s.mst := rfl
@[simp] theorem State.setRed_dma (s : State) (r : Red) : (s.setRed r).dma = s.dma := rfl
@[simp] theorem State.setRed_pwr (s : State) (r : Red) : (s.setRed r).pwr = s.pwr := rfl
@[simp] theorem State.setRed_net (s : State) (r : Red) : (s.setRed r).net = s.net := rfl
@[simp] theorem State.setRed_mon (s : State) (r : Red) : (s.setRed r).mon = s.mon := rfl
@[simp] theorem State.setRed_cells (s : State) (r : Red) : (s.setRed r).cells = s.cells := rfl
@[simp] theorem State.setRed_out (s : State) (r : Red) : (s.setRed r).out = s.out := rfl
@[simp] theorem State.setRed_opens (s : State) (r : Red) : (s.setRed r).opens = s.opens := rfl
@[simp] theorem State.setRed_pending (s : State) (r : Red) : (s.setRed r).pending = s.pending := rfl
@[simp] theorem State.setRed_rd (s : State) (r : Red) (fd : Fld) : (s.setRed r).rd fd = s.rd fd := rfl
@[simp] theorem State.setRed_rdW (s : State) (r : Red) (ad : Nat) : (s.setRed r).rdW ad = s.rdW ad := rfl
@[simp] theorem State.setRed_cell (s : State) (r : Red) (ce : Nat) : (s.setRed r).cell ce = s.cell ce := rfl
@[simp] theorem State.setRed_byte (s : State) (r : Red) (ad : Nat) : (s.setRed r).byte ad = s.byte ad := rfl

@[simp] theorem State.setLoop_regs (s : State) (q : Loop) : (s.setLoop q).regs = s.regs := rfl
@[simp] theorem State.setLoop_mem (s : State) (q : Loop) : (s.setLoop q).mem = s.mem := rfl
@[simp] theorem State.setLoop_clk (s : State) (q : Loop) : (s.setLoop q).clk = s.clk := rfl
@[simp] theorem State.setLoop_flt (s : State) (q : Loop) : (s.setLoop q).flt = s.flt := rfl
@[simp] theorem State.setLoop_sched (s : State) (q : Loop) : (s.setLoop q).sched = s.sched := rfl
@[simp] theorem State.setLoop_engRegs (s : State) (q : Loop) : (s.setLoop q).engRegs = s.engRegs := rfl
@[simp] theorem State.setLoop_chart (s : State) (q : Loop) : (s.setLoop q).chart = s.chart := rfl
@[simp] theorem State.setLoop_flash (s : State) (q : Loop) : (s.setLoop q).flash = s.flash := rfl
@[simp] theorem State.setLoop_lanes (s : State) (q : Loop) : (s.setLoop q).lanes = s.lanes := rfl
@[simp] theorem State.setLoop_conv (s : State) (q : Loop) : (s.setLoop q).conv = s.conv := rfl
@[simp] theorem State.setLoop_reef (s : State) (q : Loop) : (s.setLoop q).reef = s.reef := rfl
@[simp] theorem State.setLoop_cws (s : State) (q : Loop) : (s.setLoop q).cws = s.cws := rfl
@[simp] theorem State.setLoop_red (s : State) (q : Loop) : (s.setLoop q).red = s.red := rfl
@[simp] theorem State.setLoop_loop (s : State) (q : Loop) : (s.setLoop q).loop = q := rfl
@[simp] theorem State.setLoop_prof (s : State) (q : Loop) : (s.setLoop q).prof = s.prof := rfl
@[simp] theorem State.setLoop_recd (s : State) (q : Loop) : (s.setLoop q).recd = s.recd := rfl
@[simp] theorem State.setLoop_tim (s : State) (q : Loop) : (s.setLoop q).tim = s.tim := rfl
@[simp] theorem State.setLoop_safe (s : State) (q : Loop) : (s.setLoop q).safe = s.safe := rfl
@[simp] theorem State.setLoop_mst (s : State) (q : Loop) : (s.setLoop q).mst = s.mst := rfl
@[simp] theorem State.setLoop_dma (s : State) (q : Loop) : (s.setLoop q).dma = s.dma := rfl
@[simp] theorem State.setLoop_pwr (s : State) (q : Loop) : (s.setLoop q).pwr = s.pwr := rfl
@[simp] theorem State.setLoop_net (s : State) (q : Loop) : (s.setLoop q).net = s.net := rfl
@[simp] theorem State.setLoop_mon (s : State) (q : Loop) : (s.setLoop q).mon = s.mon := rfl
@[simp] theorem State.setLoop_cells (s : State) (q : Loop) : (s.setLoop q).cells = s.cells := rfl
@[simp] theorem State.setLoop_out (s : State) (q : Loop) : (s.setLoop q).out = s.out := rfl
@[simp] theorem State.setLoop_opens (s : State) (q : Loop) : (s.setLoop q).opens = s.opens := rfl
@[simp] theorem State.setLoop_pending (s : State) (q : Loop) : (s.setLoop q).pending = s.pending := rfl
@[simp] theorem State.setLoop_rd (s : State) (q : Loop) (fd : Fld) : (s.setLoop q).rd fd = s.rd fd := rfl
@[simp] theorem State.setLoop_rdW (s : State) (q : Loop) (ad : Nat) : (s.setLoop q).rdW ad = s.rdW ad := rfl
@[simp] theorem State.setLoop_cell (s : State) (q : Loop) (ce : Nat) : (s.setLoop q).cell ce = s.cell ce := rfl
@[simp] theorem State.setLoop_byte (s : State) (q : Loop) (ad : Nat) : (s.setLoop q).byte ad = s.byte ad := rfl

@[simp] theorem State.setProf_regs (s : State) (q : Prof) : (s.setProf q).regs = s.regs := rfl
@[simp] theorem State.setProf_mem (s : State) (q : Prof) : (s.setProf q).mem = s.mem := rfl
@[simp] theorem State.setProf_clk (s : State) (q : Prof) : (s.setProf q).clk = s.clk := rfl
@[simp] theorem State.setProf_flt (s : State) (q : Prof) : (s.setProf q).flt = s.flt := rfl
@[simp] theorem State.setProf_sched (s : State) (q : Prof) : (s.setProf q).sched = s.sched := rfl
@[simp] theorem State.setProf_engRegs (s : State) (q : Prof) : (s.setProf q).engRegs = s.engRegs := rfl
@[simp] theorem State.setProf_chart (s : State) (q : Prof) : (s.setProf q).chart = s.chart := rfl
@[simp] theorem State.setProf_flash (s : State) (q : Prof) : (s.setProf q).flash = s.flash := rfl
@[simp] theorem State.setProf_lanes (s : State) (q : Prof) : (s.setProf q).lanes = s.lanes := rfl
@[simp] theorem State.setProf_conv (s : State) (q : Prof) : (s.setProf q).conv = s.conv := rfl
@[simp] theorem State.setProf_reef (s : State) (q : Prof) : (s.setProf q).reef = s.reef := rfl
@[simp] theorem State.setProf_cws (s : State) (q : Prof) : (s.setProf q).cws = s.cws := rfl
@[simp] theorem State.setProf_red (s : State) (q : Prof) : (s.setProf q).red = s.red := rfl
@[simp] theorem State.setProf_loop (s : State) (q : Prof) : (s.setProf q).loop = s.loop := rfl
@[simp] theorem State.setProf_prof (s : State) (q : Prof) : (s.setProf q).prof = q := rfl
@[simp] theorem State.setProf_recd (s : State) (q : Prof) : (s.setProf q).recd = s.recd := rfl
@[simp] theorem State.setProf_tim (s : State) (q : Prof) : (s.setProf q).tim = s.tim := rfl
@[simp] theorem State.setProf_safe (s : State) (q : Prof) : (s.setProf q).safe = s.safe := rfl
@[simp] theorem State.setProf_mst (s : State) (q : Prof) : (s.setProf q).mst = s.mst := rfl
@[simp] theorem State.setProf_dma (s : State) (q : Prof) : (s.setProf q).dma = s.dma := rfl
@[simp] theorem State.setProf_pwr (s : State) (q : Prof) : (s.setProf q).pwr = s.pwr := rfl
@[simp] theorem State.setProf_net (s : State) (q : Prof) : (s.setProf q).net = s.net := rfl
@[simp] theorem State.setProf_mon (s : State) (q : Prof) : (s.setProf q).mon = s.mon := rfl
@[simp] theorem State.setProf_cells (s : State) (q : Prof) : (s.setProf q).cells = s.cells := rfl
@[simp] theorem State.setProf_out (s : State) (q : Prof) : (s.setProf q).out = s.out := rfl
@[simp] theorem State.setProf_opens (s : State) (q : Prof) : (s.setProf q).opens = s.opens := rfl
@[simp] theorem State.setProf_pending (s : State) (q : Prof) : (s.setProf q).pending = s.pending := rfl
@[simp] theorem State.setProf_rd (s : State) (q : Prof) (fd : Fld) : (s.setProf q).rd fd = s.rd fd := rfl
@[simp] theorem State.setProf_rdW (s : State) (q : Prof) (ad : Nat) : (s.setProf q).rdW ad = s.rdW ad := rfl
@[simp] theorem State.setProf_cell (s : State) (q : Prof) (ce : Nat) : (s.setProf q).cell ce = s.cell ce := rfl
@[simp] theorem State.setProf_byte (s : State) (q : Prof) (ad : Nat) : (s.setProf q).byte ad = s.byte ad := rfl

@[simp] theorem State.setRecd_regs (s : State) (r : Recd) : (s.setRecd r).regs = s.regs := rfl
@[simp] theorem State.setRecd_mem (s : State) (r : Recd) : (s.setRecd r).mem = s.mem := rfl
@[simp] theorem State.setRecd_clk (s : State) (r : Recd) : (s.setRecd r).clk = s.clk := rfl
@[simp] theorem State.setRecd_flt (s : State) (r : Recd) : (s.setRecd r).flt = s.flt := rfl
@[simp] theorem State.setRecd_sched (s : State) (r : Recd) : (s.setRecd r).sched = s.sched := rfl
@[simp] theorem State.setRecd_engRegs (s : State) (r : Recd) : (s.setRecd r).engRegs = s.engRegs := rfl
@[simp] theorem State.setRecd_chart (s : State) (r : Recd) : (s.setRecd r).chart = s.chart := rfl
@[simp] theorem State.setRecd_flash (s : State) (r : Recd) : (s.setRecd r).flash = s.flash := rfl
@[simp] theorem State.setRecd_lanes (s : State) (r : Recd) : (s.setRecd r).lanes = s.lanes := rfl
@[simp] theorem State.setRecd_conv (s : State) (r : Recd) : (s.setRecd r).conv = s.conv := rfl
@[simp] theorem State.setRecd_reef (s : State) (r : Recd) : (s.setRecd r).reef = s.reef := rfl
@[simp] theorem State.setRecd_cws (s : State) (r : Recd) : (s.setRecd r).cws = s.cws := rfl
@[simp] theorem State.setRecd_red (s : State) (r : Recd) : (s.setRecd r).red = s.red := rfl
@[simp] theorem State.setRecd_loop (s : State) (r : Recd) : (s.setRecd r).loop = s.loop := rfl
@[simp] theorem State.setRecd_prof (s : State) (r : Recd) : (s.setRecd r).prof = s.prof := rfl
@[simp] theorem State.setRecd_recd (s : State) (r : Recd) : (s.setRecd r).recd = r := rfl
@[simp] theorem State.setRecd_tim (s : State) (r : Recd) : (s.setRecd r).tim = s.tim := rfl
@[simp] theorem State.setRecd_safe (s : State) (r : Recd) : (s.setRecd r).safe = s.safe := rfl
@[simp] theorem State.setRecd_mst (s : State) (r : Recd) : (s.setRecd r).mst = s.mst := rfl
@[simp] theorem State.setRecd_dma (s : State) (r : Recd) : (s.setRecd r).dma = s.dma := rfl
@[simp] theorem State.setRecd_pwr (s : State) (r : Recd) : (s.setRecd r).pwr = s.pwr := rfl
@[simp] theorem State.setRecd_net (s : State) (r : Recd) : (s.setRecd r).net = s.net := rfl
@[simp] theorem State.setRecd_mon (s : State) (r : Recd) : (s.setRecd r).mon = s.mon := rfl
@[simp] theorem State.setRecd_cells (s : State) (r : Recd) : (s.setRecd r).cells = s.cells := rfl
@[simp] theorem State.setRecd_out (s : State) (r : Recd) : (s.setRecd r).out = s.out := rfl
@[simp] theorem State.setRecd_opens (s : State) (r : Recd) : (s.setRecd r).opens = s.opens := rfl
@[simp] theorem State.setRecd_pending (s : State) (r : Recd) : (s.setRecd r).pending = s.pending := rfl
@[simp] theorem State.setRecd_rd (s : State) (r : Recd) (fd : Fld) : (s.setRecd r).rd fd = s.rd fd := rfl
@[simp] theorem State.setRecd_rdW (s : State) (r : Recd) (ad : Nat) : (s.setRecd r).rdW ad = s.rdW ad := rfl
@[simp] theorem State.setRecd_cell (s : State) (r : Recd) (ce : Nat) : (s.setRecd r).cell ce = s.cell ce := rfl
@[simp] theorem State.setRecd_byte (s : State) (r : Recd) (ad : Nat) : (s.setRecd r).byte ad = s.byte ad := rfl

@[simp] theorem State.setTim_regs (s : State) (t : TimeSt) : (s.setTim t).regs = s.regs := rfl
@[simp] theorem State.setTim_mem (s : State) (t : TimeSt) : (s.setTim t).mem = s.mem := rfl
@[simp] theorem State.setTim_clk (s : State) (t : TimeSt) : (s.setTim t).clk = s.clk := rfl
@[simp] theorem State.setTim_flt (s : State) (t : TimeSt) : (s.setTim t).flt = s.flt := rfl
@[simp] theorem State.setTim_sched (s : State) (t : TimeSt) : (s.setTim t).sched = s.sched := rfl
@[simp] theorem State.setTim_engRegs (s : State) (t : TimeSt) : (s.setTim t).engRegs = s.engRegs := rfl
@[simp] theorem State.setTim_chart (s : State) (t : TimeSt) : (s.setTim t).chart = s.chart := rfl
@[simp] theorem State.setTim_flash (s : State) (t : TimeSt) : (s.setTim t).flash = s.flash := rfl
@[simp] theorem State.setTim_lanes (s : State) (t : TimeSt) : (s.setTim t).lanes = s.lanes := rfl
@[simp] theorem State.setTim_conv (s : State) (t : TimeSt) : (s.setTim t).conv = s.conv := rfl
@[simp] theorem State.setTim_reef (s : State) (t : TimeSt) : (s.setTim t).reef = s.reef := rfl
@[simp] theorem State.setTim_cws (s : State) (t : TimeSt) : (s.setTim t).cws = s.cws := rfl
@[simp] theorem State.setTim_red (s : State) (t : TimeSt) : (s.setTim t).red = s.red := rfl
@[simp] theorem State.setTim_loop (s : State) (t : TimeSt) : (s.setTim t).loop = s.loop := rfl
@[simp] theorem State.setTim_prof (s : State) (t : TimeSt) : (s.setTim t).prof = s.prof := rfl
@[simp] theorem State.setTim_recd (s : State) (t : TimeSt) : (s.setTim t).recd = s.recd := rfl
@[simp] theorem State.setTim_tim (s : State) (t : TimeSt) : (s.setTim t).tim = t := rfl
@[simp] theorem State.setTim_safe (s : State) (t : TimeSt) : (s.setTim t).safe = s.safe := rfl
@[simp] theorem State.setTim_mst (s : State) (t : TimeSt) : (s.setTim t).mst = s.mst := rfl
@[simp] theorem State.setTim_dma (s : State) (t : TimeSt) : (s.setTim t).dma = s.dma := rfl
@[simp] theorem State.setTim_pwr (s : State) (t : TimeSt) : (s.setTim t).pwr = s.pwr := rfl
@[simp] theorem State.setTim_net (s : State) (t : TimeSt) : (s.setTim t).net = s.net := rfl
@[simp] theorem State.setTim_mon (s : State) (t : TimeSt) : (s.setTim t).mon = s.mon := rfl
@[simp] theorem State.setTim_cells (s : State) (t : TimeSt) : (s.setTim t).cells = s.cells := rfl
@[simp] theorem State.setTim_out (s : State) (t : TimeSt) : (s.setTim t).out = s.out := rfl
@[simp] theorem State.setTim_opens (s : State) (t : TimeSt) : (s.setTim t).opens = s.opens := rfl
@[simp] theorem State.setTim_pending (s : State) (t : TimeSt) : (s.setTim t).pending = s.pending := rfl
@[simp] theorem State.setTim_rd (s : State) (t : TimeSt) (fd : Fld) : (s.setTim t).rd fd = s.rd fd := rfl
@[simp] theorem State.setTim_rdW (s : State) (t : TimeSt) (ad : Nat) : (s.setTim t).rdW ad = s.rdW ad := rfl
@[simp] theorem State.setTim_cell (s : State) (t : TimeSt) (ce : Nat) : (s.setTim t).cell ce = s.cell ce := rfl
@[simp] theorem State.setTim_byte (s : State) (t : TimeSt) (ad : Nat) : (s.setTim t).byte ad = s.byte ad := rfl

@[simp] theorem State.setTrig_regs (s : State) (k : Nat) (t : Trig) : (s.setTrig k t).regs = s.regs := rfl
@[simp] theorem State.setTrig_mem (s : State) (k : Nat) (t : Trig) : (s.setTrig k t).mem = s.mem := rfl
@[simp] theorem State.setTrig_clk (s : State) (k : Nat) (t : Trig) : (s.setTrig k t).clk = s.clk := rfl
@[simp] theorem State.setTrig_flt (s : State) (k : Nat) (t : Trig) : (s.setTrig k t).flt = s.flt := rfl
@[simp] theorem State.setTrig_sched (s : State) (k : Nat) (t : Trig) : (s.setTrig k t).sched = s.sched := rfl
@[simp] theorem State.setTrig_engRegs (s : State) (k : Nat) (t : Trig) : (s.setTrig k t).engRegs = s.engRegs := rfl
@[simp] theorem State.setTrig_chart (s : State) (k : Nat) (t : Trig) : (s.setTrig k t).chart = s.chart := rfl
@[simp] theorem State.setTrig_flash (s : State) (k : Nat) (t : Trig) : (s.setTrig k t).flash = s.flash := rfl
@[simp] theorem State.setTrig_lanes (s : State) (k : Nat) (t : Trig) : (s.setTrig k t).lanes = s.lanes := rfl
@[simp] theorem State.setTrig_conv (s : State) (k : Nat) (t : Trig) : (s.setTrig k t).conv = s.conv := rfl
@[simp] theorem State.setTrig_reef (s : State) (k : Nat) (t : Trig) : (s.setTrig k t).reef = s.reef := rfl
@[simp] theorem State.setTrig_cws (s : State) (k : Nat) (t : Trig) : (s.setTrig k t).cws = s.cws := rfl
@[simp] theorem State.setTrig_red (s : State) (k : Nat) (t : Trig) : (s.setTrig k t).red = s.red := rfl
@[simp] theorem State.setTrig_loop (s : State) (k : Nat) (t : Trig) : (s.setTrig k t).loop = s.loop := rfl
@[simp] theorem State.setTrig_prof (s : State) (k : Nat) (t : Trig) : (s.setTrig k t).prof = s.prof := rfl
@[simp] theorem State.setTrig_recd (s : State) (k : Nat) (t : Trig) : (s.setTrig k t).recd = s.recd := rfl
@[simp] theorem State.setTrig_safe (s : State) (k : Nat) (t : Trig) : (s.setTrig k t).safe = s.safe := rfl
@[simp] theorem State.setTrig_mst (s : State) (k : Nat) (t : Trig) : (s.setTrig k t).mst = s.mst := rfl
@[simp] theorem State.setTrig_dma (s : State) (k : Nat) (t : Trig) : (s.setTrig k t).dma = s.dma := rfl
@[simp] theorem State.setTrig_pwr (s : State) (k : Nat) (t : Trig) : (s.setTrig k t).pwr = s.pwr := rfl
@[simp] theorem State.setTrig_net (s : State) (k : Nat) (t : Trig) : (s.setTrig k t).net = s.net := rfl
@[simp] theorem State.setTrig_mon (s : State) (k : Nat) (t : Trig) : (s.setTrig k t).mon = s.mon := rfl
@[simp] theorem State.setTrig_cells (s : State) (k : Nat) (t : Trig) : (s.setTrig k t).cells = s.cells := rfl
@[simp] theorem State.setTrig_out (s : State) (k : Nat) (t : Trig) : (s.setTrig k t).out = s.out := rfl
@[simp] theorem State.setTrig_opens (s : State) (k : Nat) (t : Trig) : (s.setTrig k t).opens = s.opens := rfl
@[simp] theorem State.setTrig_pending (s : State) (k : Nat) (t : Trig) : (s.setTrig k t).pending = s.pending := rfl
@[simp] theorem State.setTrig_rd (s : State) (k : Nat) (t : Trig) (fd : Fld) : (s.setTrig k t).rd fd = s.rd fd := rfl
@[simp] theorem State.setTrig_rdW (s : State) (k : Nat) (t : Trig) (ad : Nat) : (s.setTrig k t).rdW ad = s.rdW ad := rfl
@[simp] theorem State.setTrig_cell (s : State) (k : Nat) (t : Trig) (ce : Nat) : (s.setTrig k t).cell ce = s.cell ce := rfl
@[simp] theorem State.setTrig_byte (s : State) (k : Nat) (t : Trig) (ad : Nat) : (s.setTrig k t).byte ad = s.byte ad := rfl

@[simp] theorem State.setSafe_regs (s : State) (q : Safe) : (s.setSafe q).regs = s.regs := rfl
@[simp] theorem State.setSafe_mem (s : State) (q : Safe) : (s.setSafe q).mem = s.mem := rfl
@[simp] theorem State.setSafe_clk (s : State) (q : Safe) : (s.setSafe q).clk = s.clk := rfl
@[simp] theorem State.setSafe_flt (s : State) (q : Safe) : (s.setSafe q).flt = s.flt := rfl
@[simp] theorem State.setSafe_sched (s : State) (q : Safe) : (s.setSafe q).sched = s.sched := rfl
@[simp] theorem State.setSafe_engRegs (s : State) (q : Safe) : (s.setSafe q).engRegs = s.engRegs := rfl
@[simp] theorem State.setSafe_chart (s : State) (q : Safe) : (s.setSafe q).chart = s.chart := rfl
@[simp] theorem State.setSafe_flash (s : State) (q : Safe) : (s.setSafe q).flash = s.flash := rfl
@[simp] theorem State.setSafe_lanes (s : State) (q : Safe) : (s.setSafe q).lanes = s.lanes := rfl
@[simp] theorem State.setSafe_conv (s : State) (q : Safe) : (s.setSafe q).conv = s.conv := rfl
@[simp] theorem State.setSafe_reef (s : State) (q : Safe) : (s.setSafe q).reef = s.reef := rfl
@[simp] theorem State.setSafe_cws (s : State) (q : Safe) : (s.setSafe q).cws = s.cws := rfl
@[simp] theorem State.setSafe_red (s : State) (q : Safe) : (s.setSafe q).red = s.red := rfl
@[simp] theorem State.setSafe_loop (s : State) (q : Safe) : (s.setSafe q).loop = s.loop := rfl
@[simp] theorem State.setSafe_prof (s : State) (q : Safe) : (s.setSafe q).prof = s.prof := rfl
@[simp] theorem State.setSafe_recd (s : State) (q : Safe) : (s.setSafe q).recd = s.recd := rfl
@[simp] theorem State.setSafe_tim (s : State) (q : Safe) : (s.setSafe q).tim = s.tim := rfl
@[simp] theorem State.setSafe_safe (s : State) (q : Safe) : (s.setSafe q).safe = q := rfl
@[simp] theorem State.setSafe_mst (s : State) (q : Safe) : (s.setSafe q).mst = s.mst := rfl
@[simp] theorem State.setSafe_dma (s : State) (q : Safe) : (s.setSafe q).dma = s.dma := rfl
@[simp] theorem State.setSafe_pwr (s : State) (q : Safe) : (s.setSafe q).pwr = s.pwr := rfl
@[simp] theorem State.setSafe_net (s : State) (q : Safe) : (s.setSafe q).net = s.net := rfl
@[simp] theorem State.setSafe_mon (s : State) (q : Safe) : (s.setSafe q).mon = s.mon := rfl
@[simp] theorem State.setSafe_cells (s : State) (q : Safe) : (s.setSafe q).cells = s.cells := rfl
@[simp] theorem State.setSafe_out (s : State) (q : Safe) : (s.setSafe q).out = s.out := rfl
@[simp] theorem State.setSafe_opens (s : State) (q : Safe) : (s.setSafe q).opens = s.opens := rfl
@[simp] theorem State.setSafe_pending (s : State) (q : Safe) : (s.setSafe q).pending = s.pending := rfl
@[simp] theorem State.setSafe_rd (s : State) (q : Safe) (fd : Fld) : (s.setSafe q).rd fd = s.rd fd := rfl
@[simp] theorem State.setSafe_rdW (s : State) (q : Safe) (ad : Nat) : (s.setSafe q).rdW ad = s.rdW ad := rfl
@[simp] theorem State.setSafe_cell (s : State) (q : Safe) (ce : Nat) : (s.setSafe q).cell ce = s.cell ce := rfl
@[simp] theorem State.setSafe_byte (s : State) (q : Safe) (ad : Nat) : (s.setSafe q).byte ad = s.byte ad := rfl

@[simp] theorem State.setFn_regs (s : State) (f : Nat) (x : SafeFn) : (s.setFn f x).regs = s.regs := rfl
@[simp] theorem State.setFn_mem (s : State) (f : Nat) (x : SafeFn) : (s.setFn f x).mem = s.mem := rfl
@[simp] theorem State.setFn_clk (s : State) (f : Nat) (x : SafeFn) : (s.setFn f x).clk = s.clk := rfl
@[simp] theorem State.setFn_flt (s : State) (f : Nat) (x : SafeFn) : (s.setFn f x).flt = s.flt := rfl
@[simp] theorem State.setFn_sched (s : State) (f : Nat) (x : SafeFn) : (s.setFn f x).sched = s.sched := rfl
@[simp] theorem State.setFn_engRegs (s : State) (f : Nat) (x : SafeFn) : (s.setFn f x).engRegs = s.engRegs := rfl
@[simp] theorem State.setFn_chart (s : State) (f : Nat) (x : SafeFn) : (s.setFn f x).chart = s.chart := rfl
@[simp] theorem State.setFn_flash (s : State) (f : Nat) (x : SafeFn) : (s.setFn f x).flash = s.flash := rfl
@[simp] theorem State.setFn_lanes (s : State) (f : Nat) (x : SafeFn) : (s.setFn f x).lanes = s.lanes := rfl
@[simp] theorem State.setFn_conv (s : State) (f : Nat) (x : SafeFn) : (s.setFn f x).conv = s.conv := rfl
@[simp] theorem State.setFn_reef (s : State) (f : Nat) (x : SafeFn) : (s.setFn f x).reef = s.reef := rfl
@[simp] theorem State.setFn_cws (s : State) (f : Nat) (x : SafeFn) : (s.setFn f x).cws = s.cws := rfl
@[simp] theorem State.setFn_red (s : State) (f : Nat) (x : SafeFn) : (s.setFn f x).red = s.red := rfl
@[simp] theorem State.setFn_loop (s : State) (f : Nat) (x : SafeFn) : (s.setFn f x).loop = s.loop := rfl
@[simp] theorem State.setFn_prof (s : State) (f : Nat) (x : SafeFn) : (s.setFn f x).prof = s.prof := rfl
@[simp] theorem State.setFn_recd (s : State) (f : Nat) (x : SafeFn) : (s.setFn f x).recd = s.recd := rfl
@[simp] theorem State.setFn_tim (s : State) (f : Nat) (x : SafeFn) : (s.setFn f x).tim = s.tim := rfl
@[simp] theorem State.setFn_mst (s : State) (f : Nat) (x : SafeFn) : (s.setFn f x).mst = s.mst := rfl
@[simp] theorem State.setFn_dma (s : State) (f : Nat) (x : SafeFn) : (s.setFn f x).dma = s.dma := rfl
@[simp] theorem State.setFn_pwr (s : State) (f : Nat) (x : SafeFn) : (s.setFn f x).pwr = s.pwr := rfl
@[simp] theorem State.setFn_net (s : State) (f : Nat) (x : SafeFn) : (s.setFn f x).net = s.net := rfl
@[simp] theorem State.setFn_mon (s : State) (f : Nat) (x : SafeFn) : (s.setFn f x).mon = s.mon := rfl
@[simp] theorem State.setFn_cells (s : State) (f : Nat) (x : SafeFn) : (s.setFn f x).cells = s.cells := rfl
@[simp] theorem State.setFn_out (s : State) (f : Nat) (x : SafeFn) : (s.setFn f x).out = s.out := rfl
@[simp] theorem State.setFn_opens (s : State) (f : Nat) (x : SafeFn) : (s.setFn f x).opens = s.opens := rfl
@[simp] theorem State.setFn_pending (s : State) (f : Nat) (x : SafeFn) : (s.setFn f x).pending = s.pending := rfl
@[simp] theorem State.setFn_rd (s : State) (f : Nat) (x : SafeFn) (fd : Fld) : (s.setFn f x).rd fd = s.rd fd := rfl
@[simp] theorem State.setFn_rdW (s : State) (f : Nat) (x : SafeFn) (ad : Nat) : (s.setFn f x).rdW ad = s.rdW ad := rfl
@[simp] theorem State.setFn_cell (s : State) (f : Nat) (x : SafeFn) (ce : Nat) : (s.setFn f x).cell ce = s.cell ce := rfl
@[simp] theorem State.setFn_byte (s : State) (f : Nat) (x : SafeFn) (ad : Nat) : (s.setFn f x).byte ad = s.byte ad := rfl

@[simp] theorem State.setMst_regs (s : State) (m : MemSt) : (s.setMst m).regs = s.regs := rfl
@[simp] theorem State.setMst_mem (s : State) (m : MemSt) : (s.setMst m).mem = s.mem := rfl
@[simp] theorem State.setMst_clk (s : State) (m : MemSt) : (s.setMst m).clk = s.clk := rfl
@[simp] theorem State.setMst_flt (s : State) (m : MemSt) : (s.setMst m).flt = s.flt := rfl
@[simp] theorem State.setMst_sched (s : State) (m : MemSt) : (s.setMst m).sched = s.sched := rfl
@[simp] theorem State.setMst_engRegs (s : State) (m : MemSt) : (s.setMst m).engRegs = s.engRegs := rfl
@[simp] theorem State.setMst_chart (s : State) (m : MemSt) : (s.setMst m).chart = s.chart := rfl
@[simp] theorem State.setMst_flash (s : State) (m : MemSt) : (s.setMst m).flash = s.flash := rfl
@[simp] theorem State.setMst_lanes (s : State) (m : MemSt) : (s.setMst m).lanes = s.lanes := rfl
@[simp] theorem State.setMst_conv (s : State) (m : MemSt) : (s.setMst m).conv = s.conv := rfl
@[simp] theorem State.setMst_reef (s : State) (m : MemSt) : (s.setMst m).reef = s.reef := rfl
@[simp] theorem State.setMst_cws (s : State) (m : MemSt) : (s.setMst m).cws = s.cws := rfl
@[simp] theorem State.setMst_red (s : State) (m : MemSt) : (s.setMst m).red = s.red := rfl
@[simp] theorem State.setMst_loop (s : State) (m : MemSt) : (s.setMst m).loop = s.loop := rfl
@[simp] theorem State.setMst_prof (s : State) (m : MemSt) : (s.setMst m).prof = s.prof := rfl
@[simp] theorem State.setMst_recd (s : State) (m : MemSt) : (s.setMst m).recd = s.recd := rfl
@[simp] theorem State.setMst_tim (s : State) (m : MemSt) : (s.setMst m).tim = s.tim := rfl
@[simp] theorem State.setMst_safe (s : State) (m : MemSt) : (s.setMst m).safe = s.safe := rfl
@[simp] theorem State.setMst_mst (s : State) (m : MemSt) : (s.setMst m).mst = m := rfl
@[simp] theorem State.setMst_dma (s : State) (m : MemSt) : (s.setMst m).dma = s.dma := rfl
@[simp] theorem State.setMst_pwr (s : State) (m : MemSt) : (s.setMst m).pwr = s.pwr := rfl
@[simp] theorem State.setMst_net (s : State) (m : MemSt) : (s.setMst m).net = s.net := rfl
@[simp] theorem State.setMst_mon (s : State) (m : MemSt) : (s.setMst m).mon = s.mon := rfl
@[simp] theorem State.setMst_cells (s : State) (m : MemSt) : (s.setMst m).cells = s.cells := rfl
@[simp] theorem State.setMst_out (s : State) (m : MemSt) : (s.setMst m).out = s.out := rfl
@[simp] theorem State.setMst_opens (s : State) (m : MemSt) : (s.setMst m).opens = s.opens := rfl
@[simp] theorem State.setMst_pending (s : State) (m : MemSt) : (s.setMst m).pending = s.pending := rfl
@[simp] theorem State.setMst_rd (s : State) (m : MemSt) (fd : Fld) : (s.setMst m).rd fd = s.rd fd := rfl
@[simp] theorem State.setMst_rdW (s : State) (m : MemSt) (ad : Nat) : (s.setMst m).rdW ad = s.rdW ad := rfl
@[simp] theorem State.setMst_cell (s : State) (m : MemSt) (ce : Nat) : (s.setMst m).cell ce = s.cell ce := rfl
@[simp] theorem State.setMst_byte (s : State) (m : MemSt) (ad : Nat) : (s.setMst m).byte ad = s.byte ad := rfl

@[simp] theorem State.setDmaCh_regs (s : State) (n : Nat) (c : DmaCh) : (s.setDmaCh n c).regs = s.regs := rfl
@[simp] theorem State.setDmaCh_mem (s : State) (n : Nat) (c : DmaCh) : (s.setDmaCh n c).mem = s.mem := rfl
@[simp] theorem State.setDmaCh_clk (s : State) (n : Nat) (c : DmaCh) : (s.setDmaCh n c).clk = s.clk := rfl
@[simp] theorem State.setDmaCh_flt (s : State) (n : Nat) (c : DmaCh) : (s.setDmaCh n c).flt = s.flt := rfl
@[simp] theorem State.setDmaCh_sched (s : State) (n : Nat) (c : DmaCh) : (s.setDmaCh n c).sched = s.sched := rfl
@[simp] theorem State.setDmaCh_engRegs (s : State) (n : Nat) (c : DmaCh) : (s.setDmaCh n c).engRegs = s.engRegs := rfl
@[simp] theorem State.setDmaCh_chart (s : State) (n : Nat) (c : DmaCh) : (s.setDmaCh n c).chart = s.chart := rfl
@[simp] theorem State.setDmaCh_flash (s : State) (n : Nat) (c : DmaCh) : (s.setDmaCh n c).flash = s.flash := rfl
@[simp] theorem State.setDmaCh_lanes (s : State) (n : Nat) (c : DmaCh) : (s.setDmaCh n c).lanes = s.lanes := rfl
@[simp] theorem State.setDmaCh_conv (s : State) (n : Nat) (c : DmaCh) : (s.setDmaCh n c).conv = s.conv := rfl
@[simp] theorem State.setDmaCh_reef (s : State) (n : Nat) (c : DmaCh) : (s.setDmaCh n c).reef = s.reef := rfl
@[simp] theorem State.setDmaCh_cws (s : State) (n : Nat) (c : DmaCh) : (s.setDmaCh n c).cws = s.cws := rfl
@[simp] theorem State.setDmaCh_red (s : State) (n : Nat) (c : DmaCh) : (s.setDmaCh n c).red = s.red := rfl
@[simp] theorem State.setDmaCh_loop (s : State) (n : Nat) (c : DmaCh) : (s.setDmaCh n c).loop = s.loop := rfl
@[simp] theorem State.setDmaCh_prof (s : State) (n : Nat) (c : DmaCh) : (s.setDmaCh n c).prof = s.prof := rfl
@[simp] theorem State.setDmaCh_recd (s : State) (n : Nat) (c : DmaCh) : (s.setDmaCh n c).recd = s.recd := rfl
@[simp] theorem State.setDmaCh_tim (s : State) (n : Nat) (c : DmaCh) : (s.setDmaCh n c).tim = s.tim := rfl
@[simp] theorem State.setDmaCh_safe (s : State) (n : Nat) (c : DmaCh) : (s.setDmaCh n c).safe = s.safe := rfl
@[simp] theorem State.setDmaCh_mst (s : State) (n : Nat) (c : DmaCh) : (s.setDmaCh n c).mst = s.mst := rfl
@[simp] theorem State.setDmaCh_pwr (s : State) (n : Nat) (c : DmaCh) : (s.setDmaCh n c).pwr = s.pwr := rfl
@[simp] theorem State.setDmaCh_net (s : State) (n : Nat) (c : DmaCh) : (s.setDmaCh n c).net = s.net := rfl
@[simp] theorem State.setDmaCh_mon (s : State) (n : Nat) (c : DmaCh) : (s.setDmaCh n c).mon = s.mon := rfl
@[simp] theorem State.setDmaCh_cells (s : State) (n : Nat) (c : DmaCh) : (s.setDmaCh n c).cells = s.cells := rfl
@[simp] theorem State.setDmaCh_out (s : State) (n : Nat) (c : DmaCh) : (s.setDmaCh n c).out = s.out := rfl
@[simp] theorem State.setDmaCh_opens (s : State) (n : Nat) (c : DmaCh) : (s.setDmaCh n c).opens = s.opens := rfl
@[simp] theorem State.setDmaCh_pending (s : State) (n : Nat) (c : DmaCh) : (s.setDmaCh n c).pending = s.pending := rfl
@[simp] theorem State.setDmaCh_rd (s : State) (n : Nat) (c : DmaCh) (fd : Fld) : (s.setDmaCh n c).rd fd = s.rd fd := rfl
@[simp] theorem State.setDmaCh_rdW (s : State) (n : Nat) (c : DmaCh) (ad : Nat) : (s.setDmaCh n c).rdW ad = s.rdW ad := rfl
@[simp] theorem State.setDmaCh_cell (s : State) (n : Nat) (c : DmaCh) (ce : Nat) : (s.setDmaCh n c).cell ce = s.cell ce := rfl
@[simp] theorem State.setDmaCh_byte (s : State) (n : Nat) (c : DmaCh) (ad : Nat) : (s.setDmaCh n c).byte ad = s.byte ad := rfl

@[simp] theorem State.setPwr_regs (s : State) (p : Pwr) : (s.setPwr p).regs = s.regs := rfl
@[simp] theorem State.setPwr_mem (s : State) (p : Pwr) : (s.setPwr p).mem = s.mem := rfl
@[simp] theorem State.setPwr_clk (s : State) (p : Pwr) : (s.setPwr p).clk = s.clk := rfl
@[simp] theorem State.setPwr_flt (s : State) (p : Pwr) : (s.setPwr p).flt = s.flt := rfl
@[simp] theorem State.setPwr_sched (s : State) (p : Pwr) : (s.setPwr p).sched = s.sched := rfl
@[simp] theorem State.setPwr_engRegs (s : State) (p : Pwr) : (s.setPwr p).engRegs = s.engRegs := rfl
@[simp] theorem State.setPwr_chart (s : State) (p : Pwr) : (s.setPwr p).chart = s.chart := rfl
@[simp] theorem State.setPwr_flash (s : State) (p : Pwr) : (s.setPwr p).flash = s.flash := rfl
@[simp] theorem State.setPwr_lanes (s : State) (p : Pwr) : (s.setPwr p).lanes = s.lanes := rfl
@[simp] theorem State.setPwr_conv (s : State) (p : Pwr) : (s.setPwr p).conv = s.conv := rfl
@[simp] theorem State.setPwr_reef (s : State) (p : Pwr) : (s.setPwr p).reef = s.reef := rfl
@[simp] theorem State.setPwr_cws (s : State) (p : Pwr) : (s.setPwr p).cws = s.cws := rfl
@[simp] theorem State.setPwr_red (s : State) (p : Pwr) : (s.setPwr p).red = s.red := rfl
@[simp] theorem State.setPwr_loop (s : State) (p : Pwr) : (s.setPwr p).loop = s.loop := rfl
@[simp] theorem State.setPwr_prof (s : State) (p : Pwr) : (s.setPwr p).prof = s.prof := rfl
@[simp] theorem State.setPwr_recd (s : State) (p : Pwr) : (s.setPwr p).recd = s.recd := rfl
@[simp] theorem State.setPwr_tim (s : State) (p : Pwr) : (s.setPwr p).tim = s.tim := rfl
@[simp] theorem State.setPwr_safe (s : State) (p : Pwr) : (s.setPwr p).safe = s.safe := rfl
@[simp] theorem State.setPwr_mst (s : State) (p : Pwr) : (s.setPwr p).mst = s.mst := rfl
@[simp] theorem State.setPwr_dma (s : State) (p : Pwr) : (s.setPwr p).dma = s.dma := rfl
@[simp] theorem State.setPwr_pwr (s : State) (p : Pwr) : (s.setPwr p).pwr = p := rfl
@[simp] theorem State.setPwr_net (s : State) (p : Pwr) : (s.setPwr p).net = s.net := rfl
@[simp] theorem State.setPwr_mon (s : State) (p : Pwr) : (s.setPwr p).mon = s.mon := rfl
@[simp] theorem State.setPwr_cells (s : State) (p : Pwr) : (s.setPwr p).cells = s.cells := rfl
@[simp] theorem State.setPwr_out (s : State) (p : Pwr) : (s.setPwr p).out = s.out := rfl
@[simp] theorem State.setPwr_opens (s : State) (p : Pwr) : (s.setPwr p).opens = s.opens := rfl
@[simp] theorem State.setPwr_pending (s : State) (p : Pwr) : (s.setPwr p).pending = s.pending := rfl
@[simp] theorem State.setPwr_rd (s : State) (p : Pwr) (fd : Fld) : (s.setPwr p).rd fd = s.rd fd := rfl
@[simp] theorem State.setPwr_rdW (s : State) (p : Pwr) (ad : Nat) : (s.setPwr p).rdW ad = s.rdW ad := rfl
@[simp] theorem State.setPwr_cell (s : State) (p : Pwr) (ce : Nat) : (s.setPwr p).cell ce = s.cell ce := rfl
@[simp] theorem State.setPwr_byte (s : State) (p : Pwr) (ad : Nat) : (s.setPwr p).byte ad = s.byte ad := rfl

@[simp] theorem State.setNet_regs (s : State) (n : Net) : (s.setNet n).regs = s.regs := rfl
@[simp] theorem State.setNet_mem (s : State) (n : Net) : (s.setNet n).mem = s.mem := rfl
@[simp] theorem State.setNet_clk (s : State) (n : Net) : (s.setNet n).clk = s.clk := rfl
@[simp] theorem State.setNet_flt (s : State) (n : Net) : (s.setNet n).flt = s.flt := rfl
@[simp] theorem State.setNet_sched (s : State) (n : Net) : (s.setNet n).sched = s.sched := rfl
@[simp] theorem State.setNet_engRegs (s : State) (n : Net) : (s.setNet n).engRegs = s.engRegs := rfl
@[simp] theorem State.setNet_chart (s : State) (n : Net) : (s.setNet n).chart = s.chart := rfl
@[simp] theorem State.setNet_flash (s : State) (n : Net) : (s.setNet n).flash = s.flash := rfl
@[simp] theorem State.setNet_lanes (s : State) (n : Net) : (s.setNet n).lanes = s.lanes := rfl
@[simp] theorem State.setNet_conv (s : State) (n : Net) : (s.setNet n).conv = s.conv := rfl
@[simp] theorem State.setNet_reef (s : State) (n : Net) : (s.setNet n).reef = s.reef := rfl
@[simp] theorem State.setNet_cws (s : State) (n : Net) : (s.setNet n).cws = s.cws := rfl
@[simp] theorem State.setNet_red (s : State) (n : Net) : (s.setNet n).red = s.red := rfl
@[simp] theorem State.setNet_loop (s : State) (n : Net) : (s.setNet n).loop = s.loop := rfl
@[simp] theorem State.setNet_prof (s : State) (n : Net) : (s.setNet n).prof = s.prof := rfl
@[simp] theorem State.setNet_recd (s : State) (n : Net) : (s.setNet n).recd = s.recd := rfl
@[simp] theorem State.setNet_tim (s : State) (n : Net) : (s.setNet n).tim = s.tim := rfl
@[simp] theorem State.setNet_safe (s : State) (n : Net) : (s.setNet n).safe = s.safe := rfl
@[simp] theorem State.setNet_mst (s : State) (n : Net) : (s.setNet n).mst = s.mst := rfl
@[simp] theorem State.setNet_dma (s : State) (n : Net) : (s.setNet n).dma = s.dma := rfl
@[simp] theorem State.setNet_pwr (s : State) (n : Net) : (s.setNet n).pwr = s.pwr := rfl
@[simp] theorem State.setNet_net (s : State) (n : Net) : (s.setNet n).net = n := rfl
@[simp] theorem State.setNet_mon (s : State) (n : Net) : (s.setNet n).mon = s.mon := rfl
@[simp] theorem State.setNet_cells (s : State) (n : Net) : (s.setNet n).cells = s.cells := rfl
@[simp] theorem State.setNet_out (s : State) (n : Net) : (s.setNet n).out = s.out := rfl
@[simp] theorem State.setNet_opens (s : State) (n : Net) : (s.setNet n).opens = s.opens := rfl
@[simp] theorem State.setNet_pending (s : State) (n : Net) : (s.setNet n).pending = s.pending := rfl
@[simp] theorem State.setNet_rd (s : State) (n : Net) (fd : Fld) : (s.setNet n).rd fd = s.rd fd := rfl
@[simp] theorem State.setNet_rdW (s : State) (n : Net) (ad : Nat) : (s.setNet n).rdW ad = s.rdW ad := rfl
@[simp] theorem State.setNet_cell (s : State) (n : Net) (ce : Nat) : (s.setNet n).cell ce = s.cell ce := rfl
@[simp] theorem State.setNet_byte (s : State) (n : Net) (ad : Nat) : (s.setNet n).byte ad = s.byte ad := rfl

@[simp] theorem State.setPtp_regs (s : State) (p : Nat) (x : PtpPort) : (s.setPtp p x).regs = s.regs := rfl
@[simp] theorem State.setPtp_mem (s : State) (p : Nat) (x : PtpPort) : (s.setPtp p x).mem = s.mem := rfl
@[simp] theorem State.setPtp_clk (s : State) (p : Nat) (x : PtpPort) : (s.setPtp p x).clk = s.clk := rfl
@[simp] theorem State.setPtp_flt (s : State) (p : Nat) (x : PtpPort) : (s.setPtp p x).flt = s.flt := rfl
@[simp] theorem State.setPtp_sched (s : State) (p : Nat) (x : PtpPort) : (s.setPtp p x).sched = s.sched := rfl
@[simp] theorem State.setPtp_engRegs (s : State) (p : Nat) (x : PtpPort) : (s.setPtp p x).engRegs = s.engRegs := rfl
@[simp] theorem State.setPtp_chart (s : State) (p : Nat) (x : PtpPort) : (s.setPtp p x).chart = s.chart := rfl
@[simp] theorem State.setPtp_flash (s : State) (p : Nat) (x : PtpPort) : (s.setPtp p x).flash = s.flash := rfl
@[simp] theorem State.setPtp_lanes (s : State) (p : Nat) (x : PtpPort) : (s.setPtp p x).lanes = s.lanes := rfl
@[simp] theorem State.setPtp_conv (s : State) (p : Nat) (x : PtpPort) : (s.setPtp p x).conv = s.conv := rfl
@[simp] theorem State.setPtp_reef (s : State) (p : Nat) (x : PtpPort) : (s.setPtp p x).reef = s.reef := rfl
@[simp] theorem State.setPtp_cws (s : State) (p : Nat) (x : PtpPort) : (s.setPtp p x).cws = s.cws := rfl
@[simp] theorem State.setPtp_red (s : State) (p : Nat) (x : PtpPort) : (s.setPtp p x).red = s.red := rfl
@[simp] theorem State.setPtp_loop (s : State) (p : Nat) (x : PtpPort) : (s.setPtp p x).loop = s.loop := rfl
@[simp] theorem State.setPtp_prof (s : State) (p : Nat) (x : PtpPort) : (s.setPtp p x).prof = s.prof := rfl
@[simp] theorem State.setPtp_recd (s : State) (p : Nat) (x : PtpPort) : (s.setPtp p x).recd = s.recd := rfl
@[simp] theorem State.setPtp_tim (s : State) (p : Nat) (x : PtpPort) : (s.setPtp p x).tim = s.tim := rfl
@[simp] theorem State.setPtp_safe (s : State) (p : Nat) (x : PtpPort) : (s.setPtp p x).safe = s.safe := rfl
@[simp] theorem State.setPtp_mst (s : State) (p : Nat) (x : PtpPort) : (s.setPtp p x).mst = s.mst := rfl
@[simp] theorem State.setPtp_dma (s : State) (p : Nat) (x : PtpPort) : (s.setPtp p x).dma = s.dma := rfl
@[simp] theorem State.setPtp_pwr (s : State) (p : Nat) (x : PtpPort) : (s.setPtp p x).pwr = s.pwr := rfl
@[simp] theorem State.setPtp_mon (s : State) (p : Nat) (x : PtpPort) : (s.setPtp p x).mon = s.mon := rfl
@[simp] theorem State.setPtp_cells (s : State) (p : Nat) (x : PtpPort) : (s.setPtp p x).cells = s.cells := rfl
@[simp] theorem State.setPtp_out (s : State) (p : Nat) (x : PtpPort) : (s.setPtp p x).out = s.out := rfl
@[simp] theorem State.setPtp_opens (s : State) (p : Nat) (x : PtpPort) : (s.setPtp p x).opens = s.opens := rfl
@[simp] theorem State.setPtp_pending (s : State) (p : Nat) (x : PtpPort) : (s.setPtp p x).pending = s.pending := rfl
@[simp] theorem State.setPtp_rd (s : State) (p : Nat) (x : PtpPort) (fd : Fld) : (s.setPtp p x).rd fd = s.rd fd := rfl
@[simp] theorem State.setPtp_rdW (s : State) (p : Nat) (x : PtpPort) (ad : Nat) : (s.setPtp p x).rdW ad = s.rdW ad := rfl
@[simp] theorem State.setPtp_cell (s : State) (p : Nat) (x : PtpPort) (ce : Nat) : (s.setPtp p x).cell ce = s.cell ce := rfl
@[simp] theorem State.setPtp_byte (s : State) (p : Nat) (x : PtpPort) (ad : Nat) : (s.setPtp p x).byte ad = s.byte ad := rfl

@[simp] theorem State.setPub_regs (s : State) (u : Nat) (x : Pub) : (s.setPub u x).regs = s.regs := rfl
@[simp] theorem State.setPub_mem (s : State) (u : Nat) (x : Pub) : (s.setPub u x).mem = s.mem := rfl
@[simp] theorem State.setPub_clk (s : State) (u : Nat) (x : Pub) : (s.setPub u x).clk = s.clk := rfl
@[simp] theorem State.setPub_flt (s : State) (u : Nat) (x : Pub) : (s.setPub u x).flt = s.flt := rfl
@[simp] theorem State.setPub_sched (s : State) (u : Nat) (x : Pub) : (s.setPub u x).sched = s.sched := rfl
@[simp] theorem State.setPub_engRegs (s : State) (u : Nat) (x : Pub) : (s.setPub u x).engRegs = s.engRegs := rfl
@[simp] theorem State.setPub_chart (s : State) (u : Nat) (x : Pub) : (s.setPub u x).chart = s.chart := rfl
@[simp] theorem State.setPub_flash (s : State) (u : Nat) (x : Pub) : (s.setPub u x).flash = s.flash := rfl
@[simp] theorem State.setPub_lanes (s : State) (u : Nat) (x : Pub) : (s.setPub u x).lanes = s.lanes := rfl
@[simp] theorem State.setPub_conv (s : State) (u : Nat) (x : Pub) : (s.setPub u x).conv = s.conv := rfl
@[simp] theorem State.setPub_reef (s : State) (u : Nat) (x : Pub) : (s.setPub u x).reef = s.reef := rfl
@[simp] theorem State.setPub_cws (s : State) (u : Nat) (x : Pub) : (s.setPub u x).cws = s.cws := rfl
@[simp] theorem State.setPub_red (s : State) (u : Nat) (x : Pub) : (s.setPub u x).red = s.red := rfl
@[simp] theorem State.setPub_loop (s : State) (u : Nat) (x : Pub) : (s.setPub u x).loop = s.loop := rfl
@[simp] theorem State.setPub_prof (s : State) (u : Nat) (x : Pub) : (s.setPub u x).prof = s.prof := rfl
@[simp] theorem State.setPub_recd (s : State) (u : Nat) (x : Pub) : (s.setPub u x).recd = s.recd := rfl
@[simp] theorem State.setPub_tim (s : State) (u : Nat) (x : Pub) : (s.setPub u x).tim = s.tim := rfl
@[simp] theorem State.setPub_safe (s : State) (u : Nat) (x : Pub) : (s.setPub u x).safe = s.safe := rfl
@[simp] theorem State.setPub_mst (s : State) (u : Nat) (x : Pub) : (s.setPub u x).mst = s.mst := rfl
@[simp] theorem State.setPub_dma (s : State) (u : Nat) (x : Pub) : (s.setPub u x).dma = s.dma := rfl
@[simp] theorem State.setPub_pwr (s : State) (u : Nat) (x : Pub) : (s.setPub u x).pwr = s.pwr := rfl
@[simp] theorem State.setPub_mon (s : State) (u : Nat) (x : Pub) : (s.setPub u x).mon = s.mon := rfl
@[simp] theorem State.setPub_cells (s : State) (u : Nat) (x : Pub) : (s.setPub u x).cells = s.cells := rfl
@[simp] theorem State.setPub_out (s : State) (u : Nat) (x : Pub) : (s.setPub u x).out = s.out := rfl
@[simp] theorem State.setPub_opens (s : State) (u : Nat) (x : Pub) : (s.setPub u x).opens = s.opens := rfl
@[simp] theorem State.setPub_pending (s : State) (u : Nat) (x : Pub) : (s.setPub u x).pending = s.pending := rfl
@[simp] theorem State.setPub_rd (s : State) (u : Nat) (x : Pub) (fd : Fld) : (s.setPub u x).rd fd = s.rd fd := rfl
@[simp] theorem State.setPub_rdW (s : State) (u : Nat) (x : Pub) (ad : Nat) : (s.setPub u x).rdW ad = s.rdW ad := rfl
@[simp] theorem State.setPub_cell (s : State) (u : Nat) (x : Pub) (ce : Nat) : (s.setPub u x).cell ce = s.cell ce := rfl
@[simp] theorem State.setPub_byte (s : State) (u : Nat) (x : Pub) (ad : Nat) : (s.setPub u x).byte ad = s.byte ad := rfl

@[simp] theorem State.setStLane_regs (s : State) (i : Nat) (x : StLane) : (s.setStLane i x).regs = s.regs := rfl
@[simp] theorem State.setStLane_mem (s : State) (i : Nat) (x : StLane) : (s.setStLane i x).mem = s.mem := rfl
@[simp] theorem State.setStLane_clk (s : State) (i : Nat) (x : StLane) : (s.setStLane i x).clk = s.clk := rfl
@[simp] theorem State.setStLane_flt (s : State) (i : Nat) (x : StLane) : (s.setStLane i x).flt = s.flt := rfl
@[simp] theorem State.setStLane_sched (s : State) (i : Nat) (x : StLane) : (s.setStLane i x).sched = s.sched := rfl
@[simp] theorem State.setStLane_engRegs (s : State) (i : Nat) (x : StLane) : (s.setStLane i x).engRegs = s.engRegs := rfl
@[simp] theorem State.setStLane_chart (s : State) (i : Nat) (x : StLane) : (s.setStLane i x).chart = s.chart := rfl
@[simp] theorem State.setStLane_flash (s : State) (i : Nat) (x : StLane) : (s.setStLane i x).flash = s.flash := rfl
@[simp] theorem State.setStLane_lanes (s : State) (i : Nat) (x : StLane) : (s.setStLane i x).lanes = s.lanes := rfl
@[simp] theorem State.setStLane_conv (s : State) (i : Nat) (x : StLane) : (s.setStLane i x).conv = s.conv := rfl
@[simp] theorem State.setStLane_reef (s : State) (i : Nat) (x : StLane) : (s.setStLane i x).reef = s.reef := rfl
@[simp] theorem State.setStLane_cws (s : State) (i : Nat) (x : StLane) : (s.setStLane i x).cws = s.cws := rfl
@[simp] theorem State.setStLane_red (s : State) (i : Nat) (x : StLane) : (s.setStLane i x).red = s.red := rfl
@[simp] theorem State.setStLane_loop (s : State) (i : Nat) (x : StLane) : (s.setStLane i x).loop = s.loop := rfl
@[simp] theorem State.setStLane_prof (s : State) (i : Nat) (x : StLane) : (s.setStLane i x).prof = s.prof := rfl
@[simp] theorem State.setStLane_recd (s : State) (i : Nat) (x : StLane) : (s.setStLane i x).recd = s.recd := rfl
@[simp] theorem State.setStLane_tim (s : State) (i : Nat) (x : StLane) : (s.setStLane i x).tim = s.tim := rfl
@[simp] theorem State.setStLane_safe (s : State) (i : Nat) (x : StLane) : (s.setStLane i x).safe = s.safe := rfl
@[simp] theorem State.setStLane_mst (s : State) (i : Nat) (x : StLane) : (s.setStLane i x).mst = s.mst := rfl
@[simp] theorem State.setStLane_dma (s : State) (i : Nat) (x : StLane) : (s.setStLane i x).dma = s.dma := rfl
@[simp] theorem State.setStLane_pwr (s : State) (i : Nat) (x : StLane) : (s.setStLane i x).pwr = s.pwr := rfl
@[simp] theorem State.setStLane_mon (s : State) (i : Nat) (x : StLane) : (s.setStLane i x).mon = s.mon := rfl
@[simp] theorem State.setStLane_cells (s : State) (i : Nat) (x : StLane) : (s.setStLane i x).cells = s.cells := rfl
@[simp] theorem State.setStLane_out (s : State) (i : Nat) (x : StLane) : (s.setStLane i x).out = s.out := rfl
@[simp] theorem State.setStLane_opens (s : State) (i : Nat) (x : StLane) : (s.setStLane i x).opens = s.opens := rfl
@[simp] theorem State.setStLane_pending (s : State) (i : Nat) (x : StLane) : (s.setStLane i x).pending = s.pending := rfl
@[simp] theorem State.setStLane_rd (s : State) (i : Nat) (x : StLane) (fd : Fld) : (s.setStLane i x).rd fd = s.rd fd := rfl
@[simp] theorem State.setStLane_rdW (s : State) (i : Nat) (x : StLane) (ad : Nat) : (s.setStLane i x).rdW ad = s.rdW ad := rfl
@[simp] theorem State.setStLane_cell (s : State) (i : Nat) (x : StLane) (ce : Nat)
    : (s.setStLane i x).cell ce = s.cell ce := rfl
@[simp] theorem State.setStLane_byte (s : State) (i : Nat) (x : StLane) (ad : Nat)
    : (s.setStLane i x).byte ad = s.byte ad := rfl

@[simp] theorem State.setLaneRx_regs (s : State) (n : Nat) (r : LaneRx) : (s.setLaneRx n r).regs = s.regs := rfl
@[simp] theorem State.setLaneRx_mem (s : State) (n : Nat) (r : LaneRx) : (s.setLaneRx n r).mem = s.mem := rfl
@[simp] theorem State.setLaneRx_clk (s : State) (n : Nat) (r : LaneRx) : (s.setLaneRx n r).clk = s.clk := rfl
@[simp] theorem State.setLaneRx_flt (s : State) (n : Nat) (r : LaneRx) : (s.setLaneRx n r).flt = s.flt := rfl
@[simp] theorem State.setLaneRx_sched (s : State) (n : Nat) (r : LaneRx) : (s.setLaneRx n r).sched = s.sched := rfl
@[simp] theorem State.setLaneRx_engRegs (s : State) (n : Nat) (r : LaneRx) : (s.setLaneRx n r).engRegs = s.engRegs := rfl
@[simp] theorem State.setLaneRx_chart (s : State) (n : Nat) (r : LaneRx) : (s.setLaneRx n r).chart = s.chart := rfl
@[simp] theorem State.setLaneRx_flash (s : State) (n : Nat) (r : LaneRx) : (s.setLaneRx n r).flash = s.flash := rfl
@[simp] theorem State.setLaneRx_conv (s : State) (n : Nat) (r : LaneRx) : (s.setLaneRx n r).conv = s.conv := rfl
@[simp] theorem State.setLaneRx_reef (s : State) (n : Nat) (r : LaneRx) : (s.setLaneRx n r).reef = s.reef := rfl
@[simp] theorem State.setLaneRx_cws (s : State) (n : Nat) (r : LaneRx) : (s.setLaneRx n r).cws = s.cws := rfl
@[simp] theorem State.setLaneRx_red (s : State) (n : Nat) (r : LaneRx) : (s.setLaneRx n r).red = s.red := rfl
@[simp] theorem State.setLaneRx_loop (s : State) (n : Nat) (r : LaneRx) : (s.setLaneRx n r).loop = s.loop := rfl
@[simp] theorem State.setLaneRx_prof (s : State) (n : Nat) (r : LaneRx) : (s.setLaneRx n r).prof = s.prof := rfl
@[simp] theorem State.setLaneRx_recd (s : State) (n : Nat) (r : LaneRx) : (s.setLaneRx n r).recd = s.recd := rfl
@[simp] theorem State.setLaneRx_tim (s : State) (n : Nat) (r : LaneRx) : (s.setLaneRx n r).tim = s.tim := rfl
@[simp] theorem State.setLaneRx_safe (s : State) (n : Nat) (r : LaneRx) : (s.setLaneRx n r).safe = s.safe := rfl
@[simp] theorem State.setLaneRx_mst (s : State) (n : Nat) (r : LaneRx) : (s.setLaneRx n r).mst = s.mst := rfl
@[simp] theorem State.setLaneRx_dma (s : State) (n : Nat) (r : LaneRx) : (s.setLaneRx n r).dma = s.dma := rfl
@[simp] theorem State.setLaneRx_pwr (s : State) (n : Nat) (r : LaneRx) : (s.setLaneRx n r).pwr = s.pwr := rfl
@[simp] theorem State.setLaneRx_net (s : State) (n : Nat) (r : LaneRx) : (s.setLaneRx n r).net = s.net := rfl
@[simp] theorem State.setLaneRx_mon (s : State) (n : Nat) (r : LaneRx) : (s.setLaneRx n r).mon = s.mon := rfl
@[simp] theorem State.setLaneRx_cells (s : State) (n : Nat) (r : LaneRx) : (s.setLaneRx n r).cells = s.cells := rfl
@[simp] theorem State.setLaneRx_out (s : State) (n : Nat) (r : LaneRx) : (s.setLaneRx n r).out = s.out := rfl
@[simp] theorem State.setLaneRx_opens (s : State) (n : Nat) (r : LaneRx) : (s.setLaneRx n r).opens = s.opens := rfl
@[simp] theorem State.setLaneRx_pending (s : State) (n : Nat) (r : LaneRx) : (s.setLaneRx n r).pending = s.pending := rfl
@[simp] theorem State.setLaneRx_rd (s : State) (n : Nat) (r : LaneRx) (fd : Fld) : (s.setLaneRx n r).rd fd = s.rd fd := rfl
@[simp] theorem State.setLaneRx_rdW (s : State) (n : Nat) (r : LaneRx) (ad : Nat) : (s.setLaneRx n r).rdW ad = s.rdW ad := rfl
@[simp] theorem State.setLaneRx_cell (s : State) (n : Nat) (r : LaneRx) (ce : Nat)
    : (s.setLaneRx n r).cell ce = s.cell ce := rfl
@[simp] theorem State.setLaneRx_byte (s : State) (n : Nat) (r : LaneRx) (ad : Nat)
    : (s.setLaneRx n r).byte ad = s.byte ad := rfl

@[simp] theorem State.setEngRegs_regs (s : State) (e : Nat) (rs : List Word) : (s.setEngRegs e rs).regs = s.regs := rfl
@[simp] theorem State.setEngRegs_mem (s : State) (e : Nat) (rs : List Word) : (s.setEngRegs e rs).mem = s.mem := rfl
@[simp] theorem State.setEngRegs_clk (s : State) (e : Nat) (rs : List Word) : (s.setEngRegs e rs).clk = s.clk := rfl
@[simp] theorem State.setEngRegs_flt (s : State) (e : Nat) (rs : List Word) : (s.setEngRegs e rs).flt = s.flt := rfl
@[simp] theorem State.setEngRegs_sched (s : State) (e : Nat) (rs : List Word) : (s.setEngRegs e rs).sched = s.sched := rfl
@[simp] theorem State.setEngRegs_chart (s : State) (e : Nat) (rs : List Word) : (s.setEngRegs e rs).chart = s.chart := rfl
@[simp] theorem State.setEngRegs_flash (s : State) (e : Nat) (rs : List Word) : (s.setEngRegs e rs).flash = s.flash := rfl
@[simp] theorem State.setEngRegs_lanes (s : State) (e : Nat) (rs : List Word) : (s.setEngRegs e rs).lanes = s.lanes := rfl
@[simp] theorem State.setEngRegs_conv (s : State) (e : Nat) (rs : List Word) : (s.setEngRegs e rs).conv = s.conv := rfl
@[simp] theorem State.setEngRegs_reef (s : State) (e : Nat) (rs : List Word) : (s.setEngRegs e rs).reef = s.reef := rfl
@[simp] theorem State.setEngRegs_cws (s : State) (e : Nat) (rs : List Word) : (s.setEngRegs e rs).cws = s.cws := rfl
@[simp] theorem State.setEngRegs_red (s : State) (e : Nat) (rs : List Word) : (s.setEngRegs e rs).red = s.red := rfl
@[simp] theorem State.setEngRegs_loop (s : State) (e : Nat) (rs : List Word) : (s.setEngRegs e rs).loop = s.loop := rfl
@[simp] theorem State.setEngRegs_prof (s : State) (e : Nat) (rs : List Word) : (s.setEngRegs e rs).prof = s.prof := rfl
@[simp] theorem State.setEngRegs_recd (s : State) (e : Nat) (rs : List Word) : (s.setEngRegs e rs).recd = s.recd := rfl
@[simp] theorem State.setEngRegs_tim (s : State) (e : Nat) (rs : List Word) : (s.setEngRegs e rs).tim = s.tim := rfl
@[simp] theorem State.setEngRegs_safe (s : State) (e : Nat) (rs : List Word) : (s.setEngRegs e rs).safe = s.safe := rfl
@[simp] theorem State.setEngRegs_mst (s : State) (e : Nat) (rs : List Word) : (s.setEngRegs e rs).mst = s.mst := rfl
@[simp] theorem State.setEngRegs_dma (s : State) (e : Nat) (rs : List Word) : (s.setEngRegs e rs).dma = s.dma := rfl
@[simp] theorem State.setEngRegs_pwr (s : State) (e : Nat) (rs : List Word) : (s.setEngRegs e rs).pwr = s.pwr := rfl
@[simp] theorem State.setEngRegs_net (s : State) (e : Nat) (rs : List Word) : (s.setEngRegs e rs).net = s.net := rfl
@[simp] theorem State.setEngRegs_mon (s : State) (e : Nat) (rs : List Word) : (s.setEngRegs e rs).mon = s.mon := rfl
@[simp] theorem State.setEngRegs_cells (s : State) (e : Nat) (rs : List Word) : (s.setEngRegs e rs).cells = s.cells := rfl
@[simp] theorem State.setEngRegs_out (s : State) (e : Nat) (rs : List Word) : (s.setEngRegs e rs).out = s.out := rfl
@[simp] theorem State.setEngRegs_opens (s : State) (e : Nat) (rs : List Word) : (s.setEngRegs e rs).opens = s.opens := rfl
@[simp] theorem State.setEngRegs_pending (s : State) (e : Nat) (rs : List Word)
    : (s.setEngRegs e rs).pending = s.pending := rfl
@[simp] theorem State.setEngRegs_rd (s : State) (e : Nat) (rs : List Word) (fd : Fld)
    : (s.setEngRegs e rs).rd fd = s.rd fd := rfl
@[simp] theorem State.setEngRegs_rdW (s : State) (e : Nat) (rs : List Word) (ad : Nat)
    : (s.setEngRegs e rs).rdW ad = s.rdW ad := rfl
@[simp] theorem State.setEngRegs_cell (s : State) (e : Nat) (rs : List Word) (ce : Nat)
    : (s.setEngRegs e rs).cell ce = s.cell ce := rfl
@[simp] theorem State.setEngRegs_byte (s : State) (e : Nat) (rs : List Word) (ad : Nat)
    : (s.setEngRegs e rs).byte ad = s.byte ad := rfl

@[simp] theorem State.setCell_regs (s : State) (g : Nat) (k : Skerry) : (s.setCell g k).regs = s.regs := rfl
@[simp] theorem State.setCell_mem (s : State) (g : Nat) (k : Skerry) : (s.setCell g k).mem = s.mem := rfl
@[simp] theorem State.setCell_clk (s : State) (g : Nat) (k : Skerry) : (s.setCell g k).clk = s.clk := rfl
@[simp] theorem State.setCell_flt (s : State) (g : Nat) (k : Skerry) : (s.setCell g k).flt = s.flt := rfl
@[simp] theorem State.setCell_sched (s : State) (g : Nat) (k : Skerry) : (s.setCell g k).sched = s.sched := rfl
@[simp] theorem State.setCell_engRegs (s : State) (g : Nat) (k : Skerry) : (s.setCell g k).engRegs = s.engRegs := rfl
@[simp] theorem State.setCell_chart (s : State) (g : Nat) (k : Skerry) : (s.setCell g k).chart = s.chart := rfl
@[simp] theorem State.setCell_flash (s : State) (g : Nat) (k : Skerry) : (s.setCell g k).flash = s.flash := rfl
@[simp] theorem State.setCell_lanes (s : State) (g : Nat) (k : Skerry) : (s.setCell g k).lanes = s.lanes := rfl
@[simp] theorem State.setCell_conv (s : State) (g : Nat) (k : Skerry) : (s.setCell g k).conv = s.conv := rfl
@[simp] theorem State.setCell_reef (s : State) (g : Nat) (k : Skerry) : (s.setCell g k).reef = s.reef := rfl
@[simp] theorem State.setCell_cws (s : State) (g : Nat) (k : Skerry) : (s.setCell g k).cws = s.cws := rfl
@[simp] theorem State.setCell_red (s : State) (g : Nat) (k : Skerry) : (s.setCell g k).red = s.red := rfl
@[simp] theorem State.setCell_loop (s : State) (g : Nat) (k : Skerry) : (s.setCell g k).loop = s.loop := rfl
@[simp] theorem State.setCell_prof (s : State) (g : Nat) (k : Skerry) : (s.setCell g k).prof = s.prof := rfl
@[simp] theorem State.setCell_recd (s : State) (g : Nat) (k : Skerry) : (s.setCell g k).recd = s.recd := rfl
@[simp] theorem State.setCell_tim (s : State) (g : Nat) (k : Skerry) : (s.setCell g k).tim = s.tim := rfl
@[simp] theorem State.setCell_safe (s : State) (g : Nat) (k : Skerry) : (s.setCell g k).safe = s.safe := rfl
@[simp] theorem State.setCell_mst (s : State) (g : Nat) (k : Skerry) : (s.setCell g k).mst = s.mst := rfl
@[simp] theorem State.setCell_dma (s : State) (g : Nat) (k : Skerry) : (s.setCell g k).dma = s.dma := rfl
@[simp] theorem State.setCell_pwr (s : State) (g : Nat) (k : Skerry) : (s.setCell g k).pwr = s.pwr := rfl
@[simp] theorem State.setCell_net (s : State) (g : Nat) (k : Skerry) : (s.setCell g k).net = s.net := rfl
@[simp] theorem State.setCell_mon (s : State) (g : Nat) (k : Skerry) : (s.setCell g k).mon = s.mon := rfl
@[simp] theorem State.setCell_out (s : State) (g : Nat) (k : Skerry) : (s.setCell g k).out = s.out := rfl
@[simp] theorem State.setCell_opens (s : State) (g : Nat) (k : Skerry) : (s.setCell g k).opens = s.opens := rfl
@[simp] theorem State.setCell_pending (s : State) (g : Nat) (k : Skerry) : (s.setCell g k).pending = s.pending := rfl
@[simp] theorem State.setCell_rd (s : State) (g : Nat) (k : Skerry) (fd : Fld) : (s.setCell g k).rd fd = s.rd fd := rfl
@[simp] theorem State.setCell_rdW (s : State) (g : Nat) (k : Skerry) (ad : Nat) : (s.setCell g k).rdW ad = s.rdW ad := rfl
@[simp] theorem State.setCell_byte (s : State) (g : Nat) (k : Skerry) (ad : Nat) : (s.setCell g k).byte ad = s.byte ad := rfl

@[simp] theorem State.codesUsed_regs (s : State) : (s.codesUsed).regs = s.regs := rfl
@[simp] theorem State.codesUsed_mem (s : State) : (s.codesUsed).mem = s.mem := rfl
@[simp] theorem State.codesUsed_clk (s : State) : (s.codesUsed).clk = s.clk := rfl
@[simp] theorem State.codesUsed_flt (s : State) : (s.codesUsed).flt = s.flt := rfl
@[simp] theorem State.codesUsed_sched (s : State) : (s.codesUsed).sched = s.sched := rfl
@[simp] theorem State.codesUsed_engRegs (s : State) : (s.codesUsed).engRegs = s.engRegs := rfl
@[simp] theorem State.codesUsed_chart (s : State) : (s.codesUsed).chart = s.chart := rfl
@[simp] theorem State.codesUsed_flash (s : State) : (s.codesUsed).flash = s.flash := rfl
@[simp] theorem State.codesUsed_lanes (s : State) : (s.codesUsed).lanes = s.lanes := rfl
@[simp] theorem State.codesUsed_conv (s : State) : (s.codesUsed).conv = s.conv := rfl
@[simp] theorem State.codesUsed_reef (s : State) : (s.codesUsed).reef = s.reef := rfl
@[simp] theorem State.codesUsed_cws (s : State) : (s.codesUsed).cws = s.cws := rfl
@[simp] theorem State.codesUsed_red (s : State) : (s.codesUsed).red = s.red := rfl
@[simp] theorem State.codesUsed_loop (s : State) : (s.codesUsed).loop = s.loop := rfl
@[simp] theorem State.codesUsed_prof (s : State) : (s.codesUsed).prof = s.prof := rfl
@[simp] theorem State.codesUsed_recd (s : State) : (s.codesUsed).recd = s.recd := rfl
@[simp] theorem State.codesUsed_tim (s : State) : (s.codesUsed).tim = s.tim := rfl
@[simp] theorem State.codesUsed_safe (s : State) : (s.codesUsed).safe = s.safe := rfl
@[simp] theorem State.codesUsed_mst (s : State) : (s.codesUsed).mst = s.mst := rfl
@[simp] theorem State.codesUsed_dma (s : State) : (s.codesUsed).dma = s.dma := rfl
@[simp] theorem State.codesUsed_pwr (s : State) : (s.codesUsed).pwr = s.pwr := rfl
@[simp] theorem State.codesUsed_net (s : State) : (s.codesUsed).net = s.net := rfl
@[simp] theorem State.codesUsed_mon (s : State) : (s.codesUsed).mon = s.mon := rfl
@[simp] theorem State.codesUsed_cells (s : State) : (s.codesUsed).cells = s.cells := rfl
@[simp] theorem State.codesUsed_out (s : State) : (s.codesUsed).out = s.out := rfl
@[simp] theorem State.codesUsed_opens (s : State) : (s.codesUsed).opens = s.opens + 512 := rfl
@[simp] theorem State.codesUsed_pending (s : State) : (s.codesUsed).pending = s.pending := rfl
@[simp] theorem State.codesUsed_rd (s : State) (fd : Fld) : (s.codesUsed).rd fd = s.rd fd := rfl
@[simp] theorem State.codesUsed_rdW (s : State) (ad : Nat) : (s.codesUsed).rdW ad = s.rdW ad := rfl
@[simp] theorem State.codesUsed_cell (s : State) (ce : Nat) : (s.codesUsed).cell ce = s.cell ce := rfl
@[simp] theorem State.codesUsed_byte (s : State) (ad : Nat) : (s.codesUsed).byte ad = s.byte ad := rfl

@[simp] theorem State.filled_regs (s : State) : (s.filled).regs = s.regs := rfl
@[simp] theorem State.filled_mem (s : State) : (s.filled).mem = s.mem := rfl
@[simp] theorem State.filled_clk (s : State) : (s.filled).clk = s.clk := rfl
@[simp] theorem State.filled_flt (s : State) : (s.filled).flt = s.flt := rfl
@[simp] theorem State.filled_sched (s : State) : (s.filled).sched = s.sched := rfl
@[simp] theorem State.filled_engRegs (s : State) : (s.filled).engRegs = s.engRegs := rfl
@[simp] theorem State.filled_chart (s : State) : (s.filled).chart = s.chart := rfl
@[simp] theorem State.filled_flash (s : State) : (s.filled).flash = s.flash := rfl
@[simp] theorem State.filled_lanes (s : State) : (s.filled).lanes = s.lanes := rfl
@[simp] theorem State.filled_conv (s : State) : (s.filled).conv = s.conv := rfl
@[simp] theorem State.filled_reef (s : State) : (s.filled).reef = s.reef := rfl
@[simp] theorem State.filled_cws (s : State) : (s.filled).cws = s.cws := rfl
@[simp] theorem State.filled_red (s : State) : (s.filled).red = s.red := rfl
@[simp] theorem State.filled_loop (s : State) : (s.filled).loop = s.loop := rfl
@[simp] theorem State.filled_prof (s : State) : (s.filled).prof = s.prof := rfl
@[simp] theorem State.filled_recd (s : State) : (s.filled).recd = s.recd := rfl
@[simp] theorem State.filled_tim (s : State) : (s.filled).tim = s.tim := rfl
@[simp] theorem State.filled_safe (s : State) : (s.filled).safe = s.safe := rfl
@[simp] theorem State.filled_mst (s : State) : (s.filled).mst = s.mst := rfl
@[simp] theorem State.filled_dma (s : State) : (s.filled).dma = s.dma := rfl
@[simp] theorem State.filled_pwr (s : State) : (s.filled).pwr = s.pwr := rfl
@[simp] theorem State.filled_net (s : State) : (s.filled).net = s.net := rfl
@[simp] theorem State.filled_mon (s : State) : (s.filled).mon = s.mon := rfl
@[simp] theorem State.filled_cells (s : State) : (s.filled).cells = s.cells := rfl
@[simp] theorem State.filled_out (s : State) : (s.filled).out = s.out := rfl
@[simp] theorem State.filled_opens (s : State) : (s.filled).opens = s.opens + 49 := rfl
@[simp] theorem State.filled_pending (s : State) : (s.filled).pending = s.pending := rfl
@[simp] theorem State.filled_rd (s : State) (fd : Fld) : (s.filled).rd fd = s.rd fd := rfl
@[simp] theorem State.filled_rdW (s : State) (ad : Nat) : (s.filled).rdW ad = s.rdW ad := rfl
@[simp] theorem State.filled_cell (s : State) (ce : Nat) : (s.filled).cell ce = s.cell ce := rfl
@[simp] theorem State.filled_byte (s : State) (ad : Nat) : (s.filled).byte ad = s.byte ad := rfl

@[simp] theorem State.raise_regs (s : State) (i v : Nat) : (s.raise i v).regs = s.regs := by unfold State.raise; split <;> rfl
@[simp] theorem State.raise_mem (s : State) (i v : Nat) : (s.raise i v).mem = s.mem := by unfold State.raise; split <;> rfl
@[simp] theorem State.raise_clk (s : State) (i v : Nat) : (s.raise i v).clk = s.clk := by unfold State.raise; split <;> rfl
@[simp] theorem State.raise_sched (s : State) (i v : Nat)
    : (s.raise i v).sched = s.sched := by unfold State.raise; split <;> rfl
@[simp] theorem State.raise_engRegs (s : State) (i v : Nat)
    : (s.raise i v).engRegs = s.engRegs := by unfold State.raise; split <;> rfl
@[simp] theorem State.raise_chart (s : State) (i v : Nat)
    : (s.raise i v).chart = s.chart := by unfold State.raise; split <;> rfl
@[simp] theorem State.raise_flash (s : State) (i v : Nat)
    : (s.raise i v).flash = s.flash := by unfold State.raise; split <;> rfl
@[simp] theorem State.raise_lanes (s : State) (i v : Nat)
    : (s.raise i v).lanes = s.lanes := by unfold State.raise; split <;> rfl
@[simp] theorem State.raise_conv (s : State) (i v : Nat) : (s.raise i v).conv = s.conv := by unfold State.raise; split <;> rfl
@[simp] theorem State.raise_reef (s : State) (i v : Nat) : (s.raise i v).reef = s.reef := by unfold State.raise; split <;> rfl
@[simp] theorem State.raise_cws (s : State) (i v : Nat) : (s.raise i v).cws = s.cws := by unfold State.raise; split <;> rfl
@[simp] theorem State.raise_red (s : State) (i v : Nat) : (s.raise i v).red = s.red := by unfold State.raise; split <;> rfl
@[simp] theorem State.raise_loop (s : State) (i v : Nat) : (s.raise i v).loop = s.loop := by unfold State.raise; split <;> rfl
@[simp] theorem State.raise_prof (s : State) (i v : Nat) : (s.raise i v).prof = s.prof := by unfold State.raise; split <;> rfl
@[simp] theorem State.raise_recd (s : State) (i v : Nat) : (s.raise i v).recd = s.recd := by unfold State.raise; split <;> rfl
@[simp] theorem State.raise_tim (s : State) (i v : Nat) : (s.raise i v).tim = s.tim := by unfold State.raise; split <;> rfl
@[simp] theorem State.raise_safe (s : State) (i v : Nat) : (s.raise i v).safe = s.safe := by unfold State.raise; split <;> rfl
@[simp] theorem State.raise_mst (s : State) (i v : Nat) : (s.raise i v).mst = s.mst := by unfold State.raise; split <;> rfl
@[simp] theorem State.raise_dma (s : State) (i v : Nat) : (s.raise i v).dma = s.dma := by unfold State.raise; split <;> rfl
@[simp] theorem State.raise_pwr (s : State) (i v : Nat) : (s.raise i v).pwr = s.pwr := by unfold State.raise; split <;> rfl
@[simp] theorem State.raise_net (s : State) (i v : Nat) : (s.raise i v).net = s.net := by unfold State.raise; split <;> rfl
@[simp] theorem State.raise_mon (s : State) (i v : Nat) : (s.raise i v).mon = s.mon := by unfold State.raise; split <;> rfl
@[simp] theorem State.raise_cells (s : State) (i v : Nat)
    : (s.raise i v).cells = s.cells := by unfold State.raise; split <;> rfl
@[simp] theorem State.raise_out (s : State) (i v : Nat) : (s.raise i v).out = s.out := by unfold State.raise; split <;> rfl
@[simp] theorem State.raise_opens (s : State) (i v : Nat)
    : (s.raise i v).opens = s.opens := by unfold State.raise; split <;> rfl
@[simp] theorem State.raise_pending (s : State) (i v : Nat)
    : (s.raise i v).pending = s.pending := by unfold State.raise; split <;> rfl
@[simp] theorem State.raise_rd (s : State) (i v : Nat) (fd : Fld)
    : (s.raise i v).rd fd = s.rd fd := by simp [State.rd, State.rdW]
@[simp] theorem State.raise_rdW (s : State) (i v ad : Nat) : (s.raise i v).rdW ad = s.rdW ad := by simp [State.rdW]
@[simp] theorem State.raise_cell (s : State) (i v ce : Nat) : (s.raise i v).cell ce = s.cell ce := by simp [State.cell]
@[simp] theorem State.raise_byte (s : State) (i v ad : Nat) : (s.raise i v).byte ad = s.byte ad := by simp [State.byte]

@[simp] theorem Skerry.wrW_mem (k : Skerry) (a : Nat) (v : Word) : (k.wrW a v).mem = k.mem := rfl
@[simp] theorem Skerry.wrW_clk (k : Skerry) (a : Nat) (v : Word) : (k.wrW a v).clk = k.clk := rfl
@[simp] theorem Skerry.wrW_pow (k : Skerry) (a : Nat) (v : Word) : (k.wrW a v).pow = k.pow := rfl
@[simp] theorem Skerry.wrW_gate (k : Skerry) (a : Nat) (v : Word) : (k.wrW a v).gate = k.gate := rfl
@[simp] theorem Skerry.wrW_cmd (k : Skerry) (a : Nat) (v : Word) : (k.wrW a v).cmd = k.cmd := rfl
@[simp] theorem Skerry.wrW_fr (k : Skerry) (a : Nat) (v : Word) : (k.wrW a v).fr = k.fr := rfl
@[simp] theorem Skerry.wrW_conv (k : Skerry) (a : Nat) (v : Word) : (k.wrW a v).conv = k.conv := rfl
@[simp] theorem Skerry.wrW_trigs (k : Skerry) (a : Nat) (v : Word) : (k.wrW a v).trigs = k.trigs := rfl
@[simp] theorem Skerry.wrW_ports (k : Skerry) (a : Nat) (v : Word) : (k.wrW a v).ports = k.ports := rfl
@[simp] theorem Skerry.wrW_pass (k : Skerry) (a : Nat) (v : Word) : (k.wrW a v).pass = k.pass := rfl
@[simp] theorem Skerry.wrW_monBad (k : Skerry) (a : Nat) (v : Word) : (k.wrW a v).monBad = k.monBad := rfl
@[simp] theorem Skerry.wrW_byte (k : Skerry) (a : Nat) (v : Word) (ad : Nat) : (k.wrW a v).byte ad = k.byte ad := rfl

@[simp] theorem Skerry.wr_mem (k : Skerry) (f : Fld) (v : Nat) : (k.wr f v).mem = k.mem := rfl
@[simp] theorem Skerry.wr_clk (k : Skerry) (f : Fld) (v : Nat) : (k.wr f v).clk = k.clk := rfl
@[simp] theorem Skerry.wr_pow (k : Skerry) (f : Fld) (v : Nat) : (k.wr f v).pow = k.pow := rfl
@[simp] theorem Skerry.wr_gate (k : Skerry) (f : Fld) (v : Nat) : (k.wr f v).gate = k.gate := rfl
@[simp] theorem Skerry.wr_cmd (k : Skerry) (f : Fld) (v : Nat) : (k.wr f v).cmd = k.cmd := rfl
@[simp] theorem Skerry.wr_fr (k : Skerry) (f : Fld) (v : Nat) : (k.wr f v).fr = k.fr := rfl
@[simp] theorem Skerry.wr_conv (k : Skerry) (f : Fld) (v : Nat) : (k.wr f v).conv = k.conv := rfl
@[simp] theorem Skerry.wr_trigs (k : Skerry) (f : Fld) (v : Nat) : (k.wr f v).trigs = k.trigs := rfl
@[simp] theorem Skerry.wr_ports (k : Skerry) (f : Fld) (v : Nat) : (k.wr f v).ports = k.ports := rfl
@[simp] theorem Skerry.wr_pass (k : Skerry) (f : Fld) (v : Nat) : (k.wr f v).pass = k.pass := rfl
@[simp] theorem Skerry.wr_monBad (k : Skerry) (f : Fld) (v : Nat) : (k.wr f v).monBad = k.monBad := rfl
@[simp] theorem Skerry.wr_byte (k : Skerry) (f : Fld) (v : Nat) (ad : Nat) : (k.wr f v).byte ad = k.byte ad := rfl

@[simp] theorem Skerry.cnt_mem (k : Skerry) (f : Fld) (n : Nat) : (k.cnt f n).mem = k.mem := rfl
@[simp] theorem Skerry.cnt_clk (k : Skerry) (f : Fld) (n : Nat) : (k.cnt f n).clk = k.clk := rfl
@[simp] theorem Skerry.cnt_pow (k : Skerry) (f : Fld) (n : Nat) : (k.cnt f n).pow = k.pow := rfl
@[simp] theorem Skerry.cnt_gate (k : Skerry) (f : Fld) (n : Nat) : (k.cnt f n).gate = k.gate := rfl
@[simp] theorem Skerry.cnt_cmd (k : Skerry) (f : Fld) (n : Nat) : (k.cnt f n).cmd = k.cmd := rfl
@[simp] theorem Skerry.cnt_fr (k : Skerry) (f : Fld) (n : Nat) : (k.cnt f n).fr = k.fr := rfl
@[simp] theorem Skerry.cnt_conv (k : Skerry) (f : Fld) (n : Nat) : (k.cnt f n).conv = k.conv := rfl
@[simp] theorem Skerry.cnt_trigs (k : Skerry) (f : Fld) (n : Nat) : (k.cnt f n).trigs = k.trigs := rfl
@[simp] theorem Skerry.cnt_ports (k : Skerry) (f : Fld) (n : Nat) : (k.cnt f n).ports = k.ports := rfl
@[simp] theorem Skerry.cnt_pass (k : Skerry) (f : Fld) (n : Nat) : (k.cnt f n).pass = k.pass := rfl
@[simp] theorem Skerry.cnt_monBad (k : Skerry) (f : Fld) (n : Nat) : (k.cnt f n).monBad = k.monBad := rfl
@[simp] theorem Skerry.cnt_byte (k : Skerry) (f : Fld) (n : Nat) (ad : Nat) : (k.cnt f n).byte ad = k.byte ad := rfl

@[simp] theorem Skerry.inc_mem (k : Skerry) (f : Fld) : (k.inc f).mem = k.mem := rfl
@[simp] theorem Skerry.inc_clk (k : Skerry) (f : Fld) : (k.inc f).clk = k.clk := rfl
@[simp] theorem Skerry.inc_pow (k : Skerry) (f : Fld) : (k.inc f).pow = k.pow := rfl
@[simp] theorem Skerry.inc_gate (k : Skerry) (f : Fld) : (k.inc f).gate = k.gate := rfl
@[simp] theorem Skerry.inc_cmd (k : Skerry) (f : Fld) : (k.inc f).cmd = k.cmd := rfl
@[simp] theorem Skerry.inc_fr (k : Skerry) (f : Fld) : (k.inc f).fr = k.fr := rfl
@[simp] theorem Skerry.inc_conv (k : Skerry) (f : Fld) : (k.inc f).conv = k.conv := rfl
@[simp] theorem Skerry.inc_trigs (k : Skerry) (f : Fld) : (k.inc f).trigs = k.trigs := rfl
@[simp] theorem Skerry.inc_ports (k : Skerry) (f : Fld) : (k.inc f).ports = k.ports := rfl
@[simp] theorem Skerry.inc_pass (k : Skerry) (f : Fld) : (k.inc f).pass = k.pass := rfl
@[simp] theorem Skerry.inc_monBad (k : Skerry) (f : Fld) : (k.inc f).monBad = k.monBad := rfl
@[simp] theorem Skerry.inc_byte (k : Skerry) (f : Fld) (ad : Nat) : (k.inc f).byte ad = k.byte ad := rfl

@[simp] theorem Skerry.wrS_mem (k : Skerry) (f : Fld) (v : Int) : (k.wrS f v).mem = k.mem := rfl
@[simp] theorem Skerry.wrS_clk (k : Skerry) (f : Fld) (v : Int) : (k.wrS f v).clk = k.clk := rfl
@[simp] theorem Skerry.wrS_pow (k : Skerry) (f : Fld) (v : Int) : (k.wrS f v).pow = k.pow := rfl
@[simp] theorem Skerry.wrS_gate (k : Skerry) (f : Fld) (v : Int) : (k.wrS f v).gate = k.gate := rfl
@[simp] theorem Skerry.wrS_cmd (k : Skerry) (f : Fld) (v : Int) : (k.wrS f v).cmd = k.cmd := rfl
@[simp] theorem Skerry.wrS_fr (k : Skerry) (f : Fld) (v : Int) : (k.wrS f v).fr = k.fr := rfl
@[simp] theorem Skerry.wrS_conv (k : Skerry) (f : Fld) (v : Int) : (k.wrS f v).conv = k.conv := rfl
@[simp] theorem Skerry.wrS_trigs (k : Skerry) (f : Fld) (v : Int) : (k.wrS f v).trigs = k.trigs := rfl
@[simp] theorem Skerry.wrS_ports (k : Skerry) (f : Fld) (v : Int) : (k.wrS f v).ports = k.ports := rfl
@[simp] theorem Skerry.wrS_pass (k : Skerry) (f : Fld) (v : Int) : (k.wrS f v).pass = k.pass := rfl
@[simp] theorem Skerry.wrS_monBad (k : Skerry) (f : Fld) (v : Int) : (k.wrS f v).monBad = k.monBad := rfl
@[simp] theorem Skerry.wrS_byte (k : Skerry) (f : Fld) (v : Int) (ad : Nat) : (k.wrS f v).byte ad = k.byte ad := rfl

@[simp] theorem Skerry.setByte_regs (k : Skerry) (a : Nat) (b : Byte) : (k.setByte a b).regs = k.regs := rfl
@[simp] theorem Skerry.setByte_clk (k : Skerry) (a : Nat) (b : Byte) : (k.setByte a b).clk = k.clk := rfl
@[simp] theorem Skerry.setByte_pow (k : Skerry) (a : Nat) (b : Byte) : (k.setByte a b).pow = k.pow := rfl
@[simp] theorem Skerry.setByte_gate (k : Skerry) (a : Nat) (b : Byte) : (k.setByte a b).gate = k.gate := rfl
@[simp] theorem Skerry.setByte_cmd (k : Skerry) (a : Nat) (b : Byte) : (k.setByte a b).cmd = k.cmd := rfl
@[simp] theorem Skerry.setByte_fr (k : Skerry) (a : Nat) (b : Byte) : (k.setByte a b).fr = k.fr := rfl
@[simp] theorem Skerry.setByte_conv (k : Skerry) (a : Nat) (b : Byte) : (k.setByte a b).conv = k.conv := rfl
@[simp] theorem Skerry.setByte_trigs (k : Skerry) (a : Nat) (b : Byte) : (k.setByte a b).trigs = k.trigs := rfl
@[simp] theorem Skerry.setByte_ports (k : Skerry) (a : Nat) (b : Byte) : (k.setByte a b).ports = k.ports := rfl
@[simp] theorem Skerry.setByte_pass (k : Skerry) (a : Nat) (b : Byte) : (k.setByte a b).pass = k.pass := rfl
@[simp] theorem Skerry.setByte_monBad (k : Skerry) (a : Nat) (b : Byte) : (k.setByte a b).monBad = k.monBad := rfl
@[simp] theorem Skerry.setByte_rd (k : Skerry) (a : Nat) (b : Byte) (fd : Fld) : (k.setByte a b).rd fd = k.rd fd := rfl
@[simp] theorem Skerry.setByte_rdW (k : Skerry) (a : Nat) (b : Byte) (ad : Nat) : (k.setByte a b).rdW ad = k.rdW ad := rfl

@[simp] theorem Skerry.setPow_regs (k : Skerry) (p : SkPower) : (k.setPow p).regs = k.regs := rfl
@[simp] theorem Skerry.setPow_mem (k : Skerry) (p : SkPower) : (k.setPow p).mem = k.mem := rfl
@[simp] theorem Skerry.setPow_clk (k : Skerry) (p : SkPower) : (k.setPow p).clk = k.clk := rfl
@[simp] theorem Skerry.setPow_pow (k : Skerry) (p : SkPower) : (k.setPow p).pow = p := rfl
@[simp] theorem Skerry.setPow_gate (k : Skerry) (p : SkPower) : (k.setPow p).gate = k.gate := rfl
@[simp] theorem Skerry.setPow_cmd (k : Skerry) (p : SkPower) : (k.setPow p).cmd = k.cmd := rfl
@[simp] theorem Skerry.setPow_fr (k : Skerry) (p : SkPower) : (k.setPow p).fr = k.fr := rfl
@[simp] theorem Skerry.setPow_conv (k : Skerry) (p : SkPower) : (k.setPow p).conv = k.conv := rfl
@[simp] theorem Skerry.setPow_trigs (k : Skerry) (p : SkPower) : (k.setPow p).trigs = k.trigs := rfl
@[simp] theorem Skerry.setPow_ports (k : Skerry) (p : SkPower) : (k.setPow p).ports = k.ports := rfl
@[simp] theorem Skerry.setPow_pass (k : Skerry) (p : SkPower) : (k.setPow p).pass = k.pass := rfl
@[simp] theorem Skerry.setPow_monBad (k : Skerry) (p : SkPower) : (k.setPow p).monBad = k.monBad := rfl
@[simp] theorem Skerry.setPow_rd (k : Skerry) (p : SkPower) (fd : Fld) : (k.setPow p).rd fd = k.rd fd := rfl
@[simp] theorem Skerry.setPow_rdW (k : Skerry) (p : SkPower) (ad : Nat) : (k.setPow p).rdW ad = k.rdW ad := rfl
@[simp] theorem Skerry.setPow_byte (k : Skerry) (p : SkPower) (ad : Nat) : (k.setPow p).byte ad = k.byte ad := rfl

@[simp] theorem Skerry.setGate_regs (k : Skerry) (q : SkGate) : (k.setGate q).regs = k.regs := rfl
@[simp] theorem Skerry.setGate_mem (k : Skerry) (q : SkGate) : (k.setGate q).mem = k.mem := rfl
@[simp] theorem Skerry.setGate_clk (k : Skerry) (q : SkGate) : (k.setGate q).clk = k.clk := rfl
@[simp] theorem Skerry.setGate_pow (k : Skerry) (q : SkGate) : (k.setGate q).pow = k.pow := rfl
@[simp] theorem Skerry.setGate_gate (k : Skerry) (q : SkGate) : (k.setGate q).gate = q := rfl
@[simp] theorem Skerry.setGate_cmd (k : Skerry) (q : SkGate) : (k.setGate q).cmd = k.cmd := rfl
@[simp] theorem Skerry.setGate_fr (k : Skerry) (q : SkGate) : (k.setGate q).fr = k.fr := rfl
@[simp] theorem Skerry.setGate_conv (k : Skerry) (q : SkGate) : (k.setGate q).conv = k.conv := rfl
@[simp] theorem Skerry.setGate_trigs (k : Skerry) (q : SkGate) : (k.setGate q).trigs = k.trigs := rfl
@[simp] theorem Skerry.setGate_ports (k : Skerry) (q : SkGate) : (k.setGate q).ports = k.ports := rfl
@[simp] theorem Skerry.setGate_pass (k : Skerry) (q : SkGate) : (k.setGate q).pass = k.pass := rfl
@[simp] theorem Skerry.setGate_monBad (k : Skerry) (q : SkGate) : (k.setGate q).monBad = k.monBad := rfl
@[simp] theorem Skerry.setGate_rd (k : Skerry) (q : SkGate) (fd : Fld) : (k.setGate q).rd fd = k.rd fd := rfl
@[simp] theorem Skerry.setGate_rdW (k : Skerry) (q : SkGate) (ad : Nat) : (k.setGate q).rdW ad = k.rdW ad := rfl
@[simp] theorem Skerry.setGate_byte (k : Skerry) (q : SkGate) (ad : Nat) : (k.setGate q).byte ad = k.byte ad := rfl

@[simp] theorem Skerry.setCmd_regs (k : Skerry) (c : SkCmd) : (k.setCmd c).regs = k.regs := rfl
@[simp] theorem Skerry.setCmd_mem (k : Skerry) (c : SkCmd) : (k.setCmd c).mem = k.mem := rfl
@[simp] theorem Skerry.setCmd_clk (k : Skerry) (c : SkCmd) : (k.setCmd c).clk = k.clk := rfl
@[simp] theorem Skerry.setCmd_pow (k : Skerry) (c : SkCmd) : (k.setCmd c).pow = k.pow := rfl
@[simp] theorem Skerry.setCmd_gate (k : Skerry) (c : SkCmd) : (k.setCmd c).gate = k.gate := rfl
@[simp] theorem Skerry.setCmd_cmd (k : Skerry) (c : SkCmd) : (k.setCmd c).cmd = c := rfl
@[simp] theorem Skerry.setCmd_fr (k : Skerry) (c : SkCmd) : (k.setCmd c).fr = k.fr := rfl
@[simp] theorem Skerry.setCmd_conv (k : Skerry) (c : SkCmd) : (k.setCmd c).conv = k.conv := rfl
@[simp] theorem Skerry.setCmd_trigs (k : Skerry) (c : SkCmd) : (k.setCmd c).trigs = k.trigs := rfl
@[simp] theorem Skerry.setCmd_ports (k : Skerry) (c : SkCmd) : (k.setCmd c).ports = k.ports := rfl
@[simp] theorem Skerry.setCmd_pass (k : Skerry) (c : SkCmd) : (k.setCmd c).pass = k.pass := rfl
@[simp] theorem Skerry.setCmd_monBad (k : Skerry) (c : SkCmd) : (k.setCmd c).monBad = k.monBad := rfl
@[simp] theorem Skerry.setCmd_rd (k : Skerry) (c : SkCmd) (fd : Fld) : (k.setCmd c).rd fd = k.rd fd := rfl
@[simp] theorem Skerry.setCmd_rdW (k : Skerry) (c : SkCmd) (ad : Nat) : (k.setCmd c).rdW ad = k.rdW ad := rfl
@[simp] theorem Skerry.setCmd_byte (k : Skerry) (c : SkCmd) (ad : Nat) : (k.setCmd c).byte ad = k.byte ad := rfl

@[simp] theorem Skerry.setFr_regs (k : Skerry) (f : SkFreight) : (k.setFr f).regs = k.regs := rfl
@[simp] theorem Skerry.setFr_mem (k : Skerry) (f : SkFreight) : (k.setFr f).mem = k.mem := rfl
@[simp] theorem Skerry.setFr_clk (k : Skerry) (f : SkFreight) : (k.setFr f).clk = k.clk := rfl
@[simp] theorem Skerry.setFr_pow (k : Skerry) (f : SkFreight) : (k.setFr f).pow = k.pow := rfl
@[simp] theorem Skerry.setFr_gate (k : Skerry) (f : SkFreight) : (k.setFr f).gate = k.gate := rfl
@[simp] theorem Skerry.setFr_cmd (k : Skerry) (f : SkFreight) : (k.setFr f).cmd = k.cmd := rfl
@[simp] theorem Skerry.setFr_fr (k : Skerry) (f : SkFreight) : (k.setFr f).fr = f := rfl
@[simp] theorem Skerry.setFr_conv (k : Skerry) (f : SkFreight) : (k.setFr f).conv = k.conv := rfl
@[simp] theorem Skerry.setFr_trigs (k : Skerry) (f : SkFreight) : (k.setFr f).trigs = k.trigs := rfl
@[simp] theorem Skerry.setFr_ports (k : Skerry) (f : SkFreight) : (k.setFr f).ports = k.ports := rfl
@[simp] theorem Skerry.setFr_pass (k : Skerry) (f : SkFreight) : (k.setFr f).pass = k.pass := rfl
@[simp] theorem Skerry.setFr_monBad (k : Skerry) (f : SkFreight) : (k.setFr f).monBad = k.monBad := rfl
@[simp] theorem Skerry.setFr_rd (k : Skerry) (f : SkFreight) (fd : Fld) : (k.setFr f).rd fd = k.rd fd := rfl
@[simp] theorem Skerry.setFr_rdW (k : Skerry) (f : SkFreight) (ad : Nat) : (k.setFr f).rdW ad = k.rdW ad := rfl
@[simp] theorem Skerry.setFr_byte (k : Skerry) (f : SkFreight) (ad : Nat) : (k.setFr f).byte ad = k.byte ad := rfl

@[simp] theorem Skerry.setConv_regs (k : Skerry) (c : Conv) : (k.setConv c).regs = k.regs := rfl
@[simp] theorem Skerry.setConv_mem (k : Skerry) (c : Conv) : (k.setConv c).mem = k.mem := rfl
@[simp] theorem Skerry.setConv_clk (k : Skerry) (c : Conv) : (k.setConv c).clk = k.clk := rfl
@[simp] theorem Skerry.setConv_pow (k : Skerry) (c : Conv) : (k.setConv c).pow = k.pow := rfl
@[simp] theorem Skerry.setConv_gate (k : Skerry) (c : Conv) : (k.setConv c).gate = k.gate := rfl
@[simp] theorem Skerry.setConv_cmd (k : Skerry) (c : Conv) : (k.setConv c).cmd = k.cmd := rfl
@[simp] theorem Skerry.setConv_fr (k : Skerry) (c : Conv) : (k.setConv c).fr = k.fr := rfl
@[simp] theorem Skerry.setConv_conv (k : Skerry) (c : Conv) : (k.setConv c).conv = c := rfl
@[simp] theorem Skerry.setConv_trigs (k : Skerry) (c : Conv) : (k.setConv c).trigs = k.trigs := rfl
@[simp] theorem Skerry.setConv_ports (k : Skerry) (c : Conv) : (k.setConv c).ports = k.ports := rfl
@[simp] theorem Skerry.setConv_pass (k : Skerry) (c : Conv) : (k.setConv c).pass = k.pass := rfl
@[simp] theorem Skerry.setConv_monBad (k : Skerry) (c : Conv) : (k.setConv c).monBad = k.monBad := rfl
@[simp] theorem Skerry.setConv_rd (k : Skerry) (c : Conv) (fd : Fld) : (k.setConv c).rd fd = k.rd fd := rfl
@[simp] theorem Skerry.setConv_rdW (k : Skerry) (c : Conv) (ad : Nat) : (k.setConv c).rdW ad = k.rdW ad := rfl
@[simp] theorem Skerry.setConv_byte (k : Skerry) (c : Conv) (ad : Nat) : (k.setConv c).byte ad = k.byte ad := rfl

@[simp] theorem Skerry.setTrig_regs (k : Skerry) (i : Nat) (t : Trig) : (k.setTrig i t).regs = k.regs := rfl
@[simp] theorem Skerry.setTrig_mem (k : Skerry) (i : Nat) (t : Trig) : (k.setTrig i t).mem = k.mem := rfl
@[simp] theorem Skerry.setTrig_clk (k : Skerry) (i : Nat) (t : Trig) : (k.setTrig i t).clk = k.clk := rfl
@[simp] theorem Skerry.setTrig_pow (k : Skerry) (i : Nat) (t : Trig) : (k.setTrig i t).pow = k.pow := rfl
@[simp] theorem Skerry.setTrig_gate (k : Skerry) (i : Nat) (t : Trig) : (k.setTrig i t).gate = k.gate := rfl
@[simp] theorem Skerry.setTrig_cmd (k : Skerry) (i : Nat) (t : Trig) : (k.setTrig i t).cmd = k.cmd := rfl
@[simp] theorem Skerry.setTrig_fr (k : Skerry) (i : Nat) (t : Trig) : (k.setTrig i t).fr = k.fr := rfl
@[simp] theorem Skerry.setTrig_conv (k : Skerry) (i : Nat) (t : Trig) : (k.setTrig i t).conv = k.conv := rfl
@[simp] theorem Skerry.setTrig_ports (k : Skerry) (i : Nat) (t : Trig) : (k.setTrig i t).ports = k.ports := rfl
@[simp] theorem Skerry.setTrig_pass (k : Skerry) (i : Nat) (t : Trig) : (k.setTrig i t).pass = k.pass := rfl
@[simp] theorem Skerry.setTrig_monBad (k : Skerry) (i : Nat) (t : Trig) : (k.setTrig i t).monBad = k.monBad := rfl
@[simp] theorem Skerry.setTrig_rd (k : Skerry) (i : Nat) (t : Trig) (fd : Fld) : (k.setTrig i t).rd fd = k.rd fd := rfl
@[simp] theorem Skerry.setTrig_rdW (k : Skerry) (i : Nat) (t : Trig) (ad : Nat) : (k.setTrig i t).rdW ad = k.rdW ad := rfl
@[simp] theorem Skerry.setTrig_byte (k : Skerry) (i : Nat) (t : Trig) (ad : Nat) : (k.setTrig i t).byte ad = k.byte ad := rfl

@[simp] theorem Skerry.setPass_regs (k : Skerry) (p : Nat) (q : Pass) : (k.setPass p q).regs = k.regs := rfl
@[simp] theorem Skerry.setPass_mem (k : Skerry) (p : Nat) (q : Pass) : (k.setPass p q).mem = k.mem := rfl
@[simp] theorem Skerry.setPass_clk (k : Skerry) (p : Nat) (q : Pass) : (k.setPass p q).clk = k.clk := rfl
@[simp] theorem Skerry.setPass_pow (k : Skerry) (p : Nat) (q : Pass) : (k.setPass p q).pow = k.pow := rfl
@[simp] theorem Skerry.setPass_gate (k : Skerry) (p : Nat) (q : Pass) : (k.setPass p q).gate = k.gate := rfl
@[simp] theorem Skerry.setPass_cmd (k : Skerry) (p : Nat) (q : Pass) : (k.setPass p q).cmd = k.cmd := rfl
@[simp] theorem Skerry.setPass_fr (k : Skerry) (p : Nat) (q : Pass) : (k.setPass p q).fr = k.fr := rfl
@[simp] theorem Skerry.setPass_conv (k : Skerry) (p : Nat) (q : Pass) : (k.setPass p q).conv = k.conv := rfl
@[simp] theorem Skerry.setPass_trigs (k : Skerry) (p : Nat) (q : Pass) : (k.setPass p q).trigs = k.trigs := rfl
@[simp] theorem Skerry.setPass_ports (k : Skerry) (p : Nat) (q : Pass) : (k.setPass p q).ports = k.ports := rfl
@[simp] theorem Skerry.setPass_monBad (k : Skerry) (p : Nat) (q : Pass) : (k.setPass p q).monBad = k.monBad := rfl
@[simp] theorem Skerry.setPass_rd (k : Skerry) (p : Nat) (q : Pass) (fd : Fld) : (k.setPass p q).rd fd = k.rd fd := rfl
@[simp] theorem Skerry.setPass_rdW (k : Skerry) (p : Nat) (q : Pass) (ad : Nat) : (k.setPass p q).rdW ad = k.rdW ad := rfl
@[simp] theorem Skerry.setPass_byte (k : Skerry) (p : Nat) (q : Pass) (ad : Nat) : (k.setPass p q).byte ad = k.byte ad := rfl

@[simp] theorem Skerry.setPortRx_regs (k : Skerry) (p : Nat) (r : LaneRx) : (k.setPortRx p r).regs = k.regs := rfl
@[simp] theorem Skerry.setPortRx_mem (k : Skerry) (p : Nat) (r : LaneRx) : (k.setPortRx p r).mem = k.mem := rfl
@[simp] theorem Skerry.setPortRx_clk (k : Skerry) (p : Nat) (r : LaneRx) : (k.setPortRx p r).clk = k.clk := rfl
@[simp] theorem Skerry.setPortRx_pow (k : Skerry) (p : Nat) (r : LaneRx) : (k.setPortRx p r).pow = k.pow := rfl
@[simp] theorem Skerry.setPortRx_gate (k : Skerry) (p : Nat) (r : LaneRx) : (k.setPortRx p r).gate = k.gate := rfl
@[simp] theorem Skerry.setPortRx_cmd (k : Skerry) (p : Nat) (r : LaneRx) : (k.setPortRx p r).cmd = k.cmd := rfl
@[simp] theorem Skerry.setPortRx_fr (k : Skerry) (p : Nat) (r : LaneRx) : (k.setPortRx p r).fr = k.fr := rfl
@[simp] theorem Skerry.setPortRx_conv (k : Skerry) (p : Nat) (r : LaneRx) : (k.setPortRx p r).conv = k.conv := rfl
@[simp] theorem Skerry.setPortRx_trigs (k : Skerry) (p : Nat) (r : LaneRx) : (k.setPortRx p r).trigs = k.trigs := rfl
@[simp] theorem Skerry.setPortRx_pass (k : Skerry) (p : Nat) (r : LaneRx) : (k.setPortRx p r).pass = k.pass := rfl
@[simp] theorem Skerry.setPortRx_monBad (k : Skerry) (p : Nat) (r : LaneRx) : (k.setPortRx p r).monBad = k.monBad := rfl
@[simp] theorem Skerry.setPortRx_rd (k : Skerry) (p : Nat) (r : LaneRx) (fd : Fld) : (k.setPortRx p r).rd fd = k.rd fd := rfl
@[simp] theorem Skerry.setPortRx_rdW (k : Skerry) (p : Nat) (r : LaneRx) (ad : Nat)
    : (k.setPortRx p r).rdW ad = k.rdW ad := rfl
@[simp] theorem Skerry.setPortRx_byte (k : Skerry) (p : Nat) (r : LaneRx) (ad : Nat)
    : (k.setPortRx p r).byte ad = k.byte ad := rfl

end Sys2Proof.Machine
end

