-- ==== Sys2Proof/Laws/Frames.lean ====
section
/-! SUPPORT. Frames: the named updates leave every register field alone but those they write, and frames compose. -/

namespace Sys2Proof.Machine
open Sys2Proof

/-! ### The Balgal's registers -/

theorem State.keepsBut_refl (s : State) (fs : List Fld) : s.keepsBut s fs := fun _ _ => rfl

theorem State.keepsBut_trans {s t u : State} {fs gs : List Fld} (h : s.keepsBut t fs) (k : t.keepsBut u gs) :
    s.keepsBut u (fs ++ gs) := fun g hg =>
  (k g (fun f hf => hg f (List.mem_append_right _ hf))).trans (h g (fun f hf => hg f (List.mem_append_left _ hf)))

theorem State.keepsBut_mono {s t : State} {fs gs : List Fld} (h : s.keepsBut t fs) (k : ∀ f ∈ fs, f ∈ gs) : s.keepsBut t gs :=
  fun g hg => h g (fun f hf => hg f (k f hf))

theorem State.wr_keepsBut (s : State) (f : Fld) (v : Nat) : s.keepsBut (s.wr f v) [f] := fun g hg =>
  State.rd_wr_apart s f g v (hg f (by simp))

theorem State.onlyFields_refl (s : State) (fs : List Fld) : s.onlyFields s fs := ⟨rfl, s.keepsBut_refl fs⟩

theorem State.onlyFields_trans {s t u : State} {fs gs : List Fld} (h : s.onlyFields t fs) (k : t.onlyFields u gs) :
    s.onlyFields u (fs ++ gs) := by
  refine ⟨?_, State.keepsBut_trans h.2 k.2⟩
  have h1 := h.1
  have k1 := k.1
  rw [h1] at k1
  exact k1

theorem State.onlyFields_mono {s t : State} {fs gs : List Fld} (h : s.onlyFields t fs) (k : ∀ f ∈ fs, f ∈ gs) :
    s.onlyFields t gs := ⟨h.1, State.keepsBut_mono h.2 k⟩

theorem State.wr_onlyFields (s : State) (f : Fld) (v : Nat) : s.onlyFields (s.wr f v) [f] := ⟨rfl, s.wr_keepsBut f v⟩

/-- One more field is written: the frame of `t` grows by it. -/
theorem State.onlyFields_wr {s t : State} {fs : List Fld} {f : Fld} {v : Nat} (h : s.onlyFields t fs) (k : f ∈ fs) :
    s.onlyFields (t.wr f v) fs :=
  State.onlyFields_mono (State.onlyFields_trans h (t.wr_onlyFields f v))
    (fun x hx => (List.mem_append.mp hx).elim id (fun e => List.mem_singleton.mp e ▸ k))

theorem State.onlyFields_cnt {s t : State} {fs : List Fld} {f : Fld} {n : Nat} (h : s.onlyFields t fs) (k : f ∈ fs) :
    s.onlyFields (t.cnt f n) fs := State.onlyFields_wr h k

theorem State.onlyFields_inc {s t : State} {fs : List Fld} {f : Fld} (h : s.onlyFields t fs) (k : f ∈ fs) :
    s.onlyFields (t.inc f) fs := State.onlyFields_wr h k

theorem State.onlyFields_incW {s t : State} {fs : List Fld} {f : Fld} (h : s.onlyFields t fs) (k : f ∈ fs) :
    s.onlyFields (t.incW f) fs := State.onlyFields_wr h k

theorem State.onlyFields_wrS {s t : State} {fs : List Fld} {f : Fld} {v : Int} (h : s.onlyFields t fs) (k : f ∈ fs) :
    s.onlyFields (t.wrS f v) fs := State.onlyFields_wr h k

theorem State.onlyFields_ite {c : Prop} [Decidable c] {s t u : State} {fs : List Fld} (h : s.onlyFields t fs)
    (k : s.onlyFields u fs) : s.onlyFields (if c then t else u) fs := by
  split <;> assumption

/-! ### A Skerry's registers -/

theorem Skerry.keepsBut_refl (k : Skerry) (fs : List Fld) : k.keepsBut k fs := fun _ _ => rfl

theorem Skerry.wr_keepsBut (k : Skerry) (f : Fld) (v : Nat) : k.keepsBut (k.wr f v) [f] := fun g hg =>
  Skerry.rd_wr_apart k f g v (hg f (by simp))

theorem Skerry.onlyFields_refl (k : Skerry) (fs : List Fld) : k.onlyFields k fs := ⟨rfl, k.keepsBut_refl fs⟩

theorem Skerry.onlyFields_wr {k l : Skerry} {fs : List Fld} {f : Fld} {v : Nat} (h : k.onlyFields l fs) (m : f ∈ fs) :
    k.onlyFields (l.wr f v) fs := by
  refine ⟨?_, fun g hg => (Skerry.rd_wr_apart l f g v (hg f m)).trans (h.2 g hg)⟩
  have h1 := h.1
  rw [h1]
  rfl

theorem Skerry.onlyFields_cnt {k l : Skerry} {fs : List Fld} {f : Fld} {n : Nat} (h : k.onlyFields l fs) (m : f ∈ fs) :
    k.onlyFields (l.cnt f n) fs := Skerry.onlyFields_wr h m

theorem Skerry.onlyFields_inc {k l : Skerry} {fs : List Fld} {f : Fld} (h : k.onlyFields l fs) (m : f ∈ fs) :
    k.onlyFields (l.inc f) fs := Skerry.onlyFields_wr h m

theorem Skerry.onlyFields_wrS {k l : Skerry} {fs : List Fld} {f : Fld} {v : Int} (h : k.onlyFields l fs) (m : f ∈ fs) :
    k.onlyFields (l.wrS f v) fs := Skerry.onlyFields_wr h m

theorem Skerry.onlyFields_ite {c : Prop} [Decidable c] {k l m : Skerry} {fs : List Fld} (h : k.onlyFields l fs)
    (j : k.onlyFields m fs) : k.onlyFields (if c then l else m) fs := by
  split <;> assumption

/-! ### Cells -/

theorem State.setCell_onlyCell (s : State) (g : Nat) (k : Skerry) : s.onlyCell (s.setCell g k) g :=
  ⟨rfl, fun _ h => State.cell_setCell_ne s k (Ne.symm h)⟩

theorem State.onCell_onlyCell (s : State) (g : Nat) (f : Skerry → Skerry) : s.onlyCell (s.onCell g f) g := s.setCell_onlyCell g _

@[simp] theorem State.cell_onCell (s : State) (g : Nat) (f : Skerry → Skerry) : (s.onCell g f).cell g = f (s.cell g) := by
  simp [State.onCell]

/-- A command to a cell acts on it while it is in RUN. -/
theorem State.runCell_of_run {s : State} {g : Nat} (h : (s.cell g).inRun = true) (f : Skerry → Skerry) :
    s.runCell g f = s.setCell g (f (s.cell g)) := by
  simp [State.runCell, State.onCell, h]

end Sys2Proof.Machine
end

