-- ==== Sys2Proof/Laws/Keeps.lean ====
section
/-! SUPPORT. What every command keeps, as a relation between the state before and the state after: the queue stays, and the
canonical forms stay. It is reflexive and transitive, so that one lemma per operation gives the rule for whatever is composed of
operations. -/

namespace Sys2Proof.Machine
open Sys2Proof

/-- The queue is the same, and canonical forms are kept. -/
structure State.Keeps (s t : State) : Prop where
  pending : t.pending = s.pending
  wf : s.wf = true → t.wf = true

/-- Canonical forms are kept. -/
structure Skerry.Keeps (k l : Skerry) : Prop where
  wf : k.wf = true → l.wf = true

namespace State.Keeps

theorem refl (s : State) : s.Keeps s := ⟨rfl, id⟩

theorem trans {s t u : State} (h : s.Keeps t) (k : t.Keeps u) : s.Keeps u := ⟨k.pending.trans h.pending, fun w => k.wf (h.wf w)⟩

theorem ite {c : Prop} [Decidable c] {s t u : State} (h : s.Keeps t) (k : s.Keeps u) : s.Keeps (if c then t else u) := by
  split <;> assumption

/-- A cut: `x` is reached first. -/
theorem cut {s x t : State} (h : s.Keeps x) (k : s.Keeps x → s.Keeps t) : s.Keeps t := k h

/-- An update of any other part of the state. -/
theorem of_eq {s t : State} (hp : t.pending = s.pending) (hr : t.regs = s.regs) (hm : t.mem = s.mem) (hc : t.cells = s.cells) :
    s.Keeps t := ⟨hp, fun h => by simpa [State.wf, hr, hm, hc] using h⟩

/-- An update of any other part of the state, as a record. -/
theorem of_mk {x : State} {clk_ flt_ sched_ engRegs_ chart_ flash_ lanes_ conv_ reef_ cws_ red_ loop_ prof_ recd_ tim_
      safe_ mst_ dma_ pwr_ net_ mon_ out_ opens_} :
    x.Keeps (State.mk x.regs x.mem clk_ flt_ sched_ engRegs_ chart_
      flash_ lanes_ conv_ reef_ cws_ red_ loop_ prof_ recd_ tim_ safe_ mst_ dma_ pwr_ net_ mon_ x.cells out_ opens_
      x.pending) := ⟨rfl, id⟩

/-- An update of registers or memory and any other part of the state, as a record. -/
theorem of_parts {x : State} {r : List (Nat × Word)} {m : List Host.Cell} {clk_ flt_ sched_ engRegs_ chart_ flash_ lanes_
      conv_ reef_ cws_ red_ loop_ prof_ recd_ tim_ safe_ mst_ dma_ pwr_ net_ mon_ out_ opens_} (hr : Regs.wf balReset
      x.regs = true → Regs.wf balReset r = true) (hm : Memory.wf x.mem = true → Memory.wf m = true) : x.Keeps (State.mk r
      m clk_ flt_ sched_ engRegs_ chart_ flash_ lanes_ conv_ reef_ cws_ red_ loop_ prof_ recd_ tim_ safe_ mst_ dma_ pwr_
      net_ mon_ x.cells out_ opens_ x.pending) :=
  ⟨rfl, fun w => by
    simp only [State.wf, Bool.and_eq_true] at w ⊢
    exact ⟨⟨⟨hr w.1.1.1, hm w.1.1.2⟩, w.1.2⟩, w.2⟩⟩

theorem foldl {α : Type} {f : State → α → State} (hf : ∀ (s : State) x, s.Keeps (f s x)) (l : List α) :
    ∀ s : State, s.Keeps (l.foldl f s) := by
  induction l with
  | nil => exact refl
  | cons x t ih => exact fun s => (hf s x).trans (ih _)

/-- A fold that carries more than the state. -/
theorem foldl_of {α β : Type} {p : β → State} {f : β → α → β} (hf : ∀ b x, (p b).Keeps (p (f b x))) (l : List α) :
    ∀ b : β, (p b).Keeps (p (l.foldl f b)) := by
  induction l with
  | nil => exact fun _ => refl _
  | cons x t ih => exact fun b => (hf b x).trans (ih _)

theorem regs {s : State} {r : List (Nat × Word)} (h : Regs.wf balReset s.regs = true → Regs.wf balReset r = true) :
    s.Keeps { s with regs := r } :=
  ⟨rfl, fun w => by simp only [State.wf, Bool.and_eq_true] at w ⊢; exact ⟨⟨⟨h w.1.1.1, w.1.1.2⟩, w.1.2⟩, w.2⟩⟩

theorem mem {s : State} {m : List Host.Cell} (h : Memory.wf s.mem = true → Memory.wf m = true) : s.Keeps { s with mem := m } :=
  ⟨rfl, fun w => by simp only [State.wf, Bool.and_eq_true] at w ⊢; exact ⟨⟨⟨w.1.1.1, h w.1.1.2⟩, w.1.2⟩, w.2⟩⟩

/-! Operations that answer a pair. -/

theorem of_ite_fst {β : Type} {c : Prop} [Decidable c] {s t : State} {v : β} {a b : State × β} (ha : s.Keeps a.1) (hb : s.Keeps b.1)
    (h : (if c then a else b) = (t, v)) : s.Keeps t := by
  split at h
  · simpa [h] using ha
  · simpa [h] using hb

theorem of_ite_snd {β : Type} {c : Prop} [Decidable c] {s t : State} {v : β} {a b : β × State} (ha : s.Keeps a.2) (hb : s.Keeps b.2)
    (h : (if c then a else b) = (v, t)) : s.Keeps t := by
  split at h
  · simpa [h] using ha
  · simpa [h] using hb

theorem of_foldl_fst {α β : Type} {f : State × β → α → State × β} (hf : ∀ (b : State × β) x, b.1.Keeps (f b x).1) {l : List α} {b : State × β}
    {t : State} {v : β} (h : l.foldl f b = (t, v)) : b.1.Keeps t := by
  simpa [h] using foldl_of (p := Prod.fst) hf l b

theorem of_foldl_snd {α β : Type} {f : β × State → α → β × State} (hf : ∀ (b : β × State) x, b.2.Keeps (f b x).2) {l : List α} {b : β × State}
    {t : State} {v : β} (h : l.foldl f b = (v, t)) : b.2.Keeps t := by
  simpa [h] using foldl_of (p := Prod.snd) hf l b

end State.Keeps

namespace Skerry.Keeps

theorem refl (s : Skerry) : s.Keeps s := ⟨id⟩

theorem trans {s t u : Skerry} (h : s.Keeps t) (k : t.Keeps u) : s.Keeps u := ⟨fun w => k.wf (h.wf w)⟩

theorem ite {c : Prop} [Decidable c] {s t u : Skerry} (h : s.Keeps t) (k : s.Keeps u) : s.Keeps (if c then t else u) := by
  split <;> assumption

theorem cut {s x t : Skerry} (h : s.Keeps x) (k : s.Keeps x → s.Keeps t) : s.Keeps t := k h

theorem of_eq {k l : Skerry} (hr : l.regs = k.regs) (hm : l.mem = k.mem) : k.Keeps l := ⟨fun h => by simpa [Skerry.wf, hr, hm] using h⟩

/-- An update of any other part of a Skerry, as a record. -/
theorem of_mk {x : Skerry} {clk_ pow_ gate_ cmd_ fr_ conv_ trigs_ ports_ pass_ monBad_} :
    x.Keeps (Skerry.mk x.regs
      x.mem clk_ pow_ gate_ cmd_ fr_ conv_ trigs_ ports_ pass_ monBad_) := ⟨id⟩

/-- An update of registers or memory and any other part of a Skerry, as a record. -/
theorem of_parts {x : Skerry} {r : List (Nat × Word)} {m : List Host.Cell} {clk_ pow_ gate_ cmd_ fr_ conv_ trigs_ ports_
      pass_ monBad_} (hr : Regs.wf skReset x.regs = true → Regs.wf skReset r = true) (hm : Memory.wf x.mem = true →
      Memory.wf m = true) : x.Keeps (Skerry.mk r m clk_ pow_ gate_ cmd_ fr_ conv_ trigs_ ports_ pass_ monBad_) :=
  ⟨fun
      w => by simp only [Skerry.wf, Bool.and_eq_true] at w ⊢; exact ⟨hr w.1, hm w.2⟩⟩

theorem foldl {α : Type} {f : Skerry → α → Skerry} (hf : ∀ (s : Skerry) x, s.Keeps (f s x)) (l : List α) :
    ∀ s : Skerry, s.Keeps (l.foldl f s) := by
  induction l with
  | nil => exact refl
  | cons x t ih => exact fun s => (hf s x).trans (ih _)

theorem foldl_of {α β : Type} {p : β → Skerry} {f : β → α → β} (hf : ∀ b x, (p b).Keeps (p (f b x))) (l : List α) :
    ∀ b : β, (p b).Keeps (p (l.foldl f b)) := by
  induction l with
  | nil => exact fun _ => refl _
  | cons x t ih => exact fun b => (hf b x).trans (ih _)

/-! Operations that answer a pair. -/

theorem of_ite_fst {β : Type} {c : Prop} [Decidable c] {s t : Skerry} {v : β} {a b : Skerry × β} (ha : s.Keeps a.1) (hb : s.Keeps b.1)
    (h : (if c then a else b) = (t, v)) : s.Keeps t := by
  split at h
  · simpa [h] using ha
  · simpa [h] using hb

theorem of_ite_snd {β : Type} {c : Prop} [Decidable c] {s t : Skerry} {v : β} {a b : β × Skerry} (ha : s.Keeps a.2) (hb : s.Keeps b.2)
    (h : (if c then a else b) = (v, t)) : s.Keeps t := by
  split at h
  · simpa [h] using ha
  · simpa [h] using hb

end Skerry.Keeps

/-! ### Cells -/

theorem Keys.rise_of_twfFrom {α : Type} [DecidableEq α] (d : Nat → α) :
    ∀ (m : List (Nat × α)) (b : Option Nat), twfFrom d b m = true → Keys.rise m = true
  | [], _, _ => rfl
  | [e], _, _ => rfl
  | e :: f :: t, b, h => by
    simp only [twfFrom, Bool.and_eq_true] at h
    rw [Keys.rise, Bool.and_eq_true]
    have ih := Keys.rise_of_twfFrom d (f :: t) (some e.1) (by simp only [twfFrom, Bool.and_eq_true]; exact h.2)
    refine ⟨?_, ih⟩
    have hef : e.1 < f.1 := by simpa using h.2.1.1
    simp only [Keys.rise, Bool.and_eq_true, List.all_eq_true, decide_eq_true_eq] at ih
    simp only [List.all_eq_true, decide_eq_true_eq, List.mem_cons]
    rintro x (rfl | hx)
    · exact hef
    · exact Nat.lt_trans hef (ih.1 x hx)

theorem mem_tdel_of {α : Type} {k : Nat} {m : List (Nat × α)} {e : Nat × α} (h : e ∈ tdel k m) : e ∈ m := by
  rw [tdel_eq_filter] at h; exact (List.mem_filter.mp h).1

theorem mem_tins {α : Type} {k : Nat} {v : α} : ∀ {m : List (Nat × α)} {e : Nat × α}, e ∈ tins k v m → e = (k, v) ∨ e ∈ m
  | [], e, h => by simp [tins] at h; exact .inl h
  | (j, w) :: t, e, h => by
    by_cases hlt : k < j
    · simp only [tins, hlt, if_true, List.mem_cons] at h
      rcases h with h | h | h
      · exact .inl h
      · exact .inr (by simp [h])
      · exact .inr (by simp [h])
    · simp only [tins, hlt, if_false, List.mem_cons] at h
      rcases h with h | h
      · exact .inr (by simp [h])
      · rcases mem_tins h with h | h
        · exact .inl h
        · exact .inr (by simp [h])

theorem Keys.rise_tdel {α : Type} (k : Nat) : ∀ m : List (Nat × α), Keys.rise m = true → Keys.rise (tdel k m) = true
  | [], _ => rfl
  | e :: t, h => by
    simp only [Keys.rise, Bool.and_eq_true, List.all_eq_true, decide_eq_true_eq] at h
    have ih := Keys.rise_tdel k t h.2
    by_cases hk : e.1 = k
    · simpa [tdel, hk] using ih
    · simp only [tdel, hk, if_false, Keys.rise, Bool.and_eq_true, List.all_eq_true, decide_eq_true_eq]
      exact ⟨fun f hf => h.1 f (mem_tdel_of hf), ih⟩

theorem Keys.rise_tins {α : Type} (k : Nat) (v : α) : ∀ m : List (Nat × α), (∀ e ∈ m, e.1 ≠ k) → Keys.rise m = true →
    Keys.rise (tins k v m) = true
  | [], _, _ => rfl
  | (j, w) :: t, hne, h => by
    have hr := h
    simp only [Keys.rise, Bool.and_eq_true, List.all_eq_true, decide_eq_true_eq] at h
    by_cases hlt : k < j
    · simp only [tins, hlt, if_true]
      rw [Keys.rise, Bool.and_eq_true]
      refine ⟨?_, hr⟩
      simp only [List.all_eq_true, decide_eq_true_eq, List.mem_cons]
      rintro x (rfl | hx)
      · exact hlt
      · exact Nat.lt_trans hlt (h.1 x hx)
    · have hjk : j ≠ k := hne (j, w) (by simp)
      simp only [tins, hlt, if_false, Keys.rise, Bool.and_eq_true, List.all_eq_true, decide_eq_true_eq]
      refine ⟨?_, Keys.rise_tins k v t (fun e he => hne e (by simp [he])) h.2⟩
      intro f hf
      rcases mem_tins hf with rfl | hf
      · show j < k
        omega
      · exact h.1 f hf

theorem Keys.rise_tset {α : Type} [DecidableEq α] (d : Nat → α) (m : List (Nat × α)) (k : Nat) (v : α)
    (h : Keys.rise m = true) : Keys.rise (tset d m k v) = true := by
  unfold tset
  split
  · exact Keys.rise_tdel k m h
  · exact Keys.rise_tins k v _ (not_mem_tdel k m) (Keys.rise_tdel k m h)

theorem all_tset {α : Type} [DecidableEq α] (d : Nat → α) (m : List (Nat × α)) (k : Nat) (v : α) (p : α → Bool)
    (hm : m.all (fun e => p e.2) = true) (hv : p v = true) : (tset d m k v).all (fun e => p e.2) = true := by
  simp only [List.all_eq_true] at hm ⊢
  unfold tset
  split
  · exact fun e he => hm e (mem_tdel_of he)
  · intro e he
    rcases mem_tins he with rfl | he
    · exact hv
    · exact hm e (mem_tdel_of he)

theorem Skerry.dark_wf : Skerry.dark.wf = true := by decide

theorem wf_of_mem_tget {α : Type} (d : Nat → α) (p : α → Bool) (hd : ∀ k, p (d k) = true) :
    ∀ (m : List (Nat × α)) (k : Nat), m.all (fun e => p e.2) = true → p (tget d m k) = true
  | [], k, _ => hd k
  | e :: t, k, h => by
    simp only [List.all_cons, Bool.and_eq_true] at h
    by_cases hk : e.1 = k
    · simpa [tget, hk] using h.1
    · simpa [tget, hk] using wf_of_mem_tget d p hd t k h.2

/-- Every Skerry of a canonical state is canonical. -/
theorem State.cell_wf {s : State} (h : s.wf = true) (g : Nat) : (s.cell g).wf = true := by
  simp only [State.wf, Bool.and_eq_true] at h
  exact wf_of_mem_tget _ _ (fun _ => Skerry.dark_wf) _ _ h.2

theorem State.setCell_keeps (s : State) (g : Nat) (k : Skerry) (h : s.wf = true → k.wf = true) : s.Keeps (s.setCell g k) :=
  ⟨rfl, fun w => by
    have hk := h w
    simp only [State.wf, Bool.and_eq_true, State.setCell] at w ⊢
    exact ⟨⟨⟨w.1.1.1, w.1.1.2⟩, Keys.rise_tset _ _ _ _ w.1.2⟩, all_tset _ _ _ _ Skerry.wf w.2 hk⟩⟩

theorem State.putCell_keeps (s : State) (g : Nat) (k : Skerry) (h : (s.cell g).Keeps k) : s.Keeps (s.setCell g k) :=
  s.setCell_keeps g k (fun w => h.wf (State.cell_wf w g))

theorem State.onCell_keeps (s : State) (g : Nat) (f : Skerry → Skerry) (hf : (s.cell g).Keeps (f (s.cell g))) : s.Keeps (s.onCell g f) :=
  s.putCell_keeps g _ hf

/-! ### Outcomes -/

/-- An outcome goes on, in a state that keeps the queue and the canonical forms. -/
def State.Answers (s : State) (o : Host.Outcome State Fault Refusal) : Prop := ∃ t, o = .next t ∧ s.Keeps t

theorem State.Answers.next {s t : State} (h : s.Keeps t) : s.Answers (.next t) := ⟨t, rfl, h⟩

theorem State.Answers.ite {c : Prop} [Decidable c] {s : State} {o p : Host.Outcome State Fault Refusal} (h : s.Answers o)
    (k : s.Answers p) : s.Answers (if c then o else p) := by
  split <;> assumption

theorem State.Answers.cut {s x : State} {o : Host.Outcome State Fault Refusal} (h : s.Keeps x) (k : s.Keeps x → s.Answers o) :
    s.Answers o := k h

theorem State.Answers.after {s x : State} {o : Host.Outcome State Fault Refusal} (h : s.Keeps x) (k : x.Answers o) :
    s.Answers o := let ⟨t, e, ht⟩ := k; ⟨t, e, h.trans ht⟩

theorem State.run_keeps (s : State) (f : State → Host.Outcome State Fault Refusal) (h : s.Answers (f s)) : s.Keeps (s.run f) := by
  obtain ⟨t, e, k⟩ := h
  simpa [State.run, e] using k

/-! ### The basic operations -/

theorem State.wrW_keeps (s : State) (a : Nat) (v : Word) : s.Keeps (s.wrW a v) :=
  .regs (fun h => twf_tset _ _ _ _ h)

theorem State.setByte_keeps (s : State) (a : Nat) (b : Byte) : s.Keeps (s.setByte a b) :=
  .mem (fun h => twf_tset _ _ _ _ h)

theorem Skerry.wrW_keeps (k : Skerry) (a : Nat) (v : Word) : k.Keeps (k.wrW a v) := by
  refine ⟨fun h => ?_⟩
  simp only [Skerry.wf, Bool.and_eq_true, Skerry.wrW] at h ⊢
  exact ⟨twf_tset _ _ _ _ h.1, h.2⟩

theorem Skerry.setByte_keeps (k : Skerry) (a : Nat) (b : Byte) : k.Keeps (k.setByte a b) := by
  refine ⟨fun h => ?_⟩
  simp only [Skerry.wf, Bool.and_eq_true, Skerry.setByte] at h ⊢
  exact ⟨h.1, twf_tset _ _ _ _ h.2⟩

end Sys2Proof.Machine
end

