-- ==== Sys2Proof/Laws/KeepsA.lean ====
section
/-! SUPPORT. Every operation and every command of Machine/Ops.lean, ProfOps.lean, RunOps.lean, MemOps.lean, DmaOps.lean, HostOps.lean, Skerry.lean, SkGate.lean, SkPower.lean keeps the queue and the canonical forms: one lemma each. -/

namespace Sys2Proof.Machine
open Sys2Proof

theorem State.raise_keeps (s : State) (id : Nat) (info : Nat) : s.Keeps (State.raise s id info) := by
  delta State.raise; lift_lets -underBinder; intro x; clear_value x; refine .ite ?_ ?_; exact .refl _
  refine .trans ?_ (.of_mk ..); exact .refl _

theorem State.wr_keeps (s : State) (f : Fld) (v : Nat) : s.Keeps (State.wr s f v) := by
  delta State.wr; refine .trans ?_ (State.wrW_keeps ..); exact .refl _

theorem State.cnt_keeps (s : State) (f : Fld) (n : Nat) : s.Keeps (State.cnt s f n) := by
  delta State.cnt; refine .trans ?_ (State.wr_keeps ..); exact .refl _

theorem State.inc_keeps (s : State) (f : Fld) : s.Keeps (State.inc s f) := by
  delta State.inc; refine .trans ?_ (State.cnt_keeps ..); exact .refl _

theorem State.incW_keeps (s : State) (f : Fld) : s.Keeps (State.incW s f) := by
  delta State.incW; refine .trans ?_ (State.wr_keeps ..); exact .refl _

theorem State.qUpdate_keeps (s : State) : s.Keeps (State.qUpdate s) := by
  delta State.qUpdate; refine .trans ?_ (.foldl (fun s x => ?_) _ _); rotate_left; (try lift_lets -underBinder)
  intro x; clear_value x; intro x; refine .cut (x := x) ?_ ?_; subst x; rotate_left; intro hx; clear_value x
  refine .ite ?_ ?_; refine .trans ?_ (State.wr_keeps ..); assumption; assumption; exact .refl _
  refine .trans ?_ (State.wr_keeps ..); exact .refl _

theorem State.tally_keeps (s : State) (t : Nat) (st : Nat) (up : Bool) : s.Keeps (State.tally s t st up) := by
  delta State.tally; lift_lets -underBinder; intro x; subst x; (try beta_reduce); (try lift_lets -underBinder)
  intro x; refine .cut (x := x) ?_ ?_; subst x; rotate_left; intro hx; clear_value x; refine .ite ?_ ?_
  refine .trans ?_ (State.wr_keeps ..); exact .refl _; refine .ite ?_ ?_; refine .ite ?_ ?_
  refine .trans ?_ (State.wr_keeps ..); assumption; assumption; refine .ite ?_ ?_; refine .trans ?_ (State.wr_keeps ..)
  exact .refl _; exact .refl _; refine .trans ?_ (State.wr_keeps ..); exact .refl _

theorem State.taskTo_keeps (s : State) (t : Nat) (st : Nat) : s.Keeps (State.taskTo s t st) := by
  delta State.taskTo; refine .trans ?_ (State.tally_keeps ..); refine .trans ?_ (State.wr_keeps ..)
  refine .trans ?_ (State.tally_keeps ..); exact .refl _

theorem State.passFlow_keeps (s : State) (f : Nat) : s.Keeps (State.passFlow s f) := by
  delta State.passFlow; refine .ite ?_ ?_; split; lift_lets -underBinder
  intro x; refine .cut (x := x) ?_ ?_; subst x; rotate_left; intro hx; clear_value x
  refine .trans ?_ (State.wr_keeps ..); assumption; exact .refl _; exact .refl _
  refine .trans ?_ (State.taskTo_keeps ..); exact .refl _

theorem State.leaveReady_keeps (s : State) (t : Nat) (st : Nat) : s.Keeps (State.leaveReady s t st) := by
  delta State.leaveReady; lift_lets -underBinder; intro x; clear_value x
  intro x; refine .cut (x := x) ?_ ?_; subst x; rotate_left; intro hx; clear_value x; refine .ite ?_ ?_
  refine .trans ?_ (State.passFlow_keeps ..); assumption; assumption; refine .trans ?_ (State.taskTo_keeps ..)
  exact .refl _

theorem State.trace_keeps (s : State) (kind : Nat) (eng : Nat) (t : Nat) (flags : Nat) (waited : Nat) : s.Keeps
    (State.trace s kind eng t flags waited) := by
  delta State.trace; lift_lets -underBinder; intro x; clear_value x; refine .ite ?_ ?_; refine .ite ?_ ?_
  refine .trans ?_ (.of_mk ..); exact .refl _; refine .trans ?_ (State.inc_keeps ..); exact .refl _; exact .refl _

theorem State.becomeReady_keeps (s : State) (t : Nat) (stamp : Nat) : s.Keeps (State.becomeReady s t stamp) := by
  delta State.becomeReady; lift_lets -underBinder; intro x; clear_value x
  intro x; refine .cut (x := x) ?_ ?_; subst x; rotate_left; intro hx; clear_value x; refine .ite ?_ ?_
  refine .trans ?_ (State.trace_keeps ..); refine .trans ?_ (State.taskTo_keeps ..); assumption
  refine .trans ?_ (State.wr_keeps ..); refine .trans ?_ (State.taskTo_keeps ..); assumption
  refine .trans ?_ (.of_mk ..); exact .refl _

theorem State.judgeTask_keeps (s : State) (t : Nat) : s.Keeps (State.judgeTask s t) := by
  delta State.judgeTask; lift_lets -underBinder; intro x; clear_value x; intro x; clear_value x; refine .ite ?_ ?_
  exact .refl _; refine .ite ?_ ?_; refine .trans ?_ (State.qUpdate_keeps ..); refine .ite ?_ ?_; exact .refl _
  refine .trans ?_ (State.leaveReady_keeps ..); exact .refl _; refine .ite ?_ ?_
  refine .trans ?_ (State.qUpdate_keeps ..); refine .ite ?_ ?_; exact .refl _
  refine .trans ?_ (State.becomeReady_keeps ..); exact .refl _; refine .trans ?_ (State.qUpdate_keeps ..)
  refine .ite ?_ ?_; exact .refl _; refine .trans ?_ (State.leaveReady_keeps ..); exact .refl _

theorem State.setFlags_keeps (s : State) (t : Nat) (mask : Nat) : s.Keeps (State.setFlags s t mask) := by
  delta State.setFlags; lift_lets -underBinder; intro x; clear_value x; intro x; clear_value x
  intro x; refine .cut (x := x) ?_ ?_; subst x; rotate_left; intro hx; clear_value x
  refine .trans ?_ (State.judgeTask_keeps ..); refine .trans ?_ (State.wr_keeps ..); assumption; refine .ite ?_ ?_
  refine .trans ?_ (State.cnt_keeps ..); refine .trans ?_ (State.wr_keeps ..); exact .refl _; exact .refl _

theorem State.fireRoute_keeps (s : State) (src : Nat) : s.Keeps (State.fireRoute s src) := by
  delta State.fireRoute; refine .ite ?_ ?_; exact .refl _
  refine .trans ?_ (.foldl (fun s x => ?_) _ _); rotate_left; (try lift_lets -underBinder)
  refine .trans ?_ (State.setFlags_keeps ..); exact .refl _; exact .refl _

theorem State.range_keeps (s : State) (p : Port) (a : Nat) : s.Keeps (State.range s p a) := by
  delta State.range; refine .trans ?_ (State.raise_keeps ..); exact .refl _

theorem State.emit_keeps (s : State) (o : Out) : s.Keeps (State.emit s o) := by
  delta State.emit; refine .trans ?_ (.of_mk ..); exact .refl _

theorem State.setBytes_keeps (s : State) (a : Nat) (x2 : List Byte) : s.Keeps (State.setBytes s a x2) := by
  induction x2 generalizing s a with
  | nil => exact .refl _
  | cons b t ih => exact (State.setByte_keeps s a b).trans (ih _ _)

theorem State.wrS_keeps (s : State) (f : Fld) (v : Int) : s.Keeps (State.wrS s f v) := by
  delta State.wrS; refine .trans ?_ (State.wr_keeps ..); exact .refl _

theorem State.free_keeps (s : State) (w : Nat) : s.Keeps (State.free s w).2 := by
  delta State.free; dsimp only; refine .trans ?_ (.of_mk ..); exact .refl _

theorem State.free_out {r_} {t_ : State} {s : State} {w : Nat} (h_ : State.free s w = (r_, t_)) : s.Keeps t_ := by
  have := State.free_keeps s w; rwa [h_] at this

theorem State.lockWrite_keeps (s : State) (p : Port) (a : Nat) : s.Keeps (State.lockWrite s p a) := by
  delta State.lockWrite; refine .trans ?_ (State.raise_keeps ..); exact .refl _

theorem State.putBitAt_keeps (s : State) (base : Nat) (j : Nat) (v : Bool) : s.Keeps (State.putBitAt s base j v) := by
  delta State.putBitAt; lift_lets -underBinder; intro x; clear_value x; refine .trans ?_ (State.wrW_keeps ..)
  exact .refl _

theorem State.rangeBlk_keeps (s : State) (b : Nat) : s.Keeps (State.rangeBlk s b) := by
  delta State.rangeBlk; refine .trans ?_ (State.raise_keeps ..); exact .refl _

theorem State.releaseFlow_keeps (s : State) (f : Nat) : s.Keeps (State.releaseFlow s f) := by
  delta State.releaseFlow; refine .ite ?_ ?_; refine .trans ?_ (State.passFlow_keeps ..)
  refine .trans ?_ (State.wr_keeps ..); exact .refl _; exact .refl _

theorem State.setProf_keeps (s : State) (q : Prof) : s.Keeps (State.setProf s q) := by
  delta State.setProf; refine .trans ?_ (.of_mk ..); exact .refl _

theorem State.statsClear_keeps (s : State) : s.Keeps (State.statsClear s) := by
  delta State.statsClear; lift_lets -underBinder; intro x; intro x; clear_value x
  refine .trans ?_ (.of_parts (by first | exact id | exact twf_filter _ _ _ | exact fun _ => rfl) (by first | exact id | exact twf_filter _ _ _ | exact fun _ => rfl))
  exact .refl _

theorem State.statsFreeze_keeps (s : State) : s.Keeps (State.statsFreeze s) := by
  delta State.statsFreeze; lift_lets -underBinder
  intro x; refine .cut (x := x) ?_ ?_; subst x; rotate_left; intro hx; clear_value x
  refine .trans ?_ (.foldl (fun s x => ?_) _ _); rotate_left; (try lift_lets -underBinder)
  refine .trans ?_ (State.wr_keeps ..); exact .refl _; refine .trans ?_ (State.wr_keeps ..); exact .refl _; assumption

theorem State.observe_keeps (s : State) : s.Keeps (State.observe s) := by
  delta State.observe; lift_lets -underBinder; intro x; clear_value x; intro x; clear_value x; intro x; clear_value x
  intro x; clear_value x; intro x; refine .cut (x := x) ?_ ?_; subst x; rotate_left; intro hx; clear_value x
  refine .ite ?_ ?_; refine .trans ?_ (State.statsClear_keeps ..); assumption; refine .ite ?_ ?_
  refine .trans ?_ (State.statsFreeze_keeps ..); assumption; assumption; refine .trans ?_ (State.wr_keeps ..)
  refine .trans ?_ (State.wr_keeps ..); exact .refl _

theorem State.profIdle_keeps (s : State) : s.Keeps (State.profIdle s) := by
  delta State.profIdle; lift_lets -underBinder
  intro x; refine .cut (x := x) ?_ ?_; subst x; rotate_left; intro hx; clear_value x; refine .ite ?_ ?_; exact .refl _
  refine .trans ?_ (State.setProf_keeps ..); refine .trans ?_ (State.wr_keeps ..); refine .trans ?_ (State.wr_keeps ..)
  assumption; refine .trans ?_ (State.wr_keeps ..); refine .trans ?_ (State.wr_keeps ..); exact .refl _

theorem State.commitOff_keeps (s : State) : s.Keeps (State.commitOff s) := by
  delta State.commitOff; refine .ite ?_ ?_; refine .trans ?_ (State.observe_keeps ..)
  refine .trans ?_ (State.profIdle_keeps ..); refine .trans ?_ (State.wr_keeps ..); exact .refl _; exact .refl _

theorem State.needRoute_keeps (s : State) (lane : Nat) (k : FlashKind) (d1 : Nat) (d2 : Nat) (route : Nat) : s.Keeps
    (State.needRoute s lane k d1 d2 route) := by
  delta State.needRoute; lift_lets -underBinder; intro x; clear_value x; refine .trans ?_ (.of_mk ..); exact .refl _

theorem State.needFlash_keeps (s : State) (lane : Nat) (k : FlashKind) (d1 : Nat) (d2 : Nat) : s.Keeps (State.needFlash s
    lane k d1 d2) := by
  delta State.needFlash; refine .trans ?_ (State.needRoute_keeps ..); exact .refl _

theorem State.needEnd_keeps (s : State) (c : Nat) (tail : Bool) (k : FlashKind) (d1 : Nat) (d2 : Nat) (route : Nat) :
    s.Keeps (State.needEnd s c tail k d1 d2 route) := by
  delta State.needEnd; split; refine .trans ?_ (State.needFlash_keeps ..); exact .refl _
  refine .trans ?_ (State.needRoute_keeps ..); exact .refl _

theorem State.needSingle_keeps (s : State) (g : Nat) (k : FlashKind) (d1 : Nat) : s.Keeps (State.needSingle s g k d1) :=
    by
  delta State.needSingle; split; refine .trans ?_ (State.inc_keeps ..); exact .refl _
  refine .trans ?_ (.foldl (fun s x => ?_) _ _); rotate_left; (try lift_lets -underBinder)
  refine .trans ?_ (State.needEnd_keeps ..); exact .refl _; exact .refl _

theorem State.clearD_keeps (s : State) : s.Keeps (State.clearD s) := by
  delta State.clearD; refine .trans ?_ (.foldl (fun s x => ?_) _ _); rotate_left; (try lift_lets -underBinder)
  refine .trans ?_ (State.wr_keeps ..); exact .refl _; exact .refl _

theorem State.blockAll_keeps (s : State) (reason : Nat) : s.Keeps (State.blockAll s reason) := by
  delta State.blockAll; lift_lets -underBinder
  intro x; refine .cut (x := x) ?_ ?_; subst x; rotate_left; intro hx; clear_value x; refine .ite ?_ ?_
  refine .trans ?_ (State.commitOff_keeps ..); refine .trans ?_ (State.wr_keeps ..)
  refine .trans ?_ (State.clearD_keeps ..); refine .trans ?_ (.of_mk ..); refine .ite ?_ ?_
  refine .trans ?_ (State.needRoute_keeps ..); assumption; assumption; refine .trans ?_ (State.clearD_keeps ..)
  refine .trans ?_ (.of_mk ..); refine .ite ?_ ?_; refine .trans ?_ (State.needRoute_keeps ..); assumption; assumption
  refine .trans ?_ (.foldl (fun s x => ?_) _ _); rotate_left; (try lift_lets -underBinder)
  refine .trans ?_ (.foldl (fun s x => ?_) _ _); rotate_left; (try lift_lets -underBinder)
  refine .trans ?_ (State.needFlash_keeps ..); exact .refl _; exact .refl _; exact .refl _

theorem State.irqUpdate_keeps (s : State) : s.Keeps (State.irqUpdate s) := by
  delta State.irqUpdate; lift_lets -underBinder; intro x; clear_value x; intro x; clear_value x
  intro x; refine .cut (x := x) ?_ ?_; subst x; rotate_left; intro hx; clear_value x; refine .ite ?_ ?_
  refine .trans ?_ (State.emit_keeps ..); assumption; assumption; refine .trans ?_ (.of_mk ..); exact .refl _

theorem State.monDrop_keeps (s : State) : s.Keeps (State.monDrop s) := by
  delta State.monDrop; lift_lets -underBinder
  intro x; refine .cut (x := x) ?_ ?_; subst x; rotate_left; intro hx; clear_value x; refine .ite ?_ ?_; exact .refl _
  refine .trans ?_ (.of_mk ..); refine .ite ?_ ?_; refine .trans ?_ (State.emit_keeps ..); assumption; assumption
  refine .trans ?_ (State.wr_keeps ..); refine .trans ?_ (State.emit_keeps ..); exact .refl _

theorem State.evidence_keeps (s : State) (c : Nat) : s.Keeps (State.evidence s c) := by
  delta State.evidence; lift_lets -underBinder; intro x; clear_value x; intro x; clear_value x
  refine .trans ?_ (.of_mk ..); exact .refl _

theorem State.eyeAbort_keeps (s : State) (n : Nat) : s.Keeps (State.eyeAbort s n) := by
  delta State.eyeAbort; refine .ite ?_ ?_; split; refine .trans ?_ (State.wr_keeps ..)
  refine .trans ?_ (State.wr_keeps ..); refine .trans ?_ (State.wr_keeps ..)
  refine .trans ?_ (State.free_out (by assumption)); exact .refl _; exact .refl _

theorem State.laneTo_keeps (s : State) (n : Nat) (st : Nat) : s.Keeps (State.laneTo s n st) := by
  delta State.laneTo; lift_lets -underBinder; intro x; clear_value x
  intro x; refine .cut (x := x) ?_ ?_; subst x; rotate_left; intro hx; clear_value x; refine .ite ?_ ?_
  refine .trans ?_ (State.eyeAbort_keeps ..); refine .trans ?_ (State.raise_keeps ..)
  refine .trans ?_ (State.inc_keeps ..); refine .trans ?_ (State.putBitAt_keeps ..); refine .ite ?_ ?_
  refine .trans ?_ (State.evidence_keeps ..); refine .trans ?_ (State.wr_keeps ..); assumption
  refine .trans ?_ (State.wr_keeps ..); assumption; refine .ite ?_ ?_; refine .trans ?_ (State.evidence_keeps ..)
  refine .trans ?_ (State.wr_keeps ..); assumption; refine .trans ?_ (State.wr_keeps ..); assumption
  refine .trans ?_ (State.putBitAt_keeps ..); refine .trans ?_ (State.wr_keeps ..); exact .refl _

theorem State.enterFailed_keeps (s : State) (cause : Nat) (idx : Nat) : s.Keeps (State.enterFailed s cause idx) := by
  delta State.enterFailed; lift_lets -underBinder
  intro x; refine .cut (x := x) ?_ ?_; subst x; rotate_left; intro hx; clear_value x
  refine .trans ?_ (State.irqUpdate_keeps ..); refine .trans ?_ (State.raise_keeps ..)
  refine .trans ?_ (.foldl (fun s x => ?_) _ _); rotate_left; (try lift_lets -underBinder)
  refine .trans ?_ (State.laneTo_keeps ..); exact .refl _; refine .trans ?_ (State.wr_keeps ..)
  refine .trans ?_ (State.wr_keeps ..); exact .refl _; refine .trans ?_ (State.monDrop_keeps ..)
  refine .trans ?_ (State.wr_keeps ..); refine .trans ?_ (State.wr_keeps ..); refine .trans ?_ (State.wr_keeps ..)
  refine .trans ?_ (State.wr_keeps ..); refine .trans ?_ (State.wr_keeps ..); refine .trans ?_ (State.wr_keeps ..)
  refine .trans ?_ (State.wr_keeps ..); refine .trans ?_ (State.wr_keeps ..); assumption

theorem State.setMst_keeps (s : State) (m : MemSt) : s.Keeps (State.setMst s m) := by
  delta State.setMst; refine .trans ?_ (.of_mk ..); exact .refl _

theorem State.zeroGroup_keeps (s : State) (g : Nat) : s.Keeps (State.zeroGroup s g) := by
  delta State.zeroGroup; lift_lets -underBinder
  intro x; refine .cut (x := x) ?_ ?_; subst x; rotate_left; intro hx; clear_value x
  refine .trans ?_ (State.setMst_keeps ..); assumption
  refine .trans ?_ (.of_parts (by first | exact id | exact twf_filter _ _ _ | exact fun _ => rfl) (by first | exact id | exact twf_filter _ _ _ | exact fun _ => rfl))
  exact .refl _

theorem State.writeMem_keeps (s : State) (a : Nat) (bs : List Byte) : s.Keeps (State.writeMem s a bs).2 := by
  delta State.writeMem; lift_lets -underBinder; intro x; clear_value x; split; dsimp only; exact .refl _; split
  dsimp only; refine .trans ?_ (State.setBytes_keeps ..); exact .refl _; split; dsimp only; exact .refl _
  lift_lets -underBinder; intro x; refine .cut (x := x) ?_ ?_; subst x; rotate_left; intro hx; clear_value x; dsimp only
  refine .trans ?_ (State.setMst_keeps ..); assumption; refine .trans ?_ (State.setBytes_keeps ..); exact .refl _

theorem State.writeMem_out {r_} {t_ : State} {s : State} {a : Nat} {bs : List Byte} (h_ : State.writeMem s a bs = (r_,
    t_)) : s.Keeps t_ := by
  have := State.writeMem_keeps s a bs; rwa [h_] at this

theorem State.latchUe_keeps (s : State) (p : Port) (a : Nat) (cause : Nat) (erasures : Nat) : s.Keeps (State.latchUe s p a
    cause erasures) := by
  delta State.latchUe; lift_lets -underBinder
  intro x; refine .cut (x := x) ?_ ?_; subst x; rotate_left; intro hx; clear_value x; refine .ite ?_ ?_
  refine .trans ?_ (State.wr_keeps ..); exact .refl _; refine .trans ?_ (State.wr_keeps ..)
  refine .trans ?_ (State.wr_keeps ..); refine .trans ?_ (State.wr_keeps ..); refine .trans ?_ (State.wr_keeps ..)
  assumption; refine .trans ?_ (State.wr_keeps ..); refine .trans ?_ (State.wr_keeps ..)
  refine .trans ?_ (State.wr_keeps ..); exact .refl _

theorem State.readMem_keeps (s : State) (p : Port) (a : Nat) (n : Nat) : s.Keeps (State.readMem s p a n).2 := by
  delta State.readMem; split; dsimp only; exact .refl _; split; dsimp only; refine .trans ?_ (State.latchUe_keeps ..)
  exact .refl _; dsimp only; exact .refl _

theorem State.readMem_out {r_} {t_ : State} {s : State} {p : Port} {a : Nat} {n : Nat} (h_ : State.readMem s p a n = (r_,
    t_)) : s.Keeps t_ := by
  have := State.readMem_keeps s p a n; rwa [h_] at this

theorem State.retireBank_keeps (s : State) (k : Nat) : s.Keeps (State.retireBank s k) := by
  delta State.retireBank; lift_lets -underBinder; intro x; clear_value x
  intro x; refine .cut (x := x) ?_ ?_; subst x; rotate_left; intro hx; clear_value x; refine .ite ?_ ?_; exact .refl _
  refine .ite ?_ ?_; refine .trans ?_ (State.inc_keeps ..); exact .refl _; refine .ite ?_ ?_
  refine .trans ?_ (State.raise_keeps ..); refine .trans ?_ (State.wr_keeps ..); refine .trans ?_ (State.raise_keeps ..)
  refine .trans ?_ (State.wr_keeps ..); refine .trans ?_ (State.putBitAt_keeps ..); assumption
  refine .trans ?_ (State.raise_keeps ..); refine .trans ?_ (State.wr_keeps ..)
  refine .trans ?_ (State.putBitAt_keeps ..); assumption; refine .ite ?_ ?_; refine .trans ?_ (State.wr_keeps ..)
  exact .refl _; exact .refl _

theorem State.clearGroup_keeps (s : State) (g : Nat) : s.Keeps (State.clearGroup s g) := by
  delta State.clearGroup; refine .trans ?_ (State.wr_keeps ..); refine .trans ?_ (State.zeroGroup_keeps ..)
  exact .refl _

theorem State.dmaClear_keeps (s : State) (p : Port) : s.Keeps (State.dmaClear s p) := by
  delta State.dmaClear; refine .ite ?_ ?_; refine .trans ?_ (State.wr_keeps ..); exact .refl _
  refine .trans ?_ (State.range_keeps ..); exact .refl _

theorem State.dmaTo_keeps (s : State) (n : Nat) (st : Nat) : s.Keeps (State.dmaTo s n st) := by
  delta State.dmaTo; refine .trans ?_ (State.wr_keeps ..); exact .refl _

theorem State.dmaAbort_keeps (s : State) (n : Nat) : s.Keeps (State.dmaAbort s n) := by
  delta State.dmaAbort; refine .ite ?_ ?_; refine .trans ?_ (State.dmaTo_keeps ..); exact .refl _; exact .refl _

theorem State.setDmaCh_keeps (s : State) (n : Nat) (c : DmaCh) : s.Keeps (State.setDmaCh s n c) := by
  delta State.setDmaCh; refine .trans ?_ (.of_mk ..); exact .refl _

theorem State.dmaToFetch_keeps (s : State) (n : Nat) : s.Keeps (State.dmaToFetch s n) := by
  delta State.dmaToFetch; refine .trans ?_ (State.dmaTo_keeps ..); refine .trans ?_ (State.wr_keeps ..)
  refine .trans ?_ (State.setDmaCh_keeps ..); exact .refl _

theorem State.dmaResume_keeps (s : State) (p : Port) (n : Nat) : s.Keeps (State.dmaResume s p n) := by
  delta State.dmaResume; refine .ite ?_ ?_; refine .trans ?_ (State.range_keeps ..); exact .refl _; refine .ite ?_ ?_
  exact .refl _; refine .ite ?_ ?_; refine .trans ?_ (State.dmaToFetch_keeps ..); exact .refl _
  refine .trans ?_ (State.dmaTo_keeps ..); exact .refl _

theorem State.dmaStart_keeps (s : State) (p : Port) (n : Nat) : s.Keeps (State.dmaStart s p n) := by
  delta State.dmaStart; refine .ite ?_ ?_; refine .trans ?_ (State.dmaToFetch_keeps ..)
  refine .trans ?_ (State.wr_keeps ..); exact .refl _; refine .trans ?_ (State.range_keeps ..); exact .refl _

theorem State.writeDmaCtrl_keeps (s : State) (p : Port) (n : Nat) (v : Nat) : s.Keeps (State.writeDmaCtrl s p n v) := by
  delta State.writeDmaCtrl; lift_lets -underBinder
  intro x; refine .cut (x := x) ?_ ?_; subst x; rotate_left; intro hx; clear_value x; refine .ite ?_ ?_
  refine .trans ?_ (State.dmaStart_keeps ..); refine .ite ?_ ?_; refine .trans ?_ (State.dmaResume_keeps ..)
  refine .ite ?_ ?_; refine .trans ?_ (State.dmaAbort_keeps ..); assumption; assumption; refine .ite ?_ ?_
  refine .trans ?_ (State.dmaAbort_keeps ..); assumption; assumption; refine .ite ?_ ?_
  refine .trans ?_ (State.dmaResume_keeps ..); refine .ite ?_ ?_; refine .trans ?_ (State.dmaAbort_keeps ..); assumption
  assumption; refine .ite ?_ ?_; refine .trans ?_ (State.dmaAbort_keeps ..); assumption; assumption
  refine .trans ?_ (State.wr_keeps ..); exact .refl _

theorem State.dmaDesc_keeps (s : State) (p : Port) (n : Nat) (v : Nat) : s.Keeps (State.dmaDesc s p n v) := by
  delta State.dmaDesc; refine .ite ?_ ?_; refine .trans ?_ (State.wr_keeps ..); exact .refl _
  refine .trans ?_ (State.range_keeps ..); exact .refl _

theorem State.sendMsix_keeps (s : State) (v : Nat) : s.Keeps (State.sendMsix s v) := by
  delta State.sendMsix; refine .ite ?_ ?_; refine .trans ?_ (State.emit_keeps ..); exact .refl _; exact .refl _

theorem State.msiAck_keeps (s : State) : s.Keeps (State.msiAck s) := by
  delta State.msiAck; refine .ite ?_ ?_; refine .trans ?_ (State.sendMsix_keeps ..); exact .refl _; exact .refl _

theorem State.hdbSet_keeps (s : State) (v : Word) : s.Keeps (State.hdbSet s v) := by
  delta State.hdbSet; refine .ite ?_ ?_; exact .refl _; refine .trans ?_ (State.sendMsix_keeps ..)
  refine .trans ?_ (State.wrW_keeps ..); exact .refl _

theorem State.pdbSet_keeps (s : State) (p : Port) (v : Word) : s.Keeps (State.pdbSet s p v) := by
  delta State.pdbSet; refine .ite ?_ ?_; refine .trans ?_ (State.range_keeps ..); exact .refl _; refine .ite ?_ ?_
  exact .refl _; refine .trans ?_ (State.fireRoute_keeps ..); refine .trans ?_ (State.wrW_keeps ..); exact .refl _

theorem State.qdbSet_keeps (s : State) (p : Port) (v : Word) : s.Keeps (State.qdbSet s p v) := by
  delta State.qdbSet; refine .ite ?_ ?_; refine .trans ?_ (State.range_keeps ..); exact .refl _; refine .ite ?_ ?_
  exact .refl _; refine .trans ?_ (State.fireRoute_keeps ..); refine .trans ?_ (State.wrW_keeps ..); exact .refl _

theorem Skerry.wr_keeps (k : Skerry) (f : Fld) (v : Nat) : k.Keeps (Skerry.wr k f v) := by
  delta Skerry.wr; refine .trans ?_ (Skerry.wrW_keeps ..); exact .refl _

theorem Skerry.setPow_keeps (k : Skerry) (p : SkPower) : k.Keeps (Skerry.setPow k p) := by
  delta Skerry.setPow; refine .trans ?_ (.of_mk ..); exact .refl _

theorem Skerry.heal_keeps (k : Skerry) : k.Keeps (Skerry.heal k) := by
  delta Skerry.heal; refine .trans ?_ (Skerry.wr_keeps ..); refine .trans ?_ (Skerry.wr_keeps ..); exact .refl _

theorem Skerry.setBytes_keeps (k : Skerry) (a : Nat) (x2 : List Byte) : k.Keeps (Skerry.setBytes k a x2) := by
  induction x2 generalizing k a with
  | nil => exact .refl _
  | cons b t ih => exact (Skerry.setByte_keeps k a b).trans (ih _ _)

theorem Skerry.log_keeps (k : Skerry) (code : Nat) (data : List Nat) : k.Keeps (Skerry.log k code data) := by
  delta Skerry.log; lift_lets -underBinder; intro x; clear_value x; intro x; clear_value x; intro x; clear_value x
  intro x; clear_value x; intro x; refine .cut (x := x) ?_ ?_; subst x; rotate_left; intro hx; clear_value x
  refine .trans ?_ (Skerry.wr_keeps ..); refine .trans ?_ (Skerry.wr_keeps ..); assumption
  refine .trans ?_ (Skerry.setBytes_keeps ..); exact .refl _

theorem Skerry.cnt_keeps (k : Skerry) (f : Fld) (n : Nat) : k.Keeps (Skerry.cnt k f n) := by
  delta Skerry.cnt; refine .trans ?_ (Skerry.wr_keeps ..); exact .refl _

theorem Skerry.inc_keeps (k : Skerry) (f : Fld) : k.Keeps (Skerry.inc k f) := by
  delta Skerry.inc; refine .trans ?_ (Skerry.cnt_keeps ..); exact .refl _

theorem Skerry.startDischarge_keeps (k : Skerry) : k.Keeps (Skerry.startDischarge k) := by
  delta Skerry.startDischarge; lift_lets -underBinder
  intro x; refine .cut (x := x) ?_ ?_; subst x; rotate_left; intro hx; clear_value x; refine .ite ?_ ?_
  refine .trans ?_ (Skerry.setPow_keeps ..); assumption; refine .trans ?_ (Skerry.log_keeps ..)
  refine .trans ?_ (Skerry.inc_keeps ..); exact .refl _; refine .trans ?_ (Skerry.wr_keeps ..)
  refine .trans ?_ (Skerry.wr_keeps ..); exact .refl _

theorem Skerry.setGate_keeps (k : Skerry) (q : SkGate) : k.Keeps (Skerry.setGate k q) := by
  delta Skerry.setGate; refine .trans ?_ (.of_mk ..); exact .refl _

theorem Skerry.drive_keeps (k : Skerry) (j : Nat) (v : Bool) : k.Keeps (Skerry.drive k j v) := by
  delta Skerry.drive; lift_lets -underBinder; intro x; clear_value x; intro x; clear_value x; intro x; clear_value x
  intro x; clear_value x; refine .ite ?_ ?_; exact .refl _; refine .trans ?_ (Skerry.wr_keeps ..)
  refine .trans ?_ (Skerry.setGate_keeps ..); exact .refl _

theorem Skerry.allOff_keeps (k : Skerry) : k.Keeps (Skerry.allOff k) := by
  delta Skerry.allOff; lift_lets -underBinder
  intro x; refine .cut (x := x) ?_ ?_; subst x; rotate_left; intro hx; clear_value x
  refine .trans ?_ (Skerry.wr_keeps ..); refine .trans ?_ (Skerry.wr_keeps ..); refine .trans ?_ (Skerry.wr_keeps ..)
  refine .trans ?_ (Skerry.setGate_keeps ..); assumption
  refine .trans ?_ (.foldl (fun s x => ?_) _ _); rotate_left; (try lift_lets -underBinder)
  refine .trans ?_ (Skerry.drive_keeps ..); exact .refl _; exact .refl _

theorem Skerry.cancelAfter_keeps (k : Skerry) : k.Keeps (Skerry.cancelAfter k) := by
  delta Skerry.cancelAfter; lift_lets -underBinder; intro x; clear_value x
  intro x; refine .cut (x := x) ?_ ?_; subst x; rotate_left; intro hx; clear_value x
  refine .trans ?_ (Skerry.wr_keeps ..); refine .trans ?_ (Skerry.wr_keeps ..); assumption
  refine .trans ?_ (Skerry.setGate_keeps ..); exact .refl _

theorem Skerry.setCmd_keeps (k : Skerry) (c : SkCmd) : k.Keeps (Skerry.setCmd k c) := by
  delta Skerry.setCmd; refine .trans ?_ (.of_mk ..); exact .refl _

theorem Skerry.countSwitch_keeps (k : Skerry) (st : Nat) : k.Keeps (Skerry.countSwitch k st) := by
  delta Skerry.countSwitch; lift_lets -underBinder; intro x; clear_value x; refine .ite ?_ ?_
  refine .trans ?_ (Skerry.wr_keeps ..); exact .refl _; exact .refl _

theorem Skerry.countDefer_keeps (k : Skerry) (j : Nat) : k.Keeps (Skerry.countDefer k j) := by
  delta Skerry.countDefer; lift_lets -underBinder; intro x; clear_value x; refine .ite ?_ ?_; exact .refl _
  refine .trans ?_ (Skerry.inc_keeps ..); refine .trans ?_ (Skerry.setGate_keeps ..); exact .refl _

theorem Skerry.tryOff_keeps (k : Skerry) (j : Nat) : k.Keeps (Skerry.tryOff k j) := by
  delta Skerry.tryOff; refine .ite ?_ ?_; refine .ite ?_ ?_; refine .trans ?_ (Skerry.drive_keeps ..); exact .refl _
  refine .trans ?_ (Skerry.countDefer_keeps ..); exact .refl _; exact .refl _

theorem Skerry.tryOn_keeps (k : Skerry) (j : Nat) : k.Keeps (Skerry.tryOn k j) := by
  delta Skerry.tryOn; lift_lets -underBinder; intro x; clear_value x; intro x; clear_value x; refine .ite ?_ ?_
  refine .ite ?_ ?_; exact .refl _; refine .ite ?_ ?_; refine .trans ?_ (Skerry.drive_keeps ..); exact .refl _
  refine .ite ?_ ?_; refine .trans ?_ (Skerry.countDefer_keeps ..); exact .refl _; exact .refl _; exact .refl _

theorem Skerry.refreshShow_keeps (k : Skerry) : k.Keeps (Skerry.refreshShow k) := by
  delta Skerry.refreshShow; lift_lets -underBinder
  intro x; refine .cut (x := x) ?_ ?_; subst x; rotate_left; intro hx; clear_value x
  refine .trans ?_ (Skerry.wr_keeps ..); assumption; refine .trans ?_ (Skerry.wr_keeps ..)
  refine .trans ?_ (Skerry.wr_keeps ..); exact .refl _

theorem Skerry.settle_keeps (k : Skerry) : k.Keeps (Skerry.settle k) := by
  delta Skerry.settle; lift_lets -underBinder
  intro x; refine .cut (x := x) ?_ ?_; subst x; rotate_left; intro hx; clear_value x
  refine .trans ?_ (Skerry.refreshShow_keeps ..); refine .trans ?_ (Skerry.wr_keeps ..)
  refine .trans ?_ (.foldl (fun s x => ?_) _ _); rotate_left; (try lift_lets -underBinder)
  refine .trans ?_ (Skerry.tryOn_keeps ..); exact .refl _
  refine .trans ?_ (.foldl (fun s x => ?_) _ _); rotate_left; (try lift_lets -underBinder)
  refine .trans ?_ (Skerry.tryOff_keeps ..); exact .refl _; assumption; exact .refl _

theorem Skerry.setTarget_keeps (k : Skerry) (st : Nat) : k.Keeps (Skerry.setTarget k st) := by
  delta Skerry.setTarget; lift_lets -underBinder; intro x; clear_value x
  intro x; refine .cut (x := x) ?_ ?_; subst x; rotate_left; intro hx; clear_value x; refine .ite ?_ ?_
  refine .trans ?_ (Skerry.settle_keeps ..); refine .trans ?_ (Skerry.setGate_keeps ..)
  refine .trans ?_ (Skerry.wr_keeps ..); refine .trans ?_ (Skerry.wr_keeps ..); assumption
  refine .trans ?_ (Skerry.settle_keeps ..); refine .trans ?_ (Skerry.wr_keeps ..)
  refine .trans ?_ (Skerry.setGate_keeps ..); refine .trans ?_ (Skerry.setGate_keeps ..)
  refine .trans ?_ (Skerry.wr_keeps ..); refine .trans ?_ (Skerry.wr_keeps ..); assumption
  refine .trans ?_ (Skerry.countSwitch_keeps ..); exact .refl _

theorem Skerry.freeSlot_keeps (k : Skerry) (i : Nat) : k.Keeps (Skerry.freeSlot k i) := by
  delta Skerry.freeSlot; lift_lets -underBinder
  intro x; refine .cut (x := x) ?_ ?_; subst x; rotate_left; intro hx; clear_value x
  refine .trans ?_ (Skerry.setCmd_keeps ..); assumption; refine .trans ?_ (Skerry.wrW_keeps ..)
  refine .trans ?_ (Skerry.wrW_keeps ..); exact .refl _

theorem Skerry.dropEarly_keeps (k : Skerry) : k.Keeps (Skerry.dropEarly k) := by
  delta Skerry.dropEarly; refine .ite ?_ ?_; refine .trans ?_ (Skerry.inc_keeps ..)
  refine .trans ?_ (Skerry.wrW_keeps ..); exact .refl _; exact .refl _

theorem Skerry.endDischarge_keeps (k : Skerry) : k.Keeps (Skerry.endDischarge k) := by
  delta Skerry.endDischarge; lift_lets -underBinder
  intro x; refine .cut (x := x) ?_ ?_; subst x; rotate_left; intro hx; clear_value x
  refine .trans ?_ (Skerry.wr_keeps ..); assumption; refine .trans ?_ (Skerry.wr_keeps ..)
  refine .trans ?_ (Skerry.wr_keeps ..); exact .refl _

theorem Skerry.dropForce_keeps (k : Skerry) : k.Keeps (Skerry.dropForce k) := by
  delta Skerry.dropForce; lift_lets -underBinder
  intro x; refine .cut (x := x) ?_ ?_; subst x; rotate_left; intro hx; clear_value x
  refine .trans ?_ (Skerry.setGate_keeps ..); assumption; refine .trans ?_ (Skerry.wr_keeps ..)
  refine .trans ?_ (Skerry.wr_keeps ..); refine .trans ?_ (Skerry.wr_keeps ..); exact .refl _

theorem Skerry.wrS_keeps (k : Skerry) (f : Fld) (v : Int) : k.Keeps (Skerry.wrS k f v) := by
  delta Skerry.wrS; refine .trans ?_ (Skerry.wr_keeps ..); exact .refl _

theorem Skerry.setFr_keeps (k : Skerry) (f : SkFreight) : k.Keeps (Skerry.setFr k f) := by
  delta Skerry.setFr; refine .trans ?_ (.of_mk ..); exact .refl _

theorem Skerry.latch_keeps (k : Skerry) (b : Nat) : k.Keeps (Skerry.latch k b) := by
  delta Skerry.latch; lift_lets -underBinder; intro x; clear_value x
  intro x; refine .cut (x := x) ?_ ?_; subst x; rotate_left; intro hx; clear_value x
  refine .trans ?_ (Skerry.heal_keeps ..); refine .trans ?_ (Skerry.wr_keeps ..); refine .ite ?_ ?_; assumption
  refine .trans ?_ (Skerry.inc_keeps ..); assumption; refine .ite ?_ ?_; refine .trans ?_ (Skerry.wr_keeps ..)
  refine .trans ?_ (Skerry.wr_keeps ..); exact .refl _; exact .refl _

theorem Skerry.latchInputs_keeps (k : Skerry) (ins : List Nat) : k.Keeps (Skerry.latchInputs k ins) := by
  delta Skerry.latchInputs; lift_lets -underBinder; intro x; clear_value x; intro x; clear_value x
  intro x; clear_value x; intro x; refine .cut (x := x) ?_ ?_; subst x; rotate_left; intro hx; clear_value x
  refine .ite ?_ ?_; exact .refl _; refine .trans ?_ (Skerry.heal_keeps ..); refine .trans ?_ (Skerry.latch_keeps ..)
  refine .trans ?_ (.foldl (fun s x => ?_) _ _); rotate_left; (try lift_lets -underBinder)
  intro x; refine .cut (x := x) ?_ ?_; subst x; rotate_left; intro hx; clear_value x
  refine .trans ?_ (Skerry.log_keeps ..); refine .trans ?_ (Skerry.inc_keeps ..); refine .ite ?_ ?_
  refine .trans ?_ (Skerry.setPow_keeps ..); assumption; assumption; refine .ite ?_ ?_
  refine .trans ?_ (Skerry.wr_keeps ..); exact .refl _; exact .refl _; assumption
  refine .trans ?_ (Skerry.wrW_keeps ..); exact .refl _

theorem Skerry.obeyBlock_keeps (k : Skerry) : k.Keeps (Skerry.obeyBlock k) := by
  delta Skerry.obeyBlock; lift_lets -underBinder
  intro x; refine .cut (x := x) ?_ ?_; subst x; rotate_left; intro hx; clear_value x
  refine .trans ?_ (Skerry.setCmd_keeps ..); refine .trans ?_ (Skerry.dropEarly_keeps ..); assumption
  refine .trans ?_ (Skerry.cancelAfter_keeps ..); refine .trans ?_ (Skerry.freeSlot_keeps ..)
  refine .trans ?_ (Skerry.freeSlot_keeps ..); exact .refl _

theorem Skerry.rank1_keeps (k : Skerry) : k.Keeps (Skerry.rank1 k) := by
  delta Skerry.rank1; lift_lets -underBinder
  intro x; refine .cut (x := x) ?_ ?_; subst x; rotate_left; intro hx; clear_value x
  refine .trans ?_ (Skerry.refreshShow_keeps ..); refine .trans ?_ (Skerry.wr_keeps ..)
  refine .trans ?_ (Skerry.wr_keeps ..); refine .trans ?_ (Skerry.allOff_keeps ..); assumption
  refine .trans ?_ (Skerry.countSwitch_keeps ..); refine .trans ?_ (Skerry.dropForce_keeps ..); exact .refl _

theorem Skerry.rank2_keeps (k : Skerry) : k.Keeps (Skerry.rank2 k) := by
  delta Skerry.rank2; lift_lets -underBinder
  intro x; refine .cut (x := x) ?_ ?_; subst x; rotate_left; intro hx; clear_value x; refine .ite ?_ ?_; assumption
  refine .trans ?_ (Skerry.settle_keeps ..); refine .trans ?_ (Skerry.wr_keeps ..)
  refine .trans ?_ (Skerry.setGate_keeps ..); refine .trans ?_ (Skerry.drive_keeps ..)
  refine .trans ?_ (Skerry.drive_keeps ..); refine .trans ?_ (Skerry.wr_keeps ..); refine .trans ?_ (Skerry.wr_keeps ..)
  refine .trans ?_ (Skerry.countSwitch_keeps ..); assumption; refine .trans ?_ (Skerry.dropForce_keeps ..)
  exact .refl _

theorem Skerry.rank3_keeps (k : Skerry) : k.Keeps (Skerry.rank3 k) := by
  delta Skerry.rank3; lift_lets -underBinder
  intro x; refine .cut (x := x) ?_ ?_; subst x; rotate_left; intro hx; clear_value x; refine .ite ?_ ?_; assumption
  refine .trans ?_ (Skerry.refreshShow_keeps ..); refine .trans ?_ (Skerry.wr_keeps ..)
  refine .trans ?_ (Skerry.allOff_keeps ..); refine .trans ?_ (Skerry.countSwitch_keeps ..); assumption
  refine .trans ?_ (Skerry.dropForce_keeps ..); exact .refl _

theorem Skerry.confirm_keeps (k : Skerry) : k.Keeps (Skerry.confirm k) := by
  delta Skerry.confirm; lift_lets -underBinder; intro x; clear_value x
  intro x; refine .cut (x := x) ?_ ?_; subst x; rotate_left; intro hx; clear_value x; refine .ite ?_ ?_
  refine .trans ?_ (Skerry.heal_keeps ..); refine .trans ?_ (Skerry.log_keeps ..); assumption; exact .refl _
  refine .trans ?_ (Skerry.wr_keeps ..); refine .trans ?_ (Skerry.setPow_keeps ..); exact .refl _

theorem Skerry.fire_keeps (k : Skerry) (cause : Nat) : k.Keeps (Skerry.fire k cause) := by
  delta Skerry.fire; lift_lets -underBinder; intro x; clear_value x; intro x; clear_value x
  intro x; refine .cut (x := x) ?_ ?_; subst x; rotate_left; intro hx; clear_value x; refine .ite ?_ ?_
  refine .trans ?_ (Skerry.confirm_keeps ..); assumption; assumption; refine .trans ?_ (Skerry.wr_keeps ..)
  refine .trans ?_ (Skerry.setPow_keeps ..); exact .refl _

theorem Skerry.retire_keeps (k : Skerry) : k.Keeps (Skerry.retire k) := by
  delta Skerry.retire; refine .trans ?_ (Skerry.fire_keeps ..); exact .refl _

theorem Skerry.trigThy_keeps (k : Skerry) : k.Keeps (Skerry.trigThy k) := by
  delta Skerry.trigThy; lift_lets -underBinder; intro x; clear_value x; refine .trans ?_ (Skerry.setPow_keeps ..)
  exact .refl _

theorem Skerry.clearGate_keeps (k : Skerry) (still : List Nat) : k.Keeps (Skerry.clearGate k still) := by
  delta Skerry.clearGate; lift_lets -underBinder; intro x; clear_value x
  intro x; refine .cut (x := x) ?_ ?_; subst x; rotate_left; intro hx; clear_value x; refine .ite ?_ ?_; exact .refl _
  refine .ite ?_ ?_; refine .trans ?_ (Skerry.log_keeps ..); refine .trans ?_ (Skerry.wr_keeps ..); exact .refl _
  refine .trans ?_ (Skerry.wr_keeps ..); refine .trans ?_ (Skerry.wr_keeps ..); refine .trans ?_ (Skerry.wr_keeps ..)
  refine .trans ?_ (Skerry.wr_keeps ..); assumption; refine .trans ?_ (Skerry.wr_keeps ..)
  refine .trans ?_ (Skerry.wr_keeps ..); refine .trans ?_ (Skerry.wr_keeps ..); exact .refl _

theorem Skerry.clearLatches_keeps (k : Skerry) (mask : Nat) (still : List Nat) : k.Keeps (Skerry.clearLatches k mask
    still) := by
  delta Skerry.clearLatches; lift_lets -underBinder; intro x; subst x; (try beta_reduce); (try lift_lets -underBinder)
  intro x; clear_value x; intro x; clear_value x; intro x; clear_value x
  intro x; refine .cut (x := x) ?_ ?_; subst x; rotate_left; intro hx; clear_value x
  refine .trans ?_ (Skerry.heal_keeps ..); refine .ite ?_ ?_; refine .trans ?_ (Skerry.wr_keeps ..); refine .ite ?_ ?_
  refine .trans ?_ (Skerry.wr_keeps ..); assumption; assumption; refine .ite ?_ ?_
  refine .trans ?_ (Skerry.wr_keeps ..); assumption; assumption; refine .trans ?_ (Skerry.wr_keeps ..); exact .refl _

theorem Skerry.clearFaults_keeps (k : Skerry) (still : List Nat) : k.Keeps (Skerry.clearFaults k still) := by
  delta Skerry.clearFaults; refine .trans ?_ (Skerry.clearGate_keeps ..)
  refine .trans ?_ (Skerry.clearLatches_keeps ..); exact .refl _

theorem Skerry.modeOrder_keeps (k : Skerry) (m : Nat) : k.Keeps (Skerry.modeOrder k m) := by
  delta Skerry.modeOrder; lift_lets -underBinder; intro x; clear_value x; refine .ite ?_ ?_
  refine .trans ?_ (Skerry.inc_keeps ..); exact .refl _; refine .ite ?_ ?_; refine .trans ?_ (Skerry.wr_keeps ..)
  refine .trans ?_ (Skerry.setGate_keeps ..); exact .refl _; refine .trans ?_ (Skerry.wr_keeps ..)
  refine .trans ?_ (Skerry.setGate_keeps ..); exact .refl _

theorem Skerry.takeWper_keeps (k : Skerry) : k.Keeps (Skerry.takeWper k) := by
  delta Skerry.takeWper; split; refine .trans ?_ (Skerry.setGate_keeps ..); exact .refl _; exact .refl _

theorem Skerry.takeDuty_keeps (k : Skerry) (w : Nat) : k.Keeps (Skerry.takeDuty k w).2 := by
  delta Skerry.takeDuty; lift_lets -underBinder; intro x; clear_value x; split; lift_lets -underBinder
  intro x; refine .cut (x := x) ?_ ?_; subst x; rotate_left; intro hx; clear_value x; dsimp only; refine .ite ?_ ?_
  refine .trans ?_ (Skerry.inc_keeps ..); assumption; assumption; refine .trans ?_ (Skerry.wr_keeps ..); exact .refl _

theorem Skerry.takeDuty_out {r_} {t_ : Skerry} {k : Skerry} {w : Nat} (h_ : Skerry.takeDuty k w = (r_, t_)) : k.Keeps t_
    := by
  have := Skerry.takeDuty_keeps k w; rwa [h_] at this

theorem Skerry.schedule_keeps (k : Skerry) (cs : List (Nat × Bool)) : k.Keeps (Skerry.schedule k cs) := by
  delta Skerry.schedule; lift_lets -underBinder; intro x; clear_value x; refine .trans ?_ (Skerry.setGate_keeps ..)
  exact .refl _

theorem Skerry.takeCmds_keeps (k : Skerry) : k.Keeps (Skerry.takeCmds k) := by
  delta Skerry.takeCmds; lift_lets -underBinder; intro x; clear_value x; intro x; clear_value x; intro x; clear_value x
  intro x; clear_value x; intro x; clear_value x; refine .trans ?_ (Skerry.setGate_keeps ..); exact .refl _

theorem Skerry.boundary_keeps (k : Skerry) : k.Keeps (Skerry.boundary k) := by
  delta Skerry.boundary; lift_lets -underBinder
  intro x; refine .cut (x := x) ?_ ?_; subst x; rotate_left; intro hx; clear_value x; refine .ite ?_ ?_
  refine .trans ?_ (Skerry.setGate_keeps ..); refine .trans ?_ (Skerry.takeWper_keeps ..)
  refine .trans ?_ (Skerry.setGate_keeps ..); assumption; split; split; lift_lets -underBinder; intro x; clear_value x
  intro x; clear_value x; intro x; clear_value x; intro x; clear_value x; intro x; clear_value x
  intro x; refine .cut (x := x) ?_ ?_; subst x; rotate_left; intro hx; clear_value x
  refine .trans ?_ (Skerry.settle_keeps ..); refine .trans ?_ (Skerry.takeCmds_keeps ..)
  refine .trans ?_ (Skerry.setGate_keeps ..); refine .trans ?_ (Skerry.schedule_keeps ..); assumption; refine .ite ?_ ?_
  refine .trans ?_ (Skerry.wr_keeps ..); exact .refl _; exact .refl _; refine .ite ?_ ?_
  refine .trans ?_ (Skerry.inc_keeps ..); refine .trans ?_ (Skerry.setGate_keeps ..)
  refine .of_ite_snd ?_ ?_ (by assumption); dsimp only; refine .trans ?_ (Skerry.takeDuty_out (by assumption))
  refine .ite ?_ ?_; refine .trans ?_ (Skerry.setGate_keeps ..); refine .trans ?_ (Skerry.wr_keeps ..)
  refine .trans ?_ (Skerry.wr_keeps ..); refine .trans ?_ (Skerry.setGate_keeps ..)
  refine .trans ?_ (Skerry.takeWper_keeps ..); refine .trans ?_ (Skerry.setGate_keeps ..); assumption
  refine .trans ?_ (Skerry.setGate_keeps ..); refine .trans ?_ (Skerry.takeWper_keeps ..)
  refine .trans ?_ (Skerry.setGate_keeps ..); assumption; refine .trans ?_ (Skerry.takeDuty_keeps ..)
  refine .trans ?_ (Skerry.takeDuty_out (by assumption)); refine .ite ?_ ?_; refine .trans ?_ (Skerry.setGate_keeps ..)
  refine .trans ?_ (Skerry.wr_keeps ..); refine .trans ?_ (Skerry.wr_keeps ..)
  refine .trans ?_ (Skerry.setGate_keeps ..); refine .trans ?_ (Skerry.takeWper_keeps ..)
  refine .trans ?_ (Skerry.setGate_keeps ..); assumption; refine .trans ?_ (Skerry.setGate_keeps ..)
  refine .trans ?_ (Skerry.takeWper_keeps ..); refine .trans ?_ (Skerry.setGate_keeps ..); assumption
  refine .of_ite_snd ?_ ?_ (by assumption); dsimp only; refine .trans ?_ (Skerry.takeDuty_out (by assumption))
  refine .ite ?_ ?_; refine .trans ?_ (Skerry.setGate_keeps ..); refine .trans ?_ (Skerry.wr_keeps ..)
  refine .trans ?_ (Skerry.wr_keeps ..); refine .trans ?_ (Skerry.setGate_keeps ..)
  refine .trans ?_ (Skerry.takeWper_keeps ..); refine .trans ?_ (Skerry.setGate_keeps ..); assumption
  refine .trans ?_ (Skerry.setGate_keeps ..); refine .trans ?_ (Skerry.takeWper_keeps ..)
  refine .trans ?_ (Skerry.setGate_keeps ..); assumption; refine .trans ?_ (Skerry.takeDuty_keeps ..)
  refine .trans ?_ (Skerry.takeDuty_out (by assumption)); refine .ite ?_ ?_; refine .trans ?_ (Skerry.setGate_keeps ..)
  refine .trans ?_ (Skerry.wr_keeps ..); refine .trans ?_ (Skerry.wr_keeps ..)
  refine .trans ?_ (Skerry.setGate_keeps ..); refine .trans ?_ (Skerry.takeWper_keeps ..)
  refine .trans ?_ (Skerry.setGate_keeps ..); assumption; refine .trans ?_ (Skerry.setGate_keeps ..)
  refine .trans ?_ (Skerry.takeWper_keeps ..); refine .trans ?_ (Skerry.setGate_keeps ..); assumption

theorem Skerry.force_keeps (k : Skerry) (v : Nat) : k.Keeps (Skerry.force k v).2 := by
  delta Skerry.force; lift_lets -underBinder; intro x; clear_value x; intro x; clear_value x; split; dsimp only
  exact .refl _; dsimp only; refine .trans ?_ (Skerry.setGate_keeps ..); refine .trans ?_ (Skerry.wr_keeps ..)
  refine .trans ?_ (Skerry.wr_keeps ..); refine .trans ?_ (Skerry.wr_keeps ..); exact .refl _

theorem Skerry.force_out {r_} {t_ : Skerry} {k : Skerry} {v : Nat} (h_ : Skerry.force k v = (r_, t_)) : k.Keeps t_ := by
  have := Skerry.force_keeps k v; rwa [h_] at this

theorem Skerry.release_keeps (k : Skerry) : k.Keeps (Skerry.release k) := by
  delta Skerry.release; lift_lets -underBinder; intro x; clear_value x
  intro x; refine .cut (x := x) ?_ ?_; subst x; rotate_left; intro hx; clear_value x; refine .ite ?_ ?_
  refine .trans ?_ (Skerry.setGate_keeps ..); assumption; assumption; refine .trans ?_ (Skerry.dropForce_keeps ..)
  exact .refl _

theorem Skerry.wperWrite_keeps (k : Skerry) (v : Nat) : k.Keeps (Skerry.wperWrite k v) := by
  delta Skerry.wperWrite; lift_lets -underBinder; intro x; clear_value x; refine .ite ?_ ?_
  refine .trans ?_ (Skerry.setGate_keeps ..); refine .trans ?_ (Skerry.wr_keeps ..); exact .refl _; exact .refl _

theorem Skerry.fltClear_keeps (k : Skerry) (v : Nat) (still : List Nat) : k.Keeps (Skerry.fltClear k v still) := by
  delta Skerry.fltClear; lift_lets -underBinder
  intro x; refine .cut (x := x) ?_ ?_; subst x; rotate_left; intro hx; clear_value x
  refine .trans ?_ (Skerry.clearLatches_keeps ..); assumption; refine .ite ?_ ?_; refine .trans ?_ (Skerry.wr_keeps ..)
  exact .refl _; exact .refl _

theorem Skerry.gsLow_keeps (k : Skerry) (ins : List Nat) : k.Keeps (Skerry.gsLow k ins) := by
  delta Skerry.gsLow; refine .trans ?_ (.foldl (fun s x => ?_) _ _); rotate_left; (try lift_lets -underBinder)
  refine .ite ?_ ?_; refine .trans ?_ (Skerry.wr_keeps ..); exact .refl _; exact .refl _; exact .refl _

theorem Skerry.midPeriod_keeps (k : Skerry) : k.Keeps (Skerry.midPeriod k) := by
  delta Skerry.midPeriod; lift_lets -underBinder
  intro x; refine .cut (x := x) ?_ ?_; subst x; rotate_left; intro hx; clear_value x; refine .ite ?_ ?_
  refine .trans ?_ (Skerry.setGate_keeps ..); assumption; split; lift_lets -underBinder
  intro x; refine .cut (x := x) ?_ ?_; subst x; rotate_left; intro hx; clear_value x
  refine .trans ?_ (Skerry.settle_keeps ..); refine .trans ?_ (Skerry.takeCmds_keeps ..)
  refine .trans ?_ (Skerry.setGate_keeps ..); assumption; refine .ite ?_ ?_; refine .trans ?_ (Skerry.takeWper_keeps ..)
  exact .refl _; exact .refl _; refine .trans ?_ (Skerry.schedule_keeps ..); refine .of_ite_snd ?_ ?_ (by assumption)
  refine .trans ?_ (Skerry.takeDuty_keeps ..); refine .trans ?_ (Skerry.setGate_keeps ..); assumption; dsimp only
  refine .trans ?_ (Skerry.setGate_keeps ..); assumption

theorem State.runCell_keeps (s : State) (g : Nat) (f : Skerry → Skerry) (hf : ∀ x : Skerry, x.Keeps (f x)) : s.Keeps
    (State.runCell s g f) := by
  delta State.runCell; refine .ite ?_ ?_
  refine .trans ?_ (State.onCell_keeps _ _ _ ?_); rotate_left; beta_reduce; (try lift_lets -underBinder)
  refine .trans ?_ (hf ..); exact .refl _; exact .refl _; exact .refl _

theorem execBypassConfirm_answers (g : Nat) (s : State) : s.Answers (execBypassConfirm g s) := by
  delta execBypassConfirm; refine .next ?_
  refine .trans ?_ (State.onCell_keeps _ _ _ ?_); rotate_left; beta_reduce; (try lift_lets -underBinder)
  refine .ite ?_ ?_; exact .refl _; refine .trans ?_ (Skerry.confirm_keeps ..); refine .trans ?_ (Skerry.wr_keeps ..)
  exact .refl _; exact .refl _

theorem execBypassConfirmTimeout_answers (g : Nat) (s : State) : s.Answers (execBypassConfirmTimeout g s) := by
  delta execBypassConfirmTimeout; refine .next ?_
  refine .trans ?_ (State.onCell_keeps _ _ _ ?_); rotate_left; beta_reduce; (try lift_lets -underBinder)
  refine .ite ?_ ?_; refine .trans ?_ (Skerry.log_keeps ..); refine .trans ?_ (Skerry.latch_keeps ..); exact .refl _
  exact .refl _; exact .refl _

theorem execClearLatchedFaults_answers (g : Nat) (still : List Nat) (s : State) : s.Answers (execClearLatchedFaults g
    still s) := by
  delta execClearLatchedFaults; refine .next ?_
  refine .trans ?_ (State.runCell_keeps _ _ _ (fun _ => ?_)); rotate_left; beta_reduce; (try lift_lets -underBinder)
  refine .trans ?_ (Skerry.clearFaults_keeps ..); exact .refl _; exact .refl _

theorem execFaultInput_answers (g : Nat) (ins : List Nat) (s : State) : s.Answers (execFaultInput g ins s) := by
  delta execFaultInput; refine .next ?_
  refine .trans ?_ (State.onCell_keeps _ _ _ ?_); rotate_left; beta_reduce; (try lift_lets -underBinder)
  intro x; refine .cut (x := x) ?_ ?_; subst x; rotate_left; intro hx; clear_value x; refine .ite ?_ ?_
  refine .ite ?_ ?_; assumption; refine .ite ?_ ?_; assumption; refine .trans ?_ (Skerry.rank1_keeps ..)
  refine .trans ?_ (Skerry.latchInputs_keeps ..); assumption; refine .ite ?_ ?_
  refine .trans ?_ (Skerry.setPow_keeps ..); exact .refl _; exact .refl _; exact .refl _
  refine .trans ?_ (Skerry.gsLow_keeps ..); exact .refl _

theorem execFirePulseEnd_answers (g : Nat) (thy : Bool) (s : State) : s.Answers (execFirePulseEnd g thy s) := by
  delta execFirePulseEnd; refine .next ?_
  refine .trans ?_ (State.onCell_keeps _ _ _ ?_); rotate_left; beta_reduce; (try lift_lets -underBinder)
  intro x; clear_value x; refine .trans ?_ (Skerry.setPow_keeps ..); exact .refl _; exact .refl _

theorem execFltClr_answers (g : Nat) (still : List Nat) (s : State) : s.Answers (execFltClr g still s) := by
  delta execFltClr; refine .next ?_
  refine .trans ?_ (State.runCell_keeps _ _ _ (fun _ => ?_)); rotate_left; beta_reduce; (try lift_lets -underBinder)
  refine .trans ?_ (Skerry.clearGate_keeps ..); exact .refl _; exact .refl _

theorem execForceApply_answers (g : Nat) (s : State) : s.Answers (execForceApply g s) := by
  delta execForceApply; refine .next ?_
  refine .trans ?_ (State.runCell_keeps _ _ _ (fun _ => ?_)); rotate_left; beta_reduce; (try lift_lets -underBinder)
  split
  refine .ite ?_ ?_; exact .refl _; lift_lets -underBinder
  intro x; refine .cut (x := x) ?_ ?_; subst x; rotate_left; intro hx; clear_value x
  refine .trans ?_ (Skerry.setTarget_keeps ..); refine .trans ?_ (Skerry.setGate_keeps ..); assumption; exact .refl _
  exact .refl _; refine .trans ?_ (Skerry.wr_keeps ..); refine .trans ?_ (Skerry.wr_keeps ..); exact .refl _

theorem execForceRelease_answers (g : Nat) (s : State) : s.Answers (execForceRelease g s) := by
  delta execForceRelease; refine .next ?_
  refine .trans ?_ (State.runCell_keeps _ _ _ (fun _ => ?_)); rotate_left; beta_reduce; (try lift_lets -underBinder)
  refine .trans ?_ (Skerry.release_keeps ..); exact .refl _; exact .refl _

theorem execGateEdge_answers (g : Nat) (s : State) : s.Answers (execGateEdge g s) := by
  delta execGateEdge; refine .next ?_
  refine .trans ?_ (State.runCell_keeps _ _ _ (fun _ => ?_)); rotate_left; beta_reduce; (try lift_lets -underBinder)
  refine .ite ?_ ?_; exact .refl _; refine .trans ?_ (Skerry.settle_keeps ..)
  refine .trans ?_ (Skerry.takeCmds_keeps ..); exact .refl _; exact .refl _

theorem execGateForce_answers (g : Nat) (v : Word) (s : State) : s.Answers (execGateForce g v s) := by
  delta execGateForce; refine .next ?_
  refine .trans ?_ (State.runCell_keeps _ _ _ (fun _ => ?_)); rotate_left; beta_reduce; (try lift_lets -underBinder)
  refine .trans ?_ (Skerry.force_keeps ..); exact .refl _; exact .refl _

theorem execManagedDischargeStart_answers (g : Nat) (s : State) : s.Answers (execManagedDischargeStart g s) := by
  delta execManagedDischargeStart; refine .next ?_
  refine .trans ?_ (State.runCell_keeps _ _ _ (fun _ => ?_)); rotate_left; beta_reduce; (try lift_lets -underBinder)
  refine .trans ?_ (Skerry.startDischarge_keeps ..); exact .refl _; exact .refl _

theorem execOverVoltage_answers (g : Nat) (s : State) : s.Answers (execOverVoltage g s) := by
  delta execOverVoltage; refine .next ?_
  refine .trans ?_ (State.onCell_keeps _ _ _ ?_); rotate_left; beta_reduce; (try lift_lets -underBinder)
  intro x; refine .cut (x := x) ?_ ?_; subst x; rotate_left; intro hx; clear_value x; refine .ite ?_ ?_; exact .refl _
  refine .trans ?_ (Skerry.fire_keeps ..); refine .trans ?_ (Skerry.setPow_keeps ..); assumption; exact .refl _
  refine .ite ?_ ?_; refine .trans ?_ (Skerry.rank2_keeps ..); exact .refl _; exact .refl _

theorem execRefreshRequest_answers (g : Nat) (s : State) : s.Answers (execRefreshRequest g s) := by
  delta execRefreshRequest; refine .next ?_
  refine .trans ?_ (State.runCell_keeps _ _ _ (fun _ => ?_)); rotate_left; beta_reduce; (try lift_lets -underBinder)
  refine .trans ?_ (Skerry.refreshShow_keeps ..); exact .refl _; exact .refl _

theorem execRetire_answers (g : Nat) (s : State) : s.Answers (execRetire g s) := by
  delta execRetire; refine .next ?_
  refine .trans ?_ (State.runCell_keeps _ _ _ (fun _ => ?_)); rotate_left; beta_reduce; (try lift_lets -underBinder)
  refine .trans ?_ (Skerry.retire_keeps ..); exact .refl _; exact .refl _

theorem execSkFltClear_answers (g : Nat) (v : Word) (still : List Nat) (s : State) : s.Answers (execSkFltClear g v still
    s) := by
  delta execSkFltClear; refine .next ?_
  refine .trans ?_ (State.runCell_keeps _ _ _ (fun _ => ?_)); rotate_left; beta_reduce; (try lift_lets -underBinder)
  refine .trans ?_ (Skerry.fltClear_keeps ..); exact .refl _; exact .refl _

theorem execStepMode_answers (g : Nat) (s : State) : s.Answers (execStepMode g s) := by
  delta execStepMode; refine .next ?_
  refine .trans ?_ (State.runCell_keeps _ _ _ (fun _ => ?_)); rotate_left; beta_reduce; (try lift_lets -underBinder)
  refine .trans ?_ (Skerry.modeOrder_keeps ..); exact .refl _; exact .refl _

theorem execThyristorTrigger_answers (g : Nat) (s : State) : s.Answers (execThyristorTrigger g s) := by
  delta execThyristorTrigger; refine .next ?_
  refine .trans ?_ (State.runCell_keeps _ _ _ (fun _ => ?_)); rotate_left; beta_reduce; (try lift_lets -underBinder)
  refine .trans ?_ (Skerry.trigThy_keeps ..); exact .refl _; exact .refl _

theorem execWeaveMode_answers (g : Nat) (s : State) : s.Answers (execWeaveMode g s) := by
  delta execWeaveMode; refine .next ?_
  refine .trans ?_ (State.runCell_keeps _ _ _ (fun _ => ?_)); rotate_left; beta_reduce; (try lift_lets -underBinder)
  refine .trans ?_ (Skerry.modeOrder_keeps ..); exact .refl _; exact .refl _

theorem execWeaveReload_answers (g : Nat) (s : State) : s.Answers (execWeaveReload g s) := by
  delta execWeaveReload; refine .next ?_
  refine .trans ?_ (State.runCell_keeps _ _ _ (fun _ => ?_)); rotate_left; beta_reduce; (try lift_lets -underBinder)
  refine .ite ?_ ?_; refine .ite ?_ ?_; refine .trans ?_ (Skerry.midPeriod_keeps ..); exact .refl _
  refine .trans ?_ (Skerry.boundary_keeps ..); exact .refl _; exact .refl _; exact .refl _

theorem execWperWrite_answers (g : Nat) (v : Word) (s : State) : s.Answers (execWperWrite g v s) := by
  delta execWperWrite; refine .next ?_
  refine .trans ?_ (State.runCell_keeps _ _ _ (fun _ => ?_)); rotate_left; beta_reduce; (try lift_lets -underBinder)
  refine .trans ?_ (Skerry.wperWrite_keeps ..); exact .refl _; exact .refl _

theorem Skerry.disStop_keeps (k : Skerry) : k.Keeps (Skerry.disStop k) := by
  delta Skerry.disStop; refine .ite ?_ ?_; refine .trans ?_ (Skerry.endDischarge_keeps ..); exact .refl _; exact .refl _

theorem Skerry.enterHold_keeps (k : Skerry) (row : Nat) : k.Keeps (Skerry.enterHold k row) := by
  delta Skerry.enterHold; lift_lets -underBinder
  intro x; refine .cut (x := x) ?_ ?_; subst x; rotate_left; intro hx; clear_value x
  refine .trans ?_ (.of_parts (by first | exact id | exact twf_filter _ _ _ | exact fun _ => rfl) (by first | exact id | exact twf_filter _ _ _ | exact fun _ => rfl))
  refine .trans ?_ (Skerry.wr_keeps ..); refine .trans ?_ (Skerry.wr_keeps ..); refine .trans ?_ (Skerry.wr_keeps ..)
  refine .trans ?_ (Skerry.wr_keeps ..); refine .trans ?_ (Skerry.wr_keeps ..); refine .trans ?_ (Skerry.wr_keeps ..)
  refine .trans ?_ (Skerry.wr_keeps ..); refine .trans ?_ (Skerry.wr_keeps ..)
  refine .trans ?_ (Skerry.allOff_keeps ..); refine .trans ?_ (Skerry.dropForce_keeps ..)
  refine .trans ?_ (Skerry.log_keeps ..); refine .trans ?_ (Skerry.wr_keeps ..); refine .trans ?_ (Skerry.inc_keeps ..)
  refine .trans ?_ (Skerry.wr_keeps ..); assumption; refine .ite ?_ ?_; refine .trans ?_ (Skerry.endDischarge_keeps ..)
  exact .refl _; exact .refl _

theorem Skerry.enterRepeat_keeps (k : Skerry) (silence : Bool) : k.Keeps (Skerry.enterRepeat k silence) := by
  delta Skerry.enterRepeat; lift_lets -underBinder
  intro x; refine .cut (x := x) ?_ ?_; subst x; rotate_left; intro hx; clear_value x
  refine .trans ?_ (Skerry.setPow_keeps ..); refine .trans ?_ (Skerry.wr_keeps ..)
  refine .trans ?_ (Skerry.wr_keeps ..); refine .trans ?_ (Skerry.wr_keeps ..)
  refine .trans ?_ (Skerry.allOff_keeps ..); refine .trans ?_ (Skerry.dropForce_keeps ..); assumption
  refine .trans ?_ (Skerry.wr_keeps ..); refine .trans ?_ (Skerry.log_keeps ..); exact .refl _

theorem Skerry.enterStart_keeps (k : Skerry) (cause : Nat) (dark : Bool) : k.Keeps (Skerry.enterStart k cause dark) := by
  delta Skerry.enterStart; lift_lets -underBinder; intro x; clear_value x
  intro x; refine .cut (x := x) ?_ ?_; subst x; rotate_left; intro hx; clear_value x; refine .trans ?_ (.of_mk ..)
  refine .trans ?_ (Skerry.wr_keeps ..); assumption; refine .trans ?_ (Skerry.setPow_keeps ..); exact .refl _

theorem Skerry.park_keeps (k : Skerry) (tag : Nat) : k.Keeps (Skerry.park k tag) := by
  delta Skerry.park; lift_lets -underBinder; intro x; clear_value x; refine .ite ?_ ?_
  refine .trans ?_ (Skerry.setPow_keeps ..); refine .trans ?_ (Skerry.wr_keeps ..); exact .refl _; exact .refl _

theorem Skerry.runShown_keeps (k : Skerry) (cause : Nat) (prev : Nat) : k.Keeps (Skerry.runShown k cause prev) := by
  delta Skerry.runShown; lift_lets -underBinder
  intro x; refine .cut (x := x) ?_ ?_; subst x; rotate_left; intro hx; clear_value x
  refine .trans ?_ (Skerry.log_keeps ..); refine .trans ?_ (Skerry.wr_keeps ..); assumption
  refine .trans ?_ (Skerry.wr_keeps ..); refine .trans ?_ (Skerry.wr_keeps ..); exact .refl _

theorem Skerry.resetRegs_keeps (k : Skerry) : k.Keeps (Skerry.resetRegs k) := by
  delta Skerry.resetRegs; lift_lets -underBinder
  intro x; refine .cut (x := x) ?_ ?_; subst x; rotate_left; intro hx; clear_value x
  refine .trans ?_ (Skerry.wr_keeps ..); refine .trans ?_ (Skerry.wr_keeps ..); refine .trans ?_ (Skerry.wr_keeps ..)
  refine .trans ?_ (Skerry.wr_keeps ..); refine .trans ?_ (Skerry.wr_keeps ..); refine .trans ?_ (Skerry.wr_keeps ..)
  refine .trans ?_ (Skerry.wr_keeps ..)
  refine .trans ?_ (.foldl (fun s x => ?_) _ _); rotate_left; (try lift_lets -underBinder)
  refine .trans ?_ (Skerry.wrW_keeps ..); exact .refl _
  refine .trans ?_ (.of_parts (by first | exact id | exact twf_filter _ _ _ | exact fun _ => rfl) (by first | exact id | exact twf_filter _ _ _ | exact fun _ => rfl))
  exact .refl _; assumption

theorem Skerry.startFast_keeps (k : Skerry) : k.Keeps (Skerry.startFast k) := by
  delta Skerry.startFast; lift_lets -underBinder
  intro x; refine .cut (x := x) ?_ ?_; subst x; rotate_left; intro hx; clear_value x
  refine .trans ?_ (Skerry.heal_keeps ..); refine .trans ?_ (Skerry.setPow_keeps ..)
  refine .trans ?_ (Skerry.wr_keeps ..); refine .trans ?_ (Skerry.wr_keeps ..)
  refine .trans ?_ (.of_parts (by first | exact id | exact twf_filter _ _ _ | exact fun _ => rfl) (by first | exact id | exact twf_filter _ _ _ | exact fun _ => rfl))
  assumption; refine .trans ?_ (Skerry.resetRegs_keeps ..); exact .refl _

theorem Skerry.remoteReset_keeps (k : Skerry) : k.Keeps (Skerry.remoteReset k) := by
  delta Skerry.remoteReset; lift_lets -underBinder; intro x; clear_value x
  intro x; refine .cut (x := x) ?_ ?_; subst x; rotate_left; intro hx; clear_value x; refine .ite ?_ ?_
  refine .trans ?_ (Skerry.runShown_keeps ..); refine .trans ?_ (Skerry.startFast_keeps ..); assumption
  refine .trans ?_ (Skerry.log_keeps ..); exact .refl _; refine .ite ?_ ?_
  refine .trans ?_ (Skerry.endDischarge_keeps ..); exact .refl _; exact .refl _

theorem Skerry.runPending_keeps (k : Skerry) : k.Keeps (Skerry.runPending k) := by
  delta Skerry.runPending; lift_lets -underBinder; intro x; clear_value x; intro x; clear_value x
  intro x; clear_value x; intro x; refine .cut (x := x) ?_ ?_; subst x; rotate_left; intro hx; clear_value x
  refine .ite ?_ ?_; refine .trans ?_ (Skerry.startDischarge_keeps ..); refine .ite ?_ ?_; assumption
  refine .trans ?_ (Skerry.rank1_keeps ..); refine .trans ?_ (Skerry.latchInputs_keeps ..); assumption
  refine .ite ?_ ?_; assumption; refine .trans ?_ (Skerry.rank1_keeps ..)
  refine .trans ?_ (Skerry.latchInputs_keeps ..); assumption; refine .trans ?_ (Skerry.setPow_keeps ..); exact .refl _

theorem Skerry.wakeRun_keeps (k : Skerry) (cause : Nat) : k.Keeps (Skerry.wakeRun k cause) := by
  delta Skerry.wakeRun; lift_lets -underBinder; intro x
  intro x; refine .cut (x := x) ?_ ?_; subst x; rotate_left; intro hx; refine .trans ?_ (Skerry.runPending_keeps ..)
  refine .trans ?_ (Skerry.runShown_keeps ..); refine .trans ?_ (Skerry.wr_keeps ..)
  refine .trans ?_ (Skerry.setCmd_keeps ..); refine .trans ?_ (Skerry.wrW_keeps ..)
  refine .trans ?_ (Skerry.wrW_keeps ..); refine .trans ?_ (Skerry.wr_keeps ..)
  refine .trans ?_ (Skerry.cancelAfter_keeps ..); refine .trans ?_ (Skerry.freeSlot_keeps ..)
  refine .trans ?_ (Skerry.freeSlot_keeps ..); refine .trans ?_ (Skerry.setGate_keeps ..); refine .ite ?_ ?_
  refine .trans ?_ (Skerry.wr_keeps ..); refine .trans ?_ (Skerry.setPow_keeps ..); assumption
  refine .trans ?_ (Skerry.wr_keeps ..); refine .trans ?_ (Skerry.wr_keeps ..)
  refine .trans ?_ (Skerry.setPow_keeps ..); assumption; refine .trans ?_ (.of_mk ..); exact .refl _

theorem execCapUndervoltage_answers (g : Nat) (s : State) : s.Answers (execCapUndervoltage g s) := by
  delta execCapUndervoltage; refine .next ?_
  refine .trans ?_ (State.onCell_keeps _ _ _ ?_); rotate_left; beta_reduce; (try lift_lets -underBinder); split
  exact .refl _; refine .trans ?_ (Skerry.setPow_keeps ..); exact .refl _; refine .trans ?_ (Skerry.enterHold_keeps ..)
  exact .refl _; exact .refl _

theorem execCoreRestart_answers (g : Nat) (sram : Bool) (s : State) : s.Answers (execCoreRestart g sram s) := by
  delta execCoreRestart; refine .next ?_
  refine .trans ?_ (State.runCell_keeps _ _ _ (fun _ => ?_)); rotate_left; beta_reduce; (try lift_lets -underBinder)
  intro x; clear_value x; intro x; clear_value x
  intro x; refine .cut (x := x) ?_ ?_; subst x; rotate_left; intro hx; clear_value x; refine .ite ?_ ?_; exact .refl _
  refine .ite ?_ ?_; refine .trans ?_ (Skerry.log_keeps ..); refine .trans ?_ (Skerry.heal_keeps ..)
  refine .trans ?_ (Skerry.wr_keeps ..); refine .trans ?_ (Skerry.setFr_keeps ..); refine .trans ?_ (Skerry.wr_keeps ..)
  refine .trans ?_ (Skerry.setFr_keeps ..); refine .trans ?_ (Skerry.inc_keeps ..)
  refine .trans ?_ (Skerry.log_keeps ..); assumption; refine .ite ?_ ?_; refine .trans ?_ (Skerry.wr_keeps ..)
  refine .trans ?_ (Skerry.wr_keeps ..); refine .trans ?_ (Skerry.wr_keeps ..); refine .trans ?_ (Skerry.setFr_keeps ..)
  refine .trans ?_ (Skerry.inc_keeps ..); refine .trans ?_ (Skerry.log_keeps ..); assumption
  refine .trans ?_ (Skerry.wr_keeps ..); refine .trans ?_ (Skerry.wr_keeps ..); refine .trans ?_ (Skerry.setFr_keeps ..)
  refine .trans ?_ (Skerry.inc_keeps ..); refine .trans ?_ (Skerry.log_keeps ..); assumption; exact .refl _
  refine .trans ?_ (Skerry.latch_keeps ..); exact .refl _

theorem execDarkHoldExpiry_answers (g : Nat) (s : State) : s.Answers (execDarkHoldExpiry g s) := by
  delta execDarkHoldExpiry; refine .next ?_
  refine .trans ?_ (State.onCell_keeps _ _ _ ?_); rotate_left; beta_reduce; (try lift_lets -underBinder)
  refine .ite ?_ ?_; refine .trans ?_ (Skerry.enterHold_keeps ..); exact .refl _; exact .refl _; exact .refl _

theorem execDeepHoldWake_answers (g : Nat) (src : Nat) (s : State) : s.Answers (execDeepHoldWake g src s) := by
  delta execDeepHoldWake; refine .next ?_
  refine .trans ?_ (State.onCell_keeps _ _ _ ?_); rotate_left; beta_reduce; (try lift_lets -underBinder)
  intro x; clear_value x; intro x; refine .cut (x := x) ?_ ?_; subst x; rotate_left; intro hx; clear_value x
  refine .ite ?_ ?_; refine .trans ?_ (Skerry.enterStart_keeps ..); assumption; exact .refl _; exact .refl _
  refine .trans ?_ (Skerry.setPow_keeps ..); exact .refl _

theorem execDisStop_answers (g : Nat) (s : State) : s.Answers (execDisStop g s) := by
  delta execDisStop; refine .next ?_
  refine .trans ?_ (State.runCell_keeps _ _ _ (fun _ => ?_)); rotate_left; beta_reduce; (try lift_lets -underBinder)
  refine .trans ?_ (Skerry.disStop_keeps ..); exact .refl _; exact .refl _

theorem execDisTimeout_answers (g : Nat) (s : State) : s.Answers (execDisTimeout g s) := by
  delta execDisTimeout; refine .next ?_
  refine .trans ?_ (State.onCell_keeps _ _ _ ?_); rotate_left; beta_reduce; (try lift_lets -underBinder)
  intro x; clear_value x; intro x; refine .cut (x := x) ?_ ?_; subst x; rotate_left; intro hx; clear_value x
  refine .ite ?_ ?_; refine .trans ?_ (Skerry.log_keeps ..); assumption; exact .refl _; exact .refl _
  refine .trans ?_ (Skerry.latch_keeps ..); refine .trans ?_ (Skerry.wr_keeps ..)
  refine .trans ?_ (Skerry.endDischarge_keeps ..); exact .refl _

theorem execDischAfterExpiry_answers (g : Nat) (charged : Bool) (s : State) : s.Answers (execDischAfterExpiry g charged s)
    := by
  delta execDischAfterExpiry; refine .next ?_
  refine .trans ?_ (State.onCell_keeps _ _ _ ?_); rotate_left; beta_reduce; (try lift_lets -underBinder); split
  refine .trans ?_ (Skerry.startDischarge_keeps ..); exact .refl _; refine .trans ?_ (Skerry.wakeRun_keeps ..)
  refine .trans ?_ (Skerry.setPow_keeps ..); exact .refl _; refine .ite ?_ ?_
  refine .trans ?_ (Skerry.enterStart_keeps ..); refine .trans ?_ (Skerry.setPow_keeps ..); exact .refl _; exact .refl _
  exact .refl _; exact .refl _

theorem execDischargeDone_answers (g : Nat) (s : State) : s.Answers (execDischargeDone g s) := by
  delta execDischargeDone; refine .next ?_
  refine .trans ?_ (State.onCell_keeps _ _ _ ?_); rotate_left; beta_reduce; (try lift_lets -underBinder)
  intro x; refine .cut (x := x) ?_ ?_; subst x; rotate_left; intro hx; clear_value x; refine .ite ?_ ?_
  refine .trans ?_ (Skerry.enterHold_keeps ..); refine .trans ?_ (Skerry.log_keeps ..); assumption; exact .refl _
  exact .refl _; refine .trans ?_ (Skerry.wr_keeps ..); refine .trans ?_ (Skerry.endDischarge_keeps ..); exact .refl _

theorem execDischargePause_answers (g : Nat) (s : State) : s.Answers (execDischargePause g s) := by
  delta execDischargePause; refine .next ?_
  refine .trans ?_ (State.onCell_keeps _ _ _ ?_); rotate_left; beta_reduce; (try lift_lets -underBinder)
  refine .ite ?_ ?_; refine .trans ?_ (Skerry.wr_keeps ..); exact .refl _; exact .refl _; exact .refl _

theorem execDischargeResume_answers (g : Nat) (s : State) : s.Answers (execDischargeResume g s) := by
  delta execDischargeResume; refine .next ?_
  refine .trans ?_ (State.onCell_keeps _ _ _ ?_); rotate_left; beta_reduce; (try lift_lets -underBinder)
  refine .ite ?_ ?_; refine .trans ?_ (Skerry.wr_keeps ..); exact .refl _; exact .refl _; exact .refl _

theorem execFlybackFault_answers (g : Nat) (kind : Nat) (s : State) : s.Answers (execFlybackFault g kind s) := by
  delta execFlybackFault; refine .next ?_
  refine .trans ?_ (State.onCell_keeps _ _ _ ?_); rotate_left; beta_reduce; (try lift_lets -underBinder)
  intro x; refine .cut (x := x) ?_ ?_; subst x; rotate_left; intro hx; clear_value x; refine .ite ?_ ?_
  refine .ite ?_ ?_; refine .trans ?_ (Skerry.wr_keeps ..); refine .trans ?_ (Skerry.wr_keeps ..)
  refine .trans ?_ (Skerry.inc_keeps ..); refine .trans ?_ (Skerry.setPow_keeps ..); assumption
  refine .trans ?_ (Skerry.wr_keeps ..); refine .trans ?_ (Skerry.inc_keeps ..)
  refine .trans ?_ (Skerry.setPow_keeps ..); assumption; exact .refl _; exact .refl _; refine .ite ?_ ?_
  refine .trans ?_ (Skerry.wrW_keeps ..); exact .refl _; exact .refl _

theorem execFreightReset_answers (g : Nat) (addr : Nat) (s : State) : s.Answers (execFreightReset g addr s) := by
  delta execFreightReset; refine .next ?_
  refine .trans ?_ (State.runCell_keeps _ _ _ (fun _ => ?_)); rotate_left; beta_reduce; (try lift_lets -underBinder)
  refine .ite ?_ ?_; refine .trans ?_ (Skerry.remoteReset_keeps ..); exact .refl _; exact .refl _; exact .refl _

theorem execGateSupplyTimeout_answers (g : Nat) (j : Nat) (s : State) : s.Answers (execGateSupplyTimeout g j s) := by
  delta execGateSupplyTimeout; refine .next ?_
  refine .trans ?_ (State.runCell_keeps _ _ _ (fun _ => ?_)); rotate_left; beta_reduce; (try lift_lets -underBinder)
  intro x; refine .cut (x := x) ?_ ?_; subst x; rotate_left; intro hx; clear_value x; refine .ite ?_ ?_
  refine .trans ?_ (Skerry.log_keeps ..); refine .trans ?_ (Skerry.latch_keeps ..); assumption; exact .refl _
  exact .refl _; refine .trans ?_ (Skerry.wr_keeps ..); refine .trans ?_ (Skerry.gsLow_keeps ..); exact .refl _

theorem execPark_answers (g : Nat) (tag : Nat) (s : State) : s.Answers (execPark g tag s) := by
  delta execPark; refine .next ?_
  refine .trans ?_ (State.runCell_keeps _ _ _ (fun _ => ?_)); rotate_left; beta_reduce; (try lift_lets -underBinder)
  refine .trans ?_ (Skerry.park_keeps ..); exact .refl _; exact .refl _

theorem execParkEffect_answers (g : Nat) (late : Bool) (s : State) : s.Answers (execParkEffect g late s) := by
  delta execParkEffect; refine .next ?_
  refine .trans ?_ (State.runCell_keeps _ _ _ (fun _ => ?_)); rotate_left; beta_reduce; (try lift_lets -underBinder)
  intro x; refine .cut (x := x) ?_ ?_; subst x; rotate_left; intro hx; clear_value x; refine .ite ?_ ?_
  refine .ite ?_ ?_; refine .trans ?_ (Skerry.enterRepeat_keeps ..); assumption; assumption; exact .refl _
  exact .refl _; refine .trans ?_ (Skerry.wr_keeps ..); exact .refl _

theorem execParkEntry_answers (g : Nat) (s : State) : s.Answers (execParkEntry g s) := by
  delta execParkEntry; refine .next ?_
  refine .trans ?_ (State.runCell_keeps _ _ _ (fun _ => ?_)); rotate_left; beta_reduce; (try lift_lets -underBinder)
  refine .ite ?_ ?_; refine .trans ?_ (Skerry.enterRepeat_keeps ..); exact .refl _; exact .refl _; exact .refl _

theorem execRepeatWake_answers (g : Nat) (cause : Nat) (s : State) : s.Answers (execRepeatWake g cause s) := by
  delta execRepeatWake; refine .next ?_
  refine .trans ?_ (State.onCell_keeps _ _ _ ?_); rotate_left; beta_reduce; (try lift_lets -underBinder)
  intro x; clear_value x; refine .ite ?_ ?_; refine .trans ?_ (Skerry.wakeRun_keeps ..)
  refine .trans ?_ (Skerry.setPow_keeps ..); exact .refl _; exact .refl _; exact .refl _

theorem execRetryEnd_answers (g : Nat) (s : State) : s.Answers (execRetryEnd g s) := by
  delta execRetryEnd; refine .next ?_
  refine .trans ?_ (State.onCell_keeps _ _ _ ?_); rotate_left; beta_reduce; (try lift_lets -underBinder)
  refine .ite ?_ ?_; refine .trans ?_ (Skerry.wr_keeps ..); exact .refl _; exact .refl _; exact .refl _

theorem execRunEntry_answers (g : Nat) (gs : Nat) (fb : Bool) (s : State) : s.Answers (execRunEntry g gs fb s) := by
  delta execRunEntry; refine .next ?_
  refine .trans ?_ (State.onCell_keeps _ _ _ ?_); rotate_left; beta_reduce; (try lift_lets -underBinder)
  intro x; clear_value x; intro x; clear_value x
  intro x; refine .cut (x := x) ?_ ?_; subst x; rotate_left; intro hx; clear_value x; refine .ite ?_ ?_
  refine .trans ?_ (Skerry.runPending_keeps ..); refine .trans ?_ (Skerry.setPow_keeps ..); refine .ite ?_ ?_
  refine .ite ?_ ?_; refine .trans ?_ (Skerry.wr_keeps ..); refine .trans ?_ (Skerry.wr_keeps ..)
  refine .trans ?_ (Skerry.runShown_keeps ..); refine .trans ?_ (Skerry.wr_keeps ..)
  refine .trans ?_ (Skerry.wr_keeps ..); assumption; refine .trans ?_ (Skerry.heal_keeps ..)
  refine .trans ?_ (Skerry.log_keeps ..); refine .trans ?_ (Skerry.setPow_keeps ..)
  refine .trans ?_ (Skerry.wr_keeps ..); refine .trans ?_ (Skerry.wr_keeps ..)
  refine .trans ?_ (Skerry.runShown_keeps ..); refine .trans ?_ (Skerry.wr_keeps ..)
  refine .trans ?_ (Skerry.wr_keeps ..); assumption; refine .trans ?_ (Skerry.runShown_keeps ..)
  refine .trans ?_ (Skerry.wr_keeps ..); refine .trans ?_ (Skerry.wr_keeps ..); assumption; exact .refl _; exact .refl _
  refine .trans ?_ (Skerry.startFast_keeps ..); exact .refl _

theorem execSoftStartEnd_answers (g : Nat) (s : State) : s.Answers (execSoftStartEnd g s) := by
  delta execSoftStartEnd; refine .next ?_
  refine .trans ?_ (State.onCell_keeps _ _ _ ?_); rotate_left; beta_reduce; (try lift_lets -underBinder)
  refine .ite ?_ ?_; refine .trans ?_ (Skerry.wr_keeps ..); exact .refl _; exact .refl _; exact .refl _

theorem execSramClearDone_answers (g : Nat) (s : State) : s.Answers (execSramClearDone g s) := by
  delta execSramClearDone; refine .next ?_
  refine .trans ?_ (State.runCell_keeps _ _ _ (fun _ => ?_)); rotate_left; beta_reduce; (try lift_lets -underBinder)
  intro x; clear_value x; refine .ite ?_ ?_; exact .refl _; refine .trans ?_ (Skerry.wr_keeps ..)
  refine .trans ?_ (Skerry.setFr_keeps ..); exact .refl _; exact .refl _

theorem execVretLoss_answers (g : Nat) (s : State) : s.Answers (execVretLoss g s) := by
  delta execVretLoss; refine .next ?_
  refine .trans ?_ (State.putCell_keeps _ _ _ ?_); rotate_left; (try lift_lets -underBinder)
  exact ⟨fun _ => Skerry.dark_wf⟩; exact .refl _

theorem execVretPowerUp_answers (g : Nat) (ctype : Nat) (vfs : Nat) (charged : Bool) (s : State) : s.Answers
    (execVretPowerUp g ctype vfs charged s) := by
  delta execVretPowerUp; refine .next ?_
  refine .trans ?_ (State.onCell_keeps _ _ _ ?_); rotate_left; beta_reduce; (try lift_lets -underBinder)
  intro x; refine .cut (x := x) ?_ ?_; subst x; rotate_left; intro hx; clear_value x; refine .ite ?_ ?_
  refine .ite ?_ ?_; refine .trans ?_ (Skerry.enterStart_keeps ..); refine .trans ?_ (Skerry.log_keeps ..)
  refine .trans ?_ (Skerry.setPow_keeps ..); assumption; refine .trans ?_ (Skerry.setPow_keeps ..)
  refine .trans ?_ (Skerry.enterHold_keeps ..); refine .trans ?_ (Skerry.log_keeps ..)
  refine .trans ?_ (Skerry.setPow_keeps ..); assumption; exact .refl _; exact .refl _; exact ⟨fun _ => Skerry.dark_wf⟩

end Sys2Proof.Machine
end

