-- ==== Sys2Proof/Laws/KeepsB.lean ====
section
/-! SUPPORT. Every operation and every command of Machine/SkTime.lean, Conv.lean, ReefOps.lean, Plan.lean, Reg.lean, Run.lean, Loop.lean keeps the queue and the canonical forms: one lemma each. -/

namespace Sys2Proof.Machine
open Sys2Proof

theorem Skerry.clkTo_keeps (k : Skerry) (c : Clk) : k.Keeps (Skerry.clkTo k c) := by
  delta Skerry.clkTo; refine .trans ?_ (.of_mk ..); exact .refl _

theorem Skerry.refuse_keeps (k : Skerry) (e : Int) : k.Keeps (Skerry.refuse k e) := by
  delta Skerry.refuse; lift_lets -underBinder; intro x; clear_value x
  intro x; refine .cut (x := x) ?_ ?_; subst x; rotate_left; intro hx; clear_value x
  refine .trans ?_ (Skerry.setCmd_keeps ..); refine .trans ?_ (Skerry.inc_keeps ..)
  refine .trans ?_ (Skerry.wrS_keeps ..); refine .trans ?_ (Skerry.wr_keeps ..); refine .trans ?_ (Skerry.wr_keeps ..)
  refine .trans ?_ (Skerry.wr_keeps ..); assumption; refine .trans ?_ (Skerry.clkTo_keeps ..); exact .refl _

theorem Skerry.step_keeps (k : Skerry) (e : Int) : k.Keeps (Skerry.step k e) := by
  delta Skerry.step; lift_lets -underBinder; intro x; clear_value x
  intro x; refine .cut (x := x) ?_ ?_; subst x; rotate_left; intro hx; clear_value x
  refine .trans ?_ (Skerry.wr_keeps ..); refine .trans ?_ (Skerry.wr_keeps ..); refine .trans ?_ (.of_mk ..); assumption
  refine .trans ?_ (Skerry.clkTo_keeps ..); exact .refl _

theorem Skerry.setRate_keeps (k : Skerry) (r : Int) : k.Keeps (Skerry.setRate k r) := by
  delta Skerry.setRate; lift_lets -underBinder; intro x; clear_value x; refine .trans ?_ (Skerry.wrS_keeps ..)
  refine .trans ?_ (Skerry.clkTo_keeps ..); exact .refl _

theorem Skerry.slewBy_keeps (k : Skerry) (e : Int) : k.Keeps (Skerry.slewBy k e) := by
  delta Skerry.slewBy; lift_lets -underBinder; intro x; clear_value x; intro x; clear_value x
  refine .trans ?_ (Skerry.wr_keeps ..); refine .trans ?_ (Skerry.clkTo_keeps ..); exact .refl _

theorem Skerry.sample_keeps (k : Skerry) (e : Int) : k.Keeps (Skerry.sample k e) := by
  delta Skerry.sample; lift_lets -underBinder; intro x; clear_value x; intro x; clear_value x; intro x; clear_value x
  intro x; refine .cut (x := x) ?_ ?_; subst x; rotate_left; intro hx; clear_value x; refine .ite ?_ ?_
  refine .trans ?_ (Skerry.refuse_keeps ..); assumption; refine .ite ?_ ?_; refine .trans ?_ (Skerry.setCmd_keeps ..)
  refine .trans ?_ (Skerry.wr_keeps ..); refine .trans ?_ (Skerry.wr_keeps ..); refine .trans ?_ (Skerry.step_keeps ..)
  refine .trans ?_ (Skerry.setCmd_keeps ..); assumption; refine .ite ?_ ?_; refine .trans ?_ (Skerry.wr_keeps ..)
  refine .ite ?_ ?_; refine .trans ?_ (Skerry.wr_keeps ..); refine .trans ?_ (Skerry.wr_keeps ..)
  refine .trans ?_ (Skerry.slewBy_keeps ..); refine .trans ?_ (Skerry.setRate_keeps ..)
  refine .trans ?_ (Skerry.setCmd_keeps ..); assumption; refine .trans ?_ (Skerry.wr_keeps ..)
  refine .trans ?_ (Skerry.slewBy_keeps ..); refine .trans ?_ (Skerry.setRate_keeps ..)
  refine .trans ?_ (Skerry.setCmd_keeps ..); assumption; refine .ite ?_ ?_; refine .trans ?_ (Skerry.wr_keeps ..)
  refine .trans ?_ (Skerry.wr_keeps ..); refine .trans ?_ (Skerry.slewBy_keeps ..)
  refine .trans ?_ (Skerry.setRate_keeps ..); refine .trans ?_ (Skerry.setCmd_keeps ..); assumption
  refine .trans ?_ (Skerry.wr_keeps ..); refine .trans ?_ (Skerry.slewBy_keeps ..)
  refine .trans ?_ (Skerry.setRate_keeps ..); refine .trans ?_ (Skerry.setCmd_keeps ..); assumption
  refine .trans ?_ (Skerry.wrS_keeps ..); exact .refl _

theorem Skerry.slewEnd_keeps (k : Skerry) : k.Keeps (Skerry.slewEnd k) := by
  delta Skerry.slewEnd; lift_lets -underBinder; intro x; clear_value x; refine .trans ?_ (Skerry.wr_keeps ..)
  refine .trans ?_ (Skerry.clkTo_keeps ..); exact .refl _

theorem execSkerryReacquire_answers (g : Nat) (s : State) : s.Answers (execSkerryReacquire g s) := by
  delta execSkerryReacquire; refine .next ?_
  refine .trans ?_ (State.runCell_keeps _ _ _ (fun _ => ?_)); rotate_left; beta_reduce; (try lift_lets -underBinder)
  intro x; clear_value x; intro x; refine .cut (x := x) ?_ ?_; subst x; rotate_left; intro hx; clear_value x
  refine .ite ?_ ?_; refine .trans ?_ (Skerry.log_keeps ..); refine .trans ?_ (Skerry.setCmd_keeps ..)
  refine .trans ?_ (Skerry.wr_keeps ..); refine .trans ?_ (Skerry.wr_keeps ..); assumption; exact .refl _; exact .refl _
  refine .trans ?_ (Skerry.wr_keeps ..); refine .trans ?_ (Skerry.step_keeps ..); exact .refl _

theorem Skerry.putRes_keeps (k : Skerry) (r : Res) : k.Keeps (Skerry.putRes k r) := by
  delta Skerry.putRes; lift_lets -underBinder
  intro x; refine .cut (x := x) ?_ ?_; subst x; rotate_left; intro hx; clear_value x
  refine .trans ?_ (Skerry.wr_keeps ..); refine .trans ?_ (Skerry.wr_keeps ..); refine .trans ?_ (Skerry.wr_keeps ..)
  assumption; refine .trans ?_ (Skerry.wr_keeps ..); refine .trans ?_ (Skerry.wr_keeps ..); exact .refl _

theorem Skerry.setConv_keeps (k : Skerry) (c : Conv) : k.Keeps (Skerry.setConv k c) := by
  delta Skerry.setConv; refine .trans ?_ (.of_mk ..); exact .refl _

theorem Skerry.convClose_keeps (k : Skerry) (f : Nat → Int) (j : Nat) (len : Nat) : k.Keeps (Skerry.convClose k f j len)
    := by
  delta Skerry.convClose; lift_lets -underBinder; intro x; clear_value x; split
  refine .trans ?_ (.foldl (fun s x => ?_) _ _); rotate_left; (try lift_lets -underBinder)
  refine .trans ?_ (Skerry.putRes_keeps ..); exact .refl _; refine .trans ?_ (Skerry.setConv_keeps ..); exact .refl _

theorem Skerry.convShow_keeps (k : Skerry) : k.Keeps (Skerry.convShow k) := by
  delta Skerry.convShow; lift_lets -underBinder; intro x; clear_value x; intro x; clear_value x
  intro x; refine .cut (x := x) ?_ ?_; subst x; rotate_left; intro hx; clear_value x
  refine .trans ?_ (Skerry.wr_keeps ..); refine .trans ?_ (Skerry.wr_keeps ..); assumption
  refine .trans ?_ (Skerry.wr_keeps ..); refine .trans ?_ (Skerry.wr_keeps ..); exact .refl _

theorem Skerry.convCycle_keeps (k : Skerry) (f : Nat → Int) : k.Keeps (Skerry.convCycle k f) := by
  delta Skerry.convCycle; lift_lets -underBinder
  intro x; refine .cut (x := x) ?_ ?_; subst x; rotate_left; intro hx; clear_value x
  refine .trans ?_ (Skerry.convShow_keeps ..); refine .ite ?_ ?_; refine .trans ?_ (Skerry.setConv_keeps ..)
  refine .trans ?_ (.foldl (fun s x => ?_) _ _); rotate_left; (try lift_lets -underBinder); intro x; clear_value x
  refine .trans ?_ (Skerry.setConv_keeps ..); exact .refl _
  refine .trans ?_ (.foldl (fun s x => ?_) _ _); rotate_left; (try lift_lets -underBinder); intro x; clear_value x
  refine .trans ?_ (Skerry.setConv_keeps ..); exact .refl _; refine .trans ?_ (Skerry.convClose_keeps ..); exact .refl _
  assumption; assumption

theorem Skerry.convSub_keeps (k : Skerry) (f : Nat → Int) (dur : Nat) (qs : List (Nat × Int × Int)) : k.Keeps
    (Skerry.convSub k f dur qs) := by
  delta Skerry.convSub; lift_lets -underBinder
  intro x; refine .cut (x := x) ?_ ?_; subst x; rotate_left; intro hx; clear_value x
  refine .trans ?_ (Skerry.convShow_keeps ..); refine .trans ?_ (Skerry.setConv_keeps ..)
  refine .trans ?_ (.foldl (fun s x => ?_) _ _); rotate_left; (try lift_lets -underBinder); split
  refine .trans ?_ (.foldl (fun s x => ?_) _ _); rotate_left; (try lift_lets -underBinder)
  refine .trans ?_ (Skerry.putRes_keeps ..); exact .refl _
  refine .trans ?_ (.foldl (fun s x => ?_) _ _); rotate_left; (try lift_lets -underBinder); intro x; clear_value x
  split
  refine .trans ?_ (Skerry.putRes_keeps ..); refine .trans ?_ (Skerry.setConv_keeps ..); exact .refl _; assumption
  refine .trans ?_ (Skerry.setConv_keeps ..); exact .refl _; exact .refl _

theorem Skerry.convTrigger_keeps (k : Skerry) (n : Nat) : k.Keeps (Skerry.convTrigger k n) := by
  delta Skerry.convTrigger; split; lift_lets -underBinder
  intro x; refine .cut (x := x) ?_ ?_; subst x; rotate_left; intro hx; clear_value x
  refine .trans ?_ (Skerry.convShow_keeps ..); refine .ite ?_ ?_; refine .trans ?_ (Skerry.inc_keeps ..); assumption
  assumption; refine .trans ?_ (Skerry.setConv_keeps ..); exact .refl _

theorem Skerry.writeConvTrig_keeps (k : Skerry) (v : Nat) : k.Keeps (Skerry.writeConvTrig k v) := by
  delta Skerry.writeConvTrig; lift_lets -underBinder
  intro x; refine .cut (x := x) ?_ ?_; subst x; rotate_left; intro hx; clear_value x; refine .ite ?_ ?_
  refine .trans ?_ (Skerry.convTrigger_keeps ..); assumption; assumption; refine .ite ?_ ?_
  refine .trans ?_ (Skerry.convTrigger_keeps ..); exact .refl _; exact .refl _

theorem Skerry.writeMainsSw_keeps (k : Skerry) (v : Nat) : k.Keeps (Skerry.writeMainsSw k v) := by
  delta Skerry.writeMainsSw; refine .ite ?_ ?_; refine .trans ?_ (Skerry.wr_keeps ..); exact .refl _; exact .refl _

theorem State.setConv_keeps (s : State) (c : Conv) : s.Keeps (State.setConv s c) := by
  delta State.setConv; refine .trans ?_ (.of_mk ..); exact .refl _

theorem State.convShow_keeps (s : State) (n : Nat) : s.Keeps (State.convShow s n) := by
  delta State.convShow; lift_lets -underBinder; intro x; clear_value x
  intro x; refine .cut (x := x) ?_ ?_; subst x; rotate_left; intro hx; clear_value x
  refine .trans ?_ (State.wr_keeps ..); refine .trans ?_ (State.wr_keeps ..); assumption
  refine .trans ?_ (State.wr_keeps ..); refine .trans ?_ (State.wr_keeps ..); exact .refl _

theorem State.convTrigger_keeps (s : State) (n : Nat) : s.Keeps (State.convTrigger s n) := by
  delta State.convTrigger; split; lift_lets -underBinder
  intro x; refine .cut (x := x) ?_ ?_; subst x; rotate_left; intro hx; clear_value x
  refine .trans ?_ (State.convShow_keeps ..); refine .ite ?_ ?_; refine .trans ?_ (State.inc_keeps ..); assumption
  assumption; refine .trans ?_ (State.setConv_keeps ..); exact .refl _

theorem State.convQueue_keeps (s : State) (n : Nat) (q : List (List Byte)) : s.Keeps (State.convQueue s n q) := by
  delta State.convQueue; lift_lets -underBinder; intro x; clear_value x; refine .trans ?_ (State.setConv_keeps ..)
  exact .refl _

theorem State.writeMainsSw_keeps (s : State) (p : Port) (v : Nat) : s.Keeps (State.writeMainsSw s p v) := by
  delta State.writeMainsSw; refine .ite ?_ ?_; refine .trans ?_ (State.wr_keeps ..); exact .refl _
  refine .trans ?_ (State.range_keeps ..); exact .refl _

theorem State.writeConvTrig_keeps (s : State) (v : Nat) : s.Keeps (State.writeConvTrig s v) := by
  delta State.writeConvTrig; refine .trans ?_ (.foldl (fun s x => ?_) _ _); rotate_left; (try lift_lets -underBinder)
  refine .ite ?_ ?_; refine .trans ?_ (State.convTrigger_keeps ..); exact .refl _; exact .refl _; exact .refl _

theorem State.writeConvCfg_keeps (s : State) (p : Port) (n : Nat) (v : Word) : s.Keeps (State.writeConvCfg s p n v) := by
  delta State.writeConvCfg; refine .ite ?_ ?_; refine .trans ?_ (State.range_keeps ..); exact .refl _
  refine .trans ?_ (State.convShow_keeps ..); refine .trans ?_ (State.wrW_keeps ..); exact .refl _

theorem State.writeStream_keeps (s : State) (p : Port) (n : Nat) (v : Nat) : s.Keeps (State.writeStream s p n v) := by
  delta State.writeStream; lift_lets -underBinder
  intro x; refine .cut (x := x) ?_ ?_; subst x; rotate_left; intro hx; clear_value x; refine .ite ?_ ?_
  refine .trans ?_ (State.range_keeps ..); exact .refl _; refine .ite ?_ ?_; refine .trans ?_ (State.wr_keeps ..)
  refine .trans ?_ (State.setConv_keeps ..); refine .ite ?_ ?_; refine .trans ?_ (State.wr_keeps ..); assumption
  assumption; refine .trans ?_ (State.setConv_keeps ..); refine .ite ?_ ?_; refine .trans ?_ (State.wr_keeps ..)
  assumption; assumption; refine .trans ?_ (State.wr_keeps ..); refine .trans ?_ (State.wr_keeps ..); exact .refl _

theorem State.codesUsed_keeps (s : State) : s.Keeps (State.codesUsed s) := by
  delta State.codesUsed; refine .trans ?_ (.of_mk ..); exact .refl _

theorem State.convOff_keeps (s : State) (n : Nat) : s.Keeps (State.convOff s n) := by
  delta State.convOff; refine .trans ?_ (.foldl (fun s x => ?_) _ _); rotate_left; (try lift_lets -underBinder)
  refine .trans ?_ (.foldl (fun s x => ?_) _ _); rotate_left; (try lift_lets -underBinder)
  refine .trans ?_ (State.wrW_keeps ..); refine .trans ?_ (State.wrW_keeps ..); exact .refl _; exact .refl _
  exact .refl _

theorem State.convNow_keeps (s : State) (n : Nat) (was : Nat) : s.Keeps (State.convNow s n was) := by
  delta State.convNow; lift_lets -underBinder
  intro x; refine .cut (x := x) ?_ ?_; subst x; rotate_left; intro hx; clear_value x
  refine .trans ?_ (State.convShow_keeps ..); assumption; refine .ite ?_ ?_; refine .trans ?_ (State.convOff_keeps ..)
  exact .refl _; exact .refl _

theorem State.noteRes_keeps (s : State) (r : Res) : s.Keeps (State.noteRes s r) := by
  delta State.noteRes; lift_lets -underBinder; intro x; clear_value x; intro x; clear_value x
  refine .trans ?_ (State.setConv_keeps ..); exact .refl _

theorem State.streamPut_keeps (s : State) (n : Nat) (rec : List Byte) : s.Keeps (State.streamPut s n rec) := by
  delta State.streamPut; lift_lets -underBinder; intro x; clear_value x
  intro x; refine .cut (x := x) ?_ ?_; subst x; rotate_left; intro hx; clear_value x; refine .ite ?_ ?_
  refine .trans ?_ (State.inc_keeps ..); exact .refl _; refine .ite ?_ ?_; refine .trans ?_ (State.raise_keeps ..)
  refine .trans ?_ (State.wr_keeps ..); refine .trans ?_ (State.wr_keeps ..); assumption; assumption
  refine .trans ?_ (State.convQueue_keeps ..); exact .refl _

theorem State.stream_keeps (s : State) (f : Int) (r : Res) : s.Keeps (State.stream s f r) := by
  delta State.stream; lift_lets -underBinder; intro x; clear_value x; intro x; clear_value x; intro x; clear_value x
  intro x; clear_value x; intro x; clear_value x; intro x; clear_value x; intro x; clear_value x; intro x; clear_value x
  intro x; clear_value x; intro x; refine .cut (x := x) ?_ ?_; subst x; rotate_left; intro hx; clear_value x
  refine .ite ?_ ?_; exact .refl _; refine .ite ?_ ?_; refine .trans ?_ (State.streamPut_keeps ..); assumption
  assumption; refine .trans ?_ (State.setConv_keeps ..); exact .refl _

theorem State.putRes_keeps (s : State) (f : Nat → Int) (r : Res) : s.Keeps (State.putRes s f r) := by
  delta State.putRes; lift_lets -underBinder
  intro x; refine .cut (x := x) ?_ ?_; subst x; rotate_left; intro hx; clear_value x
  refine .trans ?_ (State.stream_keeps ..); refine .ite ?_ ?_; refine .trans ?_ (State.wr_keeps ..); refine .ite ?_ ?_
  refine .trans ?_ (State.wr_keeps ..); refine .trans ?_ (State.incW_keeps ..); refine .trans ?_ (State.wr_keeps ..)
  refine .trans ?_ (State.wr_keeps ..); refine .trans ?_ (State.wr_keeps ..); refine .trans ?_ (State.wr_keeps ..)
  assumption; refine .trans ?_ (State.incW_keeps ..); refine .trans ?_ (State.wr_keeps ..)
  refine .trans ?_ (State.wr_keeps ..); refine .trans ?_ (State.wr_keeps ..); refine .trans ?_ (State.wr_keeps ..)
  assumption; refine .ite ?_ ?_; refine .trans ?_ (State.wr_keeps ..); refine .trans ?_ (State.incW_keeps ..)
  refine .trans ?_ (State.wr_keeps ..); refine .trans ?_ (State.wr_keeps ..); refine .trans ?_ (State.wr_keeps ..)
  refine .trans ?_ (State.wr_keeps ..); assumption; refine .trans ?_ (State.incW_keeps ..)
  refine .trans ?_ (State.wr_keeps ..); refine .trans ?_ (State.wr_keeps ..); refine .trans ?_ (State.wr_keeps ..)
  refine .trans ?_ (State.wr_keeps ..); assumption; refine .trans ?_ (State.noteRes_keeps ..); exact .refl _

theorem State.putAll_keeps (s : State) (f : Nat → Int) (rs : List Res) : s.Keeps (State.putAll s f rs) := by
  delta State.putAll; refine .trans ?_ (.foldl (fun s x => ?_) _ _); rotate_left; (try lift_lets -underBinder)
  refine .trans ?_ (State.putRes_keeps ..); exact .refl _; exact .refl _

theorem State.convBoundary_keeps (s : State) : s.Keeps (State.convBoundary s) := by
  delta State.convBoundary; lift_lets -underBinder
  intro x; refine .cut (x := x) ?_ ?_; subst x; rotate_left; intro hx; clear_value x
  refine .trans ?_ (State.codesUsed_keeps ..); refine .trans ?_ (State.setConv_keeps ..); assumption
  refine .trans ?_ (.foldl (fun s x => ?_) _ _); rotate_left; (try lift_lets -underBinder); intro x; clear_value x
  split
  refine .trans ?_ (State.convNow_keeps ..); refine .trans ?_ (State.putAll_keeps ..)
  refine .trans ?_ (State.setConv_keeps ..); exact .refl _; exact .refl _

theorem State.convClose_keeps (s : State) (k : Nat) (len : Nat) (only : Bool) : s.Keeps (State.convClose s k len only) :=
    by
  delta State.convClose; lift_lets -underBinder; intro x; clear_value x; split
  refine .trans ?_ (State.codesUsed_keeps ..); refine .trans ?_ (State.putAll_keeps ..)
  refine .trans ?_ (State.setConv_keeps ..); exact .refl _

theorem State.mainsAccept_keeps (s : State) (t : Int) : s.Keeps (State.mainsAccept s t) := by
  delta State.mainsAccept; lift_lets -underBinder; intro x; clear_value x
  intro x; refine .cut (x := x) ?_ ?_; subst x; rotate_left; intro hx; clear_value x; refine .ite ?_ ?_
  refine .trans ?_ (State.wr_keeps ..); refine .trans ?_ (State.setConv_keeps ..); assumption; refine .ite ?_ ?_
  refine .trans ?_ (State.wr_keeps ..); refine .trans ?_ (State.setConv_keeps ..); assumption
  refine .trans ?_ (State.setConv_keeps ..); assumption; refine .trans ?_ (State.wr_keeps ..); exact .refl _

theorem State.mainsPeriod_keeps (s : State) (t : Int) : s.Keeps (State.mainsPeriod s t) := by
  delta State.mainsPeriod; lift_lets -underBinder; intro x; clear_value x; intro x; clear_value x; refine .ite ?_ ?_
  refine .trans ?_ (State.mainsAccept_keeps ..); exact .refl _; refine .trans ?_ (State.inc_keeps ..)
  refine .trans ?_ (State.setConv_keeps ..); exact .refl _

theorem State.mainsTrack_keeps (s : State) : s.Keeps (State.mainsTrack s) := by
  delta State.mainsTrack; lift_lets -underBinder; intro x; clear_value x; intro x; clear_value x; intro x; clear_value x
  intro x; clear_value x; intro x; clear_value x; intro x; clear_value x; intro x; clear_value x
  intro x; refine .cut (x := x) ?_ ?_; subst x; rotate_left; intro hx; clear_value x; refine .ite ?_ ?_; exact .refl _
  refine .ite ?_ ?_; refine .trans ?_ (State.setConv_keeps ..); exact .refl _; split; refine .ite ?_ ?_
  lift_lets -underBinder; intro x; clear_value x; intro x; clear_value x; intro x; clear_value x
  intro x; refine .cut (x := x) ?_ ?_; subst x; rotate_left; intro hx; clear_value x; split
  refine .trans ?_ (State.mainsPeriod_keeps ..); assumption; assumption; assumption; assumption
  refine .trans ?_ (State.setConv_keeps ..); exact .refl _; refine .trans ?_ (State.setConv_keeps ..); assumption

theorem State.mainsStart_keeps (s : State) : s.Keeps (State.mainsStart s) := by
  delta State.mainsStart; lift_lets -underBinder; intro x; clear_value x; intro x; clear_value x
  refine .trans ?_ (State.wr_keeps ..); refine .trans ?_ (State.setConv_keeps ..); exact .refl _

theorem State.convCycle_keeps (s : State) : s.Keeps (State.convCycle s) := by
  delta State.convCycle; lift_lets -underBinder
  intro x; refine .cut (x := x) ?_ ?_; subst x; rotate_left; intro hx; clear_value x; refine .ite ?_ ?_
  refine .trans ?_ (State.mainsStart_keeps ..); refine .trans ?_ (State.mainsTrack_keeps ..)
  refine .trans ?_ (.foldl (fun s x => ?_) _ _); rotate_left; (try lift_lets -underBinder); intro x; clear_value x
  intro x; clear_value x; refine .trans ?_ (State.convNow_keeps ..); refine .trans ?_ (State.setConv_keeps ..)
  exact .refl _; refine .trans ?_ (State.mainsTrack_keeps ..)
  refine .trans ?_ (.foldl (fun s x => ?_) _ _); rotate_left; (try lift_lets -underBinder); intro x; clear_value x
  intro x; clear_value x; refine .trans ?_ (State.convNow_keeps ..); refine .trans ?_ (State.setConv_keeps ..)
  exact .refl _; refine .trans ?_ (State.convClose_keeps ..); exact .refl _; assumption; assumption

theorem State.convFast_keeps (s : State) (dur : Nat) (qs : List (Nat × Int × Int)) : s.Keeps (State.convFast s dur qs) :=
    by
  delta State.convFast; refine .trans ?_ (.foldl (fun s x => ?_) _ _); rotate_left; (try lift_lets -underBinder)
  intro x; clear_value x; split; refine .trans ?_ (State.putRes_keeps ..); refine .trans ?_ (State.setConv_keeps ..)
  exact .refl _; exact .refl _

theorem State.convPeriod_keeps (s : State) : s.Keeps (State.convPeriod s) := by
  delta State.convPeriod; refine .trans ?_ (State.convClose_keeps ..); exact .refl _

theorem execConvCfgWrite_answers (p : Port) (n : Nat) (v : Word) (s : State) : s.Answers (execConvCfgWrite p n v s) := by
  delta execConvCfgWrite; refine .ite ?_ ?_; refine .next ?_; refine .trans ?_ (State.writeConvCfg_keeps ..)
  exact .refl _; refine .next ?_; exact .refl _

theorem execConvMainsSw_answers (c : Chip) (p : Port) (v : Word) (s : State) : s.Answers (execConvMainsSw c p v s) := by
  delta execConvMainsSw; split; refine .next ?_; refine .trans ?_ (State.writeMainsSw_keeps ..); exact .refl _
  refine .next ?_
  refine .trans ?_ (State.runCell_keeps _ _ _ (fun _ => ?_)); rotate_left; beta_reduce; (try lift_lets -underBinder)
  refine .trans ?_ (Skerry.writeMainsSw_keeps ..); exact .refl _; exact .refl _

theorem execConvTrig_answers (c : Chip) (v : Word) (s : State) : s.Answers (execConvTrig c v s) := by
  delta execConvTrig; split; refine .next ?_; refine .trans ?_ (State.writeConvTrig_keeps ..); exact .refl _
  refine .next ?_
  refine .trans ?_ (State.runCell_keeps _ _ _ (fun _ => ?_)); rotate_left; beta_reduce; (try lift_lets -underBinder)
  refine .trans ?_ (Skerry.writeConvTrig_keeps ..); exact .refl _; exact .refl _

theorem execMainsTrackTimeout_answers (s : State) : s.Answers (execMainsTrackTimeout s) := by
  delta execMainsTrackTimeout; lift_lets -underBinder
  intro x; refine .cut (x := x) ?_ ?_; subst x; rotate_left; intro hx; clear_value x; refine .ite ?_ ?_; refine .next ?_
  refine .trans ?_ (State.raise_keeps ..); refine .trans ?_ (State.setConv_keeps ..); assumption; refine .next ?_
  exact .refl _; refine .trans ?_ (State.wr_keeps ..); refine .trans ?_ (State.wr_keeps ..); exact .refl _

theorem execMainsWindowEnd_answers (c : Chip) (s : State) : s.Answers (execMainsWindowEnd c s) := by
  delta execMainsWindowEnd; split; refine .ite ?_ ?_; refine .next ?_; refine .trans ?_ (State.mainsStart_keeps ..)
  refine .trans ?_ (State.convClose_keeps ..); exact .refl _; refine .next ?_; exact .refl _; lift_lets -underBinder
  intro x; subst x; (try beta_reduce); (try lift_lets -underBinder); refine .next ?_
  refine .trans ?_ (State.codesUsed_keeps ..)
  refine .trans ?_ (State.runCell_keeps _ _ _ (fun _ => ?_)); rotate_left; beta_reduce; (try lift_lets -underBinder)
  intro x; refine .cut (x := x) ?_ ?_; subst x; rotate_left; intro hx; clear_value x; refine .ite ?_ ?_
  refine .trans ?_ (Skerry.setConv_keeps ..); assumption; exact .refl _; exact .refl _
  refine .trans ?_ (Skerry.convClose_keeps ..); exact .refl _

theorem execScanEnd_answers (c : Chip) (n : Nat) (s : State) : s.Answers (execScanEnd c n s) := by
  delta execScanEnd; split; refine .ite ?_ ?_; lift_lets -underBinder; intro x; clear_value x; split; refine .next ?_
  refine .trans ?_ (State.codesUsed_keeps ..); refine .trans ?_ (State.convNow_keeps ..)
  refine .trans ?_ (State.putRes_keeps ..); refine .trans ?_ (State.setConv_keeps ..); exact .refl _; refine .next ?_
  exact .refl _; lift_lets -underBinder; intro x; subst x; (try beta_reduce); (try lift_lets -underBinder)
  refine .next ?_; refine .trans ?_ (State.codesUsed_keeps ..)
  refine .trans ?_ (State.runCell_keeps _ _ _ (fun _ => ?_)); rotate_left; beta_reduce; (try lift_lets -underBinder)
  refine .ite ?_ ?_; split; refine .trans ?_ (Skerry.convShow_keeps ..); refine .trans ?_ (Skerry.putRes_keeps ..)
  refine .trans ?_ (Skerry.setConv_keeps ..); exact .refl _; exact .refl _; exact .refl _

theorem execStreamEnable_answers (p : Port) (n : Nat) (kind : Nat) (en : Bool) (s : State) : s.Answers (execStreamEnable p
    n kind en s) := by
  delta execStreamEnable; refine .ite ?_ ?_; refine .next ?_; refine .trans ?_ (State.writeStream_keeps ..)
  exact .refl _; refine .next ?_; exact .refl _

theorem execStreamRestore_answers (n : Nat) (s : State) : s.Answers (execStreamRestore n s) := by
  delta execStreamRestore; refine .ite ?_ ?_; refine .next ?_; refine .trans ?_ (State.wr_keeps ..); exact .refl _
  refine .next ?_; exact .refl _

theorem State.setReef_keeps (s : State) (r : Reef) : s.Keeps (State.setReef s r) := by
  delta State.setReef; refine .trans ?_ (.of_mk ..); exact .refl _

theorem State.setRec_keeps (s : State) (g : Nat) (r : Rec) : s.Keeps (State.setRec s g r) := by
  delta State.setRec; lift_lets -underBinder; intro x; clear_value x; refine .trans ?_ (State.setReef_keeps ..)
  exact .refl _

theorem State.setArm_keeps (s : State) (a : Nat) (q : ArmSt) : s.Keeps (State.setArm s a q) := by
  delta State.setArm; lift_lets -underBinder; intro x; clear_value x; refine .trans ?_ (State.setReef_keeps ..)
  exact .refl _

theorem State.armCount_keeps (s : State) (a : Nat) : s.Keeps (State.armCount s a) := by
  delta State.armCount; lift_lets -underBinder; intro x; clear_value x; intro x; clear_value x
  intro x; refine .cut (x := x) ?_ ?_; subst x; rotate_left; intro hx; clear_value x; refine .ite ?_ ?_
  refine .trans ?_ (State.raise_keeps ..); refine .ite ?_ ?_; refine .trans ?_ (State.raise_keeps ..)
  refine .trans ?_ (State.setArm_keeps ..); refine .trans ?_ (State.wr_keeps ..); refine .trans ?_ (State.wr_keeps ..)
  refine .trans ?_ (State.wr_keeps ..); assumption; refine .trans ?_ (State.setArm_keeps ..)
  refine .trans ?_ (State.wr_keeps ..); refine .trans ?_ (State.wr_keeps ..); refine .trans ?_ (State.wr_keeps ..)
  assumption; refine .ite ?_ ?_; refine .trans ?_ (State.raise_keeps ..); refine .trans ?_ (State.setArm_keeps ..)
  refine .trans ?_ (State.wr_keeps ..); refine .trans ?_ (State.wr_keeps ..); refine .trans ?_ (State.wr_keeps ..)
  assumption; refine .trans ?_ (State.setArm_keeps ..); refine .trans ?_ (State.wr_keeps ..)
  refine .trans ?_ (State.wr_keeps ..); refine .trans ?_ (State.wr_keeps ..); assumption
  refine .trans ?_ (State.wr_keeps ..); refine .trans ?_ (State.wr_keeps ..); exact .refl _

theorem State.reUpdate_keeps (s : State) (g : Nat) : s.Keeps (State.reUpdate s g) := by
  delta State.reUpdate; lift_lets -underBinder; intro x; clear_value x; intro x; clear_value x; refine .ite ?_ ?_
  refine .trans ?_ (State.armCount_keeps ..); refine .trans ?_ (State.setArm_keeps ..); exact .refl _; exact .refl _

theorem State.setExp_keeps (s : State) (g : Nat) (st : Nat) (t : Nat) : s.Keeps (State.setExp s g st t) := by
  delta State.setExp; lift_lets -underBinder; intro x; clear_value x; intro x; clear_value x; intro x; clear_value x
  intro x; refine .cut (x := x) ?_ ?_; subst x; rotate_left; intro hx; clear_value x; refine .ite ?_ ?_; exact .refl _
  refine .trans ?_ (State.reUpdate_keeps ..); assumption; refine .trans ?_ (State.setRec_keeps ..)
  refine .trans ?_ (State.wr_keeps ..); exact .refl _

theorem State.showHeads_keeps (s : State) (a : Nat) : s.Keeps (State.showHeads s a) := by
  delta State.showHeads; refine .trans ?_ (.foldl (fun s x => ?_) _ _); rotate_left; (try lift_lets -underBinder)
  intro x; clear_value x; intro x; clear_value x
  intro x; refine .cut (x := x) ?_ ?_; subst x; rotate_left; intro hx; clear_value x
  refine .trans ?_ (State.wr_keeps ..); refine .trans ?_ (State.wr_keeps ..); assumption; exact .refl _
  refine .ite ?_ ?_; refine .trans ?_ (State.setArm_keeps ..); exact .refl _; exact .refl _

theorem State.rerank_keeps (s : State) (g : Nat) : s.Keeps (State.rerank s g) := by
  delta State.rerank; lift_lets -underBinder; intro x; clear_value x; refine .trans ?_ (State.setRec_keeps ..)
  exact .refl _

theorem State.markRetire_keeps (s : State) (g : Nat) : s.Keeps (State.markRetire s g) := by
  delta State.markRetire; lift_lets -underBinder; intro x; clear_value x
  intro x; refine .cut (x := x) ?_ ?_; subst x; rotate_left; intro hx; clear_value x; refine .ite ?_ ?_; exact .refl _
  refine .trans ?_ (State.showHeads_keeps ..); refine .trans ?_ (State.rerank_keeps ..)
  refine .trans ?_ (State.reUpdate_keeps ..); assumption; refine .trans ?_ (State.wr_keeps ..)
  refine .trans ?_ (State.setRec_keeps ..); exact .refl _

theorem State.endHolds_keeps (s : State) : s.Keeps (State.endHolds s) := by
  delta State.endHolds; refine .trans ?_ (.foldl (fun s x => ?_) _ _); rotate_left; (try lift_lets -underBinder)
  intro x; clear_value x; refine .ite ?_ ?_; refine .trans ?_ (State.reUpdate_keeps ..)
  refine .trans ?_ (State.setRec_keeps ..); exact .refl _; exact .refl _; exact .refl _

theorem State.takeEvents_keeps (x0 : Nat) (x1 : State) : x1.Keeps (State.takeEvents x0 x1) := by
  induction x0 generalizing x1 with
  | zero => exact .refl _
  | succ k ih =>
    unfold State.takeEvents
    split
    · exact .refl _
    · exact ((State.setReef_keeps ..).trans (State.setExp_keeps ..)).trans (ih _)

theorem State.reefDue_keeps (s : State) : s.Keeps (State.reefDue s) := by
  delta State.reefDue; refine .trans ?_ (State.endHolds_keeps ..); refine .trans ?_ (State.takeEvents_keeps ..)
  exact .refl _

theorem State.writeRetire_keeps (s : State) (p : Port) (v : Nat) : s.Keeps (State.writeRetire s p v) := by
  delta State.writeRetire; lift_lets -underBinder; intro x; clear_value x; refine .ite ?_ ?_; exact .refl _
  refine .ite ?_ ?_; refine .trans ?_ (State.markRetire_keeps ..); exact .refl _
  refine .trans ?_ (State.range_keeps ..); exact .refl _

theorem State.writeHealth_keeps (s : State) (p : Port) (v : Nat) : s.Keeps (State.writeHealth s p v) := by
  delta State.writeHealth; lift_lets -underBinder; intro x; clear_value x; intro x; clear_value x
  intro x; clear_value x; intro x; refine .cut (x := x) ?_ ?_; subst x; rotate_left; intro hx; clear_value x
  refine .ite ?_ ?_; exact .refl _; refine .ite ?_ ?_; refine .trans ?_ (State.armCount_keeps ..); assumption
  refine .trans ?_ (State.range_keeps ..); exact .refl _; refine .trans ?_ (State.setRec_keeps ..)
  refine .trans ?_ (State.wr_keeps ..); exact .refl _

theorem State.expect_keeps (s : State) (e : StEv) : s.Keeps (State.expect s e) := by
  delta State.expect; lift_lets -underBinder; intro x; clear_value x; refine .trans ?_ (State.setReef_keeps ..)
  exact .refl _

theorem State.expectFlash_keeps (s : State) (g : Nat) (st : Nat) (tail : Bool) : s.Keeps (State.expectFlash s g st tail)
    := by
  delta State.expectFlash; refine .trans ?_ (State.expect_keeps ..); exact .refl _

theorem State.resortStart_keeps (s : State) : s.Keeps (State.resortStart s) := by
  delta State.resortStart; refine .trans ?_ (.foldl (fun s x => ?_) _ _); rotate_left; (try lift_lets -underBinder)
  intro x; clear_value x; intro x; clear_value x; refine .trans ?_ (State.wr_keeps ..)
  refine .trans ?_ (State.setArm_keeps ..); exact .refl _; exact .refl _

theorem execReefHealthSet_answers (p : Port) (v : Word) (s : State) : s.Answers (execReefHealthSet p v s) := by
  delta execReefHealthSet; refine .next ?_; refine .trans ?_ (State.writeHealth_keeps ..); exact .refl _

theorem execReefRetire_answers (p : Port) (v : Word) (s : State) : s.Answers (execReefRetire p v s) := by
  delta execReefRetire; refine .next ?_; refine .trans ?_ (State.writeRetire_keeps ..); exact .refl _

theorem execRerank_answers (a : Nat) (s : State) : s.Answers (execRerank a s) := by
  delta execRerank; lift_lets -underBinder; intro x; clear_value x; split; refine .next ?_; exact .refl _
  refine .next ?_; refine .trans ?_ (State.showHeads_keeps ..); refine .trans ?_ (State.rerank_keeps ..)
  refine .trans ?_ (State.setArm_keeps ..); exact .refl _

theorem execResortComplete_answers (a : Nat) (s : State) : s.Answers (execResortComplete a s) := by
  delta execResortComplete; lift_lets -underBinder; intro x; clear_value x
  intro x; refine .cut (x := x) ?_ ?_; subst x; rotate_left; intro hx; clear_value x; refine .ite ?_ ?_; refine .next ?_
  refine .trans ?_ (State.showHeads_keeps ..); refine .trans ?_ (State.wr_keeps ..)
  refine .trans ?_ (State.setArm_keeps ..)
  refine .trans ?_ (.foldl (fun s x => ?_) _ _); rotate_left; (try lift_lets -underBinder)
  refine .trans ?_ (State.rerank_keeps ..); exact .refl _; refine .next ?_; exact .refl _
  refine .trans ?_ (.foldl (fun s x => ?_) _ _); rotate_left; (try lift_lets -underBinder); intro x; clear_value x
  refine .trans ?_ (State.setRec_keeps ..); exact .refl _; assumption; exact .refl _

theorem execRetireActionTimeout_answers (g : Nat) (s : State) : s.Answers (execRetireActionTimeout g s) := by
  delta execRetireActionTimeout; lift_lets -underBinder; intro x; clear_value x; refine .ite ?_ ?_; refine .ite ?_ ?_
  refine .next ?_; refine .trans ?_ (State.setRec_keeps ..); exact .refl _; refine .next ?_
  refine .trans ?_ (State.raise_keeps ..); refine .trans ?_ (State.setRec_keeps ..); exact .refl _; refine .next ?_
  exact .refl _

theorem execStale_answers (g : Nat) (s : State) : s.Answers (execStale g s) := by
  delta execStale; refine .ite ?_ ?_; refine .next ?_; refine .trans ?_ (State.reUpdate_keeps ..)
  refine .trans ?_ (State.wr_keeps ..); exact .refl _; refine .next ?_; exact .refl _

theorem State.leak_keeps (s : State) (a : Nat) : s.Keeps (State.leak s a) := by
  delta State.leak; lift_lets -underBinder; intro x; clear_value x; intro x; clear_value x; refine .ite ?_ ?_
  refine .trans ?_ (State.setArm_keeps ..); refine .trans ?_ (State.wr_keeps ..); exact .refl _; exact .refl _

theorem State.saturate_keeps (s : State) (a : Nat) : s.Keeps (State.saturate s a) := by
  delta State.saturate; refine .trans ?_ (State.raise_keeps ..); refine .trans ?_ (State.wr_keeps ..); exact .refl _

theorem State.planArm_keeps (s : State) (full : Bool) (a : Nat) : s.Keeps (State.planArm s full a) := by
  delta State.planArm; lift_lets -underBinder
  intro x; refine .cut (x := x) ?_ ?_; subst x; rotate_left; intro hx; clear_value x; split; lift_lets -underBinder
  intro x; clear_value x; intro x; clear_value x; intro x; clear_value x; intro x; clear_value x
  intro x; subst x; (try beta_reduce); (try lift_lets -underBinder)
  intro x; subst x; (try beta_reduce); (try lift_lets -underBinder); split; lift_lets -underBinder
  intro x; clear_value x; intro x; clear_value x; intro x; clear_value x; intro x; clear_value x
  intro x; refine .cut (x := x) ?_ ?_; subst x; rotate_left; intro hx; clear_value x
  refine .trans ?_ (State.showHeads_keeps ..); refine .trans ?_ (State.setReef_keeps ..); refine .ite ?_ ?_
  refine .trans ?_ (State.saturate_keeps ..); refine .trans ?_ (State.wr_keeps ..); refine .trans ?_ (State.wr_keeps ..)
  refine .trans ?_ (.foldl (fun s x => ?_) _ _); rotate_left; (try lift_lets -underBinder); intro x; intro x
  refine .ite ?_ ?_; exact .refl _; refine .trans ?_ (State.setRec_keeps ..); exact .refl _; refine .ite ?_ ?_
  refine .trans ?_ (State.wr_keeps ..); refine .trans ?_ (State.wr_keeps ..); refine .trans ?_ (State.wr_keeps ..)
  refine .trans ?_ (.foldl (fun s x => ?_) _ _); rotate_left; (try lift_lets -underBinder); intro x; intro x
  refine .ite ?_ ?_; exact .refl _; refine .trans ?_ (State.setRec_keeps ..); exact .refl _
  refine .trans ?_ (State.wr_keeps ..); refine .trans ?_ (State.wr_keeps ..)
  refine .trans ?_ (.foldl (fun s x => ?_) _ _); rotate_left; (try lift_lets -underBinder); intro x; intro x
  refine .ite ?_ ?_; exact .refl _; refine .trans ?_ (State.setRec_keeps ..); exact .refl _
  refine .trans ?_ (State.leak_keeps ..); exact .refl _
  refine .trans ?_ (.foldl (fun s x => ?_) _ _); rotate_left; (try lift_lets -underBinder)
  refine .trans ?_ (.foldl (fun s x => ?_) _ _); rotate_left; (try lift_lets -underBinder); intro x; clear_value x
  intro x; refine .cut (x := x) ?_ ?_; subst x; rotate_left; intro hx; clear_value x
  refine .trans ?_ (State.reUpdate_keeps ..); refine .trans ?_ (State.rerank_keeps ..); assumption
  refine .trans ?_ (State.cnt_keeps ..); refine .trans ?_ (State.cnt_keeps ..); assumption
  refine .trans ?_ (State.cnt_keeps ..); refine .trans ?_ (State.cnt_keeps ..); assumption
  refine .trans ?_ (State.cnt_keeps ..); refine .trans ?_ (State.cnt_keeps ..); assumption
  refine .of_ite_snd ?_ ?_ (by assumption); refine .trans ?_ (State.free_keeps ..); assumption; dsimp only; assumption
  exact .refl _; refine .trans ?_ (State.setRec_keeps ..); exact .refl _

theorem execPlan_answers (s : State) : s.Answers (execPlan s) := by
  delta execPlan; lift_lets -underBinder
  intro x; refine .cut (x := x) ?_ ?_; subst x; rotate_left; intro hx; clear_value x; refine .ite ?_ ?_; refine .next ?_
  refine .trans ?_ (.foldl (fun s x => ?_) _ _); rotate_left; (try lift_lets -underBinder)
  refine .trans ?_ (State.planArm_keeps ..); exact .refl _; refine .next ?_; exact .refl _
  refine .trans ?_ (State.reefDue_keeps ..); exact .refl _; refine .trans ?_ (State.setReef_keeps ..); assumption

theorem execSwapEnd_answers (g : Nat) (s : State) : s.Answers (execSwapEnd g s) := by
  delta execSwapEnd; lift_lets -underBinder; intro x; clear_value x; refine .ite ?_ ?_; refine .next ?_
  refine .trans ?_ (State.reUpdate_keeps ..); refine .trans ?_ (State.setRec_keeps ..); exact .refl _; refine .next ?_
  exact .refl _

theorem State.armCharge_keeps (s : State) (a : Nat) : s.Keeps (State.armCharge s a) := by
  delta State.armCharge; lift_lets -underBinder; intro x; clear_value x; intro x; clear_value x; intro x; clear_value x
  intro x; clear_value x; refine .trans ?_ (State.setArm_keeps ..); exact .refl _

theorem State.stepD_keeps (s : State) (a : Nat) (up : Bool) : s.Keeps (State.stepD s a up) := by
  delta State.stepD; refine .trans ?_ (State.wrS_keeps ..); exact .refl _

theorem State.regNeed_keeps (s : State) (a : Nat) (up : Bool) (i : Int) : s.Keeps (State.regNeed s a up i) := by
  delta State.regNeed; lift_lets -underBinder; intro x; clear_value x; refine .ite ?_ ?_
  refine .trans ?_ (State.inc_keeps ..); exact .refl _; split; lift_lets -underBinder
  intro x; refine .cut (x := x) ?_ ?_; subst x; rotate_left; intro hx; clear_value x
  refine .trans ?_ (State.inc_keeps ..); refine .trans ?_ (State.stepD_keeps ..)
  refine .trans ?_ (State.setArm_keeps ..); assumption; exact .refl _; refine .trans ?_ (State.needSingle_keeps ..)
  exact .refl _

theorem State.regJudge_keeps (s : State) (a : Nat) : s.Keeps (State.regJudge s a) := by
  delta State.regJudge; lift_lets -underBinder; intro x; clear_value x; intro x; clear_value x; intro x; clear_value x
  intro x; clear_value x; intro x; refine .cut (x := x) ?_ ?_; subst x; rotate_left; intro hx; clear_value x
  refine .ite ?_ ?_; exact .refl _; refine .ite ?_ ?_; refine .trans ?_ (State.setArm_keeps ..)
  refine .trans ?_ (State.wr_keeps ..); refine .trans ?_ (State.wrS_keeps ..); assumption; refine .ite ?_ ?_
  refine .trans ?_ (State.regNeed_keeps ..); refine .trans ?_ (State.setArm_keeps ..)
  refine .trans ?_ (State.wr_keeps ..); refine .trans ?_ (State.wrS_keeps ..); assumption; refine .ite ?_ ?_
  refine .trans ?_ (State.regNeed_keeps ..); refine .trans ?_ (State.setArm_keeps ..)
  refine .trans ?_ (State.wr_keeps ..); refine .trans ?_ (State.wrS_keeps ..); assumption
  refine .trans ?_ (State.setArm_keeps ..); refine .trans ?_ (State.wr_keeps ..); refine .trans ?_ (State.wrS_keeps ..)
  assumption; refine .trans ?_ (State.wr_keeps ..); refine .trans ?_ (State.wr_keeps ..); exact .refl _

theorem State.armSub_keeps (s : State) (a : Nat) : s.Keeps (State.armSub s a) := by
  delta State.armSub; lift_lets -underBinder
  intro x; refine .cut (x := x) ?_ ?_; subst x; rotate_left; intro hx; clear_value x
  refine .trans ?_ (State.showHeads_keeps ..); refine .trans ?_ (State.armCount_keeps ..)
  refine .trans ?_ (State.setArm_keeps ..); assumption; refine .trans ?_ (State.regJudge_keeps ..)
  refine .trans ?_ (State.armCharge_keeps ..); exact .refl _

theorem State.blockSent_keeps (s : State) : s.Keeps (State.blockSent s) := by
  delta State.blockSent; lift_lets -underBinder; intro x; clear_value x
  intro x; refine .cut (x := x) ?_ ?_; subst x; rotate_left; intro hx; clear_value x; refine .ite ?_ ?_
  refine .trans ?_ (State.commitOff_keeps ..); refine .trans ?_ (State.wr_keeps ..); assumption; assumption
  refine .trans ?_ (.of_mk ..); exact .refl _

theorem State.expectOrder_keeps (s : State) (c : Nat) (tail : Bool) (o : DueOrder) (later : Nat) : s.Keeps
    (State.expectOrder s c tail o later) := by
  delta State.expectOrder; split; lift_lets -underBinder; intro x; clear_value x
  refine .trans ?_ (State.expect_keeps ..); exact .refl _; lift_lets -underBinder; intro x; clear_value x
  refine .trans ?_ (State.expect_keeps ..); exact .refl _
  refine .trans ?_ (.foldl (fun s x => ?_) _ _); rotate_left; (try lift_lets -underBinder)
  refine .trans ?_ (State.expect_keeps ..); exact .refl _; exact .refl _; exact .refl _

theorem State.sendOrder_keeps (s : State) (o : DueOrder) : s.Keeps (State.sendOrder s o) := by
  delta State.sendOrder; lift_lets -underBinder; intro x; clear_value x; intro x; clear_value x; intro x; clear_value x
  intro x; clear_value x; intro x; refine .cut (x := x) ?_ ?_; subst x; rotate_left; intro hx; clear_value x
  refine .ite ?_ ?_; refine .ite ?_ ?_; refine .trans ?_ (State.expectOrder_keeps ..)
  refine .trans ?_ (State.emit_keeps ..); refine .ite ?_ ?_; refine .trans ?_ (State.wr_keeps ..)
  refine .trans ?_ (State.wr_keeps ..); refine .trans ?_ (State.wr_keeps ..); refine .trans ?_ (State.wr_keeps ..)
  refine .ite ?_ ?_; refine .trans ?_ (.of_mk ..); refine .ite ?_ ?_; refine .trans ?_ (State.blockSent_keeps ..)
  assumption; assumption; refine .ite ?_ ?_; refine .trans ?_ (State.blockSent_keeps ..); assumption; assumption
  refine .ite ?_ ?_; refine .trans ?_ (.of_mk ..); refine .ite ?_ ?_; refine .trans ?_ (State.blockSent_keeps ..)
  assumption; assumption; refine .ite ?_ ?_; refine .trans ?_ (State.blockSent_keeps ..); assumption; assumption
  refine .trans ?_ (State.emit_keeps ..); refine .ite ?_ ?_; refine .trans ?_ (State.wr_keeps ..)
  refine .trans ?_ (State.wr_keeps ..); refine .trans ?_ (State.wr_keeps ..); refine .trans ?_ (State.wr_keeps ..)
  refine .ite ?_ ?_; refine .trans ?_ (.of_mk ..); refine .ite ?_ ?_; refine .trans ?_ (State.blockSent_keeps ..)
  assumption; assumption; refine .ite ?_ ?_; refine .trans ?_ (State.blockSent_keeps ..); assumption; assumption
  refine .ite ?_ ?_; refine .trans ?_ (.of_mk ..); refine .ite ?_ ?_; refine .trans ?_ (State.blockSent_keeps ..)
  assumption; assumption; refine .ite ?_ ?_; refine .trans ?_ (State.blockSent_keeps ..); assumption; assumption
  refine .trans ?_ (State.expectOrder_keeps ..); refine .trans ?_ (State.emit_keeps ..)
  refine .trans ?_ (State.inc_keeps ..); refine .ite ?_ ?_; refine .trans ?_ (State.wr_keeps ..)
  refine .trans ?_ (State.wr_keeps ..); refine .trans ?_ (State.wr_keeps ..); refine .trans ?_ (State.wr_keeps ..)
  refine .ite ?_ ?_; refine .trans ?_ (.of_mk ..); refine .ite ?_ ?_; refine .trans ?_ (State.blockSent_keeps ..)
  assumption; assumption; refine .ite ?_ ?_; refine .trans ?_ (State.blockSent_keeps ..); assumption; assumption
  refine .ite ?_ ?_; refine .trans ?_ (.of_mk ..); refine .ite ?_ ?_; refine .trans ?_ (State.blockSent_keeps ..)
  assumption; assumption; refine .ite ?_ ?_; refine .trans ?_ (State.blockSent_keeps ..); assumption; assumption
  refine .trans ?_ (.of_mk ..); exact .refl _

theorem execFlashOrderSend_answers (n : Nat) (s : State) : s.Answers (execFlashOrderSend n s) := by
  delta execFlashOrderSend; lift_lets -underBinder; intro x; clear_value x; intro x; clear_value x
  intro x; clear_value x; intro x; refine .cut (x := x) ?_ ?_; subst x; rotate_left; intro hx; clear_value x; split
  refine .next ?_; refine .ite ?_ ?_; refine .trans ?_ (.of_mk ..); assumption; exact .refl _; refine .ite ?_ ?_
  refine .next ?_; refine .trans ?_ (State.inc_keeps ..); refine .trans ?_ (.of_mk ..); refine .ite ?_ ?_
  refine .trans ?_ (.of_mk ..); assumption; exact .refl _; refine .next ?_; refine .trans ?_ (State.sendOrder_keeps ..)
  refine .ite ?_ ?_; refine .trans ?_ (.of_mk ..); assumption; exact .refl _; refine .trans ?_ (State.cnt_keeps ..)
  exact .refl _

theorem State.commitOn_keeps (s : State) : s.Keeps (State.commitOn s) := by
  delta State.commitOn; lift_lets -underBinder; intro x; clear_value x
  intro x; refine .cut (x := x) ?_ ?_; subst x; rotate_left; intro hx; clear_value x
  refine .trans ?_ (State.observe_keeps ..); refine .trans ?_ (State.wr_keeps ..); refine .trans ?_ (State.wr_keeps ..)
  assumption; refine .trans ?_ (State.setReef_keeps ..); exact .refl _

theorem State.go_keeps (s : State) (p : Port) : s.Keeps (State.go s p) := by
  delta State.go; refine .ite ?_ ?_; refine .trans ?_ (State.commitOn_keeps ..); exact .refl _
  refine .trans ?_ (State.range_keeps ..); exact .refl _

theorem State.marginCheck_keeps (s : State) (c : Nat) : s.Keeps (State.marginCheck s c) := by
  delta State.marginCheck; lift_lets -underBinder; intro x; clear_value x
  intro x; refine .cut (x := x) ?_ ?_; subst x; rotate_left; intro hx; clear_value x; refine .ite ?_ ?_
  refine .trans ?_ (State.raise_keeps ..); refine .trans ?_ (State.wr_keeps ..); assumption
  refine .trans ?_ (State.wr_keeps ..); assumption; refine .trans ?_ (State.putBitAt_keeps ..); exact .refl _

theorem State.writeTiming_keeps (s : State) (p : Port) (v : Nat) : s.Keeps (State.writeTiming s p v) := by
  delta State.writeTiming; lift_lets -underBinder; intro x; clear_value x; intro x; clear_value x
  intro x; refine .cut (x := x) ?_ ?_; subst x; rotate_left; intro hx; clear_value x; refine .ite ?_ ?_
  refine .trans ?_ (State.range_keeps ..); exact .refl _
  refine .trans ?_ (.foldl (fun s x => ?_) _ _); rotate_left; (try lift_lets -underBinder)
  refine .trans ?_ (State.marginCheck_keeps ..); exact .refl _; refine .trans ?_ (State.wr_keeps ..)
  refine .trans ?_ (State.wr_keeps ..); exact .refl _; assumption

theorem State.writeSign_keeps (s : State) (p : Port) (v : Nat) : s.Keeps (State.writeSign s p v) := by
  delta State.writeSign; refine .ite ?_ ?_; refine .trans ?_ (State.range_keeps ..); exact .refl _
  refine .trans ?_ (State.wr_keeps ..); refine .trans ?_ (State.wr_keeps ..); exact .refl _

theorem State.expectStage_keeps (s : State) (e : Epoch) (sB : Bool) (x : Nat × Berth) : s.Keeps (State.expectStage s e sB
    x) := by
  delta State.expectStage; lift_lets -underBinder; intro x; clear_value x
  intro x; refine .cut (x := x) ?_ ?_; subst x; rotate_left; intro hx; clear_value x; refine .ite ?_ ?_
  refine .trans ?_ (State.expect_keeps ..); assumption; assumption; refine .ite ?_ ?_
  refine .trans ?_ (State.expect_keeps ..); exact .refl _; exact .refl _

theorem State.followStage_keeps (s : State) (a : Nat) (e : Epoch) (sB : Bool) : s.Keeps (State.followStage s a e sB) := by
  delta State.followStage; refine .trans ?_ (.foldl (fun s x => ?_) _ _); rotate_left; (try lift_lets -underBinder)
  intro x; refine .cut (x := x) ?_ ?_; subst x; rotate_left; intro hx; clear_value x; refine .ite ?_ ?_
  refine .trans ?_ (State.setRec_keeps ..); assumption; assumption; exact .refl _
  refine .trans ?_ (State.expectStage_keeps ..); exact .refl _

theorem State.noteEpoch_keeps (s : State) (a : Nat) (e : Epoch) : s.Keeps (State.noteEpoch s a e) := by
  delta State.noteEpoch; lift_lets -underBinder
  intro x; refine .cut (x := x) ?_ ?_; subst x; rotate_left; intro hx; clear_value x
  refine .trans ?_ (State.setReef_keeps ..); refine .ite ?_ ?_; refine .trans ?_ (State.setReef_keeps ..); assumption
  exact .refl _; refine .trans ?_ (State.inc_keeps ..); refine .trans ?_ (State.wr_keeps ..); exact .refl _

theorem State.needCommit_keeps (s : State) (a : Nat) (num : Nat) (stage : Nat) : s.Keeps (State.needCommit s a num stage)
    := by
  delta State.needCommit; lift_lets -underBinder
  intro x; refine .cut (x := x) ?_ ?_; subst x; rotate_left; intro hx; clear_value x; refine .ite ?_ ?_
  refine .trans ?_ (State.needRoute_keeps ..); assumption; assumption
  refine .trans ?_ (.foldl (fun s x => ?_) _ _); rotate_left; (try lift_lets -underBinder)
  refine .trans ?_ (.foldl (fun s x => ?_) _ _); rotate_left; (try lift_lets -underBinder)
  refine .trans ?_ (State.needFlash_keeps ..); exact .refl _; exact .refl _; exact .refl _

theorem State.showDecision_keeps (s : State) (a : Nat) (d : Bool × Bool × IPred) : s.Keeps (State.showDecision s a d) :=
    by
  delta State.showDecision; lift_lets -underBinder; intro x; clear_value x
  intro x; refine .cut (x := x) ?_ ?_; subst x; rotate_left; intro hx; clear_value x
  refine .trans ?_ (State.setArm_keeps ..); refine .trans ?_ (State.wrS_keeps ..); refine .trans ?_ (State.wr_keeps ..)
  refine .trans ?_ (State.wr_keeps ..); assumption; refine .ite ?_ ?_; refine .trans ?_ (State.inc_keeps ..)
  exact .refl _; exact .refl _

theorem execGo_answers (p : Port) (s : State) : s.Answers (execGo p s) := by
  delta execGo; refine .next ?_; refine .trans ?_ (State.go_keeps ..); exact .refl _

theorem execHalt_answers (s : State) : s.Answers (execHalt s) := by
  delta execHalt; refine .next ?_; refine .trans ?_ (State.blockAll_keeps ..); exact .refl _

theorem execRunSignWrite_answers (p : Port) (v : Word) (s : State) : s.Answers (execRunSignWrite p v s) := by
  delta execRunSignWrite; refine .next ?_; refine .trans ?_ (State.writeSign_keeps ..); exact .refl _

theorem execRunTimingWrite_answers (p : Port) (v : Word) (s : State) : s.Answers (execRunTimingWrite p v s) := by
  delta execRunTimingWrite; refine .next ?_; refine .trans ?_ (State.writeTiming_keeps ..); exact .refl _

theorem execStageDecision_answers (a : Nat) (s : State) : s.Answers (execStageDecision a s) := by
  delta execStageDecision; refine .ite ?_ ?_; split; refine .next ?_; exact .refl _; lift_lets -underBinder
  intro x; clear_value x; intro x; clear_value x
  intro x; refine .cut (x := x) ?_ ?_; subst x; rotate_left; intro hx; clear_value x; refine .next ?_
  refine .trans ?_ (State.needCommit_keeps ..); refine .trans ?_ (State.followStage_keeps ..)
  refine .trans ?_ (State.noteEpoch_keeps ..); assumption; refine .ite ?_ ?_; split; refine .next ?_; exact .refl _
  lift_lets -underBinder; intro x; clear_value x; intro x; clear_value x; refine .next ?_; refine .trans ?_ (.of_mk ..)
  exact .refl _; refine .next ?_; exact .refl _; refine .trans ?_ (State.cnt_keeps ..)
  refine .trans ?_ (State.showDecision_keeps ..); exact .refl _

theorem State.setLoop_keeps (s : State) (q : Loop) : s.Keeps (State.setLoop s q) := by
  delta State.setLoop; refine .trans ?_ (.of_mk ..); exact .refl _

theorem State.setTap_keeps (s : State) (u : Nat) (t : Tap) : s.Keeps (State.setTap s u t) := by
  delta State.setTap; lift_lets -underBinder; intro x; clear_value x; refine .trans ?_ (State.setLoop_keeps ..)
  exact .refl _

theorem State.tapTrig_keeps (s : State) (u : Nat) : s.Keeps (State.tapTrig s u) := by
  delta State.tapTrig; lift_lets -underBinder; intro x; clear_value x; intro x; clear_value x; intro x; clear_value x
  intro x; clear_value x; intro x; refine .cut (x := x) ?_ ?_; subst x; rotate_left; intro hx; clear_value x
  refine .ite ?_ ?_; refine .trans ?_ (State.inc_keeps ..); exact .refl _; refine .ite ?_ ?_; exact .refl _
  refine .trans ?_ (State.setTap_keeps ..); refine .trans ?_ (State.wr_keeps ..); assumption
  refine .trans ?_ (State.wr_keeps ..); refine .trans ?_ (State.wr_keeps ..); exact .refl _

theorem State.tapsBy_keeps (s : State) (bit : Nat) (p : Nat → Bool) : s.Keeps (State.tapsBy s bit p) := by
  delta State.tapsBy; refine .trans ?_ (.foldl (fun s x => ?_) _ _); rotate_left; (try lift_lets -underBinder)
  refine .ite ?_ ?_; refine .trans ?_ (State.tapTrig_keeps ..); exact .refl _; exact .refl _; exact .refl _

theorem execSwap_answers (s : State) : s.Answers (execSwap s) := by
  delta execSwap; refine .next ?_; refine .trans ?_ (State.wr_keeps ..); exact .refl _

theorem State.writeRestart_keeps (s : State) (p : Port) (v : Nat) : s.Keeps (State.writeRestart s p v) := by
  delta State.writeRestart; lift_lets -underBinder; intro x; clear_value x; refine .ite ?_ ?_; exact .refl _
  refine .ite ?_ ?_; refine .trans ?_ (State.setLoop_keeps ..); exact .refl _; refine .trans ?_ (State.range_keeps ..)
  exact .refl _

theorem State.writeCoef_keeps (s : State) (p : Port) (b : Nat) (n : Nat) (w : Nat) (v : Word) : s.Keeps (State.writeCoef s
    p b n w v) := by
  delta State.writeCoef; refine .ite ?_ ?_; exact .refl _; refine .ite ?_ ?_; refine .trans ?_ (State.range_keeps ..)
  exact .refl _; refine .trans ?_ (State.wrW_keeps ..); exact .refl _

theorem State.slotRestart_keeps (s : State) (b : Nat) (n : Nat) : s.Keeps (State.slotRestart s b n) := by
  delta State.slotRestart; split; refine .trans ?_ (State.setLoop_keeps ..); refine .trans ?_ (State.wr_keeps ..)
  exact .refl _; refine .trans ?_ (State.setLoop_keeps ..); exact .refl _; refine .trans ?_ (State.setLoop_keeps ..)
  exact .refl _; exact .refl _

theorem State.loopBuild_keeps (s : State) : s.Keeps (State.loopBuild s) := by
  delta State.loopBuild; lift_lets -underBinder; intro x; clear_value x
  intro x; refine .cut (x := x) ?_ ?_; subst x; rotate_left; intro hx; clear_value x
  refine .trans ?_ (.foldl (fun s x => ?_) _ _); rotate_left; (try lift_lets -underBinder)
  refine .trans ?_ (State.slotRestart_keeps ..); refine .trans ?_ (State.wr_keeps ..); exact .refl _
  refine .trans ?_ (State.setLoop_keeps ..); exact .refl _; assumption

theorem State.evalBand_keeps (s : State) (b : Nat) (n : Nat) (e : Int) (aov : Bool) (hold : Bool) : s.Keeps
    (State.evalBand s b n e aov hold).2 := by
  delta State.evalBand; lift_lets -underBinder; intro x; clear_value x; intro x; clear_value x; intro x; clear_value x
  intro x; clear_value x; intro x; clear_value x; intro x; clear_value x; intro x; clear_value x; split
  lift_lets -underBinder; intro x; clear_value x; intro x; clear_value x; intro x; clear_value x; intro x; clear_value x
  intro x; clear_value x; intro x; clear_value x; intro x; clear_value x; intro x; clear_value x; intro x; clear_value x
  intro x; clear_value x; dsimp only; refine .trans ?_ (State.setLoop_keeps ..); exact .refl _

theorem State.evalBand_out {r_} {t_ : State} {s : State} {b : Nat} {n : Nat} {e : Int} {aov : Bool} {hold : Bool} (h_ :
    State.evalBand s b n e aov hold = (r_, t_)) : s.Keeps t_ := by
  have := State.evalBand_keeps s b n e aov hold; rwa [h_] at this

theorem State.evalPi_keeps (s : State) (b : Nat) (n : Nat) (e : Int) (aov : Bool) (hold : Bool) : s.Keeps (State.evalPi s
    b n e aov hold).2 := by
  delta State.evalPi; lift_lets -underBinder; intro x; clear_value x; intro x; clear_value x; split; split; split
  lift_lets -underBinder; intro x; clear_value x; intro x; clear_value x; intro x; clear_value x; intro x; clear_value x
  split
  lift_lets -underBinder; intro x; clear_value x; intro x; clear_value x; dsimp only
  refine .trans ?_ (State.setLoop_keeps ..); exact .refl _

theorem State.evalPi_out {r_} {t_ : State} {s : State} {b : Nat} {n : Nat} {e : Int} {aov : Bool} {hold : Bool} (h_ :
    State.evalPi s b n e aov hold = (r_, t_)) : s.Keeps t_ := by
  have := State.evalPi_keeps s b n e aov hold; rwa [h_] at this

theorem State.evalRamp_keeps (s : State) (b : Nat) (n : Nat) (x : Int) (y : Int) (start : Bool) (ever : Bool) : s.Keeps
    (State.evalRamp s b n x y start ever).2 := by
  delta State.evalRamp; lift_lets -underBinder; intro x; clear_value x; intro x; clear_value x; intro x; clear_value x
  intro x; subst x; (try beta_reduce); (try lift_lets -underBinder); intro x; clear_value x; intro x; clear_value x
  intro x; clear_value x; split; split; dsimp only; refine .trans ?_ (State.setLoop_keeps ..); exact .refl _; dsimp only
  refine .trans ?_ (State.setLoop_keeps ..); exact .refl _; split; split; lift_lets -underBinder; intro x; clear_value x
  dsimp only; exact .refl _

theorem State.evalRamp_out {r_} {t_ : State} {s : State} {b : Nat} {n : Nat} {x : Int} {y : Int} {start : Bool} {ever :
    Bool} (h_ : State.evalRamp s b n x y start ever = (r_, t_)) : s.Keeps t_ := by
  have := State.evalRamp_keeps s b n x y start ever; rwa [h_] at this

theorem State.slotFlags_keeps (s : State) (n : Nat) (live : Nat) (ready : Bool) : s.Keeps (State.slotFlags s n live ready)
    := by
  delta State.slotFlags; lift_lets -underBinder; intro x; clear_value x; intro x; clear_value x
  intro x; refine .cut (x := x) ?_ ?_; subst x; rotate_left; intro hx; clear_value x; refine .ite ?_ ?_
  refine .trans ?_ (State.raise_keeps ..); refine .ite ?_ ?_; refine .trans ?_ (State.raise_keeps ..); assumption
  assumption; refine .ite ?_ ?_; refine .trans ?_ (State.raise_keeps ..); assumption; assumption
  refine .trans ?_ (State.wr_keeps ..); refine .trans ?_ (State.wr_keeps ..); refine .trans ?_ (State.wr_keeps ..)
  exact .refl _

theorem State.evalSlot_keeps (s : State) (c : PassCtx) (n : Nat) : s.Keeps (State.evalSlot s c n) := by
  delta State.evalSlot; lift_lets -underBinder
  intro x; refine .cut (x := x) ?_ ?_; subst x; rotate_left; intro hx; clear_value x; refine .ite ?_ ?_; exact .refl _
  split
  lift_lets -underBinder; intro x; clear_value x; split; lift_lets -underBinder
  intro x; refine .cut (x := x) ?_ ?_; subst x; rotate_left; intro hx; clear_value x
  refine .trans ?_ (State.slotFlags_keeps ..); refine .trans ?_ (State.setLoop_keeps ..); assumption; refine .ite ?_ ?_
  refine .trans ?_ (State.slotRestart_keeps ..); exact .refl _; exact .refl _; refine .trans ?_ (State.wr_keeps ..)
  refine .trans ?_ (State.wr_keeps ..); refine .of_ite_snd ?_ ?_ (by assumption)
  refine .trans ?_ (State.evalBand_keeps ..); assumption; split; refine .trans ?_ (State.evalPi_keeps ..); assumption
  split
  refine .trans ?_ (State.evalRamp_keeps ..); assumption; dsimp only; assumption

theorem State.swapSlot_keeps (s : State) (kpOld : Int) (b : Nat) (n : Nat) : s.Keeps (State.swapSlot s kpOld b n) := by
  delta State.swapSlot; split; lift_lets -underBinder; intro x; clear_value x; intro x; clear_value x
  intro x; clear_value x; intro x; clear_value x; refine .trans ?_ (State.setLoop_keeps ..); exact .refl _
  lift_lets -underBinder; intro x; clear_value x; intro x; clear_value x; intro x; clear_value x
  refine .trans ?_ (State.setLoop_keeps ..); refine .trans ?_ (State.wr_keeps ..); exact .refl _; exact .refl _

theorem State.latchSources_keeps (s : State) : s.Keeps (State.latchSources s) := by
  delta State.latchSources; refine .trans ?_ (.foldl (fun s x => ?_) _ _); rotate_left; (try lift_lets -underBinder)
  refine .trans ?_ (.foldl (fun s x => ?_) _ _); rotate_left; (try lift_lets -underBinder); intro x; clear_value x
  refine .ite ?_ ?_; exact .refl _; split; refine .ite ?_ ?_; refine .trans ?_ (State.setLoop_keeps ..); exact .refl _
  exact .refl _; exact .refl _; exact .refl _

theorem State.loopPass_keeps (s : State) : s.Keeps (State.loopPass s) := by
  delta State.loopPass; lift_lets -underBinder; intro x; clear_value x; intro x; clear_value x
  intro x; refine .cut (x := x) ?_ ?_; subst x; rotate_left; intro hx; clear_value x; refine .ite ?_ ?_; exact .refl _
  refine .trans ?_ (State.setLoop_keeps ..); refine .trans ?_ (State.tapsBy_keeps ..)
  refine .trans ?_ (.foldl (fun s x => ?_) _ _); rotate_left; (try lift_lets -underBinder)
  refine .trans ?_ (State.evalSlot_keeps ..); exact .refl _; refine .trans ?_ (State.latchSources_keeps ..)
  exact .refl _; refine .trans ?_ (State.wr_keeps ..); refine .trans ?_ (State.wr_keeps ..); assumption

theorem State.tapSample_keeps (s : State) (u : Nat) : s.Keeps (State.tapSample s u) := by
  delta State.tapSample; lift_lets -underBinder; intro x; clear_value x; intro x; clear_value x; intro x; clear_value x
  intro x; clear_value x; intro x; refine .cut (x := x) ?_ ?_; subst x; rotate_left; intro hx; clear_value x
  refine .ite ?_ ?_; exact .refl _; refine .trans ?_ (State.setTap_keeps ..); refine .ite ?_ ?_
  refine .trans ?_ (State.wr_keeps ..); assumption; assumption; refine .trans ?_ (State.setBytes_keeps ..)
  exact .refl _

theorem State.tapsAt_keeps (s : State) (rate : Nat) : s.Keeps (State.tapsAt s rate) := by
  delta State.tapsAt; refine .trans ?_ (.foldl (fun s x => ?_) _ _); rotate_left; (try lift_lets -underBinder)
  refine .ite ?_ ?_; refine .trans ?_ (State.tapSample_keeps ..); exact .refl _; exact .refl _; exact .refl _

theorem State.takeSinks_keeps (s : State) : s.Keeps (State.takeSinks s) := by
  delta State.takeSinks; lift_lets -underBinder
  intro x; refine .cut (x := x) ?_ ?_; subst x; rotate_left; intro hx; clear_value x
  refine .trans ?_ (.foldl (fun s x => ?_) _ _); rotate_left; (try lift_lets -underBinder); intro x; clear_value x
  refine .trans ?_ (State.setArm_keeps ..); exact .refl _
  refine .trans ?_ (.foldl (fun s x => ?_) _ _); rotate_left; (try lift_lets -underBinder); split; exact .refl _
  refine .trans ?_ (State.wr_keeps ..); exact .refl _; assumption; exact .refl _

theorem State.takeSwap_keeps (s : State) : s.Keeps (State.takeSwap s) := by
  delta State.takeSwap; lift_lets -underBinder; intro x; clear_value x; intro x; clear_value x
  intro x; refine .cut (x := x) ?_ ?_; subst x; rotate_left; intro hx; clear_value x; refine .ite ?_ ?_; exact .refl _
  refine .ite ?_ ?_; refine .trans ?_ (State.rangeBlk_keeps ..); refine .trans ?_ (State.wr_keeps ..); assumption
  refine .trans ?_ (.foldl (fun s x => ?_) _ _); rotate_left; (try lift_lets -underBinder)
  refine .trans ?_ (State.swapSlot_keeps ..); exact .refl _; refine .trans ?_ (State.wr_keeps ..); exact .refl _
  refine .trans ?_ (State.wr_keeps ..); refine .trans ?_ (State.wr_keeps ..); assumption

theorem execCoefWrite_answers (p : Port) (b : Nat) (n : Nat) (w : Nat) (v : Word) (s : State) : s.Answers (execCoefWrite p
    b n w v s) := by
  delta execCoefWrite; refine .ite ?_ ?_; refine .next ?_; refine .trans ?_ (State.writeCoef_keeps ..); exact .refl _
  refine .next ?_; exact .refl _

theorem execLoopPassEnd_answers (s : State) : s.Answers (execLoopPassEnd s) := by
  delta execLoopPassEnd; lift_lets -underBinder; intro x; clear_value x
  intro x; refine .cut (x := x) ?_ ?_; subst x; rotate_left; intro hx; clear_value x; refine .ite ?_ ?_; refine .next ?_
  exact .refl _; refine .next ?_; refine .ite ?_ ?_; refine .trans ?_ (State.setFlags_keeps ..)
  refine .trans ?_ (State.tapsAt_keeps ..); refine .trans ?_ (State.incW_keeps ..); assumption
  refine .trans ?_ (State.tapsAt_keeps ..); refine .trans ?_ (State.incW_keeps ..); assumption
  refine .trans ?_ (State.wr_keeps ..); refine .trans ?_ (State.wr_keeps ..); refine .trans ?_ (State.wr_keeps ..)
  exact .refl _

theorem execLoopRestart_answers (p : Port) (v : Word) (s : State) : s.Answers (execLoopRestart p v s) := by
  delta execLoopRestart; refine .next ?_; refine .trans ?_ (State.writeRestart_keeps ..); exact .refl _

end Sys2Proof.Machine
end

