-- ==== Sys2Proof/Laws/KeepsC.lean ====
section
/-! SUPPORT. Every operation and every command of Machine/Taps.lean, Rec.lean, TimeOps.lean, Time.lean, LaneOps.lean, NetOps.lean, Cw.lean, CwRecv.lean keeps the queue and the canonical forms: one lemma each. -/

namespace Sys2Proof.Machine
open Sys2Proof

theorem State.writeTraceBase_keeps (s : State) (p : Port) (v : Nat) : s.Keeps (State.writeTraceBase s p v) := by
  delta State.writeTraceBase; refine .ite ?_ ?_; refine .trans ?_ (State.range_keeps ..); exact .refl _
  refine .trans ?_ (State.wr_keeps ..); exact .refl _

theorem State.writeTap_keeps (s : State) (p : Port) (u : Nat) (a : Nat) (v : Nat) : s.Keeps (State.writeTap s p u a v) :=
    by
  delta State.writeTap; refine .ite ?_ ?_; refine .trans ?_ (State.range_keeps ..); exact .refl _; refine .ite ?_ ?_
  refine .trans ?_ (State.wr_keeps ..); refine .trans ?_ (State.wr_keeps ..); exact .refl _
  refine .trans ?_ (State.wrW_keeps ..); exact .refl _

theorem State.tapArm_keeps (s : State) (p : Port) (u : Nat) : s.Keeps (State.tapArm s p u) := by
  delta State.tapArm; lift_lets -underBinder; intro x; clear_value x; intro x; clear_value x; intro x; clear_value x
  intro x; refine .cut (x := x) ?_ ?_; subst x; rotate_left; intro hx; clear_value x; refine .ite ?_ ?_
  refine .trans ?_ (State.range_keeps ..); exact .refl _; refine .ite ?_ ?_; refine .trans ?_ (State.wr_keeps ..)
  refine .trans ?_ (State.wr_keeps ..); refine .trans ?_ (State.setTap_keeps ..); refine .trans ?_ (State.wr_keeps ..)
  refine .trans ?_ (State.wr_keeps ..); assumption; refine .trans ?_ (State.wr_keeps ..)
  refine .trans ?_ (State.setTap_keeps ..); refine .trans ?_ (State.wr_keeps ..); refine .trans ?_ (State.wr_keeps ..)
  assumption; refine .trans ?_ (State.wrW_keeps ..); refine .trans ?_ (State.wrW_keeps ..); exact .refl _

theorem State.tapEnd_keeps (s : State) (u : Nat) : s.Keeps (State.tapEnd s u) := by
  delta State.tapEnd; refine .ite ?_ ?_; refine .trans ?_ (State.wr_keeps ..); refine .trans ?_ (State.wr_keeps ..)
  exact .refl _; exact .refl _

theorem State.writeTapCtrl_keeps (s : State) (p : Port) (u : Nat) (v : Nat) : s.Keeps (State.writeTapCtrl s p u v) := by
  delta State.writeTapCtrl; lift_lets -underBinder
  intro x; refine .cut (x := x) ?_ ?_; subst x; rotate_left; intro hx; clear_value x; refine .ite ?_ ?_
  refine .trans ?_ (State.tapEnd_keeps ..); refine .ite ?_ ?_; refine .trans ?_ (State.tapTrig_keeps ..); assumption
  assumption; refine .ite ?_ ?_; refine .trans ?_ (State.tapTrig_keeps ..); assumption; assumption; refine .ite ?_ ?_
  refine .trans ?_ (State.tapArm_keeps ..); exact .refl _; exact .refl _

theorem execTapArm_answers (p : Port) (u : Nat) (s : State) : s.Answers (execTapArm p u s) := by
  delta execTapArm; refine .ite ?_ ?_; refine .next ?_; refine .trans ?_ (State.tapArm_keeps ..); exact .refl _
  refine .next ?_; exact .refl _

theorem execTapDone_answers (u : Nat) (s : State) : s.Answers (execTapDone u s) := by
  delta execTapDone; refine .ite ?_ ?_; refine .next ?_; refine .trans ?_ (State.tapEnd_keeps ..); exact .refl _
  refine .next ?_; exact .refl _

theorem execTapStop_answers (u : Nat) (s : State) : s.Answers (execTapStop u s) := by
  delta execTapStop; refine .ite ?_ ?_; refine .next ?_; refine .trans ?_ (State.tapEnd_keeps ..); exact .refl _
  refine .next ?_; exact .refl _

theorem execTapTrig_answers (u : Nat) (s : State) : s.Answers (execTapTrig u s) := by
  delta execTapTrig; refine .ite ?_ ?_; refine .next ?_; refine .trans ?_ (State.tapTrig_keeps ..); exact .refl _
  refine .next ?_; exact .refl _

theorem execTraceBaseWrite_answers (p : Port) (v : Word) (s : State) : s.Answers (execTraceBaseWrite p v s) := by
  delta execTraceBaseWrite; refine .next ?_; refine .trans ?_ (State.writeTraceBase_keeps ..); exact .refl _

theorem State.setRecd_keeps (s : State) (r : Recd) : s.Keeps (State.setRecd s r) := by
  delta State.setRecd; refine .trans ?_ (.of_mk ..); exact .refl _

theorem State.recStatus_keeps (s : State) (g : Nat) (n : Nat) (w : Nat) : s.Keeps (State.recStatus s g n w) := by
  delta State.recStatus; lift_lets -underBinder; intro x; clear_value x; intro x; clear_value x; refine .ite ?_ ?_
  refine .trans ?_ (State.setRecd_keeps ..); exact .refl _; exact .refl _

theorem State.setEngT_keeps (s : State) (e : Nat) (t : Nat) : s.Keeps (State.setEngT s e t) := by
  delta State.setEngT; lift_lets -underBinder; intro x; clear_value x
  intro x; refine .cut (x := x) ?_ ?_; subst x; rotate_left; intro hx; clear_value x
  refine .trans ?_ (State.wr_keeps ..); refine .trans ?_ (State.wr_keeps ..); assumption
  refine .trans ?_ (State.wr_keeps ..); refine .trans ?_ (State.wr_keeps ..); exact .refl _

theorem State.setEng_keeps (s : State) (e : Nat) (g : Eng) : s.Keeps (State.setEng s e g) := by
  delta State.setEng; lift_lets -underBinder; intro x; clear_value x; refine .trans ?_ (State.setRecd_keeps ..)
  exact .refl _

theorem State.engEvent_keeps (s : State) (e : Nat) : s.Keeps (State.engEvent s e).1 := by
  delta State.engEvent; lift_lets -underBinder; intro x; clear_value x; intro x; clear_value x
  intro x; refine .cut (x := x) ?_ ?_; subst x; rotate_left; intro hx; clear_value x; split; split; dsimp only
  refine .ite ?_ ?_; refine .trans ?_ (State.wr_keeps ..); refine .trans ?_ (State.setEng_keeps ..); assumption
  refine .trans ?_ (State.setEng_keeps ..); assumption; dsimp only; assumption; split; dsimp only; exact .refl _
  dsimp only; refine .ite ?_ ?_; refine .trans ?_ (State.setEng_keeps ..); refine .trans ?_ (State.wr_keeps ..)
  refine .trans ?_ (State.wr_keeps ..); refine .trans ?_ (State.inc_keeps ..); exact .refl _
  refine .trans ?_ (State.wr_keeps ..); refine .trans ?_ (State.inc_keeps ..); exact .refl _
  refine .trans ?_ (State.inc_keeps ..); exact .refl _

theorem State.engEvent_out {r_} {t_ : State} {s : State} {e : Nat} (h_ : State.engEvent s e = (t_, r_)) : s.Keeps t_ := by
  have := State.engEvent_keeps s e; rwa [h_] at this

theorem State.recEnd_keeps (s : State) (short : Bool) : s.Keeps (State.recEnd s short) := by
  delta State.recEnd; lift_lets -underBinder; intro x; clear_value x; intro x; clear_value x
  intro x; refine .cut (x := x) ?_ ?_; subst x; rotate_left; intro hx; clear_value x
  refine .trans ?_ (State.setRecd_keeps ..); refine .trans ?_ (State.wr_keeps ..)
  refine .trans ?_ (State.incW_keeps ..); refine .trans ?_ (State.fireRoute_keeps ..)
  refine .trans ?_ (State.wr_keeps ..); refine .trans ?_ (State.wr_keeps ..); assumption
  refine .trans ?_ (State.setRecd_keeps ..); exact .refl _

theorem State.recTrigger_keeps (s : State) (fires : Nat) (how : Nat) : s.Keeps (State.recTrigger s fires how) := by
  delta State.recTrigger; lift_lets -underBinder; intro x; clear_value x; intro x; clear_value x; intro x; clear_value x
  intro x; refine .cut (x := x) ?_ ?_; subst x; rotate_left; intro hx; clear_value x; refine .ite ?_ ?_
  refine .trans ?_ (State.inc_keeps ..); exact .refl _; refine .ite ?_ ?_; refine .ite ?_ ?_
  refine .trans ?_ (State.setRecd_keeps ..); exact .refl _; refine .trans ?_ (State.setRecd_keeps ..); exact .refl _
  refine .ite ?_ ?_; refine .trans ?_ (State.recEnd_keeps ..); refine .trans ?_ (State.tapsBy_keeps ..)
  refine .trans ?_ (State.wr_keeps ..); assumption; refine .trans ?_ (State.tapsBy_keeps ..)
  refine .trans ?_ (State.wr_keeps ..); assumption; refine .trans ?_ (State.setRecd_keeps ..); exact .refl _

theorem State.engEvents_keeps (s : State) (es : List Nat) : s.Keeps (State.engEvents s es) := by
  delta State.engEvents; split; refine .ite ?_ ?_; refine .trans ?_ (State.recTrigger_keeps ..)
  refine .trans ?_ (.of_foldl_fst (fun b x => ?_) (by assumption)); rotate_left; beta_reduce; (try lift_lets -underBinder)
  split
  dsimp only; refine .trans ?_ (State.engEvent_out (by assumption)); exact .refl _
  refine .trans ?_ (.of_foldl_fst (fun b x => ?_) (by assumption)); rotate_left; beta_reduce; (try lift_lets -underBinder)
  split
  dsimp only; refine .trans ?_ (State.engEvent_out (by assumption)); exact .refl _; dsimp only; exact .refl _
  dsimp only; exact .refl _

theorem State.engsOf_keeps (s : State) (ty : Nat) (p : Nat → Bool) : s.Keeps (State.engsOf s ty p) := by
  delta State.engsOf; lift_lets -underBinder; intro x; clear_value x
  intro x; refine .cut (x := x) ?_ ?_; subst x; rotate_left; intro hx; clear_value x; refine .ite ?_ ?_; exact .refl _
  refine .trans ?_ (State.engEvents_keeps ..); assumption
  refine .trans ?_ (.foldl (fun s x => ?_) _ _); rotate_left; (try lift_lets -underBinder)
  refine .trans ?_ (State.setEngT_keeps ..); refine .trans ?_ (State.wr_keeps ..); exact .refl _; exact .refl _

theorem State.recTime_keeps (s : State) : s.Keeps (State.recTime s) := by
  delta State.recTime; refine .trans ?_ (State.engsOf_keeps ..); exact .refl _

theorem State.recStop_keeps (s : State) (p : Port) : s.Keeps (State.recStop s p) := by
  delta State.recStop; refine .ite ?_ ?_; exact .refl _; refine .ite ?_ ?_; refine .trans ?_ (State.range_keeps ..)
  exact .refl _; refine .ite ?_ ?_; refine .trans ?_ (State.recEnd_keeps ..); exact .refl _
  refine .trans ?_ (State.wr_keeps ..); exact .refl _

theorem State.recReady_keeps (s : State) : s.Keeps (State.recReady s) := by
  delta State.recReady; lift_lets -underBinder; intro x; clear_value x; refine .ite ?_ ?_
  refine .trans ?_ (State.setRecd_keeps ..); refine .trans ?_ (State.wr_keeps ..); exact .refl _; exact .refl _

theorem State.recFill_keeps (s : State) (seg : Nat) : s.Keeps (State.recFill s seg) := by
  delta State.recFill; lift_lets -underBinder; intro x; clear_value x; intro x; clear_value x; intro x; clear_value x
  split
  lift_lets -underBinder; intro x; clear_value x
  intro x; refine .cut (x := x) ?_ ?_; subst x; rotate_left; intro hx; clear_value x
  refine .trans ?_ (State.recReady_keeps ..); refine .trans ?_ (State.setRecd_keeps ..)
  refine .trans ?_ (State.wr_keeps ..); refine .trans ?_ (State.wr_keeps ..); refine .trans ?_ (State.wr_keeps ..)
  refine .trans ?_ (State.wr_keeps ..); refine .trans ?_ (State.wr_keeps ..); refine .trans ?_ (State.wr_keeps ..)
  refine .trans ?_ (State.wr_keeps ..); assumption; refine .ite ?_ ?_; refine .trans ?_ (State.rangeBlk_keeps ..)
  exact .refl _; exact .refl _

theorem State.recEnter_keeps (s : State) : s.Keeps (State.recEnter s) := by
  delta State.recEnter; lift_lets -underBinder; intro x; clear_value x
  intro x; refine .cut (x := x) ?_ ?_; subst x; rotate_left; intro hx; clear_value x; refine .ite ?_ ?_
  refine .trans ?_ (State.rangeBlk_keeps ..); assumption; split; refine .trans ?_ (State.recFill_keeps ..); assumption
  refine .trans ?_ (State.wr_keeps ..); assumption; refine .trans ?_ (State.setRecd_keeps ..); exact .refl _

theorem State.unprime_keeps (s : State) : s.Keeps (State.unprime s) := by
  delta State.unprime; lift_lets -underBinder
  intro x; refine .cut (x := x) ?_ ?_; subst x; rotate_left; intro hx; clear_value x
  refine .trans ?_ (State.setRecd_keeps ..); assumption
  refine .trans ?_ (.foldl (fun s x => ?_) _ _); rotate_left; (try lift_lets -underBinder)
  refine .trans ?_ (State.wr_keeps ..); exact .refl _; exact .refl _

theorem State.recArm_keeps (s : State) (p : Port) : s.Keeps (State.recArm s p) := by
  delta State.recArm; refine .ite ?_ ?_; exact .refl _; refine .ite ?_ ?_; refine .trans ?_ (State.range_keeps ..)
  exact .refl _; refine .trans ?_ (State.recEnter_keeps ..); refine .trans ?_ (State.unprime_keeps ..); exact .refl _

theorem State.recForce_keeps (s : State) (p : Port) : s.Keeps (State.recForce s p) := by
  delta State.recForce; refine .ite ?_ ?_; exact .refl _; refine .ite ?_ ?_
  refine .trans ?_ (State.recTrigger_keeps ..); exact .refl _; refine .trans ?_ (State.range_keeps ..); exact .refl _

theorem State.segFree_keeps (s : State) (k : Nat) (v : Nat) : s.Keeps (State.segFree s k v) := by
  delta State.segFree; lift_lets -underBinder
  intro x; refine .cut (x := x) ?_ ?_; subst x; rotate_left; intro hx; clear_value x; refine .ite ?_ ?_; exact .refl _
  refine .trans ?_ (State.setRecd_keeps ..); assumption; refine .trans ?_ (State.wr_keeps ..); exact .refl _

theorem State.engWrite_keeps (s : State) (e : Nat) (which : Nat) (v : Word) : s.Keeps (State.engWrite s e which v) := by
  delta State.engWrite; lift_lets -underBinder
  intro x; refine .cut (x := x) ?_ ?_; subst x; rotate_left; intro hx; clear_value x; refine .ite ?_ ?_; exact .refl _
  refine .ite ?_ ?_; refine .trans ?_ (State.wr_keeps ..); exact .refl _; refine .ite ?_ ?_
  refine .trans ?_ (State.setEng_keeps ..); refine .trans ?_ (State.wr_keeps ..); assumption; assumption
  refine .trans ?_ (State.wr_keeps ..); exact .refl _

theorem State.engJudge_keeps (s : State) (e : Nat) : s.Keeps (State.engJudge s e) := by
  delta State.engJudge; lift_lets -underBinder; intro x; clear_value x; intro x; clear_value x; split
  lift_lets -underBinder; intro x; clear_value x; intro x; clear_value x; intro x; clear_value x; intro x; clear_value x
  intro x; intro x; refine .cut (x := x) ?_ ?_; subst x; rotate_left; intro hx; clear_value x; refine .ite ?_ ?_
  refine .ite ?_ ?_; refine .trans ?_ (State.setEngT_keeps ..); assumption; assumption; refine .ite ?_ ?_; exact .refl _
  refine .ite ?_ ?_; refine .ite ?_ ?_; refine .trans ?_ (State.setEngT_keeps ..)
  refine .trans ?_ (State.setEng_keeps ..); refine .trans ?_ (State.wr_keeps ..); refine .trans ?_ (State.wr_keeps ..)
  exact .refl _; refine .trans ?_ (State.setEngT_keeps ..); refine .trans ?_ (State.setEng_keeps ..)
  refine .trans ?_ (State.wr_keeps ..); refine .trans ?_ (State.wr_keeps ..); exact .refl _
  refine .trans ?_ (State.setEng_keeps ..); refine .trans ?_ (State.wr_keeps ..); refine .trans ?_ (State.wr_keeps ..)
  exact .refl _; refine .trans ?_ (State.wr_keeps ..); exact .refl _

theorem State.engsAt_keeps (s : State) (rate : Nat) : s.Keeps (State.engsAt s rate) := by
  delta State.engsAt; lift_lets -underBinder; intro x; clear_value x
  intro x; refine .cut (x := x) ?_ ?_; subst x; rotate_left; intro hx; clear_value x; refine .ite ?_ ?_; exact .refl _
  refine .trans ?_ (State.engEvents_keeps ..); assumption
  refine .trans ?_ (.foldl (fun s x => ?_) _ _); rotate_left; (try lift_lets -underBinder)
  refine .trans ?_ (State.engJudge_keeps ..); exact .refl _; exact .refl _

theorem State.recFault_keeps (s : State) (classes : Nat) : s.Keeps (State.recFault s classes) := by
  delta State.recFault; refine .trans ?_ (State.engsOf_keeps ..); exact .refl _

theorem State.recGather_keeps (s : State) : s.Keeps (State.recGather s) := by
  delta State.recGather; refine .ite ?_ ?_; exact .refl _
  refine .trans ?_ (.foldl (fun s x => ?_) _ _); rotate_left; (try lift_lets -underBinder); intro x; clear_value x
  intro x; clear_value x; intro x; clear_value x; intro x; clear_value x; intro x; clear_value x; intro x; clear_value x
  refine .ite ?_ ?_; refine .trans ?_ (State.setRecd_keeps ..); exact .refl _; exact .refl _; exact .refl _

theorem State.recRowBytes_keeps (s : State) : s.Keeps (State.recRowBytes s).2 := by
  delta State.recRowBytes; lift_lets -underBinder; intro x; clear_value x; intro x; clear_value x
  intro x; clear_value x; intro x; clear_value x; dsimp only; refine .trans ?_ (State.setRecd_keeps ..); exact .refl _

theorem State.recRowBytes_out {r_} {t_ : State} {s : State} (h_ : State.recRowBytes s = (r_, t_)) : s.Keeps t_ := by
  have := State.recRowBytes_keeps s; rwa [h_] at this

theorem State.recStore_keeps (s : State) : s.Keeps (State.recStore s) := by
  delta State.recStore; split; lift_lets -underBinder; intro x; clear_value x; intro x; clear_value x
  intro x; clear_value x; intro x; refine .cut (x := x) ?_ ?_; subst x; rotate_left; intro hx; clear_value x
  refine .ite ?_ ?_; refine .trans ?_ (State.setRecd_keeps ..); refine .trans ?_ (State.inc_keeps ..)
  refine .trans ?_ (State.recRowBytes_out (by assumption)); exact .refl _; refine .ite ?_ ?_; refine .ite ?_ ?_
  refine .trans ?_ (State.recEnd_keeps ..); refine .ite ?_ ?_; refine .trans ?_ (State.raise_keeps ..)
  refine .trans ?_ (State.wr_keeps ..); refine .trans ?_ (State.wr_keeps ..); assumption; assumption; refine .ite ?_ ?_
  refine .trans ?_ (State.raise_keeps ..); refine .trans ?_ (State.wr_keeps ..); refine .trans ?_ (State.wr_keeps ..)
  assumption; assumption; refine .trans ?_ (State.recReady_keeps ..); refine .ite ?_ ?_
  refine .trans ?_ (State.raise_keeps ..); refine .trans ?_ (State.wr_keeps ..); refine .trans ?_ (State.wr_keeps ..)
  assumption; assumption; refine .trans ?_ (State.setRecd_keeps ..)
  refine .trans ?_ (State.recRowBytes_out (by assumption)); exact .refl _

theorem execAutoTrigger_answers (s : State) : s.Answers (execAutoTrigger s) := by
  delta execAutoTrigger; refine .ite ?_ ?_; refine .next ?_; refine .trans ?_ (State.recTrigger_keeps ..); exact .refl _
  refine .next ?_; exact .refl _

theorem execEngineLevelWrite_answers (e : Nat) (which : Nat) (v : Word) (s : State) : s.Answers (execEngineLevelWrite e
    which v s) := by
  delta execEngineLevelWrite; refine .ite ?_ ?_; refine .next ?_; refine .trans ?_ (State.engWrite_keeps ..)
  exact .refl _; refine .next ?_; exact .refl _

theorem execHoldoffEnd_answers (e : Nat) (s : State) : s.Answers (execHoldoffEnd e s) := by
  delta execHoldoffEnd; refine .ite ?_ ?_; refine .next ?_; refine .trans ?_ (State.wr_keeps ..); exact .refl _
  refine .next ?_; exact .refl _

theorem execRecArm_answers (p : Port) (s : State) : s.Answers (execRecArm p s) := by
  delta execRecArm; refine .next ?_; refine .trans ?_ (State.recArm_keeps ..); exact .refl _

theorem execRecForce_answers (p : Port) (s : State) : s.Answers (execRecForce p s) := by
  delta execRecForce; refine .next ?_; refine .trans ?_ (State.recForce_keeps ..); exact .refl _

theorem execRecStop_answers (p : Port) (s : State) : s.Answers (execRecStop p s) := by
  delta execRecStop; refine .next ?_; refine .trans ?_ (State.recStop_keeps ..); exact .refl _

theorem execRecorderRow_answers (s : State) : s.Answers (execRecorderRow s) := by
  delta execRecorderRow; lift_lets -underBinder
  intro x; refine .cut (x := x) ?_ ?_; subst x; rotate_left; intro hx; clear_value x; refine .ite ?_ ?_; refine .next ?_
  exact .refl _; refine .ite ?_ ?_; refine .ite ?_ ?_; refine .next ?_; refine .trans ?_ (State.recEnter_keeps ..)
  exact .refl _; refine .next ?_; exact .refl _; refine .ite ?_ ?_; refine .next ?_
  refine .trans ?_ (State.setRecd_keeps ..); assumption; refine .next ?_; refine .trans ?_ (State.recStore_keeps ..)
  refine .trans ?_ (State.setRecd_keeps ..); assumption; refine .trans ?_ (State.recGather_keeps ..); exact .refl _

theorem execSegFree_answers (k : Nat) (v : Word) (s : State) : s.Answers (execSegFree k v s) := by
  delta execSegFree; refine .ite ?_ ?_; refine .next ?_; refine .trans ?_ (State.segFree_keeps ..); exact .refl _
  refine .next ?_; exact .refl _

theorem Skerry.setTrig_keeps (c : Skerry) (k : Nat) (t : Trig) : c.Keeps (Skerry.setTrig c k t) := by
  delta Skerry.setTrig; refine .trans ?_ (.of_mk ..); exact .refl _

theorem Skerry.trigDest_keeps (c : Skerry) (k : Nat) : c.Keeps (Skerry.trigDest c k) := by
  delta Skerry.trigDest; lift_lets -underBinder; intro x; clear_value x
  intro x; refine .cut (x := x) ?_ ?_; subst x; rotate_left; intro hx; clear_value x; refine .ite ?_ ?_
  refine .trans ?_ (Skerry.setFr_keeps ..); refine .ite ?_ ?_; refine .trans ?_ (Skerry.convTrigger_keeps ..)
  assumption; assumption; refine .ite ?_ ?_; refine .trans ?_ (Skerry.convTrigger_keeps ..); assumption; assumption
  refine .ite ?_ ?_; refine .trans ?_ (Skerry.convTrigger_keeps ..); exact .refl _; exact .refl _

theorem Skerry.trigFire_keeps (c : Skerry) (k : Nat) : c.Keeps (Skerry.trigFire c k) := by
  delta Skerry.trigFire; lift_lets -underBinder; intro x; clear_value x; intro x; clear_value x
  intro x; refine .cut (x := x) ?_ ?_; subst x; rotate_left; intro hx; clear_value x; refine .ite ?_ ?_; exact .refl _
  refine .trans ?_ (Skerry.trigDest_keeps ..); refine .ite ?_ ?_; refine .trans ?_ (Skerry.wr_keeps ..)
  refine .trans ?_ (Skerry.wr_keeps ..); refine .trans ?_ (Skerry.setTrig_keeps ..)
  refine .trans ?_ (Skerry.cnt_keeps ..); assumption; refine .trans ?_ (Skerry.setTrig_keeps ..)
  refine .trans ?_ (Skerry.cnt_keeps ..); assumption; refine .ite ?_ ?_; refine .trans ?_ (Skerry.wr_keeps ..)
  exact .refl _; exact .refl _

theorem Skerry.trigDisarm_keeps (c : Skerry) (k : Nat) : c.Keeps (Skerry.trigDisarm c k) := by
  delta Skerry.trigDisarm; refine .trans ?_ (Skerry.wr_keeps ..); refine .trans ?_ (Skerry.trigFire_keeps ..)
  exact .refl _

theorem Skerry.trigArm_keeps (c : Skerry) (k : Nat) : c.Keeps (Skerry.trigArm c k) := by
  delta Skerry.trigArm; lift_lets -underBinder; intro x; clear_value x; intro x; clear_value x; intro x; clear_value x
  intro x; clear_value x; intro x; clear_value x; refine .ite ?_ ?_; exact .refl _; refine .ite ?_ ?_
  refine .trans ?_ (Skerry.wr_keeps ..); refine .trans ?_ (Skerry.wr_keeps ..); exact .refl _; refine .ite ?_ ?_
  exact .refl _; refine .trans ?_ (Skerry.setTrig_keeps ..); refine .trans ?_ (Skerry.wr_keeps ..)
  refine .trans ?_ (Skerry.wr_keeps ..); exact .refl _

theorem State.timeTo_keeps (s : State) (st : Nat) : s.Keeps (State.timeTo s st) := by
  delta State.timeTo; refine .trans ?_ (State.wr_keeps ..); exact .refl _

theorem State.setClk_keeps (s : State) (c : Clk) : s.Keeps (State.setClk s c) := by
  delta State.setClk; refine .trans ?_ (.of_mk ..); exact .refl _

theorem State.setTim_keeps (s : State) (t : TimeSt) : s.Keeps (State.setTim s t) := by
  delta State.setTim; refine .trans ?_ (.of_mk ..); exact .refl _

theorem State.setTrig_keeps (s : State) (k : Nat) (t : Trig) : s.Keeps (State.setTrig s k t) := by
  delta State.setTrig; lift_lets -underBinder; intro x; clear_value x; refine .trans ?_ (State.setTim_keeps ..)
  exact .refl _

theorem State.trigDest_keeps (s : State) (k : Nat) : s.Keeps (State.trigDest s k) := by
  delta State.trigDest; lift_lets -underBinder; intro x; clear_value x
  intro x; refine .cut (x := x) ?_ ?_; subst x; rotate_left; intro hx; clear_value x; refine .ite ?_ ?_
  refine .trans ?_ (State.setTim_keeps ..); refine .ite ?_ ?_; refine .trans ?_ (State.setFlags_keeps ..)
  refine .ite ?_ ?_; refine .trans ?_ (.foldl (fun s x => ?_) _ _); rotate_left; (try lift_lets -underBinder)
  refine .trans ?_ (State.convTrigger_keeps ..); exact .refl _; assumption; refine .ite ?_ ?_
  refine .trans ?_ (.foldl (fun s x => ?_) _ _); rotate_left; (try lift_lets -underBinder)
  refine .trans ?_ (State.convTrigger_keeps ..); exact .refl _; assumption; refine .ite ?_ ?_
  refine .trans ?_ (State.setFlags_keeps ..); refine .ite ?_ ?_
  refine .trans ?_ (.foldl (fun s x => ?_) _ _); rotate_left; (try lift_lets -underBinder)
  refine .trans ?_ (State.convTrigger_keeps ..); exact .refl _; assumption; refine .ite ?_ ?_
  refine .trans ?_ (.foldl (fun s x => ?_) _ _); rotate_left; (try lift_lets -underBinder)
  refine .trans ?_ (State.convTrigger_keeps ..); exact .refl _; assumption; refine .ite ?_ ?_
  refine .trans ?_ (State.recTime_keeps ..); exact .refl _; exact .refl _; assumption; assumption; assumption
  assumption

theorem State.trigFire_keeps (s : State) (k : Nat) : s.Keeps (State.trigFire s k) := by
  delta State.trigFire; lift_lets -underBinder; intro x; clear_value x; intro x; clear_value x
  intro x; refine .cut (x := x) ?_ ?_; subst x; rotate_left; intro hx; clear_value x; refine .ite ?_ ?_; exact .refl _
  refine .trans ?_ (State.trigDest_keeps ..); refine .ite ?_ ?_; refine .trans ?_ (State.wr_keeps ..)
  refine .trans ?_ (State.wr_keeps ..); refine .trans ?_ (State.setTrig_keeps ..); refine .trans ?_ (State.cnt_keeps ..)
  assumption; refine .trans ?_ (State.setTrig_keeps ..); refine .trans ?_ (State.cnt_keeps ..); assumption
  refine .ite ?_ ?_; refine .trans ?_ (State.wr_keeps ..); exact .refl _; exact .refl _

theorem State.stepRaw_keeps (s : State) (e : Int) : s.Keeps (State.stepRaw s e) := by
  delta State.stepRaw; lift_lets -underBinder; intro x; clear_value x
  intro x; refine .cut (x := x) ?_ ?_; subst x; rotate_left; intro hx; clear_value x
  refine .trans ?_ (.foldl (fun s x => ?_) _ _); rotate_left; (try lift_lets -underBinder)
  refine .trans ?_ (State.trigFire_keeps ..); exact .refl _; refine .trans ?_ (State.setClk_keeps ..); exact .refl _
  refine .trans ?_ (State.wr_keeps ..); refine .trans ?_ (State.wr_keeps ..); refine .trans ?_ (State.setRecd_keeps ..)
  refine .trans ?_ (State.setConv_keeps ..); assumption

theorem State.stepCt_keeps (s : State) (e : Int) : s.Keeps (State.stepCt s e) := by
  delta State.stepCt; lift_lets -underBinder
  intro x; refine .cut (x := x) ?_ ?_; subst x; rotate_left; intro hx; clear_value x; refine .ite ?_ ?_
  refine .trans ?_ (State.setTim_keeps ..); assumption; assumption; refine .trans ?_ (State.stepRaw_keeps ..)
  exact .refl _

theorem State.slewBy_keeps (s : State) (e : Int) (accepted : Bool) : s.Keeps (State.slewBy s e accepted) := by
  delta State.slewBy; lift_lets -underBinder; intro x; clear_value x; intro x; clear_value x
  intro x; refine .cut (x := x) ?_ ?_; subst x; rotate_left; intro hx; clear_value x
  refine .trans ?_ (State.wrS_keeps ..); refine .trans ?_ (State.wr_keeps ..); assumption
  refine .trans ?_ (State.setClk_keeps ..); exact .refl _

theorem State.selectSource_keeps (s : State) : s.Keeps (State.selectSource s) := by
  delta State.selectSource; refine .ite ?_ ?_; refine .trans ?_ (State.wr_keeps ..)
  refine .trans ?_ (State.wr_keeps ..); exact .refl _; split; lift_lets -underBinder; intro x; clear_value x
  refine .trans ?_ (State.wr_keeps ..); refine .trans ?_ (State.wr_keeps ..); exact .refl _
  refine .trans ?_ (State.wr_keeps ..); refine .trans ?_ (State.wr_keeps ..); exact .refl _

theorem State.slewStop_keeps (s : State) : s.Keeps (State.slewStop s) := by
  delta State.slewStop; lift_lets -underBinder; intro x; clear_value x
  intro x; refine .cut (x := x) ?_ ?_; subst x; rotate_left; intro hx; clear_value x
  refine .trans ?_ (State.wr_keeps ..); refine .trans ?_ (State.setClk_keeps ..); assumption; refine .ite ?_ ?_
  refine .trans ?_ (State.wrS_keeps ..); exact .refl _; exact .refl _

theorem State.holdover_keeps (s : State) : s.Keeps (State.holdover s) := by
  delta State.holdover; lift_lets -underBinder; intro x; clear_value x; refine .ite ?_ ?_
  refine .trans ?_ (State.timeTo_keeps ..); refine .trans ?_ (State.slewStop_keeps ..); exact .refl _; exact .refl _

theorem State.srcInvalid_keeps (s : State) (i : Nat) (reason : Nat) : s.Keeps (State.srcInvalid s i reason) := by
  delta State.srcInvalid; lift_lets -underBinder; intro x; clear_value x
  intro x; refine .cut (x := x) ?_ ?_; subst x; rotate_left; intro hx; clear_value x; refine .ite ?_ ?_
  refine .trans ?_ (State.holdover_keeps ..); refine .trans ?_ (State.selectSource_keeps ..); assumption
  refine .trans ?_ (State.selectSource_keeps ..); assumption; refine .trans ?_ (State.wr_keeps ..)
  refine .trans ?_ (State.wr_keeps ..); exact .refl _

theorem State.trigDisarm_keeps (s : State) (k : Nat) : s.Keeps (State.trigDisarm s k) := by
  delta State.trigDisarm; refine .trans ?_ (State.wr_keeps ..); refine .trans ?_ (State.trigFire_keeps ..)
  exact .refl _

theorem State.trigArm_keeps (s : State) (p : Port) (k : Nat) : s.Keeps (State.trigArm s p k) := by
  delta State.trigArm; lift_lets -underBinder; intro x; clear_value x; intro x; clear_value x; intro x; clear_value x
  intro x; clear_value x; intro x; clear_value x; refine .ite ?_ ?_; refine .trans ?_ (State.range_keeps ..)
  exact .refl _; refine .ite ?_ ?_; refine .trans ?_ (State.wr_keeps ..); refine .trans ?_ (State.wr_keeps ..)
  exact .refl _; refine .ite ?_ ?_; refine .trans ?_ (State.range_keeps ..); exact .refl _
  refine .trans ?_ (State.setTrig_keeps ..); refine .trans ?_ (State.wr_keeps ..); refine .trans ?_ (State.wr_keeps ..)
  exact .refl _

theorem State.codeInvalid_keeps (s : State) (code : Nat) (reason : Nat) : s.Keeps (State.codeInvalid s code reason) := by
  delta State.codeInvalid; split; refine .ite ?_ ?_; refine .trans ?_ (State.srcInvalid_keeps ..); exact .refl _
  exact .refl _; exact .refl _

theorem State.refuseTime_keeps (s : State) (e : Int) : s.Keeps (State.refuseTime s e) := by
  delta State.refuseTime; lift_lets -underBinder; intro x; clear_value x
  intro x; refine .cut (x := x) ?_ ?_; subst x; rotate_left; intro hx; clear_value x; refine .ite ?_ ?_
  refine .trans ?_ (State.inc_keeps ..); refine .trans ?_ (State.wrS_keeps ..); assumption
  refine .trans ?_ (State.raise_keeps ..); refine .trans ?_ (State.inc_keeps ..); refine .trans ?_ (State.wrS_keeps ..)
  assumption; refine .trans ?_ (State.wr_keeps ..); refine .trans ?_ (State.timeTo_keeps ..)
  refine .trans ?_ (State.slewStop_keeps ..); exact .refl _

theorem State.setRate_keeps (s : State) (r : Int) : s.Keeps (State.setRate s r) := by
  delta State.setRate; refine .trans ?_ (State.wrS_keeps ..); refine .trans ?_ (State.setClk_keeps ..); exact .refl _

theorem State.timeSample_keeps (s : State) (raw : Int) (g : Gain) : s.Keeps (State.timeSample s raw g) := by
  delta State.timeSample; lift_lets -underBinder; intro x; clear_value x; intro x; clear_value x; intro x; clear_value x
  intro x; clear_value x; intro x; refine .cut (x := x) ?_ ?_; subst x; rotate_left; intro hx; clear_value x
  refine .ite ?_ ?_; refine .ite ?_ ?_; refine .trans ?_ (State.setClk_keeps ..)
  refine .trans ?_ (State.timeTo_keeps ..); refine .trans ?_ (State.stepCt_keeps ..); assumption
  refine .trans ?_ (State.refuseTime_keeps ..); assumption; refine .ite ?_ ?_
  refine .trans ?_ (State.refuseTime_keeps ..); assumption; refine .ite ?_ ?_; refine .trans ?_ (State.timeTo_keeps ..)
  refine .trans ?_ (State.setClk_keeps ..); refine .trans ?_ (State.slewBy_keeps ..)
  refine .trans ?_ (State.setRate_keeps ..); assumption; refine .trans ?_ (State.setClk_keeps ..)
  refine .trans ?_ (State.slewBy_keeps ..); refine .trans ?_ (State.setRate_keeps ..); assumption
  refine .trans ?_ (State.wrS_keeps ..); exact .refl _

theorem State.srcSample_keeps (s : State) (code : Nat) (depth : Nat) (e : Int) (g : Gain) : s.Keeps (State.srcSample s
    code depth e g) := by
  delta State.srcSample; split; exact .refl _; lift_lets -underBinder; intro x; clear_value x
  intro x; refine .cut (x := x) ?_ ?_; subst x; rotate_left; intro hx; clear_value x; refine .ite ?_ ?_
  refine .trans ?_ (State.timeSample_keeps ..); refine .ite ?_ ?_; assumption
  refine .trans ?_ (State.selectSource_keeps ..); refine .trans ?_ (State.wr_keeps ..)
  refine .trans ?_ (State.wr_keeps ..); assumption; refine .ite ?_ ?_; assumption
  refine .trans ?_ (State.selectSource_keeps ..); refine .trans ?_ (State.wr_keeps ..)
  refine .trans ?_ (State.wr_keeps ..); assumption; refine .trans ?_ (State.wr_keeps ..); exact .refl _

theorem State.slewDone_keeps (s : State) : s.Keeps (State.slewDone s) := by
  delta State.slewDone; lift_lets -underBinder; intro x; clear_value x
  intro x; refine .cut (x := x) ?_ ?_; subst x; rotate_left; intro hx; clear_value x
  refine .trans ?_ (State.wr_keeps ..); refine .trans ?_ (State.wr_keeps ..); assumption
  refine .trans ?_ (State.setClk_keeps ..); exact .refl _

theorem Skerry.silentSource_keeps (k : Skerry) : k.Keeps (Skerry.silentSource k) := by
  delta Skerry.silentSource; lift_lets -underBinder; intro x; clear_value x; intro x; clear_value x; refine .ite ?_ ?_
  refine .trans ?_ (Skerry.wr_keeps ..); refine .trans ?_ (Skerry.wr_keeps ..); refine .trans ?_ (.of_mk ..)
  exact .refl _; exact .refl _

theorem State.acceptStep_keeps (s : State) (p : Port) : s.Keeps (State.acceptStep s p) := by
  delta State.acceptStep; lift_lets -underBinder
  intro x; refine .cut (x := x) ?_ ?_; subst x; rotate_left; intro hx; clear_value x; refine .ite ?_ ?_
  refine .trans ?_ (State.setClk_keeps ..); assumption; refine .trans ?_ (State.range_keeps ..); exact .refl _
  refine .trans ?_ (State.timeTo_keeps ..); refine .trans ?_ (State.stepCt_keeps ..); exact .refl _

theorem State.slewJump_keeps (s : State) (p : Port) : s.Keeps (State.slewJump s p) := by
  delta State.slewJump; refine .ite ?_ ?_; refine .trans ?_ (State.timeTo_keeps ..)
  refine .trans ?_ (State.slewBy_keeps ..); exact .refl _; refine .trans ?_ (State.range_keeps ..); exact .refl _

theorem State.discardJump_keeps (s : State) (p : Port) : s.Keeps (State.discardJump s p) := by
  delta State.discardJump; refine .ite ?_ ?_; refine .ite ?_ ?_; refine .trans ?_ (State.srcInvalid_keeps ..)
  exact .refl _; exact .refl _; refine .trans ?_ (State.range_keeps ..); exact .refl _

theorem State.writeMark_keeps (s : State) (p : Port) (v : Nat) : s.Keeps (State.writeMark s p v) := by
  delta State.writeMark; lift_lets -underBinder; intro x; clear_value x
  intro x; refine .cut (x := x) ?_ ?_; subst x; rotate_left; intro hx; clear_value x; refine .ite ?_ ?_
  refine .trans ?_ (State.wrW_keeps ..); exact .refl _; refine .ite ?_ ?_; refine .trans ?_ (State.range_keeps ..)
  exact .refl _; split; refine .trans ?_ (State.needFlash_keeps ..); assumption; refine .trans ?_ (State.range_keeps ..)
  assumption; refine .trans ?_ (State.wrW_keeps ..); exact .refl _

theorem execAcceptStep_answers (p : Port) (s : State) : s.Answers (execAcceptStep p s) := by
  delta execAcceptStep; refine .next ?_; refine .trans ?_ (State.acceptStep_keeps ..); exact .refl _

theorem execDiscardJump_answers (p : Port) (s : State) : s.Answers (execDiscardJump p s) := by
  delta execDiscardJump; refine .next ?_; refine .trans ?_ (State.discardJump_keeps ..); exact .refl _

theorem execFallbackLoad_answers (c : Chip) (s : State) : s.Answers (execFallbackLoad c s) := by
  delta execFallbackLoad; split; refine .ite ?_ ?_; refine .next ?_; refine .trans ?_ (State.setTim_keeps ..)
  refine .trans ?_ (State.setClk_keeps ..); exact .refl _; refine .next ?_; exact .refl _; refine .next ?_
  refine .trans ?_ (State.runCell_keeps _ _ _ (fun _ => ?_)); rotate_left; beta_reduce; (try lift_lets -underBinder)
  refine .ite ?_ ?_; refine .trans ?_ (.of_mk ..); exact .refl _; exact .refl _; exact .refl _

theorem execMainPathLost_answers (c : Chip) (s : State) : s.Answers (execMainPathLost c s) := by
  delta execMainPathLost; split; refine .ite ?_ ?_; refine .next ?_; refine .trans ?_ (State.raise_keeps ..)
  refine .trans ?_ (State.wr_keeps ..); refine .trans ?_ (State.wr_keeps ..); exact .refl _; refine .next ?_
  exact .refl _; refine .next ?_
  refine .trans ?_ (State.runCell_keeps _ _ _ (fun _ => ?_)); rotate_left; beta_reduce; (try lift_lets -underBinder)
  refine .ite ?_ ?_; refine .trans ?_ (Skerry.wr_keeps ..); refine .trans ?_ (Skerry.wr_keeps ..); exact .refl _
  exact .refl _; exact .refl _

theorem execMainPathReturn_answers (c : Chip) (s : State) : s.Answers (execMainPathReturn c s) := by
  delta execMainPathReturn; split; refine .ite ?_ ?_; lift_lets -underBinder
  intro x; refine .cut (x := x) ?_ ?_; subst x; rotate_left; intro hx; clear_value x; refine .next ?_; refine .ite ?_ ?_
  assumption; refine .trans ?_ (State.timeTo_keeps ..); assumption; refine .next ?_; exact .refl _; refine .next ?_
  refine .trans ?_ (State.runCell_keeps _ _ _ (fun _ => ?_)); rotate_left; beta_reduce; (try lift_lets -underBinder)
  intro x; refine .cut (x := x) ?_ ?_; subst x; rotate_left; intro hx; clear_value x; refine .ite ?_ ?_
  refine .ite ?_ ?_; assumption; refine .trans ?_ (Skerry.wr_keeps ..); assumption; exact .refl _
  refine .trans ?_ (State.wr_keeps ..); refine .trans ?_ (State.wr_keeps ..); refine .trans ?_ (State.setClk_keeps ..)
  exact .refl _; exact .refl _; refine .trans ?_ (Skerry.wr_keeps ..); refine .trans ?_ (Skerry.wr_keeps ..)
  refine .trans ?_ (.of_mk ..); exact .refl _

theorem execSlewEnd_answers (c : Chip) (s : State) : s.Answers (execSlewEnd c s) := by
  delta execSlewEnd; split; refine .ite ?_ ?_; refine .next ?_; refine .trans ?_ (State.slewDone_keeps ..)
  exact .refl _; refine .next ?_; exact .refl _; refine .next ?_
  refine .trans ?_ (State.runCell_keeps _ _ _ (fun _ => ?_)); rotate_left; beta_reduce; (try lift_lets -underBinder)
  refine .ite ?_ ?_; refine .trans ?_ (Skerry.slewEnd_keeps ..); exact .refl _; exact .refl _; exact .refl _

theorem execSlewJump_answers (p : Port) (s : State) : s.Answers (execSlewJump p s) := by
  delta execSlewJump; refine .next ?_; refine .trans ?_ (State.slewJump_keeps ..); exact .refl _

theorem execTimeMarkSend_answers (p : Port) (v : Word) (s : State) : s.Answers (execTimeMarkSend p v s) := by
  delta execTimeMarkSend; refine .next ?_; refine .trans ?_ (State.writeMark_keeps ..); exact .refl _

theorem execTimeOutPulseEnd_answers (s : State) : s.Answers (execTimeOutPulseEnd s) := by
  delta execTimeOutPulseEnd; lift_lets -underBinder; intro x; clear_value x; refine .ite ?_ ?_; refine .next ?_
  refine .trans ?_ (State.setTim_keeps ..); exact .refl _; refine .next ?_; exact .refl _

theorem execTriggerArm_answers (c : Chip) (p : Port) (k : Nat) (s : State) : s.Answers (execTriggerArm c p k s) := by
  delta execTriggerArm; split; refine .ite ?_ ?_; refine .next ?_; refine .trans ?_ (State.trigArm_keeps ..)
  exact .refl _; refine .next ?_; exact .refl _; refine .ite ?_ ?_; refine .next ?_
  refine .trans ?_ (State.runCell_keeps _ _ _ (fun _ => ?_)); rotate_left; beta_reduce; (try lift_lets -underBinder)
  refine .trans ?_ (Skerry.trigArm_keeps ..); exact .refl _; refine .next ?_; exact .refl _; exact .refl _

theorem execTriggerDisarm_answers (c : Chip) (k : Nat) (s : State) : s.Answers (execTriggerDisarm c k s) := by
  delta execTriggerDisarm; split; refine .ite ?_ ?_; refine .next ?_; refine .trans ?_ (State.trigDisarm_keeps ..)
  exact .refl _; refine .next ?_; exact .refl _; refine .ite ?_ ?_; refine .next ?_
  refine .trans ?_ (State.runCell_keeps _ _ _ (fun _ => ?_)); rotate_left; beta_reduce; (try lift_lets -underBinder)
  refine .trans ?_ (Skerry.trigDisarm_keeps ..); exact .refl _; refine .next ?_; exact .refl _; exact .refl _

theorem execTriggerFire_answers (c : Chip) (k : Nat) (s : State) : s.Answers (execTriggerFire c k s) := by
  delta execTriggerFire; split; refine .ite ?_ ?_; refine .next ?_; refine .trans ?_ (State.trigFire_keeps ..)
  exact .refl _; refine .next ?_; exact .refl _; refine .ite ?_ ?_; refine .next ?_
  refine .trans ?_ (State.runCell_keeps _ _ _ (fun _ => ?_)); rotate_left; beta_reduce; (try lift_lets -underBinder)
  refine .trans ?_ (Skerry.trigFire_keeps ..); exact .refl _; refine .next ?_; exact .refl _; exact .refl _

theorem Skerry.setPortRx_keeps (k : Skerry) (p : Nat) (r : LaneRx) : k.Keeps (Skerry.setPortRx k p r) := by
  delta Skerry.setPortRx; refine .trans ?_ (.of_mk ..); exact .refl _

theorem Skerry.portTake_keeps (k : Skerry) (p : Nat) (ss : List Sym) : k.Keeps (Skerry.portTake k p ss) := by
  delta Skerry.portTake; lift_lets -underBinder
  intro x; refine .cut (x := x) ?_ ?_; subst x; rotate_left; intro hx; clear_value x; refine .ite ?_ ?_; exact .refl _
  refine .trans ?_ (Skerry.wr_keeps ..); refine .trans ?_ (Skerry.setPortRx_keeps ..); assumption
  refine .trans ?_ (Skerry.cnt_keeps ..); refine .trans ?_ (Skerry.cnt_keeps ..); exact .refl _

theorem Skerry.showLock_keeps (k : Skerry) : k.Keeps (Skerry.showLock k) := by
  delta Skerry.showLock; refine .trans ?_ (Skerry.wr_keeps ..); refine .trans ?_ (Skerry.wr_keeps ..); exact .refl _

theorem Skerry.portDrop_keeps (k : Skerry) (p : Nat) (st : Nat) : k.Keeps (Skerry.portDrop k p st) := by
  delta Skerry.portDrop; lift_lets -underBinder; intro x; clear_value x
  intro x; refine .cut (x := x) ?_ ?_; subst x; rotate_left; intro hx; clear_value x; refine .ite ?_ ?_
  refine .trans ?_ (Skerry.wr_keeps ..); refine .trans ?_ (Skerry.inc_keeps ..)
  refine .trans ?_ (Skerry.showLock_keeps ..); refine .trans ?_ (Skerry.wr_keeps ..)
  refine .trans ?_ (Skerry.wr_keeps ..); assumption; refine .trans ?_ (Skerry.showLock_keeps ..)
  refine .trans ?_ (Skerry.wr_keeps ..); refine .trans ?_ (Skerry.wr_keeps ..); assumption; refine .trans ?_ (.of_mk ..)
  exact .refl _

theorem Skerry.portLock_keeps (k : Skerry) (p : Nat) : k.Keeps (Skerry.portLock k p) := by
  delta Skerry.portLock; refine .trans ?_ (Skerry.showLock_keeps ..); refine .trans ?_ (Skerry.setPortRx_keeps ..)
  refine .trans ?_ (Skerry.wr_keeps ..); exact .refl _

theorem State.laneTime_keeps (s : State) (n : Nat) : s.Keeps (State.laneTime s n) := by
  delta State.laneTime; refine .ite ?_ ?_; refine .trans ?_ (State.codeInvalid_keeps ..); exact .refl _; exact .refl _

theorem State.laneDrop_keeps (s : State) (n : Nat) (st : Nat) : s.Keeps (State.laneDrop s n st) := by
  delta State.laneDrop; refine .trans ?_ (State.laneTime_keeps ..); refine .trans ?_ (State.laneTo_keeps ..)
  exact .refl _

theorem State.setLaneRx_keeps (s : State) (n : Nat) (r : LaneRx) : s.Keeps (State.setLaneRx s n r) := by
  delta State.setLaneRx; lift_lets -underBinder; intro x; clear_value x; refine .trans ?_ (.of_mk ..); exact .refl _

theorem State.laneLock_keeps (s : State) (n : Nat) : s.Keeps (State.laneLock s n) := by
  delta State.laneLock; lift_lets -underBinder
  intro x; refine .cut (x := x) ?_ ?_; subst x; rotate_left; intro hx; clear_value x
  refine .trans ?_ (State.setLaneRx_keeps ..); refine .trans ?_ (State.wr_keeps ..); assumption
  refine .trans ?_ (State.putBitAt_keeps ..); refine .trans ?_ (State.wr_keeps ..); exact .refl _

theorem State.laneTake_keeps (s : State) (n : Nat) (ss : List Sym) : s.Keeps (State.laneTake s n ss).1 := by
  delta State.laneTake; lift_lets -underBinder
  intro x; refine .cut (x := x) ?_ ?_; subst x; rotate_left; intro hx; clear_value x; split; dsimp only; exact .refl _
  split
  lift_lets -underBinder; intro x; refine .cut (x := x) ?_ ?_; subst x; rotate_left; intro hx; clear_value x; split
  dsimp only; refine .trans ?_ (State.laneDrop_keeps ..); assumption; dsimp only; assumption
  refine .trans ?_ (State.cnt_keeps ..); refine .trans ?_ (State.cnt_keeps ..); exact .refl _
  refine .trans ?_ (State.wr_keeps ..); refine .trans ?_ (State.setLaneRx_keeps ..); assumption

theorem State.laneTake_out {r_} {t_ : State} {s : State} {n : Nat} {ss : List Sym} (h_ : State.laneTake s n ss = (t_, r_))
    : s.Keeps t_ := by
  have := State.laneTake_keeps s n ss; rwa [h_] at this

theorem State.setNet_keeps (s : State) (n : Net) : s.Keeps (State.setNet s n) := by
  delta State.setNet; refine .trans ?_ (.of_mk ..); exact .refl _

theorem State.setPtp_keeps (s : State) (p : Nat) (x : PtpPort) : s.Keeps (State.setPtp s p x) := by
  delta State.setPtp; lift_lets -underBinder; intro x; clear_value x; refine .trans ?_ (State.setNet_keeps ..)
  exact .refl _

theorem State.setStLane_keeps (s : State) (i : Nat) (x : StLane) : s.Keeps (State.setStLane s i x) := by
  delta State.setStLane; lift_lets -underBinder; intro x; clear_value x; refine .trans ?_ (State.setNet_keeps ..)
  exact .refl _

theorem State.pubSend_keeps (s : State) (u : Nat) : s.Keeps (State.pubSend s u) := by
  delta State.pubSend; lift_lets -underBinder; intro x; clear_value x; refine .trans ?_ (State.emit_keeps ..)
  exact .refl _

theorem State.setPub_keeps (s : State) (u : Nat) (x : Pub) : s.Keeps (State.setPub s u x) := by
  delta State.setPub; lift_lets -underBinder; intro x; clear_value x; refine .trans ?_ (State.setNet_keeps ..)
  exact .refl _

theorem State.gooseChange_keeps (s : State) (u : Nat) : s.Keeps (State.gooseChange s u) := by
  delta State.gooseChange; lift_lets -underBinder; intro x; clear_value x; intro x; clear_value x
  intro x; clear_value x; intro x; refine .cut (x := x) ?_ ?_; subst x; rotate_left; intro hx; clear_value x
  refine .ite ?_ ?_; exact .refl _; refine .trans ?_ (State.pubSend_keeps ..); refine .trans ?_ (State.setPub_keeps ..)
  assumption; refine .trans ?_ (State.wr_keeps ..); exact .refl _

theorem State.noteHeard_keeps (s : State) (n : Nat) (seq : Nat) (arr : Nat) : s.Keeps (State.noteHeard s n seq arr) := by
  delta State.noteHeard; lift_lets -underBinder; intro x; clear_value x; refine .trans ?_ (State.setTim_keeps ..)
  exact .refl _

theorem State.noteSent_keeps (s : State) (n : Nat) : s.Keeps (State.noteSent s n) := by
  delta State.noteSent; split; refine .trans ?_ (State.setTim_keeps ..); exact .refl _

theorem State.ptpJudge_keeps (s : State) (p : Nat) : s.Keeps (State.ptpJudge s p) := by
  delta State.ptpJudge; lift_lets -underBinder; intro x; clear_value x; intro x; clear_value x
  intro x; refine .cut (x := x) ?_ ?_; subst x; rotate_left; intro hx; clear_value x; refine .ite ?_ ?_
  refine .trans ?_ (State.codeInvalid_keeps ..); refine .trans ?_ (State.raise_keeps ..); assumption; assumption
  refine .trans ?_ (State.wr_keeps ..); exact .refl _

theorem State.ptpSample_keeps (s : State) (p : Nat) (arrival : Int) (origin : Int) (corr : Int) (logInt : Int) : s.Keeps
    (State.ptpSample s p arrival origin corr logInt) := by
  delta State.ptpSample; lift_lets -underBinder; intro x; clear_value x; intro x; clear_value x
  intro x; refine .cut (x := x) ?_ ?_; subst x; rotate_left; intro hx; clear_value x; refine .ite ?_ ?_
  refine .trans ?_ (State.srcSample_keeps ..); refine .trans ?_ (State.ptpJudge_keeps ..)
  refine .trans ?_ (State.fireRoute_keeps ..); assumption; refine .trans ?_ (State.ptpJudge_keeps ..)
  refine .trans ?_ (State.fireRoute_keeps ..); assumption; refine .trans ?_ (State.setPtp_keeps ..)
  refine .trans ?_ (State.wrS_keeps ..); exact .refl _

theorem State.straitSend_keeps (s : State) (i : Nat) : s.Keeps (State.straitSend s i) := by
  delta State.straitSend; lift_lets -underBinder; intro x; clear_value x; intro x; clear_value x
  intro x; refine .cut (x := x) ?_ ?_; subst x; rotate_left; intro hx; clear_value x; refine .ite ?_ ?_; exact .refl _
  refine .ite ?_ ?_; refine .trans ?_ (State.setStLane_keeps ..); refine .trans ?_ (State.noteSent_keeps ..)
  refine .trans ?_ (State.emit_keeps ..); assumption; refine .trans ?_ (State.noteSent_keeps ..)
  refine .trans ?_ (State.emit_keeps ..); assumption; refine .trans ?_ (State.setStLane_keeps ..)
  refine .trans ?_ (State.wr_keeps ..); exact .refl _

theorem State.setCws_keeps (s : State) (c : Cws) : s.Keeps (State.setCws s c) := by
  delta State.setCws; refine .trans ?_ (.of_mk ..); exact .refl _

theorem State.setWay_keeps (s : State) (c : Nat) (w : Cway) : s.Keeps (State.setWay s c w) := by
  delta State.setWay; lift_lets -underBinder; intro x; clear_value x; refine .trans ?_ (State.setCws_keeps ..)
  exact .refl _

theorem State.writeMeasure_keeps (s : State) (p : Port) (c : Nat) (v : Nat) : s.Keeps (State.writeMeasure s p c v) := by
  delta State.writeMeasure; lift_lets -underBinder; intro x; clear_value x; refine .ite ?_ ?_; exact .refl _
  refine .ite ?_ ?_; refine .trans ?_ (State.range_keeps ..); exact .refl _; refine .trans ?_ (State.setWay_keeps ..)
  exact .refl _

theorem State.cwClose_keeps (s : State) (c : Nat) : s.Keeps (State.cwClose s c) := by
  delta State.cwClose; lift_lets -underBinder; intro x; clear_value x; intro x; clear_value x; intro x; clear_value x
  intro x; refine .cut (x := x) ?_ ?_; subst x; rotate_left; intro hx; clear_value x
  refine .trans ?_ (State.setWay_keeps ..); assumption; refine .ite ?_ ?_; refine .trans ?_ (State.inc_keeps ..)
  exact .refl _; exact .refl _

theorem State.cwTo_keeps (s : State) (c : Nat) (st : Nat) : s.Keeps (State.cwTo s c st) := by
  delta State.cwTo; lift_lets -underBinder
  intro x; refine .cut (x := x) ?_ ?_; subst x; rotate_left; intro hx; clear_value x; refine .ite ?_ ?_
  refine .trans ?_ (State.raise_keeps ..); refine .trans ?_ (State.putBitAt_keeps ..)
  refine .trans ?_ (State.setWay_keeps ..); refine .trans ?_ (State.putBitAt_keeps ..); assumption; refine .ite ?_ ?_
  refine .trans ?_ (State.raise_keeps ..); refine .trans ?_ (State.setWay_keeps ..)
  refine .trans ?_ (State.putBitAt_keeps ..); assumption; refine .trans ?_ (State.setWay_keeps ..)
  refine .trans ?_ (State.putBitAt_keeps ..); assumption; refine .trans ?_ (State.putBitAt_keeps ..)
  refine .trans ?_ (State.wr_keeps ..); exact .refl _

theorem execCausewayCut_answers (c : Nat) (mate : Bool) (s : State) : s.Answers (execCausewayCut c mate s) := by
  delta execCausewayCut; refine .ite ?_ ?_; refine .next ?_; refine .trans ?_ (State.cwTo_keeps ..); exact .refl _
  refine .next ?_; exact .refl _

theorem execCausewayDown_answers (c : Nat) (mate : Bool) (s : State) : s.Answers (execCausewayDown c mate s) := by
  delta execCausewayDown; refine .ite ?_ ?_; refine .next ?_; refine .trans ?_ (State.cwTo_keeps ..); exact .refl _
  refine .next ?_; exact .refl _

theorem execCausewayMeasuring_answers (c : Nat) (mate : Bool) (s : State) : s.Answers (execCausewayMeasuring c mate s) :=
    by
  delta execCausewayMeasuring; lift_lets -underBinder; intro x; clear_value x; intro x; clear_value x
  intro x; refine .cut (x := x) ?_ ?_; subst x; rotate_left; intro hx; clear_value x; refine .ite ?_ ?_; refine .next ?_
  exact .refl _; refine .ite ?_ ?_; refine .next ?_; refine .trans ?_ (State.cwTo_keeps ..); assumption
  refine .ite ?_ ?_; refine .next ?_; refine .trans ?_ (State.cwTo_keeps ..); refine .ite ?_ ?_
  refine .trans ?_ (State.rangeBlk_keeps ..); assumption; assumption; refine .next ?_; refine .ite ?_ ?_
  refine .trans ?_ (State.rangeBlk_keeps ..); assumption; assumption; refine .trans ?_ (State.setWay_keeps ..)
  exact .refl _

theorem execCausewayUp_answers (c : Nat) (s : State) : s.Answers (execCausewayUp c s) := by
  delta execCausewayUp; refine .ite ?_ ?_; refine .next ?_; refine .trans ?_ (State.marginCheck_keeps ..)
  refine .trans ?_ (State.cwTo_keeps ..); exact .refl _; refine .next ?_; exact .refl _

theorem execCutClear_answers (c : Nat) (mate : Bool) (s : State) : s.Answers (execCutClear c mate s) := by
  delta execCutClear; refine .ite ?_ ?_; refine .next ?_; refine .trans ?_ (State.marginCheck_keeps ..)
  refine .trans ?_ (State.wr_keeps ..); refine .trans ?_ (State.cwTo_keeps ..); exact .refl _; refine .next ?_
  exact .refl _

theorem execMeasure_answers (p : Port) (c : Nat) (s : State) : s.Answers (execMeasure p c s) := by
  delta execMeasure; refine .next ?_; refine .trans ?_ (State.writeMeasure_keeps ..); exact .refl _

theorem execSplitSet_answers (c : Nat) (s : State) : s.Answers (execSplitSet c s) := by
  delta execSplitSet; refine .ite ?_ ?_; refine .next ?_; refine .trans ?_ (State.wr_keeps ..); exact .refl _
  refine .next ?_; exact .refl _

theorem State.lagCompare_keeps (s : State) (done : Nat) (t : Nat) : s.Keeps (State.lagCompare s done t) := by
  delta State.lagCompare; split; exact .refl _; refine .ite ?_ ?_; exact .refl _; refine .ite ?_ ?_; exact .refl _
  refine .trans ?_ (State.inc_keeps ..); exact .refl _

theorem State.refreshReq_keeps (s : State) (g : Nat) (on : Bool) (t : Nat) : s.Keeps (State.refreshReq s g on t) := by
  delta State.refreshReq; lift_lets -underBinder; intro x; refine .cut (x := x) ?_ ?_; subst x; rotate_left; intro hx
  refine .ite ?_ ?_; refine .trans ?_ (State.setRec_keeps ..); assumption; refine .ite ?_ ?_
  refine .trans ?_ (State.inc_keeps ..); refine .trans ?_ (State.raise_keeps ..)
  refine .trans ?_ (State.setRec_keeps ..); assumption; refine .trans ?_ (State.setRec_keeps ..); assumption
  refine .trans ?_ (State.wr_keeps ..); exact .refl _

theorem State.mismatch_keeps (s : State) (g : Nat) (ap : Nat) (t : Nat) : s.Keeps (State.mismatch s g ap t) := by
  delta State.mismatch; lift_lets -underBinder; intro x; clear_value x; refine .ite ?_ ?_; exact .refl _; split
  exact .refl _; refine .ite ?_ ?_; refine .trans ?_ (State.wr_keeps ..); refine .trans ?_ (State.setRec_keeps ..)
  exact .refl _; refine .ite ?_ ?_; refine .trans ?_ (State.setRec_keeps ..); exact .refl _; lift_lets -underBinder
  intro x; clear_value x; intro x; refine .cut (x := x) ?_ ?_; subst x; rotate_left; intro hx; clear_value x
  refine .trans ?_ (State.setExp_keeps ..); refine .trans ?_ (State.inc_keeps ..); assumption
  refine .trans ?_ (State.raise_keeps ..); refine .trans ?_ (State.wr_keeps ..); exact .refl _

theorem State.takeHealth_keeps (s : State) (g : Nat) (h : Nat) : s.Keeps (State.takeHealth s g h) := by
  delta State.takeHealth; lift_lets -underBinder; intro x; clear_value x
  intro x; refine .cut (x := x) ?_ ?_; subst x; rotate_left; intro hx; clear_value x; refine .ite ?_ ?_
  refine .trans ?_ (State.markRetire_keeps ..); exact .refl _; refine .ite ?_ ?_; refine .ite ?_ ?_; exact .refl _
  refine .trans ?_ (State.showHeads_keeps ..); refine .trans ?_ (State.rerank_keeps ..)
  refine .trans ?_ (State.wr_keeps ..); refine .trans ?_ (State.setRec_keeps ..); assumption; refine .ite ?_ ?_
  refine .trans ?_ (State.wr_keeps ..); exact .refl _; exact .refl _; refine .ite ?_ ?_
  refine .trans ?_ (State.inc_keeps ..); exact .refl _; exact .refl _

theorem State.takeVcap_keeps (s : State) (g : Nat) (n : Nat) (v : Nat) (settle : Bool) (ovr : Bool) : s.Keeps
    (State.takeVcap s g n v settle ovr) := by
  delta State.takeVcap; lift_lets -underBinder; intro x; clear_value x; intro x; clear_value x; intro x; clear_value x
  intro x; clear_value x; intro x; clear_value x
  intro x; refine .cut (x := x) ?_ ?_; subst x; rotate_left; intro hx; clear_value x; refine .ite ?_ ?_
  refine .trans ?_ (State.markRetire_keeps ..); assumption; assumption; refine .ite ?_ ?_
  refine .trans ?_ (State.setRec_keeps ..); exact .refl _; refine .trans ?_ (State.setRec_keeps ..)
  refine .trans ?_ (State.wr_keeps ..); exact .refl _

theorem State.partStart_keeps (s : State) (g : Nat) : s.Keeps (State.partStart s g) := by
  delta State.partStart; lift_lets -underBinder; intro x; clear_value x; refine .trans ?_ (State.setRec_keeps ..)
  exact .refl _

theorem State.takePartState_keeps (s : State) (g : Nat) (part : Nat) : s.Keeps (State.takePartState s g part) := by
  delta State.takePartState; lift_lets -underBinder; intro x; clear_value x
  intro x; refine .cut (x := x) ?_ ?_; subst x; rotate_left; intro hx; clear_value x; refine .ite ?_ ?_
  refine .trans ?_ (State.setRec_keeps ..); exact .refl _; refine .ite ?_ ?_; exact .refl _; refine .ite ?_ ?_
  refine .ite ?_ ?_; exact .refl _; refine .ite ?_ ?_; refine .ite ?_ ?_; refine .trans ?_ (State.markRetire_keeps ..)
  assumption; refine .trans ?_ (State.partStart_keeps ..); assumption; refine .trans ?_ (State.partStart_keeps ..)
  exact .refl _; refine .ite ?_ ?_; refine .trans ?_ (State.partStart_keeps ..); exact .refl _; exact .refl _
  refine .trans ?_ (State.setRec_keeps ..); refine .trans ?_ (State.inc_keeps ..); exact .refl _

theorem State.accept_keeps (s : State) (g : Nat) (f : List Sym) (ts : List (Sym × Option Nat)) : s.Keeps (State.accept s g
    f ts) := by
  delta State.accept; lift_lets -underBinder; intro x; clear_value x; intro x; clear_value x; intro x; clear_value x
  intro x; clear_value x; intro x; clear_value x; intro x; clear_value x; intro x; clear_value x; intro x; clear_value x
  intro x; clear_value x; intro x; clear_value x; intro x; clear_value x; intro x; clear_value x; intro x; clear_value x
  intro x; clear_value x; intro x; refine .cut (x := x) ?_ ?_; subst x; rotate_left; intro hx; clear_value x
  refine .trans ?_ (State.reUpdate_keeps ..); refine .trans ?_ (State.recStatus_keeps ..)
  refine .trans ?_ (State.takePartState_keeps ..); refine .trans ?_ (State.takeHealth_keeps ..)
  refine .trans ?_ (State.takeVcap_keeps ..); refine .trans ?_ (State.refreshReq_keeps ..)
  refine .trans ?_ (State.mismatch_keeps ..); refine .trans ?_ (State.wr_keeps ..); refine .trans ?_ (State.wr_keeps ..)
  refine .trans ?_ (State.wr_keeps ..); refine .trans ?_ (State.setRec_keeps ..)
  refine .trans ?_ (State.lagCompare_keeps ..); refine .ite ?_ ?_; refine .trans ?_ (State.raise_keeps ..); assumption
  assumption; refine .ite ?_ ?_; refine .trans ?_ (State.raise_keeps ..); exact .refl _; exact .refl _

theorem State.fence_keeps (s : State) (g : Nat) : s.Keeps (State.fence s g) := by
  delta State.fence; lift_lets -underBinder; intro x; clear_value x
  intro x; refine .cut (x := x) ?_ ?_; subst x; rotate_left; intro hx; clear_value x; refine .ite ?_ ?_
  refine .trans ?_ (.of_mk ..); assumption; exact .refl _; refine .trans ?_ (State.raise_keeps ..)
  refine .trans ?_ (State.wr_keeps ..); refine .trans ?_ (State.inc_keeps ..)
  refine .trans ?_ (State.commitOff_keeps ..); exact .refl _

theorem State.showBreaks_keeps (s : State) (c : Nat) (f : List Sym) : s.Keeps (State.showBreaks s c f) := by
  delta State.showBreaks; lift_lets -underBinder; intro x; clear_value x; intro x; clear_value x; intro x; clear_value x
  refine .trans ?_ (State.wr_keeps ..); refine .trans ?_ (State.wr_keeps ..); exact .refl _

theorem State.ferrySeen_keeps (s : State) (n : Nat) (c : Nat) (f : List Sym) (arr : Nat) : s.Keeps (State.ferrySeen s n c
    f arr) := by
  delta State.ferrySeen; lift_lets -underBinder; intro x; clear_value x; intro x; clear_value x; intro x; clear_value x
  intro x; clear_value x; intro x; clear_value x; intro x; clear_value x; intro x; clear_value x; intro x; clear_value x
  intro x; clear_value x; intro x; clear_value x
  intro x; refine .cut (x := x) ?_ ?_; subst x; rotate_left; intro hx; clear_value x
  refine .trans ?_ (State.showBreaks_keeps ..); refine .trans ?_ (State.setCws_keeps ..); refine .ite ?_ ?_
  refine .trans ?_ (State.wr_keeps ..); assumption; assumption; refine .trans ?_ (State.wr_keeps ..)
  refine .trans ?_ (State.setWay_keeps ..); exact .refl _

theorem State.followFerry_keeps (s : State) (c : Nat) (f : List Sym) : s.Keeps (State.followFerry s c f) := by
  delta State.followFerry; lift_lets -underBinder; intro x; clear_value x; intro x; clear_value x
  intro x; clear_value x; intro x; clear_value x; intro x; clear_value x; intro x; clear_value x; intro x; clear_value x
  intro x; clear_value x; intro x; clear_value x; refine .ite ?_ ?_; exact .refl _; refine .trans ?_ (State.wr_keeps ..)
  refine .trans ?_ (State.setReef_keeps ..); exact .refl _

theorem State.followFlash_keeps (s : State) (c : Nat) (dir : Nat) (t : Nat) (o : Nat × Nat × Nat) : s.Keeps
    (State.followFlash s c dir t o) := by
  delta State.followFlash; lift_lets -underBinder; intro x; clear_value x
  intro x; subst x; (try beta_reduce); (try lift_lets -underBinder); intro x; clear_value x; intro x; clear_value x
  intro x; clear_value x; refine .ite ?_ ?_; split; exact .refl _; lift_lets -underBinder; intro x; clear_value x
  intro x; refine .cut (x := x) ?_ ?_; subst x; rotate_left; intro hx; clear_value x; refine .ite ?_ ?_; exact .refl _
  refine .trans ?_ (State.setArm_keeps ..); refine .trans ?_ (State.wr_keeps ..); refine .ite ?_ ?_
  refine .trans ?_ (State.inc_keeps ..); assumption; assumption; refine .ite ?_ ?_
  refine .trans ?_ (.foldl (fun s x => ?_) _ _); rotate_left; (try lift_lets -underBinder)
  refine .trans ?_ (State.expect_keeps ..); exact .refl _; refine .ite ?_ ?_; refine .ite ?_ ?_
  refine .trans ?_ (State.stepD_keeps ..); refine .trans ?_ (State.expect_keeps ..); exact .refl _; exact .refl _
  exact .refl _; refine .trans ?_ (State.followStage_keeps ..); refine .trans ?_ (State.noteEpoch_keeps ..)
  exact .refl _; exact .refl _

theorem State.followFlashes_keeps (s : State) (c : Nat) (dir : Nat) (ts : List (Sym × Option Nat)) (sof : Nat) : s.Keeps
    (State.followFlashes s c dir ts sof) := by
  delta State.followFlashes; lift_lets -underBinder; intro x; clear_value x; intro x; clear_value x
  refine .trans ?_ (.foldl (fun s x => ?_) _ _); rotate_left; (try lift_lets -underBinder); split; exact .refl _
  refine .trans ?_ (State.followFlash_keeps ..); exact .refl _; exact .refl _

theorem State.keepFreight_keeps (s : State) (c : Nat) (f : List Sym) : s.Keeps (State.keepFreight s c f) := by
  delta State.keepFreight; lift_lets -underBinder; intro x; clear_value x; split; refine .ite ?_ ?_
  refine .trans ?_ (State.setWay_keeps ..); exact .refl _; exact .refl _; refine .ite ?_ ?_
  refine .trans ?_ (State.setWay_keeps ..); exact .refl _; exact .refl _

theorem State.noteWitness_keeps (s : State) (c : Nat) (f : List Sym) : s.Keeps (State.noteWitness s c f) := by
  delta State.noteWitness; lift_lets -underBinder; intro x; clear_value x; intro x; clear_value x
  intro x; clear_value x; intro x; clear_value x; intro x; clear_value x; refine .trans ?_ (.of_mk ..); exact .refl _

theorem State.takeReports_keeps (s : State) (c : Nat) (f : List Sym) : s.Keeps (State.takeReports s c f) := by
  delta State.takeReports; lift_lets -underBinder; intro x; clear_value x
  intro x; refine .cut (x := x) ?_ ?_; subst x; rotate_left; intro hx; clear_value x
  refine .trans ?_ (.foldl (fun s x => ?_) _ _); rotate_left; (try lift_lets -underBinder); intro x; clear_value x
  intro x; clear_value x; intro x; refine .cut (x := x) ?_ ?_; subst x; rotate_left; intro hx; clear_value x
  refine .ite ?_ ?_; exact .refl _; refine .trans ?_ (State.takePartState_keeps ..)
  refine .trans ?_ (State.setRec_keeps ..); assumption; refine .trans ?_ (State.wr_keeps ..); exact .refl _; assumption
  refine .trans ?_ (State.wr_keeps ..); refine .trans ?_ (State.wr_keeps ..); exact .refl _

theorem State.takeStatuses_keeps (s : State) (c : Nat) (f : List Sym) (ts : List (Sym × Option Nat)) : s.Keeps
    (State.takeStatuses s c f ts) := by
  delta State.takeStatuses; lift_lets -underBinder; intro x; clear_value x
  intro x; refine .cut (x := x) ?_ ?_; subst x; rotate_left; intro hx; clear_value x; refine .ite ?_ ?_; exact .refl _
  refine .ite ?_ ?_; assumption
  refine .trans ?_ (.foldl (fun s x => ?_) _ _); rotate_left; (try lift_lets -underBinder)
  refine .trans ?_ (State.accept_keeps ..); exact .refl _; refine .trans ?_ (State.setWay_keeps ..); exact .refl _
  refine .trans ?_ (State.reefDue_keeps ..); assumption

theorem execBalgalFerryReceive_answers (n : Nat) (ss : List Sym) (back : Nat) (s : State) : s.Answers
    (execBalgalFerryReceive n ss back s) := by
  delta execBalgalFerryReceive; lift_lets -underBinder; intro x; clear_value x; refine .ite ?_ ?_; refine .next ?_
  exact .refl _; split; lift_lets -underBinder; intro x; clear_value x; intro x; clear_value x; intro x; clear_value x
  intro x; clear_value x; intro x; refine .cut (x := x) ?_ ?_; subst x; rotate_left; intro hx; clear_value x
  refine .ite ?_ ?_; refine .next ?_; refine .trans ?_ (State.inc_keeps ..); refine .ite ?_ ?_
  refine .trans ?_ (State.inc_keeps ..); assumption; assumption; refine .next ?_; refine .ite ?_ ?_
  refine .trans ?_ (State.takeReports_keeps ..); refine .trans ?_ (State.takeStatuses_keeps ..); refine .ite ?_ ?_
  refine .trans ?_ (State.noteWitness_keeps ..); refine .trans ?_ (State.followFlashes_keeps ..)
  refine .trans ?_ (State.followFerry_keeps ..); refine .ite ?_ ?_; refine .trans ?_ (State.fence_keeps ..)
  refine .trans ?_ (State.keepFreight_keeps ..); refine .trans ?_ (State.ferrySeen_keeps ..); refine .ite ?_ ?_
  refine .trans ?_ (State.inc_keeps ..); assumption; assumption; refine .trans ?_ (State.keepFreight_keeps ..)
  refine .trans ?_ (State.ferrySeen_keeps ..); refine .ite ?_ ?_; refine .trans ?_ (State.inc_keeps ..); assumption
  assumption; refine .ite ?_ ?_; refine .trans ?_ (State.fence_keeps ..); refine .trans ?_ (State.keepFreight_keeps ..)
  refine .trans ?_ (State.ferrySeen_keeps ..); refine .ite ?_ ?_; refine .trans ?_ (State.inc_keeps ..); assumption
  assumption; refine .trans ?_ (State.keepFreight_keeps ..); refine .trans ?_ (State.ferrySeen_keeps ..)
  refine .ite ?_ ?_; refine .trans ?_ (State.inc_keeps ..); assumption; assumption
  refine .trans ?_ (State.takeStatuses_keeps ..); refine .ite ?_ ?_; refine .trans ?_ (State.noteWitness_keeps ..)
  refine .trans ?_ (State.followFlashes_keeps ..); refine .trans ?_ (State.followFerry_keeps ..); refine .ite ?_ ?_
  refine .trans ?_ (State.fence_keeps ..); refine .trans ?_ (State.keepFreight_keeps ..)
  refine .trans ?_ (State.ferrySeen_keeps ..); refine .ite ?_ ?_; refine .trans ?_ (State.inc_keeps ..); assumption
  assumption; refine .trans ?_ (State.keepFreight_keeps ..); refine .trans ?_ (State.ferrySeen_keeps ..)
  refine .ite ?_ ?_; refine .trans ?_ (State.inc_keeps ..); assumption; assumption; refine .ite ?_ ?_
  refine .trans ?_ (State.fence_keeps ..); refine .trans ?_ (State.keepFreight_keeps ..)
  refine .trans ?_ (State.ferrySeen_keeps ..); refine .ite ?_ ?_; refine .trans ?_ (State.inc_keeps ..); assumption
  assumption; refine .trans ?_ (State.keepFreight_keeps ..); refine .trans ?_ (State.ferrySeen_keeps ..)
  refine .ite ?_ ?_; refine .trans ?_ (State.inc_keeps ..); assumption; assumption
  refine .trans ?_ (State.setWay_keeps ..); refine .trans ?_ (State.laneTake_out (by assumption)); exact .refl _

end Sys2Proof.Machine
end

