-- ==== Sys2Proof/Laws/KeepsD.lean ====
section
/-! SUPPORT. Every operation and every command of Machine/RedOps.lean, Mem.lean, Net.lean, Power.lean, Sched.lean keeps the queue and the canonical forms: one lemma each. -/

namespace Sys2Proof.Machine
open Sys2Proof

theorem State.setRed_keeps (s : State) (r : Red) : s.Keeps (State.setRed s r) := by
  delta State.setRed; refine .trans ?_ (.of_mk ..); exact .refl _

theorem State.giveOrder_keeps (s : State) (kind : Nat) (gen : Nat) : s.Keeps (State.giveOrder s kind gen) := by
  delta State.giveOrder; lift_lets -underBinder; intro x; clear_value x; intro x; clear_value x
  refine .trans ?_ (State.setRed_keeps ..); exact .refl _

theorem State.arbFence_keeps (s : State) : s.Keeps (State.arbFence s) := by
  delta State.arbFence; lift_lets -underBinder; intro x; clear_value x; intro x; clear_value x; refine .ite ?_ ?_
  refine .ite ?_ ?_; refine .trans ?_ (State.giveOrder_keeps ..); exact .refl _; refine .ite ?_ ?_
  refine .trans ?_ (State.giveOrder_keeps ..); exact .refl _; exact .refl _; exact .refl _

theorem State.hotDrop_keeps (s : State) (cause : Nat) : s.Keeps (State.hotDrop s cause) := by
  delta State.hotDrop; lift_lets -underBinder; intro x; clear_value x; refine .ite ?_ ?_
  refine .trans ?_ (State.wr_keeps ..); refine .trans ?_ (State.wr_keeps ..); refine .trans ?_ (.of_mk ..)
  exact .refl _; exact .refl _

theorem State.takeOrder_keeps (s : State) (kind : Nat) (gen : Nat) (k : Nat) : s.Keeps (State.takeOrder s kind gen k) :=
    by
  delta State.takeOrder; lift_lets -underBinder; intro x; clear_value x; intro x; clear_value x; refine .ite ?_ ?_
  exact .refl _; refine .ite ?_ ?_; refine .trans ?_ (State.inc_keeps ..); exact .refl _; split; lift_lets -underBinder
  intro x; refine .cut (x := x) ?_ ?_; subst x; rotate_left; intro hx; clear_value x; refine .ite ?_ ?_
  refine .trans ?_ (State.hotDrop_keeps ..); refine .trans ?_ (State.wr_keeps ..)
  refine .trans ?_ (State.setRed_keeps ..); assumption; refine .trans ?_ (State.commitOff_keeps ..)
  refine .trans ?_ (State.wr_keeps ..); refine .trans ?_ (State.setRed_keeps ..); assumption; refine .ite ?_ ?_
  refine .trans ?_ (State.inc_keeps ..); exact .refl _; exact .refl _

theorem State.arbJudge_keeps (s : State) (halted : Bool) : s.Keeps (State.arbJudge s halted) := by
  delta State.arbJudge; refine .ite ?_ ?_; exact .refl _; split; exact .refl _; refine .ite ?_ ?_; exact .refl _
  refine .ite ?_ ?_; refine .trans ?_ (State.giveOrder_keeps ..); exact .refl _; refine .trans ?_ (State.wr_keeps ..)
  exact .refl _

theorem State.arbRequest_keeps (s : State) : s.Keeps (State.arbRequest s) := by
  delta State.arbRequest; split; lift_lets -underBinder; intro x; clear_value x; refine .ite ?_ ?_
  refine .trans ?_ (State.giveOrder_keeps ..); exact .refl _; refine .trans ?_ (State.inc_keeps ..); exact .refl _
  refine .trans ?_ (State.inc_keeps ..); exact .refl _

theorem State.enterStandby_keeps (s : State) : s.Keeps (State.enterStandby s) := by
  delta State.enterStandby; lift_lets -underBinder
  intro x; refine .cut (x := x) ?_ ?_; subst x; rotate_left; intro hx; clear_value x; refine .ite ?_ ?_
  refine .trans ?_ (State.wr_keeps ..); refine .trans ?_ (State.setRed_keeps ..); assumption
  refine .trans ?_ (State.setRed_keeps ..); assumption; refine .trans ?_ (State.wr_keeps ..)
  refine .trans ?_ (State.wr_keeps ..); refine .trans ?_ (State.monDrop_keeps ..); exact .refl _

theorem State.fitFollow_keeps (s : State) : s.Keeps (State.fitFollow s) := by
  delta State.fitFollow; lift_lets -underBinder; intro x; clear_value x
  intro x; refine .cut (x := x) ?_ ?_; subst x; rotate_left; intro hx; clear_value x; refine .ite ?_ ?_; exact .refl _
  refine .ite ?_ ?_; refine .trans ?_ (State.raise_keeps ..); refine .trans ?_ (State.wr_keeps ..); assumption
  refine .trans ?_ (State.wr_keeps ..); assumption; refine .trans ?_ (State.wrW_keeps ..); exact .refl _

theorem State.redClose_keeps (s : State) : s.Keeps (State.redClose s) := by
  delta State.redClose; lift_lets -underBinder; intro x; clear_value x; intro x; clear_value x; intro x; clear_value x
  intro x; clear_value x; intro x; clear_value x; intro x; clear_value x; intro x; clear_value x; intro x; clear_value x
  intro x; refine .cut (x := x) ?_ ?_; subst x; rotate_left; intro hx; clear_value x; refine .ite ?_ ?_; exact .refl _
  refine .trans ?_ (State.arbJudge_keeps ..); refine .trans ?_ (State.wr_keeps ..)
  refine .trans ?_ (State.fitFollow_keeps ..); refine .trans ?_ (State.wr_keeps ..); refine .ite ?_ ?_
  refine .trans ?_ (State.wr_keeps ..); refine .trans ?_ (State.wr_keeps ..); refine .trans ?_ (State.wr_keeps ..)
  assumption; refine .trans ?_ (State.wr_keeps ..); assumption; refine .trans ?_ (State.setRed_keeps ..); exact .refl _

theorem State.roleChanged_keeps (s : State) (gen : Nat) (k : Nat) : s.Keeps (State.roleChanged s gen k) := by
  delta State.roleChanged; lift_lets -underBinder
  intro x; refine .cut (x := x) ?_ ?_; subst x; rotate_left; intro hx; clear_value x
  refine .trans ?_ (State.fireRoute_keeps ..); refine .trans ?_ (State.setRed_keeps ..)
  refine .trans ?_ (State.wr_keeps ..); refine .trans ?_ (State.wr_keeps ..); assumption
  refine .trans ?_ (State.inc_keeps ..); refine .trans ?_ (State.wr_keeps ..); refine .trans ?_ (State.wr_keeps ..)
  exact .refl _

theorem State.takeover_keeps (s : State) : s.Keeps (State.takeover s) := by
  delta State.takeover; split; exact .refl _; lift_lets -underBinder; intro x; clear_value x
  intro x; refine .cut (x := x) ?_ ?_; subst x; rotate_left; intro hx; clear_value x; refine .ite ?_ ?_
  refine .trans ?_ (State.selectSource_keeps ..); refine .trans ?_ (State.commitOn_keeps ..)
  refine .trans ?_ (State.clearD_keeps ..); assumption; refine .ite ?_ ?_; refine .trans ?_ (State.inc_keeps ..)
  refine .trans ?_ (State.commitOn_keeps ..); refine .trans ?_ (State.wr_keeps ..)
  refine .trans ?_ (State.setRed_keeps ..); exact .refl _; refine .ite ?_ ?_
  refine .trans ?_ (State.selectSource_keeps ..); refine .trans ?_ (State.roleChanged_keeps ..)
  refine .trans ?_ (State.enterStandby_keeps ..); refine .trans ?_ (State.commitOff_keeps ..); exact .refl _
  refine .trans ?_ (State.raise_keeps ..); refine .trans ?_ (State.selectSource_keeps ..)
  refine .trans ?_ (State.roleChanged_keeps ..); refine .trans ?_ (State.enterStandby_keeps ..)
  refine .trans ?_ (State.commitOff_keeps ..); exact .refl _; refine .trans ?_ (State.raise_keeps ..)
  refine .trans ?_ (State.roleChanged_keeps ..); refine .trans ?_ (State.wr_keeps ..)
  refine .trans ?_ (State.wr_keeps ..); exact .refl _

theorem State.bistIdle_keeps (s : State) : s.Keeps (State.bistIdle s) := by
  delta State.bistIdle; refine .ite ?_ ?_; refine .trans ?_ (State.wr_keeps ..); exact .refl _; exact .refl _

theorem State.writeMemRetire_keeps (s : State) (p : Port) (v : Nat) : s.Keeps (State.writeMemRetire s p v) := by
  delta State.writeMemRetire; refine .ite ?_ ?_; exact .refl _; refine .ite ?_ ?_
  refine .trans ?_ (State.range_keeps ..); exact .refl _; refine .trans ?_ (State.retireBank_keeps ..); exact .refl _

theorem State.writeMemPwr_keeps (s : State) (p : Port) (v : Nat) : s.Keeps (State.writeMemPwr s p v) := by
  delta State.writeMemPwr; lift_lets -underBinder; intro x; clear_value x; intro x; clear_value x
  intro x; refine .cut (x := x) ?_ ?_; subst x; rotate_left; intro hx; clear_value x; refine .ite ?_ ?_
  refine .trans ?_ (State.range_keeps ..); exact .refl _
  refine .trans ?_ (.foldl (fun s x => ?_) _ _); rotate_left; (try lift_lets -underBinder)
  refine .trans ?_ (State.clearGroup_keeps ..); exact .refl _; refine .trans ?_ (State.wr_keeps ..); exact .refl _
  assumption

theorem State.writeBist_keeps (s : State) (v : Nat) : s.Keeps (State.writeBist s v) := by
  delta State.writeBist; refine .trans ?_ (State.bistIdle_keeps ..); refine .trans ?_ (State.wr_keeps ..)
  refine .trans ?_ (State.wr_keeps ..); exact .refl _

theorem State.poison_keeps (s : State) (a : Nat) (ps : List Nat) : s.Keeps (State.poison s a ps) := by
  delta State.poison; lift_lets -underBinder; intro x; clear_value x; intro x; clear_value x
  refine .trans ?_ (State.setMst_keeps ..); exact .refl _

theorem State.decodeStripe_keeps (s : State) (p : Port) (a : Nat) (x : Stripe) : s.Keeps (State.decodeStripe s p a x).2 :=
    by
  delta State.decodeStripe; lift_lets -underBinder; intro x; clear_value x; intro x; clear_value x
  intro x; subst x; (try beta_reduce); (try lift_lets -underBinder); intro x; clear_value x
  intro x; refine .cut (x := x) ?_ ?_; subst x; rotate_left; intro hx; clear_value x; split; dsimp only
  refine .trans ?_ (State.raise_keeps ..); refine .trans ?_ (State.wr_keeps ..); assumption; split; dsimp only
  refine .trans ?_ (.foldl (fun s x => ?_) _ _); rotate_left; (try lift_lets -underBinder); refine .ite ?_ ?_
  refine .trans ?_ (State.retireBank_keeps ..); exact .refl _; exact .refl _; split; dsimp only
  refine .trans ?_ (State.setMst_keeps ..); refine .trans ?_ (State.raise_keeps ..)
  refine .trans ?_ (.foldl (fun s x => ?_) _ _); rotate_left; (try lift_lets -underBinder)
  refine .trans ?_ (State.inc_keeps ..); exact .refl _; split; dsimp only; refine .trans ?_ (State.setMst_keeps ..)
  refine .trans ?_ (State.raise_keeps ..)
  refine .trans ?_ (.foldl (fun s x => ?_) _ _); rotate_left; (try lift_lets -underBinder)
  refine .trans ?_ (State.inc_keeps ..); exact .refl _; dsimp only
  refine .trans ?_ (.foldl (fun s x => ?_) _ _); rotate_left; (try lift_lets -underBinder)
  refine .trans ?_ (State.inc_keeps ..); exact .refl _; refine .trans ?_ (State.inc_keeps ..)
  refine .trans ?_ (State.latchUe_keeps ..); refine .trans ?_ (State.poison_keeps ..); exact .refl _
  refine .trans ?_ (State.setMst_keeps ..); refine .trans ?_ (State.raise_keeps ..)
  refine .trans ?_ (.foldl (fun s x => ?_) _ _); rotate_left; (try lift_lets -underBinder)
  refine .trans ?_ (State.inc_keeps ..); exact .refl _; exact .refl _; exact .refl _; exact .refl _
  refine .trans ?_ (.foldl (fun s x => ?_) _ _); rotate_left; (try lift_lets -underBinder)
  refine .trans ?_ (State.inc_keeps ..); exact .refl _; exact .refl _

theorem State.decodeStripe_out {r_} {t_ : State} {s : State} {p : Port} {a : Nat} {x : Stripe} (h_ : State.decodeStripe s
    p a x = (r_, t_)) : s.Keeps t_ := by
  have := State.decodeStripe_keeps s p a x; rwa [h_] at this

theorem execBistRegionEnd_answers (fail : Bool) (word : Nat) (bit : Nat) (s : State) : s.Answers (execBistRegionEnd fail
    word bit s) := by
  delta execBistRegionEnd; lift_lets -underBinder; intro x; clear_value x
  intro x; refine .cut (x := x) ?_ ?_; subst x; rotate_left; intro hx; clear_value x; refine .ite ?_ ?_; refine .next ?_
  exact .refl _; refine .next ?_; refine .trans ?_ (State.bistIdle_keeps ..); refine .ite ?_ ?_; refine .ite ?_ ?_
  refine .trans ?_ (State.retireBank_keeps ..); refine .ite ?_ ?_; refine .trans ?_ (.of_mk ..)
  refine .trans ?_ (State.raise_keeps ..); refine .trans ?_ (State.wr_keeps ..); refine .trans ?_ (State.wr_keeps ..)
  refine .trans ?_ (State.wr_keeps ..); refine .trans ?_ (State.wr_keeps ..); refine .trans ?_ (State.wr_keeps ..)
  assumption; refine .trans ?_ (State.raise_keeps ..); refine .trans ?_ (State.wr_keeps ..)
  refine .trans ?_ (State.wr_keeps ..); refine .trans ?_ (State.wr_keeps ..); refine .trans ?_ (State.wr_keeps ..)
  refine .trans ?_ (State.wr_keeps ..); assumption; refine .ite ?_ ?_; refine .trans ?_ (.of_mk ..)
  refine .trans ?_ (State.raise_keeps ..); refine .trans ?_ (State.wr_keeps ..); refine .trans ?_ (State.wr_keeps ..)
  refine .trans ?_ (State.wr_keeps ..); refine .trans ?_ (State.wr_keeps ..); refine .trans ?_ (State.wr_keeps ..)
  assumption; refine .trans ?_ (State.raise_keeps ..); refine .trans ?_ (State.wr_keeps ..)
  refine .trans ?_ (State.wr_keeps ..); refine .trans ?_ (State.wr_keeps ..); refine .trans ?_ (State.wr_keeps ..)
  refine .trans ?_ (State.wr_keeps ..); assumption; assumption; refine .trans ?_ (State.wr_keeps ..); exact .refl _

theorem execBistRegionStart_answers (s : State) : s.Answers (execBistRegionStart s) := by
  delta execBistRegionStart; lift_lets -underBinder; intro x; clear_value x; refine .ite ?_ ?_; split; refine .next ?_
  exact .refl _; lift_lets -underBinder
  intro x; refine .cut (x := x) ?_ ?_; subst x; rotate_left; intro hx; clear_value x; refine .next ?_
  refine .trans ?_ (State.setMst_keeps ..); refine .trans ?_ (State.wr_keeps ..); refine .trans ?_ (State.wr_keeps ..)
  assumption; refine .next ?_; exact .refl _; refine .trans ?_ (State.wr_keeps ..); refine .trans ?_ (State.wr_keeps ..)
  refine .trans ?_ (State.wr_keeps ..); exact .refl _

theorem execBistStop_answers (s : State) : s.Answers (execBistStop s) := by
  delta execBistStop; refine .next ?_; refine .trans ?_ (State.bistIdle_keeps ..); refine .trans ?_ (State.wr_keeps ..)
  exact .refl _

theorem execGroupClearDone_answers (g : Nat) (s : State) : s.Answers (execGroupClearDone g s) := by
  delta execGroupClearDone; refine .ite ?_ ?_; refine .next ?_; refine .trans ?_ (State.wr_keeps ..); exact .refl _
  refine .next ?_; exact .refl _

theorem execMemPwrWrite_answers (p : Port) (v : Word) (s : State) : s.Answers (execMemPwrWrite p v s) := by
  delta execMemPwrWrite; refine .next ?_; refine .trans ?_ (State.writeMemPwr_keeps ..); exact .refl _

theorem execMemRetire_answers (p : Port) (v : Word) (s : State) : s.Answers (execMemRetire p v s) := by
  delta execMemRetire; refine .next ?_; refine .trans ?_ (State.writeMemRetire_keeps ..); exact .refl _

theorem execSramRead_answers (p : Port) (a : Nat) (n : Nat) (ones : List Nat) (bad : List Nat) (outer : Nat) (waits : Nat)
    (s : State) : s.Answers (execSramRead p a n ones bad outer waits s) := by
  delta execSramRead; lift_lets -underBinder
  intro x; refine .cut (x := x) ?_ ?_; subst x; rotate_left; intro hx; clear_value x; refine .ite ?_ ?_; refine .next ?_
  refine .trans ?_ (State.emit_keeps ..); assumption; split; refine .next ?_; refine .trans ?_ (State.emit_keeps ..)
  assumption; refine .ite ?_ ?_; refine .next ?_; refine .trans ?_ (State.emit_keeps ..)
  refine .trans ?_ (State.latchUe_keeps ..); assumption; split; refine .next ?_; refine .trans ?_ (State.emit_keeps ..)
  refine .trans ?_ (State.decodeStripe_out (by assumption)); assumption; refine .trans ?_ (State.cnt_keeps ..)
  exact .refl _

theorem execSramWrite_answers (p : Port) (a : Nat) (data : List Byte) (ones : List Nat) (bad : List Nat) (outer : Nat)
    (waits : Nat) (s : State) : s.Answers (execSramWrite p a data ones bad outer waits s) := by
  delta execSramWrite; lift_lets -underBinder
  intro x; refine .cut (x := x) ?_ ?_; subst x; rotate_left; intro hx; clear_value x; refine .ite ?_ ?_; refine .next ?_
  refine .trans ?_ (State.emit_keeps ..); assumption; split; refine .next ?_; refine .trans ?_ (State.emit_keeps ..)
  assumption; refine .ite ?_ ?_; refine .next ?_; refine .trans ?_ (State.emit_keeps ..); assumption; split
  refine .ite ?_ ?_; refine .next ?_; refine .trans ?_ (State.emit_keeps ..); refine .of_ite_snd ?_ ?_ (by assumption)
  dsimp only; assumption; refine .trans ?_ (State.decodeStripe_keeps ..); assumption; split; refine .next ?_
  refine .trans ?_ (State.writeMem_out (by assumption)); refine .of_ite_snd ?_ ?_ (by assumption); dsimp only
  assumption; refine .trans ?_ (State.decodeStripe_keeps ..); assumption; refine .next ?_
  refine .trans ?_ (State.emit_keeps ..); refine .trans ?_ (State.writeMem_out (by assumption))
  refine .of_ite_snd ?_ ?_ (by assumption); dsimp only; assumption; refine .trans ?_ (State.decodeStripe_keeps ..)
  assumption; refine .trans ?_ (State.cnt_keeps ..); exact .refl _

theorem execWriteBack_answers (x : Nat) (s : State) : s.Answers (execWriteBack x s) := by
  delta execWriteBack; lift_lets -underBinder; intro x; clear_value x; refine .next ?_
  refine .trans ?_ (State.setMst_keeps ..); exact .refl _

theorem State.writeTxCtrl_keeps (s : State) (p : Port) (n : Nat) (v : Nat) : s.Keeps (State.writeTxCtrl s p n v) := by
  delta State.writeTxCtrl; lift_lets -underBinder; intro x; clear_value x
  intro x; refine .cut (x := x) ?_ ?_; subst x; rotate_left; intro hx; clear_value x; refine .ite ?_ ?_
  refine .ite ?_ ?_; refine .ite ?_ ?_; refine .trans ?_ (State.wr_keeps ..); assumption; assumption
  refine .trans ?_ (State.wr_keeps ..); refine .ite ?_ ?_; refine .trans ?_ (State.wr_keeps ..); assumption; assumption
  refine .ite ?_ ?_; refine .trans ?_ (State.range_keeps ..); refine .ite ?_ ?_; refine .trans ?_ (State.wr_keeps ..)
  assumption; assumption; refine .trans ?_ (State.setStLane_keeps ..); refine .trans ?_ (State.wr_keeps ..)
  refine .trans ?_ (State.wr_keeps ..); refine .trans ?_ (State.wr_keeps ..); refine .ite ?_ ?_
  refine .trans ?_ (State.wr_keeps ..); assumption; assumption; refine .ite ?_ ?_; refine .trans ?_ (State.wr_keeps ..)
  exact .refl _; exact .refl _

theorem State.writeTxBuf_keeps (s : State) (p : Port) (n : Nat) (w : Nat) (v : Word) : s.Keeps (State.writeTxBuf s p n w
    v) := by
  delta State.writeTxBuf; refine .ite ?_ ?_; refine .trans ?_ (State.range_keeps ..); exact .refl _
  refine .trans ?_ (State.wrW_keeps ..); exact .refl _

theorem State.ptpIgnore_keeps (s : State) (p : Nat) : s.Keeps (State.ptpIgnore s p) := by
  delta State.ptpIgnore; refine .trans ?_ (State.inc_keeps ..); exact .refl _

theorem State.straitAck_keeps (s : State) (i : Nat) (f : List Sym) : s.Keeps (State.straitAck s i f) := by
  delta State.straitAck; lift_lets -underBinder; intro x; clear_value x; intro x; clear_value x; refine .ite ?_ ?_
  refine .trans ?_ (State.wr_keeps ..); refine .trans ?_ (State.wr_keeps ..); exact .refl _; exact .refl _

theorem State.straitMsg_keeps (s : State) (i : Nat) (f : List Sym) : s.Keeps (State.straitMsg s i f) := by
  delta State.straitMsg; lift_lets -underBinder; intro x; clear_value x; intro x; clear_value x; intro x; clear_value x
  intro x; clear_value x; intro x; refine .cut (x := x) ?_ ?_; subst x; rotate_left; intro hx; clear_value x
  refine .ite ?_ ?_; exact .refl _; refine .ite ?_ ?_; refine .trans ?_ (State.inc_keeps ..); exact .refl _
  refine .trans ?_ (State.fireRoute_keeps ..); refine .trans ?_ (State.setStLane_keeps ..)
  refine .trans ?_ (State.wr_keeps ..); refine .trans ?_ (State.wr_keeps ..); refine .trans ?_ (State.wr_keeps ..)
  refine .trans ?_ (State.wr_keeps ..); assumption
  refine .trans ?_ (.foldl (fun s x => ?_) _ _); rotate_left; (try lift_lets -underBinder)
  refine .trans ?_ (State.wr_keeps ..); exact .refl _; exact .refl _

theorem State.straitTime_keeps (s : State) (i : Nat) (f : List Sym) (arr : Nat) : s.Keeps (State.straitTime s i f arr) :=
    by
  delta State.straitTime; lift_lets -underBinder; intro x; clear_value x; intro x; clear_value x; refine .ite ?_ ?_
  split
  refine .ite ?_ ?_; exact .refl _; refine .trans ?_ (State.raise_keeps ..)
  refine .trans ?_ (State.codeInvalid_keeps ..); exact .refl _; exact .refl _; refine .ite ?_ ?_
  refine .trans ?_ (State.codeInvalid_keeps ..); exact .refl _; split; refine .trans ?_ (State.srcSample_keeps ..)
  exact .refl _; exact .refl _

theorem State.svFire_keeps (s : State) (n : Nat) : s.Keeps (State.svFire s n) := by
  delta State.svFire; lift_lets -underBinder; intro x; clear_value x; refine .trans ?_ (State.fireRoute_keeps ..)
  refine .trans ?_ (State.setNet_keeps ..); exact .refl _

theorem State.svWrote_keeps (s : State) (i : Nat) (n : Nat) : s.Keeps (State.svWrote s i n) := by
  delta State.svWrote; lift_lets -underBinder; intro x; clear_value x; intro x; clear_value x; intro x; clear_value x
  intro x; refine .cut (x := x) ?_ ?_; subst x; rotate_left; intro hx; clear_value x; refine .ite ?_ ?_; exact .refl _
  refine .ite ?_ ?_; refine .trans ?_ (State.svFire_keeps ..); assumption; assumption
  refine .trans ?_ (State.setNet_keeps ..); exact .refl _

theorem State.svTake_keeps (s : State) (i : Nat) (arr : Nat) (a : Asdu) : s.Keeps (State.svTake s i arr a) := by
  delta State.svTake; lift_lets -underBinder; intro x; clear_value x; intro x; clear_value x; refine .ite ?_ ?_
  refine .trans ?_ (State.inc_keeps ..); exact .refl _; split; lift_lets -underBinder; intro x; clear_value x
  intro x; refine .cut (x := x) ?_ ?_; subst x; rotate_left; intro hx; clear_value x
  refine .trans ?_ (State.svWrote_keeps ..); refine .trans ?_ (State.setNet_keeps ..)
  refine .trans ?_ (State.wr_keeps ..); refine .trans ?_ (State.wr_keeps ..); assumption
  refine .trans ?_ (State.writeMem_keeps ..); exact .refl _

theorem execAnnounceTimeout_answers (p : Nat) (s : State) : s.Answers (execAnnounceTimeout p s) := by
  delta execAnnounceTimeout; lift_lets -underBinder; intro x; clear_value x; intro x; clear_value x; refine .ite ?_ ?_
  refine .next ?_; exact .refl _; refine .next ?_; refine .trans ?_ (State.ptpJudge_keeps ..)
  refine .trans ?_ (State.setPtp_keeps ..); refine .trans ?_ (State.wr_keeps ..); exact .refl _

theorem execEthFrameReceive_answers (p : Nat) (len : Nat) (etype : Nat) (fcs : Bool) (ign : Bool) (s : State) : s.Answers
    (execEthFrameReceive p len etype fcs ign s) := by
  delta execEthFrameReceive; refine .ite ?_ ?_; refine .next ?_; exact .refl _; refine .ite ?_ ?_; refine .next ?_
  refine .ite ?_ ?_; refine .trans ?_ (State.inc_keeps ..); exact .refl _; exact .refl _; refine .next ?_
  refine .trans ?_ (State.inc_keeps ..); exact .refl _

theorem execEthLinkDown_answers (p : Nat) (s : State) : s.Answers (execEthLinkDown p s) := by
  delta execEthLinkDown; refine .ite ?_ ?_; refine .next ?_; exact .refl _; refine .next ?_
  refine .trans ?_ (State.wr_keeps ..); refine .trans ?_ (State.laneDrop_keeps ..); exact .refl _

theorem execEthLinkUp_answers (p : Nat) (full : Bool) (s : State) : s.Answers (execEthLinkUp p full s) := by
  delta execEthLinkUp; refine .ite ?_ ?_; refine .next ?_; exact .refl _; refine .next ?_
  refine .trans ?_ (State.wr_keeps ..); refine .trans ?_ (State.laneLock_keeps ..); exact .refl _

theorem execGooseReceive_answers (p : Nat) (m : Goose) (s : State) : s.Answers (execGooseReceive p m s) := by
  delta execGooseReceive; refine .ite ?_ ?_; refine .next ?_; exact .refl _; split; refine .next ?_; exact .refl _
  lift_lets -underBinder; intro x; clear_value x
  intro x; refine .cut (x := x) ?_ ?_; subst x; rotate_left; intro hx; clear_value x; refine .ite ?_ ?_; refine .next ?_
  refine .trans ?_ (State.inc_keeps ..); exact .refl _; refine .ite ?_ ?_; refine .next ?_
  refine .trans ?_ (State.fireRoute_keeps ..); refine .trans ?_ (State.wr_keeps ..)
  refine .trans ?_ (State.wr_keeps ..); refine .trans ?_ (State.wr_keeps ..); assumption; refine .ite ?_ ?_
  refine .next ?_; assumption; refine .next ?_; refine .trans ?_ (State.inc_keeps ..); exact .refl _
  refine .trans ?_ (State.setNet_keeps ..); exact .refl _

theorem execGooseRepeat_answers (u : Nat) (s : State) : s.Answers (execGooseRepeat u s) := by
  delta execGooseRepeat; lift_lets -underBinder; intro x; clear_value x; refine .ite ?_ ?_; refine .next ?_
  refine .trans ?_ (State.pubSend_keeps ..); refine .trans ?_ (State.setPub_keeps ..); exact .refl _; refine .next ?_
  exact .refl _

theorem execGooseTtlExpire_answers (i : Nat) (s : State) : s.Answers (execGooseTtlExpire i s) := by
  delta execGooseTtlExpire; refine .ite ?_ ?_; refine .next ?_; refine .trans ?_ (State.raise_keeps ..)
  refine .trans ?_ (State.wr_keeps ..); refine .trans ?_ (State.wr_keeps ..); exact .refl _; refine .next ?_
  exact .refl _

theorem execPtpAnnounce_answers (p : Nat) (st : Nat) (s : State) : s.Answers (execPtpAnnounce p st s) := by
  delta execPtpAnnounce; lift_lets -underBinder; intro x; clear_value x; refine .ite ?_ ?_; refine .next ?_
  exact .refl _; refine .next ?_; refine .trans ?_ (State.ptpJudge_keeps ..); refine .trans ?_ (State.setPtp_keeps ..)
  refine .trans ?_ (State.wr_keeps ..); exact .refl _

theorem execPtpFollowUp_answers (p : Nat) (seq : Nat) (origin : Nat) (corr : Int) (s : State) : s.Answers (execPtpFollowUp
    p seq origin corr s) := by
  delta execPtpFollowUp; lift_lets -underBinder; intro x; clear_value x; split; refine .ite ?_ ?_; refine .next ?_
  refine .trans ?_ (State.ptpSample_keeps ..); exact .refl _; refine .next ?_; exact .refl _; refine .next ?_
  exact .refl _

theorem execPtpMasterSend_answers (p : Nat) (sync : Bool) (s : State) : s.Answers (execPtpMasterSend p sync s) := by
  delta execPtpMasterSend; lift_lets -underBinder; intro x; clear_value x; intro x; clear_value x
  intro x; clear_value x; refine .ite ?_ ?_; refine .next ?_; exact .refl _; refine .ite ?_ ?_; refine .next ?_
  refine .trans ?_ (State.wr_keeps ..); exact .refl _; refine .ite ?_ ?_; refine .next ?_
  refine .trans ?_ (State.emit_keeps ..); refine .trans ?_ (State.setPtp_keeps ..); exact .refl _; refine .next ?_
  refine .trans ?_ (State.emit_keeps ..); refine .trans ?_ (State.setPtp_keeps ..); exact .refl _

theorem execPtpPdelayReq_answers (p : Nat) (seq : Nat) (turn : Int) (s : State) : s.Answers (execPtpPdelayReq p seq turn
    s) := by
  delta execPtpPdelayReq; refine .ite ?_ ?_; refine .next ?_; refine .trans ?_ (State.emit_keeps ..); exact .refl _
  refine .next ?_; exact .refl _

theorem execPtpPdelayResp_answers (p : Nat) (seq : Nat) (turn : Int) (back : Nat) (s : State) : s.Answers
    (execPtpPdelayResp p seq turn back s) := by
  delta execPtpPdelayResp; lift_lets -underBinder; intro x; clear_value x; split; refine .ite ?_ ?_
  lift_lets -underBinder; intro x; clear_value x; intro x; clear_value x; refine .next ?_
  refine .trans ?_ (State.ptpJudge_keeps ..); refine .trans ?_ (State.wr_keeps ..)
  refine .trans ?_ (State.setPtp_keeps ..); exact .refl _; refine .next ?_; exact .refl _; refine .next ?_
  exact .refl _

theorem execPtpPdelaySend_answers (p : Nat) (s : State) : s.Answers (execPtpPdelaySend p s) := by
  delta execPtpPdelaySend; lift_lets -underBinder; intro x; clear_value x; intro x; clear_value x; refine .ite ?_ ?_
  refine .next ?_; exact .refl _; refine .next ?_; refine .trans ?_ (State.emit_keeps ..)
  refine .trans ?_ (State.setPtp_keeps ..); exact .refl _

theorem execPtpSync_answers (p : Nat) (seq : Nat) (dom : Nat) (two : Bool) (logInt : Int) (origin : Nat) (corr : Int)
    (back : Nat) (s : State) : s.Answers (execPtpSync p seq dom two logInt origin corr back s) := by
  delta execPtpSync; lift_lets -underBinder; intro x; clear_value x
  intro x; refine .cut (x := x) ?_ ?_; subst x; rotate_left; intro hx; clear_value x; refine .ite ?_ ?_; refine .next ?_
  exact .refl _; refine .ite ?_ ?_; refine .next ?_; refine .trans ?_ (State.ptpIgnore_keeps ..); exact .refl _
  refine .ite ?_ ?_; refine .next ?_; exact .refl _; refine .ite ?_ ?_; refine .next ?_
  refine .trans ?_ (State.setPtp_keeps ..); assumption; refine .next ?_; refine .trans ?_ (State.ptpSample_keeps ..)
  assumption; refine .ite ?_ ?_; refine .trans ?_ (State.ptpIgnore_keeps ..); exact .refl _; exact .refl _

theorem execRxFullFree_answers (n : Nat) (s : State) : s.Answers (execRxFullFree n s) := by
  delta execRxFullFree; refine .ite ?_ ?_; refine .next ?_; refine .trans ?_ (State.wr_keeps ..); exact .refl _
  refine .next ?_; exact .refl _

theorem execSourceTimeout_answers (c : Chip) (i : Nat) (s : State) : s.Answers (execSourceTimeout c i s) := by
  delta execSourceTimeout; split; lift_lets -underBinder; intro x; clear_value x; intro x; clear_value x
  refine .ite ?_ ?_; refine .next ?_; refine .trans ?_ (State.codeInvalid_keeps ..)
  refine .trans ?_ (State.ptpJudge_keeps ..); refine .trans ?_ (State.setPtp_keeps ..); exact .refl _; refine .ite ?_ ?_
  refine .next ?_; refine .trans ?_ (State.holdover_keeps ..); exact .refl _; refine .ite ?_ ?_; refine .next ?_
  refine .trans ?_ (State.srcInvalid_keeps ..); exact .refl _; refine .next ?_; exact .refl _; refine .next ?_
  refine .trans ?_ (State.runCell_keeps _ _ _ (fun _ => ?_)); rotate_left; beta_reduce; (try lift_lets -underBinder)
  refine .trans ?_ (Skerry.silentSource_keeps ..); exact .refl _; exact .refl _

theorem execStraitFrame_answers (n : Nat) (ss : List Sym) (back : Nat) (s : State) : s.Answers (execStraitFrame n ss back
    s) := by
  delta execStraitFrame; refine .ite ?_ ?_; refine .next ?_; exact .refl _; split; refine .ite ?_ ?_; refine .next ?_
  refine .trans ?_ (State.inc_keeps ..); refine .trans ?_ (State.laneTake_out (by assumption)); exact .refl _
  lift_lets -underBinder; intro x; clear_value x; intro x; clear_value x; intro x; clear_value x; intro x; clear_value x
  intro x; refine .cut (x := x) ?_ ?_; subst x; rotate_left; intro hx; clear_value x; refine .next ?_
  refine .trans ?_ (State.straitMsg_keeps ..); refine .trans ?_ (State.straitAck_keeps ..)
  refine .trans ?_ (State.straitTime_keeps ..); refine .trans ?_ (State.wr_keeps ..)
  refine .trans ?_ (State.wr_keeps ..); refine .trans ?_ (State.wr_keeps ..); assumption
  refine .trans ?_ (State.wr_keeps ..); refine .trans ?_ (State.setStLane_keeps ..)
  refine .trans ?_ (State.laneTake_out (by assumption)); exact .refl _

theorem execStraitSend_answers (p : Port) (n : Nat) (v : Word) (s : State) : s.Answers (execStraitSend p n v s) := by
  delta execStraitSend; refine .ite ?_ ?_; refine .next ?_; refine .trans ?_ (State.writeTxCtrl_keeps ..); exact .refl _
  refine .next ?_; exact .refl _

theorem execStraitSendFail_answers (n : Nat) (s : State) : s.Answers (execStraitSendFail n s) := by
  delta execStraitSendFail; refine .ite ?_ ?_; refine .next ?_; refine .trans ?_ (State.wr_keeps ..)
  refine .trans ?_ (State.wr_keeps ..); exact .refl _; refine .next ?_; exact .refl _

theorem execSvFrame_answers (p : Nat) (dst : Nat) (appid : Nat) (sim : Bool) (asdus : List Asdu) (back : Nat) (s : State)
    : s.Answers (execSvFrame p dst appid sim asdus back s) := by
  delta execSvFrame; refine .ite ?_ ?_; refine .next ?_; exact .refl _; split; refine .next ?_; exact .refl _
  refine .ite ?_ ?_; lift_lets -underBinder; intro x; clear_value x; refine .next ?_
  refine .trans ?_ (.foldl (fun s x => ?_) _ _); rotate_left; (try lift_lets -underBinder)
  refine .trans ?_ (State.svTake_keeps ..); exact .refl _; refine .next ?_; refine .trans ?_ (State.inc_keeps ..)
  exact .refl _; refine .trans ?_ (State.wr_keeps ..); exact .refl _

theorem execSvSetTimeout_answers (n : Nat) (s : State) : s.Answers (execSvSetTimeout n s) := by
  delta execSvSetTimeout; refine .ite ?_ ?_; refine .next ?_; refine .trans ?_ (State.svFire_keeps ..); exact .refl _
  refine .next ?_; exact .refl _

theorem execSvStale_answers (i : Nat) (s : State) : s.Answers (execSvStale i s) := by
  delta execSvStale; refine .ite ?_ ?_; refine .next ?_; refine .trans ?_ (State.raise_keeps ..)
  refine .trans ?_ (State.wr_keeps ..); exact .refl _; refine .next ?_; exact .refl _

theorem State.resetUnits_keeps (s : State) (hard : Bool) : s.Keeps (State.resetUnits s hard) := by
  delta State.resetUnits; split; lift_lets -underBinder; intro x; clear_value x
  intro x; refine .cut (x := x) ?_ ?_; subst x; rotate_left; intro hx; clear_value x; refine .ite ?_ ?_
  refine .trans ?_ (.of_parts (by first | exact id | exact twf_filter _ _ _ | exact fun _ => rfl) (by first | exact id | exact twf_filter _ _ _ | exact fun _ => rfl))
  assumption; refine .trans ?_ (State.wr_keeps ..); refine .trans ?_ (State.wr_keeps ..)
  refine .trans ?_ (.of_parts (by first | exact id | exact twf_filter _ _ _ | exact fun _ => rfl) (by first | exact id | exact twf_filter _ _ _ | exact fun _ => rfl))
  assumption; refine .ite ?_ ?_; refine .trans ?_ (State.free_out (by assumption)); exact .refl _
  refine .trans ?_ (.foldl (fun s x => ?_) _ _); rotate_left; (try lift_lets -underBinder)
  refine .trans ?_ (State.zeroGroup_keeps ..); exact .refl _; refine .trans ?_ (State.free_out (by assumption))
  exact .refl _

theorem State.assertReset_keeps (s : State) (cause : Nat) (by_ : Nat) : s.Keeps (State.assertReset s cause by_) := by
  delta State.assertReset; lift_lets -underBinder; intro x; clear_value x; intro x; clear_value x
  intro x; refine .cut (x := x) ?_ ?_; subst x; rotate_left; intro hx; clear_value x; refine .trans ?_ (.of_mk ..)
  refine .trans ?_ (State.wrW_keeps ..); assumption; refine .trans ?_ (State.inc_keeps ..)
  refine .trans ?_ (State.resetUnits_keeps ..); exact .refl _

theorem State.writeReset_keeps (s : State) (p : Port) (v : Word) : s.Keeps (State.writeReset s p v) := by
  delta State.writeReset; refine .ite ?_ ?_; refine .trans ?_ (State.range_keeps ..); exact .refl _; refine .ite ?_ ?_
  refine .trans ?_ (State.assertReset_keeps ..); exact .refl _; exact .refl _

theorem State.writeBlockall_keeps (s : State) (p : Port) (v : Word) : s.Keeps (State.writeBlockall s p v) := by
  delta State.writeBlockall; refine .ite ?_ ?_; exact .refl _; refine .ite ?_ ?_
  refine .trans ?_ (State.blockAll_keeps ..); exact .refl _; refine .trans ?_ (State.range_keeps ..); exact .refl _

theorem execPeakClr_answers (s : State) : s.Answers (execPeakClr s) := by
  delta execPeakClr; refine .next ?_; refine .trans ?_ (State.wr_keeps ..); exact .refl _

theorem State.setPwr_keeps (s : State) (p : Pwr) : s.Keeps (State.setPwr s p) := by
  delta State.setPwr; refine .trans ?_ (.of_mk ..); exact .refl _

theorem State.railRaise_keeps (s : State) (id : Nat) (info : Nat) : s.Keeps (State.railRaise s id info) := by
  delta State.railRaise; refine .ite ?_ ?_; exact .refl _; refine .trans ?_ (State.raise_keeps ..); exact .refl _

theorem State.railWarn_keeps (s : State) (i : Nat) (tr : Bool) : s.Keeps (State.railWarn s i tr) := by
  delta State.railWarn; refine .trans ?_ (State.railRaise_keeps ..); refine .trans ?_ (State.wr_keeps ..); exact .refl _

theorem State.railFault_keeps (s : State) (i : Nat) (tr : Bool) : s.Keeps (State.railFault s i tr) := by
  delta State.railFault; refine .trans ?_ (State.railRaise_keeps ..); refine .trans ?_ (State.wr_keeps ..)
  exact .refl _

theorem State.railFailed_keeps (s : State) (i : Nat) : s.Keeps (State.railFailed s i) := by
  delta State.railFailed; lift_lets -underBinder; intro x; clear_value x; intro x; clear_value x
  intro x; refine .cut (x := x) ?_ ?_; subst x; rotate_left; intro hx; clear_value x; refine .ite ?_ ?_
  refine .trans ?_ (State.railFault_keeps ..); refine .trans ?_ (State.railWarn_keeps ..); assumption
  refine .trans ?_ (State.railWarn_keeps ..); assumption; refine .trans ?_ (State.inc_keeps ..)
  refine .trans ?_ (State.setPwr_keeps ..); exact .refl _

theorem State.railOn_keeps (s : State) (i : Nat) : s.Keeps (State.railOn s i) := by
  delta State.railOn; lift_lets -underBinder; intro x; clear_value x; intro x; clear_value x
  refine .trans ?_ (State.emit_keeps ..); refine .trans ?_ (State.emit_keeps ..); refine .trans ?_ (State.emit_keeps ..)
  refine .trans ?_ (State.setPwr_keeps ..); exact .refl _

theorem State.railRead_keeps (s : State) (alert : Bool) (r : RailRead) : s.Keeps (State.railRead s alert r) := by
  delta State.railRead; lift_lets -underBinder; intro x; clear_value x; intro x; clear_value x; intro x; clear_value x
  intro x; refine .cut (x := x) ?_ ?_; subst x; rotate_left; intro hx; clear_value x; refine .ite ?_ ?_; exact .refl _
  refine .ite ?_ ?_; refine .trans ?_ (State.railFailed_keeps ..); exact .refl _; refine .ite ?_ ?_
  refine .trans ?_ (State.railFault_keeps ..); refine .ite ?_ ?_; refine .trans ?_ (State.railWarn_keeps ..)
  refine .trans ?_ (State.wr_keeps ..); refine .ite ?_ ?_; assumption; refine .trans ?_ (State.wr_keeps ..); assumption
  refine .trans ?_ (State.wr_keeps ..); refine .ite ?_ ?_; assumption; refine .trans ?_ (State.wr_keeps ..); assumption
  refine .ite ?_ ?_; refine .trans ?_ (State.railWarn_keeps ..); refine .trans ?_ (State.wr_keeps ..); refine .ite ?_ ?_
  assumption; refine .trans ?_ (State.wr_keeps ..); assumption; refine .trans ?_ (State.wr_keeps ..); refine .ite ?_ ?_
  assumption; refine .trans ?_ (State.wr_keeps ..); assumption; refine .trans ?_ (State.setPwr_keeps ..); exact .refl _

theorem State.seqDown_keeps (s : State) : s.Keeps (State.seqDown s) := by
  delta State.seqDown; split; refine .trans ?_ (State.emit_keeps ..); refine .trans ?_ (State.setPwr_keeps ..)
  refine .trans ?_ (State.wr_keeps ..); exact .refl _; refine .trans ?_ (State.wr_keeps ..); exact .refl _

theorem State.railReset_keeps (s : State) : s.Keeps (State.railReset s) := by
  delta State.railReset; lift_lets -underBinder
  intro x; refine .cut (x := x) ?_ ?_; subst x; rotate_left; intro hx; clear_value x
  refine .trans ?_ (State.seqDown_keeps ..); refine .trans ?_ (State.wr_keeps ..)
  refine .trans ?_ (State.setPwr_keeps ..); assumption; refine .trans ?_ (State.inc_keeps ..)
  refine .trans ?_ (State.assertReset_keeps ..); exact .refl _

theorem State.releaseReset_keeps (s : State) (by_ : Nat) : s.Keeps (State.releaseReset s by_) := by
  delta State.releaseReset; lift_lets -underBinder; intro x; clear_value x
  intro x; refine .cut (x := x) ?_ ?_; subst x; rotate_left; intro hx; clear_value x; refine .trans ?_ (.of_mk ..)
  assumption; refine .ite ?_ ?_; refine .trans ?_ (State.resetUnits_keeps ..); exact .refl _; exact .refl _

theorem State.seqUp_keeps (s : State) : s.Keeps (State.seqUp s) := by
  delta State.seqUp; refine .trans ?_ (State.railOn_keeps ..); refine .trans ?_ (State.wr_keeps ..); exact .refl _

theorem State.tempFlag_keeps (s : State) (flag : Fld) (ev : Fld) (limit : Int) (t : Int) (src : Nat) : s.Keeps
    (State.tempFlag s flag ev limit t src) := by
  delta State.tempFlag; refine .ite ?_ ?_; refine .trans ?_ (State.raise_keeps ..); refine .trans ?_ (State.wr_keeps ..)
  refine .trans ?_ (State.wr_keeps ..); exact .refl _; refine .ite ?_ ?_; refine .trans ?_ (State.wr_keeps ..)
  exact .refl _; exact .refl _

theorem execPinReset_answers (s : State) : s.Answers (execPinReset s) := by
  delta execPinReset; lift_lets -underBinder; intro x
  intro x; refine .cut (x := x) ?_ ?_; subst x; rotate_left; intro hx; clear_value x; refine .ite ?_ ?_; refine .next ?_
  exact .refl _; refine .next ?_; refine .ite ?_ ?_; refine .trans ?_ (State.seqUp_keeps ..); assumption; assumption
  refine .trans ?_ (State.assertReset_keeps ..); exact .refl _

theorem execPinResetRelease_answers (s : State) : s.Answers (execPinResetRelease s) := by
  delta execPinResetRelease; refine .ite ?_ ?_; refine .next ?_; refine .trans ?_ (State.releaseReset_keeps ..)
  exact .refl _; refine .next ?_; exact .refl _

theorem execPmbAlert_answers (rs : List RailRead) (s : State) : s.Answers (execPmbAlert rs s) := by
  delta execPmbAlert; refine .ite ?_ ?_; refine .next ?_
  refine .trans ?_ (.foldl (fun s x => ?_) _ _); rotate_left; (try lift_lets -underBinder)
  refine .trans ?_ (State.railRead_keeps ..); exact .refl _; refine .next ?_; exact .refl _; exact .refl _

theorem execPowerOnReset_answers (sel : Bool) (s : State) : s.Answers (execPowerOnReset sel s) := by
  delta execPowerOnReset; lift_lets -underBinder
  intro x; refine .cut (x := x) ?_ ?_; subst x; rotate_left; intro hx; clear_value x; refine .ite ?_ ?_; refine .next ?_
  exact .refl _; refine .next ?_; refine .trans ?_ (State.seqUp_keeps ..)
  refine .trans ?_ (.foldl (fun s x => ?_) _ _); rotate_left; (try lift_lets -underBinder)
  refine .trans ?_ (State.wr_keeps ..); refine .trans ?_ (State.wr_keeps ..); exact .refl _
  refine .trans ?_ (State.resetUnits_keeps ..); exact .refl _; refine .trans ?_ (.of_mk ..); assumption

theorem execRailDown_answers (s : State) : s.Answers (execRailDown s) := by
  delta execRailDown; refine .ite ?_ ?_; refine .next ?_; refine .trans ?_ (State.seqDown_keeps ..)
  refine .trans ?_ (State.wr_keeps ..); exact .refl _; refine .next ?_; exact .refl _

theorem execRailHardFault_answers (i : Nat) (s : State) : s.Answers (execRailHardFault i s) := by
  delta execRailHardFault; refine .ite ?_ ?_; refine .next ?_; refine .trans ?_ (State.railReset_keeps ..)
  exact .refl _; refine .next ?_; exact .refl _

theorem execRailPoll_answers (rs : List RailRead) (s : State) : s.Answers (execRailPoll rs s) := by
  delta execRailPoll; refine .ite ?_ ?_; refine .next ?_
  refine .trans ?_ (.foldl (fun s x => ?_) _ _); rotate_left; (try lift_lets -underBinder)
  refine .trans ?_ (State.railRead_keeps ..); exact .refl _; refine .next ?_; exact .refl _; exact .refl _

theorem execRailRetry_answers (s : State) : s.Answers (execRailRetry s) := by
  delta execRailRetry; refine .ite ?_ ?_; refine .next ?_; refine .trans ?_ (State.seqUp_keeps ..); exact .refl _
  refine .next ?_; exact .refl _

theorem execRailStartFailure_answers (s : State) : s.Answers (execRailStartFailure s) := by
  delta execRailStartFailure; refine .ite ?_ ?_; refine .next ?_; refine .trans ?_ (State.railReset_keeps ..)
  exact .refl _; refine .next ?_; exact .refl _

theorem execRailUp_answers (mv : Nat) (s : State) : s.Answers (execRailUp mv s) := by
  delta execRailUp; lift_lets -underBinder; intro x; clear_value x
  intro x; refine .cut (x := x) ?_ ?_; subst x; rotate_left; intro hx; clear_value x; refine .ite ?_ ?_
  refine .ite ?_ ?_; refine .next ?_; refine .trans ?_ (State.railOn_keeps ..); assumption; refine .next ?_
  refine .trans ?_ (State.wr_keeps ..); refine .trans ?_ (State.releaseReset_keeps ..); assumption; refine .next ?_
  exact .refl _; refine .trans ?_ (State.wr_keeps ..); refine .trans ?_ (State.wr_keeps ..); exact .refl _

theorem execResetComplete_answers (testEn : Bool) (keyLow : Bool) (s : State) : s.Answers (execResetComplete testEn keyLow
    s) := by
  delta execResetComplete; lift_lets -underBinder; intro x; clear_value x
  intro x; refine .cut (x := x) ?_ ?_; subst x; rotate_left; intro hx; clear_value x; refine .ite ?_ ?_; refine .next ?_
  refine .trans ?_ (State.wr_keeps ..); refine .trans ?_ (.of_mk ..); refine .trans ?_ (State.wr_keeps ..)
  refine .trans ?_ (State.wr_keeps ..); refine .trans ?_ (State.wr_keeps ..); assumption; refine .next ?_; exact .refl _
  refine .ite ?_ ?_; refine .trans ?_ (State.wr_keeps ..)
  refine .trans ?_ (.of_parts (by first | exact id | exact twf_filter _ _ _ | exact fun _ => rfl) (by first | exact id | exact twf_filter _ _ _ | exact fun _ => rfl))
  exact .refl _; exact .refl _

theorem execRstMaskLift_answers (s : State) : s.Answers (execRstMaskLift s) := by
  delta execRstMaskLift; lift_lets -underBinder; intro x; clear_value x; refine .ite ?_ ?_; refine .next ?_
  refine .trans ?_ (State.setPwr_keeps ..); refine .trans ?_ (State.wr_keeps ..); exact .refl _; refine .next ?_
  exact .refl _

theorem execRstStuck_answers (s : State) : s.Answers (execRstStuck s) := by
  delta execRstStuck; lift_lets -underBinder
  intro x; refine .cut (x := x) ?_ ?_; subst x; rotate_left; intro hx; clear_value x; refine .ite ?_ ?_; refine .next ?_
  refine .trans ?_ (State.setPwr_keeps ..); assumption; refine .next ?_; exact .refl _
  refine .trans ?_ (State.wr_keeps ..); refine .trans ?_ (State.releaseReset_keeps ..); exact .refl _

theorem execSoftReset_answers (p : Port) (v : Word) (s : State) : s.Answers (execSoftReset p v s) := by
  delta execSoftReset; refine .ite ?_ ?_; refine .next ?_; exact .refl _; refine .next ?_
  refine .trans ?_ (State.writeReset_keeps ..); exact .refl _

theorem execSoftResetEnd_answers (s : State) : s.Answers (execSoftResetEnd s) := by
  delta execSoftResetEnd; refine .ite ?_ ?_; refine .next ?_; refine .trans ?_ (State.releaseReset_keeps ..)
  exact .refl _; refine .next ?_; exact .refl _

theorem execTempUpdate_answers (t : Int) (s : State) : s.Answers (execTempUpdate t s) := by
  delta execTempUpdate; lift_lets -underBinder; intro x; clear_value x
  intro x; refine .cut (x := x) ?_ ?_; subst x; rotate_left; intro hx; clear_value x; refine .ite ?_ ?_; refine .next ?_
  exact .refl _; refine .next ?_; refine .trans ?_ (State.tempFlag_keeps ..); refine .trans ?_ (State.tempFlag_keeps ..)
  refine .ite ?_ ?_; refine .trans ?_ (State.wrS_keeps ..); assumption; assumption
  refine .trans ?_ (State.wrS_keeps ..); exact .refl _

theorem execTopBlockall_answers (p : Port) (v : Word) (s : State) : s.Answers (execTopBlockall p v s) := by
  delta execTopBlockall; refine .ite ?_ ?_; refine .next ?_; exact .refl _; refine .next ?_
  refine .trans ?_ (State.writeBlockall_keeps ..); exact .refl _

theorem execVaonFall_answers (s : State) : s.Answers (execVaonFall s) := by
  delta execVaonFall; lift_lets -underBinder
  intro x; refine .cut (x := x) ?_ ?_; subst x; rotate_left; intro hx; clear_value x; refine .next ?_
  refine .trans ?_ (.of_parts (by first | exact id | exact twf_filter _ _ _ | exact fun _ => rfl) (by first | exact id | exact twf_filter _ _ _ | exact fun _ => rfl))
  assumption; refine .trans ?_ (State.resetUnits_keeps ..); exact .refl _

theorem execObsClear_answers (s : State) : s.Answers (execObsClear s) := by
  delta execObsClear; refine .next ?_; refine .trans ?_ (State.statsClear_keeps ..); exact .refl _

theorem execSchedSet_answers (p : Port) (v : Word) (s : State) : s.Answers (execSchedSet p v s) := by
  delta execSchedSet; refine .ite ?_ ?_; refine .next ?_; refine .trans ?_ (State.range_keeps ..); exact .refl _
  refine .next ?_; refine .trans ?_ (State.setFlags_keeps ..); exact .refl _

theorem State.statHold_keeps (s : State) (e : Nat) : s.Keeps (State.statHold s e) := by
  delta State.statHold; lift_lets -underBinder; intro x; clear_value x; refine .ite ?_ ?_; refine .trans ?_ (.of_mk ..)
  exact .refl _; exact .refl _

theorem State.dropHold_keeps (s : State) (e : Nat) (t : Nat) : s.Keeps (State.dropHold s e t) := by
  delta State.dropHold; lift_lets -underBinder
  intro x; refine .cut (x := x) ?_ ?_; subst x; rotate_left; intro hx; clear_value x; refine .ite ?_ ?_
  refine .trans ?_ (State.wr_keeps ..); refine .trans ?_ (State.wr_keeps ..); refine .trans ?_ (State.wr_keeps ..)
  assumption; refine .trans ?_ (State.wr_keeps ..); refine .trans ?_ (State.wr_keeps ..); assumption
  refine .trans ?_ (State.statHold_keeps ..); exact .refl _

theorem State.settleTask_keeps (s : State) (t : Nat) (stamp : Nat) : s.Keeps (State.settleTask s t stamp) := by
  delta State.settleTask; refine .ite ?_ ?_; refine .trans ?_ (State.taskTo_keeps ..); exact .refl _; refine .ite ?_ ?_
  refine .trans ?_ (State.becomeReady_keeps ..); exact .refl _; refine .trans ?_ (State.taskTo_keeps ..); exact .refl _

theorem State.complete_keeps (s : State) (e : Nat) : s.Keeps (State.complete s e) := by
  delta State.complete; split; exact .refl _; lift_lets -underBinder
  intro x; refine .cut (x := x) ?_ ?_; subst x; rotate_left; intro hx; clear_value x
  refine .trans ?_ (State.qUpdate_keeps ..); refine .trans ?_ (State.trace_keeps ..)
  refine .trans ?_ (State.passFlow_keeps ..); refine .trans ?_ (State.settleTask_keeps ..); assumption
  refine .trans ?_ (State.dropHold_keeps ..); exact .refl _

theorem execSchedDone_answers (p : Port) (v : Word) (s : State) : s.Answers (execSchedDone p v s) := by
  delta execSchedDone; split; refine .ite ?_ ?_; refine .next ?_; refine .trans ?_ (State.complete_keeps ..)
  exact .refl _; refine .next ?_; refine .trans ?_ (State.range_keeps ..); exact .refl _; refine .next ?_; exact .refl _

theorem execTaskEnable_answers (t : Nat) (en : Bool) (s : State) : s.Answers (execTaskEnable t en s) := by
  delta execTaskEnable; lift_lets -underBinder
  intro x; refine .cut (x := x) ?_ ?_; subst x; rotate_left; intro hx; clear_value x; refine .ite ?_ ?_; refine .next ?_
  refine .trans ?_ (State.judgeTask_keeps ..); refine .ite ?_ ?_; refine .trans ?_ (State.taskTo_keeps ..); assumption
  assumption; refine .next ?_; exact .refl _; refine .trans ?_ (State.wr_keeps ..); exact .refl _

theorem execWaitWrite_answers (t : Nat) (v : Word) (s : State) : s.Answers (execWaitWrite t v s) := by
  delta execWaitWrite; refine .ite ?_ ?_; refine .next ?_; refine .trans ?_ (State.judgeTask_keeps ..)
  refine .trans ?_ (State.wr_keeps ..); exact .refl _; refine .next ?_; exact .refl _

theorem execSchedFlags_answers (t : Nat) (v : Word) (s : State) : s.Answers (execSchedFlags t v s) := by
  delta execSchedFlags; refine .ite ?_ ?_; refine .next ?_; refine .trans ?_ (State.setFlags_keeps ..); exact .refl _
  refine .next ?_; exact .refl _

theorem execSchedFlagsClr_answers (t : Nat) (v : Word) (s : State) : s.Answers (execSchedFlagsClr t v s) := by
  delta execSchedFlagsClr; refine .ite ?_ ?_; refine .next ?_; refine .trans ?_ (State.judgeTask_keeps ..)
  refine .trans ?_ (State.wr_keeps ..); exact .refl _; refine .next ?_; exact .refl _

theorem State.setEngRegs_keeps (s : State) (e : Nat) (rs : List Word) : s.Keeps (State.setEngRegs s e rs) := by
  delta State.setEngRegs; refine .trans ?_ (.of_mk ..); exact .refl _

theorem execEngineHalt_answers (p : Port) (e : Nat) (pc : Nat) (rs : List Word) (s : State) : s.Answers (execEngineHalt p
    e pc rs s) := by
  delta execEngineHalt; lift_lets -underBinder; intro x; clear_value x; intro x; clear_value x
  intro x; refine .cut (x := x) ?_ ?_; subst x; rotate_left; intro hx; clear_value x; refine .ite ?_ ?_
  refine .ite ?_ ?_; refine .next ?_; refine .trans ?_ (State.range_keeps ..); exact .refl _; refine .ite ?_ ?_
  refine .next ?_; refine .trans ?_ (State.emit_keeps ..); refine .trans ?_ (State.setEngRegs_keeps ..)
  refine .trans ?_ (State.wr_keeps ..); refine .trans ?_ (State.wr_keeps ..); refine .trans ?_ (State.wr_keeps ..)
  assumption; refine .ite ?_ ?_; split; refine .next ?_; refine .trans ?_ (State.setEngRegs_keeps ..)
  refine .trans ?_ (State.wr_keeps ..); refine .trans ?_ (State.wr_keeps ..); exact .refl _; lift_lets -underBinder
  intro x; intro x; clear_value x; intro x; refine .cut (x := x) ?_ ?_; subst x; rotate_left; intro hx; clear_value x
  refine .next ?_; refine .trans ?_ (State.qUpdate_keeps ..); refine .ite ?_ ?_; refine .trans ?_ (State.emit_keeps ..)
  refine .trans ?_ (.of_mk ..); refine .trans ?_ (State.passFlow_keeps ..); refine .trans ?_ (State.settleTask_keeps ..)
  refine .trans ?_ (State.wr_keeps ..); assumption; refine .trans ?_ (State.trace_keeps ..)
  refine .trans ?_ (State.passFlow_keeps ..); refine .trans ?_ (State.settleTask_keeps ..)
  refine .trans ?_ (State.wr_keeps ..); assumption; refine .next ?_; exact .refl _; refine .next ?_; exact .refl _
  refine .trans ?_ (.of_mk ..); exact .refl _; refine .trans ?_ (State.dropHold_keeps ..)
  refine .trans ?_ (State.setEngRegs_keeps ..); refine .trans ?_ (State.wr_keeps ..)
  refine .trans ?_ (State.wr_keeps ..); exact .refl _

theorem execEngineReset_answers (p : Port) (e : Nat) (s : State) : s.Answers (execEngineReset p e s) := by
  delta execEngineReset; lift_lets -underBinder
  intro x; refine .cut (x := x) ?_ ?_; subst x; rotate_left; intro hx; clear_value x; refine .ite ?_ ?_
  refine .ite ?_ ?_; refine .next ?_; refine .trans ?_ (State.setEngRegs_keeps ..); assumption; refine .next ?_
  refine .trans ?_ (State.range_keeps ..); exact .refl _; refine .next ?_; exact .refl _
  refine .trans ?_ (State.wr_keeps ..); refine .trans ?_ (State.wr_keeps ..); exact .refl _

theorem execEngineRun_answers (p : Port) (e : Nat) (s : State) : s.Answers (execEngineRun p e s) := by
  delta execEngineRun; refine .ite ?_ ?_; refine .ite ?_ ?_; refine .next ?_; refine .trans ?_ (State.wr_keeps ..)
  exact .refl _; refine .ite ?_ ?_; refine .next ?_; exact .refl _; refine .next ?_
  refine .trans ?_ (State.range_keeps ..); exact .refl _; refine .next ?_; exact .refl _

theorem State.grantMarks_keeps (s : State) (e : Nat) (got : Nat) (ready : Nat) : s.Keeps (State.grantMarks s e got ready)
    := by
  delta State.grantMarks; lift_lets -underBinder; intro x; clear_value x; intro x; clear_value x; intro x; clear_value x
  intro x; clear_value x; refine .trans ?_ (.of_mk ..); exact .refl _

theorem State.statMax_keeps (s : State) (f : Fld) (v : Nat) : s.Keeps (State.statMax s f v) := by
  delta State.statMax; refine .trans ?_ (State.wr_keeps ..); exact .refl _

theorem State.statGrant_keeps (s : State) (e : Nat) (t : Nat) (w : Nat) : s.Keeps (State.statGrant s e t w) := by
  delta State.statGrant; lift_lets -underBinder
  intro x; refine .cut (x := x) ?_ ?_; subst x; rotate_left; intro hx; clear_value x; refine .ite ?_ ?_
  refine .trans ?_ (State.wr_keeps ..); refine .trans ?_ (.of_mk ..); assumption; exact .refl _
  refine .trans ?_ (State.statMax_keeps ..); refine .trans ?_ (State.inc_keeps ..)
  refine .trans ?_ (State.inc_keeps ..); exact .refl _

theorem State.holdOthers_keeps (s : State) (f : Nat) (t : Nat) : s.Keeps (State.holdOthers s f t) := by
  delta State.holdOthers; refine .ite ?_ ?_
  refine .trans ?_ (.foldl (fun s x => ?_) _ _); rotate_left; (try lift_lets -underBinder); refine .ite ?_ ?_
  refine .trans ?_ (State.trace_keeps ..); refine .trans ?_ (State.taskTo_keeps ..); exact .refl _; exact .refl _
  exact .refl _; exact .refl _

theorem State.grant_keeps (s : State) (e : Nat) (t : Nat) : s.Keeps (State.grant s e t) := by
  delta State.grant; lift_lets -underBinder; intro x; clear_value x; intro x; clear_value x; intro x; clear_value x
  intro x; clear_value x; intro x; refine .cut (x := x) ?_ ?_; subst x; rotate_left; intro hx; clear_value x
  refine .trans ?_ (State.emit_keeps ..); refine .trans ?_ (State.qUpdate_keeps ..)
  refine .trans ?_ (State.holdOthers_keeps ..); refine .trans ?_ (State.trace_keeps ..)
  refine .trans ?_ (State.statGrant_keeps ..); refine .ite ?_ ?_; refine .trans ?_ (State.wr_keeps ..)
  refine .trans ?_ (State.wr_keeps ..); refine .trans ?_ (State.wr_keeps ..); refine .trans ?_ (State.wr_keeps ..)
  refine .trans ?_ (State.wr_keeps ..); refine .trans ?_ (State.wr_keeps ..); refine .trans ?_ (State.wr_keeps ..)
  refine .trans ?_ (State.wr_keeps ..); refine .trans ?_ (State.wr_keeps ..); refine .trans ?_ (State.taskTo_keeps ..)
  refine .trans ?_ (State.wr_keeps ..); assumption; refine .trans ?_ (State.wr_keeps ..)
  refine .trans ?_ (State.wr_keeps ..); refine .trans ?_ (State.wr_keeps ..); refine .trans ?_ (State.wr_keeps ..)
  refine .trans ?_ (State.wr_keeps ..); refine .trans ?_ (State.wr_keeps ..); refine .trans ?_ (State.wr_keeps ..)
  refine .trans ?_ (State.taskTo_keeps ..); refine .trans ?_ (State.wr_keeps ..); assumption
  refine .trans ?_ (State.grantMarks_keeps ..); exact .refl _

theorem execSchedAsk_answers (p : Port) (s : State) : s.Answers (execSchedAsk p s) := by
  delta execSchedAsk; split; refine .ite ?_ ?_; lift_lets -underBinder
  intro x; refine .cut (x := x) ?_ ?_; subst x; rotate_left; intro hx; clear_value x; refine .ite ?_ ?_; refine .next ?_
  refine .trans ?_ (State.wr_keeps ..); refine .trans ?_ (State.wr_keeps ..); refine .trans ?_ (.of_mk ..); assumption
  split
  refine .next ?_; refine .trans ?_ (State.grant_keeps ..); assumption; refine .next ?_
  refine .trans ?_ (State.emit_keeps ..); assumption; refine .next ?_; exact .refl _; refine .next ?_
  refine .trans ?_ (State.emit_keeps ..); exact .refl _; refine .trans ?_ (State.complete_keeps ..); exact .refl _

theorem execAgePromotion_answers (t : Nat) (s : State) : s.Answers (execAgePromotion t s) := by
  delta execAgePromotion; lift_lets -underBinder
  intro x; refine .cut (x := x) ?_ ?_; subst x; rotate_left; intro hx; clear_value x; refine .ite ?_ ?_; refine .next ?_
  refine .trans ?_ (State.qUpdate_keeps ..); refine .trans ?_ (State.trace_keeps ..); assumption; refine .next ?_
  exact .refl _; refine .trans ?_ (State.wr_keeps ..); exact .refl _

theorem execEngineFault_answers (e : Nat) (cause : Nat) (pc : Nat) (rs : List Word) (s : State) : s.Answers
    (execEngineFault e cause pc rs s) := by
  delta execEngineFault; lift_lets -underBinder; intro x; clear_value x
  intro x; refine .cut (x := x) ?_ ?_; subst x; rotate_left; intro hx; clear_value x; refine .ite ?_ ?_; refine .next ?_
  refine .trans ?_ (State.raise_keeps ..); split; lift_lets -underBinder
  intro x; refine .cut (x := x) ?_ ?_; subst x; rotate_left; intro hx; clear_value x
  refine .trans ?_ (State.qUpdate_keeps ..); refine .trans ?_ (State.trace_keeps ..)
  refine .trans ?_ (State.passFlow_keeps ..); assumption; refine .trans ?_ (State.setEngRegs_keeps ..)
  refine .trans ?_ (State.wr_keeps ..); refine .trans ?_ (State.wr_keeps ..); assumption; refine .next ?_; exact .refl _
  refine .trans ?_ (State.wr_keeps ..); refine .trans ?_ (State.wr_keeps ..); refine .trans ?_ (State.wr_keeps ..)
  exact .refl _; refine .trans ?_ (State.taskTo_keeps ..); refine .trans ?_ (State.dropHold_keeps ..)
  refine .trans ?_ (State.setEngRegs_keeps ..); refine .trans ?_ (State.wr_keeps ..)
  refine .trans ?_ (State.wr_keeps ..); assumption

theorem execRunLimitOverrun_answers (e : Nat) (s : State) : s.Answers (execRunLimitOverrun e s) := by
  delta execRunLimitOverrun; split; refine .ite ?_ ?_; lift_lets -underBinder; intro x; clear_value x
  intro x; refine .cut (x := x) ?_ ?_; subst x; rotate_left; intro hx; clear_value x; refine .next ?_
  refine .trans ?_ (State.trace_keeps ..); refine .trans ?_ (State.raise_keeps ..); refine .trans ?_ (State.wr_keeps ..)
  assumption; refine .next ?_; exact .refl _; refine .next ?_; exact .refl _; refine .trans ?_ (.of_mk ..)
  exact .refl _

theorem execSchedGrant_answers (s : State) : s.Answers (execSchedGrant s) := by
  delta execSchedGrant; split; refine .next ?_; refine .trans ?_ (State.grant_keeps ..); exact .refl _; refine .next ?_
  exact .refl _

end Sys2Proof.Machine
end

