-- ==== Sys2Proof/Laws/KeepsE.lean ====
section
/-! SUPPORT. Every operation and every command of Machine/Faults.lean, Params.lean, Lanes.lean, SkBus.lean, SafeOps.lean, SafeIsland.lean, SafeSession.lean, Prof.lean keeps the queue and the canonical forms: one lemma each. -/

namespace Sys2Proof.Machine
open Sys2Proof

theorem execFltSw_answers (v : Word) (s : State) : s.Answers (execFltSw v s) := by
  delta execFltSw; refine .next ?_; refine .trans ?_ (State.raise_keeps ..); exact .refl _

theorem State.fltFollow_keeps (s : State) : s.Keeps (State.fltFollow s) := by
  delta State.fltFollow; lift_lets -underBinder; intro x; clear_value x; intro x; clear_value x
  refine .trans ?_ (State.wr_keeps ..); refine .trans ?_ (State.wr_keeps ..); exact .refl _

theorem State.fatalReaction_keeps (s : State) : s.Keeps (State.fatalReaction s) := by
  delta State.fatalReaction; lift_lets -underBinder
  intro x; refine .cut (x := x) ?_ ?_; subst x; rotate_left; intro hx; clear_value x; refine .ite ?_ ?_
  refine .trans ?_ (State.enterFailed_keeps ..); assumption; refine .ite ?_ ?_; refine .ite ?_ ?_
  refine .trans ?_ (State.commitOff_keeps ..); assumption; refine .trans ?_ (State.blockAll_keeps ..); assumption
  assumption; refine .trans ?_ (State.wr_keeps ..); exact .refl _

theorem State.quietRestart_keeps (s : State) (e : Nat) : s.Keeps (State.quietRestart s e) := by
  delta State.quietRestart; lift_lets -underBinder; intro x; clear_value x; refine .trans ?_ (.of_mk ..); exact .refl _

theorem State.fltSettle_keeps (s : State) : s.Keeps (State.fltSettle s) := by
  delta State.fltSettle; lift_lets -underBinder; intro x; clear_value x
  intro x; refine .cut (x := x) ?_ ?_; subst x; rotate_left; intro hx; clear_value x
  refine .trans ?_ (State.irqUpdate_keeps ..); refine .ite ?_ ?_; refine .trans ?_ (State.fatalReaction_keeps ..)
  refine .trans ?_ (State.quietRestart_keeps ..); refine .trans ?_ (State.wr_keeps ..); assumption; assumption
  refine .trans ?_ (State.fltFollow_keeps ..); exact .refl _

theorem State.freeRec_keeps (s : State) (k : Nat) : s.Keeps (State.freeRec s k) := by
  delta State.freeRec; lift_lets -underBinder
  intro x; refine .cut (x := x) ?_ ?_; subst x; rotate_left; intro hx; clear_value x; refine .trans ?_ (.of_mk ..)
  refine .trans ?_ (State.wrW_keeps ..); refine .trans ?_ (State.wrW_keeps ..); assumption
  refine .trans ?_ (State.wrW_keeps ..); refine .trans ?_ (State.wrW_keeps ..); exact .refl _

theorem execFaultAck_answers (p : Port) (k : Nat) (s : State) : s.Answers (execFaultAck p k s) := by
  delta execFaultAck; refine .ite ?_ ?_; refine .next ?_; refine .trans ?_ (State.fltSettle_keeps ..)
  refine .trans ?_ (State.freeRec_keeps ..); exact .refl _; refine .ite ?_ ?_; refine .next ?_
  refine .trans ?_ (State.range_keeps ..); exact .refl _; refine .next ?_; exact .refl _

theorem State.countRaise_keeps (s : State) (r : Raise) : s.Keeps (State.countRaise s r) := by
  delta State.countRaise; lift_lets -underBinder; intro x; clear_value x
  intro x; refine .cut (x := x) ?_ ?_; subst x; rotate_left; intro hx; clear_value x
  refine .trans ?_ (State.inc_keeps ..); assumption; refine .trans ?_ (State.wrW_keeps ..); exact .refl _

theorem State.startTimer_keeps (s : State) (k : Nat) (e : Nat) : s.Keeps (State.startTimer s k e) := by
  delta State.startTimer; lift_lets -underBinder; intro x; clear_value x; intro x; clear_value x
  refine .trans ?_ (.of_mk ..); exact .refl _

theorem State.fillRec_keeps (s : State) (k : Nat) (f : FaultIn) (ovf : Bool) : s.Keeps (State.fillRec s k f ovf) := by
  delta State.fillRec; lift_lets -underBinder
  intro x; refine .cut (x := x) ?_ ?_; subst x; rotate_left; intro hx; clear_value x
  refine .trans ?_ (State.startTimer_keeps ..); refine .trans ?_ (.of_mk ..); refine .trans ?_ (State.wr_keeps ..)
  refine .trans ?_ (State.wr_keeps ..); refine .trans ?_ (State.wr_keeps ..); assumption
  refine .trans ?_ (State.wrW_keeps ..); exact .refl _

theorem State.judgeClass_keeps (s : State) (k : Nat) (fs : List FaultIn) : s.Keeps (State.judgeClass s k fs).1 := by
  delta State.judgeClass; split; dsimp only; exact .refl _; lift_lets -underBinder; intro x; clear_value x
  intro x; refine .cut (x := x) ?_ ?_; subst x; rotate_left; intro hx; clear_value x; split; split; dsimp only
  refine .trans ?_ (State.quietRestart_keeps ..); refine .trans ?_ (State.fillRec_keeps ..); assumption; dsimp only
  assumption; split; dsimp only; refine .trans ?_ (State.fireRoute_keeps ..); refine .trans ?_ (State.fillRec_keeps ..)
  assumption; split; dsimp only; refine .trans ?_ (State.wr_keeps ..); assumption; dsimp only
  refine .trans ?_ (State.wr_keeps ..); assumption; refine .ite ?_ ?_; refine .trans ?_ (State.quietRestart_keeps ..)
  exact .refl _; exact .refl _

theorem State.judgeClass_out {r_} {t_ : State} {s : State} {k : Nat} {fs : List FaultIn} (h_ : State.judgeClass s k fs =
    (t_, r_)) : s.Keeps t_ := by
  have := State.judgeClass_keeps s k fs; rwa [h_] at this

theorem State.judgeEdge_keeps (s : State) (rs : List Raise) : s.Keeps (State.judgeEdge s rs) := by
  delta State.judgeEdge; lift_lets -underBinder
  intro x; refine .cut (x := x) ?_ ?_; subst x; rotate_left; intro hx; clear_value x; split; split
  refine .trans ?_ (State.judgeClass_keeps ..); refine .trans ?_ (State.judgeClass_out (by assumption))
  refine .trans ?_ (State.judgeClass_out (by assumption)); refine .ite ?_ ?_; assumption
  refine .trans ?_ (State.recFault_keeps ..); assumption
  refine .trans ?_ (.foldl (fun s x => ?_) _ _); rotate_left; (try lift_lets -underBinder)
  refine .trans ?_ (State.countRaise_keeps ..); exact .refl _; exact .refl _

theorem execAliveToggle_answers (s : State) : s.Answers (execAliveToggle s) := by
  delta execAliveToggle; refine .ite ?_ ?_; refine .next ?_; refine .trans ?_ (State.wr_keeps ..); exact .refl _
  refine .next ?_; refine .trans ?_ (State.wr_keeps ..); exact .refl _

theorem execFaultRaise_answers (also : List (Nat × Nat)) (s : State) : s.Answers (execFaultRaise also s) := by
  delta execFaultRaise; lift_lets -underBinder
  intro x; refine .cut (x := x) ?_ ?_; subst x; rotate_left; intro hx; clear_value x; refine .next ?_
  refine .trans ?_ (State.fltSettle_keeps ..); refine .trans ?_ (State.judgeEdge_keeps ..); refine .trans ?_ (.of_mk ..)
  assumption; refine .trans ?_ (.foldl (fun s x => ?_) _ _); rotate_left; (try lift_lets -underBinder)
  refine .ite ?_ ?_; refine .trans ?_ (State.raise_keeps ..); exact .refl _; exact .refl _; exact .refl _

theorem execQuietExpire_answers (s : State) : s.Answers (execQuietExpire s) := by
  delta execQuietExpire; lift_lets -underBinder
  intro x; refine .cut (x := x) ?_ ?_; subst x; rotate_left; intro hx; clear_value x; refine .ite ?_ ?_; refine .next ?_
  refine .trans ?_ (State.fltSettle_keeps ..); refine .ite ?_ ?_; refine .trans ?_ (State.startTimer_keeps ..)
  refine .trans ?_ (State.wr_keeps ..); refine .trans ?_ (State.inc_keeps ..); refine .trans ?_ (State.freeRec_keeps ..)
  assumption; refine .trans ?_ (State.wr_keeps ..); refine .trans ?_ (State.inc_keeps ..)
  refine .trans ?_ (State.freeRec_keeps ..); assumption; refine .next ?_; exact .refl _
  refine .trans ?_ (.foldl (fun s x => ?_) _ _); rotate_left; (try lift_lets -underBinder)
  refine .trans ?_ (State.wrW_keeps ..); exact .refl _; exact .refl _

theorem execReactionTimeout_answers (k : Nat) (s : State) : s.Answers (execReactionTimeout k s) := by
  delta execReactionTimeout; lift_lets -underBinder; intro x; clear_value x; intro x; clear_value x
  intro x; refine .cut (x := x) ?_ ?_; subst x; rotate_left; intro hx; clear_value x; refine .ite ?_ ?_; refine .next ?_
  refine .trans ?_ (State.fltSettle_keeps ..); refine .trans ?_ (.of_mk ..)
  refine .trans ?_ (State.quietRestart_keeps ..); refine .trans ?_ (State.freeRec_keeps ..); refine .ite ?_ ?_
  refine .trans ?_ (State.fireRoute_keeps ..); refine .trans ?_ (State.startTimer_keeps ..)
  refine .trans ?_ (.of_mk ..); refine .trans ?_ (State.wr_keeps ..); refine .trans ?_ (State.wr_keeps ..); assumption
  refine .trans ?_ (State.wr_keeps ..); exact .refl _; refine .next ?_; exact .refl _
  refine .trans ?_ (State.wr_keeps ..); refine .trans ?_ (State.wrW_keeps ..); exact .refl _

theorem Skerry.loadParams_keeps (k : Skerry) (p : List Byte) : k.Keeps (Skerry.loadParams k p) := by
  delta Skerry.loadParams; lift_lets -underBinder
  intro x; refine .cut (x := x) ?_ ?_; subst x; rotate_left; intro hx; clear_value x; refine .trans ?_ (.of_mk ..)
  refine .trans ?_ (Skerry.setGate_keeps ..); assumption
  refine .trans ?_ (.foldl (fun s x => ?_) _ _); rotate_left; (try lift_lets -underBinder)
  refine .trans ?_ (Skerry.wr_keeps ..); exact .refl _; exact .refl _

theorem Skerry.rejectPart_keeps (k : Skerry) (reason : Nat) (off : Nat) (id : Nat) : k.Keeps (Skerry.rejectPart k reason
    off id) := by
  delta Skerry.rejectPart; lift_lets -underBinder
  intro x; refine .cut (x := x) ?_ ?_; subst x; rotate_left; intro hx; clear_value x
  refine .trans ?_ (Skerry.loadParams_keeps ..); refine .trans ?_ (Skerry.wr_keeps ..)
  refine .trans ?_ (Skerry.setFr_keeps ..); assumption; refine .trans ?_ (Skerry.log_keeps ..); exact .refl _

theorem Skerry.takePart_keeps (k : Skerry) (p : List Byte) : k.Keeps (Skerry.takePart k p) := by
  delta Skerry.takePart; lift_lets -underBinder; intro x; clear_value x; intro x; clear_value x
  intro x; refine .cut (x := x) ?_ ?_; subst x; rotate_left; intro hx; clear_value x; refine .ite ?_ ?_
  refine .trans ?_ (Skerry.wr_keeps ..); assumption; refine .ite ?_ ?_; refine .trans ?_ (Skerry.wr_keeps ..)
  refine .trans ?_ (Skerry.log_keeps ..); assumption; refine .ite ?_ ?_; refine .trans ?_ (Skerry.wr_keeps ..)
  refine .trans ?_ (Skerry.setGate_keeps ..); refine .trans ?_ (Skerry.log_keeps ..)
  refine .trans ?_ (Skerry.loadParams_keeps ..); refine .trans ?_ (Skerry.wr_keeps ..)
  refine .trans ?_ (Skerry.wr_keeps ..); refine .trans ?_ (Skerry.setFr_keeps ..); assumption
  refine .trans ?_ (Skerry.log_keeps ..); refine .trans ?_ (Skerry.loadParams_keeps ..)
  refine .trans ?_ (Skerry.wr_keeps ..); refine .trans ?_ (Skerry.wr_keeps ..); refine .trans ?_ (Skerry.setFr_keeps ..)
  assumption; refine .trans ?_ (Skerry.setFr_keeps ..); exact .refl _

theorem Skerry.partBlock_keeps (k : Skerry) (i : Nat) (id : Nat) (data : List Byte) : k.Keeps (Skerry.partBlock k i id
    data) := by
  delta Skerry.partBlock; lift_lets -underBinder; intro x; clear_value x; intro x; clear_value x; intro x; clear_value x
  intro x; refine .cut (x := x) ?_ ?_; subst x; rotate_left; intro hx; clear_value x; refine .ite ?_ ?_; exact .refl _
  refine .ite ?_ ?_; split; refine .trans ?_ (Skerry.rejectPart_keeps ..); refine .ite ?_ ?_; assumption
  refine .trans ?_ (Skerry.wr_keeps ..); assumption; refine .trans ?_ (Skerry.takePart_keeps ..); refine .ite ?_ ?_
  assumption; refine .trans ?_ (Skerry.wr_keeps ..); assumption; refine .ite ?_ ?_; assumption
  refine .trans ?_ (Skerry.wr_keeps ..); assumption; refine .trans ?_ (Skerry.setFr_keeps ..); exact .refl _

theorem State.writeEye_keeps (s : State) (p : Port) (n : Nat) (v : Nat) : s.Keeps (State.writeEye s p n v) := by
  delta State.writeEye; lift_lets -underBinder
  intro x; refine .cut (x := x) ?_ ?_; subst x; rotate_left; intro hx; clear_value x; refine .ite ?_ ?_; assumption
  refine .ite ?_ ?_; refine .trans ?_ (State.range_keeps ..); assumption; refine .ite ?_ ?_
  refine .trans ?_ (State.wr_keeps ..); assumption; refine .trans ?_ (State.wr_keeps ..)
  refine .trans ?_ (State.wr_keeps ..); refine .trans ?_ (State.wr_keeps ..); refine .trans ?_ (State.wr_keeps ..)
  assumption; refine .trans ?_ (State.wr_keeps ..); refine .trans ?_ (State.wr_keeps ..)
  refine .trans ?_ (State.wr_keeps ..); exact .refl _

theorem State.lanesOff_keeps (s : State) : s.Keeps (State.lanesOff s) := by
  delta State.lanesOff; refine .trans ?_ (.foldl (fun s x => ?_) _ _); rotate_left; (try lift_lets -underBinder)
  refine .trans ?_ (State.laneDrop_keeps ..); exact .refl _; exact .refl _

theorem execClockRecovered_answers (r : Rx) (s : State) : s.Answers (execClockRecovered r s) := by
  delta execClockRecovered; split; refine .ite ?_ ?_; lift_lets -underBinder
  intro x; refine .cut (x := x) ?_ ?_; subst x; rotate_left; intro hx; clear_value x; refine .next ?_; refine .ite ?_ ?_
  refine .trans ?_ (State.wr_keeps ..); assumption; exact .refl _; refine .next ?_; exact .refl _; refine .next ?_
  refine .trans ?_ (State.onCell_keeps _ _ _ ?_); rotate_left; beta_reduce; (try lift_lets -underBinder)
  refine .ite ?_ ?_; refine .trans ?_ (Skerry.wr_keeps ..); refine .trans ?_ (Skerry.wr_keeps ..)
  refine .trans ?_ (Skerry.wr_keeps ..); exact .refl _; exact .refl _; refine .trans ?_ (State.wr_keeps ..)
  refine .trans ?_ (State.wr_keeps ..); exact .refl _; exact .refl _

theorem execCommaAligned_answers (r : Rx) (s : State) : s.Answers (execCommaAligned r s) := by
  delta execCommaAligned; split; refine .ite ?_ ?_; refine .next ?_; refine .trans ?_ (State.laneLock_keeps ..)
  exact .refl _; refine .next ?_; exact .refl _; refine .next ?_
  refine .trans ?_ (State.onCell_keeps _ _ _ ?_); rotate_left; beta_reduce; (try lift_lets -underBinder)
  refine .ite ?_ ?_; refine .trans ?_ (Skerry.portLock_keeps ..); exact .refl _; exact .refl _; exact .refl _

theorem execElasticSlip_answers (n : Nat) (s : State) : s.Answers (execElasticSlip n s) := by
  delta execElasticSlip; refine .ite ?_ ?_; refine .next ?_; refine .trans ?_ (State.inc_keeps ..); exact .refl _
  refine .next ?_; exact .refl _

theorem execErrIntervalEnd_answers (n : Nat) (errs : Nat) (s : State) : s.Answers (execErrIntervalEnd n errs s) := by
  delta execErrIntervalEnd; lift_lets -underBinder; intro x; clear_value x
  intro x; refine .cut (x := x) ?_ ?_; subst x; rotate_left; intro hx; clear_value x; refine .ite ?_ ?_
  refine .ite ?_ ?_; refine .next ?_; refine .trans ?_ (State.raise_keeps ..)
  refine .trans ?_ (State.putBitAt_keeps ..); assumption; refine .next ?_; assumption; refine .next ?_; exact .refl _
  refine .trans ?_ (State.setLaneRx_keeps ..); refine .trans ?_ (State.cnt_keeps ..); exact .refl _

theorem execEyeScanDone_answers (n : Nat) (errs : Nat) (s : State) : s.Answers (execEyeScanDone n errs s) := by
  delta execEyeScanDone; refine .ite ?_ ?_; refine .next ?_; refine .trans ?_ (State.wr_keeps ..)
  refine .trans ?_ (State.wr_keeps ..); refine .trans ?_ (State.wr_keeps ..); exact .refl _; refine .next ?_
  exact .refl _

theorem execEyeScanStart_answers (p : Port) (n : Nat) (v : Word) (s : State) : s.Answers (execEyeScanStart p n v s) := by
  delta execEyeScanStart; refine .ite ?_ ?_; refine .next ?_; refine .trans ?_ (State.writeEye_keeps ..); exact .refl _
  refine .next ?_; exact .refl _

theorem execLockTimeout_answers (n : Nat) (s : State) : s.Answers (execLockTimeout n s) := by
  delta execLockTimeout; refine .ite ?_ ?_; refine .next ?_; refine .trans ?_ (State.raise_keeps ..)
  refine .trans ?_ (State.wr_keeps ..); exact .refl _; refine .next ?_; exact .refl _

theorem execLossScoreLimit_answers (r : Rx) (errs : Nat) (s : State) : s.Answers (execLossScoreLimit r errs s) := by
  delta execLossScoreLimit; split; refine .ite ?_ ?_; refine .next ?_; refine .trans ?_ (State.laneDrop_keeps ..)
  refine .trans ?_ (State.cnt_keeps ..); exact .refl _; refine .next ?_; exact .refl _; refine .next ?_
  refine .trans ?_ (State.onCell_keeps _ _ _ ?_); rotate_left; beta_reduce; (try lift_lets -underBinder)
  refine .ite ?_ ?_; refine .trans ?_ (Skerry.portDrop_keeps ..); refine .trans ?_ (Skerry.cnt_keeps ..); exact .refl _
  exact .refl _; exact .refl _

theorem execRefClockBad_answers (sys : Bool) (dev : Int) (s : State) : s.Answers (execRefClockBad sys dev s) := by
  delta execRefClockBad; lift_lets -underBinder; intro x; clear_value x; intro x; clear_value x
  intro x; refine .cut (x := x) ?_ ?_; subst x; rotate_left; intro hx; clear_value x; refine .ite ?_ ?_; refine .next ?_
  refine .trans ?_ (State.raise_keeps ..); refine .trans ?_ (State.wr_keeps ..)
  refine .trans ?_ (State.lanesOff_keeps ..); refine .trans ?_ (State.wr_keeps ..); refine .ite ?_ ?_; assumption
  refine .trans ?_ (State.wrS_keeps ..); assumption; split; refine .next ?_; refine .trans ?_ (State.raise_keeps ..)
  refine .trans ?_ (State.free_out (by assumption)); refine .trans ?_ (State.wr_keeps ..)
  refine .trans ?_ (State.lanesOff_keeps ..); refine .trans ?_ (State.wr_keeps ..); refine .ite ?_ ?_; assumption
  refine .trans ?_ (State.wrS_keeps ..); assumption; refine .trans ?_ (.of_mk ..); exact .refl _

theorem execRefClockGood_answers (sys : Bool) (dev : Int) (s : State) : s.Answers (execRefClockGood sys dev s) := by
  delta execRefClockGood; lift_lets -underBinder; intro x; clear_value x; intro x; clear_value x
  intro x; refine .cut (x := x) ?_ ?_; subst x; rotate_left; intro hx; clear_value x; refine .ite ?_ ?_; refine .next ?_
  refine .ite ?_ ?_; assumption; refine .trans ?_ (State.wrS_keeps ..); assumption; refine .ite ?_ ?_; refine .next ?_
  refine .trans ?_ (.foldl (fun s x => ?_) _ _); rotate_left; (try lift_lets -underBinder); refine .ite ?_ ?_
  refine .trans ?_ (State.wr_keeps ..); exact .refl _; exact .refl _; refine .next ?_
  refine .trans ?_ (State.wr_keeps ..); refine .ite ?_ ?_; assumption; refine .trans ?_ (State.wrS_keeps ..); assumption
  refine .trans ?_ (.of_mk ..); exact .refl _; refine .trans ?_ (State.wr_keeps ..); refine .ite ?_ ?_; assumption
  refine .trans ?_ (State.wrS_keeps ..); assumption

theorem execSignalDetectLost_answers (r : Rx) (sig : Bool) (cdr : Bool) (s : State) : s.Answers (execSignalDetectLost r
    sig cdr s) := by
  delta execSignalDetectLost; split; refine .ite ?_ ?_; lift_lets -underBinder
  intro x; refine .cut (x := x) ?_ ?_; subst x; rotate_left; intro hx; clear_value x; refine .next ?_; refine .ite ?_ ?_
  refine .trans ?_ (State.laneDrop_keeps ..); assumption; assumption; refine .next ?_; exact .refl _; refine .next ?_
  refine .trans ?_ (State.onCell_keeps _ _ _ ?_); rotate_left; beta_reduce; (try lift_lets -underBinder)
  intro x; refine .cut (x := x) ?_ ?_; subst x; rotate_left; intro hx; clear_value x; refine .ite ?_ ?_
  refine .ite ?_ ?_; refine .trans ?_ (Skerry.portDrop_keeps ..); assumption; assumption; exact .refl _
  refine .trans ?_ (State.wr_keeps ..); refine .trans ?_ (State.wr_keeps ..); exact .refl _; exact .refl _
  refine .trans ?_ (Skerry.wr_keeps ..); refine .trans ?_ (Skerry.wr_keeps ..); exact .refl _

theorem Skerry.view_keeps (k : Skerry) : k.Keeps (Skerry.view k) := by
  delta Skerry.view; lift_lets -underBinder
  intro x; refine .cut (x := x) ?_ ?_; subst x; rotate_left; intro hx; clear_value x
  refine .trans ?_ (.foldl (fun s x => ?_) _ _); rotate_left; (try lift_lets -underBinder); refine .ite ?_ ?_
  refine .trans ?_ (Skerry.wr_keeps ..); exact .refl _; exact .refl _; refine .trans ?_ (Skerry.refreshShow_keeps ..)
  exact .refl _; assumption

theorem Skerry.readReg_keeps (k : Skerry) (p : Port) (a : Nat) : k.Keeps (Skerry.readReg k p a).2 := by
  delta Skerry.readReg; split; dsimp only; exact .refl _; split; lift_lets -underBinder; intro x; clear_value x
  dsimp only; refine .trans ?_ (.of_mk ..); exact .refl _; split; dsimp only; exact .refl _; split; dsimp only
  exact .refl _; split; dsimp only; exact .refl _; lift_lets -underBinder; intro x; clear_value x; dsimp only
  refine .ite ?_ ?_; refine .trans ?_ (Skerry.wrW_keeps ..); exact .refl _; exact .refl _

theorem Skerry.readReg_out {r_} {t_ : Skerry} {k : Skerry} {p : Port} {a : Nat} (h_ : Skerry.readReg k p a = (r_, t_)) :
    k.Keeps t_ := by
  have := Skerry.readReg_keeps k p a; rwa [h_] at this

theorem Skerry.readWord_keeps (k : Skerry) (p : Port) (a : Nat) : k.Keeps (Skerry.readWord k p a).2 := by
  delta Skerry.readWord; split; dsimp only; exact .refl _; split; dsimp only; exact .refl _
  refine .trans ?_ (Skerry.readReg_keeps ..); exact .refl _

theorem Skerry.readWord_out {r_} {t_ : Skerry} {k : Skerry} {p : Port} {a : Nat} (h_ : Skerry.readWord k p a = (r_, t_)) :
    k.Keeps t_ := by
  have := Skerry.readWord_keeps k p a; rwa [h_] at this

theorem Skerry.readWords_keeps (k : Skerry) (p : Port) (a : Nat) (x3 : Nat) : k.Keeps (Skerry.readWords k p a x3).2 := by
  induction x3 generalizing k a with
  | zero => exact .refl _
  | succ n ih => exact (Skerry.readWord_keeps k p a).trans (ih _ _)

theorem Skerry.readWords_out {r_} {t_ : Skerry} {k : Skerry} {p : Port} {a : Nat} {x3 : Nat} (h_ : Skerry.readWords k p a
    x3 = (r_, t_)) : k.Keeps t_ := by
  have := Skerry.readWords_keeps k p a x3; rwa [h_] at this

theorem Skerry.writeForce_keeps (k : Skerry) (v : Nat) : k.Keeps (Skerry.writeForce k v).2 := by
  delta Skerry.writeForce; split; split; dsimp only; refine .trans ?_ (Skerry.force_out (by assumption)); exact .refl _
  dsimp only; refine .trans ?_ (Skerry.wr_keeps ..); refine .trans ?_ (Skerry.release_keeps ..); exact .refl _

theorem Skerry.writeForce_out {r_} {t_ : Skerry} {k : Skerry} {v : Nat} (h_ : Skerry.writeForce k v = (r_, t_)) : k.Keeps
    t_ := by
  have := Skerry.writeForce_keeps k v; rwa [h_] at this

theorem Skerry.writePwr_keeps (k : Skerry) (tag : Nat) (v : Nat) : k.Keeps (Skerry.writePwr k tag v) := by
  delta Skerry.writePwr; lift_lets -underBinder
  intro x; refine .cut (x := x) ?_ ?_; subst x; rotate_left; intro hx; clear_value x; refine .ite ?_ ?_
  refine .trans ?_ (Skerry.disStop_keeps ..); assumption; assumption; refine .ite ?_ ?_
  refine .trans ?_ (Skerry.park_keeps ..); exact .refl _; exact .refl _

theorem Skerry.writeTrig_keeps (k : Skerry) (i : Nat) (v : Nat) : k.Keeps (Skerry.writeTrig k i v) := by
  delta Skerry.writeTrig; lift_lets -underBinder
  intro x; refine .cut (x := x) ?_ ?_; subst x; rotate_left; intro hx; clear_value x; refine .ite ?_ ?_
  refine .trans ?_ (Skerry.trigArm_keeps ..); refine .ite ?_ ?_; refine .trans ?_ (Skerry.trigDisarm_keeps ..)
  assumption; assumption; refine .ite ?_ ?_; refine .trans ?_ (Skerry.trigDisarm_keeps ..); assumption; assumption
  refine .trans ?_ (Skerry.wr_keeps ..); refine .trans ?_ (Skerry.wr_keeps ..); exact .refl _

theorem Skerry.writeReg_keeps (k : Skerry) (a : Nat) (v : Word) (still : List Nat) (tag : Nat) : k.Keeps (Skerry.writeReg
    k a v still tag).2 := by
  delta Skerry.writeReg; split; dsimp only; exact .refl _; lift_lets -underBinder; intro x; clear_value x; split
  dsimp only; refine .ite ?_ ?_; refine .trans ?_ (Skerry.clearGate_keeps ..); exact .refl _; exact .refl _; split
  refine .trans ?_ (Skerry.writeForce_keeps ..); exact .refl _; split; dsimp only
  refine .trans ?_ (Skerry.wperWrite_keeps ..); exact .refl _; split; dsimp only
  refine .trans ?_ (Skerry.fltClear_keeps ..); exact .refl _; split; dsimp only
  refine .trans ?_ (Skerry.writeConvTrig_keeps ..); exact .refl _; split; dsimp only
  refine .trans ?_ (Skerry.writeMainsSw_keeps ..); exact .refl _; split; dsimp only
  refine .trans ?_ (Skerry.writePwr_keeps ..); exact .refl _; split; dsimp only
  refine .trans ?_ (Skerry.writeTrig_keeps ..); exact .refl _; split; dsimp only
  refine .trans ?_ (Skerry.writeTrig_keeps ..); exact .refl _; split; dsimp only; exact .refl _; dsimp only
  refine .trans ?_ (Skerry.wrW_keeps ..); exact .refl _

theorem Skerry.writeReg_out {r_} {t_ : Skerry} {k : Skerry} {a : Nat} {v : Word} {still : List Nat} {tag : Nat} (h_ :
    Skerry.writeReg k a v still tag = (r_, t_)) : k.Keeps t_ := by
  have := Skerry.writeReg_keeps k a v still tag; rwa [h_] at this

theorem Skerry.writeWord_keeps (k : Skerry) (a : Nat) (v : Word) (still : List Nat) (tag : Nat) : k.Keeps
    (Skerry.writeWord k a v still tag).2 := by
  delta Skerry.writeWord; split; dsimp only; exact .refl _; split; dsimp only
  refine .trans ?_ (Skerry.setBytes_keeps ..); exact .refl _; split; dsimp only; exact .refl _
  refine .trans ?_ (Skerry.writeReg_keeps ..); exact .refl _

theorem Skerry.writeWord_out {r_} {t_ : Skerry} {k : Skerry} {a : Nat} {v : Word} {still : List Nat} {tag : Nat} (h_ :
    Skerry.writeWord k a v still tag = (r_, t_)) : k.Keeps t_ := by
  have := Skerry.writeWord_keeps k a v still tag; rwa [h_] at this

theorem Skerry.writeWords_keeps (k : Skerry) (a : Nat) (still : List Nat) (tag : Nat) (x4 : List Word) :
    k.Keeps (Skerry.writeWords k a still tag x4).2 := by
  induction x4 generalizing k a with
  | nil => exact .refl _
  | cons v t ih =>
    have h := Skerry.writeWord_keeps k a v still tag
    unfold Skerry.writeWords
    split
    · rename_i l hl
      rw [hl] at h
      exact h.trans (ih _ _)
    · exact h

theorem Skerry.writeWords_out {r_} {t_ : Skerry} {k : Skerry} {a : Nat} {still : List Nat} {tag : Nat} {x4 : List Word}
    (h_ : Skerry.writeWords k a still tag x4 = (r_, t_)) : k.Keeps t_ := by
  have := Skerry.writeWords_keeps k a still tag x4; rwa [h_] at this

theorem State.setSafe_keeps (s : State) (q : Safe) : s.Keeps (State.setSafe s q) := by
  delta State.setSafe; refine .trans ?_ (.of_mk ..); exact .refl _

theorem State.setFn_keeps (s : State) (f : Nat) (x : SafeFn) : s.Keeps (State.setFn s f x) := by
  delta State.setFn; lift_lets -underBinder; intro x; clear_value x; refine .trans ?_ (State.setSafe_keeps ..)
  exact .refl _

theorem State.enterSto_keeps (s : State) (f : Nat) (cause : Nat) : s.Keeps (State.enterSto s f cause) := by
  delta State.enterSto; lift_lets -underBinder
  intro x; refine .cut (x := x) ?_ ?_; subst x; rotate_left; intro hx; clear_value x
  refine .trans ?_ (State.setFn_keeps ..); assumption; refine .trans ?_ (State.wr_keeps ..)
  refine .trans ?_ (State.wr_keeps ..); exact .refl _

theorem State.applyJudged_keeps (s : State) : s.Keeps (State.applyJudged s) := by
  delta State.applyJudged; lift_lets -underBinder; intro x; clear_value x; intro x; clear_value x
  intro x; refine .cut (x := x) ?_ ?_; subst x; rotate_left; intro hx; clear_value x
  refine .trans ?_ (.foldl (fun s x => ?_) _ _); rotate_left; (try lift_lets -underBinder); intro x; clear_value x
  refine .ite ?_ ?_; refine .trans ?_ (State.enterSto_keeps ..); exact .refl _; refine .ite ?_ ?_
  refine .trans ?_ (State.setFn_keeps ..); refine .trans ?_ (State.wr_keeps ..); exact .refl _
  refine .trans ?_ (State.wr_keeps ..); exact .refl _; refine .trans ?_ (State.setSafe_keeps ..); exact .refl _
  assumption

theorem State.safeLog_keeps (s : State) (code : Nat) (refused : Bool) (digest : List Byte) (data : Nat) : s.Keeps
    (State.safeLog s code refused digest data) := by
  delta State.safeLog; lift_lets -underBinder; intro x; clear_value x; intro x; clear_value x; intro x; clear_value x
  intro x; clear_value x; intro x; refine .cut (x := x) ?_ ?_; subst x; rotate_left; intro hx; clear_value x
  refine .trans ?_ (State.wr_keeps ..); assumption
  refine .trans ?_ (.foldl (fun s x => ?_) _ _); rotate_left; (try lift_lets -underBinder)
  refine .trans ?_ (State.wr_keeps ..); exact .refl _; exact .refl _

theorem State.putBit_keeps (s : State) (f : Fld) (k : Nat) (v : Bool) : s.Keeps (State.putBit s f k v) := by
  delta State.putBit; lift_lets -underBinder; intro x; clear_value x; refine .trans ?_ (State.wr_keeps ..)
  exact .refl _

theorem State.kOut_keeps (s : State) (k : Nat) : s.Keeps (State.kOut s k) := by
  delta State.kOut; lift_lets -underBinder; intro x; clear_value x; intro x; clear_value x; intro x; clear_value x
  intro x; clear_value x; intro x; clear_value x; intro x; clear_value x; refine .ite ?_ ?_; refine .ite ?_ ?_
  refine .trans ?_ (State.putBit_keeps ..); exact .refl _; refine .trans ?_ (State.setSafe_keeps ..)
  refine .trans ?_ (State.putBit_keeps ..); exact .refl _; refine .ite ?_ ?_; refine .trans ?_ (State.putBit_keeps ..)
  exact .refl _; exact .refl _

theorem State.kOuts_keeps (s : State) : s.Keeps (State.kOuts s) := by
  delta State.kOuts; lift_lets -underBinder
  intro x; refine .cut (x := x) ?_ ?_; subst x; rotate_left; intro hx; clear_value x
  refine .trans ?_ (.foldl (fun s x => ?_) _ _); rotate_left; (try lift_lets -underBinder)
  refine .trans ?_ (State.wr_keeps ..); exact .refl _
  refine .trans ?_ (.foldl (fun s x => ?_) _ _); rotate_left; (try lift_lets -underBinder)
  refine .trans ?_ (State.kOut_keeps ..); exact .refl _; assumption; exact .refl _

theorem State.fnDiscrepancy_keeps (s : State) (f : Nat) : s.Keeps (State.fnDiscrepancy s f) := by
  delta State.fnDiscrepancy; lift_lets -underBinder; intro x; clear_value x; intro x; clear_value x
  intro x; clear_value x; intro x; clear_value x; intro x; clear_value x; intro x; clear_value x; refine .ite ?_ ?_
  exact .refl _; refine .trans ?_ (State.wr_keeps ..); refine .trans ?_ (State.setFn_keeps ..); exact .refl _

theorem State.fnSources_keeps (s : State) (f : Nat) : s.Keeps (State.fnSources s f) := by
  delta State.fnSources; refine .trans ?_ (.foldl (fun s x => ?_) _ _); rotate_left; (try lift_lets -underBinder)
  intro x; clear_value x; split; lift_lets -underBinder; intro x; clear_value x; refine .ite ?_ ?_
  refine .trans ?_ (State.setFn_keeps ..); exact .refl _; refine .trans ?_ (State.setFn_keeps ..); exact .refl _
  exact .refl _

theorem State.fnsAccepted_keeps (s : State) : s.Keeps (State.fnsAccepted s) := by
  delta State.fnsAccepted; refine .trans ?_ (.foldl (fun s x => ?_) _ _); rotate_left; (try lift_lets -underBinder)
  refine .trans ?_ (State.enterSto_keeps ..); refine .trans ?_ (State.wrW_keeps ..)
  refine .trans ?_ (State.setFn_keeps ..); exact .refl _; exact .refl _

theorem State.fnsTaken_keeps (s : State) (sec : List Byte) : s.Keeps (State.fnsTaken s sec) := by
  delta State.fnsTaken; lift_lets -underBinder
  intro x; refine .cut (x := x) ?_ ?_; subst x; rotate_left; intro hx; clear_value x; refine .ite ?_ ?_
  refine .trans ?_ (.foldl (fun s x => ?_) _ _); rotate_left; (try lift_lets -underBinder); refine .ite ?_ ?_
  refine .trans ?_ (State.wr_keeps ..); exact .refl _; refine .trans ?_ (State.enterSto_keeps ..); exact .refl _
  refine .trans ?_ (State.fnsAccepted_keeps ..); refine .trans ?_ (State.setSafe_keeps ..); assumption
  refine .trans ?_ (.foldl (fun s x => ?_) _ _); rotate_left; (try lift_lets -underBinder)
  refine .trans ?_ (State.wrW_keeps ..); exact .refl _; exact .refl _; exact .refl _

theorem State.islandTo_keeps (s : State) (st : Nat) : s.Keeps (State.islandTo s st) := by
  delta State.islandTo; lift_lets -underBinder; intro x; clear_value x
  intro x; refine .cut (x := x) ?_ ?_; subst x; rotate_left; intro hx; clear_value x; refine .ite ?_ ?_; exact .refl _
  refine .trans ?_ (State.fireRoute_keeps ..); refine .ite ?_ ?_; refine .trans ?_ (State.raise_keeps ..)
  refine .ite ?_ ?_; refine .trans ?_ (State.wr_keeps ..); refine .trans ?_ (State.wr_keeps ..)
  refine .trans ?_ (State.inc_keeps ..); refine .ite ?_ ?_; refine .trans ?_ (State.wr_keeps ..); assumption; assumption
  refine .ite ?_ ?_; refine .trans ?_ (State.wr_keeps ..); assumption; assumption; refine .ite ?_ ?_
  refine .trans ?_ (State.wr_keeps ..); refine .trans ?_ (State.wr_keeps ..); refine .trans ?_ (State.inc_keeps ..)
  refine .ite ?_ ?_; refine .trans ?_ (State.wr_keeps ..); assumption; assumption; refine .ite ?_ ?_
  refine .trans ?_ (State.wr_keeps ..); assumption; assumption; refine .trans ?_ (State.wr_keeps ..); exact .refl _

theorem State.islandFollow_keeps (s : State) (before : List Nat) : s.Keeps (State.islandFollow s before) := by
  delta State.islandFollow; lift_lets -underBinder; intro x; clear_value x
  intro x; refine .cut (x := x) ?_ ?_; subst x; rotate_left; intro hx; clear_value x; refine .ite ?_ ?_
  refine .trans ?_ (State.blockAll_keeps ..); assumption; assumption; refine .trans ?_ (State.kOuts_keeps ..)
  refine .trans ?_ (State.islandTo_keeps ..); exact .refl _

theorem State.judgeFn_keeps (s : State) (f : Nat) (reset : Bool) : s.Keeps (State.judgeFn s f reset) := by
  delta State.judgeFn; lift_lets -underBinder; intro x; clear_value x; intro x; clear_value x; intro x; clear_value x
  intro x; refine .cut (x := x) ?_ ?_; subst x; rotate_left; intro hx; clear_value x; split; refine .ite ?_ ?_
  lift_lets -underBinder; beta_reduce; refine .trans ?_ (State.setSafe_keeps ..); refine .trans ?_ (State.wr_keeps ..)
  assumption; refine .ite ?_ ?_; lift_lets -underBinder; beta_reduce; refine .trans ?_ (State.setSafe_keeps ..)
  refine .trans ?_ (State.wr_keeps ..); assumption; refine .trans ?_ (State.wr_keeps ..); assumption; refine .ite ?_ ?_
  refine .trans ?_ (State.wr_keeps ..); assumption; refine .ite ?_ ?_; lift_lets -underBinder; beta_reduce
  refine .trans ?_ (State.setSafe_keeps ..); refine .trans ?_ (State.wr_keeps ..); assumption; split; beta_reduce
  refine .trans ?_ (State.setSafe_keeps ..); refine .trans ?_ (State.free_out (by assumption))
  refine .trans ?_ (State.wr_keeps ..); assumption; refine .trans ?_ (State.wr_keeps ..)
  refine .trans ?_ (State.wr_keeps ..); exact .refl _

theorem State.kReq_keeps (s : State) (v : Nat) : s.Keeps (State.kReq s v) := by
  delta State.kReq; lift_lets -underBinder
  intro x; refine .cut (x := x) ?_ ?_; subst x; rotate_left; intro hx; clear_value x; refine .ite ?_ ?_
  refine .trans ?_ (State.kOuts_keeps ..); refine .trans ?_ (State.wr_keeps ..); assumption
  refine .trans ?_ (State.wr_keeps ..); assumption; refine .trans ?_ (State.wr_keeps ..); exact .refl _

theorem State.stopReq_keeps (s : State) : s.Keeps (State.stopReq s) := by
  delta State.stopReq; lift_lets -underBinder; intro x; clear_value x; refine .ite ?_ ?_
  refine .trans ?_ (State.setSafe_keeps ..); exact .refl _; exact .refl _

theorem State.islandClear_keeps (s : State) : s.Keeps (State.islandClear s) := by
  delta State.islandClear; lift_lets -underBinder
  intro x; refine .cut (x := x) ?_ ?_; subst x; rotate_left; intro hx; clear_value x
  refine .trans ?_ (State.wrW_keeps ..)
  refine .trans ?_ (.foldl (fun s x => ?_) _ _); rotate_left; (try lift_lets -underBinder)
  refine .trans ?_ (State.wrW_keeps ..); exact .refl _; refine .trans ?_ (State.wrW_keeps ..); exact .refl _; assumption

theorem State.takeReset_keeps (s : State) : s.Keeps (State.takeReset s).1 := by
  delta State.takeReset; lift_lets -underBinder; intro x; clear_value x
  intro x; refine .cut (x := x) ?_ ?_; subst x; rotate_left; intro hx; clear_value x; split; dsimp only; assumption
  dsimp only; refine .trans ?_ (State.setSafe_keeps ..); refine .trans ?_ (State.wr_keeps ..); assumption
  refine .trans ?_ (State.setSafe_keeps ..); exact .refl _

theorem State.takeReset_out {r_} {t_ : State} {s : State} (h_ : State.takeReset s = (t_, r_)) : s.Keeps t_ := by
  have := State.takeReset_keeps s; rwa [h_] at this

theorem State.judgeCycle_keeps (s : State) : s.Keeps (State.judgeCycle s) := by
  delta State.judgeCycle; lift_lets -underBinder; intro x; clear_value x; split; lift_lets -underBinder
  intro x; refine .cut (x := x) ?_ ?_; subst x; rotate_left; intro hx; clear_value x
  refine .trans ?_ (.foldl (fun s x => ?_) _ _); rotate_left; (try lift_lets -underBinder); intro x; clear_value x
  refine .ite ?_ ?_; refine .trans ?_ (State.setFn_keeps ..); exact .refl _; exact .refl _
  refine .trans ?_ (.foldl (fun s x => ?_) _ _); rotate_left; (try lift_lets -underBinder)
  refine .trans ?_ (State.fnSources_keeps ..); refine .trans ?_ (State.fnDiscrepancy_keeps ..); exact .refl _
  refine .trans ?_ (State.setSafe_keeps ..); refine .ite ?_ ?_; refine .trans ?_ (State.wr_keeps ..); refine .ite ?_ ?_
  refine .trans ?_ (State.wr_keeps ..)
  refine .trans ?_ (.foldl (fun s x => ?_) _ _); rotate_left; (try lift_lets -underBinder)
  refine .trans ?_ (State.judgeFn_keeps ..); exact .refl _
  refine .trans ?_ (.foldl (fun s x => ?_) _ _); rotate_left; (try lift_lets -underBinder)
  refine .trans ?_ (State.judgeFn_keeps ..); exact .refl _; refine .ite ?_ ?_; refine .trans ?_ (State.wr_keeps ..)
  refine .trans ?_ (.foldl (fun s x => ?_) _ _); rotate_left; (try lift_lets -underBinder)
  refine .trans ?_ (State.judgeFn_keeps ..); exact .refl _
  refine .trans ?_ (.foldl (fun s x => ?_) _ _); rotate_left; (try lift_lets -underBinder)
  refine .trans ?_ (State.judgeFn_keeps ..); exact .refl _; refine .of_ite_fst ?_ ?_ (by assumption)
  refine .trans ?_ (State.takeReset_keeps ..); exact .refl _; dsimp only; exact .refl _; assumption; assumption
  assumption; assumption

theorem State.kFeedback_keeps (s : State) (k : Nat) (closed : Bool) : s.Keeps (State.kFeedback s k closed) := by
  delta State.kFeedback; lift_lets -underBinder; intro x; clear_value x
  intro x; refine .cut (x := x) ?_ ?_; subst x; rotate_left; intro hx; clear_value x; refine .ite ?_ ?_; assumption
  refine .ite ?_ ?_; refine .trans ?_ (State.setSafe_keeps ..); assumption; refine .ite ?_ ?_
  refine .trans ?_ (State.kOuts_keeps ..); refine .trans ?_ (State.putBit_keeps ..); assumption; assumption
  refine .trans ?_ (State.putBit_keeps ..); exact .refl _

theorem State.pulseSeen_keeps (s : State) (i : Nat) (low : Bool) : s.Keeps (State.pulseSeen s i low) := by
  delta State.pulseSeen; lift_lets -underBinder; intro x; clear_value x; intro x; clear_value x; intro x; clear_value x
  intro x; refine .cut (x := x) ?_ ?_; subst x; rotate_left; intro hx; clear_value x; refine .ite ?_ ?_; exact .refl _
  refine .ite ?_ ?_; refine .trans ?_ (State.putBit_keeps ..); assumption; refine .ite ?_ ?_
  refine .trans ?_ (State.putBit_keeps ..); assumption; assumption; refine .trans ?_ (State.setSafe_keeps ..)
  exact .refl _

theorem execContactorFeedbackTimeout_answers (k : Nat) (s : State) : s.Answers (execContactorFeedbackTimeout k s) := by
  delta execContactorFeedbackTimeout; refine .ite ?_ ?_; refine .next ?_; refine .trans ?_ (State.kOuts_keeps ..)
  refine .trans ?_ (State.putBit_keeps ..); exact .refl _; refine .next ?_; exact .refl _

theorem execIslandFault_answers (cause : Nat) (s : State) : s.Answers (execIslandFault cause s) := by
  delta execIslandFault; lift_lets -underBinder; intro x; clear_value x
  intro x; refine .cut (x := x) ?_ ?_; subst x; rotate_left; intro hx; clear_value x; refine .ite ?_ ?_; refine .next ?_
  exact .refl _; refine .next ?_; refine .trans ?_ (State.raise_keeps ..); refine .trans ?_ (State.blockAll_keeps ..)
  refine .trans ?_ (State.safeLog_keeps ..); refine .trans ?_ (State.wr_keeps ..)
  refine .trans ?_ (State.islandTo_keeps ..); refine .trans ?_ (State.wr_keeps ..)
  refine .trans ?_ (.foldl (fun s x => ?_) _ _); rotate_left; (try lift_lets -underBinder); intro x; clear_value x
  refine .trans ?_ (State.setFn_keeps ..); refine .trans ?_ (State.enterSto_keeps ..); exact .refl _
  refine .trans ?_ (State.setSafe_keeps ..); exact .refl _; assumption

theorem execKDelayExpiry_answers (f : Nat) (s : State) : s.Answers (execKDelayExpiry f s) := by
  delta execKDelayExpiry; lift_lets -underBinder; intro x; clear_value x; refine .ite ?_ ?_; refine .next ?_
  refine .trans ?_ (State.kOuts_keeps ..); refine .trans ?_ (State.setFn_keeps ..); exact .refl _; refine .next ?_
  exact .refl _

theorem execKReq_answers (v : Nat) (s : State) : s.Answers (execKReq v s) := by
  delta execKReq; refine .next ?_; refine .trans ?_ (State.kReq_keeps ..); exact .refl _

theorem execPartnerBlockAll_answers (c : Nat) (s : State) : s.Answers (execPartnerBlockAll c s) := by
  delta execPartnerBlockAll; lift_lets -underBinder; intro x; clear_value x; refine .ite ?_ ?_; refine .next ?_
  refine .trans ?_ (State.setSafe_keeps ..); exact .refl _; refine .next ?_; exact .refl _

theorem execSafeInputChange_answers (i : Nat) (high : Bool) (s : State) : s.Answers (execSafeInputChange i high s) := by
  delta execSafeInputChange; refine .ite ?_ ?_; refine .next ?_; exact .refl _; refine .ite ?_ ?_; refine .next ?_
  refine .trans ?_ (State.putBit_keeps ..); refine .trans ?_ (State.putBit_keeps ..); exact .refl _; refine .ite ?_ ?_
  refine .next ?_; refine .trans ?_ (State.kFeedback_keeps ..); exact .refl _; refine .next ?_; exact .refl _

theorem execSafeReset_answers (low : Nat) (s : State) : s.Answers (execSafeReset low s) := by
  delta execSafeReset; lift_lets -underBinder; intro x; clear_value x; refine .ite ?_ ?_; refine .next ?_; exact .refl _
  refine .ite ?_ ?_; refine .next ?_; refine .trans ?_ (State.wr_keeps ..); exact .refl _; refine .next ?_
  refine .trans ?_ (State.setSafe_keeps ..); exact .refl _

theorem execSafetyCycle_answers (stale : Bool) (s : State) : s.Answers (execSafetyCycle stale s) := by
  delta execSafetyCycle; lift_lets -underBinder; intro x; clear_value x
  intro x; refine .cut (x := x) ?_ ?_; subst x; rotate_left; intro hx; clear_value x; refine .ite ?_ ?_; refine .next ?_
  exact .refl _; refine .next ?_; refine .ite ?_ ?_; refine .ite ?_ ?_; refine .trans ?_ (State.wr_keeps ..)
  refine .trans ?_ (State.setSafe_keeps ..); assumption; refine .trans ?_ (State.setSafe_keeps ..); assumption
  refine .trans ?_ (State.judgeCycle_keeps ..); refine .ite ?_ ?_; refine .trans ?_ (State.wr_keeps ..)
  refine .trans ?_ (State.setSafe_keeps ..); assumption; refine .trans ?_ (State.setSafe_keeps ..); assumption
  refine .trans ?_ (State.islandFollow_keeps ..); refine .trans ?_ (State.applyJudged_keeps ..); exact .refl _

theorem execStopReq_answers (s : State) : s.Answers (execStopReq s) := by
  delta execStopReq; refine .next ?_; refine .trans ?_ (State.stopReq_keeps ..); exact .refl _

theorem execTestPulse_answers (k : Nat) (lows : Nat) (high : Bool) (s : State) : s.Answers (execTestPulse k lows high s)
    := by
  delta execTestPulse; lift_lets -underBinder; intro x; clear_value x
  intro x; refine .cut (x := x) ?_ ?_; subst x; rotate_left; intro hx; clear_value x; refine .ite ?_ ?_; refine .next ?_
  exact .refl _; refine .next ?_; refine .ite ?_ ?_
  refine .trans ?_ (.foldl (fun s x => ?_) _ _); rotate_left; (try lift_lets -underBinder)
  refine .trans ?_ (State.putBit_keeps ..); exact .refl _
  refine .trans ?_ (.foldl (fun s x => ?_) _ _); rotate_left; (try lift_lets -underBinder)
  refine .trans ?_ (State.pulseSeen_keeps ..); exact .refl _; refine .trans ?_ (State.putBit_keeps ..); exact .refl _
  refine .trans ?_ (.foldl (fun s x => ?_) _ _); rotate_left; (try lift_lets -underBinder)
  refine .trans ?_ (State.pulseSeen_keeps ..); exact .refl _; assumption; assumption

theorem execVddSafeLoss_answers (s : State) : s.Answers (execVddSafeLoss s) := by
  delta execVddSafeLoss; lift_lets -underBinder
  intro x; refine .cut (x := x) ?_ ?_; subst x; rotate_left; intro hx; clear_value x; refine .next ?_
  refine .trans ?_ (State.setSafe_keeps ..); refine .trans ?_ (State.wr_keeps ..); refine .trans ?_ (State.wr_keeps ..)
  assumption; refine .trans ?_ (State.islandClear_keeps ..); exact .refl _

theorem execVddSafeRise_answers (s : State) : s.Answers (execVddSafeRise s) := by
  delta execVddSafeRise; lift_lets -underBinder; intro x; clear_value x; refine .ite ?_ ?_; refine .next ?_
  exact .refl _; refine .next ?_; refine .trans ?_ (State.setSafe_keeps ..)
  refine .trans ?_ (State.islandClear_keeps ..); exact .refl _

theorem execVsSafeLoss_answers (s : State) : s.Answers (execVsSafeLoss s) := by
  delta execVsSafeLoss; refine .ite ?_ ?_; refine .next ?_
  refine .trans ?_ (.foldl (fun s x => ?_) _ _); rotate_left; (try lift_lets -underBinder); intro x; clear_value x
  refine .trans ?_ (State.setSafe_keeps ..); refine .trans ?_ (State.putBit_keeps ..); exact .refl _; refine .next ?_
  exact .refl _; exact .refl _

theorem State.closeSession_keeps (s : State) : s.Keeps (State.closeSession s) := by
  delta State.closeSession; lift_lets -underBinder
  intro x; refine .cut (x := x) ?_ ?_; subst x; rotate_left; intro hx; clear_value x; refine .ite ?_ ?_
  refine .ite ?_ ?_; refine .trans ?_ (State.wr_keeps ..); assumption; assumption; exact .refl _
  refine .trans ?_ (State.safeLog_keeps ..); refine .trans ?_ (State.wr_keeps ..); exact .refl _

theorem State.toView_keeps (s : State) : s.Keeps (State.toView s) := by
  delta State.toView; refine .trans ?_ (State.wr_keeps ..); refine .trans ?_ (State.closeSession_keeps ..)
  exact .refl _

theorem State.monLate_keeps (s : State) : s.Keeps (State.monLate s) := by
  delta State.monLate; split; refine .trans ?_ (State.cnt_keeps ..); refine .trans ?_ (.of_mk ..)
  refine .trans ?_ (State.free_out (by assumption)); exact .refl _

theorem State.monCmd_keeps (s : State) (f : State → State) (hf : ∀ x : State, x.Keeps (f x)) : s.Keeps (State.monCmd s f)
    := by
  delta State.monCmd; refine .ite ?_ ?_; exact .refl _; refine .ite ?_ ?_; refine .trans ?_ (State.monLate_keeps ..)
  exact .refl _; refine .trans ?_ (hf ..); refine .trans ?_ (State.inc_keeps ..); exact .refl _

theorem State.say_keeps (s : State) (l : Line) : s.Keeps (State.say s l) := by
  delta State.say; refine .trans ?_ (State.emit_keeps ..); exact .refl _

theorem State.sayErr_keeps (s : State) (c : Nat) : s.Keeps (State.sayErr s c) := by
  delta State.sayErr; refine .trans ?_ (State.say_keeps ..); exact .refl _

theorem State.monDenied_keeps (s : State) : s.Keeps (State.monDenied s) := by
  delta State.monDenied; refine .trans ?_ (State.sayErr_keeps ..); refine .trans ?_ (State.raise_keeps ..)
  refine .trans ?_ (State.inc_keeps ..); exact .refl _

theorem State.atLevel_keeps (s : State) (n : Nat) (f : State → State) (hf : ∀ x : State, x.Keeps (f x)) : s.Keeps
    (State.atLevel s n f) := by
  delta State.atLevel
  refine .trans ?_ (State.monCmd_keeps _ _ (fun _ => ?_)); rotate_left; beta_reduce; (try lift_lets -underBinder)
  refine .ite ?_ ?_; refine .trans ?_ (hf ..); exact .refl _; refine .trans ?_ (State.monDenied_keeps ..); exact .refl _
  exact .refl _

theorem State.sayOk_keeps (s : State) : s.Keeps (State.sayOk s) := by
  delta State.sayOk; refine .trans ?_ (State.say_keeps ..); exact .refl _

theorem State.safetyHandover_keeps (s : State) (sec : List Byte) : s.Keeps (State.safetyHandover s sec).1 := by
  delta State.safetyHandover; lift_lets -underBinder; intro x; clear_value x; intro x; clear_value x
  intro x; refine .cut (x := x) ?_ ?_; subst x; rotate_left; intro hx; clear_value x; split; dsimp only
  refine .trans ?_ (State.wr_keeps ..); refine .trans ?_ (State.kOuts_keeps ..)
  refine .trans ?_ (State.islandTo_keeps ..); refine .ite ?_ ?_; refine .trans ?_ (State.setSafe_keeps ..); assumption
  refine .trans ?_ (State.fnsTaken_keeps ..); assumption; dsimp only; refine .trans ?_ (State.safeLog_keeps ..)
  refine .trans ?_ (State.setSafe_keeps ..); exact .refl _; refine .trans ?_ (State.setSafe_keeps ..); exact .refl _

theorem State.safetyHandover_out {r_} {t_ : State} {s : State} {sec : List Byte} (h_ : State.safetyHandover s sec = (t_,
    r_)) : s.Keeps t_ := by
  have := State.safetyHandover_keeps s sec; rwa [h_] at this

theorem State.sessionOp_keeps (s : State) (code : Nat) (states : List Nat) (ok : State → Bool) (f : State → State) (hf : ∀
    x : State, x.Keeps (f x)) : s.Keeps (State.sessionOp s code states ok f) := by
  delta State.sessionOp
  refine .trans ?_ (State.atLevel_keeps _ _ _ (fun _ => ?_)); rotate_left; beta_reduce; (try lift_lets -underBinder)
  refine .ite ?_ ?_; refine .trans ?_ (State.monDenied_keeps ..); exact .refl _; refine .ite ?_ ?_
  refine .trans ?_ (State.sayOk_keeps ..); refine .trans ?_ (hf ..); exact .refl _
  refine .trans ?_ (State.sayErr_keeps ..); refine .trans ?_ (State.safeLog_keeps ..); exact .refl _; exact .refl _

theorem execAccept_answers (s : State) : s.Answers (execAccept s) := by
  delta execAccept; refine .next ?_
  refine .trans ?_ (State.sessionOp_keeps _ _ _ _ _ (fun _ => ?_)); rotate_left; beta_reduce; (try lift_lets -underBinder)
  intro x; clear_value x; intro x; clear_value x
  intro x; refine .cut (x := x) ?_ ?_; subst x; rotate_left; intro hx; clear_value x
  refine .trans ?_ (State.safeLog_keeps ..); refine .trans ?_ (State.wr_keeps ..); assumption; exact .refl _
  refine .trans ?_ (State.setSafe_keeps ..); exact .refl _

theorem execIslandReset_answers (s : State) : s.Answers (execIslandReset s) := by
  delta execIslandReset; refine .next ?_
  refine .trans ?_ (State.sessionOp_keeps _ _ _ _ _ (fun _ => ?_)); rotate_left; beta_reduce; (try lift_lets -underBinder)
  intro x; refine .cut (x := x) ?_ ?_; subst x; rotate_left; intro hx; clear_value x
  refine .trans ?_ (State.safeLog_keeps ..); refine .trans ?_ (State.kOuts_keeps ..)
  refine .trans ?_ (State.islandTo_keeps ..); refine .trans ?_ (State.fnsAccepted_keeps ..); assumption; exact .refl _
  refine .trans ?_ (State.setSafe_keeps ..); refine .trans ?_ (State.islandClear_keeps ..); exact .refl _

theorem execSafeClose_answers (s : State) : s.Answers (execSafeClose s) := by
  delta execSafeClose; refine .next ?_
  refine .trans ?_ (State.atLevel_keeps _ _ _ (fun _ => ?_)); rotate_left; beta_reduce; (try lift_lets -underBinder)
  refine .trans ?_ (State.sayOk_keeps ..); refine .trans ?_ (State.closeSession_keeps ..); exact .refl _; exact .refl _

theorem execSafeLockoutEnd_answers (s : State) : s.Answers (execSafeLockoutEnd s) := by
  delta execSafeLockoutEnd; refine .next ?_; refine .trans ?_ (State.wr_keeps ..); exact .refl _

theorem execSafeOpen_answers (pw : List Byte) (s : State) : s.Answers (execSafeOpen pw s) := by
  delta execSafeOpen; refine .next ?_
  refine .trans ?_ (State.monCmd_keeps _ _ (fun _ => ?_)); rotate_left; beta_reduce; (try lift_lets -underBinder)
  intro x; clear_value x; intro x; refine .cut (x := x) ?_ ?_; subst x; rotate_left; intro hx; clear_value x
  refine .ite ?_ ?_; refine .trans ?_ (State.sayErr_keeps ..); exact .refl _; refine .ite ?_ ?_
  refine .trans ?_ (State.sayErr_keeps ..); exact .refl _; refine .ite ?_ ?_; refine .trans ?_ (State.sayOk_keeps ..)
  refine .trans ?_ (State.safeLog_keeps ..); refine .trans ?_ (State.wr_keeps ..); refine .trans ?_ (State.wr_keeps ..)
  assumption; refine .trans ?_ (State.sayErr_keeps ..); refine .ite ?_ ?_; refine .trans ?_ (State.safeLog_keeps ..)
  refine .trans ?_ (State.wr_keeps ..); refine .trans ?_ (State.safeLog_keeps ..); refine .trans ?_ (State.inc_keeps ..)
  refine .trans ?_ (State.setSafe_keeps ..); exact .refl _; refine .trans ?_ (State.safeLog_keeps ..)
  refine .trans ?_ (State.inc_keeps ..); refine .trans ?_ (State.setSafe_keeps ..); exact .refl _; exact .refl _
  refine .trans ?_ (State.setSafe_keeps ..); exact .refl _

theorem execSafeRead_answers (s : State) : s.Answers (execSafeRead s) := by
  delta execSafeRead; refine .next ?_
  refine .trans ?_ (State.sessionOp_keeps _ _ _ _ _ (fun _ => ?_)); rotate_left; beta_reduce; (try lift_lets -underBinder)
  refine .trans ?_ (State.say_keeps ..); refine .trans ?_ (State.say_keeps ..); exact .refl _; exact .refl _

theorem execSessionTimeout_answers (s : State) : s.Answers (execSessionTimeout s) := by
  delta execSessionTimeout; refine .next ?_; refine .trans ?_ (State.closeSession_keeps ..); exact .refl _

theorem execSetPw_answers (pw : List Byte) (s : State) : s.Answers (execSetPw pw s) := by
  delta execSetPw; refine .next ?_
  refine .trans ?_ (State.sessionOp_keeps _ _ _ _ _ (fun _ => ?_)); rotate_left; beta_reduce; (try lift_lets -underBinder)
  split
  split
  lift_lets -underBinder; intro x; clear_value x; intro x; clear_value x
  intro x; refine .cut (x := x) ?_ ?_; subst x; rotate_left; intro hx; clear_value x
  refine .trans ?_ (State.safeLog_keeps ..); refine .trans ?_ (State.wr_keeps ..); assumption; exact .refl _
  refine .trans ?_ (State.setSafe_keeps ..); refine .trans ?_ (State.free_out (by assumption))
  refine .trans ?_ (State.free_out (by assumption)); exact .refl _

theorem State.profCommand_keeps (s : State) (code : Nat) : s.Keeps (State.profCommand s code) := by
  delta State.profCommand; lift_lets -underBinder; intro x; clear_value x; refine .ite ?_ ?_; exact .refl _
  refine .trans ?_ (State.wr_keeps ..); refine .trans ?_ (State.setProf_keeps ..); exact .refl _

theorem State.writeLimit_keeps (s : State) (p : Port) (k : Nat) (v : Nat) : s.Keeps (State.writeLimit s p k v) := by
  delta State.writeLimit; lift_lets -underBinder; intro x; clear_value x; refine .ite ?_ ?_
  refine .trans ?_ (State.range_keeps ..); exact .refl _; refine .trans ?_ (State.wr_keeps ..); exact .refl _

theorem State.writeAngle_keeps (s : State) (p : Port) (v : Word) : s.Keeps (State.writeAngle s p v) := by
  delta State.writeAngle; refine .ite ?_ ?_; refine .trans ?_ (State.range_keeps ..); exact .refl _
  refine .trans ?_ (State.wrW_keeps ..); exact .refl _

theorem State.endPlan_keeps (s : State) (c : Nat) : s.Keeps (State.endPlan s c) := by
  delta State.endPlan; refine .ite ?_ ?_; exact .refl _; refine .ite ?_ ?_; refine .trans ?_ (State.wr_keeps ..)
  refine .trans ?_ (State.wr_keeps ..); refine .trans ?_ (State.setProf_keeps ..); exact .refl _; refine .ite ?_ ?_
  refine .trans ?_ (State.wr_keeps ..); refine .trans ?_ (State.setProf_keeps ..); exact .refl _; exact .refl _

theorem State.profBuild_keeps (s : State) : s.Keeps (State.profBuild s) := by
  delta State.profBuild; lift_lets -underBinder; intro x; subst x; (try beta_reduce); (try lift_lets -underBinder)
  intro x; refine .cut (x := x) ?_ ?_; subst x; rotate_left; intro hx; clear_value x; refine .ite ?_ ?_; exact .refl _
  refine .trans ?_ (State.setProf_keeps ..); refine .trans ?_ (State.wr_keeps ..); assumption
  refine .trans ?_ (State.wr_keeps ..); refine .trans ?_ (State.wr_keeps ..); refine .trans ?_ (State.wr_keeps ..)
  refine .trans ?_ (State.wr_keeps ..); exact .refl _

theorem State.profAngles_keeps (s : State) (c : Nat) : s.Keeps (State.profAngles s c) := by
  delta State.profAngles; lift_lets -underBinder; intro x; clear_value x; intro x; clear_value x; intro x; clear_value x
  intro x; clear_value x; intro x; clear_value x
  intro x; refine .cut (x := x) ?_ ?_; subst x; rotate_left; intro hx; clear_value x; refine .ite ?_ ?_; exact .refl _
  refine .trans ?_ (State.setProf_keeps ..); assumption; refine .trans ?_ (State.wrS_keeps ..)
  refine .trans ?_ (State.wr_keeps ..); exact .refl _

theorem State.profReject_keeps (s : State) (p : Port) : s.Keeps (State.profReject s p) := by
  delta State.profReject; refine .trans ?_ (State.range_keeps ..); refine .trans ?_ (State.wr_keeps ..)
  refine .trans ?_ (State.inc_keeps ..); exact .refl _

theorem State.publish_keeps (s : State) (x : F64 × F64 × F64) : s.Keeps (State.publish s x) := by
  delta State.publish; lift_lets -underBinder; intro x; clear_value x; refine .trans ?_ (State.wrS_keeps ..)
  refine .trans ?_ (State.wrS_keeps ..); refine .trans ?_ (State.wrS_keeps ..); exact .refl _

theorem State.showEnd_keeps (s : State) : s.Keeps (State.showEnd s) := by
  delta State.showEnd; lift_lets -underBinder; intro x; clear_value x; refine .trans ?_ (State.wr_keeps ..)
  refine .trans ?_ (State.wr_keeps ..); exact .refl _

theorem State.takePlan_keeps (s : State) (c : Nat) (x : PlanAt) : s.Keeps (State.takePlan s c x) := by
  delta State.takePlan; refine .trans ?_ (State.showEnd_keeps ..); refine .trans ?_ (State.setProf_keeps ..)
  exact .refl _

theorem State.replan_keeps (s : State) (c : Nat) : s.Keeps (State.replan s c) := by
  delta State.replan; split; lift_lets -underBinder; intro x; clear_value x; intro x; clear_value x
  intro x; clear_value x; intro x; clear_value x; intro x; clear_value x; intro x; clear_value x; intro x; clear_value x
  intro x; refine .cut (x := x) ?_ ?_; subst x; rotate_left; intro hx; clear_value x; refine .ite ?_ ?_; split
  lift_lets -underBinder; intro x; clear_value x; intro x; clear_value x
  intro x; refine .cut (x := x) ?_ ?_; subst x; rotate_left; intro hx; clear_value x; refine .ite ?_ ?_
  refine .trans ?_ (State.raise_keeps ..); refine .ite ?_ ?_; refine .trans ?_ (State.wr_keeps ..); assumption
  assumption; refine .ite ?_ ?_; refine .trans ?_ (State.wr_keeps ..); assumption; assumption; refine .ite ?_ ?_
  refine .trans ?_ (State.takePlan_keeps ..); refine .trans ?_ (State.setProf_keeps ..); exact .refl _
  refine .ite ?_ ?_; refine .ite ?_ ?_; refine .trans ?_ (State.raise_keeps ..); assumption; assumption; exact .refl _
  refine .trans ?_ (State.takePlan_keeps ..); exact .refl _; refine .trans ?_ (State.takePlan_keeps ..)
  refine .trans ?_ (State.setProf_keeps ..); exact .refl _

theorem State.showPhase_keeps (s : State) (c : Nat) : s.Keeps (State.showPhase s c) := by
  delta State.showPhase; lift_lets -underBinder; intro x; clear_value x; intro x; clear_value x; intro x; clear_value x
  refine .trans ?_ (State.wr_keeps ..); refine .trans ?_ (State.wr_keeps ..); exact .refl _

theorem State.stopOrLeave_keeps (s : State) (c : Nat) : s.Keeps (State.stopOrLeave s c) := by
  delta State.stopOrLeave; lift_lets -underBinder; intro x; clear_value x; intro x; clear_value x
  intro x; clear_value x; refine .ite ?_ ?_; split; lift_lets -underBinder; intro x; clear_value x
  intro x; refine .cut (x := x) ?_ ?_; subst x; rotate_left; intro hx; clear_value x
  refine .trans ?_ (State.takePlan_keeps ..); assumption; refine .ite ?_ ?_; refine .trans ?_ (State.wr_keeps ..)
  refine .trans ?_ (State.setProf_keeps ..); exact .refl _; exact .refl _; refine .trans ?_ (State.wr_keeps ..)
  refine .trans ?_ (State.wr_keeps ..); refine .trans ?_ (State.setProf_keeps ..); exact .refl _

theorem State.takeCommand_keeps (s : State) (c : Nat) : s.Keeps (State.takeCommand s c) := by
  delta State.takeCommand; split; exact .refl _; lift_lets -underBinder; intro x; clear_value x
  intro x; refine .cut (x := x) ?_ ?_; subst x; rotate_left; intro hx; clear_value x; refine .ite ?_ ?_
  refine .trans ?_ (State.profReject_keeps ..); assumption; refine .trans ?_ (State.inc_keeps ..)
  refine .trans ?_ (State.replan_keeps ..); refine .trans ?_ (State.wr_keeps ..); refine .trans ?_ (State.wr_keeps ..)
  refine .trans ?_ (State.setProf_keeps ..); assumption; refine .trans ?_ (State.wr_keeps ..)
  refine .trans ?_ (State.setProf_keeps ..); exact .refl _

theorem State.takeLimits_keeps (s : State) (c : Nat) : s.Keeps (State.takeLimits s c) := by
  delta State.takeLimits; lift_lets -underBinder; intro x; clear_value x; intro x; clear_value x
  intro x; refine .cut (x := x) ?_ ?_; subst x; rotate_left; intro hx; clear_value x; refine .ite ?_ ?_; exact .refl _
  refine .ite ?_ ?_; refine .trans ?_ (State.wr_keeps ..); refine .trans ?_ (State.inc_keeps ..)
  refine .trans ?_ (State.replan_keeps ..); assumption; assumption; refine .trans ?_ (State.setProf_keeps ..)
  exact .refl _

theorem State.takeProfFrame_keeps (s : State) (f : ProfFrame) : s.Keeps (State.takeProfFrame s f) := by
  delta State.takeProfFrame; lift_lets -underBinder; intro x; clear_value x
  intro x; subst x; (try beta_reduce); (try lift_lets -underBinder); intro x; clear_value x; intro x; clear_value x
  intro x; clear_value x; intro x; clear_value x
  intro x; refine .cut (x := x) ?_ ?_; subst x; rotate_left; intro hx; clear_value x; refine .ite ?_ ?_
  refine .trans ?_ (State.takePlan_keeps ..); refine .trans ?_ (State.wr_keeps ..); refine .trans ?_ (State.wr_keeps ..)
  refine .trans ?_ (State.wr_keeps ..); refine .trans ?_ (State.wr_keeps ..); refine .trans ?_ (State.wr_keeps ..)
  refine .trans ?_ (State.wr_keeps ..); assumption; refine .ite ?_ ?_; refine .trans ?_ (State.setProf_keeps ..)
  refine .trans ?_ (State.wr_keeps ..); refine .trans ?_ (State.wr_keeps ..); refine .trans ?_ (State.wr_keeps ..)
  refine .trans ?_ (State.wr_keeps ..); refine .trans ?_ (State.wr_keeps ..); refine .trans ?_ (State.wr_keeps ..)
  assumption; refine .trans ?_ (State.replan_keeps ..); refine .trans ?_ (State.wr_keeps ..)
  refine .trans ?_ (State.wr_keeps ..); refine .trans ?_ (State.wr_keeps ..); refine .trans ?_ (State.wr_keeps ..)
  refine .trans ?_ (State.wr_keeps ..); refine .trans ?_ (State.wr_keeps ..); assumption
  refine .trans ?_ (State.wr_keeps ..); refine .trans ?_ (State.wr_keeps ..); refine .trans ?_ (State.setProf_keeps ..)
  exact .refl _

theorem execMove_answers (s : State) : s.Answers (execMove s) := by
  delta execMove; refine .next ?_; refine .trans ?_ (State.profCommand_keeps ..); exact .refl _

theorem execProfAngle_answers (p : Port) (v : Word) (s : State) : s.Answers (execProfAngle p v s) := by
  delta execProfAngle; refine .next ?_; refine .trans ?_ (State.writeAngle_keeps ..); exact .refl _

theorem execProfLimitWrite_answers (p : Port) (k : Nat) (v : Word) (s : State) : s.Answers (execProfLimitWrite p k v s) :=
    by
  delta execProfLimitWrite; refine .ite ?_ ?_; refine .next ?_; refine .trans ?_ (State.writeLimit_keeps ..)
  exact .refl _; refine .next ?_; exact .refl _

theorem execProfileHalt_answers (s : State) : s.Answers (execProfileHalt s) := by
  delta execProfileHalt; refine .next ?_; refine .trans ?_ (State.profCommand_keeps ..); exact .refl _

theorem execServoPeriodStart_answers (s : State) : s.Answers (execServoPeriodStart s) := by
  delta execServoPeriodStart; lift_lets -underBinder; intro x; clear_value x
  intro x; refine .cut (x := x) ?_ ?_; subst x; rotate_left; intro hx; clear_value x; refine .ite ?_ ?_; refine .next ?_
  exact .refl _; refine .next ?_; refine .trans ?_ (State.fireRoute_keeps ..); refine .ite ?_ ?_
  refine .trans ?_ (State.emit_keeps ..); refine .trans ?_ (State.showPhase_keeps ..)
  refine .trans ?_ (State.publish_keeps ..); refine .trans ?_ (State.takeCommand_keeps ..)
  refine .trans ?_ (State.takeLimits_keeps ..); assumption; refine .trans ?_ (State.showPhase_keeps ..)
  refine .trans ?_ (State.publish_keeps ..); refine .trans ?_ (State.takeCommand_keeps ..)
  refine .trans ?_ (State.takeLimits_keeps ..); assumption; refine .trans ?_ (State.stopOrLeave_keeps ..)
  refine .trans ?_ (State.endPlan_keeps ..); exact .refl _

theorem execSpeed_answers (s : State) : s.Answers (execSpeed s) := by
  delta execSpeed; refine .next ?_; refine .trans ?_ (State.profCommand_keeps ..); exact .refl _

end Sys2Proof.Machine
end

