-- ==== Sys2Proof/Laws/KeepsF.lean ====
section
/-! SUPPORT. Every operation and every command of Machine/ChartBuild.lean, Red.lean, Chart.lean, CwFreight.lean keeps the queue and the canonical forms: one lemma each. -/

namespace Sys2Proof.Machine
open Sys2Proof

theorem State.applyRole_keeps (s : State) (p : List Byte) : s.Keeps (State.applyRole s p) := by
  delta State.applyRole; refine .trans ?_ (State.wr_keeps ..); refine .trans ?_ (State.wr_keeps ..)
  refine .trans ?_ (State.wr_keeps ..); exact .refl _

theorem upTo_keeps (n : Nat) (s : State) (f : State → Nat → State) (hf : ∀ (x : State) i, x.Keeps (f x i)) : s.Keeps (upTo
    n s f) := by
  delta upTo; refine .trans ?_ (.foldl (fun s x => ?_) _ _); rotate_left; (try lift_lets -underBinder)
  refine .trans ?_ (hf ..); exact .refl _; exact .refl _

theorem State.applyBerth_keeps (s : State) (c : Nat) (p : List Byte) : s.Keeps (State.applyBerth s c p) := by
  delta State.applyBerth; lift_lets -underBinder
  intro x; refine .cut (x := x) ?_ ?_; subst x; rotate_left; intro hx; clear_value x
  refine .trans ?_ (upTo_keeps _ _ _ (fun _ => ?_)); rotate_left; beta_reduce; (try lift_lets -underBinder); intro x
  lift_lets -underBinder; intro x; clear_value x
  intro x; refine .cut (x := x) ?_ ?_; subst x; rotate_left; intro hx; clear_value x
  refine .trans ?_ (State.setRec_keeps ..); assumption
  refine .trans ?_ (upTo_keeps _ _ _ (fun _ => ?_)); rotate_left; beta_reduce; (try lift_lets -underBinder); intro x
  refine .trans ?_ (State.wrW_keeps ..); exact .refl _; assumption; refine .trans ?_ (State.wr_keeps ..)
  refine .trans ?_ (State.wr_keeps ..); exact .refl _; exact .refl _

theorem State.applyLane_keeps (s : State) (p : List Byte) : s.Keeps (State.applyLane s p) := by
  delta State.applyLane; lift_lets -underBinder
  intro x; refine .cut (x := x) ?_ ?_; subst x; rotate_left; intro hx; clear_value x
  refine .trans ?_ (upTo_keeps _ _ _ (fun _ => ?_)); rotate_left; beta_reduce; (try lift_lets -underBinder); intro x
  lift_lets -underBinder; intro x; clear_value x; intro x; clear_value x
  intro x; refine .cut (x := x) ?_ ?_; subst x; rotate_left; intro hx; clear_value x
  refine .trans ?_ (State.wr_keeps ..); refine .trans ?_ (State.wr_keeps ..); refine .trans ?_ (State.wr_keeps ..)
  refine .trans ?_ (State.wr_keeps ..); refine .trans ?_ (State.wr_keeps ..); assumption
  refine .trans ?_ (State.wr_keeps ..); refine .trans ?_ (State.wr_keeps ..); exact .refl _; assumption
  refine .trans ?_ (State.wr_keeps ..); refine .trans ?_ (State.wr_keeps ..); refine .trans ?_ (State.wr_keeps ..)
  exact .refl _

theorem State.applyTime_keeps (s : State) (p : List Byte) : s.Keeps (State.applyTime s p) := by
  delta State.applyTime; lift_lets -underBinder
  intro x; refine .cut (x := x) ?_ ?_; subst x; rotate_left; intro hx; clear_value x
  refine .trans ?_ (upTo_keeps _ _ _ (fun _ => ?_)); rotate_left; beta_reduce; (try lift_lets -underBinder); intro x
  refine .trans ?_ (State.wr_keeps ..); exact .refl _; refine .trans ?_ (State.wr_keeps ..)
  refine .trans ?_ (State.wr_keeps ..); refine .trans ?_ (State.wr_keeps ..); exact .refl _
  refine .trans ?_ (State.wr_keeps ..); refine .trans ?_ (State.wr_keeps ..); assumption

theorem State.applyRec_keeps (s : State) (p : List Byte) : s.Keeps (State.applyRec s p) := by
  delta State.applyRec; lift_lets -underBinder
  intro x; refine .cut (x := x) ?_ ?_; subst x; rotate_left; intro hx; clear_value x
  refine .trans ?_ (upTo_keeps _ _ _ (fun _ => ?_)); rotate_left; beta_reduce; (try lift_lets -underBinder); intro x
  lift_lets -underBinder; intro x; clear_value x; intro x; clear_value x
  intro x; refine .cut (x := x) ?_ ?_; subst x; rotate_left; intro hx; clear_value x
  refine .trans ?_ (State.wr_keeps ..); refine .trans ?_ (State.wr_keeps ..); refine .trans ?_ (State.wr_keeps ..)
  refine .trans ?_ (State.wr_keeps ..); refine .trans ?_ (State.wr_keeps ..); refine .trans ?_ (State.wr_keeps ..)
  refine .trans ?_ (State.wr_keeps ..); refine .trans ?_ (State.wr_keeps ..); refine .trans ?_ (State.wr_keeps ..)
  refine .trans ?_ (State.wr_keeps ..); assumption; refine .trans ?_ (State.wr_keeps ..)
  refine .trans ?_ (State.wr_keeps ..); exact .refl _
  refine .trans ?_ (upTo_keeps _ _ _ (fun _ => ?_)); rotate_left; beta_reduce; (try lift_lets -underBinder); intro x
  refine .trans ?_ (State.wr_keeps ..); exact .refl _; refine .trans ?_ (State.wr_keeps ..)
  refine .trans ?_ (State.wr_keeps ..); refine .trans ?_ (State.wr_keeps ..); exact .refl _
  refine .trans ?_ (State.wr_keeps ..); refine .trans ?_ (State.wr_keeps ..); refine .trans ?_ (State.wr_keeps ..)
  refine .trans ?_ (State.wr_keeps ..); refine .trans ?_ (State.wr_keeps ..); refine .trans ?_ (State.wr_keeps ..)
  refine .trans ?_ (State.wr_keeps ..); refine .trans ?_ (State.wr_keeps ..); refine .trans ?_ (State.wr_keeps ..)
  assumption

theorem State.applyConv_keeps (s : State) (p : List Byte) : s.Keeps (State.applyConv s p) := by
  delta State.applyConv; lift_lets -underBinder; intro x; clear_value x
  intro x; refine .cut (x := x) ?_ ?_; subst x; rotate_left; intro hx; clear_value x
  refine .trans ?_ (upTo_keeps _ _ _ (fun _ => ?_)); rotate_left; beta_reduce; (try lift_lets -underBinder); intro x
  lift_lets -underBinder; intro x; clear_value x; intro x; clear_value x
  intro x; refine .cut (x := x) ?_ ?_; subst x; rotate_left; intro hx; clear_value x
  refine .trans ?_ (State.convShow_keeps ..); refine .trans ?_ (State.setConv_keeps ..)
  refine .trans ?_ (upTo_keeps _ _ _ (fun _ => ?_)); rotate_left; beta_reduce; (try lift_lets -underBinder); intro x
  refine .trans ?_ (State.wr_keeps ..); refine .trans ?_ (State.wr_keeps ..); exact .refl _
  refine .trans ?_ (State.wr_keeps ..); exact .refl _; refine .trans ?_ (State.wr_keeps ..)
  refine .trans ?_ (State.wr_keeps ..); assumption; refine .trans ?_ (State.wr_keeps ..)
  refine .trans ?_ (State.wr_keeps ..); refine .trans ?_ (State.wr_keeps ..); exact .refl _
  refine .trans ?_ (State.wr_keeps ..); refine .trans ?_ (State.wr_keeps ..); refine .trans ?_ (State.wr_keeps ..)
  refine .trans ?_ (State.wr_keeps ..); refine .trans ?_ (State.wr_keeps ..); refine .trans ?_ (State.wr_keeps ..)
  assumption

theorem State.applyFault_keeps (s : State) (p : List Byte) : s.Keeps (State.applyFault s p) := by
  delta State.applyFault; lift_lets -underBinder
  intro x; refine .cut (x := x) ?_ ?_; subst x; rotate_left; intro hx; clear_value x
  refine .trans ?_ (upTo_keeps _ _ _ (fun _ => ?_)); rotate_left; beta_reduce; (try lift_lets -underBinder); intro x
  refine .ite ?_ ?_; lift_lets -underBinder; intro x; clear_value x
  intro x; refine .cut (x := x) ?_ ?_; subst x; rotate_left; intro hx; clear_value x
  refine .trans ?_ (State.wrW_keeps ..); assumption; exact .refl _; refine .trans ?_ (State.wr_keeps ..)
  refine .trans ?_ (State.wr_keeps ..); exact .refl _; refine .trans ?_ (State.wr_keeps ..)
  refine .trans ?_ (State.wr_keeps ..); assumption; refine .trans ?_ (State.wr_keeps ..)
  refine .trans ?_ (State.wr_keeps ..); exact .refl _

theorem State.zeroRange_keeps (s : State) (a : Nat) (n : Nat) : s.Keeps (State.zeroRange s a n) := by
  delta State.zeroRange; lift_lets -underBinder
  intro x; refine .cut (x := x) ?_ ?_; subst x; rotate_left; intro hx; clear_value x
  refine .trans ?_ (State.setMst_keeps ..); assumption
  refine .trans ?_ (.of_parts (by first | exact id | exact twf_filter _ _ _ | exact fun _ => rfl) (by first | exact id | exact twf_filter _ _ _ | exact fun _ => rfl))
  exact .refl _

theorem State.applyImage_keeps (s : State) (e : Nat) (p : List Byte) : s.Keeps (State.applyImage s e p) := by
  delta State.applyImage; lift_lets -underBinder; intro x; clear_value x; intro x; clear_value x
  intro x; refine .cut (x := x) ?_ ?_; subst x; rotate_left; intro hx; clear_value x
  refine .trans ?_ (State.wr_keeps ..); refine .trans ?_ (State.wr_keeps ..); assumption
  refine .trans ?_ (State.setBytes_keeps ..); refine .trans ?_ (State.zeroRange_keeps ..); exact .refl _

theorem State.applyTask_keeps (s : State) (p : List Byte) : s.Keeps (State.applyTask s p) := by
  delta State.applyTask; lift_lets -underBinder
  intro x; refine .cut (x := x) ?_ ?_; subst x; rotate_left; intro hx; clear_value x
  refine .trans ?_ (upTo_keeps _ _ _ (fun _ => ?_)); rotate_left; beta_reduce; (try lift_lets -underBinder); intro x
  lift_lets -underBinder; intro x; clear_value x; intro x; clear_value x
  intro x; refine .cut (x := x) ?_ ?_; subst x; rotate_left; intro hx; clear_value x
  refine .trans ?_ (State.judgeTask_keeps ..); refine .trans ?_ (State.wr_keeps ..)
  refine .trans ?_ (State.wr_keeps ..); refine .trans ?_ (State.wr_keeps ..); refine .trans ?_ (State.wr_keeps ..)
  refine .trans ?_ (State.wr_keeps ..); assumption; refine .trans ?_ (State.wr_keeps ..)
  refine .trans ?_ (State.wr_keeps ..); exact .refl _
  refine .trans ?_ (upTo_keeps _ _ _ (fun _ => ?_)); rotate_left; beta_reduce; (try lift_lets -underBinder); intro x
  lift_lets -underBinder; intro x; clear_value x; refine .trans ?_ (State.wr_keeps ..)
  refine .trans ?_ (State.wr_keeps ..); refine .trans ?_ (State.wr_keeps ..); exact .refl _
  refine .trans ?_ (State.wr_keeps ..); refine .trans ?_ (State.wr_keeps ..); refine .trans ?_ (State.wr_keeps ..)
  exact .refl _; refine .trans ?_ (State.wr_keeps ..); refine .trans ?_ (State.wr_keeps ..)
  refine .trans ?_ (State.wr_keeps ..); assumption

theorem State.applyReef_keeps (s : State) (a : Nat) (p : List Byte) : s.Keeps (State.applyReef s a p) := by
  delta State.applyReef; lift_lets -underBinder
  intro x; refine .cut (x := x) ?_ ?_; subst x; rotate_left; intro hx; clear_value x; refine .ite ?_ ?_
  refine .trans ?_ (State.wrS_keeps ..); assumption; refine .ite ?_ ?_; refine .trans ?_ (State.wrS_keeps ..)
  assumption; assumption
  refine .trans ?_ (upTo_keeps _ _ _ (fun _ => ?_)); rotate_left; beta_reduce; (try lift_lets -underBinder); intro x
  refine .trans ?_ (State.wrW_keeps ..); exact .refl _; exact .refl _

theorem State.applyLoop_keeps (s : State) (p : List Byte) : s.Keeps (State.applyLoop s p) := by
  delta State.applyLoop; lift_lets -underBinder
  intro x; refine .cut (x := x) ?_ ?_; subst x; rotate_left; intro hx; clear_value x
  refine .trans ?_ (upTo_keeps _ _ _ (fun _ => ?_)); rotate_left; beta_reduce; (try lift_lets -underBinder); intro x
  lift_lets -underBinder; intro x; clear_value x
  intro x; refine .cut (x := x) ?_ ?_; subst x; rotate_left; intro hx; clear_value x
  refine .trans ?_ (upTo_keeps _ _ _ (fun _ => ?_)); rotate_left; beta_reduce; (try lift_lets -underBinder); intro x
  lift_lets -underBinder; intro x; clear_value x; refine .trans ?_ (State.wr_keeps ..)
  refine .trans ?_ (State.wr_keeps ..); exact .refl _; refine .trans ?_ (State.wr_keeps ..)
  refine .trans ?_ (State.wr_keeps ..); refine .trans ?_ (State.wr_keeps ..); exact .refl _
  refine .trans ?_ (upTo_keeps _ _ _ (fun _ => ?_)); rotate_left; beta_reduce; (try lift_lets -underBinder); intro x
  refine .trans ?_ (State.wr_keeps ..); exact .refl _; refine .trans ?_ (State.wr_keeps ..); exact .refl _
  refine .trans ?_ (State.wrW_keeps ..); refine .trans ?_ (State.wrW_keeps ..); assumption; assumption

theorem State.netEntries_keeps (s : State) (old : List Byte) : s.Keeps (State.netEntries s old) := by
  delta State.netEntries; lift_lets -underBinder; intro x; clear_value x
  intro x; subst x; (try beta_reduce); (try lift_lets -underBinder)
  intro x; refine .cut (x := x) ?_ ?_; subst x; rotate_left; intro hx; clear_value x
  refine .trans ?_ (upTo_keeps _ _ _ (fun _ => ?_)); rotate_left; beta_reduce; (try lift_lets -underBinder); intro x
  refine .ite ?_ ?_; refine .trans ?_ (State.wr_keeps ..); refine .trans ?_ (State.setNet_keeps ..); exact .refl _
  exact .refl _
  refine .trans ?_ (upTo_keeps _ _ _ (fun _ => ?_)); rotate_left; beta_reduce; (try lift_lets -underBinder); intro x
  refine .ite ?_ ?_; refine .trans ?_ (State.wr_keeps ..); refine .trans ?_ (State.wr_keeps ..)
  refine .trans ?_ (State.setPtp_keeps ..); exact .refl _; exact .refl _
  refine .trans ?_ (upTo_keeps _ _ _ (fun _ => ?_)); rotate_left; beta_reduce; (try lift_lets -underBinder); intro x
  refine .ite ?_ ?_; refine .trans ?_ (State.wr_keeps ..); refine .trans ?_ (State.wr_keeps ..); exact .refl _
  exact .refl _; exact .refl _
  refine .trans ?_ (upTo_keeps _ _ _ (fun _ => ?_)); rotate_left; beta_reduce; (try lift_lets -underBinder); intro x
  refine .ite ?_ ?_; refine .trans ?_ (State.wr_keeps ..); refine .trans ?_ (State.wr_keeps ..)
  refine .trans ?_ (State.setNet_keeps ..); exact .refl _; exact .refl _; assumption

theorem State.applySec_keeps (s : State) (ty : Nat) (inst : Nat) (p : List Byte) : s.Keeps (State.applySec s ty inst p) :=
    by
  delta State.applySec; refine .ite ?_ ?_; refine .trans ?_ (State.applyRole_keeps ..); exact .refl _; refine .ite ?_ ?_
  refine .trans ?_ (State.applyBerth_keeps ..); exact .refl _; refine .ite ?_ ?_
  refine .trans ?_ (State.applyLane_keeps ..); exact .refl _; refine .ite ?_ ?_
  refine .trans ?_ (State.applyTime_keeps ..); exact .refl _; refine .ite ?_ ?_
  refine .trans ?_ (State.applyRec_keeps ..); refine .trans ?_ (State.applyConv_keeps ..); exact .refl _
  refine .ite ?_ ?_; refine .trans ?_ (State.applyFault_keeps ..); exact .refl _; refine .ite ?_ ?_
  refine .trans ?_ (State.applyImage_keeps ..); exact .refl _; refine .ite ?_ ?_
  refine .trans ?_ (State.applyTask_keeps ..); exact .refl _; refine .ite ?_ ?_
  refine .trans ?_ (State.applyReef_keeps ..); exact .refl _; refine .ite ?_ ?_
  refine .trans ?_ (State.applyLoop_keeps ..); exact .refl _; refine .ite ?_ ?_
  refine .trans ?_ (State.netEntries_keeps ..); exact .refl _; exact .refl _

theorem State.applyAll_keeps (s : State) (secs : Secs) : s.Keeps (State.applyAll s secs) := by
  delta State.applyAll; lift_lets -underBinder; intro x; clear_value x
  intro x; refine .cut (x := x) ?_ ?_; subst x; rotate_left; intro hx; clear_value x
  refine .trans ?_ (.foldl (fun s x => ?_) _ _); rotate_left; (try lift_lets -underBinder)
  refine .trans ?_ (State.applySec_keeps ..); exact .refl _; refine .trans ?_ (.of_mk ..); exact .refl _; assumption

theorem State.applyMon_keeps (s : State) (p : List Byte) : s.Keeps (State.applyMon s p) := by
  delta State.applyMon; lift_lets -underBinder
  intro x; refine .cut (x := x) ?_ ?_; subst x; rotate_left; intro hx; clear_value x
  refine .trans ?_ (State.wr_keeps ..); refine .trans ?_ (State.wr_keeps ..); refine .trans ?_ (State.wr_keeps ..)
  assumption; refine .ite ?_ ?_; refine .trans ?_ (State.toView_keeps ..); exact .refl _; exact .refl _

theorem State.startEngines_keeps (s : State) : s.Keeps (State.startEngines s) := by
  delta State.startEngines
  refine .trans ?_ (upTo_keeps _ _ _ (fun _ => ?_)); rotate_left; beta_reduce; (try lift_lets -underBinder); intro x
  lift_lets -underBinder; intro x; clear_value x; refine .trans ?_ (State.wr_keeps ..); exact .refl _; exact .refl _

theorem State.loopHot_keeps (s : State) (old : List Byte) (kp : List Int) : s.Keeps (State.loopHot s old kp) := by
  delta State.loopHot; lift_lets -underBinder
  intro x; refine .cut (x := x) ?_ ?_; subst x; rotate_left; intro hx; clear_value x
  refine .trans ?_ (upTo_keeps _ _ _ (fun _ => ?_)); rotate_left; beta_reduce; (try lift_lets -underBinder); intro x
  refine .ite ?_ ?_; refine .trans ?_ (State.swapSlot_keeps ..); exact .refl _; lift_lets -underBinder
  intro x; clear_value x; intro x; refine .cut (x := x) ?_ ?_; subst x; rotate_left; intro hx; clear_value x
  refine .trans ?_ (State.slotRestart_keeps ..); refine .trans ?_ (State.wrW_keeps ..)
  refine .trans ?_ (State.wr_keeps ..); assumption; refine .ite ?_ ?_; refine .trans ?_ (State.wr_keeps ..)
  refine .trans ?_ (State.wr_keeps ..); exact .refl _; exact .refl _; refine .trans ?_ (State.wr_keeps ..); assumption
  refine .trans ?_ (State.setLoop_keeps ..); exact .refl _

theorem State.profHot_keeps (s : State) : s.Keeps (State.profHot s) := by
  delta State.profHot; lift_lets -underBinder; intro x; subst x; (try beta_reduce); (try lift_lets -underBinder)
  intro x; refine .cut (x := x) ?_ ?_; subst x; rotate_left; intro hx; clear_value x
  refine .trans ?_ (State.wr_keeps ..); assumption; refine .trans ?_ (State.wr_keeps ..)
  refine .trans ?_ (State.wr_keeps ..); refine .trans ?_ (State.wr_keeps ..); refine .trans ?_ (State.wr_keeps ..)
  exact .refl _

theorem State.lockBlocks_keeps (s : State) (secs : Secs) : s.Keeps (State.lockBlocks s secs) := by
  delta State.lockBlocks; lift_lets -underBinder
  intro x; refine .cut (x := x) ?_ ?_; subst x; rotate_left; intro hx; clear_value x
  refine .trans ?_ (State.wr_keeps ..); assumption
  refine .trans ?_ (.foldl (fun s x => ?_) _ _); rotate_left; (try lift_lets -underBinder)
  refine .trans ?_ (.foldl (fun s x => ?_) _ _); rotate_left; (try lift_lets -underBinder)
  refine .trans ?_ (State.wr_keeps ..); exact .refl _; exact .refl _; exact .refl _

theorem State.arbFrame_keeps (s : State) (f : List Sym) : s.Keeps (State.arbFrame s f) := by
  delta State.arbFrame; lift_lets -underBinder; intro x; clear_value x
  intro x; refine .cut (x := x) ?_ ?_; subst x; rotate_left; intro hx; clear_value x; refine .ite ?_ ?_; exact .refl _
  refine .ite ?_ ?_; refine .trans ?_ (State.takeOrder_keeps ..); refine .ite ?_ ?_
  refine .trans ?_ (State.wr_keeps ..); refine .trans ?_ (State.setRed_keeps ..); assumption; assumption
  refine .ite ?_ ?_; refine .trans ?_ (State.wr_keeps ..); refine .trans ?_ (State.setRed_keeps ..); assumption
  assumption; refine .trans ?_ (State.wr_keeps ..); refine .trans ?_ (State.setRed_keeps ..); exact .refl _

theorem State.arbiterLost_keeps (s : State) : s.Keeps (State.arbiterLost s) := by
  delta State.arbiterLost; lift_lets -underBinder; intro x; clear_value x; refine .ite ?_ ?_; exact .refl _
  refine .trans ?_ (State.raise_keeps ..); refine .trans ?_ (State.wr_keeps ..)
  refine .trans ?_ (State.setRed_keeps ..); exact .refl _

theorem State.followActive_keeps (s : State) (f : List Sym) : s.Keeps (State.followActive s f) := by
  delta State.followActive; lift_lets -underBinder
  intro x; refine .cut (x := x) ?_ ?_; subst x; rotate_left; intro hx; clear_value x; refine .ite ?_ ?_
  refine .trans ?_ (State.stepRaw_keeps ..); refine .ite ?_ ?_; refine .trans ?_ (State.wr_keeps ..); assumption
  assumption; refine .ite ?_ ?_; refine .trans ?_ (State.wr_keeps ..); assumption; assumption
  refine .trans ?_ (State.wr_keeps ..); refine .trans ?_ (State.wr_keeps ..); exact .refl _

theorem State.atArbiter_keeps (s : State) (tail : Bool) (halted : Bool) (f : List Sym) : s.Keeps (State.atArbiter s tail
    halted f) := by
  delta State.atArbiter; lift_lets -underBinder; intro x; clear_value x; intro x; clear_value x; intro x; clear_value x
  intro x; refine .cut (x := x) ?_ ?_; subst x; rotate_left; intro hx; clear_value x; refine .ite ?_ ?_; exact .refl _
  refine .trans ?_ (State.arbFence_keeps ..); refine .ite ?_ ?_; refine .trans ?_ (State.arbRequest_keeps ..)
  refine .ite ?_ ?_; refine .trans ?_ (State.setRed_keeps ..); refine .trans ?_ (State.arbJudge_keeps ..)
  refine .ite ?_ ?_; refine .trans ?_ (State.followActive_keeps ..); assumption; assumption
  refine .trans ?_ (State.arbJudge_keeps ..); refine .ite ?_ ?_; refine .trans ?_ (State.followActive_keeps ..)
  assumption; assumption; refine .ite ?_ ?_; refine .trans ?_ (State.setRed_keeps ..)
  refine .trans ?_ (State.arbJudge_keeps ..); refine .ite ?_ ?_; refine .trans ?_ (State.followActive_keeps ..)
  assumption; assumption; refine .trans ?_ (State.arbJudge_keeps ..); refine .ite ?_ ?_
  refine .trans ?_ (State.followActive_keeps ..); assumption; assumption; refine .ite ?_ ?_
  refine .trans ?_ (State.wr_keeps ..); refine .trans ?_ (State.setRed_keeps ..); exact .refl _
  refine .trans ?_ (State.wr_keeps ..); refine .trans ?_ (State.setRed_keeps ..); exact .refl _

theorem State.redRequest_keeps (s : State) : s.Keeps (State.redRequest s) := by
  delta State.redRequest; lift_lets -underBinder; intro x; clear_value x; refine .ite ?_ ?_; exact .refl _
  refine .ite ?_ ?_; refine .trans ?_ (State.arbRequest_keeps ..); exact .refl _
  refine .trans ?_ (State.setRed_keeps ..); exact .refl _

theorem State.followRun_keeps (s : State) (f : List Sym) (was : Bool) : s.Keeps (State.followRun s f was) := by
  delta State.followRun; lift_lets -underBinder; intro x; clear_value x
  intro x; refine .cut (x := x) ?_ ?_; subst x; rotate_left; intro hx; clear_value x
  refine .trans ?_ (State.observe_keeps ..); refine .ite ?_ ?_; refine .trans ?_ (State.profIdle_keeps ..)
  refine .trans ?_ (State.wrW_keeps ..); assumption; refine .trans ?_ (State.wrW_keeps ..); assumption
  refine .ite ?_ ?_; exact .refl _
  refine .trans ?_ (.foldl (fun s x => ?_) _ _); rotate_left; (try lift_lets -underBinder)
  refine .trans ?_ (State.marginCheck_keeps ..); exact .refl _; refine .trans ?_ (State.wrW_keeps ..); exact .refl _

theorem State.shadow_keeps (s : State) (f : List Sym) : s.Keeps (State.shadow s f) := by
  delta State.shadow; refine .ite ?_ ?_; exact .refl _; split; refine .trans ?_ (State.setRed_keeps ..)
  refine .trans ?_ (State.cnt_keeps ..)
  refine .trans ?_ (.of_foldl_snd (fun b x => ?_) (by assumption)); rotate_left; beta_reduce; (try lift_lets -underBinder)
  split
  dsimp only; refine .trans ?_ (State.free_out (by assumption)); exact .refl _; dsimp only; exact .refl _

theorem State.mateFrame_keeps (s : State) (f : List Sym) (same : Bool) : s.Keeps (State.mateFrame s f same) := by
  delta State.mateFrame; lift_lets -underBinder; intro x; clear_value x; intro x; clear_value x; intro x; clear_value x
  intro x; clear_value x; intro x; refine .cut (x := x) ?_ ?_; subst x; rotate_left; intro hx; clear_value x
  refine .ite ?_ ?_; exact .refl _; refine .trans ?_ (State.fitFollow_keeps ..)
  refine .trans ?_ (State.shadow_keeps ..); refine .ite ?_ ?_; refine .trans ?_ (State.takeOrder_keeps ..)
  refine .ite ?_ ?_; refine .trans ?_ (State.followRun_keeps ..); refine .trans ?_ (State.followActive_keeps ..)
  refine .ite ?_ ?_; refine .trans ?_ (State.fence_keeps ..); refine .ite ?_ ?_; refine .trans ?_ (State.raise_keeps ..)
  refine .trans ?_ (State.wr_keeps ..); refine .trans ?_ (State.wr_keeps ..); refine .trans ?_ (State.wr_keeps ..)
  assumption; refine .trans ?_ (State.wr_keeps ..); refine .trans ?_ (State.wr_keeps ..)
  refine .trans ?_ (State.wr_keeps ..); assumption; refine .ite ?_ ?_; refine .trans ?_ (State.raise_keeps ..)
  refine .trans ?_ (State.wr_keeps ..); refine .trans ?_ (State.wr_keeps ..); refine .trans ?_ (State.wr_keeps ..)
  assumption; refine .trans ?_ (State.wr_keeps ..); refine .trans ?_ (State.wr_keeps ..)
  refine .trans ?_ (State.wr_keeps ..); assumption; refine .ite ?_ ?_; refine .trans ?_ (State.fence_keeps ..)
  refine .ite ?_ ?_; refine .trans ?_ (State.raise_keeps ..); refine .trans ?_ (State.wr_keeps ..)
  refine .trans ?_ (State.wr_keeps ..); refine .trans ?_ (State.wr_keeps ..); assumption
  refine .trans ?_ (State.wr_keeps ..); refine .trans ?_ (State.wr_keeps ..); refine .trans ?_ (State.wr_keeps ..)
  assumption; refine .ite ?_ ?_; refine .trans ?_ (State.raise_keeps ..); refine .trans ?_ (State.wr_keeps ..)
  refine .trans ?_ (State.wr_keeps ..); refine .trans ?_ (State.wr_keeps ..); assumption
  refine .trans ?_ (State.wr_keeps ..); refine .trans ?_ (State.wr_keeps ..); refine .trans ?_ (State.wr_keeps ..)
  assumption; refine .ite ?_ ?_; refine .trans ?_ (State.followRun_keeps ..)
  refine .trans ?_ (State.followActive_keeps ..); refine .ite ?_ ?_; refine .trans ?_ (State.fence_keeps ..)
  refine .ite ?_ ?_; refine .trans ?_ (State.raise_keeps ..); refine .trans ?_ (State.wr_keeps ..)
  refine .trans ?_ (State.wr_keeps ..); refine .trans ?_ (State.wr_keeps ..); assumption
  refine .trans ?_ (State.wr_keeps ..); refine .trans ?_ (State.wr_keeps ..); refine .trans ?_ (State.wr_keeps ..)
  assumption; refine .ite ?_ ?_; refine .trans ?_ (State.raise_keeps ..); refine .trans ?_ (State.wr_keeps ..)
  refine .trans ?_ (State.wr_keeps ..); refine .trans ?_ (State.wr_keeps ..); assumption
  refine .trans ?_ (State.wr_keeps ..); refine .trans ?_ (State.wr_keeps ..); refine .trans ?_ (State.wr_keeps ..)
  assumption; refine .ite ?_ ?_; refine .trans ?_ (State.fence_keeps ..); refine .ite ?_ ?_
  refine .trans ?_ (State.raise_keeps ..); refine .trans ?_ (State.wr_keeps ..); refine .trans ?_ (State.wr_keeps ..)
  refine .trans ?_ (State.wr_keeps ..); assumption; refine .trans ?_ (State.wr_keeps ..)
  refine .trans ?_ (State.wr_keeps ..); refine .trans ?_ (State.wr_keeps ..); assumption; refine .ite ?_ ?_
  refine .trans ?_ (State.raise_keeps ..); refine .trans ?_ (State.wr_keeps ..); refine .trans ?_ (State.wr_keeps ..)
  refine .trans ?_ (State.wr_keeps ..); assumption; refine .trans ?_ (State.wr_keeps ..)
  refine .trans ?_ (State.wr_keeps ..); refine .trans ?_ (State.wr_keeps ..); assumption
  refine .trans ?_ (State.wr_keeps ..); refine .trans ?_ (State.setRed_keeps ..); exact .refl _

theorem State.partnerTime_keeps (s : State) (n : Nat) (ls : List Nat) (f : List Sym) (arr : Nat) : s.Keeps
    (State.partnerTime s n ls f arr) := by
  delta State.partnerTime; lift_lets -underBinder; intro x; clear_value x; refine .ite ?_ ?_; exact .refl _; split
  refine .trans ?_ (State.timeSample_keeps ..); refine .trans ?_ (State.setTim_keeps ..); exact .refl _; exact .refl _

theorem State.sideLost_keeps (s : State) (tail : Bool) : s.Keeps (State.sideLost s tail) := by
  delta State.sideLost; lift_lets -underBinder; intro x; clear_value x
  intro x; refine .cut (x := x) ?_ ?_; subst x; rotate_left; intro hx; clear_value x; refine .ite ?_ ?_; exact .refl _
  refine .trans ?_ (State.raise_keeps ..); refine .ite ?_ ?_; refine .trans ?_ (State.holdover_keeps ..); assumption
  assumption; refine .trans ?_ (State.setRed_keeps ..); exact .refl _

theorem State.takeCopy_keeps (s : State) (x : CopyRec) : s.Keeps (State.takeCopy s x) := by
  delta State.takeCopy; lift_lets -underBinder; intro x; clear_value x; intro x; clear_value x; intro x; clear_value x
  intro x; clear_value x; intro x; clear_value x
  intro x; refine .cut (x := x) ?_ ?_; subst x; rotate_left; intro hx; clear_value x; refine .ite ?_ ?_
  refine .trans ?_ (State.setRec_keeps ..); assumption
  refine .trans ?_ (.foldl (fun s x => ?_) _ _); rotate_left; (try lift_lets -underBinder); intro x; clear_value x
  refine .ite ?_ ?_; refine .trans ?_ (State.setRec_keeps ..); exact .refl _; exact .refl _
  refine .trans ?_ (State.wrW_keeps ..); refine .trans ?_ (State.wrW_keeps ..); exact .refl _
  refine .trans ?_ (State.setArm_keeps ..); refine .trans ?_ (State.wrS_keeps ..); exact .refl _

theorem execArbiterLost_answers (s : State) : s.Answers (execArbiterLost s) := by
  delta execArbiterLost; refine .ite ?_ ?_; refine .next ?_; refine .trans ?_ (State.arbiterLost_keeps ..)
  exact .refl _; refine .next ?_; exact .refl _

theorem execCopyFrame_answers (n : Nat) (ok : Bool) (recs : List CopyRec) (s : State) : s.Answers (execCopyFrame n ok recs
    s) := by
  delta execCopyFrame; lift_lets -underBinder; intro x; clear_value x; intro x; clear_value x
  intro x; refine .cut (x := x) ?_ ?_; subst x; rotate_left; intro hx; clear_value x; refine .ite ?_ ?_; refine .next ?_
  exact .refl _; refine .ite ?_ ?_; refine .next ?_; assumption; refine .ite ?_ ?_; refine .next ?_
  refine .trans ?_ (State.fitFollow_keeps ..); refine .trans ?_ (State.resortStart_keeps ..)
  refine .trans ?_ (State.wr_keeps ..); refine .trans ?_ (State.setRed_keeps ..); refine .trans ?_ (State.wr_keeps ..)
  refine .trans ?_ (State.setRed_keeps ..)
  refine .trans ?_ (.foldl (fun s x => ?_) _ _); rotate_left; (try lift_lets -underBinder)
  refine .trans ?_ (State.takeCopy_keeps ..); exact .refl _; refine .next ?_; refine .trans ?_ (State.wr_keeps ..)
  refine .trans ?_ (State.setRed_keeps ..)
  refine .trans ?_ (.foldl (fun s x => ?_) _ _); rotate_left; (try lift_lets -underBinder)
  refine .trans ?_ (State.takeCopy_keeps ..); exact .refl _; refine .trans ?_ (State.wr_keeps ..)
  refine .trans ?_ (State.setRed_keeps ..); exact .refl _; exact .refl _; exact .refl _

theorem execFence_answers (gen : Nat) (s : State) : s.Answers (execFence gen s) := by
  delta execFence; refine .next ?_; refine .trans ?_ (State.fence_keeps ..); exact .refl _

theorem execPartnerFrame_answers (n : Nat) (ss : List Sym) (back : Nat) (halted : Bool) (same : Bool) (s : State) :
    s.Answers (execPartnerFrame n ss back halted same s) := by
  delta execPartnerFrame; refine .ite ?_ ?_; refine .next ?_; exact .refl _; split; refine .ite ?_ ?_; refine .next ?_
  refine .trans ?_ (State.laneTake_out (by assumption)); exact .refl _; lift_lets -underBinder; intro x; clear_value x
  intro x; refine .cut (x := x) ?_ ?_; subst x; rotate_left; intro hx; clear_value x; refine .ite ?_ ?_; refine .next ?_
  refine .trans ?_ (State.partnerTime_keeps ..); refine .trans ?_ (State.mateFrame_keeps ..); assumption
  refine .ite ?_ ?_; refine .next ?_; refine .trans ?_ (State.partnerTime_keeps ..)
  refine .trans ?_ (State.atArbiter_keeps ..); assumption; refine .next ?_; refine .trans ?_ (State.arbFrame_keeps ..)
  assumption; refine .trans ?_ (State.noteHeard_keeps ..); refine .trans ?_ (State.laneTake_out (by assumption))
  exact .refl _

theorem execPartnerLost_answers (tail : Bool) (s : State) : s.Answers (execPartnerLost tail s) := by
  delta execPartnerLost; lift_lets -underBinder; intro x; clear_value x
  intro x; refine .cut (x := x) ?_ ?_; subst x; rotate_left; intro hx; clear_value x; refine .ite ?_ ?_; refine .next ?_
  exact .refl _; refine .ite ?_ ?_; refine .ite ?_ ?_; refine .next ?_; refine .trans ?_ (State.arbJudge_keeps ..)
  refine .trans ?_ (State.sideLost_keeps ..); exact .refl _; refine .next ?_; exact .refl _; refine .ite ?_ ?_
  refine .next ?_; refine .ite ?_ ?_; refine .trans ?_ (State.holdover_keeps ..); assumption; assumption
  refine .next ?_; exact .refl _; refine .trans ?_ (State.raise_keeps ..); refine .trans ?_ (State.setRed_keeps ..)
  exact .refl _

theorem execPeerAliveResume_answers (i : Nat) (s : State) : s.Answers (execPeerAliveResume i s) := by
  delta execPeerAliveResume; lift_lets -underBinder
  intro x; refine .cut (x := x) ?_ ?_; subst x; rotate_left; intro hx; clear_value x; refine .ite ?_ ?_; refine .next ?_
  exact .refl _; refine .ite ?_ ?_; refine .next ?_; refine .trans ?_ (State.wr_keeps ..)
  refine .trans ?_ (State.setRed_keeps ..); assumption; refine .next ?_; assumption
  refine .trans ?_ (State.wr_keeps ..); exact .refl _

theorem execPeerAliveStop_answers (i : Nat) (s : State) : s.Answers (execPeerAliveStop i s) := by
  delta execPeerAliveStop; lift_lets -underBinder
  intro x; refine .cut (x := x) ?_ ?_; subst x; rotate_left; intro hx; clear_value x; refine .ite ?_ ?_; refine .next ?_
  exact .refl _; refine .ite ?_ ?_; refine .next ?_; refine .trans ?_ (State.arbJudge_keeps ..)
  refine .trans ?_ (State.sideLost_keeps ..); assumption; refine .ite ?_ ?_; refine .next ?_
  refine .trans ?_ (State.arbiterLost_keeps ..); assumption; refine .next ?_; assumption
  refine .trans ?_ (State.wr_keeps ..); exact .refl _

theorem execProfileFrame_answers (ok : Bool) (f : ProfFrame) (s : State) : s.Answers (execProfileFrame ok f s) := by
  delta execProfileFrame; refine .ite ?_ ?_; refine .next ?_; refine .trans ?_ (State.takeProfFrame_keeps ..)
  exact .refl _; refine .next ?_; exact .refl _

theorem execRelayFrame_answers (n : Nat) (ss : List Sym) (s : State) : s.Answers (execRelayFrame n ss s) := by
  delta execRelayFrame; refine .ite ?_ ?_; refine .next ?_; exact .refl _; split; lift_lets -underBinder
  intro x; clear_value x; intro x; clear_value x; intro x; clear_value x; intro x; clear_value x; intro x; clear_value x
  intro x; clear_value x; intro x; clear_value x; refine .ite ?_ ?_; refine .next ?_
  refine .trans ?_ (State.laneTake_out (by assumption)); exact .refl _; refine .next ?_
  refine .trans ?_ (State.setRed_keeps ..); refine .trans ?_ (State.laneTake_out (by assumption)); exact .refl _

theorem execRelayedFlashOrder_answers (ss : List Sym) (s : State) : s.Answers (execRelayedFlashOrder ss s) := by
  delta execRelayedFlashOrder; refine .ite ?_ ?_; refine .next ?_; exact .refl _; split; split; refine .next ?_
  exact .refl _; lift_lets -underBinder; intro x; clear_value x; intro x; clear_value x; intro x; clear_value x
  intro x; refine .cut (x := x) ?_ ?_; subst x; rotate_left; intro hx; clear_value x; refine .next ?_; split
  refine .ite ?_ ?_; assumption; refine .trans ?_ (State.followFlash_keeps ..); assumption; assumption; refine .next ?_
  exact .refl _; refine .trans ?_ (.foldl (fun s x => ?_) _ _); rotate_left; (try lift_lets -underBinder)
  refine .trans ?_ (State.needFlash_keeps ..); exact .refl _; exact .refl _

theorem execRequest_answers (s : State) : s.Answers (execRequest s) := by
  delta execRequest; refine .next ?_; refine .trans ?_ (State.redRequest_keeps ..); exact .refl _

theorem execShadowWindowEnd_answers (s : State) : s.Answers (execShadowWindowEnd s) := by
  delta execShadowWindowEnd; lift_lets -underBinder; intro x; clear_value x; intro x; clear_value x
  intro x; refine .cut (x := x) ?_ ?_; subst x; rotate_left; intro hx; clear_value x; refine .ite ?_ ?_; refine .next ?_
  exact .refl _; refine .next ?_; refine .trans ?_ (State.fitFollow_keeps ..); refine .ite ?_ ?_
  refine .trans ?_ (State.raise_keeps ..); assumption; assumption; refine .trans ?_ (State.setRed_keeps ..)
  exact .refl _

theorem execStandbySettled_answers (s : State) : s.Answers (execStandbySettled s) := by
  delta execStandbySettled; lift_lets -underBinder; intro x; clear_value x; refine .ite ?_ ?_; refine .next ?_
  refine .trans ?_ (State.fitFollow_keeps ..); refine .trans ?_ (State.setRed_keeps ..); exact .refl _; refine .next ?_
  exact .refl _

theorem execTake_answers (gen : Nat) (k : Nat) (s : State) : s.Answers (execTake gen k s) := by
  delta execTake; refine .ite ?_ ?_; refine .next ?_; refine .trans ?_ (State.takeOrder_keeps ..); exact .refl _
  refine .next ?_; exact .refl _

theorem execTakeoverCycle_answers (s : State) : s.Answers (execTakeoverCycle s) := by
  delta execTakeoverCycle; refine .ite ?_ ?_; refine .next ?_; refine .trans ?_ (State.takeover_keeps ..); exact .refl _
  refine .next ?_; exact .refl _

theorem execWitnessTakeover_answers (s : State) : s.Answers (execWitnessTakeover s) := by
  delta execWitnessTakeover; lift_lets -underBinder; intro x; clear_value x; intro x; clear_value x; refine .ite ?_ ?_
  refine .next ?_; refine .trans ?_ (State.hotDrop_keeps ..); refine .trans ?_ (State.wr_keeps ..)
  refine .trans ?_ (State.setRed_keeps ..); exact .refl _; refine .next ?_; exact .refl _

theorem execYield_answers (gen : Nat) (k : Nat) (s : State) : s.Answers (execYield gen k s) := by
  delta execYield; refine .ite ?_ ?_; refine .next ?_; refine .trans ?_ (State.takeOrder_keeps ..); exact .refl _
  refine .next ?_; exact .refl _

theorem State.setChart_keeps (s : State) (c : Chart) : s.Keeps (State.setChart s c) := by
  delta State.setChart; refine .trans ?_ (.of_mk ..); exact .refl _

theorem State.loadReq_keeps (s : State) (p : Port) : s.Keeps (State.loadReq s p) := by
  delta State.loadReq; lift_lets -underBinder; intro x; clear_value x; refine .ite ?_ ?_
  refine .trans ?_ (State.range_keeps ..); exact .refl _; refine .trans ?_ (State.irqUpdate_keeps ..)
  refine .trans ?_ (State.wr_keeps ..); refine .trans ?_ (State.setChart_keeps ..); exact .refl _

theorem State.hotReq_keeps (s : State) (p : Port) : s.Keeps (State.hotReq s p) := by
  delta State.hotReq; lift_lets -underBinder; intro x; clear_value x; refine .ite ?_ ?_
  refine .trans ?_ (State.wr_keeps ..); exact .refl _; refine .ite ?_ ?_; refine .trans ?_ (State.range_keeps ..)
  exact .refl _; refine .trans ?_ (State.wr_keeps ..); refine .trans ?_ (State.setChart_keeps ..); exact .refl _

theorem execHotAbort_answers (s : State) : s.Answers (execHotAbort s) := by
  delta execHotAbort; refine .next ?_; refine .trans ?_ (State.hotDrop_keeps ..); exact .refl _

theorem State.lanesSeek_keeps (s : State) : s.Keeps (State.lanesSeek s) := by
  delta State.lanesSeek; refine .ite ?_ ?_; exact .refl _
  refine .trans ?_ (upTo_keeps _ _ _ (fun _ => ?_)); rotate_left; beta_reduce; (try lift_lets -underBinder); intro x
  refine .ite ?_ ?_; refine .trans ?_ (State.wr_keeps ..); exact .refl _; exact .refl _; exact .refl _

theorem State.enterRun_keeps (s : State) (role : Nat) (returning : Bool) : s.Keeps (State.enterRun s role returning) := by
  delta State.enterRun; lift_lets -underBinder
  intro x; refine .cut (x := x) ?_ ?_; subst x; rotate_left; intro hx; clear_value x
  refine .trans ?_ (State.irqUpdate_keeps ..); refine .trans ?_ (State.observe_keeps ..); refine .ite ?_ ?_
  refine .trans ?_ (State.recEnter_keeps ..); refine .trans ?_ (State.wr_keeps ..); refine .trans ?_ (.of_mk ..)
  refine .trans ?_ (State.setTim_keeps ..); refine .trans ?_ (State.selectSource_keeps ..)
  refine .trans ?_ (State.lanesSeek_keeps ..); refine .ite ?_ ?_; refine .trans ?_ (State.profBuild_keeps ..)
  refine .trans ?_ (State.loopBuild_keeps ..); refine .ite ?_ ?_; refine .trans ?_ (State.enterStandby_keeps ..)
  refine .trans ?_ (State.setRed_keeps ..); assumption; refine .trans ?_ (State.setRed_keeps ..); assumption
  refine .trans ?_ (State.applyMon_keeps ..); refine .trans ?_ (State.profBuild_keeps ..)
  refine .trans ?_ (State.loopBuild_keeps ..); refine .ite ?_ ?_; refine .trans ?_ (State.enterStandby_keeps ..)
  refine .trans ?_ (State.setRed_keeps ..); assumption; refine .trans ?_ (State.setRed_keeps ..); assumption
  refine .trans ?_ (State.wr_keeps ..); refine .trans ?_ (.of_mk ..); refine .trans ?_ (State.setTim_keeps ..)
  refine .trans ?_ (State.selectSource_keeps ..); refine .trans ?_ (State.lanesSeek_keeps ..); refine .ite ?_ ?_
  refine .trans ?_ (State.profBuild_keeps ..); refine .trans ?_ (State.loopBuild_keeps ..); refine .ite ?_ ?_
  refine .trans ?_ (State.enterStandby_keeps ..); refine .trans ?_ (State.setRed_keeps ..); assumption
  refine .trans ?_ (State.setRed_keeps ..); assumption; refine .trans ?_ (State.applyMon_keeps ..)
  refine .trans ?_ (State.profBuild_keeps ..); refine .trans ?_ (State.loopBuild_keeps ..); refine .ite ?_ ?_
  refine .trans ?_ (State.enterStandby_keeps ..); refine .trans ?_ (State.setRed_keeps ..); assumption
  refine .trans ?_ (State.setRed_keeps ..); assumption; refine .trans ?_ (State.startEngines_keeps ..)
  refine .trans ?_ (State.wr_keeps ..); refine .trans ?_ (State.wr_keeps ..); refine .trans ?_ (State.wr_keeps ..)
  exact .refl _

theorem State.hotTake_keeps (s : State) (img : List Byte) : s.Keeps (State.hotTake s img) := by
  delta State.hotTake; lift_lets -underBinder; intro x; clear_value x; intro x; clear_value x; intro x; clear_value x
  intro x; clear_value x; intro x; clear_value x
  intro x; refine .cut (x := x) ?_ ?_; subst x; rotate_left; intro hx; clear_value x
  refine .trans ?_ (State.wr_keeps ..); refine .trans ?_ (State.wr_keeps ..)
  refine .trans ?_ (State.netEntries_keeps ..); refine .ite ?_ ?_; refine .trans ?_ (State.loopHot_keeps ..)
  refine .trans ?_ (State.resortStart_keeps ..)
  refine .trans ?_ (.foldl (fun s x => ?_) _ _); rotate_left; (try lift_lets -underBinder); intro x; clear_value x
  refine .ite ?_ ?_; refine .trans ?_ (State.applyReef_keeps ..); exact .refl _; refine .ite ?_ ?_
  refine .trans ?_ (State.applyLoop_keeps ..); exact .refl _; exact .refl _; refine .ite ?_ ?_
  refine .trans ?_ (State.profBuild_keeps ..); refine .trans ?_ (State.loopHot_keeps ..)
  refine .trans ?_ (State.resortStart_keeps ..)
  refine .trans ?_ (.foldl (fun s x => ?_) _ _); rotate_left; (try lift_lets -underBinder); intro x; clear_value x
  refine .ite ?_ ?_; refine .trans ?_ (State.applyReef_keeps ..); exact .refl _; refine .ite ?_ ?_
  refine .trans ?_ (State.applyLoop_keeps ..); exact .refl _; exact .refl _; refine .trans ?_ (State.profHot_keeps ..)
  refine .trans ?_ (State.loopHot_keeps ..); refine .trans ?_ (State.resortStart_keeps ..)
  refine .trans ?_ (.foldl (fun s x => ?_) _ _); rotate_left; (try lift_lets -underBinder); intro x; clear_value x
  refine .ite ?_ ?_; refine .trans ?_ (State.applyReef_keeps ..); exact .refl _; refine .ite ?_ ?_
  refine .trans ?_ (State.applyLoop_keeps ..); exact .refl _; exact .refl _; refine .trans ?_ (State.setChart_keeps ..)
  exact .refl _; assumption; assumption; assumption

theorem State.loadFailed_keeps (s : State) (cause : Nat) (idx : Nat) : s.Keeps (State.loadFailed s cause idx) := by
  delta State.loadFailed; lift_lets -underBinder; intro x; clear_value x
  intro x; refine .cut (x := x) ?_ ?_; subst x; rotate_left; intro hx; clear_value x; refine .ite ?_ ?_
  refine .trans ?_ (State.wr_keeps ..); refine .trans ?_ (State.setChart_keeps ..); refine .trans ?_ (State.wr_keeps ..)
  refine .trans ?_ (State.wr_keeps ..); assumption; refine .trans ?_ (State.enterFailed_keeps ..); assumption
  refine .trans ?_ (State.setChart_keeps ..); exact .refl _

theorem execChartBuild_answers (mateActive : Bool) (s : State) : s.Answers (execChartBuild mateActive s) := by
  delta execChartBuild; lift_lets -underBinder; intro x; clear_value x; intro x; clear_value x; intro x; clear_value x
  intro x; refine .cut (x := x) ?_ ?_; subst x; rotate_left; intro hx; clear_value x; refine .ite ?_ ?_; refine .next ?_
  exact .refl _; split; refine .ite ?_ ?_; refine .next ?_; refine .trans ?_ (State.enterFailed_keeps ..)
  refine .of_ite_fst ?_ ?_ (by assumption); dsimp only; refine .ite ?_ ?_; refine .trans ?_ (State.raise_keeps ..)
  refine .trans ?_ (State.wr_keeps ..); refine .trans ?_ (State.lockBlocks_keeps ..)
  refine .trans ?_ (State.wr_keeps ..); refine .trans ?_ (State.wr_keeps ..); refine .trans ?_ (State.wr_keeps ..)
  refine .trans ?_ (State.wr_keeps ..); refine .trans ?_ (State.setChart_keeps ..); assumption
  refine .trans ?_ (State.wr_keeps ..); refine .trans ?_ (State.lockBlocks_keeps ..)
  refine .trans ?_ (State.wr_keeps ..); refine .trans ?_ (State.wr_keeps ..); refine .trans ?_ (State.wr_keeps ..)
  refine .trans ?_ (State.wr_keeps ..); refine .trans ?_ (State.setChart_keeps ..); assumption
  refine .trans ?_ (State.safetyHandover_keeps ..); refine .ite ?_ ?_; refine .trans ?_ (State.raise_keeps ..)
  refine .trans ?_ (State.wr_keeps ..); refine .trans ?_ (State.lockBlocks_keeps ..)
  refine .trans ?_ (State.wr_keeps ..); refine .trans ?_ (State.wr_keeps ..); refine .trans ?_ (State.wr_keeps ..)
  refine .trans ?_ (State.wr_keeps ..); refine .trans ?_ (State.setChart_keeps ..); assumption
  refine .trans ?_ (State.wr_keeps ..); refine .trans ?_ (State.lockBlocks_keeps ..)
  refine .trans ?_ (State.wr_keeps ..); refine .trans ?_ (State.wr_keeps ..); refine .trans ?_ (State.wr_keeps ..)
  refine .trans ?_ (State.wr_keeps ..); refine .trans ?_ (State.setChart_keeps ..); assumption; lift_lets -underBinder
  intro x; refine .cut (x := x) ?_ ?_; subst x; rotate_left; intro hx; clear_value x; refine .ite ?_ ?_; refine .next ?_
  refine .trans ?_ (State.enterFailed_keeps ..); assumption; refine .next ?_; refine .trans ?_ (State.enterRun_keeps ..)
  assumption; refine .trans ?_ (State.applyAll_keeps ..); exact .refl _; refine .ite ?_ ?_
  refine .of_ite_fst ?_ ?_ (by assumption); dsimp only; refine .ite ?_ ?_; refine .trans ?_ (State.raise_keeps ..)
  refine .trans ?_ (State.wr_keeps ..); refine .trans ?_ (State.lockBlocks_keeps ..)
  refine .trans ?_ (State.wr_keeps ..); refine .trans ?_ (State.wr_keeps ..); refine .trans ?_ (State.wr_keeps ..)
  refine .trans ?_ (State.wr_keeps ..); refine .trans ?_ (State.setChart_keeps ..); assumption
  refine .trans ?_ (State.wr_keeps ..); refine .trans ?_ (State.lockBlocks_keeps ..)
  refine .trans ?_ (State.wr_keeps ..); refine .trans ?_ (State.wr_keeps ..); refine .trans ?_ (State.wr_keeps ..)
  refine .trans ?_ (State.wr_keeps ..); refine .trans ?_ (State.setChart_keeps ..); assumption
  refine .trans ?_ (State.safetyHandover_keeps ..); refine .ite ?_ ?_; refine .trans ?_ (State.raise_keeps ..)
  refine .trans ?_ (State.wr_keeps ..); refine .trans ?_ (State.lockBlocks_keeps ..)
  refine .trans ?_ (State.wr_keeps ..); refine .trans ?_ (State.wr_keeps ..); refine .trans ?_ (State.wr_keeps ..)
  refine .trans ?_ (State.wr_keeps ..); refine .trans ?_ (State.setChart_keeps ..); assumption
  refine .trans ?_ (State.wr_keeps ..); refine .trans ?_ (State.lockBlocks_keeps ..)
  refine .trans ?_ (State.wr_keeps ..); refine .trans ?_ (State.wr_keeps ..); refine .trans ?_ (State.wr_keeps ..)
  refine .trans ?_ (State.wr_keeps ..); refine .trans ?_ (State.setChart_keeps ..); assumption
  refine .trans ?_ (State.wr_keeps ..); refine .of_ite_fst ?_ ?_ (by assumption); dsimp only; refine .ite ?_ ?_
  refine .trans ?_ (State.raise_keeps ..); refine .trans ?_ (State.wr_keeps ..)
  refine .trans ?_ (State.lockBlocks_keeps ..); refine .trans ?_ (State.wr_keeps ..)
  refine .trans ?_ (State.wr_keeps ..); refine .trans ?_ (State.wr_keeps ..); refine .trans ?_ (State.wr_keeps ..)
  refine .trans ?_ (State.setChart_keeps ..); assumption; refine .trans ?_ (State.wr_keeps ..)
  refine .trans ?_ (State.lockBlocks_keeps ..); refine .trans ?_ (State.wr_keeps ..)
  refine .trans ?_ (State.wr_keeps ..); refine .trans ?_ (State.wr_keeps ..); refine .trans ?_ (State.wr_keeps ..)
  refine .trans ?_ (State.setChart_keeps ..); assumption; refine .trans ?_ (State.safetyHandover_keeps ..)
  refine .ite ?_ ?_; refine .trans ?_ (State.raise_keeps ..); refine .trans ?_ (State.wr_keeps ..)
  refine .trans ?_ (State.lockBlocks_keeps ..); refine .trans ?_ (State.wr_keeps ..)
  refine .trans ?_ (State.wr_keeps ..); refine .trans ?_ (State.wr_keeps ..); refine .trans ?_ (State.wr_keeps ..)
  refine .trans ?_ (State.setChart_keeps ..); assumption; refine .trans ?_ (State.wr_keeps ..)
  refine .trans ?_ (State.lockBlocks_keeps ..); refine .trans ?_ (State.wr_keeps ..)
  refine .trans ?_ (State.wr_keeps ..); refine .trans ?_ (State.wr_keeps ..); refine .trans ?_ (State.wr_keeps ..)
  refine .trans ?_ (State.setChart_keeps ..); assumption

theorem execChartCheck_answers (s : State) : s.Answers (execChartCheck s) := by
  delta execChartCheck; refine .ite ?_ ?_; refine .next ?_; exact .refl _; split; refine .next ?_
  refine .trans ?_ (State.loadFailed_keeps ..); exact .refl _; refine .next ?_; refine .trans ?_ (State.wr_keeps ..)
  exact .refl _

theorem execChartFetch_answers (data : Option (List Byte)) (s : State) : s.Answers (execChartFetch data s) := by
  delta execChartFetch; refine .ite ?_ ?_; refine .next ?_; exact .refl _; split; refine .next ?_
  refine .trans ?_ (State.loadFailed_keeps ..); exact .refl _; refine .next ?_; refine .trans ?_ (State.wr_keeps ..)
  refine .trans ?_ (State.setChart_keeps ..); exact .refl _

theorem execChartVerify_answers (s : State) : s.Answers (execChartVerify s) := by
  delta execChartVerify; refine .ite ?_ ?_; refine .next ?_; exact .refl _; split; refine .next ?_
  refine .trans ?_ (State.loadFailed_keeps ..); exact .refl _; refine .next ?_; refine .trans ?_ (State.wr_keeps ..)
  exact .refl _

theorem execHotApply_answers (s : State) : s.Answers (execHotApply s) := by
  delta execHotApply; lift_lets -underBinder
  intro x; refine .cut (x := x) ?_ ?_; subst x; rotate_left; intro hx; clear_value x; refine .ite ?_ ?_; refine .next ?_
  refine .trans ?_ (State.wr_keeps ..); refine .trans ?_ (State.wr_keeps ..); refine .trans ?_ (State.setRed_keeps ..)
  refine .trans ?_ (State.setChart_keeps ..); assumption; refine .next ?_; exact .refl _
  refine .trans ?_ (State.hotTake_keeps ..); exact .refl _

theorem execHotCheck_answers (s : State) : s.Answers (execHotCheck s) := by
  delta execHotCheck; lift_lets -underBinder; intro x; subst x; (try beta_reduce); (try lift_lets -underBinder)
  refine .ite ?_ ?_; refine .next ?_; exact .refl _; split; refine .next ?_; refine .trans ?_ (State.wr_keeps ..)
  refine .trans ?_ (State.hotDrop_keeps ..); exact .refl _; split; refine .next ?_; refine .trans ?_ (State.wr_keeps ..)
  refine .trans ?_ (State.hotDrop_keeps ..); exact .refl _; split; refine .next ?_; refine .trans ?_ (State.wr_keeps ..)
  refine .trans ?_ (State.hotDrop_keeps ..); exact .refl _; split; refine .next ?_; refine .trans ?_ (State.wr_keeps ..)
  refine .trans ?_ (State.hotDrop_keeps ..); exact .refl _; refine .next ?_; refine .trans ?_ (State.setChart_keeps ..)
  exact .refl _

theorem execHotLoad_answers (p : Port) (s : State) : s.Answers (execHotLoad p s) := by
  delta execHotLoad; refine .next ?_; refine .trans ?_ (State.hotReq_keeps ..); exact .refl _

theorem execLoad_answers (p : Port) (s : State) : s.Answers (execLoad p s) := by
  delta execLoad; refine .next ?_; refine .trans ?_ (State.loadReq_keeps ..); exact .refl _

theorem State.writeFrRing_keeps (s : State) (p : Port) (a : Nat) (v : Nat) : s.Keeps (State.writeFrRing s p a v) := by
  delta State.writeFrRing; refine .ite ?_ ?_; refine .trans ?_ (State.range_keeps ..); exact .refl _; refine .ite ?_ ?_
  refine .trans ?_ (State.wr_keeps ..); exact .refl _; refine .trans ?_ (State.wr_keeps ..); exact .refl _

theorem State.frBusy_keeps (s : State) : s.Keeps (State.frBusy s) := by
  delta State.frBusy; refine .trans ?_ (State.wr_keeps ..); exact .refl _

theorem State.writeFrHead_keeps (s : State) (p : Port) (h : Nat) : s.Keeps (State.writeFrHead s p h) := by
  delta State.writeFrHead; lift_lets -underBinder; intro x; clear_value x; intro x; clear_value x
  intro x; clear_value x; refine .ite ?_ ?_; refine .trans ?_ (State.frBusy_keeps ..)
  refine .trans ?_ (State.wr_keeps ..); exact .refl _; refine .trans ?_ (State.range_keeps ..); exact .refl _

theorem State.tailGo_keeps (x0 : Nat) (x1 : State) : x1.Keeps (State.tailGo x0 x1) := by
  induction x0 generalizing x1 with
  | zero => exact .refl _
  | succ k ih => exact .ite ((State.wr_keeps ..).trans (ih _)) (.refl _)

theorem State.tailMove_keeps (s : State) : s.Keeps (State.tailMove s) := by
  delta State.tailMove; refine .trans ?_ (State.frBusy_keeps ..); refine .trans ?_ (State.tailGo_keeps ..)
  exact .refl _

theorem State.descPut_keeps (s : State) (i : Nat) (o : Nat) (v : Nat) : s.Keeps (State.descPut s i o v) := by
  delta State.descPut; refine .ite ?_ ?_; refine .trans ?_ (State.setByte_keeps ..); exact .refl _; exact .refl _

theorem State.descDone_keeps (s : State) (i : Nat) (rsp : Nat) : s.Keeps (State.descDone s i rsp) := by
  delta State.descDone; refine .trans ?_ (State.fireRoute_keeps ..); refine .trans ?_ (State.tailMove_keeps ..)
  refine .trans ?_ (State.incW_keeps ..); refine .trans ?_ (State.descPut_keeps ..)
  refine .trans ?_ (State.descPut_keeps ..); exact .refl _

theorem State.descFail_keeps (s : State) (i : Nat) (rsp : Nat) : s.Keeps (State.descFail s i rsp) := by
  delta State.descFail; refine .trans ?_ (State.fireRoute_keeps ..); refine .trans ?_ (State.tailMove_keeps ..)
  refine .trans ?_ (State.wr_keeps ..); refine .trans ?_ (State.descPut_keeps ..)
  refine .trans ?_ (State.descPut_keeps ..); exact .refl _

theorem State.setJob_keeps (s : State) (c : Nat) (j : Option FrJob) : s.Keeps (State.setJob s c j) := by
  delta State.setJob; lift_lets -underBinder; intro x; clear_value x; refine .trans ?_ (State.setWay_keeps ..)
  exact .refl _

theorem State.issue_keeps (s : State) (j : FrJob) : s.Keeps (State.issue s j) := by
  delta State.issue; lift_lets -underBinder; intro x; clear_value x
  intro x; refine .cut (x := x) ?_ ?_; subst x; rotate_left; intro hx; clear_value x
  refine .trans ?_ (.foldl (fun s x => ?_) _ _); rotate_left; (try lift_lets -underBinder)
  refine .trans ?_ (State.setJob_keeps ..); exact .refl _; refine .ite ?_ ?_
  refine .trans ?_ (State.needSingle_keeps ..); exact .refl _; exact .refl _; assumption

theorem State.issueDesc_keeps (s : State) (i : Nat) : s.Keeps (State.issueDesc s i).1 := by
  delta State.issueDesc; split; dsimp only; exact .refl _; split; dsimp only; refine .trans ?_ (State.descFail_keeps ..)
  refine .trans ?_ (State.raise_keeps ..); refine .trans ?_ (State.readMem_out (by assumption)); exact .refl _
  lift_lets -underBinder; intro x; clear_value x; split; dsimp only; refine .trans ?_ (State.descFail_keeps ..)
  refine .trans ?_ (State.raise_keeps ..); refine .trans ?_ (State.descPut_keeps ..)
  refine .trans ?_ (State.readMem_out (by assumption)); exact .refl _; split; dsimp only
  refine .trans ?_ (State.descDone_keeps ..); refine .trans ?_ (State.readMem_out (by assumption)); exact .refl _; split
  dsimp only; refine .trans ?_ (State.issue_keeps ..); refine .trans ?_ (State.descPut_keeps ..)
  refine .trans ?_ (State.readMem_out (by assumption)); exact .refl _; dsimp only
  refine .trans ?_ (State.readMem_out (by assumption)); exact .refl _

theorem State.issueDesc_out {r_} {t_ : State} {s : State} {i : Nat} (h_ : State.issueDesc s i = (t_, r_)) : s.Keeps t_ :=
    by
  have := State.issueDesc_keeps s i; rwa [h_] at this

theorem State.issueFrom_keeps (x0 : Nat) (x1 : Nat) (x2 : State) : x2.Keeps (State.issueFrom x0 x1 x2) := by
  induction x0 generalizing x1 x2 with
  | zero => exact .refl _
  | succ k ih =>
    exact .ite (.refl _) ((State.issueDesc_keeps x2 x1).trans (.ite (.refl _) (ih _ _)))

theorem State.monEnd_keeps (s : State) (l : Line) : s.Keeps (State.monEnd s l) := by
  delta State.monEnd; lift_lets -underBinder
  intro x; refine .cut (x := x) ?_ ?_; subst x; rotate_left; intro hx; clear_value x; refine .trans ?_ (.of_mk ..)
  refine .ite ?_ ?_; refine .trans ?_ (State.sayErr_keeps ..); assumption; assumption
  refine .trans ?_ (State.wr_keeps ..); refine .trans ?_ (State.say_keeps ..); exact .refl _

theorem State.monReply_keeps (s : State) (j : FrJob) (rsp : Nat) (len : Nat) (data : List Byte) : s.Keeps (State.monReply
    s j rsp len data) := by
  delta State.monReply; lift_lets -underBinder
  intro x; refine .cut (x := x) ?_ ?_; subst x; rotate_left; intro hx; clear_value x
  refine .trans ?_ (State.monEnd_keeps ..); assumption; refine .ite ?_ ?_; exact .refl _; refine .ite ?_ ?_
  refine .trans ?_ (.foldl (fun s x => ?_) _ _); rotate_left; (try lift_lets -underBinder)
  refine .trans ?_ (State.say_keeps ..); exact .refl _; refine .ite ?_ ?_; refine .trans ?_ (State.say_keeps ..)
  exact .refl _; exact .refl _; exact .refl _

theorem State.jobEnd_keeps (s : State) (c : Nat) (j : FrJob) (done : Bool) (rsp : Nat) (len : Nat) (data : List Byte) :
    s.Keeps (State.jobEnd s c j done rsp len data) := by
  delta State.jobEnd; lift_lets -underBinder
  intro x; refine .cut (x := x) ?_ ?_; subst x; rotate_left; intro hx; clear_value x; refine .ite ?_ ?_
  refine .trans ?_ (State.monReply_keeps ..); assumption; refine .ite ?_ ?_; refine .trans ?_ (State.descFail_keeps ..)
  assumption; refine .ite ?_ ?_; assumption; refine .trans ?_ (State.descDone_keeps ..); refine .ite ?_ ?_
  refine .trans ?_ (State.descPut_keeps ..); refine .trans ?_ (State.setBytes_keeps ..); assumption; assumption
  refine .trans ?_ (State.setJob_keeps ..); exact .refl _

theorem State.jobAgain_keeps (s : State) (c : Nat) (j : FrJob) : s.Keeps (State.jobAgain s c j) := by
  delta State.jobAgain; refine .ite ?_ ?_; refine .trans ?_ (State.setJob_keeps ..); exact .refl _
  refine .trans ?_ (State.jobEnd_keeps ..); exact .refl _

theorem execFreightCollect_answers (c : Nat) (s : State) : s.Answers (execFreightCollect c s) := by
  delta execFreightCollect; split; refine .next ?_; exact .refl _; refine .ite ?_ ?_; refine .next ?_
  refine .trans ?_ (State.setJob_keeps ..); exact .refl _; refine .next ?_; exact .refl _

theorem execFreightIssue_answers (s : State) : s.Answers (execFreightIssue s) := by
  delta execFreightIssue; refine .ite ?_ ?_; refine .next ?_; exact .refl _; split; refine .ite ?_ ?_; refine .next ?_
  refine .trans ?_ (State.issue_keeps ..); refine .trans ?_ (.of_mk ..); exact .refl _; refine .next ?_
  refine .trans ?_ (State.issueFrom_keeps ..); exact .refl _; refine .next ?_
  refine .trans ?_ (State.issueFrom_keeps ..); exact .refl _

theorem execFreightPost_answers (p : Port) (h : Nat) (s : State) : s.Answers (execFreightPost p h s) := by
  delta execFreightPost; refine .next ?_; refine .trans ?_ (State.writeFrHead_keeps ..); exact .refl _

theorem execFreightReply_answers (c : Nat) (s : State) : s.Answers (execFreightReply c s) := by
  delta execFreightReply; lift_lets -underBinder; intro x; clear_value x; split; refine .next ?_; exact .refl _
  lift_lets -underBinder; intro x; clear_value x; intro x; clear_value x; intro x; clear_value x; intro x; clear_value x
  refine .ite ?_ ?_; refine .ite ?_ ?_; refine .next ?_; refine .trans ?_ (State.jobAgain_keeps ..); exact .refl _
  refine .ite ?_ ?_; refine .ite ?_ ?_; refine .next ?_; refine .trans ?_ (State.setJob_keeps ..); exact .refl _
  refine .next ?_; refine .trans ?_ (State.jobAgain_keeps ..); exact .refl _; refine .next ?_
  refine .trans ?_ (State.jobEnd_keeps ..); exact .refl _; refine .ite ?_ ?_; refine .ite ?_ ?_; refine .next ?_
  refine .trans ?_ (State.jobEnd_keeps ..); exact .refl _; refine .next ?_; refine .trans ?_ (State.jobAgain_keeps ..)
  exact .refl _; refine .next ?_; exact .refl _

end Sys2Proof.Machine
end

