-- ==== Sys2Proof/Laws/KeepsG.lean ====
section
/-! SUPPORT. Every operation and every command of Machine/Bus.lean, Dma.lean, Host.lean, Mon.lean keeps the queue and the canonical forms: one lemma each. -/

namespace Sys2Proof.Machine
open Sys2Proof

theorem State.answer_keeps (s : State) (p : Port) (x2 : Except Nat Word) : s.Keeps (State.answer s p x2) := by
  delta State.answer; split; refine .trans ?_ (State.emit_keeps ..); exact .refl _
  refine .trans ?_ (State.emit_keeps ..); exact .refl _

theorem State.answerWrite_keeps (s : State) (p : Port) (x2 : Option Nat) : s.Keeps (State.answerWrite s p x2) := by
  delta State.answerWrite; split; exact .refl _; refine .trans ?_ (State.emit_keeps ..); exact .refl _

theorem State.readNow_keeps (s : State) (p : Port) : s.Keeps (State.readNow s p).2 := by
  delta State.readNow; lift_lets -underBinder; intro x; clear_value x; dsimp only; refine .trans ?_ (.of_mk ..)
  exact .refl _

theorem State.readNow_out {r_} {t_ : State} {s : State} {p : Port} (h_ : State.readNow s p = (r_, t_)) : s.Keeps t_ := by
  have := State.readNow_keeps s p; rwa [h_] at this

theorem State.readDmaStat_keeps (s : State) (n : Nat) : s.Keeps (State.readDmaStat s n).2 := by
  delta State.readDmaStat; lift_lets -underBinder; intro x; clear_value x; split; split; split; dsimp only
  refine .trans ?_ (State.free_out (by assumption)); refine .trans ?_ (State.free_out (by assumption)); exact .refl _
  dsimp only; exact .refl _

theorem State.readDmaStat_out {r_} {t_ : State} {s : State} {n : Nat} (h_ : State.readDmaStat s n = (r_, t_)) : s.Keeps t_
    := by
  have := State.readDmaStat_keeps s n; rwa [h_] at this

theorem State.regReadAt_keeps (s : State) (p : Port) (a : Nat) (r : RegDesc) : s.Keeps (State.regReadAt s p a r).2 := by
  delta State.regReadAt; split; refine .trans ?_ (State.readNow_keeps ..); exact .refl _; split
  refine .trans ?_ (State.readDmaStat_keeps ..); exact .refl _; dsimp only; refine .ite ?_ ?_
  refine .trans ?_ (State.wrW_keeps ..); exact .refl _; exact .refl _

theorem State.regReadAt_out {r_} {t_ : State} {s : State} {p : Port} {a : Nat} {r : RegDesc} (h_ : State.regReadAt s p a r
    = (r_, t_)) : s.Keeps t_ := by
  have := State.regReadAt_keeps s p a r; rwa [h_] at this

theorem State.regRead_keeps (s : State) (p : Port) (a : Nat) : s.Keeps (State.regRead s p a).2 := by
  delta State.regRead; split; dsimp only; exact .refl _; split; dsimp only; exact .refl _; split; dsimp only
  refine .trans ?_ (State.regReadAt_out (by assumption)); exact .refl _

theorem State.regRead_out {r_} {t_ : State} {s : State} {p : Port} {a : Nat} (h_ : State.regRead s p a = (r_, t_)) :
    s.Keeps t_ := by
  have := State.regRead_keeps s p a; rwa [h_] at this

theorem State.busRead_keeps (s : State) (p : Port) (a : Nat) (host : Word) : s.Keeps (State.busRead s p a host).2 := by
  delta State.busRead; lift_lets -underBinder; intro x; clear_value x; split; refine .trans ?_ (State.regRead_keeps ..)
  exact .refl _; split; dsimp only; exact .refl _; split; split; dsimp only; refine .trans ?_ (State.emit_keeps ..)
  exact .refl _; dsimp only; exact .refl _; split; dsimp only; refine .trans ?_ (State.readMem_out (by assumption))
  exact .refl _; dsimp only; refine .trans ?_ (State.readMem_out (by assumption)); exact .refl _

theorem State.busRead_out {r_} {t_ : State} {s : State} {p : Port} {a : Nat} {host : Word} (h_ : State.busRead s p a host
    = (r_, t_)) : s.Keeps t_ := by
  have := State.busRead_keeps s p a host; rwa [h_] at this

theorem State.store_keeps (s : State) (p : Port) (a : Nat) (r : RegDesc) (v : Word) : s.Keeps (State.store s p a r v) :=
    by
  delta State.store; lift_lets -underBinder; intro x; clear_value x; intro x; clear_value x; intro x; clear_value x
  intro x; refine .cut (x := x) ?_ ?_; subst x; rotate_left; intro hx; clear_value x; refine .ite ?_ ?_
  refine .trans ?_ (State.range_keeps ..); refine .ite ?_ ?_; refine .trans ?_ (State.lockWrite_keeps ..); assumption
  assumption; refine .ite ?_ ?_; refine .trans ?_ (State.lockWrite_keeps ..); assumption; assumption
  refine .trans ?_ (State.wrW_keeps ..); exact .refl _

theorem State.writeTop_keeps (s : State) (p : Port) (a : Nat) (r : RegDesc) (v : Word) : s.Keeps (State.writeTop s p a r
    v) := by
  delta State.writeTop; lift_lets -underBinder
  intro x; refine .cut (x := x) ?_ ?_; subst x; rotate_left; intro hx; clear_value x; refine .ite ?_ ?_
  refine .trans ?_ (State.writeReset_keeps ..); exact .refl _; refine .ite ?_ ?_
  refine .trans ?_ (State.writeBlockall_keeps ..); exact .refl _; refine .ite ?_ ?_
  refine .trans ?_ (State.run_keeps _ _ ?_); rotate_left; beta_reduce; (try lift_lets -underBinder)
  exact execPeakClr_answers ..; assumption; refine .trans ?_ (State.store_keeps ..); exact .refl _; assumption

theorem State.writeChart_keeps (s : State) (p : Port) (a : Nat) (r : RegDesc) (v : Word) : s.Keeps (State.writeChart s p a
    r v) := by
  delta State.writeChart; lift_lets -underBinder
  intro x; refine .cut (x := x) ?_ ?_; subst x; rotate_left; intro hx; clear_value x; refine .ite ?_ ?_
  refine .ite ?_ ?_; refine .trans ?_ (State.run_keeps _ _ ?_); rotate_left; beta_reduce; (try lift_lets -underBinder)
  exact execHotAbort_answers ..; refine .ite ?_ ?_; refine .trans ?_ (State.hotReq_keeps ..); refine .ite ?_ ?_
  refine .trans ?_ (State.loadReq_keeps ..); assumption; assumption; refine .ite ?_ ?_
  refine .trans ?_ (State.loadReq_keeps ..); assumption; assumption; assumption; refine .trans ?_ (State.store_keeps ..)
  exact .refl _; refine .ite ?_ ?_; refine .trans ?_ (State.hotReq_keeps ..); refine .ite ?_ ?_
  refine .trans ?_ (State.loadReq_keeps ..); assumption; assumption; refine .ite ?_ ?_
  refine .trans ?_ (State.loadReq_keeps ..); assumption; assumption

theorem State.writeLane_keeps (s : State) (p : Port) (a : Nat) (r : RegDesc) (v : Word) : s.Keeps (State.writeLane s p a r
    v) := by
  delta State.writeLane; refine .ite ?_ ?_; refine .trans ?_ (State.writeEye_keeps ..); exact .refl _
  refine .trans ?_ (State.store_keeps ..); exact .refl _

theorem State.writeCw_keeps (s : State) (p : Port) (a : Nat) (r : RegDesc) (v : Word) : s.Keeps (State.writeCw s p a r v)
    := by
  delta State.writeCw; lift_lets -underBinder; intro x; clear_value x; refine .ite ?_ ?_
  refine .trans ?_ (State.writeFrRing_keeps ..); exact .refl _; refine .ite ?_ ?_
  refine .trans ?_ (State.writeFrHead_keeps ..); exact .refl _; refine .ite ?_ ?_; refine .ite ?_ ?_; exact .refl _
  refine .ite ?_ ?_; refine .trans ?_ (State.writeMeasure_keeps ..); exact .refl _; exact .refl _
  refine .trans ?_ (State.store_keeps ..); exact .refl _

theorem State.writeTimeCtrl_keeps (s : State) (p : Port) (r : RegDesc) (v : Word) : s.Keeps (State.writeTimeCtrl s p r v)
    := by
  delta State.writeTimeCtrl; lift_lets -underBinder
  intro x; refine .cut (x := x) ?_ ?_; subst x; rotate_left; intro hx; clear_value x; refine .ite ?_ ?_
  refine .trans ?_ (State.discardJump_keeps ..); refine .ite ?_ ?_; refine .trans ?_ (State.slewJump_keeps ..)
  refine .ite ?_ ?_; refine .trans ?_ (State.acceptStep_keeps ..); refine .ite ?_ ?_; assumption
  refine .trans ?_ (State.wr_keeps ..); assumption; refine .ite ?_ ?_; assumption; refine .trans ?_ (State.wr_keeps ..)
  assumption; refine .ite ?_ ?_; refine .trans ?_ (State.acceptStep_keeps ..); refine .ite ?_ ?_; assumption
  refine .trans ?_ (State.wr_keeps ..); assumption; refine .ite ?_ ?_; assumption; refine .trans ?_ (State.wr_keeps ..)
  assumption; refine .ite ?_ ?_; refine .trans ?_ (State.slewJump_keeps ..); refine .ite ?_ ?_
  refine .trans ?_ (State.acceptStep_keeps ..); refine .ite ?_ ?_; assumption; refine .trans ?_ (State.wr_keeps ..)
  assumption; refine .ite ?_ ?_; assumption; refine .trans ?_ (State.wr_keeps ..); assumption; refine .ite ?_ ?_
  refine .trans ?_ (State.acceptStep_keeps ..); refine .ite ?_ ?_; assumption; refine .trans ?_ (State.wr_keeps ..)
  assumption; refine .ite ?_ ?_; assumption; refine .trans ?_ (State.wr_keeps ..); assumption
  refine .trans ?_ (State.store_keeps ..); exact .refl _

theorem State.writeTime_keeps (s : State) (p : Port) (a : Nat) (r : RegDesc) (v : Word) : s.Keeps (State.writeTime s p a r
    v) := by
  delta State.writeTime; lift_lets -underBinder; intro x; clear_value x
  intro x; refine .cut (x := x) ?_ ?_; subst x; rotate_left; intro hx; clear_value x; refine .ite ?_ ?_
  refine .trans ?_ (State.writeTimeCtrl_keeps ..); exact .refl _; refine .ite ?_ ?_
  refine .trans ?_ (State.writeMark_keeps ..); exact .refl _; refine .ite ?_ ?_; refine .ite ?_ ?_
  refine .trans ?_ (State.trigArm_keeps ..); refine .ite ?_ ?_; refine .trans ?_ (State.trigDisarm_keeps ..); assumption
  assumption; refine .ite ?_ ?_; refine .trans ?_ (State.trigDisarm_keeps ..); assumption; assumption
  refine .trans ?_ (State.store_keeps ..); exact .refl _; refine .trans ?_ (State.store_keeps ..); exact .refl _

theorem State.writeReef_keeps (s : State) (p : Port) (a : Nat) (r : RegDesc) (v : Word) : s.Keeps (State.writeReef s p a r
    v) := by
  delta State.writeReef; refine .ite ?_ ?_; refine .trans ?_ (State.writeRetire_keeps ..); exact .refl _
  refine .ite ?_ ?_; refine .trans ?_ (State.writeHealth_keeps ..); exact .refl _
  refine .trans ?_ (State.store_keeps ..); exact .refl _

theorem State.writeRun_keeps (s : State) (p : Port) (a : Nat) (r : RegDesc) (v : Word) : s.Keeps (State.writeRun s p a r
    v) := by
  delta State.writeRun; lift_lets -underBinder
  intro x; refine .cut (x := x) ?_ ?_; subst x; rotate_left; intro hx; clear_value x; refine .ite ?_ ?_
  refine .ite ?_ ?_; refine .trans ?_ (State.go_keeps ..); assumption; assumption; refine .ite ?_ ?_
  refine .trans ?_ (State.writeTiming_keeps ..); exact .refl _; refine .ite ?_ ?_
  refine .trans ?_ (State.writeSign_keeps ..); exact .refl _; refine .trans ?_ (State.store_keeps ..); exact .refl _
  refine .ite ?_ ?_; refine .trans ?_ (State.blockAll_keeps ..); exact .refl _; exact .refl _

theorem State.writeLoop_keeps (s : State) (p : Port) (a : Nat) (r : RegDesc) (v : Word) : s.Keeps (State.writeLoop s p a r
    v) := by
  delta State.writeLoop; lift_lets -underBinder
  intro x; refine .cut (x := x) ?_ ?_; subst x; rotate_left; intro hx; clear_value x; refine .ite ?_ ?_
  refine .ite ?_ ?_; refine .trans ?_ (State.run_keeps _ _ ?_); rotate_left; beta_reduce; (try lift_lets -underBinder)
  exact execSwap_answers ..; assumption; refine .ite ?_ ?_; refine .trans ?_ (State.writeRestart_keeps ..)
  exact .refl _; refine .ite ?_ ?_; refine .trans ?_ (State.writeTraceBase_keeps ..); exact .refl _; refine .ite ?_ ?_
  refine .ite ?_ ?_; refine .trans ?_ (State.writeTap_keeps ..); exact .refl _; refine .ite ?_ ?_
  refine .trans ?_ (State.writeTapCtrl_keeps ..); exact .refl _; refine .trans ?_ (State.store_keeps ..); exact .refl _
  refine .ite ?_ ?_; refine .trans ?_ (State.writeCoef_keeps ..); exact .refl _; refine .ite ?_ ?_; exact .refl _
  refine .trans ?_ (State.store_keeps ..); exact .refl _; refine .trans ?_ (State.store_keeps ..); exact .refl _
  assumption

theorem State.writeSched_keeps (s : State) (p : Port) (a : Nat) (r : RegDesc) (v : Word) : s.Keeps (State.writeSched s p a
    r v) := by
  delta State.writeSched; lift_lets -underBinder
  intro x; refine .cut (x := x) ?_ ?_; subst x; rotate_left; intro hx; clear_value x; refine .ite ?_ ?_
  refine .ite ?_ ?_; refine .trans ?_ (State.run_keeps _ _ ?_); rotate_left; beta_reduce; (try lift_lets -underBinder)
  exact execObsClear_answers ..; assumption; refine .ite ?_ ?_; refine .trans ?_ (State.observe_keeps ..)
  refine .trans ?_ (State.store_keeps ..); exact .refl _; refine .ite ?_ ?_; refine .ite ?_ ?_
  refine .trans ?_ (State.range_keeps ..); exact .refl _; refine .trans ?_ (State.store_keeps ..); exact .refl _
  refine .ite ?_ ?_; refine .trans ?_ (State.run_keeps _ _ ?_); rotate_left; beta_reduce; (try lift_lets -underBinder)
  exact execSchedSet_answers ..; refine .ite ?_ ?_
  refine .trans ?_ (State.run_keeps _ _ ?_); rotate_left; beta_reduce; (try lift_lets -underBinder)
  exact execSchedDone_answers ..; refine .ite ?_ ?_; refine .ite ?_ ?_
  refine .trans ?_ (State.run_keeps _ _ ?_); rotate_left; beta_reduce; (try lift_lets -underBinder)
  exact execTaskEnable_answers ..; refine .ite ?_ ?_
  refine .trans ?_ (State.run_keeps _ _ ?_); rotate_left; beta_reduce; (try lift_lets -underBinder)
  exact execWaitWrite_answers ..; refine .trans ?_ (State.store_keeps ..); exact .refl _; refine .ite ?_ ?_
  refine .trans ?_ (State.run_keeps _ _ ?_); rotate_left; beta_reduce; (try lift_lets -underBinder)
  exact execSchedFlags_answers ..; refine .ite ?_ ?_
  refine .trans ?_ (State.run_keeps _ _ ?_); rotate_left; beta_reduce; (try lift_lets -underBinder)
  exact execSchedFlagsClr_answers ..; refine .trans ?_ (State.store_keeps ..); exact .refl _
  refine .trans ?_ (State.store_keeps ..); exact .refl _; assumption; exact .refl _; exact .refl _
  refine .trans ?_ (State.store_keeps ..); exact .refl _; exact .refl _; exact .refl _; exact .refl _

theorem State.freeWords_keeps (s : State) (x1 : Nat) : s.Keeps (State.freeWords s x1).2 := by
  induction x1 generalizing s with
  | zero => exact .refl _
  | succ n ih => exact (State.free_keeps s 32).trans (ih _)

theorem State.freeWords_out {r_} {t_ : State} {s : State} {x1 : Nat} (h_ : State.freeWords s x1 = (r_, t_)) : s.Keeps t_
    := by
  have := State.freeWords_keeps s x1; rwa [h_] at this

theorem State.writeSnd_keeps (s : State) (p : Port) (a : Nat) (r : RegDesc) (v : Word) : s.Keeps (State.writeSnd s p a r
    v) := by
  delta State.writeSnd; lift_lets -underBinder; intro x; clear_value x
  intro x; refine .cut (x := x) ?_ ?_; subst x; rotate_left; intro hx; clear_value x; refine .ite ?_ ?_
  refine .ite ?_ ?_; refine .trans ?_ (State.run_keeps _ _ ?_); rotate_left; beta_reduce; (try lift_lets -underBinder)
  exact execEngineRun_answers ..; refine .ite ?_ ?_
  refine .trans ?_ (State.run_keeps _ _ ?_); rotate_left; beta_reduce; (try lift_lets -underBinder)
  exact execEngineReset_answers ..; assumption; refine .trans ?_ (State.store_keeps ..); exact .refl _
  refine .ite ?_ ?_; split; split
  refine .trans ?_ (State.run_keeps _ _ ?_); rotate_left; beta_reduce; (try lift_lets -underBinder)
  exact execEngineHalt_answers ..; exact .refl _; refine .ite ?_ ?_
  refine .trans ?_ (State.run_keeps _ _ ?_); rotate_left; beta_reduce; (try lift_lets -underBinder)
  exact execEngineReset_answers ..; assumption; assumption; refine .trans ?_ (State.freeWords_out (by assumption))
  refine .trans ?_ (State.free_out (by assumption)); exact .refl _; assumption

theorem State.writeConv_keeps (s : State) (p : Port) (a : Nat) (r : RegDesc) (v : Word) : s.Keeps (State.writeConv s p a r
    v) := by
  delta State.writeConv; lift_lets -underBinder; intro x; clear_value x; refine .ite ?_ ?_
  refine .trans ?_ (State.writeMainsSw_keeps ..); exact .refl _; refine .ite ?_ ?_
  refine .trans ?_ (State.writeConvTrig_keeps ..); exact .refl _; refine .ite ?_ ?_; refine .ite ?_ ?_
  refine .trans ?_ (State.writeConvCfg_keeps ..); exact .refl _; refine .ite ?_ ?_
  refine .trans ?_ (State.writeStream_keeps ..); exact .refl _; refine .trans ?_ (State.store_keeps ..); exact .refl _
  refine .trans ?_ (State.store_keeps ..); exact .refl _

theorem State.writeAcq_keeps (s : State) (p : Port) (a : Nat) (r : RegDesc) (v : Word) : s.Keeps (State.writeAcq s p a r
    v) := by
  delta State.writeAcq; lift_lets -underBinder
  intro x; refine .cut (x := x) ?_ ?_; subst x; rotate_left; intro hx; clear_value x; refine .ite ?_ ?_; exact .refl _
  refine .ite ?_ ?_; refine .ite ?_ ?_; refine .trans ?_ (State.recForce_keeps ..); refine .ite ?_ ?_
  refine .trans ?_ (State.recArm_keeps ..); refine .ite ?_ ?_; refine .trans ?_ (State.recStop_keeps ..); assumption
  assumption; refine .ite ?_ ?_; refine .trans ?_ (State.recStop_keeps ..); assumption; assumption; refine .ite ?_ ?_
  refine .trans ?_ (State.recArm_keeps ..); refine .ite ?_ ?_; refine .trans ?_ (State.recStop_keeps ..); assumption
  assumption; refine .ite ?_ ?_; refine .trans ?_ (State.recStop_keeps ..); assumption; assumption; refine .ite ?_ ?_
  refine .trans ?_ (State.segFree_keeps ..); exact .refl _; refine .ite ?_ ?_; refine .ite ?_ ?_
  refine .trans ?_ (State.range_keeps ..); exact .refl _; refine .trans ?_ (State.store_keeps ..); exact .refl _
  refine .ite ?_ ?_; refine .trans ?_ (State.engWrite_keeps ..); exact .refl _; refine .ite ?_ ?_
  refine .trans ?_ (State.range_keeps ..); exact .refl _; refine .trans ?_ (State.store_keeps ..); exact .refl _
  refine .trans ?_ (State.store_keeps ..); exact .refl _

theorem State.writeMemReg_keeps (s : State) (p : Port) (a : Nat) (r : RegDesc) (v : Word) : s.Keeps (State.writeMemReg s p
    a r v) := by
  delta State.writeMemReg; refine .ite ?_ ?_; refine .trans ?_ (State.writeMemRetire_keeps ..); exact .refl _
  refine .ite ?_ ?_; refine .trans ?_ (State.writeMemPwr_keeps ..); exact .refl _; refine .ite ?_ ?_
  refine .trans ?_ (State.writeBist_keeps ..); exact .refl _; refine .ite ?_ ?_; refine .ite ?_ ?_
  refine .trans ?_ (State.wrW_keeps ..); refine .trans ?_ (State.wrW_keeps ..); exact .refl _; exact .refl _
  refine .trans ?_ (State.store_keeps ..); exact .refl _

theorem State.writeDma_keeps (s : State) (p : Port) (a : Nat) (r : RegDesc) (v : Word) : s.Keeps (State.writeDma s p a r
    v) := by
  delta State.writeDma; lift_lets -underBinder
  intro x; refine .cut (x := x) ?_ ?_; subst x; rotate_left; intro hx; clear_value x; refine .ite ?_ ?_
  refine .ite ?_ ?_; refine .trans ?_ (State.dmaClear_keeps ..); assumption; assumption; refine .ite ?_ ?_
  refine .ite ?_ ?_; refine .trans ?_ (State.writeDmaCtrl_keeps ..); exact .refl _; refine .ite ?_ ?_
  refine .trans ?_ (State.dmaDesc_keeps ..); exact .refl _; refine .trans ?_ (State.store_keeps ..); exact .refl _
  refine .trans ?_ (State.store_keeps ..); exact .refl _; refine .trans ?_ (State.store_keeps ..); exact .refl _

theorem State.writeClass_keeps (s : State) (p : Port) (a : Nat) (r : RegDesc) (v : Word) : s.Keeps (State.writeClass s p a
    r v) := by
  delta State.writeClass; lift_lets -underBinder; intro x; clear_value x; refine .ite ?_ ?_; exact .refl _
  refine .ite ?_ ?_; refine .trans ?_ (State.range_keeps ..); exact .refl _; refine .trans ?_ (State.store_keeps ..)
  exact .refl _

theorem State.writeFlt_keeps (s : State) (p : Port) (a : Nat) (r : RegDesc) (v : Word) : s.Keeps (State.writeFlt s p a r
    v) := by
  delta State.writeFlt; refine .ite ?_ ?_
  refine .trans ?_ (State.run_keeps _ _ ?_); rotate_left; beta_reduce; (try lift_lets -underBinder)
  exact execFltSw_answers ..; refine .ite ?_ ?_; refine .ite ?_ ?_
  refine .trans ?_ (State.run_keeps _ _ ?_); rotate_left; beta_reduce; (try lift_lets -underBinder)
  exact execFaultAck_answers ..; exact .refl _; refine .ite ?_ ?_; refine .trans ?_ (State.writeClass_keeps ..)
  exact .refl _; refine .trans ?_ (State.store_keeps ..); exact .refl _; exact .refl _; exact .refl _

theorem State.writeRed_keeps (s : State) (p : Port) (a : Nat) (r : RegDesc) (v : Word) : s.Keeps (State.writeRed s p a r
    v) := by
  delta State.writeRed; lift_lets -underBinder
  intro x; refine .cut (x := x) ?_ ?_; subst x; rotate_left; intro hx; clear_value x; refine .ite ?_ ?_
  refine .trans ?_ (State.redRequest_keeps ..); assumption; assumption; refine .trans ?_ (State.store_keeps ..)
  exact .refl _

theorem State.writeSafe_keeps (s : State) (p : Port) (a : Nat) (r : RegDesc) (v : Word) : s.Keeps (State.writeSafe s p a r
    v) := by
  delta State.writeSafe; lift_lets -underBinder
  intro x; refine .cut (x := x) ?_ ?_; subst x; rotate_left; intro hx; clear_value x; refine .ite ?_ ?_
  refine .ite ?_ ?_; refine .trans ?_ (State.stopReq_keeps ..); refine .trans ?_ (State.kReq_keeps ..); assumption
  refine .trans ?_ (State.kReq_keeps ..); assumption; assumption; refine .trans ?_ (State.store_keeps ..); exact .refl _

theorem State.writeProf_keeps (s : State) (p : Port) (a : Nat) (r : RegDesc) (v : Word) : s.Keeps (State.writeProf s p a r
    v) := by
  delta State.writeProf; refine .ite ?_ ?_; refine .trans ?_ (State.profCommand_keeps ..)
  refine .trans ?_ (State.store_keeps ..); exact .refl _; refine .ite ?_ ?_
  refine .trans ?_ (State.writeLimit_keeps ..); exact .refl _; refine .ite ?_ ?_
  refine .trans ?_ (State.writeAngle_keeps ..); exact .refl _; refine .trans ?_ (State.store_keeps ..); exact .refl _

theorem State.writeNet_keeps (s : State) (p : Port) (a : Nat) (r : RegDesc) (v : Word) : s.Keeps (State.writeNet s p a r
    v) := by
  delta State.writeNet; lift_lets -underBinder; intro x; clear_value x; refine .ite ?_ ?_; refine .ite ?_ ?_
  refine .trans ?_ (State.writeTxCtrl_keeps ..); exact .refl _; refine .ite ?_ ?_
  refine .trans ?_ (State.writeTxBuf_keeps ..); exact .refl _; refine .trans ?_ (State.store_keeps ..); exact .refl _
  refine .trans ?_ (State.store_keeps ..); exact .refl _

theorem State.writeHost_keeps (s : State) (p : Port) (a : Nat) (r : RegDesc) (v : Word) : s.Keeps (State.writeHost s p a r
    v) := by
  delta State.writeHost; refine .ite ?_ ?_; refine .ite ?_ ?_; refine .trans ?_ (State.msiAck_keeps ..); exact .refl _
  exact .refl _; refine .ite ?_ ?_; refine .trans ?_ (State.hdbSet_keeps ..); exact .refl _; refine .ite ?_ ?_
  refine .trans ?_ (State.pdbSet_keeps ..); exact .refl _; refine .ite ?_ ?_; refine .trans ?_ (State.qdbSet_keeps ..)
  exact .refl _; refine .trans ?_ (State.store_keeps ..); exact .refl _

theorem State.monDisable_keeps (s : State) : s.Keeps (State.monDisable s) := by
  delta State.monDisable; refine .trans ?_ (State.wr_keeps ..); refine .trans ?_ (State.wr_keeps ..)
  refine .trans ?_ (State.toView_keeps ..); exact .refl _

theorem State.writeMon_keeps (s : State) (p : Port) (a : Nat) (r : RegDesc) (v : Word) : s.Keeps (State.writeMon s p a r
    v) := by
  delta State.writeMon; lift_lets -underBinder
  intro x; refine .cut (x := x) ?_ ?_; subst x; rotate_left; intro hx; clear_value x; refine .ite ?_ ?_
  refine .trans ?_ (State.monDisable_keeps ..); assumption; assumption; refine .trans ?_ (State.store_keeps ..)
  exact .refl _

theorem State.regAct_keeps (s : State) (p : Port) (a : Nat) (r : RegDesc) (v : Word) : s.Keeps (State.regAct s p a r v) :=
    by
  delta State.regAct; split; refine .trans ?_ (State.writeTop_keeps ..); exact .refl _
  refine .trans ?_ (State.writeChart_keeps ..); exact .refl _; refine .trans ?_ (State.writeLane_keeps ..)
  exact .refl _; refine .trans ?_ (State.writeLane_keeps ..); exact .refl _; refine .trans ?_ (State.writeCw_keeps ..)
  exact .refl _; refine .trans ?_ (State.writeCw_keeps ..); exact .refl _; refine .trans ?_ (State.writeTime_keeps ..)
  exact .refl _; refine .trans ?_ (State.writeReef_keeps ..); exact .refl _; refine .trans ?_ (State.writeRun_keeps ..)
  exact .refl _; refine .trans ?_ (State.writeLoop_keeps ..); exact .refl _
  refine .trans ?_ (State.writeSched_keeps ..); exact .refl _; refine .trans ?_ (State.writeSnd_keeps ..); exact .refl _
  refine .trans ?_ (State.writeConv_keeps ..); exact .refl _; refine .trans ?_ (State.writeAcq_keeps ..); exact .refl _
  refine .trans ?_ (State.writeMemReg_keeps ..); exact .refl _; refine .trans ?_ (State.writeDma_keeps ..)
  exact .refl _; refine .trans ?_ (State.writeFlt_keeps ..); exact .refl _; refine .trans ?_ (State.writeRed_keeps ..)
  exact .refl _; refine .trans ?_ (State.writeSafe_keeps ..); exact .refl _; refine .trans ?_ (State.writeProf_keeps ..)
  exact .refl _; refine .trans ?_ (State.writeNet_keeps ..); exact .refl _; refine .trans ?_ (State.writeHost_keeps ..)
  exact .refl _; refine .trans ?_ (State.writeMon_keeps ..); exact .refl _; refine .trans ?_ (State.store_keeps ..)
  exact .refl _

theorem State.regWrite_keeps (s : State) (p : Port) (a : Nat) (v : Word) : s.Keeps (State.regWrite s p a v).2 := by
  delta State.regWrite; split; dsimp only; exact .refl _; split; dsimp only; exact .refl _; dsimp only
  refine .ite ?_ ?_; exact .refl _; refine .trans ?_ (State.irqUpdate_keeps ..)
  refine .trans ?_ (State.regAct_keeps ..); exact .refl _

theorem State.regWrite_out {r_} {t_ : State} {s : State} {p : Port} {a : Nat} {v : Word} (h_ : State.regWrite s p a v =
    (r_, t_)) : s.Keeps t_ := by
  have := State.regWrite_keeps s p a v; rwa [h_] at this

theorem State.busWrite_keeps (s : State) (p : Port) (a : Nat) (v : Word) : s.Keeps (State.busWrite s p a v).2 := by
  delta State.busWrite; lift_lets -underBinder; intro x; clear_value x; split
  refine .trans ?_ (State.regWrite_keeps ..); exact .refl _; split; dsimp only; exact .refl _; split; split; dsimp only
  refine .trans ?_ (State.emit_keeps ..); exact .refl _; dsimp only; exact .refl _
  refine .trans ?_ (State.writeMem_keeps ..); exact .refl _

theorem State.busWrite_out {r_} {t_ : State} {s : State} {p : Port} {a : Nat} {v : Word} (h_ : State.busWrite s p a v =
    (r_, t_)) : s.Keeps t_ := by
  have := State.busWrite_keeps s p a v; rwa [h_] at this

theorem State.readAny_keeps (s : State) (tgt : Chip) (p : Port) (len : Nat) (a : Nat) : s.Keeps (State.readAny s tgt p len
    a) := by
  delta State.readAny; split; refine .ite ?_ ?_; exact .refl _; refine .ite ?_ ?_
  refine .trans ?_ (State.emit_keeps ..); exact .refl _; refine .ite ?_ ?_
  refine .trans ?_ (State.run_keeps _ _ ?_); rotate_left; beta_reduce; (try lift_lets -underBinder)
  exact execSchedAsk_answers ..; split; refine .trans ?_ (State.answer_keeps ..)
  refine .trans ?_ (State.regRead_out (by assumption)); exact .refl _; refine .ite ?_ ?_; exact .refl _
  refine .ite ?_ ?_; refine .trans ?_ (State.emit_keeps ..); exact .refl _; split
  refine .trans ?_ (State.emit_keeps ..); exact .refl _; refine .trans ?_ (State.emit_keeps ..)
  refine .trans ?_ (State.onCell_keeps _ _ _ ?_); rotate_left; beta_reduce; (try lift_lets -underBinder)
  refine .trans ?_ (Skerry.readReg_keeps ..); exact .refl _; exact .refl _; exact .refl _

theorem execMonOffWrite_answers (s : State) : s.Answers (execMonOffWrite s) := by
  delta execMonOffWrite; refine .next ?_; refine .ite ?_ ?_; exact .refl _; refine .trans ?_ (State.monDisable_keeps ..)
  exact .refl _

theorem execRcRead_answers (tgt : Chip) (p : Port) (len : Nat) (a : Nat) (s : State) : s.Answers (execRcRead tgt p len a
    s) := by
  delta execRcRead; refine .next ?_; refine .trans ?_ (State.readAny_keeps ..); exact .refl _

theorem execRegisterWrite_answers (tgt : Chip) (p : Port) (len : Nat) (a : Nat) (v : Word) (still : List Nat) (s : State)
    : s.Answers (execRegisterWrite tgt p len a v still s) := by
  delta execRegisterWrite; split; refine .ite ?_ ?_; refine .next ?_; exact .refl _; refine .ite ?_ ?_; refine .next ?_
  refine .trans ?_ (State.emit_keeps ..); exact .refl _; split; refine .next ?_
  refine .trans ?_ (State.answerWrite_keeps ..); refine .trans ?_ (State.regWrite_out (by assumption)); exact .refl _
  refine .ite ?_ ?_; refine .next ?_; exact .refl _; refine .ite ?_ ?_; refine .next ?_
  refine .trans ?_ (State.emit_keeps ..); exact .refl _; refine .ite ?_ ?_; refine .next ?_
  refine .trans ?_ (State.emit_keeps ..); exact .refl _; refine .next ?_
  refine .trans ?_ (State.onCell_keeps _ _ _ ?_); rotate_left; beta_reduce; (try lift_lets -underBinder)
  refine .trans ?_ (Skerry.writeReg_keeps ..); exact .refl _; exact .refl _

theorem execTimeNowLatch_answers (tgt : Chip) (p : Port) (s : State) : s.Answers (execTimeNowLatch tgt p s) := by
  delta execTimeNowLatch; split; refine .next ?_; refine .trans ?_ (State.readAny_keeps ..); exact .refl _
  refine .next ?_; refine .trans ?_ (State.readAny_keeps ..); exact .refl _

theorem State.dmaStop_keeps (s : State) (dir : Nat) (cause : Nat) (addr : Nat) : s.Keeps (State.dmaStop s dir cause addr)
    := by
  delta State.dmaStop; lift_lets -underBinder
  intro x; refine .cut (x := x) ?_ ?_; subst x; rotate_left; intro hx; clear_value x; refine .ite ?_ ?_; exact .refl _
  refine .trans ?_ (.foldl (fun s x => ?_) _ _); rotate_left; (try lift_lets -underBinder); refine .ite ?_ ?_
  refine .trans ?_ (State.dmaTo_keeps ..); exact .refl _; exact .refl _; refine .trans ?_ (State.wr_keeps ..)
  refine .trans ?_ (State.wr_keeps ..); exact .refl _; refine .trans ?_ (State.raise_keeps ..)
  refine .trans ?_ (State.wr_keeps ..); refine .trans ?_ (State.wr_keeps ..); refine .trans ?_ (State.wrW_keeps ..)
  refine .trans ?_ (State.wr_keeps ..); assumption

theorem State.dmaResult_keeps (s : State) (n : Nat) (bytes : Nat) (code : Nat) (reason : Nat) : s.Keeps (State.dmaResult s
    n bytes code reason).2 := by
  delta State.dmaResult; lift_lets -underBinder; intro x; clear_value x; split; dsimp only
  refine .trans ?_ (State.writeMem_out (by assumption)); exact .refl _; dsimp only
  refine .trans ?_ (State.dmaStop_keeps ..); refine .trans ?_ (State.writeMem_out (by assumption)); exact .refl _

theorem State.dmaResult_out {r_} {t_ : State} {s : State} {n : Nat} {bytes : Nat} {code : Nat} {reason : Nat} (h_ :
    State.dmaResult s n bytes code reason = (r_, t_)) : s.Keeps t_ := by
  have := State.dmaResult_keeps s n bytes code reason; rwa [h_] at this

theorem State.dmaFinish_keeps (s : State) (n : Nat) : s.Keeps (State.dmaFinish s n) := by
  delta State.dmaFinish; lift_lets -underBinder; intro x; clear_value x; split
  refine .trans ?_ (State.dmaResult_out (by assumption)); exact .refl _; lift_lets -underBinder
  intro x; refine .cut (x := x) ?_ ?_; subst x; rotate_left; intro hx; clear_value x; refine .ite ?_ ?_
  refine .trans ?_ (State.dmaTo_keeps ..); refine .ite ?_ ?_; refine .trans ?_ (State.fireRoute_keeps ..); assumption
  assumption; refine .trans ?_ (State.dmaToFetch_keeps ..); refine .trans ?_ (State.wr_keeps ..); refine .ite ?_ ?_
  refine .trans ?_ (State.fireRoute_keeps ..); assumption; assumption; refine .trans ?_ (State.inc_keeps ..)
  refine .trans ?_ (State.dmaResult_out (by assumption)); exact .refl _

theorem Xfer.read_keeps (x : Xfer) (a w : Nat) : x.st.Keeps (x.read a w).2.st := by
  unfold Xfer.read
  split
  · exact .refl _
  split
  · split
    · exact .refl _
    · split <;> exact State.busRead_out (by assumption)
  split
  · split
    · exact State.emit_keeps ..
    · exact .refl _
  · split <;> exact State.readMem_out (by assumption)

theorem Xfer.write_keeps (x : Xfer) (a : Nat) (bs : List Byte) : x.st.Keeps (x.write a bs).st := by
  unfold Xfer.write
  split
  · exact .refl _
  split
  · split
    · exact .refl _
    · split <;> exact State.busWrite_out (by assumption)
  split
  · split
    · exact State.emit_keeps ..
    · exact .refl _
  · split <;> exact State.writeMem_out (by assumption)

theorem Xfer.gather_keeps (x : Xfer) (base : Nat) (inc : Bool) (w off n : Nat) : x.st.Keeps (x.gather base inc w off n).2.st := by
  induction n generalizing x off with
  | zero => exact .refl _
  | succ k ih => exact (Xfer.read_keeps ..).trans (ih _ _)

theorem Xfer.scatter_keeps (x : Xfer) (base : Nat) (inc : Bool) (w off n : Nat) (b : List Byte) :
    x.st.Keeps (x.scatter base inc w off n b).st := by
  induction n generalizing x off b with
  | zero => exact .refl _
  | succ k ih => exact (Xfer.write_keeps ..).trans (ih _ _ _)

theorem Xfer.chunk_keeps (x : Xfer) (n : Nat) (c : DmaCh) : x.st.Keeps (x.chunk n c).st := by
  unfold Xfer.chunk
  split
  · exact .refl _
  · have h := Xfer.gather_keeps x c.src c.srcInc c.srcW (x.st.rd (DMA_CH_DONE_BYTES n)) (c.wide / c.srcW)
    refine h.trans ?_
    dsimp only
    split
    · exact Xfer.scatter_keeps ..
    · exact (Xfer.scatter_keeps ..).trans (State.wr_keeps ..)

theorem Xfer.chunks_keeps (x : Xfer) (n : Nat) (c : DmaCh) (k : Nat) : x.st.Keeps (x.chunks n c k).st := by
  induction k generalizing x with
  | zero => exact .refl _
  | succ k ih => exact (Xfer.chunk_keeps ..).trans (ih _)

theorem State.dmaMove_keeps (s : State) (n : Nat) (upTo : Nat) (host : List Byte) : s.Keeps (State.dmaMove s n upTo host) := by
  have h (k : Nat) := Xfer.chunks_keeps ⟨s, host, none⟩ n (s.dmaCh n) k
  unfold State.dmaMove
  dsimp only
  split
  · exact .refl _
  · split
    · exact h _
    · exact (h _).trans (State.dmaStop_keeps ..)

theorem State.dmaProgress_keeps (s : State) (st : Nat) (x2 : List (Nat × Nat × List Byte)) : s.Keeps (State.dmaProgress s st x2) := by
  induction x2 generalizing s with
  | nil => exact .refl _
  | cons e t ih => exact (State.Keeps.ite (State.dmaMove_keeps ..) (.refl _)).trans (ih _)

theorem State.dmaRefuse_keeps (s : State) (n : Nat) (reason : Nat) : s.Keeps (State.dmaRefuse s n reason) := by
  delta State.dmaRefuse; split; refine .trans ?_ (State.dmaResult_out (by assumption)); exact .refl _
  lift_lets -underBinder; intro x; refine .cut (x := x) ?_ ?_; subst x; rotate_left; intro hx; clear_value x
  refine .trans ?_ (State.raise_keeps ..); refine .trans ?_ (State.wr_keeps ..); assumption
  refine .trans ?_ (State.wr_keeps ..); refine .trans ?_ (State.wr_keeps ..); refine .trans ?_ (State.dmaTo_keeps ..)
  refine .trans ?_ (State.dmaResult_out (by assumption)); exact .refl _

theorem execDmaAbort_answers (n : Nat) (prog : Nat) (host : List Byte) (s : State) : s.Answers (execDmaAbort n prog host
    s) := by
  delta execDmaAbort; refine .ite ?_ ?_; refine .next ?_; exact .refl _; refine .next ?_
  refine .trans ?_ (State.dmaAbort_keeps ..); refine .ite ?_ ?_; refine .trans ?_ (State.dmaMove_keeps ..)
  exact .refl _; exact .refl _

theorem execDmaBusError_answers (dir : Bool) (cause : Nat) (addr : Nat) (prog : List (Nat × Nat × List Byte)) (s : State)
    : s.Answers (execDmaBusError dir cause addr prog s) := by
  delta execDmaBusError; refine .ite ?_ ?_; refine .next ?_; exact .refl _; refine .next ?_
  refine .trans ?_ (State.dmaStop_keeps ..); refine .trans ?_ (State.dmaProgress_keeps ..); exact .refl _

theorem execDmaClear_answers (p : Port) (s : State) : s.Answers (execDmaClear p s) := by
  delta execDmaClear; refine .next ?_; refine .trans ?_ (State.dmaClear_keeps ..); exact .refl _

theorem execDmaComplete_answers (n : Nat) (host : List Byte) (s : State) : s.Answers (execDmaComplete n host s) := by
  delta execDmaComplete; lift_lets -underBinder
  intro x; refine .cut (x := x) ?_ ?_; subst x; rotate_left; intro hx; clear_value x; refine .ite ?_ ?_; refine .next ?_
  exact .refl _; refine .next ?_; refine .ite ?_ ?_; assumption; refine .trans ?_ (State.dmaFinish_keeps ..); assumption
  refine .trans ?_ (State.dmaMove_keeps ..); exact .refl _

theorem execDmaDescWrite_answers (p : Port) (n : Nat) (v : Word) (s : State) : s.Answers (execDmaDescWrite p n v s) := by
  delta execDmaDescWrite; refine .next ?_; refine .ite ?_ ?_; refine .trans ?_ (State.dmaDesc_keeps ..); exact .refl _
  exact .refl _

theorem execDmaDrained_answers (prog : List (Nat × Nat × List Byte)) (s : State) : s.Answers (execDmaDrained prog s) := by
  delta execDmaDrained; refine .ite ?_ ?_; refine .next ?_; refine .trans ?_ (State.wr_keeps ..)
  refine .trans ?_ (State.dmaProgress_keeps ..); exact .refl _; refine .next ?_; exact .refl _

theorem execDmaFetch_answers (n : Nat) (s : State) : s.Answers (execDmaFetch n s) := by
  delta execDmaFetch; lift_lets -underBinder; intro x; clear_value x; refine .ite ?_ ?_; refine .next ?_; exact .refl _
  split
  refine .next ?_; refine .trans ?_ (State.dmaStop_keeps ..); refine .of_ite_snd ?_ ?_ (by assumption)
  refine .trans ?_ (State.readMem_keeps ..); exact .refl _; dsimp only; exact .refl _; lift_lets -underBinder
  intro x; clear_value x; intro x; refine .cut (x := x) ?_ ?_; subst x; rotate_left; intro hx; clear_value x
  refine .ite ?_ ?_; refine .next ?_; refine .trans ?_ (State.dmaRefuse_keeps ..)
  refine .of_ite_snd ?_ ?_ (by assumption); refine .trans ?_ (State.readMem_keeps ..); exact .refl _; dsimp only
  exact .refl _; refine .ite ?_ ?_; refine .next ?_; refine .trans ?_ (State.dmaFinish_keeps ..); assumption
  refine .next ?_; refine .trans ?_ (State.dmaTo_keeps ..); assumption; refine .trans ?_ (State.wr_keeps ..)
  refine .trans ?_ (State.setDmaCh_keeps ..); refine .of_ite_snd ?_ ?_ (by assumption)
  refine .trans ?_ (State.readMem_keeps ..); exact .refl _; dsimp only; exact .refl _

theorem execDmaResume_answers (p : Port) (n : Nat) (s : State) : s.Answers (execDmaResume p n s) := by
  delta execDmaResume; refine .next ?_; refine .ite ?_ ?_; refine .trans ?_ (State.dmaResume_keeps ..); exact .refl _
  exact .refl _

theorem execDmaStart_answers (p : Port) (n : Nat) (s : State) : s.Answers (execDmaStart p n s) := by
  delta execDmaStart; refine .next ?_; refine .ite ?_ ?_; refine .trans ?_ (State.dmaStart_keeps ..); exact .refl _
  exact .refl _

theorem State.linkLost_keeps (s : State) : s.Keeps (State.linkLost s) := by
  delta State.linkLost; refine .ite ?_ ?_; refine .trans ?_ (State.raise_keeps ..); refine .trans ?_ (State.wr_keeps ..)
  refine .trans ?_ (State.wr_keeps ..); refine .trans ?_ (State.wr_keeps ..); exact .refl _; exact .refl _

theorem State.pcieRead_keeps (s : State) (bar : Nat) (off : Nat) (n : Nat) : s.Keeps (State.pcieRead s bar off n) := by
  delta State.pcieRead; refine .ite ?_ ?_; refine .trans ?_ (State.emit_keeps ..); exact .refl _; split
  refine .trans ?_ (State.emit_keeps ..); exact .refl _; refine .ite ?_ ?_; refine .trans ?_ (State.readAny_keeps ..)
  exact .refl _; split; refine .trans ?_ (State.emit_keeps ..); refine .trans ?_ (State.readMem_out (by assumption))
  exact .refl _; refine .trans ?_ (State.emit_keeps ..); refine .trans ?_ (State.readMem_out (by assumption))
  exact .refl _

theorem State.setMsix_keeps (s : State) (o : Nat) (x2 : List Byte) : s.Keeps (State.setMsix s o x2) := by
  induction x2 generalizing s o with
  | nil => exact .refl _
  | cons b t ih => exact State.Keeps.trans (.of_mk ..) (ih _ _)

theorem State.pcieWrite_keeps (s : State) (bar : Nat) (off : Nat) (d : List Byte) : s.Keeps (State.pcieWrite s bar off d)
    := by
  delta State.pcieWrite; lift_lets -underBinder; intro x; clear_value x; refine .ite ?_ ?_
  refine .trans ?_ (State.setMsix_keeps ..); exact .refl _; refine .ite ?_ ?_; exact .refl _; split
  refine .trans ?_ (State.emit_keeps ..); exact .refl _; refine .ite ?_ ?_; refine .ite ?_ ?_
  refine .trans ?_ (State.emit_keeps ..); exact .refl _; split; refine .trans ?_ (State.answerWrite_keeps ..)
  refine .trans ?_ (State.regWrite_out (by assumption)); exact .refl _; split
  refine .trans ?_ (State.answerWrite_keeps ..); refine .trans ?_ (State.writeMem_out (by assumption)); exact .refl _

theorem State.quayErr_keeps (s : State) (q : Nat) (c : Nat) : s.Keeps (State.quayErr s q c) := by
  delta State.quayErr; lift_lets -underBinder
  intro x; refine .cut (x := x) ?_ ?_; subst x; rotate_left; intro hx; clear_value x; refine .ite ?_ ?_; assumption
  refine .trans ?_ (State.wr_keeps ..); refine .trans ?_ (State.wr_keeps ..); refine .trans ?_ (State.wr_keeps ..)
  assumption; refine .trans ?_ (State.emit_keeps ..); exact .refl _

theorem State.quayAccess_keeps (s : State) (rd : Bool) (wr : Bool) (q : Nat) (v : Word) : s.Keeps (State.quayAccess s rd
    wr q v) := by
  delta State.quayAccess; lift_lets -underBinder; intro x; clear_value x; refine .ite ?_ ?_; exact .refl _
  refine .ite ?_ ?_; refine .trans ?_ (State.quayErr_keeps ..); exact .refl _; split
  refine .trans ?_ (State.quayErr_keeps ..); exact .refl _; refine .ite ?_ ?_; split
  refine .trans ?_ (State.emit_keeps ..); refine .trans ?_ (State.busRead_out (by assumption)); exact .refl _
  refine .trans ?_ (State.quayErr_keeps ..); refine .trans ?_ (State.busRead_out (by assumption)); exact .refl _; split
  refine .trans ?_ (State.busWrite_out (by assumption)); exact .refl _; refine .trans ?_ (State.quayErr_keeps ..)
  refine .trans ?_ (State.busWrite_out (by assumption)); exact .refl _

theorem execHdbSet_answers (v : Word) (s : State) : s.Answers (execHdbSet v s) := by
  delta execHdbSet; refine .next ?_; refine .trans ?_ (State.hdbSet_keeps ..); exact .refl _

theorem execMsiAck_answers (s : State) : s.Answers (execMsiAck s) := by
  delta execMsiAck; refine .next ?_; refine .trans ?_ (State.msiAck_keeps ..); exact .refl _

theorem execPcieLinkLoss_answers (s : State) : s.Answers (execPcieLinkLoss s) := by
  delta execPcieLinkLoss; refine .next ?_; refine .trans ?_ (State.linkLost_keeps ..); exact .refl _

theorem execPcieLinkUp_answers (gen : Nat) (width : Nat) (msix : Bool) (master : Bool) (s : State) : s.Answers
    (execPcieLinkUp gen width msix master s) := by
  delta execPcieLinkUp; lift_lets -underBinder
  intro x; refine .cut (x := x) ?_ ?_; subst x; rotate_left; intro hx; clear_value x; refine .ite ?_ ?_; refine .next ?_
  refine .trans ?_ (.of_mk ..); refine .trans ?_ (State.wr_keeps ..); assumption; refine .next ?_; exact .refl _
  refine .trans ?_ (State.wr_keeps ..); refine .trans ?_ (State.wr_keeps ..); refine .trans ?_ (State.wr_keeps ..)
  exact .refl _

theorem execPcieRequest_answers (wr : Bool) (bar : Nat) (off : Nat) (len : Nat) (data : List Byte) (s : State) : s.Answers
    (execPcieRequest wr bar off len data s) := by
  delta execPcieRequest; refine .ite ?_ ?_; refine .next ?_; exact .refl _; refine .ite ?_ ?_; refine .next ?_
  refine .ite ?_ ?_; exact .refl _; refine .trans ?_ (State.pcieWrite_keeps ..); exact .refl _; refine .next ?_
  refine .ite ?_ ?_; exact .refl _; refine .trans ?_ (State.pcieRead_keeps ..); exact .refl _

theorem execPcieReset_answers (up : Bool) (s : State) : s.Answers (execPcieReset up s) := by
  delta execPcieReset; lift_lets -underBinder
  intro x; refine .cut (x := x) ?_ ?_; subst x; rotate_left; intro hx; clear_value x; refine .next ?_; refine .ite ?_ ?_
  refine .trans ?_ (.of_mk ..); assumption; refine .trans ?_ (State.linkLost_keeps ..); refine .trans ?_ (.of_mk ..)
  assumption; refine .trans ?_ (State.wr_keeps ..); refine .trans ?_ (State.wrW_keeps ..)
  refine .trans ?_ (State.wrW_keeps ..); exact .refl _

theorem execPdbSet_answers (p : Port) (v : Word) (s : State) : s.Answers (execPdbSet p v s) := by
  delta execPdbSet; refine .next ?_; refine .trans ?_ (State.pdbSet_keeps ..); exact .refl _

theorem execQuayAccess_answers (rd : Bool) (wr : Bool) (q : Nat) (v : Word) (s : State) : s.Answers (execQuayAccess rd wr
    q v s) := by
  delta execQuayAccess; refine .next ?_; refine .ite ?_ ?_; exact .refl _; refine .trans ?_ (State.quayAccess_keeps ..)
  exact .refl _

theorem execQuayDoorbell_answers (p : Port) (v : Word) (s : State) : s.Answers (execQuayDoorbell p v s) := by
  delta execQuayDoorbell; refine .next ?_; refine .trans ?_ (State.qdbSet_keeps ..); exact .refl _

theorem execQuayStrobeStuck_answers (s : State) : s.Answers (execQuayStrobeStuck s) := by
  delta execQuayStrobeStuck; refine .next ?_; refine .trans ?_ (State.inc_keeps ..); exact .refl _

theorem State.openLevel_keeps (s : State) (n : Nat) : s.Keeps (State.openLevel s n) := by
  delta State.openLevel; lift_lets -underBinder; intro x; clear_value x; intro x; clear_value x; refine .ite ?_ ?_
  refine .trans ?_ (State.setSafe_keeps ..); exact .refl _; refine .trans ?_ (State.wr_keeps ..); exact .refl _

theorem State.level1_keeps (s : State) (code : List Byte) : s.Keeps (State.level1 s code) := by
  delta State.level1; lift_lets -underBinder; intro x; clear_value x; intro x; clear_value x; intro x; clear_value x
  intro x; clear_value x; intro x; refine .cut (x := x) ?_ ?_; subst x; rotate_left; intro hx; clear_value x
  refine .ite ?_ ?_; refine .trans ?_ (State.sayOk_keeps ..); refine .trans ?_ (State.openLevel_keeps ..); exact .refl _
  refine .ite ?_ ?_; refine .trans ?_ (State.sayErr_keeps ..); exact .refl _; refine .ite ?_ ?_
  refine .trans ?_ (State.sayOk_keeps ..); refine .trans ?_ (State.openLevel_keeps ..); refine .trans ?_ (.of_mk ..)
  exact .refl _; refine .trans ?_ (State.sayErr_keeps ..); refine .ite ?_ ?_; refine .trans ?_ (State.raise_keeps ..)
  refine .trans ?_ (State.wr_keeps ..); assumption; assumption; refine .trans ?_ (State.inc_keeps ..)
  refine .trans ?_ (.of_mk ..); exact .refl _

theorem State.monCell_keeps (s : State) (g : Nat) (op : Nat) (a : Nat) (len : Nat) (data : List Byte) : s.Keeps
    (State.monCell s g op a len data) := by
  delta State.monCell; lift_lets -underBinder; intro x; clear_value x; intro x; clear_value x; refine .ite ?_ ?_
  refine .trans ?_ (State.sayErr_keeps ..); exact .refl _; refine .ite ?_ ?_; refine .trans ?_ (State.sayErr_keeps ..)
  exact .refl _; refine .ite ?_ ?_; refine .trans ?_ (State.say_keeps ..); exact .refl _
  refine .trans ?_ (State.wr_keeps ..); refine .trans ?_ (.of_mk ..); exact .refl _

theorem State.sayBus_keeps (s : State) (c : Nat) : s.Keeps (State.sayBus s c) := by
  delta State.sayBus; refine .trans ?_ (State.say_keeps ..); exact .refl _

theorem State.monDump_keeps (s : State) (x1 : Nat) (x2 : Nat) (x3 : Nat) : s.Keeps (State.monDump s x1 x2 x3) := by
  induction x1 generalizing s x2 x3 with
  | zero => exact State.sayOk_keeps s
  | succ k ih =>
    unfold State.monDump
    refine .ite (State.sayOk_keeps s) ?_
    split
    · exact ((State.readMem_out (by assumption)).trans (State.say_keeps ..)).trans (ih _ _ _)
    · exact (State.readMem_out (by assumption)).trans (State.sayBus_keeps ..)

theorem State.monRd_keeps (s : State) (a : Nat) (host : List Word) (x3 : Nat) : s.Keeps (State.monRd s a host x3) := by
  induction x3 generalizing s a host with
  | zero => exact State.sayOk_keeps s
  | succ k ih =>
    unfold State.monRd
    split
    · exact ((State.busRead_out (by assumption)).trans (State.say_keeps ..)).trans (ih _ _ _)
    · exact (State.busRead_out (by assumption)).trans (State.sayBus_keeps ..)

theorem State.monRing_keeps (s : State) (base : Nat) (step : Nat) (size : Nat) (x4 : Nat) (x5 : Nat) :
    s.Keeps (State.monRing s base step size x4 x5) := by
  induction x4 generalizing s x5 with
  | zero => exact State.sayOk_keeps s
  | succ k ih =>
    unfold State.monRing
    dsimp only
    split
    · exact ((State.readMem_out (by assumption)).trans (State.say_keeps ..)).trans (ih _ _)
    · exact (State.readMem_out (by assumption)).trans (State.sayBus_keeps ..)

theorem State.sayAll_keeps (s : State) (ls : List Line) : s.Keeps (State.sayAll s ls) := by
  delta State.sayAll; refine .trans ?_ (.foldl (fun s x => ?_) _ _); rotate_left; (try lift_lets -underBinder)
  refine .trans ?_ (State.say_keeps ..); exact .refl _; exact .refl _

theorem State.skCmd_keeps (s : State) (g : Nat) (f : State → State) (hf : ∀ x : State, x.Keeps (f x)) : s.Keeps
    (State.skCmd s g f) := by
  delta State.skCmd; refine .ite ?_ ?_; refine .trans ?_ (hf ..); exact .refl _; exact .refl _

theorem State.skSay_keeps (s : State) (g : Nat) (l : Line) : s.Keeps (State.skSay s g l) := by
  delta State.skSay; refine .trans ?_ (State.emit_keeps ..); exact .refl _

theorem State.skDump_keeps (s : State) (g : Nat) (x2 : Nat) (x3 : Nat) (x4 : Nat) : s.Keeps (State.skDump s g x2 x3 x4) := by
  induction x2 generalizing s x3 x4 with
  | zero => exact State.skSay_keeps ..
  | succ k ih =>
    exact .ite (State.skSay_keeps ..) (.ite ((State.skSay_keeps ..).trans (ih _ _ _)) (State.skSay_keeps ..))

theorem State.skLevel_keeps (s : State) (g : Nat) (n : Nat) (code : List Byte) : s.Keeps (State.skLevel s g n code) := by
  delta State.skLevel; lift_lets -underBinder; intro x; intro x; clear_value x; intro x; clear_value x
  intro x; clear_value x; intro x; refine .cut (x := x) ?_ ?_; subst x; rotate_left; intro hx; clear_value x
  refine .ite ?_ ?_; refine .trans ?_ (State.skSay_keeps ..); exact .refl _; refine .ite ?_ ?_
  refine .trans ?_ (State.skSay_keeps ..); exact .refl _; refine .ite ?_ ?_; refine .trans ?_ (State.skSay_keeps ..)
  exact .refl _; refine .ite ?_ ?_; refine .trans ?_ (State.skSay_keeps ..)
  refine .trans ?_ (State.onCell_keeps _ _ _ ?_); rotate_left; beta_reduce; (try lift_lets -underBinder)
  refine .trans ?_ (Skerry.wr_keeps ..); refine .trans ?_ (.of_mk ..); exact .refl _
  refine .trans ?_ (State.skSay_keeps ..); assumption
  refine .trans ?_ (State.onCell_keeps _ _ _ ?_); rotate_left; beta_reduce; (try lift_lets -underBinder)
  intro x; refine .cut (x := x) ?_ ?_; subst x; rotate_left; intro hx; clear_value x; refine .ite ?_ ?_
  refine .trans ?_ (Skerry.wr_keeps ..); assumption; assumption; exact .refl _; exact .refl _
  refine .trans ?_ (Skerry.inc_keeps ..); refine .trans ?_ (.of_mk ..); exact .refl _

theorem State.skRd_keeps (s : State) (g : Nat) (a : Nat) (x3 : Nat) : s.Keeps (State.skRd s g a x3) := by
  induction x3 generalizing s a with
  | zero => exact State.skSay_keeps ..
  | succ k ih =>
    unfold State.skRd
    split
    · exact ((State.onCell_keeps _ _ _ (Skerry.readWord_keeps ..)).trans (State.skSay_keeps ..)).trans (ih _ _)
    · exact State.skSay_keeps ..

theorem State.skService_keeps (s : State) (g : Nat) (f : State → State) (hf : ∀ x : State, x.Keeps (f x)) : s.Keeps
    (State.skService s g f) := by
  delta State.skService
  refine .trans ?_ (State.skCmd_keeps _ _ _ (fun _ => ?_)); rotate_left; beta_reduce; (try lift_lets -underBinder)
  refine .ite ?_ ?_; refine .trans ?_ (hf ..); exact .refl _; refine .trans ?_ (State.skSay_keeps ..)
  refine .trans ?_ (State.onCell_keeps _ _ _ ?_); rotate_left; beta_reduce; (try lift_lets -underBinder)
  refine .trans ?_ (Skerry.inc_keeps ..); exact .refl _; exact .refl _; exact .refl _

theorem execCellLog_answers (g : Nat) (off : Nat) (s : State) : s.Answers (execCellLog g off s) := by
  delta execCellLog; refine .next ?_
  refine .trans ?_ (State.atLevel_keeps _ _ _ (fun _ => ?_)); rotate_left; beta_reduce; (try lift_lets -underBinder)
  refine .trans ?_ (State.monCell_keeps ..); exact .refl _; exact .refl _

theorem execCellRd_answers (g : Nat) (a : Nat) (n : Nat) (s : State) : s.Answers (execCellRd g a n s) := by
  delta execCellRd; refine .next ?_
  refine .trans ?_ (State.atLevel_keeps _ _ _ (fun _ => ?_)); rotate_left; beta_reduce; (try lift_lets -underBinder)
  refine .ite ?_ ?_; refine .trans ?_ (State.sayErr_keeps ..); exact .refl _; refine .trans ?_ (State.monCell_keeps ..)
  exact .refl _; exact .refl _

theorem execCellReset_answers (g : Nat) (s : State) : s.Answers (execCellReset g s) := by
  delta execCellReset; refine .next ?_
  refine .trans ?_ (State.atLevel_keeps _ _ _ (fun _ => ?_)); rotate_left; beta_reduce; (try lift_lets -underBinder)
  refine .trans ?_ (State.monCell_keeps ..); exact .refl _; exact .refl _

theorem execCellWr_answers (g : Nat) (a : Nat) (v : Word) (s : State) : s.Answers (execCellWr g a v s) := by
  delta execCellWr; refine .next ?_
  refine .trans ?_ (State.atLevel_keeps _ _ _ (fun _ => ?_)); rotate_left; beta_reduce; (try lift_lets -underBinder)
  refine .trans ?_ (State.monCell_keeps ..); exact .refl _; exact .refl _

theorem execChart_answers (s : State) : s.Answers (execChart s) := by
  delta execChart; refine .next ?_
  refine .trans ?_ (State.atLevel_keeps _ _ _ (fun _ => ?_)); rotate_left; beta_reduce; (try lift_lets -underBinder)
  intro x; refine .cut (x := x) ?_ ?_; subst x; rotate_left; intro hx; clear_value x
  refine .trans ?_ (State.sayOk_keeps ..); refine .trans ?_ (State.sayAll_keeps ..); assumption; exact .refl _
  refine .trans ?_ (State.say_keeps ..); exact .refl _

theorem execChartSec_answers (ty : Nat) (inst : Nat) (s : State) : s.Answers (execChartSec ty inst s) := by
  delta execChartSec; refine .next ?_
  refine .trans ?_ (State.atLevel_keeps _ _ _ (fun _ => ?_)); rotate_left; beta_reduce; (try lift_lets -underBinder)
  intro x; clear_value x; refine .ite ?_ ?_; refine .trans ?_ (State.sayOk_keeps ..)
  refine .trans ?_ (State.say_keeps ..); exact .refl _; refine .trans ?_ (State.sayErr_keeps ..); exact .refl _
  exact .refl _

theorem execDump_answers (c : Chip) (a : Nat) (n : Nat) (s : State) : s.Answers (execDump c a n s) := by
  delta execDump; split; refine .next ?_
  refine .trans ?_ (State.atLevel_keeps _ _ _ (fun _ => ?_)); rotate_left; beta_reduce; (try lift_lets -underBinder)
  refine .ite ?_ ?_; refine .trans ?_ (State.sayErr_keeps ..); exact .refl _; refine .trans ?_ (State.monDump_keeps ..)
  exact .refl _; refine .next ?_
  refine .trans ?_ (State.skCmd_keeps _ _ _ (fun _ => ?_)); rotate_left; beta_reduce; (try lift_lets -underBinder)
  refine .ite ?_ ?_; refine .trans ?_ (State.skSay_keeps ..); exact .refl _; refine .trans ?_ (State.skDump_keeps ..)
  exact .refl _; exact .refl _; exact .refl _

theorem execKeyProg_answers (k : Nat) (key : List Byte) (s : State) : s.Answers (execKeyProg k key s) := by
  delta execKeyProg; refine .next ?_
  refine .trans ?_ (State.atLevel_keeps _ _ _ (fun _ => ?_)); rotate_left; beta_reduce; (try lift_lets -underBinder)
  intro x; clear_value x; intro x; clear_value x; refine .ite ?_ ?_; refine .trans ?_ (State.sayErr_keeps ..)
  exact .refl _; refine .ite ?_ ?_; refine .trans ?_ (State.sayErr_keeps ..); exact .refl _
  refine .trans ?_ (State.sayOk_keeps ..); refine .trans ?_ (State.wr_keeps ..); refine .trans ?_ (.of_mk ..)
  exact .refl _; exact .refl _

theorem execKeyRevoke_answers (k : Nat) (s : State) : s.Answers (execKeyRevoke k s) := by
  delta execKeyRevoke; refine .next ?_
  refine .trans ?_ (State.atLevel_keeps _ _ _ (fun _ => ?_)); rotate_left; beta_reduce; (try lift_lets -underBinder)
  intro x; clear_value x; intro x; clear_value x; refine .ite ?_ ?_; refine .trans ?_ (State.sayErr_keeps ..)
  exact .refl _; refine .trans ?_ (State.sayOk_keeps ..); refine .trans ?_ (State.wr_keeps ..)
  refine .trans ?_ (.of_mk ..); exact .refl _; exact .refl _

theorem execLevel_answers (c : Chip) (n : Nat) (code : List Byte) (s : State) : s.Answers (execLevel c n code s) := by
  delta execLevel; split; refine .next ?_
  refine .trans ?_ (State.monCmd_keeps _ _ (fun _ => ?_)); rotate_left; beta_reduce; (try lift_lets -underBinder)
  refine .ite ?_ ?_; refine .trans ?_ (State.sayErr_keeps ..); exact .refl _; refine .ite ?_ ?_
  refine .trans ?_ (State.level1_keeps ..); exact .refl _; refine .ite ?_ ?_; refine .ite ?_ ?_
  refine .trans ?_ (State.monDenied_keeps ..); exact .refl _; refine .ite ?_ ?_; refine .trans ?_ (State.sayOk_keeps ..)
  refine .trans ?_ (State.openLevel_keeps ..); exact .refl _; refine .trans ?_ (State.sayErr_keeps ..); exact .refl _
  refine .trans ?_ (State.sayErr_keeps ..); exact .refl _; refine .next ?_
  refine .trans ?_ (State.skCmd_keeps _ _ _ (fun _ => ?_)); rotate_left; beta_reduce; (try lift_lets -underBinder)
  refine .trans ?_ (State.skLevel_keeps ..); exact .refl _; exact .refl _; exact .refl _

theorem execMonIdleTimeout_answers (c : Chip) (s : State) : s.Answers (execMonIdleTimeout c s) := by
  delta execMonIdleTimeout; split; refine .next ?_; refine .trans ?_ (State.toView_keeps ..); exact .refl _
  refine .next ?_; exact .refl _

theorem execMonLockoutEnd_answers (c : Chip) (s : State) : s.Answers (execMonLockoutEnd c s) := by
  delta execMonLockoutEnd; split; refine .next ?_; refine .trans ?_ (State.wr_keeps ..); exact .refl _; refine .next ?_
  refine .trans ?_ (State.onCell_keeps _ _ _ ?_); rotate_left; beta_reduce; (try lift_lets -underBinder)
  refine .ite ?_ ?_; refine .trans ?_ (Skerry.wr_keeps ..); exact .refl _; exact .refl _; exact .refl _

theorem execMonLog_answers (g : Nat) (off : Nat) (s : State) : s.Answers (execMonLog g off s) := by
  delta execMonLog; refine .next ?_
  refine .trans ?_ (State.skCmd_keeps _ _ _ (fun _ => ?_)); rotate_left; beta_reduce; (try lift_lets -underBinder)
  refine .ite ?_ ?_; refine .trans ?_ (State.skSay_keeps ..); exact .refl _; refine .trans ?_ (State.skSay_keeps ..)
  refine .trans ?_ (State.skSay_keeps ..); exact .refl _; exact .refl _

theorem execOff_answers (s : State) : s.Answers (execOff s) := by
  delta execOff; refine .next ?_
  refine .trans ?_ (State.atLevel_keeps _ _ _ (fun _ => ?_)); rotate_left; beta_reduce; (try lift_lets -underBinder)
  refine .trans ?_ (State.monDisable_keeps ..); refine .trans ?_ (State.sayOk_keeps ..); exact .refl _; exact .refl _

theorem execPartialLineTimeout_answers (x0 : Chip) (s : State) : s.Answers (execPartialLineTimeout x0 s) := by
  delta execPartialLineTimeout; refine .next ?_; exact .refl _

theorem execQuit_answers (c : Chip) (s : State) : s.Answers (execQuit c s) := by
  delta execQuit; split; refine .next ?_
  refine .trans ?_ (State.monCmd_keeps _ _ (fun _ => ?_)); rotate_left; beta_reduce; (try lift_lets -underBinder)
  refine .trans ?_ (State.sayOk_keeps ..); refine .trans ?_ (State.toView_keeps ..); exact .refl _; refine .next ?_
  refine .trans ?_ (State.skCmd_keeps _ _ _ (fun _ => ?_)); rotate_left; beta_reduce; (try lift_lets -underBinder)
  refine .trans ?_ (State.skSay_keeps ..)
  refine .trans ?_ (State.onCell_keeps _ _ _ ?_); rotate_left; beta_reduce; (try lift_lets -underBinder)
  refine .trans ?_ (Skerry.wr_keeps ..); exact .refl _; exact .refl _; exact .refl _; exact .refl _

theorem execRd_answers (c : Chip) (a : Nat) (n : Nat) (host : List Word) (s : State) : s.Answers (execRd c a n host s) :=
    by
  delta execRd; split; refine .next ?_
  refine .trans ?_ (State.atLevel_keeps _ _ _ (fun _ => ?_)); rotate_left; beta_reduce; (try lift_lets -underBinder)
  refine .ite ?_ ?_; refine .trans ?_ (State.sayErr_keeps ..); exact .refl _; refine .trans ?_ (State.monRd_keeps ..)
  exact .refl _; refine .next ?_
  refine .trans ?_ (State.skCmd_keeps _ _ _ (fun _ => ?_)); rotate_left; beta_reduce; (try lift_lets -underBinder)
  refine .ite ?_ ?_; refine .trans ?_ (State.skSay_keeps ..); exact .refl _; refine .trans ?_ (State.skRd_keeps ..)
  exact .refl _; exact .refl _; exact .refl _

theorem execTraceSched_answers (n : Nat) (s : State) : s.Answers (execTraceSched n s) := by
  delta execTraceSched; refine .next ?_
  refine .trans ?_ (State.atLevel_keeps _ _ _ (fun _ => ?_)); rotate_left; beta_reduce; (try lift_lets -underBinder)
  intro x; clear_value x; intro x; clear_value x; refine .ite ?_ ?_; refine .trans ?_ (State.sayErr_keeps ..)
  exact .refl _; refine .trans ?_ (State.monRing_keeps ..); exact .refl _; exact .refl _

theorem execTraceTap_answers (u : Nat) (s : State) : s.Answers (execTraceTap u s) := by
  delta execTraceTap; refine .next ?_
  refine .trans ?_ (State.atLevel_keeps _ _ _ (fun _ => ?_)); rotate_left; beta_reduce; (try lift_lets -underBinder)
  intro x; refine .cut (x := x) ?_ ?_; subst x; rotate_left; intro hx; clear_value x; refine .ite ?_ ?_
  refine .trans ?_ (State.sayErr_keeps ..); exact .refl _; refine .trans ?_ (State.monRing_keeps ..); assumption
  exact .refl _; refine .trans ?_ (State.say_keeps ..); exact .refl _

theorem execUnknownCommand_answers (c : Chip) (empty : Bool) (s : State) : s.Answers (execUnknownCommand c empty s) := by
  delta execUnknownCommand; lift_lets -underBinder; intro x; clear_value x; split; refine .next ?_; refine .ite ?_ ?_
  exact .refl _; refine .ite ?_ ?_; refine .trans ?_ (State.monLate_keeps ..); exact .refl _
  refine .trans ?_ (State.say_keeps ..); exact .refl _; refine .next ?_
  refine .trans ?_ (State.skCmd_keeps _ _ _ (fun _ => ?_)); rotate_left; beta_reduce; (try lift_lets -underBinder)
  refine .trans ?_ (State.skSay_keeps ..); exact .refl _; exact .refl _

theorem execWr_answers (c : Chip) (a : Nat) (v : Word) (still : List Nat) (s : State) : s.Answers (execWr c a v still s)
    := by
  delta execWr; split; refine .next ?_
  refine .trans ?_ (State.atLevel_keeps _ _ _ (fun _ => ?_)); rotate_left; beta_reduce; (try lift_lets -underBinder)
  split
  refine .trans ?_ (State.sayOk_keeps ..); refine .trans ?_ (State.busWrite_out (by assumption)); exact .refl _
  refine .trans ?_ (State.sayBus_keeps ..); refine .trans ?_ (State.busWrite_out (by assumption)); exact .refl _
  refine .next ?_
  refine .trans ?_ (State.skService_keeps _ _ _ (fun _ => ?_)); rotate_left; beta_reduce; (try lift_lets -underBinder)
  intro x; clear_value x; intro x; refine .cut (x := x) ?_ ?_; subst x; rotate_left; intro hx; clear_value x
  refine .trans ?_ (State.skSay_keeps ..); assumption; exact .refl _; exact .refl _
  refine .trans ?_ (State.onCell_keeps _ _ _ ?_); rotate_left; beta_reduce; (try lift_lets -underBinder)
  refine .trans ?_ (Skerry.writeWord_keeps ..); exact .refl _; exact .refl _

end Sys2Proof.Machine
end

