-- ==== Sys2Proof/Laws/KeepsH.lean ====
section
/-! SUPPORT. Every operation and every command of Machine/Period.lean, Send.lean, SkCommit.lean, SkFreight.lean keeps the queue and the canonical forms: one lemma each. -/

namespace Sys2Proof.Machine
open Sys2Proof

theorem Skerry.cycleEnd_keeps (k : Skerry) (f : Nat → Int) : k.Keeps (Skerry.cycleEnd k f) := by
  delta Skerry.cycleEnd; lift_lets -underBinder
  intro x; refine .cut (x := x) ?_ ?_; subst x; rotate_left; intro hx; clear_value x
  refine .trans ?_ (Skerry.setCmd_keeps ..); refine .ite ?_ ?_; refine .trans ?_ (Skerry.wr_keeps ..); assumption
  assumption; refine .trans ?_ (Skerry.convCycle_keeps ..); exact .refl _

theorem State.subWindow_keeps (s : State) (dur : Nat) (qs : List (Nat × Int × Int)) : s.Keeps (State.subWindow s dur qs)
    := by
  delta State.subWindow; lift_lets -underBinder
  intro x; refine .cut (x := x) ?_ ?_; subst x; rotate_left; intro hx; clear_value x
  refine .trans ?_ (State.convBoundary_keeps ..); refine .trans ?_ (State.tapsAt_keeps ..); refine .ite ?_ ?_
  assumption; refine .trans ?_ (.foldl (fun s x => ?_) _ _); rotate_left; (try lift_lets -underBinder)
  refine .trans ?_ (State.armSub_keeps ..); exact .refl _; refine .trans ?_ (State.engsAt_keeps ..)
  refine .trans ?_ (State.convFast_keeps ..); exact .refl _; assumption

theorem execControlPeriodStart_answers (s : State) : s.Answers (execControlPeriodStart s) := by
  delta execControlPeriodStart; lift_lets -underBinder
  intro x; refine .cut (x := x) ?_ ?_; subst x; rotate_left; intro hx; clear_value x; refine .ite ?_ ?_; refine .next ?_
  exact .refl _; refine .next ?_; refine .trans ?_ (State.fireRoute_keeps ..); refine .trans ?_ (State.setReef_keeps ..)
  refine .ite ?_ ?_; assumption; refine .trans ?_ (State.loopPass_keeps ..)
  refine .trans ?_ (State.profAngles_keeps ..); refine .trans ?_ (State.takeSwap_keeps ..)
  refine .trans ?_ (State.takeSinks_keeps ..); assumption; refine .trans ?_ (State.engsAt_keeps ..)
  refine .trans ?_ (State.convPeriod_keeps ..); exact .refl _

theorem execPartResendTimeout_answers (g : Nat) (s : State) : s.Answers (execPartResendTimeout g s) := by
  delta execPartResendTimeout; lift_lets -underBinder; intro x; clear_value x; refine .ite ?_ ?_; refine .next ?_
  refine .trans ?_ (State.partStart_keeps ..); exact .refl _; refine .next ?_; exact .refl _

theorem execSubwindowEnd_answers (c : Chip) (dur : Nat) (qs : List (Nat × Int × Int)) (last : Bool) (gs : Nat) (fb : Bool)
    (s : State) : s.Answers (execSubwindowEnd c dur qs last gs fb s) := by
  delta execSubwindowEnd; split; refine .ite ?_ ?_; refine .next ?_; refine .trans ?_ (State.subWindow_keeps ..)
  exact .refl _; refine .next ?_; exact .refl _; lift_lets -underBinder
  intro x; subst x; (try beta_reduce); (try lift_lets -underBinder); refine .next ?_
  refine .trans ?_ (State.codesUsed_keeps ..)
  refine .trans ?_ (State.runCell_keeps _ _ _ (fun _ => ?_)); rotate_left; beta_reduce; (try lift_lets -underBinder)
  intro x; refine .cut (x := x) ?_ ?_; subst x; rotate_left; intro hx; clear_value x; refine .ite ?_ ?_
  refine .trans ?_ (Skerry.cycleEnd_keeps ..); refine .trans ?_ (Skerry.wr_keeps ..)
  refine .trans ?_ (Skerry.wr_keeps ..); assumption; refine .trans ?_ (Skerry.wr_keeps ..)
  refine .trans ?_ (Skerry.wr_keeps ..); assumption; exact .refl _; refine .trans ?_ (Skerry.convSub_keeps ..)
  exact .refl _

theorem State.anchorStart_keeps (s : State) : s.Keeps (State.anchorStart s) := by
  delta State.anchorStart; lift_lets -underBinder; intro x; clear_value x; intro x; clear_value x; refine .ite ?_ ?_
  refine .trans ?_ (State.setTim_keeps ..); refine .trans ?_ (State.wr_keeps ..); refine .trans ?_ (State.wr_keeps ..)
  exact .refl _; exact .refl _

theorem State.armStart_keeps (s : State) (a : Nat) : s.Keeps (State.armStart s a) := by
  delta State.armStart; lift_lets -underBinder; intro x; clear_value x; refine .trans ?_ (State.setArm_keeps ..)
  exact .refl _

theorem State.sendTails_keeps (s : State) : s.Keeps (State.sendTails s) := by
  delta State.sendTails; lift_lets -underBinder; intro x; clear_value x; refine .trans ?_ (State.setCws_keeps ..)
  refine .trans ?_ (.foldl (fun s x => ?_) _ _); rotate_left; (try lift_lets -underBinder)
  refine .trans ?_ (State.emit_keeps ..); exact .refl _; exact .refl _

theorem State.injectStart_keeps (s : State) : s.Keeps (State.injectStart s) := by
  delta State.injectStart; lift_lets -underBinder; intro x; clear_value x; refine .ite ?_ ?_
  refine .trans ?_ (State.blockAll_keeps ..); exact .refl _; exact .refl _

theorem State.reefStart_keeps (s : State) : s.Keeps (State.reefStart s) := by
  delta State.reefStart; lift_lets -underBinder; intro x; clear_value x; intro x; clear_value x
  intro x; refine .cut (x := x) ?_ ?_; subst x; rotate_left; intro hx; clear_value x
  refine .trans ?_ (State.resortStart_keeps ..)
  refine .trans ?_ (.foldl (fun s x => ?_) _ _); rotate_left; (try lift_lets -underBinder); intro x; clear_value x
  refine .trans ?_ (State.setRec_keeps ..); exact .refl _; refine .trans ?_ (State.setReef_keeps ..); exact .refl _
  refine .trans ?_ (.foldl (fun s x => ?_) _ _); rotate_left; (try lift_lets -underBinder)
  refine .trans ?_ (State.armStart_keeps ..); exact .refl _; assumption

theorem State.wayFreight_keeps (s : State) (c : Nat) : s.Keeps (State.wayFreight s c).2.2 := by
  delta State.wayFreight; split; lift_lets -underBinder; intro x; clear_value x; intro x; clear_value x; dsimp only
  refine .trans ?_ (State.setRec_keeps ..); exact .refl _; split; dsimp only; exact .refl _; split; dsimp only
  refine .trans ?_ (State.descPut_keeps ..); refine .trans ?_ (State.setJob_keeps ..); exact .refl _; split
  lift_lets -underBinder; intro x; refine .cut (x := x) ?_ ?_; subst x; rotate_left; intro hx; clear_value x; split
  dsimp only; assumption; dsimp only; assumption; dsimp only; exact .refl _; refine .trans ?_ (State.setJob_keeps ..)
  exact .refl _

theorem State.wayFreight_out {r_} {r2_} {t_ : State} {s : State} {c : Nat} (h_ : State.wayFreight s c = (r_, r2_, t_)) :
    s.Keeps t_ := by
  have := State.wayFreight_keeps s c; rwa [h_] at this

theorem State.sendLane_keeps (s : State) (n : Nat) (c : Nat) (st : Stage) (half : Nat → Berth) (fr : Freight) : s.Keeps
    (State.sendLane s n c st half fr) := by
  delta State.sendLane; lift_lets -underBinder; intro x; clear_value x; intro x; clear_value x; refine .ite ?_ ?_
  exact .refl _; refine .trans ?_ (State.setCws_keeps ..); refine .trans ?_ (State.emit_keeps ..); exact .refl _

theorem State.sendActive_keeps (s : State) (st : Stage) (plan : List (Nat × Berth)) (c : Nat) (hand : List (Nat × List
    Byte)) : s.Keeps (State.sendActive s st plan c hand).1 := by
  delta State.sendActive; split; lift_lets -underBinder
  intro x; refine .cut (x := x) ?_ ?_; subst x; rotate_left; intro hx; clear_value x; dsimp only; assumption
  refine .trans ?_ (.foldl (fun s x => ?_) _ _); rotate_left; (try lift_lets -underBinder)
  refine .trans ?_ (State.sendLane_keeps ..); exact .refl _; refine .trans ?_ (State.wayFreight_out (by assumption))
  exact .refl _

theorem State.sendActive_out {r_} {t_ : State} {s : State} {st : Stage} {plan : List (Nat × Berth)} {c : Nat} {hand : List
    (Nat × List Byte)} (h_ : State.sendActive s st plan c hand = (t_, r_)) : s.Keeps t_ := by
  have := State.sendActive_keeps s st plan c hand; rwa [h_] at this

theorem State.sendCopy_keeps (s : State) : s.Keeps (State.sendCopy s) := by
  delta State.sendCopy; lift_lets -underBinder; intro x; clear_value x; intro x; clear_value x; intro x; clear_value x
  refine .ite ?_ ?_; refine .trans ?_ (.foldl (fun s x => ?_) _ _); rotate_left; (try lift_lets -underBinder)
  intro x; clear_value x; intro x; clear_value x; intro x; clear_value x; refine .ite ?_ ?_; exact .refl _
  refine .trans ?_ (State.setRed_keeps ..); refine .trans ?_ (State.emit_keeps ..); exact .refl _
  refine .trans ?_ (State.setRed_keeps ..); exact .refl _; exact .refl _

theorem State.stageKept_keeps (s : State) (plan : List (Nat × Berth)) : s.Keeps (State.stageKept s plan) := by
  delta State.stageKept; lift_lets -underBinder; intro x; clear_value x; intro x; clear_value x; intro x; clear_value x
  intro x; refine .cut (x := x) ?_ ?_; subst x; rotate_left; intro hx; clear_value x; refine .ite ?_ ?_; exact .refl _
  refine .trans ?_ (State.wr_keeps ..); refine .trans ?_ (State.wr_keeps ..); refine .trans ?_ (State.wr_keeps ..)
  assumption; refine .trans ?_ (State.setReef_keeps ..); exact .refl _

theorem State.sendRelay_keeps (s : State) (st : Stage) (plan : List (Nat × Berth)) (hand : List (Nat × List Byte)) :
    s.Keeps (State.sendRelay s st plan hand).1 := by
  delta State.sendRelay; lift_lets -underBinder; intro x; clear_value x
  intro x; refine .cut (x := x) ?_ ?_; subst x; rotate_left; intro hx; clear_value x; split; dsimp only; assumption
  dsimp only; refine .trans ?_ (.foldl (fun s x => ?_) _ _); rotate_left; (try lift_lets -underBinder); split
  refine .trans ?_ (State.setJob_keeps ..); exact .refl _; exact .refl _
  refine .trans ?_ (.foldl (fun s x => ?_) _ _); rotate_left; (try lift_lets -underBinder)
  refine .trans ?_ (State.wr_keeps ..); exact .refl _; refine .trans ?_ (State.cnt_keeps ..)
  refine .trans ?_ (.foldl (fun s x => ?_) _ _); rotate_left; (try lift_lets -underBinder)
  refine .trans ?_ (State.emit_keeps ..); exact .refl _; exact .refl _; assumption

theorem State.sendRelay_out {r_} {t_ : State} {s : State} {st : Stage} {plan : List (Nat × Berth)} {hand : List (Nat ×
    List Byte)} (h_ : State.sendRelay s st plan hand = (t_, r_)) : s.Keeps t_ := by
  have := State.sendRelay_keeps s st plan hand; rwa [h_] at this

theorem State.sendStandby_keeps (s : State) (c : Nat) : s.Keeps (State.sendStandby s c) := by
  delta State.sendStandby; lift_lets -underBinder; intro x; clear_value x; intro x; clear_value x
  intro x; clear_value x; intro x; clear_value x
  intro x; refine .cut (x := x) ?_ ?_; subst x; rotate_left; intro hx; clear_value x
  refine .trans ?_ (State.wr_keeps ..); assumption
  refine .trans ?_ (.foldl (fun s x => ?_) _ _); rotate_left; (try lift_lets -underBinder)
  refine .trans ?_ (State.sendLane_keeps ..); exact .refl _; exact .refl _

theorem State.sendFerries_keeps (s : State) : s.Keeps (State.sendFerries s) := by
  delta State.sendFerries; lift_lets -underBinder; intro x; clear_value x
  intro x; refine .cut (x := x) ?_ ?_; subst x; rotate_left; intro hx; clear_value x; refine .ite ?_ ?_; split
  refine .ite ?_ ?_
  refine .trans ?_ (.of_foldl_fst (fun b x => ?_) (by assumption)); rotate_left; beta_reduce; (try lift_lets -underBinder)
  refine .trans ?_ (State.sendActive_keeps ..); exact .refl _; split; refine .ite ?_ ?_
  refine .trans ?_ (State.sendRelay_out (by assumption))
  refine .trans ?_ (.of_foldl_fst (fun b x => ?_) (by assumption)); rotate_left; beta_reduce; (try lift_lets -underBinder)
  refine .trans ?_ (State.sendActive_keeps ..); exact .refl _; refine .trans ?_ (State.sendCopy_keeps ..)
  refine .trans ?_ (State.sendRelay_out (by assumption))
  refine .trans ?_ (.of_foldl_fst (fun b x => ?_) (by assumption)); rotate_left; beta_reduce; (try lift_lets -underBinder)
  refine .trans ?_ (State.sendActive_keeps ..); exact .refl _; refine .trans ?_ (State.setRed_keeps ..)
  refine .trans ?_ (.foldl (fun s x => ?_) _ _); rotate_left; (try lift_lets -underBinder)
  refine .trans ?_ (State.sendStandby_keeps ..); exact .refl _; refine .trans ?_ (State.setCws_keeps ..); exact .refl _
  dsimp only; refine .trans ?_ (State.stageKept_keeps ..); assumption; dsimp only
  refine .trans ?_ (State.stageKept_keeps ..); assumption; dsimp only; refine .trans ?_ (State.stageKept_keeps ..)
  assumption; assumption

theorem State.sendPartners_keeps (s : State) : s.Keeps (State.sendPartners s) := by
  delta State.sendPartners; lift_lets -underBinder
  intro x; refine .cut (x := x) ?_ ?_; subst x; rotate_left; intro hx; clear_value x; refine .ite ?_ ?_; exact .refl _
  refine .trans ?_ (State.setTim_keeps ..); assumption
  refine .trans ?_ (.foldl (fun s x => ?_) _ _); rotate_left; (try lift_lets -underBinder)
  refine .trans ?_ (State.noteSent_keeps ..); refine .trans ?_ (State.emit_keeps ..); exact .refl _; exact .refl _

theorem State.takeoverStart_keeps (s : State) : s.Keeps (State.takeoverStart s) := by
  delta State.takeoverStart; refine .ite ?_ ?_; refine .trans ?_ (State.takeover_keeps ..); exact .refl _; exact .refl _

theorem execFerryCycleStart_answers (s : State) : s.Answers (execFerryCycleStart s) := by
  delta execFerryCycleStart; lift_lets -underBinder; intro x; refine .cut (x := x) ?_ ?_; subst x; rotate_left; intro hx
  refine .next ?_; refine .ite ?_ ?_; refine .trans ?_ (State.fireRoute_keeps ..)
  refine .trans ?_ (State.injectStart_keeps ..); refine .ite ?_ ?_
  refine .trans ?_ (.foldl (fun s x => ?_) _ _); rotate_left; (try lift_lets -underBinder)
  refine .trans ?_ (State.gooseChange_keeps ..); exact .refl _; refine .ite ?_ ?_
  refine .trans ?_ (.foldl (fun s x => ?_) _ _); rotate_left; (try lift_lets -underBinder)
  refine .trans ?_ (State.straitSend_keeps ..); exact .refl _; refine .trans ?_ (State.sendPartners_keeps ..)
  refine .ite ?_ ?_; refine .trans ?_ (State.sendFerries_keeps ..); refine .ite ?_ ?_
  refine .trans ?_ (State.tapsAt_keeps ..); refine .trans ?_ (State.engsAt_keeps ..)
  refine .trans ?_ (State.convCycle_keeps ..); refine .trans ?_ (State.reefStart_keeps ..)
  refine .trans ?_ (State.reefDue_keeps ..); refine .trans ?_ (State.anchorStart_keeps ..); refine .ite ?_ ?_
  refine .trans ?_ (.foldl (fun s x => ?_) _ _); rotate_left; (try lift_lets -underBinder)
  refine .trans ?_ (State.cwClose_keeps ..); exact .refl _; refine .trans ?_ (State.redClose_keeps ..)
  refine .ite ?_ ?_; refine .trans ?_ (State.takeoverStart_keeps ..); refine .trans ?_ (.of_mk ..)
  refine .trans ?_ (State.setTim_keeps ..); assumption; refine .trans ?_ (.of_mk ..)
  refine .trans ?_ (State.setTim_keeps ..); assumption; refine .trans ?_ (State.anchorStart_keeps ..); refine .ite ?_ ?_
  refine .trans ?_ (.foldl (fun s x => ?_) _ _); rotate_left; (try lift_lets -underBinder)
  refine .trans ?_ (State.cwClose_keeps ..); exact .refl _; refine .trans ?_ (State.redClose_keeps ..)
  refine .ite ?_ ?_; refine .trans ?_ (State.takeoverStart_keeps ..); refine .trans ?_ (.of_mk ..)
  refine .trans ?_ (State.setTim_keeps ..); assumption; refine .trans ?_ (.of_mk ..)
  refine .trans ?_ (State.setTim_keeps ..); assumption; refine .ite ?_ ?_; refine .trans ?_ (State.tapsAt_keeps ..)
  refine .trans ?_ (State.engsAt_keeps ..); refine .trans ?_ (State.convCycle_keeps ..)
  refine .trans ?_ (State.reefStart_keeps ..); refine .trans ?_ (State.reefDue_keeps ..)
  refine .trans ?_ (State.anchorStart_keeps ..); refine .ite ?_ ?_
  refine .trans ?_ (.foldl (fun s x => ?_) _ _); rotate_left; (try lift_lets -underBinder)
  refine .trans ?_ (State.cwClose_keeps ..); exact .refl _; refine .trans ?_ (State.redClose_keeps ..)
  refine .ite ?_ ?_; refine .trans ?_ (State.takeoverStart_keeps ..); refine .trans ?_ (.of_mk ..)
  refine .trans ?_ (State.setTim_keeps ..); assumption; refine .trans ?_ (.of_mk ..)
  refine .trans ?_ (State.setTim_keeps ..); assumption; refine .trans ?_ (State.anchorStart_keeps ..); refine .ite ?_ ?_
  refine .trans ?_ (.foldl (fun s x => ?_) _ _); rotate_left; (try lift_lets -underBinder)
  refine .trans ?_ (State.cwClose_keeps ..); exact .refl _; refine .trans ?_ (State.redClose_keeps ..)
  refine .ite ?_ ?_; refine .trans ?_ (State.takeoverStart_keeps ..); refine .trans ?_ (.of_mk ..)
  refine .trans ?_ (State.setTim_keeps ..); assumption; refine .trans ?_ (.of_mk ..)
  refine .trans ?_ (State.setTim_keeps ..); assumption; refine .trans ?_ (State.injectStart_keeps ..); refine .ite ?_ ?_
  refine .trans ?_ (.foldl (fun s x => ?_) _ _); rotate_left; (try lift_lets -underBinder)
  refine .trans ?_ (State.gooseChange_keeps ..); exact .refl _; refine .ite ?_ ?_
  refine .trans ?_ (.foldl (fun s x => ?_) _ _); rotate_left; (try lift_lets -underBinder)
  refine .trans ?_ (State.straitSend_keeps ..); exact .refl _; refine .trans ?_ (State.sendPartners_keeps ..)
  refine .ite ?_ ?_; refine .trans ?_ (State.sendFerries_keeps ..); refine .ite ?_ ?_
  refine .trans ?_ (State.tapsAt_keeps ..); refine .trans ?_ (State.engsAt_keeps ..)
  refine .trans ?_ (State.convCycle_keeps ..); refine .trans ?_ (State.reefStart_keeps ..)
  refine .trans ?_ (State.reefDue_keeps ..); refine .trans ?_ (State.anchorStart_keeps ..); refine .ite ?_ ?_
  refine .trans ?_ (.foldl (fun s x => ?_) _ _); rotate_left; (try lift_lets -underBinder)
  refine .trans ?_ (State.cwClose_keeps ..); exact .refl _; refine .trans ?_ (State.redClose_keeps ..)
  refine .ite ?_ ?_; refine .trans ?_ (State.takeoverStart_keeps ..); refine .trans ?_ (.of_mk ..)
  refine .trans ?_ (State.setTim_keeps ..); assumption; refine .trans ?_ (.of_mk ..)
  refine .trans ?_ (State.setTim_keeps ..); assumption; refine .trans ?_ (State.anchorStart_keeps ..); refine .ite ?_ ?_
  refine .trans ?_ (.foldl (fun s x => ?_) _ _); rotate_left; (try lift_lets -underBinder)
  refine .trans ?_ (State.cwClose_keeps ..); exact .refl _; refine .trans ?_ (State.redClose_keeps ..)
  refine .ite ?_ ?_; refine .trans ?_ (State.takeoverStart_keeps ..); refine .trans ?_ (.of_mk ..)
  refine .trans ?_ (State.setTim_keeps ..); assumption; refine .trans ?_ (.of_mk ..)
  refine .trans ?_ (State.setTim_keeps ..); assumption; refine .ite ?_ ?_; refine .trans ?_ (State.tapsAt_keeps ..)
  refine .trans ?_ (State.engsAt_keeps ..); refine .trans ?_ (State.convCycle_keeps ..)
  refine .trans ?_ (State.reefStart_keeps ..); refine .trans ?_ (State.reefDue_keeps ..)
  refine .trans ?_ (State.anchorStart_keeps ..); refine .ite ?_ ?_
  refine .trans ?_ (.foldl (fun s x => ?_) _ _); rotate_left; (try lift_lets -underBinder)
  refine .trans ?_ (State.cwClose_keeps ..); exact .refl _; refine .trans ?_ (State.redClose_keeps ..)
  refine .ite ?_ ?_; refine .trans ?_ (State.takeoverStart_keeps ..); refine .trans ?_ (.of_mk ..)
  refine .trans ?_ (State.setTim_keeps ..); assumption; refine .trans ?_ (.of_mk ..)
  refine .trans ?_ (State.setTim_keeps ..); assumption; refine .trans ?_ (State.anchorStart_keeps ..); refine .ite ?_ ?_
  refine .trans ?_ (.foldl (fun s x => ?_) _ _); rotate_left; (try lift_lets -underBinder)
  refine .trans ?_ (State.cwClose_keeps ..); exact .refl _; refine .trans ?_ (State.redClose_keeps ..)
  refine .ite ?_ ?_; refine .trans ?_ (State.takeoverStart_keeps ..); refine .trans ?_ (.of_mk ..)
  refine .trans ?_ (State.setTim_keeps ..); assumption; refine .trans ?_ (.of_mk ..)
  refine .trans ?_ (State.setTim_keeps ..); assumption; refine .trans ?_ (State.sendTails_keeps ..); exact .refl _
  refine .ite ?_ ?_; refine .trans ?_ (.foldl (fun s x => ?_) _ _); rotate_left; (try lift_lets -underBinder)
  refine .trans ?_ (State.straitSend_keeps ..); exact .refl _; refine .trans ?_ (State.sendPartners_keeps ..)
  refine .ite ?_ ?_; refine .trans ?_ (State.sendFerries_keeps ..); refine .ite ?_ ?_
  refine .trans ?_ (State.tapsAt_keeps ..); refine .trans ?_ (State.engsAt_keeps ..)
  refine .trans ?_ (State.convCycle_keeps ..); refine .trans ?_ (State.reefStart_keeps ..)
  refine .trans ?_ (State.reefDue_keeps ..); refine .trans ?_ (State.anchorStart_keeps ..); refine .ite ?_ ?_
  refine .trans ?_ (.foldl (fun s x => ?_) _ _); rotate_left; (try lift_lets -underBinder)
  refine .trans ?_ (State.cwClose_keeps ..); exact .refl _; refine .trans ?_ (State.redClose_keeps ..)
  refine .ite ?_ ?_; refine .trans ?_ (State.takeoverStart_keeps ..); refine .trans ?_ (.of_mk ..)
  refine .trans ?_ (State.setTim_keeps ..); assumption; refine .trans ?_ (.of_mk ..)
  refine .trans ?_ (State.setTim_keeps ..); assumption; refine .trans ?_ (State.anchorStart_keeps ..); refine .ite ?_ ?_
  refine .trans ?_ (.foldl (fun s x => ?_) _ _); rotate_left; (try lift_lets -underBinder)
  refine .trans ?_ (State.cwClose_keeps ..); exact .refl _; refine .trans ?_ (State.redClose_keeps ..)
  refine .ite ?_ ?_; refine .trans ?_ (State.takeoverStart_keeps ..); refine .trans ?_ (.of_mk ..)
  refine .trans ?_ (State.setTim_keeps ..); assumption; refine .trans ?_ (.of_mk ..)
  refine .trans ?_ (State.setTim_keeps ..); assumption; refine .ite ?_ ?_; refine .trans ?_ (State.tapsAt_keeps ..)
  refine .trans ?_ (State.engsAt_keeps ..); refine .trans ?_ (State.convCycle_keeps ..)
  refine .trans ?_ (State.reefStart_keeps ..); refine .trans ?_ (State.reefDue_keeps ..)
  refine .trans ?_ (State.anchorStart_keeps ..); refine .ite ?_ ?_
  refine .trans ?_ (.foldl (fun s x => ?_) _ _); rotate_left; (try lift_lets -underBinder)
  refine .trans ?_ (State.cwClose_keeps ..); exact .refl _; refine .trans ?_ (State.redClose_keeps ..)
  refine .ite ?_ ?_; refine .trans ?_ (State.takeoverStart_keeps ..); refine .trans ?_ (.of_mk ..)
  refine .trans ?_ (State.setTim_keeps ..); assumption; refine .trans ?_ (.of_mk ..)
  refine .trans ?_ (State.setTim_keeps ..); assumption; refine .trans ?_ (State.anchorStart_keeps ..); refine .ite ?_ ?_
  refine .trans ?_ (.foldl (fun s x => ?_) _ _); rotate_left; (try lift_lets -underBinder)
  refine .trans ?_ (State.cwClose_keeps ..); exact .refl _; refine .trans ?_ (State.redClose_keeps ..)
  refine .ite ?_ ?_; refine .trans ?_ (State.takeoverStart_keeps ..); refine .trans ?_ (.of_mk ..)
  refine .trans ?_ (State.setTim_keeps ..); assumption; refine .trans ?_ (.of_mk ..)
  refine .trans ?_ (State.setTim_keeps ..); assumption; refine .trans ?_ (State.sendPartners_keeps ..)
  refine .ite ?_ ?_; refine .trans ?_ (State.sendFerries_keeps ..); refine .ite ?_ ?_
  refine .trans ?_ (State.tapsAt_keeps ..); refine .trans ?_ (State.engsAt_keeps ..)
  refine .trans ?_ (State.convCycle_keeps ..); refine .trans ?_ (State.reefStart_keeps ..)
  refine .trans ?_ (State.reefDue_keeps ..); refine .trans ?_ (State.anchorStart_keeps ..); refine .ite ?_ ?_
  refine .trans ?_ (.foldl (fun s x => ?_) _ _); rotate_left; (try lift_lets -underBinder)
  refine .trans ?_ (State.cwClose_keeps ..); exact .refl _; refine .trans ?_ (State.redClose_keeps ..)
  refine .ite ?_ ?_; refine .trans ?_ (State.takeoverStart_keeps ..); refine .trans ?_ (.of_mk ..)
  refine .trans ?_ (State.setTim_keeps ..); assumption; refine .trans ?_ (.of_mk ..)
  refine .trans ?_ (State.setTim_keeps ..); assumption; refine .trans ?_ (State.anchorStart_keeps ..); refine .ite ?_ ?_
  refine .trans ?_ (.foldl (fun s x => ?_) _ _); rotate_left; (try lift_lets -underBinder)
  refine .trans ?_ (State.cwClose_keeps ..); exact .refl _; refine .trans ?_ (State.redClose_keeps ..)
  refine .ite ?_ ?_; refine .trans ?_ (State.takeoverStart_keeps ..); refine .trans ?_ (.of_mk ..)
  refine .trans ?_ (State.setTim_keeps ..); assumption; refine .trans ?_ (.of_mk ..)
  refine .trans ?_ (State.setTim_keeps ..); assumption; refine .ite ?_ ?_; refine .trans ?_ (State.tapsAt_keeps ..)
  refine .trans ?_ (State.engsAt_keeps ..); refine .trans ?_ (State.convCycle_keeps ..)
  refine .trans ?_ (State.reefStart_keeps ..); refine .trans ?_ (State.reefDue_keeps ..)
  refine .trans ?_ (State.anchorStart_keeps ..); refine .ite ?_ ?_
  refine .trans ?_ (.foldl (fun s x => ?_) _ _); rotate_left; (try lift_lets -underBinder)
  refine .trans ?_ (State.cwClose_keeps ..); exact .refl _; refine .trans ?_ (State.redClose_keeps ..)
  refine .ite ?_ ?_; refine .trans ?_ (State.takeoverStart_keeps ..); refine .trans ?_ (.of_mk ..)
  refine .trans ?_ (State.setTim_keeps ..); assumption; refine .trans ?_ (.of_mk ..)
  refine .trans ?_ (State.setTim_keeps ..); assumption; refine .trans ?_ (State.anchorStart_keeps ..); refine .ite ?_ ?_
  refine .trans ?_ (.foldl (fun s x => ?_) _ _); rotate_left; (try lift_lets -underBinder)
  refine .trans ?_ (State.cwClose_keeps ..); exact .refl _; refine .trans ?_ (State.redClose_keeps ..)
  refine .ite ?_ ?_; refine .trans ?_ (State.takeoverStart_keeps ..); refine .trans ?_ (.of_mk ..)
  refine .trans ?_ (State.setTim_keeps ..); assumption; refine .trans ?_ (.of_mk ..)
  refine .trans ?_ (State.setTim_keeps ..); assumption; refine .trans ?_ (State.redClose_keeps ..); refine .ite ?_ ?_
  refine .trans ?_ (State.takeoverStart_keeps ..); refine .trans ?_ (.of_mk ..)
  refine .trans ?_ (State.setTim_keeps ..); assumption; refine .trans ?_ (.of_mk ..)
  refine .trans ?_ (State.setTim_keeps ..); assumption; refine .trans ?_ (State.redClose_keeps ..); refine .ite ?_ ?_
  refine .trans ?_ (State.takeoverStart_keeps ..); refine .trans ?_ (.of_mk ..)
  refine .trans ?_ (State.setTim_keeps ..); assumption; refine .trans ?_ (.of_mk ..)
  refine .trans ?_ (State.setTim_keeps ..); assumption; refine .trans ?_ (State.redClose_keeps ..); refine .ite ?_ ?_
  refine .trans ?_ (State.takeoverStart_keeps ..); refine .trans ?_ (.of_mk ..)
  refine .trans ?_ (State.setTim_keeps ..); assumption; refine .trans ?_ (.of_mk ..)
  refine .trans ?_ (State.setTim_keeps ..); assumption; refine .trans ?_ (State.redClose_keeps ..); refine .ite ?_ ?_
  refine .trans ?_ (State.takeoverStart_keeps ..); refine .trans ?_ (.of_mk ..)
  refine .trans ?_ (State.setTim_keeps ..); assumption; refine .trans ?_ (.of_mk ..)
  refine .trans ?_ (State.setTim_keeps ..); assumption; refine .ite ?_ ?_
  refine .trans ?_ (.foldl (fun s x => ?_) _ _); rotate_left; (try lift_lets -underBinder)
  refine .trans ?_ (State.straitSend_keeps ..); exact .refl _; refine .trans ?_ (State.sendPartners_keeps ..)
  refine .ite ?_ ?_; refine .trans ?_ (State.sendFerries_keeps ..); refine .ite ?_ ?_
  refine .trans ?_ (State.tapsAt_keeps ..); refine .trans ?_ (State.engsAt_keeps ..)
  refine .trans ?_ (State.convCycle_keeps ..); refine .trans ?_ (State.reefStart_keeps ..)
  refine .trans ?_ (State.reefDue_keeps ..); refine .trans ?_ (State.anchorStart_keeps ..); refine .ite ?_ ?_
  refine .trans ?_ (.foldl (fun s x => ?_) _ _); rotate_left; (try lift_lets -underBinder)
  refine .trans ?_ (State.cwClose_keeps ..); exact .refl _; refine .trans ?_ (State.redClose_keeps ..)
  refine .ite ?_ ?_; refine .trans ?_ (State.takeoverStart_keeps ..); refine .trans ?_ (.of_mk ..)
  refine .trans ?_ (State.setTim_keeps ..); assumption; refine .trans ?_ (.of_mk ..)
  refine .trans ?_ (State.setTim_keeps ..); assumption; refine .trans ?_ (State.anchorStart_keeps ..); refine .ite ?_ ?_
  refine .trans ?_ (.foldl (fun s x => ?_) _ _); rotate_left; (try lift_lets -underBinder)
  refine .trans ?_ (State.cwClose_keeps ..); exact .refl _; refine .trans ?_ (State.redClose_keeps ..)
  refine .ite ?_ ?_; refine .trans ?_ (State.takeoverStart_keeps ..); refine .trans ?_ (.of_mk ..)
  refine .trans ?_ (State.setTim_keeps ..); assumption; refine .trans ?_ (.of_mk ..)
  refine .trans ?_ (State.setTim_keeps ..); assumption; refine .ite ?_ ?_; refine .trans ?_ (State.tapsAt_keeps ..)
  refine .trans ?_ (State.engsAt_keeps ..); refine .trans ?_ (State.convCycle_keeps ..)
  refine .trans ?_ (State.reefStart_keeps ..); refine .trans ?_ (State.reefDue_keeps ..)
  refine .trans ?_ (State.anchorStart_keeps ..); refine .ite ?_ ?_
  refine .trans ?_ (.foldl (fun s x => ?_) _ _); rotate_left; (try lift_lets -underBinder)
  refine .trans ?_ (State.cwClose_keeps ..); exact .refl _; refine .trans ?_ (State.redClose_keeps ..)
  refine .ite ?_ ?_; refine .trans ?_ (State.takeoverStart_keeps ..); refine .trans ?_ (.of_mk ..)
  refine .trans ?_ (State.setTim_keeps ..); assumption; refine .trans ?_ (.of_mk ..)
  refine .trans ?_ (State.setTim_keeps ..); assumption; refine .trans ?_ (State.anchorStart_keeps ..); refine .ite ?_ ?_
  refine .trans ?_ (.foldl (fun s x => ?_) _ _); rotate_left; (try lift_lets -underBinder)
  refine .trans ?_ (State.cwClose_keeps ..); exact .refl _; refine .trans ?_ (State.redClose_keeps ..)
  refine .ite ?_ ?_; refine .trans ?_ (State.takeoverStart_keeps ..); refine .trans ?_ (.of_mk ..)
  refine .trans ?_ (State.setTim_keeps ..); assumption; refine .trans ?_ (.of_mk ..)
  refine .trans ?_ (State.setTim_keeps ..); assumption; refine .trans ?_ (State.sendPartners_keeps ..)
  refine .ite ?_ ?_; refine .trans ?_ (State.sendFerries_keeps ..); refine .ite ?_ ?_
  refine .trans ?_ (State.tapsAt_keeps ..); refine .trans ?_ (State.engsAt_keeps ..)
  refine .trans ?_ (State.convCycle_keeps ..); refine .trans ?_ (State.reefStart_keeps ..)
  refine .trans ?_ (State.reefDue_keeps ..); refine .trans ?_ (State.anchorStart_keeps ..); refine .ite ?_ ?_
  refine .trans ?_ (.foldl (fun s x => ?_) _ _); rotate_left; (try lift_lets -underBinder)
  refine .trans ?_ (State.cwClose_keeps ..); exact .refl _; refine .trans ?_ (State.redClose_keeps ..)
  refine .ite ?_ ?_; refine .trans ?_ (State.takeoverStart_keeps ..); refine .trans ?_ (.of_mk ..)
  refine .trans ?_ (State.setTim_keeps ..); assumption; refine .trans ?_ (.of_mk ..)
  refine .trans ?_ (State.setTim_keeps ..); assumption; refine .trans ?_ (State.anchorStart_keeps ..); refine .ite ?_ ?_
  refine .trans ?_ (.foldl (fun s x => ?_) _ _); rotate_left; (try lift_lets -underBinder)
  refine .trans ?_ (State.cwClose_keeps ..); exact .refl _; refine .trans ?_ (State.redClose_keeps ..)
  refine .ite ?_ ?_; refine .trans ?_ (State.takeoverStart_keeps ..); refine .trans ?_ (.of_mk ..)
  refine .trans ?_ (State.setTim_keeps ..); assumption; refine .trans ?_ (.of_mk ..)
  refine .trans ?_ (State.setTim_keeps ..); assumption; refine .ite ?_ ?_; refine .trans ?_ (State.tapsAt_keeps ..)
  refine .trans ?_ (State.engsAt_keeps ..); refine .trans ?_ (State.convCycle_keeps ..)
  refine .trans ?_ (State.reefStart_keeps ..); refine .trans ?_ (State.reefDue_keeps ..)
  refine .trans ?_ (State.anchorStart_keeps ..); refine .ite ?_ ?_
  refine .trans ?_ (.foldl (fun s x => ?_) _ _); rotate_left; (try lift_lets -underBinder)
  refine .trans ?_ (State.cwClose_keeps ..); exact .refl _; refine .trans ?_ (State.redClose_keeps ..)
  refine .ite ?_ ?_; refine .trans ?_ (State.takeoverStart_keeps ..); refine .trans ?_ (.of_mk ..)
  refine .trans ?_ (State.setTim_keeps ..); assumption; refine .trans ?_ (.of_mk ..)
  refine .trans ?_ (State.setTim_keeps ..); assumption; refine .trans ?_ (State.anchorStart_keeps ..); refine .ite ?_ ?_
  refine .trans ?_ (.foldl (fun s x => ?_) _ _); rotate_left; (try lift_lets -underBinder)
  refine .trans ?_ (State.cwClose_keeps ..); exact .refl _; refine .trans ?_ (State.redClose_keeps ..)
  refine .ite ?_ ?_; refine .trans ?_ (State.takeoverStart_keeps ..); refine .trans ?_ (.of_mk ..)
  refine .trans ?_ (State.setTim_keeps ..); assumption; refine .trans ?_ (.of_mk ..)
  refine .trans ?_ (State.setTim_keeps ..); assumption; refine .trans ?_ (State.redClose_keeps ..); refine .ite ?_ ?_
  refine .trans ?_ (State.takeoverStart_keeps ..); refine .trans ?_ (.of_mk ..)
  refine .trans ?_ (State.setTim_keeps ..); assumption; refine .trans ?_ (.of_mk ..)
  refine .trans ?_ (State.setTim_keeps ..); assumption; refine .trans ?_ (State.redClose_keeps ..); refine .ite ?_ ?_
  refine .trans ?_ (State.takeoverStart_keeps ..); refine .trans ?_ (.of_mk ..)
  refine .trans ?_ (State.setTim_keeps ..); assumption; refine .trans ?_ (.of_mk ..)
  refine .trans ?_ (State.setTim_keeps ..); assumption; refine .trans ?_ (State.redClose_keeps ..); refine .ite ?_ ?_
  refine .trans ?_ (State.takeoverStart_keeps ..); refine .trans ?_ (.of_mk ..)
  refine .trans ?_ (State.setTim_keeps ..); assumption; refine .trans ?_ (.of_mk ..)
  refine .trans ?_ (State.setTim_keeps ..); assumption; refine .trans ?_ (State.redClose_keeps ..); refine .ite ?_ ?_
  refine .trans ?_ (State.takeoverStart_keeps ..); refine .trans ?_ (.of_mk ..)
  refine .trans ?_ (State.setTim_keeps ..); assumption; refine .trans ?_ (.of_mk ..)
  refine .trans ?_ (State.setTim_keeps ..); assumption; refine .trans ?_ (State.sendPartners_keeps ..)
  refine .ite ?_ ?_; refine .trans ?_ (State.sendFerries_keeps ..); refine .ite ?_ ?_
  refine .trans ?_ (State.tapsAt_keeps ..); refine .trans ?_ (State.engsAt_keeps ..)
  refine .trans ?_ (State.convCycle_keeps ..); refine .trans ?_ (State.reefStart_keeps ..)
  refine .trans ?_ (State.reefDue_keeps ..); refine .trans ?_ (State.anchorStart_keeps ..); refine .ite ?_ ?_
  refine .trans ?_ (.foldl (fun s x => ?_) _ _); rotate_left; (try lift_lets -underBinder)
  refine .trans ?_ (State.cwClose_keeps ..); exact .refl _; refine .trans ?_ (State.redClose_keeps ..)
  refine .ite ?_ ?_; refine .trans ?_ (State.takeoverStart_keeps ..); refine .trans ?_ (.of_mk ..)
  refine .trans ?_ (State.setTim_keeps ..); assumption; refine .trans ?_ (.of_mk ..)
  refine .trans ?_ (State.setTim_keeps ..); assumption; refine .trans ?_ (State.anchorStart_keeps ..); refine .ite ?_ ?_
  refine .trans ?_ (.foldl (fun s x => ?_) _ _); rotate_left; (try lift_lets -underBinder)
  refine .trans ?_ (State.cwClose_keeps ..); exact .refl _; refine .trans ?_ (State.redClose_keeps ..)
  refine .ite ?_ ?_; refine .trans ?_ (State.takeoverStart_keeps ..); refine .trans ?_ (.of_mk ..)
  refine .trans ?_ (State.setTim_keeps ..); assumption; refine .trans ?_ (.of_mk ..)
  refine .trans ?_ (State.setTim_keeps ..); assumption; refine .ite ?_ ?_; refine .trans ?_ (State.tapsAt_keeps ..)
  refine .trans ?_ (State.engsAt_keeps ..); refine .trans ?_ (State.convCycle_keeps ..)
  refine .trans ?_ (State.reefStart_keeps ..); refine .trans ?_ (State.reefDue_keeps ..)
  refine .trans ?_ (State.anchorStart_keeps ..); refine .ite ?_ ?_
  refine .trans ?_ (.foldl (fun s x => ?_) _ _); rotate_left; (try lift_lets -underBinder)
  refine .trans ?_ (State.cwClose_keeps ..); exact .refl _; refine .trans ?_ (State.redClose_keeps ..)
  refine .ite ?_ ?_; refine .trans ?_ (State.takeoverStart_keeps ..); refine .trans ?_ (.of_mk ..)
  refine .trans ?_ (State.setTim_keeps ..); assumption; refine .trans ?_ (.of_mk ..)
  refine .trans ?_ (State.setTim_keeps ..); assumption; refine .trans ?_ (State.anchorStart_keeps ..); refine .ite ?_ ?_
  refine .trans ?_ (.foldl (fun s x => ?_) _ _); rotate_left; (try lift_lets -underBinder)
  refine .trans ?_ (State.cwClose_keeps ..); exact .refl _; refine .trans ?_ (State.redClose_keeps ..)
  refine .ite ?_ ?_; refine .trans ?_ (State.takeoverStart_keeps ..); refine .trans ?_ (.of_mk ..)
  refine .trans ?_ (State.setTim_keeps ..); assumption; refine .trans ?_ (.of_mk ..)
  refine .trans ?_ (State.setTim_keeps ..); assumption; refine .trans ?_ (State.redClose_keeps ..); refine .ite ?_ ?_
  refine .trans ?_ (State.takeoverStart_keeps ..); refine .trans ?_ (.of_mk ..)
  refine .trans ?_ (State.setTim_keeps ..); assumption; refine .trans ?_ (.of_mk ..)
  refine .trans ?_ (State.setTim_keeps ..); assumption; refine .trans ?_ (State.redClose_keeps ..); refine .ite ?_ ?_
  refine .trans ?_ (State.takeoverStart_keeps ..); refine .trans ?_ (.of_mk ..)
  refine .trans ?_ (State.setTim_keeps ..); assumption; refine .trans ?_ (.of_mk ..)
  refine .trans ?_ (State.setTim_keeps ..); assumption; refine .trans ?_ (State.redClose_keeps ..); refine .ite ?_ ?_
  refine .trans ?_ (State.takeoverStart_keeps ..); refine .trans ?_ (.of_mk ..)
  refine .trans ?_ (State.setTim_keeps ..); assumption; refine .trans ?_ (.of_mk ..)
  refine .trans ?_ (State.setTim_keeps ..); assumption; refine .trans ?_ (State.redClose_keeps ..); refine .ite ?_ ?_
  refine .trans ?_ (State.takeoverStart_keeps ..); refine .trans ?_ (.of_mk ..)
  refine .trans ?_ (State.setTim_keeps ..); assumption; refine .trans ?_ (.of_mk ..)
  refine .trans ?_ (State.setTim_keeps ..); assumption; refine .trans ?_ (State.redClose_keeps ..); refine .ite ?_ ?_
  refine .trans ?_ (State.takeoverStart_keeps ..); refine .trans ?_ (.of_mk ..)
  refine .trans ?_ (State.setTim_keeps ..); assumption; refine .trans ?_ (.of_mk ..)
  refine .trans ?_ (State.setTim_keeps ..); assumption; refine .trans ?_ (State.redClose_keeps ..); refine .ite ?_ ?_
  refine .trans ?_ (State.takeoverStart_keeps ..); refine .trans ?_ (.of_mk ..)
  refine .trans ?_ (State.setTim_keeps ..); assumption; refine .trans ?_ (.of_mk ..)
  refine .trans ?_ (State.setTim_keeps ..); assumption; refine .trans ?_ (State.redClose_keeps ..); refine .ite ?_ ?_
  refine .trans ?_ (State.takeoverStart_keeps ..); refine .trans ?_ (.of_mk ..)
  refine .trans ?_ (State.setTim_keeps ..); assumption; refine .trans ?_ (.of_mk ..)
  refine .trans ?_ (State.setTim_keeps ..); assumption; refine .trans ?_ (State.redClose_keeps ..); refine .ite ?_ ?_
  refine .trans ?_ (State.takeoverStart_keeps ..); refine .trans ?_ (.of_mk ..)
  refine .trans ?_ (State.setTim_keeps ..); assumption; refine .trans ?_ (.of_mk ..)
  refine .trans ?_ (State.setTim_keeps ..); assumption; refine .trans ?_ (State.sendPartners_keeps ..)
  refine .ite ?_ ?_; refine .trans ?_ (State.sendFerries_keeps ..); refine .ite ?_ ?_
  refine .trans ?_ (State.tapsAt_keeps ..); refine .trans ?_ (State.engsAt_keeps ..)
  refine .trans ?_ (State.convCycle_keeps ..); refine .trans ?_ (State.reefStart_keeps ..)
  refine .trans ?_ (State.reefDue_keeps ..); refine .trans ?_ (State.anchorStart_keeps ..); refine .ite ?_ ?_
  refine .trans ?_ (.foldl (fun s x => ?_) _ _); rotate_left; (try lift_lets -underBinder)
  refine .trans ?_ (State.cwClose_keeps ..); exact .refl _; refine .trans ?_ (State.redClose_keeps ..)
  refine .ite ?_ ?_; refine .trans ?_ (State.takeoverStart_keeps ..); refine .trans ?_ (.of_mk ..)
  refine .trans ?_ (State.setTim_keeps ..); assumption; refine .trans ?_ (.of_mk ..)
  refine .trans ?_ (State.setTim_keeps ..); assumption; refine .trans ?_ (State.anchorStart_keeps ..); refine .ite ?_ ?_
  refine .trans ?_ (.foldl (fun s x => ?_) _ _); rotate_left; (try lift_lets -underBinder)
  refine .trans ?_ (State.cwClose_keeps ..); exact .refl _; refine .trans ?_ (State.redClose_keeps ..)
  refine .ite ?_ ?_; refine .trans ?_ (State.takeoverStart_keeps ..); refine .trans ?_ (.of_mk ..)
  refine .trans ?_ (State.setTim_keeps ..); assumption; refine .trans ?_ (.of_mk ..)
  refine .trans ?_ (State.setTim_keeps ..); assumption; refine .ite ?_ ?_; refine .trans ?_ (State.tapsAt_keeps ..)
  refine .trans ?_ (State.engsAt_keeps ..); refine .trans ?_ (State.convCycle_keeps ..)
  refine .trans ?_ (State.reefStart_keeps ..); refine .trans ?_ (State.reefDue_keeps ..)
  refine .trans ?_ (State.anchorStart_keeps ..); refine .ite ?_ ?_
  refine .trans ?_ (.foldl (fun s x => ?_) _ _); rotate_left; (try lift_lets -underBinder)
  refine .trans ?_ (State.cwClose_keeps ..); exact .refl _; refine .trans ?_ (State.redClose_keeps ..)
  refine .ite ?_ ?_; refine .trans ?_ (State.takeoverStart_keeps ..); refine .trans ?_ (.of_mk ..)
  refine .trans ?_ (State.setTim_keeps ..); assumption; refine .trans ?_ (.of_mk ..)
  refine .trans ?_ (State.setTim_keeps ..); assumption; refine .trans ?_ (State.anchorStart_keeps ..); refine .ite ?_ ?_
  refine .trans ?_ (.foldl (fun s x => ?_) _ _); rotate_left; (try lift_lets -underBinder)
  refine .trans ?_ (State.cwClose_keeps ..); exact .refl _; refine .trans ?_ (State.redClose_keeps ..)
  refine .ite ?_ ?_; refine .trans ?_ (State.takeoverStart_keeps ..); refine .trans ?_ (.of_mk ..)
  refine .trans ?_ (State.setTim_keeps ..); assumption; refine .trans ?_ (.of_mk ..)
  refine .trans ?_ (State.setTim_keeps ..); assumption; refine .trans ?_ (State.redClose_keeps ..); refine .ite ?_ ?_
  refine .trans ?_ (State.takeoverStart_keeps ..); refine .trans ?_ (.of_mk ..)
  refine .trans ?_ (State.setTim_keeps ..); assumption; refine .trans ?_ (.of_mk ..)
  refine .trans ?_ (State.setTim_keeps ..); assumption; refine .trans ?_ (State.redClose_keeps ..); refine .ite ?_ ?_
  refine .trans ?_ (State.takeoverStart_keeps ..); refine .trans ?_ (.of_mk ..)
  refine .trans ?_ (State.setTim_keeps ..); assumption; refine .trans ?_ (.of_mk ..)
  refine .trans ?_ (State.setTim_keeps ..); assumption; refine .trans ?_ (State.redClose_keeps ..); refine .ite ?_ ?_
  refine .trans ?_ (State.takeoverStart_keeps ..); refine .trans ?_ (.of_mk ..)
  refine .trans ?_ (State.setTim_keeps ..); assumption; refine .trans ?_ (.of_mk ..)
  refine .trans ?_ (State.setTim_keeps ..); assumption; refine .trans ?_ (State.redClose_keeps ..); refine .ite ?_ ?_
  refine .trans ?_ (State.takeoverStart_keeps ..); refine .trans ?_ (.of_mk ..)
  refine .trans ?_ (State.setTim_keeps ..); assumption; refine .trans ?_ (.of_mk ..)
  refine .trans ?_ (State.setTim_keeps ..); assumption; refine .trans ?_ (State.redClose_keeps ..); refine .ite ?_ ?_
  refine .trans ?_ (State.takeoverStart_keeps ..); refine .trans ?_ (.of_mk ..)
  refine .trans ?_ (State.setTim_keeps ..); assumption; refine .trans ?_ (.of_mk ..)
  refine .trans ?_ (State.setTim_keeps ..); assumption; refine .trans ?_ (State.redClose_keeps ..); refine .ite ?_ ?_
  refine .trans ?_ (State.takeoverStart_keeps ..); refine .trans ?_ (.of_mk ..)
  refine .trans ?_ (State.setTim_keeps ..); assumption; refine .trans ?_ (.of_mk ..)
  refine .trans ?_ (State.setTim_keeps ..); assumption; refine .trans ?_ (State.redClose_keeps ..); refine .ite ?_ ?_
  refine .trans ?_ (State.takeoverStart_keeps ..); refine .trans ?_ (.of_mk ..)
  refine .trans ?_ (State.setTim_keeps ..); assumption; refine .trans ?_ (.of_mk ..)
  refine .trans ?_ (State.setTim_keeps ..); assumption; refine .trans ?_ (State.redClose_keeps ..); refine .ite ?_ ?_
  refine .trans ?_ (State.takeoverStart_keeps ..); refine .trans ?_ (.of_mk ..)
  refine .trans ?_ (State.setTim_keeps ..); assumption; refine .trans ?_ (.of_mk ..)
  refine .trans ?_ (State.setTim_keeps ..); assumption; refine .trans ?_ (State.redClose_keeps ..); refine .ite ?_ ?_
  refine .trans ?_ (State.takeoverStart_keeps ..); refine .trans ?_ (.of_mk ..)
  refine .trans ?_ (State.setTim_keeps ..); assumption; refine .trans ?_ (.of_mk ..)
  refine .trans ?_ (State.setTim_keeps ..); assumption; refine .trans ?_ (State.redClose_keeps ..); refine .ite ?_ ?_
  refine .trans ?_ (State.takeoverStart_keeps ..); refine .trans ?_ (.of_mk ..)
  refine .trans ?_ (State.setTim_keeps ..); assumption; refine .trans ?_ (.of_mk ..)
  refine .trans ?_ (State.setTim_keeps ..); assumption; refine .trans ?_ (State.redClose_keeps ..); refine .ite ?_ ?_
  refine .trans ?_ (State.takeoverStart_keeps ..); refine .trans ?_ (.of_mk ..)
  refine .trans ?_ (State.setTim_keeps ..); assumption; refine .trans ?_ (.of_mk ..)
  refine .trans ?_ (State.setTim_keeps ..); assumption; refine .trans ?_ (State.redClose_keeps ..); refine .ite ?_ ?_
  refine .trans ?_ (State.takeoverStart_keeps ..); refine .trans ?_ (.of_mk ..)
  refine .trans ?_ (State.setTim_keeps ..); assumption; refine .trans ?_ (.of_mk ..)
  refine .trans ?_ (State.setTim_keeps ..); assumption; refine .trans ?_ (State.redClose_keeps ..); refine .ite ?_ ?_
  refine .trans ?_ (State.takeoverStart_keeps ..); refine .trans ?_ (.of_mk ..)
  refine .trans ?_ (State.setTim_keeps ..); assumption; refine .trans ?_ (.of_mk ..)
  refine .trans ?_ (State.setTim_keeps ..); assumption; refine .trans ?_ (State.redClose_keeps ..); refine .ite ?_ ?_
  refine .trans ?_ (State.takeoverStart_keeps ..); refine .trans ?_ (.of_mk ..)
  refine .trans ?_ (State.setTim_keeps ..); assumption; refine .trans ?_ (.of_mk ..)
  refine .trans ?_ (State.setTim_keeps ..); assumption; refine .trans ?_ (State.redClose_keeps ..); refine .ite ?_ ?_
  refine .trans ?_ (State.takeoverStart_keeps ..); refine .trans ?_ (.of_mk ..)
  refine .trans ?_ (State.setTim_keeps ..); assumption; refine .trans ?_ (.of_mk ..)
  refine .trans ?_ (State.setTim_keeps ..); assumption; refine .trans ?_ (State.redClose_keeps ..); refine .ite ?_ ?_
  refine .trans ?_ (State.takeoverStart_keeps ..); refine .trans ?_ (.of_mk ..)
  refine .trans ?_ (State.setTim_keeps ..); assumption; refine .trans ?_ (.of_mk ..)
  refine .trans ?_ (State.setTim_keeps ..); assumption

theorem Skerry.moveTo_keeps (k : Skerry) (st : Nat) : k.Keeps (Skerry.moveTo k st) := by
  delta Skerry.moveTo; refine .ite ?_ ?_; refine .trans ?_ (Skerry.setTarget_keeps ..); exact .refl _; exact .refl _

theorem Skerry.takeMode_keeps (k : Skerry) (hold : Bool) : k.Keeps (Skerry.takeMode k hold) := by
  delta Skerry.takeMode; split; exact .refl _; lift_lets -underBinder; intro x; clear_value x
  intro x; refine .cut (x := x) ?_ ?_; subst x; rotate_left; intro hx; clear_value x; refine .ite ?_ ?_
  refine .ite ?_ ?_; refine .trans ?_ (Skerry.moveTo_keeps ..); refine .trans ?_ (Skerry.setGate_keeps ..)
  refine .trans ?_ (Skerry.wr_keeps ..); assumption; refine .trans ?_ (Skerry.setGate_keeps ..)
  refine .trans ?_ (Skerry.wr_keeps ..); assumption; refine .trans ?_ (Skerry.setGate_keeps ..)
  refine .trans ?_ (Skerry.wr_keeps ..); assumption; refine .trans ?_ (Skerry.wr_keeps ..)
  refine .trans ?_ (Skerry.setGate_keeps ..); exact .refl _

theorem Skerry.applySlot_keeps (k : Skerry) (i : Nat) (late : Bool) : k.Keeps (Skerry.applySlot k i late) := by
  delta Skerry.applySlot
  lift_lets -underBinder
  intro sl b st duty k1 c k2 k3 weave k4 q k5 k6 k7 t u p
  have h3 : k.Keeps k3 :=
    ((Skerry.cancelAfter_keeps k).trans (Skerry.setCmd_keeps ..)).trans (Skerry.takeMode_keeps ..)
  have h4 : k.Keeps k4 := by
    show k.Keeps (match duty with | some d => if weave ∧ st = ST_HOLD then k3.wr SK_GATE_DUTY_NOW d else k3 | none => k3)
    generalize duty = o
    cases o with
    | some d => exact .ite (h3.trans (Skerry.wr_keeps ..)) h3
    | none => exact h3
  have h5 : k.Keeps k5 :=
    .ite (.ite (h4.trans (Skerry.setGate_keeps ..)) h4) (h4.trans (Skerry.moveTo_keeps ..))
  have h7 : k.Keeps k7 :=
    (((h5.trans (Skerry.wr_keeps ..)).trans (Skerry.wr_keeps ..)).trans (Skerry.wr_keeps ..)).trans (Skerry.wr_keeps ..)
  exact .ite ((h7.trans (Skerry.setGate_keeps ..)).trans (Skerry.wr_keeps ..)) h7

theorem Skerry.slotFor_keeps (k : Skerry) : k.Keeps (Skerry.slotFor k).2 := by
  delta Skerry.slotFor; lift_lets -underBinder; intro x; clear_value x; split; dsimp only; exact .refl _; split
  dsimp only; exact .refl _; dsimp only; refine .trans ?_ (Skerry.inc_keeps ..)
  refine .trans ?_ (Skerry.freeSlot_keeps ..); exact .refl _

theorem Skerry.slotFor_out {r_} {t_ : Skerry} {k : Skerry} (h_ : Skerry.slotFor k = (r_, t_)) : k.Keeps t_ := by
  have := Skerry.slotFor_keeps k; rwa [h_] at this

theorem Skerry.arm_keeps (k : Skerry) (epoch : Nat) (sl : Slot) : k.Keeps (Skerry.arm k epoch sl) := by
  delta Skerry.arm; split; lift_lets -underBinder; intro x; clear_value x; intro x; clear_value x
  intro x; refine .cut (x := x) ?_ ?_; subst x; rotate_left; intro hx; clear_value x; refine .ite ?_ ?_
  refine .ite ?_ ?_; refine .trans ?_ (Skerry.wrW_keeps ..); refine .trans ?_ (Skerry.inc_keeps ..)
  refine .trans ?_ (Skerry.wr_keeps ..); refine .trans ?_ (Skerry.wr_keeps ..); refine .trans ?_ (Skerry.wr_keeps ..)
  refine .trans ?_ (Skerry.wr_keeps ..); refine .trans ?_ (Skerry.wr_keeps ..); refine .trans ?_ (Skerry.wr_keeps ..)
  refine .trans ?_ (Skerry.wrW_keeps ..); assumption; refine .trans ?_ (Skerry.dropEarly_keeps ..)
  refine .trans ?_ (Skerry.wr_keeps ..); refine .trans ?_ (Skerry.wr_keeps ..); refine .trans ?_ (Skerry.wr_keeps ..)
  refine .trans ?_ (Skerry.wr_keeps ..); refine .trans ?_ (Skerry.wrW_keeps ..); assumption
  refine .trans ?_ (Skerry.wr_keeps ..); refine .trans ?_ (Skerry.wr_keeps ..); refine .trans ?_ (Skerry.wr_keeps ..)
  refine .trans ?_ (Skerry.wr_keeps ..); refine .trans ?_ (Skerry.wrW_keeps ..); assumption
  refine .trans ?_ (Skerry.setCmd_keeps ..); refine .trans ?_ (Skerry.slotFor_out (by assumption)); exact .refl _

theorem Skerry.commit_keeps (k : Skerry) (epoch : Nat) (stage : Nat) : k.Keeps (Skerry.commit k epoch stage) := by
  delta Skerry.commit; lift_lets -underBinder; intro x; clear_value x; refine .ite ?_ ?_; exact .refl _; split
  lift_lets -underBinder; intro x; clear_value x
  intro x; refine .cut (x := x) ?_ ?_; subst x; rotate_left; intro hx; clear_value x; refine .ite ?_ ?_
  refine .ite ?_ ?_; exact .refl _; refine .ite ?_ ?_; assumption; refine .ite ?_ ?_
  refine .trans ?_ (Skerry.applySlot_keeps ..); refine .trans ?_ (Skerry.inc_keeps ..); assumption; assumption
  refine .ite ?_ ?_; exact .refl _; refine .trans ?_ (Skerry.inc_keeps ..); exact .refl _; refine .ite ?_ ?_
  refine .ite ?_ ?_; exact .refl _; refine .trans ?_ (Skerry.setCmd_keeps ..); exact .refl _; refine .ite ?_ ?_
  refine .ite ?_ ?_; exact .refl _; refine .trans ?_ (Skerry.inc_keeps ..); exact .refl _; lift_lets -underBinder
  intro x; refine .cut (x := x) ?_ ?_; subst x; rotate_left; intro hx; clear_value x
  refine .trans ?_ (Skerry.wr_keeps ..); refine .trans ?_ (Skerry.wr_keeps ..); refine .trans ?_ (Skerry.wr_keeps ..)
  assumption; refine .trans ?_ (Skerry.wr_keeps ..); refine .trans ?_ (Skerry.wr_keeps ..); exact .refl _
  refine .trans ?_ (Skerry.dropEarly_keeps ..); exact .refl _

theorem Skerry.single_keeps (k : Skerry) (st : Nat) : k.Keeps (Skerry.single k st) := by
  delta Skerry.single; refine .ite ?_ ?_; exact .refl _; refine .trans ?_ (Skerry.moveTo_keeps ..)
  refine .trans ?_ (Skerry.cancelAfter_keeps ..); exact .refl _

theorem execAfterChange_answers (g : Nat) (s : State) : s.Answers (execAfterChange g s) := by
  delta execAfterChange; refine .next ?_
  refine .trans ?_ (State.runCell_keeps _ _ _ (fun _ => ?_)); rotate_left; beta_reduce; (try lift_lets -underBinder)
  split
  refine .trans ?_ (Skerry.moveTo_keeps ..); refine .trans ?_ (Skerry.cancelAfter_keeps ..); exact .refl _
  exact .refl _; exact .refl _

theorem execBlockAll_answers (g : Nat) (reason : Nat) (s : State) : s.Answers (execBlockAll g reason s) := by
  delta execBlockAll; refine .next ?_
  refine .trans ?_ (State.runCell_keeps _ _ _ (fun _ => ?_)); rotate_left; beta_reduce; (try lift_lets -underBinder)
  refine .trans ?_ (Skerry.log_keeps ..); refine .trans ?_ (Skerry.rank3_keeps ..)
  refine .trans ?_ (Skerry.obeyBlock_keeps ..); exact .refl _; exact .refl _

theorem execBypassOne_answers (g : Nat) (s : State) : s.Answers (execBypassOne g s) := by
  delta execBypassOne; refine .next ?_
  refine .trans ?_ (State.runCell_keeps _ _ _ (fun _ => ?_)); rotate_left; beta_reduce; (try lift_lets -underBinder)
  refine .trans ?_ (Skerry.single_keeps ..); exact .refl _; exact .refl _

theorem execCommit_answers (g : Nat) (epoch : Nat) (stage : Nat) (s : State) : s.Answers (execCommit g epoch stage s) :=
    by
  delta execCommit; refine .next ?_
  refine .trans ?_ (State.runCell_keeps _ _ _ (fun _ => ?_)); rotate_left; beta_reduce; (try lift_lets -underBinder)
  refine .trans ?_ (Skerry.commit_keeps ..); exact .refl _; exact .refl _

theorem execCommitInstant_answers (g : Nat) (i : Nat) (s : State) : s.Answers (execCommitInstant g i s) := by
  delta execCommitInstant; refine .next ?_
  refine .trans ?_ (State.runCell_keeps _ _ _ (fun _ => ?_)); rotate_left; beta_reduce; (try lift_lets -underBinder)
  refine .ite ?_ ?_; refine .trans ?_ (Skerry.applySlot_keeps ..); exact .refl _; exact .refl _; exact .refl _

theorem execEarlyCommitExpire_answers (g : Nat) (s : State) : s.Answers (execEarlyCommitExpire g s) := by
  delta execEarlyCommitExpire; refine .next ?_
  refine .trans ?_ (State.runCell_keeps _ _ _ (fun _ => ?_)); rotate_left; beta_reduce; (try lift_lets -underBinder)
  refine .trans ?_ (Skerry.dropEarly_keeps ..); exact .refl _; exact .refl _

theorem execEpochDeadline_answers (g : Nat) (i : Nat) (s : State) : s.Answers (execEpochDeadline g i s) := by
  delta execEpochDeadline; refine .next ?_
  refine .trans ?_ (State.runCell_keeps _ _ _ (fun _ => ?_)); rotate_left; beta_reduce; (try lift_lets -underBinder)
  intro x; clear_value x; intro x; refine .cut (x := x) ?_ ?_; subst x; rotate_left; intro hx; clear_value x
  refine .ite ?_ ?_; refine .trans ?_ (Skerry.freeSlot_keeps ..); assumption; refine .ite ?_ ?_
  refine .trans ?_ (Skerry.inc_keeps ..); refine .trans ?_ (Skerry.setCmd_keeps ..); exact .refl _; exact .refl _
  exact .refl _; refine .ite ?_ ?_; exact .refl _; refine .trans ?_ (Skerry.inc_keeps ..); exact .refl _

theorem execInsertOne_answers (g : Nat) (pol : Nat) (s : State) : s.Answers (execInsertOne g pol s) := by
  delta execInsertOne; refine .next ?_
  refine .trans ?_ (State.runCell_keeps _ _ _ (fun _ => ?_)); rotate_left; beta_reduce; (try lift_lets -underBinder)
  refine .ite ?_ ?_; refine .trans ?_ (Skerry.inc_keeps ..); exact .refl _; refine .trans ?_ (Skerry.single_keeps ..)
  exact .refl _; exact .refl _

theorem execSilentBlock_answers (g : Nat) (s : State) : s.Answers (execSilentBlock g s) := by
  delta execSilentBlock; refine .next ?_
  refine .trans ?_ (State.runCell_keeps _ _ _ (fun _ => ?_)); rotate_left; beta_reduce; (try lift_lets -underBinder)
  refine .ite ?_ ?_; refine .trans ?_ (Skerry.log_keeps ..); refine .trans ?_ (Skerry.rank3_keeps ..)
  refine .trans ?_ (Skerry.obeyBlock_keeps ..); refine .trans ?_ (Skerry.wr_keeps ..); exact .refl _; exact .refl _
  exact .refl _

theorem execTimeMark_answers (g : Nat) (p : Nat) (mark : Nat) (back : Nat) (s : State) : s.Answers (execTimeMark g p mark
    back s) := by
  delta execTimeMark; refine .next ?_
  refine .trans ?_ (State.runCell_keeps _ _ _ (fun _ => ?_)); rotate_left; beta_reduce; (try lift_lets -underBinder)
  intro x; clear_value x; intro x; refine .cut (x := x) ?_ ?_; subst x; rotate_left; intro hx; clear_value x
  refine .trans ?_ (Skerry.wr_keeps ..); refine .trans ?_ (Skerry.wr_keeps ..); assumption; exact .refl _
  refine .trans ?_ (Skerry.wr_keeps ..); refine .trans ?_ (Skerry.wr_keeps ..); exact .refl _

theorem execWake_answers (g : Nat) (s : State) : s.Answers (execWake g s) := by
  delta execWake; refine .next ?_
  refine .trans ?_ (State.onCell_keeps _ _ _ ?_); rotate_left; beta_reduce; (try lift_lets -underBinder)
  refine .ite ?_ ?_; refine .trans ?_ (Skerry.wakeRun_keeps ..); exact .refl _; exact .refl _; exact .refl _

theorem Skerry.collected_keeps (k : Skerry) (rep : Option SkReply) : k.Keeps (Skerry.collected k rep) := by
  delta Skerry.collected; split; refine .ite ?_ ?_; refine .trans ?_ (Skerry.setPow_keeps ..); exact .refl _
  exact .refl _; exact .refl _

theorem Skerry.leave_keeps (k : Skerry) (tag : Nat) (addr : Nat) (index : Nat) (data : List Byte) (len : Nat) (rsp : Nat)
    : k.Keeps (Skerry.leave k tag addr index data len rsp) := by
  delta Skerry.leave; lift_lets -underBinder; intro x; clear_value x; refine .trans ?_ (Skerry.setFr_keeps ..)
  exact .refl _

theorem Skerry.leaveBare_keeps (k : Skerry) (tag : Nat) (addr : Nat) (index : Nat) (rsp : Nat) (fill : List Byte) :
    k.Keeps (Skerry.leaveBare k tag addr index rsp fill) := by
  delta Skerry.leaveBare; refine .trans ?_ (Skerry.leave_keeps ..); exact .refl _

theorem Skerry.freightRead_keeps (k : Skerry) (tag : Nat) (addr : Nat) (len : Nat) (fill : List Byte) : k.Keeps
    (Skerry.freightRead k tag addr len fill) := by
  delta Skerry.freightRead; refine .ite ?_ ?_; refine .trans ?_ (Skerry.leave_keeps ..); exact .refl _
  refine .ite ?_ ?_; refine .trans ?_ (Skerry.leaveBare_keeps ..); exact .refl _; refine .ite ?_ ?_
  refine .trans ?_ (Skerry.leaveBare_keeps ..); exact .refl _; split; refine .trans ?_ (Skerry.leave_keeps ..)
  refine .trans ?_ (Skerry.readWords_out (by assumption)); exact .refl _

theorem Skerry.freightWrite_keeps (k : Skerry) (tag : Nat) (addr : Nat) (len : Nat) (data : List Byte) (still : List Nat)
    (fill : List Byte) : k.Keeps (Skerry.freightWrite k tag addr len data still fill) := by
  delta Skerry.freightWrite; refine .ite ?_ ?_; refine .trans ?_ (Skerry.leave_keeps ..); exact .refl _
  refine .ite ?_ ?_; refine .trans ?_ (Skerry.leaveBare_keeps ..); exact .refl _; refine .ite ?_ ?_
  refine .trans ?_ (Skerry.leaveBare_keeps ..); exact .refl _; split; refine .trans ?_ (Skerry.leaveBare_keeps ..)
  refine .trans ?_ (Skerry.writeWords_out (by assumption)); exact .refl _

theorem Skerry.imgShow_keeps (k : Skerry) : k.Keeps (Skerry.imgShow k) := by
  delta Skerry.imgShow; lift_lets -underBinder; intro x; clear_value x
  intro x; refine .cut (x := x) ?_ ?_; subst x; rotate_left; intro hx; clear_value x; refine .ite ?_ ?_
  refine .trans ?_ (Skerry.wr_keeps ..); refine .trans ?_ (Skerry.wr_keeps ..); assumption
  refine .trans ?_ (Skerry.wr_keeps ..); assumption; refine .trans ?_ (Skerry.wr_keeps ..)
  refine .trans ?_ (Skerry.wr_keeps ..); exact .refl _

theorem Skerry.imageBlock_keeps (k : Skerry) (i : Nat) (data : List Byte) : k.Keeps (Skerry.imageBlock k i data) := by
  delta Skerry.imageBlock; lift_lets -underBinder; intro x; clear_value x
  intro x; refine .cut (x := x) ?_ ?_; subst x; rotate_left; intro hx; clear_value x; refine .ite ?_ ?_
  refine .ite ?_ ?_; assumption; refine .trans ?_ (Skerry.imgShow_keeps ..); refine .ite ?_ ?_
  refine .trans ?_ (Skerry.wr_keeps ..); refine .trans ?_ (Skerry.setFr_keeps ..); exact .refl _
  refine .trans ?_ (Skerry.setFr_keeps ..); exact .refl _; refine .ite ?_ ?_; assumption
  refine .trans ?_ (Skerry.imgShow_keeps ..); refine .ite ?_ ?_; refine .trans ?_ (Skerry.wr_keeps ..)
  refine .trans ?_ (Skerry.setFr_keeps ..); exact .refl _; refine .trans ?_ (Skerry.setFr_keeps ..); exact .refl _
  refine .trans ?_ (Skerry.setFr_keeps ..); exact .refl _

theorem Skerry.freightLog_keeps (k : Skerry) (tag : Nat) (off : Nat) (len : Nat) (bad : List Nat) (fixed : Nat) (fill :
    List Byte) : k.Keeps (Skerry.freightLog k tag off len bad fixed fill) := by
  delta Skerry.freightLog; lift_lets -underBinder; intro x; clear_value x
  intro x; refine .cut (x := x) ?_ ?_; subst x; rotate_left; intro hx; clear_value x; refine .ite ?_ ?_
  refine .trans ?_ (Skerry.leaveBare_keeps ..); exact .refl _; refine .trans ?_ (Skerry.leave_keeps ..); assumption
  refine .trans ?_ (Skerry.cnt_keeps ..); exact .refl _

theorem Skerry.freight_keeps (k : Skerry) (op : Nat) (tag : Nat) (addr : Nat) (len : Nat) (index : Nat) (data : List Byte)
    (still : List Nat) (fill : List Byte) : k.Keeps (Skerry.freight k op tag addr len index data still fill) := by
  delta Skerry.freight; refine .ite ?_ ?_; refine .ite ?_ ?_; refine .trans ?_ (Skerry.freightRead_keeps ..)
  exact .refl _; exact .refl _; refine .ite ?_ ?_; refine .ite ?_ ?_; refine .trans ?_ (Skerry.freightWrite_keeps ..)
  exact .refl _; exact .refl _; refine .ite ?_ ?_; refine .ite ?_ ?_; refine .trans ?_ (Skerry.imgShow_keeps ..)
  refine .trans ?_ (Skerry.partBlock_keeps ..); exact .refl _; exact .refl _; refine .ite ?_ ?_; refine .ite ?_ ?_
  refine .trans ?_ (Skerry.imageBlock_keeps ..); exact .refl _; exact .refl _; refine .ite ?_ ?_; refine .ite ?_ ?_
  refine .trans ?_ (Skerry.freightLog_keeps ..); exact .refl _; exact .refl _; refine .ite ?_ ?_; refine .ite ?_ ?_
  refine .trans ?_ (Skerry.remoteReset_keeps ..); exact .refl _; exact .refl _; exact .refl _

theorem Skerry.imageVerify_keeps (k : Skerry) : k.Keeps (Skerry.imageVerify k) := by
  delta Skerry.imageVerify; lift_lets -underBinder; intro x; clear_value x; intro x; clear_value x
  intro x; clear_value x; intro x; refine .cut (x := x) ?_ ?_; subst x; rotate_left; intro hx; clear_value x
  refine .ite ?_ ?_; exact .refl _; refine .ite ?_ ?_; refine .trans ?_ (Skerry.log_keeps ..); refine .ite ?_ ?_
  refine .trans ?_ (Skerry.wr_keeps ..); refine .trans ?_ (Skerry.wr_keeps ..); refine .trans ?_ (Skerry.wr_keeps ..)
  assumption; refine .trans ?_ (Skerry.wr_keeps ..); refine .trans ?_ (Skerry.wr_keeps ..); assumption
  refine .trans ?_ (Skerry.imgShow_keeps ..); refine .trans ?_ (Skerry.log_keeps ..)
  refine .trans ?_ (Skerry.wr_keeps ..); refine .trans ?_ (Skerry.wr_keeps ..); refine .trans ?_ (Skerry.setFr_keeps ..)
  exact .refl _; refine .trans ?_ (Skerry.setFr_keeps ..); exact .refl _

theorem State.filled_keeps (s : State) : s.Keeps (State.filled s) := by
  delta State.filled; refine .trans ?_ (.of_mk ..); exact .refl _

theorem execCollect_answers (g : Nat) (tag : Nat) (s : State) : s.Answers (execCollect g tag s) := by
  delta execCollect; lift_lets -underBinder; intro x; intro x; clear_value x; intro x; clear_value x; refine .ite ?_ ?_
  refine .next ?_; refine .trans ?_ (State.emit_keeps ..)
  refine .trans ?_ (State.putCell_keeps _ _ _ ?_); rotate_left; (try lift_lets -underBinder)
  refine .trans ?_ (Skerry.collected_keeps ..); exact .refl _; refine .next ?_; exact .refl _; exact .refl _

theorem execFreightImage_answers (g : Nat) (i : Nat) (data : List Byte) (s : State) : s.Answers (execFreightImage g i data
    s) := by
  delta execFreightImage; refine .next ?_
  refine .trans ?_ (State.runCell_keeps _ _ _ (fun _ => ?_)); rotate_left; beta_reduce; (try lift_lets -underBinder)
  refine .ite ?_ ?_; refine .trans ?_ (Skerry.imageBlock_keeps ..); exact .refl _; exact .refl _; exact .refl _

theorem execFreightLog_answers (g : Nat) (tag : Nat) (off : Nat) (len : Nat) (bad : List Nat) (fixed : Nat) (s : State) :
    s.Answers (execFreightLog g tag off len bad fixed s) := by
  delta execFreightLog; refine .next ?_; refine .trans ?_ (State.filled_keeps ..)
  refine .trans ?_ (State.runCell_keeps _ _ _ (fun _ => ?_)); rotate_left; beta_reduce; (try lift_lets -underBinder)
  refine .ite ?_ ?_; refine .trans ?_ (Skerry.freightLog_keeps ..); exact .refl _; exact .refl _; exact .refl _

theorem execFreightPart_answers (g : Nat) (i : Nat) (id : Nat) (data : List Byte) (s : State) : s.Answers (execFreightPart
    g i id data s) := by
  delta execFreightPart; refine .next ?_
  refine .trans ?_ (State.runCell_keeps _ _ _ (fun _ => ?_)); rotate_left; beta_reduce; (try lift_lets -underBinder)
  refine .ite ?_ ?_; refine .trans ?_ (Skerry.imgShow_keeps ..); refine .trans ?_ (Skerry.partBlock_keeps ..)
  exact .refl _; exact .refl _; exact .refl _

theorem execFreightRead_answers (g : Nat) (tag : Nat) (addr : Nat) (len : Nat) (fixed : Nat) (s : State) : s.Answers
    (execFreightRead g tag addr len fixed s) := by
  delta execFreightRead; refine .next ?_; refine .trans ?_ (State.filled_keeps ..)
  refine .trans ?_ (State.runCell_keeps _ _ _ (fun _ => ?_)); rotate_left; beta_reduce; (try lift_lets -underBinder)
  refine .ite ?_ ?_; refine .trans ?_ (Skerry.freightRead_keeps ..); refine .trans ?_ (Skerry.cnt_keeps ..)
  exact .refl _; exact .refl _; exact .refl _

theorem execFreightWrite_answers (g : Nat) (tag : Nat) (addr : Nat) (len : Nat) (data : List Byte) (still : List Nat) (s :
    State) : s.Answers (execFreightWrite g tag addr len data still s) := by
  delta execFreightWrite; refine .next ?_; refine .trans ?_ (State.filled_keeps ..)
  refine .trans ?_ (State.runCell_keeps _ _ _ (fun _ => ?_)); rotate_left; beta_reduce; (try lift_lets -underBinder)
  refine .ite ?_ ?_; refine .trans ?_ (Skerry.freightWrite_keeps ..); exact .refl _; exact .refl _; exact .refl _

theorem execImageVerify_answers (g : Nat) (s : State) : s.Answers (execImageVerify g s) := by
  delta execImageVerify; refine .next ?_
  refine .trans ?_ (State.runCell_keeps _ _ _ (fun _ => ?_)); rotate_left; beta_reduce; (try lift_lets -underBinder)
  refine .trans ?_ (Skerry.imageVerify_keeps ..); exact .refl _; exact .refl _

theorem execReplyReady_answers (g : Nat) (s : State) : s.Answers (execReplyReady g s) := by
  delta execReplyReady; refine .next ?_
  refine .trans ?_ (State.runCell_keeps _ _ _ (fun _ => ?_)); rotate_left; beta_reduce; (try lift_lets -underBinder)
  intro x; clear_value x; refine .trans ?_ (Skerry.setFr_keeps ..); exact .refl _; exact .refl _

end Sys2Proof.Machine
end

