-- ==== Sys2Proof/Laws/KeepsI.lean ====
section
/-! SUPPORT. Every operation and every command of Machine/SkFerry.lean, Tick.lean keeps the queue and the canonical forms: one lemma each. -/

namespace Sys2Proof.Machine
open Sys2Proof

theorem Skerry.action_keeps (k : Skerry) (a : Nat) (still : List Nat) : k.Keeps (Skerry.action k a still) := by
  delta Skerry.action; refine .ite ?_ ?_; exact .refl _; refine .ite ?_ ?_; refine .trans ?_ (Skerry.retire_keeps ..)
  exact .refl _; refine .ite ?_ ?_; refine .trans ?_ (Skerry.trigThy_keeps ..); exact .refl _; refine .ite ?_ ?_
  refine .trans ?_ (Skerry.startDischarge_keeps ..); exact .refl _; refine .ite ?_ ?_
  refine .trans ?_ (Skerry.clearFaults_keeps ..); exact .refl _; refine .ite ?_ ?_
  refine .trans ?_ (Skerry.modeOrder_keeps ..); exact .refl _; refine .ite ?_ ?_
  refine .trans ?_ (Skerry.modeOrder_keeps ..); exact .refl _; refine .trans ?_ (Skerry.inc_keeps ..); exact .refl _

theorem Skerry.stage_keeps (k : Skerry) (f : List Sym) (b : Option Berth) : k.Keeps (Skerry.stage k f b) := by
  delta Skerry.stage; lift_lets -underBinder; intro x; clear_value x; intro x; clear_value x; split
  lift_lets -underBinder; intro x; clear_value x
  intro x; refine .cut (x := x) ?_ ?_; subst x; rotate_left; intro hx; clear_value x; refine .ite ?_ ?_; assumption
  refine .ite ?_ ?_; refine .trans ?_ (Skerry.inc_keeps ..); assumption; refine .trans ?_ (Skerry.arm_keeps ..)
  assumption; refine .ite ?_ ?_; lift_lets -underBinder
  intro x; refine .cut (x := x) ?_ ?_; subst x; rotate_left; intro hx; clear_value x
  refine .trans ?_ (Skerry.setCmd_keeps ..); split; refine .ite ?_ ?_; assumption
  refine .trans ?_ (Skerry.freeSlot_keeps ..); assumption; assumption; split; lift_lets -underBinder
  intro x; clear_value x; intro x; clear_value x; refine .ite ?_ ?_; refine .trans ?_ (Skerry.setCmd_keeps ..)
  exact .refl _; exact .refl _; exact .refl _; refine .trans ?_ (Skerry.setCmd_keeps ..); exact .refl _
  refine .ite ?_ ?_; refine .trans ?_ (Skerry.inc_keeps ..); exact .refl _; exact .refl _

theorem Skerry.commands_keeps (k : Skerry) (f : List Sym) (still : List Nat) : k.Keeps (Skerry.commands k f still) := by
  delta Skerry.commands; lift_lets -underBinder; intro x; clear_value x; intro x; clear_value x; intro x; clear_value x
  intro x; clear_value x; intro x; refine .cut (x := x) ?_ ?_; subst x; rotate_left; intro hx; clear_value x
  refine .ite ?_ ?_; refine .trans ?_ (Skerry.action_keeps ..); refine .ite ?_ ?_
  refine .trans ?_ (Skerry.stage_keeps ..); refine .ite ?_ ?_; refine .trans ?_ (Skerry.inc_keeps ..); assumption
  assumption; refine .ite ?_ ?_; refine .trans ?_ (Skerry.inc_keeps ..); assumption; assumption; refine .ite ?_ ?_
  refine .trans ?_ (Skerry.stage_keeps ..); refine .ite ?_ ?_; refine .trans ?_ (Skerry.inc_keeps ..); assumption
  assumption; refine .ite ?_ ?_; refine .trans ?_ (Skerry.inc_keeps ..); assumption; assumption; refine .ite ?_ ?_
  refine .trans ?_ (Skerry.setCmd_keeps ..); exact .refl _; exact .refl _

theorem Skerry.setPass_keeps (k : Skerry) (p : Nat) (q : Pass) : k.Keeps (Skerry.setPass k p q) := by
  delta Skerry.setPass; refine .trans ?_ (.of_mk ..); exact .refl _

theorem Skerry.passNow_keeps (k : Skerry) (q : Pass) (f : List Sym) : k.Keeps (Skerry.passNow k q f).2 := by
  delta Skerry.passNow; lift_lets -underBinder; intro x; clear_value x; intro x; clear_value x; split; dsimp only
  exact .refl _; split; dsimp only; refine .trans ?_ (Skerry.collected_keeps ..); exact .refl _; dsimp only
  exact .refl _

theorem Skerry.passNow_out {r_} {t_ : Skerry} {k : Skerry} {q : Pass} {f : List Sym} (h_ : Skerry.passNow k q f = (r_,
    t_)) : k.Keeps t_ := by
  have := Skerry.passNow_keeps k q f; rwa [h_] at this

theorem Skerry.openCycle_keeps (k : Skerry) (q : Nat) : k.Keeps (Skerry.openCycle k q) := by
  delta Skerry.openCycle; lift_lets -underBinder; intro x; clear_value x
  intro x; refine .cut (x := x) ?_ ?_; subst x; rotate_left; intro hx; clear_value x; refine .ite ?_ ?_; exact .refl _
  refine .trans ?_ (Skerry.setCmd_keeps ..); assumption; refine .ite ?_ ?_; refine .trans ?_ (Skerry.inc_keeps ..)
  exact .refl _; exact .refl _

theorem Skerry.learn_keeps (k : Skerry) (p : Nat) (f : List Sym) : k.Keeps (Skerry.learn k p f) := by
  delta Skerry.learn; lift_lets -underBinder; intro x; clear_value x; intro x; clear_value x; intro x; clear_value x
  intro x; clear_value x; intro x; refine .cut (x := x) ?_ ?_; subst x; rotate_left; intro hx; clear_value x
  refine .trans ?_ (Skerry.setCmd_keeps ..); refine .trans ?_ (Skerry.wr_keeps ..)
  refine .trans ?_ (Skerry.wr_keeps ..); refine .ite ?_ ?_; refine .trans ?_ (Skerry.wr_keeps ..); refine .ite ?_ ?_
  refine .trans ?_ (Skerry.wr_keeps ..); assumption; assumption; refine .ite ?_ ?_
  refine .trans ?_ (Skerry.wr_keeps ..); assumption; assumption; refine .trans ?_ (Skerry.wr_keeps ..)
  refine .trans ?_ (Skerry.wr_keeps ..); refine .trans ?_ (Skerry.wr_keeps ..); exact .refl _

theorem Skerry.showDly_keeps (k : Skerry) : k.Keeps (Skerry.showDly k) := by
  delta Skerry.showDly; lift_lets -underBinder
  intro x; refine .cut (x := x) ?_ ?_; subst x; rotate_left; intro hx; clear_value x; refine .ite ?_ ?_
  refine .trans ?_ (Skerry.wr_keeps ..); refine .trans ?_ (Skerry.wr_keeps ..); assumption; assumption
  refine .ite ?_ ?_; refine .trans ?_ (Skerry.wr_keeps ..); refine .trans ?_ (Skerry.wr_keeps ..); exact .refl _
  exact .refl _

theorem Skerry.measure_keeps (k : Skerry) (p : Nat) (f : List Sym) : k.Keeps (Skerry.measure k p f) := by
  delta Skerry.measure; split; exact .refl _; split; exact .refl _; lift_lets -underBinder; intro x; clear_value x
  intro x; clear_value x; intro x; clear_value x; intro x; clear_value x
  intro x; refine .cut (x := x) ?_ ?_; subst x; rotate_left; intro hx; clear_value x; refine .ite ?_ ?_
  refine .trans ?_ (Skerry.setCmd_keeps ..); refine .trans ?_ (Skerry.wr_keeps ..); assumption; assumption
  refine .trans ?_ (Skerry.showDly_keeps ..); refine .trans ?_ (Skerry.setCmd_keeps ..); exact .refl _

theorem Skerry.pairUp_keeps (k : Skerry) (p : Nat) (f : List Sym) (arr : Int) : k.Keeps (Skerry.pairUp k p f arr) := by
  delta Skerry.pairUp; lift_lets -underBinder; intro x; clear_value x; split; refine .ite ?_ ?_; lift_lets -underBinder
  intro x; clear_value x; intro x; clear_value x; intro x; clear_value x; intro x; clear_value x
  refine .trans ?_ (Skerry.heal_keeps ..); refine .trans ?_ (Skerry.setCmd_keeps ..); exact .refl _
  refine .trans ?_ (Skerry.setCmd_keeps ..); exact .refl _; refine .trans ?_ (Skerry.setCmd_keeps ..); exact .refl _

theorem Skerry.ferrySample_keeps (k : Skerry) (p : Nat) (f : List Sym) (back : Int) : k.Keeps (Skerry.ferrySample k p f
    back) := by
  delta Skerry.ferrySample; refine .ite ?_ ?_; refine .trans ?_ (Skerry.sample_keeps ..); exact .refl _; exact .refl _

theorem Skerry.timePort_keeps (k : Skerry) (p : Nat) (f : List Sym) : k.Keeps (Skerry.timePort k p f) := by
  delta Skerry.timePort; refine .ite ?_ ?_; refine .trans ?_ (Skerry.wr_keeps ..); exact .refl _; refine .ite ?_ ?_
  refine .trans ?_ (Skerry.wr_keeps ..); refine .trans ?_ (Skerry.wr_keeps ..); exact .refl _; refine .ite ?_ ?_
  exact .refl _; refine .trans ?_ (Skerry.wr_keeps ..); exact .refl _

theorem Skerry.ferryFreight_keeps (k : Skerry) (f : List Sym) (still : List Nat) (fill : List Byte) : k.Keeps
    (Skerry.ferryFreight k f still fill) := by
  delta Skerry.ferryFreight; lift_lets -underBinder; intro x; clear_value x; intro x; clear_value x
  intro x; clear_value x; intro x; clear_value x; intro x; clear_value x; intro x; clear_value x; intro x; clear_value x
  refine .ite ?_ ?_; refine .trans ?_ (Skerry.freight_keeps ..); exact .refl _; exact .refl _

theorem Skerry.useFerry_keeps (k : Skerry) (p : Nat) (f : List Sym) (back : Int) (still : List Nat) (fill : List Byte) :
    k.Keeps (Skerry.useFerry k p f back still fill) := by
  delta Skerry.useFerry; lift_lets -underBinder
  intro x; refine .cut (x := x) ?_ ?_; subst x; rotate_left; intro hx; clear_value x
  refine .trans ?_ (Skerry.ferryFreight_keeps ..); refine .trans ?_ (Skerry.commands_keeps ..)
  refine .trans ?_ (Skerry.ferrySample_keeps ..); refine .trans ?_ (Skerry.timePort_keeps ..)
  refine .trans ?_ (Skerry.measure_keeps ..); refine .trans ?_ (Skerry.pairUp_keeps ..)
  refine .trans ?_ (Skerry.setCmd_keeps ..); assumption; refine .trans ?_ (Skerry.openCycle_keeps ..)
  refine .trans ?_ (Skerry.learn_keeps ..); exact .refl _

theorem Skerry.ferry_keeps (k : Skerry) (p : Nat) (ss : List Sym) (back : Int) (still : List Nat) (fill : List Byte) :
    k.Keeps (Skerry.ferry k p ss back still fill).1 := by
  delta Skerry.ferry; lift_lets -underBinder; intro x; clear_value x; intro x; clear_value x; intro x; clear_value x
  intro x; clear_value x; intro x; refine .cut (x := x) ?_ ?_; subst x; rotate_left; intro hx; clear_value x; split
  dsimp only; refine .ite ?_ ?_; refine .trans ?_ (Skerry.cnt_keeps ..); assumption; assumption; split; dsimp only
  refine .trans ?_ (Skerry.setPass_keeps ..); refine .ite ?_ ?_; refine .trans ?_ (Skerry.inc_keeps ..)
  refine .ite ?_ ?_; refine .trans ?_ (Skerry.cnt_keeps ..); assumption; assumption; refine .ite ?_ ?_
  refine .trans ?_ (Skerry.cnt_keeps ..); assumption; assumption; split; lift_lets -underBinder; intro x; clear_value x
  intro x; refine .cut (x := x) ?_ ?_; subst x; rotate_left; intro hx; clear_value x; split; dsimp only
  refine .trans ?_ (Skerry.setPass_keeps ..); refine .trans ?_ (Skerry.passNow_out (by assumption)); refine .ite ?_ ?_
  refine .trans ?_ (Skerry.cnt_keeps ..); assumption; assumption; split; dsimp only; assumption; split; split
  dsimp only; refine .trans ?_ (Skerry.useFerry_keeps ..); refine .trans ?_ (Skerry.inc_keeps ..); assumption
  dsimp only; refine .trans ?_ (Skerry.inc_keeps ..); refine .trans ?_ (Skerry.inc_keeps ..); assumption; split
  dsimp only; refine .trans ?_ (Skerry.useFerry_keeps ..); assumption; dsimp only
  refine .trans ?_ (Skerry.inc_keeps ..); assumption; refine .ite ?_ ?_; refine .trans ?_ (Skerry.portTake_keeps ..)
  exact .refl _; exact .refl _; refine .trans ?_ (Skerry.setPass_keeps ..)
  refine .trans ?_ (Skerry.passNow_out (by assumption)); refine .ite ?_ ?_; refine .trans ?_ (Skerry.cnt_keeps ..)
  assumption; assumption

theorem Skerry.ferry_out {r_} {t_ : Skerry} {k : Skerry} {p : Nat} {ss : List Sym} {back : Int} {still : List Nat} {fill :
    List Byte} (h_ : Skerry.ferry k p ss back still fill = (t_, r_)) : k.Keeps t_ := by
  have := Skerry.ferry_keeps k p ss back still fill; rwa [h_] at this

theorem execFerryReceiveSkerry_answers (g : Nat) (p : Nat) (ss : List Sym) (back : Nat) (still : List Nat) (s : State) :
    s.Answers (execFerryReceiveSkerry g p ss back still s) := by
  delta execFerryReceiveSkerry; lift_lets -underBinder; intro x; refine .ite ?_ ?_; split; refine .next ?_
  refine .trans ?_ (State.filled_keeps ..); refine .trans ?_ (State.emit_keeps ..)
  refine .trans ?_ (State.putCell_keeps _ _ _ ?_); rotate_left; (try lift_lets -underBinder)
  refine .trans ?_ (Skerry.ferry_out (by assumption)); exact .refl _; refine .next ?_; exact .refl _; exact .refl _

theorem execMissingFerry_answers (g : Nat) (p : Nat) (q : Nat) (s : State) : s.Answers (execMissingFerry g p q s) := by
  delta execMissingFerry; refine .next ?_
  refine .trans ?_ (State.runCell_keeps _ _ _ (fun _ => ?_)); rotate_left; beta_reduce; (try lift_lets -underBinder)
  intro x; clear_value x; intro x; refine .cut (x := x) ?_ ?_; subst x; rotate_left; intro hx; clear_value x
  refine .ite ?_ ?_; exact .refl _; refine .ite ?_ ?_; refine .trans ?_ (Skerry.inc_keeps ..)
  refine .trans ?_ (Skerry.wr_keeps ..); refine .ite ?_ ?_; refine .trans ?_ (Skerry.inc_keeps ..)
  refine .trans ?_ (Skerry.setCmd_keeps ..); assumption; refine .trans ?_ (Skerry.setCmd_keeps ..); assumption
  refine .trans ?_ (Skerry.wr_keeps ..); refine .ite ?_ ?_; refine .trans ?_ (Skerry.inc_keeps ..)
  refine .trans ?_ (Skerry.setCmd_keeps ..); assumption; refine .trans ?_ (Skerry.setCmd_keeps ..); assumption
  exact .refl _; refine .trans ?_ (Skerry.openCycle_keeps ..); exact .refl _

theorem Skerry.tick_keeps (k : Skerry) : k.Keeps (Skerry.tick k) := by
  delta Skerry.tick; split; exact .refl _; refine .trans ?_ (.of_mk ..); exact .refl _; refine .trans ?_ (.of_mk ..)
  exact .refl _; refine .trans ?_ (.of_mk ..); exact .refl _; refine .trans ?_ (.of_mk ..); exact .refl _

theorem State.qSample_keeps (s : State) : s.Keeps (State.qSample s) := by
  delta State.qSample; refine .ite ?_ ?_
  refine .trans ?_ (.foldl (fun s x => ?_) _ _); rotate_left; (try lift_lets -underBinder)
  refine .trans ?_ (State.cnt_keeps ..); exact .refl _; exact .refl _; exact .refl _

theorem State.engCycles_keeps (s : State) : s.Keeps (State.engCycles s) := by
  delta State.engCycles; refine .trans ?_ (.foldl (fun s x => ?_) _ _); rotate_left; (try lift_lets -underBinder)
  refine .ite ?_ ?_; refine .trans ?_ (State.cnt_keeps ..); exact .refl _; exact .refl _; exact .refl _

theorem State.recDrain_keeps (s : State) : s.Keeps (State.recDrain s) := by
  delta State.recDrain; split; exact .refl _; lift_lets -underBinder; intro x; clear_value x
  intro x; refine .cut (x := x) ?_ ?_; subst x; rotate_left; intro hx; clear_value x; split
  refine .trans ?_ (State.writeMem_out (by assumption)); assumption; refine .trans ?_ (State.inc_keeps ..)
  refine .trans ?_ (State.writeMem_out (by assumption)); assumption; refine .trans ?_ (State.setRecd_keeps ..)
  exact .refl _

theorem State.streamDrain_keeps (s : State) (n : Nat) : s.Keeps (State.streamDrain s n) := by
  delta State.streamDrain; split; exact .refl _; lift_lets -underBinder
  intro x; refine .cut (x := x) ?_ ?_; subst x; rotate_left; intro hx; clear_value x; split
  refine .trans ?_ (State.wr_keeps ..); refine .trans ?_ (State.writeMem_out (by assumption)); assumption
  refine .trans ?_ (State.inc_keeps ..); refine .trans ?_ (State.writeMem_out (by assumption)); assumption
  refine .trans ?_ (State.convQueue_keeps ..); exact .refl _

theorem State.traceDrain_keeps (s : State) : s.Keeps (State.traceDrain s) := by
  delta State.traceDrain; split; exact .refl _; lift_lets -underBinder; intro x; clear_value x
  intro x; refine .cut (x := x) ?_ ?_; subst x; rotate_left; intro hx; clear_value x; split
  refine .trans ?_ (State.wr_keeps ..); refine .trans ?_ (State.writeMem_out (by assumption)); assumption
  refine .trans ?_ (State.inc_keeps ..); refine .trans ?_ (State.writeMem_out (by assumption)); assumption
  refine .trans ?_ (.of_mk ..); exact .refl _

theorem State.drains_keeps (s : State) : s.Keeps (State.drains s) := by
  delta State.drains; refine .trans ?_ (State.recDrain_keeps ..)
  refine .trans ?_ (.foldl (fun s x => ?_) _ _); rotate_left; (try lift_lets -underBinder)
  refine .trans ?_ (State.streamDrain_keeps ..); exact .refl _; refine .trans ?_ (State.traceDrain_keeps ..)
  exact .refl _

theorem State.balgalTick_keeps (s : State) : s.Keeps (State.balgalTick s) := by
  delta State.balgalTick; lift_lets -underBinder; intro x
  intro x; refine .cut (x := x) ?_ ?_; subst x; rotate_left; intro hx; refine .ite ?_ ?_
  refine .trans ?_ (State.sendTails_keeps ..); refine .ite ?_ ?_; refine .trans ?_ (State.reefDue_keeps ..)
  refine .trans ?_ (State.qSample_keeps ..); refine .trans ?_ (State.engCycles_keeps ..)
  refine .trans ?_ (State.drains_keeps ..); assumption; refine .trans ?_ (State.qSample_keeps ..)
  refine .trans ?_ (State.engCycles_keeps ..); refine .trans ?_ (State.drains_keeps ..); assumption; refine .ite ?_ ?_
  refine .trans ?_ (State.reefDue_keeps ..); refine .trans ?_ (State.qSample_keeps ..)
  refine .trans ?_ (State.engCycles_keeps ..); refine .trans ?_ (State.drains_keeps ..); assumption
  refine .trans ?_ (State.qSample_keeps ..); refine .trans ?_ (State.engCycles_keeps ..)
  refine .trans ?_ (State.drains_keeps ..); assumption; refine .trans ?_ (.of_mk ..); exact .refl _

theorem State.irqStep_keeps (s : State) : s.Keeps (State.irqStep s) := by
  delta State.irqStep; lift_lets -underBinder; intro x; clear_value x; intro x; clear_value x
  refine .trans ?_ (.of_mk ..); exact .refl _

theorem Keys.rise_map {α β : Type} (f : α → β) : ∀ m : List (Nat × α), Keys.rise m = true →
    Keys.rise (m.map (fun e => (e.1, f e.2))) = true
  | [], _ => rfl
  | e :: t, h => by
    simp only [Keys.rise, Bool.and_eq_true, List.all_eq_true, decide_eq_true_eq] at h
    simp only [List.map_cons, Keys.rise, Bool.and_eq_true, List.all_eq_true, decide_eq_true_eq]
    refine ⟨?_, Keys.rise_map f t h.2⟩
    intro x hx
    obtain ⟨y, hy, rfl⟩ := List.mem_map.mp hx
    exact h.1 y hy

theorem State.ticked_keeps (s : State) : s.Keeps { s with out := [], cells := s.cells.map (fun (e : Nat × Skerry) => (e.1, e.2.tick)) } :=
  ⟨rfl, fun w => by
    simp only [State.wf, Bool.and_eq_true] at w ⊢
    refine ⟨⟨w.1.1, Keys.rise_map _ _ w.1.2⟩, ?_⟩
    have h := w.2
    simp only [List.all_eq_true, List.mem_map] at h ⊢
    rintro _ ⟨y, hy, rfl⟩
    exact (Skerry.tick_keeps y.2).wf (h y hy)⟩

theorem State.tick_keeps (s : State) : s.Keeps (State.tick s) := by
  have h1 : s.Keeps (if s.inRun then s.fitFollow.irqUpdate else s.irqUpdate) :=
    .ite ((State.fitFollow_keeps ..).trans (State.irqUpdate_keeps ..)) (State.irqUpdate_keeps ..)
  have h2 := (h1.trans (State.irqStep_keeps _)).trans (State.ticked_keeps _)
  refine h2.trans (State.Keeps.trans (.ite (.of_mk ..) (.refl _)) (.ite (.of_mk ..) (State.balgalTick_keeps _)))

end Sys2Proof.Machine
end

