-- ==== Sys2Proof/Tests/Slice0.lean ====
section
/-! SUPPORT. Our own tests: every check of WellFormed refuses an ill-formed command, and the hypotheses of every clause of every
statement are met together by a concrete state and operands. -/

open Sys2Proof Sys2Proof.Machine

/-! ### Ill-formed commands -/

theorem test_illFormed_01 : ([.registerWrite (.skerry 6144) .core 0 0 0 [],
    .registerWrite .balgal (.engine 18) 0 0 0 [],
    .rcRead (.skerry 6144) .core 0 0,
    .rcRead .balgal (.engine 18) 0 0,
    .timeNowLatch (.skerry 6144) .core,
    .timeNowLatch .balgal (.engine 18),
    .railHardFault 3,
    .softReset (.engine 18) 0,
    .groupClearDone 4,
    .load (.engine 18),
    .hotLoad (.engine 18),
    .partResendTimeout 6144] : List Instr).all (fun c => !c.wf) = true := by decide

theorem test_illFormed_02 : ([.signalDetectLost (.lane 112) false false,
    .signalDetectLost (.port 0 2) false false,
    .signalDetectLost (.port 6144 0) false false,
    .clockRecovered (.lane 112),
    .clockRecovered (.port 0 2),
    .clockRecovered (.port 6144 0),
    .commaAligned (.lane 112),
    .commaAligned (.port 0 2),
    .commaAligned (.port 6144 0),
    .lossScoreLimit (.lane 112) 0,
    .lossScoreLimit (.port 0 2) 0,
    .lossScoreLimit (.port 6144 0) 0] : List Instr).all (fun c => !c.wf) = true := by decide

theorem test_illFormed_03 : ([.lockTimeout 112,
    .errIntervalEnd 112 0,
    .elasticSlip 112,
    .eyeScanStart (.engine 18) 0 0,
    .eyeScanStart .core 112 0,
    .eyeScanDone 112 0,
    .ferryReceiveSkerry 6144 0 [] 0 [],
    .ferryReceiveSkerry 0 2 [] 0 [],
    .missingFerry 6144 0 0,
    .missingFerry 0 2 0,
    .missingFerry 0 0 2,
    .balgalFerryReceive 96 [] 0] : List Instr).all (fun c => !c.wf) = true := by decide

theorem test_illFormed_04 : ([.causewayDown 96 false,
    .causewayCut 96 false,
    .measure (.engine 18) 0,
    .measure .core 96,
    .causewayMeasuring 96 false,
    .causewayUp 96,
    .cutClear 96 false,
    .splitSet 96,
    .freightPost (.engine 18) 0,
    .freightCollect 96,
    .freightReply 96,
    .freightRead 6144 0 0 0 0] : List Instr).all (fun c => !c.wf) = true := by decide

theorem test_illFormed_05 : ([.freightWrite 6144 0 0 0 [] [],
    .freightPart 6144 0 0 [],
    .freightImage 6144 0 [],
    .freightLog 6144 0 0 0 [] 0,
    .freightReset 6144 0,
    .collect 6144 0,
    .retire 6144,
    .thyristorTrigger 6144,
    .managedDischargeStart 6144,
    .clearLatchedFaults 6144 [],
    .stepMode 6144,
    .weaveMode 6144] : List Instr).all (fun c => !c.wf) = true := by decide

theorem test_illFormed_06 : ([.flashOrderSend 96,
    .insertOne 6144 0,
    .bypassOne 6144,
    .blockAll 6144 0,
    .commit 6144 0 0,
    .timeMark 6144 0 0 0,
    .timeMark 0 2 0 0,
    .wake 6144,
    .mainPathLost (.skerry 6144),
    .mainPathReturn (.skerry 6144),
    .fallbackLoad (.skerry 6144),
    .sourceTimeout (.skerry 6144) 0] : List Instr).all (fun c => !c.wf) = true := by decide

theorem test_illFormed_07 : ([.slewEnd (.skerry 6144),
    .acceptStep (.engine 18),
    .slewJump (.engine 18),
    .discardJump (.engine 18),
    .skerryReacquire 6144,
    .timeMarkSend (.engine 18) 0,
    .triggerArm (.skerry 6144) .core 0,
    .triggerArm .balgal (.engine 18) 0,
    .triggerArm .balgal .core 16,
    .triggerDisarm (.skerry 6144) 0,
    .triggerDisarm .balgal 16,
    .triggerFire (.skerry 6144) 0] : List Instr).all (fun c => !c.wf) = true := by decide

theorem test_illFormed_08 : ([.triggerFire .balgal 16,
    .subwindowEnd (.skerry 6144) 0 [] false 0 false,
    .rerank 6,
    .resortComplete 6,
    .swapEnd 6144,
    .stale 6144,
    .retireActionTimeout 6144,
    .reefRetire (.engine 18) 0,
    .reefHealthSet (.engine 18) 0,
    .stageDecision 6,
    .commitInstant 6144 0,
    .commitInstant 0 2] : List Instr).all (fun c => !c.wf) = true := by decide

theorem test_illFormed_09 : ([.afterChange 6144,
    .epochDeadline 6144 0,
    .epochDeadline 0 2,
    .earlyCommitExpire 6144,
    .silentBlock 6144,
    .go (.engine 18),
    .runTimingWrite (.engine 18) 0,
    .runSignWrite (.engine 18) 0,
    .loopRestart (.engine 18) 0,
    .coefWrite (.engine 18) 0 0 0 0,
    .coefWrite .core 2 0 0 0,
    .coefWrite .core 0 48 0 0] : List Instr).all (fun c => !c.wf) = true := by decide

theorem test_illFormed_10 : ([.coefWrite .core 0 0 8 0,
    .tapArm (.engine 18) 0,
    .tapArm .core 16,
    .tapTrig 16,
    .tapStop 16,
    .tapDone 16,
    .traceBaseWrite (.engine 18) 0,
    .schedSet (.engine 18) 0,
    .schedFlags 256 0,
    .schedFlagsClr 256 0,
    .taskEnable 256 false,
    .waitWrite 256 0] : List Instr).all (fun c => !c.wf) = true := by decide

theorem test_illFormed_11 : ([.schedAsk (.engine 18),
    .schedDone (.engine 18) 0,
    .runLimitOverrun 18,
    .agePromotion 256,
    .engineFault 18 0 0 [],
    .engineHalt (.engine 18) 0 0 [],
    .engineHalt .core 18 0 [],
    .engineRun (.engine 18) 0,
    .engineRun .core 18,
    .engineReset (.engine 18) 0,
    .engineReset .core 18,
    .vretLoss 6144] : List Instr).all (fun c => !c.wf) = true := by decide

theorem test_illFormed_12 : ([.capUndervoltage 6144,
    .vretPowerUp 6144 0 0 false,
    .deepHoldWake 6144 0,
    .runEntry 6144 0 false,
    .repeatWake 6144 0,
    .parkEntry 6144,
    .darkHoldExpiry 6144,
    .softStartEnd 6144,
    .flybackFault 6144 0,
    .retryEnd 6144,
    .gateSupplyTimeout 6144 0,
    .dischAfterExpiry 6144 false] : List Instr).all (fun c => !c.wf) = true := by decide

theorem test_illFormed_13 : ([.dischargePause 6144,
    .dischargeResume 6144,
    .dischargeDone 6144,
    .disTimeout 6144,
    .disStop 6144,
    .park 6144 0,
    .parkEffect 6144 false,
    .coreRestart 6144 false,
    .sramClearDone 6144,
    .imageVerify 6144,
    .gateEdge 6144,
    .weaveReload 6144] : List Instr).all (fun c => !c.wf) = true := by decide

theorem test_illFormed_14 : ([.wperWrite 6144 0,
    .gateForce 6144 0,
    .forceApply 6144,
    .forceRelease 6144,
    .refreshRequest 6144,
    .faultInput 6144 [],
    .fltClr 6144 [],
    .overVoltage 6144,
    .firePulseEnd 6144 false,
    .bypassConfirm 6144,
    .bypassConfirmTimeout 6144,
    .mainsWindowEnd (.skerry 6144)] : List Instr).all (fun c => !c.wf) = true := by decide

theorem test_illFormed_15 : ([.convTrig (.skerry 6144) 0,
    .scanEnd (.skerry 6144) 0,
    .scanEnd .balgal 16,
    .convCfgWrite (.engine 18) 0 0,
    .convCfgWrite .core 16 0,
    .convMainsSw (.skerry 6144) .core 0,
    .convMainsSw .balgal (.engine 18) 0,
    .streamRestore 16,
    .streamEnable (.engine 18) 0 0 false,
    .streamEnable .core 16 0 false,
    .streamEnable .core 0 4 false,
    .recArm (.engine 18)] : List Instr).all (fun c => !c.wf) = true := by decide

theorem test_illFormed_16 : ([.recForce (.engine 18),
    .recStop (.engine 18),
    .holdoffEnd 8,
    .segFree 2 0,
    .engineLevelWrite 8 0 0,
    .engineLevelWrite 0 3 0,
    .sramRead (.engine 18) 0 0 [] [] 0 0,
    .sramWrite (.engine 18) 0 [] [] [] 0 0,
    .memRetire (.engine 18) 0,
    .memPwrWrite (.engine 18) 0,
    .dmaStart (.engine 18) 0,
    .dmaStart .core 32] : List Instr).all (fun c => !c.wf) = true := by decide

theorem test_illFormed_17 : ([.dmaFetch 32,
    .dmaComplete 32 [],
    .dmaClear (.engine 18),
    .dmaResume (.engine 18) 0,
    .dmaResume .core 32,
    .dmaAbort 32 0 [],
    .dmaDescWrite (.engine 18) 0 0,
    .dmaDescWrite .core 32 0,
    .reactionTimeout 3,
    .faultAck (.engine 18) 0,
    .faultAck .core 3,
    .skFltClear 6144 0 []] : List Instr).all (fun c => !c.wf) = true := by decide

theorem test_illFormed_18 : ([.straitFrame 4 [] 0,
    .peerAliveStop 2,
    .peerAliveResume 2,
    .safeInputChange 24 false,
    .testPulse 8 0 false,
    .kDelayExpiry 4,
    .contactorFeedbackTimeout 8,
    .profLimitWrite (.engine 18) 0 0,
    .profLimitWrite .core 4 0,
    .profAngle (.engine 18) 0,
    .ethFrameReceive 4 0 0 false false,
    .ptpSync 4 0 0 false 0 0 0 0] : List Instr).all (fun c => !c.wf) = true := by decide

theorem test_illFormed_19 : ([.ptpFollowUp 4 0 0 0,
    .ptpPdelayReq 4 0 0,
    .ptpPdelayResp 4 0 0 0,
    .ptpAnnounce 4 0,
    .ptpPdelaySend 4,
    .ptpMasterSend 4 false,
    .announceTimeout 4,
    .svFrame 4 0 0 false [] 0,
    .svStale 8,
    .gooseReceive 4 ⟨0, 0, [], 0, false, 0, false, false, 0, 0, 0, 0⟩,
    .gooseTtlExpire 16,
    .gooseRepeat 4] : List Instr).all (fun c => !c.wf) = true := by decide

theorem test_illFormed_20 : ([.pcieRequest false 6 0 0 [],
    .pdbSet (.engine 18) 0,
    .quayAccess false false 16777216 0,
    .quayDoorbell (.engine 18) 0,
    .straitSend (.engine 18) 0 0,
    .straitSend .core 4 0,
    .straitSendFail 4,
    .rxFullFree 4,
    .level (.skerry 6144) 0 [],
    .quit (.skerry 6144),
    .rd (.skerry 6144) 0 0 [],
    .wr (.skerry 6144) 0 0 []] : List Instr).all (fun c => !c.wf) = true := by decide

theorem test_illFormed_21 : ([.dump (.skerry 6144) 0 0,
    .traceTap 16,
    .monLog 6144 0,
    .monIdleTimeout (.skerry 6144),
    .monLockoutEnd (.skerry 6144),
    .partialLineTimeout (.skerry 6144),
    .topBlockall (.engine 18) 0,
    .replyReady 6144,
    .ethLinkUp 4 false,
    .ethLinkDown 4,
    .unknownCommand (.skerry 6144) false] : List Instr).all (fun c => !c.wf) = true := by decide

/-! ### Small states -/

/-- A Balgal with its rails up and reset released. -/
def Test.on : State := { ((State.reset.wr PWR_STAT_UP 63).wr PWR_STAT_STATE PWR_ON) with pwr := { Pwr.zero with on := true, held := 0 } }

/-- An active Balgal in phase RUN. -/
def Test.act : State := (Test.on.wr CHART_STATUS_PHASE PH_RUN).wr TOP_STAT_ROLE 1

/-- A Skerry in RUN. -/
def Test.sk : Skerry := { Skerry.dark with pow := { SkPower.zero with state := .run } }

/-- The active Balgal with cell 0 in RUN. -/
def Test.cell : State := Test.act.setCell 0 Test.sk

/-! ### The machine, registers -/

theorem test_stepRunsFront : ({ State.reset with pending := [.railDown] } : State).pending = .railDown :: [] := by decide
theorem test_idle : State.reset.pending = [] ∧ State.reset.pwr.held ≠ 0 := by decide
theorem test_idle_cell : (Test.cell.cell 0).pow.state = .run := by decide +kernel
theorem test_stepKeepsForm : Test.cell.wf = true ∧ ({ Test.cell with pending := [.peakClr] } : State).pending = [.peakClr] := by decide +kernel
theorem test_unaligned : Test.on.pwr.held = 0 ∧ (2 ≠ 4 ∨ 0x40000001 % 4 ≠ 0) ∧ (Test.cell.cell 0).inRun = true := by decide +kernel
theorem test_absent : findBal 0x4000FFFC = none ∧ 0x4000FFFC % 4 = 0 ∧ findSk 0x20000FFC = none ∧ 0x20000FFC % 4 = 0 := by decide +kernel
theorem test_accessCodes : (findBal (A_LANE_CFG 0)).isSome = true ∧ A_LANE_CFG 0 % 4 = 0 ∧ blkOf (A_LANE_CFG 0) = 2 ∧
    Test.on.frozen (A_LANE_CFG 0) = false := by decide +kernel
theorem test_accessCodes_pwr : (findBal A_PWR_STAT).isSome = true ∧ A_PWR_STAT % 4 = 0 ∧ blkOf A_PWR_STAT = 23 ∧
    Test.on.frozen A_PWR_STAT = false := by decide +kernel
theorem test_lockWrite : (Test.on.wrW (lockAddr 2) 0x80000000).locked (A_LANE_CFG 0) = true ∧ Test.on.fresh := ⟨by decide +kernel, by decide⟩
theorem test_readClears : (findBal 0x40010028).any (fun r => r.fields.any (fun f => decide (f.acc = .rc))) = true ∧
    (findSk 0x20000020).any (fun r => r.fields.any (fun f => decide (f.acc = .rc))) = true := by decide +kernel

/-! ### Power and resets -/

theorem test_powerOnReset : State.reset.pwr.on = false := by decide
theorem test_railUp : (State.reset.wr PWR_STAT_STATE PWR_SEQ_UP).rd PWR_STAT_STATE = PWR_SEQ_UP ∧ State.reset.pwr.idx < 5 ∧
    railIn State.reset.pwr.idx 3 750 = true := by decide +kernel
theorem test_railUp_last : let s : State := { (State.reset.wr PWR_STAT_STATE PWR_SEQ_UP) with pwr := { Pwr.zero with on := true, idx := 5 } }
    s.rd PWR_STAT_STATE = PWR_SEQ_UP ∧ s.pwr.idx = 5 ∧ s.pwr.held = 1 ∧ railIn 5 3 3300 = true := by decide +kernel
theorem test_railHardFault : bitOf (Test.on.rd PWR_STAT_UP) 2 = true ∧ Test.on.rd PWR_STAT_STATE = PWR_ON := by decide +kernel
theorem test_railDown : let s := (State.reset.wr PWR_STAT_STATE PWR_SEQ_DOWN).wr PWR_STAT_UP 1
    s.rd PWR_STAT_STATE = PWR_SEQ_DOWN ∧ (s.rd PWR_STAT_UP &&& (63 ^^^ 2 ^ s.pwr.idx)) = 0 := by decide +kernel
theorem test_railRetry : (State.reset.wr PWR_STAT_STATE PWR_WAIT_RETRY).rd PWR_STAT_STATE = PWR_WAIT_RETRY := by decide +kernel
theorem test_railPoll : Test.on.railsUp = true ∧ railIn 5 3 3300 = true ∧ railIn 5 6 3300 = true ∧ Test.on.pwr.held = 0 ∧ Test.on.fresh :=
  ⟨by decide +kernel, by decide, by decide, by decide, by decide⟩
theorem test_pinReset : Test.on.pwr.on = true ∧ Test.on.pwr.masked = false ∧ bitOf Test.on.pwr.held 1 = false ∧
    Test.on.rd PWR_STAT_STATE ≠ PWR_OFF_LOCKED := by decide +kernel
theorem test_softReset : bitsOf (0x5AFE0001 : Word) 16 16 = 0x5AFE ∧ bitsOf (0x5AFE0001 : Word) 0 1 = 1 ∧
    bitsOf (0x00010001 : Word) 16 16 ≠ 0x5AFE := by decide
theorem test_releases : ({ Test.on with pwr := { Test.on.pwr with held := 2 } } : State).pwr.held = 2 ∧
    ({ Test.on with pwr := { Test.on.pwr with held := 4 } } : State).pwr.held = 4 ∧
    ({ Test.on with pwr := { Test.on.pwr with masked := true } } : State).pwr.masked = true := by decide
theorem test_resetComplete : Test.on.railsUp = true ∧ Test.on.phase = PH_RESET ∧ Test.on.lanes.refBad = 0 ∧ Test.on.pwr.clear = true ∧
    isSram 0x100 = true ∧ ({ Test.on with pwr := { Test.on.pwr with clear := false } } : State).pwr.clear = false := by decide +kernel
theorem test_groupClearDone : bitOf (Test.on.rd MEM_PWR_OFF) 3 = false := by decide +kernel
theorem test_temp_hot : Test.on.fresh ∧ Test.on.rd TOP_TEMP_HOT = 0 ∧ Test.on.rd TOP_TEMP_CRIT = 0 ∧ (960 : Int) < 961 ∧ (961 : Int) ≤ 1056 :=
  ⟨by decide, by decide +kernel, by decide +kernel, by decide, by decide⟩
theorem test_temp_crit : (Test.on.wr TOP_TEMP_HOT 1).fresh ∧ (Test.on.wr TOP_TEMP_HOT 1).rd TOP_TEMP_HOT = 1 ∧
    (Test.on.wr TOP_TEMP_HOT 1).rd TOP_TEMP_CRIT = 0 := ⟨by decide, by decide +kernel, by decide +kernel⟩

/-! ### States for the witnesses of the other statements -/

/-- The state with cell 0 in RUN, cell 0 changed by `f`. -/
def Test.k (f : Skerry → Skerry) : State := Test.cell.onCell 0 f

/-- An active Balgal whose chart holds one causeway section and a berth that lists cell 0. -/
def Test.cw : State := { Test.act.wr MEM_STAT_READY 15 with
  chart := { Test.act.chart with secs := [(T_FRAME * 256, [1, 0, 0, 0, 0] ++ List.replicate 95 0xFF), (T_BERTH * 256, [0, 64])] } }

/-- Causeway 0 in state `st` with the watch values `w`. -/
def Test.way (st : Nat) (w : Cway) : State := (Test.cw.wr (CW_STAT_STATE 0) st).setWay 0 w

/-- Standby of a redundant pair. -/
def Test.sb : State := (Test.act.wr TOP_STAT_REDUNDANT 1).wr TOP_STAT_ROLE 2

/-- Active of a redundant pair. -/
def Test.rd : State := (Test.act.wr TOP_STAT_REDUNDANT 1).wr TOP_STAT_ROLE 1

/-- Lane `n` in state `st`. -/
def Test.lane (n st : Nat) : State := Test.act.wr (LANE_STAT_STATE n) st

/-- Cell 0 with port 1 in state `st`. -/
def Test.port (st : Nat) : State := Test.k (fun k => k.wr (SK_LINK_STAT_STATE 1) st)

/-- Cell 0 in power state `p`. -/
def Test.pow (p : Power) : State := Test.k (fun k => k.setPow { k.pow with state := p })

/-- Cell 0 with its core up. -/
def Test.up : State := Test.k (fun k => k.setFr { k.fr with coreUp := true })

/-- Cell 0 with its part accepted and its time locked. -/
def Test.pk (f : Skerry → Skerry) : State := Test.k (fun k => f (((k.wr SK_TOP_STAT_PART 2).wr SK_TIME_STAT_STATE 2).setCmd { k.cmd with blocked := false }))

/-- Cell 0 blocked. -/
def Test.off (f : Skerry → Skerry) : State := Test.k (fun k => f (k.wr SK_GATE_STAT_TARGET ST_BLOCK))

/-- A freight queue of eight descriptors with one posted for cell 0. -/
def Test.queue : State := ((Test.cw.wr CW_FR_SIZE 8).wr CW_FR_HEAD 1).setBytes (Test.cw.descAt 0) ([0, 0, 4, 0] ++ List.replicate 60 0)

/-- A freight job of operation `op` in phase `p`. -/
def Test.job (op p : Nat) : FrJob := { jobOf 0 [] with op := op, phase := p }

/-- A causeway whose part job waits for a reply that has come. -/
def Test.busy : Cway := { Cway.zero with job := some (Test.job 4 1), back := [1] }

/-- Record 0 is `r` and the cycle count is 300. -/
def Test.rc (r : Rec) : State := let s := Test.cw.setRec 0 r; s.setReef { s.reef with cyc := 300 }

/-- The active Balgal with all of its shared memory ready. -/
def Test.mem : State := Test.act.wr MEM_STAT_READY 15

/-- A mark of the scheduler: engine 1 asks and task 3 is ready. -/
def Test.ask : State := { (((((((Test.act.wr (SCHED_TASK_CFG_ENABLE 3) 1).wr (SCHED_TASK_STAT_STATE 3) ST_READY).wr (SCHED_TASK_WAIT 3) 7).wr
  (SCHED_FLAGS 3) 7).wr (SND_STAT_STATE 1) EN_ASKING).wr (SCHED_TASK_STAT_ELEVEL 3) 2).wr (SCHED_TASK_AFF_AFFINITY 3) 255)
  with sched := { Test.act.sched with asks := [(1, 0)] } }

/-- Engine 1 runs task `k`. -/
def Test.runs (k : Nat) : State := ((Test.act.wr (SND_STAT_STATE 1) EN_RUNNING).wr (SCHED_ENG_HOLDING 1) 1).wr (SCHED_ENG_TASK 1) k

/-- Channel 3's configuration: triggered, inputs 0 to 3. -/
def Test.conv (f : ConvSt → ConvSt) : ConvSt := f { ConvSt.zero with cfg := 0x5010F }

/-- The Balgal's converter 3 as `f` leaves it. -/
def Test.bconv (f : ConvSt → ConvSt) : State := Test.act.setConv (Test.act.conv.put 3 (Test.conv f))

/-- Cell 0's converter 1 as `f` leaves it. -/
def Test.kconv (f : ConvSt → ConvSt) : State := Test.k (fun k => k.setConv (k.conv.put 1 (Test.conv f)))

/-- A recorder with a ring and two segments, in state `st`. -/
def Test.recd (st : Nat) : State := (((((Test.act.wr ACQ_REC_SIZE 8).wr ACQ_REC_BASE_BASE 1).wr ACQ_REC_CFG_SEGS 2).wr ACQ_REC_PRE 3).wr ACQ_REC_POST 4).wr ACQ_REC_STAT_STATE st

/-- A DMA descriptor of three bytes. -/
def Test.desc : List Byte := leBytes 4 0x1000 ++ leBytes 4 0x2000 ++ leBytes 4 3 ++ [0, 7, 0, 0] ++ List.replicate 16 0

/-- DMA channel 3 in state `st` at a descriptor in shared memory. -/
def Test.dma (st : Nat) : State := ((Test.mem.setBytes 0x800 Test.desc).wr (DMA_CH_DESC_DESC 3) 64).wr (DMA_CH_STAT_STATE 3) st

/-- DMA channel 3 running the descriptor. -/
def Test.dmaRun : State := { Test.dma DM_RUN with dma := tset (fun _ => DmaCh.zero) (Test.dma DM_RUN).dma 3 (dmaParse Test.desc) }

/-- Source `id` raised. -/
def Test.raised (s : State) (id : Nat) : State := { s with flt := { s.flt with raised := [⟨id, 77, 0, 5⟩] } }

/-- A powered safety island with the section `sec`. -/
def Test.isl (sec : List Byte) : State := Test.act.setSafe { Test.act.safe with powered := true, sec := sec }

/-- A safety section that uses every contactor. -/
def Test.sec : List Byte := [10] ++ List.replicate 15 0 ++ [1, 2, 0, 0] ++ List.replicate 316 0 ++ (List.range 8).flatMap (fun _ => [1, 0, 0, 0]) ++ List.replicate 300 0

/-- A safety session of level 3, the island in state `st`. -/
def Test.sess (st : Nat) : State := ((((Test.isl Test.sec).wr MON_STAT_ENABLED 1).wr MON_STAT_LEVEL 3).wr SAFE_STAT_SESSION 1).wr SAFE_STAT_PW_SET 1 |>.wr SAFE_STAT_STATE st

/-- The monitor open at level `n`. -/
def Test.mon (n : Nat) : State := ((Test.cw.wr MON_STAT_ENABLED 1).wr MON_STAT_DEFAULTS 1).wr MON_STAT_LEVEL n

/-- Cell 0's monitor open. -/
def Test.kmon (f : Skerry → Skerry) : State := Test.k (fun k => f (k.wr SK_MON_STAT_ENABLED 1))

/-- A network section. -/
def Test.netSec : List Byte := List.replicate 16 0 ++ (List.range 4).flatMap (fun _ => [1, 2, 3, 4, 5, 6] ++ [2, 0] ++ List.replicate 24 0) ++
  ([1, 1, 80, 50, 0x40, 0] ++ List.replicate 58 0) ++ List.replicate (656 - 144 - 64) 0 ++ ([1, 1, 4, 0, 1, 2] ++ List.replicate 90 0) ++
  List.replicate (2192 - 656 - 96) 0 ++ ([1, 1] ++ List.replicate 16 0 ++ [1, 0] ++ List.replicate 172 0) ++ List.replicate 600 0

/-- A profile section with limits of 1000. -/
def Test.profSec : List Byte := List.replicate 8 0 ++ (List.range 4).flatMap (fun _ => [0, 0, 3, 0xE8]) ++ [0, 0, 0, 9, 0, 0, 0, 9] ++ List.replicate 40 0

/-- A Balgal with the network and profile sections, port 1 in use. -/
def Test.net : State := { ((Test.act.wr (LANE_CFG_MODE 105) 2).wr (NET_PTP_STAT_PSTATE 1) PTP_SLAVE) with
  chart := { Test.act.chart with secs := [(T_NET * 256, Test.netSec), (T_PROF * 256, Test.profSec)] } }

/-- The profile generator at its limits, `f` applied. -/
def Test.prof (f : Prof → Prof) : State := ((((Test.net.wr PROF_V 10).wr PROF_A 11).wr PROF_D 12).wr PROF_J 13).wr SAFE_STAT_STATE 1
  |>.setProf (f { Test.net.prof with limV := 10, limA := 11, limD := 12, limJ := 13 })

/-- A frame between SOF and EOF over the bytes `p` and their CRC. -/
def Test.frame (p : List Byte) : List Sym := [.k kSOF] ++ p.map .d ++ ((leBytes 4 (crc32 p)).reverse).map .d ++ [.k kEOF]

/-- Lane `n` locked with lane sections loaded, role `r` of a redundant pair. -/
def Test.link (r n : Nat) : State :=
  let s := (((Test.act.wr TOP_STAT_REDUNDANT 1).wr TOP_STAT_ROLE r).wr (LANE_CFG_MODE n) 1).wr (LANE_STAT_STATE n) LN_LOCKED
  { s with chart := { s.chart with secs := [(T_LANE * 256, [1]), (T_FRAME * 256, [1, 0, 0, 0, 0] ++ List.replicate 95 0xFF), (T_BERTH * 256, [0, 64]),
    (T_PROF * 256, Test.profSec)] } }

/-- A linked host port. -/
def Test.host : State := Test.mem.wr HOST_STAT_LINK 1

/-- A gate that may be forced. -/
def Test.force : State := Test.k (fun k => (((k.wr SK_GATE_FILT2_FORCE_ALLOW 1).wr SK_TOP_STAT_PART 2).wr SK_GATE_STAT_HIZ 0).setPow { k.pow with ctype := 1 })

/-- A Balgal whose chart gives the loop engine slot 0. -/
def Test.loop : State := { Test.act with chart := { Test.act.chart with secs := [(T_LOOP * 256, List.replicate 16 0 ++ List.replicate 1000 1)] } }

/-- A level code of the monitor. -/
def Test.code : List Byte := List.replicate 8 0x41

/-- Parameters of a cell that hold the digest of that code with a salt of zeros. -/
def Test.par : List Byte := List.replicate 80 0 ++ sha256 (List.replicate 16 0 ++ Test.code)

/-- A safety session whose password record no password meets: it is longer than a digest. -/
def Test.shut : State := let s := Test.sess 0; s.setSafe { s.safe with record := List.replicate 33 0 }

theorem Test.xor_le (a b : List Byte) : (xorBytes a b).length ≤ a.length := by
  induction a generalizing b with
  | nil => cases b <;> simp [xorBytes]
  | cons x t ih => cases b with
    | nil => simp [xorBytes]
    | cons y u => simpa [xorBytes] using ih u

theorem Test.loop_le (pw : List Byte) (n : Nat) (u acc : List Byte) : (pbkdf2Loop pw n u acc).length ≤ acc.length := by
  induction n generalizing u acc with
  | zero => exact Nat.le_refl _
  | succ n ih => exact Nat.le_trans (ih _ _) (Test.xor_le _ _)

theorem Test.pbkdf2_le (pw salt : List Byte) (n : Nat) : (pbkdf2 pw salt n).length ≤ (hmac256 pw (salt ++ [0, 0, 0, 1])).length :=
  Test.loop_le _ _ _ _

theorem Test.pw_wrong : Test.shut.pwRight [1] = false := by
  have h : (hmac256 [1] (Test.shut.safe.salt ++ [0, 0, 0, 1])).length = 32 := by decide +kernel
  have e : Test.shut.safe.record.isEmpty = false := by decide +kernel
  have r : Test.shut.safe.record.length = 33 := by decide +kernel
  have hne : pbkdf2 [1] Test.shut.safe.salt 4096 ≠ Test.shut.safe.record := by
    intro hc
    have l := Test.pbkdf2_le [1] Test.shut.safe.salt 4096
    rw [hc, r, h] at l
    omega
  unfold State.pwRight
  rw [e, decide_eq_false hne]
  rfl

section
set_option Elab.async false

theorem test_chartLoads_0 :
  let s := Test.act.wr CHART_STATUS_PHASE PH_FETCH
  s.phase = PH_FETCH ∧ s.pwr.held = 0 := by decide +kernel
theorem test_chartLoads_1 :
  let s := Test.act.wr CHART_STATUS_PHASE PH_VERIFY
  s.phase = PH_VERIFY := by decide +kernel
theorem test_chartLoads_2 :
  let s := Test.act.wr CHART_STATUS_PHASE PH_CHECK
  s.phase = PH_CHECK := by decide +kernel
theorem test_chartLoads_3 :
  let s := Test.act.wr CHART_STATUS_PHASE PH_BUILD
  s.phase = PH_BUILD ∧ (secIn (chartSecs s.chart.img) T_SAFETY 0).isEmpty = true := by decide +kernel
theorem test_loadRequests_0 :
  let s := Test.act.wr CHART_STATUS_PHASE PH_FAILED
  s.phase = PH_FAILED := by decide +kernel
theorem test_loadRequests_1 : Test.act.phase ≠ PH_FAILED ∧ Test.act.fresh :=
  by decide +kernel
theorem test_loadRequests_2 : Test.sb.inRun = true ∧ Test.sb.redundant = true ∧ Test.sb.isStandby = true ∧ Test.sb.rd CHART_STATUS_HOT_PEND = 0 :=
  by decide +kernel
theorem test_loadRequests_3 : (Test.act.inRun = false ∨ Test.act.redundant = false ∨ Test.act.isStandby = false) :=
  by decide +kernel
theorem test_loadRequests_4 :
  let s := Test.act.wr CHART_STATUS_HOT_PEND 1
  s.rd CHART_STATUS_HOT_PEND = 1 ∧ s.chart.hotReady = false := by decide +kernel
theorem test_loadRequests_5 :
  let s := (Test.act.wr CHART_STATUS_HOT_PEND 1).setChart { Test.act.chart with hotReady := true }
  s.rd CHART_STATUS_HOT_PEND = 1 ∧ s.chart.hotReady = true := by decide +kernel
theorem test_loadRequests_6 :
  let s := Test.act.wr CHART_STATUS_HOT_PEND 1
  s.rd CHART_STATUS_HOT_PEND = 1 := by decide +kernel
theorem test_referenceClocks_1 :
  let s : State := { Test.act with lanes := { Test.act.lanes with refBad := 2 } }
  s.lanes.refBad = (if true then 2 else 1) := by decide +kernel
theorem test_receiverStates_0 :
  let s := Test.lane 111 LN_SEEK
  111 < 112 ∧ isEth 111 = false ∧ s.laneSt 111 = LN_SEEK := by decide +kernel
theorem test_receiverStates_1 :
  let s := Test.lane 111 LN_ALIGN
  111 < 112 ∧ isEth 111 = false ∧ s.laneSt 111 = LN_ALIGN := by decide +kernel
theorem test_receiverStates_2 :
  let s := Test.lane 103 LN_ALIGN
  103 < 104 ∧ s.laneSt 103 = LN_ALIGN := by decide +kernel
theorem test_receiverStates_3 :
  let s := Test.lane 103 LN_LOCKED
  103 < 104 ∧ s.laneLocked 103 = true := by decide +kernel
theorem test_receiverStates_4 :
  let s := Test.port LN_SEEK
  1 < 2 ∧ (s.cell 0).lanesRun = true ∧ (s.cell 0).rd (SK_LINK_STAT_STATE 1) = LN_SEEK := by decide +kernel
theorem test_receiverStates_5 :
  let s := Test.port LN_ALIGN
  1 < 2 ∧ (s.cell 0).lanesRun = true ∧ (s.cell 0).rd (SK_LINK_STAT_STATE 1) = LN_ALIGN := by decide +kernel
theorem test_receiverStates_6 :
  let s := Test.port LN_LOCKED
  1 < 2 ∧ (s.cell 0).lanesRun = true ∧ (s.cell 0).locked 1 = true := by decide +kernel
theorem test_receiverStates_7 :
  let s := Test.port LN_LOCKED
  1 < 2 ∧ (s.cell 0).lanesRun = true ∧ (s.cell 0).locked 1 = true := by decide +kernel
theorem test_laneWatches_0 :
  let s := Test.lane 111 LN_ALIGN
  111 < 112 ∧ s.laneLocked 111 = false ∧ s.laneSt 111 ≠ LN_OFF ∧ s.rd (LANE_STAT_TIMEOUT 111) = 0 ∧ s.fresh := by decide +kernel
theorem test_laneWatches_1 :
  let s := Test.lane 111 LN_LOCKED
  111 < 112 ∧ s.laneLocked 111 = true ∧ s.rd (LANE_CFG_ERR_LIMIT 111) ≤ (s.laneRx 111).errs + 70000 ∧ s.fresh := by decide +kernel
theorem test_laneWatches_2 :
  let s := (Test.lane 111 LN_LOCKED).wr (LANE_CFG_ERR_LIMIT 111) 4
  111 < 112 ∧ s.laneLocked 111 = true ∧ (s.laneRx 111).errs + 3 < s.rd (LANE_CFG_ERR_LIMIT 111) := by decide +kernel
theorem test_laneWatches_3 :
  let s := Test.lane 111 LN_LOCKED
  111 < 112 ∧ isEth 111 = false ∧ s.laneLocked 111 = true := by decide +kernel
theorem test_laneWatches_4 :
  let s := (Test.lane 111 LN_LOCKED).wr (LANE_CFG_MODE 111) 1
  111 < 112 ∧ bitOf ((0x80010203 : Word)).toNat 31 = true ∧ s.rd (LANE_CFG_MODE 111) ≠ 0 ∧ s.rd (LANE_EYE_STAT_BUSY 111) = 0 ∧ s.laneLocked 111 = true := by decide +kernel
theorem test_laneWatches_5 :
  let s := (Test.lane 111 LN_LOCKED).wr (LANE_EYE_STAT_BUSY 111) 1
  111 < 112 ∧ bitOf ((0x80010203 : Word)).toNat 31 = true ∧ s.rd (LANE_EYE_STAT_BUSY 111) = 1 ∧ s.fresh := by decide +kernel
theorem test_laneWatches_6 :
  let s := (Test.lane 111 LN_LOCKED).wr (LANE_EYE_STAT_BUSY 111) 1
  111 < 112 ∧ s.rd (LANE_EYE_STAT_BUSY 111) = 1 := by decide +kernel
theorem test_causewayStates_0 :
  let s := Test.cw.wr (CW_STAT_STATE 0) CWS_UP
  0 < 96 ∧ s.cwJudged 0 = true ∧ s.downRow 0 false = true ∧ s.cwSt 0 ≠ CWS_DOWN ∧ s.fresh := by decide +kernel
theorem test_causewayStates_1 :
  let s := Test.way CWS_UP { Cway.zero with silent := 0, evRun := 2 }
  0 < 96 ∧ s.cwJudged 0 = true ∧ s.cutRow 0 false = true ∧ s.downRow 0 true = false ∧ s.fresh := by decide +kernel
theorem test_causewayStates_2 :
  let s := Test.cw.wr (CW_STAT_STATE 0) CWS_UP
  0 < 96 ∧ s.cwUsed 0 = true ∧ s.cwSt 0 ≠ CWS_DOWN := by decide +kernel
theorem test_causewayStates_3 :
  let s := Test.cw.wr (CW_STAT_STATE 0) CWS_DOWN
  0 < 96 ∧ s.cwUsed 0 = true ∧ s.cwSt 0 = CWS_DOWN ∧ s.fresh := by decide +kernel
theorem test_causewayStates_4 :
  let s := Test.way CWS_UP { Cway.zero with silent := 0, request := true, blocks := true }
  0 < 96 ∧ s.inRun = true ∧ s.isArbiter = false ∧ s.cwUsed 0 = true ∧ (s.way 0).request = true ∧ (s.way 0).blocks = true ∧ (s.way 0).moved = false ∧ s.cwSt 0 ≠ CWS_DOWN ∧ (s.way 0).silent < 32 ∧ s.cutRow 0 false = false := by decide +kernel
theorem test_causewayStates_5 :
  let s := Test.way CWS_DOWN { Cway.zero with ready := 64 }
  0 < 96 ∧ s.inRun = true ∧ s.isArbiter = false ∧ s.cwUsed 0 = true ∧ (s.way 0).request = false ∧ (s.way 0).moved = false ∧ s.cwSt 0 = CWS_DOWN ∧ 64 ≤ (s.way 0).ready := by decide +kernel
theorem test_causewayStates_6 :
  let s := Test.way CWS_MEASURING { Cway.zero with silent := 0, meas := 8 }
  0 < 96 ∧ s.cwJudged 0 = true ∧ s.cwSt 0 = CWS_MEASURING ∧ 8 ≤ (s.way 0).meas ∧ s.downRow 0 true = false ∧ s.cutRow 0 false = false := by decide +kernel
theorem test_causewayStates_7 :
  let s := Test.way CWS_CUT { Cway.zero with silent := 0, calm := 64 }
  0 < 96 ∧ s.cwJudged 0 = true ∧ s.cwSt 0 = CWS_CUT ∧ 64 ≤ (s.way 0).calm ∧ s.downRow 0 true = false := by decide +kernel
theorem test_causewayStates_8 :
  let s := Test.way CWS_CUT { Cway.zero with silent := 0, mute := 2, muteUp := true }
  0 < 96 ∧ s.inRun = true ∧ s.isArbiter = false ∧ s.cwUsed 0 = true ∧ 2 ≤ (s.way 0).mute ∧ (s.way 0).muteUp = true := by decide +kernel
theorem test_ferryCycleStart_1 : Test.on.inRun = false ∧ Test.on.redundant = false ∧ Test.on.lanesApplied = false ∧ Test.on.cws.tails = [] :=
  by decide +kernel
theorem test_ferriesPass_0 :
  let s := Test.port LN_LOCKED
  1 < 2 ∧ (s.cell 0).lanesRun = true ∧ (s.cell 0).locked 1 = true := by decide +kernel
theorem test_ferriesPass_1 : 1 < 2 ∧ (Test.cell.cell 0).inRun = true ∧ (Test.cell.cell 0).cmd.cyc.seq ≠ 77 :=
  by decide +kernel
theorem test_ferriesPass_2 :
  let s := Test.cw.wr (LANE_STAT_STATE 48) LN_LOCKED
  s.inRun = true ∧ s.isArbiter = false ∧ 48 < 96 ∧ s.cwUsed (s.cwOfLane 48) = true ∧ (s.lanesOf (s.cwOfLane 48)).contains 48 = true ∧ s.laneLocked 48 = true ∧ ferryOk (ferryOf (tagSyms [.k 0xFB, .d 3] 0 0)) (if s.laneTail 48 then 0 else 1) = false := by decide +kernel
theorem test_freightQueue_0 :
  let s := Test.cw.wr CW_FR_SIZE 8
  7 % 4096 < s.rd CW_FR_SIZE ∧ s.rd CW_FR_STAT_BUSY = 0 ∧ (s.rd CW_FR_HEAD + s.rd CW_FR_SIZE - s.rd CW_FR_TAIL % s.rd CW_FR_SIZE) % s.rd CW_FR_SIZE ≤ (7 % 4096 + s.rd CW_FR_SIZE - s.rd CW_FR_TAIL % s.rd CW_FR_SIZE) % s.rd CW_FR_SIZE := by decide +kernel
theorem test_freightQueue_1 :
  let s := Test.cw.wr CW_FR_SIZE 8
  s.rd CW_FR_SIZE ≤ 8 % 4096 ∧ s.fresh := by decide +kernel
theorem test_freightQueue_2 :
  let s : State := { Test.cw with mon := { Test.cw.mon with slot := some (Test.job 1 0) } }
  s.inRun = true ∧ s.isActive = true ∧ s.mon.slot = some (Test.job 1 0) ∧ s.waysFree (Test.job 1 0).cell = true := by decide +kernel
theorem test_freightQueue_3 :
  let b := ([0, 0, 4, 0] ++ List.replicate 60 0)
  Test.queue.inRun = true ∧ Test.queue.isActive = true ∧ Test.queue.mon.slot = none ∧ 0 < Test.queue.rd CW_FR_SIZE ∧ Test.queue.rd CW_FR_TAIL ≠ Test.queue.rd CW_FR_HEAD ∧ Test.queue.descState (Test.queue.rd CW_FR_TAIL) = 0 ∧ Test.queue.readMem .freight (Test.queue.descAt (Test.queue.rd CW_FR_TAIL)) 64 = (.ok b, Test.queue) ∧ Test.queue.frRefused (jobOf (Test.queue.rd CW_FR_TAIL) b).cell (jobOf (Test.queue.rd CW_FR_TAIL) b).op (jobOf (Test.queue.rd CW_FR_TAIL) b).addr (jobOf (Test.queue.rd CW_FR_TAIL) b).len (jobOf (Test.queue.rd CW_FR_TAIL) b).index = false ∧ Test.queue.frWays (jobOf (Test.queue.rd CW_FR_TAIL) b).cell ≠ [] ∧ Test.queue.waysFree (jobOf (Test.queue.rd CW_FR_TAIL) b).cell = true := by decide +kernel
theorem test_freightQueue_4 :
  let s := Test.cw.setWay 0 { Cway.zero with job := some (Test.job 1 1) } |>.setReef { Test.cw.reef with cyc := 9 }
  (s.way 0).job = some (Test.job 1 1) ∧ (Test.job 1 1).phase = 1 ∧ (((Test.job 1 1).op = 1 ∨ (Test.job 1 1).op = 2 ∨ (Test.job 1 1).op = 5)) ∧ (Test.job 1 1).at_ + 1 ≤ s.reef.cyc := by decide +kernel
theorem test_freightQueue_5 :
  let s := Test.cw.setWay 0 { Cway.zero with job := some (Test.job 1 3) }
  (s.way 0).job = some (Test.job 1 3) ∧ (Test.job 1 3).phase = 3 ∧ (s.way 0).back = [] ∧ (Test.job 1 3).tries < 3 := by decide +kernel
theorem test_freightQueue_6 :
  let s := Test.cw.setWay 0 Test.busy
  (s.way 0).job = some (Test.job 4 1) ∧ (Test.job 4 1).phase = 1 ∧ (Test.job 4 1).op = 4 ∧ (s.way 0).back ≠ [] ∧ (Test.job 4 1).idx < 4096 ∧ s.descState (Test.job 4 1).idx < 2 ∧ ((∀ d, d ≠ 0 → (s.way d).job = none)) := ⟨by decide +kernel, by decide +kernel, by decide +kernel, by decide +kernel, by decide +kernel, by decide +kernel, fun d hd => by
    show (tget (fun _ => Cway.zero) (tset (fun _ => Cway.zero) Test.cw.cws.ways 0 Test.busy) d).job = none
    rw [tget_tset_ne _ _ _ (Ne.symm hd)]; rfl⟩
theorem test_freightQueue_7 :
  let s := Test.rc { Rec.zero with partBusy := true, partBlk := 6 }
  s.inRun = true ∧ s.isActive = true ∧ s.isCell 0 = true ∧ (s.crec 0).partBusy = true ∧ (s.crec 0).partBlk = 6 ∧ (s.crec 0).part < 2 ∧ (s.crec 0).partAt + 8 ≤ s.reef.cyc + 1 := by decide +kernel
theorem test_skerryMemoryFreight_0 : (Test.up.cell 0).inRun = true ∧ (Test.up.cell 0).serves true = true :=
  by decide +kernel
theorem test_skerryMemoryFreight_1 :
  let data := ([1, 2, 3, 4] : List Byte)
  (Test.up.cell 0).inRun = true ∧ (Test.up.cell 0).serves true = true ∧ lenOk data.length = true ∧ 0x7FFFC % 4 = 0 ∧ 0x7FFFC + data.length ≤ 0x80000 := by decide +kernel
theorem test_skerryMemoryFreight_2 : (Test.up.cell 0).inRun = true ∧ (Test.up.cell 0).serves true = true ∧ 5 % 256 ≠ 0 ∧ lenOk (5 % 256) = false :=
  by decide +kernel
theorem test_skerryMemoryFreight_3 : (Test.up.cell 0).inRun = true ∧ (Test.up.cell 0).serves true = true ∧ 48 % 256 ≤ 48 :=
  by decide +kernel
theorem test_skerryOtherFreight_0 : (Test.cell.cell 0).inRun = true ∧ (Test.cell.cell 0).serves false = true ∧ 5 < 6 ∧ (Test.cell.cell 0).fr.partId ≠ 77 ∧ (([1] : List Byte)) ≠ [] :=
  by decide +kernel
theorem test_skerryOtherFreight_1 : (Test.cell.cell 0).inRun = true ∧ (Test.cell.cell 0).serves false = true ∧ 0 < 1 ∧ (Test.cell.cell 0).img0.isEmpty = true :=
  by decide +kernel
theorem test_skerryOtherFreight_2 :
  let s := Test.k (fun k => k.setFr { k.fr with image := [(0, List.replicate 48 1)] })
  (s.cell 0).inRun = true ∧ (s.cell 0).serves false = true ∧ 0 < 1 ∧ (s.cell 0).img0.isEmpty = false ∧ 1 < imgBlocks (s.cell 0).img0 := by decide +kernel
theorem test_skerryOtherFreight_3 :
  let s := Test.off id
  (s.cell 0).inRun = true ∧ (s.cell 0).gatesOff = true := by decide +kernel
theorem test_skerryOtherFreight_4 :
  let s := Test.k (fun k => (k.wr SK_GATE_STAT_HIZ 0).wr SK_GATE_STAT_TARGET 2)
  (s.cell 0).inRun = true ∧ (s.cell 0).gatesOff = false := by decide +kernel
theorem test_skerryOtherFreight_5 : (Test.cell.cell 0).inRun = true ∧ (Test.cell.cell 0).rd SK_PWR_STAT_PARK_PEND = 0 :=
  by decide +kernel
theorem test_skerryOtherFreight_6 :
  let r := (⟨1, 0, 0, [], 0, 0, false⟩ : SkReply); let s := Test.k (fun k => k.setFr { k.fr with reply := some ⟨1, 0, 0, [], 0, 0, false⟩ })
  (s.cell 0).inRun = true ∧ (s.cell 0).fr.reply = some r := by decide +kernel
theorem test_cellActions_0 : (Test.cell.cell 0).inRun = true ∧ (Test.cell.cell 0).fired = false ∧ (Test.cell.cell 0).rd SK_GATE_STAT_BYP_FB = 0 :=
  by decide +kernel
theorem test_cellActions_1 : (Test.cell.cell 0).inRun = true :=
  by decide +kernel
theorem test_cellActions_2 :
  let s := Test.off id
  (s.cell 0).inRun = true ∧ (s.cell 0).gatesOff = true ∧ (s.cell 0).discharging = false := by decide +kernel
theorem test_cellActions_3 :
  let s := Test.k (fun k => (k.wr SK_GATE_STAT_HIZ 0).wr SK_GATE_STAT_TARGET 2)
  (s.cell 0).inRun = true ∧ (((s.cell 0).gatesOff = false ∨ (s.cell 0).discharging = true)) := by decide +kernel
theorem test_cellActions_4 :
  let s := Test.k (fun k => k.wrW A_SK_GATE_FLT 4)
  (s.cell 0).inRun = true ∧ (s.cell 0).latchedInputs ≠ [] := by decide +kernel
theorem test_cellActions_5 :
  let s := Test.k (fun k => k.wr SK_GATE_STAT_MODE 1)
  (s.cell 0).inRun = true ∧ (s.cell 0).pow.ctype ≠ 3 ∧ (s.cell 0).mode = 1 := by decide +kernel
theorem test_cellActions_6 :
  let s := Test.k (fun k => k.wr SK_GATE_STAT_MODE 0)
  (s.cell 0).inRun = true ∧ (s.cell 0).pow.ctype ≠ 3 ∧ (s.cell 0).mode ≠ 1 := by decide +kernel
theorem test_flashOrdersAct_0 : (Test.cell.cell 0).inRun = true ∧ 1 % 2 = 1 ∧ (Test.cell.cell 0).pow.ctype ≠ 2 :=
  by decide +kernel
theorem test_flashOrdersAct_1 :
  let s := Test.pk id
  (s.cell 0).inRun = true ∧ 0 % 2 = 0 ∧ (s.cell 0).partOk = true ∧ (s.cell 0).cmd.blocked = false ∧ (s.cell 0).discharging = false ∧ (s.cell 0).fired = false := by decide +kernel
theorem test_flashOrdersAct_2 :
  let s := Test.pk id
  (s.cell 0).inRun = true ∧ (s.cell 0).partOk = true ∧ (s.cell 0).cmd.blocked = false ∧ (s.cell 0).discharging = false ∧ (s.cell 0).fired = false := by decide +kernel
theorem test_flashOrdersAct_3 : (Test.cell.cell 0).inRun = true :=
  by decide +kernel
theorem test_flashOrdersAct_4 :
  let s := Test.pk id
  (s.cell 0).inRun = true ∧ (s.cell 0).partOk = true ∧ (s.cell 0).discharging = false ∧ (s.cell 0).fired = false ∧ (s.cell 0).timeOk = true ∧ (s.cell 0).rd (SK_CMD_SLOT_STATE 0) = SL_FREE ∧ (s.cell 0).rd (SK_CMD_SLOT_STATE 1) = SL_FREE ∧ (s.cell 0).rd SK_CMD_EARLY_VALID = 0 := by decide +kernel
theorem test_flashOrdersAct_5 : (Test.cell.cell 0).inRun = true :=
  by decide +kernel
theorem test_flashOrdersAct_6 :
  let s := Test.pow .repeating
  (s.cell 0).pow.state = .repeating := by decide +kernel
theorem test_flashOrdersAct_7 : (Test.cell.cell 0).pow.state ≠ .repeating :=
  by decide +kernel
theorem test_balgalSendsOrders_0 :
  let o := (⟨3, .wake, 1, 2, 0, 0, false⟩ : DueOrder); let s : State := { Test.cw with flash := { Test.cw.flash with due := [⟨3, .wake, 1, 2, 0, 0, false⟩] } }
  3 ≠ relayLane ∧ s.flash.due = [o] ∧ o.lane = 3 ∧ o.kind = .wake ∧ (tget (fun _ => 0) s.flash.sent 3 < 19) := by decide +kernel
theorem test_balgalSendsOrders_1 :
  let o := (⟨3, .blockAll, 1, 2, 0, 0, false⟩ : DueOrder); let s : State := { Test.cw with flash := { Test.cw.flash with due := [⟨3, .blockAll, 1, 2, 0, 0, false⟩], sentBA := [3] } }
  3 ≠ relayLane ∧ s.flash.due = [o] ∧ o.lane = 3 ∧ o.kind = .blockAll ∧ (tget (fun _ => 0) s.flash.sent 3 < 19) ∧ s.flash.sentBA.contains 3 = true := by decide +kernel
theorem test_balgalSendsOrders_2 : Test.act.isActive = true :=
  by decide +kernel
theorem test_balgalSendsOrders_3 : Test.act.pwr.held = 0 ∧ Test.act.inRun = true ∧ Test.act.isActive = true ∧ bitsOf ((0xB10C0001 : Word)) 0 1 = 1 ∧ bitsOf ((0xB10C0001 : Word)) 16 16 = 0xB10C :=
  by decide +kernel
theorem test_balgalSendsOrders_4 : Test.act.pwr.held = 0 ∧ bitsOf ((0xB10D0001 : Word)) 0 1 = 1 ∧ ((bitsOf ((0xB10D0001 : Word)) 16 16 ≠ 0xB10C ∨ Test.act.inRun = false)) ∧ Test.act.fresh :=
  by decide +kernel
theorem test_balgalSendsOrders_5 :
  let s := Test.sb.wr (LANE_STAT_STATE 99) LN_LOCKED
  s.redundant = true ∧ s.inRun = true ∧ s.isStandby = true ∧ s.laneLocked relayLane = true ∧ flashOf (flashSyms .blockAll 4 0xA5) = some (0x9C, 4, 0xA5) := by decide +kernel
theorem test_balgalSendsOrders_6 :
  let s := Test.cw.setSafe { Test.cw.safe with powered := true, sec := [1] }
  s.isActive = true ∧ s.inRun = true ∧ s.cwUsed 0 = true ∧ s.safe.powered = true ∧ s.safe.sec ≠ [] := by decide +kernel
theorem test_timePaths_0 : Test.act.rd TIME_STAT_PATH = 0 ∧ Test.act.fresh :=
  by decide +kernel
theorem test_timePaths_1 : (Test.cell.cell 0).inRun = true ∧ (Test.cell.cell 0).rd SK_TIME_STAT_PATH = 0 :=
  by decide +kernel
theorem test_timePaths_2 :
  let s := (Test.act.wr TIME_STAT_PATH 1).wr TIME_CTRL_MAIN_EN 1
  s.rd TIME_STAT_PATH = 1 ∧ s.rd TIME_CTRL_MAIN_EN = 1 := by decide +kernel
theorem test_timePaths_3 :
  let s := Test.k (fun k => k.wr SK_TIME_STAT_PATH 1)
  (s.cell 0).inRun = true ∧ (s.cell 0).rd SK_TIME_STAT_PATH = 1 := by decide +kernel
theorem test_timePaths_4 : Test.act.rd TIME_STAT_PATH = 0 :=
  by decide +kernel
theorem test_timePaths_5 : (Test.cell.cell 0).inRun = true ∧ (Test.cell.cell 0).rd SK_TIME_STAT_PATH = 0 :=
  by decide +kernel
theorem test_timePaths_6 :
  let s := (Test.act.wr TOP_STAT_ROLE 2).wr TIME_STAT_STATE TS_LOCKED
  32 ≤ 32 ∧ s.isActive = false ∧ s.rd TIME_STAT_STATE = TS_LOCKED := by decide +kernel
theorem test_timePaths_7 :
  let s := (Test.act.wr (TIME_SRC_CODE 3) 15).wr (TIME_SRC_VALID 3) 1
  3 < 4 ∧ s.isActive = true ∧ s.rd (TIME_SRC_CODE 3) ≠ 0 ∧ s.rd (TIME_SRC_CODE 3) < 16 ∧ s.rd (TIME_SRC_VALID 3) = 1 := by decide +kernel
theorem test_timePaths_8 :
  let s := Test.k (fun k => k.wr SK_TIME_STAT_STATE TS_LOCKED)
  (s.cell 0).inRun = true ∧ (s.cell 0).rd SK_TIME_STAT_STATE = TS_LOCKED := by decide +kernel
theorem test_timePaths_9 :
  let s := Test.act.setClk { Test.act.clk with slew := 5 }
  s.clk.slew ≠ 0 := by decide +kernel
theorem test_timePaths_10 :
  let s := Test.k (fun k => { k with clk := { k.clk with slew := 5 } })
  (s.cell 0).inRun = true ∧ (s.cell 0).clk.slew ≠ 0 := by decide +kernel
theorem test_timeJumps_0 :
  let s := Test.act.wr TIME_STAT_STATE TS_REFUSED
  s.rd TIME_STAT_STATE = TS_REFUSED ∧ s.stepOk = true := by decide +kernel
theorem test_timeJumps_1 :
  let s := Test.act.wr TIME_STAT_STATE TS_REFUSED
  s.rd TIME_STAT_STATE = TS_REFUSED := by decide +kernel
theorem test_timeJumps_2 :
  let s := (Test.act.wr TIME_STAT_STATE TS_REFUSED).wr TIME_STAT_SRC 4
  s.rd TIME_STAT_STATE = TS_REFUSED ∧ 4 ≤ s.rd TIME_STAT_SRC := by decide +kernel
theorem test_timeJumps_3 :
  let s := (Test.act.wr TIME_STAT_STATE TS_REFUSED).wr TIME_STAT_SRC 3
  s.rd TIME_STAT_STATE = TS_REFUSED ∧ s.rd TIME_STAT_SRC < 4 := by decide +kernel
theorem test_timeJumps_4 : Test.act.rd TIME_STAT_STATE ≠ TS_REFUSED ∧ Test.act.fresh :=
  by decide +kernel
theorem test_timeJumps_5 :
  let s := Test.k (fun k => (k.wr SK_TIME_STAT_STATE TS_REFUSED).setCmd { k.cmd with inBlock := 64, errs := [5] })
  (s.cell 0).inRun = true ∧ (s.cell 0).rd SK_TIME_STAT_STATE = TS_REFUSED ∧ 64 ≤ (s.cell 0).cmd.inBlock ∧ (s.cell 0).cmd.errs ≠ [] ∧ within100 (s.cell 0).cmd.errs = true := by decide +kernel
theorem test_marksAndTriggers_0 : bitOf ((0x80000007 : Word)).toNat 31 = true ∧ Test.cw.flash.due = [] ∧ Test.cw.cwUsed (((0x80000007 : Word)).toNat / 256 % 128) = true ∧ Test.cw.redundant = false :=
  by decide +kernel
theorem test_marksAndTriggers_1 :
  let s := (Test.act.wr (TIME_TRIG_COUNT 15) 1).wr (TIME_TRIG_PERIOD 15) 1
  15 < 16 ∧ s.rd (TIME_TRIG_STAT_ARMED 15) = 0 ∧ 0 < s.rd (TIME_TRIG_COUNT 15) ∧ 0 < s.rd (TIME_TRIG_PERIOD 15) := by decide +kernel
theorem test_marksAndTriggers_2 :
  let s := Test.act.wr (TIME_TRIG_STAT_ARMED 15) 1
  15 < 16 ∧ s.rd (TIME_TRIG_STAT_ARMED 15) = 1 ∧ s.fresh := by decide +kernel
theorem test_marksAndTriggers_3 :
  let s := Test.k (fun k => (k.wr (SK_TIME_TRIG_COUNT 1) 1).wr (SK_TIME_TRIG_PERIOD 1) 1)
  1 < 2 ∧ (s.cell 0).inRun = true ∧ (s.cell 0).rd (SK_TIME_TRIG_STAT_ARMED 1) = 0 ∧ 0 < (s.cell 0).rd (SK_TIME_TRIG_COUNT 1) ∧ 0 < (s.cell 0).rd (SK_TIME_TRIG_PERIOD 1) := by decide +kernel
theorem test_marksAndTriggers_4 :
  let s := Test.act.setTrig 15 ⟨2 ^ 60, 0, 1, 0, false⟩
  15 < 16 ∧ s.ct < (s.trig 15).next := by decide +kernel
theorem test_marksAndTriggers_5 :
  let s := Test.k (fun k => k.setTrig 1 ⟨2 ^ 60, 0, 1, 0, false⟩)
  1 < 2 ∧ (s.cell 0).inRun = true ∧ (s.cell 0).ct < ((s.cell 0).trig 1).next := by decide +kernel
theorem test_marksAndTriggers_6 :
  let s := (Test.act.wr (TIME_TRIG_STAT_ARMED 15) 1).setTrig 15 ⟨0, 0, 1, 0, false⟩
  15 < 16 ∧ s.rd (TIME_TRIG_STAT_ARMED 15) = 1 ∧ (s.trig 15).next ≤ s.ct ∧ (s.trig 15).period = 0 ∧ (s.trig 15).count = 1 ∧ s.rd (TIME_TRIG_CTRL_CONT 15) = 0 ∧ s.rd (TIME_TRIG_CTRL_DEST 15) = 0 := by decide +kernel
theorem test_marksAndTriggers_7 :
  let s := Test.k (fun k => ((k.wr (SK_TIME_TRIG_STAT_ARMED 1) 1).wr (SK_TIME_TRIG_CTRL_DEST 1) 4).setTrig 1 ⟨0, 0, 1, 0, false⟩)
  1 < 2 ∧ (s.cell 0).inRun = true ∧ (s.cell 0).rd (SK_TIME_TRIG_STAT_ARMED 1) = 1 ∧ ((s.cell 0).trig 1).next ≤ (s.cell 0).ct ∧ ((s.cell 0).trig 1).period = 0 ∧ ((s.cell 0).trig 1).count = 1 ∧ (s.cell 0).rd (SK_TIME_TRIG_CTRL_CONT 1) = 0 ∧ (s.cell 0).rd (SK_TIME_TRIG_CTRL_DEST 1) = 4 := by decide +kernel
theorem test_marksAndTriggers_8 : Test.act.tim.outTo ≤ Test.act.clk.count :=
  by decide +kernel
theorem test_periods_0 : Test.on.inRun = false :=
  by decide +kernel
theorem test_periods_1 : Test.act.inRun = true :=
  by decide +kernel
theorem test_periods_2 : Test.on.inRun = false :=
  by decide +kernel
theorem test_periods_3 : Test.act.inRun = true :=
  by decide +kernel
theorem test_periods_4 : (Test.cell.cell 0).inRun = true :=
  by decide +kernel
theorem test_armLists_0 :
  let s := Test.cw.setArm 0 { ArmSt.zero with queue := [0, 1] }
  (s.arm 0).queue = 0 :: [1] := by decide +kernel
theorem test_armLists_1 : (Test.cw.arm 5).queue = [] :=
  by decide +kernel
theorem test_armLists_2 :
  let s := Test.cw.wr REEF_STAT_SORTING 32
  5 < 6 ∧ bitOf (s.rd REEF_STAT_SORTING) 5 = true := by decide +kernel
theorem test_armLists_3 : Test.act.inRun = true ∧ Test.act.isArbiter = false :=
  by decide +kernel
theorem test_armLists_4 :
  let s := Test.rc { Rec.zero with hold := 1 }
  (s.crec 0).hold ≠ 0 := by decide +kernel
theorem test_armLists_5 :
  let s := Test.rc { Rec.zero with age := 300 }
  s.isCell 0 = true ∧ s.armOfCell 0 < 6 ∧ s.stale 0 = false ∧ s.polStaleLim (s.armOfCell 0) ≤ (s.crec 0).age := by decide +kernel
theorem test_armLists_6 :
  let s := Test.rc { Rec.zero with retire := true, actAt := 1, tries := 2 }
  (s.crec 0).retire = true ∧ (s.crec 0).actAt ≠ 0 ∧ (s.crec 0).actAt + 8 ≤ s.reef.cyc + 1 ∧ s.recHealth 0 ≠ 2 ∧ (s.crec 0).thy = false ∧ (s.crec 0).again = false ∧ (s.crec 0).tries < 3 := by decide +kernel
theorem test_armLists_7 :
  let s := Test.rc { Rec.zero with retire := true, actAt := 1, tries := 3 }
  (s.crec 0).retire = true ∧ (s.crec 0).actAt ≠ 0 ∧ (s.crec 0).actAt + 8 ≤ s.reef.cyc + 1 ∧ s.recHealth 0 ≠ 2 ∧ (s.crec 0).thy = false ∧ (s.crec 0).again = false ∧ 3 ≤ (s.crec 0).tries ∧ s.fresh := by decide +kernel
theorem test_armLists_8 : bitOf ((0x80000000 : Word)).toNat 31 = true ∧ Test.cw.isCell (((0x80000000 : Word)).toNat % 8192) = true ∧ Test.cw.armOfCell (((0x80000000 : Word)).toNat % 8192) < 6 ∧ (Test.cw.crec (((0x80000000 : Word)).toNat % 8192)).retire = false ∧ Test.cw.recHealth (((0x80000000 : Word)).toNat % 8192) ≠ 2 :=
  by decide +kernel
theorem test_armLists_9 : bitOf ((0x80001FFF : Word)).toNat 31 = true ∧ Test.cw.isCell (((0x80001FFF : Word)).toNat % 8192) = false ∧ Test.cw.fresh :=
  by decide +kernel
theorem test_armLists_10 :
  let s := (Test.cw.wr (REEF_REC0_HEALTH 0) 2).setRec 0 { Rec.zero with got := true, part := 2 }
  bitOf ((0x80002000 : Word)).toNat 31 = true ∧ s.isCell (((0x80002000 : Word)).toNat % 8192) = true ∧ s.armOfCell (((0x80002000 : Word)).toNat % 8192) < 6 ∧ ((0x80002000 : Word)).toNat / 8192 % 4 ≤ 1 ∧ s.recHealth (((0x80002000 : Word)).toNat % 8192) = 2 ∧ (s.crec (((0x80002000 : Word)).toNat % 8192)).got = true ∧ (s.crec (((0x80002000 : Word)).toNat % 8192)).health = 0 ∧ (s.crec (((0x80002000 : Word)).toNat % 8192)).part = 2 := by decide +kernel
theorem test_stagesAndSlots_0 :
  let e := (⟨7, 100, [], [], []⟩ : Epoch); let s := (Test.cw.wr RUN_STAT_COMMITTING 1).setReef { Test.cw.reef with epochs := [⟨7, 100, [], [], []⟩] }
  0 < 6 ∧ s.arms.contains 0 = true ∧ s.committing = true ∧ s.isActive = true ∧ s.toDecide 0 = some e ∧ s.redundant = false := by decide +kernel
theorem test_stagesAndSlots_1 :
  let s := Test.pk (fun k => k.wr (SK_CMD_SLOT_STATE 1) SL_CHOSEN)
  (s.cell 0).inRun = true ∧ 1 < 2 ∧ (s.cell 0).rd (SK_CMD_SLOT_STATE 1) = SL_CHOSEN ∧ (s.cell 0).timeOk = true ∧ (s.cell 0).partOk = true ∧ (s.cell 0).discharging = false ∧ (s.cell 0).fired = false := by decide +kernel
theorem test_stagesAndSlots_2 :
  let s := Test.pk (fun k => k.setGate { k.gate with after := some ⟨2, 0, 0⟩ })
  (s.cell 0).inRun = true ∧ (s.cell 0).gate.after = some ((⟨2, 0, 0⟩ : AfterCh)) := by decide +kernel
theorem test_stagesAndSlots_3 :
  let s := Test.pk (fun k => k.wr (SK_CMD_SLOT_STATE 1) SL_ARMED)
  (s.cell 0).inRun = true ∧ 1 < 2 ∧ (s.cell 0).rd (SK_CMD_SLOT_STATE 1) ≠ SL_FREE := by decide +kernel
theorem test_stagesAndSlots_4 :
  let s := Test.pk (fun k => k.wr SK_CMD_EARLY_VALID 1)
  (s.cell 0).inRun = true ∧ (s.cell 0).rd SK_CMD_EARLY_VALID = 1 := by decide +kernel
theorem test_stagesAndSlots_5 :
  let s := Test.k (fun k => k.wr SK_CMD_SILENT 31)
  (s.cell 0).inRun = true ∧ (s.cell 0).rd SK_CMD_SILENT < 32 := by decide +kernel
theorem test_runOrders_0 :
  let s := ((Test.act.wr CHART_STATUS_SAFETY_OK 1).wr SAFE_STAT_STATE 1).setClk { Test.act.clk with count := 5 }
  s.isActive = true ∧ s.inRun = true ∧ s.committing = false ∧ s.rd CHART_STATUS_SAFETY_OK = 1 ∧ s.rd SAFE_STAT_STATE = 1 ∧ s.flash.lastBA ≠ s.clk.count + 1 := by decide +kernel
theorem test_runOrders_1 : ((Test.act.isActive = false ∨ Test.act.inRun = false ∨ Test.act.committing = true ∨ Test.act.rd CHART_STATUS_SAFETY_OK = 0 ∨ Test.act.rd SAFE_STAT_STATE ≠ 1 ∨ Test.act.flash.lastBA = Test.act.clk.count + 1)) ∧ Test.act.fresh :=
  by decide +kernel
theorem test_runOrders_2 :
  let v := BitVec.ofNat 32 (2250 + 65536 * 1034)
  Test.act.committing = false ∧ 1235 ≤ v.toNat % 4096 ∧ v.toNat % 4096 ≤ 2250 ∧ v.toNat % 4096 % 5 = 0 ∧ 16 ≤ v.toNat / 65536 % 4096 ∧ v.toNat / 65536 % 4096 + 1216 ≤ v.toNat % 4096 := by decide +kernel
theorem test_runOrders_3 : ((Test.act.committing = true ∨ (BitVec.ofNat 32 1234).toNat % 4096 < 1235 ∨ 2250 < (BitVec.ofNat 32 1234).toNat % 4096)) ∧ Test.act.fresh :=
  by decide +kernel
theorem test_runOrders_4 :
  let v := BitVec.ofNat 32 (65536 * 25)
  Test.act.committing = false ∧ v.toNat / 65536 % 32 ≤ 25 := by decide +kernel
theorem test_runOrders_5 :
  let v := BitVec.ofNat 32 (65536 * 26)
  ((Test.act.committing = true ∨ 25 < v.toNat / 65536 % 32)) ∧ Test.act.fresh := by decide +kernel
theorem test_loopOrders_0 :
  let s := Test.act.wr LOOP_STAT_PASS 1
  s.rd LOOP_STAT_PASS = 1 := by decide +kernel
theorem test_loopOrders_1 : Test.act.rd LOOP_STAT_PASS = 0 :=
  by decide +kernel
theorem test_loopOrders_3 : bitOf ((0x80000000 : Word)).toNat 31 = true ∧ Test.loop.slotUsed (((0x80000000 : Word)).toNat % 64) = true :=
  by decide +kernel
theorem test_loopOrders_4 : bitOf ((0x80000001 : Word)).toNat 31 = true ∧ Test.act.slotUsed (((0x80000001 : Word)).toNat % 64) = false ∧ Test.act.fresh :=
  by decide +kernel
theorem test_loopOrders_5 : 1 < 2 ∧ 0 < 48 ∧ 7 < 8 ∧ Test.loop.slotUsed 0 = true ∧ Test.loop.rd LOOP_STAT_BANK ≠ 1 ∧ Test.loop.rd LOOP_STAT_SWAP_PEND = 0 :=
  by decide +kernel
theorem test_loopOrders_6 : 0 < 2 ∧ 0 < 48 ∧ 7 < 8 ∧ Test.loop.slotUsed 0 = true ∧ ((Test.loop.rd LOOP_STAT_BANK = 0 ∨ Test.loop.rd LOOP_STAT_SWAP_PEND = 1)) ∧ Test.loop.fresh :=
  by decide +kernel
theorem test_taps_0 :
  let s := Test.act.wr (LOOP_TAP_LEN_DEPTH 15) 1
  15 < 16 ∧ s.rd (LOOP_TAP_LEN_POST 15) ≤ s.rd (LOOP_TAP_LEN_DEPTH 15) ∧ 0 < s.rd (LOOP_TAP_LEN_DEPTH 15) ∧ s.rd (LOOP_TAP_CFG_RATE 15) ≠ 3 ∧ s.isNode (s.rd (LOOP_TAP_CFG_NODE 15)) = true := by decide +kernel
theorem test_taps_1 :
  let s := Test.act.wr (LOOP_TAP_LEN_POST 15) 1
  15 < 16 ∧ s.rd (LOOP_TAP_LEN_DEPTH 15) < s.rd (LOOP_TAP_LEN_POST 15) ∧ s.fresh := by decide +kernel
theorem test_taps_2 :
  let s := Test.act.wr (LOOP_TAP_STAT_RUN 15) 1
  15 < 16 ∧ s.rd (LOOP_TAP_STAT_TRIGGERED 15) = 0 ∧ s.rd (LOOP_TAP_STAT_RUN 15) = 1 := by decide +kernel
theorem test_taps_3 :
  let s := Test.act.wr (LOOP_TAP_STAT_TRIGGERED 15) 1
  15 < 16 ∧ s.rd (LOOP_TAP_STAT_TRIGGERED 15) = 1 := by decide +kernel
theorem test_taps_4 :
  let s := Test.act.wr (LOOP_TAP_STAT_RUN 15) 1
  15 < 16 ∧ s.rd (LOOP_TAP_STAT_RUN 15) = 1 := by decide +kernel
theorem test_taps_5 :
  let s := (Test.act.wr (LOOP_TAP_STAT_RUN 15) 1).wr (LOOP_TAP_STAT_TRIGGERED 15) 1
  15 < 16 ∧ s.rd (LOOP_TAP_STAT_TRIGGERED 15) = 1 ∧ (s.tap 15).left = 0 ∧ s.rd (LOOP_TAP_STAT_RUN 15) = 1 := by decide +kernel
theorem test_taps_6 : (∀ u, u < 16 → Test.act.rd (LOOP_TAP_STAT_RUN u) = 0) :=
  by decide +kernel
theorem test_taps_7 :
  let s := Test.act.wr (LOOP_TAP_STAT_RUN 15) 1
  15 < 16 ∧ s.rd (LOOP_TAP_STAT_RUN 15) = 1 ∧ s.fresh := by decide +kernel
theorem test_taskFlags_0 : (BitVec.ofNat 32 0x1FFF).toNat / 256 ≤ 31 :=
  by decide +kernel
theorem test_taskFlags_1 : 31 < (BitVec.ofNat 32 0x2000).toNat / 256 ∧ Test.act.fresh :=
  by decide +kernel
theorem test_taskFlags_2 : 255 < 256 ∧ ((7 : Word)) ≠ 0 :=
  by decide +kernel
theorem test_taskFlags_3 : 255 < 256 :=
  by decide +kernel
theorem test_taskFlags_4 :
  let s := (Test.act.wr (SCHED_TASK_WAIT 255) 1).wr (SCHED_FLAGS 255) 1
  255 < 256 ∧ s.taskState 255 = ST_DISABLED ∧ s.taskReady 255 = true ∧ s.flowBusy 255 = false := by decide +kernel
theorem test_taskFlags_5 :
  let s := Test.act.wr (SCHED_TASK_STAT_STATE 255) ST_WAITING
  255 < 256 ∧ s.taskState 255 = ST_WAITING := by decide +kernel
theorem test_taskFlags_6 : 255 < 256 :=
  by decide +kernel
theorem test_grants_0 :
  let s := (Test.act.wr (SND_STAT_STATE 15) EN_RUNNING).wr (SND_STAT_TASK 15) 255
  15 < 16 ∧ s.engState 15 = EN_RUNNING ∧ s.engTask 15 = none := by decide +kernel
theorem test_grants_2 : Test.ask.nextGrant Test.ask.sched.asks = some (1, 3) ∧ 1 < 16 ∧ 3 < 256 ∧ 64 ≤ Test.ask.taskFlow 3 :=
  by decide +kernel
theorem test_grants_3 : Test.act.nextGrant Test.act.sched.asks = none :=
  by decide +kernel
theorem test_grants_4 :
  let s := Test.runs 3
  1 < 18 ∧ s.engTask 1 = some (bitsOf (BitVec.ofNat 32 3) 0 8) ∧ 64 ≤ s.taskFlow (bitsOf (BitVec.ofNat 32 3) 0 8) ∧ s.rd (SCHED_TASK_CFG_ENABLE (bitsOf (BitVec.ofNat 32 3) 0 8)) = 0 := by decide +kernel
theorem test_grants_5 :
  let s := Test.runs 3
  s.engTask 1 ≠ some (bitsOf (BitVec.ofNat 32 4) 0 8) ∧ s.fresh := by decide +kernel
theorem test_grants_6 :
  let s := (Test.runs 3).wr (SCHED_TASK_CFG_RUN_LIMIT 3) 4
  s.engTask 1 = some 3 ∧ 3 < 256 ∧ s.rd (SCHED_TASK_CFG_RUN_LIMIT 3) ≠ 0 ∧ s.sched.late.contains 1 = false ∧ s.fresh := by decide +kernel
theorem test_grants_7 : 3 < 256 ∧ Test.ask.taskState 3 = ST_READY ∧ Test.ask.effLevel 3 < Test.ask.rd (SCHED_TASK_STAT_ELEVEL 3) ∧ Test.ask.effLevel 3 < 8 :=
  by decide +kernel
theorem test_engineControl_0 :
  let s := (Test.act.wr (SND_STAT_STATE 15) EN_RUNNING).wr (SND_STAT_TASK 15) 255
  15 < 16 ∧ s.engState 15 = EN_RUNNING ∧ 1 ≤ 4 ∧ 4 ≤ 4 ∧ s.engTask 15 = none ∧ s.fresh := by decide +kernel
theorem test_engineControl_1 :
  let s := Test.act.wr (SND_STAT_STATE 17) EN_ASKING
  17 < 18 ∧ s.engState 17 = EN_ASKING := by decide +kernel
theorem test_engineControl_2 :
  let s := (Test.act.wr (SND_STAT_STATE 17) EN_RUNNING).wr (SND_STAT_TASK 17) 255
  17 < 18 ∧ s.engState 17 = EN_RUNNING ∧ s.engTask 17 = none := by decide +kernel
theorem test_engineControl_3 :
  let s := Test.act.wr (SND_STAT_STATE 17) EN_HALTED
  17 < 18 ∧ s.engState 17 = EN_HALTED := by decide +kernel
theorem test_engineControl_4 :
  let s := Test.act.wr (SND_STAT_STATE 17) EN_FAULTED
  17 < 18 ∧ s.engState 17 = EN_FAULTED := by decide +kernel
theorem test_engineControl_5 :
  let s := Test.act.wr (SND_STAT_STATE 17) EN_HALTED
  17 < 18 ∧ ((s.engState 17 = EN_HALTED ∨ s.engState 17 = EN_FAULTED)) := by decide +kernel
theorem test_engineControl_6 :
  let s := Test.act.wr (SND_STAT_STATE 17) EN_RUNNING
  17 < 18 ∧ s.engState 17 = EN_RUNNING ∧ s.fresh := by decide +kernel
theorem test_skerryPowerStates_1 :
  let s := Test.pow .start
  ((s.cell 0).pow.state = .start ∨ (s.cell 0).inRun = true ∨ (s.cell 0).pow.state = .repeating) := by decide +kernel
theorem test_skerryPowerStates_2 :
  let s := Test.pow .deepHold
  (s.cell 0).pow.state = .deepHold := by decide +kernel
theorem test_skerryPowerStates_3 :
  let s := Test.pow .dark
  (s.cell 0).pow.state = .dark := by decide +kernel
theorem test_skerryPowerStates_4 :
  let s := Test.pow .deepHold
  (s.cell 0).pow.state = .deepHold ∧ 1 ≤ 4 ∧ 4 ≤ 4 ∧ (((s.cell 0).pow.lockout = false ∨ 4 = 3 ∨ (4 = 2 ∧ (s.cell 0).pow.fell = true))) := by decide +kernel
theorem test_skerryPowerStates_5 :
  let s := Test.k (fun k => k.setPow { k.pow with state := .deepHold, lockout := true })
  (s.cell 0).pow.state = .deepHold ∧ (s.cell 0).pow.lockout = true ∧ 1 ≠ 3 ∧ 1 ≠ 2 := by decide +kernel
theorem test_skerryPowerStates_6 :
  let s := Test.pow .start
  (s.cell 0).pow.state = .start ∧ (s.cell 0).pow.inputs = [] ∧ (s.cell 0).pow.disNext = false := by decide +kernel
theorem test_skerryPowerStates_7 :
  let s := Test.pow .repeating
  (s.cell 0).pow.state = .repeating ∧ ((8 = 5 ∨ 8 = 8 ∨ (8 = 6 ∧ (s.cell 0).pow.bySilence = true))) := by decide +kernel
theorem test_skerryPowerStates_8 :
  let s := Test.off (fun k => (k.wr SK_PWR_TIMES_PARK_AFTER 1).wr (SK_LINK_STAT_STATE 0) LN_LOCKED)
  (s.cell 0).inRun = true ∧ (s.cell 0).gatesOff = true ∧ (s.cell 0).discharging = false ∧ (s.cell 0).rd SK_PWR_TIMES_PARK_AFTER ≠ 0 ∧ (((s.cell 0).locked 0 = true ∨ (s.cell 0).locked 1 = true)) := by decide +kernel
theorem test_skerryPowerStates_9 :
  let s := Test.off (fun k => k.wr SK_PWR_TIMES_DARK_HOLD 1)
  (((s.cell 0).inRun = true ∨ (s.cell 0).pow.state = .repeating)) ∧ (s.cell 0).gatesOff = true ∧ (s.cell 0).discharging = false ∧ (s.cell 0).rd SK_PWR_TIMES_DARK_HOLD ≠ 0 ∧ (s.cell 0).locked 0 = false ∧ (s.cell 0).locked 1 = false := by decide +kernel
theorem test_skerryPowerStates_10 :
  let s := Test.off id
  (s.cell 0).inRun = true ∧ (s.cell 0).gatesOff = true ∧ (s.cell 0).discharging = false := by decide +kernel
theorem test_skerryPowerStates_11 :
  let s := Test.off (fun k => k.wr SK_PWR_STAT_PARK_PEND 1)
  (s.cell 0).inRun = true ∧ (s.cell 0).rd SK_PWR_STAT_PARK_PEND = 1 ∧ (((s.cell 0).pow.parkCollected = true ∨ true = true)) ∧ (s.cell 0).gatesOff = true ∧ (s.cell 0).discharging = false := by decide +kernel
theorem test_skerrySuppliesAndDischarge_0 :
  let s := Test.k (fun k => k.wr SK_PWR_STAT_AUX 1)
  (s.cell 0).rd SK_PWR_STAT_AUX = 1 := by decide +kernel
theorem test_skerrySuppliesAndDischarge_1 :
  let s := Test.k (fun k => k.wr SK_PWR_STAT_AUX 2)
  (((s.cell 0).rd SK_PWR_STAT_AUX = 1 ∨ (s.cell 0).rd SK_PWR_STAT_AUX = 2)) ∧ 3 < 4 ∧ (s.cell 0).pow.faults = [] := by decide +kernel
theorem test_skerrySuppliesAndDischarge_2 :
  let s := Test.k (fun k => (k.wr SK_PWR_STAT_AUX 2).setPow { k.pow with faults := [1, 2, 3] })
  (((s.cell 0).rd SK_PWR_STAT_AUX = 1 ∨ (s.cell 0).rd SK_PWR_STAT_AUX = 2)) ∧ (s.cell 0).pow.faults = [1, 2, 3] ∧ (s.cell 0).clk.fb < 1 + 10000000000 ∧ (s.cell 0).clk.fb < 2 + 10000000000 ∧ (s.cell 0).clk.fb < 3 + 10000000000 := by decide +kernel
theorem test_skerrySuppliesAndDischarge_3 :
  let s := Test.k (fun k => k.wr SK_PWR_STAT_AUX 3)
  (s.cell 0).rd SK_PWR_STAT_AUX = 3 := by decide +kernel
theorem test_skerrySuppliesAndDischarge_4 : (Test.cell.cell 0).inRun = true ∧ 3 < 4 ∧ (((Test.cell.cell 0).pow.ctype = 1 → 3 < 2)) :=
  by decide +kernel
theorem test_skerrySuppliesAndDischarge_5 : (Test.up.cell 0).inRun = true ∧ (Test.up.cell 0).fr.coreUp = true ∧ (Test.up.cell 0).fr.restarts = [] :=
  by decide +kernel
theorem test_skerrySuppliesAndDischarge_6 : (Test.cell.cell 0).inRun = true ∧ (Test.cell.cell 0).rd SK_TOP_STAT_CORE ≠ 2 :=
  by decide +kernel
theorem test_skerrySuppliesAndDischarge_7 :
  let s := Test.k (fun k => (k.wr SK_TOP_IMG_STATE 2).wr SK_TOP_STAT_PART 2)
  (s.cell 0).inRun = true ∧ (s.cell 0).rd SK_TOP_IMG_STATE = 2 ∧ (s.cell 0).partOk = true := by decide +kernel
theorem test_skerrySuppliesAndDischarge_8 :
  let s := Test.off id
  (s.cell 0).inRun = true ∧ (s.cell 0).gatesOff = true ∧ (s.cell 0).discharging = false := by decide +kernel
theorem test_skerrySuppliesAndDischarge_9 :
  let s := Test.pow .deepHold
  (s.cell 0).pow.state = .deepHold ∧ (s.cell 0).pow.lockout = false := by decide +kernel
theorem test_skerrySuppliesAndDischarge_10 :
  let s := Test.pow .deepHold
  (s.cell 0).pow.state = .deepHold := by decide +kernel
theorem test_skerrySuppliesAndDischarge_11 :
  let s := Test.k (fun k => k.wr SK_PWR_STAT_DISCHARGING 1)
  (s.cell 0).discharging = true := by decide +kernel
theorem test_skerrySuppliesAndDischarge_12 :
  let s := Test.k (fun k => k.wr SK_PWR_STAT_DISCHARGING 1)
  (s.cell 0).discharging = true := by decide +kernel
theorem test_skerrySuppliesAndDischarge_13 :
  let s := Test.k (fun k => k.wr SK_PWR_STAT_DISCHARGING 1)
  (s.cell 0).discharging = true := by decide +kernel
theorem test_skerrySuppliesAndDischarge_14 :
  let s := Test.k (fun k => k.wr SK_PWR_STAT_DISCHARGING 1)
  (s.cell 0).discharging = true := by decide +kernel
theorem test_skerrySuppliesAndDischarge_15 :
  let s := Test.k (fun k => k.wr SK_PWR_STAT_DISCHARGING 1)
  (s.cell 0).inRun = true ∧ (s.cell 0).discharging = true := by decide +kernel
theorem test_gateEdges_0 :
  let s := Test.k (fun k => k.wr SK_GATE_STAT_HIZ 0)
  (s.cell 0).inRun = true ∧ (s.cell 0).hiZ = false := by decide +kernel
theorem test_gateEdges_1 :
  let s := Test.k (fun k => k.wr SK_GATE_STAT_HIZ 1)
  (s.cell 0).inRun = true ∧ (s.cell 0).hiZ = true := by decide +kernel
theorem test_gateEdges_2 :
  let s := Test.k (fun k => k.wr SK_GATE_STAT_MODE 1)
  (s.cell 0).inRun = true ∧ (s.cell 0).mode = 1 := by decide +kernel
theorem test_gateEdges_3 : (Test.cell.cell 0).inRun = true ∧ 25 ≤ (BitVec.ofNat 32 25).toNat ∧ (BitVec.ofNat 32 25).toNat ≤ 1048575 :=
  by decide +kernel
theorem test_gateEdges_4 : (Test.cell.cell 0).inRun = true ∧ (((BitVec.ofNat 32 24).toNat < 25 ∨ 1048575 < (BitVec.ofNat 32 24).toNat)) :=
  by decide +kernel
theorem test_gateEdges_5 : (Test.force.cell 0).inRun = true ∧ (Test.force.cell 0).forceRefused ((BitVec.ofNat 32 1).toNat % 8) = false :=
  by decide +kernel
theorem test_gateEdges_6 : (Test.force.cell 0).inRun = true ∧ (Test.force.cell 0).forceRefused ((BitVec.ofNat 32 0).toNat % 8) = true :=
  by decide +kernel
theorem test_gateEdges_7 :
  let s := Test.k (fun k => (k.wr SK_GATE_STAT_HIZ 0).setGate { k.gate with force := some 7 })
  (s.cell 0).inRun = true ∧ (s.cell 0).gate.force = some 7 ∧ 7 < 8 ∧ (s.cell 0).hiZ = false ∧ (s.cell 0).fired = false := by decide +kernel
theorem test_gateEdges_8 : (Test.cell.cell 0).inRun = true :=
  by decide +kernel
theorem test_gateEdges_9 : (Test.cell.cell 0).inRun = true :=
  by decide +kernel
theorem test_faultsAndBypass_0 :
  let s := Test.k (fun k => k.wr SK_GATE_STAT_HIZ 0)
  (s.cell 0).inRun = true ∧ (s.cell 0).hiZ = false ∧ 4 ∈ [1, 4] := by decide +kernel
theorem test_faultsAndBypass_1 :
  let s := Test.k (fun k => k.wr SK_GATE_STAT_HIZ 0)
  (s.cell 0).inRun = true ∧ (s.cell 0).hiZ = false ∧ ((∀ c ∈ [10], 9 < c)) := by decide +kernel
theorem test_faultsAndBypass_2 :
  let s := Test.pow .repeating
  (s.cell 0).pow.state = .repeating := by decide +kernel
theorem test_faultsAndBypass_3 :
  let s := Test.k (fun k => k.wrW A_SK_GATE_FLT 4)
  (s.cell 0).inRun = true ∧ (s.cell 0).latchedInputs ≠ [] ∧ ((s.cell 0).latchedInputs.any (fun c => [].contains c) = false) := by decide +kernel
theorem test_faultsAndBypass_4 :
  let s := Test.k (fun k => k.wrW A_SK_GATE_FLT 4)
  (s.cell 0).inRun = true ∧ (s.cell 0).latchedInputs ≠ [] ∧ ((s.cell 0).latchedInputs.any (fun c => [2].contains c) = true) := by decide +kernel
theorem test_faultsAndBypass_5 : (Test.cell.cell 0).pow.state ≠ .dark :=
  by decide +kernel
theorem test_faultsAndBypass_7 :
  let s := Test.k (fun k => k.wr SK_GATE_STAT_FIRED 1)
  (s.cell 0).pow.state ≠ .dark ∧ (s.cell 0).fired = true ∧ (s.cell 0).pow.closed = false ∧ bitOf ((s.cell 0).rd SK_FLT_LATCH_LATCH) 5 = false := by decide +kernel
theorem test_faultsAndBypass_8 : (Test.cell.cell 0).pow.state ≠ .dark ∧ (Test.cell.cell 0).fired = false :=
  by decide +kernel
theorem test_faultsAndBypass_9 :
  let s := Test.k (fun k => k.wr SK_GATE_STAT_FIRED 1)
  (s.cell 0).pow.state ≠ .dark ∧ (s.cell 0).fired = true ∧ (s.cell 0).pow.closed = false := by decide +kernel
theorem test_windowsAndScans_0 :
  let s := Test.act.setConv { Test.act.conv with mainsOn := true }
  s.conv.mainsOn = true ∧ s.conv.mainsLeft = 0 := by decide +kernel
theorem test_windowsAndScans_1 : Test.act.conv.mainsOn = false :=
  by decide +kernel
theorem test_windowsAndScans_2 :
  let s := Test.k (fun k => k.setConv { k.conv with mainsOn := true })
  (s.cell 0).inRun = true ∧ (s.cell 0).conv.mainsOn = true ∧ (s.cell 0).conv.mainsLeft = 0 := by decide +kernel
theorem test_windowsAndScans_3 :
  let s := Test.act.wr CONV_MAINS_STAT_STATE MW_TRACKING
  s.rd CONV_MAINS_STAT_STATE = MW_TRACKING ∧ s.fresh := by decide +kernel
theorem test_windowsAndScans_4 :
  let s := Test.bconv id
  3 < 24 ∧ (BitVec.ofNat 32 8).toNat = 2 ^ 3 ∧ cfgTrig (s.conv1 3).cfg = true ∧ cfgMask (s.conv1 3).cfg ≠ 0 ∧ (s.conv1 3).trigAt ≠ s.clk.count + 1 ∧ (s.conv1 3).trig = false ∧ (s.conv1 3).scanning = false := by decide +kernel
theorem test_windowsAndScans_5 :
  let s := Test.kconv id
  (s.cell 0).inRun = true ∧ cfgTrig ((s.cell 0).conv.get 1).cfg = true ∧ cfgMask ((s.cell 0).conv.get 1).cfg ≠ 0 ∧ ((s.cell 0).conv.get 1).trigAt ≠ (s.cell 0).now + 1 ∧ ((s.cell 0).conv.get 1).trig = false ∧ ((s.cell 0).conv.get 1).scanning = false := by decide +kernel
theorem test_windowsAndScans_6 :
  let s := Test.bconv (fun c => { c with scanning := true })
  3 < 24 ∧ s.conv.scanOver 3 = true ∧ (s.conv1 3).tpend = false := by decide +kernel
theorem test_windowsAndScans_7 : Test.act.conv.scanOver 3 = false :=
  by decide +kernel
theorem test_windowsAndScans_8 :
  let s := Test.kconv (fun c => { c with scanning := true })
  (s.cell 0).inRun = true ∧ (s.cell 0).conv.scanOver 1 = true ∧ ((s.cell 0).conv.get 1).tpend = false := by decide +kernel
theorem test_windowsAndScans_9 : 23 < 24 ∧ Test.act.cfgRefused 23 (BitVec.ofNat 32 0x5010F).toNat = false :=
  by decide +kernel
theorem test_windowsAndScans_10 : 23 < 24 ∧ Test.act.cfgRefused 23 (BitVec.ofNat 32 0x501CF).toNat = true ∧ Test.act.fresh :=
  by decide +kernel
theorem test_windowsAndScans_11 :
  let s := Test.act.wr CONV_MAINS_STAT_STATE MW_FIXED
  s.rd CONV_MAINS_STAT_STATE = MW_FIXED ∧ (BitVec.ofNat 32 1).toNat % 0x1000000 ≠ 0 := by decide +kernel
theorem test_windowsAndScans_12 :
  let s := Test.act.wr CONV_MAINS_STAT_STATE MW_FIXED
  ((s.rd CONV_MAINS_STAT_STATE ≠ MW_FIXED ∨ (BitVec.ofNat 32 0).toNat % 0x1000000 = 0)) ∧ s.fresh := by decide +kernel
theorem test_windowsAndScans_13 :
  let s := Test.k (fun k => k.wr SK_CONV_MAINS_SW 8)
  (s.cell 0).inRun = true ∧ (s.cell 0).rd SK_CONV_MAINS_SW ≠ 0 ∧ (BitVec.ofNat 32 1).toNat % 0x1000000 ≠ 0 := by decide +kernel
theorem test_windowsAndScans_14 : 23 < 24 :=
  by decide +kernel
theorem test_windowsAndScans_15 : 23 < 24 ∧ 2 % 4 ≠ 3 :=
  by decide +kernel
theorem test_recorder_0 :
  let s := Test.recd RS_IDLE
  s.hasRec = true ∧ s.recState = RS_IDLE ∧ s.recCfg.ok s.recEnv = true ∧ s.nextSeg = some 0 ∧ 0 < 64 := by decide +kernel
theorem test_recorder_1 :
  let s := Test.recd RS_READY
  s.hasRec = true ∧ s.recState ≠ RS_IDLE ∧ s.fresh := by decide +kernel
theorem test_recorder_2 :
  let s := (Test.recd RS_READY).wr ACQ_REC_GPOST 4
  s.hasRec = true ∧ ((s.recState = RS_FILL ∨ s.recState = RS_READY)) ∧ s.rd ACQ_REC_GPOST ≠ 0 := by decide +kernel
theorem test_recorder_3 :
  let s := Test.recd RS_IDLE
  s.hasRec = true ∧ s.recState = RS_IDLE ∧ s.fresh := by decide +kernel
theorem test_recorder_4 :
  let s := Test.recd RS_FILL
  s.hasRec = true ∧ ((s.recState = RS_FILL ∨ s.recState = RS_READY)) := by decide +kernel
theorem test_recorder_5 :
  let s := Test.recd RS_POST
  s.hasRec = true ∧ s.recState = RS_POST := by decide +kernel
theorem test_recorder_6 :
  let s := (Test.recd RS_FILL).wr ACQ_REC_STAT_D 1
  s.hasRec = true ∧ s.recState ≠ RS_IDLE ∧ s.rd ACQ_REC_STAT_D ≠ 0 ∧ s.recd.edges + 1 < 2 ^ s.rd ACQ_REC_STAT_D := by decide +kernel
theorem test_recorder_7 :
  let s := Test.recd RS_READY
  s.hasRec = true ∧ ((s.recState = RS_FILL ∨ s.recState = RS_READY)) ∧ s.rd ACQ_REC_STAT_D = 0 ∧ s.recd.queue.length < 47 := by decide +kernel
theorem test_recorder_8 :
  let s := let s := Test.recd RS_READY; { s with recd := { s.recd with queue := List.replicate 64 (0, []) } }
  s.hasRec = true ∧ s.recState ≠ RS_IDLE ∧ s.rd ACQ_REC_STAT_D = 0 ∧ 64 ≤ s.recd.queue.length := by decide +kernel
theorem test_recorder_9 :
  let s := (((Test.recd RS_READY).wr ACQ_REC_CFG_AUTO 1).wr ACQ_REC_GPOST 4).setClk { Test.act.clk with count := 100 }
  s.hasRec = true ∧ s.recState = RS_READY ∧ s.on ACQ_REC_CFG_AUTO = true ∧ s.recd.readyAt < s.clk.count ∧ s.recd.readyAt + 625000 * s.rd ACQ_REC_AUTO ≤ s.clk.count ∧ s.rd ACQ_REC_GPOST ≠ 0 := by decide +kernel
theorem test_recorder_10 :
  let s := Test.recd RS_IDLE
  s.recState ≠ RS_READY := by decide +kernel
theorem test_recorder_11 :
  let s := (Test.act.wr (ACQ_ENG_STAT_HOLDING 7) 1).wr (ACQ_ENG_CFG_HOLD_MODE 7) 1
  7 < 8 ∧ s.on (ACQ_ENG_STAT_HOLDING 7) = true ∧ s.rd (ACQ_ENG_CFG_HOLD_MODE 7) = 1 ∧ (s.eng 7).holdTo ≤ s.clk.count := by decide +kernel
theorem test_recorder_12 :
  let s := Test.recd RS_IDLE
  1 < 2 ∧ s.hasRec = true := by decide +kernel
theorem test_recorder_13 :
  let s := Test.recd RS_IDLE
  7 < 8 ∧ s.hasRec = true := by decide +kernel
theorem test_recorder_14 :
  let s := Test.recd RS_IDLE
  7 < 8 ∧ s.hasRec = true ∧ s.rd (ACQ_ENG_CFG_TYPE 7) ≠ 2 := by decide +kernel
theorem test_recorder_15 :
  let s := (Test.recd RS_IDLE).wr (ACQ_ENG_CFG_TYPE 7) 2
  7 < 8 ∧ s.hasRec = true ∧ s.rd (ACQ_ENG_CFG_TYPE 7) = 2 := by decide +kernel
theorem test_sharedMemory_0 : isSram 128 = true ∧ 0 < 128 ∧ 128 % 128 + 128 ≤ 128 ∧ Test.mem.ready (groupOf 128) = true ∧ Test.mem.poisoned 128 128 = false ∧ Test.mem.erasures (groupOf 128) (stripeOf [] [] 0) = [] ∧ (stripeOf [] [] 0).ones = [] :=
  by decide +kernel
theorem test_sharedMemory_1 : (isSram 128 = false ∨ 129 = 0 ∨ 128 < 128 % 128 + 129) :=
  by decide +kernel
theorem test_sharedMemory_2 : isSram 128 = true ∧ 0 < 128 ∧ 128 % 128 + 128 ≤ 128 ∧ Test.act.ready (groupOf 128) = false :=
  by decide +kernel
theorem test_sharedMemory_3 :
  let s := Test.mem.setMst { Test.mem.mst with poison := [16] }
  isSram 128 = true ∧ 0 < 128 ∧ 128 % 128 + 128 ≤ 128 ∧ s.ready (groupOf 128) = true ∧ s.poisoned 128 128 = true := by decide +kernel
theorem test_sharedMemory_4 : isSram 128 = true ∧ 0 < 128 ∧ 128 % 128 + 128 ≤ 128 ∧ Test.mem.ready (groupOf 128) = true ∧ Test.mem.poisoned 128 128 = false ∧ 3 ≤ (Test.mem.erasures (groupOf 128) (stripeOf [] [1, 2, 3] 0)).length :=
  by decide +kernel
theorem test_sharedMemory_5 : isSram 128 = true ∧ (([1] : List Byte)) ≠ [] ∧ 128 % 128 + (([1] : List Byte)).length ≤ 128 ∧ Test.mem.ready (groupOf 128) = true ∧ Test.mem.partPoison 128 (([1] : List Byte)).length = false ∧ Test.mem.erasures (groupOf 128) (stripeOf [] [] 0) = [] ∧ (stripeOf [] [] 0).ones = [] :=
  by decide +kernel
theorem test_sharedMemory_6 : isSram 128 = true ∧ (([1] : List Byte)) ≠ [] ∧ 128 % 128 + (([1] : List Byte)).length ≤ 128 ∧ Test.act.ready (groupOf 128) = false :=
  by decide +kernel
theorem test_sharedMemory_8 : bitOf ((0x80000047 : Word)).toNat 31 = true ∧ ((0x80000047 : Word)).toNat % 128 < 72 ∧ Test.mem.retiredOf (((0x80000047 : Word)).toNat % 128 / 18) = [] ∧ Test.mem.fresh :=
  by decide +kernel
theorem test_sharedMemory_9 :
  let s := Test.act.wrW (A_MEM_BANK_FAIL 0 + 4) 0xC00000
  bitOf ((0x80000047 : Word)).toNat 31 = true ∧ ((0x80000047 : Word)).toNat % 128 < 72 ∧ s.retired (((0x80000047 : Word)).toNat % 128) = false ∧ 2 ≤ (s.retiredOf (((0x80000047 : Word)).toNat % 128 / 18)).length := by decide +kernel
theorem test_sharedMemory_10 : bitOf ((0x80000048 : Word)).toNat 31 = true ∧ 72 ≤ ((0x80000048 : Word)).toNat % 128 ∧ Test.mem.fresh :=
  by decide +kernel
theorem test_sharedMemory_11 :
  let s := Test.mem.wr MEM_BIST_CTRL_EN 1
  s.rd MEM_BIST_CTRL_EN = 1 ∧ s.rd MEM_BIST_STAT_ACTIVE = 0 ∧ s.mst.bist = false ∧ s.bistable 0 = true := by decide +kernel
theorem test_sharedMemory_12 :
  let s := (Test.mem.wr MEM_BIST_CTRL_EN 1).wr MEM_BIST_STAT_ACTIVE 1
  s.rd MEM_BIST_STAT_ACTIVE = 1 ∧ s.rd MEM_BIST_CTRL_EN = 1 := by decide +kernel
theorem test_sharedMemory_13 :
  let s := (Test.mem.wr MEM_CTRL_AUTO_RETIRE 0).wr MEM_BIST_STAT_ACTIVE 1
  s.rd MEM_BIST_STAT_ACTIVE = 1 ∧ s.rd MEM_CTRL_AUTO_RETIRE = 0 ∧ s.fresh := by decide +kernel
theorem test_sharedMemory_15 : Test.act.heldRanges = [] :=
  by decide +kernel
theorem test_dmaTransfers_0 : 31 < 32 ∧ ((Test.act.dmaState 31 = DM_IDLE ∨ Test.act.dmaState 31 = DM_ERROR)) ∧ Test.act.dmaDraining = false :=
  by decide +kernel
theorem test_dmaTransfers_1 :
  let s := Test.dma DM_FETCH
  3 < 32 ∧ ((s.dmaState 3 = DM_FETCH ∨ s.dmaState 3 = DM_RUN ∨ s.dmaDraining = true)) ∧ s.fresh := by decide +kernel
theorem test_dmaTransfers_2 :
  let s := Test.dma DM_FETCH
  3 < 32 ∧ s.dmaState 3 = DM_FETCH ∧ s.rd DMA_STAT_STOPPED = 0 ∧ isSram (s.dmaDescAddr 3) = true ∧ s.memCause (s.dmaDescAddr 3) 32 = none ∧ s.poisoned (s.dmaDescAddr 3) 32 = false ∧ dmaReason (s.bytes (s.dmaDescAddr 3) 32) = 0 ∧ (dmaParse (s.bytes (s.dmaDescAddr 3) 32)).len ≠ 0 := by decide +kernel
theorem test_dmaTransfers_3 :
  let s := (Test.dma DM_FETCH).setByte 0x80D 77
  3 < 32 ∧ s.dmaState 3 = DM_FETCH ∧ s.rd DMA_STAT_STOPPED = 0 ∧ isSram (s.dmaDescAddr 3) = true ∧ s.memCause (s.dmaDescAddr 3) 32 = none ∧ s.poisoned (s.dmaDescAddr 3) 32 = false ∧ dmaReason (s.bytes (s.dmaDescAddr 3) 32) ≠ 0 ∧ s.fresh := by decide +kernel
theorem test_dmaTransfers_4 :
  let s := (Test.dma DM_FETCH).wr (DMA_CH_DESC_DESC 3) 0x4000000
  3 < 32 ∧ s.dmaState 3 = DM_FETCH ∧ s.rd DMA_STAT_STOPPED = 0 ∧ isSram (s.dmaDescAddr 3) = false ∧ s.fresh := by decide +kernel
theorem test_dmaTransfers_5 : 3 < 32 ∧ Test.dmaRun.dmaState 3 = DM_RUN ∧ Test.dmaRun.rd DMA_STAT_STOPPED = 0 ∧ (Test.dmaRun.dmaCh 3).sw = 0 ∧ (Test.dmaRun.dmaCh 3).dw = 0 ∧ (Test.dmaRun.dmaCh 3).flags = 7 ∧ (Test.dmaRun.dmaCh 3).len < 2 ^ 25 ∧ Test.dmaRun.rd (DMA_CH_DONE_BYTES 3) = 0 ∧ Test.dmaRun.rd MEM_STAT_READY = 15 ∧ Test.dmaRun.mst.poison = [] ∧ (Test.dmaRun.dmaCh 3).src + (Test.dmaRun.dmaCh 3).len ≤ 0x04000000 ∧ (Test.dmaRun.dmaCh 3).dst + (Test.dmaRun.dmaCh 3).len ≤ 0x04000000 ∧ (((Test.dmaRun.dmaCh 3).src + (Test.dmaRun.dmaCh 3).len ≤ (Test.dmaRun.dmaCh 3).dst ∨ (Test.dmaRun.dmaCh 3).dst + (Test.dmaRun.dmaCh 3).len ≤ (Test.dmaRun.dmaCh 3).src)) ∧ Test.dmaRun.dmaDescAddr 3 + 24 ≤ 0x04000000 ∧ (((Test.dmaRun.dmaCh 3).dst + (Test.dmaRun.dmaCh 3).len ≤ Test.dmaRun.dmaDescAddr 3 + 20 ∨ Test.dmaRun.dmaDescAddr 3 + 24 ≤ (Test.dmaRun.dmaCh 3).dst)) :=
  by decide +kernel
theorem test_dmaTransfers_6 :
  let s := Test.dma DM_RUN
  3 < 32 ∧ ((s.dmaState 3 = DM_FETCH ∨ s.dmaState 3 = DM_RUN)) ∧ s.rd DMA_STAT_STOPPED = 0 ∧ s.fresh := by decide +kernel
theorem test_dmaTransfers_7 :
  let s := Test.act.wr DMA_STAT_STOPPED 1
  s.rd DMA_STAT_STOPPED = 1 := by decide +kernel
theorem test_dmaTransfers_8 : Test.act.rd DMA_STAT_STOPPED = 0 :=
  by decide +kernel
theorem test_dmaTransfers_9 :
  let s := Test.act.wr DMA_STAT_DRAINED 1
  s.rd DMA_STAT_DRAINED = 1 := by decide +kernel
theorem test_dmaTransfers_10 : Test.act.rd DMA_STAT_DRAINED = 0 ∧ Test.act.fresh :=
  by decide +kernel
theorem test_dmaTransfers_11 :
  let s := Test.dma DM_STOPPED
  3 < 32 ∧ s.dmaDraining = false ∧ s.dmaState 3 = DM_STOPPED := by decide +kernel
theorem test_dmaTransfers_12 : 31 < 32 ∧ Test.act.dmaDraining = false ∧ Test.act.dmaState 31 ≠ DM_STOPPED :=
  by decide +kernel
theorem test_dmaTransfers_13 :
  let s := Test.dma DM_FETCH
  3 < 32 ∧ s.dmaState 3 = DM_FETCH := by decide +kernel
theorem test_dmaTransfers_14 :
  let s := Test.dma DM_STOPPED
  3 < 32 ∧ ((s.dmaState 3 = DM_RUN ∨ s.dmaState 3 = DM_STOPPED)) ∧ 0 ≤ s.rd (DMA_CH_DONE_BYTES 3) := by decide +kernel
theorem test_dmaTransfers_15 : 31 < 32 ∧ ((Test.act.dmaState 31 = DM_IDLE ∨ Test.act.dmaState 31 = DM_ERROR)) :=
  by decide +kernel
theorem test_dmaTransfers_16 :
  let s := Test.dma DM_RUN
  3 < 32 ∧ ((s.dmaState 3 = DM_FETCH ∨ s.dmaState 3 = DM_RUN ∨ s.dmaState 3 = DM_STOPPED)) ∧ s.fresh := by decide +kernel
theorem test_faultUnit_0 :
  let s := Test.raised Test.act 0x1C3
  s.flt.raised = [⟨0x1C3, 77, 0, 5⟩] ∧ isSource 0x1C3 = true ∧ s.srcClass 0x1C3 = 0 ∧ s.on (FLT_CLASS_LATCH 0x1C3) = true ∧ s.recValid 0 = false ∧ s.recValid 1 = false ∧ s.recValid 2 = false ∧ (tget (fun _ => 0) s.flt.moved 0 ≠ 0 + 2) := by decide +kernel
theorem test_faultUnit_1 :
  let s := Test.raised (Test.act.wr TOP_STAT_ROLE 0) 0x243
  s.flt.raised = [⟨0x243, 77, 0, 5⟩] ∧ isSource 0x243 = true ∧ s.srcClass 0x243 = 2 ∧ s.recValid 2 = false ∧ s.rd FLT_STAT_STATE ≠ 2 ∧ s.inRun = true ∧ s.isActive = false := by decide +kernel
theorem test_faultUnit_2 :
  let s := ((Test.act.wr (FLT_REC0_VALID 0) 1).wr FLT_TIMING_REACT_C 1).startTimer 0 5
  s.recValid 0 = true ∧ (tget (fun _ => 0) s.flt.timer 0 ≠ 0) ∧ s.recValid 1 = false ∧ s.recValid 2 = false := by decide +kernel
theorem test_faultUnit_3 : tget (fun _ => 0) Test.act.flt.timer 1 = 0 :=
  by decide +kernel
theorem test_faultUnit_4 : 1 < 2 ∧ Test.act.recValid 2 = false :=
  by decide +kernel
theorem test_faultUnit_5 : Test.act.fresh :=
  by decide +kernel
theorem test_faultUnit_6 :
  let s := Test.act.wr FLT_STAT_QUIETING 1
  s.rd FLT_STAT_QUIETING = 1 ∧ ((∀ r ∈ s.flt.raised, s.srcClass r.id = 0)) := by decide +kernel
theorem test_faultUnit_7 : Test.act.rd FLT_STAT_QUIETING = 0 :=
  by decide +kernel
theorem test_faultUnit_8 : Test.act.fresh :=
  by decide +kernel
theorem test_faultUnit_9 :
  let s := Test.act.wr LANE_REF_STAT_REF_OK 1
  s.inRun = true ∧ s.rd FLT_STAT_STATE ≠ 2 ∧ s.on LANE_REF_STAT_REF_OK = true := by decide +kernel
theorem test_faultUnit_10 :
  let s := Test.act.wr FLT_STAT_STATE 2
  (s.inRun = false ∨ s.rd FLT_STAT_STATE = 2 ∨ s.on LANE_REF_STAT_REF_OK = false) := by decide +kernel
theorem test_faultUnit_11 : (Test.cell.cell 0).inRun = true :=
  by decide +kernel
theorem test_partnerFrames_0 :
  let ss := Test.frame ([0x20, 0] ++ List.replicate 93 0); let s := Test.link 1 99
  s.redundant = true ∧ s.lanesApplied = true ∧ 96 ≤ 99 ∧ 99 < 100 ∧ s.rd (LANE_CFG_MODE 99) ≠ 0 ∧ s.laneLocked 99 = true ∧ (s.laneTake 99 ss).2 = true ∧ s.frameValid 99 ss = true ∧ s.isActive = true ∧ s.red.mateGot = false ∧ hRole (fld ss 30 4) ≠ 1 ∧ fld ss 62 1 = 0 := by decide +kernel
theorem test_partnerFrames_1 :
  let ss := Test.frame ([0x30, 0] ++ List.replicate 93 0); let s := (Test.link 1 103).wr RED_STAT_ALIVE1_RUN 1
  s.redundant = true ∧ s.lanesApplied = true ∧ 100 ≤ 103 ∧ 103 < 104 ∧ s.rd (LANE_CFG_MODE 103) ≠ 0 ∧ s.laneLocked 103 = true ∧ (s.laneTake 103 ss).2 = true ∧ s.frameValid 103 ss = true ∧ s.isArbiter = false ∧ s.red.arbGot = false ∧ s.rd RED_STAT_ALIVE1_RUN = 1 ∧ fld ss 62 1 = 0 := by decide +kernel
theorem test_partnerFrames_2 :
  let s := Test.link 1 99
  (s.redundant = false ∨ 104 < 96 ∨ 104 ≤ 104) := by decide +kernel
theorem test_partnerFrames_3 :
  let ss := Test.frame ([0x40, 0] ++ List.replicate 25 0); let s := Test.link 2 98
  s.redundant = true ∧ s.inRun = true ∧ s.isStandby = true ∧ ((98 = 97 ∨ 98 = 98)) ∧ s.laneLocked 98 = true ∧ (s.laneTake 98 ss).2 = true ∧ fld ss 26 1 ≤ 80 ∧ ss.length = 33 + 12 * fld ss 26 1 ∧ frameOk ss ss.length = true ∧ fld ss 1 1 / 16 = 4 ∧ fld ss 2 1 = s.rd TOP_STAT_CONVERTER ∧ crc32 (ferryBytes ss 1 (ss.length - 6)) = fld ss (ss.length - 5) 4 := by decide +kernel
theorem test_partnerFrames_4 :
  let s := Test.link 2 98
  s.redundant = true ∧ s.inRun = true ∧ s.isStandby = true ∧ ((98 = 97 ∨ 98 = 98)) ∧ s.laneLocked 98 = true ∧ s.red.copyDone = false := by decide +kernel
theorem test_partnerFrames_5 :
  let recs := [(⟨1, 0, 0, 0, 0, 0, 0, 0, []⟩ : CopyRec)]; let s := let s := Test.link 2 98; s.setRed { s.red with copyNext := 1 }
  s.redundant = true ∧ s.inRun = true ∧ s.isStandby = true ∧ ((98 = 97 ∨ 98 = 98)) ∧ s.laneLocked 98 = true ∧ s.red.copyDone = false ∧ recs ≠ [] ∧ recs.length ≤ 60 ∧ recs.head?.map (·.g) ≠ s.copyKeys.head? ∧ recs.map (·.g) = (s.copyKeys.drop s.red.copyNext).take recs.length ∧ s.red.copyNext + recs.length < s.copyKeys.length := by decide +kernel
theorem test_partnerFrames_6 :
  let f := (⟨0, 0, 0, 0, 0, PS_IDLE, 0, 0, []⟩ : ProfFrame); let s := Test.link 2 96
  s.redundant = true ∧ s.inRun = true ∧ s.isStandby = true ∧ s.profOn = true ∧ s.laneLocked 96 = true ∧ f.state = PS_IDLE := by decide +kernel
theorem test_partnerFrames_8 :
  let s := Test.link 1 111
  s.inRun = true ∧ s.isArbiter = false ∧ 3 < 4 ∧ s.rd (LANE_CFG_MODE (108 + 3)) ≠ 0 ∧ s.laneLocked (108 + 3) = true ∧ (s.laneTake (108 + 3) (Test.frame [0x70])).2 = true ∧ straitOk (Test.frame [0x70]) = false := by decide +kernel
theorem test_partnerFrames_9 :
  let ss := Test.frame ([0x70] ++ List.replicate 86 0); let s := Test.link 1 111
  s.inRun = true ∧ s.isArbiter = false ∧ 3 < 4 ∧ s.rd (LANE_CFG_MODE (108 + 3)) ≠ 0 ∧ s.laneLocked (108 + 3) = true ∧ (s.laneTake (108 + 3) ss).2 = true ∧ straitOk ss = true := by decide +kernel
theorem test_takeover_0 : Test.rd.redundant = true ∧ Test.rd.isArbiter = false :=
  by decide +kernel
theorem test_takeover_1 : Test.rd.redundant = true ∧ Test.rd.isArbiter = false ∧ Test.rd.red.arbLost = false ∧ Test.rd.fresh :=
  by decide +kernel
theorem test_takeover_2 : Test.rd.redundant = true ∧ Test.rd.isArbiter = false ∧ Test.rd.red.arbGap = 0 :=
  by decide +kernel
theorem test_takeover_3 :
  let s := Test.rd.setRed { Test.rd.red with mateGap := 4 }
  s.redundant = true ∧ s.isArbiter = false ∧ s.isStandby = false ∧ 4 ≤ s.red.mateGap ∧ s.red.mateLost = false ∧ s.fresh := by decide +kernel
theorem test_takeover_4 :
  let s := (Test.sb.wr TIME_STAT_STATE TS_LOCKED).setRed { Test.rd.red with mateGap := 4 }
  s.redundant = true ∧ s.isStandby = true ∧ 4 ≤ s.red.mateGap ∧ s.red.mateLost = false ∧ s.rd TIME_STAT_STATE = TS_LOCKED ∧ s.fresh := by decide +kernel
theorem test_takeover_5 :
  let s := Test.rd.setRed { Test.rd.red with arbGap := 4 }
  s.redundant = true ∧ s.isArbiter = false ∧ 4 ≤ s.red.arbGap ∧ s.red.arbLost = false ∧ s.fresh := by decide +kernel
theorem test_takeover_6 : Test.sb.redundant = true ∧ Test.sb.isStandby = true :=
  by decide +kernel
theorem test_takeover_7 :
  let s := Test.sb.setRed { Test.sb.red with shCyc := 1024 }
  1024 ≤ s.red.shCyc ∧ s.red.shMis ≤ s.rd RED_SHADOW_CFG_MAX := by decide +kernel
theorem test_takeover_8 :
  let s := Test.sb.setRed { Test.sb.red with shCyc := 1024, shMis := 999999 }
  1024 ≤ s.red.shCyc ∧ s.rd RED_SHADOW_CFG_MAX < s.red.shMis := by decide +kernel
theorem test_takeover_9 : Test.rd.redundant = true ∧ Test.rd.isArbiter = false :=
  by decide +kernel
theorem test_takeover_10 : Test.rd.redundant = true ∧ Test.rd.isActive = true ∧ 1 = (Test.rd.rd RED_STAT_GEN + 1) % 256 ∧ Test.rd.red.pend = none ∧ Test.rd.red.last = none :=
  by decide +kernel
theorem test_takeover_11 : Test.rd.redundant = true ∧ Test.rd.isArbiter = false ∧ 0 ≠ (Test.rd.rd RED_STAT_GEN + 1) % 256 ∧ Test.rd.red.last = none :=
  by decide +kernel
theorem test_takeover_12 :
  let s := Test.sb.wr RED_STAT_GEN 255
  s.redundant = true ∧ s.isStandby = true ∧ 0 = (s.rd RED_STAT_GEN + 1) % 256 ∧ s.red.pend = none ∧ s.red.last = none ∧ s.rd CHART_STATUS_HOT_PEND = 0 := by decide +kernel
theorem test_takeover_13 :
  let s := Test.sb.setRed { Test.sb.red with pend := some ⟨1, 1, 0⟩ }
  s.red.pend = some ((⟨1, 1, 0⟩ : Order)) ∧ ((⟨1, 1, 0⟩ : Order)).kind = 1 ∧ s.takeoverDue = true ∧ s.fresh := by decide +kernel
theorem test_takeover_14 :
  let s := Test.rd.setRed { Test.rd.red with pend := some ⟨2, 1, 0⟩ }
  s.red.pend = some ((⟨2, 1, 0⟩ : Order)) ∧ ((⟨2, 1, 0⟩ : Order)).kind = 2 ∧ s.red.mateLost = false ∧ s.takeoverDue = true := by decide +kernel
theorem test_takeover_15 : Test.rd.redundant = true ∧ Test.rd.isActive = true ∧ Test.rd.red.pend = none ∧ Test.rd.fresh :=
  by decide +kernel
theorem test_takeover_16 :
  let s := ((Test.sb.wr RED_STAT_ARB_LOST 1).wr RED_STAT_FIT 1).setRed { Test.sb.red with witRun := 4 }
  s.redundant = true ∧ s.isStandby = true ∧ s.rd RED_STAT_ARB_LOST = 1 ∧ s.rd RED_STAT_FIT = 1 ∧ s.rd RED_STAT_ALIVE0_RUN = 0 ∧ 4 ≤ s.red.witRun ∧ s.red.pend = none ∧ s.rd CHART_STATUS_HOT_PEND = 0 := by decide +kernel
theorem test_safetyIsland_0 :
  let s := Test.isl []
  s.safe.powered = true ∧ 15 < 16 := by decide +kernel
theorem test_safetyIsland_1 :
  let s := Test.isl []
  s.safe.powered = true ∧ 7 < 8 ∧ s.kUsed 7 = false := by decide +kernel
theorem test_safetyIsland_2 :
  let s := Test.isl Test.sec
  s.safe.powered = true ∧ 7 < 8 ∧ s.kUsed 7 = true := by decide +kernel
theorem test_safetyIsland_3 :
  let s := Test.isl []
  s.safe.powered = true ∧ 7 < 8 := by decide +kernel
theorem test_safetyIsland_4 :
  let s := Test.isl []
  s.safe.powered = true ∧ s.safe.sec = [] ∧ s.safe.judged = [] := by decide +kernel
theorem test_safetyIsland_5 :
  let s := let s := Test.isl Test.sec; s.setSafe { s.safe with fw := true }
  s.safe.powered = true ∧ s.safe.sec ≠ [] ∧ s.safe.judged = [] ∧ s.safe.fw = true ∧ s.island ≠ ISL_FAULT := by decide +kernel
theorem test_safetyIsland_6 :
  let s := Test.isl []
  s.safe.powered = true ∧ s.island ≠ ISL_FAULT ∧ 1 ≤ 4 ∧ 4 ≤ 4 := by decide +kernel
theorem test_safetyIsland_7 :
  let s := (Test.isl []).wr SAFE_STAT_STATE ISL_FAULT
  s.island = ISL_FAULT := by decide +kernel
theorem test_safetyIsland_8 :
  let s := Test.act.setFn 3 { SafeFn.zero with kdel := true }
  3 < 4 ∧ (s.safeFn 3).kdel = true := by decide +kernel
theorem test_safetyIsland_9 :
  let s := (Test.isl Test.sec).wr SAFE_OUT_KOUT 128
  s.safe.powered = true ∧ 7 < 8 ∧ s.kUsed 7 = true ∧ bitOf (s.rd SAFE_OUT_KOUT) 7 ≠ bitOf (s.rd SAFE_OUT_KFB) 7 := by decide +kernel
theorem test_safetyIsland_10 :
  let s := Test.isl Test.sec
  s.safe.powered = true ∧ s.safe.sec ≠ [] := by decide +kernel
theorem test_safetyIsland_12 : 999 < 1000 :=
  by decide +kernel
theorem test_safetyIsland_13 :
  let s := Test.isl Test.sec
  s.safe.powered = true ∧ 1000 ≤ 20000 ∧ 20000 ≤ 20000 ∧ s.safe.sec ≠ [] ∧ s.island ≠ ISL_FAULT := by decide +kernel
theorem test_safetyIsland_14 :
  let s := Test.isl []
  s.safe.powered = true ∧ 20000 < 20001 := by decide +kernel
theorem test_safetyIsland_15 :
  let s := Test.act.setSafe { Test.act.safe with powered := false }
  s.safe.powered = false := by decide +kernel
theorem test_safetyIsland_17 :
  let s := Test.isl []
  s.safe.powered = true := by decide +kernel
theorem test_safetySession_0 :
  let s := (Test.sess 0).wr SAFE_STAT_PW_SET 0
  s.monServes = true ∧ s.rd MON_STAT_BUSY = 0 ∧ s.safe.powered = true ∧ s.rd SAFE_STAT_LOCKOUT = 0 ∧ s.pwRight [1] = true := by decide +kernel
theorem test_safetySession_1 : Test.shut.monServes = true ∧ Test.shut.rd MON_STAT_BUSY = 0 ∧ Test.shut.safe.powered = true ∧ Test.shut.rd SAFE_STAT_LOCKOUT = 0 ∧ Test.shut.pwRight [1] = false :=
  ⟨by decide +kernel, by decide +kernel, by decide +kernel, by decide +kernel, Test.pw_wrong⟩
theorem test_safetySession_2 :
  let s := Test.sess 0
  s.monServes = true ∧ s.rd MON_STAT_BUSY = 0 ∧ s.rd MON_STAT_LEVEL = 3 ∧ s.rd SAFE_STAT_SESSION = 1 ∧ ((s.island = ISL_INIT ∨ s.island = ISL_STOPPED)) ∧ codeOk (List.replicate 8 0x41) = true := by decide +kernel
theorem test_safetySession_3 :
  let s := let s := Test.sess 0; s.setSafe { s.safe with refused := [1] }
  s.monServes = true ∧ s.rd MON_STAT_BUSY = 0 ∧ s.rd MON_STAT_LEVEL = 3 ∧ s.rd SAFE_STAT_SESSION = 1 ∧ s.rd SAFE_STAT_PW_SET = 1 ∧ ((s.island = ISL_INIT ∨ s.island = ISL_STOPPED)) ∧ s.safe.refused ≠ [] := by decide +kernel
theorem test_safetySession_4 :
  let s := Test.sess ISL_FAULT
  s.monServes = true ∧ s.rd MON_STAT_BUSY = 0 ∧ s.rd MON_STAT_LEVEL = 3 ∧ s.rd SAFE_STAT_SESSION = 1 ∧ s.rd SAFE_STAT_PW_SET = 1 ∧ s.island = ISL_FAULT := by decide +kernel
theorem test_safetySession_5 :
  let s := Test.sess ISL_FAULT
  s.monServes = true ∧ s.rd MON_STAT_BUSY = 0 ∧ s.rd MON_STAT_LEVEL = 3 ∧ s.rd SAFE_STAT_SESSION = 1 ∧ s.rd SAFE_STAT_PW_SET = 1 ∧ s.island ≤ ISL_FAULT := by decide +kernel
theorem test_safetySession_6 :
  let s := Test.sess 0
  s.monServes = true ∧ s.rd MON_STAT_BUSY = 0 ∧ s.rd MON_STAT_LEVEL = 3 ∧ s.rd SAFE_STAT_SESSION = 1 := by decide +kernel
theorem test_safetySession_7 :
  let s := Test.mon 2
  s.monServes = true ∧ s.rd MON_STAT_BUSY = 0 ∧ s.rd MON_STAT_LEVEL < 3 ∧ s.fresh := by decide +kernel
theorem test_safetySession_8 :
  let s := Test.sess 0
  s.rd SAFE_STAT_SESSION = 1 := by decide +kernel
theorem test_safetySession_9 : Test.act.rd SAFE_STAT_SESSION = 0 :=
  by decide +kernel
theorem test_profileGenerator_0 :
  let s := Test.prof id
  s.profOn = true ∧ s.inRun = true ∧ s.profState = PS_IDLE ∧ s.prof.pend = none ∧ s.island = ISL_RUN ∧ s.prof.limV = s.rd PROF_V ∧ s.prof.limA = s.rd PROF_A ∧ s.prof.limD = s.rd PROF_D ∧ s.prof.limJ = s.rd PROF_J := by decide +kernel
theorem test_profileGenerator_1 :
  let s := (Test.prof id).wr PROF_STAT_STATE 1
  s.profOn = true ∧ s.inRun = true ∧ s.profState = PS_MOVE ∧ s.prof.ended s.reef.start = true ∧ s.prof.pend = none ∧ s.island = ISL_RUN ∧ s.prof.limV = s.rd PROF_V ∧ s.prof.limA = s.rd PROF_A ∧ s.prof.limD = s.rd PROF_D ∧ s.prof.limJ = s.rd PROF_J := by decide +kernel
theorem test_profileGenerator_2 :
  let s := (Test.prof (fun p => { p with pend := some (3, 5) })).wr RUN_STAT_COMMITTING 1
  s.profOn = true ∧ s.inRun = true ∧ s.profState = PS_IDLE ∧ s.prof.pend = some (3, 5) ∧ s.commitView = true ∧ s.island = ISL_RUN ∧ s.prof.limV = s.rd PROF_V ∧ s.prof.limA = s.rd PROF_A ∧ s.prof.limD = s.rd PROF_D ∧ s.prof.limJ = s.rd PROF_J := by decide +kernel
theorem test_profileGenerator_3 : (Test.act.profOn = false ∨ Test.act.inRun = false) :=
  by decide +kernel
theorem test_profileGenerator_4 : Test.net.profSec ≠ [] :=
  by decide +kernel
theorem test_profileGenerator_5 : Test.net.profSec ≠ [] :=
  by decide +kernel
theorem test_profileGenerator_6 : Test.net.profSec ≠ [] :=
  by decide +kernel
theorem test_profileGenerator_7 : (BitVec.ofNat 32 1000).toNat ≠ 0 ∧ (BitVec.ofNat 32 1000).toNat ≤ b32 Test.net.profSec 8 :=
  by decide +kernel
theorem test_profileGenerator_8 : (BitVec.ofNat 32 1000).toNat ≠ 0 ∧ (BitVec.ofNat 32 1000).toNat ≤ b32 Test.net.profSec 12 :=
  by decide +kernel
theorem test_profileGenerator_9 : (BitVec.ofNat 32 1000).toNat ≠ 0 ∧ (BitVec.ofNat 32 1000).toNat ≤ b32 Test.net.profSec 16 :=
  by decide +kernel
theorem test_profileGenerator_10 : (BitVec.ofNat 32 1000).toNat ≠ 0 ∧ (BitVec.ofNat 32 1000).toNat ≤ b32 Test.net.profSec 20 :=
  by decide +kernel
theorem test_profileGenerator_11 : 3 < 4 ∧ (((BitVec.ofNat 32 1001).toNat = 0 ∨ b32 Test.net.profSec (8 + 4 * 3) < (BitVec.ofNat 32 1001).toNat)) ∧ Test.net.fresh :=
  by decide +kernel
theorem test_profileGenerator_12 : Test.act.rd RUN_STAT_COMMITTING = 0 :=
  by decide +kernel
theorem test_profileGenerator_13 :
  let s := Test.act.wr RUN_STAT_COMMITTING 1
  s.rd RUN_STAT_COMMITTING = 1 ∧ s.fresh := by decide +kernel
theorem test_network_0 : Test.net.portUsed 1 = true :=
  by decide +kernel
theorem test_network_1 : Test.net.ptpOn 1 = true ∧ 1 ≠ 0 :=
  by decide +kernel
theorem test_network_2 : Test.net.ptpOn 1 = true ∧ -4 ≤ 0 ∧ 0 ≤ 0 ∧ Test.net.portState 1 = PTP_SLAVE ∧ (Test.net.ptp 1).two = none :=
  by decide +kernel
theorem test_network_3 : Test.net.ptpOn 1 = true ∧ -4 ≤ ((-4 : Int)) ∧ ((-4 : Int)) ≤ 0 ∧ Test.net.portState 1 = PTP_SLAVE ∧ (Test.net.ptp 1).two = none :=
  by decide +kernel
theorem test_network_4 :
  let s := Test.net.setPtp 1 { PtpPort.zero with two := some (9, 500, 7) }
  s.ptpOn 1 = true ∧ s.portState 1 = PTP_SLAVE ∧ (s.ptp 1).two = some (9, 500, 7) := by decide +kernel
theorem test_network_5 : Test.net.ptpOn 1 = true :=
  by decide +kernel
theorem test_network_6 :
  let s := Test.net.setPtp 1 { PtpPort.zero with req := some (9, 500) }
  s.ptpOn 1 = true ∧ (s.ptp 1).req = some (9, 500) := by decide +kernel
theorem test_network_7 : Test.net.ptpOn 1 = true ∧ 1 ≤ 9 ∧ 9 ≤ 9 ∧ 9 ≠ PTP_MASTER :=
  by decide +kernel
theorem test_network_8 : Test.net.ptpOn 1 = true :=
  by decide +kernel
theorem test_network_9 :
  let s := Test.net.wr (NET_PTP_STAT_PSTATE 1) PTP_MASTER
  s.ptpOn 1 = true ∧ s.portState 1 = PTP_MASTER ∧ s.mayMaster 1 = true := by decide +kernel
theorem test_network_10 :
  let s := (Test.net.wr (NET_PTP_STAT_PSTATE 1) PTP_MASTER).wr TOP_STAT_ROLE 0
  s.ptpOn 1 = true ∧ s.portState 1 = PTP_MASTER ∧ s.mayMaster 1 = false := by decide +kernel
theorem test_network_11 : Test.net.ptpOn 1 = true :=
  by decide +kernel
theorem test_network_12 :
  let a := (⟨[], 0, 7, 0, 64, [], []⟩ : Asdu)
  Test.net.portUsed 1 = true ∧ Test.net.svFor 1 0 0x4000 = some 0 ∧ Test.net.svGood 0 false [a] = true ∧ a.smpCnt < 65536 ∧ (tget (fun _ => 0) Test.net.net.sv 0 ≠ a.smpCnt + 1) := by decide +kernel
theorem test_network_13 : Test.net.portUsed 1 = true ∧ Test.net.svFor 1 0 0x4000 = some 0 ∧ Test.net.svGood 0 false [] = false :=
  by decide +kernel
theorem test_network_14 :
  let s := Test.net.setNet { Test.net.net with sets := [(5, [1])] }
  s.net.sets.any (fun x => x.1 = 5) = true := by decide +kernel
theorem test_network_15 :
  let s := Test.net.wr (NET_SV_STAT_STALE 0) 0
  0 < 8 ∧ s.svOn 0 = true ∧ s.rd (NET_SV_STAT_STALE 0) = 0 ∧ s.fresh := by decide +kernel
theorem test_network_16 :
  let m := (⟨0, 0x0102, [], 0, false, 4, true, false, 3, 5, 1000, 0xF⟩ : Goose)
  Test.net.portUsed 1 = true ∧ Test.net.gsFor 1 m = some 0 ∧ Test.net.gsGood 0 m = true ∧ m.stNum ≠ Test.net.rd (NET_GSUB_ST 0) ∧ m.stNum < 2 ^ 32 := by decide +kernel
theorem test_network_17 :
  let m := (⟨0, 0x0102, [], 3, false, 4, true, false, 3, 5, 1000, 0xF⟩ : Goose)
  Test.net.portUsed 1 = true ∧ Test.net.gsFor 1 m = some 0 ∧ Test.net.gsGood 0 m = false := by decide +kernel
theorem test_network_18 :
  let s := Test.net.wr (NET_GSUB_STAT_STALE 0) 0
  0 < 16 ∧ s.gsOn 0 = true ∧ s.rd (NET_GSUB_STAT_STALE 0) = 0 ∧ s.fresh := by decide +kernel
theorem test_network_19 :
  let s := Test.net.setPub 0 { Pub.zero with sent := true, gap := 4 }
  0 < 4 ∧ s.pubOn 0 = true ∧ (s.pub 0).sent = true := by decide +kernel
theorem test_network_20 : Test.net.portUsed 1 = true :=
  by decide +kernel
theorem test_network_21 : Test.net.portUsed 1 = true :=
  by decide +kernel
theorem test_network_22 : 3 < 4 ∧ bitOf (BitVec.ofNat 32 0x130).toNat 8 = true ∧ Test.act.rd (NET_ST_TXCTRL_TX_BUSY 3) = 0 ∧ 1 ≤ (BitVec.ofNat 32 0x130).toNat % 64 ∧ (BitVec.ofNat 32 0x130).toNat % 64 ≤ 48 :=
  by decide +kernel
theorem test_network_23 : 3 < 4 ∧ bitOf (BitVec.ofNat 32 0x131).toNat 8 = true ∧ bitOf (BitVec.ofNat 32 0x131).toNat 17 = false ∧ bitOf (BitVec.ofNat 32 0x131).toNat 18 = false ∧ ((Test.act.rd (NET_ST_TXCTRL_TX_BUSY 3) = 1 ∨ (BitVec.ofNat 32 0x131).toNat % 64 = 0 ∨ 48 < (BitVec.ofNat 32 0x131).toNat % 64)) ∧ Test.act.fresh :=
  by decide +kernel
theorem test_network_24 :
  let s := (Test.act.wr (NET_ST_TXCTRL_TX_BUSY 3) 1).setStLane 3 { StLane.zero with carried := 64 }
  3 < 4 ∧ s.rd (NET_ST_TXCTRL_TX_BUSY 3) = 1 ∧ 64 ≤ (s.stLane 3).carried := by decide +kernel
theorem test_network_25 : 3 < 4 :=
  by decide +kernel
theorem test_hostInterfaces_0 : Test.host.pwr.held = 0 ∧ Test.host.rd HOST_STAT_LINK = 1 ∧ 0 < 16 ∧ 0x3FFFFF0 + 16 ≤ 0x4000000 ∧ Test.host.memCause 0x3FFFFF0 16 = none ∧ Test.host.poisoned 0x3FFFFF0 16 = false :=
  by decide +kernel
theorem test_hostInterfaces_1 : Test.host.pwr.held = 0 ∧ Test.host.rd HOST_STAT_LINK = 1 ∧ (([1] : List Byte)) ≠ [] ∧ 0x3FFFFFF + (([1] : List Byte)).length ≤ 0x4000000 ∧ Test.host.memCause 0x3FFFFFF (([1] : List Byte)).length = none ∧ Test.host.partPoison 0x3FFFFFF (([1] : List Byte)).length = false :=
  by decide +kernel
theorem test_hostInterfaces_2 : Test.host.pwr.held = 0 ∧ Test.host.rd HOST_STAT_LINK = 1 ∧ 0 < 4 ∧ 3 ≠ 0 ∧ barAddr 3 0 4 = none :=
  by decide +kernel
theorem test_hostInterfaces_3 : (Test.act.pwr.held ≠ 0 ∨ Test.act.rd HOST_STAT_LINK = 0) :=
  by decide +kernel
theorem test_hostInterfaces_4 : Test.host.rd HOST_STAT_LINK = 1 ∧ Test.host.fresh :=
  by decide +kernel
theorem test_hostInterfaces_5 : Test.host.rd HOST_STAT_LINK = 1 ∧ Test.host.fresh :=
  by decide +kernel
theorem test_hostInterfaces_6 : Test.act.rd HOST_STAT_LINK = 0 :=
  by decide +kernel
theorem test_hostInterfaces_7 : Test.act.pwr.held = 0 ∧ 1 ≤ 3 ∧ 3 ≤ 3 ∧ ((4 = 1 ∨ 4 = 2 ∨ 4 = 4)) :=
  by decide +kernel
theorem test_hostInterfaces_8 :
  let s := ((Test.host.wr HOST_STAT_MSIX 1).wr CHART_STATUS_PHASE PH_FAILED)
  s.irq = true ∧ s.rd HOST_STAT_MSIX = 1 ∧ s.rd HOST_STAT_LINK = 1 := by decide +kernel
theorem test_hostInterfaces_9 : Test.act.irq = false :=
  by decide +kernel
theorem test_hostInterfaces_10 : ((1 : Word)) ≠ 0 ∧ Test.host.rd HOST_STAT_LINK = 1 :=
  by decide +kernel
theorem test_hostInterfaces_11 : ((1 : Word)) ≠ 0 :=
  by decide +kernel
theorem test_hostInterfaces_12 : Port.core ≠ .pcie ∧ Test.act.fresh :=
  by decide +kernel
theorem test_hostInterfaces_13 : Test.mem.pwr.held = 0 ∧ Test.mem.quayAddr (16 % 2 ^ 24 / 4 * 4) = some 16 ∧ (Test.mem.busRead .quay 16 0).1 = .ok ((0 : Word)) :=
  by decide +kernel
theorem test_hostInterfaces_14 : Test.act.pwr.held = 0 ∧ Test.act.quayAddr (0x9FFFFF % 2 ^ 24 / 4 * 4) = none ∧ Test.act.rd HOST_QY_ERR_VALID = 0 :=
  by decide +kernel
theorem test_hostInterfaces_16 : ((1 : Word)) ≠ 0 :=
  by decide +kernel
theorem test_hostInterfaces_17 : Port.core ≠ .quay ∧ Test.act.fresh :=
  by decide +kernel
theorem test_monitorLevels_0 :
  let s := Test.mon 2
  s.monServes = true ∧ s.rd MON_STAT_BUSY = 0 ∧ s.rd MON_STAT_LOCKOUT = 0 ∧ s.rd MON_STAT_DEFAULTS = 1 ∧ s.rd MON_STAT_LEVEL < 3 := by decide +kernel
theorem test_monitorLevels_1 :
  let s := (Test.mon 2).wr MON_STAT_KEY_STRAP 1
  s.monServes = true ∧ s.rd MON_STAT_BUSY = 0 ∧ s.rd MON_STAT_LOCKOUT = 0 ∧ s.rd MON_STAT_KEY_STRAP = 1 ∧ 1 ≤ s.rd MON_STAT_LEVEL ∧ s.rd MON_STAT_LEVEL ≤ 2 := by decide +kernel
theorem test_monitorLevels_2 :
  let s := (Test.mon 0).wr MON_STAT_LOCKOUT 1
  s.monServes = true ∧ s.rd MON_STAT_BUSY = 0 ∧ s.rd MON_STAT_LOCKOUT = 1 := by decide +kernel
theorem test_monitorLevels_3 :
  let s := Test.kmon (fun k => k.setFr { k.fr with part := List.replicate 12 0 ++ Test.par })
  (s.cell 0).monServes = true ∧ (s.cell 0).rd SK_MON_STAT_LOCKOUT = 0 ∧ (s.cell 0).param ≠ [] ∧ ((((s.cell 0).param.drop 80).take 32).all (fun b => decide (b = 0)) = false) ∧ codeOk Test.code = true ∧ sha256 (((s.cell 0).param.drop 64).take 16 ++ Test.code) = ((s.cell 0).param.drop 80).take 32 := by decide +kernel
theorem test_monitorLevels_4 :
  let s := Test.mon 0
  s.monServes = true ∧ s.rd MON_STAT_BUSY = 0 := by decide +kernel
theorem test_monitorLevels_5 :
  let s := Test.kmon id
  (s.cell 0).monServes = true := by decide +kernel
theorem test_monitorLevels_6 :
  let s := Test.mon 1
  s.monServes = true ∧ s.rd MON_STAT_BUSY = 0 ∧ 1 ≤ s.rd MON_STAT_LEVEL := by decide +kernel
theorem test_monitorLevels_7 :
  let s := Test.mon 0
  s.monServes = true ∧ s.rd MON_STAT_BUSY = 0 ∧ s.rd MON_STAT_LEVEL = 0 ∧ s.fresh := by decide +kernel
theorem test_monitorLevels_8 : Test.act.pwr.held = 0 :=
  by decide +kernel
theorem test_monitorLevels_12 :
  let s := Test.kmon id
  (s.cell 0).inRun = true := by decide +kernel
theorem test_monitorLevels_14 :
  let s := Test.mon 0
  s.monServes = true ∧ s.rd MON_STAT_BUSY = 0 := by decide +kernel
theorem test_monitorLevels_15 :
  let s := Test.kmon id
  (s.cell 0).monServes = true := by decide +kernel
theorem test_monitorLevels_16 :
  let key := (List.replicate 32 7 : List Byte); let s := Test.mon 2
  s.monServes = true ∧ s.rd MON_STAT_BUSY = 0 ∧ 2 ≤ s.rd MON_STAT_LEVEL ∧ key.length = 32 ∧ 3 < 4 ∧ bitOf s.chart.keyProg 3 = false ∧ bitOf s.chart.keyRev 3 = false := by decide +kernel
theorem test_monitorLevels_17 :
  let s := let s := Test.mon 2; s.setChart { s.chart with keyProg := 8 }
  s.monServes = true ∧ s.rd MON_STAT_BUSY = 0 ∧ 2 ≤ s.rd MON_STAT_LEVEL ∧ 3 < 4 ∧ bitOf s.chart.keyProg 3 = true := by decide +kernel
theorem test_monitorAccess_0 :
  let s := Test.mon 0
  s.monServes = true ∧ s.rd MON_STAT_BUSY = 0 ∧ 0x3FFFFFC % 4 = 0 ∧ 0x3FFFFFC + 4 ≤ 0x04000000 ∧ s.memCause 0x3FFFFFC 4 = none ∧ s.poisoned 0x3FFFFFC 4 = false := by decide +kernel
theorem test_monitorAccess_1 :
  let s := Test.mon 0
  s.monServes = true ∧ s.rd MON_STAT_BUSY = 0 ∧ ((257 = 0 ∨ 256 < 257)) := by decide +kernel
theorem test_monitorAccess_2 :
  let s := Test.kmon id
  (s.cell 0).monServes = true ∧ 0x7FFFC % 4 = 0 ∧ 0x7FFFC < 0x80000 := by decide +kernel
theorem test_monitorAccess_3 :
  let s := Test.mon 1
  s.monServes = true ∧ s.rd MON_STAT_BUSY = 0 ∧ 1 ≤ s.rd MON_STAT_LEVEL ∧ 0x3FFFFFC % 4 = 0 ∧ 0x3FFFFFC + 4 ≤ 0x04000000 ∧ s.memCause 0x3FFFFFC 4 = none ∧ s.partPoison 0x3FFFFFC 4 = false := by decide +kernel
theorem test_monitorAccess_4 :
  let s := Test.kmon (fun k => k.wr SK_MON_STAT_LEVEL 1)
  (s.cell 0).monServes = true ∧ (s.cell 0).rd SK_MON_STAT_LEVEL = 1 ∧ 0x7FFFC % 4 = 0 ∧ 0x7FFFC < 0x80000 := by decide +kernel
theorem test_monitorAccess_5 :
  let s := Test.mon 0
  s.monServes = true ∧ s.rd MON_STAT_BUSY = 0 ∧ 1 ≤ 16 ∧ 16 ≤ 16 ∧ 0x3FFFFF0 + 16 ≤ 0x04000000 ∧ s.memCause 0x3FFFFF0 16 = none ∧ s.poisoned 0x3FFFFF0 16 = false := by decide +kernel
theorem test_monitorAccess_6 :
  let s := Test.kmon id
  (s.cell 0).monServes = true ∧ 1 ≤ 16 ∧ 16 ≤ 16 ∧ 0x7FFF0 + 16 ≤ 0x80000 := by decide +kernel
theorem test_monitorAccess_7 :
  let s := Test.mon 0
  s.monServes = true ∧ s.rd MON_STAT_BUSY = 0 ∧ 15 < 16 ∧ (s.tap 15).n = 0 := by decide +kernel
theorem test_monitorAccess_8 :
  let s := ((Test.mon 0).wr SCHED_TRACE_SIZE 4).wr SCHED_TRACE_BASE_BASE 0x100
  s.monServes = true ∧ s.rd MON_STAT_BUSY = 0 ∧ 1 ≤ s.rd SCHED_TRACE_SIZE ∧ 4144 = s.rd SCHED_TRACE_BASE_BASE * 16 + 16 * ((s.rd SCHED_TRACE_WIDX + s.rd SCHED_TRACE_SIZE - 1) % s.rd SCHED_TRACE_SIZE) ∧ s.memCause 4144 16 = none ∧ s.poisoned 4144 16 = false := by decide +kernel
theorem test_monitorAccess_9 :
  let s := Test.mon 0
  s.monServes = true ∧ s.rd MON_STAT_BUSY = 0 := by decide +kernel
theorem test_monitorAccess_10 :
  let s := Test.mon 0
  s.monServes = true ∧ s.rd MON_STAT_BUSY = 0 ∧ storeTypes.contains T_BERTH = true ∧ 0 < 256 ∧ s.sec T_BERTH 0 ≠ [] := by decide +kernel
theorem test_monitorAccess_11 :
  let s := Test.mon 0
  s.monServes = true ∧ s.rd MON_STAT_BUSY = 0 ∧ 1 ≤ 12 ∧ 12 ≤ 12 ∧ s.isCell 0 = true ∧ s.inRun = true ∧ s.isActive = true ∧ s.frRefused 0 1 0x100 (4 * 12) 0 = false := by decide +kernel
theorem test_monitorAccess_12 :
  let s := Test.mon 1
  s.monServes = true ∧ s.rd MON_STAT_BUSY = 0 ∧ 1 ≤ s.rd MON_STAT_LEVEL ∧ s.isCell 0 = true ∧ s.inRun = true ∧ s.isActive = true ∧ s.frRefused 0 2 0x100 4 0 = false := by decide +kernel
theorem test_monitorAccess_13 :
  let s := Test.mon 0
  s.monServes = true ∧ s.rd MON_STAT_BUSY = 0 ∧ s.isCell 0 = true ∧ s.inRun = true ∧ s.isActive = true ∧ s.frRefused 0 5 0 48 0 = false := by decide +kernel
theorem test_monitorAccess_14 :
  let s := Test.mon 1
  s.monServes = true ∧ s.rd MON_STAT_BUSY = 0 ∧ 1 ≤ s.rd MON_STAT_LEVEL ∧ s.isCell 0 = true ∧ s.inRun = true ∧ s.isActive = true ∧ s.frRefused 0 6 (0x80000000 + 0) 0 0 = false := by decide +kernel
theorem test_monitorAccess_15 :
  let s := Test.kmon id
  (s.cell 0).monServes = true ∧ 0xFFD0 + 48 ≤ 0x10000 := by decide +kernel

end
end

section
/-! Every command and every step: they go on, and keep the queue and the canonical forms. -/

namespace Sys2Proof.Machine
open Sys2Proof

/-- Every arm of the dispatch goes on and keeps the queue and the canonical forms: each by its own command's lemma. -/
theorem exec_answers (s : State) : ∀ c : Instr, s.Answers (exec c s)
  | .registerWrite .. => execRegisterWrite_answers ..
  | .rcRead .. => execRcRead_answers ..
  | .timeNowLatch .. => execTimeNowLatch_answers ..
  | .powerOnReset .. => execPowerOnReset_answers ..
  | .vaonFall => execVaonFall_answers ..
  | .railUp .. => execRailUp_answers ..
  | .railStartFailure => execRailStartFailure_answers ..
  | .railPoll .. => execRailPoll_answers ..
  | .pmbAlert .. => execPmbAlert_answers ..
  | .railHardFault .. => execRailHardFault_answers ..
  | .railDown => execRailDown_answers ..
  | .railRetry => execRailRetry_answers ..
  | .pinReset => execPinReset_answers ..
  | .pinResetRelease => execPinResetRelease_answers ..
  | .rstStuck => execRstStuck_answers ..
  | .rstMaskLift => execRstMaskLift_answers ..
  | .softReset .. => execSoftReset_answers ..
  | .softResetEnd => execSoftResetEnd_answers ..
  | .resetComplete .. => execResetComplete_answers ..
  | .groupClearDone .. => execGroupClearDone_answers ..
  | .chartFetch .. => execChartFetch_answers ..
  | .chartVerify => execChartVerify_answers ..
  | .chartCheck => execChartCheck_answers ..
  | .chartBuild .. => execChartBuild_answers ..
  | .load .. => execLoad_answers ..
  | .hotLoad .. => execHotLoad_answers ..
  | .hotCheck => execHotCheck_answers ..
  | .hotApply => execHotApply_answers ..
  | .hotAbort => execHotAbort_answers ..
  | .partResendTimeout .. => execPartResendTimeout_answers ..
  | .refClockBad .. => execRefClockBad_answers ..
  | .refClockGood .. => execRefClockGood_answers ..
  | .signalDetectLost .. => execSignalDetectLost_answers ..
  | .clockRecovered .. => execClockRecovered_answers ..
  | .commaAligned .. => execCommaAligned_answers ..
  | .lossScoreLimit .. => execLossScoreLimit_answers ..
  | .lockTimeout .. => execLockTimeout_answers ..
  | .errIntervalEnd .. => execErrIntervalEnd_answers ..
  | .elasticSlip .. => execElasticSlip_answers ..
  | .eyeScanStart .. => execEyeScanStart_answers ..
  | .eyeScanDone .. => execEyeScanDone_answers ..
  | .ferryCycleStart => execFerryCycleStart_answers ..
  | .ferryReceiveSkerry .. => execFerryReceiveSkerry_answers ..
  | .missingFerry .. => execMissingFerry_answers ..
  | .balgalFerryReceive .. => execBalgalFerryReceive_answers ..
  | .causewayDown .. => execCausewayDown_answers ..
  | .causewayCut .. => execCausewayCut_answers ..
  | .measure .. => execMeasure_answers ..
  | .causewayMeasuring .. => execCausewayMeasuring_answers ..
  | .causewayUp .. => execCausewayUp_answers ..
  | .cutClear .. => execCutClear_answers ..
  | .splitSet .. => execSplitSet_answers ..
  | .freightPost .. => execFreightPost_answers ..
  | .freightIssue => execFreightIssue_answers ..
  | .freightCollect .. => execFreightCollect_answers ..
  | .freightReply .. => execFreightReply_answers ..
  | .freightRead .. => execFreightRead_answers ..
  | .freightWrite .. => execFreightWrite_answers ..
  | .freightPart .. => execFreightPart_answers ..
  | .freightImage .. => execFreightImage_answers ..
  | .freightLog .. => execFreightLog_answers ..
  | .freightReset .. => execFreightReset_answers ..
  | .collect .. => execCollect_answers ..
  | .retire .. => execRetire_answers ..
  | .thyristorTrigger .. => execThyristorTrigger_answers ..
  | .managedDischargeStart .. => execManagedDischargeStart_answers ..
  | .clearLatchedFaults .. => execClearLatchedFaults_answers ..
  | .stepMode .. => execStepMode_answers ..
  | .weaveMode .. => execWeaveMode_answers ..
  | .flashOrderSend .. => execFlashOrderSend_answers ..
  | .relayedFlashOrder .. => execRelayedFlashOrder_answers ..
  | .insertOne .. => execInsertOne_answers ..
  | .bypassOne .. => execBypassOne_answers ..
  | .blockAll .. => execBlockAll_answers ..
  | .commit .. => execCommit_answers ..
  | .timeMark .. => execTimeMark_answers ..
  | .wake .. => execWake_answers ..
  | .partnerBlockAll .. => execPartnerBlockAll_answers ..
  | .mainPathLost .. => execMainPathLost_answers ..
  | .mainPathReturn .. => execMainPathReturn_answers ..
  | .fallbackLoad .. => execFallbackLoad_answers ..
  | .sourceTimeout .. => execSourceTimeout_answers ..
  | .slewEnd .. => execSlewEnd_answers ..
  | .acceptStep .. => execAcceptStep_answers ..
  | .slewJump .. => execSlewJump_answers ..
  | .discardJump .. => execDiscardJump_answers ..
  | .skerryReacquire .. => execSkerryReacquire_answers ..
  | .timeMarkSend .. => execTimeMarkSend_answers ..
  | .controlPeriodStart => execControlPeriodStart_answers ..
  | .triggerArm .. => execTriggerArm_answers ..
  | .triggerDisarm .. => execTriggerDisarm_answers ..
  | .triggerFire .. => execTriggerFire_answers ..
  | .subwindowEnd .. => execSubwindowEnd_answers ..
  | .rerank .. => execRerank_answers ..
  | .resortComplete .. => execResortComplete_answers ..
  | .plan => execPlan_answers ..
  | .swapEnd .. => execSwapEnd_answers ..
  | .stale .. => execStale_answers ..
  | .retireActionTimeout .. => execRetireActionTimeout_answers ..
  | .reefRetire .. => execReefRetire_answers ..
  | .reefHealthSet .. => execReefHealthSet_answers ..
  | .stageDecision .. => execStageDecision_answers ..
  | .commitInstant .. => execCommitInstant_answers ..
  | .afterChange .. => execAfterChange_answers ..
  | .epochDeadline .. => execEpochDeadline_answers ..
  | .earlyCommitExpire .. => execEarlyCommitExpire_answers ..
  | .silentBlock .. => execSilentBlock_answers ..
  | .go .. => execGo_answers ..
  | .halt => execHalt_answers ..
  | .runTimingWrite .. => execRunTimingWrite_answers ..
  | .runSignWrite .. => execRunSignWrite_answers ..
  | .loopPassEnd => execLoopPassEnd_answers ..
  | .swap => execSwap_answers ..
  | .loopRestart .. => execLoopRestart_answers ..
  | .coefWrite .. => execCoefWrite_answers ..
  | .tapArm .. => execTapArm_answers ..
  | .tapTrig .. => execTapTrig_answers ..
  | .tapStop .. => execTapStop_answers ..
  | .tapDone .. => execTapDone_answers ..
  | .traceBaseWrite .. => execTraceBaseWrite_answers ..
  | .schedSet .. => execSchedSet_answers ..
  | .schedFlags .. => execSchedFlags_answers ..
  | .schedFlagsClr .. => execSchedFlagsClr_answers ..
  | .taskEnable .. => execTaskEnable_answers ..
  | .waitWrite .. => execWaitWrite_answers ..
  | .schedAsk .. => execSchedAsk_answers ..
  | .schedGrant => execSchedGrant_answers ..
  | .schedDone .. => execSchedDone_answers ..
  | .runLimitOverrun .. => execRunLimitOverrun_answers ..
  | .agePromotion .. => execAgePromotion_answers ..
  | .engineFault .. => execEngineFault_answers ..
  | .engineHalt .. => execEngineHalt_answers ..
  | .engineRun .. => execEngineRun_answers ..
  | .engineReset .. => execEngineReset_answers ..
  | .obsClear => execObsClear_answers ..
  | .vretLoss .. => execVretLoss_answers ..
  | .capUndervoltage .. => execCapUndervoltage_answers ..
  | .vretPowerUp .. => execVretPowerUp_answers ..
  | .deepHoldWake .. => execDeepHoldWake_answers ..
  | .runEntry .. => execRunEntry_answers ..
  | .repeatWake .. => execRepeatWake_answers ..
  | .parkEntry .. => execParkEntry_answers ..
  | .darkHoldExpiry .. => execDarkHoldExpiry_answers ..
  | .softStartEnd .. => execSoftStartEnd_answers ..
  | .flybackFault .. => execFlybackFault_answers ..
  | .retryEnd .. => execRetryEnd_answers ..
  | .gateSupplyTimeout .. => execGateSupplyTimeout_answers ..
  | .dischAfterExpiry .. => execDischAfterExpiry_answers ..
  | .dischargePause .. => execDischargePause_answers ..
  | .dischargeResume .. => execDischargeResume_answers ..
  | .dischargeDone .. => execDischargeDone_answers ..
  | .disTimeout .. => execDisTimeout_answers ..
  | .disStop .. => execDisStop_answers ..
  | .park .. => execPark_answers ..
  | .parkEffect .. => execParkEffect_answers ..
  | .coreRestart .. => execCoreRestart_answers ..
  | .sramClearDone .. => execSramClearDone_answers ..
  | .imageVerify .. => execImageVerify_answers ..
  | .gateEdge .. => execGateEdge_answers ..
  | .weaveReload .. => execWeaveReload_answers ..
  | .wperWrite .. => execWperWrite_answers ..
  | .gateForce .. => execGateForce_answers ..
  | .forceApply .. => execForceApply_answers ..
  | .forceRelease .. => execForceRelease_answers ..
  | .refreshRequest .. => execRefreshRequest_answers ..
  | .faultInput .. => execFaultInput_answers ..
  | .fltClr .. => execFltClr_answers ..
  | .overVoltage .. => execOverVoltage_answers ..
  | .firePulseEnd .. => execFirePulseEnd_answers ..
  | .bypassConfirm .. => execBypassConfirm_answers ..
  | .bypassConfirmTimeout .. => execBypassConfirmTimeout_answers ..
  | .mainsWindowEnd .. => execMainsWindowEnd_answers ..
  | .mainsTrackTimeout => execMainsTrackTimeout_answers ..
  | .convTrig .. => execConvTrig_answers ..
  | .scanEnd .. => execScanEnd_answers ..
  | .convCfgWrite .. => execConvCfgWrite_answers ..
  | .convMainsSw .. => execConvMainsSw_answers ..
  | .streamRestore .. => execStreamRestore_answers ..
  | .streamEnable .. => execStreamEnable_answers ..
  | .recArm .. => execRecArm_answers ..
  | .recForce .. => execRecForce_answers ..
  | .recStop .. => execRecStop_answers ..
  | .recorderRow => execRecorderRow_answers ..
  | .autoTrigger => execAutoTrigger_answers ..
  | .holdoffEnd .. => execHoldoffEnd_answers ..
  | .segFree .. => execSegFree_answers ..
  | .engineLevelWrite .. => execEngineLevelWrite_answers ..
  | .sramRead .. => execSramRead_answers ..
  | .sramWrite .. => execSramWrite_answers ..
  | .writeBack .. => execWriteBack_answers ..
  | .memRetire .. => execMemRetire_answers ..
  | .bistRegionStart => execBistRegionStart_answers ..
  | .bistRegionEnd .. => execBistRegionEnd_answers ..
  | .bistStop => execBistStop_answers ..
  | .memPwrWrite .. => execMemPwrWrite_answers ..
  | .dmaStart .. => execDmaStart_answers ..
  | .dmaFetch .. => execDmaFetch_answers ..
  | .dmaComplete .. => execDmaComplete_answers ..
  | .dmaBusError .. => execDmaBusError_answers ..
  | .dmaDrained .. => execDmaDrained_answers ..
  | .dmaClear .. => execDmaClear_answers ..
  | .dmaResume .. => execDmaResume_answers ..
  | .dmaAbort .. => execDmaAbort_answers ..
  | .dmaDescWrite .. => execDmaDescWrite_answers ..
  | .faultRaise .. => execFaultRaise_answers ..
  | .reactionTimeout .. => execReactionTimeout_answers ..
  | .faultAck .. => execFaultAck_answers ..
  | .quietExpire => execQuietExpire_answers ..
  | .fltSw .. => execFltSw_answers ..
  | .aliveToggle => execAliveToggle_answers ..
  | .skFltClear .. => execSkFltClear_answers ..
  | .partnerFrame .. => execPartnerFrame_answers ..
  | .relayFrame .. => execRelayFrame_answers ..
  | .copyFrame .. => execCopyFrame_answers ..
  | .profileFrame .. => execProfileFrame_answers ..
  | .straitFrame .. => execStraitFrame_answers ..
  | .peerAliveStop .. => execPeerAliveStop_answers ..
  | .peerAliveResume .. => execPeerAliveResume_answers ..
  | .partnerLost .. => execPartnerLost_answers ..
  | .arbiterLost => execArbiterLost_answers ..
  | .standbySettled => execStandbySettled_answers ..
  | .shadowWindowEnd => execShadowWindowEnd_answers ..
  | .request => execRequest_answers ..
  | .yield .. => execYield_answers ..
  | .take .. => execTake_answers ..
  | .takeoverCycle => execTakeoverCycle_answers ..
  | .fence .. => execFence_answers ..
  | .witnessTakeover => execWitnessTakeover_answers ..
  | .safeInputChange .. => execSafeInputChange_answers ..
  | .testPulse .. => execTestPulse_answers ..
  | .safetyCycle .. => execSafetyCycle_answers ..
  | .islandFault .. => execIslandFault_answers ..
  | .kDelayExpiry .. => execKDelayExpiry_answers ..
  | .contactorFeedbackTimeout .. => execContactorFeedbackTimeout_answers ..
  | .stopReq => execStopReq_answers ..
  | .kReq .. => execKReq_answers ..
  | .safeReset .. => execSafeReset_answers ..
  | .vddSafeRise => execVddSafeRise_answers ..
  | .safeOpen .. => execSafeOpen_answers ..
  | .setPw .. => execSetPw_answers ..
  | .accept => execAccept_answers ..
  | .islandReset => execIslandReset_answers ..
  | .safeRead => execSafeRead_answers ..
  | .safeClose => execSafeClose_answers ..
  | .sessionTimeout => execSessionTimeout_answers ..
  | .safeLockoutEnd => execSafeLockoutEnd_answers ..
  | .servoPeriodStart => execServoPeriodStart_answers ..
  | .move => execMove_answers ..
  | .speed => execSpeed_answers ..
  | .profileHalt => execProfileHalt_answers ..
  | .profLimitWrite .. => execProfLimitWrite_answers ..
  | .profAngle .. => execProfAngle_answers ..
  | .ethFrameReceive .. => execEthFrameReceive_answers ..
  | .ptpSync .. => execPtpSync_answers ..
  | .ptpFollowUp .. => execPtpFollowUp_answers ..
  | .ptpPdelayReq .. => execPtpPdelayReq_answers ..
  | .ptpPdelayResp .. => execPtpPdelayResp_answers ..
  | .ptpAnnounce .. => execPtpAnnounce_answers ..
  | .ptpPdelaySend .. => execPtpPdelaySend_answers ..
  | .ptpMasterSend .. => execPtpMasterSend_answers ..
  | .announceTimeout .. => execAnnounceTimeout_answers ..
  | .svFrame .. => execSvFrame_answers ..
  | .svSetTimeout .. => execSvSetTimeout_answers ..
  | .svStale .. => execSvStale_answers ..
  | .gooseReceive .. => execGooseReceive_answers ..
  | .gooseTtlExpire .. => execGooseTtlExpire_answers ..
  | .gooseRepeat .. => execGooseRepeat_answers ..
  | .pcieRequest .. => execPcieRequest_answers ..
  | .pcieReset .. => execPcieReset_answers ..
  | .pcieLinkLoss => execPcieLinkLoss_answers ..
  | .msiAck => execMsiAck_answers ..
  | .hdbSet .. => execHdbSet_answers ..
  | .pdbSet .. => execPdbSet_answers ..
  | .quayAccess .. => execQuayAccess_answers ..
  | .quayDoorbell .. => execQuayDoorbell_answers ..
  | .quayStrobeStuck => execQuayStrobeStuck_answers ..
  | .straitSend .. => execStraitSend_answers ..
  | .straitSendFail .. => execStraitSendFail_answers ..
  | .rxFullFree .. => execRxFullFree_answers ..
  | .level .. => execLevel_answers ..
  | .quit .. => execQuit_answers ..
  | .rd .. => execRd_answers ..
  | .wr .. => execWr_answers ..
  | .dump .. => execDump_answers ..
  | .traceTap .. => execTraceTap_answers ..
  | .traceSched .. => execTraceSched_answers ..
  | .chart => execChart_answers ..
  | .chartSec .. => execChartSec_answers ..
  | .cellRd .. => execCellRd_answers ..
  | .cellWr .. => execCellWr_answers ..
  | .cellLog .. => execCellLog_answers ..
  | .cellReset .. => execCellReset_answers ..
  | .keyProg .. => execKeyProg_answers ..
  | .keyRevoke .. => execKeyRevoke_answers ..
  | .off => execOff_answers ..
  | .monLog .. => execMonLog_answers ..
  | .monOffWrite => execMonOffWrite_answers ..
  | .monIdleTimeout .. => execMonIdleTimeout_answers ..
  | .monLockoutEnd .. => execMonLockoutEnd_answers ..
  | .partialLineTimeout c => execPartialLineTimeout_answers c s
  | .topBlockall .. => execTopBlockall_answers ..
  | .tempUpdate .. => execTempUpdate_answers ..
  | .peakClr => execPeakClr_answers ..
  | .vddSafeLoss => execVddSafeLoss_answers ..
  | .vsSafeLoss => execVsSafeLoss_answers ..
  | .replyReady .. => execReplyReady_answers ..
  | .ethLinkUp .. => execEthLinkUp_answers ..
  | .ethLinkDown .. => execEthLinkDown_answers ..
  | .pcieLinkUp .. => execPcieLinkUp_answers ..
  | .timeOutPulseEnd => execTimeOutPulseEnd_answers ..
  | .unknownCommand .. => execUnknownCommand_answers ..

/-- With a command waiting, a step is that command on the state with the queue's rest. -/
theorem step_of_front {s : State} {c : Instr} {rest : List Instr} (h : s.pending = c :: rest) :
    step s = exec c { s with pending := rest } := by
  simp only [step, h]

/-- With none waiting, a step is one word clock. -/
theorem step_of_idle {s : State} (h : s.pending = []) : step s = .next s.tick := by
  simp only [step, h]

/-- Every step goes on. It keeps the canonical forms, of which the queue is no part. -/
theorem step_goes_on_and_keeps_wf (s : State) : ∃ t, step s = .next t ∧ (s.wf = true → t.wf = true) := by
  cases hq : s.pending with
  | nil => exact ⟨s.tick, step_of_idle hq, s.tick_keeps.wf⟩
  | cons c rest =>
    obtain ⟨t, ht, hk⟩ := exec_answers { s with pending := rest } c
    exact ⟨t, (step_of_front hq).trans ht, hk.wf⟩

/-- Settles O3: the dispatch has an arm for every command, and each answers. -/
theorem everyCommandGoesOn : Obligations.EveryCommandGoesOn := by
  intro c s
  obtain ⟨t, ht, hk⟩ := exec_answers s c
  exact ⟨t, ht, hk.pending⟩

/-- Settles O4: a step is a command or a word clock, and both keep the canonical forms. -/
theorem stepKeepsForm : Obligations.StepKeepsForm := by
  intro s t hwf hstep
  obtain ⟨u, hu, hk⟩ := step_goes_on_and_keeps_wf s
  obtain rfl : u = t := Host.Outcome.next.inj (hu.symm.trans hstep)
  exact hk hwf

end Sys2Proof.Machine
end

section
/-! Register rows: the fields of a row share no bit, and what the folds over a row's fields leave in each field (R13, R14). -/

namespace Sys2Proof.Machine
open Sys2Proof

/-! ### Register rows -/

/-- Two fields of a row share no bit. -/
abbrev FieldDesc.apart (f g : FieldDesc) : Prop := f.lo + f.w ≤ g.lo ∨ g.lo + g.w ≤ f.lo

/-- The fields of a row share no bit, lie in the word, and hold their reset values. -/
abbrev RegDesc.laidOut (r : RegDesc) : Prop :=
  r.fields.Pairwise FieldDesc.apart ∧ ∀ f ∈ r.fields, f.lo + f.w ≤ 32 ∧ f.reset < 2 ^ f.w

theorem balBlock_laidOut : ∀ b < 24, ∀ r ∈ balBlock b, r.laidOut := by decide +kernel

theorem skBlock_laidOut : ∀ b < 10, ∀ r ∈ skBlock b, r.laidOut := by decide +kernel

/-- A register found stands in the block of its address. -/
theorem findBal_mem {a : Nat} {r : RegDesc} (h : findBal a = some r) :
    blkOf a < 24 ∧ r ∈ balBlock (blkOf a) ∧ r.hit a = true := by
  unfold findBal at h
  split at h
  next hmap => exact ⟨by unfold blkOf; omega, List.mem_of_find?_eq_some h, by simpa using List.find?_some h⟩
  next => cases h

theorem findBal_laidOut {a : Nat} {r : RegDesc} (h : findBal a = some r) : r.laidOut :=
  let ⟨hb, hr, _⟩ := findBal_mem h
  balBlock_laidOut _ hb r hr

theorem findSk_laidOut {a : Nat} {r : RegDesc} (h : findSk a = some r) : r.laidOut := by
  unfold findSk at h
  split at h
  next hmap => exact skBlock_laidOut _ (by omega) r (List.mem_of_find?_eq_some h)
  next => cases h

/-! ### Folds over the fields of a row -/

/-- A step of a fold over fields changes no bit but those of its own field. -/
def OwnField (g : Word → FieldDesc → Word) : Prop :=
  ∀ (w : Word) (f e : FieldDesc), f.apart e → bitsOf (g w f) e.lo e.w = bitsOf w e.lo e.w

/-- Steps of other fields leave a field as it is. -/
theorem bitsOf_foldl_apart {g : Word → FieldDesc → Word} (hg : OwnField g) {f : FieldDesc} (fs : List FieldDesc) :
    ∀ w : Word, (∀ e ∈ fs, e.apart f) → bitsOf (fs.foldl g w) f.lo f.w = bitsOf w f.lo f.w := by
  induction fs with
  | nil => exact fun _ _ => rfl
  | cons e t ih =>
    intro w h
    rw [List.foldl_cons, ih _ (fun x hx => h x (List.mem_cons_of_mem _ hx)), hg w e f (h e List.mem_cons_self)]

/-- A field reads what its own step makes of it: no step before or after touches it. -/
theorem bitsOf_foldl_eq {g : Word → FieldDesc → Word} {f : FieldDesc} {n : Nat} (fs : List FieldDesc) :
    ∀ w : Word, fs.Pairwise FieldDesc.apart → f ∈ fs → OwnField g →
      (∀ x, bitsOf x f.lo f.w = bitsOf w f.lo f.w → bitsOf (g x f) f.lo f.w = n) →
      bitsOf (fs.foldl g w) f.lo f.w = n := by
  induction fs with
  | nil => intro w _ h; cases h
  | cons e t ih =>
    intro w hp hf hg hstep
    obtain ⟨he, ht⟩ := List.pairwise_cons.mp hp
    rcases List.mem_cons.mp hf with rfl | hmem
    · exact (bitsOf_foldl_apart hg t _ (fun x hx => (he x hx).symm)).trans (hstep w rfl)
    · exact ih (g w e) ht hmem hg (fun x hx => hstep x (hx.trans (hg w e f (he f hmem))))

/-- A fold step that writes its own field or nothing. -/
theorem OwnField.of_ite {c : Word → FieldDesc → Prop} [∀ w f, Decidable (c w f)] {n : Word → FieldDesc → Nat} :
    OwnField (fun w f => if c w f then bitsPut w f.lo f.w (n w f) else w) := by
  intro w f e h
  dsimp only
  split
  · exact bitsOf_bitsPut_apart _ _ _ _ _ _ h
  · rfl

/-- A value that fits its field is what the field then reads. -/
theorem bitsOf_bitsPut_of_lt {lo w n : Nat} (x : Word) (hlo : lo + w ≤ 32) (hn : n < 2 ^ w) :
    bitsOf (bitsPut x lo w n) lo w = n :=
  (bitsOf_bitsPut_same x lo w n hlo).trans (Nat.mod_eq_of_lt hn)

/-- A field of the access that is reset reads its reset value; the others keep theirs. -/
theorem bitsOf_fieldsReset {r : RegDesc} (hr : r.laidOut) {f : FieldDesc} (hf : f ∈ r.fields) (acc : Acc) (w : Word) :
    bitsOf (fieldsReset r.fields acc w) f.lo f.w = if f.acc = acc then f.reset else bitsOf w f.lo f.w := by
  obtain ⟨hlo, hreset⟩ := hr.2 f hf
  refine bitsOf_foldl_eq r.fields w hr.1 hf .of_ite (fun x hx => ?_)
  split
  · exact bitsOf_bitsPut_of_lt x hlo hreset
  · exact hx

/-- A zero that its field excludes gives way to the stored value; any other field reads what is written. -/
theorem bitsOf_keepZeros {r : RegDesc} (hr : r.laidOut) {f : FieldDesc} (hf : f ∈ r.fields) (a : Nat) (old v : Word) :
    bitsOf (keepZeros a r.fields old v) f.lo f.w =
      if notZeroFld a f.lo f.w = true ∧ bitsOf v f.lo f.w = 0 then bitsOf old f.lo f.w else bitsOf v f.lo f.w := by
  refine bitsOf_foldl_eq r.fields v hr.1 hf .of_ite (fun x hx => ?_)
  rw [← hx]
  split
  · exact bitsOf_bitsPut_of_lt x (hr.2 f hf).1 (bitsOf_lt _ _ _)
  · rfl

/-- What a field of `w` bits and access `acc` that holds `o` holds after a write of `x` (R14, R16). -/
def Acc.after (acc : Acc) (locked : Bool) (w o x : Nat) : Nat :=
  match acc with
  | .rw => x
  | .wl => if locked then o else x
  | .w1c => o &&& ((2 ^ w - 1) ^^^ x)
  | .w1s => o ||| x
  | .ro | .rc | .wo => o

/-- A write acts on each field by the field's own access code. -/
theorem bitsOf_accWrite {r : RegDesc} (hr : r.laidOut) {f : FieldDesc} (hf : f ∈ r.fields) (locked : Bool) (old v : Word) :
    bitsOf (accWrite r.fields locked old v) f.lo f.w =
      f.acc.after locked f.w (bitsOf old f.lo f.w) (bitsOf v f.lo f.w) := by
  have hput := fun x n => bitsOf_bitsPut_of_lt (n := n) x (hr.2 f hf).1
  have ho := bitsOf_lt old f.lo f.w
  have hv := bitsOf_lt v f.lo f.w
  refine bitsOf_foldl_eq r.fields old hr.1 hf (fun w f e h => ?_) (fun x hx => ?_)
  · have hapart := fun n => bitsOf_bitsPut_apart w f.lo f.w n e.lo e.w h
    cases f.acc <;> cases locked <;> simp [hapart]
  · cases f.acc with
    | rw => exact hput x _ hv
    | wl => cases locked with
      | true => exact hx
      | false => exact hput x _ hv
    | w1c => exact hput x _ (Nat.and_lt_two_pow _ (Nat.xor_lt_two_pow (Nat.sub_lt (Nat.two_pow_pos _) one_pos) hv))
    | w1s => exact hput x _ (Nat.or_lt_two_pow ho hv)
    | ro | rc | wo => exact hx

end Sys2Proof.Machine
end

section
/-! Accesses to the registers of both chips: bus errors, stored fields, the lock-write raise, reads (R11, R14, R16, R19). -/

namespace Sys2Proof.Machine
open Sys2Proof

/-! ### Raises and the interrupt condition -/

/-- With no raise on this edge, a source is raised at once (R485). -/
theorem State.raise_of_fresh {s : State} (h : s.fresh) (id info : Nat) :
    (s.raise id info).flt.raised = s.flt.raised ++ [⟨id, info, s.clk.count, s.ct⟩] := by
  have hnone : ¬ s.flt.raised.any (fun r => r.id = id ∧ r.edge = s.clk.count) = true := by
    simpa using fun x hx _ => h x hx
  rw [State.raise, if_neg hnone]

@[simp] theorem State.irqUpdate_rdW (s : State) (a : Nat) : s.irqUpdate.rdW a = s.rdW a := by
  simp only [State.irqUpdate]; split <;> rfl

@[simp] theorem State.irqUpdate_mem (s : State) : s.irqUpdate.mem = s.mem := by
  simp only [State.irqUpdate]; split <;> rfl

@[simp] theorem State.irqUpdate_cells (s : State) : s.irqUpdate.cells = s.cells := by
  simp only [State.irqUpdate]; split <;> rfl

@[simp] theorem State.irqUpdate_raised (s : State) : s.irqUpdate.flt.raised = s.flt.raised := by
  simp only [State.irqUpdate]; split <;> rfl

/-! ### Stored fields -/

/-- The value that a write of `v` stores in the fields of its row: with LOCK 0, less the zeros that fields exclude. -/
def State.taken (s : State) (a : Nat) (r : RegDesc) (v : Word) : Word :=
  if s.locked a then v else keepZeros a r.fields (s.rdW a) v

/-- A raise where `c` holds leaves the registers, the memory and the cells alone. -/
theorem State.raise_ite_frame (s : State) (c : Prop) [Decidable c] (id info : Nat) :
    (if c then s.raise id info else s).regs = s.regs ∧ (if c then s.raise id info else s).mem = s.mem ∧
      (if c then s.raise id info else s).cells = s.cells := by
  split <;> simp

/-- Storing changes the register written and raises sources: all other registers, the memory and the cells stay. -/
theorem State.store_frame (s : State) (p : Port) (a : Nat) (r : RegDesc) (v : Word) :
    (s.store p a r v).regs = (s.wrW a (accWrite r.fields (s.locked a) (s.rdW a) (s.taken a r v))).regs ∧
      (s.store p a r v).mem = s.mem ∧ (s.store p a r v).cells = s.cells := by
  obtain ⟨hregs, hmem, hcells⟩ := State.raise_ite_frame
    (s.wrW a (accWrite r.fields (s.locked a) (s.rdW a) (s.taken a r v)))
    (s.locked a = true ∧ wlDiffers r.fields (s.rdW a) v = true) (32 * blkOf a + 1) (a % 0x10000 + p.master * 65536)
  obtain ⟨hregs', hmem', hcells'⟩ := State.raise_ite_frame _ (s.taken a r v ≠ v) (32 * blkOf a) (a % 0x10000 + p.master * 65536)
  exact ⟨hregs'.trans hregs, hmem'.trans hmem, hcells'.trans hcells⟩

theorem State.store_rdW (s : State) (p : Port) (a : Nat) (r : RegDesc) (v : Word) (b : Nat) :
    (s.store p a r v).rdW b = (s.wrW a (accWrite r.fields (s.locked a) (s.rdW a) (s.taken a r v))).rdW b := by
  rw [State.rdW, (s.store_frame p a r v).1, ← State.rdW]

/-- What a stored field reads, by its access code. -/
theorem State.store_field (s : State) (p : Port) (a : Nat) (v : Word) {r : RegDesc} (hr : r.laidOut) {f : FieldDesc}
    (hf : f ∈ r.fields) : bitsOf ((s.store p a r v).rdW a) f.lo f.w =
      f.acc.after (s.locked a) f.w (bitsOf (s.rdW a) f.lo f.w) (bitsOf (s.taken a r v) f.lo f.w) := by
  rw [State.store_rdW, State.rdW_wrW_same, bitsOf_accWrite hr hf]

/-- A field takes what is written, unless it excludes that zero. -/
theorem State.taken_field (s : State) (a : Nat) (v : Word) {r : RegDesc} (hr : r.laidOut) {f : FieldDesc} (hf : f ∈ r.fields)
    (h : notZeroFld a f.lo f.w = false ∨ bitsOf v f.lo f.w ≠ 0) : bitsOf (s.taken a r v) f.lo f.w = bitsOf v f.lo f.w := by
  unfold State.taken
  split
  · rfl
  · rw [bitsOf_keepZeros hr hf, if_neg]
    rintro ⟨hz, hv⟩
    exact h.elim (fun h => by simp [hz] at h) (fun h => h hv)

/-- With LOCK 0 a field that excludes 0 keeps its own in place of a written 0. -/
theorem State.taken_zero (s : State) (a : Nat) (v : Word) {r : RegDesc} (hr : r.laidOut) {f : FieldDesc} (hf : f ∈ r.fields)
    (hl : s.locked a = false) (hz : notZeroFld a f.lo f.w = true) (hv : bitsOf v f.lo f.w = 0) :
    bitsOf (s.taken a r v) f.lo f.w = bitsOf (s.rdW a) f.lo f.w := by
  simp [State.taken, hl, bitsOf_keepZeros hr hf, hz, hv]

/-- With LOCK 1 the only raise of a write is of the lock-write source, where a WL field differs (R16). -/
theorem State.store_raised_of_locked {s : State} {a : Nat} (hl : s.locked a = true) (hs : s.fresh) (p : Port) (r : RegDesc)
    (v : Word) : ∃ ct, (s.store p a r v).flt.raised = s.flt.raised ++
      if wlDiffers r.fields (s.rdW a) v then [⟨32 * blkOf a + 1, a % 0x10000 + p.master * 65536, s.clk.count, ct⟩] else [] := by
  set t := s.wrW a (accWrite r.fields true (s.rdW a) v) with ht
  have hstore : s.store p a r v = if wlDiffers r.fields (s.rdW a) v then t.lockWrite p a else t := by
    simp [State.store, hl, ht]
  refine ⟨t.ct, ?_⟩
  rw [hstore]
  split
  · exact State.raise_of_fresh (s := t) hs _ _
  · simp [ht]

/-- A written value differs in a WL field. -/
theorem wlDiffers_iff (fs : List FieldDesc) (old v : Word) :
    wlDiffers fs old v = true ↔ ∃ f ∈ fs, f.acc = .wl ∧ bitsOf v f.lo f.w ≠ bitsOf old f.lo f.w := by
  simp [wlDiffers]

/-! ### Blocks LANE and PWR: a write acts on nothing but its fields -/

/-- The fields of blocks LANE and PWR that a written 1 clears or sets exclude no zero: no excluding field has their bits. -/
theorem notZeroFld_eq_false_of_writeOne {a : Nat} {r : RegDesc} {f : FieldDesc} (hr : findBal a = some r)
    (hb : blkOf a = 2 ∨ blkOf a = 23) (hf : f ∈ r.fields) (hacc : f.acc = .w1c ∨ f.acc = .w1s) :
    notZeroFld a f.lo f.w = false := by
  have hrows : ∀ b ∈ [2, 23], ∀ r ∈ balBlock b, ∀ f ∈ r.fields, f.acc = .w1c ∨ f.acc = .w1s →
      ∀ z ∈ notZeroFields, ¬ (z.2.2.2.1 = f.lo ∧ z.2.2.2.2 = f.w) := by decide +kernel
  have hz := hrows (blkOf a) (by simpa using hb) r (findBal_mem hr).2.1 f hf hacc
  refine List.any_eq_false.mpr fun z hmem => ?_
  have := hz z hmem
  simp only [Bool.and_eq_true, decide_eq_true_eq]
  tauto

theorem State.regAct_store {a : Nat} (hb : blkOf a = 2 ∨ blkOf a = 23) (s : State) (p : Port) (r : RegDesc) (v : Word) :
    s.regAct p a r v = s.store p a r v := by
  rcases hb with hb | hb
  · have heye : ¬ (0x40031000 ≤ a ∧ a % 0x100 = 0x10) := by unfold blkOf at hb; omega
    simp only [State.regAct, hb, State.writeLane, if_neg heye]
  · simp only [State.regAct, hb]

/-- A write of a register of block LANE or PWR, out of reset and of a load, stores its fields. -/
theorem execRegisterWrite_store {a : Nat} {r : RegDesc} {s : State} (hs : s.pwr.held = 0) (ha : a % 4 = 0)
    (hr : findBal a = some r) (hb : blkOf a = 2 ∨ blkOf a = 23) (hz : s.frozen a = false) (p : Port) (v : Word)
    (still : List Nat) :
    execRegisterWrite .balgal p 4 a v still s = .next (s.store p a r v).irqUpdate := by
  simp [execRegisterWrite, State.regWrite, State.answerWrite, State.regAct_store hb, hs, ha, hr, hz]

/-! ### Reads -/

/-- A register with an RC field stands at no address whose row has none. -/
theorem ne_of_no_rc {find : Nat → Option RegDesc} {a b : Nat} {r : RegDesc} {f : FieldDesc} (hr : find a = some r)
    (hf : f ∈ r.fields) (hacc : f.acc = .rc)
    (hb : (find b).all (fun q => q.fields.all (fun e => decide (e.acc ≠ .rc))) = true) : a ≠ b := by
  rintro rfl
  simp only [hr, Option.all_some, List.all_eq_true, decide_eq_true_eq] at hb
  exact hb f hf hacc

/-- The DMA channel states have no RC field. -/
theorem not_dmaStat_of_rc {a : Nat} {r : RegDesc} {f : FieldDesc} (hr : findBal a = some r) (hf : f ∈ r.fields)
    (hacc : f.acc = .rc) : ¬ (0x400F1000 ≤ a ∧ a < 0x40100000 ∧ a % 0x40 = 8) := by
  rintro ⟨hlo, hhi, hmod⟩
  have hrow : ∀ r ∈ balBlock 15, (∃ f ∈ r.fields, f.acc = .rc) → r.base = A_DMA_CH_CNT 0 ∧ r.dims = [(0x40, 32)] := by
    decide +kernel
  obtain ⟨_, hmem, hhit⟩ := findBal_mem hr
  rw [show blkOf a = 15 by unfold blkOf; omega] at hmem
  obtain ⟨hbase, hdims⟩ := hrow r hmem ⟨f, hf, hacc⟩
  simp only [RegDesc.hit, hbase, hdims, dimsHit, A_DMA_CH_CNT, Bool.and_eq_true, decide_eq_true_eq] at hhit
  omega

/-- A read of a Balgal register with an RC field shows its word and resets its RC fields; nothing else moves (R19). -/
theorem execRcRead_balgal_rc {a : Nat} {r : RegDesc} {f : FieldDesc} {s : State} (hs : s.pwr.held = 0) (ha : a % 4 = 0)
    (hr : findBal a = some r) (hf : f ∈ r.fields) (hacc : f.acc = .rc) (p : Port) :
    execRcRead .balgal p 4 a s =
      .next ((s.wrW a (fieldsReset r.fields .rc (s.rdW a))).emit (.readData p (s.regView p a))) := by
  have hask : a ≠ A_SCHED_ASK := ne_of_no_rc hr hf hacc (by decide +kernel)
  have hnow : a ≠ A_TIME_NOW_FRAC := ne_of_no_rc hr hf hacc (by decide +kernel)
  have hany : r.fields.any (fun f => decide (f.acc = .rc)) = true := List.any_eq_true.mpr ⟨f, hf, by simpa using hacc⟩
  have hat : s.regReadAt p a r = (s.regView p a, s.wrW a (fieldsReset r.fields .rc (s.rdW a))) := by
    rw [State.regReadAt, if_neg hnow, if_neg (not_dmaStat_of_rc hr hf hacc), if_pos hany]
  simp [execRcRead, State.readAny, State.regRead, State.answer, hs, ha, hask, hr, hat]

/-- The same of a Skerry, whose own read gives the word it shows. -/
theorem Skerry.readReg_rc {a : Nat} {r : RegDesc} {f : FieldDesc} (hr : findSk a = some r) (hf : f ∈ r.fields)
    (hacc : f.acc = .rc) (k : Skerry) (p : Port) :
    k.readReg p a = (some (k.view.rdW a), k.wrW a (fieldsReset r.fields .rc (k.view.rdW a))) := by
  have hne : ∀ b ∈ [A_SK_TIME_NOW_FRAC, A_SK_TIME_NOW_NS, A_SK_TIME_NOW_SEC_LO, A_SK_TIME_NOW_SEC_HI], a ≠ b := fun b hb =>
    ne_of_no_rc hr hf hacc (by revert b; decide +kernel)
  simp only [List.forall_mem_cons] at hne
  obtain ⟨hfrac, hns, hlo, hhi, _⟩ := hne
  have hany : r.fields.any (fun f => decide (f.acc = .rc)) = true := List.any_eq_true.mpr ⟨f, hf, by simpa using hacc⟩
  simp [Skerry.readReg, hr, hfrac, hns, hlo, hhi, hany]

/-- A read of a Skerry's register with an RC field. -/
theorem execRcRead_skerry_rc {a g : Nat} {r : RegDesc} {f : FieldDesc} {s : State} (hs : (s.cell g).inRun = true)
    (ha : a % 4 = 0) (hr : findSk a = some r) (hf : f ∈ r.fields) (hacc : f.acc = .rc) (p : Port) :
    execRcRead (.skerry g) p 4 a s =
      .next ((s.setCell g ((s.cell g).wrW a (fieldsReset r.fields .rc ((s.cell g).view.rdW a)))).emit
        (.readData p ((s.cell g).view.rdW a))) := by
  simp [execRcRead, State.readAny, State.onCell, Skerry.readReg_rc hr hf hacc, hs, ha]

/-! ### The statements -/

/-- Settles O6: both commands of both chips turn such an access away before they look for a register. -/
theorem unalignedAccessIsABusError : Obligations.UnalignedAccessIsABusError := by
  refine ⟨fun p len a v still s hs h => ⟨_, ?_, rfl⟩, fun p len a s hs h => ⟨_, ?_, rfl⟩,
    fun g p len a v still s hs h => ⟨_, ?_, rfl⟩, fun g p len a s hs h => ⟨_, ?_, rfl⟩⟩
  · show execRegisterWrite .balgal p len a v still s = _
    simp [execRegisterWrite, State.emit, hs, h]
  · show execRcRead .balgal p len a s = _
    simp [execRcRead, State.readAny, State.emit, hs, h]
  · show execRegisterWrite (.skerry g) p len a v still s = _
    simp [execRegisterWrite, State.emit, hs, h]
  · show execRcRead (.skerry g) p len a s = _
    simp [execRcRead, State.readAny, State.emit, hs, h]

/-- Settles O8: each field of the row reads what its access code makes of the value taken. -/
theorem accessCodesOfAWrite : Obligations.AccessCodesOfAWrite := by
  intro p a v still r s hs ha hr hb hz
  refine ⟨_, execRegisterWrite_store hs ha hr hb hz p v still, fun f hf => ?_, fun b hne => ?_, ?_, ?_⟩
  · have hlaid := findBal_laidOut hr
    have htaken := s.taken_field a v hlaid hf
    have hone := notZeroFld_eq_false_of_writeOne hr hb hf
    rw [State.irqUpdate_rdW, s.store_field p a v hlaid hf]
    refine ⟨fun hacc h => ?_, fun hacc hl h => ?_, fun hacc hl hzero hv => ?_, fun hacc hl => ?_,
      fun hacc => ?_, fun hacc => ?_, fun hacc => ?_⟩
    · simp [hacc, Acc.after, htaken h]
    · simp [hacc, Acc.after, hl, htaken h]
    · simp [hacc, Acc.after, hl, s.taken_zero a v hlaid hf hl hzero hv]
    · simp [hacc, Acc.after, hl]
    · simp [hacc, Acc.after, htaken (.inl (hone (.inl hacc)))]
    · simp [hacc, Acc.after, htaken (.inl (hone (.inr hacc)))]
    · rcases hacc with hacc | hacc | hacc <;> simp [hacc, Acc.after]
  · rw [State.irqUpdate_rdW, State.store_rdW, State.rdW_wrW_ne _ _ (Ne.symm hne)]
  · rw [State.irqUpdate_mem, (s.store_frame p a r v).2.1]
  · rw [State.irqUpdate_cells, (s.store_frame p a r v).2.2]

/-- Settles O9: with LOCK 1 a write makes that raise or none. -/
theorem lockWriteIsReported : Obligations.LockWriteIsReported := by
  intro p a v still r s hs ha hr hb hz hl hfresh
  obtain ⟨ct, hraised⟩ := State.store_raised_of_locked hl hfresh p r v
  refine ⟨_, execRegisterWrite_store hs ha hr hb hz p v still, fun hdiff => ?_, fun hsame => ?_⟩
  · rw [State.irqUpdate_raised, hraised, if_pos ((wlDiffers_iff ..).mpr hdiff), List.map_append, List.map_singleton]
  · have hnone : ¬ wlDiffers r.fields (s.rdW a) v = true := fun h =>
      let ⟨f, hf, hacc, hne⟩ := (wlDiffers_iff ..).mp h
      hne (hsame f hf hacc)
    rw [State.irqUpdate_raised, hraised, if_neg hnone, List.append_nil]

/-- Settles O10: the word shown is the one before, and the register is left with its RC fields reset. -/
theorem readClearsRc : Obligations.ReadClearsRc := by
  refine ⟨fun p a r f s hs ha hr hf hacc => ?_, fun g p a r f s hs ha hr hf hacc => ?_⟩
  · refine ⟨_, execRcRead_balgal_rc hs ha hr hf hacc p, ?_, fun b hb => ?_, rfl⟩
    · rw [State.emit_rdW, State.rdW_wrW_same, bitsOf_fieldsReset (findBal_laidOut hr) hf, if_pos hacc]
    · rw [State.emit_rdW, State.rdW_wrW_ne _ _ (Ne.symm hb)]
  · refine ⟨_, execRcRead_skerry_rc hs ha hr hf hacc p, ?_, fun b hb => ?_, fun h hne => ?_, rfl⟩
    · rw [State.emit_cell, State.cell_setCell_same, Skerry.rdW_wrW_same, bitsOf_fieldsReset (findSk_laidOut hr) hf, if_pos hacc]
    · rw [State.emit_cell, State.cell_setCell_same, Skerry.rdW_wrW_ne _ _ (Ne.symm hb)]
    · rw [State.emit_cell, State.cell_setCell_ne _ _ (Ne.symm hne)]

end Sys2Proof.Machine
end

section
/-! The receivers of the Balgal's lanes and of a Skerry's ports: what entering and leaving LOCKED leaves in the registers, and the
commands that move a receiver (R94 to R96, R98). -/

namespace Sys2Proof.Machine
open Sys2Proof

/-! ### Words, fields and bits -/

theorem State.rd_congr {s t : State} {f : Fld} (h : t.rdW f.addr = s.rdW f.addr) : t.rd f = s.rd f := by
  simp only [State.rd, h]

theorem State.bitAt_congr {s t : State} {base j : Nat} (h : t.rdW (base + 4 * (j / 32)) = s.rdW (base + 4 * (j / 32))) :
    t.bitAt base j = s.bitAt base j := by
  simp only [State.bitAt, h]

/-- A written word depends on the word before alone. -/
theorem State.rdW_wr_congr {s t : State} {f : Fld} (h : t.rdW f.addr = s.rdW f.addr) (v : Nat) :
    (t.wr f v).rdW f.addr = (s.wr f v).rdW f.addr := by
  simp only [State.wr, State.rdW_wrW_same, h]

theorem State.rdW_putBitAt_ne (s : State) (v : Bool) {base j a : Nat} (h : base + 4 * (j / 32) ≠ a) :
    (s.putBitAt base j v).rdW a = s.rdW a := s.rdW_wrW_ne _ h

/-- A bit reads what was written to it. -/
@[simp] theorem State.bitAt_putBitAt_same (s : State) (base j : Nat) (v : Bool) : (s.putBitAt base j v).bitAt base j = v := by
  have hbit := bitsOf_bitsPut_same (s.rdW (base + 4 * (j / 32))) (j % 32) 1 (b2n v) (by omega)
  simp only [bitsOf, Nat.shiftRight_eq_div_pow, Nat.pow_one] at hbit
  simp only [State.bitAt, State.putBitAt, State.rdW_wrW_same, bitOf, hbit]
  cases v <;> rfl

/-- After a raise the source stands among those raised on this edge, raised by it or before it (R485). -/
theorem State.raise_mem_raised (s : State) (id info : Nat) :
    ∃ x ∈ (s.raise id info).flt.raised, x.id = id ∧ x.edge = s.clk.count := by
  by_cases h : s.flt.raised.any (fun r => r.id = id ∧ r.edge = s.clk.count) = true
  · rw [State.raise, if_pos h]
    simpa using h
  · rw [State.raise, if_neg h]
    exact ⟨_, List.mem_append_right _ (List.mem_singleton_self _), rfl, rfl⟩

/-! ### A lane's receiver -/

@[simp] theorem State.eyeAbort_mem (s : State) (n : Nat) : (s.eyeAbort n).mem = s.mem := by
  simp only [State.eyeAbort]; split <;> rfl

@[simp] theorem State.eyeAbort_cells (s : State) (n : Nat) : (s.eyeAbort n).cells = s.cells := by
  simp only [State.eyeAbort]; split <;> rfl

@[simp] theorem State.eyeAbort_flt (s : State) (n : Nat) : (s.eyeAbort n).flt = s.flt := by
  simp only [State.eyeAbort]; split <;> rfl

/-- The end of a scan writes the scan's own two registers alone. -/
theorem State.rdW_eyeAbort_ne (s : State) {n a : Nat} (hstat : A_LANE_EYE_STAT n ≠ a) (herr : A_LANE_EYE_ERR n ≠ a) :
    (s.eyeAbort n).rdW a = s.rdW a := by
  simp only [State.eyeAbort]
  split
  · rw [State.rdW_wr_ne _ (LANE_EYE_ERR n) _ herr, State.rdW_wr_ne _ (LANE_EYE_STAT_ABORT n) _ hstat,
      State.rdW_wr_ne _ (LANE_EYE_STAT_BUSY n) _ hstat]
    rfl
  · rfl

/-- What the detectors of a lane show is written; its state is kept. -/
theorem State.wr_detects (s : State) (n a b : Nat) :
    ((s.wr (LANE_STAT_SIG_DET n) a).wr (LANE_STAT_CDR_LOCK n) b).laneSt n = s.laneSt n ∧
      ((s.wr (LANE_STAT_SIG_DET n) a).wr (LANE_STAT_CDR_LOCK n) b).rd (LANE_STAT_SIG_DET n) = a % 2 ∧
      ((s.wr (LANE_STAT_SIG_DET n) a).wr (LANE_STAT_CDR_LOCK n) b).rd (LANE_STAT_CDR_LOCK n) = b % 2 := by
  refine ⟨?_, ?_, State.rd_wr_same _ (LANE_STAT_CDR_LOCK n) b (by simp [LANE_STAT_CDR_LOCK])⟩
  · rw [State.laneSt, State.rd_wr_apart, State.rd_wr_apart, State.laneSt] <;>
      simp [Fld.apart, LANE_STAT_STATE, LANE_STAT_SIG_DET, LANE_STAT_CDR_LOCK]
  · rw [State.rd_wr_apart _ _ _ _ (by simp [Fld.apart, LANE_STAT_SIG_DET, LANE_STAT_CDR_LOCK])]
    exact State.rd_wr_same _ (LANE_STAT_SIG_DET n) a (by simp [LANE_STAT_SIG_DET])

/-- Out of another state than LOCKED, STATE, SCORE and the bit of LANE_LOCKED are all that is written. -/
theorem State.laneTo_of_not_locked {s : State} {n : Nat} (h : s.laneLocked n = false) (st : Nat) :
    s.laneTo n st = ((s.wr (LANE_STAT_STATE n) st).putBitAt (A_LANE_LOCKED 0) n false).wr (LANE_STAT_SCORE n) 0 := by
  simp [State.laneTo, h]

/-- Leaving LOCKED is a LOST event besides; only the causeways' part depends on whether the lane's causeway is used (R108). -/
theorem State.laneTo_of_locked {s : State} {n : Nat} (h : s.laneLocked n = true) (hn : n / 4 ≠ 26) (st : Nat) : ∃ c : Cws,
    s.laneTo n st = (((((((s.wr (LANE_STAT_STATE n) st).putBitAt (A_LANE_LOCKED 0) n false).wr (LANE_STAT_SCORE n) 0).setCws
      c).putBitAt (A_LANE_LOST 0) n true).inc (LANE_LOSS_CNT n)).raise 0x042 n).eyeAbort n := by
  simp only [State.laneTo, h, hn, true_and, ne_eq, not_false_eq_true, if_true]
  split
  · exact ⟨_, rfl⟩
  · exact ⟨s.cws, rfl⟩

section LaneTo
variable {s : State} {n : Nat} (hn : n / 4 ≠ 26) (st : Nat)
include hn

/-- Below the lane's counters, leaving LOCKED writes STATE, SCORE and the two bits. -/
theorem State.laneTo_rdW_of_locked (h : s.laneLocked n = true) {a : Nat} (ha : a < A_LANE_SYM_ERR n) : (s.laneTo n st).rdW a =
    ((((s.wr (LANE_STAT_STATE n) st).putBitAt (A_LANE_LOCKED 0) n false).wr (LANE_STAT_SCORE n) 0).putBitAt
      (A_LANE_LOST 0) n true).rdW a := by
  simp only [A_LANE_SYM_ERR] at ha
  obtain ⟨c, hc⟩ := State.laneTo_of_locked h hn st
  rw [hc, State.rdW_eyeAbort_ne, State.raise_rdW, State.inc, State.cnt, State.rdW_wr_ne]
  · rfl
  all_goals simp only [LANE_LOSS_CNT, A_LANE_LOSS_CNT, A_LANE_EYE_STAT, A_LANE_EYE_ERR]; omega

/-- Of the status word of a lane, a change of state writes STATE and SCORE. -/
theorem State.laneTo_rdW_stat :
    (s.laneTo n st).rdW (A_LANE_STAT n) = ((s.wr (LANE_STAT_STATE n) st).wr (LANE_STAT_SCORE n) 0).rdW (A_LANE_STAT n) := by
  have hscore : (((s.wr (LANE_STAT_STATE n) st).putBitAt (A_LANE_LOCKED 0) n false).wr (LANE_STAT_SCORE n) 0).rdW (A_LANE_STAT n) =
      ((s.wr (LANE_STAT_STATE n) st).wr (LANE_STAT_SCORE n) 0).rdW (A_LANE_STAT n) :=
    State.rdW_wr_congr (f := LANE_STAT_SCORE n)
      (State.rdW_putBitAt_ne _ _ (by simp only [A_LANE_LOCKED, LANE_STAT_SCORE, A_LANE_STAT]; omega)) 0
  cases h : s.laneLocked n with
  | false => rw [State.laneTo_of_not_locked h, hscore]
  | true =>
    rw [State.laneTo_rdW_of_locked hn st h (by simp only [A_LANE_STAT, A_LANE_SYM_ERR]; omega),
      State.rdW_putBitAt_ne _ _ (by simp only [A_LANE_LOST, A_LANE_STAT]; omega), hscore]

theorem State.laneTo_detects : (s.laneTo n st).rd (LANE_STAT_SIG_DET n) = s.rd (LANE_STAT_SIG_DET n) ∧
    (s.laneTo n st).rd (LANE_STAT_CDR_LOCK n) = s.rd (LANE_STAT_CDR_LOCK n) := by
  have hword := State.laneTo_rdW_stat (s := s) hn st
  constructor
  · rw [State.rd_congr (f := LANE_STAT_SIG_DET n) hword, State.rd_wr_apart, State.rd_wr_apart] <;>
      simp [Fld.apart, LANE_STAT_STATE, LANE_STAT_SCORE, LANE_STAT_SIG_DET]
  · rw [State.rd_congr (f := LANE_STAT_CDR_LOCK n) hword, State.rd_wr_apart, State.rd_wr_apart] <;>
      simp [Fld.apart, LANE_STAT_STATE, LANE_STAT_SCORE, LANE_STAT_CDR_LOCK]

theorem State.laneTo_laneSt : (s.laneTo n st).laneSt n = st % 8 := by
  rw [State.laneSt, State.rd_congr (f := LANE_STAT_STATE n) (State.laneTo_rdW_stat hn st),
    State.rd_wr_apart _ _ _ _ (by simp [Fld.apart, LANE_STAT_SCORE, LANE_STAT_STATE]),
    State.rd_wr_same _ _ _ (by simp [LANE_STAT_STATE])]
  rfl

theorem State.laneTo_cells_mem : (s.laneTo n st).cells = s.cells ∧ (s.laneTo n st).mem = s.mem := by
  cases h : s.laneLocked n with
  | false => rw [State.laneTo_of_not_locked h]; exact ⟨rfl, rfl⟩
  | true =>
    obtain ⟨c, hc⟩ := State.laneTo_of_locked h hn st
    rw [hc, State.eyeAbort_cells, State.raise_cells, State.eyeAbort_mem, State.raise_mem]
    exact ⟨rfl, rfl⟩

theorem State.laneTo_lost_of_locked (h : s.laneLocked n = true) : (s.laneTo n st).bitAt (A_LANE_LOST 0) n = true :=
  (State.bitAt_congr (State.laneTo_rdW_of_locked hn st h (by simp only [A_LANE_LOST, A_LANE_SYM_ERR]; omega))).trans
    (State.bitAt_putBitAt_same ..)

/-- Whatever the state was, the bit of LANE_LOCKED is 0. -/
theorem State.laneTo_bit_locked : (s.laneTo n st).bitAt (A_LANE_LOCKED 0) n = false := by
  have hscore : (((s.wr (LANE_STAT_STATE n) st).putBitAt (A_LANE_LOCKED 0) n false).wr (LANE_STAT_SCORE n) 0).bitAt
      (A_LANE_LOCKED 0) n = false :=
    (State.bitAt_congr (State.rdW_wr_ne _ (LANE_STAT_SCORE n) _
      (by simp only [LANE_STAT_SCORE, A_LANE_STAT, A_LANE_LOCKED]; omega))).trans (State.bitAt_putBitAt_same ..)
  cases h : s.laneLocked n with
  | false => rw [State.laneTo_of_not_locked h, hscore]
  | true =>
    rw [State.bitAt_congr (State.laneTo_rdW_of_locked hn st h (by simp only [A_LANE_LOCKED, A_LANE_SYM_ERR]; omega)),
      State.bitAt_congr (State.rdW_putBitAt_ne _ _ (by simp only [A_LANE_LOST, A_LANE_LOCKED]; omega)), hscore]

theorem State.laneTo_raised_of_locked (h : s.laneLocked n = true) :
    ∃ x ∈ (s.laneTo n st).flt.raised, x.id = 0x042 ∧ x.edge = s.clk.count := by
  obtain ⟨c, hc⟩ := State.laneTo_of_locked h hn st
  rw [hc, State.eyeAbort_flt]
  exact State.raise_mem_raised _ 0x042 n

end LaneTo

/-- Of all lanes the strait's alone are a source of time (R189). -/
theorem State.laneDrop_of_lt {n : Nat} (hn : n < 108) (s : State) (st : Nat) : s.laneDrop n st = s.laneTo n st :=
  if_neg (fun h => absurd hn (Nat.not_lt.mpr h.1))

/-- A lane that enters LOCKED shows it in its status word and in LANE_LOCKED; its loss score and interval begin (R95, R109). -/
theorem State.laneLock_spec (s : State) (n : Nat) :
    (s.laneLock n).laneLocked n = true ∧ (s.laneLock n).bitAt (A_LANE_LOCKED 0) n = true ∧
      (s.laneLock n).rd (LANE_STAT_TIMEOUT n) = 0 ∧ (s.laneLock n).laneRx n = ⟨0, s.clk.count, 0⟩ := by
  have hne : A_LANE_LOCKED 0 + 4 * (n / 32) ≠ A_LANE_STAT n := by simp only [A_LANE_LOCKED, A_LANE_STAT]; omega
  refine ⟨?_, ?_, ?_, ?_⟩
  · have hst : (s.laneLock n).laneSt n = LN_LOCKED % 2 ^ 3 := by
      rw [State.laneSt, State.laneLock, State.setLaneRx_rd,
        State.rd_wr_apart _ _ _ _ (by simp [Fld.apart, LANE_STAT_TIMEOUT, LANE_STAT_STATE]),
        State.rd_congr (f := LANE_STAT_STATE n) (State.rdW_putBitAt_ne _ _ hne)]
      exact State.rd_wr_same _ _ _ (by simp [LANE_STAT_STATE])
    simp [State.laneLocked, hst, LN_LOCKED]
  · exact (State.bitAt_congr (State.rdW_wr_ne _ (LANE_STAT_TIMEOUT n) _ hne.symm)).trans (State.bitAt_putBitAt_same ..)
  · exact State.rd_wr_same _ (LANE_STAT_TIMEOUT n) 0 (by simp [LANE_STAT_TIMEOUT])
  · simp [State.laneRx, State.laneLock, State.setLaneRx]

/-! ### A port's receiver -/

theorem Skerry.keepsBut_wr {k l : Skerry} {fs : List Fld} {f : Fld} {v : Nat} (h : k.keepsBut l fs) (m : f ∈ fs) :
    k.keepsBut (l.wr f v) fs := fun g hg => (Skerry.rd_wr_apart l f g v (hg f m)).trans (h g hg)

theorem Skerry.keepsBut_trans {k l m : Skerry} {fs gs : List Fld} (h : k.keepsBut l fs) (j : l.keepsBut m gs) :
    k.keepsBut m (fs ++ gs) := fun g hg =>
  (j g (fun f hf => hg f (List.mem_append_right _ hf))).trans (h g (fun f hf => hg f (List.mem_append_left _ hf)))

theorem Skerry.keepsBut_mono {k l : Skerry} {fs gs : List Fld} (h : k.keepsBut l fs) (j : ∀ f ∈ fs, f ∈ gs) : k.keepsBut l gs :=
  fun g hg => h g (fun f hf => hg f (j f hf))

theorem Skerry.keepsBut_showLock {k l : Skerry} {fs : List Fld} (h : k.keepsBut l fs) (hh : SK_TOP_STAT_LOCK_H ∈ fs)
    (ht : SK_TOP_STAT_LOCK_T ∈ fs) : k.keepsBut l.showLock fs := Skerry.keepsBut_wr (Skerry.keepsBut_wr h hh) ht

/-- What the detectors of a port show is written; its state is kept. -/
theorem Skerry.wr_detects (k : Skerry) (p a b : Nat) :
    ((k.wr (SK_LINK_STAT_SIG_DET p) a).wr (SK_LINK_STAT_CDR_LOCK p) b).rd (SK_LINK_STAT_STATE p) = k.rd (SK_LINK_STAT_STATE p) ∧
      ((k.wr (SK_LINK_STAT_SIG_DET p) a).wr (SK_LINK_STAT_CDR_LOCK p) b).rd (SK_LINK_STAT_SIG_DET p) = a % 2 ∧
      ((k.wr (SK_LINK_STAT_SIG_DET p) a).wr (SK_LINK_STAT_CDR_LOCK p) b).rd (SK_LINK_STAT_CDR_LOCK p) = b % 2 := by
  refine ⟨?_, ?_, Skerry.rd_wr_same _ (SK_LINK_STAT_CDR_LOCK p) b (by simp [SK_LINK_STAT_CDR_LOCK])⟩
  · rw [Skerry.rd_wr_apart, Skerry.rd_wr_apart] <;>
      simp [Fld.apart, SK_LINK_STAT_STATE, SK_LINK_STAT_SIG_DET, SK_LINK_STAT_CDR_LOCK]
  · rw [Skerry.rd_wr_apart _ _ _ _ (by simp [Fld.apart, SK_LINK_STAT_SIG_DET, SK_LINK_STAT_CDR_LOCK])]
    exact Skerry.rd_wr_same _ (SK_LINK_STAT_SIG_DET p) a (by simp [SK_LINK_STAT_SIG_DET])

/-- Once STATE of the port is written, entering LOCKED writes LOCK_H and LOCK_T alone. -/
theorem Skerry.portLock_keepsBut (k : Skerry) (p : Nat) :
    (k.wr (SK_LINK_STAT_STATE p) LN_LOCKED).keepsBut (k.portLock p) [SK_TOP_STAT_LOCK_H, SK_TOP_STAT_LOCK_T] :=
  Skerry.keepsBut_showLock (fun _ _ => rfl) (by simp) (by simp)

/-- Once STATE of the port is written, a drop to it writes SCORE, LOCK_H and LOCK_T, and out of LOCKED LOSS_CNT and TIMEPORT. -/
theorem Skerry.portDrop_keepsBut (k : Skerry) (p st : Nat) :
    (k.wr (SK_LINK_STAT_STATE p) st).keepsBut (k.portDrop p st)
      [SK_LINK_STAT_SCORE p, SK_TOP_STAT_LOCK_H, SK_TOP_STAT_LOCK_T, SK_LINK_LOSS_CNT p, SK_LINK_STAT_TIMEPORT p] := by
  have hshow := Skerry.keepsBut_showLock (Skerry.keepsBut_wr (v := 0) (f := SK_LINK_STAT_SCORE p)
    (fun _ _ => rfl : (k.wr (SK_LINK_STAT_STATE p) st).keepsBut ((k.setPass p .zero).wr (SK_LINK_STAT_STATE p) st)
      [SK_LINK_STAT_SCORE p, SK_TOP_STAT_LOCK_H, SK_TOP_STAT_LOCK_T, SK_LINK_LOSS_CNT p, SK_LINK_STAT_TIMEPORT p])
    (by simp)) (by simp) (by simp)
  simp only [Skerry.portDrop]
  split
  · exact Skerry.keepsBut_wr (Skerry.keepsBut_wr hshow (by simp)) (by simp)
  · exact hshow

theorem Skerry.portDrop_frame (k : Skerry) (p st : Nat) : k.keepsBut (k.portDrop p st) [SK_LINK_STAT_STATE p, SK_LINK_STAT_SCORE p,
    SK_TOP_STAT_LOCK_H, SK_TOP_STAT_LOCK_T, SK_LINK_LOSS_CNT p, SK_LINK_STAT_TIMEPORT p] :=
  Skerry.keepsBut_trans (fs := [SK_LINK_STAT_STATE p]) (Skerry.wr_keepsBut k _ st) (k.portDrop_keepsBut p st)

theorem Skerry.portDrop_state (k : Skerry) (p st : Nat) : (k.portDrop p st).rd (SK_LINK_STAT_STATE p) = st % 8 := by
  rw [Skerry.portDrop_keepsBut k p st, Skerry.rd_wr_same _ _ _ (by simp [SK_LINK_STAT_STATE])]
  · rfl
  · simp [Fld.apart, SK_LINK_STAT_SCORE, SK_LINK_STAT_STATE, SK_LINK_STAT_TIMEPORT, SK_TOP_STAT_LOCK_H, SK_TOP_STAT_LOCK_T,
      SK_LINK_LOSS_CNT, A_SK_LINK_STAT, A_SK_TOP_STAT, A_SK_LINK_LOSS_CNT]

theorem Skerry.portLock_locked (k : Skerry) (p : Nat) : (k.portLock p).locked p = true := by
  have hst : (k.portLock p).rd (SK_LINK_STAT_STATE p) = LN_LOCKED % 2 ^ 3 := by
    rw [Skerry.portLock_keepsBut k p]
    · exact Skerry.rd_wr_same _ _ _ (by simp [SK_LINK_STAT_STATE])
    · simp [Fld.apart, SK_LINK_STAT_STATE, SK_TOP_STAT_LOCK_H, SK_TOP_STAT_LOCK_T, A_SK_LINK_STAT, A_SK_TOP_STAT]
  simp [Skerry.locked, hst, LN_LOCKED]

/-- Of the status word of a port, a drop leaves SIG_DET and CDR_LOCK alone. -/
theorem Skerry.portDrop_detects (k : Skerry) (p st : Nat) :
    (k.portDrop p st).rd (SK_LINK_STAT_SIG_DET p) = k.rd (SK_LINK_STAT_SIG_DET p) ∧
      (k.portDrop p st).rd (SK_LINK_STAT_CDR_LOCK p) = k.rd (SK_LINK_STAT_CDR_LOCK p) := by
  refine ⟨k.portDrop_frame p st _ ?_, k.portDrop_frame p st _ ?_⟩ <;>
    simp [Fld.apart, SK_LINK_STAT_SCORE, SK_LINK_STAT_STATE, SK_LINK_STAT_TIMEPORT, SK_TOP_STAT_LOCK_H, SK_TOP_STAT_LOCK_T,
      SK_LINK_LOSS_CNT, A_SK_LINK_STAT, A_SK_TOP_STAT, A_SK_LINK_LOSS_CNT, SK_LINK_STAT_SIG_DET, SK_LINK_STAT_CDR_LOCK]

/-! ### The commands at a lane -/

section Lane
variable {s : State} {n : Nat}

theorem exec_clockRecovered_lane (hn : n < 112) (he : isEth n = false) (hst : s.laneSt n = LN_SEEK) :
    exec (.clockRecovered (.lane n)) s =
      .next (((s.wr (LANE_STAT_SIG_DET n) 1).wr (LANE_STAT_CDR_LOCK n) 1).wr (LANE_STAT_STATE n) LN_ALIGN) := by
  show execClockRecovered (.lane n) s = _
  simp [execClockRecovered, hn, he, hst]

theorem exec_commaAligned_lane (hn : n < 112) (he : isEth n = false) (hst : s.laneSt n = LN_ALIGN) :
    exec (.commaAligned (.lane n)) s = .next (s.laneLock n) := by
  show execCommaAligned (.lane n) s = _
  simp [execCommaAligned, hn, he, hst]

theorem exec_signalDetectLost_lane {sig : Bool} (hn : n < 104) (hst : s.laneSt n = LN_ALIGN) :
    exec (.signalDetectLost (.lane n) sig false) s =
      .next (((s.wr (LANE_STAT_SIG_DET n) (b2n sig)).wr (LANE_STAT_CDR_LOCK n) (b2n false)).laneTo n LN_SEEK) := by
  have he : isEth n = false := by simp [isEth]; omega
  show execSignalDetectLost (.lane n) sig false s = _
  simp only [execSignalDetectLost]
  rw [if_pos ⟨by omega, by simp [he], by simp⟩, (s.wr_detects n _ _).1, hst, if_pos (Nat.le_refl _),
    State.laneDrop_of_lt (by omega)]

theorem exec_lossScoreLimit_lane {errs : Nat} (hn : n < 104) (hst : s.laneLocked n = true) :
    exec (.lossScoreLimit (.lane n) errs) s = .next ((s.cnt (LANE_SYM_ERR n) errs).laneTo n LN_ALIGN) := by
  have he : isEth n = false := by simp [isEth]; omega
  show execLossScoreLimit (.lane n) errs s = _
  simp only [execLossScoreLimit]
  rw [if_pos ⟨by omega, by simp [he], hst⟩, State.laneDrop_of_lt (by omega)]

end Lane

/-! ### The commands at a port -/

section Port
variable {s : State} {g p : Nat}

theorem exec_clockRecovered_port (hp : p < 2) (hrun : (s.cell g).lanesRun = true)
    (hst : (s.cell g).rd (SK_LINK_STAT_STATE p) = LN_SEEK) :
    exec (.clockRecovered (.port g p)) s = .next (s.setCell g ((((s.cell g).wr (SK_LINK_STAT_SIG_DET p) 1).wr
      (SK_LINK_STAT_CDR_LOCK p) 1).wr (SK_LINK_STAT_STATE p) LN_ALIGN)) := by
  show execClockRecovered (.port g p) s = _
  simp [execClockRecovered, State.onCell, hp, hrun, hst]

theorem exec_commaAligned_port (hp : p < 2) (hrun : (s.cell g).lanesRun = true)
    (hst : (s.cell g).rd (SK_LINK_STAT_STATE p) = LN_ALIGN) :
    exec (.commaAligned (.port g p)) s = .next (s.setCell g ((s.cell g).portLock p)) := by
  show execCommaAligned (.port g p) s = _
  simp [execCommaAligned, State.onCell, hp, hrun, hst]

theorem exec_signalDetectLost_port {sig : Bool} (hp : p < 2) (hrun : (s.cell g).lanesRun = true)
    (hst : (s.cell g).locked p = true) :
    exec (.signalDetectLost (.port g p) sig false) s = .next (s.setCell g ((((s.cell g).wr (SK_LINK_STAT_SIG_DET p) (b2n sig)).wr
      (SK_LINK_STAT_CDR_LOCK p) (b2n false)).portDrop p LN_SEEK)) := by
  have hlocked : (s.cell g).rd (SK_LINK_STAT_STATE p) = LN_LOCKED := of_decide_eq_true hst
  show execSignalDetectLost (.port g p) sig false s = _
  simp only [execSignalDetectLost, State.onCell]
  rw [if_pos ⟨hp, hrun, by simp⟩, ((s.cell g).wr_detects p _ _).1, hlocked, if_pos (by decide)]

theorem exec_lossScoreLimit_port {errs : Nat} (hp : p < 2) (hrun : (s.cell g).lanesRun = true)
    (hst : (s.cell g).locked p = true) :
    exec (.lossScoreLimit (.port g p) errs) s =
      .next (s.setCell g (((s.cell g).cnt (SK_LINK_SYM_ERR p) errs).portDrop p LN_ALIGN)) := by
  show execLossScoreLimit (.port g p) errs s = _
  simp [execLossScoreLimit, State.onCell, hp, hrun, hst]

end Port

/-! ### The statement -/

theorem b2n_mod_two (b : Bool) : b2n b % 2 = b2n b := by cases b <;> rfl

/-- Settles O20: at a lane and at a port alike, each row of R94 is one command, and what it leaves is what `laneLock`, `laneTo`,
`portLock` and `portDrop` leave. -/
theorem receiverStates : Obligations.ReceiverStates := by
  refine ⟨fun n s hn he hst => ?_, fun n s hn he hst => ?_, fun n sig s hn hst => ?_, fun n errs s hn hst => ?_,
    fun g p s hp hrun hst => ?_, fun g p s hp hrun hst => ?_, fun g p sig s hp hrun hst => ?_, fun g p errs s hp hrun hst => ?_⟩
  · obtain ⟨-, hsig, hcdr⟩ := s.wr_detects n 1 1
    refine ⟨_, exec_clockRecovered_lane hn he hst, ?_, ?_, ?_, ?_⟩
    · exact State.rd_wr_same _ (LANE_STAT_STATE n) _ (by simp [LANE_STAT_STATE])
    · rw [State.rd_wr_apart _ _ _ _ (by simp [Fld.apart, LANE_STAT_STATE, LANE_STAT_SIG_DET]), hsig]
    · rw [State.rd_wr_apart _ _ _ _ (by simp [Fld.apart, LANE_STAT_STATE, LANE_STAT_CDR_LOCK]), hcdr]
    · exact State.onlyFields_wr (State.onlyFields_wr (State.onlyFields_wr (s.onlyFields_refl _) (by simp)) (by simp)) (by simp)
  · obtain ⟨hlocked, hbit, htimeout, hrx⟩ := s.laneLock_spec n
    exact ⟨_, exec_commaAligned_lane hn he hst, hlocked, hbit, htimeout, hrx, rfl⟩
  · have h26 : n / 4 ≠ 26 := by omega
    obtain ⟨-, hsig, hcdr⟩ := s.wr_detects n (b2n sig) (b2n false)
    obtain ⟨hsigKept, hcdrKept⟩ := State.laneTo_detects h26 LN_SEEK
    obtain ⟨hcells, hmem⟩ := State.laneTo_cells_mem h26 LN_SEEK
    exact ⟨_, exec_signalDetectLost_lane hn hst, State.laneTo_laneSt h26 _, hsigKept.trans (hsig.trans (b2n_mod_two sig)),
      hcdrKept.trans hcdr, hcells, hmem⟩
  · have h26 : n / 4 ≠ 26 := by omega
    have hlocked : (s.cnt (LANE_SYM_ERR n) errs).laneLocked n = true := by
      rw [State.laneLocked, State.laneSt, State.cnt, State.rd_wr_apart]
      · exact hst
      · simp [Fld.apart, LANE_SYM_ERR, LANE_STAT_STATE, A_LANE_SYM_ERR, A_LANE_STAT]
    obtain ⟨hcells, hmem⟩ := State.laneTo_cells_mem (s := s.cnt (LANE_SYM_ERR n) errs) h26 LN_ALIGN
    exact ⟨_, exec_lossScoreLimit_lane hn hst, State.laneTo_laneSt h26 _, State.laneTo_bit_locked h26 _,
      State.laneTo_lost_of_locked h26 _ hlocked, State.laneTo_raised_of_locked h26 _ hlocked, hcells, hmem⟩
  · refine ⟨_, exec_clockRecovered_port hp hrun hst, ?_, ?_, s.setCell_onlyCell g _⟩ <;> rw [State.cell_setCell_same]
    · exact Skerry.rd_wr_same _ (SK_LINK_STAT_STATE p) _ (by simp [SK_LINK_STAT_STATE])
    · exact Skerry.onlyFields_wr (Skerry.onlyFields_wr (Skerry.onlyFields_wr (Skerry.onlyFields_refl _ _) (by simp)) (by simp))
        (by simp)
  · refine ⟨_, exec_commaAligned_port hp hrun hst, ?_, s.setCell_onlyCell g _, ?_⟩ <;> rw [State.cell_setCell_same]
    · exact Skerry.portLock_locked _ p
    · exact Skerry.keepsBut_trans (fs := [SK_LINK_STAT_STATE p]) (Skerry.wr_keepsBut _ _ LN_LOCKED) (Skerry.portLock_keepsBut _ p)
  · obtain ⟨-, hsig, hcdr⟩ := (s.cell g).wr_detects p (b2n sig) (b2n false)
    obtain ⟨hsigKept, hcdrKept⟩ := Skerry.portDrop_detects
      (((s.cell g).wr (SK_LINK_STAT_SIG_DET p) (b2n sig)).wr (SK_LINK_STAT_CDR_LOCK p) (b2n false)) p LN_SEEK
    refine ⟨_, exec_signalDetectLost_port hp hrun hst, ?_, ?_, ?_, s.setCell_onlyCell g _⟩ <;> rw [State.cell_setCell_same]
    · exact Skerry.portDrop_state _ p LN_SEEK
    · exact hsigKept.trans (hsig.trans (b2n_mod_two sig))
    · exact hcdrKept.trans hcdr
  · have hcnt : (s.cell g).keepsBut ((s.cell g).cnt (SK_LINK_SYM_ERR p) errs) [SK_LINK_SYM_ERR p] := Skerry.wr_keepsBut _ _ _
    refine ⟨_, exec_lossScoreLimit_port hp hrun hst, ?_, s.setCell_onlyCell g _, ?_⟩ <;> rw [State.cell_setCell_same]
    · exact Skerry.portDrop_state _ p LN_ALIGN
    · exact Skerry.keepsBut_mono (Skerry.keepsBut_trans hcnt (Skerry.portDrop_frame _ p LN_ALIGN)) (by simp)

end Sys2Proof.Machine
end

section
/-! The causeways' states (R151, R162, R244): what a raise leaves of the fault unit, what a causeway that takes a state shows, what the
check of its margins leaves alone, and the rows of R151. -/

namespace Sys2Proof.Machine
open Sys2Proof

/-! ### Raises on an edge without one -/

/-- A raise changes the fault unit alone. -/
theorem State.raise_frame (s : State) (id info : Nat) : s.raise id info = { s with flt := (s.raise id info).flt } := by
  unfold State.raise; split <;> rfl

/-- With no raise on this edge, a raise of a state that still has its fault unit and its clock is one of that state (R485). -/
theorem State.raisedAs_raise {s t : State} (h : s.fresh) (hflt : t.flt = s.flt) (hclk : t.clk = s.clk) (id info : Nat) :
    s.raisedAs (t.raise id info) id info := by
  have hnone : ¬ t.flt.raised.any (fun r => r.id = id ∧ r.edge = t.clk.count) = true := by
    simpa [hflt, hclk] using fun x hx _ => h x hx
  exact ⟨t.ct, by rw [State.raise, if_neg hnone, hflt, hclk]⟩

/-! ### A causeway takes a state -/

/-- Nothing but the registers, the fault unit and the causeways differs. -/
def State.cwFrame (s t : State) : Prop := t = { s with regs := t.regs, flt := t.flt, cws := t.cws }

theorem State.cwFrame.trans {s t u : State} (h : s.cwFrame t) (k : t.cwFrame u) : s.cwFrame u := by
  unfold State.cwFrame at h k
  rw [h] at k
  exact k

theorem State.wr_cwFrame (s : State) (f : Fld) (v : Nat) : s.cwFrame (s.wr f v) := rfl

theorem State.cwTo_cwFrame (s : State) (c st : Nat) : s.cwFrame (s.cwTo c st) := by
  unfold State.cwFrame State.cwTo
  split
  · rw [State.raise_frame]; rfl
  · split
    · rw [State.raise_frame]; rfl
    · rfl

@[simp] theorem State.way_setWay_same (s : State) (c : Nat) (w : Cway) : (s.setWay c w).way c = w := by
  simp [State.way, State.setWay]

/-- The state taken has moved the causeway on this edge, and no measurement ferry counts yet. -/
theorem State.way_cwTo (s : State) (c st : Nat) : (s.cwTo c st).way c = { s.way c with moved := true, meas := 0 } := by
  have hset : ∀ t : State, t.cws = (s.setWay c { s.way c with moved := true, meas := 0 }).cws →
      t.way c = { s.way c with moved := true, meas := 0 } := fun t h =>
    (congrArg (fun q : Cws => tget (fun _ => Cway.zero) q.ways c) h).trans (s.way_setWay_same c _)
  unfold State.cwTo
  split
  · exact hset _ (by rw [State.raise_cws]; rfl)
  · split
    · exact hset _ (by rw [State.raise_cws]; rfl)
    · exact hset _ rfl

/-- Apart from CW_CUT_EV, a state taken writes STATE and the causeway's bits of CW_UP and CW_CUT. -/
theorem State.cwTo_rdW (s : State) {c a : Nat} (st : Nat) (ha : A_CW_CUT_EV 0 + 4 * (c / 32) ≠ a) :
    (s.cwTo c st).rdW a = (((s.wr (CW_STAT_STATE c) st).putBitAt (A_CW_UP 0) c (decide (st = CWS_UP))).putBitAt (A_CW_CUT 0) c
      (decide (st = CWS_CUT))).rdW a := by
  unfold State.cwTo
  split
  · rw [State.raise_rdW, State.rdW_putBitAt_ne _ _ ha]; rfl
  · split
    · rw [State.raise_rdW]; rfl
    · rfl

theorem State.cwTo_rdW_stat (s : State) (c st : Nat) : (s.cwTo c st).rdW (A_CW_STAT c) = (s.wr (CW_STAT_STATE c) st).rdW (A_CW_STAT c) := by
  rw [State.cwTo_rdW, State.rdW_putBitAt_ne, State.rdW_putBitAt_ne] <;> simp only [A_CW_CUT_EV, A_CW_CUT, A_CW_UP, A_CW_STAT] <;> omega

theorem State.cwSt_cwTo (s : State) (c st : Nat) : (s.cwTo c st).cwSt c = st % 4 := by
  rw [State.cwSt, State.rd_congr (f := CW_STAT_STATE c) (s.cwTo_rdW_stat c st), State.rd_wr_same _ _ _ (by simp [CW_STAT_STATE])]
  rfl

theorem State.bitAt_up_cwTo (s : State) (c st : Nat) : (s.cwTo c st).bitAt (A_CW_UP 0) c = decide (st = CWS_UP) := by
  have hup : A_CW_UP 0 + 4 * (c / 32) ≠ A_CW_CUT 0 + 4 * (c / 32) := by simp only [A_CW_CUT, A_CW_UP]; omega
  have hev : A_CW_CUT_EV 0 + 4 * (c / 32) ≠ A_CW_UP 0 + 4 * (c / 32) := by simp only [A_CW_CUT_EV, A_CW_UP]; omega
  rw [State.bitAt_congr ((State.cwTo_rdW s st hev).trans (State.rdW_putBitAt_ne _ _ hup.symm)), State.bitAt_putBitAt_same]

theorem State.bitAt_cut_cwTo (s : State) (c st : Nat) : (s.cwTo c st).bitAt (A_CW_CUT 0) c = decide (st = CWS_CUT) := by
  have hev : A_CW_CUT_EV 0 + 4 * (c / 32) ≠ A_CW_CUT 0 + 4 * (c / 32) := by simp only [A_CW_CUT_EV, A_CW_CUT]; omega
  rw [State.bitAt_congr (State.cwTo_rdW s st hev), State.bitAt_putBitAt_same]

theorem State.bitAt_cutEv_cwTo (s : State) (c : Nat) : (s.cwTo c CWS_CUT).bitAt (A_CW_CUT_EV 0) c = true := by
  rw [State.cwTo, if_pos rfl, State.bitAt_congr (State.raise_rdW ..), State.bitAt_putBitAt_same]

theorem State.raisedAs_cwTo_cut {s : State} (h : s.fresh) (c : Nat) : s.raisedAs (s.cwTo c CWS_CUT) 0x082 c := by
  rw [State.cwTo, if_pos rfl]
  exact State.raisedAs_raise h (by rfl) (by rfl) _ _

theorem State.raisedAs_cwTo_down {s : State} (h : s.fresh) (c : Nat) : s.raisedAs (s.cwTo c CWS_DOWN) 0x083 c := by
  rw [State.cwTo, if_neg (by decide), if_pos rfl]
  exact State.raisedAs_raise h (by rfl) (by rfl) _ _

/-! ### The check of the margins -/

theorem State.marginCheck_cwFrame (s : State) (c : Nat) : s.cwFrame (s.marginCheck c) := by
  simp only [State.cwFrame, State.marginCheck]
  split
  · rw [State.raise_frame]; rfl
  · rfl

@[simp] theorem State.marginCheck_cws (s : State) (c : Nat) : (s.marginCheck c).cws = s.cws := by
  simp only [State.marginCheck]
  split
  · rw [State.raise_cws]; rfl
  · rfl

/-- The check writes the registers of block RUN alone. -/
theorem State.marginCheck_rdW (s : State) {c a : Nat} (ha : a < A_RUN_STAT) : (s.marginCheck c).rdW a = s.rdW a := by
  have hput : ∀ (bad : Bool) (v : Nat), ((s.putBitAt (A_RUN_MARGIN 0) c bad).wr RUN_STAT_MARGIN v).rdW a = s.rdW a := fun bad v => by
    have hne : A_RUN_MARGIN 0 + 4 * (c / 32) ≠ a := by simp only [A_RUN_STAT] at ha; simp only [A_RUN_MARGIN]; omega
    rw [State.rdW_wr_ne _ RUN_STAT_MARGIN v (Nat.ne_of_gt ha), State.rdW_putBitAt_ne _ _ hne]
  simp only [State.marginCheck]
  split
  · rw [State.raise_rdW, hput]
  · exact hput _ _

theorem State.marginCheck_rd_stat (s : State) {c : Nat} (hc : c < 96) {f : Fld} (hf : f.addr = A_CW_STAT c) :
    (s.marginCheck c).rd f = s.rd f :=
  State.rd_congr (State.marginCheck_rdW s (by rw [hf]; simp only [A_CW_STAT, A_RUN_STAT]; omega))

/-- Neither the check nor a write of the causeway's status word moves a bit below the status words. -/
theorem State.marginCheck_bitAt (s : State) {c base : Nat} (hc : c < 96) (hbase : base ≤ A_CW_CUT_EV 0) :
    (s.marginCheck c).bitAt base c = s.bitAt base c := by
  simp only [A_CW_CUT_EV] at hbase
  exact State.bitAt_congr (State.marginCheck_rdW s (by simp only [A_RUN_STAT]; omega))

theorem State.bitAt_wr_stat (s : State) {c base : Nat} (hbase : base ≤ A_CW_CUT_EV 0) {f : Fld}
    (hf : f.addr = A_CW_STAT c) (v : Nat) : (s.wr f v).bitAt base c = s.bitAt base c := by
  simp only [A_CW_CUT_EV] at hbase
  exact State.bitAt_congr (State.rdW_wr_ne s f v (by rw [hf]; simp only [A_CW_STAT]; omega))

/-! ### The rows -/

/-- Settles O22: each row is one command; what a causeway shows is what the state that it takes leaves. -/
theorem causewayStates : Obligations.CausewayStates := by
  refine ⟨fun c mate s hc hj hrow hst hfresh => ?_, fun c mate s hc hj hrow hdown hfresh => ?_, fun p c s hc hu hst => ?_,
    fun p c s hc hu hst hfresh => ?_, fun c mate s hc hrun harb hu hreq hblk hmoved hst hsil hcut => ?_,
    fun c s hc hrun harb hu hreq hmoved hst hready => ?_, fun c s hc hj hst hmeas hdown hcut => ?_,
    fun c s hc hj hst hcalm hdown => ?_, fun c s hc hrun harb hu hmute hup => ?_⟩
  · refine ⟨s.cwTo c CWS_DOWN, ?_, s.cwSt_cwTo c _, s.bitAt_up_cwTo c _, s.bitAt_cut_cwTo c _, s.way_cwTo c _,
      State.raisedAs_cwTo_down hfresh c, s.cwTo_cwFrame c _⟩
    show execCausewayDown c mate s = _
    rw [execCausewayDown, if_pos ⟨hj, hrow, hst⟩]
  · refine ⟨s.cwTo c CWS_CUT, ?_, s.cwSt_cwTo c _, s.bitAt_up_cwTo c _, s.bitAt_cut_cwTo c _, s.bitAt_cutEv_cwTo c, s.way_cwTo c _,
      State.raisedAs_cwTo_cut hfresh c, s.cwTo_cwFrame c _⟩
    show execCausewayCut c mate s = _
    rw [execCausewayCut, if_pos ⟨hj, hrow, by simp [hdown]⟩]
  · refine ⟨s.setWay c { s.way c with request := true }, ?_, s.way_setWay_same c _, rfl⟩
    show Host.Outcome.next (s.writeMeasure p c 1) = _
    rw [State.writeMeasure, if_neg (by simp [hu, bitOf]), if_neg hst]
  · have hblk : 32 * blkOf (A_CW_CMD c) = 0x080 := by simp only [blkOf, A_CW_CMD]; omega
    refine ⟨s.range p (A_CW_CMD c), ?_, ?_, s.raise_frame _ _⟩
    · show Host.Outcome.next (s.writeMeasure p c 1) = _
      rw [State.writeMeasure, if_neg (by simp [hu, bitOf]), if_pos hst]
    · rw [State.range, hblk]
      exact State.raisedAs_raise hfresh rfl rfl _ _
  · refine ⟨(s.setWay c { s.way c with request := false }).cwTo c CWS_MEASURING, ?_, State.cwSt_cwTo _ c _,
      State.bitAt_up_cwTo _ c _, ?_, rfl⟩
    · show execCausewayMeasuring c mate s = _
      simp [execCausewayMeasuring, hrun, harb, hu, hreq, hblk, hmoved, hst, hsil, hcut]
    · rw [State.way_cwTo, State.way_setWay_same]
  · refine ⟨(s.setWay c { s.way c with request := false }).cwTo c CWS_MEASURING, ?_, State.cwSt_cwTo _ c _, ?_, ?_, rfl⟩
    · show execCausewayMeasuring c true s = _
      simp [execCausewayMeasuring, hrun, harb, hu, hreq, hmoved, hst, hready]
    · rw [State.way_cwTo]
    · rw [State.way_cwTo]
  · refine ⟨(s.cwTo c CWS_UP).marginCheck c, ?_, (State.marginCheck_rd_stat _ hc rfl).trans (s.cwSt_cwTo c CWS_UP),
      (State.marginCheck_bitAt _ hc (by decide)).trans (s.bitAt_up_cwTo c CWS_UP), ?_,
      (s.cwTo_cwFrame c _).trans (State.marginCheck_cwFrame _ c)⟩
    · show execCausewayUp c s = _
      rw [execCausewayUp, if_pos ⟨hj, hst, hmeas, by simp [hdown], by simp [hcut]⟩]
    · rw [State.way, State.marginCheck_cws]
      exact s.way_cwTo c CWS_UP
  · have hbit := fun base (h : base ≤ A_CW_CUT_EV 0) => (State.marginCheck_bitAt ((s.cwTo c CWS_UP).wr (CW_STAT_RELAY c) 0) hc h).trans
      (State.bitAt_wr_stat (s.cwTo c CWS_UP) h (f := CW_STAT_RELAY c) rfl 0)
    refine ⟨((s.cwTo c CWS_UP).wr (CW_STAT_RELAY c) 0).marginCheck c, ?_, (State.marginCheck_rd_stat _ hc rfl).trans ?_,
      (hbit _ (by decide)).trans (s.bitAt_up_cwTo c CWS_UP), (hbit _ (by decide)).trans (s.bitAt_cut_cwTo c CWS_UP),
      (State.marginCheck_rd_stat _ hc rfl).trans ?_,
      ((s.cwTo_cwFrame c _).trans (State.wr_cwFrame _ (CW_STAT_RELAY c) 0)).trans (State.marginCheck_cwFrame _ c)⟩
    · show execCutClear c true s = _
      rw [execCutClear, if_pos ⟨hj, hst, hcalm, by simp, by simp [hdown]⟩]
    · rw [State.rd_wr_apart _ _ _ _ (by simp [Fld.apart, CW_STAT_RELAY, CW_STAT_STATE])]
      exact s.cwSt_cwTo c CWS_UP
    · exact State.rd_wr_same _ _ _ (by simp [CW_STAT_RELAY])
  · refine ⟨s.wr (CW_STAT_SPLIT c) 1, ?_, State.rd_wr_same _ _ _ (by simp [CW_STAT_SPLIT]), s.wr_onlyFields _ _⟩
    show execSplitSet c s = _
    rw [execSplitSet, if_pos ⟨hrun, by simp [harb], hu, hmute, hup⟩]

end Sys2Proof.Machine
end

section
/-! The freight queue (R141, R143): a request to a stale cell that neither end of its causeway reaches is counted in CW_FLASH_DEFER, where
its wake order would have left (R160, R360). -/

namespace Sys2Proof.Machine
open Sys2Proof

/-! ### A request to a cell that neither end reaches -/

/-- An order that reaches its cell from neither end is counted and not sent (R160). -/
theorem State.needSingle_of_no_end {s : State} {g : Nat} (h : s.endsOf g = []) (k : FlashKind) (d1 : Nat) :
    s.needSingle g k d1 = s.inc (CW_FLASH_DEFER (g / 64)) := by
  simp only [State.needSingle, h]

theorem State.foldl_setJob_rd (cs : List Nat) (j : Option FrJob) (f : Fld) :
    ∀ s : State, (cs.foldl (fun s c => s.setJob c j) s).rd f = s.rd f := by
  induction cs with
  | nil => exact fun _ => rfl
  | cons c cs ih => exact fun s => (ih (s.setJob c j)).trans (s.setJob_rd c j f)

/-- A request to one stale cell that neither end reaches counts a flash order that did not leave (R160, R360). -/
theorem State.issue_rd_defer_of_no_end {s : State} {j : FrJob} (hone : (bitOf j.cell 14 || bitOf j.cell 15) = false)
    (hstale : s.stale (j.cell % 8192) = true) (hends : s.endsOf (j.cell % 8192) = []) :
    (s.issue j).rd (CW_FLASH_DEFER (j.cell % 8192 / 64)) =
      (s.inc (CW_FLASH_DEFER (j.cell % 8192 / 64))).rd (CW_FLASH_DEFER (j.cell % 8192 / 64)) := by
  simp only [State.issue, hone, hstale]
  rw [State.foldl_setJob_rd, ← State.needSingle_of_no_end hends .wake 0]
  simp

/-- Where the slot of the monitor of an active in RUN holds such a request, the freight engine counts the order (R629). -/
theorem execFreightIssue_rd_defer_of_no_end {s : State} {j : FrJob} (hrun : s.inRun = true) (hact : s.isActive = true)
    (hslot : s.mon.slot = some j) (hfree : s.waysFree j.cell = true) (hone : (bitOf j.cell 14 || bitOf j.cell 15) = false)
    (hstale : s.stale (j.cell % 8192) = true) (hends : s.endsOf (j.cell % 8192) = []) :
    ∃ t, execFreightIssue s = .next t ∧ t.rd (CW_FLASH_DEFER (j.cell % 8192 / 64)) =
      (s.inc (CW_FLASH_DEFER (j.cell % 8192 / 64))).rd (CW_FLASH_DEFER (j.cell % 8192 / 64)) := by
  refine ⟨{ s with mon := { s.mon with slot := none } }.issue j, ?_,
    State.issue_rd_defer_of_no_end (s := { s with mon := { s.mon with slot := none } }) hone hstale hends⟩
  simp [execFreightIssue, hrun, hact, hslot, hfree]

/-! ### The counterexample -/

/-- The monitor reads a word of cell 2 of causeway 0. -/
def readOfCellTwo : FrJob :=
  { idx := 4096, cell := 2, op := 1, addr := 0, data := [], len := 4, index := 0, tries := 0, coll := 0, phase := 0, at_ := 0 }

/-- An active Balgal in RUN. Causeway 0 is in CUT, broken at berth 1 as the head sees it and at berth 3 as the tail does, so that neither
end reaches cell 2, whose record is stale; the monitor's slot holds a request to it. -/
def cutOffCellTwo : State :=
  { (((((State.reset.wr CHART_STATUS_PHASE PH_RUN).wr TOP_STAT_ROLE 1).wr (CW_STAT_STATE 0) CWS_CUT).wr (CW_STAT_BREAK_H 0) 1).wr
      (CW_STAT_BREAK_T 0) 3).wr (REEF_REC0_STALE 2) 1 with
    chart := { State.reset.chart with secs := [(T_FRAME * 256, [1, 0, 0, 0, 0]), (T_BERTH * 256, [0, 4])] }
    mon := { Mon.zero with slot := some readOfCellTwo } }

/-- The cell that the request names is one of the chart's: the refutation does not rest on a request to no cell. -/
theorem cutOffCellTwo_isCell : cutOffCellTwo.isCell 2 = true := by decide +kernel

/-- Refutes O25: where the slot of the monitor holds a request to a stale cell that neither end reaches, its wake order is counted in
CW_FLASH_DEFER, so that more than the causeways, the monitor and the flash orders changes. -/
theorem not_freightQueue : ¬ Obligations.FreightQueue := by
  rintro ⟨-, -, hslot, -⟩
  have hrun : cutOffCellTwo.inRun = true := by decide +kernel
  have hact : cutOffCellTwo.isActive = true := by decide +kernel
  have hmon : cutOffCellTwo.mon.slot = some readOfCellTwo := rfl
  have hfree : cutOffCellTwo.waysFree readOfCellTwo.cell = true := by decide +kernel
  have hstale : cutOffCellTwo.stale (readOfCellTwo.cell % 8192) = true := by decide +kernel
  have hends : cutOffCellTwo.endsOf (readOfCellTwo.cell % 8192) = [] := by decide +kernel
  have hcount : (cutOffCellTwo.inc (CW_FLASH_DEFER 0)).rd (CW_FLASH_DEFER 0) ≠ cutOffCellTwo.rd (CW_FLASH_DEFER 0) := by decide +kernel
  generalize cutOffCellTwo = s at hrun hact hmon hfree hstale hends hcount
  obtain ⟨t, ht, -, -, hframe⟩ := hslot readOfCellTwo s hrun hact hmon hfree
  obtain ⟨u, hu, hcounted⟩ := execFreightIssue_rd_defer_of_no_end hrun hact hmon hfree rfl hstale hends
  obtain rfl : t = u := Host.Outcome.next.inj (ht.symm.trans hu)
  have hkept : t.rd (CW_FLASH_DEFER 0) = s.rd (CW_FLASH_DEFER 0) := by rw [hframe]; rfl
  exact hcount (hcounted.symm.trans hkept)

end Sys2Proof.Machine
end

section
/-! Freight in a Skerry: PART and IMAGE blocks, the remote reset, and what a COLLECT finds (R76, R77, R137 to R139, R614, R615, R647). -/

namespace Sys2Proof.Machine
open Sys2Proof

/-! ### The Skerry's memory and its log -/

/-- Every byte of a Skerry outside the stored ones keeps its value. -/
theorem Skerry.byte_setBytes_outside (l : List Byte) : ∀ (k : Skerry) (a c : Nat), c < a ∨ a + l.length ≤ c →
    (k.setBytes a l).byte c = k.byte c := by
  induction l with
  | nil => exact fun _ _ _ _ => rfl
  | cons b l ih =>
    intro k a c h
    rw [List.length_cons] at h
    rw [Skerry.setBytes, ih _ _ _ (by omega), Skerry.byte, Skerry.setByte, tget_tset_ne _ _ _ (by omega), ← Skerry.byte]

/-- Storing changes a Skerry's memory alone. -/
theorem Skerry.setBytes_frame (l : List Byte) : ∀ (k : Skerry) (a : Nat), k.setBytes a l = { k with mem := (k.setBytes a l).mem } := by
  induction l with
  | nil => exact fun _ _ => rfl
  | cons b l ih => exact fun k a => ih (k.setByte a b) (a + 1)

/-- An entry of the log is written with its two registers; nothing else moves. -/
theorem Skerry.log_frame (k : Skerry) (code : Nat) (data : List Nat) :
    k.log code data = { k with regs := (k.log code data).regs, mem := (k.log code data).mem } := by
  simp only [Skerry.log]
  rw [Skerry.setBytes_frame]
  rfl

theorem Skerry.log_keepsBut (k : Skerry) (code : Nat) (data : List Nat) :
    k.keepsBut (k.log code data) [SK_LOG_WIDX, SK_LOG_CNT] := by
  simp only [Skerry.log]
  rw [Skerry.setBytes_frame]
  exact Skerry.keepsBut_wr (Skerry.keepsBut_wr (fun _ _ => rfl) (by simp)) (by simp)

/-- The log lies above SRAM (R346). -/
theorem Skerry.log_byte_sram (k : Skerry) (code : Nat) (data : List Nat) {a : Nat} (ha : a < 0x10000000) :
    (k.log code data).byte a = k.byte a := by
  simp only [Skerry.log, Skerry.wr_byte]
  exact Skerry.byte_setBytes_outside _ _ _ _ (.inl (by omega))

@[simp] theorem Skerry.log_fr (k : Skerry) (code : Nat) (data : List Nat) : (k.log code data).fr = k.fr := by
  rw [Skerry.log_frame]

@[simp] theorem Skerry.log_pow (k : Skerry) (code : Nat) (data : List Nat) : (k.log code data).pow = k.pow := by
  rw [Skerry.log_frame]

/-! ### PART and IMAGE blocks -/

/-- What the registers show of the image is all that showing it writes. -/
theorem Skerry.imgShow_onlyFields (k : Skerry) : k.onlyFields k.imgShow
    [SK_TOP_IMG_HELD, SK_TOP_IMG_MISS_FIRST, SK_TOP_IMG_MISS_COMPLETE, SK_TOP_IMG_STATE] := by
  have hwr := fun {l : Skerry} (f : Fld) (v : Nat) (h : f ∈ [SK_TOP_IMG_HELD, SK_TOP_IMG_MISS_FIRST, SK_TOP_IMG_MISS_COMPLETE,
    SK_TOP_IMG_STATE]) (hl : k.onlyFields l _) => Skerry.onlyFields_wr (f := f) (v := v) hl h
  simp only [Skerry.imgShow]
  refine Skerry.onlyFields_ite (hwr _ _ (by simp) ?_) ?_ <;>
    exact hwr _ _ (by simp) (hwr _ _ (by simp) (hwr _ _ (by simp) (k.onlyFields_refl _)))

@[simp] theorem Skerry.imgShow_fr (k : Skerry) : k.imgShow.fr = k.fr := by rw [k.imgShow_onlyFields.1]

@[simp] theorem Skerry.imgShow_mem (k : Skerry) : k.imgShow.mem = k.mem := by rw [k.imgShow_onlyFields.1]

theorem Skerry.imgShow_rd_part (k : Skerry) : k.imgShow.rd SK_TOP_STAT_PART = k.rd SK_TOP_STAT_PART :=
  k.imgShow_onlyFields.2 _ (by decide)

/-- The first block of a part under a new ID is the only one held; the part is receiving unless one is applied (R76, R137). -/
theorem Skerry.partBlock_of_new {k : Skerry} {i id : Nat} {data : List Byte} (hi : i < 6) (hid : k.fr.partId ≠ id) (hdata : data ≠ []) :
    k.partBlock i id data =
      let l := k.setFr { k.fr with partId := id, blocks := [(i, data)] }
      if k.partOk then l else l.wr SK_TOP_STAT_PART 1 := by
  have hheld : tset (fun _ => ([] : List Byte)) [] i data = [(i, data)] := by simp [tset, tins, tdel, hdata]
  have hnot : ¬ ((List.range 6).all (fun j => [(i, data)].any (fun b => decide (b.1 = j))) = true) := by
    intro h
    have hall := fun j (hj : j < 6) => List.all_eq_true.mp h j (List.mem_range.mpr hj)
    have h0 := hall 0 (by omega)
    have h1 := hall 1 (by omega)
    simp only [List.any_cons, List.any_nil, Bool.or_false, decide_eq_true_eq] at h0 h1
    omega
  simp only [Skerry.partBlock, if_neg (show ¬ i > 5 by omega), if_neg hid, hheld, if_neg hnot]
  rfl

section PartBlock
variable {k : Skerry} {i id : Nat} {data : List Byte} (hi : i < 6) (hid : k.fr.partId ≠ id) (hdata : data ≠ [])
include hi hid hdata

theorem Skerry.partBlock_fr_of_new : (k.partBlock i id data).fr = { k.fr with partId := id, blocks := [(i, data)] } := by
  rw [Skerry.partBlock_of_new hi hid hdata]
  dsimp only
  split <;> rfl

theorem Skerry.partBlock_mem_of_new : (k.partBlock i id data).mem = k.mem := by
  rw [Skerry.partBlock_of_new hi hid hdata]
  dsimp only
  split <;> rfl

theorem Skerry.partBlock_rd_part_of_new : (k.partBlock i id data).rd SK_TOP_STAT_PART = if k.partOk then 2 else 1 := by
  rw [Skerry.partBlock_of_new hi hid hdata]
  dsimp only
  split
  next h => exact of_decide_eq_true h
  next => exact Skerry.rd_wr_same _ _ _ (by decide)

end PartBlock

/-- An IMAGE block within the image whose block 0 is held is kept; the image may have to be verified again (R615). -/
theorem Skerry.imageBlock_of_held {k : Skerry} {i : Nat} (data : List Byte) (hi : 0 < i) (h0 : k.img0.isEmpty = false)
    (hlen : i < imgBlocks k.img0) : ∃ l : Skerry,
      k.imageBlock i data = l.imgShow ∧ l.fr = { k.fr with image := tset (fun _ => []) k.fr.image i data } ∧ l.mem = k.mem := by
  have hin : ¬ (k.img0.isEmpty = true ∨ i ≥ imgBlocks k.img0) := by simp [h0, hlen]
  simp only [Skerry.imageBlock, if_neg (Nat.ne_of_gt hi), if_neg hin]
  split
  · exact ⟨_, rfl, rfl, rfl⟩
  · exact ⟨_, rfl, rfl, rfl⟩

/-! ### RESET -/

theorem tget_filter_of_false {α : Type} (d : Nat → α) (p : Nat × α → Bool) {a : Nat} (hp : ∀ v, p (a, v) = false) :
    ∀ m : List (Nat × α), tget d (m.filter p) a = d a := by
  intro m
  induction m with
  | nil => rfl
  | cons e m ih =>
    by_cases he : p e = true
    · have hne : e.1 ≠ a := fun h => by
        have := hp e.2
        rw [← h] at this
        simp_all
      rw [List.filter_cons_of_pos he, tget, if_neg hne, ih]
    · rw [List.filter_cons_of_neg he, ih]

/-- The fast domain starts with SRAM clear and no freight, in RUN (R470, R668). -/
theorem Skerry.startFast_spec (k : Skerry) :
    k.startFast.fr = SkFreight.zero ∧ k.startFast.pow.state = .run ∧ ∀ a, a < 0x10000000 → k.startFast.byte a = 0 := by
  refine ⟨rfl, rfl, fun a ha => ?_⟩
  exact tget_filter_of_false (fun _ => (0 : Byte)) _ (by simpa using ha) _

/-- An entry into RUN shows its cause and the state before it, and is logged (R352). -/
theorem Skerry.runShown_spec (k : Skerry) (cause prev : Nat) :
    (k.runShown cause prev).rd SK_PWR_STAT_WAKE_CAUSE = cause % 2 ^ SK_PWR_STAT_WAKE_CAUSE.w ∧
      (k.runShown cause prev).rd SK_PWR_STAT_PREV = prev % 2 ^ SK_PWR_STAT_PREV.w ∧
      (k.runShown cause prev).fr = k.fr ∧ (k.runShown cause prev).pow = k.pow ∧
      ∀ a, a < 0x10000000 → (k.runShown cause prev).byte a = k.byte a := by
  have hlog := fun f (hf : ∀ e ∈ [SK_LOG_WIDX, SK_LOG_CNT], e.apart f) => Skerry.log_keepsBut
    ((((k.wr SK_PWR_STAT_WAKE_CAUSE cause).wr SK_PWR_STAT_PREV prev).wr SK_PWR_RUN_SEC
      (ctSec ((k.wr SK_PWR_STAT_WAKE_CAUSE cause).wr SK_PWR_STAT_PREV prev).ct))) 0x0002 [cause] f hf
  refine ⟨(hlog _ (by decide)).trans ?_, (hlog _ (by decide)).trans ?_, Skerry.log_fr .., Skerry.log_pow ..,
    fun a ha => (Skerry.log_byte_sram _ _ _ ha).trans rfl⟩
  · rw [Skerry.rd_wr_apart _ _ _ _ (by decide), Skerry.rd_wr_apart _ _ _ _ (by decide), Skerry.rd_wr_same _ _ _ (by decide)]
  · rw [Skerry.rd_wr_apart _ _ _ _ (by decide), Skerry.rd_wr_same _ _ _ (by decide)]

/-- A RESET freight restarts a cell whose gates are off; the state before RUN that it shows stays (R647). -/
theorem Skerry.remoteReset_of_gatesOff {k : Skerry} (h : k.gatesOff = true) :
    k.remoteReset.rd SK_PWR_STAT_WAKE_CAUSE = 9 ∧ k.remoteReset.rd SK_PWR_STAT_PREV = k.rd SK_PWR_STAT_PREV ∧
      k.remoteReset.fr = SkFreight.zero ∧ k.remoteReset.inRun = true ∧ ∀ a, a < 0x10000000 → k.remoteReset.byte a = 0 := by
  simp only [Skerry.remoteReset, if_pos h]
  generalize (if k.discharging then k.endDischarge else k) = l
  obtain ⟨hcause, hprev, hfr, hpow, hbyte⟩ := l.startFast.runShown_spec 9 (k.rd SK_PWR_STAT_PREV)
  obtain ⟨hzero, hrun, hsram⟩ := l.startFast_spec
  exact ⟨hcause, hprev.trans (Nat.mod_eq_of_lt (k.rd_lt _)), hfr.trans hzero, by simp [Skerry.inRun, hpow, hrun],
    fun a ha => (hbyte a ha).trans (hsram a ha)⟩

/-! ### COLLECT -/

/-- Only a PARK that is pending waits for the COLLECT of its reply (R360). -/
theorem Skerry.collected_of_no_park {k : Skerry} (h : k.rd SK_PWR_STAT_PARK_PEND = 0) (rep : Option SkReply) : k.collected rep = k := by
  cases rep with
  | none => rfl
  | some r => simp [Skerry.collected, Skerry.on, h]

@[simp] theorem State.cell_setCell_self (s : State) (g h : Nat) : (s.setCell g (s.cell g)).cell h = s.cell h := by
  by_cases hgh : g = h
  · rw [hgh, State.cell_setCell_same]
  · exact State.cell_setCell_ne s _ hgh

/-! ### The statement -/

/-- Settles O27: each clause is what the cell's own operation leaves, in a command that reaches the cell alone. -/
theorem skerryOtherFreight : Obligations.SkerryOtherFreight := by
  refine ⟨fun g i id data s hrun hsrv hi hid hdata => ?_, fun g i data s hrun hsrv hi h0 => ?_, fun g i data s hrun hsrv hi h0 hlen => ?_,
    fun g s hrun hoff => ?_, fun g s hrun hoff => ?_, fun g tag s hrun hpark => ?_, fun g r s hrun hrep => ?_⟩
  · refine ⟨s.setCell g ((s.cell g).partBlock i id data).imgShow, ?_, ?_, ?_, ?_, ?_, s.setCell_onlyCell g _⟩
    · show execFreightPart g i id data s = _
      simp only [execFreightPart, State.runCell_of_run hrun, hsrv, if_true]
    all_goals rw [State.cell_setCell_same]
    · rw [Skerry.imgShow_fr, Skerry.partBlock_fr_of_new hi hid hdata]
    · rw [Skerry.imgShow_fr, Skerry.partBlock_fr_of_new hi hid hdata]
    · rw [Skerry.imgShow_rd_part, Skerry.partBlock_rd_part_of_new hi hid hdata]
    · rw [Skerry.imgShow_mem, Skerry.partBlock_mem_of_new hi hid hdata]
  · have hdrop : (s.cell g).imageBlock i data = (s.cell g).setFr { (s.cell g).fr with discarded := (s.cell g).fr.discarded + 1 } := by
      simp only [Skerry.imageBlock, if_neg (Nat.ne_of_gt hi), h0, true_or, if_true]
    refine ⟨s.setCell g ((s.cell g).imageBlock i data), ?_, ?_, ?_, s.setCell_onlyCell g _⟩
    · show execFreightImage g i data s = _
      simp only [execFreightImage, State.runCell_of_run hrun, hsrv, if_true]
    · rw [State.cell_setCell_same, hdrop]
      rfl
    · rw [State.cell_setCell_same, hdrop]
      rfl
  · obtain ⟨l, hl, hfr, hmem⟩ := Skerry.imageBlock_of_held data hi h0 hlen
    refine ⟨s.setCell g ((s.cell g).imageBlock i data), ?_, ?_, fun j hj => ?_, ?_, s.setCell_onlyCell g _⟩
    · show execFreightImage g i data s = _
      simp only [execFreightImage, State.runCell_of_run hrun, hsrv, if_true]
    · rw [State.cell_setCell_same, hl, Skerry.imgShow_fr, hfr, tget_tset_same]
    · rw [State.cell_setCell_same, hl, Skerry.imgShow_fr, hfr, tget_tset_ne _ _ _ (Ne.symm hj)]
    · rw [State.cell_setCell_same, hl, Skerry.imgShow_mem, hmem]
  · obtain ⟨hcause, hprev, hfr, hrun', hsram⟩ := Skerry.remoteReset_of_gatesOff hoff
    refine ⟨s.setCell g (s.cell g).remoteReset, ?_, ?_, ?_, ?_, ?_, ?_, s.setCell_onlyCell g _⟩
    · show execFreightReset g (0x80000000 + g) s = _
      simp only [execFreightReset, State.runCell_of_run hrun, if_true]
    all_goals rw [State.cell_setCell_same]; assumption
  · refine ⟨s.setCell g (s.cell g).remoteReset, ?_, ?_, s.setCell_onlyCell g _⟩
    · show execFreightReset g (0x80000000 + g) s = _
      simp only [execFreightReset, State.runCell_of_run hrun, if_true]
    · rw [State.cell_setCell_same, Skerry.remoteReset, if_neg (by simp [hoff])]
  · refine ⟨(s.setCell g ((s.cell g).collected ((s.cell g).replyOf (tag % 256)))).emit _, ?_, fun h => ?_, rfl, rfl, rfl⟩
    · show execCollect g tag s = _
      simp only [execCollect, hrun, if_true]
    · rw [State.emit_cell, Skerry.collected_of_no_park hpark, s.cell_setCell_self g h]
  · refine ⟨s.setCell g { s.cell g with fr := { (s.cell g).fr with reply := some { r with ready := true } } }, ?_, ?_,
      s.setCell_onlyCell g _⟩
    · show execReplyReady g s = _
      simp only [execReplyReady, State.runCell_of_run hrun, hrep, Option.map_some]
      rfl
    · rw [State.cell_setCell_same]

end Sys2Proof.Machine
end

section
/-! What a flash order does in a Skerry in RUN: what the operations on the gates, the fault latches and the log leave alone, a block-all, a
commit and a return from REPEAT (R156, R157, R255, R260, R349, R371). -/

namespace Sys2Proof.Machine
open Sys2Proof

/-! ### What the gates' operations leave alone -/

/-- The commands' part of a Skerry, its power state, and the words of blocks SK_CMD and SK_PWR. -/
def Skerry.kept (k : Skerry) : SkCmd × Power × (Nat → Word) :=
  (k.cmd, k.pow.state, fun a => if a / 0x1000 = 0x20003 ∨ a / 0x1000 = 0x20007 then k.rdW a else 0)

theorem Skerry.rdW_of_kept {k l : Skerry} (h : l.kept = k.kept) {a : Nat} (ha : a / 0x1000 = 0x20003 ∨ a / 0x1000 = 0x20007) :
    l.rdW a = k.rdW a := by
  simpa only [Skerry.kept, if_pos ha] using congrFun (congrArg (fun x => x.2.2) h) a

theorem Skerry.rd_of_kept {k l : Skerry} (h : l.kept = k.kept) {f : Fld} (hf : f.addr / 0x1000 = 0x20003 ∨ f.addr / 0x1000 = 0x20007) :
    l.rd f = k.rd f := by
  rw [Skerry.rd, Skerry.rdW_of_kept h hf, ← Skerry.rd]

theorem Skerry.state_of_kept {k l : Skerry} (h : l.kept = k.kept) : l.pow.state = k.pow.state := congrArg (fun x => x.2.1) h

theorem Skerry.cmd_of_kept {k l : Skerry} (h : l.kept = k.kept) : l.cmd = k.cmd := congrArg (fun x => x.1) h

@[simp] theorem Skerry.kept_wrW (k : Skerry) {a : Nat} (v : Word) (h : ¬ (a / 0x1000 = 0x20003 ∨ a / 0x1000 = 0x20007)) :
    (k.wrW a v).kept = k.kept := by
  have hword : ∀ b, b / 0x1000 = 0x20003 ∨ b / 0x1000 = 0x20007 → (k.wrW a v).rdW b = k.rdW b := fun b hb =>
    Skerry.rdW_wrW_ne k v (fun hab => h (hab ▸ hb))
  simp only [Skerry.kept, Skerry.wrW_cmd, Skerry.wrW_pow, Prod.mk.injEq, true_and]
  funext b
  split
  next hb => exact hword b hb
  next => rfl

@[simp] theorem Skerry.kept_wr (k : Skerry) {f : Fld} (v : Nat) (h : ¬ (f.addr / 0x1000 = 0x20003 ∨ f.addr / 0x1000 = 0x20007)) :
    (k.wr f v).kept = k.kept := k.kept_wrW _ h

@[simp] theorem Skerry.kept_inc (k : Skerry) {f : Fld} (h : ¬ (f.addr / 0x1000 = 0x20003 ∨ f.addr / 0x1000 = 0x20007)) :
    (k.inc f).kept = k.kept := k.kept_wrW _ h

@[simp] theorem Skerry.kept_setGate (k : Skerry) (q : SkGate) : (k.setGate q).kept = k.kept := rfl

theorem Skerry.kept_setPow (k : Skerry) {p : SkPower} (h : p.state = k.pow.state) : (k.setPow p).kept = k.kept := by
  simp only [Skerry.kept, Skerry.setPow_pow, h]
  rfl

theorem Skerry.kept_foldl {α : Type} {f : Skerry → α → Skerry} (hf : ∀ k x, (f k x).kept = k.kept) (xs : List α) :
    ∀ k : Skerry, (xs.foldl f k).kept = k.kept := by
  induction xs with
  | nil => exact fun _ => rfl
  | cons x xs ih => exact fun k => (ih (f k x)).trans (hf k x)

@[simp] theorem Skerry.kept_log (k : Skerry) (code : Nat) (data : List Nat) : (k.log code data).kept = k.kept := by
  simp only [Skerry.log]
  rw [Skerry.kept_wr _ _ (by decide), Skerry.kept_wr _ _ (by decide), Skerry.setBytes_frame]
  rfl

@[simp] theorem Skerry.kept_drive (k : Skerry) (j : Nat) (v : Bool) : (k.drive j v).kept = k.kept := by
  unfold Skerry.drive
  split
  · rfl
  · exact (Skerry.kept_wr _ _ (by decide)).trans rfl

@[simp] theorem Skerry.kept_dropForce (k : Skerry) : k.dropForce.kept = k.kept := by
  simp (disch := decide) [Skerry.dropForce]

@[simp] theorem Skerry.kept_countSwitch (k : Skerry) (st : Nat) : (k.countSwitch st).kept = k.kept := by
  simp (disch := decide) [Skerry.countSwitch, apply_ite Skerry.kept]

@[simp] theorem Skerry.kept_allOff (k : Skerry) : k.allOff.kept = k.kept := by
  simp (disch := decide) [Skerry.allOff]

@[simp] theorem Skerry.kept_refreshShow (k : Skerry) : k.refreshShow.kept = k.kept := by
  simp (disch := decide) [Skerry.refreshShow]

@[simp] theorem Skerry.kept_heal (k : Skerry) : k.heal.kept = k.kept := by
  simp (disch := decide) [Skerry.heal]

/-- The undriven outputs of rank 1, and the block of rank 3, write the gates' registers alone. -/
@[simp] theorem Skerry.kept_rank1 (k : Skerry) : k.rank1.kept = k.kept := by
  simp (disch := decide) [Skerry.rank1]

@[simp] theorem Skerry.kept_rank3 (k : Skerry) : k.rank3.kept = k.kept := by
  simp (disch := decide) [Skerry.rank3, apply_ite Skerry.kept]

@[simp] theorem Skerry.kept_latch (k : Skerry) (b : Nat) : (k.latch b).kept = k.kept := by
  simp (disch := decide) [Skerry.latch, apply_ite Skerry.kept]

theorem Skerry.kept_latchInputs (k : Skerry) (ins : List Nat) : (k.latchInputs ins).kept = k.kept := by
  simp only [Skerry.latchInputs]
  split
  · rfl
  · rw [Skerry.kept_heal, Skerry.kept_latch]
    refine (Skerry.kept_foldl (fun l c => ?_) _ _).trans ?_
    · rw [Skerry.kept_log, Skerry.kept_inc _ (by decide)]
      have hset := l.kept_wrW (bitsPut (l.rdW A_SK_GATE_FLT) c 1 1) (a := A_SK_GATE_FLT) (by decide)
      split
      · exact (Skerry.kept_setPow _ (by rfl)).trans hset
      · exact hset
    · split
      · exact Skerry.kept_wr _ _ (by decide)
      · rfl

/-! ### A return from REPEAT -/

/-- A discharge that waits begins, or is refused: neither changes the power state, nor a field of its status that names no discharge. -/
theorem Skerry.startDischarge_spec (k : Skerry) : k.startDischarge.pow.state = k.pow.state ∧
    ∀ f : Fld, f.addr = A_SK_PWR_STAT → SK_PWR_STAT_DISCHARGING.apart f → SK_PWR_STAT_DIS_PAUSED.apart f →
      k.startDischarge.rd f = k.rd f := by
  unfold Skerry.startDischarge
  split
  · exact ⟨rfl, fun f _ hdis hpaused => (Skerry.rd_wr_apart _ _ _ _ hpaused).trans (Skerry.rd_wr_apart _ _ _ _ hdis)⟩
  · have hrej : ∀ f : Fld, f.addr = A_SK_PWR_STAT → (k.inc SK_CMD_ACTION_REJ).rd f = k.rd f := fun f hf =>
      Skerry.rd_wr_apart _ _ _ _ (.inl (by rw [hf]; decide))
    refine ⟨by rw [Skerry.log_pow]; rfl, fun f hf _ _ => ?_⟩
    exact (Skerry.rd_of_kept (Skerry.kept_log _ _ _) (by rw [hf]; decide)).trans (hrej f hf)

/-- What waits for the entry into RUN leaves the power state, and the same fields of its status (R357, R390). -/
theorem Skerry.runPending_spec (k : Skerry) : k.runPending.pow.state = k.pow.state ∧
    ∀ f : Fld, f.addr = A_SK_PWR_STAT → SK_PWR_STAT_DISCHARGING.apart f → SK_PWR_STAT_DIS_PAUSED.apart f →
      k.runPending.rd f = k.rd f := by
  have hkept : ∀ l : Skerry, (if k.pow.inputs.isEmpty then l else (l.latchInputs k.pow.inputs).rank1).kept = l.kept := fun l => by
    simp [apply_ite Skerry.kept, Skerry.kept_latchInputs]
  have hl := hkept (k.setPow { k.pow with inputs := [], disNext := false })
  simp only [Skerry.runPending]
  split
  · refine ⟨(Skerry.startDischarge_spec _).1.trans (Skerry.state_of_kept hl), fun f hf hdis hpaused => ?_⟩
    exact ((Skerry.startDischarge_spec _).2 f hf hdis hpaused).trans (Skerry.rd_of_kept hl (by rw [hf]; decide))
  · exact ⟨Skerry.state_of_kept hl, fun f hf _ _ => Skerry.rd_of_kept hl (by rw [hf]; decide)⟩

/-- A return from REPEAT ends in RUN and shows its cause and REPEAT (R348, R349). -/
theorem Skerry.wakeRun_spec (k : Skerry) (cause : Nat) : (k.wakeRun cause).pow.state = .run ∧
    (k.wakeRun cause).rd SK_PWR_STAT_WAKE_CAUSE = cause % 2 ^ SK_PWR_STAT_WAKE_CAUSE.w ∧ (k.wakeRun cause).rd SK_PWR_STAT_PREV = 2 := by
  obtain ⟨l, hl, hrun⟩ : ∃ l : Skerry, k.wakeRun cause = (l.runShown cause 2).runPending ∧ l.pow.state = .run := by
    refine ⟨_, rfl, ?_⟩
    simp [apply_ite Skerry.pow, Skerry.cancelAfter, Skerry.freeSlot]
  obtain ⟨hcause, hprev, -, hpow, -⟩ := l.runShown_spec cause 2
  obtain ⟨hstate, hrd⟩ := (l.runShown cause 2).runPending_spec
  rw [hl]
  exact ⟨hstate.trans ((congrArg SkPower.state hpow).trans hrun), (hrd _ rfl (by decide) (by decide)).trans hcause,
    (hrd _ rfl (by decide) (by decide)).trans hprev⟩

/-! ### A block-all -/

/-- A freed slot's word is cleared, and the Skerry's other words but its time stay. -/
theorem Skerry.freeSlot_rdW (k : Skerry) (i : Nat) : (k.freeSlot i).rdW (A_SK_CMD_SLOT i) = 0 ∧
    ∀ a, A_SK_CMD_SLOT i ≠ a → A_SK_CMD_SLOT_AT i ≠ a → (k.freeSlot i).rdW a = k.rdW a := by
  refine ⟨?_, fun a hs ht => (Skerry.rdW_wrW_ne _ _ ht).trans (Skerry.rdW_wrW_ne _ _ hs)⟩
  exact (Skerry.rdW_wrW_ne _ _ (by simp only [A_SK_CMD_SLOT_AT, A_SK_CMD_SLOT]; omega)).trans (Skerry.rdW_wrW_same _ _ _)

/-- Cancelling the AFTER change and emptying the early-commit register write those alone. -/
theorem Skerry.cancelAfter_keepsBut (k : Skerry) : k.keepsBut k.cancelAfter [SK_CMD_SLOT_AFTER_PEND 0, SK_CMD_SLOT_AFTER_PEND 1] :=
  Skerry.keepsBut_wr (Skerry.keepsBut_wr (fun _ _ => rfl) (by simp)) (by simp)

theorem Skerry.dropEarly_rd (k : Skerry) {f : Fld} (he : A_SK_CMD_EARLY ≠ f.addr) (hw : A_SK_CMD_COMMIT_WRONG ≠ f.addr) :
    k.dropEarly.rd f = k.rd f := by
  unfold Skerry.dropEarly
  split
  · exact (Skerry.rd_wr_apart _ _ _ _ (.inl hw)).trans (Skerry.rd_wrW_ne _ _ _ he)
  · rfl

/-- Of the commands' registers, a block-all writes the slots, the early-commit register and its counter; of the gates' it writes none. -/
theorem Skerry.obeyBlock_rd (k : Skerry) {f : Fld} (hf : ∀ e ∈ [SK_CMD_SLOT_AFTER_PEND 0, SK_CMD_SLOT_AFTER_PEND 1], e.apart f)
    (he : A_SK_CMD_EARLY ≠ f.addr) (hw : A_SK_CMD_COMMIT_WRONG ≠ f.addr) :
    k.obeyBlock.rd f = ((k.freeSlot 0).freeSlot 1).rd f :=
  (Skerry.dropEarly_rd _ he hw).trans (Skerry.cancelAfter_keepsBut _ f hf)

/-- A block-all frees both slots and has flash orders ignored; the gates' status is not its own (R157, R263). -/
theorem Skerry.obeyBlock_spec (k : Skerry) : k.obeyBlock.cmd.blocked = true ∧ k.obeyBlock.rd (SK_CMD_SLOT_STATE 0) = SL_FREE ∧
    k.obeyBlock.rd (SK_CMD_SLOT_STATE 1) = SL_FREE ∧ ∀ f : Fld, f.addr = A_SK_GATE_STAT → k.obeyBlock.rd f = k.rd f := by
  have hzero : bitsOf (0 : Word) 0 3 = SL_FREE := by decide
  refine ⟨rfl, ?_, ?_, fun f hf => ?_⟩
  · rw [Skerry.obeyBlock_rd k (by decide) (by decide) (by decide), Skerry.rd, (Skerry.freeSlot_rdW _ 1).2 _ (by decide) (by decide)]
    exact (congrArg (bitsOf · 0 3) (k.freeSlot_rdW 0).1).trans hzero
  · rw [Skerry.obeyBlock_rd k (by decide) (by decide) (by decide), Skerry.rd]
    exact (congrArg (bitsOf · 0 3) ((k.freeSlot 0).freeSlot_rdW 1).1).trans hzero
  · have hne : ∀ a, a ≤ A_SK_CMD_SLOT_AT 1 → a ≠ f.addr := fun a hle h => by
      rw [h, hf] at hle
      exact absurd hle (by decide)
    rw [Skerry.obeyBlock_rd k (by simpa [Fld.apart, hf] using ⟨.inl (by decide), .inl (by decide)⟩) (by rw [hf]; decide)
      (by rw [hf]; decide), Skerry.rd, (Skerry.freeSlot_rdW _ 1).2 _ (hne _ (by decide)) (hne _ (by decide)),
      (Skerry.freeSlot_rdW _ 0).2 _ (hne _ (by decide)) (hne _ (by decide)), ← Skerry.rd]

/-- The end of a force moves its own fields of the gates' status alone. -/
theorem Skerry.dropForce_rd_stat (k : Skerry) {f : Fld} (hf : f.addr = A_SK_GATE_STAT) (h : SK_GATE_STAT_FORCED.apart f) :
    k.dropForce.rd f = k.rd f := by
  have hforce : A_SK_GATE_FORCE ≠ f.addr := by rw [hf]; decide
  exact ((Skerry.rd_wr_apart _ _ _ _ h).trans (Skerry.rd_wr_apart _ SK_GATE_FORCE_PEND f 0 (.inl hforce))).trans
    (Skerry.rd_wr_apart _ SK_GATE_FORCE_EN f 0 (.inl hforce))

/-- Rank 3 blocks, unless rank 1 or FIRED outranks it (R34, R371). -/
theorem Skerry.rank3_target {k : Skerry} (hz : k.hiZ = false) (hf : k.fired = false) : k.rank3.rd SK_GATE_STAT_TARGET = ST_BLOCK := by
  have hz' : k.dropForce.hiZ = false := by
    rw [Skerry.hiZ, Skerry.on, k.dropForce_rd_stat rfl (by decide)]
    exact hz
  have hf' : k.dropForce.fired = false := by
    rw [Skerry.fired, Skerry.on, k.dropForce_rd_stat rfl (by decide)]
    exact hf
  simp only [Skerry.rank3, hz', hf', Bool.false_eq_true, or_self, if_false, Skerry.refreshShow]
  rw [Skerry.rd_wr_apart _ _ _ _ (by decide), Skerry.rd_wr_apart _ _ _ _ (by decide), Skerry.rd_wr_apart _ _ _ _ (by decide),
    Skerry.rd_wr_same _ _ _ (by decide)]
  rfl

/-! ### Counters -/

/-- A saturating counter reads one more, up to its width. -/
theorem Skerry.rd_inc_same (k : Skerry) (f : Fld) (h : f.lo + f.w ≤ 32) : (k.inc f).rd f = min (k.rd f + 1) (2 ^ f.w - 1) := by
  have hpos := Nat.two_pow_pos f.w
  rw [Skerry.inc, Skerry.cnt, Skerry.rd_wr_same _ _ _ h, Nat.mod_eq_of_lt (by omega)]

/-! ### A single order, a commit -/

/-- An insert-one or a bypass-one moves a cell that may follow it (R156, R157). -/
theorem Skerry.single_of_free {k : Skerry} (hpart : k.partOk = true) (hblk : k.cmd.blocked = false) (hdis : k.discharging = false)
    (hfired : k.fired = false) (st : Nat) : k.single st = k.cancelAfter.moveTo st := by
  simp [Skerry.single, hpart, hblk, hdis, hfired]

/-- A commit that no slot holds is kept as an early one while the register is free (R260). -/
theorem Skerry.commit_of_no_slot {k : Skerry} (hpart : k.partOk = true) (hdis : k.discharging = false) (hfired : k.fired = false)
    (htime : k.timeOk = true) (h0 : k.rd (SK_CMD_SLOT_STATE 0) = SL_FREE) (h1 : k.rd (SK_CMD_SLOT_STATE 1) = SL_FREE)
    (hearly : k.rd SK_CMD_EARLY_VALID = 0) (epoch stage : Nat) : k.commit epoch stage =
      ((k.wr SK_CMD_EARLY_EPOCH epoch).wr SK_CMD_EARLY_STAGE stage).wr SK_CMD_EARLY_VALID 1 := by
  simp [Skerry.commit, Skerry.dropEarly, Skerry.on, hpart, hdis, hfired, htime, h0, h1, hearly]

/-! ### The statement -/

/-- Settles O29: an order reaches its cell alone, and there it is one operation of the cell. -/
theorem flashOrdersAct : Obligations.FlashOrdersAct := by
  refine ⟨fun g pol s hrun hpol hty => ?_, fun g pol s hrun hpol hpart hblk hdis hfired => ?_, fun g s hrun hpart hblk hdis hfired => ?_,
    fun g reason s hrun => ?_, fun g epoch stage s hrun hpart hdis hfired htime h0 h1 hearly => ?_, fun g p mark back s hrun => ?_,
    fun g s hst => ?_, fun g s hst => ?_⟩
  · refine ⟨s.setCell g ((s.cell g).inc SK_CMD_FLASH_IGN), ?_, ?_, ?_, s.setCell_onlyCell g _⟩
    · show execInsertOne g pol s = _
      rw [execInsertOne, State.runCell_of_run hrun, if_pos ⟨hpol, hty⟩]
    · rw [State.cell_setCell_same, Skerry.rd_inc_same _ _ (by decide)]
    · rw [State.cell_setCell_same]
      exact Skerry.onlyFields_inc (Skerry.onlyFields_refl _ _) (by simp)
  · refine ⟨s.setCell g ((s.cell g).cancelAfter.moveTo ST_INSP), ?_, State.cell_setCell_same .., s.setCell_onlyCell g _⟩
    show execInsertOne g pol s = _
    rw [execInsertOne, State.runCell_of_run hrun, if_neg (by omega), if_neg (by omega), Skerry.single_of_free hpart hblk hdis hfired]
  · refine ⟨s.setCell g ((s.cell g).cancelAfter.moveTo ST_BYPASS), ?_, State.cell_setCell_same .., s.setCell_onlyCell g _⟩
    show execBypassOne g s = _
    rw [execBypassOne, State.runCell_of_run hrun, Skerry.single_of_free hpart hblk hdis hfired]
  · obtain ⟨hblk, h0, h1, hstat⟩ := (s.cell g).obeyBlock_spec
    have hkept := (Skerry.kept_log (s.cell g).obeyBlock.rank3 0x0020 [reason % 256]).trans (Skerry.kept_rank3 _)
    refine ⟨s.setCell g ((s.cell g).obeyBlock.rank3.log 0x0020 [reason % 256]), ?_, ?_, ?_, ?_, fun hz hfired => ?_,
      s.setCell_onlyCell g _⟩
    · show execBlockAll g reason s = _
      rw [execBlockAll, State.runCell_of_run hrun]
    all_goals rw [State.cell_setCell_same]
    · rw [Skerry.cmd_of_kept hkept, hblk]
    · rw [Skerry.rd_of_kept hkept (by decide), h0]
    · rw [Skerry.rd_of_kept hkept (by decide), h1]
    · have hz' : (s.cell g).obeyBlock.hiZ = false := by rw [Skerry.hiZ, Skerry.on, hstat _ rfl]; exact hz
      have hfired' : (s.cell g).obeyBlock.fired = false := by rw [Skerry.fired, Skerry.on, hstat _ rfl]; exact hfired
      exact (Skerry.log_keepsBut _ _ _ _ (by decide)).trans (Skerry.rank3_target hz' hfired')
  · have hcommit := Skerry.commit_of_no_slot hpart hdis hfired htime h0 h1 hearly (epoch % 256) (stage % 2)
    refine ⟨s.setCell g ((s.cell g).commit (epoch % 256) (stage % 2)), ?_, ?_, ?_, ?_, ?_, s.setCell_onlyCell g _⟩
    · show execCommit g epoch stage s = _
      rw [execCommit, State.runCell_of_run hrun]
    all_goals rw [State.cell_setCell_same, hcommit]
    · exact Skerry.rd_wr_same _ _ _ (by decide)
    · rw [Skerry.rd_wr_apart _ _ _ _ (by decide), Skerry.rd_wr_apart _ _ _ _ (by decide), Skerry.rd_wr_same _ _ _ (by decide)]
      exact Nat.mod_mod _ _
    · rw [Skerry.rd_wr_apart _ _ _ _ (by decide), Skerry.rd_wr_same _ _ _ (by decide)]
      exact Nat.mod_mod _ _
    · exact Skerry.onlyFields_wr (Skerry.onlyFields_wr (Skerry.onlyFields_wr (Skerry.onlyFields_refl _ _) (by simp)) (by simp)) (by simp)
  · refine ⟨_, congrArg Host.Outcome.next (State.runCell_of_run hrun _), ?_, ?_, ?_, s.setCell_onlyCell g _⟩ <;>
      rw [State.cell_setCell_same]
    · rw [Skerry.rd_wr_apart _ _ _ _ (by decide), Skerry.rd_wr_apart _ _ _ _ (by decide)]
      exact Skerry.rd_wr_same _ _ _ (by decide)
    · rw [Skerry.rd_wr_apart _ _ _ _ (by decide), Skerry.rd_wr_apart _ _ _ _ (by decide), Skerry.rd_wr_apart _ _ _ _ (by decide)]
      exact Skerry.rd_wr_same _ _ _ (by decide)
    · exact Skerry.onlyFields_wr (Skerry.onlyFields_wr (Skerry.onlyFields_wr (Skerry.onlyFields_wr (Skerry.onlyFields_refl _ _)
        (by simp)) (by simp)) (by simp)) (by simp)
  · obtain ⟨hstate, hcause, hprev⟩ := (s.cell g).wakeRun_spec 5
    refine ⟨s.setCell g ((s.cell g).wakeRun 5), ?_, ?_, ?_, ?_, s.setCell_onlyCell g _⟩
    · show execWake g s = _
      rw [execWake, State.onCell, if_pos hst]
    all_goals rw [State.cell_setCell_same]; assumption
  · refine ⟨s.setCell g (s.cell g), ?_, s.cell_setCell_self g⟩
    show execWake g s = _
    rw [execWake, State.onCell, if_neg hst]

end Sys2Proof.Machine
end

section
/-! The Balgal's flash orders: what becomes due, what stops when committing stops, a block-all of every lane, and an order that leaves its
lane (R152, R159, R161, R264, R336, R569, R657). -/

namespace Sys2Proof.Machine
open Sys2Proof

/-! ### Orders that become due -/

/-- `s` with more orders due. -/
def State.addDue (s : State) (l : List DueOrder) : State := { s with flash := { s.flash with due := s.flash.due ++ l } }

@[simp] theorem State.addDue_nil (s : State) : s.addDue [] = s := by simp [State.addDue]

@[simp] theorem State.addDue_addDue (s : State) (l m : List DueOrder) : (s.addDue l).addDue m = s.addDue (l ++ m) := by
  simp [State.addDue]

theorem State.needRoute_eq (s : State) (lane : Nat) (k : FlashKind) (d1 d2 route : Nat) :
    s.needRoute lane k d1 d2 route = s.addDue [⟨lane, k, d1, d2, route, s.clk.count, false⟩] := rfl

/-- The order that becomes due on a lane on this edge. -/
def State.dueNow (s : State) (k : FlashKind) (d1 d2 lane : Nat) : DueOrder := ⟨lane, k, d1, d2, 0, s.clk.count, false⟩

theorem State.needFlash_eq (s : State) (lane : Nat) (k : FlashKind) (d1 d2 : Nat) :
    s.needFlash lane k d1 d2 = s.addDue [s.dueNow k d1 d2 lane] := rfl

/-- A fold whose every step makes orders due makes them all due, in the order of the list. -/
theorem State.foldl_addDue {α : Type} {f : State → α → State} {g : α → List DueOrder} {s : State}
    (hf : ∀ l x, f (s.addDue l) x = s.addDue (l ++ g x)) (xs : List α) :
    ∀ l, xs.foldl f (s.addDue l) = s.addDue (l ++ xs.flatMap g) := by
  induction xs with
  | nil => simp
  | cons x xs ih => intro l; rw [List.foldl_cons, hf, ih, List.flatMap_cons, List.append_assoc]

theorem State.foldl_needFlash (s : State) (ns : List Nat) (k : FlashKind) (d1 d2 : Nat) (l : List DueOrder) :
    ns.foldl (fun s n => s.needFlash n k d1 d2) (s.addDue l) = s.addDue (l ++ ns.map (s.dueNow k d1 d2)) := by
  rw [List.map_eq_flatMap]
  exact State.foldl_addDue (fun l n => by rw [State.needFlash_eq, State.addDue_addDue]; rfl) ns l

/-- An order becomes due on every own lane of the causeways. -/
theorem State.foldl_lanes_needFlash (s : State) (cs : List Nat) (k : FlashKind) (d1 d2 : Nat) :
    cs.foldl (fun s c => (s.lanesOf c).foldl (fun s n => s.needFlash n k d1 d2) s) s =
      s.addDue (cs.flatMap (fun c => (s.lanesOf c).map (s.dueNow k d1 d2))) := by
  have h := State.foldl_addDue (s := s) (f := fun s c => (s.lanesOf c).foldl (fun s n => s.needFlash n k d1 d2) s)
    (fun l c => s.foldl_needFlash (s.lanesOf c) k d1 d2 l) cs []
  rwa [State.addDue_nil, List.nil_append] at h

/-- The causeways in use are those with an arm (R50). -/
theorem State.mem_causeways {s : State} {c : Nat} : c ∈ s.causeways ↔ s.cwUsed c = true := by
  simp only [State.causeways, List.mem_filter, List.mem_range, and_iff_right_iff_imp]
  intro h
  by_contra hc
  simp [State.cwUsed, State.armOf, Nat.not_lt.mp hc] at h

/-! ### Committing stops -/

theorem tget_filter_of_true {α : Type} (d : Nat → α) (p : Nat × α → Bool) {a : Nat} (hp : ∀ v, p (a, v) = true) :
    ∀ m : List (Nat × α), tget d (m.filter p) a = tget d m a := by
  intro m
  induction m with
  | nil => rfl
  | cons e m ih =>
    by_cases he : p e = true
    · rw [List.filter_cons_of_pos he, tget, tget, ih]
    · have hne : e.1 ≠ a := fun h => he (by simpa [← h] using hp e.2)
      rw [List.filter_cons_of_neg he, ih, tget, if_neg hne]

/-- What stops with committing leaves the flash orders, the cells and memory as they are, and the register at `a`. -/
structure State.Stops (a : Nat) (s t : State) : Prop where
  flash : t.flash = s.flash
  cells : t.cells = s.cells
  mem : t.mem = s.mem
  word : t.rdW a = s.rdW a

theorem State.Stops.trans {a : Nat} {s t u : State} (h : s.Stops a t) (k : t.Stops a u) : s.Stops a u :=
  ⟨k.flash.trans h.flash, k.cells.trans h.cells, k.mem.trans h.mem, k.word.trans h.word⟩

theorem State.Stops.refl (a : Nat) (s : State) : s.Stops a s := ⟨rfl, rfl, rfl, rfl⟩

theorem State.wr_stops {a : Nat} (s : State) {f : Fld} (v : Nat) (h : f.addr ≠ a) : s.Stops a (s.wr f v) :=
  ⟨rfl, rfl, rfl, State.rdW_wr_ne s f v h⟩

theorem State.statsClear_stops {a : Nat} (ha : a < A_SCHED_CTRL) (s : State) : s.Stops a s.statsClear := by
  refine ⟨rfl, rfl, rfl, tget_filter_of_true balReset _ (fun _ => ?_) _⟩
  simp only [A_SCHED_CTRL] at ha
  simp only [Bool.not_eq_true', Bool.and_eq_false_iff, decide_eq_false_iff_not]
  omega

theorem State.Stops.foldl {a : Nat} {α : Type} {f : State → α → State} (hf : ∀ (t : State) x, t.Stops a (f t x)) (xs : List α) :
    ∀ s : State, s.Stops a (xs.foldl f s) := by
  induction xs with
  | nil => exact fun s => .refl a s
  | cons x xs ih => exact fun s => (hf s x).trans (ih (f s x))

theorem State.statsFreeze_stops {a : Nat} (ha : a < A_SCHED_CTRL) (s : State) : s.Stops a s.statsFreeze := by
  simp only [A_SCHED_CTRL] at ha
  refine (s.wr_stops _ ?_).trans (State.Stops.foldl (fun t e => t.wr_stops _ ?_) _ _)
  · simp only [SCHED_ST_WIN, A_SCHED_ST_WIN]; omega
  · simp only [SCHED_ST_BUSY, A_SCHED_ST_BUSY]; omega

theorem State.observe_stops {a : Nat} (ha : a < A_SCHED_CTRL) (s : State) : s.Stops a s.observe := by
  have hobs : A_SCHED_OBS ≠ a := fun h => by rw [← h] at ha; exact absurd ha (by decide)
  simp only [State.observe]
  have hshow := fun tr st => (s.wr_stops (f := SCHED_OBS_TRACING) tr hobs).trans (State.wr_stops _ (f := SCHED_OBS_STATS) st hobs)
  split
  · exact (hshow _ _).trans (State.statsClear_stops ha _)
  · split
    · exact (hshow _ _).trans (State.statsFreeze_stops ha _)
    · exact hshow _ _

theorem State.profIdle_stops {a : Nat} (ha : A_PROF_STAT ≠ a) (s : State) : s.Stops a s.profIdle := by
  simp only [State.profIdle]
  split
  · exact .refl a s
  · refine ⟨rfl, rfl, rfl, ?_⟩
    rw [State.setProf_rdW]
    exact ((((s.wr_stops (f := PROF_STAT_STATE) 0 ha).trans (State.wr_stops _ (f := PROF_STAT_CMD_PEND) 0 ha)).trans
      (State.wr_stops _ (f := PROF_STAT_REVERSING) 0 ha)).trans (State.wr_stops _ (f := PROF_STAT_PHASE) 0 ha)).word

/-- Once committing is off, RUN_STAT keeps its other fields. -/
theorem State.commitOff_spec (s : State) : s.commitOff.committing = false ∧ s.commitOff.flash = s.flash ∧
    s.commitOff.cells = s.cells ∧ s.commitOff.mem = s.mem ∧
    ∀ f : Fld, f.addr = A_RUN_STAT → RUN_STAT_COMMITTING.apart f → s.commitOff.rd f = s.rd f := by
  unfold State.commitOff
  split
  next h =>
    obtain ⟨hflash, hcells, hmem, hword⟩ := (State.profIdle_stops (a := A_RUN_STAT) (by decide) (s.wr RUN_STAT_COMMITTING 0)).trans
      (State.observe_stops (by decide) _)
    refine ⟨?_, hflash, hcells, hmem, fun f hf hapart => ?_⟩
    · rw [State.committing, State.rd_congr (f := RUN_STAT_COMMITTING) hword, State.rd_wr_same _ _ _ (by decide)]
      rfl
    · exact (State.rd_congr (hf ▸ hword)).trans (State.rd_wr_apart _ _ _ _ hapart)
  next h => exact ⟨by simpa using h, rfl, rfl, rfl, fun _ _ _ => rfl⟩

/-! ### A block-all of every lane -/

theorem State.clearD_isActive (s : State) : s.clearD.isActive = s.isActive := by
  have hword : s.clearD.rdW A_TOP_STAT = s.rdW A_TOP_STAT := (State.Stops.foldl (fun t a => t.wr_stops (f := REEF_REG_D a) 0
    (by simp only [REEF_REG_D, A_REEF_REG, A_TOP_STAT]; omega)) _ s).word
  exact congrArg (fun r : Nat => decide (r = 1)) (State.rd_congr (f := TOP_STAT_ROLE) hword)

/-- `s` with a block-all due on its own lanes, and the orders `relayed`; the edge is the last block-all's. -/
def State.owingBlockAll (s : State) (reason : Nat) (relayed : List DueOrder) : State :=
  { s with flash := { s.flash with
      due := s.flash.due ++ (s.causeways.flatMap (fun c => (s.lanesOf c).map (s.dueNow .blockAll reason 0xA5)) ++ relayed)
      lastBA := s.clk.count + 1 } }

theorem State.mem_due_owingBlockAll {s : State} {c n : Nat} (hc : s.cwUsed c = true) (hn : n ∈ s.lanesOf c) (reason : Nat)
    (relayed : List DueOrder) : s.dueNow .blockAll reason 0xA5 n ∈ (s.owingBlockAll reason relayed).flash.due :=
  List.mem_append_right _ (List.mem_append_left _
    (List.mem_flatMap.mpr ⟨c, State.mem_causeways.mpr hc, List.mem_map.mpr ⟨n, hn, rfl⟩⟩))

/-- An active's block-all: orders due on its own lanes and for its standby to relay, then D 0 and committing off (R161, R219, R264). -/
theorem State.blockAll_of_active {s : State} (hact : s.isActive = true) (reason : Nat) : ∃ relayed : List DueOrder,
    s.blockAll reason = ((s.owingBlockAll reason relayed).clearD.wr RUN_STAT_HALTED_EV 1).commitOff := by
  have hclear : ∀ t : State, t.isActive = true → (if t.clearD.isActive then (t.clearD.wr RUN_STAT_HALTED_EV 1).commitOff
      else t.clearD) = (t.clearD.wr RUN_STAT_HALTED_EV 1).commitOff := fun t ht => if_pos (t.clearD_isActive.trans ht)
  simp only [State.blockAll, State.foldl_lanes_needFlash]
  split
  · exact ⟨_, by rw [State.needRoute_eq, State.addDue_addDue]; exact hclear _ hact⟩
  · exact ⟨[], by rw [State.owingBlockAll, List.append_nil]; exact hclear _ hact⟩

/-- Committing has stopped, and the chip's cells and memory are as they were (R264). -/
theorem State.blockAll_spec {s : State} (hact : s.isActive = true) (reason : Nat) :
    (s.blockAll reason).rd RUN_STAT_HALTED_EV = 1 ∧ (s.blockAll reason).committing = false ∧
      (s.blockAll reason).flash.lastBA = s.clk.count + 1 ∧
      (∀ c, s.cwUsed c = true → ∀ n ∈ s.lanesOf c, s.dueNow .blockAll reason 0xA5 n ∈ (s.blockAll reason).flash.due) ∧
      (s.blockAll reason).cells = s.cells ∧ (s.blockAll reason).mem = s.mem := by
  obtain ⟨relayed, hall⟩ := State.blockAll_of_active hact reason
  obtain ⟨hoff, hflash, hcells, hmem, hrd⟩ := State.commitOff_spec ((s.owingBlockAll reason relayed).clearD.wr RUN_STAT_HALTED_EV 1)
  rw [hall]
  refine ⟨(hrd _ rfl (by decide)).trans (State.rd_wr_same _ _ _ (by decide)), hoff, by rw [hflash]; rfl, fun c hc n hn => ?_,
    hcells, hmem⟩
  rw [hflash]
  exact State.mem_due_owingBlockAll hc hn reason relayed

/-! ### An order that leaves its lane -/

/-- A saturating counter reads one more, up to its width. -/
theorem State.rd_inc_same (s : State) (f : Fld) (h : f.lo + f.w ≤ 32) : (s.inc f).rd f = min (s.rd f + 1) (2 ^ f.w - 1) := by
  have hpos := Nat.two_pow_pos f.w
  rw [State.inc, State.cnt, State.rd_wr_same _ _ _ h, Nat.mod_eq_of_lt (by omega)]

/-- The only order due leaves a lane within its budget, unless it is a second block-all, which is dropped and counted (R159). -/
theorem execFlashOrderSend_of_only {n : Nat} {o : DueOrder} {s : State} (hn : n ≠ relayLane) (hdue : s.flash.due = [o])
    (hlane : o.lane = n) (hsent : tget (fun _ => 0) s.flash.sent n < 19) : execFlashOrderSend n s = .next
      (if o.kind = .blockAll ∧ s.flash.sentBA.contains n = true then
        ({ s with flash := { s.flash with due := [] } } : State).inc (CW_FLASH_DEFER (s.cwOfLane n))
      else s.sendOrder o) := by
  have hall : s.flash.due.filter (fun o => o.lane = n) = [o] := by simp [hdue, hlane]
  have herase : s.flash.due.erase o = [] := by simp [hdue]
  simp only [execFlashOrderSend, hall, herase, Nat.not_le.mpr hsent, decide_false, Bool.and_false, Bool.false_eq_true, if_false,
    firstDue, List.foldl_cons, List.foldl_nil, hn, ne_eq, not_false_eq_true, true_and]
  split <;> rfl

/-- A wake leaves a causeway lane as its four symbols and counts; the sorter expects nothing of it (R152, R164). -/
theorem State.sendOrder_wake {s : State} {o : DueOrder} (hkind : o.kind = .wake) (hlane : o.lane ≠ relayLane) :
    s.sendOrder o = (({ s with flash := { s.flash with
        due := s.flash.due.erase o
        sent := tset (fun _ => 0) s.flash.sent o.lane (tget (fun _ => 0) s.flash.sent o.lane + 1) } } : State).inc
      (CW_FLASH_SENT (s.cwOfLane o.lane))).emit (.flash o.lane (flashSyms .wake o.d1 o.d2)) := by
  simp only [State.sendOrder, State.expectOrder, hkind, if_neg hlane, reduceCtorEq, if_false]
  rfl

/-- A standby owes a relayed block-all on the lane of every causeway in use (R161). -/
theorem execRelayedFlashOrder_blockAll {r : Byte} {d1 d2 : Nat} {s : State} (hred : s.redundant = true) (hrun : s.inRun = true)
    (hsb : s.isStandby = true) (hlock : s.laneLocked relayLane = true)
    (hvalid : flashOf (flashSyms .blockAll d1 d2) = some (0x9C, d1, d2)) :
    execRelayedFlashOrder (.d r :: flashSyms .blockAll d1 d2) s =
      .next (s.addDue (s.causeways.map (s.dueNow .blockAll d1 d2))) := by
  have hfold := s.foldl_needFlash s.causeways .blockAll d1 d2 []
  rw [State.addDue_nil, List.nil_append] at hfold
  simp only [execRelayedFlashOrder, hred, hrun, hsb, hlock, hvalid, and_self, decide_true, Bool.not_true, Bool.false_eq_true, if_false,
    if_true, reduceCtorEq, hfold]
  split <;> rfl

/-! ### The statement -/

/-- Settles O30: an order that leaves, one that is dropped, and what a block-all of every lane leaves. -/
theorem balgalSendsOrders : Obligations.BalgalSendsOrders := by
  refine ⟨fun n o s hn hdue hlane hkind hsent => ?_, fun n o s hn hdue hlane hkind hsent hsecond => ?_, fun s hact => ?_,
    fun p v s hheld hrun hact hset hkey => ?_, fun p v s hheld hset hbad hfresh => ?_,
    fun r d1 d2 s hred hrun hsb hlock hvalid => ?_, fun c s hact hrun hu hpow hsec => ?_⟩
  · have hlane' : o.lane ≠ relayLane := hlane ▸ hn
    refine ⟨s.sendOrder o, ?_, ?_⟩
    · show execFlashOrderSend n s = _
      rw [execFlashOrderSend_of_only hn hdue hlane hsent, if_neg (by simp [hkind])]
    · rw [State.sendOrder_wake hkind hlane']
      subst hlane
      exact ⟨by simp [hdue], rfl, by simp, rfl, rfl⟩
  · refine ⟨({ s with flash := { s.flash with due := [] } } : State).inc (CW_FLASH_DEFER (s.cwOfLane n)), ?_, rfl, rfl,
      State.rd_inc_same _ _ (by simp [CW_FLASH_DEFER]), State.wr_keepsBut _ _ _⟩
    show execFlashOrderSend n s = _
    rw [execFlashOrderSend_of_only hn hdue hlane hsent, if_pos ⟨hkind, hsecond⟩]
  · exact ⟨s.blockAll 1, rfl, State.blockAll_spec hact 1⟩
  · obtain ⟨hev, hoff, -, hdue, hcells, -⟩ := State.blockAll_spec hact 4
    refine ⟨s.blockAll 4, ?_, hev, hoff, hdue, hcells⟩
    show execTopBlockall p v s = _
    rw [execTopBlockall, if_neg (by simp [hheld]), State.writeBlockall, if_neg (by omega), if_pos ⟨hkey, hrun, .inl hact⟩]
  · refine ⟨s.range p A_TOP_BLOCKALL, ?_, s.raise_frame _ _, State.raisedAs_raise hfresh rfl rfl _ _⟩
    show execTopBlockall p v s = _
    rw [execTopBlockall, if_neg (by simp [hheld]), State.writeBlockall, if_neg (by omega),
      if_neg (fun h => hbad.elim (fun hk => hk h.1) (fun hr => by simp [hr] at h))]
  · refine ⟨_, execRelayedFlashOrder_blockAll hred hrun hsb hlock hvalid, fun c hc => ?_, rfl⟩
    exact List.mem_append_right _ (List.mem_map.mpr ⟨c, State.mem_causeways.mpr hc, rfl⟩)
  · refine ⟨s.setSafe { s.safe with partner := true, partnerNew := true }, ?_, rfl⟩
    show execPartnerBlockAll c s = _
    rw [execPartnerBlockAll, if_pos ⟨.inl hact, hrun, hu, hpow, by simp [hsec]⟩]

end Sys2Proof.Machine
end

section
/-! What the discipline of time, the scheduler and the recorder leave alone when a strait frame brings a time sample or a message: the
cells, the network's state, TOP_STAT, which lies below their registers, and the straits' registers, which lie above (R178, R186, R189,
R197, R320, R331, R432, R612). -/

namespace Sys2Proof.Machine
open Sys2Proof

/-! ### The view -/

/-- A word between TOP_STAT and the straits' registers. -/
abbrev InnerWord (a : Nat) : Prop := A_TOP_STAT < a ∧ a < A_NET_ST_STAT 0

/-- The cells, the network's state, and the words that are not between TOP_STAT and the straits' registers. -/
def State.straitView (s : State) : List (Nat × Skerry) × Net × (Nat → Word) :=
  (s.cells, s.net, fun a => if InnerWord a then 0 else s.rdW a)

theorem State.cells_of_straitView {s t : State} (h : t.straitView = s.straitView) : t.cells = s.cells := congrArg (fun x => x.1) h

theorem State.net_of_straitView {s t : State} (h : t.straitView = s.straitView) : t.net = s.net := congrArg (fun x => x.2.1) h

theorem State.rd_of_straitView {s t : State} (h : t.straitView = s.straitView) {f : Fld} (hf : ¬ InnerWord f.addr) :
    t.rd f = s.rd f :=
  State.rd_congr (by simpa only [State.straitView, if_neg hf] using congrFun (congrArg (fun x => x.2.2) h) f.addr)

@[simp] theorem State.straitView_wr (s : State) {f : Fld} (v : Nat) (h : InnerWord f.addr) :
    (s.wr f v).straitView = s.straitView := by
  have hword : ∀ a, ¬ InnerWord a → (s.wr f v).rdW a = s.rdW a := fun a ha => State.rdW_wr_ne s f v (fun he => ha (he ▸ h))
  simp only [State.straitView, State.wr_cells, State.wr_net, Prod.mk.injEq, true_and]
  funext a
  split
  next => rfl
  next ha => exact hword a ha

@[simp] theorem State.straitView_cnt (s : State) {f : Fld} (n : Nat) (h : InnerWord f.addr) :
    (s.cnt f n).straitView = s.straitView := s.straitView_wr _ h

@[simp] theorem State.straitView_inc (s : State) {f : Fld} (h : InnerWord f.addr) :
    (s.inc f).straitView = s.straitView := s.straitView_wr _ h

@[simp] theorem State.straitView_incW (s : State) {f : Fld} (h : InnerWord f.addr) :
    (s.incW f).straitView = s.straitView := s.straitView_wr _ h

@[simp] theorem State.straitView_wrS (s : State) {f : Fld} (v : Int) (h : InnerWord f.addr) :
    (s.wrS f v).straitView = s.straitView := s.straitView_wr _ h

@[simp] theorem State.straitView_raise (s : State) (id info : Nat) : (s.raise id info).straitView = s.straitView := by
  simp [State.straitView]

@[simp] theorem State.straitView_setClk (s : State) (c : Clk) : (s.setClk c).straitView = s.straitView := rfl
@[simp] theorem State.straitView_setTim (s : State) (t : TimeSt) : (s.setTim t).straitView = s.straitView := rfl
@[simp] theorem State.straitView_setTrig (s : State) (k : Nat) (t : Trig) : (s.setTrig k t).straitView = s.straitView := rfl
@[simp] theorem State.straitView_setConv (s : State) (c : Conv) : (s.setConv c).straitView = s.straitView := rfl
@[simp] theorem State.straitView_setRecd (s : State) (r : Recd) : (s.setRecd r).straitView = s.straitView := rfl
@[simp] theorem State.straitView_setEng (s : State) (e : Nat) (g : Eng) : (s.setEng e g).straitView = s.straitView := rfl
@[simp] theorem State.straitView_setTap (s : State) (u : Nat) (t : Tap) : (s.setTap u t).straitView = s.straitView := rfl

/-- A fold keeps what each of its steps keeps. -/
theorem State.straitView_foldl {α : Type} {f : State → α → State} :
    ∀ (xs : List α) (s : State), (∀ t, ∀ x ∈ xs, (f t x).straitView = t.straitView) → (xs.foldl f s).straitView = s.straitView
  | [], _, _ => rfl
  | x :: xs, s, h => (State.straitView_foldl xs (f s x) (fun t y hy => h t y (List.mem_cons_of_mem _ hy))).trans
      (h s x List.mem_cons_self)

/-! ### The scheduler -/

theorem State.straitView_qUpdate (s : State) : s.qUpdate.straitView = s.straitView := by
  refine State.straitView_foldl _ _ (fun t p hp => ?_)
  have hp := List.mem_range.mp hp
  have hq : InnerWord (SCHED_QDEPTH p).addr := by simp only [SCHED_QDEPTH, A_SCHED_QDEPTH, A_NET_ST_STAT, A_TOP_STAT, InnerWord]; omega
  have hm : InnerWord (SCHED_ST_QMAX p).addr := by simp only [SCHED_ST_QMAX, A_SCHED_ST_QMAX, A_NET_ST_STAT, A_TOP_STAT, InnerWord]; omega
  simp only [apply_ite State.straitView, State.straitView_wr _ _ hq, State.straitView_wr _ _ hm, ite_self]

theorem State.straitView_tally (s : State) (t st : Nat) (up : Bool) : (s.tally t st up).straitView = s.straitView := by
  have hflow : ∀ (u : State) (f v : Nat), (if f < 64 then u.wr (SCHED_FLOW_HELD f) v else u).straitView = u.straitView := by
    intro u f v
    split
    next h => exact u.straitView_wr v (by simp only [SCHED_FLOW_HELD, A_SCHED_FLOW, A_NET_ST_STAT, A_TOP_STAT, InnerWord]; omega)
    next => rfl
  simp only [State.tally]
  by_cases hready : st = ST_READY
  · rw [if_pos hready]
    exact s.straitView_wr (f := SCHED_STAT_READY) _ (by decide)
  · rw [if_neg hready]
    by_cases hheld : st = ST_HELD
    · rw [if_pos hheld]
      exact (hflow _ _ _).trans (s.straitView_wr (f := SCHED_STAT_HELD) _ (by decide))
    · rw [if_neg hheld]
      by_cases hrunning : st = ST_RUNNING
      · rw [if_pos hrunning]
        exact s.straitView_wr (f := SCHED_STAT_RUNNING) _ (by decide)
      · rw [if_neg hrunning]

section Task
variable {t : Nat} (ht : t < 256)
include ht

theorem A_SCHED_TASK_STAT_lt_strait : InnerWord (A_SCHED_TASK_STAT t) := by
  simp only [A_SCHED_TASK_STAT, A_NET_ST_STAT, A_TOP_STAT, InnerWord]; omega

theorem State.straitView_taskTo (s : State) (st : Nat) : (s.taskTo t st).straitView = s.straitView := by
  rw [State.taskTo, State.straitView_tally, State.straitView_wr _ _ (A_SCHED_TASK_STAT_lt_strait ht), State.straitView_tally]

theorem State.straitView_becomeReady (s : State) (stamp : Nat) : (s.becomeReady t stamp).straitView = s.straitView := by
  have htrace : ∀ (u : State) (k e f w : Nat), (u.trace k e t f w).straitView = u.straitView := fun u k e f w => by
    unfold State.trace
    split
    · split
      · rfl
      · exact u.straitView_inc (by decide)
    · rfl
  simp only [State.becomeReady]
  split
  · exact (htrace ..).trans (State.straitView_taskTo ht _ _)
  · exact (State.straitView_wr _ _ (A_SCHED_TASK_STAT_lt_strait ht)).trans (State.straitView_taskTo ht _ _)

end Task

/-- A fold that keeps its choice or takes the element at hand chooses one of the list. -/
theorem foldl_choice_mem {α : Type} {g : Option α → α → Option α} (hg : ∀ o x u, g o x = some u → o = some u ∨ x = u) :
    ∀ (xs : List α) (o : Option α) {u : α}, xs.foldl g o = some u → o = some u ∨ u ∈ xs
  | [], _, _, h => .inl h
  | x :: xs, o, u, h => (foldl_choice_mem hg xs (g o x) h).elim
      (fun h => (hg o x u h).imp id (fun (hu : x = u) => hu ▸ List.mem_cons_self)) (fun h => .inr (List.mem_cons_of_mem _ h))

/-- The HELD task that a flow passes to is one of the 256. -/
theorem State.heldOf_lt {s : State} {f t : Nat} (h : s.heldOf f = some t) : t < 256 := by
  refine List.mem_range.mp ((foldl_choice_mem (fun o x u hu => ?_) _ none h).resolve_left (by simp))
  split at hu
  · cases o with
    | none => exact .inr (Option.some.inj hu)
    | some v =>
      dsimp only at hu
      split at hu
      · exact .inr (Option.some.inj hu)
      · exact .inl hu
  · exact .inl hu

theorem State.straitView_passFlow (s : State) (f : Nat) : (s.passFlow f).straitView = s.straitView := by
  unfold State.passFlow
  split
  · split
    next t ht =>
      exact (State.straitView_wr _ _ (A_SCHED_TASK_STAT_lt_strait (State.heldOf_lt ht))).trans
        (State.straitView_taskTo (State.heldOf_lt ht) _ _)
    next => rfl
  · rfl

section Task
variable {t : Nat} (ht : t < 256)
include ht

theorem State.straitView_leaveReady (s : State) (st : Nat) : (s.leaveReady t st).straitView = s.straitView := by
  simp only [State.leaveReady]
  split
  · exact (State.straitView_passFlow ..).trans (State.straitView_taskTo ht _ _)
  · exact State.straitView_taskTo ht _ _

theorem State.straitView_judgeTask (s : State) : (s.judgeTask t).straitView = s.straitView := by
  simp only [State.judgeTask, apply_ite State.straitView, apply_ite State.qUpdate, State.straitView_qUpdate,
    State.straitView_leaveReady ht, State.straitView_becomeReady ht, ite_self]

theorem State.straitView_setFlags (s : State) (mask : Nat) : (s.setFlags t mask).straitView = s.straitView := by
  simp only [State.setFlags]
  have hflags : InnerWord (SCHED_FLAGS t).addr := by simp only [SCHED_FLAGS, A_SCHED_FLAGS, A_NET_ST_STAT, A_TOP_STAT, InnerWord]; omega
  rw [State.straitView_judgeTask ht, State.straitView_wr _ _ hflags]
  split
  · exact (State.straitView_cnt _ _ (by decide)).trans (s.straitView_wr _ (A_SCHED_TASK_STAT_lt_strait ht))
  · rfl

end Task

/-- The routes name tasks by eight bits. -/
theorem State.straitView_fireRoute (s : State) (src : Nat) : (s.fireRoute src).straitView = s.straitView := by
  unfold State.fireRoute
  split
  · rfl
  · refine State.straitView_foldl _ _ (fun u t ht => State.straitView_setFlags ?_ u _)
    obtain ⟨k, -, hk⟩ := List.mem_filterMap.mp (List.mem_dedup.mp ht)
    split at hk
    · exact Option.some.inj hk ▸ s.rd_lt (SCHED_ROUTE_TASK k)
    · cases hk

/-! ### Converters, taps and the recorder -/

theorem State.straitView_convTrigger (s : State) {n : Nat} (hn : n < 24) : (s.convTrigger n).straitView = s.straitView := by
  have hstat : InnerWord (A_CONV_STAT n) := by simp only [A_CONV_STAT, A_NET_ST_STAT, A_TOP_STAT, InnerWord]; omega
  have hcfg : InnerWord (A_CONV_CFG n) := by simp only [A_CONV_CFG, A_NET_ST_STAT, A_TOP_STAT, InnerWord]; omega
  have hlost : InnerWord (A_CONV_TRIG_LOST n) := by simp only [A_CONV_TRIG_LOST, A_NET_ST_STAT, A_TOP_STAT, InnerWord]; omega
  have hshow : ∀ u : State, (u.convShow n).straitView = u.straitView := fun u => by
    simp only [State.convShow]
    rw [State.straitView_wr _ _ hcfg, State.straitView_wr _ _ hstat, State.straitView_wr _ _ hstat, State.straitView_wr _ _ hstat]
  simp only [State.convTrigger, hshow]
  split
  · exact State.straitView_inc _ hlost
  · rfl

theorem State.straitView_tapTrig (s : State) {u : Nat} (hu : u < 16) : (s.tapTrig u).straitView = s.straitView := by
  have hstat : InnerWord (A_LOOP_TAP_STAT u) := by simp only [A_LOOP_TAP_STAT, A_NET_ST_STAT, A_TOP_STAT, InnerWord]; omega
  have hpre : InnerWord (A_LOOP_TAP_PRE u) := by simp only [A_LOOP_TAP_PRE, A_NET_ST_STAT, A_TOP_STAT, InnerWord]; omega
  simp only [State.tapTrig]
  split
  · exact State.straitView_inc _ hstat
  · split
    · rfl
    · rw [State.straitView_setTap, State.straitView_wr _ _ hpre, State.straitView_wr _ _ hstat, State.straitView_wr _ _ hstat]

theorem State.straitView_tapsBy (s : State) (bit : Nat) (p : Nat → Bool) : (s.tapsBy bit p).straitView = s.straitView := by
  refine State.straitView_foldl _ _ (fun t u hu => ?_)
  split
  · exact t.straitView_tapTrig (List.mem_range.mp hu)
  · rfl

theorem State.straitView_recEnd (s : State) (short : Bool) : (s.recEnd short).straitView = s.straitView := by
  have hseg : InnerWord (ACQ_SEG_FULL (s.rd ACQ_REC_STAT_SEG / 32)).addr := by
    have := s.rd_lt ACQ_REC_STAT_SEG
    simp only [ACQ_REC_STAT_SEG] at this
    simp only [ACQ_SEG_FULL, A_ACQ_SEG_FULL, A_NET_ST_STAT, A_TOP_STAT, InnerWord, ACQ_REC_STAT_SEG]
    omega
  simp only [State.recEnd]
  rw [State.straitView_setRecd, State.straitView_wr _ _ (by decide), State.straitView_incW _ (by decide), State.straitView_fireRoute,
    State.straitView_wr _ _ (by decide), State.straitView_wr _ _ hseg, State.straitView_setRecd]

theorem State.straitView_recTrigger (s : State) (fires how : Nat) : (s.recTrigger fires how).straitView = s.straitView := by
  have hpost : ∀ q : Recd, (((s.setRecd q).wr ACQ_REC_STAT_STATE RS_POST).tapsBy 0 (fun _ => true)).straitView = s.straitView :=
    fun q => (State.straitView_tapsBy _ _ _).trans ((State.straitView_wr _ _ (by decide)).trans (s.straitView_setRecd q))
  simp only [State.recTrigger]
  split
  · exact s.straitView_inc (by decide)
  · split
    · split <;> rfl
    · split
      · exact (State.straitView_recEnd _ _).trans (hpost _)
      · exact hpost _

section Engine
variable {e : Nat} (he : e < 8)
include he

theorem State.straitView_setEngT (s : State) (u : Nat) : (s.setEngT e u).straitView = s.straitView := by
  have ht : ∀ j < 4, InnerWord (ACQ_ENG_T e j).addr := fun j hj => by
    simp only [ACQ_ENG_T, A_ACQ_ENG_T, A_NET_ST_STAT, A_TOP_STAT, InnerWord]; omega
  simp only [State.setEngT]
  rw [State.straitView_wr _ _ (ht 3 (by omega)), State.straitView_wr _ _ (ht 2 (by omega)), State.straitView_wr _ _ (ht 1 (by omega)),
    State.straitView_wr _ _ (ht 0 (by omega))]

theorem State.straitView_engEvent (s : State) : (s.engEvent e).1.straitView = s.straitView := by
  have hstat : InnerWord (A_ACQ_ENG_STAT e) := by simp only [A_ACQ_ENG_STAT, A_NET_ST_STAT, A_TOP_STAT, InnerWord]; omega
  have hheld : InnerWord (A_ACQ_ENG_HELD_CNT e) := by simp only [A_ACQ_ENG_HELD_CNT, A_NET_ST_STAT, A_TOP_STAT, InnerWord]; omega
  have hfire : InnerWord (A_ACQ_ENG_FIRE_CNT e) := by simp only [A_ACQ_ENG_FIRE_CNT, A_NET_ST_STAT, A_TOP_STAT, InnerWord]; omega
  have hcount := s.straitView_inc (f := ACQ_ENG_HELD_CNT e) hheld
  have hfired := (State.straitView_wr (s.inc (ACQ_ENG_FIRE_CNT e)) (f := ACQ_ENG_STAT_FIRED_EV e) 1 hstat).trans (s.straitView_inc hfire)
  have hholding := fun (u : State) (v : Nat) => u.straitView_wr (f := ACQ_ENG_STAT_HOLDING e) v hstat
  simp only [State.engEvent]
  split
  · split
    · split
      · exact (hholding _ _).trans ((State.straitView_setEng _ _ _).trans hcount)
      · exact (State.straitView_setEng _ _ _).trans hcount
    · exact hcount
  · split
    · rfl
    · split
      · exact (State.straitView_setEng _ _ _).trans ((hholding _ _).trans hfired)
      · exact hfired

end Engine

/-- A fold of a state and a word keeps what each of its steps keeps. -/
theorem State.straitView_foldl_fst {α : Type} {f : State × Nat → α → State × Nat} (xs : List α) (acc : State × Nat)
    (h : ∀ acc, ∀ x ∈ xs, (f acc x).1.straitView = acc.1.straitView) : (xs.foldl f acc).1.straitView = acc.1.straitView := by
  induction xs generalizing acc with
  | nil => rfl
  | cons x xs ih =>
    rw [List.foldl_cons, ih _ (fun t y hy => h t y (List.mem_cons_of_mem _ hy)), h acc x List.mem_cons_self]

theorem State.straitView_engEvents (s : State) {es : List Nat} (hes : ∀ e ∈ es, e < 8) :
    (s.engEvents es).straitView = s.straitView := by
  have hfold := State.straitView_foldl_fst (f := fun (acc : State × Nat) e =>
    ((acc.1.engEvent e).1, if (acc.1.engEvent e).2 && (acc.1.engEvent e).1.on (ACQ_ENG_CFG_CAPTURE e) then acc.2 ||| 2 ^ e else acc.2))
    es (s, 0) (fun acc e he => State.straitView_engEvent (hes e he) acc.1)
  simp only [State.engEvents, apply_ite State.straitView, State.straitView_recTrigger, hfold, ite_self]

theorem State.straitView_recTime (s : State) : s.recTime.straitView = s.straitView := by
  unfold State.recTime State.engsOf
  split
  · rfl
  · have hes : ∀ e ∈ (List.range 8).filter (fun e => decide (s.rd (ACQ_ENG_CFG_TYPE e) = 6) && true), e < 8 := fun e he =>
      List.mem_range.mp (List.mem_of_mem_filter he)
    refine (State.straitView_engEvents _ hes).trans (State.straitView_foldl _ _ (fun t e he => ?_))
    exact (State.straitView_setEngT (hes e he) _ _).trans
      (t.straitView_wr _ (by have := hes e he; simp only [ACQ_ENG_STAT_EVENT, A_ACQ_ENG_STAT, A_NET_ST_STAT, A_TOP_STAT, InnerWord]; omega))

/-! ### Converter time -/

theorem State.straitView_trigDest (s : State) (k : Nat) : (s.trigDest k).straitView = s.straitView := by
  have hconv : ∀ u : State, ((List.range 24).foldl (fun s n => s.convTrigger n) u).straitView = u.straitView := fun u =>
    State.straitView_foldl _ _ (fun t n hn => t.straitView_convTrigger (List.mem_range.mp hn))
  have hflag : ∀ u : State, (u.setFlags (u.rd (TIME_TRIG_CTRL_TASK k)) (2 ^ u.rd (TIME_TRIG_CTRL_FLAG k))).straitView = u.straitView :=
    fun u => State.straitView_setFlags (u.rd_lt (TIME_TRIG_CTRL_TASK k)) u _
  simp only [State.trigDest, apply_ite State.straitView, State.straitView_setTim, hflag, hconv, State.straitView_recTime, ite_self]

theorem State.straitView_trigFire (s : State) {k : Nat} (hk : k < 16) : (s.trigFire k).straitView = s.straitView := by
  have hstat : InnerWord (A_TIME_TRIG_STAT k) := by simp only [A_TIME_TRIG_STAT, A_NET_ST_STAT, A_TOP_STAT, InnerWord]; omega
  have hlate := fun u : State => u.straitView_wr (f := TIME_TRIG_STAT_LATE k) 1 hstat
  have hmissed := fun u : State => u.straitView_cnt (f := TIME_TRIG_STAT_MISSED k) ((s.trig k).past s.ct - 1) hstat
  have harmed := fun u : State => u.straitView_wr (f := TIME_TRIG_STAT_ARMED k) 0 hstat
  have hdone := fun u : State => u.straitView_wr (f := TIME_TRIG_STAT_DONE k) 1 hstat
  simp only [State.trigFire, apply_ite State.straitView, State.straitView_trigDest, hdone, harmed, hmissed, hlate,
    State.straitView_setTrig, ite_self]

theorem State.straitView_stepRaw (s : State) (e : Int) : (s.stepRaw e).straitView = s.straitView := by
  rw [State.stepRaw, State.straitView_foldl _ _ (fun t k hk => t.straitView_trigFire (List.mem_range.mp hk)),
    State.straitView_wr _ _ (by decide), State.straitView_wr _ _ (by decide), State.straitView_setRecd, State.straitView_setConv,
    State.straitView_setClk]

theorem State.straitView_stepCt (s : State) (e : Int) : (s.stepCt e).straitView = s.straitView := by
  simp only [State.stepCt, apply_ite State.straitView, State.straitView_setTim, State.straitView_stepRaw, ite_self]

/-! ### The discipline of time -/

theorem State.straitView_timeTo (s : State) (st : Nat) : (s.timeTo st).straitView = s.straitView := s.straitView_wr st (by decide)

theorem State.straitView_slewStop (s : State) : s.slewStop.straitView = s.straitView := by
  rw [State.slewStop, State.straitView_wr _ _ (by decide), State.straitView_setClk]
  split
  · exact s.straitView_wrS _ (by decide)
  · rfl

theorem State.straitView_refuseTime (s : State) (e : Int) : (s.refuseTime e).straitView = s.straitView := by
  simp only [State.refuseTime, apply_ite State.straitView, State.straitView_raise, ite_self]
  rw [State.straitView_inc _ (by decide), State.straitView_wrS _ _ (by decide), State.straitView_wr _ _ (by decide),
    State.straitView_timeTo, State.straitView_slewStop]

theorem State.straitView_setRate (s : State) (r : Int) : (s.setRate r).straitView = s.straitView :=
  State.straitView_wrS _ _ (by decide)

theorem State.straitView_slewBy (s : State) (e : Int) (accepted : Bool) : (s.slewBy e accepted).straitView = s.straitView := by
  rw [State.slewBy, State.straitView_wrS _ _ (by decide), State.straitView_wr _ _ (by decide), State.straitView_setClk]

theorem State.straitView_selectSource (s : State) : s.selectSource.straitView = s.straitView := by
  have hset : ∀ i d : Nat, ((s.wr TIME_STAT_SRC i).wr TIME_STAT_DEPTH d).straitView = s.straitView := fun i d =>
    (State.straitView_wr _ _ (by decide)).trans (s.straitView_wr _ (by decide))
  unfold State.selectSource
  split
  · exact hset _ _
  · split
    · exact hset _ _
    · exact hset _ _

theorem State.straitView_holdover (s : State) : s.holdover.straitView = s.straitView := by
  simp only [State.holdover, apply_ite State.straitView, State.straitView_timeTo, State.straitView_slewStop, ite_self]

/-- TIME_SRC has four entries. -/
theorem State.srcIndex_lt {s : State} {code i : Nat} (h : s.srcIndex code = some i) : i < 4 := by
  have := List.mem_of_find?_eq_some h
  simp only [List.mem_cons, List.not_mem_nil, or_false] at this
  omega

theorem innerWord_A_TIME_SRC {i : Nat} (hi : i < 4) : InnerWord (A_TIME_SRC i) := by
  simp only [A_TIME_SRC, A_NET_ST_STAT, A_TOP_STAT, InnerWord]; omega

theorem State.straitView_codeInvalid (s : State) (code reason : Nat) : (s.codeInvalid code reason).straitView = s.straitView := by
  unfold State.codeInvalid
  split
  next i hi =>
    have hsrc := innerWord_A_TIME_SRC (State.srcIndex_lt hi)
    have hvalid := fun u : State => u.straitView_wr (f := TIME_SRC_VALID i) 0 hsrc
    have hreason := fun u : State => u.straitView_wr (f := TIME_SRC_REASON i) reason hsrc
    simp only [State.srcInvalid, apply_ite State.straitView, State.straitView_holdover, State.straitView_selectSource, hreason, hvalid,
      ite_self]
  next => rfl

theorem State.straitView_timeSample (s : State) (raw : Int) (g : Gain) : (s.timeSample raw g).straitView = s.straitView := by
  have herr := s.straitView_wrS (f := TIME_ERR) (to16thNs (raw - s.slewPart)) (by decide)
  unfold State.timeSample
  dsimp only
  split
  · split
    · exact (State.straitView_setClk _ _).trans ((State.straitView_timeTo _ _).trans ((State.straitView_stepCt _ _).trans herr))
    · exact (State.straitView_refuseTime _ _).trans herr
  · split
    · exact (State.straitView_refuseTime _ _).trans herr
    · have hslew : ∀ (r e : Int) (acc : Bool) (c : Clk), 
          ((((s.wrS TIME_ERR (to16thNs (raw - s.slewPart))).setRate r).slewBy e acc).setClk c).straitView = s.straitView := fun r e acc c =>
        (State.straitView_setClk _ _).trans ((State.straitView_slewBy _ _ _).trans ((State.straitView_setRate _ _).trans herr))
      rw [apply_ite State.straitView, State.straitView_timeTo, hslew, ite_self]

theorem State.straitView_srcSample (s : State) (code depth : Nat) (e : Int) (g : Gain) :
    (s.srcSample code depth e g).straitView = s.straitView := by
  unfold State.srcSample
  split
  next => rfl
  next i hi =>
    have hsrc := innerWord_A_TIME_SRC (State.srcIndex_lt hi)
    have hdepth := s.straitView_wr (f := TIME_SRC_DEPTH i) depth hsrc
    have hvalid := fun u : State => u.straitView_wr (f := TIME_SRC_VALID i) 1 hsrc
    have hreason := fun u : State => u.straitView_wr (f := TIME_SRC_REASON i) 0 hsrc
    simp only [apply_ite State.straitView, State.straitView_timeSample, State.straitView_selectSource, hreason, hvalid, hdepth, ite_self]

theorem State.straitView_straitTime (s : State) (i : Nat) (f : List Sym) (arr : Nat) :
    (s.straitTime i f arr).straitView = s.straitView := by
  simp only [State.straitTime]
  split
  · split
    · simp only [apply_ite State.straitView, State.straitView_raise, State.straitView_codeInvalid, ite_self]
    · rfl
  · split
    · exact s.straitView_codeInvalid _ _
    · split
      · exact s.straitView_srcSample _ _ _ _
      · rfl

end Sys2Proof.Machine
end

section
/-! The frames of the other chips: what a frame's symbols do to their lane, a mate frame and an arbiter frame, a pass of copy frames, and
a strait frame's message (R133, R507, R514, R515, R576, R610 to R612). -/

namespace Sys2Proof.Machine
open Sys2Proof

/-! ### Only these words -/

/-- `t` has the redundancy, the profile, the network, the cells, the memory and the output of `s`, and its words but for those of `p`. -/
structure State.WritesIn (p : Nat → Prop) (s t : State) : Prop where
  red : t.red = s.red
  prof : t.prof = s.prof
  net : t.net = s.net
  cells : t.cells = s.cells
  mem : t.mem = s.mem
  out : t.out = s.out
  word : ∀ a, ¬ p a → t.rdW a = s.rdW a

section WritesIn
variable {p : Nat → Prop} {s t u : State}

theorem State.WritesIn.refl (p : Nat → Prop) (s : State) : s.WritesIn p s := ⟨rfl, rfl, rfl, rfl, rfl, rfl, fun _ _ => rfl⟩

theorem State.WritesIn.trans (h : s.WritesIn p t) (k : t.WritesIn p u) : s.WritesIn p u :=
  ⟨k.red.trans h.red, k.prof.trans h.prof, k.net.trans h.net, k.cells.trans h.cells, k.mem.trans h.mem, k.out.trans h.out,
    fun a ha => (k.word a ha).trans (h.word a ha)⟩

theorem State.WritesIn.rd (h : s.WritesIn p t) {f : Fld} (hf : ¬ p f.addr) : t.rd f = s.rd f := State.rd_congr (h.word f.addr hf)

theorem State.WritesIn.mono (h : s.WritesIn p t) {q : Nat → Prop} (hq : ∀ a, p a → q a) : s.WritesIn q t :=
  ⟨h.red, h.prof, h.net, h.cells, h.mem, h.out, fun a ha => h.word a (fun hp => ha (hq a hp))⟩

theorem State.WritesIn.wrW (h : s.WritesIn p t) {a : Nat} (v : Word) (ha : p a) : s.WritesIn p (t.wrW a v) :=
  h.trans ⟨rfl, rfl, rfl, rfl, rfl, rfl, fun _ hb => t.rdW_wrW_ne v (fun he => hb (he ▸ ha))⟩

theorem State.WritesIn.wr (h : s.WritesIn p t) {f : Fld} (v : Nat) (hf : p f.addr) : s.WritesIn p (t.wr f v) := h.wrW _ hf

theorem State.WritesIn.raise (h : s.WritesIn p t) (id info : Nat) : s.WritesIn p (t.raise id info) :=
  h.trans ⟨t.raise_red id info, t.raise_prof id info, t.raise_net id info, t.raise_cells id info, t.raise_mem id info,
    t.raise_out id info, fun a _ => t.raise_rdW id info a⟩

theorem State.WritesIn.ite {c : Prop} [Decidable c] (h : s.WritesIn p t) (k : s.WritesIn p u) :
    s.WritesIn p (if c then t else u) := by
  split
  · exact h
  · exact k

end WritesIn

theorem State.WritesIn.foldl {p : Nat → Prop} {α : Type} {f : State → α → State} (hf : ∀ (t : State) x, t.WritesIn p (f t x)) :
    ∀ (xs : List α) (s : State), s.WritesIn p (xs.foldl f s)
  | [], s => .refl p s
  | x :: xs, s => (hf s x).trans (State.WritesIn.foldl hf xs (f s x))

/-! ### A lane -/

/-- A word of the LANE blocks. -/
abbrev LaneWord (a : Nat) : Prop := A_LANE_CTRL ≤ a ∧ a < 0x40040000

/-- A lane that stays in LOCKED has counted what it received. -/
theorem State.laneTake_writesIn (s : State) {n : Nat} (hn : n < 112) (ss : List Sym) (hok : (s.laneTake n ss).2 = true) :
    s.WritesIn LaneWord (s.laneTake n ss).1 := by
  have hsym : LaneWord (LANE_SYM_ERR n).addr := by simp only [LANE_SYM_ERR, A_LANE_SYM_ERR, LaneWord, A_LANE_CTRL]; omega
  have hprop : LaneWord (LANE_PROP_ERR n).addr := by simp only [LANE_PROP_ERR, A_LANE_PROP_ERR, LaneWord, A_LANE_CTRL]; omega
  have hscore : LaneWord (LANE_STAT_SCORE n).addr := by simp only [LANE_STAT_SCORE, A_LANE_STAT, LaneWord, A_LANE_CTRL]; omega
  have hrx : ∀ (t : State) (r : LaneRx), t.WritesIn LaneWord (t.setLaneRx n r) := fun t r =>
    ⟨rfl, rfl, rfl, rfl, rfl, rfl, fun _ _ => rfl⟩
  simp only [State.laneTake] at hok ⊢
  split at hok
  · cases hok
  · next hlocked =>
    rw [if_neg hlocked]
    split at hok
    · cases hok
    · next htop =>
      rw [if_neg htop]
      exact ((((State.WritesIn.refl _ s).wr _ hsym).wr _ hprop).trans (hrx _ _)).wr _ hscore

/-! ### The frames of the pair and of the arbiter -/

theorem State.fitFollow_writesIn (s : State) : s.WritesIn (fun a => a = A_RED_UNFIT ∨ a = A_RED_STAT) s.fitFollow := by
  have hshown := ((State.WritesIn.refl (fun a => a = A_RED_UNFIT ∨ a = A_RED_STAT) s).wrW (BitVec.ofNat 32 s.unfit) (.inl rfl))
  simp only [State.fitFollow]
  exact .ite (.refl _ s) (.ite ((hshown.wr (f := RED_STAT_FIT) _ (.inr rfl)).raise _ _) (hshown.wr (f := RED_STAT_FIT) _ (.inr rfl)))

/-- A partner that is not active and sends no order moves its health and its digest, and what the own chart and fitness show. -/
theorem State.mateFrame_of_not_active (s : State) (f : List Sym) (same : Bool) (hgot : s.red.mateGot = false)
    (hrole : hRole (fld f 30 4) ≠ 1) (horder : fld f 62 1 = 0) :
    (((s.setRed { s.red with mateGot := true, mateLost := false }).wr RED_HEALTH_MATE (fld f 30 4)).wr CHART_MATE_DIGEST
      (fld f 34 4)).WritesIn (fun a => a = A_CHART_STATUS ∨ a = A_RED_UNFIT ∨ a = A_RED_STAT) (s.mateFrame f same) := by
  have hnone : ¬ (fld f 62 1 = 1 ∨ fld f 62 1 = 2) := by omega
  simp only [State.mateFrame, State.shadow, hgot, hrole, hnone, false_and, and_false, Bool.false_eq_true, decide_false,
    Bool.not_false, true_or, if_true, if_false]
  refine .trans ?_ ((State.fitFollow_writesIn _).mono (fun a ha => .inr ha))
  have hshown : ∀ u : State, ∀ d e, u.WritesIn (fun a => a = A_CHART_STATUS ∨ a = A_RED_UNFIT ∨ a = A_RED_STAT)
      ((u.wr CHART_STATUS_HOT_DIFFERS d).wr RED_UNFIT_CHART e) := fun u d e =>
    ((State.WritesIn.refl _ u).wr (f := CHART_STATUS_HOT_DIFFERS) d (.inl rfl)).wr (f := RED_UNFIT_CHART) e (.inr (.inl rfl))
  exact .ite ((hshown _ _ _).raise _ _) (hshown _ _ _)

/-- An arbiter frame without an order, the first in its ferry cycle after a run of them, moves the arbiter's health. -/
theorem State.arbFrame_of_run (s : State) (f : List Sym) (hgot : s.red.arbGot = false) (hrun : s.rd RED_STAT_ALIVE1_RUN = 1)
    (horder : fld f 62 1 = 0) : s.arbFrame f =
      ((s.setRed { s.red with arbGot := true, arbLost := false }).wr RED_HEALTH_ARB (fld f 30 4)).wr RED_STAT_ARB_LOST 0 := by
  have hnone : ¬ (fld f 62 1 = 1 ∨ fld f 62 1 = 2) := by omega
  have hon : (State.wr (s.setRed { s.red with arbGot := true }) RED_HEALTH_ARB (fld f 30 4)).on RED_STAT_ALIVE1_RUN = true := by
    rw [State.on, State.rd_wr_apart _ _ _ _ (by decide), State.setRed_rd, hrun]
    rfl
  simp only [State.arbFrame, hgot, hon, if_true, if_neg hnone, Bool.false_eq_true, if_false]
  rfl

/-- A valid frame of a lane in LOCKED reaches its partner's or its arbiter's part. -/
theorem execPartnerFrame_of_valid {n : Nat} {ss : List Sym} (back : Nat) (halted same : Bool) {s : State} (hredun : s.redundant = true)
    (hlanes : s.lanesApplied = true) (hlo : 96 ≤ n) (hhi : n < 104) (hmode : s.rd (LANE_CFG_MODE n) ≠ 0)
    (hlocked : s.laneLocked n = true) (hok : (s.laneTake n ss).2 = true) (hvalid : s.frameValid n ss = true) :
    ∃ (u : State) (arr : Nat), s.WritesIn LaneWord u ∧ execPartnerFrame n ss back halted same s =
      if n < 100 then .next ((u.mateFrame ss same).partnerTime n [96, 97, 98, 99] ss arr)
      else if u.isArbiter then
        .next ((u.atArbiter (decide (n ≥ 102)) halted ss).partnerTime n (if n < 102 then [100, 101] else [102, 103]) ss arr)
      else .next (u.arbFrame ss) := by
  have htaken := s.laneTake_writesIn (by omega) ss hok
  have hheard : ((s.laneTake n ss).1.frameValid n ss) = true := by
    rw [State.frameValid, htaken.rd (f := TOP_STAT_CONVERTER) (by decide)]
    exact hvalid
  refine ⟨(s.laneTake n ss).1.noteHeard n (frSeq ss) (((s.laneTake n ss).1.ct : Int) - sixteenths back).toNat,
    (((s.laneTake n ss).1.ct : Int) - sixteenths back).toNat, htaken.trans ⟨rfl, rfl, rfl, rfl, rfl, rfl, fun _ _ => rfl⟩, ?_⟩
  rw [execPartnerFrame, if_neg (by simp [hredun, hlanes, hlo, hhi, hmode, hlocked])]
  simp only [hok, hheard, Bool.and_self, Bool.not_true, Bool.false_eq_true, if_false]

/-- A mate frame of a partner that is not active brings no time. -/
theorem State.partnerTime_of_not_active (s : State) (n : Nat) (ls : List Nat) {f : List Sym} (arr : Nat)
    (hrole : hRole (fld f 30 4) ≠ 1) : s.partnerTime n ls f arr = s := by
  rw [State.partnerTime, if_pos (.inr (.inl hrole))]

/-! ### The copy -/

theorem State.setRec_writesIn (p : Nat → Prop) (s : State) (g : Nat) (r : Rec) : s.WritesIn p (s.setRec g r) :=
  ⟨rfl, rfl, rfl, rfl, rfl, rfl, fun _ _ => rfl⟩

theorem State.setArm_writesIn (p : Nat → Prop) (s : State) (a : Nat) (q : ArmSt) : s.WritesIn p (s.setArm a q) :=
  ⟨rfl, rfl, rfl, rfl, rfl, rfl, fun _ _ => rfl⟩

/-- A record of the copy moves the records, the arms and registers, and nothing else. -/
theorem State.takeCopy_writesIn (s : State) (x : CopyRec) : s.WritesIn (fun _ => True) (s.takeCopy x) := by
  have hs := State.WritesIn.refl (fun _ => True) s
  unfold State.takeCopy
  split
  · exact ((hs.wrW _ trivial).wrW _ trivial).trans (State.setRec_writesIn _ _ _ _)
  · have hheld : ∀ (t : State) (g : Nat), t.WritesIn (fun _ => True)
        (if (t.crec g).hold = 0 then t.setRec g { t.crec g with hold := t.ct + cycU } else t) := fun t g =>
      .ite (State.setRec_writesIn _ _ _ _) (.refl _ t)
    exact ((hs.wr _ trivial).trans (State.setArm_writesIn _ _ _ _)).trans (.foldl hheld _ _)

/-! ### Relays and the plan -/

/-- A relay frame without a COLLECT adds its berths to what a standby is to relay. -/
theorem execRelayFrame_of_berths {n : Nat} {ss : List Sym} {s : State} (hredun : s.redundant = true) (hrun : s.inRun = true)
    (hstand : s.isStandby = true) (hn : n = 97 ∨ n = 98) (hlocked : s.laneLocked n = true) (hok : (s.laneTake n ss).2 = true)
    (hrecs : fld ss 26 1 ≤ 80) (hlen : ss.length = 33 + 12 * fld ss 26 1) (hframe : frameOk ss ss.length = true)
    (hkind : fld ss 1 1 / 16 = 4) (hconv : fld ss 2 1 = s.rd TOP_STAT_CONVERTER)
    (hcrc : crc32 (ferryBytes ss 1 (ss.length - 6)) = fld ss (ss.length - 5) 4) :
    ∃ u : State, s.WritesIn LaneWord u ∧ execRelayFrame n ss s = .next (u.setRed { u.red with
      relay := ⟨fld ss 20 1, fld ss 21 1, fld ss 22 4, u.red.relay.halves ++
        (List.range (fld ss 26 1)).map (fun j => (fld ss (28 + 12 * j) 2, halfOf (ferryBytes ss (30 + 12 * j) 8))),
        u.red.relay.collects⟩ }) := by
  have htaken := s.laneTake_writesIn (by omega) ss hok
  have hconv := hconv.trans (htaken.rd (f := TOP_STAT_CONVERTER) (by decide)).symm
  have hshort : ¬ ss.length = 101 + 12 * fld ss 26 1 := by omega
  refine ⟨(s.laneTake n ss).1, htaken, ?_⟩
  rw [execRelayFrame, if_neg (by simp [hredun, hrun, hstand, hn, hlocked])]
  simp only [hok, hrecs, decide_eq_true hlen, hframe, hkind, hconv, hcrc, if_neg hshort, List.append_nil, decide_true, Bool.true_or,
    Bool.and_self, Bool.not_true, Bool.false_eq_true, if_false]

/-- A standby at rest takes the generator's state from a profile frame. -/
theorem State.takeProfFrame_of_idle (s : State) (f : ProfFrame) (hidle : f.state = PS_IDLE) :
    (s.takeProfFrame f).rd PROF_STAT_STATE = PS_IDLE ∧ (s.takeProfFrame f).rd PROF_ANGLE = f.theta % 2 ^ PROF_ANGLE.w ∧
      (s.takeProfFrame f).rd PROF_V = f.lims.getD 0 0 % 2 ^ PROF_V.w ∧ (s.takeProfFrame f).prof.segs = [] ∧
      (s.takeProfFrame f).prof.pE = F64.ofBits f.p ∧ (s.takeProfFrame f).cells = s.cells ∧ (s.takeProfFrame f).mem = s.mem := by
  have hstop : ¬ f.state = PS_STOP := by rw [hidle]; decide
  rw [State.takeProfFrame, if_neg hstop, if_pos hidle]
  refine ⟨?_, ?_, ?_, rfl, rfl, rfl, rfl⟩
  · rw [State.setProf_rd]
    repeat rw [State.rd_wr_apart _ _ _ _ (by decide)]
    rw [State.rd_wr_same _ _ _ (by decide), hidle]
    rfl
  · rw [State.setProf_rd]
    repeat rw [State.rd_wr_apart _ _ _ _ (by decide)]
    exact State.rd_wr_same _ _ _ (by decide)
  · rw [State.setProf_rd]
    repeat rw [State.rd_wr_apart _ _ _ _ (by decide)]
    exact State.rd_wr_same _ _ _ (by decide)

/-! ### Straits -/

/-- An acknowledgement ends the message that the lane carries. -/
theorem State.straitAck_writesIn (s : State) (i : Nat) (f : List Sym) :
    s.WritesIn (fun a => a = A_NET_ST_TXCTRL i) (s.straitAck i f) := by
  unfold State.straitAck
  have hfree := (State.WritesIn.refl (fun a => a = A_NET_ST_TXCTRL i) s).wr (f := NET_ST_TXCTRL_TX_BUSY i) 0 rfl
  exact .ite (hfree.wr (f := NET_ST_TXCTRL_TX_DONE i) 1 rfl) (.refl _ s)

/-- A new message of another converter fills the buffer of a lane that has none. -/
theorem State.straitMsg_of_new (s : State) (i : Nat) (f : List Sym) (hpeer : fld f 2 1 ≠ s.rd TOP_STAT_CONVERTER)
    (hlen : fld f 38 1 ≠ 0) (hnew : fld f 36 1 ≠ (s.stLane i).ack) (hempty : s.rd (NET_ST_RXSTAT_RX_FULL i) = 0) :
    ∃ t : State, s.WritesIn (A_NET_ST_RXSTAT i ≤ ·) t ∧ t.rd (NET_ST_RXSTAT_RX_FULL i) = 1 ∧
      t.rd (NET_ST_RXSTAT_LEN i) = fld f 38 1 % 2 ^ (NET_ST_RXSTAT_LEN i).w ∧
      s.straitMsg i f = (t.setStLane i { s.stLane i with ack := fld f 36 1 }).fireRoute 0x53 := by
  have hon : s.on (NET_ST_RXSTAT_RX_FULL i) = false := by rw [State.on, hempty]; rfl
  have hbuf : s.WritesIn (A_NET_ST_RXSTAT i ≤ ·) ((List.range 12).foldl (fun s w => s.wr (NET_ST_RXBUF i w)
      (leNat (((ferryBytes f 40 (fld f 38 1) ++ List.replicate (48 - fld f 38 1) 0).drop (4 * w)).take 4))) s) :=
    .foldl (fun t w => (State.WritesIn.refl _ t).wr _ (by simp only [NET_ST_RXBUF, A_NET_ST_RXBUF, A_NET_ST_RXSTAT]; omega)) _ s
  have hstat : ∀ {f : Fld}, f.addr = A_NET_ST_RXSTAT i → A_NET_ST_RXSTAT i ≤ f.addr := fun h => h ▸ Nat.le_refl _
  refine ⟨_, (((hbuf.wr (f := NET_ST_RXSTAT_LEN i) (fld f 38 1) (hstat rfl)).wr (f := NET_ST_RXSTAT_CONV i) (fld f 2 1)
    (hstat rfl)).wr (f := NET_ST_RXSTAT_SEQ i) (fld f 36 1) (hstat rfl)).wr (f := NET_ST_RXSTAT_RX_FULL i) 1 (hstat rfl), ?_, ?_, ?_⟩
  · exact State.rd_wr_same _ _ _ (by simp [NET_ST_RXSTAT_RX_FULL])
  · rw [State.rd_wr_apart _ _ _ _ (by simp [Fld.apart, NET_ST_RXSTAT_RX_FULL, NET_ST_RXSTAT_LEN]),
      State.rd_wr_apart _ _ _ _ (by simp [Fld.apart, NET_ST_RXSTAT_SEQ, NET_ST_RXSTAT_LEN]),
      State.rd_wr_apart _ _ _ _ (by simp [Fld.apart, NET_ST_RXSTAT_CONV, NET_ST_RXSTAT_LEN]),
      State.rd_wr_same _ _ _ (by simp [NET_ST_RXSTAT_LEN])]
  · simp only [State.straitMsg, if_neg (not_or.mpr ⟨hpeer, not_or.mpr ⟨hlen, hnew⟩⟩), hon, Bool.false_eq_true, if_false]

@[simp] theorem State.stLane_setStLane (s : State) (i : Nat) (x : StLane) : (s.setStLane i x).stLane i = x := tget_tset_same _ _ _ _

theorem State.stLane_congr {s t : State} (h : t.net = s.net) (i : Nat) : t.stLane i = s.stLane i := by rw [State.stLane, h, State.stLane]

/-- The words of a strait's registers, and TOP_STAT, are not between TOP_STAT and the straits' registers. -/
theorem not_innerWord_strait {i a : Nat} (h : a = A_TOP_STAT ∨ a = A_NET_ST_STAT i ∨ a = A_NET_ST_RXSTAT i) : ¬ InnerWord a := by
  simp only [A_NET_ST_RXSTAT, A_NET_ST_STAT, A_TOP_STAT, InnerWord] at h ⊢
  omega

/-- Whatever a message does, the cells, the peer of the lane and its frame stay. -/
theorem State.straitMsg_leaves (s : State) (i : Nat) (f : List Sym) : (s.straitMsg i f).cells = s.cells ∧
    (∀ fd : Fld, fd.addr = A_NET_ST_STAT i → (s.straitMsg i f).rd fd = s.rd fd) ∧
    ((s.straitMsg i f).stLane i).got = (s.stLane i).got := by
  by_cases hskip : fld f 2 1 = s.rd TOP_STAT_CONVERTER ∨ fld f 38 1 = 0 ∨ fld f 36 1 = (s.stLane i).ack
  · rw [State.straitMsg, if_pos hskip]
    exact ⟨rfl, fun _ _ => rfl, rfl⟩
  by_cases hfull : s.rd (NET_ST_RXSTAT_RX_FULL i) = 0
  · obtain ⟨hpeer, hlen, hnew⟩ := (not_or.mp hskip).imp_right not_or.mp
    obtain ⟨t, ht, -, -, hmsg⟩ := s.straitMsg_of_new i f hpeer hlen hnew hfull
    have hview := State.straitView_fireRoute (t.setStLane i { s.stLane i with ack := fld f 36 1 }) 0x53
    rw [hmsg]
    refine ⟨(State.cells_of_straitView hview).trans ht.cells, fun fd hfd => ?_, ?_⟩
    · rw [State.rd_of_straitView hview (not_innerWord_strait (i := i) (.inr (.inl hfd))), State.setStLane_rd]
      exact ht.rd (by rw [hfd]; simp only [A_NET_ST_RXSTAT, A_NET_ST_STAT]; omega)
    · rw [State.stLane_congr (State.net_of_straitView hview), State.stLane_setStLane]
  · have hon : s.on (NET_ST_RXSTAT_RX_FULL i) = true := decide_eq_true hfull
    rw [State.straitMsg, if_neg hskip, if_pos hon]
    exact ⟨rfl, fun fd hfd => State.rd_wr_apart _ _ _ _ (.inl (by
      rw [hfd]; simp only [NET_ST_RX_WAIT, A_NET_ST_RX_WAIT, A_NET_ST_STAT]; omega)), rfl⟩

/-- What a lane keeps of a good frame: a new session starts its messages again. -/
def StLane.heard (x : StLane) (session seq arr : Nat) : StLane :=
  { x with got := true, arrived := some (seq, arr), ack := if x.seen ≠ 0 ∧ session ≠ x.seen then 0 else x.ack, seen := session }

/-- The sender of a good frame, as NET_ST_STAT shows it. -/
def State.showPeer (s : State) (i : Nat) (f : List Sym) : State :=
  (((s.wr (NET_ST_STAT_PEER_DEPTH i) (fld f 30 1)).wr (NET_ST_STAT_PEER_CONV i) (fld f 2 1)).wr (NET_ST_STAT_PEER_UPSTREAM i)
    (fld f 31 1)).wr (NET_ST_STAT_PEER_SESSION i) (fld f 39 1)

theorem StLane.heard_ack_of_seen (x : StLane) (seq arr : Nat) : (x.heard x.seen seq arr).ack = x.ack := by simp [StLane.heard]

theorem State.showPeer_writesIn (s : State) (i : Nat) (f : List Sym) : s.WritesIn (fun a => a = A_NET_ST_STAT i) (s.showPeer i f) :=
  ((((State.WritesIn.refl (fun a => a = A_NET_ST_STAT i) s).wr (f := NET_ST_STAT_PEER_DEPTH i) _ rfl).wr
    (f := NET_ST_STAT_PEER_CONV i) _ rfl).wr (f := NET_ST_STAT_PEER_UPSTREAM i) _ rfl).wr (f := NET_ST_STAT_PEER_SESSION i) _ rfl

theorem State.showPeer_conv (s : State) (i : Nat) (f : List Sym) :
    (s.showPeer i f).rd (NET_ST_STAT_PEER_CONV i) = fld f 2 1 % 2 ^ (NET_ST_STAT_PEER_CONV i).w := by
  rw [State.showPeer, State.rd_wr_apart _ _ _ _ (by simp [Fld.apart, NET_ST_STAT_PEER_SESSION, NET_ST_STAT_PEER_CONV]),
    State.rd_wr_apart _ _ _ _ (by simp [Fld.apart, NET_ST_STAT_PEER_UPSTREAM, NET_ST_STAT_PEER_CONV])]
  exact State.rd_wr_same _ _ _ (by simp [NET_ST_STAT_PEER_CONV])

theorem State.showPeer_session (s : State) (i : Nat) (f : List Sym) :
    (s.showPeer i f).rd (NET_ST_STAT_PEER_SESSION i) = fld f 39 1 % 2 ^ (NET_ST_STAT_PEER_SESSION i).w :=
  State.rd_wr_same _ _ _ (by simp [NET_ST_STAT_PEER_SESSION])

/-- Time and the acknowledgement leave the cells, the lane's record, TOP_STAT, and what shows the lane's peer and its buffer. -/
theorem State.straitTime_straitAck_leaves (s : State) (i : Nat) (f : List Sym) (arr : Nat) :
    ((s.straitTime i f arr).straitAck i f).cells = s.cells ∧ ((s.straitTime i f arr).straitAck i f).net = s.net ∧
      ∀ fd : Fld, fd.addr = A_TOP_STAT ∨ fd.addr = A_NET_ST_STAT i ∨ fd.addr = A_NET_ST_RXSTAT i →
        ((s.straitTime i f arr).straitAck i f).rd fd = s.rd fd := by
  have htime := s.straitView_straitTime i f arr
  have hack := (s.straitTime i f arr).straitAck_writesIn i f
  refine ⟨hack.cells.trans (State.cells_of_straitView htime), hack.net.trans (State.net_of_straitView htime), fun fd hfd =>
    (hack.rd ?_).trans (State.rd_of_straitView htime (not_innerWord_strait hfd))⟩
  simp only [A_TOP_STAT, A_NET_ST_STAT, A_NET_ST_RXSTAT, A_NET_ST_TXCTRL] at hfd ⊢
  omega

/-- A good strait frame shows its sender on the lane, and its message meets a state that has kept the rest of the lane. -/
theorem execStraitFrame_of_good {n : Nat} {ss : List Sym} (back : Nat) {s : State} (hrun : s.inRun = true) (harb : s.isArbiter = false)
    (hn : n < 4) (hmode : s.rd (LANE_CFG_MODE (108 + n)) ≠ 0) (hlocked : s.laneLocked (108 + n) = true)
    (hok : (s.laneTake (108 + n) ss).2 = true) (hgood : straitOk ss = true) :
    ∃ (t : State) (arr : Nat), execStraitFrame n ss back s = .next (t.straitMsg n ss) ∧ t.cells = s.cells ∧
      t.stLane n = (s.stLane n).heard (fld ss 39 1) (frSeq ss) arr ∧
      t.rd (NET_ST_STAT_PEER_CONV n) = fld ss 2 1 % 2 ^ (NET_ST_STAT_PEER_CONV n).w ∧
      t.rd (NET_ST_STAT_PEER_SESSION n) = fld ss 39 1 % 2 ^ (NET_ST_STAT_PEER_SESSION n).w ∧
      t.rd TOP_STAT_CONVERTER = s.rd TOP_STAT_CONVERTER ∧ t.rd (NET_ST_RXSTAT_RX_FULL n) = s.rd (NET_ST_RXSTAT_RX_FULL n) := by
  have htaken := s.laneTake_writesIn (by omega) ss hok
  generalize hu : (s.laneTake (108 + n) ss).1 = u at htaken
  have hshown := (u.setStLane n ((u.stLane n).heard (fld ss 39 1) (frSeq ss) ((u.ct : Int) - sixteenths back).toNat)).showPeer_writesIn n ss
  obtain ⟨hcells, hnet, hrd⟩ := State.straitTime_straitAck_leaves ((u.setStLane n ((u.stLane n).heard (fld ss 39 1) (frSeq ss)
    ((u.ct : Int) - sixteenths back).toNat)).showPeer n ss) n ss ((u.ct : Int) - sixteenths back).toNat
  refine ⟨_, ((u.ct : Int) - sixteenths back).toNat, ?_, hcells.trans (hshown.cells.trans htaken.cells), ?_,
    (hrd _ (.inr (.inl rfl))).trans (State.showPeer_conv _ _ _), (hrd _ (.inr (.inl rfl))).trans (State.showPeer_session _ _ _), ?_, ?_⟩
  · rw [execStraitFrame, if_neg (by simp [hrun, harb, hn, hmode, hlocked])]
    simp only [hok, hgood, hu, Bool.and_self, Bool.not_true, Bool.false_eq_true, if_false, StLane.heard, State.showPeer]
  · rw [State.stLane_congr (hnet.trans hshown.net), State.stLane_setStLane, State.stLane_congr htaken.net]
  · exact (hrd _ (.inl rfl)).trans ((hshown.rd (by simp only [TOP_STAT_CONVERTER, A_TOP_STAT, A_NET_ST_STAT]; omega)).trans
      (htaken.rd (by decide)))
  · exact (hrd _ (.inr (.inr rfl))).trans ((hshown.rd (by simp only [NET_ST_RXSTAT_RX_FULL, A_NET_ST_RXSTAT, A_NET_ST_STAT]; omega)).trans
      (htaken.rd (by simp only [NET_ST_RXSTAT_RX_FULL, A_NET_ST_RXSTAT, LaneWord]; omega)))

/-- Settles O52: each frame is one command; what it leaves is what the part of the frame that it reaches leaves. -/
theorem partnerFrames : Obligations.PartnerFrames := by
  refine ⟨fun n ss back halted same s hredun hlanes hlo hhi hmode hlocked hok hvalid hact hgot hrole horder => ?_,
    fun n ss back halted same s hredun hlanes hlo hhi hmode hlocked hok hvalid harb hgot hrun horder => ?_,
    fun n ss back halted same s hout => ?_, fun n ss s hredun hrun hstand hn hlocked hok hrecs hlen hframe hkind hconv hcrc => ?_,
    fun n recs s hredun hrun hstand hn hlocked hdone => ?_,
    fun n recs s hredun hrun hstand hn hlocked hdone hne hshort hhead hturn hmore => ?_,
    fun f s hredun hrun hstand hprof hlocked hidle => ?_, fun f s => ?_,
    fun n ss back s hrun harb hn hmode hlocked hok hbad => ?_, fun n ss back s hrun harb hn hmode hlocked hok hgood => ?_⟩
  case refine_1 =>
    obtain ⟨u, arr, hu, hexec⟩ := execPartnerFrame_of_valid back halted same hredun hlanes hlo (by omega) hmode hlocked hok hvalid
    rw [if_pos hhi, State.partnerTime_of_not_active _ _ _ _ hrole] at hexec
    have hmate := u.mateFrame_of_not_active ss same (hu.red ▸ hgot) hrole horder
    refine ⟨_, hexec, ?_, ?_, ?_, ?_, ?_, ?_⟩
    · rw [hmate.red]
      exact congrArg (fun r : Red => { r with mateGot := true, mateLost := false }) hu.red
    · rw [hmate.rd (by decide), State.rd_wr_apart _ _ _ _ (by decide)]
      exact State.rd_wr_same _ _ _ (by decide)
    · rw [hmate.rd (by decide)]
      exact State.rd_wr_same _ _ _ (by decide)
    · exact hmate.cells.trans hu.cells
    · exact hmate.mem.trans hu.mem
    · exact hmate.out.trans hu.out
  case refine_2 =>
    obtain ⟨u, arr, hu, hexec⟩ := execPartnerFrame_of_valid back halted same hredun hlanes (by omega) hhi hmode hlocked hok hvalid
    have harbu : u.isArbiter = false := by
      rw [State.isArbiter, State.role, hu.rd (f := TOP_STAT_ROLE) (by decide)]
      exact harb
    rw [if_neg (by omega), harbu, if_neg Bool.false_ne_true,
      State.arbFrame_of_run u ss (hu.red ▸ hgot) ((hu.rd (f := RED_STAT_ALIVE1_RUN) (by decide)).trans hrun) horder] at hexec
    refine ⟨_, hexec, ?_, ?_, ?_, hu.cells, hu.mem, hu.out⟩
    · exact congrArg (fun r : Red => { r with arbGot := true, arbLost := false }) hu.red
    · rw [State.rd_wr_apart _ _ _ _ (by decide)]
      exact State.rd_wr_same _ _ _ (by decide)
    · exact State.rd_wr_same _ _ _ (by decide)
  case refine_3 =>
    refine ⟨s, ?_, rfl⟩
    show execPartnerFrame n ss back halted same s = _
    rw [execPartnerFrame, if_pos]
    simp only [Bool.not_eq_true', decide_eq_false_iff_not]
    rintro ⟨hredun, -, hlo, hhi, -⟩
    rcases hout with hno | hlt | hge
    · exact absurd (hno.symm.trans hredun) Bool.false_ne_true
    · omega
    · omega
  case refine_4 =>
    obtain ⟨u, hu, hexec⟩ := execRelayFrame_of_berths hredun hrun hstand hn hlocked hok hrecs hlen hframe hkind hconv hcrc
    rw [hu.red] at hexec
    exact ⟨_, hexec, rfl, rfl, rfl, hu.cells, hu.mem⟩
  case refine_5 =>
    refine ⟨(s.setRed { s.red with copyNext := 0 }).wr RED_COPY_RECORDS 0, ?_, State.rd_wr_same _ _ _ (by decide), rfl,
      State.wr_keepsBut _ _ _, rfl⟩
    show execCopyFrame n false recs s = _
    rw [execCopyFrame, if_neg (by simp [hredun, hrun, hstand, hn, hlocked, hdone])]
    simp
  case refine_6 =>
    have hfold := State.WritesIn.foldl State.takeCopy_writesIn recs s
    refine ⟨((recs.foldl (fun s x => s.takeCopy x) s).setRed
      { (recs.foldl (fun s x => s.takeCopy x) s).red with copyNext := s.red.copyNext + recs.length }).wr RED_COPY_RECORDS
        (s.red.copyNext + recs.length), ?_, State.rd_wr_same _ _ _ (by decide),
      congrArg (fun r : Red => { r with copyNext := s.red.copyNext + recs.length }) hfold.red, hfold.cells, hfold.mem⟩
    show execCopyFrame n true recs s = _
    rw [execCopyFrame, if_neg (by simp [hredun, hrun, hstand, hn, hlocked, hdone])]
    simp only [if_neg hhead, hturn, if_neg (Nat.ne_of_lt hmore)]
    rw [if_neg]
    simpa using ⟨hne, hshort⟩
  case refine_7 =>
    refine ⟨s.takeProfFrame f, ?_, s.takeProfFrame_of_idle f hidle⟩
    show execProfileFrame true f s = _
    rw [execProfileFrame, if_pos ⟨hredun, hrun, hstand, hprof, hlocked, rfl⟩]
  case refine_8 =>
    refine ⟨s, ?_, rfl⟩
    show execProfileFrame false f s = _
    rw [execProfileFrame, if_neg (by simp)]
  case refine_9 =>
    have htaken := s.laneTake_writesIn (by omega) ss hok
    refine ⟨(s.laneTake (108 + n) ss).1.inc (NET_ST_BAD n), ?_, ?_, htaken.net, htaken.cells, htaken.mem⟩
    · show execStraitFrame n ss back s = _
      rw [execStraitFrame, if_neg (by simp [hrun, harb, hn, hmode, hlocked])]
      simp [hbad]
    · rw [State.rd_inc_same _ _ (by simp [NET_ST_BAD]), htaken.rd (by simp only [NET_ST_BAD, A_NET_ST_BAD, LaneWord, A_LANE_CTRL]; omega)]
  case refine_10 =>
    obtain ⟨u, arr, hexec, hcells, hheard, hpeer, hsession, htop, hfull⟩ :=
      execStraitFrame_of_good back hrun harb hn hmode hlocked hok hgood
    obtain ⟨hmcells, hmrd, hmgot⟩ := u.straitMsg_leaves n ss
    refine ⟨_, hexec, (hmrd _ rfl).trans hpeer, (hmrd _ rfl).trans hsession, hmgot.trans (congrArg StLane.got hheard),
      fun hother hlen hses hnew hempty => ?_, hmcells.trans hcells⟩
    have hack : (u.stLane n).ack = (s.stLane n).ack := by rw [hheard, hses, StLane.heard_ack_of_seen]
    obtain ⟨t, -, htfull, htlen, hmsg⟩ := u.straitMsg_of_new n ss (htop ▸ hother) hlen (hack ▸ hnew) (hfull.trans hempty)
    have hview := State.straitView_fireRoute (t.setStLane n { u.stLane n with ack := fld ss 36 1 }) 0x53
    rw [hmsg]
    refine ⟨(State.rd_of_straitView hview (not_innerWord_strait (i := n) (.inr (.inr rfl)))).trans htfull,
      (State.rd_of_straitView hview (not_innerWord_strait (i := n) (.inr (.inr rfl)))).trans htlen, ?_⟩
    rw [State.stLane_congr (State.net_of_straitView hview), State.stLane_setStLane]

end Sys2Proof.Machine
end

section
/-! Run-ahead orders (R243, R264, R265, R268): what GO, a write of RUN_TIMING and a write of RUN_SIGN do where they are taken, and the raise
of the range source where they are not. -/

namespace Sys2Proof.Machine
open Sys2Proof

/-! ### Orders that are not taken -/

/-- On an edge without a raise, the range raise of the block of `a` is all that an order which is ignored leaves (R488). -/
theorem State.range_of_fresh {s : State} (h : s.fresh) (p : Port) (a : Nat) :
    s.range p a = { s with flt := (s.range p a).flt } ∧
      s.raisedAs (s.range p a) (32 * blkOf a) (a % 0x10000 + p.master * 65536) :=
  ⟨s.raise_frame _ _, State.raisedAs_raise h rfl rfl _ _⟩

/-! ### GO -/

theorem State.observe_reef (s : State) : s.observe.reef = s.reef := by
  have hfreeze : ∀ t : State, t.statsFreeze.reef = t.reef := fun t =>
    List.foldlRecOn (motive := fun u : State => u.reef = t.reef) _ _ rfl (fun _ hu _ _ => hu)
  simp only [State.observe]
  split
  · rfl
  · split
    · exact hfreeze _
    · rfl

/-- Committing starts with nothing staged and a full plan pending (R250, R265). -/
theorem State.commitOn_spec (s : State) : s.commitOn.committing = true ∧ s.commitOn.rd RUN_STAT_FULL_PEND = 1 ∧
    s.commitOn.reef.epochs = [] ∧ s.commitOn.cells = s.cells ∧ s.commitOn.mem = s.mem := by
  obtain ⟨-, hcells, hmem, hword⟩ := State.observe_stops (a := A_RUN_STAT) (by decide)
    (((s.setReef { s.reef with epochs := [] }).wr RUN_STAT_COMMITTING 1).wr RUN_STAT_FULL_PEND 1)
  have hcommitting : s.commitOn.rd RUN_STAT_COMMITTING = 1 := by
    rw [State.commitOn, State.rd_congr (f := RUN_STAT_COMMITTING) hword, State.rd_wr_apart _ _ _ _ (by decide)]
    exact State.rd_wr_same _ _ _ (by decide)
  refine ⟨decide_eq_true hcommitting, ?_, congrArg Reef.epochs (State.observe_reef _), hcells, hmem⟩
  rw [State.commitOn, State.rd_congr (f := RUN_STAT_FULL_PEND) hword]
  exact State.rd_wr_same _ _ _ (by decide)

theorem State.go_of_ready {s : State} (p : Port) (hactive : s.isActive = true) (hrun : s.inRun = true) (hidle : s.committing = false)
    (hsafety : s.rd CHART_STATUS_SAFETY_OK = 1) (hisland : s.rd SAFE_STAT_STATE = 1) (hedge : s.flash.lastBA ≠ s.clk.count + 1) :
    s.go p = s.commitOn :=
  if_pos ⟨hactive, hrun, by simp [hidle], by simp [State.on, hsafety], hisland, hedge⟩

/-- GO is ignored where one of its conditions fails. -/
theorem State.go_of_refused {s : State} (p : Port) (h : s.isActive = false ∨ s.inRun = false ∨ s.committing = true ∨
    s.rd CHART_STATUS_SAFETY_OK = 0 ∨ s.rd SAFE_STAT_STATE ≠ 1 ∨ s.flash.lastBA = s.clk.count + 1) : s.go p = s.range p A_RUN_CTRL := by
  refine if_neg ?_
  rintro ⟨hactive, hrun, hidle, hsafety, hisland, hedge⟩
  rcases h with h | h | h | h | h | h
  · simp [h] at hactive
  · simp [h] at hrun
  · simp [h] at hidle
  · simp [State.on, h] at hsafety
  · exact h hisland
  · exact hedge h

/-! ### RUN_TIMING -/

/-- The check of the margins writes RUN_STAT and the RUN_MARGIN words, and no other word below them. -/
theorem State.marginCheck_rdW_of_ne (s : State) (c : Nat) {a : Nat} (hstat : A_RUN_STAT ≠ a) (ha : a < A_RUN_MARGIN 0) :
    (s.marginCheck c).rdW a = s.rdW a := by
  have hput : ∀ (bad : Bool) (v : Nat), ((s.putBitAt (A_RUN_MARGIN 0) c bad).wr RUN_STAT_MARGIN v).rdW a = s.rdW a := fun bad v => by
    rw [State.rdW_wr_ne _ RUN_STAT_MARGIN v hstat, State.rdW_putBitAt_ne _ _ (by omega)]
  simp only [State.marginCheck]
  split
  · rw [State.raise_rdW, hput]
  · exact hput _ _

/-- The check of every causeway's margins leaves RUN_TIMING, and all but the registers and the fault unit (R244). -/
theorem State.marginChecks_frame (cs : List Nat) (s : State) :
    (cs.foldl (fun s c => s.marginCheck c) s).rdW A_RUN_TIMING = s.rdW A_RUN_TIMING ∧
      (cs.foldl (fun s c => s.marginCheck c) s).cws = s.cws ∧ s.cwFrame (cs.foldl (fun s c => s.marginCheck c) s) := by
  induction cs generalizing s with
  | nil => exact ⟨rfl, rfl, rfl⟩
  | cons c cs ih =>
    obtain ⟨hword, hcws, hframe⟩ := ih (s.marginCheck c)
    exact ⟨hword.trans (s.marginCheck_rdW_of_ne c (by decide) (by decide)), hcws.trans (s.marginCheck_cws c),
      (s.marginCheck_cwFrame c).trans hframe⟩

/-- A write of RUN_TIMING within its ranges is stored, and the margins are checked against it (R243, R244). -/
theorem State.writeTiming_of_valid {s : State} (p : Port) {v : Nat} (hidle : s.committing = false) (hlo : 1235 ≤ v % 4096)
    (hhi : v % 4096 ≤ 2250) (hstep : v % 4096 % 5 = 0) (hlead : 16 ≤ v / 65536 % 4096)
    (hroom : v / 65536 % 4096 + 1216 ≤ v % 4096) :
    (s.writeTiming p v).rd RUN_TIMING_LAG = v % 4096 ∧ (s.writeTiming p v).rd RUN_TIMING_LEAD = v / 65536 % 4096 ∧
      s.writeTiming p v = { s with regs := (s.writeTiming p v).regs, flt := (s.writeTiming p v).flt } := by
  set u := (s.wr RUN_TIMING_LAG (v % 4096)).wr RUN_TIMING_LEAD (v / 65536 % 4096) with hu
  have hwrite : s.writeTiming p v = u.causeways.foldl (fun s c => s.marginCheck c) u := by
    refine if_neg ?_
    simp only [hidle, Bool.false_eq_true, false_or]
    omega
  obtain ⟨hword, hcws, hframe⟩ := State.marginChecks_frame u.causeways u
  rw [← hwrite] at hword hcws hframe
  refine ⟨?_, ?_, ?_⟩
  · rw [State.rd_congr (f := RUN_TIMING_LAG) hword, hu, State.rd_wr_apart _ _ _ _ (by decide), State.rd_wr_same _ _ _ (by decide)]
    exact Nat.mod_mod _ _
  · rw [State.rd_congr (f := RUN_TIMING_LEAD) hword, hu, State.rd_wr_same _ _ _ (by decide)]
    exact Nat.mod_mod _ _
  · rw [State.cwFrame, hcws] at hframe
    exact hframe

/-- A write of RUN_TIMING is ignored while committing, and where LAG lies outside its range. -/
theorem State.writeTiming_of_refused {s : State} (p : Port) {v : Nat}
    (h : s.committing = true ∨ v % 4096 < 1235 ∨ 2250 < v % 4096) : s.writeTiming p v = s.range p A_RUN_TIMING :=
  if_pos (h.imp_right (Or.imp_right .inl))

/-! ### RUN_SIGN -/

/-- A write of RUN_SIGN within its range is stored, and writes nothing else (R268). -/
theorem State.writeSign_of_valid {s : State} (p : Port) {v : Nat} (hidle : s.committing = false) (hslope : v / 65536 % 32 ≤ 25) :
    (s.writeSign p v).rd RUN_SIGN_HYST = v % 2 ^ RUN_SIGN_HYST.w ∧
      (s.writeSign p v).rd RUN_SIGN_SLOPE_N = v / 65536 % 2 ^ RUN_SIGN_SLOPE_N.w ∧
      s.onlyFields (s.writeSign p v) [RUN_SIGN_HYST, RUN_SIGN_SLOPE_N] := by
  have hwrite : s.writeSign p v = (s.wr RUN_SIGN_HYST v).wr RUN_SIGN_SLOPE_N (v / 65536) :=
    if_neg (by simp [hidle, hslope])
  rw [hwrite]
  refine ⟨?_, State.rd_wr_same _ _ _ (by decide),
    State.onlyFields_trans (s.wr_onlyFields RUN_SIGN_HYST v) (State.wr_onlyFields _ RUN_SIGN_SLOPE_N _)⟩
  rw [State.rd_wr_apart _ _ _ _ (by decide)]
  exact State.rd_wr_same _ _ _ (by decide)

/-- A write of RUN_SIGN is ignored while committing, and where SLOPE_N lies outside its range. -/
theorem State.writeSign_of_refused {s : State} (p : Port) {v : Nat} (h : s.committing = true ∨ 25 < v / 65536 % 32) :
    s.writeSign p v = s.range p A_RUN_SIGN :=
  if_pos h

/-! ### The orders -/

/-- Settles O37: each order is one operation of the RUN block, which is taken under its conditions and raises range otherwise. -/
theorem runOrders : Obligations.RunOrders := by
  refine ⟨fun p s hactive hrun hidle hsafety hisland hedge => ?go, fun p s hrefused hfresh => ?goRefused,
    fun p v s hidle hlo hhi hstep hlead hroom => ?timing, fun p v s hrefused hfresh => ?timingRefused,
    fun p v s hidle hslope => ?sign, fun p v s hrefused hfresh => ?signRefused⟩
  case go =>
    exact ⟨_, congrArg Host.Outcome.next (State.go_of_ready p hactive hrun hidle hsafety hisland hedge), s.commitOn_spec⟩
  case goRefused =>
    exact ⟨_, congrArg Host.Outcome.next (State.go_of_refused p hrefused), State.range_of_fresh hfresh p A_RUN_CTRL⟩
  case timing =>
    exact ⟨_, rfl, State.writeTiming_of_valid p hidle hlo hhi hstep hlead hroom⟩
  case timingRefused =>
    exact ⟨_, congrArg Host.Outcome.next (State.writeTiming_of_refused p hrefused), State.range_of_fresh hfresh p A_RUN_TIMING⟩
  case sign =>
    exact ⟨_, rfl, State.writeSign_of_valid p hidle hslope⟩
  case signRefused =>
    exact ⟨_, congrArg Host.Outcome.next (State.writeSign_of_refused p hrefused), State.range_of_fresh hfresh p A_RUN_SIGN⟩

end Sys2Proof.Machine
end

section
/-! What setting event flags of a task leaves alone: all but the scheduler's state and the registers from the scheduler's upwards (R320,
R321, R328, R337, R341). -/

namespace Sys2Proof.Machine
open Sys2Proof

/-- A word of the scheduler's registers, or above them. -/
abbrev SchedWord (a : Nat) : Prop := A_SCHED_CTRL ≤ a

/-- An array of registers lies no lower than its base. -/
theorem schedWord_add {b i : Nat} (h : A_SCHED_CTRL ≤ b) : SchedWord (b + i) := h.trans (Nat.le_add_right b i)

theorem State.qUpdate_writesIn (s : State) : s.WritesIn SchedWord s.qUpdate := by
  refine State.WritesIn.foldl (fun t p => ?_) _ s
  have hdepth : t.WritesIn SchedWord (t.wr (SCHED_QDEPTH p) (t.qdepth p)) := (State.WritesIn.refl _ t).wr _ (schedWord_add (by decide))
  exact .ite (hdepth.wr _ (schedWord_add (by decide))) hdepth

theorem State.tally_writesIn (s : State) (k st : Nat) (up : Bool) : s.WritesIn SchedWord (s.tally k st up) := by
  have hstat : ∀ {f : Fld} (v : Nat), f.addr = A_SCHED_STAT → s.WritesIn SchedWord (s.wr f v) := fun v hf =>
    (State.WritesIn.refl _ s).wr v (hf ▸ (by decide))
  have hheld := hstat (f := SCHED_STAT_HELD) (if up then s.rd SCHED_STAT_HELD + 1 else s.rd SCHED_STAT_HELD - 1) rfl
  exact .ite (hstat _ rfl) (.ite (.ite (hheld.wr _ (schedWord_add (by decide))) hheld) (.ite (hstat _ rfl) (.refl _ s)))

theorem State.taskTo_writesIn (s : State) (k st : Nat) : s.WritesIn SchedWord (s.taskTo k st) :=
  ((s.tally_writesIn k _ _).wr _ (schedWord_add (by decide))).trans (State.tally_writesIn _ k st true)

theorem State.trace_writesIn (s : State) (kind e k flags waited : Nat) : s.WritesIn SchedWord (s.trace kind e k flags waited) :=
  .ite (.ite ⟨rfl, rfl, rfl, rfl, rfl, rfl, fun _ _ => rfl⟩ ((State.WritesIn.refl _ s).wr _ (by decide))) (.refl _ s)

theorem State.becomeReady_writesIn (s : State) (k stamp : Nat) : s.WritesIn SchedWord (s.becomeReady k stamp) := by
  set u : State := { s with sched := { s.sched with readyAt := tset (fun _ => 0) s.sched.readyAt k stamp } } with hu
  have hstamp : s.WritesIn SchedWord u := ⟨rfl, rfl, rfl, rfl, rfl, rfl, fun _ _ => rfl⟩
  have htask : ∀ st, s.WritesIn SchedWord (u.taskTo k st) := fun st => hstamp.trans (u.taskTo_writesIn k st)
  simp only [State.becomeReady, ← hu]
  exact .ite ((htask _).trans (State.trace_writesIn ..)) ((htask _).wr _ (schedWord_add (by decide)))

theorem State.passFlow_writesIn (s : State) (f : Nat) : s.WritesIn SchedWord (s.passFlow f) := by
  refine .ite ?_ (.refl _ s)
  cases s.heldOf f with
  | none => exact .refl _ s
  | some k => exact (s.taskTo_writesIn k ST_READY).wr _ (schedWord_add (by decide))

theorem State.leaveReady_writesIn (s : State) (k st : Nat) : s.WritesIn SchedWord (s.leaveReady k st) :=
  .ite ((s.taskTo_writesIn k st).trans (State.passFlow_writesIn _ _)) (s.taskTo_writesIn k st)

theorem State.judgeTask_writesIn (s : State) (k : Nat) : s.WritesIn SchedWord (s.judgeTask k) := by
  have hqueue : ∀ {c : Prop} [Decidable c] {t : State}, s.WritesIn SchedWord t →
      s.WritesIn SchedWord (if c then s else t).qUpdate := fun h => (State.WritesIn.ite (.refl _ s) h).trans (State.qUpdate_writesIn _)
  exact .ite (.refl _ s) (.ite (hqueue (s.leaveReady_writesIn k _)) (.ite (hqueue (s.becomeReady_writesIn k _))
    (hqueue (s.leaveReady_writesIn k _))))

theorem State.setFlags_writesIn (s : State) (k mask : Nat) : s.WritesIn SchedWord (s.setFlags k mask) := by
  have hoverrun : s.WritesIn SchedWord (s.wr (SCHED_TASK_STAT_OVERRUN k) 1) := (State.WritesIn.refl _ s).wr _ (schedWord_add (by decide))
  exact ((State.WritesIn.ite (hoverrun.wr _ (by decide)) (.refl _ s)).wr _ (schedWord_add (by decide))).trans
    (State.judgeTask_writesIn _ k)

end Sys2Proof.Machine
end

section
/-! The loop engine's orders (R274, R277, R292 to R294, R308): what the end of a pass shows, and what LOOP_RESTART and a coefficient write
do where they are taken and where they raise the range source. -/

namespace Sys2Proof.Machine
open Sys2Proof

/-! ### Raises of the loop engine -/

/-- On an edge without a raise, an order of block LOOP that is ignored leaves the raise of the block's range source alone (R488). -/
theorem State.loopRange_of_fresh {s : State} (h : s.fresh) (p : Port) {a : Nat} (ha : blkOf a = 9) :
    s.range p a = { s with flt := (s.range p a).flt } ∧ s.raisedAs (s.range p a) 0x120 (a % 0x10000 + p.master * 65536) := by
  have hrange := State.range_of_fresh h p a
  rw [ha] at hrange
  exact hrange

/-! ### The end of a pass -/

/-- Storing bytes changes memory alone. -/
theorem State.setBytes_frame (l : List Byte) : ∀ (s : State) (a : Nat), s.setBytes a l = { s with mem := (s.setBytes a l).mem } := by
  induction l with
  | nil => exact fun _ _ => rfl
  | cons b l ih => exact fun s a => ih (s.setByte a b) (a + 1)

/-- A sample goes to memory and to the tap: the cells and the words below the taps' stay (R304). -/
theorem State.tapSample_frame (s : State) (u : Nat) : (s.tapSample u).cells = s.cells ∧
    ∀ a, a < A_LOOP_TAP_CFG 0 → (s.tapSample u).rdW a = s.rdW a := by
  simp only [State.tapSample]
  split
  · exact ⟨rfl, fun _ _ => rfl⟩
  · rw [State.setBytes_frame]
    split
    · refine ⟨rfl, fun a ha => State.rdW_wr_ne _ (LOOP_TAP_STAT_FULL u) 1 ?_⟩
      simp only [LOOP_TAP_STAT_FULL, A_LOOP_TAP_STAT, A_LOOP_TAP_CFG] at ha ⊢
      omega
    · exact ⟨rfl, fun _ _ => rfl⟩

theorem State.tapsAt_frame (s : State) (rate : Nat) : (s.tapsAt rate).cells = s.cells ∧
    ∀ a, a < A_LOOP_TAP_CFG 0 → (s.tapsAt rate).rdW a = s.rdW a := by
  refine List.foldlRecOn (motive := fun t : State => t.cells = s.cells ∧ ∀ a, a < A_LOOP_TAP_CFG 0 → t.rdW a = s.rdW a) _ _
    ⟨rfl, fun _ _ => rfl⟩ (fun t ht u _ => ?_)
  split
  · obtain ⟨hcells, hword⟩ := t.tapSample_frame u
    exact ⟨hcells.trans ht.1, fun a ha => (hword a ha).trans (ht.2 a ha)⟩
  · exact ht

/-- Every slot in use is ready (R277). -/
def State.slotsReady (s : State) : Bool := (List.range 48).all (fun n => !s.slotUsed n || s.on (LOOP_FLAGS_READY n))

/-- What the end of a pass writes in the loop engine's status (R274, R277). -/
def State.showPassEnd (s : State) (ready : Bool) : State :=
  (((s.wr LOOP_STAT_PASS 0).wr LOOP_STAT_PASS_EV 1).wr LOOP_STAT_READY (b2n ready)).incW LOOP_PASS_CNT

theorem State.showPassEnd_spec (s : State) (ready : Bool) : (s.showPassEnd ready).rd LOOP_STAT_PASS = 0 ∧
    (s.showPassEnd ready).rd LOOP_STAT_PASS_EV = 1 ∧ (s.showPassEnd ready).rd LOOP_STAT_READY = b2n ready ∧
    (s.showPassEnd ready).rd LOOP_PASS_CNT = (s.rd LOOP_PASS_CNT + 1) % 2 ^ LOOP_PASS_CNT.w := by
  simp only [State.showPassEnd, State.incW]
  refine ⟨?pass, ?event, ?ready, ?count⟩
  case pass =>
    rw [State.rd_wr_apart _ _ _ _ (by decide), State.rd_wr_apart _ _ _ _ (by decide), State.rd_wr_apart _ _ _ _ (by decide)]
    exact State.rd_wr_same _ _ _ (by decide)
  case event =>
    rw [State.rd_wr_apart _ _ _ _ (by decide), State.rd_wr_apart _ _ _ _ (by decide)]
    exact State.rd_wr_same _ _ _ (by decide)
  case ready =>
    rw [State.rd_wr_apart _ _ _ _ (by decide), State.rd_wr_same _ _ _ (by decide)]
    exact b2n_mod_two ready
  case count =>
    rw [State.rd_wr_same _ _ _ (by decide), State.rd_wr_apart _ _ _ _ (by decide), State.rd_wr_apart _ _ _ _ (by decide),
      State.rd_wr_apart _ _ _ _ (by decide)]

/-- The samples of the taps and the scheduler's event, which follow, touch neither the status shown nor the cells. -/
theorem execLoopPassEnd_of_pass {s : State} (h : s.rd LOOP_STAT_PASS = 1) : ∃ t, execLoopPassEnd s = .next t ∧ t.cells = s.cells ∧
    ∀ f : Fld, f.addr < A_LOOP_TAP_CFG 0 → t.rd f = (s.showPassEnd s.slotsReady).rd f := by
  set u := s.showPassEnd s.slotsReady
  obtain ⟨hcells, hword⟩ := u.tapsAt_frame 0
  have hevent := State.WritesIn.ite (c := (u.tapsAt 0).on LOOP_EVT_EN = true)
    ((u.tapsAt 0).setFlags_writesIn ((u.tapsAt 0).rd LOOP_EVT_TASK) (2 ^ (u.tapsAt 0).rd LOOP_EVT_FLAG)) (.refl _ _)
  refine ⟨_, if_neg (by simp [State.on, h]), hevent.cells.trans hcells, fun f hf => ?_⟩
  exact (hevent.rd (Nat.not_le.mpr (hf.trans (by decide)))).trans (State.rd_congr (hword _ hf))

/-! ### LOOP_RESTART -/

/-- A write with its top bit set that names a slot in use puts it, and no other slot, among those that restart (R292). -/
theorem State.writeRestart_of_used {s : State} (p : Port) {v : Nat} (hgo : bitOf v 31 = true) (hused : s.slotUsed (v % 64) = true) :
    s.writeRestart p v = s.setLoop { s.loop with restart := v % 64 :: s.loop.restart.erase (v % 64) } := by
  simp [State.writeRestart, hgo, hused]

theorem State.writeRestart_of_unused {s : State} (p : Port) {v : Nat} (hgo : bitOf v 31 = true) (hused : s.slotUsed (v % 64) = false) :
    s.writeRestart p v = s.range p A_LOOP_RESTART := by
  simp [State.writeRestart, hgo, hused]

/-! ### Coefficients -/

section Coefficient
variable {s : State} {b n w : Nat}

theorem execCoefWrite_of_lt (p : Port) (v : Word) (s : State) (hb : b < 2) (hn : n < 48) (hw : w < 8) :
    execCoefWrite p b n w v s = .next (s.writeCoef p b n w v) := if_pos ⟨hb, hn, hw⟩

/-- A coefficient of a slot in use is taken into the idle bank while no swap is pending (R293). -/
theorem State.writeCoef_of_idle (p : Port) (v : Word) (hused : s.slotUsed n = true) (hbank : s.rd LOOP_STAT_BANK ≠ b)
    (hswap : s.rd LOOP_STAT_SWAP_PEND = 0) : s.writeCoef p b n w v = s.wrW (A_LOOP_COEF b n w) v := by
  simp [State.writeCoef, State.on, hused, hbank, hswap]

theorem State.writeCoef_of_refused (p : Port) (v : Word) (hused : s.slotUsed n = true)
    (h : s.rd LOOP_STAT_BANK = b ∨ s.rd LOOP_STAT_SWAP_PEND = 1) : s.writeCoef p b n w v = s.range p (A_LOOP_COEF b n w) := by
  have hrefused : s.rd LOOP_STAT_BANK = b ∨ s.on LOOP_STAT_SWAP_PEND = true := h.imp_right (fun h => by simp [State.on, h])
  simp [State.writeCoef, hused, hrefused]

theorem blkOf_A_LOOP_COEF (hb : b < 2) (hn : n < 48) (hw : w < 8) : blkOf (A_LOOP_COEF b n w) = 9 := by
  simp only [blkOf, A_LOOP_COEF]; omega

end Coefficient

/-! ### The orders -/

/-- Settles O38: the end of a pass shows what its status writes, and each order is taken under its conditions and raises range otherwise. -/
theorem loopOrders : Obligations.LoopOrders := by
  refine ⟨fun s hpass => ?passEnd, fun s hidle => ?noPass, fun s => ?swap, fun p v s hgo hused => ?restart,
    fun p v s hgo hused hfresh => ?restartRefused, fun p b n w v s hb hn hw hused hbank hswap => ?coefficient,
    fun p b n w v s hb hn hw hused hrefused hfresh => ?coefficientRefused⟩
  case passEnd =>
    obtain ⟨t, hexec, hcells, hshown⟩ := execLoopPassEnd_of_pass hpass
    obtain ⟨hdone, hevent, hready, hcount⟩ := s.showPassEnd_spec s.slotsReady
    exact ⟨t, hexec, (hshown _ (by decide)).trans hdone, (hshown _ (by decide)).trans hevent, (hshown _ (by decide)).trans hcount,
      hcells, (hshown _ (by decide)).trans hready⟩
  case noPass =>
    exact ⟨s, if_pos (by simp [State.on, hidle]), rfl⟩
  case swap =>
    exact ⟨_, rfl, State.rd_wr_same _ _ _ (by decide), s.wr_onlyFields LOOP_STAT_SWAP_PEND 1⟩
  case restart =>
    refine ⟨_, congrArg Host.Outcome.next (State.writeRestart_of_used p hgo hused), List.mem_cons_self, fun n hn => ?_, rfl⟩
    rw [State.setLoop_loop, List.mem_cons, List.mem_erase_of_ne hn, or_iff_right hn]
  case restartRefused =>
    exact ⟨_, congrArg Host.Outcome.next (State.writeRestart_of_unused p hgo hused), State.loopRange_of_fresh hfresh p (by decide)⟩
  case coefficient =>
    exact ⟨_, (execCoefWrite_of_lt p v s hb hn hw).trans (congrArg _ (State.writeCoef_of_idle p v hused hbank hswap)),
      s.rdW_wrW_same _ v, fun a ha => s.rdW_wrW_ne v (Ne.symm ha), rfl⟩
  case coefficientRefused =>
    exact ⟨_, (execCoefWrite_of_lt p v s hb hn hw).trans (congrArg _ (State.writeCoef_of_refused p v hused hrefused)),
      State.loopRange_of_fresh hfresh p (blkOf_A_LOOP_COEF hb hn hw)⟩

end Sys2Proof.Machine
end

section
/-! Trace taps (R301 to R307): the orders of a tap and the write of the trace base, where they are taken and where they raise the range
source. -/

namespace Sys2Proof.Machine
open Sys2Proof

@[simp] theorem State.tap_setTap_same (s : State) (u : Nat) (t : Tap) : (s.setTap u t).tap u = t := tget_tset_same _ _ _ _

theorem State.setTap_rd (s : State) (u : Nat) (t : Tap) (f : Fld) : (s.setTap u t).rd f = s.rd f := rfl

@[simp] theorem State.wr_tap (s : State) (f : Fld) (v u : Nat) : (s.wr f v).tap u = s.tap u := rfl

section Tap
variable {s : State} {u : Nat}

theorem blkOf_A_LOOP_TAP_CTRL (hu : u < 16) : blkOf (A_LOOP_TAP_CTRL u) = 9 := by
  simp only [blkOf, A_LOOP_TAP_CTRL]; omega

/-! ### ARM -/

/-- The tap before it runs: its status, PRE and samples are cleared, and T0 shows the instant `ct` (R305). -/
def State.tapClear (s : State) (u ct : Nat) : State :=
  ((((s.wrW (A_LOOP_TAP_STAT u) 0).wrW (A_LOOP_TAP_PRE u) 0).wr (LOOP_TAP_T0_NS u) (ctNs ct)).wr (LOOP_TAP_T0_SEC u)
    (ctSec ct)).setTap u Tap.zero

theorem State.tapClear_rdW_stat (s : State) (u ct : Nat) : (s.tapClear u ct).rdW (A_LOOP_TAP_STAT u) = 0 := by
  have hsec : (LOOP_TAP_T0_SEC u).addr ≠ A_LOOP_TAP_STAT u := by simp only [LOOP_TAP_T0_SEC, A_LOOP_TAP_T0_SEC, A_LOOP_TAP_STAT]; omega
  have hns : (LOOP_TAP_T0_NS u).addr ≠ A_LOOP_TAP_STAT u := by simp only [LOOP_TAP_T0_NS, A_LOOP_TAP_T0_NS, A_LOOP_TAP_STAT]; omega
  have hpre : A_LOOP_TAP_PRE u ≠ A_LOOP_TAP_STAT u := by simp only [A_LOOP_TAP_PRE, A_LOOP_TAP_STAT]; omega
  rw [State.tapClear, State.setTap, State.setLoop_rdW, State.rdW_wr_ne _ _ _ hsec, State.rdW_wr_ne _ _ _ hns,
    State.rdW_wrW_ne _ _ hpre, State.rdW_wrW_same]

/-- Every field of a cleared tap's status reads 0. -/
theorem State.tapClear_rd_stat (s : State) (u ct : Nat) {f : Fld} (hf : f.addr = A_LOOP_TAP_STAT u) :
    (s.tapClear u ct).rd f = 0 := by
  rw [State.rd, hf, State.tapClear_rdW_stat]
  simp [bitsOf]

/-- A tap with a node and a RATE of its own, and with POST within a DEPTH above 0, is cleared and runs (R305, R306). -/
theorem State.tapArm_of_ready (p : Port) (hpost : s.rd (LOOP_TAP_LEN_POST u) ≤ s.rd (LOOP_TAP_LEN_DEPTH u))
    (hdepth : 0 < s.rd (LOOP_TAP_LEN_DEPTH u)) (hrate : s.rd (LOOP_TAP_CFG_RATE u) ≠ 3)
    (hnode : s.isNode (s.rd (LOOP_TAP_CFG_NODE u)) = true) :
    ∃ ct, s.tapArm p u = (s.tapClear u ct).wr (LOOP_TAP_STAT_RUN u) 1 := by
  have htaken : ¬ (s.rd (LOOP_TAP_LEN_POST u) > s.rd (LOOP_TAP_LEN_DEPTH u) ∨ s.rd (LOOP_TAP_CFG_RATE u) = 3 ∨
      (!s.isNode (s.rd (LOOP_TAP_CFG_NODE u))) = true) := by
    rintro (h | h | h)
    · exact absurd hpost (Nat.not_le.mpr h)
    · exact hrate h
    · rw [hnode] at h
      cases h
  exact ⟨_, (if_neg htaken).trans (if_neg hdepth.ne')⟩

/-- A tap that is armed runs, neither triggered nor done, with no sample taken (R305, R306). -/
theorem State.tapClear_run_spec (s : State) (u ct : Nat) :
    ((s.tapClear u ct).wr (LOOP_TAP_STAT_RUN u) 1).rd (LOOP_TAP_STAT_RUN u) = 1 ∧
      ((s.tapClear u ct).wr (LOOP_TAP_STAT_RUN u) 1).rd (LOOP_TAP_STAT_DONE u) = 0 ∧
      ((s.tapClear u ct).wr (LOOP_TAP_STAT_RUN u) 1).rd (LOOP_TAP_STAT_TRIGGERED u) = 0 ∧
      ((s.tapClear u ct).wr (LOOP_TAP_STAT_RUN u) 1).tap u = Tap.zero := by
  refine ⟨State.rd_wr_same _ _ _ (by simp [LOOP_TAP_STAT_RUN]), ?_, ?_,
    (State.wr_tap _ _ _ u).trans (State.tap_setTap_same _ u Tap.zero)⟩
  · rw [State.rd_wr_apart _ _ _ _ (by simp [Fld.apart, LOOP_TAP_STAT_RUN, LOOP_TAP_STAT_DONE]),
      State.tapClear_rd_stat s u ct (f := LOOP_TAP_STAT_DONE u) rfl]
  · rw [State.rd_wr_apart _ _ _ _ (by simp [Fld.apart, LOOP_TAP_STAT_RUN, LOOP_TAP_STAT_TRIGGERED]),
      State.tapClear_rd_stat s u ct (f := LOOP_TAP_STAT_TRIGGERED u) rfl]

theorem State.tapArm_of_short (p : Port) (h : s.rd (LOOP_TAP_LEN_DEPTH u) < s.rd (LOOP_TAP_LEN_POST u)) :
    s.tapArm p u = s.range p (A_LOOP_TAP_CTRL u) := if_pos (.inl h)

/-! ### TRIG -/

/-- What a trigger shows: TRIGGERED, the place of the next sample, and the samples kept before it (R305). -/
def State.tapShowTrig (s : State) (u idx pre : Nat) : State :=
  ((s.wr (LOOP_TAP_STAT_TRIGGERED u) 1).wr (LOOP_TAP_STAT_TRIG_IDX u) idx).wr (LOOP_TAP_PRE u) pre

theorem State.tapShowTrig_spec (s : State) (u idx pre : Nat) : (s.tapShowTrig u idx pre).rd (LOOP_TAP_STAT_TRIGGERED u) = 1 ∧
    s.onlyFields (s.tapShowTrig u idx pre) [LOOP_TAP_STAT_TRIGGERED u, LOOP_TAP_STAT_TRIG_IDX u, LOOP_TAP_PRE u] := by
  have hpre : (LOOP_TAP_PRE u).addr ≠ (LOOP_TAP_STAT_TRIGGERED u).addr := by
    simp only [LOOP_TAP_PRE, LOOP_TAP_STAT_TRIGGERED, A_LOOP_TAP_PRE, A_LOOP_TAP_STAT]; omega
  refine ⟨?_, State.onlyFields_wr (State.onlyFields_wr (State.onlyFields_wr (s.onlyFields_refl _) (by simp)) (by simp)) (by simp)⟩
  rw [State.tapShowTrig, State.rd_wr_apart _ _ _ _ (.inl hpre),
    State.rd_wr_apart _ _ _ _ (by simp [Fld.apart, LOOP_TAP_STAT_TRIG_IDX, LOOP_TAP_STAT_TRIGGERED])]
  exact State.rd_wr_same _ _ _ (by simp [LOOP_TAP_STAT_TRIGGERED])

/-- The first trigger of a running tap leaves its POST samples still to take, or in MODE 1 its DEPTH samples (R305). -/
theorem State.tapTrig_of_running (htrig : s.rd (LOOP_TAP_STAT_TRIGGERED u) = 0) (hrun : s.rd (LOOP_TAP_STAT_RUN u) = 1) :
    ∃ idx pre, s.tapTrig u = (s.tapShowTrig u idx pre).setTap u { s.tap u with
      left := if s.rd (LOOP_TAP_CFG_MODE u) = 0 then s.rd (LOOP_TAP_LEN_POST u) else s.rd (LOOP_TAP_LEN_DEPTH u) } := by
  rw [State.tapTrig, if_neg (by simp [State.on, htrig]), if_neg (by simp [State.on, hrun])]
  simp only [decide_eq_true_eq]
  exact ⟨_, _, rfl⟩

theorem State.tapTrig_of_triggered (htrig : s.rd (LOOP_TAP_STAT_TRIGGERED u) = 1) : s.tapTrig u = s.inc (LOOP_TAP_STAT_EXTRA u) :=
  if_pos (by simp [State.on, htrig])

/-! ### The end of a recording -/

/-- A tap that runs ends with DONE (R305, R306). -/
theorem State.tapEnd_spec (hrun : s.rd (LOOP_TAP_STAT_RUN u) = 1) : (s.tapEnd u).rd (LOOP_TAP_STAT_RUN u) = 0 ∧
    (s.tapEnd u).rd (LOOP_TAP_STAT_DONE u) = 1 ∧ s.onlyFields (s.tapEnd u) [LOOP_TAP_STAT_RUN u, LOOP_TAP_STAT_DONE u] := by
  rw [State.tapEnd, if_pos (by simp [State.on, hrun])]
  refine ⟨?_, State.rd_wr_same _ _ _ (by simp [LOOP_TAP_STAT_DONE]),
    State.onlyFields_trans (s.wr_onlyFields _ 0) (State.wr_onlyFields _ _ 1)⟩
  rw [State.rd_wr_apart _ _ _ _ (by simp [Fld.apart, LOOP_TAP_STAT_DONE, LOOP_TAP_STAT_RUN])]
  exact State.rd_wr_same _ _ _ (by simp [LOOP_TAP_STAT_RUN])

end Tap

/-! ### The trace base -/

theorem State.writeTraceBase_of_idle {s : State} (p : Port) (v : Nat) (h : ∀ u, u < 16 → s.rd (LOOP_TAP_STAT_RUN u) = 0) :
    s.writeTraceBase p v = s.wr LOOP_TRACE_BASE_BASE (v / 262144) := by
  refine if_neg ?_
  simpa [State.on] using h

theorem State.writeTraceBase_of_running {s : State} (p : Port) (v : Nat) {u : Nat} (hu : u < 16)
    (hrun : s.rd (LOOP_TAP_STAT_RUN u) = 1) : s.writeTraceBase p v = s.range p A_LOOP_TRACE_BASE :=
  if_pos (List.any_eq_true.mpr ⟨u, List.mem_range.mpr hu, by simp [State.on, hrun]⟩)

/-! ### The orders -/

/-- Settles O39: each order is one operation of a tap, or of the trace base, which is taken under its conditions. -/
theorem taps : Obligations.Taps := by
  refine ⟨fun p u s hu hpost hdepth hrate hnode => ?arm, fun p u s hu hshort hfresh => ?armRefused,
    fun u s hu htrig hrun => ?trigger, fun u s hu htrig => ?triggerAgain, fun u s hu hrun => ?stop,
    fun u s hu htrig hleft hrun => ?done, fun p v s hidle => ?base, fun p v u s hu hrun hfresh => ?baseRefused⟩
  case arm =>
    obtain ⟨ct, harm⟩ := State.tapArm_of_ready p hpost hdepth hrate hnode
    obtain ⟨hrun, hdone, htriggered, htap⟩ := s.tapClear_run_spec u ct
    exact ⟨_, (if_pos hu).trans (congrArg Host.Outcome.next harm), hrun, hdone, htriggered, htap, rfl, rfl⟩
  case armRefused =>
    exact ⟨_, (if_pos hu).trans (congrArg Host.Outcome.next (State.tapArm_of_short p hshort)),
      State.loopRange_of_fresh hfresh p (blkOf_A_LOOP_TAP_CTRL hu)⟩
  case trigger =>
    obtain ⟨idx, pre, htaken⟩ := State.tapTrig_of_running htrig hrun
    obtain ⟨htriggered, -, hfields⟩ := s.tapShowTrig_spec u idx pre
    refine ⟨_, (if_pos hu).trans (congrArg Host.Outcome.next htaken), (State.setTap_rd _ _ _ _).trans htriggered, ?_,
      fun f hf => (State.setTap_rd _ _ _ f).trans (hfields f hf), rfl⟩
    rw [State.tap_setTap_same]
  case triggerAgain =>
    exact ⟨_, (if_pos hu).trans (congrArg Host.Outcome.next (State.tapTrig_of_triggered htrig)),
      s.rd_inc_same _ (by simp [LOOP_TAP_STAT_EXTRA]), State.onlyFields_inc (s.onlyFields_refl _) (by simp)⟩
  case stop =>
    exact ⟨_, if_pos hu, State.tapEnd_spec hrun⟩
  case done =>
    exact ⟨_, if_pos ⟨hu, by simp [State.on, htrig], hleft⟩, State.tapEnd_spec hrun⟩
  case base =>
    exact ⟨_, congrArg Host.Outcome.next (State.writeTraceBase_of_idle p v.toNat hidle), State.rd_wr_same _ _ _ (by decide),
      s.wr_onlyFields LOOP_TRACE_BASE_BASE _⟩
  case baseRefused =>
    exact ⟨_, congrArg Host.Outcome.next (State.writeTraceBase_of_running p v.toNat hu hrun),
      State.loopRange_of_fresh hfresh p (by decide)⟩

end Sys2Proof.Machine
end

section
/-! A command that reaches one Skerry, and the fields that its log, its health, its force and its gates write (R363, R371, R381, R503). -/

namespace Sys2Proof.Machine
open Sys2Proof

/-! ### A command that reaches one cell -/

theorem State.onCell_next {s : State} {g : Nat} {f : Skerry → Skerry} {l : Skerry} {P : State → Prop} (hf : f (s.cell g) = l)
    (hP : ∀ t : State, t.cell g = l → s.onlyCell t g → P t) :
    ∃ t, (.next (s.onCell g f) : Host.Outcome State Fault Refusal) = .next t ∧ P t :=
  ⟨_, rfl, hP _ ((s.cell_onCell g f).trans hf) (s.onCell_onlyCell g f)⟩

theorem State.runCell_next {s : State} {g : Nat} {f : Skerry → Skerry} {l : Skerry} {P : State → Prop}
    (hrun : (s.cell g).inRun = true) (hf : f (s.cell g) = l) (hP : ∀ t : State, t.cell g = l → s.onlyCell t g → P t) :
    ∃ t, (.next (s.runCell g f) : Host.Outcome State Fault Refusal) = .next t ∧ P t := by
  rw [State.runCell_of_run hrun]
  exact State.onCell_next hf hP

theorem State.onlyCell_same {s t : State} {g : Nat} (hg : t.cell g = s.cell g) (h : s.onlyCell t g) : ∀ j, t.cell j = s.cell j :=
  fun j => if hj : j = g then hj ▸ hg else h.2 j hj

/-! ### What the log, the latches and the gates write -/

theorem Skerry.log_rd (k : Skerry) (code : Nat) (data : List Nat) {f : Fld} (hf : ∀ e ∈ [SK_LOG_WIDX, SK_LOG_CNT], e.apart f) :
    (k.log code data).rd f = k.rd f := k.log_keepsBut code data f hf

theorem Skerry.heal_rd (k : Skerry) {f : Fld} (hf : ∀ e ∈ [SK_TOP_STAT_HEALTH, SK_TOP_STAT_FAULT], e.apart f) :
    k.heal.rd f = k.rd f := Skerry.keepsBut_wr (Skerry.keepsBut_wr (k.keepsBut_refl _) (by simp)) (by simp) f hf

theorem Skerry.dropForce_rd (k : Skerry) {f : Fld}
    (hf : ∀ e ∈ [SK_GATE_FORCE_EN, SK_GATE_FORCE_PEND, SK_GATE_STAT_FORCED], e.apart f) : k.dropForce.rd f = k.rd f :=
  Skerry.keepsBut_wr (Skerry.keepsBut_wr (Skerry.keepsBut_wr (k.keepsBut_refl _) (by simp)) (by simp)) (by simp) f hf

theorem Skerry.drive_frame (k : Skerry) (j : Nat) (v : Bool) :
    k.drive j v = { k with regs := (k.drive j v).regs, gate := (k.drive j v).gate } ∧ k.keepsBut (k.drive j v) [SK_GATE_STAT_OUT] := by
  unfold Skerry.drive
  split
  · exact ⟨rfl, k.keepsBut_refl _⟩
  · exact ⟨rfl, Skerry.keepsBut_wr (fun _ _ => rfl) (by simp)⟩

theorem Skerry.foldl_drive_frame (js : List Nat) : ∀ k : Skerry, js.foldl (fun k j => k.drive j false) k =
      { k with regs := (js.foldl (fun k j => k.drive j false) k).regs, gate := (js.foldl (fun k j => k.drive j false) k).gate } ∧
    k.keepsBut (js.foldl (fun k j => k.drive j false) k) [SK_GATE_STAT_OUT] := by
  induction js with
  | nil => exact fun k => ⟨rfl, k.keepsBut_refl _⟩
  | cons j js ih =>
    intro k
    obtain ⟨hone, hrd⟩ := k.drive_frame j false
    obtain ⟨hrest, hrd'⟩ := ih (k.drive j false)
    refine ⟨?_, fun f hf => (hrd' f hf).trans (hrd f hf)⟩
    rw [List.foldl_cons, hrest, hone]

/-- Turning every channel off is an affair of the gate timer and its status. -/
theorem Skerry.allOff_frame (k : Skerry) : k.allOff = { k with regs := k.allOff.regs, gate := k.allOff.gate } ∧
    k.keepsBut k.allOff [SK_GATE_STAT_OUT, SK_GATE_STAT_CLAMP, SK_GATE_STAT_MODULATING, SK_GATE_STAT_EDGE_PEND] := by
  obtain ⟨hk, hrd⟩ := Skerry.foldl_drive_frame [0, 1, 2, 3] k
  refine ⟨?_, Skerry.keepsBut_wr (Skerry.keepsBut_wr (Skerry.keepsBut_wr (Skerry.keepsBut_mono hrd (by simp)) ?_) ?_) ?_⟩
  · rw [Skerry.allOff, hk]
    rfl
  all_goals simp

theorem Skerry.allOff_rd (k : Skerry) {f : Fld} (hf : ∀ e ∈ [SK_GATE_STAT_OUT, SK_GATE_STAT_CLAMP, SK_GATE_STAT_MODULATING,
    SK_GATE_STAT_EDGE_PEND], e.apart f) : k.allOff.rd f = k.rd f := k.allOff_frame.2 f hf

@[simp] theorem Skerry.allOff_pow (k : Skerry) : k.allOff.pow = k.pow := by rw [k.allOff_frame.1]

@[simp] theorem Skerry.heal_pow (k : Skerry) : k.heal.pow = k.pow := rfl

@[simp] theorem Skerry.heal_byte (k : Skerry) (a : Nat) : k.heal.byte a = k.byte a := rfl

@[simp] theorem Skerry.dropForce_pow (k : Skerry) : k.dropForce.pow = k.pow := rfl

end Sys2Proof.Machine
end

section
/-! The power states of a Skerry: what an entry into DEEP HOLD, START, RUN and REPEAT leaves (R348 to R353, R360, R394). -/

namespace Sys2Proof.Machine
open Sys2Proof

/-! ### What an entry into DEEP HOLD shows -/

/-- What an entry into DEEP HOLD shows in the registers, and the log (R350). -/
def Skerry.holdShown (k : Skerry) (row : Nat) : Skerry :=
  let l := ((k.wr SK_PWR_EVT_HELD 1).inc SK_PWR_HOLD_CNT).wr SK_PWR_HOLD_SEC (ctSec k.ct)
  let l := ((l.log 0x0003 [row]).dropForce).allOff
  let l := ((l.wr SK_GATE_STAT_HIZ 0).wr SK_GATE_STAT_TARGET ST_BLOCK).wr SK_PWR_STAT_AUX 0
  let l := (l.wr (SK_LINK_STAT_STATE 0) 0).wr (SK_LINK_STAT_STATE 1) 0
  ((l.wr SK_TOP_STAT_LOCK_H 0).wr SK_TOP_STAT_LOCK_T 0).wr SK_TOP_STAT_PART 0

theorem Skerry.holdShown_rd (k : Skerry) (row : Nat) :
    (k.holdShown row).rd SK_PWR_EVT_HELD = 1 ∧ (k.holdShown row).rd SK_PWR_STAT_AUX = 0 ∧
    ∀ f ∈ [SK_GATE_STAT_FIRED, SK_PWR_EVT_DIS_DONE, SK_PWR_STAT_DISCHARGING], (k.holdShown row).rd f = k.rd f := by
  simp (disch := decide) [Skerry.holdShown, Skerry.inc, Skerry.cnt, Skerry.rd_wr_same, Skerry.rd_wr_apart, Skerry.allOff_rd,
    Skerry.dropForce_rd, Skerry.log_rd]

theorem Skerry.holdShown_pow (k : Skerry) (row : Nat) : (k.holdShown row).pow = k.pow := by
  rw [Skerry.holdShown]
  repeat rw [Skerry.wr_pow]
  rw [Skerry.allOff_pow, Skerry.dropForce_pow, Skerry.log_pow, Skerry.wr_pow, Skerry.inc_pow, Skerry.wr_pow]

/-- The fast domain is off: SRAM and the state of its units are lost; `lock` tells a LOCKOUT (R350, R351). -/
def Skerry.fastOff (l : Skerry) (lock : Bool) : Skerry :=
  { l with
    pow := { l.pow with state := .deepHold, lockout := lock, fell := false, inputs := [], disNext := false }
    mem := l.mem.filter (fun e => decide (0x10000000 ≤ e.1))
    cmd := SkCmd.zero, gate := SkGate.zero, fr := SkFreight.zero, conv := Conv.zero, trigs := [], ports := [], pass := []
    clk := { l.clk with fbAcc := 0, fbTick := 0 } }

/-- A cell in no discharge enters DEEP HOLD; whether by a LOCKOUT is kept (R350, R351). -/
theorem Skerry.enterHold_of_idle {k : Skerry} (hdis : k.discharging = false) (row : Nat) :
    k.enterHold row = (k.holdShown row).fastOff (decide (k.rd SK_PWR_STAT_AUX = 4)) := by
  have haux : ((((k.wr SK_PWR_EVT_HELD 1).inc SK_PWR_HOLD_CNT).wr SK_PWR_HOLD_SEC (ctSec k.ct)).log 0x0003 [row]).rd SK_PWR_STAT_AUX =
      k.rd SK_PWR_STAT_AUX := by
    simp (disch := decide) only [Skerry.inc, Skerry.cnt, Skerry.rd_wr_apart, Skerry.log_rd]
  simp only [Skerry.enterHold, hdis, Bool.false_eq_true, if_false, haux]
  rfl

/-! ### The end of a discharge -/

theorem Skerry.ct_wr (k : Skerry) {f : Fld} (v : Nat) (hpath : f.apart SK_TIME_STAT_PATH) (hrate : f.apart SK_TIME_RATE) :
    (k.wr f v).ct = k.ct := by
  rw [Skerry.ct, Skerry.rate, Skerry.rdS, Skerry.rd_wr_apart _ _ _ _ hpath, Skerry.rd_wr_apart _ _ _ _ hrate]
  rfl

/-- DIS_EN falls, and the time since the start is recorded (R358). -/
theorem Skerry.endDischarge_spec (k : Skerry) : k.endDischarge.discharging = false ∧
    k.endDischarge.rd SK_PWR_DIS_TIME = min (ctSec k.ct - k.pow.disFrom) 0xFFFF ∧
    k.onlyFields k.endDischarge [SK_PWR_STAT_DISCHARGING, SK_PWR_STAT_DIS_PAUSED, SK_PWR_DIS_TIME] := by
  refine ⟨?_, ?_, Skerry.onlyFields_wr (Skerry.onlyFields_wr (Skerry.onlyFields_wr (k.onlyFields_refl _) ?_) ?_) ?_⟩
  · simp (disch := decide) [Skerry.discharging, Skerry.on, Skerry.endDischarge, Skerry.rd_wr_same, Skerry.rd_wr_apart]
  · rw [Skerry.endDischarge, Skerry.rd_wr_same _ _ _ (by decide), Skerry.ct_wr _ _ (by decide) (by decide),
      Skerry.ct_wr _ _ (by decide) (by decide)]
    exact Nat.mod_eq_of_lt (Nat.lt_of_le_of_lt (Nat.min_le_right _ _) (by decide))
  all_goals simp

/-! ### Entry into DEEP HOLD -/

/-- A cell that discharges ends its discharge first. -/
theorem Skerry.enterHold_of_discharging {k : Skerry} (hdis : k.discharging = true) (row : Nat) :
    k.enterHold row = k.endDischarge.enterHold row := by
  simp only [Skerry.enterHold, hdis, k.endDischarge_spec.1, Bool.false_eq_true, if_true, if_false]

/-- `l` is `k` after an entry into DEEP HOLD (R350, R351). -/
structure Skerry.Held (k l : Skerry) : Prop where
  pow : l.pow = { k.pow with
    state := .deepHold, lockout := decide (k.rd SK_PWR_STAT_AUX = 4), fell := false, inputs := [], disNext := false }
  held : l.rd SK_PWR_EVT_HELD = 1
  aux : l.rd SK_PWR_STAT_AUX = 0
  idle : l.discharging = false
  sram : ∀ a, a < 0x10000000 → l.byte a = 0
  kept : ∀ f ∈ [SK_GATE_STAT_FIRED, SK_PWR_EVT_DIS_DONE], l.rd f = k.rd f

theorem Skerry.enterHold_held_of_idle {k : Skerry} (hdis : k.discharging = false) (row : Nat) : k.Held (k.enterHold row) := by
  obtain ⟨hheld, haux, hrd⟩ := k.holdShown_rd row
  rw [Skerry.enterHold_of_idle hdis]
  refine ⟨?_, hheld, haux, ?_, fun a ha => tget_filter_of_false (fun _ => (0 : Byte)) _ (by simpa using ha) _,
    fun f hf => hrd f (List.mem_append_left [SK_PWR_STAT_DISCHARGING] hf)⟩
  · simp only [Skerry.fastOff, Skerry.holdShown_pow]
  · rw [← hdis]
    exact congrArg (fun n : Nat => decide (n ≠ 0)) (hrd SK_PWR_STAT_DISCHARGING (by simp))

theorem Skerry.enterHold_held (k : Skerry) (row : Nat) : k.Held (k.enterHold row) := by
  cases hdis : k.discharging with
  | false => exact Skerry.enterHold_held_of_idle hdis row
  | true =>
    obtain ⟨hoff, -, hfields⟩ := k.endDischarge_spec
    obtain ⟨hpow, hheld, haux, hidle, hsram, hkept⟩ := Skerry.enterHold_held_of_idle hoff row
    rw [Skerry.enterHold_of_discharging hdis]
    refine ⟨?_, hheld, haux, hidle, hsram, fun f hf => (hkept f hf).trans (hfields.2 f ?_)⟩
    · rw [hpow, hfields.2 SK_PWR_STAT_AUX (by decide)]
      rfl
    · revert f
      decide

/-! ### Entry into START -/

theorem Skerry.enterStart_spec (k : Skerry) (cause : Nat) (dark : Bool) :
    (k.enterStart cause dark).pow = { k.pow with state := .start, wake := cause, fromDark := dark } ∧
    (k.enterStart cause dark).rd SK_PWR_STAT_AUX = 1 ∧ k.keepsBut (k.enterStart cause dark) [SK_PWR_STAT_AUX] :=
  ⟨rfl, k.rd_wr_same SK_PWR_STAT_AUX 1 (by decide), k.wr_keepsBut SK_PWR_STAT_AUX 1⟩

/-! ### Entry into RUN -/

theorem Skerry.startFast_pow (k : Skerry) : k.startFast.pow = { k.pow with state := .run } := rfl

theorem Skerry.runPending_of_none {k : Skerry} (hins : k.pow.inputs = []) (hdis : k.pow.disNext = false) : k.runPending = k := by
  have hpow : { k.pow with inputs := [], disNext := false } = k.pow := by rw [← hins, ← hdis]
  rw [Skerry.runPending, hins, hdis, hpow]
  rfl

theorem Skerry.runShown_rd (k : Skerry) (cause prev : Nat) {f : Fld}
    (hf : ∀ e ∈ [SK_PWR_STAT_WAKE_CAUSE, SK_PWR_STAT_PREV, SK_PWR_RUN_SEC, SK_LOG_WIDX, SK_LOG_CNT], e.apart f) :
    (k.runShown cause prev).rd f = k.rd f :=
  (Skerry.log_rd _ _ _ (fun e he => hf e (by revert e; simp))).trans (Skerry.keepsBut_wr (Skerry.keepsBut_wr (Skerry.keepsBut_wr
    (k.keepsBut_refl _) (by simp)) (by simp)) (by simp) f hf)

/-- BYP_FB asserted at the entry into RUN sets FIRED; a switch not known to be closed is known so now (R394). -/
def Skerry.feedbackAtEntry (k : Skerry) (fb : Bool) : Skerry :=
  if fb then
    let k := (k.wr SK_GATE_STAT_BYP_FB 1).wr SK_GATE_STAT_FIRED 1
    if k.pow.closed then k
    else
      let k := k.setPow { k.pow with closed := true, fireCause := if k.pow.fireCause = 0 then 3 else k.pow.fireCause }
      (k.log 0x0040 [3]).heal
  else k

/-- The feedback leaves the fields that the entry shows, what waits for RUN, and SRAM. -/
structure Skerry.Feedback (k : Skerry) (fb : Bool) (l : Skerry) : Prop where
  state : l.pow.state = k.pow.state
  inputs : l.pow.inputs = k.pow.inputs
  disNext : l.pow.disNext = k.pow.disNext
  shown : ∀ f ∈ [SK_PWR_STAT_AUX, SK_PWR_STAT_GS_OK, SK_PWR_STAT_WAKE_CAUSE, SK_PWR_STAT_PREV], l.rd f = k.rd f
  sram : ∀ a, a < 0x10000000 → l.byte a = k.byte a
  fired : fb = true → l.rd SK_GATE_STAT_FIRED = 1 ∧ l.rd SK_GATE_STAT_BYP_FB = 1 ∧ l.pow.closed = true

theorem Skerry.feedbackAtEntry_spec (k : Skerry) (fb : Bool) : k.Feedback fb (k.feedbackAtEntry fb) := by
  cases fb with
  | false => exact ⟨rfl, rfl, rfl, fun _ _ => rfl, fun _ _ => rfl, nofun⟩
  | true =>
    simp only [Skerry.feedbackAtEntry, if_true]
    split
    next hclosed =>
      refine ⟨rfl, rfl, rfl, ?_, fun _ _ => rfl, fun _ => ⟨?_, ?_, hclosed⟩⟩
      all_goals simp (disch := decide) [Skerry.rd_wr_same, Skerry.rd_wr_apart]
    next =>
      have hpow := fun l : Skerry => (Skerry.heal_pow _).trans (l.log_pow 0x0040 [3])
      refine ⟨by rw [hpow]; rfl, by rw [hpow]; rfl, by rw [hpow]; rfl, ?_, fun a ha => ?_, fun _ => ⟨?_, ?_, by rw [hpow]; rfl⟩⟩
      case refine_2 => rw [Skerry.heal_byte, Skerry.log_byte_sram _ _ _ ha, Skerry.setPow_byte, Skerry.wr_byte, Skerry.wr_byte]
      all_goals simp (disch := decide) [Skerry.rd_wr_same, Skerry.rd_wr_apart, Skerry.heal_rd, Skerry.log_rd]

/-- The fast domain runs, and the entry into RUN is shown and logged (R350, R352). -/
def Skerry.startShown (k : Skerry) (gs : Nat) : Skerry :=
  ((k.startFast.wr SK_PWR_STAT_AUX 2).wr SK_PWR_STAT_GS_OK gs).runShown (if k.pow.fromDark then 0 else k.pow.wake)
    (if k.pow.fromDark then 0 else 1)

theorem Skerry.startShown_spec (k : Skerry) (gs : Nat) : (k.startShown gs).pow = { k.pow with state := .run } ∧
    (k.startShown gs).rd SK_PWR_STAT_AUX = 2 ∧ (k.startShown gs).rd SK_PWR_STAT_GS_OK = gs % 16 ∧
    (k.startShown gs).rd SK_PWR_STAT_WAKE_CAUSE = (if k.pow.fromDark then 0 else k.pow.wake % 16) ∧
    (k.startShown gs).rd SK_PWR_STAT_PREV = (if k.pow.fromDark then 0 else 1) ∧
    ∀ a, a < 0x10000000 → (k.startShown gs).byte a = 0 := by
  obtain ⟨-, -, hsram⟩ := k.startFast_spec
  obtain ⟨hcause, hprev, -, hpow, hbyte⟩ := ((k.startFast.wr SK_PWR_STAT_AUX 2).wr SK_PWR_STAT_GS_OK gs).runShown_spec
    (if k.pow.fromDark then 0 else k.pow.wake) (if k.pow.fromDark then 0 else 1)
  refine ⟨hpow.trans ?_, ?_, ?_, hcause.trans ?_, hprev.trans ?_, fun a ha => (hbyte a ha).trans ?_⟩
  · rw [Skerry.wr_pow, Skerry.wr_pow, Skerry.startFast_pow]
  · rw [Skerry.startShown, Skerry.runShown_rd _ _ _ (by decide), Skerry.rd_wr_apart _ _ _ _ (by decide),
      Skerry.rd_wr_same _ _ _ (by decide)]
    rfl
  · rw [Skerry.startShown, Skerry.runShown_rd _ _ _ (by decide), Skerry.rd_wr_same _ _ _ (by decide)]
    rfl
  · split <;> rfl
  · split <;> rfl
  · rw [Skerry.wr_byte, Skerry.wr_byte, hsram a ha]

/-- The entry is over, and what waited for it begins (R357, R390). -/
def Skerry.startOver (k : Skerry) : Skerry := (k.setPow { k.pow with fromDark := false }).runPending

theorem Skerry.startOver_of_none {k : Skerry} (hins : k.pow.inputs = []) (hdis : k.pow.disNext = false) :
    k.startOver = k.setPow { k.pow with fromDark := false } := Skerry.runPending_of_none hins hdis

/-- The entry into RUN from START (R348 row 5). -/
def Skerry.enterRun (k : Skerry) (gs : Nat) (fb : Bool) : Skerry := ((k.startShown gs).feedbackAtEntry fb).startOver

/-- What a cell that has entered RUN shows, with nothing waiting for the entry (R348, R352, R394). -/
theorem Skerry.enterRun_spec {k : Skerry} (hins : k.pow.inputs = []) (hdis : k.pow.disNext = false) (gs : Nat) (fb : Bool) :
    (k.enterRun gs fb).pow.state = .run ∧ (k.enterRun gs fb).rd SK_PWR_STAT_AUX = 2 ∧
    (k.enterRun gs fb).rd SK_PWR_STAT_GS_OK = gs % 16 ∧ (k.enterRun gs fb).pow.fromDark = false ∧
    (k.enterRun gs fb).rd SK_PWR_STAT_WAKE_CAUSE = (if k.pow.fromDark then 0 else k.pow.wake % 16) ∧
    (k.enterRun gs fb).rd SK_PWR_STAT_PREV = (if k.pow.fromDark then 0 else 1) ∧
    (fb = true → (k.enterRun gs fb).rd SK_GATE_STAT_FIRED = 1 ∧ (k.enterRun gs fb).rd SK_GATE_STAT_BYP_FB = 1 ∧
      (k.enterRun gs fb).pow.closed = true) ∧
    ∀ a, a < 0x10000000 → (k.enterRun gs fb).byte a = 0 := by
  obtain ⟨hpow, haux, hgs, hcause, hprev, hzero⟩ := k.startShown_spec gs
  obtain ⟨hstate, hinputs, hnext, hshown, hsram, hfired⟩ := (k.startShown gs).feedbackAtEntry_spec fb
  rw [Skerry.enterRun]
  generalize k.startShown gs = m at *
  generalize m.feedbackAtEntry fb = n at *
  rw [Skerry.startOver_of_none (hinputs.trans ((congrArg SkPower.inputs hpow).trans hins))
    (hnext.trans ((congrArg SkPower.disNext hpow).trans hdis))]
  exact ⟨hstate.trans (congrArg SkPower.state hpow), (hshown _ (by simp)).trans haux, (hshown _ (by simp)).trans hgs, rfl,
    (hshown _ (by simp)).trans hcause, (hshown _ (by simp)).trans hprev, hfired, fun a ha => (hsram a ha).trans (hzero a ha)⟩

/-! ### Return from REPEAT, and entry into it -/

theorem Skerry.startDischarge_cmd (k : Skerry) : k.startDischarge.cmd = k.cmd := by
  unfold Skerry.startDischarge
  split
  · rfl
  · exact (Skerry.cmd_of_kept (Skerry.kept_log _ _ _)).trans (Skerry.inc_cmd _ _)

theorem Skerry.runPending_cmd (k : Skerry) : k.runPending.cmd = k.cmd := by
  have hlatched : ∀ l : Skerry, (if k.pow.inputs.isEmpty then l else (l.latchInputs k.pow.inputs).rank1).cmd = l.cmd := fun l => by
    split
    · rfl
    · exact Skerry.cmd_of_kept ((Skerry.kept_rank1 _).trans (l.kept_latchInputs _))
  simp only [Skerry.runPending]
  split
  · exact (Skerry.startDischarge_cmd _).trans (hlatched _)
  · exact hlatched _

/-- A cell that returns to RUN ignores flash orders until a commit of a later ferry (R349). -/
theorem Skerry.wakeRun_blocked (k : Skerry) (cause : Nat) : (k.wakeRun cause).cmd.blocked = true := by
  obtain ⟨l, hl, hblocked⟩ : ∃ l : Skerry, k.wakeRun cause = (l.runShown cause 2).runPending ∧ l.cmd.blocked = true := by
    refine ⟨_, rfl, ?_⟩
    rw [Skerry.wr_cmd, Skerry.setCmd_cmd]
  rw [hl, Skerry.runPending_cmd, Skerry.runShown, Skerry.cmd_of_kept (Skerry.kept_log _ _ _)]
  exact hblocked

theorem Skerry.enterRepeat_spec (k : Skerry) (silence : Bool) : (k.enterRepeat silence).pow.state = .repeating ∧
    (k.enterRepeat silence).pow.bySilence = silence ∧ (k.enterRepeat silence).rd SK_PWR_EVT_PARKED = 1 ∧
    (k.enterRepeat silence).rd SK_PWR_STAT_PARK_PEND = 0 := by
  refine ⟨rfl, rfl, ?_, ?_⟩ <;> rw [Skerry.enterRepeat, Skerry.setPow_rd] <;>
    simp (disch := decide) [Skerry.rd_wr_same, Skerry.rd_wr_apart, Skerry.allOff_rd, Skerry.dropForce_rd]

/-! ### Parking, and the end of DARK -/

/-- Whether an order to park is pending says nothing of the gates or of a discharge (R360). -/
theorem Skerry.parkPend_cleared (k : Skerry) : (k.wr SK_PWR_STAT_PARK_PEND 0).gatesOff = k.gatesOff ∧
    (k.wr SK_PWR_STAT_PARK_PEND 0).discharging = k.discharging := by
  constructor
  · rw [Skerry.gatesOff, Skerry.hiZ, Skerry.on, Skerry.modulating, Skerry.on, Skerry.target, Skerry.rd_wr_apart _ _ _ _ (by decide),
      Skerry.rd_wr_apart _ _ _ _ (by decide), Skerry.rd_wr_apart _ _ _ _ (by decide)]
    rfl
  · rw [Skerry.discharging, Skerry.on, Skerry.rd_wr_apart _ _ _ _ (by decide)]
    rfl

/-- The Skerry leaves DARK with its straps sampled (R348 row 3). -/
def Skerry.strapped (ctype vfs : Nat) : Skerry :=
  (Skerry.dark.setPow { Skerry.dark.pow with state := .deepHold, ctype := ctype % 8, vfs := vfs % 4 }).log 0x0001 []

/-! ### The statement -/

/-- Settles O43: each command reaches its cell alone, and there it is one entry into a power state, or an order that waits for one. -/
theorem skerryPowerStates : Obligations.SkerryPowerStates := by
  refine ⟨fun g s => ?dark, fun g s hst => ?hold, fun g s hst => ?fell, fun g ctype vfs charged s hst => ?up,
    fun g src s hst hlo hhi hsrc => ?wake, fun g src s hst hlock h3 h2 => ?locked, fun g gs fb s hst hins hdis => ?run,
    fun g cause s hst hcause => ?back, fun g s hrun hoff hdis hpark hport => ?silence, fun g s hst hoff hdis hdark hH hT => ?darkHold,
    fun g tag s hrun hoff hdis => ?park, fun g late s hrun hpend hcoll hoff hdis => ?parked⟩
  case dark => exact ⟨_, rfl, s.cell_setCell_same g _, s.setCell_onlyCell g _⟩
  case hold =>
    obtain ⟨hpow, hheld, haux, -, hsram, hkept⟩ := (s.cell g).enterHold_held 2
    refine State.onCell_next (l := (s.cell g).enterHold 2) ?_ fun t ht hcell => ?_
    · rcases hst with h | h | h
      · simp only [h]
      · simp only [of_decide_eq_true h]
      · simp only [h]
    · rw [ht]
      exact ⟨congrArg SkPower.state hpow, hheld, haux, congrArg SkPower.lockout hpow, hsram, hkept _ (by simp), hcell⟩
  case fell =>
    refine State.onCell_next (l := (s.cell g).setPow { (s.cell g).pow with fell := true }) (by simp only [hst]) fun t ht hcell => ?_
    exact ⟨ht, hcell⟩
  case up =>
    have hpow : (Skerry.strapped ctype vfs).pow = { Skerry.dark.pow with state := .deepHold, ctype := ctype % 8, vfs := vfs % 4 } :=
      Skerry.log_pow _ _ _
    cases charged with
    | true =>
      obtain ⟨hstart, haux, -⟩ := (Skerry.strapped ctype vfs).enterStart_spec 0 true
      refine State.onCell_next (l := (Skerry.strapped ctype vfs).enterStart 0 true) (if_pos hst) fun t ht hcell => ?_
      rw [ht, hstart, hpow]
      exact ⟨rfl, rfl, rfl, rfl, haux, hcell⟩
    | false =>
      obtain ⟨hheld, -, haux, -, -, -⟩ := (Skerry.strapped ctype vfs).enterHold_held 3
      refine State.onCell_next (l := ((Skerry.strapped ctype vfs).enterHold 3).setPow
        { ((Skerry.strapped ctype vfs).enterHold 3).pow with fromDark := true }) (if_pos hst) fun t ht hcell => ?_
      rw [ht, Skerry.setPow_pow, Skerry.setPow_rd, hheld, hpow]
      exact ⟨rfl, rfl, rfl, rfl, haux, hcell⟩
  case wake =>
    obtain ⟨hpow, haux, hkeep⟩ :=
      ((s.cell g).setPow { (s.cell g).pow with disNext := decide (src = 4) }).enterStart_spec src false
    refine State.onCell_next (if_pos ⟨hst, hlo, hhi, by simp only [Bool.not_eq_true']; tauto⟩) fun t ht hcell => ?_
    rw [ht, hpow]
    exact ⟨rfl, rfl, rfl, haux, hkeep, hcell⟩
  case locked =>
    refine State.onCell_next (if_neg ?_) fun t ht hcell => State.onlyCell_same ht hcell
    rintro ⟨-, -, -, h⟩
    simp only [hlock, Bool.not_true, Bool.false_eq_true, h2, h3, false_and, or_self] at h
  case run =>
    obtain ⟨hstate, haux, hgs, hdark, hcause, hprev, hfb, hsram⟩ := Skerry.enterRun_spec hins hdis gs fb
    refine State.onCell_next (l := (s.cell g).enterRun gs fb) (if_pos hst) fun t ht hcell => ?_
    rw [ht]
    exact ⟨hstate, haux, hgs, hdark, hcause, hprev, hfb, hsram, hcell⟩
  case back =>
    obtain ⟨hstate, hshown, hprev⟩ :=
      ((s.cell g).setPow { (s.cell g).pow with disNext := (s.cell g).pow.disNext || decide (cause = 8) }).wakeRun_spec cause
    refine State.onCell_next (if_pos ⟨hst, by tauto⟩) fun t ht hcell => ?_
    rw [ht]
    refine ⟨hstate, hshown.trans (Nat.mod_eq_of_lt ?_), hprev, Skerry.wakeRun_blocked _ _, hcell⟩
    rcases hcause with rfl | rfl | ⟨rfl, -⟩ <;> decide
  case silence =>
    obtain ⟨hstate, hby, hparked, -⟩ := (s.cell g).enterRepeat_spec true
    refine State.runCell_next hrun (if_pos ⟨hoff, by simp [hdis], by simpa [Skerry.on] using hpark, hport⟩) fun t ht hcell => ?_
    rw [ht]
    exact ⟨hstate, hby, hparked, hcell⟩
  case darkHold =>
    obtain ⟨hpow, hheld, haux, -, hsram, -⟩ := (s.cell g).enterHold_held 8
    refine State.onCell_next (if_pos ⟨hst, hoff, by simp [hdis], by simpa [Skerry.on] using hdark, by simp [hH], by simp [hT]⟩)
      fun t ht hcell => ?_
    rw [ht]
    exact ⟨congrArg SkPower.state hpow, hheld, haux, hsram, hcell⟩
  case park =>
    refine State.runCell_next hrun (if_pos ⟨hoff, by simp [hdis]⟩) fun t ht hcell => ?_
    rw [ht]
    exact ⟨Skerry.rd_wr_same _ SK_PWR_STAT_PARK_PEND 1 (by decide), Skerry.wr_keepsBut _ SK_PWR_STAT_PARK_PEND 1, rfl, hcell⟩
  case parked =>
    obtain ⟨hoff', hdis'⟩ := (s.cell g).parkPend_cleared
    obtain ⟨hstate, hby, hparked, hpend'⟩ := ((s.cell g).wr SK_PWR_STAT_PARK_PEND 0).enterRepeat_spec false
    refine State.runCell_next hrun ((if_pos ⟨by simp [Skerry.on, hpend], hcoll⟩).trans
      (if_pos ⟨hoff'.trans hoff, by simp [hdis', hdis]⟩)) fun t ht hcell => ?_
    rw [ht]
    exact ⟨hstate, hby, hparked, hpend', hcell⟩

end Sys2Proof.Machine
end

section
/-! The supplies of a Skerry, its core pair and image, and its discharge: the fault latches, the flyback's retries and lockout, a gate
supply that fails, a restart of the core pair, the end of a verification, and the ends of a discharge (R353, R354, R357, R358,
R362, R503, R616). -/

namespace Sys2Proof.Machine
open Sys2Proof

/-! ### Bits -/

theorem bitOf_eq_testBit (v j : Nat) : bitOf v j = v.testBit j := Nat.testBit_eq_decide_div_mod_eq.symm

theorem bitOf_or_two_pow (v j : Nat) : bitOf (v ||| 2 ^ j) j = true := by
  simp [bitOf_eq_testBit]

/-! ### The fault latches -/

theorem Skerry.onlyFields_heal {k l : Skerry} {fs : List Fld} (h : k.onlyFields l fs) (hh : SK_TOP_STAT_HEALTH ∈ fs)
    (hf : SK_TOP_STAT_FAULT ∈ fs) : k.onlyFields l.heal fs := Skerry.onlyFields_wr (Skerry.onlyFields_wr h hh) hf

theorem Skerry.latch_onlyFields (k : Skerry) (b : Nat) : k.onlyFields (k.latch b) [SK_FLT_FIRST_BIT, SK_FLT_FIRST_SEC, SK_FLT_CNT,
    SK_FLT_LATCH_LATCH, SK_TOP_STAT_HEALTH, SK_TOP_STAT_FAULT] := by
  have hfirst : k.onlyFields (if k.rd SK_FLT_LATCH_LATCH = 0 then (k.wr SK_FLT_FIRST_BIT b).wr SK_FLT_FIRST_SEC (ctSec k.ct) else k)
      [SK_FLT_FIRST_BIT, SK_FLT_FIRST_SEC, SK_FLT_CNT, SK_FLT_LATCH_LATCH, SK_TOP_STAT_HEALTH, SK_TOP_STAT_FAULT] :=
    Skerry.onlyFields_ite (Skerry.onlyFields_wr (Skerry.onlyFields_wr (k.onlyFields_refl _) (by simp)) (by simp)) (k.onlyFields_refl _)
  exact Skerry.onlyFields_heal (Skerry.onlyFields_wr (Skerry.onlyFields_ite hfirst (Skerry.onlyFields_inc hfirst (by simp)))
    (by simp)) (by simp) (by simp)

theorem Skerry.latch_eq_heal (k : Skerry) {b : Nat} (hb : b < 6) :
    ∃ l : Skerry, k.latch b = l.heal ∧ l.rd SK_FLT_LATCH_LATCH = k.rd SK_FLT_LATCH_LATCH ||| 2 ^ b ∧ l.pow = k.pow := by
  refine ⟨_, rfl, ?_, ?_⟩
  · rw [Skerry.rd_wr_same _ _ _ (by decide)]
    exact Nat.mod_eq_of_lt (Nat.or_lt_two_pow (k.rd_lt _) (Nat.pow_lt_pow_right (by decide) hb))
  · rw [Skerry.wr_pow]
    split <;> split <;> rfl

/-- A latched bit shows in SK_FLT_LATCH (R503). -/
theorem Skerry.latch_bit (k : Skerry) {b : Nat} (hb : b < 6) : bitOf ((k.latch b).rd SK_FLT_LATCH_LATCH) b = true := by
  obtain ⟨l, hl, hlatch, -⟩ := k.latch_eq_heal hb
  rw [hl, Skerry.heal_rd _ (by decide), hlatch, bitOf_or_two_pow]

/-- A gate supply that fails fails the cell, unless its bypass has closed (R131, R354). -/
theorem Skerry.latch_health_of_supply {k : Skerry} (hopen : k.pow.closed = false) : (k.latch 1).rd SK_TOP_STAT_HEALTH = 3 := by
  obtain ⟨l, hl, hlatch, hpow⟩ := k.latch_eq_heal (b := 1) (by decide)
  have hbit : bitOf (l.rd SK_FLT_LATCH_LATCH) 1 = true := hlatch ▸ bitOf_or_two_pow _ 1
  have hhealth : l.health = 3 := by simp [Skerry.health, hpow, hopen, hbit]
  rw [hl, Skerry.heal, Skerry.rd_wr_apart _ _ _ _ (by decide), Skerry.rd_wr_same _ _ _ (by decide), hhealth]
  rfl

@[simp] theorem Skerry.latch_pow (k : Skerry) (b : Nat) : (k.latch b).pow = k.pow := by rw [(k.latch_onlyFields b).1]

@[simp] theorem Skerry.latch_fr (k : Skerry) (b : Nat) : (k.latch b).fr = k.fr := by rw [(k.latch_onlyFields b).1]

/-! ### The flyback -/

/-- A fault of the flyback shows in its event, where it has one (R353). -/
def Skerry.eventNoted (k : Skerry) (kind : Nat) : Skerry :=
  if kind < 3 then k.wrW A_SK_PWR_EVT (bitsPut (k.rdW A_SK_PWR_EVT) kind 1 1) else k

theorem Skerry.eventNoted_spec (k : Skerry) (kind : Nat) : (k.eventNoted kind).pow = k.pow ∧ (k.eventNoted kind).clk = k.clk ∧
    (kind = 0 → (k.eventNoted kind).rd SK_PWR_EVT_FB_OV = 1) ∧ (kind = 1 → (k.eventNoted kind).rd SK_PWR_EVT_FB_UV = 1) ∧
    (kind = 2 → (k.eventNoted kind).rd SK_PWR_EVT_FB_OC = 1) := by
  refine ⟨by rw [Skerry.eventNoted]; split <;> rfl, by rw [Skerry.eventNoted]; split <;> rfl, ?_, ?_, ?_⟩
  all_goals
    rintro rfl
    exact Skerry.rd_wr_same k ⟨A_SK_PWR_EVT, _, 1⟩ 1 (by decide)

/-- The faults of the last 10 s, with one now (R353). -/
def Skerry.faultsNow (k : Skerry) : List Nat := k.pow.faults.filter (fun x => k.clk.fb < x + 10000000000) ++ [k.clk.fb]

/-- The flyback stops for a retry, or at the fourth fault within 10 s locks out (R353). -/
def Skerry.stopFlyback (k : Skerry) : Skerry :=
  let l := (k.setPow { k.pow with faults := k.faultsNow }).inc SK_PWR_RETRY_CNT
  if k.faultsNow.length ≥ 4 then (l.wr SK_PWR_STAT_AUX 4).wr SK_PWR_EVT_LOCKOUT 1 else l.wr SK_PWR_STAT_AUX 3

theorem Skerry.stopFlyback_of_few {k : Skerry} (h : k.faultsNow.length < 4) : k.stopFlyback.rd SK_PWR_STAT_AUX = 3 ∧
    k.stopFlyback.pow.faults = k.faultsNow ∧
    ∀ f ∈ [SK_PWR_EVT_FB_OV, SK_PWR_EVT_FB_UV, SK_PWR_EVT_FB_OC], k.stopFlyback.rd f = k.rd f := by
  rw [Skerry.stopFlyback, if_neg (Nat.not_le.mpr h)]
  refine ⟨Skerry.rd_wr_same _ _ _ (by decide), rfl, ?_⟩
  simp (disch := decide) [Skerry.rd_wr_apart, Skerry.inc, Skerry.cnt]

theorem Skerry.stopFlyback_of_fourth {k : Skerry} (h : 4 ≤ k.faultsNow.length) : k.stopFlyback.rd SK_PWR_STAT_AUX = 4 ∧
    k.stopFlyback.rd SK_PWR_EVT_LOCKOUT = 1 := by
  rw [Skerry.stopFlyback, if_pos h, Skerry.rd_wr_apart _ _ _ _ (by decide)]
  exact ⟨Skerry.rd_wr_same _ _ _ (by decide), Skerry.rd_wr_same _ _ _ (by decide)⟩

/-! ### The gate supplies -/

theorem Skerry.gsLow_one (k : Skerry) {j : Nat} (hj : j < 4) :
    k.gsLow [5 + j] = k.wr SK_PWR_STAT_GS_OK (k.rd SK_PWR_STAT_GS_OK &&& (15 ^^^ 2 ^ j)) := by
  simp only [Skerry.gsLow, List.foldl_cons, List.foldl_nil, Nat.add_sub_cancel_left]
  exact if_pos (by omega)

/-- GS_OK of the channel reads low. -/
theorem Skerry.gsLow_bit (k : Skerry) {j : Nat} (hj : j < 4) : bitOf ((k.gsLow [5 + j]).rd SK_PWR_STAT_GS_OK) j = false := by
  have hclear : (15 ^^^ 2 ^ j).testBit j = false := by
    revert j; decide
  rw [k.gsLow_one hj, Skerry.rd_wr_same _ _ _ (by decide), bitOf_eq_testBit, Nat.testBit_mod_two_pow, Nat.testBit_and, hclear,
    Bool.and_false, Bool.and_false]

/-- The supply of channel `j` has failed: its event, its latch and its log entry (R354). -/
def Skerry.supplyFailed (k : Skerry) (j : Nat) : Skerry :=
  let l := (k.gsLow [5 + j]).wr SK_PWR_EVT_GS_FAIL 1
  (l.latch 1).log 0x0030 [5 + j, l.applied]

theorem Skerry.supplyFailed_spec (k : Skerry) {j : Nat} (hj : j < 4) :
    bitOf ((k.supplyFailed j).rd SK_PWR_STAT_GS_OK) j = false ∧ (k.supplyFailed j).rd SK_PWR_EVT_GS_FAIL = 1 ∧
    bitOf ((k.supplyFailed j).rd SK_FLT_LATCH_LATCH) 1 = true ∧
    (k.pow.closed = false → (k.supplyFailed j).rd SK_TOP_STAT_HEALTH = 3) := by
  have hkept : (k.supplyFailed j).kept = ((k.gsLow [5 + j]).wr SK_PWR_EVT_GS_FAIL 1).kept :=
    (Skerry.kept_log _ _ _).trans (Skerry.kept_latch _ _)
  refine ⟨?_, ?_, ?_, fun hopen => ?_⟩
  · rw [Skerry.rd_of_kept hkept (by decide), Skerry.rd_wr_apart _ _ _ _ (by decide), k.gsLow_bit hj]
  · rw [Skerry.rd_of_kept hkept (by decide), Skerry.rd_wr_same _ _ _ (by decide)]
    rfl
  · rw [Skerry.supplyFailed, Skerry.log_rd _ _ _ (by decide), Skerry.latch_bit _ (by decide)]
  · rw [Skerry.supplyFailed, Skerry.log_rd _ _ _ (by decide), Skerry.latch_health_of_supply]
    rw [Skerry.wr_pow, k.gsLow_one hj, Skerry.wr_pow, hopen]

/-! ### The core pair -/

/-- The core pair halts: its latch, a log entry, the count, and the pending reply lost (R362). -/
def Skerry.coreHalted (k : Skerry) (sram : Bool) (restarts : List Nat) : Skerry :=
  let l := k.latch (if sram then 4 else 3)
  let l := (l.log 0x0060 [if sram then 2 else 1, restarts.length]).inc SK_TOP_CORE_CNT
  (l.setFr { l.fr with reply := none, restarts := restarts, running := [] }).wr SK_TOP_IMG_VER 0

/-- The core pair restarts from ROM, and an image that had been verified waits to be verified again (R362). -/
def Skerry.coreRestarted (k : Skerry) : Skerry :=
  let l := k.wr SK_TOP_STAT_CORE 0
  if l.rd SK_TOP_IMG_STATE = 3 then l.wr SK_TOP_IMG_STATE 2 else l

theorem Skerry.coreHalted_spec (k : Skerry) (sram : Bool) (restarts : List Nat) :
    (k.coreHalted sram restarts).fr = { k.fr with reply := none, restarts := restarts, running := [] } ∧
    bitOf ((k.coreHalted sram restarts).rd SK_FLT_LATCH_LATCH) (if sram then 4 else 3) = true ∧
    (k.coreHalted sram restarts).rd SK_TOP_IMG_VER = 0 ∧
    (k.coreHalted sram restarts).rd SK_TOP_CORE_CNT = min (k.rd SK_TOP_CORE_CNT + 1) 0xFFFF := by
  have hb : (if sram then 4 else 3) < 6 := by split <;> decide
  refine ⟨?_, ?_, Skerry.rd_wr_same _ _ _ (by decide), ?_⟩
  · rw [Skerry.coreHalted, Skerry.wr_fr, Skerry.setFr_fr, Skerry.inc_fr, Skerry.log_fr, Skerry.latch_fr]
  · rw [Skerry.coreHalted, Skerry.rd_wr_apart _ _ _ _ (by decide), Skerry.setFr_rd, Skerry.inc, Skerry.cnt,
      Skerry.rd_wr_apart _ _ _ _ (by decide), Skerry.log_rd _ _ _ (by decide), Skerry.latch_bit _ hb]
  · rw [Skerry.coreHalted, Skerry.rd_wr_apart _ _ _ _ (by decide), Skerry.setFr_rd, Skerry.rd_inc_same _ _ (by decide),
      Skerry.log_rd _ _ _ (by decide), (k.latch_onlyFields _).2 _ (by decide)]
    rfl

theorem Skerry.coreRestarted_spec (k : Skerry) : k.coreRestarted.fr = k.fr ∧ k.coreRestarted.rd SK_TOP_STAT_CORE = 0 ∧
    ∀ f : Fld, SK_TOP_STAT_CORE.apart f → SK_TOP_IMG_STATE.apart f → k.coreRestarted.rd f = k.rd f := by
  simp only [Skerry.coreRestarted]
  split
  · refine ⟨rfl, ?_, fun f hcore himg => (Skerry.rd_wr_apart _ _ _ _ himg).trans (Skerry.rd_wr_apart _ _ _ _ hcore)⟩
    rw [Skerry.rd_wr_apart _ _ _ _ (by decide), Skerry.rd_wr_same _ _ _ (by decide)]
    rfl
  · exact ⟨rfl, Skerry.rd_wr_same _ _ _ (by decide), fun f hcore _ => Skerry.rd_wr_apart _ _ _ _ hcore⟩

/-! ### The image -/

theorem Skerry.imgReason_lt (k : Skerry) : k.imgReason < 8 := by
  simp only [Skerry.imgReason]
  split
  · decide
  split
  · decide
  split
  · decide
  split <;> decide

/-- Showing the image starts no verification unless the image is being received (R615). -/
theorem Skerry.imgShow_rd_state {k : Skerry} (h : k.rd SK_TOP_IMG_STATE ≠ 1) :
    k.imgShow.rd SK_TOP_IMG_STATE = k.rd SK_TOP_IMG_STATE := by
  have hshown : ∀ a b c : Nat, (((k.wr SK_TOP_IMG_HELD a).wr SK_TOP_IMG_MISS_FIRST b).wr SK_TOP_IMG_MISS_COMPLETE c).rd
      SK_TOP_IMG_STATE = k.rd SK_TOP_IMG_STATE := fun a b c => by
    simp (disch := decide) only [Skerry.rd_wr_apart]
  rw [Skerry.imgShow, if_neg fun hverify => h ((hshown _ _ _).symm.trans hverify.2.2), hshown]

/-- Where the core pair may run, it shows that it runs the verified image (R361, R616). -/
theorem Skerry.ite_wr_core (k : Skerry) (up : Bool) : (if up then k.wr SK_TOP_STAT_CORE 1 else k).fr = k.fr ∧
    (up = true → (if up then k.wr SK_TOP_STAT_CORE 1 else k).rd SK_TOP_STAT_CORE = 1) ∧
    (if up then k.wr SK_TOP_STAT_CORE 1 else k).rd SK_TOP_IMG_STATE = k.rd SK_TOP_IMG_STATE := by
  cases up with
  | false => exact ⟨rfl, nofun, rfl⟩
  | true => exact ⟨rfl, fun _ => Skerry.rd_wr_same _ _ _ (by decide), Skerry.rd_wr_apart _ _ _ _ (by decide)⟩

theorem Skerry.imageVerify_of_accepted {k : Skerry} (hst : k.rd SK_TOP_IMG_STATE = 2) (hpart : k.partOk = true) (hr : k.imgReason = 0) :
    k.imageVerify.rd SK_TOP_IMG_STATE = 3 ∧ k.imageVerify.fr.reply = none ∧
      (k.fr.coreUp = true → k.imageVerify.rd SK_TOP_STAT_CORE = 1) := by
  rw [Skerry.imageVerify, if_neg (by simp [hst, hpart]), if_pos hr, Skerry.log_rd _ _ _ (by decide), Skerry.log_rd _ _ _ (by decide),
    Skerry.log_fr]
  obtain ⟨hfr, hcore, hstate⟩ := Skerry.ite_wr_core (((k.setFr { k.fr with
    running := (k.imgBytes.drop 128).take (imgLength k.imgBytes), reply := none }).wr SK_TOP_IMG_STATE 3).wr SK_TOP_IMG_VER
      (b32 k.imgBytes 12)) k.fr.coreUp
  refine ⟨hstate.trans ?_, congrArg SkFreight.reply hfr, hcore⟩
  rw [Skerry.rd_wr_apart _ _ _ _ (by decide), Skerry.rd_wr_same _ _ _ (by decide)]
  rfl

theorem Skerry.imageVerify_of_rejected {k : Skerry} (hst : k.rd SK_TOP_IMG_STATE = 2) (hpart : k.partOk = true) (hr : k.imgReason ≠ 0) :
    k.imageVerify.rd SK_TOP_IMG_STATE = 4 ∧ k.imageVerify.fr.image = [] ∧ k.imageVerify.rd SK_TOP_IMG_REASON = k.imgReason := by
  rw [Skerry.imageVerify, if_neg (by simp [hst, hpart]), if_neg hr]
  have hstate : ((((k.setFr { k.fr with image := [] }).wr SK_TOP_IMG_STATE 4).wr SK_TOP_IMG_REASON k.imgReason).log 0x0070
      [k.imgReason]).rd SK_TOP_IMG_STATE = 4 := by
    rw [Skerry.log_rd _ _ _ (by decide), Skerry.rd_wr_apart _ _ _ _ (by decide), Skerry.rd_wr_same _ _ _ (by decide)]
    rfl
  refine ⟨(Skerry.imgShow_rd_state (by rw [hstate]; decide)).trans hstate, ?_, ?_⟩
  · rw [Skerry.imgShow_fr, Skerry.log_fr]
    rfl
  · rw [(Skerry.imgShow_onlyFields _).2 _ (by decide), Skerry.log_rd _ _ _ (by decide), Skerry.rd_wr_same _ _ _ (by decide)]
    exact Nat.mod_eq_of_lt k.imgReason_lt

/-! ### The discharge -/

/-- A discharge begins in a cell in RUN whose gates are off (R357). -/
theorem Skerry.startDischarge_of_ready {k : Skerry} (hrun : k.inRun = true) (hoff : k.gatesOff = true) (hdis : k.discharging = false) :
    k.startDischarge = ((k.wr SK_PWR_STAT_DISCHARGING 1).wr SK_PWR_STAT_DIS_PAUSED 0).setPow
      { k.pow with disFrom := ctSec k.ct } := by
  have hct : ((k.wr SK_PWR_STAT_DISCHARGING 1).wr SK_PWR_STAT_DIS_PAUSED 0).ct = k.ct := by
    rw [Skerry.ct_wr _ _ (by decide) (by decide), Skerry.ct_wr _ _ (by decide) (by decide)]
  exact (if_pos ⟨hrun, hoff, by simp [hdis]⟩).trans (congrArg (fun ct => ((k.wr SK_PWR_STAT_DISCHARGING 1).wr
    SK_PWR_STAT_DIS_PAUSED 0).setPow { k.pow with disFrom := ctSec ct }) hct)

theorem Skerry.startDischarge_shown {k : Skerry} (hrun : k.inRun = true) (hoff : k.gatesOff = true) (hdis : k.discharging = false) :
    k.startDischarge.rd SK_PWR_STAT_DISCHARGING = 1 ∧ k.startDischarge.rd SK_PWR_STAT_DIS_PAUSED = 0 ∧
    k.startDischarge.pow = { k.pow with disFrom := ctSec k.ct } ∧
    k.keepsBut k.startDischarge [SK_PWR_STAT_DISCHARGING, SK_PWR_STAT_DIS_PAUSED] := by
  rw [Skerry.startDischarge_of_ready hrun hoff hdis, Skerry.setPow_rd, Skerry.setPow_rd]
  refine ⟨?_, Skerry.rd_wr_same _ _ _ (by decide), rfl, fun f hf => ?_⟩
  · rw [Skerry.rd_wr_apart _ _ _ _ (by decide), Skerry.rd_wr_same _ _ _ (by decide)]
    rfl
  · rw [Skerry.setPow_rd]
    exact Skerry.keepsBut_wr (Skerry.keepsBut_wr (k.keepsBut_refl _) (by simp)) (by simp) f hf

/-- A discharge that is over has its event, and its time in the log (R358). -/
def Skerry.dischargeOver (k : Skerry) : Skerry :=
  let l := k.endDischarge.wr SK_PWR_EVT_DIS_DONE 1
  l.log 0x0051 [l.rd SK_PWR_DIS_TIME % 256, l.rd SK_PWR_DIS_TIME / 256]

theorem Skerry.dischargeOver_rd_done (k : Skerry) : k.dischargeOver.rd SK_PWR_EVT_DIS_DONE = 1 := by
  rw [Skerry.dischargeOver, Skerry.log_rd _ _ _ (by decide), Skerry.rd_wr_same _ _ _ (by decide)]
  rfl

/-- A discharge that has lasted too long has its event, its latch and its log entry (R358, R503). -/
def Skerry.dischargeLate (k : Skerry) : Skerry :=
  ((k.endDischarge.wr SK_PWR_EVT_DIS_TIMEOUT 1).latch 2).log 0x0052 [k.vcapV % 256, k.vcapV / 256]

theorem Skerry.dischargeLate_spec (k : Skerry) : k.dischargeLate.pow = k.pow ∧ k.dischargeLate.rd SK_PWR_EVT_DIS_TIMEOUT = 1 ∧
    bitOf (k.dischargeLate.rd SK_FLT_LATCH_LATCH) 2 = true ∧ k.dischargeLate.discharging = false := by
  have hkept : k.dischargeLate.kept = (k.endDischarge.wr SK_PWR_EVT_DIS_TIMEOUT 1).kept :=
    (Skerry.kept_log _ _ _).trans (Skerry.kept_latch _ _)
  refine ⟨?_, ?_, ?_, ?_⟩
  · rw [Skerry.dischargeLate, Skerry.log_pow, Skerry.latch_pow, Skerry.wr_pow, k.endDischarge_spec.2.2.1]
  · rw [Skerry.rd_of_kept hkept (by decide), Skerry.rd_wr_same _ _ _ (by decide)]
    rfl
  · rw [Skerry.dischargeLate, Skerry.log_rd _ _ _ (by decide), Skerry.latch_bit _ (by decide)]
  · rw [← k.endDischarge_spec.1, Skerry.discharging, Skerry.on, Skerry.rd_of_kept hkept (by decide),
      Skerry.rd_wr_apart _ _ _ _ (by decide)]
    rfl

/-! ### The statement -/

/-- Settles O44: each command reaches its cell alone, and there it is one operation of the flyback, the gate supplies, the core pair, the
image or the discharge. -/
theorem skerrySuppliesAndDischarge : Obligations.SkerrySuppliesAndDischarge := by
  refine ⟨fun g s haux => ?regulates, fun g kind s haux hkind hnone => ?fault, fun g kind a b c s haux hfaults ha hb hc => ?lockout,
    fun g s haux => ?retry, fun g j s hrun hj htype => ?supply, fun g sram s hrun hup hfirst => ?core, fun g s hrun hcore => ?clear,
    fun g s hrun himg hpart => ?image, fun g charged s hrun hoff hdis => ?start, fun g s hst hlock => ?wake, fun g s hst => ?waits,
    fun g s hdis => ?pause, fun g s hdis => ?resume, fun g s hdis => ?done, fun g s hdis => ?late, fun g s hrun hdis => ?stop⟩
  case regulates =>
    refine State.onCell_next (if_pos haux) fun t ht hcell => ?_
    rw [ht]
    exact ⟨Skerry.rd_wr_same _ SK_PWR_STAT_AUX 2 (by decide), Skerry.onlyFields_wr (Skerry.onlyFields_refl _ _) (by simp), hcell⟩
  case fault =>
    obtain ⟨hpow, hclk, hov, huv, hoc⟩ := (s.cell g).eventNoted_spec kind
    have hnow : ((s.cell g).eventNoted kind).faultsNow = [(s.cell g).clk.fb] := by
      rw [Skerry.faultsNow, hpow, hclk, hnone]
      rfl
    obtain ⟨haux', hfaults, hevents⟩ := Skerry.stopFlyback_of_few (k := (s.cell g).eventNoted kind) (by simp [hnow])
    refine State.onCell_next (l := ((s.cell g).eventNoted kind).stopFlyback) (if_pos haux) fun t ht hcell => ?_
    rw [ht]
    exact ⟨haux', hfaults.trans hnow, fun h => (hevents _ (by simp)).trans (hov h), fun h => (hevents _ (by simp)).trans (huv h),
      fun h => (hevents _ (by simp)).trans (hoc h), hcell⟩
  case lockout =>
    obtain ⟨hpow, hclk, -, -, -⟩ := (s.cell g).eventNoted_spec kind
    have hnow : ((s.cell g).eventNoted kind).faultsNow = [a, b, c, (s.cell g).clk.fb] := by
      simp [Skerry.faultsNow, hpow, hclk, hfaults, ha, hb, hc]
    obtain ⟨haux', hlock⟩ := Skerry.stopFlyback_of_fourth (k := (s.cell g).eventNoted kind) (by simp [hnow])
    refine State.onCell_next (l := ((s.cell g).eventNoted kind).stopFlyback) (if_pos haux) fun t ht hcell => ?_
    rw [ht]
    exact ⟨haux', hlock, hcell⟩
  case retry =>
    refine State.onCell_next (if_pos haux) fun t ht hcell => ?_
    rw [ht]
    exact ⟨Skerry.rd_wr_same _ SK_PWR_STAT_AUX 1 (by decide), Skerry.onlyFields_wr (Skerry.onlyFields_refl _ _) (by simp), hcell⟩
  case supply =>
    have huses : usesChannel (s.cell g).pow.ctype j = true := by
      unfold usesChannel
      split
      next h => exact decide_eq_true (htype h)
      next => exact decide_eq_true hj
    obtain ⟨hgs, hfail, hlatch, hhealth⟩ := (s.cell g).supplyFailed_spec hj
    refine State.runCell_next (l := (s.cell g).supplyFailed j) hrun (if_pos huses) fun t ht hcell => ?_
    rw [ht]
    exact ⟨hgs, hfail, hlatch, hhealth, hcell⟩
  case core =>
    obtain ⟨hfr, hlatch, hver, hcnt⟩ := (s.cell g).coreHalted_spec sram [(s.cell g).ct / nsU]
    obtain ⟨hfr', hcore, hrd⟩ := ((s.cell g).coreHalted sram [(s.cell g).ct / nsU]).coreRestarted_spec
    refine State.runCell_next (l := ((s.cell g).coreHalted sram [(s.cell g).ct / nsU]).coreRestarted) hrun ?_ fun t ht hcell => ?_
    · simp only [hup, hfirst]
      rfl
    · rw [ht, hfr', hfr, hrd SK_FLT_LATCH_LATCH (by decide) (by decide), hrd SK_TOP_IMG_VER (by decide) (by decide),
        hrd SK_TOP_CORE_CNT (by decide) (by decide)]
      exact ⟨hlatch, rfl, rfl, hup, hver, hcore, hcnt, hcell⟩
  case clear =>
    refine State.runCell_next hrun (if_neg hcore) fun t ht hcell => ?_
    rw [ht]
    exact ⟨rfl, Skerry.rd_wr_same _ SK_TOP_STAT_CORE 0 (by decide), Skerry.wr_keepsBut _ SK_TOP_STAT_CORE 0, hcell⟩
  case image =>
    refine State.runCell_next hrun rfl fun t ht hcell => ?_
    rw [ht]
    exact ⟨fun hr => Skerry.imageVerify_of_accepted himg hpart hr, fun hr => Skerry.imageVerify_of_rejected himg hpart hr, hcell⟩
  case start =>
    obtain ⟨hon, hpaused, hpow, hkeep⟩ := Skerry.startDischarge_shown hrun hoff hdis
    refine State.onCell_next (l := (s.cell g).startDischarge) (by simp only [of_decide_eq_true hrun]) fun t ht hcell => ?_
    rw [ht]
    exact ⟨hon, hpaused, hpow, hkeep, hcell⟩
  case wake =>
    obtain ⟨hpow, -, -⟩ := ((s.cell g).setPow { (s.cell g).pow with disNext := true }).enterStart_spec 4 false
    refine State.onCell_next (l := ((s.cell g).setPow { (s.cell g).pow with disNext := true }).enterStart 4 false)
      (by simp [hst, hlock]) fun t ht hcell => ?_
    rw [ht, hpow]
    exact ⟨rfl, rfl, rfl, hcell⟩
  case waits =>
    exact State.onCell_next (l := s.cell g) (by simp [hst]) fun t ht hcell => State.onlyCell_same ht hcell
  case pause =>
    refine State.onCell_next (if_pos hdis) fun t ht hcell => ?_
    rw [ht]
    exact ⟨Skerry.rd_wr_same _ SK_PWR_STAT_DIS_PAUSED 1 (by decide), Skerry.onlyFields_wr (Skerry.onlyFields_refl _ _) (by simp), hcell⟩
  case resume =>
    refine State.onCell_next (if_pos hdis) fun t ht hcell => ?_
    rw [ht]
    exact ⟨Skerry.rd_wr_same _ SK_PWR_STAT_DIS_PAUSED 0 (by decide), Skerry.onlyFields_wr (Skerry.onlyFields_refl _ _) (by simp), hcell⟩
  case done =>
    obtain ⟨hpow, hheld, -, hidle, -, hkept⟩ := (s.cell g).dischargeOver.enterHold_held 9
    refine State.onCell_next (l := (s.cell g).dischargeOver.enterHold 9) (if_pos hdis) fun t ht hcell => ?_
    rw [ht]
    exact ⟨congrArg SkPower.state hpow, (hkept _ (by simp)).trans (s.cell g).dischargeOver_rd_done, hheld, hidle, hcell⟩
  case late =>
    obtain ⟨hpow, htime, hlatch, hidle⟩ := (s.cell g).dischargeLate_spec
    refine State.onCell_next (l := (s.cell g).dischargeLate) (if_pos hdis) fun t ht hcell => ?_
    rw [ht]
    exact ⟨congrArg SkPower.state hpow, htime, hlatch, hidle, hcell⟩
  case stop =>
    obtain ⟨hidle, htime, hfields⟩ := (s.cell g).endDischarge_spec
    refine State.runCell_next (l := (s.cell g).endDischarge) hrun (if_pos hdis) fun t ht hcell => ?_
    rw [ht]
    exact ⟨hidle, htime, hfields, hcell⟩

end Sys2Proof.Machine
end

section
/-! The gates of a Skerry (R368, R369, R373 to R375, R379 to R383): what the edges of the timer change and leave alone, the end of a half
period, a new target, and the requests of force, weave period and refresh. -/

namespace Sys2Proof.Machine
open Sys2Proof

/-! ### One channel -/

/-- Both channels of pair `p` are on. -/
def Skerry.bothOn (k : Skerry) (p : Nat) : Bool := k.out (2 * p) && k.out (2 * p + 1)

theorem Skerry.bothOn_congr {k l : Skerry} (h : l.rd SK_GATE_STAT_OUT = k.rd SK_GATE_STAT_OUT) (p : Nat) : l.bothOn p = k.bothOn p := by
  simp only [Skerry.bothOn, Skerry.out, h]

/-- A channel that is driven takes its level, and no other channel changes. -/
theorem Skerry.drive_out (k : Skerry) {i j : Nat} (hi : i < 4) (hj : j < 4) (v : Bool) :
    (k.drive j v).out i = if i = j then v else k.out i := by
  have hclear : ∀ i < 4, ∀ j < 4, (15 ^^^ 2 ^ j).testBit i = decide (i ≠ j) := by decide
  unfold Skerry.drive
  split
  next hsame =>
    split
    next h => rw [h, hsame]
    next => rfl
  next =>
    have hbit : ∀ q n, ((k.setGate q).wr SK_GATE_STAT_OUT n).out i = n.testBit i := fun q n => by
      rw [Skerry.out, Skerry.rd_wr_same _ _ _ (by decide), bitOf_eq_testBit, Nat.testBit_mod_two_pow]
      simp [SK_GATE_STAT_OUT, hi]
    rw [hbit, Skerry.out, bitOf_eq_testBit]
    cases v with
    | false => simp [Nat.testBit_and, hclear i hi j hj, Bool.and_comm]
    | true => simp [Nat.testBit_or, Nat.testBit_two_pow, eq_comm (a := j), Bool.or_comm]

/-- A channel that turns off, or turns on while its complement is off, does not put both channels of a pair on. -/
theorem Skerry.drive_bothOn {k : Skerry} {j : Nat} (hj : j < 4) {v : Bool}
    (hv : v = true → k.out (if j % 2 = 0 then j + 1 else j - 1) = false) {p : Nat} (hp : p < 2) (hoff : k.bothOn p = false) :
    (k.drive j v).bothOn p = false := by
  rw [Skerry.bothOn, k.drive_out (by omega) hj, k.drive_out (by omega) hj]
  by_cases hup : 2 * p = j
  · rw [if_pos hup, if_neg (by omega)]
    rw [if_pos (by omega), ← hup] at hv
    cases v with
    | false => rfl
    | true => rw [hv rfl, Bool.and_false]
  · by_cases hlow : 2 * p + 1 = j
    · rw [if_neg hup, if_pos hlow]
      rw [if_neg (by omega), ← hlow, Nat.add_sub_cancel] at hv
      cases v with
      | false => exact Bool.and_false _
      | true => rw [hv rfl, Bool.false_and]
    · rw [if_neg hup, if_neg hlow]
      exact hoff

/-! ### The edges of the timer -/

/-- The fields that an edge of the timer writes. -/
def edgeFields : List Fld := [SK_GATE_STAT_OUT, SK_GATE_DEFER_CNT, SK_GATE_STAT_EDGE_PEND, SK_GATE_REF_PAIR0, SK_GATE_REF_PAIR1,
  SK_GATE_STAT_REFRESH_REQ]

/-- `l` is `k` after edges of the timer: what they note in the timer and in the registers, and no pair with both channels on that had not
(R369). -/
structure Skerry.Edges (k l : Skerry) : Prop where
  frame : l = { k with regs := l.regs, gate := l.gate }
  gate : l.gate = { k.gate with
    chAt := l.gate.chAt, counted := l.gate.counted, refFrom := l.gate.refFrom, turned := l.gate.turned }
  fields : k.keepsBut l edgeFields
  pairs : ∀ p, p < 2 → k.bothOn p = false → l.bothOn p = false

namespace Skerry.Edges

variable {k l m : Skerry}

theorem refl (k : Skerry) : k.Edges k := ⟨rfl, rfl, k.keepsBut_refl _, fun _ _ h => h⟩

theorem trans (h : k.Edges l) (j : l.Edges m) : k.Edges m where
  frame := j.frame.trans (congrArg (fun x : Skerry => { x with regs := m.regs, gate := m.gate }) h.frame)
  gate := j.gate.trans (congrArg (fun q : SkGate => { q with
    chAt := m.gate.chAt, counted := m.gate.counted, refFrom := m.gate.refFrom, turned := m.gate.turned }) h.gate)
  fields := fun f hf => (j.fields f hf).trans (h.fields f hf)
  pairs := fun p hp hoff => j.pairs p hp (h.pairs p hp hoff)

theorem foldl {f : Skerry → Nat → Skerry} {js : List Nat} (hf : ∀ l : Skerry, ∀ j ∈ js, l.Edges (f l j)) (k : Skerry) :
    k.Edges (js.foldl f k) :=
  List.foldlRecOn js f (refl k) (fun l h j hj => h.trans (hf l j hj))

theorem wr (h : k.Edges l) {f : Fld} (v : Nat) (hf : f ∈ edgeFields) (hout : f.apart SK_GATE_STAT_OUT) : k.Edges (l.wr f v) :=
  h.trans ⟨rfl, rfl, Skerry.keepsBut_wr (l.keepsBut_refl _) hf,
    fun p _ hoff => (Skerry.bothOn_congr (l.rd_wr_apart f _ v hout) p).trans hoff⟩

theorem mem (h : k.Edges l) : l.mem = k.mem := by rw [h.frame]

theorem pow (h : k.Edges l) : l.pow = k.pow := by rw [h.frame]

end Skerry.Edges

theorem Skerry.drive_edges {k : Skerry} {j : Nat} (hj : j < 4) {v : Bool}
    (hv : v = true → k.out (if j % 2 = 0 then j + 1 else j - 1) = false) : k.Edges (k.drive j v) where
  frame := (k.drive_frame j v).1
  gate := by
    unfold Skerry.drive
    split
    · rfl
    · simp only [Skerry.wr_gate, Skerry.setGate_gate]
      split <;> rfl
  fields := Skerry.keepsBut_mono (k.drive_frame j v).2 (by simp [edgeFields])
  pairs := fun _ hp => Skerry.drive_bothOn hj hv hp

theorem Skerry.countDefer_edges (k : Skerry) (j : Nat) : k.Edges (k.countDefer j) := by
  unfold Skerry.countDefer
  split
  · exact .refl k
  · have hnoted : k.Edges (k.setGate { k.gate with counted := k.gate.counted ||| 2 ^ j }) :=
      ⟨rfl, rfl, fun _ _ => rfl, fun _ _ h => h⟩
    exact hnoted.wr _ (by simp [edgeFields]) (by decide)

theorem Skerry.tryOff_edges (k : Skerry) {j : Nat} (hj : j < 4) : k.Edges (k.tryOff j) := by
  unfold Skerry.tryOff
  split
  · split
    · exact Skerry.drive_edges hj nofun
    · exact k.countDefer_edges j
  · exact .refl k

/-- A channel turns on only while its complement is off. -/
theorem Skerry.tryOn_edges (k : Skerry) {j : Nat} (hj : j < 4) : k.Edges (k.tryOn j) := by
  unfold Skerry.tryOn
  split
  · generalize hcomplement : (if j % 2 = 0 then j + 1 else j - 1) = c
    dsimp only
    split
    · exact .refl k
    next hoff =>
      split
      · exact Skerry.drive_edges hj fun _ => hcomplement ▸ Bool.eq_false_iff.mpr hoff
      · split
        · exact k.countDefer_edges j
        · exact .refl k
  · exact .refl k

theorem Skerry.refreshShow_edges (k : Skerry) : k.Edges k.refreshShow :=
  (((Skerry.Edges.refl k).wr _ (by simp [edgeFields]) (by decide)).wr _ (by simp [edgeFields]) (by decide)).wr _ (by simp [edgeFields])
    (by decide)

/-- The edges that are due are taken: the turn-offs, then the turn-ons. -/
def Skerry.taken (k : Skerry) : Skerry :=
  [0, 1, 2, 3].foldl (fun k j => k.tryOn j) ([0, 1, 2, 3].foldl (fun k j => k.tryOff j) k)

theorem Skerry.taken_edges (k : Skerry) : k.Edges k.taken :=
  have hlt : ∀ j ∈ [0, 1, 2, 3], j < 4 := by decide
  (Skerry.Edges.foldl (fun l j hj => l.tryOff_edges (hlt j hj)) k).trans (Skerry.Edges.foldl (fun l j hj => l.tryOn_edges (hlt j hj)) _)

theorem Skerry.settle_eq (k : Skerry) : k.settle = (k.taken.wr SK_GATE_STAT_EDGE_PEND
    (b2n (decide (k.taken.rd SK_GATE_STAT_OUT ≠ k.taken.gate.want) || !k.taken.gate.cmds.isEmpty))).refreshShow := rfl

theorem Skerry.settle_edges (k : Skerry) : k.Edges k.settle :=
  (k.taken_edges.wr _ (by simp [edgeFields]) (by decide)).trans (Skerry.refreshShow_edges _)

theorem Skerry.refreshShow_onlyFields (k : Skerry) :
    k.onlyFields k.refreshShow [SK_GATE_REF_PAIR0, SK_GATE_REF_PAIR1, SK_GATE_STAT_REFRESH_REQ] :=
  Skerry.onlyFields_wr (Skerry.onlyFields_wr (Skerry.onlyFields_wr (k.onlyFields_refl _) (by simp)) (by simp)) (by simp)

@[simp] theorem Skerry.refreshShow_gate (k : Skerry) : k.refreshShow.gate = k.gate := rfl

/-- EDGE_PEND tells an output that is not yet as wanted, or a commanded edge that waits. -/
theorem Skerry.settle_edge_pend (k : Skerry) : k.settle.rd SK_GATE_STAT_EDGE_PEND =
    b2n (decide (k.settle.rd SK_GATE_STAT_OUT ≠ k.settle.gate.want) || !k.settle.gate.cmds.isEmpty) := by
  rw [Skerry.settle_eq, (Skerry.refreshShow_onlyFields _).2 _ (by decide), (Skerry.refreshShow_onlyFields _).2 _ (by decide),
    Skerry.rd_wr_same _ _ _ (by decide), Skerry.rd_wr_apart _ _ _ _ (by decide), Skerry.refreshShow_gate, Skerry.wr_gate]
  exact b2n_mod_two _

/-! ### The end of a half period -/

/-- `l` is `k` on the way to half `half` of the weave period: no pair has both channels on that had not (R375). -/
structure Skerry.Reloads (k : Skerry) (half : Nat) (l : Skerry) : Prop where
  frame : l = { k with regs := l.regs, gate := l.gate }
  half : l.gate.half = half
  pairs : ∀ p, p < 2 → k.bothOn p = false → l.bothOn p = false

namespace Skerry.Reloads

variable {k l m : Skerry} {a b : Nat}

theorem refl (k : Skerry) : k.Reloads k.gate.half k := ⟨rfl, rfl, fun _ _ h => h⟩

theorem wr (h : k.Reloads a l) {f : Fld} (v : Nat) (hout : f.apart SK_GATE_STAT_OUT) : k.Reloads a (l.wr f v) where
  frame := congrArg (fun x : Skerry => { x with regs := (l.wr f v).regs }) h.frame
  half := h.half
  pairs := fun p hp hoff => (Skerry.bothOn_congr (l.rd_wr_apart f _ v hout) p).trans (h.pairs p hp hoff)

theorem setGate (h : k.Reloads a l) {q : SkGate} (hq : q.half = b) : k.Reloads b (l.setGate q) where
  frame := congrArg (fun x : Skerry => { x with gate := q }) h.frame
  half := hq
  pairs := h.pairs

theorem ite {c : Prop} [Decidable c] (h : k.Reloads a l) (j : k.Reloads a m) : k.Reloads a (if c then l else m) := by
  split <;> assumption

theorem takeWper (h : k.Reloads a l) : k.Reloads a l.takeWper := by
  unfold Skerry.takeWper
  split
  · exact h.setGate h.half
  · exact h

theorem takeDuty (h : k.Reloads a l) (w : Nat) : k.Reloads a (l.takeDuty w).2 := by
  have hlast := h.wr (f := SK_GATE_DUTY_LAST) (l.rd SK_GATE_DUTY_NOW) (by decide)
  simp only [Skerry.takeDuty]
  split
  · exact hlast.wr _ (by decide)
  · exact hlast

theorem ite_snd {c : Prop} [Decidable c] {p q : Nat × Skerry} (h : k.Reloads a p.2) (j : k.Reloads a q.2) :
    k.Reloads a (if c then p else q).2 := by
  split <;> assumption

theorem of_snd {p : Nat × Skerry} {x : Nat} (h : k.Reloads a p.2) (hp : p = (x, l)) : k.Reloads a l := by
  rwa [hp] at h

/-- The commanded edges that are due are taken. -/
theorem takeCmds_settle (h : k.Reloads a l) : k.Reloads a l.takeCmds.settle := by
  have htaken : k.Reloads a l.takeCmds := h.setGate h.half
  have hedges := l.takeCmds.settle_edges
  exact ⟨hedges.frame.trans (congrArg (fun x : Skerry => { x with
    regs := l.takeCmds.settle.regs, gate := l.takeCmds.settle.gate }) htaken.frame),
    (congrArg SkGate.half hedges.gate).trans htaken.half, fun p hp hoff => hedges.pairs p hp (htaken.pairs p hp hoff)⟩

/-- Edges are scheduled, the half is noted, and what is due is taken. -/
theorem schedule_settle (h : k.Reloads a l) (cs : List (Nat × Bool)) (x : Nat) :
    k.Reloads a ((l.schedule cs).setGate { (l.schedule cs).gate with lastX := x }).takeCmds.settle := by
  have hscheduled : k.Reloads a (l.schedule cs) := h.setGate h.half
  exact (hscheduled.setGate (q := { (l.schedule cs).gate with lastX := x }) hscheduled.half).takeCmds_settle

end Skerry.Reloads

theorem Skerry.midPeriod_reloads (k : Skerry) : k.Reloads 2 k.midPeriod := by
  unfold Skerry.midPeriod
  extract_lets taken q l w
  have htaken : k.Reloads k.gate.half taken := .ite (.takeWper (.refl k)) (.refl k)
  have hhalf : k.Reloads 2 l := htaken.setGate rfl
  split
  · exact hhalf
  · split
    next x2 m hduty => exact .schedule_settle (.of_snd (.ite_snd (hhalf.takeDuty w) hhalf) hduty) _ x2

theorem Skerry.boundary_reloads (k : Skerry) : k.Reloads 1 k.boundary := by
  unfold Skerry.boundary
  extract_lets counted q turned opened w q' l starts shown q'' resumed
  have hcounted : k.Reloads k.gate.half counted := .ite (.wr (.refl k) _ (by decide)) (.refl k)
  have hturned : k.Reloads k.gate.half turned := hcounted.setGate hcounted.half
  have hhalf : k.Reloads 1 l := hturned.takeWper.setGate rfl
  have hshown : k.Reloads 1 shown := (hhalf.wr _ (by decide)).wr _ (by decide)
  have hresumed : k.Reloads 1 resumed := .ite (hshown.setGate hshown.half) hhalf
  split
  · exact hhalf
  · split
    next x1 m hfirst =>
      have hm : k.Reloads 1 m := (hresumed.takeDuty w).of_snd hfirst
      split
      next x2 n hboth =>
        have hn : k.Reloads 1 n := .of_snd (.ite_snd hm (hm.takeDuty w)) hboth
        refine Skerry.Reloads.schedule_settle (.ite (.wr (.setGate hn ?_) _ ?_) hn) _ x2
        · exact hn.half
        · decide

/-! ### A new target -/

theorem Skerry.countSwitch_onlyFields (k : Skerry) (st : Nat) : k.onlyFields (k.countSwitch st) [SK_GATE_SW_CNT] :=
  Skerry.onlyFields_ite (Skerry.onlyFields_wr (k.onlyFields_refl _) (by simp)) (k.onlyFields_refl _)

@[simp] theorem Skerry.countSwitch_gate (k : Skerry) (st : Nat) : (k.countSwitch st).gate = k.gate := by
  rw [(k.countSwitch_onlyFields st).1]

/-- The fields that a new target writes. -/
def targetFields : List Fld :=
  [SK_GATE_SW_CNT, SK_GATE_STAT_MODULATING, SK_GATE_STAT_TARGET, SK_GATE_STAT_CLAMP] ++ edgeFields

/-- `l` is `k` with the target `st`, without modulation; a force that waits still waits (R367, R376). -/
structure Skerry.Targets (k : Skerry) (st : Nat) (l : Skerry) : Prop where
  frame : l = { k with regs := l.regs, gate := l.gate }
  force : l.gate.force = k.gate.force
  target : l.rd SK_GATE_STAT_TARGET = st % 8
  still : l.rd SK_GATE_STAT_MODULATING = 0
  fields : k.keepsBut l targetFields

namespace Skerry.Targets

variable {k l m : Skerry} {st : Nat}

theorem setGate (h : k.Targets st l) {q : SkGate} (hq : q.force = l.gate.force) : k.Targets st (l.setGate q) where
  frame := congrArg (fun x : Skerry => { x with gate := q }) h.frame
  force := hq.trans h.force
  target := h.target
  still := h.still
  fields := h.fields

theorem clamp (h : k.Targets st l) (v : Nat) : k.Targets st (l.wr SK_GATE_STAT_CLAMP v) where
  frame := congrArg (fun x : Skerry => { x with regs := (l.wr SK_GATE_STAT_CLAMP v).regs }) h.frame
  force := h.force
  target := (l.rd_wr_apart _ _ v (by decide)).trans h.target
  still := (l.rd_wr_apart _ _ v (by decide)).trans h.still
  fields := Skerry.keepsBut_wr h.fields (by simp [targetFields])

theorem edges (h : k.Targets st l) (j : l.Edges m) : k.Targets st m where
  frame := j.frame.trans (congrArg (fun x : Skerry => { x with regs := m.regs, gate := m.gate }) h.frame)
  force := (congrArg SkGate.force j.gate).trans h.force
  target := (j.fields _ (by decide)).trans h.target
  still := (j.fields _ (by decide)).trans h.still
  fields := fun f hf => (j.fields f fun e he => hf e (List.mem_append_right _ he)).trans (h.fields f hf)

end Skerry.Targets

/-- The switch is counted, and the new target is shown (R368). -/
theorem Skerry.showTarget_targets (k : Skerry) (st : Nat) :
    k.Targets st (((k.countSwitch st).wr SK_GATE_STAT_MODULATING 0).wr SK_GATE_STAT_TARGET st) := by
  obtain ⟨hframe, hkeep⟩ := k.countSwitch_onlyFields st
  refine ⟨?_, congrArg SkGate.force (k.countSwitch_gate st), Skerry.rd_wr_same _ _ _ (by decide), ?_,
    Skerry.keepsBut_wr (Skerry.keepsBut_wr (Skerry.keepsBut_mono hkeep ?_) ?_) ?_⟩
  · rw [hframe]
    rfl
  · exact (Skerry.rd_wr_apart _ _ _ _ (by decide)).trans (Skerry.rd_wr_same _ _ _ (by decide))
  all_goals simp [targetFields]

theorem Skerry.setTarget_targets (k : Skerry) (st : Nat) : k.Targets st (k.setTarget st) := by
  unfold Skerry.setTarget
  extract_lets same counted shown q reached q' aimed
  have hreached : k.Targets st reached := (k.showTarget_targets st).setGate rfl
  split
  · exact hreached.edges reached.settle_edges
  · have haimed : k.Targets st aimed := hreached.setGate rfl
    exact (haimed.clamp _).edges (Skerry.settle_edges _)

/-! ### Forces -/

/-- The force that waits for its timer boundary (R379). -/
def Skerry.forceAsked (k : Skerry) (st : Nat) : Skerry :=
  (((k.wr SK_GATE_FORCE_STATE st).wr SK_GATE_FORCE_EN 1).wr SK_GATE_FORCE_PEND 1).setGate { k.gate with force := some st }

theorem Skerry.forceAsked_spec (k : Skerry) {st : Nat} (hst : st < 8) : (k.forceAsked st).rd SK_GATE_FORCE_STATE = st ∧
    (k.forceAsked st).rd SK_GATE_FORCE_EN = 1 ∧ (k.forceAsked st).rd SK_GATE_FORCE_PEND = 1 ∧
    k.keepsBut (k.forceAsked st) [SK_GATE_FORCE_STATE, SK_GATE_FORCE_EN, SK_GATE_FORCE_PEND] := by
  refine ⟨?_, ?_, ?_, Skerry.keepsBut_wr (Skerry.keepsBut_wr (Skerry.keepsBut_wr (k.keepsBut_refl _) ?_) ?_) ?_⟩
  case refine_1 =>
    rw [Skerry.forceAsked, Skerry.setGate_rd, Skerry.rd_wr_apart _ _ _ _ (by decide), Skerry.rd_wr_apart _ _ _ _ (by decide),
      Skerry.rd_wr_same _ _ _ (by decide)]
    exact Nat.mod_eq_of_lt hst
  all_goals simp (disch := decide) [Skerry.forceAsked, Skerry.rd_wr_same, Skerry.rd_wr_apart]

/-- The forced state is the target, and the force no longer waits (R379). -/
def Skerry.forced (k : Skerry) (st : Nat) : Skerry :=
  (((k.wr SK_GATE_FORCE_PEND 0).wr SK_GATE_STAT_FORCED 1).setGate { k.gate with force := none }).setTarget st

theorem Skerry.forced_spec (k : Skerry) {st : Nat} (hst : st < 8) : (k.forced st).rd SK_GATE_STAT_TARGET = st ∧
    (k.forced st).rd SK_GATE_STAT_FORCED = 1 ∧ (k.forced st).rd SK_GATE_FORCE_PEND = 0 ∧
    (k.forced st).rd SK_GATE_STAT_MODULATING = 0 ∧ (k.forced st).gate.force = none ∧ (k.forced st).mem = k.mem ∧
    (k.forced st).pow = k.pow := by
  obtain ⟨hframe, hforce, htarget, hstill, hkeep⟩ :=
    (((k.wr SK_GATE_FORCE_PEND 0).wr SK_GATE_STAT_FORCED 1).setGate { k.gate with force := none }).setTarget_targets st
  refine ⟨htarget.trans (Nat.mod_eq_of_lt hst), (hkeep _ (by decide)).trans ?_, (hkeep _ (by decide)).trans ?_, hstill, hforce, ?_, ?_⟩
  · exact Skerry.rd_wr_same _ _ _ (by decide)
  · exact (Skerry.rd_wr_apart _ _ _ _ (by decide)).trans (Skerry.rd_wr_same _ _ _ (by decide))
  · rw [Skerry.forced, hframe]
    rfl
  · rw [Skerry.forced, hframe]
    rfl

theorem Skerry.on_eq_decide (k : Skerry) {f : Fld} (hf : f.w = 1) : k.on f = decide (k.rd f = 1) := by
  have hlt : k.rd f < 2 := by simpa [hf] using k.rd_lt f
  exact decide_eq_decide.mpr (by omega)

theorem Skerry.dropForce_shown (k : Skerry) :
    k.dropForce.rd SK_GATE_FORCE_EN = 0 ∧ k.dropForce.rd SK_GATE_FORCE_PEND = 0 ∧ k.dropForce.rd SK_GATE_STAT_FORCED = 0 := by
  simp (disch := decide) [Skerry.dropForce, Skerry.rd_wr_same, Skerry.rd_wr_apart]

/-- A release ends the force, and a weave cell that was forced has modulation to resume (R381). -/
theorem Skerry.release_eq (k : Skerry) : k.release = k.dropForce.setGate { k.dropForce.gate with
    resume := k.gate.resume || (decide (k.rd SK_GATE_STAT_FORCED = 1) && decide (k.mode = 1)) } := by
  have hmode : k.dropForce.mode = k.mode := k.dropForce_rd (by decide)
  simp only [Skerry.release, Skerry.on_eq_decide k (f := SK_GATE_STAT_FORCED) rfl, hmode]
  by_cases hresume : k.rd SK_GATE_STAT_FORCED = 1 ∧ k.mode = 1
  · simp [hresume]
  · have hkept : (decide (k.rd SK_GATE_STAT_FORCED = 1) && decide (k.mode = 1)) = false := by simpa using hresume
    rw [hkept, Bool.or_false, if_neg (by simpa using hresume)]
    rfl

/-! ### The refresh request -/

theorem Skerry.refTime_wr (k : Skerry) {f : Fld} (v p : Nat) (hout : f.apart SK_GATE_STAT_OUT) (hmin : f.apart SK_GATE_TIME1_REF_MIN) :
    (k.wr f v).refTime p = k.refTime p := by
  simp only [Skerry.refTime, Skerry.out, Skerry.rd_wr_apart _ _ _ _ hout, Skerry.rd_wr_apart _ _ _ _ hmin]
  rfl

/-- Showing a pair's refresh time changes neither the times nor their limit. -/
theorem Skerry.refreshDue_wr (k : Skerry) {f : Fld} (v : Nat) (hf : ∀ e ∈ [SK_GATE_STAT_OUT, SK_GATE_TIME1_REF_MIN, SK_GATE_REF_REF_LIM,
    SK_GATE_STAT_MODULATING], f.apart e) : (k.wr f v).refreshDue = k.refreshDue := by
  simp only [Skerry.refreshDue, Skerry.refLim, Skerry.modulating, Skerry.on, k.refTime_wr v _ (hf _ (by simp)) (hf _ (by simp)),
    Skerry.rd_wr_apart _ _ _ _ (hf SK_GATE_REF_REF_LIM (by simp)), Skerry.rd_wr_apart _ _ _ _ (hf SK_GATE_STAT_MODULATING (by simp)),
    Skerry.wr_pow]
  rfl

/-- The refresh times are shown, and the request tells whether one of them has reached REF_LIM (R382, R383). -/
theorem Skerry.refreshShow_spec (k : Skerry) : k.refreshShow.rd SK_GATE_STAT_REFRESH_REQ = b2n k.refreshDue ∧
    k.refreshShow.rd SK_GATE_REF_PAIR0 = min (k.refTime 0 / 625000) 4095 := by
  constructor
  · rw [Skerry.refreshShow, Skerry.rd_wr_same _ _ _ (by decide), Skerry.refreshDue_wr _ _ (by decide),
      Skerry.refreshDue_wr _ _ (by decide)]
    exact b2n_mod_two _
  · rw [Skerry.refreshShow, Skerry.rd_wr_apart _ _ _ _ (by decide), Skerry.rd_wr_apart _ _ _ _ (by decide),
      Skerry.rd_wr_same _ _ _ (by decide)]
    exact Nat.mod_eq_of_lt (Nat.lt_of_le_of_lt (Nat.min_le_right _ _) (by decide))

/-! ### The statement -/

/-- Settles O45: each command reaches its cell alone, and there it is one operation of the gate timer; the edges it takes turn a channel on
only while its complement is off. -/
theorem gateEdges : Obligations.GateEdges := by
  refine ⟨fun g s hrun hz => ?edge, fun g s hrun hz => ?undriven, fun g s hrun hmode => ?reload, fun g v s hrun hlo hhi => ?period,
    fun g v s hrun hout => ?badPeriod, fun g v s hrun hok => ?force, fun g v s hrun hrefused => ?refused,
    fun g st s hrun hforce hst hz hfired => ?apply, fun g s hrun => ?release, fun g s hrun => ?refresh⟩
  case edge =>
    have hedges := (s.cell g).takeCmds.settle_edges
    refine State.runCell_next (l := (s.cell g).takeCmds.settle) hrun (by simp [hz]) fun t ht hcell => ?_
    rw [ht]
    exact ⟨congrArg SkGate.cmds hedges.gate, hedges.pairs, hedges.fields SK_GATE_STAT_TARGET (by decide), Skerry.settle_edge_pend _,
      hedges.mem, hedges.pow, hcell⟩
  case undriven =>
    exact State.runCell_next (l := s.cell g) hrun (if_pos hz) fun t ht hcell => State.onlyCell_same ht hcell
  case reload =>
    refine State.runCell_next hrun (if_pos hmode) fun t ht hcell => ?_
    have hreloads : (s.cell g).Reloads (if (s.cell g).gate.half = 1 then 2 else 1) (t.cell g) := by
      rw [ht]
      split
      · exact (s.cell g).midPeriod_reloads
      · exact (s.cell g).boundary_reloads
    exact ⟨hreloads.half, hreloads.pairs, by rw [hreloads.frame], by rw [hreloads.frame], hcell⟩
  case period =>
    refine State.runCell_next hrun (if_pos ⟨hlo, hhi⟩) fun t ht hcell => ?_
    rw [ht]
    refine ⟨?_, rfl, (s.cell g).wr_keepsBut SK_GATE_WPER v.toNat, hcell⟩
    exact ((s.cell g).rd_wr_same SK_GATE_WPER _ (by decide)).trans (Nat.mod_eq_of_lt (Nat.lt_succ_of_le hhi))
  case badPeriod =>
    exact State.runCell_next (l := s.cell g) hrun (if_neg (by omega)) fun t ht hcell => State.onlyCell_same ht hcell
  case force =>
    obtain ⟨hstate, hen, hpend, hkeep⟩ := (s.cell g).forceAsked_spec (Nat.mod_lt v.toNat (by decide))
    refine State.runCell_next (l := (s.cell g).forceAsked (v.toNat % 8)) hrun ?_ fun t ht hcell => ?_
    · simp only [Skerry.force, hok]
      rfl
    · rw [ht]
      exact ⟨hstate, hen, hpend, rfl, hkeep, hcell⟩
  case refused =>
    exact State.runCell_next (l := s.cell g) hrun (by simp [Skerry.force, hrefused]) fun t ht hcell => State.onlyCell_same ht hcell
  case apply =>
    obtain ⟨htarget, hforced, hpend, hmod, hnone, hmem, hpow⟩ := (s.cell g).forced_spec hst
    refine State.runCell_next (l := (s.cell g).forced st) hrun ?_ fun t ht hcell => ?_
    · simp only [hforce, hz, hfired]
      rfl
    · rw [ht]
      exact ⟨htarget, hforced, hpend, hmod, hnone, hmem, hpow, hcell⟩
  case release =>
    obtain ⟨hen, hpend, hforced⟩ := (s.cell g).dropForce_shown
    refine State.runCell_next hrun (Skerry.release_eq _) fun t ht hcell => ?_
    rw [ht]
    exact ⟨hen, hpend, hforced, rfl, fun f hf => Skerry.dropForce_rd _ hf, hcell⟩
  case refresh =>
    obtain ⟨hreq, hpair⟩ := (s.cell g).refreshShow_spec
    refine State.runCell_next hrun rfl fun t ht hcell => ?_
    rw [ht]
    exact ⟨hreq, hpair, (s.cell g).refreshShow_onlyFields, hcell⟩

end Sys2Proof.Machine
end

section
/-! What a route's event flags and a trigger of the loop taps leave alone: every word from the recorder's upwards (R305, R320, R321,
R331, R434). -/

namespace Sys2Proof.Machine
open Sys2Proof

/-- A word below the recorder's. -/
abbrev BelowRec (a : Nat) : Prop := a < A_ACQ_REC_CTRL

/-- A fold writes where its steps over the list's elements write. -/
theorem State.WritesIn.foldl_mem {p : Nat → Prop} {α : Type} {f : State → α → State} {xs : List α}
    (hf : ∀ (t : State), ∀ x ∈ xs, t.WritesIn p (f t x)) (s : State) : s.WritesIn p (xs.foldl f s) :=
  List.foldlRecOn (motive := s.WritesIn p) xs f (.refl p s) (fun t ht x hx => ht.trans (hf t x hx))

/-! ### Event flags -/

theorem State.qUpdate_belowRec (s : State) : s.WritesIn BelowRec s.qUpdate := by
  refine State.WritesIn.foldl_mem (fun t p hp => ?_) s
  have hp := List.mem_range.mp hp
  have hdepth : t.WritesIn BelowRec (t.wr (SCHED_QDEPTH p) (t.qdepth p)) :=
    (State.WritesIn.refl _ t).wr _ (by simp only [SCHED_QDEPTH, A_SCHED_QDEPTH, A_ACQ_REC_CTRL, BelowRec]; omega)
  exact .ite (hdepth.wr _ (by simp only [SCHED_ST_QMAX, A_SCHED_ST_QMAX, A_ACQ_REC_CTRL, BelowRec]; omega)) hdepth

/-- A task names its flow by eight bits. -/
theorem State.belowRec_flow (s : State) (k : Nat) : BelowRec (SCHED_FLOW_HELD (s.taskFlow k)).addr := by
  have hflow : s.taskFlow k < 256 := s.rd_lt (SCHED_TASK_CFG_FLOW k)
  simp only [SCHED_FLOW_HELD, A_SCHED_FLOW, A_ACQ_REC_CTRL, BelowRec]
  omega

theorem State.tally_belowRec (s : State) (k st : Nat) (up : Bool) : s.WritesIn BelowRec (s.tally k st up) := by
  have hstat : ∀ {f : Fld} (v : Nat), f.addr = A_SCHED_STAT → s.WritesIn BelowRec (s.wr f v) := fun v hf =>
    (State.WritesIn.refl _ s).wr v (hf ▸ (by decide))
  have hheld := hstat (f := SCHED_STAT_HELD) (if up then s.rd SCHED_STAT_HELD + 1 else s.rd SCHED_STAT_HELD - 1) rfl
  exact .ite (hstat _ rfl) (.ite (.ite (hheld.wr _ (State.belowRec_flow _ k)) hheld) (.ite (hstat _ rfl) (.refl _ s)))

theorem State.trace_belowRec (s : State) (kind e k flags waited : Nat) : s.WritesIn BelowRec (s.trace kind e k flags waited) :=
  .ite (.ite ⟨rfl, rfl, rfl, rfl, rfl, rfl, fun _ _ => rfl⟩ ((State.WritesIn.refl _ s).wr _ (by decide))) (.refl _ s)

section Task
variable {k : Nat} (hk : k < 256)
include hk

theorem belowRec_A_SCHED_TASK_STAT : BelowRec (A_SCHED_TASK_STAT k) := by
  simp only [A_SCHED_TASK_STAT, A_ACQ_REC_CTRL, BelowRec]; omega

theorem State.taskTo_belowRec (s : State) (st : Nat) : s.WritesIn BelowRec (s.taskTo k st) :=
  ((s.tally_belowRec k _ _).wr _ (belowRec_A_SCHED_TASK_STAT hk)).trans (State.tally_belowRec _ k st true)

theorem State.becomeReady_belowRec (s : State) (stamp : Nat) : s.WritesIn BelowRec (s.becomeReady k stamp) := by
  have hstamp : s.WritesIn BelowRec { s with sched := { s.sched with readyAt := tset (fun _ => 0) s.sched.readyAt k stamp } } :=
    ⟨rfl, rfl, rfl, rfl, rfl, rfl, fun _ _ => rfl⟩
  have htask := fun st => hstamp.trans (State.taskTo_belowRec hk _ st)
  exact .ite ((htask _).trans (State.trace_belowRec ..)) ((htask _).wr _ (belowRec_A_SCHED_TASK_STAT hk))

end Task

theorem State.passFlow_belowRec (s : State) (f : Nat) : s.WritesIn BelowRec (s.passFlow f) := by
  refine .ite ?_ (.refl _ s)
  cases hheld : s.heldOf f with
  | none => exact .refl _ s
  | some k =>
    have hk := State.heldOf_lt hheld
    exact (State.taskTo_belowRec hk s ST_READY).wr _ (belowRec_A_SCHED_TASK_STAT hk)

section Task
variable {k : Nat} (hk : k < 256)
include hk

theorem State.leaveReady_belowRec (s : State) (st : Nat) : s.WritesIn BelowRec (s.leaveReady k st) :=
  .ite ((State.taskTo_belowRec hk s st).trans (State.passFlow_belowRec _ _)) (State.taskTo_belowRec hk s st)

theorem State.judgeTask_belowRec (s : State) : s.WritesIn BelowRec (s.judgeTask k) := by
  have hqueue : ∀ {c : Prop} [Decidable c] {t : State}, s.WritesIn BelowRec t →
      s.WritesIn BelowRec (if c then s else t).qUpdate := fun h => (State.WritesIn.ite (.refl _ s) h).trans (State.qUpdate_belowRec _)
  exact .ite (.refl _ s) (.ite (hqueue (State.leaveReady_belowRec hk s _)) (.ite (hqueue (State.becomeReady_belowRec hk s _))
    (hqueue (State.leaveReady_belowRec hk s _))))

theorem State.setFlags_belowRec (s : State) (mask : Nat) : s.WritesIn BelowRec (s.setFlags k mask) := by
  have hflags : BelowRec (A_SCHED_FLAGS k) := by simp only [A_SCHED_FLAGS, A_ACQ_REC_CTRL, BelowRec]; omega
  have hoverrun : s.WritesIn BelowRec (s.wr (SCHED_TASK_STAT_OVERRUN k) 1) :=
    (State.WritesIn.refl _ s).wr _ (belowRec_A_SCHED_TASK_STAT hk)
  exact ((State.WritesIn.ite (hoverrun.wr _ (by decide)) (.refl _ s)).wr _ hflags).trans (State.judgeTask_belowRec hk _)

end Task

/-- The routes name tasks by eight bits. -/
theorem State.fireRoute_belowRec (s : State) (src : Nat) : s.WritesIn BelowRec (s.fireRoute src) := by
  refine .ite (.refl _ s) (.foldl_mem (fun t k hk => State.setFlags_belowRec ?_ t _) s)
  obtain ⟨i, -, hi⟩ := List.mem_filterMap.mp (List.mem_dedup.mp hk)
  split at hi
  · exact Option.some.inj hi ▸ s.rd_lt (SCHED_ROUTE_TASK i)
  · cases hi

/-! ### Taps -/

theorem State.setTap_belowRec (s : State) (u : Nat) (t : Tap) : s.WritesIn BelowRec (s.setTap u t) :=
  ⟨rfl, rfl, rfl, rfl, rfl, rfl, fun _ _ => rfl⟩

theorem State.tapTrig_belowRec (s : State) {u : Nat} (hu : u < 16) : s.WritesIn BelowRec (s.tapTrig u) := by
  have hstat : BelowRec (A_LOOP_TAP_STAT u) := by simp only [A_LOOP_TAP_STAT, A_ACQ_REC_CTRL, BelowRec]; omega
  have hpre : BelowRec (A_LOOP_TAP_PRE u) := by simp only [A_LOOP_TAP_PRE, A_ACQ_REC_CTRL, BelowRec]; omega
  have hrefl := State.WritesIn.refl BelowRec s
  simp only [State.tapTrig]
  split
  · exact hrefl.wr _ hstat
  · split
    · exact hrefl
    · exact (((hrefl.wr _ hstat).wr _ hstat).wr _ hpre).trans (State.setTap_belowRec _ u _)

theorem State.tapsBy_belowRec (s : State) (bit : Nat) (p : Nat → Bool) : s.WritesIn BelowRec (s.tapsBy bit p) :=
  .foldl_mem (fun t _ hu => .ite (t.tapTrig_belowRec (List.mem_range.mp hu)) (.refl _ t)) s

@[simp] theorem State.tapTrig_recd (s : State) (u : Nat) : (s.tapTrig u).recd = s.recd := by
  simp only [State.tapTrig]
  split
  · rfl
  · split <;> rfl

@[simp] theorem State.tapsBy_recd (s : State) (bit : Nat) (p : Nat → Bool) : (s.tapsBy bit p).recd = s.recd := by
  refine List.foldlRecOn (motive := fun t : State => t.recd = s.recd) _ _ rfl (fun t ht u _ => ?_)
  split
  · exact (t.tapTrig_recd u).trans ht
  · exact ht

end Sys2Proof.Machine
end

section
/-! The recorder (R426 to R442): what ARM takes, what a trigger and the end of a capture show, the rows, and what frees a segment and writes
an engine. -/

namespace Sys2Proof.Machine
open Sys2Proof

section Recorder
variable {s : State}

/-- On an edge without a raise, an order of block ACQ that is ignored leaves the raise of the block's range source alone (R433, R488). -/
theorem State.recRange_of_fresh (h : s.fresh) (p : Port) : s.range p A_ACQ_REC_CTRL = { s with flt := (s.range p A_ACQ_REC_CTRL).flt } ∧
    s.raisedAs (s.range p A_ACQ_REC_CTRL) 0x1A0 (A_ACQ_REC_CTRL % 0x10000 + p.master * 65536) :=
  State.range_of_fresh h p A_ACQ_REC_CTRL

@[simp] theorem State.setRecd_recState (s : State) (q : Recd) : (s.setRecd q).recState = s.recState := rfl

/-! ### The engines' status -/

/-- A word that shows an engine's state. -/
abbrev EngStatWord (a : Nat) : Prop := A_ACQ_ENG_STAT 0 ≤ a ∧ a % 64 = A_ACQ_ENG_STAT 0 % 64

/-- The set-up is read from no word that shows an engine's state. -/
theorem State.recCfg_congr {t : State} (h : ∀ a, ¬ EngStatWord a → t.rdW a = s.rdW a) : t.recCfg = s.recCfg := by
  have hrd : ∀ f : Fld, ¬ EngStatWord f.addr → t.rd f = s.rd f := fun f hf => State.rd_congr (h f.addr hf)
  have hchan : (List.range 16).map (fun i => t.rd (ACQ_CHAN i)) = (List.range 16).map (fun i => s.rd (ACQ_CHAN i)) :=
    List.map_congr_left fun i hi => hrd _ (by
      have := List.mem_range.mp hi
      simp only [ACQ_CHAN, A_ACQ_CHAN, EngStatWord, A_ACQ_ENG_STAT]; omega)
  have hcfg : ∀ e, ¬ EngStatWord (A_ACQ_ENG_CFG e) := fun e => by simp only [EngStatWord, A_ACQ_ENG_CFG, A_ACQ_ENG_STAT]; omega
  have hsrc : ∀ e, ¬ EngStatWord (A_ACQ_ENG_SRC e) := fun e => by simp only [EngStatWord, A_ACQ_ENG_SRC, A_ACQ_ENG_STAT]; omega
  have hlevel : ∀ e, ¬ EngStatWord (A_ACQ_ENG_LEVEL e) := fun e => by simp only [EngStatWord, A_ACQ_ENG_LEVEL, A_ACQ_ENG_STAT]; omega
  have haux : ∀ e, ¬ EngStatWord (A_ACQ_ENG_AUX e) := fun e => by simp only [EngStatWord, A_ACQ_ENG_AUX, A_ACQ_ENG_STAT]; omega
  have hhold : ∀ e, ¬ EngStatWord (A_ACQ_ENG_HOLD e) := fun e => by simp only [EngStatWord, A_ACQ_ENG_HOLD, A_ACQ_ENG_STAT]; omega
  simp only [State.recCfg, State.rdS, hchan, hrd ACQ_REC_BASE_BASE (by decide), hrd ACQ_REC_SIZE (by decide), hrd ACQ_REC_PRE (by decide),
    hrd ACQ_REC_POST (by decide), hrd ACQ_REC_CFG_CH (by decide), hrd ACQ_REC_CFG_RATE (by decide), hrd ACQ_REC_CFG_SEGS (by decide),
    hrd (ACQ_ENG_CFG_TYPE _) (hcfg _), hrd (ACQ_ENG_CFG_POL _) (hcfg _), hrd (ACQ_ENG_CFG_EITHER _) (hcfg _),
    hrd (ACQ_ENG_CFG_RATE _) (hcfg _), hrd (ACQ_ENG_CFG_CAPTURE _) (hcfg _), hrd (ACQ_ENG_CFG_QUAL _) (hcfg _),
    hrd (ACQ_ENG_CFG_HOLD_MODE _) (hcfg _), hrd (ACQ_ENG_SRC_SOURCE _) (hsrc _), hrd (ACQ_ENG_SRC_N _) (hsrc _),
    hrd (ACQ_ENG_LEVEL _) (hlevel _), hrd (ACQ_ENG_AUX _) (haux _), hrd (ACQ_ENG_HOLD _) (hhold _), hrd (ACQ_ENG_SRC_MASK _) (hsrc _)]

/-- Nor is what the rules ask of the streams and the converters; the rest that they ask is the chart's. -/
theorem State.recEnv_congr {t : State} {r : List (Nat × Word)} {q : Recd} (h : ∀ a, ¬ EngStatWord a → t.rdW a = s.rdW a)
    (hframe : t = { s with regs := r, recd := q }) : t.recEnv = s.recEnv := by
  have hnode : t.isNode = s.isNode := by rw [hframe]; rfl
  have hcell : t.isCell = s.isCell := by rw [hframe]; rfl
  have hring : (List.range 24).map (fun n => (t.rd (CONV_STREAM_BASE_BASE n) * 16, t.rd (CONV_STREAM_SIZE n) * 16)) =
      (List.range 24).map (fun n => (s.rd (CONV_STREAM_BASE_BASE n) * 16, s.rd (CONV_STREAM_SIZE n) * 16)) :=
    List.map_congr_left fun n hn => by
      have hn := List.mem_range.mp hn
      rw [State.rd_congr (f := CONV_STREAM_BASE_BASE n) (h _ (by
        simp only [CONV_STREAM_BASE_BASE, A_CONV_STREAM_BASE, EngStatWord, A_ACQ_ENG_STAT]; omega)),
        State.rd_congr (f := CONV_STREAM_SIZE n) (h _ (by
        simp only [CONV_STREAM_SIZE, A_CONV_STREAM_SIZE, EngStatWord, A_ACQ_ENG_STAT]; omega))]
  have hinput : ∀ c, t.convWant (c % 0x100 / 4) = s.convWant (c % 0x100 / 4) := fun c => by
    rw [State.convWant, State.convWant, h _ (by simp only [A_CONV_CFG, EngStatWord, A_ACQ_ENG_STAT]; omega)]
  simp only [State.recEnv, hnode, hcell, hring, hinput]

/-- The engines' status with every engine unprimed (R438). -/
def State.showUnprimed (s : State) : State := (List.range 8).foldl (fun s e => s.wr (ACQ_ENG_STAT_PRIMED e) 0) s

theorem State.showUnprimed_spec (s : State) : (∃ r, s.showUnprimed = { s with regs := r }) ∧
    ∀ a, ¬ EngStatWord a → s.showUnprimed.rdW a = s.rdW a := by
  refine List.foldlRecOn (motive := fun t : State => (∃ r, t = { s with regs := r }) ∧ ∀ a, ¬ EngStatWord a → t.rdW a = s.rdW a)
    _ _ ⟨⟨s.regs, rfl⟩, fun _ _ => rfl⟩ (fun t ht e _ => ?_)
  obtain ⟨⟨r, hframe⟩, hword⟩ := ht
  refine ⟨⟨(t.wr (ACQ_ENG_STAT_PRIMED e) 0).regs, by rw [hframe]; rfl⟩, fun a ha => (t.rdW_wr_ne _ 0 ?_).trans (hword a ha)⟩
  rintro rfl
  exact ha (by simp only [ACQ_ENG_STAT_PRIMED, A_ACQ_ENG_STAT, EngStatWord]; omega)

theorem State.unprime_eq (s : State) : ∃ l, s.unprime = s.showUnprimed.setRecd { s.showUnprimed.recd with engs := l } := ⟨_, rfl⟩

/-- Taking the engines' primings back writes no other word, and leaves the captures as they are. -/
theorem State.unprime_spec (s : State) : (∃ r q, s.unprime = { s with regs := r, recd := q }) ∧
    s.unprime.recd.caps = s.recd.caps ∧ ∀ a, ¬ EngStatWord a → s.unprime.rdW a = s.rdW a := by
  obtain ⟨l, hl⟩ := s.unprime_eq
  obtain ⟨⟨r, hframe⟩, hword⟩ := s.showUnprimed_spec
  rw [hl]
  exact ⟨⟨r, { s.recd with engs := l }, by rw [hframe]; rfl⟩, by rw [hframe]; rfl,
    fun a ha => (State.setRecd_rdW _ _ a).trans (hword a ha)⟩

/-! ### READY, and the entry into FILL -/

theorem State.recReady_rd (s : State) {f : Fld} (hf : ACQ_REC_STAT_STATE.apart f) : s.recReady.rd f = s.rd f := by
  unfold State.recReady
  split
  · exact s.rd_wr_apart _ f _ hf
  · rfl

/-- With READY no row comes or goes, and the cells and the memory stay (R431). -/
theorem State.recReady_frame (s : State) : s.recReady.recd.rows = s.recd.rows ∧ s.recReady.recd.queue = s.recd.queue ∧
    s.recReady.cells = s.cells ∧ s.recReady.mem = s.mem := by
  unfold State.recReady
  split <;> exact ⟨rfl, rfl, rfl, rfl⟩

/-- FILL gives way to READY where the rows held reach the pre-trigger rows granted (R431). -/
theorem State.recReady_recState (h : s.recState = RS_FILL) :
    s.recReady.recState = if s.recd.rows ≥ s.rd ACQ_REC_GPRE then RS_READY else RS_FILL := by
  unfold State.recReady
  by_cases hrows : s.recd.rows ≥ s.rd ACQ_REC_GPRE
  · rw [if_pos ⟨h, hrows⟩, if_pos hrows]
    exact s.rd_wr_same _ _ (by decide)
  · rw [if_neg (fun hready => hrows hready.2), if_neg hrows, h]

/-- What an entry into FILL shows: capacity, grants, segment, no decimation, CLIP, the state (R430, R431, R442). -/
def State.showFill (s : State) (c gp gq j clip : Nat) : State :=
  ((((((s.wr ACQ_REC_C c).wr ACQ_REC_GPRE gp).wr ACQ_REC_GPOST gq).wr ACQ_REC_STAT_SEG j).wr ACQ_REC_STAT_D 0).wr ACQ_REC_STAT_CLIP
    clip).wr ACQ_REC_STAT_STATE RS_FILL

theorem State.showFill_spec (s : State) (c gp gq clip : Nat) {j : Nat} (hj : j < 64) : (s.showFill c gp gq j clip).recState = RS_FILL ∧
    (s.showFill c gp gq j clip).rd ACQ_REC_STAT_SEG = j ∧ (s.showFill c gp gq j clip).rd ACQ_REC_STAT_D = 0 := by
  refine ⟨State.rd_wr_same _ _ _ (by decide), ?segment, ?decimation⟩
  case segment =>
    rw [State.showFill, State.rd_wr_apart _ _ _ _ (by decide), State.rd_wr_apart _ _ _ _ (by decide),
      State.rd_wr_apart _ _ _ _ (by decide), State.rd_wr_same _ _ _ (by decide)]
    exact Nat.mod_eq_of_lt hj
  case decimation =>
    rw [State.showFill, State.rd_wr_apart _ _ _ _ (by decide), State.rd_wr_apart _ _ _ _ (by decide),
      State.rd_wr_same _ _ _ (by decide)]
    rfl

@[simp] theorem State.showFill_cells (s : State) (c gp gq j clip : Nat) : (s.showFill c gp gq j clip).cells = s.cells := rfl

@[simp] theorem State.showFill_mem (s : State) (c gp gq j clip : Nat) : (s.showFill c gp gq j clip).mem = s.mem := rfl

/-- The entry into FILL before the pre-trigger part is looked at: no rows yet, and a clipped grant raised (R430, R431). -/
theorem State.recFill_eq (s : State) (j : Nat) : ∃ (u : State) (c gp gq clip : Nat) (q : Recd),
    s.recFill j = ((u.showFill c gp gq j clip).setRecd q).recReady ∧ q.rows = 0 ∧
      (u = s ∨ u = s.rangeBlk (blkOf A_ACQ_REC_CTRL)) := by
  refine ⟨_, _, _, _, _, _, rfl, rfl, ?_⟩
  split
  · exact .inr rfl
  · exact .inl rfl

/-- An entry into FILL is one into READY where no pre-trigger rows are granted (R430, R431). -/
theorem State.recFill_spec (s : State) {j : Nat} (hj : j < 64) :
    (s.recFill j).recState = (if (s.recFill j).rd ACQ_REC_GPRE = 0 then RS_READY else RS_FILL) ∧
      (s.recFill j).rd ACQ_REC_STAT_SEG = j ∧ (s.recFill j).recd.rows = 0 ∧ (s.recFill j).rd ACQ_REC_STAT_D = 0 ∧
      (s.recFill j).cells = s.cells ∧ (s.recFill j).mem = s.mem := by
  obtain ⟨u, c, gp, gq, clip, q, hfill, hrows, hu⟩ := s.recFill_eq j
  obtain ⟨hstate, hseg, hd⟩ := u.showFill_spec c gp gq clip hj
  obtain ⟨hcells, hmem⟩ : u.cells = s.cells ∧ u.mem = s.mem := by
    rcases hu with rfl | rfl
    · exact ⟨rfl, rfl⟩
    · exact ⟨s.raise_cells _ _, s.raise_mem _ _⟩
  have hkeep : ∀ f : Fld, ACQ_REC_STAT_STATE.apart f → (s.recFill j).rd f = (u.showFill c gp gq j clip).rd f := fun f hf => by
    rw [hfill, State.recReady_rd _ hf, State.setRecd_rd]
  obtain ⟨hrows', -, hcells', hmem'⟩ := ((u.showFill c gp gq j clip).setRecd q).recReady_frame
  rw [← hfill, State.setRecd_recd] at hrows'
  rw [← hfill, State.setRecd_cells, State.showFill_cells] at hcells'
  rw [← hfill, State.setRecd_mem, State.showFill_mem] at hmem'
  refine ⟨?_, (hkeep _ (by decide)).trans hseg, hrows'.trans hrows, (hkeep _ (by decide)).trans hd, hcells'.trans hcells,
    hmem'.trans hmem⟩
  have hready := State.recReady_recState (s := (u.showFill c gp gq j clip).setRecd q) ((State.setRecd_recState _ q).trans hstate)
  rw [← hfill, State.setRecd_recd, State.setRecd_rd, hrows] at hready
  rw [hready, hkeep ACQ_REC_GPRE (by decide)]
  simp only [ge_iff_le, Nat.le_zero]

/-! ### ARM -/

/-- The next segment is found from the captures and the recorder's words alone. -/
theorem State.nextSeg_congr {t : State} (h : ∀ a, ¬ EngStatWord a → t.rdW a = s.rdW a) (hcaps : t.recd.caps = s.recd.caps) :
    t.nextSeg = s.nextSeg := by
  have hcfg : ∀ f : Fld, f.addr = A_ACQ_REC_CFG → t.rd f = s.rd f := fun f hf => State.rd_congr (h f.addr (hf ▸ (by decide)))
  have hfree : (List.range (s.rd ACQ_REC_CFG_SEGS)).find? (fun j => !t.segFull j) =
      (List.range (s.rd ACQ_REC_CFG_SEGS)).find? (fun j => !s.segFull j) := List.find?_congr fun j hj => by
    have hsegs : s.rd ACQ_REC_CFG_SEGS < 128 := s.rd_lt ACQ_REC_CFG_SEGS
    have hj := List.mem_range.mp hj
    rw [State.segFull, State.segFull, State.rd_congr (f := ACQ_SEG_FULL (j / 32)) (h _ (by
      simp only [ACQ_SEG_FULL, A_ACQ_SEG_FULL, EngStatWord, A_ACQ_ENG_STAT]; omega))]
  rw [State.nextSeg, State.nextSeg, State.on, State.on, hcfg _ rfl, hcfg _ rfl, hfree, hcaps]

/-- A set-up that keeps the rules, with a segment to take, lets the recorder in (R427, R430). -/
theorem State.recEnter_of_ok {j : Nat} (hok : s.recCfg.ok s.recEnv = true) (hseg : s.nextSeg = some j) :
    s.recEnter = (s.setRecd { s.recd with rearm := 0 }).recFill j := by
  set t := s.setRecd { s.recd with rearm := 0 } with ht
  have hok' : t.recCfg.ok t.recEnv = true := hok
  have hseg' : t.nextSeg = some j := hseg
  simp only [State.recEnter, ← ht, hok', hseg', Bool.not_true, Bool.false_eq_true, if_false]

/-- ARM of an idle recorder whose set-up keeps the rules takes the next segment (R427, R430, R431). -/
theorem State.recArm_of_ok (p : Port) {j : Nat} (hrec : s.hasRec = true) (hidle : s.recState = RS_IDLE)
    (hok : s.recCfg.ok s.recEnv = true) (hseg : s.nextSeg = some j) :
    ∃ q, s.recArm p = (s.unprime.setRecd q).recFill j := by
  obtain ⟨⟨r, q, hframe⟩, hcaps, hword⟩ := s.unprime_spec
  have hok' : s.unprime.recCfg.ok s.unprime.recEnv = true := by rw [State.recCfg_congr hword, State.recEnv_congr hword hframe, hok]
  have henter := State.recEnter_of_ok hok' ((State.nextSeg_congr hword hcaps).trans hseg)
  exact ⟨_, (by simp [State.recArm, hrec, hidle] : s.recArm p = s.unprime.recEnter).trans henter⟩

theorem State.recArm_of_busy (p : Port) (hrec : s.hasRec = true) (hbusy : s.recState ≠ RS_IDLE) :
    s.recArm p = s.range p A_ACQ_REC_CTRL := by
  simp [State.recArm, hrec, hbusy]

/-- The recorder waits for a trigger in FILL and in READY, and is then neither idle nor past one. -/
theorem State.recState_ne_of_waiting (hwait : s.recState = RS_FILL ∨ s.recState = RS_READY) :
    s.recState ≠ RS_IDLE ∧ s.recState ≠ RS_POST := by
  rcases hwait with h | h <;> rw [h] <;> decide

/-! ### Triggers -/

/-- What the recorder keeps of a trigger that it takes (R432, R436). -/
def State.recTaken (s : State) (fires how : Nat) : Recd :=
  { s.recd with trigNext := true, pre := min s.recd.rows (s.rd ACQ_REC_GPRE), left := s.rd ACQ_REC_GPOST, trigAt := s.clk.count + 1,
                fireCt := s.ct, fires := fires, how := how, cross := s.crossCt fires, chartId := s.rd CHART_ID }

/-- A trigger in FILL or READY is taken, and POST begins where rows are granted from the trigger on (R431, R432). -/
theorem State.recTrigger_spec (fires how : Nat) (hwait : s.recState = RS_FILL ∨ s.recState = RS_READY)
    (hpost : s.rd ACQ_REC_GPOST ≠ 0) : (s.recTrigger fires how).recState = RS_POST ∧
      (s.recTrigger fires how).recd = s.recTaken fires how ∧ (s.recTrigger fires how).cells = s.cells ∧ (s.recTrigger fires how).mem = s.mem := by
  obtain ⟨hidle, hpast⟩ := State.recState_ne_of_waiting hwait
  set u := (s.setRecd (s.recTaken fires how)).wr ACQ_REC_STAT_STATE RS_POST
  have htaps : u.WritesIn BelowRec (u.tapsBy 0 (fun _ => true)) := u.tapsBy_belowRec _ _
  have hleft : (u.tapsBy 0 (fun _ => true)).recd.left ≠ 0 := by rw [State.tapsBy_recd]; exact hpost
  have htaken : s.recTrigger fires how = u.tapsBy 0 (fun _ => true) :=
    (if_neg hidle).trans ((if_neg hpast).trans (if_neg hleft))
  rw [htaken]
  refine ⟨(htaps.rd (by decide)).trans ?_, u.tapsBy_recd _ _, htaps.cells, htaps.mem⟩
  exact State.rd_wr_same _ _ _ (by decide)

theorem State.recForce_of_waiting (p : Port) (hrec : s.hasRec = true) (hwait : s.recState = RS_FILL ∨ s.recState = RS_READY) :
    s.recForce p = s.recTrigger 0 1 := by
  simp [State.recForce, hrec, hwait]

theorem State.recForce_of_idle (p : Port) (hrec : s.hasRec = true) (hidle : s.recState = RS_IDLE) :
    s.recForce p = s.range p A_ACQ_REC_CTRL := by
  simp [State.recForce, hrec, hidle, RS_IDLE, RS_FILL, RS_READY]

/-! ### The end of a capture -/

/-- What the end of a capture shows before its route fires: the segment is full, and DONE_EV (R435). -/
def State.showCapture (s : State) : State :=
  (s.wr (ACQ_SEG_FULL (s.rd ACQ_REC_STAT_SEG / 32)) (s.rd (ACQ_SEG_FULL (s.rd ACQ_REC_STAT_SEG / 32)) |||
    2 ^ (s.rd ACQ_REC_STAT_SEG % 32))).wr ACQ_REC_STAT_DONE_EV 1

theorem State.showCapture_spec (s : State) : s.showCapture.rd ACQ_REC_STAT_DONE_EV = 1 ∧
    s.showCapture.segFull (s.rd ACQ_REC_STAT_SEG) = true ∧ s.showCapture.cells = s.cells ∧ s.showCapture.mem = s.mem := by
  have hseg : s.rd ACQ_REC_STAT_SEG < 64 := s.rd_lt ACQ_REC_STAT_SEG
  have happart : ACQ_REC_STAT_DONE_EV.addr ≠ (ACQ_SEG_FULL (s.rd ACQ_REC_STAT_SEG / 32)).addr := by
    simp only [ACQ_REC_STAT_DONE_EV, A_ACQ_REC_STAT, ACQ_SEG_FULL, A_ACQ_SEG_FULL]; omega
  have hword : s.rd (ACQ_SEG_FULL (s.rd ACQ_REC_STAT_SEG / 32)) ||| 2 ^ (s.rd ACQ_REC_STAT_SEG % 32) < 2 ^ 32 :=
    Nat.or_lt_two_pow (s.rd_lt _) (Nat.pow_lt_pow_right (by decide) (Nat.mod_lt _ (by decide)))
  refine ⟨State.rd_wr_same _ _ _ (by decide), ?_, rfl, rfl⟩
  rw [State.segFull, State.showCapture, State.rd_wr_apart _ _ _ _ (.inl happart), State.rd_wr_same _ _ _ (by simp [ACQ_SEG_FULL]),
    show (ACQ_SEG_FULL (s.rd ACQ_REC_STAT_SEG / 32)).w = 32 from rfl, Nat.mod_eq_of_lt hword, bitOf_or_two_pow]

theorem State.recEnd_eq (s : State) (short : Bool) : ∃ q r : Recd, s.recEnd short =
    ((((s.setRecd q).showCapture.fireRoute 0x38).incW ACQ_REC_CAP).wr ACQ_REC_STAT_STATE RS_IDLE).setRecd r := ⟨_, _, rfl⟩

/-- The end of a capture leaves the recorder idle and the capture's segment full; its route touches no word of the recorder (R435). -/
theorem State.recEnd_spec (s : State) (short : Bool) : (s.recEnd short).recState = RS_IDLE ∧
    (s.recEnd short).rd ACQ_REC_STAT_DONE_EV = 1 ∧ (s.recEnd short).segFull (s.rd ACQ_REC_STAT_SEG) = true ∧
    (s.recEnd short).cells = s.cells ∧ (s.recEnd short).mem = s.mem := by
  obtain ⟨q, r, hend⟩ := s.recEnd_eq short
  obtain ⟨hdone, hfull, hcells, hmem⟩ := (s.setRecd q).showCapture_spec
  have hroute := (s.setRecd q).showCapture.fireRoute_belowRec 0x38
  have hkeep : ∀ f : Fld, ¬ BelowRec f.addr → ACQ_REC_CAP.apart f → ACQ_REC_STAT_STATE.apart f →
      (s.recEnd short).rd f = (s.setRecd q).showCapture.rd f := fun f hf hcap hstate => by
    rw [hend, State.setRecd_rd, State.rd_wr_apart _ _ _ _ hstate, State.incW, State.rd_wr_apart _ _ _ _ hcap, hroute.rd hf]
  refine ⟨?state, (hkeep _ (by decide) (by decide) (by decide)).trans hdone, ?full, ?cells, ?mem⟩
  case state =>
    rw [hend]
    exact State.rd_wr_same _ _ _ (by decide)
  case full =>
    have hseg : s.rd ACQ_REC_STAT_SEG < 64 := s.rd_lt ACQ_REC_STAT_SEG
    rw [State.segFull, hkeep]
    · exact hfull
    · simp only [BelowRec, ACQ_SEG_FULL, A_ACQ_SEG_FULL, A_ACQ_REC_CTRL]; omega
    · exact .inl (by simp only [ACQ_REC_CAP, A_ACQ_REC_CAP, ACQ_SEG_FULL, A_ACQ_SEG_FULL]; omega)
    · exact .inl (by simp only [ACQ_REC_STAT_STATE, A_ACQ_REC_STAT, ACQ_SEG_FULL, A_ACQ_SEG_FULL]; omega)
  case cells =>
    rw [hend, State.setRecd_cells, State.wr_cells, State.incW_cells, hroute.cells, hcells, State.setRecd_cells]
  case mem =>
    rw [hend, State.setRecd_mem, State.wr_mem, State.incW_mem, hroute.mem, hmem, State.setRecd_mem]

theorem State.recStop_of_waiting (p : Port) (hrec : s.hasRec = true) (hwait : s.recState = RS_FILL ∨ s.recState = RS_READY) :
    s.recStop p = s.wr ACQ_REC_STAT_STATE RS_IDLE := by
  obtain ⟨hidle, hpost⟩ := State.recState_ne_of_waiting hwait
  simp [State.recStop, hrec, hidle, hpost]

theorem State.recStop_of_post (p : Port) (hrec : s.hasRec = true) (hpost : s.recState = RS_POST) : s.recStop p = s.recEnd true := by
  simp [State.recStop, hrec, hpost, RS_IDLE, RS_POST]

/-! ### Rows -/

/-- Under decimation, the windows gathered are all that changes (R442). -/
theorem State.recGather_eq (s : State) : ∃ l, s.recGather = s.setRecd { s.recd with acc := l } := by
  unfold State.recGather
  split
  · exact ⟨s.recd.acc, rfl⟩
  · refine List.foldlRecOn (motive := fun t : State => ∃ l, t = s.setRecd { s.recd with acc := l }) _ _ ⟨s.recd.acc, rfl⟩ ?_
    rintro t ⟨l, rfl⟩ i -
    dsimp only
    split
    · exact ⟨_, rfl⟩
    · exact ⟨l, rfl⟩

/-- An edge of the row clock counts, and the 2^D-th stores a row (R428, R442). -/
theorem execRecorderRow_of_busy (hrec : s.hasRec = true) (hbusy : s.recState ≠ RS_IDLE) : ∃ l,
    execRecorderRow s = if s.recd.edges + 1 < 2 ^ s.rd ACQ_REC_STAT_D then
      .next (s.setRecd { s.recd with acc := l, edges := s.recd.edges + 1 })
    else .next (s.setRecd { s.recd with acc := l, edges := s.recd.edges + 1 }).recStore := by
  obtain ⟨l, hgather⟩ := s.recGather_eq
  refine ⟨l, ?_⟩
  rw [execRecorderRow, if_neg (by simp [hrec]), if_neg hbusy, hgather]
  rfl

/-- A row that finds the queue full is dropped and counted (R442). -/
theorem State.recStore_of_full (hfull : 64 ≤ s.recd.queue.length) : ∃ q, s.recStore = (s.inc ACQ_REC_DROP).setRecd q ∧
    q.dropped = true ∧ q.queue = s.recd.queue ∧ q.rows = s.recd.rows :=
  ⟨_, if_pos hfull, rfl, rfl, rfl⟩

/-- The recorder after a row has entered its queue as `e` (R428, R442). -/
def State.rowTaken (s : State) (e : Nat × List Byte) (shown : List (Nat × Nat)) : Recd :=
  { s.recd with shown := shown, acc := [], edges := 0, queue := s.recd.queue ++ [e], rows := s.recd.rows + 1, trigNext := false,
                trigRow := if s.recd.trigNext then s.recd.rows + 1 else s.recd.trigRow,
                stepRow := if s.recd.stepped then s.recd.rows + 1 else s.recd.stepRow,
                gapRow := if s.recd.dropped then s.recd.rows + 1 else s.recd.gapRow,
                stepped := false, dropped := false, left := if s.recState = RS_POST then s.recd.left - 1 else s.recd.left }

/-- From 48 rows in the queue on, D rises up to 4 (R442). -/
def State.recRate (s : State) : State :=
  if s.recd.queue.length ≥ 48 ∧ s.rd ACQ_REC_STAT_D < 4 then
    ((s.wr ACQ_REC_STAT_D (s.rd ACQ_REC_STAT_D + 1)).wr ACQ_REC_STAT_RATE_EV 1).raise 0x1A2 0
  else s

/-- After a row, POST ends with its last row, and FILL may turn to READY (R431). -/
def State.recMove (s : State) : State :=
  if s.recState = RS_POST then (if s.recd.left = 0 then s.recEnd false else s) else s.recReady

theorem State.recStore_of_room (hroom : ¬ s.recd.queue.length ≥ 64) :
    ∃ e l, s.recStore = (s.setRecd (s.rowTaken e l)).recRate.recMove := ⟨_, _, if_neg hroom⟩

/-- Before the trigger, a row that leaves the queue below 48 rows is all that is added, and may fill the pre-trigger part (R431, R442). -/
theorem State.recStore_of_waiting (hwait : s.recState = RS_FILL ∨ s.recState = RS_READY) (hqueue : s.recd.queue.length < 47) :
    ∃ q, s.recStore = (s.setRecd q).recReady ∧ q.rows = s.recd.rows + 1 ∧ q.queue.length = s.recd.queue.length + 1 := by
  obtain ⟨-, hpost⟩ := State.recState_ne_of_waiting hwait
  obtain ⟨e, l, hstore⟩ := State.recStore_of_room (s := s) (by omega)
  have hlength : (s.rowTaken e l).queue.length = s.recd.queue.length + 1 := List.length_append
  have hrate : (s.setRecd (s.rowTaken e l)).recRate = s.setRecd (s.rowTaken e l) := if_neg (by rw [State.setRecd_recd, hlength]; omega)
  have hmove : (s.setRecd (s.rowTaken e l)).recMove = (s.setRecd (s.rowTaken e l)).recReady := if_neg hpost
  exact ⟨s.rowTaken e l, by rw [hstore, hrate, hmove], rfl, hlength⟩

/-! ### Segments and engines -/

theorem State.segFree_of_rec (k v : Nat) (hrec : s.hasRec = true) : s.segFree k v =
    (s.wr (ACQ_SEG_FULL k) (s.rd (ACQ_SEG_FULL k) &&& (0xFFFFFFFF ^^^ v))).setRecd
      { s.recd with caps := s.recd.caps.filter (fun j => !(decide (j / 32 = k) && bitOf v (j % 32))) } :=
  if_neg (by simp [hrec])

theorem execEngineLevelWrite_of_lt {e which : Nat} (v : Word) (s : State) (he : e < 8) (hwhich : which < 3) :
    execEngineLevelWrite e which v s = .next (s.engWrite e which v) := if_pos ⟨he, hwhich⟩

theorem State.engWrite_hold (e : Nat) (v : Word) (hrec : s.hasRec = true) : s.engWrite e 2 v = s.wr (ACQ_ENG_HOLD e) v.toNat := by
  simp [State.engWrite, hrec]

theorem State.engWrite_level_of_not_edge {e : Nat} (v : Word) (hrec : s.hasRec = true) (htype : s.rd (ACQ_ENG_CFG_TYPE e) ≠ 2) :
    s.engWrite e 0 v = s.wr (ACQ_ENG_LEVEL e) v.toNat := by
  have happart : (ACQ_ENG_LEVEL e).addr ≠ (ACQ_ENG_CFG_TYPE e).addr := by
    simp only [ACQ_ENG_LEVEL, A_ACQ_ENG_LEVEL, ACQ_ENG_CFG_TYPE, A_ACQ_ENG_CFG]; omega
  simp [State.engWrite, hrec, State.rd_wr_apart _ _ _ _ (.inl happart), htype]

/-- A write of AUX unprimes an EDGE engine (R441). -/
theorem State.engWrite_aux_of_edge {e : Nat} (v : Word) (hrec : s.hasRec = true) (htype : s.rd (ACQ_ENG_CFG_TYPE e) = 2) :
    s.engWrite e 1 v = ((s.wr (ACQ_ENG_AUX e) v.toNat).wr (ACQ_ENG_STAT_PRIMED e) 0).setEng e
      { s.eng e with rise := false, fall := false } := by
  have happart : (ACQ_ENG_AUX e).addr ≠ (ACQ_ENG_CFG_TYPE e).addr := by
    simp only [ACQ_ENG_AUX, A_ACQ_ENG_AUX, ACQ_ENG_CFG_TYPE, A_ACQ_ENG_CFG]; omega
  have hedge : (s.wr (ACQ_ENG_AUX e) v.toNat).rd (ACQ_ENG_CFG_TYPE e) = 2 := (State.rd_wr_apart _ _ _ _ (.inl happart)).trans htype
  exact (if_neg (by simp [hrec])).trans ((if_neg (by decide)).trans (if_pos hedge))

@[simp] theorem State.eng_setEng_same (s : State) (e : Nat) (g : Eng) : (s.setEng e g).eng e = g := tget_tset_same _ _ _ _

theorem State.setEng_rd (s : State) (e : Nat) (g : Eng) (f : Fld) : (s.setEng e g).rd f = s.rd f := rfl

end Recorder

/-! ### The statement -/

/-- Settles O48: each order is one operation of the recorder under its conditions, and raises range otherwise; a row, a trigger and the end
of a capture leave the cells and the memory alone. -/
theorem recorder : Obligations.Recorder := by
  refine ⟨fun p j s hrec hidle hok hseg hj => ?arm, fun p s hrec hbusy hfresh => ?armRefused, fun p s hrec hwait hpost => ?force,
    fun p s hrec hidle hfresh => ?forceRefused, fun p s hrec hwait => ?stop, fun p s hrec hpost => ?stopShort,
    fun s hrec hbusy hd hedges => ?edge, fun s hrec hwait hd hqueue => ?row, fun s hrec hbusy hd hqueue => ?drop,
    fun s hrec hready hauto hafter hdue hpost => ?auto, fun s hready => ?noAuto, fun e s he hon hmode hover => ?holdoff,
    fun k v s hk hrec => ?free, fun e v s he hrec => ?hold, fun e v s he hrec htype => ?level, fun e v s he hrec htype => ?aux⟩
  case arm =>
    obtain ⟨q, harm⟩ := State.recArm_of_ok p hrec hidle hok hseg
    obtain ⟨⟨r, q', hframe⟩, -, -⟩ := s.unprime_spec
    obtain ⟨hstate, hshown, hrows, hd, hcells, hmem⟩ := (s.unprime.setRecd q).recFill_spec hj
    exact ⟨_, congrArg Host.Outcome.next harm, hstate, hshown, hrows, hd, hcells.trans (by rw [State.setRecd_cells, hframe]),
      hmem.trans (by rw [State.setRecd_mem, hframe])⟩
  case armRefused =>
    exact ⟨_, congrArg Host.Outcome.next (State.recArm_of_busy p hrec hbusy), State.recRange_of_fresh hfresh p⟩
  case force =>
    obtain ⟨hstate, hrecd, hcells, hmem⟩ := State.recTrigger_spec 0 1 hwait hpost
    exact ⟨_, congrArg Host.Outcome.next (State.recForce_of_waiting p hrec hwait), hstate,
      congrArg Recd.left hrecd, congrArg Recd.how hrecd, congrArg Recd.fires hrecd, congrArg Recd.trigNext hrecd, hcells, hmem⟩
  case forceRefused =>
    exact ⟨_, congrArg Host.Outcome.next (State.recForce_of_idle p hrec hidle), State.recRange_of_fresh hfresh p⟩
  case stop =>
    exact ⟨_, congrArg Host.Outcome.next (State.recStop_of_waiting p hrec hwait), State.rd_wr_same _ _ _ (by decide),
      s.wr_onlyFields ACQ_REC_STAT_STATE _⟩
  case stopShort =>
    exact ⟨_, congrArg Host.Outcome.next (State.recStop_of_post p hrec hpost), s.recEnd_spec true⟩
  case edge =>
    obtain ⟨l, hrow⟩ := execRecorderRow_of_busy hrec hbusy
    exact ⟨_, hrow.trans (if_pos hedges), rfl, rfl, rfl⟩
  case row =>
    obtain ⟨l, hrow⟩ := execRecorderRow_of_busy hrec (State.recState_ne_of_waiting hwait).1
    obtain ⟨q, hstore, hrows, hlength⟩ := State.recStore_of_waiting
      (s := s.setRecd { s.recd with acc := l, edges := s.recd.edges + 1 }) hwait hqueue
    obtain ⟨hrows', hqueue', hcells, hmem⟩ := State.recReady_frame (State.setRecd _ q)
    refine ⟨_, hrow.trans (if_neg (by rw [hd]; omega)), ?_⟩
    rw [hstore]
    exact ⟨hrows'.trans hrows, (congrArg List.length hqueue').trans hlength, hcells, hmem⟩
  case drop =>
    obtain ⟨l, hrow⟩ := execRecorderRow_of_busy hrec hbusy
    obtain ⟨q, hstore, hdropped, hqueued, hrows⟩ := State.recStore_of_full
      (s := s.setRecd { s.recd with acc := l, edges := s.recd.edges + 1 }) hqueue
    refine ⟨_, hrow.trans (if_neg (by rw [hd]; omega)), ?_⟩
    rw [hstore]
    exact ⟨hdropped, hqueued, hrows, s.rd_inc_same ACQ_REC_DROP (by decide), s.wr_keepsBut ACQ_REC_DROP _, rfl⟩
  case auto =>
    obtain ⟨hstate, hrecd, hcells, hmem⟩ := State.recTrigger_spec 0 2 (.inr hready) hpost
    exact ⟨_, if_pos ⟨hrec, hready, hauto, hafter, hdue⟩, hstate, congrArg Recd.left hrecd, congrArg Recd.how hrecd,
      congrArg Recd.fires hrecd, hcells, hmem⟩
  case noAuto =>
    exact ⟨s, if_neg (fun h => hready h.2.1), rfl⟩
  case holdoff =>
    exact ⟨_, if_pos ⟨he, hon, hmode, hover⟩, State.rd_wr_same _ _ _ (by simp [ACQ_ENG_STAT_HOLDING]), s.wr_onlyFields _ 0⟩
  case free =>
    refine ⟨_, (if_pos hk).trans (congrArg Host.Outcome.next (State.segFree_of_rec k v.toNat hrec)), ?_, fun j => ?_, fun f hf => ?_,
      rfl⟩
    · rw [State.setRecd_rd, State.rd_wr_same _ _ _ (by simp [ACQ_SEG_FULL])]
      exact Nat.mod_eq_of_lt (Nat.and_le_left.trans_lt (s.rd_lt _))
    · simp only [State.setRecd_recd, List.mem_filter, Bool.not_eq_true', Bool.and_eq_false_iff, decide_eq_false_iff_not,
        not_and, Bool.not_eq_true, imp_iff_not_or]
    · exact s.wr_keepsBut _ _ f hf
  case hold =>
    exact ⟨_, (execEngineLevelWrite_of_lt v s he (by decide)).trans (congrArg Host.Outcome.next (State.engWrite_hold e v hrec)),
      State.rd_wr_same _ _ _ (by simp [ACQ_ENG_HOLD]), s.wr_onlyFields _ _⟩
  case level =>
    exact ⟨_, (execEngineLevelWrite_of_lt v s he (by decide)).trans
      (congrArg Host.Outcome.next (State.engWrite_level_of_not_edge v hrec htype)),
      (State.rd_wr_same _ _ _ (by simp [ACQ_ENG_LEVEL])).trans (Nat.mod_eq_of_lt v.isLt), s.wr_onlyFields _ _⟩
  case aux =>
    have happart : (ACQ_ENG_STAT_PRIMED e).addr ≠ (ACQ_ENG_AUX e).addr := by
      simp only [ACQ_ENG_STAT_PRIMED, A_ACQ_ENG_STAT, ACQ_ENG_AUX, A_ACQ_ENG_AUX]; omega
    refine ⟨_, (execEngineLevelWrite_of_lt v s he (by decide)).trans
      (congrArg Host.Outcome.next (State.engWrite_aux_of_edge v hrec htype)), ?_, ?_, ?_, ?_, fun f hf => ?_, rfl⟩
    · rw [State.setEng_rd, State.rd_wr_apart _ _ _ _ (.inl happart), State.rd_wr_same _ _ _ (by simp [ACQ_ENG_AUX])]
      exact Nat.mod_eq_of_lt v.isLt
    · rw [State.setEng_rd]
      exact State.rd_wr_same _ _ _ (by simp [ACQ_ENG_STAT_PRIMED])
    · rw [State.eng_setEng_same]
    · rw [State.eng_setEng_same]
    · exact (State.setEng_rd _ _ _ f).trans
        (State.keepsBut_trans (s.wr_keepsBut (ACQ_ENG_AUX e) _) (State.wr_keepsBut _ (ACQ_ENG_STAT_PRIMED e) 0) f hf)

end Sys2Proof.Machine
end

section
/-! Accesses to the shared memory (R447 to R459): which bus error a stripe's access meets, what a write stores, and which fields a write
of another field leaves. -/

namespace Sys2Proof.Machine
open Sys2Proof

/-! ### Fields -/

/-- One more field is written, one of those that the frame names. -/
theorem State.keepsBut_wr {s t : State} {fs : List Fld} {f : Fld} {v : Nat} (h : s.keepsBut t fs) (hf : f ∈ fs) :
    s.keepsBut (t.wr f v) fs := fun g hg => (t.rd_wr_apart f g v (hg f hf)).trans (h g hg)

theorem State.rd_wr_of_lt (s : State) {f : Fld} {v : Nat} (hf : f.lo + f.w ≤ 32) (hv : v < 2 ^ f.w) : (s.wr f v).rd f = v :=
  (s.rd_wr_same f v hf).trans (Nat.mod_eq_of_lt hv)

/-- A field that is written with what it reads leaves every word as it is. -/
theorem State.rdW_wr_self (s : State) {f : Fld} {v : Nat} (hv : s.rd f = v) (a : Nat) :
    (s.wr f v).rdW a = s.rdW a := by
  by_cases ha : f.addr = a
  · subst ha hv
    rw [State.wr, State.rdW_wrW_same]
    refine BitVec.eq_of_getLsbD_eq fun i hi => ?_
    rw [getLsbD_bitsPut _ _ _ _ _ hi, State.rd, testBit_bitsOf]
    split
    · rename_i hin
      rw [decide_eq_true (by omega : i - f.lo < f.w), Bool.true_and, Nat.add_sub_cancel' hin.1]
    · rfl
  · exact s.rdW_wr_ne f v ha

theorem State.rd_cnt_same (s : State) (f : Fld) (n : Nat) (hf : f.lo + f.w ≤ 32) :
    (s.cnt f n).rd f = min (s.rd f + n) (2 ^ f.w - 1) :=
  s.rd_wr_of_lt hf (lt_of_le_of_lt (Nat.min_le_right _ _) (Nat.sub_lt (Nat.two_pow_pos _) Nat.one_pos))

/-! ### Bytes -/

theorem State.byte_congr {s t : State} (h : t.mem = s.mem) (a : Nat) : t.byte a = s.byte a := congrArg (tget (fun _ => 0) · a) h

theorem State.bytes_congr {s t : State} (h : t.mem = s.mem) : ∀ n a, t.bytes a n = s.bytes a n
  | 0, _ => rfl
  | n + 1, a => congrArg₂ List.cons (State.byte_congr h a) (State.bytes_congr h n (a + 1))

/-- Bytes that read a list read it back as a whole. -/
theorem State.bytes_of_byte (s : State) : ∀ (l : List Byte) (a : Nat), (∀ i, (h : i < l.length) → s.byte (a + i) = l[i]) →
    s.bytes a l.length = l
  | [], _, _ => rfl
  | _ :: l, a, h => congrArg₂ List.cons (h 0 (Nat.succ_pos _)) (s.bytes_of_byte l (a + 1) fun i hi =>
      (congrArg s.byte (Nat.add_right_comm a 1 i)).trans (h (i + 1) (Nat.succ_lt_succ hi)))

theorem leBytes_length : ∀ n v : Nat, (leBytes n v).length = n
  | 0, _ => rfl
  | n + 1, v => congrArg Nat.succ (leBytes_length n (v / 256))

/-! ### Bus errors of a stripe's access -/

/-- A stripe lies in one group. -/
theorem groupOf_add {a i : Nat} (h : a % 128 + i < 128) : groupOf (a + i) = groupOf a := by
  have hstripe : (a + i) / 128 = a / 128 := by omega
  have hgroup (b : Nat) : groupOf b = b / 128 / 131072 % 4 := by rw [Nat.div_div_eq_div_mul]; rfl
  rw [hgroup, hgroup, hstripe]

/-- An access to a stripe of SRAM meets bus error 4 where its group is off, and no other before the stripe is decoded (R459). -/
theorem State.memCause_of_stripe (s : State) {a n : Nat} (ha : isSram a = true) (hn : 0 < n) (hfit : a % 128 + n ≤ 128) :
    s.memCause a n = if s.ready (groupOf a) then none else some 4 := by
  have hlow : a < 0x04000000 := of_decide_eq_true ha
  have hin : inMem a n = true := by simp only [inMem, Bool.or_eq_true, decide_eq_true_eq]; omega
  have hlast : groupOf (a + n - 1) = groupOf a := by rw [Nat.add_sub_assoc hn]; exact groupOf_add (by omega)
  cases hready : s.ready (groupOf a) <;> simp [State.memCause, hin, ha, hlast, hn.ne', hready]

/-- A word that is poisoned in part is poisoned. -/
theorem State.partPoison_of_clean {s : State} {a n : Nat} (h : s.poisoned a n = false) : s.partPoison a n = false := by
  simp only [State.poisoned, State.partPoison, List.any_eq_false] at h ⊢
  exact fun w hw hpart => h w hw (Bool.and_eq_true_iff.mp hpart).1

/-- What a write leaves that meets no error: its bytes, and in the stripe neither poison that it covers nor a write-back. -/
def State.stored (s : State) (a : Nat) (bs : List Byte) : State :=
  (s.setBytes a bs).setMst { s.mst with
    poison := s.mst.poison.filter (fun w => !(decide (a ≤ 8 * w) && decide (8 * w + 8 ≤ a + bs.length))),
    wb := s.mst.wb.filter (fun x => !(decide (128 * x < a + bs.length) && decide (a < 128 * x + 128))) }

theorem State.stored_frame (s : State) (a : Nat) (bs : List Byte) :
    s.stored a bs = { s with mem := (s.stored a bs).mem, mst := (s.stored a bs).mst } :=
  congrArg (State.setMst · (s.stored a bs).mst) (s.setBytes_frame bs a)

@[simp] theorem State.stored_rdW (s : State) (a : Nat) (bs : List Byte) (b : Nat) : (s.stored a bs).rdW b = s.rdW b := by
  rw [s.stored_frame a bs]; rfl

@[simp] theorem State.stored_rd (s : State) (a : Nat) (bs : List Byte) (f : Fld) : (s.stored a bs).rd f = s.rd f :=
  State.rd_congr (s.stored_rdW a bs _)

@[simp] theorem State.stored_flt (s : State) (a : Nat) (bs : List Byte) : (s.stored a bs).flt = s.flt := by
  rw [s.stored_frame a bs]

@[simp] theorem State.stored_clk (s : State) (a : Nat) (bs : List Byte) : (s.stored a bs).clk = s.clk := by
  rw [s.stored_frame a bs]

@[simp] theorem State.stored_dma (s : State) (a : Nat) (bs : List Byte) : (s.stored a bs).dma = s.dma := by
  rw [s.stored_frame a bs]

@[simp] theorem State.stored_cells (s : State) (a : Nat) (bs : List Byte) : (s.stored a bs).cells = s.cells := by
  rw [s.stored_frame a bs]

@[simp] theorem State.stored_out (s : State) (a : Nat) (bs : List Byte) : (s.stored a bs).out = s.out := by
  rw [s.stored_frame a bs]

theorem State.stored_byte_inside (s : State) (a : Nat) (bs : List Byte) (i : Nat) (h : i < bs.length) :
    (s.stored a bs).byte (a + i) = bs[i] := State.byte_setBytes_inside bs s a i h

theorem State.stored_byte_outside (s : State) (a : Nat) (bs : List Byte) {b : Nat} (h : b < a ∨ a + bs.length ≤ b) :
    (s.stored a bs).byte b = s.byte b := State.byte_setBytes_outside bs s a b h

/-- A write within a stripe whose group is on, and that leaves no poisoned word half written, is stored (R447). -/
theorem State.writeMem_of_ready {s : State} {a : Nat} {bs : List Byte} (ha : isSram a = true) (hn : 0 < bs.length)
    (hfit : a % 128 + bs.length ≤ 128) (hready : s.ready (groupOf a) = true) (hclean : s.partPoison a bs.length = false) :
    s.writeMem a bs = (none, s.stored a bs) := by
  have hframe : (s.setBytes a bs).mst = s.mst := by rw [s.setBytes_frame bs a]
  simp only [State.writeMem, s.memCause_of_stripe ha hn hfit, hready, ha, hclean, hframe, State.stored, Bool.not_true,
    Bool.false_eq_true, if_true, if_false]

end Sys2Proof.Machine
end

section
/-! Reads and writes of the shared SRAM (R447, R448, R455, R480): what the decoder makes of a stripe, and the outcome of each access. -/

namespace Sys2Proof.Machine
open Sys2Proof

/-! ### The decoder -/

section Decoder
variable {s : State}

/-- A stripe in which nothing is found reads without a trace (R448). -/
theorem State.decodeStripe_of_sound (p : Port) {a : Nat} {x : Stripe} (her : s.erasures (groupOf a) x = []) (houter : x.outer = 0)
    (hones : x.ones = []) : s.decodeStripe p a x = (true, s) := by
  simp [State.decodeStripe, her, houter, hones]

@[simp] theorem State.latchUe_mem (s : State) (p : Port) (a cause er : Nat) : (s.latchUe p a cause er).mem = s.mem := by
  unfold State.latchUe; split <;> rfl

@[simp] theorem State.latchUe_cells (s : State) (p : Port) (a cause er : Nat) : (s.latchUe p a cause er).cells = s.cells := by
  unfold State.latchUe; split <;> rfl

@[simp] theorem State.latchUe_out (s : State) (p : Port) (a cause er : Nat) : (s.latchUe p a cause er).out = s.out := by
  unfold State.latchUe; split <;> rfl

/-- A latch of an uncorrected read writes its two registers alone. -/
theorem State.latchUe_rd (s : State) (p : Port) (a cause er : Nat) {f : Fld} (haddr : A_MEM_UE_ADDR ≠ f.addr)
    (hinfo : A_MEM_UE_INFO ≠ f.addr) : (s.latchUe p a cause er).rd f = s.rd f := by
  unfold State.latchUe
  split
  · exact s.rd_wr_apart _ _ _ (.inl hinfo)
  · iterate 6 rw [State.rd_wr_apart _ _ _ _ (by exact .inl hinfo)]
    rw [State.rd_wr_apart _ _ _ _ (by exact .inl haddr)]

/-- The first uncorrected read is kept, a later one sets OVF (R480). -/
theorem State.latchUe_spec (s : State) (p : Port) {a cause er : Nat} (ha : isSram a = true) (hcause : cause < 8) :
    (s.latchUe p a cause er).rd MEM_UE_INFO_VALID = 1 ∧
      (s.rd MEM_UE_INFO_VALID = 1 → (s.latchUe p a cause er).rd MEM_UE_INFO_OVF = 1 ∧
        (s.latchUe p a cause er).rd MEM_UE_ADDR = s.rd MEM_UE_ADDR) ∧
      (s.rd MEM_UE_INFO_VALID = 0 → (s.latchUe p a cause er).rd MEM_UE_INFO_CAUSE = cause ∧
        (s.latchUe p a cause er).rd MEM_UE_ADDR = a / 8 * 8) := by
  have hlow : a < 0x04000000 := of_decide_eq_true ha
  have hbit : s.rd MEM_UE_INFO_VALID < 2 := s.rd_lt _
  by_cases hvalid : s.rd MEM_UE_INFO_VALID = 1
  · rw [State.latchUe, if_pos (by simp [State.on, hvalid])]
    refine ⟨?_, fun _ => ⟨?_, ?_⟩, fun h => by omega⟩
    · rw [State.rd_wr_apart _ _ _ _ (by decide), hvalid]
    · exact s.rd_wr_same _ _ (by decide)
    · exact s.rd_wr_apart _ _ _ (by decide)
  · rw [State.latchUe, if_neg (by simp [State.on]; omega)]
    refine ⟨?_, fun h => absurd h hvalid, fun _ => ⟨?_, ?_⟩⟩
    · iterate 5 rw [State.rd_wr_apart _ _ _ _ (by decide)]
      exact State.rd_wr_same _ _ _ (by decide)
    · rw [State.rd_wr_apart _ _ _ _ (by decide)]
      exact State.rd_wr_of_lt _ (by decide) hcause
    · iterate 6 rw [State.rd_wr_apart _ _ _ _ (by decide)]
      exact State.rd_wr_of_lt _ (by decide) (show a / 8 * 8 < 2 ^ 32 by omega)

/-- Three erasures in a stripe are one too many: it cannot be read, which is latched and counted (R448, R451). -/
theorem State.decodeStripe_of_lost (p : Port) {a : Nat} {x : Stripe} (ha : isSram a = true)
    (her : 3 ≤ (s.erasures (groupOf a) x).length) :
    ∃ t, s.decodeStripe p a x = (false, t) ∧ t.rd MEM_STAT_UE_EV = 1 ∧
      t.rd MEM_UE_CNT = min (s.rd MEM_UE_CNT + 1) (2 ^ 32 - 1) ∧ t.rd MEM_UE_INFO_VALID = 1 ∧ t.mem = s.mem ∧ t.cells = s.cells ∧
      t.out = s.out := by
  have hlatch := fun ps => ((s.poison a ps).latchUe_spec p (er := (s.erasures (groupOf a) x).length) ha (by decide : 1 < 8)).1
  refine ⟨_, if_pos (.inl her), ?_, ?_, ?_, ?_, ?_, ?_⟩
  · rw [State.raise_rd]
    exact State.rd_wr_same _ _ _ (by decide)
  · rw [State.raise_rd, State.rd_wr_apart _ _ _ _ (by decide), State.rd_inc_same _ _ (by decide),
      State.latchUe_rd _ _ _ _ _ (by decide) (by decide)]
    rfl
  · rw [State.raise_rd, State.rd_wr_apart _ _ _ _ (by decide)]
    exact (State.rd_wr_apart _ _ _ _ (by decide)).trans (hlatch _)
  · rw [State.raise_mem, State.wr_mem, State.inc_mem, State.latchUe_mem]; rfl
  · rw [State.raise_cells, State.wr_cells, State.inc_cells, State.latchUe_cells]; rfl
  · rw [State.raise_out, State.wr_out, State.inc_out, State.latchUe_out]; rfl

/-! ### Reads -/

/-- A collision count leaves what the memory controller looks at. -/
theorem State.cnt_coll_views (s : State) (waits : Nat) : (∀ g, (s.cnt MEM_COLL_CNT waits).ready g = s.ready g) ∧
    ∀ g x, (s.cnt MEM_COLL_CNT waits).erasures g x = s.erasures g x := by
  have hretired : ∀ k, (s.cnt MEM_COLL_CNT waits).retired k = s.retired k := fun k =>
    State.bitAt_congr (s.rdW_wr_ne _ _ (by simp only [MEM_COLL_CNT, A_MEM_COLL_CNT, A_MEM_BANK_FAIL]; omega))
  refine ⟨fun g => ?_, fun g x => ?_⟩
  · rw [State.ready, State.cnt, State.rd_wr_apart _ _ _ _ (by decide), State.ready]
  · simp only [State.erasures, hretired]

theorem execSramRead_of_outside (p : Port) {a n : Nat} (ones bad : List Nat) (outer waits : Nat)
    (h : isSram a = false ∨ n = 0 ∨ 128 < a % 128 + n) :
    execSramRead p a n ones bad outer waits s = .next ((s.cnt MEM_COLL_CNT waits).emit (.busErr p 2)) :=
  if_pos (by simpa using h)

section Stripe
variable {a n : Nat} (ha : isSram a = true) (hn : 0 < n) (hfit : a % 128 + n ≤ 128)
include ha hn hfit

/-- Within a stripe an access is not refused for where it lies. -/
theorem not_outside_of_stripe : ¬ ((!isSram a) = true ∨ n = 0 ∨ a % 128 + n > 128) := by
  simp only [ha, Bool.not_true, Bool.false_eq_true, false_or]; omega

theorem execSramRead_of_off (p : Port) (ones bad : List Nat) (outer waits : Nat) (hoff : s.ready (groupOf a) = false) :
    execSramRead p a n ones bad outer waits s = .next ((s.cnt MEM_COLL_CNT waits).emit (.busErr p 4)) := by
  have hcause : (s.cnt MEM_COLL_CNT waits).memCause a n = some 4 := by
    rw [State.memCause_of_stripe _ ha hn hfit, (s.cnt_coll_views waits).1, hoff]; rfl
  simp only [execSramRead, if_neg (not_outside_of_stripe ha hn hfit), hcause]

theorem execSramRead_of_poisoned (p : Port) (ones bad : List Nat) (outer waits : Nat) (hready : s.ready (groupOf a) = true)
    (hpoison : s.poisoned a n = true) : execSramRead p a n ones bad outer waits s =
      .next (((s.cnt MEM_COLL_CNT waits).latchUe p a 6 0).emit (.busErr p 6)) := by
  have hcause : (s.cnt MEM_COLL_CNT waits).memCause a n = none := by
    rw [State.memCause_of_stripe _ ha hn hfit, (s.cnt_coll_views waits).1, hready]; rfl
  have hpoison' : (s.cnt MEM_COLL_CNT waits).poisoned a n = true := hpoison
  simp only [execSramRead, if_neg (not_outside_of_stripe ha hn hfit), hcause, hpoison', if_true]

/-- A read of a stripe without poison is what the decoder makes of it. -/
theorem execSramRead_of_decoded (p : Port) (ones bad : List Nat) (outer waits : Nat) (hready : s.ready (groupOf a) = true)
    (hclean : s.poisoned a n = false) {ok : Bool} {t : State}
    (hdecode : (s.cnt MEM_COLL_CNT waits).decodeStripe p a (stripeOf ones bad outer) = (ok, t)) :
    execSramRead p a n ones bad outer waits s = .next (t.emit (if ok then .readBytes p (s.bytes a n) else .busErr p 1)) := by
  have hcause : (s.cnt MEM_COLL_CNT waits).memCause a n = none := by
    rw [State.memCause_of_stripe _ ha hn hfit, (s.cnt_coll_views waits).1, hready]; rfl
  have hclean' : (s.cnt MEM_COLL_CNT waits).poisoned a n = false := hclean
  simp only [execSramRead, if_neg (not_outside_of_stripe ha hn hfit), hcause, hclean', hdecode, Bool.false_eq_true, if_false,
    State.bytes_congr (s.cnt_mem MEM_COLL_CNT waits)]

end Stripe

/-! ### Writes -/

section Stripe
variable {a : Nat} {data : List Byte} (ha : isSram a = true) (hdata : data ≠ []) (hfit : a % 128 + data.length ≤ 128)
include ha hdata hfit

theorem execSramWrite_of_off (p : Port) (ones bad : List Nat) (outer waits : Nat) (hoff : s.ready (groupOf a) = false) :
    execSramWrite p a data ones bad outer waits s = .next ((s.cnt MEM_COLL_CNT waits).emit (.busErr p 4)) := by
  have hn : 0 < data.length := List.length_pos_iff.mpr hdata
  have hcause : (s.cnt MEM_COLL_CNT waits).memCause a data.length = some 4 := by
    rw [State.memCause_of_stripe _ ha hn hfit, (s.cnt_coll_views waits).1, hoff]; rfl
  simp only [execSramWrite, if_neg (not_outside_of_stripe ha hn hfit), hcause]

/-- A write to a stripe in which nothing is found is stored. -/
theorem execSramWrite_of_sound (p : Port) (ones bad : List Nat) (waits : Nat) (hready : s.ready (groupOf a) = true)
    (hclean : s.partPoison a data.length = false) (her : s.erasures (groupOf a) (stripeOf ones bad 0) = [])
    (hones : (stripeOf ones bad 0).ones = []) :
    execSramWrite p a data ones bad 0 waits s = .next ((s.cnt MEM_COLL_CNT waits).stored a data) := by
  obtain ⟨hgroup, herasures⟩ := s.cnt_coll_views waits
  have hn : 0 < data.length := List.length_pos_iff.mpr hdata
  have hready' : (s.cnt MEM_COLL_CNT waits).ready (groupOf a) = true := (hgroup _).trans hready
  have hclean' : (s.cnt MEM_COLL_CNT waits).partPoison a data.length = false := hclean
  have hcause : (s.cnt MEM_COLL_CNT waits).memCause a data.length = none := by
    rw [State.memCause_of_stripe _ ha hn hfit, hready']; rfl
  simp only [execSramWrite, if_neg (not_outside_of_stripe ha hn hfit), hcause, hclean', Bool.false_eq_true, if_false,
    State.decodeStripe_of_sound p ((herasures _ _).trans her) rfl hones, ite_self, Bool.not_true,
    State.writeMem_of_ready ha hn hfit hready' hclean']

end Stripe

end Decoder

end Sys2Proof.Machine
end

section
/-! The banks of the shared SRAM (R451, R452, R461 to R465): retirement and the background test. -/

namespace Sys2Proof.Machine
open Sys2Proof

/-! ### Retirement -/

section Retirement
variable {s : State} {k : Nat}

theorem State.bitAt_putBitAt_ne (s : State) (base : Nat) (v : Bool) {j i : Nat} (h : j ≠ i) :
    (s.putBitAt base j v).bitAt base i = s.bitAt base i := by
  by_cases hword : base + 4 * (j / 32) = base + 4 * (i / 32)
  · have hapart := bitsOf_bitsPut_apart (s.rdW (base + 4 * (i / 32))) (j % 32) 1 (b2n v) (i % 32) 1 (by omega)
    simp only [bitsOf, Nat.shiftRight_eq_div_pow, Nat.pow_one] at hapart
    simp only [State.bitAt, State.putBitAt, hword, State.rdW_wrW_same, bitOf, hapart]
  · exact State.bitAt_congr (s.rdW_putBitAt_ne v hword)

/-- A retired bank is among those of its group. -/
theorem State.mem_retiredOf (h : s.retired k = true) : k ∈ s.retiredOf (k / 18) :=
  List.mem_filter.mpr ⟨List.mem_map.mpr ⟨k % 18, List.mem_range.mpr (Nat.mod_lt _ (by decide)), Nat.div_add_mod k 18⟩, h⟩

/-- Where no bank of the group but `k` is retired, at most one is. -/
theorem State.retiredOf_length_le_one {g : Nat} (h : ∀ j ∈ s.retiredOf g, j = k) : (s.retiredOf g).length ≤ 1 := by
  have hnodup : (s.retiredOf g).Nodup :=
    ((List.nodup_range).map (fun i j hij => Nat.add_left_cancel (hij : 18 * g + i = 18 * g + j))).filter _
  exact (hnodup.subperm (fun j hj => List.mem_singleton.mpr (h j hj))).length_le

/-- `s` with bank k retired, its event and its source. -/
def State.showRetired (s : State) (k : Nat) : State :=
  ((s.putBitAt (A_MEM_BANK_FAIL 0) k true).wr MEM_STAT_RETIRE_EV 1).raise 0x1C4 k

theorem State.showRetired_retired (s : State) (k j : Nat) : (s.showRetired k).retired j = if k = j then true else s.retired j := by
  have hshown : (s.showRetired k).retired j = (s.putBitAt (A_MEM_BANK_FAIL 0) k true).bitAt (A_MEM_BANK_FAIL 0) j :=
    State.bitAt_congr ((State.raise_rdW ..).trans (State.rdW_wr_ne _ _ _
      (by simp only [MEM_STAT_RETIRE_EV, A_MEM_STAT, A_MEM_BANK_FAIL]; omega)))
  rw [hshown]
  split
  next h => rw [h, State.bitAt_putBitAt_same]
  next h => exact s.bitAt_putBitAt_ne _ _ h

/-- The first bank of a group is retired; where it is under test, the test ends (R451, R465). -/
theorem State.retireBank_of_first (hk : k < 72) (hnone : s.retiredOf (k / 18) = []) :
    ∃ u, (u = s ∨ u = s.wr MEM_BIST_STAT_ACTIVE 0) ∧ (∀ j, j < 72 → u.retired j = s.retired j) ∧
      s.retireBank k = u.showRetired k := by
  have hsound : ∀ j, j / 18 = k / 18 → s.retired j = false := fun j hj => by
    by_contra h
    have hmem := State.mem_retiredOf (Bool.eq_true_of_not_eq_false h)
    rw [hj, hnone] at hmem
    exact List.not_mem_nil hmem
  have hdropped : ∀ j, j < 72 → (s.wr MEM_BIST_STAT_ACTIVE 0).retired j = s.retired j := fun j hj =>
    State.bitAt_congr (s.rdW_wr_ne _ _ (by simp only [MEM_BIST_STAT_ACTIVE, A_MEM_BIST_STAT, A_MEM_BANK_FAIL]; omega))
  obtain ⟨u, hu, hretired, hdrop⟩ : ∃ u, (u = s ∨ u = s.wr MEM_BIST_STAT_ACTIVE 0) ∧
      (∀ j, j < 72 → u.retired j = s.retired j) ∧
      (if s.on MEM_BIST_STAT_ACTIVE = true ∧ s.rd MEM_BIST_STAT_BANK = k then s.wr MEM_BIST_STAT_ACTIVE 0 else s) = u := by
    split
    · exact ⟨_, .inr rfl, hdropped, rfl⟩
    · exact ⟨_, .inl rfl, fun _ _ => rfl, rfl⟩
  have hone : ∀ j ∈ (u.showRetired k).retiredOf (k / 18), j = k := fun j hj => by
    obtain ⟨hgroup, hj⟩ := List.mem_filter.mp hj
    obtain ⟨p, hp, rfl⟩ := List.mem_map.mp hgroup
    have hp := List.mem_range.mp hp
    by_contra hne
    rw [State.showRetired_retired, if_neg (Ne.symm hne), hretired _ (by simp only [bankAt]; omega),
      hsound _ (by simp only [bankAt]; omega)] at hj
    exact Bool.false_ne_true hj
  refine ⟨u, hu, hretired, ?_⟩
  rw [State.retireBank, if_neg (by simp [hsound k rfl]), if_neg (by simp [hnone])]
  simp only [hdrop]
  exact if_neg (Nat.not_le.mpr (Nat.lt_succ_of_le (State.retiredOf_length_le_one hone)))

/-- A third bank of a group is refused and counted (R451). -/
theorem State.retireBank_of_third (hsound : s.retired k = false) (htwo : 2 ≤ (s.retiredOf (k / 18)).length) :
    s.retireBank k = s.inc MEM_RETIRE_REF := by
  rw [State.retireBank, if_neg (by simp [hsound]), if_pos htwo]

theorem State.writeMemRetire_of_bank (p : Port) {v : Nat} (hgo : bitOf v 31 = true) (hbank : v % 128 < 72) :
    s.writeMemRetire p v = s.retireBank (v % 128) := by
  rw [State.writeMemRetire, if_neg (by simp [hgo]), if_neg (by omega)]

theorem State.writeMemRetire_of_no_bank (p : Port) {v : Nat} (hgo : bitOf v 31 = true) (hbank : 72 ≤ v % 128) :
    s.writeMemRetire p v = s.range p A_MEM_RETIRE := by
  rw [State.writeMemRetire, if_neg (by simp [hgo]), if_pos hbank]

end Retirement

/-! ### The background test -/

section BackgroundTest
variable {s : State}

/-- `s` with bank 0, where the region register already stands, under test. -/
def State.showTest (s : State) : State :=
  ((((s.wr MEM_BIST_STAT_BANK 0).wr MEM_BIST_STAT_REGION (s.rd MEM_BIST_STAT_REGION)).wr MEM_BIST_WALKS (s.rd MEM_BIST_WALKS)).wr
    MEM_BIST_STAT_RUN 1).wr MEM_BIST_STAT_ACTIVE 1

theorem State.showTest_keepsBut (s : State) :
    s.keepsBut s.showTest [MEM_BIST_STAT_BANK, MEM_BIST_STAT_RUN, MEM_BIST_STAT_ACTIVE] := by
  have hregion : (s.wr MEM_BIST_STAT_BANK 0).rd MEM_BIST_STAT_REGION = s.rd MEM_BIST_STAT_REGION := s.rd_wr_apart _ _ _ (by decide)
  have hwalks : ((s.wr MEM_BIST_STAT_BANK 0).wr MEM_BIST_STAT_REGION (s.rd MEM_BIST_STAT_REGION)).rd MEM_BIST_WALKS =
      s.rd MEM_BIST_WALKS := by
    rw [State.rd_wr_apart _ _ _ _ (by decide), State.rd_wr_apart _ _ _ _ (by decide)]
  have hshown : s.keepsBut (((s.wr MEM_BIST_STAT_BANK 0).wr MEM_BIST_STAT_REGION (s.rd MEM_BIST_STAT_REGION)).wr MEM_BIST_WALKS
      (s.rd MEM_BIST_WALKS)) [MEM_BIST_STAT_BANK, MEM_BIST_STAT_RUN, MEM_BIST_STAT_ACTIVE] := fun g hg => by
    rw [State.rd_congr (State.rdW_wr_self _ hwalks _), State.rd_congr (State.rdW_wr_self _ hregion _)]
    exact s.wr_keepsBut MEM_BIST_STAT_BANK 0 g (fun f hf => hg f (by simp [List.mem_singleton.mp hf]))
  exact State.keepsBut_wr (State.keepsBut_wr hshown (by simp)) (by simp)

/-- A bank that can be tested is the next that comes under test. -/
theorem State.bistNext_of_bistable {k : Nat} (hk : k < 72) (h : s.bistable k = true) (fuel r w : Nat) :
    s.bistNext (fuel + 1) k r w = some (k, r, w) := by
  rw [State.bistNext, if_pos hk]
  exact if_pos h

/-- The first region of a first walk is bank 0's (R461). -/
theorem execBistRegionStart_of_first (hen : s.rd MEM_BIST_CTRL_EN = 1) (hidle : s.rd MEM_BIST_STAT_ACTIVE = 0)
    (hfirst : s.mst.bist = false) (hbank : s.bistable 0 = true) :
    execBistRegionStart s = .next (s.showTest.setMst { s.mst with bist := true }) := by
  rw [execBistRegionStart, if_pos ⟨by simp [State.on, hen], by simp [State.on, hidle]⟩]
  simp only [hfirst, Bool.false_eq_true, if_false, State.bistNext_of_bistable (by decide) hbank 145, Nat.add_zero, State.wr_mst,
    State.showTest]

theorem State.bistIdle_of_enabled (hen : s.rd MEM_BIST_CTRL_EN = 1) : s.bistIdle = s := if_neg (by simp [State.on, hen])

/-- RUN is all that the end of a test's enabling can change. -/
theorem State.bistIdle_onlyFields (s : State) : s.onlyFields s.bistIdle [MEM_BIST_STAT_RUN] :=
  State.onlyFields_ite (s.wr_onlyFields _ 0) (s.onlyFields_refl _)

/-- A region whose test found nothing is no longer under test. -/
theorem execBistRegionEnd_of_pass (word bit : Nat) (hactive : s.rd MEM_BIST_STAT_ACTIVE = 1) :
    execBistRegionEnd false word bit s = .next (s.wr MEM_BIST_STAT_ACTIVE 0).bistIdle :=
  if_neg (by simp [State.on, hactive])

/-- `s` with the failing cell of the bank under test shown, with its event and its source (R464). -/
def State.showFail (s : State) (word bit : Nat) : State :=
  ((((((s.wr MEM_BIST_STAT_ACTIVE 0).wr MEM_BIST_FAIL_BANK (s.rd MEM_BIST_STAT_BANK)).wr MEM_BIST_FAIL_WORD word).wr MEM_BIST_FAIL_BIT
    bit).wr MEM_BIST_FAIL_VALID 1).wr MEM_STAT_BIST_EV 1).raise 0x1C5 (s.rd MEM_BIST_STAT_BANK)

theorem State.showFail_spec (s : State) (word bit : Nat) : (s.showFail word bit).rd MEM_BIST_FAIL_BANK = s.rd MEM_BIST_STAT_BANK ∧
    (s.showFail word bit).rd MEM_BIST_FAIL_WORD = word % 256 ∧ (s.showFail word bit).rd MEM_BIST_FAIL_BIT = bit % 128 ∧
    (s.showFail word bit).rd MEM_BIST_FAIL_VALID = 1 ∧ (s.showFail word bit).rd MEM_STAT_BIST_EV = 1 := by
  simp only [State.showFail, State.raise_rd]
  refine ⟨?_, ?_, ?_, ?_, State.rd_wr_same _ _ _ (by decide)⟩
  · iterate 4 rw [State.rd_wr_apart _ _ _ _ (by decide)]
    exact State.rd_wr_of_lt _ (by decide) (s.rd_lt MEM_BIST_STAT_BANK)
  · iterate 3 rw [State.rd_wr_apart _ _ _ _ (by decide)]
    exact State.rd_wr_same _ _ _ (by decide)
  · iterate 2 rw [State.rd_wr_apart _ _ _ _ (by decide)]
    exact State.rd_wr_same _ _ _ (by decide)
  · rw [State.rd_wr_apart _ _ _ _ (by decide)]
    exact State.rd_wr_same _ _ _ (by decide)

/-- Where banks are not retired by the test, a failing cell is shown, and noted by a standby (R464). -/
theorem execBistRegionEnd_of_fail (word bit : Nat) (hactive : s.rd MEM_BIST_STAT_ACTIVE = 1) (hauto : s.rd MEM_CTRL_AUTO_RETIRE = 0) :
    ∃ r : Red, execBistRegionEnd true word bit s = .next ((s.showFail word bit).setRed r).bistIdle := by
  have hauto' : ∀ r, ((s.showFail word bit).setRed r).on MEM_CTRL_AUTO_RETIRE = false := fun r => by
    rw [State.on, State.setRed_rd, State.showFail, State.raise_rd]
    iterate 6 rw [State.rd_wr_apart _ _ _ _ (by decide)]
    simp [hauto]
  obtain ⟨r, hnoted⟩ : ∃ r, (if (s.showFail word bit).isStandby = true then
      (s.showFail word bit).setRed { (s.showFail word bit).red with bist := true } else s.showFail word bit) =
      (s.showFail word bit).setRed r := by
    split
    · exact ⟨_, rfl⟩
    · exact ⟨_, rfl⟩
  refine ⟨r, (if_neg (by simp [State.on, hactive])).trans
    (congrArg Host.Outcome.next (congrArg State.bistIdle ((if_pos rfl).trans ?_)))⟩
  exact (congrArg (fun t : State => if t.on MEM_CTRL_AUTO_RETIRE = true then t.retireBank (s.rd MEM_BIST_STAT_BANK) else t)
    hnoted).trans (if_neg (by simp [hauto' r]))

end BackgroundTest

end Sys2Proof.Machine
end

section
/-! The power of the groups of the shared SRAM (R466, R467), and the statement about the shared SRAM. -/

namespace Sys2Proof.Machine
open Sys2Proof

/-! ### The power of the groups -/

/-- Clearing a group takes its bit off READY. -/
theorem State.clearGroup_ready (s : State) (g : Nat) {j : Nat} (hj : j < 4) :
    (s.clearGroup g).ready j = (s.ready j && decide (g ≠ j)) := by
  have hread : (s.clearGroup g).rd MEM_STAT_READY = s.rd MEM_STAT_READY &&& (15 ^^^ 2 ^ g) :=
    State.rd_wr_of_lt _ (by decide) (Nat.and_le_left.trans_lt (s.rd_lt MEM_STAT_READY))
  have hfifteen : Nat.testBit 15 j = true := (Nat.testBit_two_pow_sub_one 4 j).trans (decide_eq_true hj)
  simp only [State.ready, hread, bitOf_eq_testBit, Nat.testBit_and, Nat.testBit_xor, hfifteen, Nat.testBit_two_pow, Bool.true_xor,
    decide_not]

/-- Clearing a group zeroes its bytes and no others. -/
theorem State.clearGroup_byte (s : State) (g a : Nat) :
    (s.clearGroup g).byte a = if isSram a = true ∧ groupOf a = g then 0 else s.byte a := by
  split
  next h => exact tget_filter_of_false _ _ (fun _ => by simp [h.1, h.2]) s.mem
  next h => exact tget_filter_of_true _ _ (fun _ => by simpa [imp_iff_not_or] using h) s.mem

theorem State.clearGroup_keepsBut (s : State) (g : Nat) : s.keepsBut (s.clearGroup g) [MEM_STAT_READY] :=
  (s.zeroGroup g).wr_keepsBut MEM_STAT_READY _

/-- Clearing groups leaves them off and zeroed, and the other groups as they were. -/
theorem State.clearGroups_spec : ∀ (gs : List Nat) (s : State), (∀ g ∈ gs, g < 4) →
    (∀ j, j < 4 → (gs.foldl State.clearGroup s).ready j = (s.ready j && decide (j ∉ gs))) ∧
    (∀ a, (gs.foldl State.clearGroup s).byte a = if isSram a = true ∧ groupOf a ∈ gs then 0 else s.byte a) ∧
    s.keepsBut (gs.foldl State.clearGroup s) [MEM_STAT_READY] ∧ (gs.foldl State.clearGroup s).cells = s.cells
  | [], s, _ => ⟨by simp, by simp, s.keepsBut_refl _, rfl⟩
  | g :: gs, s, hgs => by
    obtain ⟨hready, hbyte, hkeeps, hcells⟩ := State.clearGroups_spec gs (s.clearGroup g) (fun j hj => hgs j (List.mem_cons_of_mem _ hj))
    refine ⟨fun j hj => ?_, fun a => ?_, fun f hf => (hkeeps f hf).trans (s.clearGroup_keepsBut g f hf), hcells.trans rfl⟩
    · rw [List.foldl_cons, hready j hj, s.clearGroup_ready g hj]
      simp only [List.mem_cons, not_or, Bool.decide_and, Bool.and_assoc, ne_comm]
    · rw [List.foldl_cons, hbyte a, s.clearGroup_byte]
      simp only [List.mem_cons]
      split_ifs <;> simp_all

/-- A write of MEM_PWR switches the groups that it names where nothing holds one on (R466). -/
theorem State.writeMemPwr_of_free {s : State} (p : Port) (v : Nat) (hfree : s.heldRanges = []) :
    s.writeMemPwr p v = ([0, 1, 2, 3].filter (fun g => bitOf v g != bitOf (s.rd MEM_PWR_OFF) g)).foldl State.clearGroup
      (s.wr MEM_PWR_OFF v) := by
  rw [State.writeMemPwr, if_neg (by simp [hfree])]

/-! ### The statement -/

/-- Settles O49: an access is what the decoder makes of its stripe, or its bus error; retirement, the test and the groups' power are one
operation each on the registers of the memory controller. -/
theorem sharedMemory : Obligations.SharedMemory := by
  refine ⟨fun p a n ones bad waits s ha hn hfit hready hclean her hones => ?read,
    fun p a n ones bad outer waits s hout => ?outside, fun p a n ones bad outer waits s ha hn hfit hoff => ?readOff,
    fun p a n ones bad outer waits s ha hn hfit hready hpoison => ?poisoned,
    fun p a n ones bad outer waits s ha hn hfit hready hclean her => ?lost,
    fun p a data ones bad waits s ha hdata hfit hready hclean her hones => ?write,
    fun p a data ones bad outer waits s ha hdata hfit hoff => ?writeOff, fun x s => ?writeBack,
    fun p v s hgo hbank hnone hfresh => ?first, fun p v s hgo hbank hsound htwo => ?third,
    fun p v s hgo hbank hfresh => ?noBank, fun s hen hidle hfirst hbank => ?test, fun word bit s hactive hen => ?pass,
    fun word bit s hactive hauto hfresh => ?fail, fun s => ?stop, fun p v s hfree => ?power⟩
  case read =>
    have hsound := State.decodeStripe_of_sound (s := s.cnt MEM_COLL_CNT waits) p (((s.cnt_coll_views waits).2 _ _).trans her) rfl hones
    exact ⟨_, execSramRead_of_decoded ha hn hfit p ones bad 0 waits hready hclean hsound, rfl, s.rd_cnt_same _ waits (by decide),
      s.wr_keepsBut _ _, rfl⟩
  case outside =>
    exact ⟨_, execSramRead_of_outside p ones bad outer waits hout, rfl, s.wr_keepsBut MEM_COLL_CNT _, rfl⟩
  case readOff =>
    exact ⟨_, execSramRead_of_off ha hn hfit p ones bad outer waits hoff, rfl, s.wr_keepsBut MEM_COLL_CNT _, rfl⟩
  case poisoned =>
    obtain ⟨hvalid, hlater, hfirst⟩ := (s.cnt MEM_COLL_CNT waits).latchUe_spec p (er := 0) ha (by decide : 6 < 8)
    have hcounted : ∀ f : Fld, MEM_COLL_CNT.apart f → (s.cnt MEM_COLL_CNT waits).rd f = s.rd f := fun f hf => s.rd_wr_apart _ f _ hf
    rw [hcounted MEM_UE_INFO_VALID (by decide), hcounted MEM_UE_ADDR (by decide)] at hlater
    rw [hcounted MEM_UE_INFO_VALID (by decide)] at hfirst
    refine ⟨_, execSramRead_of_poisoned ha hn hfit p ones bad outer waits hready hpoison, congrArg (· ++ _) (State.latchUe_out ..), ?_⟩
    simp only [State.emit_rd, State.emit_mem, State.emit_cells]
    exact ⟨hvalid, hlater, hfirst, State.latchUe_mem .., State.latchUe_cells ..⟩
  case lost =>
    obtain ⟨t, hdecode, hev, hcnt, hvalid, hmem, hcells, hout⟩ := State.decodeStripe_of_lost (s := s.cnt MEM_COLL_CNT waits) p ha
      (her.trans_eq (congrArg List.length ((s.cnt_coll_views waits).2 _ _)).symm)
    refine ⟨_, execSramRead_of_decoded ha hn hfit p ones bad outer waits hready hclean hdecode, ?_, hev, ?_, hvalid, hmem, hcells⟩
    · exact congrArg (· ++ _) hout
    · rw [State.emit_rd, hcnt, State.cnt, State.rd_wr_apart _ _ _ _ (by decide)]
  case write =>
    refine ⟨_, execSramWrite_of_sound ha hdata hfit p ones bad waits hready hclean her hones,
      fun i hi => State.stored_byte_inside _ a data i hi, fun b hb => State.stored_byte_outside _ a data hb, fun f hf => ?_, ?_⟩
    · exact (State.stored_rd _ _ _ f).trans (s.wr_keepsBut MEM_COLL_CNT _ f hf)
    · rw [State.stored_frame]; rfl
  case writeOff =>
    exact ⟨_, execSramWrite_of_off ha hdata hfit p ones bad outer waits hoff, rfl, s.wr_keepsBut MEM_COLL_CNT _, rfl⟩
  case writeBack =>
    exact ⟨_, rfl, fun y => by simp [State.setMst], rfl⟩
  case first =>
    obtain ⟨u, hu, hretired, hretire⟩ := State.retireBank_of_first hbank hnone
    obtain ⟨hflt, hclk, hmem, hcells⟩ : u.flt = s.flt ∧ u.clk = s.clk ∧ u.mem = s.mem ∧ u.cells = s.cells := by
      rcases hu with rfl | rfl <;> exact ⟨rfl, rfl, rfl, rfl⟩
    refine ⟨_, congrArg Host.Outcome.next ((State.writeMemRetire_of_bank p hgo hbank).trans hretire), ?_, fun k hk hne => ?_, ?_, ?_,
      (State.raise_mem ..).trans hmem, (State.raise_cells ..).trans hcells⟩
    · rw [State.showRetired_retired, if_pos rfl]
    · rw [State.showRetired_retired, if_neg hne.symm, hretired k hk]
    · rw [State.showRetired, State.raise_rd]
      exact State.rd_wr_same _ _ _ (by decide)
    · exact State.raisedAs_raise hfresh (by exact hflt) (by exact hclk) _ _
  case third =>
    exact ⟨_, congrArg Host.Outcome.next ((State.writeMemRetire_of_bank p hgo hbank).trans (State.retireBank_of_third hsound htwo)),
      s.rd_inc_same _ (by decide), State.onlyFields_inc (s.onlyFields_refl _) (by simp)⟩
  case noBank =>
    exact ⟨_, congrArg Host.Outcome.next (State.writeMemRetire_of_no_bank p hgo hbank), State.range_of_fresh hfresh p A_MEM_RETIRE⟩
  case test =>
    refine ⟨_, execBistRegionStart_of_first hen hidle hfirst hbank, ?_, ?_, ?_, rfl,
      fun f hf => (State.setMst_rd _ _ f).trans (s.showTest_keepsBut f hf), ?_⟩
    · rw [State.setMst_rd, State.showTest]
      iterate 4 rw [State.rd_wr_apart _ _ _ _ (by decide)]
      exact State.rd_wr_same _ _ _ (by decide)
    · rw [State.setMst_rd, State.showTest, State.rd_wr_apart _ _ _ _ (by decide)]
      exact State.rd_wr_same _ _ _ (by decide)
    · rw [State.setMst_rd, State.showTest]
      exact State.rd_wr_same _ _ _ (by decide)
    · rw [State.setMst_mem]
      rfl
  case pass =>
    have hen' : (s.wr MEM_BIST_STAT_ACTIVE 0).rd MEM_BIST_CTRL_EN = 1 := (s.rd_wr_apart _ _ _ (by decide)).trans hen
    exact ⟨_, (execBistRegionEnd_of_pass word bit hactive).trans (congrArg Host.Outcome.next (State.bistIdle_of_enabled hen')),
      s.rd_wr_same _ _ (by decide), s.wr_onlyFields _ 0⟩
  case fail =>
    obtain ⟨r, hfail⟩ := execBistRegionEnd_of_fail word bit hactive hauto
    obtain ⟨hframe, hkeeps⟩ := ((s.showFail word bit).setRed r).bistIdle_onlyFields
    obtain ⟨hbank, hword, hbit, hvalid, hev⟩ := s.showFail_spec word bit
    have hkept : ∀ f : Fld, MEM_BIST_STAT_RUN.apart f → ((s.showFail word bit).setRed r).bistIdle.rd f = (s.showFail word bit).rd f :=
      fun f hf => hkeeps f (by simpa using hf)
    refine ⟨_, hfail, (hkept _ (by decide)).trans hbank, (hkept _ (by decide)).trans hword, (hkept _ (by decide)).trans hbit,
      (hkept _ (by decide)).trans hvalid, (hkept _ (by decide)).trans hev, ?_, ?_⟩
    · have hraised : s.raisedAs (s.showFail word bit) 0x1C5 (s.rd MEM_BIST_STAT_BANK) :=
        State.raisedAs_raise hfresh (by rfl) (by rfl) _ _
      rw [State.raisedAs, hframe]
      exact hraised
    · rw [hframe, State.setRed_mem, State.showFail, State.raise_mem]; rfl
  case stop =>
    have hidle := State.bistIdle_onlyFields (s.wr MEM_BIST_CTRL_EN 0)
    have hen : (s.wr MEM_BIST_CTRL_EN 0).rd MEM_BIST_CTRL_EN = 0 := s.rd_wr_same _ _ (by decide)
    refine ⟨_, rfl, (hidle.2 _ (by simp; decide)).trans hen, fun hactive => ?_,
      State.onlyFields_trans (s.wr_onlyFields MEM_BIST_CTRL_EN 0) hidle⟩
    have hactive' : (s.wr MEM_BIST_CTRL_EN 0).rd MEM_BIST_STAT_ACTIVE = 0 := (s.rd_wr_apart _ _ _ (by decide)).trans hactive
    rw [State.bistIdle, if_pos (by simp [State.on, hen, hactive'])]
    exact State.rd_wr_same _ _ _ (by decide)
  case power =>
    have hmem : ∀ g, g ∈ [0, 1, 2, 3].filter (fun g => bitOf v.toNat g != bitOf (s.rd MEM_PWR_OFF) g) ↔
        g < 4 ∧ bitOf v.toNat g ≠ bitOf (s.rd MEM_PWR_OFF) g := fun g => by
      rw [List.mem_filter, bne_iff_ne]
      exact and_congr_left' (by simp only [List.mem_cons, List.not_mem_nil, or_false]; omega)
    obtain ⟨hready, hbyte, hkeeps, hcells⟩ := State.clearGroups_spec _ (s.wr MEM_PWR_OFF v.toNat) (fun g hg => ((hmem g).mp hg).1)
    refine ⟨_, congrArg Host.Outcome.next (State.writeMemPwr_of_free p v.toNat hfree), ?_, fun g hg hne => ⟨?_, fun a ha hga => ?_⟩,
      fun a hsame => ?_, fun f hf => ?_, hcells⟩
    · rw [hkeeps _ (by simp; decide)]
      exact s.rd_wr_same _ _ (by decide)
    · rw [hready g hg, decide_eq_false (not_not.mpr ((hmem g).mpr ⟨hg, hne⟩)), Bool.and_false]
    · rw [hbyte a, if_pos ⟨ha, (hmem _).mpr ⟨hga ▸ hg, hga ▸ hne⟩⟩]
    · rw [hbyte a, if_neg (fun h => ((hmem _).mp h.2).2 (hsame h.1))]
      rfl
    · exact State.keepsBut_trans (s.wr_keepsBut MEM_PWR_OFF _) hkeeps f hf

end Sys2Proof.Machine
end

section
/-! The end of a reset (R467, R468, R645): what enters FETCH, with SRAM cleared or kept, and the end of a group's clearing. -/

namespace Sys2Proof.Machine
open Sys2Proof

/-! ### FETCH -/

section Fetch
variable {s : State}

/-- `s` as a power-on or RAIL reset leaves its memory: SRAM zeroed, every group READY (R467). -/
def State.sramCleared (s : State) : State :=
  ({ s with mem := s.mem.filter (fun e => !isSram e.1), mst := .zero, pwr := { s.pwr with clear := false } }).wr MEM_STAT_READY 15

/-- `s` as it enters FETCH (R468, R645). -/
def State.toFetch (s : State) (keyLow : Bool) : State :=
  ((((s.wr PWR_STAT_STATE PWR_ON).wr LANE_REF_STAT_REF_OK 1).wr MON_STAT_KEY_STRAP (b2n keyLow)).setChart
    { s.chart with src := 0, loadFrom := s.clk.count }).wr CHART_STATUS_PHASE PH_FETCH

theorem State.toFetch_spec (s : State) (keyLow : Bool) : (s.toFetch keyLow).phase = PH_FETCH ∧
    (s.toFetch keyLow).rd PWR_STAT_STATE = PWR_ON ∧ (s.toFetch keyLow).rd LANE_REF_STAT_REF_OK = 1 ∧
    (s.toFetch keyLow).rd MON_STAT_KEY_STRAP = b2n keyLow := by
  refine ⟨State.rd_wr_same _ _ _ (by decide), ?_, ?_, ?_⟩
  · rw [State.toFetch, State.rd_wr_apart _ _ _ _ (by decide), State.setChart_rd, State.rd_wr_apart _ _ _ _ (by decide),
      State.rd_wr_apart _ _ _ _ (by decide)]
    exact State.rd_wr_same _ _ _ (by decide)
  · rw [State.toFetch, State.rd_wr_apart _ _ _ _ (by decide), State.setChart_rd, State.rd_wr_apart _ _ _ _ (by decide)]
    exact State.rd_wr_same _ _ _ (by decide)
  · rw [State.toFetch, State.rd_wr_apart _ _ _ _ (by decide), State.setChart_rd]
    exact State.rd_wr_of_lt _ (by decide) (by cases keyLow <;> decide)

theorem State.toFetch_keepsBut (s : State) (keyLow : Bool) :
    s.keepsBut (s.toFetch keyLow) [CHART_STATUS_PHASE, PWR_STAT_STATE, LANE_REF_STAT_REF_OK, MON_STAT_KEY_STRAP] := by
  have hshown : s.keepsBut (((s.wr PWR_STAT_STATE PWR_ON).wr LANE_REF_STAT_REF_OK 1).wr MON_STAT_KEY_STRAP (b2n keyLow))
      [CHART_STATUS_PHASE, PWR_STAT_STATE, LANE_REF_STAT_REF_OK, MON_STAT_KEY_STRAP] :=
    State.keepsBut_wr (State.keepsBut_wr (State.keepsBut_wr (s.keepsBut_refl _) (by simp)) (by simp)) (by simp)
  exact State.keepsBut_wr (fun f hf => (State.setChart_rd _ _ f).trans (hshown f hf)) List.mem_cons_self

/-- A reset completes once the rails are up and the references in range; after a power-on or RAIL reset SRAM is cleared (R467, R645). -/
theorem execResetComplete_of_ready (keyLow : Bool) (hheld : s.pwr.held = 0) (hrails : s.railsUp = true) (hphase : s.phase = PH_RESET)
    (href : s.lanes.refBad = 0) :
    execResetComplete false keyLow s = .next ((if s.pwr.clear = true then s.sramCleared else s).toFetch keyLow) := by
  rw [execResetComplete, if_pos ⟨hheld, hrails, hphase, href, rfl⟩]
  rfl

end Fetch

/-! ### The statement -/

/-- Settles O15: a reset that completes clears SRAM where it has to and enters FETCH; a group whose clearing ends has its bit in READY. -/
theorem resetCompletes : Obligations.ResetCompletes := by
  refine ⟨fun key s hheld hrails hphase href hclear => ?clears, fun key s hheld hrails hphase href hclear => ?keeps,
    fun g s hg hon => ?group⟩
  case clears =>
    obtain ⟨hfetch, hstate, hrefs, hkey⟩ := s.sramCleared.toFetch_spec key
    have hkept := s.sramCleared.toFetch_keepsBut key
    refine ⟨_, execResetComplete_of_ready key hheld hrails hphase href, ?_⟩
    rw [if_pos hclear]
    refine ⟨hfetch, ?_, hstate, hrefs, hkey, fun a ha => tget_filter_of_false _ _ (fun _ => by simp [ha]) s.mem, rfl, fun f hf => ?_⟩
    · rw [hkept _ (by simp; decide)]
      exact State.rd_wr_same _ _ _ (by decide)
    · simp only [List.forall_mem_cons, List.not_mem_nil, false_implies, implies_true, and_true] at hf
      rw [hkept f (by simpa using ⟨hf.1, hf.2.2⟩)]
      exact State.rd_wr_apart _ _ _ _ hf.2.1
  case keeps =>
    obtain ⟨hfetch, hstate, hrefs, hkey⟩ := s.toFetch_spec key
    refine ⟨_, execResetComplete_of_ready key hheld hrails hphase href, ?_⟩
    rw [if_neg (by simp [hclear])]
    exact ⟨hfetch, hstate, hrefs, hkey, rfl, s.toFetch_keepsBut key⟩
  case group =>
    refine ⟨_, if_pos ⟨hg, by simp [hon]⟩, State.rd_wr_of_lt _ (by decide) ?_, s.wr_onlyFields MEM_STAT_READY _⟩
    exact Nat.or_lt_two_pow (s.rd_lt MEM_STAT_READY) (Nat.pow_lt_pow_right (by decide) hg)

end Sys2Proof.Machine
end

section
/-! The control registers and the descriptors of the DMA engine (R471, R472, R476 to R479, R483): what a channel's state, a stop and a
refused descriptor leave. -/

namespace Sys2Proof.Machine
open Sys2Proof

section Channels
variable {s : State} {n : Nat}

/-! ### The range source of the engine's block -/

/-- On an edge without a raise, an order of block DMA that is ignored leaves the raise of the block's range source alone (R488). -/
theorem State.dmaRange_of_fresh (h : s.fresh) (p : Port) {a : Nat} (ha : blkOf a = 15) :
    s.range p a = { s with flt := (s.range p a).flt } ∧ s.raisedAs (s.range p a) 0x1E0 (a % 0x10000 + p.master * 65536) := by
  have hrange := State.range_of_fresh h p a
  rwa [ha] at hrange

theorem blkOf_A_DMA_CH_CTRL (hn : n < 32) : blkOf (A_DMA_CH_CTRL n) = 15 := by
  simp only [blkOf, A_DMA_CH_CTRL]; omega

theorem blkOf_A_DMA_CH_DESC (hn : n < 32) : blkOf (A_DMA_CH_DESC n) = 15 := by
  simp only [blkOf, A_DMA_CH_DESC]; omega

/-! ### The state of a channel -/

theorem State.dmaState_dmaTo_same (s : State) (n : Nat) {st : Nat} (hst : st < 8) : (s.dmaTo n st).dmaState n = st :=
  s.rd_wr_of_lt (by simp [DMA_CH_STAT_STATE]) hst

theorem State.dmaState_dmaTo_ne (s : State) (st : Nat) {m : Nat} (h : n ≠ m) : (s.dmaTo n st).dmaState m = s.dmaState m :=
  s.rd_wr_apart _ _ _ (.inl (by simp only [DMA_CH_STAT_STATE, A_DMA_CH_STAT]; omega))

theorem State.dmaTo_rd (s : State) (n st : Nat) {f : Fld} (h : A_DMA_CH_STAT n ≠ f.addr) : (s.dmaTo n st).rd f = s.rd f :=
  s.rd_wr_apart _ f _ (.inl h)

theorem State.dmaTo_onlyFields (s : State) (n st : Nat) : s.onlyFields (s.dmaTo n st) [DMA_CH_STAT_STATE n] := s.wr_onlyFields _ st

@[simp] theorem State.dmaCh_setDmaCh_same (s : State) (n : Nat) (c : DmaCh) : (s.setDmaCh n c).dmaCh n = c := tget_tset_same _ _ _ _

theorem State.dmaCh_setDmaCh_ne (s : State) (c : DmaCh) {m : Nat} (h : m ≠ n) : (s.setDmaCh n c).dmaCh m = s.dmaCh m :=
  tget_tset_ne _ _ _ h.symm

/-- `s` with channel n in state `st` at the start of the descriptor `c`. -/
def State.dmaAt (s : State) (n : Nat) (c : DmaCh) (st : Nat) : State := ((s.setDmaCh n c).wr (DMA_CH_DONE_BYTES n) 0).dmaTo n st

theorem State.dmaAt_spec (s : State) (n : Nat) (c : DmaCh) {st : Nat} (hst : st < 8) : (s.dmaAt n c st).dmaState n = st ∧
    (s.dmaAt n c st).rd (DMA_CH_DONE_BYTES n) = 0 ∧ (s.dmaAt n c st).dmaCh n = c ∧
    (∀ m, m ≠ n → (s.dmaAt n c st).dmaCh m = s.dmaCh m) ∧
    s.keepsBut (s.dmaAt n c st) [DMA_CH_STAT_STATE n, DMA_CH_DONE_BYTES n] ∧
    s.dmaAt n c st = { s with regs := (s.dmaAt n c st).regs, dma := (s.dmaAt n c st).dma } := by
  refine ⟨State.dmaState_dmaTo_same _ n hst, ?_, s.dmaCh_setDmaCh_same n c, fun m hm => s.dmaCh_setDmaCh_ne c hm, ?_, rfl⟩
  · rw [State.dmaAt, State.dmaTo_rd _ _ _ (by simp only [DMA_CH_DONE_BYTES, A_DMA_CH_DONE_BYTES, A_DMA_CH_STAT]; omega)]
    exact State.rd_wr_same _ _ _ (by simp [DMA_CH_DONE_BYTES])
  · have hset : s.keepsBut (s.setDmaCh n c) [DMA_CH_STAT_STATE n, DMA_CH_DONE_BYTES n] := fun f _ => State.setDmaCh_rd _ _ _ f
    exact State.keepsBut_wr (State.keepsBut_wr hset (by simp)) (by simp)

/-! ### START, RESUME, CLEAR and DESC -/

theorem State.dmaStart_of_idle (p : Port) (hidle : s.dmaState n = DM_IDLE ∨ s.dmaState n = DM_ERROR)
    (hdrain : s.dmaDraining = false) : s.dmaStart p n = (s.wr (DMA_CH_STAT_REASON n) 0).dmaAt n .zero DM_FETCH :=
  if_pos ⟨hidle, by simp [hdrain]⟩

/-- START is ignored on a channel that fetches or runs, and while the engine drains (R479). -/
theorem State.dmaStart_of_busy (p : Port) (hbusy : s.dmaState n = DM_FETCH ∨ s.dmaState n = DM_RUN ∨ s.dmaDraining = true) :
    s.dmaStart p n = s.range p (A_DMA_CH_CTRL n) := by
  refine if_neg ?_
  rintro ⟨hidle, hdrain⟩
  rcases hbusy with h | h | h
  · simp [h, DM_FETCH, DM_IDLE, DM_ERROR] at hidle
  · simp [h, DM_RUN, DM_IDLE, DM_ERROR] at hidle
  · simp [h] at hdrain

/-- A stopped channel runs on, or fetches the descriptor that it did not hold (R478). -/
theorem State.dmaResume_of_stopped (p : Port) (hdrain : s.dmaDraining = false) (hstopped : s.dmaState n = DM_STOPPED) :
    s.dmaResume p n = if (s.dmaCh n).len = 0 then s.dmaAt n .zero DM_FETCH else s.dmaTo n DM_RUN := by
  rw [State.dmaResume, if_neg (by simp [hdrain]), if_neg (not_not.mpr hstopped)]
  rfl

theorem State.dmaResume_of_not_stopped (p : Port) (hdrain : s.dmaDraining = false) (h : s.dmaState n ≠ DM_STOPPED) :
    s.dmaResume p n = s := by
  rw [State.dmaResume, if_neg (by simp [hdrain]), if_pos h]

theorem State.dmaClear_of_drained (p : Port) (h : s.rd DMA_STAT_DRAINED = 1) : s.dmaClear p = s.wr DMA_STAT_STOPPED 0 :=
  if_pos (by simp [State.on, h])

theorem State.dmaClear_of_draining (p : Port) (h : s.rd DMA_STAT_DRAINED = 0) : s.dmaClear p = s.range p A_DMA_CTRL :=
  if_neg (by simp [State.on, h])

theorem State.dmaDesc_of_idle (p : Port) (v : Nat) (h : s.dmaState n = DM_IDLE ∨ s.dmaState n = DM_ERROR) :
    s.dmaDesc p n v = s.wr (DMA_CH_DESC_DESC n) (v / 32) := if_pos h

/-- DMA_CH_DESC is locked from the fetch of a descriptor to its end (R483). -/
theorem State.dmaDesc_of_busy (p : Port) (v : Nat) (h : s.dmaState n = DM_FETCH ∨ s.dmaState n = DM_RUN ∨ s.dmaState n = DM_STOPPED) :
    s.dmaDesc p n v = s.range p (A_DMA_CH_DESC n) := by
  refine if_neg ?_
  rcases h with h | h | h <;> rw [h] <;> decide

theorem State.dmaAbort_of_held (h : s.dmaState n = DM_FETCH ∨ s.dmaState n = DM_RUN ∨ s.dmaState n = DM_STOPPED) :
    s.dmaAbort n = s.dmaTo n DM_IDLE := if_pos h

/-! ### The stop -/

/-- A stop takes channel n where it fetches or runs (R477). -/
def State.dmaHold (s : State) (n : Nat) : State := if s.dmaState n = DM_FETCH ∨ s.dmaState n = DM_RUN then s.dmaTo n DM_STOPPED else s

theorem State.dmaHold_dmaState (s : State) (n m : Nat) : (s.dmaHold n).dmaState m =
    if m = n ∧ (s.dmaState m = DM_FETCH ∨ s.dmaState m = DM_RUN) then DM_STOPPED else s.dmaState m := by
  by_cases hm : n = m
  · subst hm
    simp only [State.dmaHold, true_and]
    split
    · exact s.dmaState_dmaTo_same n (by decide)
    · rfl
  · rw [if_neg (fun h => hm h.1.symm), State.dmaHold]
    split
    · exact s.dmaState_dmaTo_ne _ hm
    · rfl

theorem State.dmaHold_rd (s : State) (n : Nat) {f : Fld} (h : f.addr < A_DMA_CH_CTRL 0) : (s.dmaHold n).rd f = s.rd f := by
  unfold State.dmaHold
  split
  · exact s.dmaTo_rd _ _ (by simp only [A_DMA_CH_STAT, A_DMA_CH_CTRL] at h ⊢; omega)
  · rfl

theorem State.dmaHold_frame (s : State) (n : Nat) : ∃ r, s.dmaHold n = { s with regs := r } := by
  unfold State.dmaHold
  split
  · exact ⟨_, rfl⟩
  · exact ⟨_, rfl⟩

/-- Every channel that fetched or ran is stopped, and nothing else changes. -/
theorem State.dmaHolds_spec : ∀ (ns : List Nat) (s : State),
    (∀ m, (ns.foldl State.dmaHold s).dmaState m =
      if m ∈ ns ∧ (s.dmaState m = DM_FETCH ∨ s.dmaState m = DM_RUN) then DM_STOPPED else s.dmaState m) ∧
    (∀ f : Fld, f.addr < A_DMA_CH_CTRL 0 → (ns.foldl State.dmaHold s).rd f = s.rd f) ∧
    ∃ r, ns.foldl State.dmaHold s = { s with regs := r }
  | [], s => ⟨by simp, fun _ _ => rfl, s.regs, rfl⟩
  | n :: ns, s => by
    obtain ⟨hstate, hrd, r, hframe⟩ := State.dmaHolds_spec ns (s.dmaHold n)
    obtain ⟨q, hhold⟩ := s.dmaHold_frame n
    refine ⟨fun m => ?_, fun f hf => (hrd f hf).trans (s.dmaHold_rd n hf), r, hframe.trans (by rw [hhold])⟩
    have hends : ¬ (DM_STOPPED = DM_FETCH ∨ DM_STOPPED = DM_RUN) := by decide
    rw [List.foldl_cons, hstate m, s.dmaHold_dmaState]
    simp only [List.mem_cons]
    by_cases hruns : s.dmaState m = DM_FETCH ∨ s.dmaState m = DM_RUN
    · by_cases hm : m = n
      · simp only [hm, hm ▸ hruns, hends, true_and, and_false, true_or, if_true, if_false]
      · simp only [hm, false_and, false_or, if_false]
    · simp only [hruns, and_false, if_false]

/-- `s` with its first bus error shown (R477). -/
def State.dmaShowErr (s : State) (dir cause addr : Nat) : State :=
  ((((((s.wr DMA_STAT_STOPPED 1).wr DMA_STAT_DRAINED 0).wr DMA_STAT_ERR_EV 1).wrW A_DMA_ERR_ADDR (BitVec.ofNat 32 addr)).wr
    DMA_ERR_INFO_DIR dir).wr DMA_ERR_INFO_CAUSE cause).raise 0x1E3 (0x1F + 256 * cause)

theorem State.dmaShowErr_spec (s : State) {dir : Nat} (hdir : dir < 2) (cause addr : Nat) :
    (s.dmaShowErr dir cause addr).rd DMA_STAT_STOPPED = 1 ∧ (s.dmaShowErr dir cause addr).rd DMA_STAT_DRAINED = 0 ∧
    (s.dmaShowErr dir cause addr).rd DMA_STAT_ERR_EV = 1 ∧ (s.dmaShowErr dir cause addr).rd DMA_ERR_ADDR = addr % 2 ^ 32 ∧
    (s.dmaShowErr dir cause addr).rd DMA_ERR_INFO_DIR = dir ∧ (s.dmaShowErr dir cause addr).rd DMA_ERR_INFO_CAUSE = cause % 8 := by
  simp only [State.dmaShowErr, State.raise_rd]
  refine ⟨?_, ?_, ?_, ?_, ?_, State.rd_wr_same _ _ _ (by decide)⟩
  · rw [State.rd_wr_apart _ _ _ _ (by decide), State.rd_wr_apart _ _ _ _ (by decide), State.rd_wrW_ne _ _ _ (by decide),
      State.rd_wr_apart _ _ _ _ (by decide), State.rd_wr_apart _ _ _ _ (by decide)]
    exact State.rd_wr_same _ _ _ (by decide)
  · rw [State.rd_wr_apart _ _ _ _ (by decide), State.rd_wr_apart _ _ _ _ (by decide), State.rd_wrW_ne _ _ _ (by decide),
      State.rd_wr_apart _ _ _ _ (by decide)]
    exact State.rd_wr_same _ _ _ (by decide)
  · rw [State.rd_wr_apart _ _ _ _ (by decide), State.rd_wr_apart _ _ _ _ (by decide), State.rd_wrW_ne _ _ _ (by decide)]
    exact State.rd_wr_same _ _ _ (by decide)
  · rw [State.rd_wr_apart _ _ _ _ (by decide), State.rd_wr_apart _ _ _ _ (by decide)]
    simp [State.rd, DMA_ERR_ADDR, bitsOf]
  · rw [State.rd_wr_apart _ _ _ _ (by decide)]
    exact State.rd_wr_of_lt _ (by decide) hdir

theorem State.dmaShowErr_rd (s : State) (dir cause addr : Nat) {f : Fld} (hf : A_DMA_CH_CTRL 0 ≤ f.addr) :
    (s.dmaShowErr dir cause addr).rd f = s.rd f := by
  have happart : ∀ g : Fld, g.addr < A_DMA_CH_CTRL 0 → g.apart f := fun g hg => .inl (by omega)
  rw [State.dmaShowErr, State.raise_rd, State.rd_wr_apart _ _ _ _ (happart _ (by decide)),
    State.rd_wr_apart _ _ _ _ (happart _ (by decide)),
    State.rd_wrW_ne _ _ _ (Nat.ne_of_lt (Nat.lt_of_lt_of_le (by decide) hf)), State.rd_wr_apart _ _ _ _ (happart _ (by decide)),
    State.rd_wr_apart _ _ _ _ (happart _ (by decide)), State.rd_wr_apart _ _ _ _ (happart _ (by decide))]

/-- The first bus error stops the engine (R477). -/
theorem State.dmaStop_spec (hrunning : s.rd DMA_STAT_STOPPED = 0) (hfresh : s.fresh) {dir : Nat} (hdir : dir < 2) (cause addr : Nat) :
    (s.dmaStop dir cause addr).rd DMA_STAT_STOPPED = 1 ∧ (s.dmaStop dir cause addr).rd DMA_STAT_DRAINED = 0 ∧
    (s.dmaStop dir cause addr).rd DMA_STAT_ERR_EV = 1 ∧ (s.dmaStop dir cause addr).rd DMA_ERR_ADDR = addr % 2 ^ 32 ∧
    (s.dmaStop dir cause addr).rd DMA_ERR_INFO_DIR = dir ∧ (s.dmaStop dir cause addr).rd DMA_ERR_INFO_CAUSE = cause % 8 ∧
    (∀ m, m < 32 → (s.dmaStop dir cause addr).dmaState m =
      if s.dmaState m = DM_FETCH ∨ s.dmaState m = DM_RUN then DM_STOPPED else s.dmaState m) ∧
    s.raisedAs (s.dmaStop dir cause addr) 0x1E3 (0x1F + 256 * cause) ∧ (s.dmaStop dir cause addr).mem = s.mem ∧
    (s.dmaStop dir cause addr).cells = s.cells := by
  have hstop : s.dmaStop dir cause addr = (List.range 32).foldl State.dmaHold (s.dmaShowErr dir cause addr) :=
    if_neg (by simp [State.on, hrunning])
  obtain ⟨hstate, hrd, r, hframe⟩ := State.dmaHolds_spec (List.range 32) (s.dmaShowErr dir cause addr)
  obtain ⟨hstopped, hdrained, hev, haddr, hdir', hcause⟩ := s.dmaShowErr_spec hdir cause addr
  have hbefore : ∀ m, (s.dmaShowErr dir cause addr).dmaState m = s.dmaState m := fun m =>
    s.dmaShowErr_rd _ _ _ (by simp only [DMA_CH_STAT_STATE, A_DMA_CH_STAT, A_DMA_CH_CTRL]; omega)
  rw [hstop]
  refine ⟨(hrd _ (by decide)).trans hstopped, (hrd _ (by decide)).trans hdrained, (hrd _ (by decide)).trans hev,
    (hrd _ (by decide)).trans haddr, (hrd _ (by decide)).trans hdir', (hrd _ (by decide)).trans hcause, fun m hm => ?_, ?_, ?_, ?_⟩
  · rw [hstate m, hbefore]
    simp only [List.mem_range, hm, true_and]
  · have hraised : s.raisedAs (s.dmaShowErr dir cause addr) 0x1E3 (0x1F + 256 * cause) :=
      State.raisedAs_raise hfresh (by rfl) (by rfl) _ _
    rw [State.raisedAs, hframe]
    exact hraised
  · rw [hframe]
    exact State.raise_mem ..
  · rw [hframe]
    exact State.raise_cells ..

end Channels

end Sys2Proof.Machine
end

section
/-! The descriptors of the DMA engine and a copy within SRAM (R471 to R475): the fetch of a descriptor, its RESULT, and the bytes that a
channel moves. -/

namespace Sys2Proof.Machine
open Sys2Proof

section Descriptors
variable {s : State} {n : Nat}

/-! ### Accesses to SRAM that meet no error -/

theorem State.readMem_of_ready (p : Port) {a k : Nat} (hcause : s.memCause a k = none) (hclean : s.poisoned a k = false) :
    s.readMem p a k = (.ok (s.bytes a k), s) := by
  simp [State.readMem, hcause, hclean]

theorem State.ready_of_memCause {a k : Nat} (ha : isSram a = true) (hk : 0 < k) (hfit : a % 128 + k ≤ 128)
    (hcause : s.memCause a k = none) : s.ready (groupOf a) = true := by
  rw [s.memCause_of_stripe ha hk hfit] at hcause
  by_contra hoff
  simp [hoff] at hcause

/-- A part of an access that meets no poison meets none. -/
theorem State.poisoned_of_subset {a b k l : Nat} (h : s.poisoned a k = false) (hlo : a ≤ b) (hhi : b + l ≤ a + k) :
    s.poisoned b l = false := by
  simp only [State.poisoned, List.any_eq_false, Bool.and_eq_true, decide_eq_true_eq] at h ⊢
  exact fun w hw hpart => h w hw ⟨by omega, by omega⟩

/-! ### RESULT -/

theorem State.dmaDescAddr_eq (s : State) (n : Nat) : s.dmaDescAddr n = 32 * s.rd (DMA_CH_DESC_DESC n) := rfl

/-- Where the descriptor's stripe can be written, RESULT is stored (R475). -/
theorem State.dmaResult_of_ready (bytes code reason : Nat) (ha : isSram (s.dmaDescAddr n + 20) = true)
    (hready : s.ready (groupOf (s.dmaDescAddr n + 20)) = true) (hclean : s.poisoned (s.dmaDescAddr n + 20) 4 = false) :
    s.dmaResult n bytes code reason =
      (true, s.stored (s.dmaDescAddr n + 20) (leBytes 4 (bytes % 2 ^ 25 + code * 2 ^ 25 + reason * 2 ^ 28))) := by
  have hfit : (s.dmaDescAddr n + 20) % 128 + 4 ≤ 128 := by rw [State.dmaDescAddr_eq]; omega
  rw [State.dmaResult, State.writeMem_of_ready ha (by simp [leBytes_length]) (by rwa [leBytes_length]) hready
    (by rw [leBytes_length]; exact State.partPoison_of_clean hclean)]

/-- RESULT reads what was stored, and every other byte what it read before. -/
theorem State.stored_result (s : State) (a v : Nat) : (s.stored a (leBytes 4 v)).bytes a 4 = leBytes 4 v ∧
    ∀ b, b < a ∨ a + 4 ≤ b → (s.stored a (leBytes 4 v)).byte b = s.byte b := by
  have hlen := leBytes_length 4 v
  refine ⟨?_, fun b hb => s.stored_byte_outside a _ (by rwa [hlen])⟩
  have hread := State.bytes_of_byte (s.stored a (leBytes 4 v)) (leBytes 4 v) a (fun i hi => s.stored_byte_inside a _ i hi)
  rwa [hlen] at hread

/-! ### The fetch of a descriptor -/

/-- A reason is a code of four bits. -/
theorem dmaReason_lt (d : List Byte) : dmaReason d < 16 := by
  simp only [dmaReason]
  split_ifs <;> decide

section Fetch
variable (hn : n < 32) (hfetch : s.dmaState n = DM_FETCH) (hrunning : s.rd DMA_STAT_STOPPED = 0)
include hn hfetch hrunning

/-- A channel that fetches while the engine runs is served. -/
theorem not_idle_of_fetch : ¬ (n ≥ 32 ∨ s.dmaState n ≠ DM_FETCH ∨ s.on DMA_STAT_STOPPED = true) := by
  simp [hfetch, State.on, hrunning, hn]

theorem execDmaFetch_of_outside (ha : isSram (s.dmaDescAddr n) = false) :
    execDmaFetch n s = .next (s.dmaStop 0 2 (s.dmaDescAddr n)) := by
  simp only [execDmaFetch, if_neg (not_idle_of_fetch hn hfetch hrunning), ha, Bool.false_eq_true, if_false]

variable (ha : isSram (s.dmaDescAddr n) = true) (hcause : s.memCause (s.dmaDescAddr n) 32 = none)
  (hclean : s.poisoned (s.dmaDescAddr n) 32 = false)
include ha hcause hclean

/-- A descriptor that no rule refuses is the channel's, which runs (R472). -/
theorem execDmaFetch_of_accepted (hreason : dmaReason (s.bytes (s.dmaDescAddr n) 32) = 0)
    (hlen : (dmaParse (s.bytes (s.dmaDescAddr n) 32)).len ≠ 0) :
    execDmaFetch n s = .next (s.dmaAt n (dmaParse (s.bytes (s.dmaDescAddr n) 32)) DM_RUN) := by
  simp only [execDmaFetch, if_neg (not_idle_of_fetch hn hfetch hrunning), ha, if_true, State.readMem_of_ready .dma hcause hclean, hreason,
    ne_eq, not_true_eq_false, if_false, hlen, State.dmaAt]

theorem execDmaFetch_of_refused (hreason : dmaReason (s.bytes (s.dmaDescAddr n) 32) ≠ 0) :
    execDmaFetch n s = .next (s.dmaRefuse n (dmaReason (s.bytes (s.dmaDescAddr n) 32))) := by
  simp only [execDmaFetch, if_neg (not_idle_of_fetch hn hfetch hrunning), ha, if_true, State.readMem_of_ready .dma hcause hclean,
    if_pos hreason]

end Fetch

/-- `s` with RESULT `v` stored at `a`, and the refusal of channel n's descriptor shown (R472). -/
def State.dmaShowRefused (s : State) (n reason a v : Nat) : State :=
  (((((s.stored a (leBytes 4 v)).dmaTo n DM_ERROR).wr (DMA_CH_STAT_REFUSED_EV n) 1).wr (DMA_CH_STAT_REASON n) reason).wr
    DMA_STAT_DESC_EV 1).raise 0x1E2 (n + 256 * reason)

theorem State.dmaShowRefused_spec (n : Nat) {reason : Nat} (hfresh : s.fresh) (hreason : reason < 16) (a v : Nat) :
    (s.dmaShowRefused n reason a v).dmaState n = DM_ERROR ∧ (s.dmaShowRefused n reason a v).rd (DMA_CH_STAT_REFUSED_EV n) = 1 ∧
    (s.dmaShowRefused n reason a v).rd (DMA_CH_STAT_REASON n) = reason ∧ (s.dmaShowRefused n reason a v).rd DMA_STAT_DESC_EV = 1 ∧
    (s.dmaShowRefused n reason a v).bytes a 4 = leBytes 4 v ∧
    (∀ b, b < a ∨ a + 4 ≤ b → (s.dmaShowRefused n reason a v).byte b = s.byte b) ∧
    s.raisedAs (s.dmaShowRefused n reason a v) 0x1E2 (n + 256 * reason) ∧ (s.dmaShowRefused n reason a v).cells = s.cells := by
  have happart : ∀ f : Fld, f.addr = A_DMA_CH_STAT n → DMA_STAT_DESC_EV.apart f := fun f hf =>
    .inl (by simp only [hf, DMA_STAT_DESC_EV, A_DMA_STAT, A_DMA_CH_STAT]; omega)
  obtain ⟨hread, hothers⟩ := s.stored_result a v
  refine ⟨?_, ?_, ?_, ?_, (State.bytes_congr (State.raise_mem ..) _ _).trans hread,
    fun b hout => (State.byte_congr (State.raise_mem ..) b).trans (hothers b hout),
    State.raisedAs_raise hfresh (by exact State.stored_flt ..) (by exact State.stored_clk ..) _ _,
    (State.raise_cells ..).trans (State.stored_cells ..)⟩
  all_goals simp only [State.dmaState, State.dmaShowRefused, State.raise_rd]
  · rw [State.rd_wr_apart _ _ _ _ (happart _ rfl), State.rd_wr_apart _ _ _ _ (by simp [Fld.apart, DMA_CH_STAT_REASON, DMA_CH_STAT_STATE]),
      State.rd_wr_apart _ _ _ _ (by simp [Fld.apart, DMA_CH_STAT_REFUSED_EV, DMA_CH_STAT_STATE])]
    exact State.dmaState_dmaTo_same _ n (by decide)
  · rw [State.rd_wr_apart _ _ _ _ (happart _ rfl),
      State.rd_wr_apart _ _ _ _ (by simp [Fld.apart, DMA_CH_STAT_REASON, DMA_CH_STAT_REFUSED_EV])]
    exact State.rd_wr_same _ _ _ (by simp [DMA_CH_STAT_REFUSED_EV])
  · rw [State.rd_wr_apart _ _ _ _ (happart _ rfl)]
    exact State.rd_wr_of_lt _ (by simp [DMA_CH_STAT_REASON]) hreason
  · exact State.rd_wr_same _ _ _ (by decide)

/-- A descriptor that a rule refuses has its RESULT, and its channel the reason (R472). -/
theorem State.dmaRefuse_of_ready {reason : Nat} (ha : isSram (s.dmaDescAddr n) = true) (hcause : s.memCause (s.dmaDescAddr n) 32 = none)
    (hclean : s.poisoned (s.dmaDescAddr n) 32 = false) : s.dmaRefuse n reason =
      s.dmaShowRefused n reason (s.dmaDescAddr n + 20) (2 * 2 ^ 25 + reason * 2 ^ 28) := by
  have hlow : s.dmaDescAddr n < 0x04000000 := of_decide_eq_true ha
  have haligned : s.dmaDescAddr n % 32 = 0 := by rw [State.dmaDescAddr_eq]; omega
  have hready : s.ready (groupOf (s.dmaDescAddr n + 20)) = true := by
    rw [groupOf_add (by omega)]
    exact State.ready_of_memCause ha (by decide) (by omega) hcause
  have hresult := State.dmaResult_of_ready 0 2 reason (decide_eq_true (by omega)) hready
    (State.poisoned_of_subset hclean (Nat.le_add_right _ 20) (by omega))
  rw [Nat.zero_mod, Nat.zero_add] at hresult
  simp only [State.dmaRefuse, hresult]
  rfl

end Descriptors

/-! ### A copy within SRAM -/

/-- The descriptor of a copy of bytes: both addresses advance in SRAM, the ranges lie apart, and no descriptor follows. -/
structure DmaCh.Copies (c : DmaCh) : Prop where
  srcByte : c.sw = 0
  dstByte : c.dw = 0
  flags : c.flags = 7
  len_lt : c.len < 2 ^ 25
  src_le : c.src + c.len ≤ 0x04000000
  dst_le : c.dst + c.len ≤ 0x04000000
  apart : c.src + c.len ≤ c.dst ∨ c.dst + c.len ≤ c.src

section Copy
variable {s t : State} {n k : Nat} {c : DmaCh} {host : List Byte}

/-- An SRAM address is neither a register's nor the host's. -/
theorem not_regSpace_hostSpace_of_sram {a : Nat} (ha : isSram a = true) : isRegSpace a = false ∧ isHostSpace a = false := by
  simp only [isSram, decide_eq_true_eq] at ha
  simp only [isRegSpace, isHostSpace, Bool.and_eq_false_iff, decide_eq_false_iff_not]
  omega

theorem State.ready_of_all (hall : s.rd MEM_STAT_READY = 15) (a : Nat) : s.ready (groupOf a) = true := by
  have hgroup : groupOf a < 4 := Nat.mod_lt _ (by decide)
  rw [State.ready, hall, bitOf_eq_testBit]
  exact (Nat.testBit_two_pow_sub_one 4 _).trans (decide_eq_true hgroup)

theorem State.poisoned_of_nil (h : s.mst.poison = []) (a k : Nat) : s.poisoned a k = false := by simp [State.poisoned, h]

theorem Xfer.read_of_sram {a : Nat} (ha : isSram a = true) (hall : s.rd MEM_STAT_READY = 15) (hclean : s.mst.poison = []) :
    (Xfer.mk s host none).read a 1 = ([s.byte a], Xfer.mk s host none) := by
  obtain ⟨hreg, hhost⟩ := not_regSpace_hostSpace_of_sram ha
  have hcause : s.memCause a 1 = none := by rw [s.memCause_of_stripe ha one_pos (by omega), State.ready_of_all hall a]; rfl
  simp [Xfer.read, hreg, hhost, State.readMem_of_ready .dma hcause (State.poisoned_of_nil hclean a 1), State.bytes]

theorem Xfer.write_of_sram {a : Nat} (b : Byte) (ha : isSram a = true) (hall : s.rd MEM_STAT_READY = 15) (hclean : s.mst.poison = []) :
    (Xfer.mk s host none).write a [b] = Xfer.mk (s.stored a [b]) host none := by
  obtain ⟨hreg, hhost⟩ := not_regSpace_hostSpace_of_sram ha
  have hwrite : s.writeMem a [b] = (none, s.stored a [b]) := State.writeMem_of_ready ha Nat.one_pos
    (show a % 128 + 1 ≤ 128 by omega) (State.ready_of_all hall a) (State.partPoison_of_clean (State.poisoned_of_nil hclean a 1))
  simp [Xfer.write, hreg, hhost, hwrite]

/-- Channel n moves the byte at offset `off` of its copy (R473). -/
def State.dmaByte (s : State) (n : Nat) (c : DmaCh) (off : Nat) : State :=
  (s.stored (c.dst + off) [s.byte (c.src + off)]).wr (DMA_CH_DONE_BYTES n) (off + 1)

/-- A fill of a copy moves one byte. -/
theorem Xfer.chunk_of_copies (hc : c.Copies) (hdone : s.rd (DMA_CH_DONE_BYTES n) = k) (hk : k < c.len)
    (hall : s.rd MEM_STAT_READY = 15) (hclean : s.mst.poison = []) :
    (Xfer.mk s host none).chunk n c = Xfer.mk (s.dmaByte n c k) host none := by
  have hsrcLe := hc.src_le
  have hdstLe := hc.dst_le
  have hsrc : isSram (c.src + k) = true := decide_eq_true (by omega)
  have hdst : isSram (c.dst + k) = true := decide_eq_true (by omega)
  have hsrcInc : c.srcInc = true := by rw [DmaCh.srcInc, hc.flags]; decide
  have hdstInc : c.dstInc = true := by rw [DmaCh.dstInc, hc.flags]; decide
  have htake : ∀ b : Byte, [b].take 1 = [b] := fun _ => rfl
  simp [Xfer.chunk, Xfer.gather, Xfer.scatter, DmaCh.wide, DmaCh.srcW, DmaCh.dstW, hc.srcByte, hc.dstByte, hsrcInc, hdstInc, hdone, htake,
    Xfer.read_of_sram hsrc hall hclean, Xfer.write_of_sram _ hdst hall hclean, State.dmaByte]

/-- Of the copy `c` that channel n makes from `s`, `t` has the first `k` bytes. -/
structure State.Copied (s : State) (n : Nat) (c : DmaCh) (t : State) (k : Nat) : Prop where
  dma : t.dma = s.dma
  cells : t.cells = s.cells
  out : t.out = s.out
  keeps : s.keepsBut t [DMA_CH_DONE_BYTES n]
  done : t.rd (DMA_CH_DONE_BYTES n) = k
  clean : t.mst.poison = []
  inside : ∀ i, i < k → t.byte (c.dst + i) = s.byte (c.src + i)
  outside : ∀ a, a < c.dst ∨ c.dst + k ≤ a → t.byte a = s.byte a

/-- A field of another register than DMA_CH_DONE_BYTES reads as at the start. -/
theorem State.Copied.rd (h : s.Copied n c t k) {f : Fld} (hf : A_DMA_CH_DONE_BYTES n ≠ f.addr) : t.rd f = s.rd f :=
  h.keeps f (fun _ hg => List.mem_singleton.mp hg ▸ .inl hf)

/-- One byte more. -/
theorem State.Copied.step (hc : c.Copies) (h : s.Copied n c t k) (hk : k < c.len) : s.Copied n c (t.dmaByte n c k) (k + 1) := by
  have hlen := hc.len_lt
  have hsrc : t.byte (c.src + k) = s.byte (c.src + k) := h.outside _ (by have := hc.apart; omega)
  refine ⟨(State.stored_dma ..).trans h.dma, (State.stored_cells ..).trans h.cells, (State.stored_out ..).trans h.out,
    State.keepsBut_wr (fun f hf => (State.stored_rd _ _ _ f).trans (h.keeps f hf)) (by simp), ?_, ?_, fun i hi => ?_, fun a ha => ?_⟩
  · exact State.rd_wr_of_lt _ (by simp [DMA_CH_DONE_BYTES]) (by simp only [DMA_CH_DONE_BYTES]; omega)
  · exact List.filter_eq_nil_iff.mpr (fun w hw => by simp [h.clean] at hw)
  · rw [State.dmaByte, State.wr_byte]
    rcases Nat.lt_succ_iff_lt_or_eq.mp hi with hi | rfl
    · rw [State.stored_byte_outside _ _ _ (by simp; omega), h.inside i hi]
    · rw [← hsrc]
      exact t.stored_byte_inside (c.dst + i) [t.byte (c.src + i)] 0 Nat.one_pos
  · rw [State.dmaByte, State.wr_byte, State.stored_byte_outside _ _ _ (by simp; omega), h.outside a (by omega)]

/-- The fills of a copy move byte after byte. -/
theorem State.Copied.chunks (hc : c.Copies) (hall : s.rd MEM_STAT_READY = 15) : ∀ (j : Nat) {t : State} {k : Nat}, s.Copied n c t k →
    k + j ≤ c.len → ∃ u, (Xfer.mk t host none).chunks n c j = Xfer.mk u host none ∧ s.Copied n c u (k + j)
  | 0, t, _, h, _ => ⟨t, rfl, h⟩
  | j + 1, t, k, h, hj => by
    have hall' : t.rd MEM_STAT_READY = 15 :=
      (h.rd (by simp only [A_DMA_CH_DONE_BYTES, MEM_STAT_READY, A_MEM_STAT]; omega)).trans hall
    obtain ⟨u, hchunks, hcopied⟩ := State.Copied.chunks hc hall j (h.step hc (by omega)) (by omega)
    refine ⟨u, ?_, by rwa [Nat.add_right_comm] at hcopied⟩
    rw [Xfer.chunks, Xfer.chunk_of_copies hc h.done (by omega) hall' h.clean, hchunks]

end Copy

end Sys2Proof.Machine
end

section
/-! A DMA channel from its start to its end (R471 to R479, R483): the end of a copy, an abort, and the statement. -/

namespace Sys2Proof.Machine
open Sys2Proof

section Transfers
variable {s : State} {n : Nat}

/-! ### The end of a copy -/

/-- A channel that has a copy to make makes it whole. -/
theorem State.dmaMove_copied (host : List Byte) (hc : (s.dmaCh n).Copies) (hdone : s.rd (DMA_CH_DONE_BYTES n) = 0)
    (hall : s.rd MEM_STAT_READY = 15) (hclean : s.mst.poison = []) :
    s.Copied n (s.dmaCh n) (s.dmaMove n (s.dmaCh n).len host) (s.dmaCh n).len := by
  have hstart : s.Copied n (s.dmaCh n) s 0 := ⟨rfl, rfl, rfl, s.keepsBut_refl _, hdone, hclean, fun _ h => absurd h (Nat.not_lt_zero _),
    fun _ _ => rfl⟩
  have hwide : (s.dmaCh n).wide = 1 := by simp [DmaCh.wide, DmaCh.srcW, DmaCh.dstW, hc.srcByte, hc.dstByte]
  obtain ⟨u, hchunks, hcopied⟩ := hstart.chunks hc hall (host := host) (s.dmaCh n).len (Nat.zero_add _).le
  rw [Nat.zero_add] at hcopied
  rw [State.dmaMove]
  by_cases hlen : (s.dmaCh n).len = 0
  · rw [if_pos hlen, hlen]
    exact hstart
  · simp only [if_neg hlen, hdone, hwide, Nat.min_self, Nat.sub_zero, Nat.div_one, hchunks]
    exact hcopied

/-- The last descriptor of a chain ends in IDLE, counted, without an event (R475). -/
theorem State.dmaFinish_of_last {u : State} (hflags : (s.dmaCh n).flags = 7)
    (hresult : s.dmaResult n (s.dmaCh n).len 1 0 = (true, u)) : s.dmaFinish n = (u.inc (DMA_CH_CNT n)).dmaTo n DM_IDLE := by
  have hevent : (s.dmaCh n).event = false := by rw [DmaCh.event, hflags]; decide
  have hlast : (s.dmaCh n).last = true := by rw [DmaCh.last, hflags]; decide
  simp only [State.dmaFinish, hresult, hevent, hlast, Bool.false_eq_true, if_false, if_true]

/-- `s` with RESULT `v` stored at `a`, and channel n counted and in IDLE (R475). -/
def State.dmaShowEnd (s : State) (n a v : Nat) : State := ((s.stored a (leBytes 4 v)).inc (DMA_CH_CNT n)).dmaTo n DM_IDLE

/-- What the end of a copy shows, and that RESULT touches none of the bytes copied. -/
theorem State.Copied.showEnd {c : DmaCh} {t : State} (h : s.Copied n c t c.len) (a v : Nat)
    (hapart : c.dst + c.len ≤ a ∨ a + 4 ≤ c.dst) :
    (t.dmaShowEnd n a v).dmaState n = DM_IDLE ∧ (t.dmaShowEnd n a v).rd (DMA_CH_DONE_BYTES n) = c.len ∧
    (∀ i, i < c.len → (t.dmaShowEnd n a v).byte (c.dst + i) = s.byte (c.src + i)) ∧
    (t.dmaShowEnd n a v).bytes a 4 = leBytes 4 v ∧
    (∀ b, (b < c.dst ∨ c.dst + c.len ≤ b) → (b < a ∨ a + 4 ≤ b) → (t.dmaShowEnd n a v).byte b = s.byte b) ∧
    (t.dmaShowEnd n a v).rd (DMA_CH_CNT n) = min (s.rd (DMA_CH_CNT n) + 1) (2 ^ 32 - 1) ∧
    s.keepsBut (t.dmaShowEnd n a v) [DMA_CH_STAT_STATE n, DMA_CH_DONE_BYTES n, DMA_CH_CNT n] ∧
    (t.dmaShowEnd n a v).cells = s.cells ∧ (t.dmaShowEnd n a v).out = s.out := by
  obtain ⟨hread, hothers⟩ := t.stored_result a v
  refine ⟨State.dmaState_dmaTo_same _ n (by decide), ?_, fun i hi => ?_, hread, fun b hout hres => ?_, ?_, ?_,
    (State.stored_cells ..).trans h.cells, (State.stored_out ..).trans h.out⟩
  · rw [State.dmaShowEnd, State.dmaTo_rd _ _ _ (by simp only [DMA_CH_DONE_BYTES, A_DMA_CH_DONE_BYTES, A_DMA_CH_STAT]; omega), State.inc,
      State.cnt, State.rd_wr_apart _ _ _ _
        (.inl (by simp only [DMA_CH_DONE_BYTES, A_DMA_CH_DONE_BYTES, DMA_CH_CNT, A_DMA_CH_CNT]; omega)), State.stored_rd, h.done]
  · exact (hothers _ (by omega)).trans (h.inside i hi)
  · exact (hothers b hres).trans (h.outside b hout)
  · rw [State.dmaShowEnd, State.dmaTo_rd _ _ _ (by simp only [DMA_CH_CNT, A_DMA_CH_CNT, A_DMA_CH_STAT]; omega),
      State.rd_inc_same _ _ (by simp [DMA_CH_CNT]), State.stored_rd,
      h.rd (by simp only [DMA_CH_CNT, A_DMA_CH_CNT, A_DMA_CH_DONE_BYTES]; omega)]
    rfl
  · have hstored : s.keepsBut (t.stored a (leBytes 4 v)) [DMA_CH_STAT_STATE n, DMA_CH_DONE_BYTES n, DMA_CH_CNT n] := fun f hf =>
      (State.stored_rd _ _ _ f).trans (h.keeps f (by simp only [List.forall_mem_cons] at hf ⊢; exact ⟨hf.2.1, by simp⟩))
    exact State.keepsBut_wr (State.keepsBut_wr hstored (by simp)) (by simp)

/-- The end of a copy stores RESULT in its descriptor, which the copy has not touched. -/
theorem State.Copied.dmaFinish {t : State} (hc : (s.dmaCh n).Copies) (h : s.Copied n (s.dmaCh n) t (s.dmaCh n).len)
    (hall : s.rd MEM_STAT_READY = 15) (hdesc : s.dmaDescAddr n + 24 ≤ 0x04000000) : t.dmaFinish n =
      t.dmaShowEnd n (s.dmaDescAddr n + 20) ((s.dmaCh n).len + 2 ^ 25) := by
  have hch : t.dmaCh n = s.dmaCh n := congrArg (tget (fun _ => DmaCh.zero) · n) h.dma
  have haddr : t.dmaDescAddr n = s.dmaDescAddr n :=
    congrArg (32 * ·) (h.rd (by simp only [A_DMA_CH_DONE_BYTES, DMA_CH_DESC_DESC, A_DMA_CH_DESC]; omega))
  have hall' : t.rd MEM_STAT_READY = 15 :=
    (h.rd (by simp only [A_DMA_CH_DONE_BYTES, MEM_STAT_READY, A_MEM_STAT]; omega)).trans hall
  have hresult := State.dmaResult_of_ready (s := t) (n := n) (s.dmaCh n).len 1 0 (decide_eq_true (by omega)) (State.ready_of_all hall' _)
    (State.poisoned_of_nil h.clean _ _)
  have hvalue : (s.dmaCh n).len % 2 ^ 25 + 1 * 2 ^ 25 + 0 * 2 ^ 28 = (s.dmaCh n).len + 2 ^ 25 := by have := hc.len_lt; omega
  rw [hvalue, haddr] at hresult
  exact State.dmaFinish_of_last (by rw [hch, hc.flags]) (by rw [hch, hresult])

/-- A channel that runs while the engine runs is served. -/
theorem execDmaComplete_of_run (host : List Byte) (hn : n < 32) (hrun : s.dmaState n = DM_RUN) (hrunning : s.rd DMA_STAT_STOPPED = 0)
    (hmoved : (s.dmaMove n (s.dmaCh n).len host).rd DMA_STAT_STOPPED = 0) :
    execDmaComplete n host s = .next ((s.dmaMove n (s.dmaCh n).len host).dmaFinish n) := by
  have hserved : ¬ (n ≥ 32 ∨ s.dmaState n ≠ DM_RUN ∨ s.on DMA_STAT_STOPPED = true) := by simp [hrun, State.on, hrunning, hn]
  rw [execDmaComplete, if_neg hserved]
  exact congrArg Host.Outcome.next (if_neg (by simp [State.on, hmoved]))

/-- An abort that reports no byte beyond those done moves none (R478). -/
theorem State.dmaMove_of_done {prog : Nat} (host : List Byte) (hprog : prog ≤ s.rd (DMA_CH_DONE_BYTES n)) :
    s.dmaMove n prog host = s := by
  have hnone : min prog (s.dmaCh n).len - s.rd (DMA_CH_DONE_BYTES n) = 0 :=
    Nat.sub_eq_zero_of_le ((Nat.min_le_left _ _).trans hprog)
  simp only [State.dmaMove, hnone, Nat.zero_div, Xfer.chunks, ite_self]

/-- An abort in FETCH, or one that reports no further byte, takes the channel to IDLE alone (R478). -/
theorem execDmaAbort_of_done {prog : Nat} (host : List Byte) (hn : n < 32) (h : s.dmaState n = DM_FETCH ∨
    (s.dmaState n = DM_RUN ∨ s.dmaState n = DM_STOPPED) ∧ prog ≤ s.rd (DMA_CH_DONE_BYTES n)) :
    execDmaAbort n prog host s = .next (s.dmaTo n DM_IDLE) := by
  rw [execDmaAbort, if_neg (by omega)]
  rcases h with hfetch | ⟨hheld, hprog⟩
  · rw [if_neg (by rw [hfetch]; decide), State.dmaAbort_of_held (.inl hfetch)]
  · rw [if_pos hheld, State.dmaMove_of_done host hprog, State.dmaAbort_of_held (.inr hheld)]

/-- A bus error is met while a channel fetches or runs (R477). -/
theorem execDmaBusError_of_busy (dir : Bool) (cause addr : Nat) (hn : n < 32) (hbusy : s.dmaState n = DM_FETCH ∨ s.dmaState n = DM_RUN) :
    execDmaBusError dir cause addr [] s = .next (s.dmaStop (b2n dir) cause addr) := by
  refine if_neg fun hidle => ?_
  have hnone := List.all_eq_true.mp hidle n (List.mem_range.mpr hn)
  rcases hbusy with h | h <;> simp [h] at hnone

end Transfers

/-! ### The statement -/

/-- Settles O50: an order is one operation on its channel's registers or raises range; a descriptor is accepted or refused with its RESULT;
a copy moves byte after byte; the first bus error stops the engine. -/
theorem dmaTransfers : Obligations.DmaTransfers := by
  refine ⟨fun p n s hn hidle hdrain => ?start, fun p n s hn hbusy hfresh => ?startRefused,
    fun n s hn hfetch hrunning ha hcause hclean hreason hlen => ?accepted,
    fun n s hn hfetch hrunning ha hcause hclean hreason hfresh => ?refused, fun n s hn hfetch hrunning ha hfresh => ?outside,
    fun n host s hn hrun hrunning hsw hdw hflags hlen hdone hall hclean hsrc hdst hapart hdesc hresult => ?copy,
    fun dir cause addr n s hn hbusy hrunning hfresh => ?error, fun s hstopped => ?drained, fun prog s hrunning => ?notStopped,
    fun p s hdrained => ?clear, fun p s hdrained hfresh => ?clearRefused, fun p n s hn hdrain hstopped => ?resume,
    fun p n s hn hdrain hstopped => ?noResume, fun n prog host s hn hfetch => ?abortFetch,
    fun n prog host s hn hheld hprog => ?abort, fun p n v s hn hidle => ?desc, fun p n v s hn hbusy hfresh => ?descRefused⟩
  case start =>
    obtain ⟨hstate, hdone, hch, hothers, hkeeps, hframe⟩ :=
      (s.wr (DMA_CH_STAT_REASON n) 0).dmaAt_spec n .zero (st := DM_FETCH) (by decide)
    have hreason : ((s.wr (DMA_CH_STAT_REASON n) 0).dmaAt n .zero DM_FETCH).rd (DMA_CH_STAT_REASON n) = 0 :=
      (hkeeps _ (by simp [Fld.apart, DMA_CH_STAT_REASON, DMA_CH_STAT_STATE, DMA_CH_DONE_BYTES, A_DMA_CH_STAT, A_DMA_CH_DONE_BYTES])).trans
        (s.rd_wr_same _ _ (by simp [DMA_CH_STAT_REASON]))
    refine ⟨_, congrArg Host.Outcome.next ((if_pos hn).trans (State.dmaStart_of_idle p hidle hdrain)),
      hstate, hreason, hdone, hch, hothers,
      State.keepsBut_mono (State.keepsBut_trans (s.wr_keepsBut (DMA_CH_STAT_REASON n) 0) hkeeps) (by simp), hframe⟩
  case startRefused =>
    exact ⟨_, congrArg Host.Outcome.next ((if_pos hn).trans (State.dmaStart_of_busy p hbusy)),
      State.dmaRange_of_fresh hfresh p (blkOf_A_DMA_CH_CTRL hn)⟩
  case accepted =>
    obtain ⟨hstate, hdone, hch, hothers, hkeeps, hframe⟩ :=
      s.dmaAt_spec n (dmaParse (s.bytes (s.dmaDescAddr n) 32)) (st := DM_RUN) (by decide)
    exact ⟨_, execDmaFetch_of_accepted hn hfetch hrunning ha hcause hclean hreason hlen, hstate, hch, hdone, hothers, hkeeps, hframe⟩
  case refused =>
    exact ⟨_, (execDmaFetch_of_refused hn hfetch hrunning ha hcause hclean hreason).trans
      (congrArg Host.Outcome.next (State.dmaRefuse_of_ready ha hcause hclean)), State.dmaShowRefused_spec n hfresh (dmaReason_lt _) _ _⟩
  case outside =>
    obtain ⟨hstopped, -, hev, haddr, hdir, hcause, hstate, hraised, hmem, -⟩ :=
      State.dmaStop_spec hrunning hfresh (by decide : 0 < 2) 2 (s.dmaDescAddr n)
    refine ⟨_, execDmaFetch_of_outside hn hfetch hrunning ha, hstopped, hev, haddr, hdir, hcause, ?_, hraised, hmem⟩
    rw [hstate n hn, if_pos (.inl hfetch)]
  case copy =>
    have hc : (s.dmaCh n).Copies := ⟨hsw, hdw, hflags, hlen, hsrc, hdst, hapart⟩
    have hcopied := State.dmaMove_copied host hc hdone hall hclean
    have hmoved : (s.dmaMove n (s.dmaCh n).len host).rd DMA_STAT_STOPPED = 0 :=
      (hcopied.rd (by simp only [A_DMA_CH_DONE_BYTES, DMA_STAT_STOPPED, A_DMA_STAT]; omega)).trans hrunning
    have hexec := (execDmaComplete_of_run host hn hrun hrunning hmoved).trans (congrArg Host.Outcome.next (hcopied.dmaFinish hc hall hdesc))
    exact ⟨_, hexec, hcopied.showEnd _ _ hresult⟩
  case error =>
    obtain ⟨hstopped, hdrained, hev, haddr, hdir, hcause, hstate, hraised, hmem, hcells⟩ :=
      State.dmaStop_spec hrunning hfresh (by cases dir <;> decide : b2n dir < 2) cause addr
    exact ⟨_, execDmaBusError_of_busy dir cause addr hn hbusy, hstopped, hdrained, hev, haddr, hdir, hcause, hstate, hraised, hmem,
      hcells⟩
  case drained =>
    exact ⟨_, if_pos (by simp [State.on, hstopped]), s.rd_wr_same _ _ (by decide), s.wr_onlyFields DMA_STAT_DRAINED 1⟩
  case notStopped =>
    exact ⟨_, if_neg (by simp [State.on, hrunning]), rfl⟩
  case clear =>
    exact ⟨_, congrArg Host.Outcome.next (State.dmaClear_of_drained p hdrained), s.rd_wr_same _ _ (by decide),
      s.wr_onlyFields DMA_STAT_STOPPED 0⟩
  case clearRefused =>
    exact ⟨_, congrArg Host.Outcome.next (State.dmaClear_of_draining p hdrained), State.dmaRange_of_fresh hfresh p (by decide)⟩
  case resume =>
    refine ⟨_, congrArg Host.Outcome.next ((if_pos hn).trans (State.dmaResume_of_stopped p hdrain hstopped)), ?_⟩
    split
    · obtain ⟨hstate, -, -, -, hkeeps, hframe⟩ := s.dmaAt_spec n .zero (st := DM_FETCH) (by decide)
      exact ⟨hstate, hkeeps, hframe⟩
    · exact ⟨s.dmaState_dmaTo_same n (by decide), State.keepsBut_wr (s.keepsBut_refl _) (by simp), rfl⟩
  case noResume =>
    exact ⟨_, congrArg Host.Outcome.next ((if_pos hn).trans (State.dmaResume_of_not_stopped p hdrain hstopped)), rfl⟩
  case abortFetch =>
    exact ⟨_, execDmaAbort_of_done host hn (.inl hfetch), s.dmaState_dmaTo_same n (by decide), s.dmaTo_onlyFields n _⟩
  case abort =>
    exact ⟨_, execDmaAbort_of_done host hn (.inr ⟨hheld, hprog⟩), s.dmaState_dmaTo_same n (by decide), s.dmaTo_onlyFields n _⟩
  case desc =>
    refine ⟨_, congrArg Host.Outcome.next ((if_pos hn).trans (State.dmaDesc_of_idle p v.toNat hidle)), ?_,
      s.wr_onlyFields _ _⟩
    rw [State.dmaDescAddr_eq, State.rd_wr_of_lt _ (by simp [DMA_CH_DESC_DESC]) (by have := v.isLt; simp only [DMA_CH_DESC_DESC]; omega),
      Nat.mul_comm]
  case descRefused =>
    exact ⟨_, congrArg Host.Outcome.next ((if_pos hn).trans (State.dmaDesc_of_busy p v.toNat hbusy)),
      State.dmaRange_of_fresh hfresh p (blkOf_A_DMA_CH_DESC hn)⟩

end Sys2Proof.Machine
end

section
/-! What a route's event flags and the recorder's trigger leave of what the fault unit reads: what it holds, the cells, and every word outside
the blocks from LOOP to DMA (R305, R320, R331, R432, R437). -/

namespace Sys2Proof.Machine
open Sys2Proof

/-! ### Event flags leave what the fault unit holds -/

theorem State.flt_foldl {α : Type} {f : State → α → State} (hf : ∀ t x, (f t x).flt = t.flt) (xs : List α) (s : State) :
    (xs.foldl f s).flt = s.flt :=
  List.foldlRecOn (motive := fun t : State => t.flt = s.flt) xs f rfl (fun t ht x _ => (hf t x).trans ht)

@[simp] theorem State.qUpdate_flt (s : State) : s.qUpdate.flt = s.flt :=
  State.flt_foldl (fun t p => by dsimp only; split <;> rfl) _ s

@[simp] theorem State.tally_flt (s : State) (k st : Nat) (up : Bool) : (s.tally k st up).flt = s.flt := by
  simp only [State.tally, apply_ite State.flt, State.wr_flt, ite_self]

@[simp] theorem State.taskTo_flt (s : State) (k st : Nat) : (s.taskTo k st).flt = s.flt := by
  simp only [State.taskTo, State.tally_flt, State.wr_flt]

@[simp] theorem State.trace_flt (s : State) (kind e k flags waited : Nat) : (s.trace kind e k flags waited).flt = s.flt := by
  simp only [State.trace, apply_ite State.flt, State.inc_flt, ite_self]

@[simp] theorem State.becomeReady_flt (s : State) (k stamp : Nat) : (s.becomeReady k stamp).flt = s.flt := by
  simp only [State.becomeReady, apply_ite State.flt, State.trace_flt, State.wr_flt, State.taskTo_flt, ite_self]

@[simp] theorem State.passFlow_flt (s : State) (f : Nat) : (s.passFlow f).flt = s.flt := by
  unfold State.passFlow
  cases s.heldOf f with
  | none => simp only [ite_self]
  | some k => simp only [apply_ite State.flt, State.wr_flt, State.taskTo_flt, ite_self]

@[simp] theorem State.leaveReady_flt (s : State) (k st : Nat) : (s.leaveReady k st).flt = s.flt := by
  simp only [State.leaveReady, apply_ite State.flt, State.passFlow_flt, State.taskTo_flt, ite_self]

@[simp] theorem State.judgeTask_flt (s : State) (k : Nat) : (s.judgeTask k).flt = s.flt := by
  simp only [State.judgeTask, apply_ite State.flt, State.qUpdate_flt, State.becomeReady_flt, State.leaveReady_flt, ite_self]

@[simp] theorem State.setFlags_flt (s : State) (k mask : Nat) : (s.setFlags k mask).flt = s.flt := by
  simp only [State.setFlags, apply_ite State.flt, State.judgeTask_flt, State.wr_flt, State.cnt_flt, ite_self]

@[simp] theorem State.fireRoute_flt (s : State) (src : Nat) : (s.fireRoute src).flt = s.flt := by
  unfold State.fireRoute
  split
  · rfl
  · exact State.flt_foldl (fun t k => t.setFlags_flt k _) _ s

/-! ### Words from LOOP to DMA -/

/-- A word of the blocks from LOOP to DMA. -/
abbrev RouteWord (a : Nat) : Prop := A_LOOP_CTRL ≤ a ∧ a < A_FLT_CTRL

/-- Beside what `WritesIn` keeps, `t` has what the fault unit of `s` holds, and it writes only words from LOOP to DMA. -/
structure State.Routed (s t : State) : Prop extends State.WritesIn RouteWord s t where
  flt : t.flt = s.flt

section Routed
variable {s t u : State}

theorem State.Routed.refl (s : State) : s.Routed s := ⟨.refl _ s, rfl⟩

theorem State.Routed.trans (h : s.Routed t) (k : t.Routed u) : s.Routed u :=
  ⟨h.toWritesIn.trans k.toWritesIn, k.flt.trans h.flt⟩

theorem State.Routed.wr (h : s.Routed t) {f : Fld} (v : Nat) (hf : RouteWord f.addr) : s.Routed (t.wr f v) :=
  ⟨h.toWritesIn.wr v hf, h.flt⟩

theorem State.Routed.setRecd (h : s.Routed t) (q : Recd) : s.Routed (t.setRecd q) :=
  h.trans ⟨⟨rfl, rfl, rfl, rfl, rfl, rfl, fun _ _ => rfl⟩, rfl⟩

theorem State.Routed.setEng (h : s.Routed t) (e : Nat) (g : Eng) : s.Routed (t.setEng e g) := h.setRecd _

theorem State.Routed.setTap (h : s.Routed t) (u : Nat) (q : Tap) : s.Routed (t.setTap u q) :=
  h.trans ⟨⟨rfl, rfl, rfl, rfl, rfl, rfl, fun _ _ => rfl⟩, rfl⟩

theorem State.Routed.ite {c : Prop} [Decidable c] (h : s.Routed t) (k : s.Routed u) : s.Routed (if c then t else u) := by
  split
  · exact h
  · exact k

end Routed

theorem State.Routed.foldl_mem {α : Type} {f : State → α → State} {xs : List α} (hf : ∀ (t : State), ∀ x ∈ xs, t.Routed (f t x))
    (s : State) : s.Routed (xs.foldl f s) :=
  List.foldlRecOn (motive := s.Routed) xs f (.refl s) (fun t ht x hx => ht.trans (hf t x hx))

/-- The routes reach the scheduler's words and those above it, below the recorder's (R331). -/
theorem State.fireRoute_routed (s : State) (src : Nat) : s.Routed (s.fireRoute src) := by
  have hbelow := s.fireRoute_belowRec src
  have habove : s.WritesIn SchedWord (s.fireRoute src) := .ite (.refl _ s) (.foldl (fun t k => t.setFlags_writesIn k _) _ s)
  refine ⟨⟨hbelow.red, hbelow.prof, hbelow.net, hbelow.cells, hbelow.mem, hbelow.out, fun a ha => ?_⟩, s.fireRoute_flt src⟩
  by_cases hsched : SchedWord a
  · exact hbelow.word a fun hrec => ha (by
      simp only [SchedWord, BelowRec, RouteWord, A_SCHED_CTRL, A_ACQ_REC_CTRL, A_LOOP_CTRL, A_FLT_CTRL] at *; omega)
  · exact habove.word a hsched

/-! ### The recorder -/

theorem State.tapTrig_routed (s : State) {u : Nat} (hu : u < 16) : s.Routed (s.tapTrig u) := by
  have hstat : RouteWord (A_LOOP_TAP_STAT u) := by simp only [A_LOOP_TAP_STAT, A_LOOP_CTRL, A_FLT_CTRL, RouteWord]; omega
  have hpre : RouteWord (A_LOOP_TAP_PRE u) := by simp only [A_LOOP_TAP_PRE, A_LOOP_CTRL, A_FLT_CTRL, RouteWord]; omega
  have hrefl := State.Routed.refl s
  exact .ite (hrefl.wr _ hstat) (.ite hrefl ((((hrefl.wr _ hstat).wr _ hstat).wr _ hpre).setTap u _))

theorem State.tapsBy_routed (s : State) (bit : Nat) (p : Nat → Bool) : s.Routed (s.tapsBy bit p) :=
  .foldl_mem (fun t _ hu => .ite (t.tapTrig_routed (List.mem_range.mp hu)) (.refl t)) s

theorem State.showCapture_routed (s : State) : s.Routed s.showCapture := by
  have hseg : RouteWord (ACQ_SEG_FULL (s.rd ACQ_REC_STAT_SEG / 32)).addr := by
    have hlt : s.rd ACQ_REC_STAT_SEG < 64 := s.rd_lt ACQ_REC_STAT_SEG
    simp only [ACQ_SEG_FULL, A_ACQ_SEG_FULL, A_LOOP_CTRL, A_FLT_CTRL, RouteWord]
    omega
  exact ((State.Routed.refl s).wr _ hseg).wr _ (by decide)

theorem State.recEnd_routed (s : State) (short : Bool) : s.Routed (s.recEnd short) := by
  obtain ⟨q, r, hend⟩ := s.recEnd_eq short
  rw [hend]
  exact (((((State.Routed.refl s).setRecd q).trans (State.showCapture_routed _)).trans (State.fireRoute_routed _ 0x38)).wr
    (f := ACQ_REC_CAP) _ (by decide)).wr (f := ACQ_REC_STAT_STATE) _ (by decide) |>.setRecd r

theorem State.recTrigger_routed (s : State) (fires how : Nat) : s.Routed (s.recTrigger fires how) := by
  have hrefl := State.Routed.refl s
  have htaken := ((hrefl.setRecd (s.recTaken fires how)).wr (f := ACQ_REC_STAT_STATE) RS_POST (by decide)).trans
    (State.tapsBy_routed _ 0 (fun _ => true))
  exact .ite (hrefl.wr (f := ACQ_TRIG_LOST) _ (by decide)) (.ite (.ite (hrefl.setRecd _) (hrefl.setRecd _))
    (.ite (htaken.trans (State.recEnd_routed _ false)) htaken))

section Engine
variable {e : Nat} (he : e < 8)
include he

theorem State.setEngT_routed (s : State) (v : Nat) : s.Routed (s.setEngT e v) := by
  have ht : ∀ j < 4, RouteWord (ACQ_ENG_T e j).addr := fun j hj => by
    simp only [ACQ_ENG_T, A_ACQ_ENG_T, A_LOOP_CTRL, A_FLT_CTRL, RouteWord]; omega
  exact ((((State.Routed.refl s).wr _ (ht 0 (by decide))).wr _ (ht 1 (by decide))).wr _ (ht 2 (by decide))).wr _ (ht 3 (by decide))

theorem State.engEvent_routed (s : State) : s.Routed (s.engEvent e).1 := by
  have hstat : RouteWord (A_ACQ_ENG_STAT e) := by simp only [A_ACQ_ENG_STAT, A_LOOP_CTRL, A_FLT_CTRL, RouteWord]; omega
  have hheld : RouteWord (A_ACQ_ENG_HELD_CNT e) := by simp only [A_ACQ_ENG_HELD_CNT, A_LOOP_CTRL, A_FLT_CTRL, RouteWord]; omega
  have hfire : RouteWord (A_ACQ_ENG_FIRE_CNT e) := by simp only [A_ACQ_ENG_FIRE_CNT, A_LOOP_CTRL, A_FLT_CTRL, RouteWord]; omega
  have hcount : s.Routed (s.inc (ACQ_ENG_HELD_CNT e)) := (State.Routed.refl s).wr _ hheld
  have hfired : s.Routed ((s.inc (ACQ_ENG_FIRE_CNT e)).wr (ACQ_ENG_STAT_FIRED_EV e) 1) :=
    ((State.Routed.refl s).wr _ hfire).wr _ hstat
  simp only [State.engEvent]
  split
  · split
    · exact .ite ((hcount.setEng e _).wr (f := ACQ_ENG_STAT_HOLDING e) 0 hstat) (hcount.setEng e _)
    · exact hcount
  · split
    · exact .refl s
    · exact .ite ((hfired.wr (f := ACQ_ENG_STAT_HOLDING e) 1 hstat).setEng e _) hfired

end Engine

theorem State.engEvents_routed (s : State) {es : List Nat} (hes : ∀ e ∈ es, e < 8) : s.Routed (s.engEvents es) := by
  have hfold := List.foldlRecOn (motive := fun acc : State × Nat => s.Routed acc.1) es (fun (acc : State × Nat) e =>
    ((acc.1.engEvent e).1, if (acc.1.engEvent e).2 && (acc.1.engEvent e).1.on (ACQ_ENG_CFG_CAPTURE e) then acc.2 ||| 2 ^ e else acc.2))
    (b := (s, 0)) (.refl s) (fun acc hacc e he => hacc.trans (State.engEvent_routed (hes e he) acc.1))
  simp only [State.engEvents]
  exact .ite (hfold.trans (State.recTrigger_routed _ _ _)) hfold

theorem State.engsOf_routed (s : State) (ty : Nat) (p : Nat → Bool) : s.Routed (s.engsOf ty p) := by
  have hlt : ∀ e ∈ (List.range 8).filter (fun e => decide (s.rd (ACQ_ENG_CFG_TYPE e) = ty) && p e), e < 8 := fun e he =>
    List.mem_range.mp (List.mem_of_mem_filter he)
  have hstat : ∀ e < 8, RouteWord (ACQ_ENG_STAT_EVENT e).addr := fun e he => by
    simp only [ACQ_ENG_STAT_EVENT, A_ACQ_ENG_STAT, A_LOOP_CTRL, A_FLT_CTRL, RouteWord]; omega
  have hshown := State.Routed.foldl_mem (f := fun s e => (s.wr (ACQ_ENG_STAT_EVENT e) 1).setEngT e s.ctTenth)
    (fun t e he => ((State.Routed.refl t).wr _ (hstat e (hlt e he))).trans (State.setEngT_routed (hlt e he) _ _)) s
  exact .ite (.refl s) (hshown.trans (State.engEvents_routed _ hlt))

theorem State.recFault_routed (s : State) (classes : Nat) : s.Routed (s.recFault classes) := s.engsOf_routed _ _

end Sys2Proof.Machine
end

section
/-! The fault unit (R485 to R499): what the records' operations write, what a raise leaves in its record, and how STATE follows the records. -/

namespace Sys2Proof.Machine
open Sys2Proof

/-! ### Words of the fault unit -/

/-- `s` with other contents of the fault unit. -/
def State.setFlt (s : State) (q : Flt) : State := { s with flt := q }

@[simp] theorem State.setFlt_rdW (s : State) (q : Flt) (a : Nat) : (s.setFlt q).rdW a = s.rdW a := rfl

@[simp] theorem State.setFlt_rd (s : State) (q : Flt) (f : Fld) : (s.setFlt q).rd f = s.rd f := rfl

theorem State.setFlt_setFlt (s : State) (q r : Flt) : (s.setFlt q).setFlt r = s.setFlt r := rfl

theorem State.WritesIn.setFlt {p : Nat → Prop} {s t : State} (h : s.WritesIn p t) (q : Flt) : s.WritesIn p (t.setFlt q) :=
  ⟨h.red, h.prof, h.net, h.cells, h.mem, h.out, h.word⟩

theorem State.startTimer_eq (s : State) (k e : Nat) : ∃ q, s.startTimer k e = s.setFlt q := ⟨_, rfl⟩

/-- A word of record k. -/
abbrev RecWord (k a : Nat) : Prop := A_FLT_REC0 k ≤ a ∧ a < A_FLT_REC0 k + 16

theorem recWord_rec (k : Nat) : RecWord k (A_FLT_REC0 k) ∧ RecWord k (A_FLT_REC1 k) ∧ RecWord k (A_FLT_REC2 k) ∧ RecWord k (A_FLT_REC3 k) := by
  simp only [RecWord, A_FLT_REC0, A_FLT_REC1, A_FLT_REC2, A_FLT_REC3]; omega

/-- The records' words lie apart. -/
theorem not_recWord {j k : Nat} (h : j ≠ k) : ¬ RecWord k (A_FLT_REC0 j) := by
  simp only [RecWord, A_FLT_REC0]; omega

theorem State.recValid_eq_true {s : State} {k : Nat} : s.recValid k = true ↔ s.rd (FLT_REC0_VALID k) = 1 := by
  have hlt : s.rd (FLT_REC0_VALID k) < 2 := s.rd_lt (FLT_REC0_VALID k)
  simp only [State.recValid, State.on, decide_eq_true_eq]
  omega

theorem State.setFlt_recValid (s : State) (q : Flt) (k : Nat) : (s.setFlt q).recValid k = s.recValid k := rfl

theorem State.WritesIn.recValid {p : Nat → Prop} {s t : State} (h : s.WritesIn p t) {k : Nat} (hk : ¬ p (A_FLT_REC0 k)) :
    t.recValid k = s.recValid k := by
  rw [State.recValid, State.recValid, State.on, State.on, h.rd hk]

/-! ### A record is freed, and filled -/

theorem State.freeRec_writesIn (s : State) (k : Nat) : s.WritesIn (RecWord k) (s.freeRec k) := by
  obtain ⟨h0, h1, h2, h3⟩ := recWord_rec k
  exact (((((State.WritesIn.refl _ s).wrW 0 h0).wrW 0 h1).wrW 0 h2).wrW 0 h3).setFlt _

theorem State.recValid_freeRec_same (s : State) (k : Nat) : (s.freeRec k).recValid k = false := by
  have hword : (s.freeRec k).rdW (A_FLT_REC0 k) = 0 := by
    refine ((State.rdW_wrW_ne _ _ ?_).trans ((State.rdW_wrW_ne _ _ ?_).trans (State.rdW_wrW_ne _ _ ?_))).trans
      (s.rdW_wrW_same (A_FLT_REC0 k) 0)
    all_goals simp only [A_FLT_REC0, A_FLT_REC1, A_FLT_REC2, A_FLT_REC3]; omega
  rw [State.recValid, State.on, State.rd, show (FLT_REC0_VALID k).addr = A_FLT_REC0 k from rfl, hword]
  rfl

/-- The first word of a filled record: the source, ESC and ESC_CAUSE, OVF, and VALID (R488). -/
def FaultIn.rec0 (f : FaultIn) (ovf : Bool) : Word :=
  BitVec.ofNat 32 (f.id % 1024 + 1024 * b2n (f.cause ≠ 0) + 2048 * f.cause + 8192 * b2n ovf + 2 ^ 31)

theorem b2n_lt (b : Bool) : b2n b < 2 := by cases b <;> decide

theorem FaultIn.rec0_spec (f : FaultIn) (hcause : f.cause < 4) (ovf : Bool) :
    bitsOf (f.rec0 ovf) 0 10 = f.id % 1024 ∧ bitsOf (f.rec0 ovf) 31 1 = 1 := by
  have hesc := b2n_lt (f.cause ≠ 0)
  have hovf := b2n_lt ovf
  simp only [FaultIn.rec0, bitsOf, BitVec.toNat_ofNat, Nat.shiftRight_eq_div_pow]
  omega

/-- `s` with the words of record k replaced. -/
def State.storeRec (s : State) (k : Nat) (w : Word) (info ns sec : Nat) : State :=
  (((s.wrW (A_FLT_REC0 k) w).wr (FLT_REC1 k) info).wr (FLT_REC2 k) ns).wr (FLT_REC3 k) sec

theorem State.storeRec_writesIn (s : State) (k : Nat) (w : Word) (info ns sec : Nat) :
    s.WritesIn (RecWord k) (s.storeRec k w info ns sec) := by
  obtain ⟨h0, h1, h2, h3⟩ := recWord_rec k
  exact ((((State.WritesIn.refl _ s).wrW w h0).wr (f := FLT_REC1 k) info h1).wr (f := FLT_REC2 k) ns h2).wr (f := FLT_REC3 k) sec h3

/-- The first word of a record reads what is stored in it, and so does its INFO. -/
theorem State.storeRec_spec (s : State) (k : Nat) (w : Word) (info ns sec : Nat) :
    (s.storeRec k w info ns sec).rdW (A_FLT_REC0 k) = w ∧ (s.storeRec k w info ns sec).rd (FLT_REC1 k) = info % 2 ^ 32 := by
  have h10 : (FLT_REC1 k).addr ≠ A_FLT_REC0 k := by simp only [FLT_REC1, A_FLT_REC0, A_FLT_REC1]; omega
  have h20 : (FLT_REC2 k).addr ≠ A_FLT_REC0 k := by simp only [FLT_REC2, A_FLT_REC0, A_FLT_REC2]; omega
  have h30 : (FLT_REC3 k).addr ≠ A_FLT_REC0 k := by simp only [FLT_REC3, A_FLT_REC0, A_FLT_REC3]; omega
  have h21 : (FLT_REC2 k).addr ≠ (FLT_REC1 k).addr := by simp only [FLT_REC1, FLT_REC2, A_FLT_REC1, A_FLT_REC2]; omega
  have h31 : (FLT_REC3 k).addr ≠ (FLT_REC1 k).addr := by simp only [FLT_REC1, FLT_REC3, A_FLT_REC1, A_FLT_REC3]; omega
  constructor
  · rw [State.storeRec, State.rdW_wr_ne _ _ _ h30, State.rdW_wr_ne _ _ _ h20, State.rdW_wr_ne _ _ _ h10, State.rdW_wrW_same]
  · rw [State.storeRec, State.rd_wr_apart _ _ _ _ (.inl h31), State.rd_wr_apart _ _ _ _ (.inl h21),
      State.rd_wr_same _ _ _ (by simp only [FLT_REC1]; decide)]
    rfl

/-- Beside the record's words, filling a record changes what the fault unit holds. -/
theorem State.fillRec_eq (s : State) (k : Nat) (f : FaultIn) (ovf : Bool) :
    ∃ q, s.fillRec k f ovf = (s.storeRec k (f.rec0 ovf) f.info (ctNs f.ct) (ctSec f.ct)).setFlt q := by
  obtain ⟨q, hfill⟩ : ∃ q, s.fillRec k f ovf =
      ((s.storeRec k (f.rec0 ovf) f.info (ctNs f.ct) (ctSec f.ct)).setFlt q).startTimer k (f.edge + 1) := ⟨_, rfl⟩
  obtain ⟨r, htimer⟩ := ((s.storeRec k (f.rec0 ovf) f.info (ctNs f.ct) (ctSec f.ct)).setFlt q).startTimer_eq k (f.edge + 1)
  exact ⟨r, hfill.trans (htimer.trans (State.setFlt_setFlt _ q r))⟩

theorem State.fillRec_writesIn (s : State) (k : Nat) (f : FaultIn) (ovf : Bool) : s.WritesIn (RecWord k) (s.fillRec k f ovf) := by
  obtain ⟨q, hfill⟩ := s.fillRec_eq k f ovf
  exact hfill ▸ (s.storeRec_writesIn k _ _ _ _).setFlt q

/-- A filled record is valid, and names the source and its INFO (R488). -/
theorem State.fillRec_spec (s : State) (k : Nat) {f : FaultIn} (hid : f.id < 1024) (hcause : f.cause < 4) (ovf : Bool) :
    (s.fillRec k f ovf).rd (FLT_REC0_VALID k) = 1 ∧ (s.fillRec k f ovf).rd (FLT_REC0_ID k) = f.id ∧
    (s.fillRec k f ovf).rd (FLT_REC1 k) = f.info % 2 ^ 32 := by
  obtain ⟨hname, hvalid⟩ := f.rec0_spec hcause ovf
  obtain ⟨q, hfill⟩ := s.fillRec_eq k f ovf
  obtain ⟨hword, hinfo⟩ := s.storeRec_spec k (f.rec0 ovf) f.info (ctNs f.ct) (ctSec f.ct)
  have hrd : ∀ g : Fld, (s.fillRec k f ovf).rd g = (s.storeRec k (f.rec0 ovf) f.info (ctNs f.ct) (ctSec f.ct)).rd g := fun g => by
    rw [hfill, State.setFlt_rd]
  refine ⟨(hrd _).trans ?_, (hrd _).trans ?_, (hrd _).trans hinfo⟩
  · rw [State.rd, FLT_REC0_VALID, hword, hvalid]
  · rw [State.rd, FLT_REC0_ID, hword, hname, Nat.mod_eq_of_lt hid]

/-! ### STATE follows the records -/

theorem State.fltFollow_onlyFields (s : State) : s.onlyFields s.fltFollow [FLT_STAT_STATE, FLT_STAT_QUIETING] :=
  State.onlyFields_wr (State.onlyFields_wr (s.onlyFields_refl _) (by simp)) (by simp)

/-- STATE shows the highest class of a valid record (R495). -/
theorem State.fltFollow_state (s : State) :
    s.fltFollow.rd FLT_STAT_STATE = if s.recValid 2 then 2 else if s.recValid 1 then 1 else 0 := by
  rw [State.fltFollow, State.rd_wr_apart _ _ _ _ (by decide), State.rd_wr_same _ _ _ (by decide)]
  split
  · rfl
  · split <;> rfl

theorem State.fltFollow_rdW (s : State) {a : Nat} (ha : A_FLT_STAT ≠ a) : s.fltFollow.rdW a = s.rdW a :=
  (State.rdW_wr_ne _ FLT_STAT_QUIETING _ ha).trans (s.rdW_wr_ne FLT_STAT_STATE _ ha)

/-- Bringing STATE up to date shows `st`, changes no field but those of `fs` in FLT_STAT, and leaves the cells and the memory alone. -/
structure State.Settled (s : State) (st : Nat) (fs : List Fld) (t : State) : Prop where
  state : t.rd FLT_STAT_STATE = st
  rd : s.keepsBut t fs
  word : ∀ a, A_FLT_STAT ≠ a → t.rdW a = s.rdW a
  cells : t.cells = s.cells
  mem : t.mem = s.mem

theorem State.Settled.rd_of_ne {s t : State} {st : Nat} {fs : List Fld} (h : s.Settled st fs t) {f : Fld} (hf : A_FLT_STAT ≠ f.addr) :
    t.rd f = s.rd f := State.rd_congr (h.word f.addr hf)

theorem State.Settled.recValid {s t : State} {st : Nat} {fs : List Fld} (h : s.Settled st fs t) (k : Nat) :
    t.recValid k = s.recValid k := by
  rw [State.recValid, State.recValid, State.on, State.on, h.rd_of_ne (by simp only [FLT_REC0_VALID, A_FLT_STAT, A_FLT_REC0]; omega)]

theorem State.irqUpdate_rd (s : State) (f : Fld) : s.irqUpdate.rd f = s.rd f := State.rd_congr (s.irqUpdate_rdW _)

/-- With record 2 free, STATE says whether record 1 is valid (R495). -/
theorem State.fltSettle_of_contained {s : State} (h : s.recValid 2 = false) :
    s.Settled (b2n (s.recValid 1)) [FLT_STAT_STATE, FLT_STAT_QUIETING] s.fltSettle := by
  have hstate := s.fltFollow_state
  rw [if_neg (by simp [h])] at hstate
  have hsettle : s.fltSettle = s.fltFollow.irqUpdate := by
    have hcontained : ¬ (s.fltFollow.rd FLT_STAT_STATE = 2 ∧ s.rd FLT_STAT_STATE ≠ 2) := by
      rw [hstate]; split <;> simp
    simp only [State.fltSettle, if_neg hcontained]
  rw [hsettle]
  exact ⟨(State.irqUpdate_rd _ _).trans hstate, fun g hg => (State.irqUpdate_rd _ g).trans (s.fltFollow_onlyFields.2 g hg),
    fun a ha => (State.irqUpdate_rdW _ a).trans (s.fltFollow_rdW ha), State.irqUpdate_cells _, State.irqUpdate_mem _⟩

/-- The entry into FATAL with the chart loaded: FATAL_EV is set, ALIVE falls, and a unit that is not active does nothing more
(R495, R496, R499). -/
theorem State.fltSettle_of_fatal {s : State} (h : s.recValid 2 = true) (hwas : s.rd FLT_STAT_STATE ≠ 2) (hrun : s.inRun = true)
    (hactive : s.isActive = false) :
    s.Settled 2 [FLT_STAT_STATE, FLT_STAT_QUIETING, FLT_STAT_FATAL_EV, FLT_STAT_ALIVE] s.fltSettle ∧
    s.fltSettle.rd FLT_STAT_FATAL_EV = 1 ∧ s.fltSettle.rd FLT_STAT_ALIVE = 0 := by
  have hstate : s.fltFollow.rd FLT_STAT_STATE = 2 := s.fltFollow_state.trans (if_pos h)
  set u := (s.fltFollow.wr FLT_STAT_FATAL_EV 1).quietRestart s.fltFollow.clk.count
  set v := u.wr FLT_STAT_ALIVE 0
  have hphase : v.phase = PH_RUN :=
    (State.rd_wr_apart _ FLT_STAT_ALIVE _ _ (by decide)).trans ((State.rd_wr_apart _ FLT_STAT_FATAL_EV _ _ (by decide)).trans
      ((s.fltFollow_onlyFields.2 CHART_STATUS_PHASE (by decide)).trans (of_decide_eq_true hrun)))
  have hrole : v.role = s.role :=
    (State.rd_wr_apart _ FLT_STAT_ALIVE _ _ (by decide)).trans ((State.rd_wr_apart _ FLT_STAT_FATAL_EV _ _ (by decide)).trans
      (s.fltFollow_onlyFields.2 TOP_STAT_ROLE (by decide)))
  have hreact : u.fatalReaction = v := by
    have hpassive : ¬ v.isActive = true := by simpa only [State.isActive, hrole, Bool.not_eq_true] using hactive
    exact (if_neg (by rw [hphase]; decide)).trans (if_neg hpassive)
  have hsettle : s.fltSettle = v.irqUpdate := by
    simp only [State.fltSettle, if_pos (And.intro hstate hwas)]
    exact congrArg State.irqUpdate hreact
  have hkeep : s.keepsBut v [FLT_STAT_STATE, FLT_STAT_QUIETING, FLT_STAT_FATAL_EV, FLT_STAT_ALIVE] := by
    have hevent := State.keepsBut_wr (f := FLT_STAT_FATAL_EV) (v := 1)
      (State.keepsBut_mono s.fltFollow_onlyFields.2 (gs := [FLT_STAT_STATE, FLT_STAT_QUIETING, FLT_STAT_FATAL_EV, FLT_STAT_ALIVE])
        (by simp)) (by simp)
    exact State.keepsBut_wr (t := u) hevent (by simp)
  rw [hsettle]
  refine ⟨⟨?_, fun g hg => (State.irqUpdate_rd _ g).trans (hkeep g hg), fun a ha => ?_, State.irqUpdate_cells _,
    State.irqUpdate_mem _⟩, ?_, ?_⟩
  · rw [State.irqUpdate_rd, State.rd_wr_apart _ _ _ _ (by decide)]
    exact (State.rd_wr_apart _ FLT_STAT_FATAL_EV _ _ (by decide)).trans hstate
  · rw [State.irqUpdate_rdW]
    exact (State.rdW_wr_ne _ FLT_STAT_ALIVE _ ha).trans ((State.rdW_wr_ne _ FLT_STAT_FATAL_EV _ ha).trans (s.fltFollow_rdW ha))
  · rw [State.irqUpdate_rd, State.rd_wr_apart _ _ _ _ (by decide)]
    exact State.rd_wr_same _ FLT_STAT_FATAL_EV _ (by decide)
  · rw [State.irqUpdate_rd]
    exact State.rd_wr_same _ FLT_STAT_ALIVE _ (by decide)

end Sys2Proof.Machine
end

section
/-! What the commands of the fault unit leave (R485 to R499, R503): a raise in its record, a record that moves up, an acknowledge, the end of
the quiet period, and a Skerry's latches. -/

namespace Sys2Proof.Machine
open Sys2Proof

/-! ### A raise is counted -/

/-- The numbers of the sources lie below 768 (R486). -/
theorem isSource_lt {id : Nat} (h : isSource id = true) : id < 768 := by
  have hlisted : ∀ l ∈ [srcUncorrected, srcFatal, srcCorrectedLatched, srcCorrectedUnlatched], ∀ i ∈ l, i < 768 := by decide
  simp only [isSource, Bool.or_eq_true, Bool.and_eq_true, decide_eq_true_eq, List.contains_iff_mem] at h
  obtain (((⟨⟨⟨hblock, -⟩, -⟩, -⟩ | h) | h) | h) | h := h
  · omega
  all_goals exact hlisted _ (by simp) id h

/-- A word that counts the raises of source `id`. -/
abbrev CountWord (id a : Nat) : Prop := a = A_FLT_BLK_CAUSE (id / 32) ∨ a = A_FLT_CNT id

/-- A raise sets its bit in its block's causes, and counts (R487, R500). -/
theorem State.countRaise_spec (s : State) {r : Raise} (hid : r.id < 768) : s.WritesIn (CountWord r.id) (s.countRaise r) ∧
    (s.countRaise r).flt = s.flt ∧ (s.countRaise r).rd (FLT_CNT r.id) = min (s.rd (FLT_CNT r.id) + 1) (2 ^ 16 - 1) ∧
    bitOf ((s.countRaise r).rd (FLT_BLK_CAUSE (r.id / 32))) (r.id % 32) = true := by
  have happart : A_FLT_BLK_CAUSE (r.id / 32) ≠ A_FLT_CNT r.id := by simp only [A_FLT_BLK_CAUSE, A_FLT_CNT]; omega
  set w := bitsPut (s.rdW (A_FLT_BLK_CAUSE (r.id / 32))) (r.id % 32) 1 1 with hw
  have hcount : s.countRaise r = (s.wrW (A_FLT_BLK_CAUSE (r.id / 32)) w).inc (FLT_CNT r.id) := rfl
  have hcause : (s.countRaise r).rdW (A_FLT_BLK_CAUSE (r.id / 32)) = w := by
    rw [hcount, State.inc, State.cnt, State.rdW_wr_ne _ _ _ happart.symm, State.rdW_wrW_same]
  refine ⟨((State.WritesIn.refl _ s).wrW _ (.inl rfl)).wr (f := FLT_CNT r.id) _ (.inr rfl), rfl, ?_, ?_⟩
  · rw [hcount, State.inc, State.rd_cnt_same _ _ _ (by simp only [FLT_CNT]; decide), State.rd_wrW_ne _ _ _ happart]
    rfl
  · rw [State.rd, FLT_BLK_CAUSE, hcause, bitOf_eq_testBit, testBit_bitsOf, hw, getLsbD_bitsPut _ _ _ _ _ (by dsimp only; omega)]
    simp [Nat.mod_lt]

/-- A raise counted, and seen by the recorder's FAULT engines (R437, R487). -/
def State.noteRaise (s : State) (r : Raise) : State := (s.countRaise r).recFault (0 ||| 2 ^ (s.countRaise r).srcClass r.id)

/-- The words that a raise of source `id` writes before its record is filled. -/
abbrev NoteWord (id a : Nat) : Prop := RouteWord a ∨ CountWord id a

/-- The words up to DMA lie below the fault unit's. -/
theorem not_routeWord {a : Nat} (h : A_FLT_CTRL ≤ a) : ¬ RouteWord a := fun hroute => absurd hroute.2 (Nat.not_lt.mpr h)

theorem State.noteRaise_spec (s : State) {r : Raise} (hid : r.id < 768) : s.WritesIn (NoteWord r.id) (s.noteRaise r) ∧
    (s.noteRaise r).flt = s.flt ∧ (s.noteRaise r).rd (FLT_CNT r.id) = min (s.rd (FLT_CNT r.id) + 1) (2 ^ 16 - 1) ∧
    bitOf ((s.noteRaise r).rd (FLT_BLK_CAUSE (r.id / 32))) (r.id % 32) = true := by
  obtain ⟨hwrites, hflt, hcnt, hcause⟩ := s.countRaise_spec hid
  have hrec := (s.countRaise r).recFault_routed (0 ||| 2 ^ (s.countRaise r).srcClass r.id)
  refine ⟨(hwrites.mono fun _ => .inr).trans (hrec.toWritesIn.mono fun _ => .inl), hrec.flt.trans hflt, ?_, ?_⟩
  · exact (hrec.rd (not_routeWord (by simp only [FLT_CNT, A_FLT_CNT, A_FLT_CTRL]; omega))).trans hcnt
  · rw [State.noteRaise, hrec.rd (not_routeWord (by simp only [FLT_BLK_CAUSE, A_FLT_BLK_CAUSE, A_FLT_CTRL]; omega))]
    exact hcause

/-! ### A raise in a free record -/

/-- A raise as it goes to its record, of its source's own class. -/
def Raise.fault (r : Raise) : FaultIn := ⟨r.id, r.info, r.ct, r.edge, 0⟩

theorem State.faultsOf_single {s : State} {r : Raise} (hlatched : s.srcLatched r.id = true) (k : Nat) :
    s.faultsOf [r] k = if s.srcClass r.id = k then [r.fault] else [] := by
  by_cases hclass : s.srcClass r.id = k <;> simp [State.faultsOf, hlatched, hclass, Raise.fault]

theorem State.judgeClass_nil (s : State) (k : Nat) : s.judgeClass k [] = (s, []) := rfl

/-- A fault whose record is free fills it, unless the record's timer moved it up on this edge (R488, R494). -/
theorem State.judgeClass_of_free {s : State} {k : Nat} {f : FaultIn} (hfree : s.recValid k = false)
    (hmoved : k < 2 → tget (fun _ => 0) s.flt.moved k ≠ f.edge + 2) :
    ∃ q, s.judgeClass k [f] = (((s.setFlt q).fillRec k f false).fireRoute 0x40, []) := by
  have hquiet : ∃ q, (if k ≥ 1 then s.quietRestart (f.edge + 1) else s) = s.setFlt q ∧ q.moved = s.flt.moved := by
    split
    · exact ⟨_, rfl, rfl⟩
    · exact ⟨s.flt, rfl, rfl⟩
  obtain ⟨q, hquiet, hq⟩ := hquiet
  have hstill : ¬ (tget (fun _ => 0) (s.setFlt q).flt.moved k = f.edge + 2 ∧ k < 2) := fun h => hmoved h.2 (hq ▸ h.1)
  have hfree' : (s.setFlt q).recValid k = false := hfree
  refine ⟨q, ?_⟩
  simp only [State.judgeClass, lowerId, hquiet, if_neg hstill, hfree', Bool.not_false, if_true, List.length_singleton,
    gt_iff_lt, Nat.lt_irrefl, decide_false]

/-- One latched raise whose record is free is what fills it (R488, R489). -/
theorem State.judgeEdge_single {s : State} {r : Raise} {c : Nat} (hc : c < 3) (hlatched : (s.noteRaise r).srcLatched r.id = true)
    (hclass : (s.noteRaise r).srcClass r.id = c) (hfree : (s.noteRaise r).recValid c = false)
    (hmoved : c < 2 → tget (fun _ => 0) (s.noteRaise r).flt.moved c ≠ r.edge + 2) :
    ∃ q, s.judgeEdge [r] = (((s.noteRaise r).setFlt q).fillRec c r.fault false).fireRoute 0x40 := by
  obtain ⟨q, hfill⟩ := State.judgeClass_of_free (f := r.fault) hfree hmoved
  have hfaults := State.faultsOf_single hlatched
  have hjudge : s.judgeEdge [r] = (let t := s.noteRaise r
      let low := t.judgeClass 0 (t.faultsOf [r] 0)
      let mid := low.1.judgeClass 1 (t.faultsOf [r] 1 ++ low.2)
      (mid.1.judgeClass 2 (t.faultsOf [r] 2 ++ mid.2)).1) := rfl
  refine ⟨q, ?_⟩
  simp only [hjudge, hfaults, hclass]
  obtain rfl | rfl | rfl : c = 0 ∨ c = 1 ∨ c = 2 := by omega
  all_goals simp [hfill, State.judgeClass_nil]

/-- The words that a raise of source `id` in record c writes. -/
abbrev RaiseWord (id c a : Nat) : Prop := NoteWord id a ∨ RecWord c a

/-- `t` is `s` with raise `r` counted and stored in record c. -/
structure State.Recorded (s : State) (r : Raise) (c : Nat) (t : State) : Prop where
  writes : s.WritesIn (RaiseWord r.id c) t
  valid : t.rd (FLT_REC0_VALID c) = 1
  source : t.rd (FLT_REC0_ID c) = r.id
  info : t.rd (FLT_REC1 c) = r.info % 2 ^ 32
  count : t.rd (FLT_CNT r.id) = min (s.rd (FLT_CNT r.id) + 1) (2 ^ 16 - 1)
  cause : bitOf (t.rd (FLT_BLK_CAUSE (r.id / 32))) (r.id % 32) = true

/-- The fault unit takes a latched raise, the only one, into the free record of its class (R487 to R489). -/
theorem execFaultRaise_single {s : State} {r : Raise} {c : Nat} (hraised : s.flt.raised = [r]) (hid : r.id < 768) (hc : c < 3)
    (hlatched : s.srcLatched r.id = true) (hclass : s.srcClass r.id = c) (hfree : s.recValid c = false)
    (hmoved : c < 2 → tget (fun _ => 0) s.flt.moved c ≠ r.edge + 2) :
    ∃ t, execFaultRaise [] s = .next t.fltSettle ∧ s.Recorded r c t := by
  set u := s.setFlt { s.flt with raised := [] } with hu
  have hexec : execFaultRaise [] s = .next (u.judgeEdge [r]).fltSettle := by
    simp [execFaultRaise, hraised, firstEdge, hu, State.setFlt]
  obtain ⟨hnote, hflt, hcnt, hcause⟩ := u.noteRaise_spec hid
  have hsource : ∀ f : Fld, f.addr = A_FLT_CLASS r.id → (u.noteRaise r).rd f = s.rd f := fun f hf => hnote.rd (by
    simp only [hf, NoteWord, RouteWord, CountWord, A_FLT_CLASS, A_FLT_BLK_CAUSE, A_FLT_CNT, A_FLT_CTRL]; omega)
  have hclass' : (u.noteRaise r).srcClass r.id = s.srcClass r.id := hsource _ rfl
  have hlatched' : (u.noteRaise r).srcLatched r.id = s.srcLatched r.id := by
    rw [State.srcLatched, State.srcLatched, hclass', State.on, State.on, hsource (FLT_CLASS_LATCH r.id) rfl]
  have hfree' : (u.noteRaise r).recValid c = s.recValid c := hnote.recValid (by
    simp only [NoteWord, RouteWord, CountWord, A_FLT_REC0, A_FLT_BLK_CAUSE, A_FLT_CNT, A_FLT_CTRL]; omega)
  obtain ⟨q, hjudge⟩ := State.judgeEdge_single hc (hlatched'.trans hlatched) (hclass'.trans hclass) (hfree'.trans hfree)
    (fun h => by rw [hflt]; exact hmoved h)
  set v := (u.noteRaise r).setFlt q
  have hfill := v.fillRec_writesIn c r.fault false
  obtain ⟨hvalid, hname, hinfo⟩ := v.fillRec_spec c (f := r.fault) (by simp only [Raise.fault]; omega) (by simp [Raise.fault]) false
  have hroute := (v.fillRec c r.fault false).fireRoute_routed 0x40
  have hrd : ∀ f : Fld, A_FLT_CTRL ≤ f.addr → (u.judgeEdge [r]).rd f = (v.fillRec c r.fault false).rd f := fun f hf => by
    rw [hjudge]; exact hroute.rd (not_routeWord hf)
  have hcounted : ∀ f : Fld, A_FLT_REC0 3 ≤ f.addr → (u.judgeEdge [r]).rd f = (u.noteRaise r).rd f := fun f hf =>
    (hrd f (Nat.le_trans (by decide) hf)).trans (hfill.rd (by simp only [RecWord, A_FLT_REC0] at *; omega))
  refine ⟨_, hexec, ?writes, ?valid, ?source, ?info, ?count, ?cause⟩
  case writes =>
    have hnoted : s.WritesIn (NoteWord r.id) v := (((State.WritesIn.refl _ s).setFlt _).trans hnote).setFlt q
    rw [hjudge]
    exact ((hnoted.mono fun _ => .inl).trans (hfill.mono fun _ => .inr)).trans (hroute.toWritesIn.mono fun _ h => .inl (.inl h))
  case valid => exact (hrd _ (by simp only [FLT_REC0_VALID, A_FLT_REC0, A_FLT_CTRL]; omega)).trans hvalid
  case source => exact (hrd _ (by simp only [FLT_REC0_ID, A_FLT_REC0, A_FLT_CTRL]; omega)).trans hname
  case info => exact (hrd _ (by simp only [FLT_REC1, A_FLT_REC1, A_FLT_CTRL]; omega)).trans hinfo
  case count => exact (hcounted _ (by simp only [FLT_CNT, A_FLT_CNT, A_FLT_REC0]; omega)).trans hcnt
  case cause =>
    rw [hcounted _ (by simp only [FLT_BLK_CAUSE, A_FLT_BLK_CAUSE, A_FLT_REC0]; omega)]
    exact hcause

/-- A record other than c is as it was. -/
theorem State.Recorded.recValid {s t : State} {r : Raise} {c : Nat} (h : s.Recorded r c t) {k : Nat} (hk : k < 3) (hne : k ≠ c) :
    t.recValid k = s.recValid k :=
  h.writes.recValid (by
    simp only [RaiseWord, NoteWord, RouteWord, CountWord, RecWord, A_FLT_REC0, A_FLT_BLK_CAUSE, A_FLT_CNT, A_FLT_CTRL]; omega)

/-- A word below LOOP is as it was, and so is FLT_STAT. -/
theorem State.Recorded.rd {s t : State} {r : Raise} {c : Nat} (h : s.Recorded r c t) {f : Fld}
    (hf : f.addr < A_LOOP_CTRL ∨ f.addr = A_FLT_STAT) : t.rd f = s.rd f :=
  h.writes.rd (by
    simp only [RaiseWord, NoteWord, RouteWord, CountWord, RecWord, A_FLT_REC0, A_FLT_BLK_CAUSE, A_FLT_CNT, A_FLT_CTRL,
      A_LOOP_CTRL, A_FLT_STAT] at *
    omega)

end Sys2Proof.Machine
end

section
/-! The statement about the fault unit: a record that moves up, the quiet period, and a Skerry's latches (R491, R493, R497, R499, R503). -/

namespace Sys2Proof.Machine
open Sys2Proof

/-! ### A record moves up -/

/-- The first word of a record that its timer moves up: ESC, with ESC_CAUSE 2 (R491). -/
def escalated (w : Word) : Word := bitsPut (bitsPut w 10 1 1) 11 2 2

theorem escalated_spec (w : Word) : bitsOf (escalated w) 10 1 = 1 ∧ bitsOf (escalated w) 11 2 = 2 ∧
    bitsOf (escalated w) 0 10 = bitsOf w 0 10 ∧ bitsOf (escalated w) 31 1 = bitsOf w 31 1 := by
  have hapart := fun lo n (h : 11 + 2 ≤ lo ∨ lo + n ≤ 11) => bitsOf_bitsPut_apart (bitsPut w 10 1 1) 11 2 2 lo n h
  refine ⟨(hapart 10 1 (by decide)).trans (bitsOf_bitsPut_same w 10 1 1 (by decide)), bitsOf_bitsPut_same _ 11 2 2 (by decide),
    (hapart 0 10 (by decide)).trans (bitsOf_bitsPut_apart w 10 1 1 0 10 (by decide)),
    (hapart 31 1 (by decide)).trans (bitsOf_bitsPut_apart w 10 1 1 31 1 (by decide))⟩

/-- Record k in the words of record k + 1, as escalated (R491). -/
def State.movedUp (s : State) (k : Nat) : State :=
  s.storeRec (k + 1) (escalated (s.rdW (A_FLT_REC0 k))) (s.rd (FLT_REC1 k)) (s.rd (FLT_REC2 k)) (s.rd (FLT_REC3 k))

/-- Record k is filled on this edge, and its timer starts (R491). -/
def State.startRec (s : State) (k : Nat) : State :=
  ({ s with flt := { s.flt with filled := tset (fun _ => 0) s.flt.filled k s.clk.count } } : State).startTimer k s.clk.count

theorem State.startRec_eq (s : State) (k : Nat) : ∃ q, s.startRec k = s.setFlt q := ⟨_, rfl⟩

/-- Record k has moved up on this edge, into a free record or not (R494, R497). -/
def State.noteMove (s : State) (k e : Nat) (fresh : Bool) : State :=
  let t := s.quietRestart e
  { t with flt := { t.flt with moved := tset (fun _ => 0) t.flt.moved k (e + 1), movedFresh := fresh } }

theorem State.noteMove_eq (s : State) (k e : Nat) (fresh : Bool) : ∃ q, s.noteMove k e fresh = s.setFlt q := ⟨_, rfl⟩

/-- What a timer that expires leaves before STATE follows: the record moves up or sets OVF, and becomes free (R491). -/
def State.timedOut (s : State) (k : Nat) : State :=
  let fresh := !(s.recValid (k + 1))
  let t := if fresh then ((s.movedUp k).startRec (k + 1)).fireRoute 0x40 else s.wr (FLT_REC0_OVF (k + 1)) 1
  (t.freeRec k).noteMove k s.clk.count fresh

theorem execReactionTimeout_of_running {s : State} {k : Nat} (hk : k < 2) (hvalid : s.recValid k = true)
    (htimer : tget (fun _ => 0) s.flt.timer k ≠ 0) : execReactionTimeout k s = .next (s.timedOut k).fltSettle := by
  unfold execReactionTimeout State.timedOut State.noteMove State.startRec State.movedUp State.storeRec escalated
  rw [if_pos ⟨hk, hvalid, htimer⟩]

theorem State.timedOut_of_free {s : State} {k : Nat} (hfree : s.recValid (k + 1) = false) :
    ∃ q r, s.timedOut k = ((((s.movedUp k).setFlt q).fireRoute 0x40).freeRec k).setFlt r := by
  obtain ⟨q, hstart⟩ := (s.movedUp k).startRec_eq (k + 1)
  obtain ⟨r, hmove⟩ := ((((s.movedUp k).setFlt q).fireRoute 0x40).freeRec k).noteMove_eq k s.clk.count true
  refine ⟨q, r, ?_⟩
  simp only [State.timedOut, hfree, Bool.not_false, if_true, hstart, hmove]

theorem execReactionTimeout_of_stopped {s : State} {k : Nat} (htimer : tget (fun _ => 0) s.flt.timer k = 0) :
    execReactionTimeout k s = .next s := if_neg fun h => h.2.2 htimer

/-- `t` is `s` with record k moved up (R491). -/
structure State.Escalated (s : State) (k : Nat) (t : State) : Prop where
  writes : s.WritesIn (fun a => RouteWord a ∨ RecWord k a ∨ RecWord (k + 1) a) t
  freed : t.recValid k = false
  valid : t.rd (FLT_REC0_VALID (k + 1)) = s.rd (FLT_REC0_VALID k)
  source : t.rd (FLT_REC0_ID (k + 1)) = s.rd (FLT_REC0_ID k)
  esc : t.rd (FLT_REC0_ESC (k + 1)) = 1
  cause : t.rd (FLT_REC0_ESC_CAUSE (k + 1)) = 2
  info : t.rd (FLT_REC1 (k + 1)) = s.rd (FLT_REC1 k)

theorem State.timedOut_escalated {s : State} {k : Nat} (hnext : s.recValid (k + 1) = false) : s.Escalated k (s.timedOut k) := by
  obtain ⟨q, r, htimed⟩ := State.timedOut_of_free hnext
  rw [htimed]
  set u := (s.movedUp k).setFlt q
  have hmoved : s.WritesIn (RecWord (k + 1)) u := (s.storeRec_writesIn _ _ _ _ _).setFlt q
  have hroute := u.fireRoute_routed 0x40
  have hfree := (u.fireRoute 0x40).freeRec_writesIn k
  obtain ⟨hword, hinfo⟩ := s.storeRec_spec (k + 1) (escalated (s.rdW (A_FLT_REC0 k))) (s.rd (FLT_REC1 k)) (s.rd (FLT_REC2 k))
    (s.rd (FLT_REC3 k))
  obtain ⟨hesc, hcause, hsource, hvalid⟩ := escalated_spec (s.rdW (A_FLT_REC0 k))
  have hkept : ∀ a, RecWord (k + 1) a → (((u.fireRoute 0x40).freeRec k).setFlt r).rdW a = (s.movedUp k).rdW a := fun a ha => by
    rw [State.setFlt_rdW, hfree.word a (by simp only [RecWord, A_FLT_REC0] at *; omega),
      hroute.word a (not_routeWord (by simp only [RecWord, A_FLT_REC0, A_FLT_CTRL] at *; omega)), State.setFlt_rdW]
  obtain ⟨h0, h1, -, -⟩ := recWord_rec (k + 1)
  have hword' := (hkept _ h0).trans hword
  refine ⟨?writes, (State.setFlt_recValid ..).trans (State.recValid_freeRec_same _ k), ?valid, ?source, ?esc, ?cause, ?info⟩
  case writes =>
    exact (((hmoved.mono fun _ h => .inr (.inr h)).trans (hroute.toWritesIn.mono fun _ => .inl)).trans
      (hfree.mono fun _ h => .inr (.inl h))).setFlt r
  case valid => rw [State.rd, FLT_REC0_VALID, hword']; exact hvalid
  case source => rw [State.rd, FLT_REC0_ID, hword']; exact hsource
  case esc => rw [State.rd, FLT_REC0_ESC, hword']; exact hesc
  case cause => rw [State.rd, FLT_REC0_ESC_CAUSE, hword']; exact hcause
  case info => exact (State.rd_congr (f := FLT_REC1 (k + 1)) (hkept _ h1)).trans (hinfo.trans (Nat.mod_eq_of_lt (s.rd_lt _)))

/-! ### The end of the quiet period -/

/-- FLT_PREV shows the words of record 2 (R497). -/
def State.prevShown (s : State) : State := (List.range 4).foldl (fun t j => t.wrW (A_FLT_PREV j) (s.rdW (A_FLT_REC0 2 + 4 * j))) s

theorem State.prevShown_writesIn (s : State) : s.WritesIn (fun a => A_FLT_PREV 0 ≤ a ∧ a < A_FLT_PREV 4) s.prevShown :=
  .foldl_mem (fun t j hj => (State.WritesIn.refl _ t).wrW _ (by
    have := List.mem_range.mp hj
    simp only [A_FLT_PREV]; omega)) s

theorem State.prevShown_rdW (s : State) {j : Nat} (hj : j < 4) : s.prevShown.rdW (A_FLT_PREV j) = s.rdW (A_FLT_REC0 2 + 4 * j) := by
  have happart : ∀ i, i ≠ j → A_FLT_PREV i ≠ A_FLT_PREV j := fun i hi => by simp only [A_FLT_PREV]; omega
  have hfold : s.prevShown = (((s.wrW (A_FLT_PREV 0) (s.rdW (A_FLT_REC0 2 + 4 * 0))).wrW (A_FLT_PREV 1) (s.rdW (A_FLT_REC0 2 + 4 * 1))).wrW
      (A_FLT_PREV 2) (s.rdW (A_FLT_REC0 2 + 4 * 2))).wrW (A_FLT_PREV 3) (s.rdW (A_FLT_REC0 2 + 4 * 3)) := rfl
  rw [hfold]
  interval_cases j <;> simp [State.rdW_wrW_ne, happart]

/-- Record 2 becomes free, and the recovery is counted (R497). -/
def State.recovered (s : State) : State := ((s.prevShown.freeRec 2).inc FLT_RECOVER_CNT).wr FLT_STAT_RECOVERED_EV 1

/-- The end of the quiet period leaves FATAL, unless a raise restarts the period (R494, R497). -/
theorem execQuietExpire_of_quiet {s : State} (hquiet : s.rd FLT_STAT_QUIETING = 1) (hnone : ∀ r ∈ s.flt.raised, s.srcClass r.id = 0) :
    ∃ q, execQuietExpire s = .next (s.recovered.setFlt q).fltSettle := by
  have htimer : ∃ q, (if s.recovered.recValid 1 then s.recovered.startTimer 1 s.recovered.clk.count else s.recovered) =
      s.recovered.setFlt q := by
    split
    · exact State.startTimer_eq _ _ _
    · exact ⟨s.recovered.flt, rfl⟩
  obtain ⟨q, htimer⟩ := htimer
  refine ⟨q, (if_pos ⟨by simp [State.on, hquiet], by simpa using hnone⟩).trans ?_⟩
  exact congrArg (fun t : State => Host.Outcome.next t.fltSettle) htimer

theorem execQuietExpire_of_busy {s : State} (h : s.rd FLT_STAT_QUIETING = 0) : execQuietExpire s = .next s :=
  if_neg fun hquiet => by simp [State.on, h] at hquiet

theorem State.recovered_spec (s : State) : (∀ j, j < 4 → s.recovered.rdW (A_FLT_PREV j) = s.rdW (A_FLT_REC0 2 + 4 * j)) ∧
    s.recovered.recValid 2 = false ∧ s.recovered.recValid 1 = s.recValid 1 ∧
    s.recovered.rd FLT_RECOVER_CNT = min (s.rd FLT_RECOVER_CNT + 1) (2 ^ 16 - 1) ∧ s.recovered.rd FLT_STAT_RECOVERED_EV = 1 ∧
    s.recovered.cells = s.cells ∧ s.recovered.mem = s.mem := by
  have hprev := s.prevShown_writesIn
  have hfree := s.prevShown.freeRec_writesIn 2
  have hkept : ∀ a, A_FLT_STAT ≠ a → A_FLT_RECOVER_CNT ≠ a → s.recovered.rdW a = (s.prevShown.freeRec 2).rdW a := fun a hstat hcnt =>
    (State.rdW_wr_ne _ FLT_STAT_RECOVERED_EV _ hstat).trans (State.rdW_wr_ne _ FLT_RECOVER_CNT _ hcnt)
  have hvalid : ∀ k, s.recovered.recValid k = (s.prevShown.freeRec 2).recValid k := fun k => by
    rw [State.recValid, State.recValid, State.on, State.on, State.rd_congr (f := FLT_REC0_VALID k) (hkept _
      (by simp only [FLT_REC0_VALID, A_FLT_STAT, A_FLT_REC0]; omega) (by simp only [FLT_REC0_VALID, A_FLT_RECOVER_CNT, A_FLT_REC0]; omega))]
  refine ⟨fun j hj => ?_, (hvalid 2).trans (State.recValid_freeRec_same _ 2), ?_, ?_, State.rd_wr_same _ _ _ (by decide),
    hfree.cells.trans hprev.cells, hfree.mem.trans hprev.mem⟩
  · rw [hkept _ (by simp only [A_FLT_STAT, A_FLT_PREV]; omega) (by simp only [A_FLT_RECOVER_CNT, A_FLT_PREV]; omega),
      hfree.word _ (by simp only [RecWord, A_FLT_REC0, A_FLT_PREV]; omega), s.prevShown_rdW hj]
  · rw [hvalid, hfree.recValid (by decide), hprev.recValid (by decide)]
  · rw [State.recovered, State.rd_wr_apart _ _ _ _ (by decide), State.inc, State.rd_cnt_same _ _ _ (by decide),
      hfree.rd (by decide), hprev.rd (by decide)]
    rfl

/-! ### A Skerry's latches -/

/-- Whether the condition that clears latch bit b holds; `still` lists the inputs still asserted (R503). -/
def Skerry.latchClears (k : Skerry) (still : List Nat) (b : Nat) : Bool :=
  if b = 0 then !(k.latchedInputs.any (fun c => still.contains c)) else if b = 1 then k.gsAll else decide (b ≠ 5)

/-- The latch bits that a write of `mask` asks to clear, and those of them that clear (R503). -/
def Skerry.latchesAsked (k : Skerry) (mask : Nat) : List Nat :=
  (List.range 6).filter (fun b => bitOf (k.rd SK_FLT_LATCH_LATCH) b && bitOf mask b)

def Skerry.latchesGone (k : Skerry) (mask : Nat) (still : List Nat) : List Nat := (k.latchesAsked mask).filter (k.latchClears still)

/-- Clearing bits one after another leaves the other bits. -/
theorem testBit_foldl_clear {b : Nat} (hb : b < 6) (bs : List Nat) : ∀ m : Nat,
    (bs.foldl (fun m b => m &&& (63 ^^^ 2 ^ b)) m).testBit b = (m.testBit b && !decide (b ∈ bs)) := by
  have hall : Nat.testBit 63 b = true := (Nat.testBit_two_pow_sub_one 6 b).trans (decide_eq_true hb)
  induction bs with
  | nil => simp
  | cons c bs ih =>
    intro m
    rw [List.foldl_cons, ih, Nat.testBit_and, Nat.testBit_xor, hall, Nat.testBit_two_pow]
    by_cases hc : b = c
    · simp [hc]
    · simp [hc, Ne.symm hc]

theorem foldl_clear_le (bs : List Nat) : ∀ m : Nat, bs.foldl (fun m b => m &&& (63 ^^^ 2 ^ b)) m ≤ m := by
  induction bs with
  | nil => exact Nat.le_refl
  | cons c bs ih => exact fun m => (ih _).trans Nat.and_le_left

/-- The latches that clear, CLR_REFUSED where one that was asked for does not, and FIRST where none is left (R503). -/
def Skerry.latchesCleared (k : Skerry) (mask : Nat) (still : List Nat) : Skerry :=
  let l := k.wr SK_FLT_LATCH_LATCH ((k.latchesGone mask still).foldl (fun m b => m &&& (63 ^^^ 2 ^ b)) (k.rd SK_FLT_LATCH_LATCH))
  let l := if (k.latchesGone mask still).length < (k.latchesAsked mask).length then l.wr SK_FLT_LATCH_CLR_REFUSED 1 else l
  if l.rd SK_FLT_LATCH_LATCH = 0 then l.wr SK_FLT_FIRST_BIT 15 else l

theorem Skerry.clearLatches_eq (k : Skerry) (mask : Nat) (still : List Nat) :
    k.clearLatches mask still = (k.latchesCleared mask still).heal := rfl

theorem Skerry.clearLatches_onlyFields (k : Skerry) (mask : Nat) (still : List Nat) : k.onlyFields (k.clearLatches mask still)
    [SK_FLT_LATCH_LATCH, SK_FLT_LATCH_CLR_REFUSED, SK_FLT_FIRST_BIT, SK_TOP_STAT_HEALTH, SK_TOP_STAT_FAULT] := by
  rw [Skerry.clearLatches_eq]
  refine Skerry.onlyFields_heal ?_ (by simp) (by simp)
  have hlatch := Skerry.onlyFields_wr (v := (k.latchesGone mask still).foldl (fun m b => m &&& (63 ^^^ 2 ^ b)) (k.rd SK_FLT_LATCH_LATCH))
    (f := SK_FLT_LATCH_LATCH) (k.onlyFields_refl [SK_FLT_LATCH_LATCH, SK_FLT_LATCH_CLR_REFUSED, SK_FLT_FIRST_BIT, SK_TOP_STAT_HEALTH,
      SK_TOP_STAT_FAULT]) (by simp)
  have hrefused := Skerry.onlyFields_ite (c := (k.latchesGone mask still).length < (k.latchesAsked mask).length)
    (Skerry.onlyFields_wr (f := SK_FLT_LATCH_CLR_REFUSED) (v := 1) hlatch (by simp)) hlatch
  exact Skerry.onlyFields_ite (Skerry.onlyFields_wr hrefused (by simp)) hrefused

/-- A latch bit goes where it is asked for and its condition holds (R503). -/
theorem Skerry.clearLatches_bit (k : Skerry) (mask : Nat) (still : List Nat) {b : Nat} (hb : b < 6) :
    bitOf ((k.clearLatches mask still).rd SK_FLT_LATCH_LATCH) b =
      (bitOf (k.rd SK_FLT_LATCH_LATCH) b && !(bitOf mask b && k.latchClears still b)) := by
  set w := (k.latchesGone mask still).foldl (fun m b => m &&& (63 ^^^ 2 ^ b)) (k.rd SK_FLT_LATCH_LATCH) with hw
  have hlt : w < 2 ^ 6 := Nat.lt_of_le_of_lt (foldl_clear_le _ _) (k.rd_lt SK_FLT_LATCH_LATCH)
  have hrefused : ∀ c : Prop, [Decidable c] → (if c then (k.wr SK_FLT_LATCH_LATCH w).wr SK_FLT_LATCH_CLR_REFUSED 1 else
      k.wr SK_FLT_LATCH_LATCH w).rd SK_FLT_LATCH_LATCH = w := fun c _ => by
    have hput : (k.wr SK_FLT_LATCH_LATCH w).rd SK_FLT_LATCH_LATCH = w := (k.rd_wr_same _ w (by decide)).trans (Nat.mod_eq_of_lt hlt)
    rw [apply_ite (Skerry.rd · SK_FLT_LATCH_LATCH), Skerry.rd_wr_apart _ _ _ _ (by decide), hput, ite_self]
  have hlatch : (k.latchesCleared mask still).rd SK_FLT_LATCH_LATCH = w := by
    simp only [Skerry.latchesCleared, ← hw]
    rw [apply_ite (Skerry.rd · SK_FLT_LATCH_LATCH), Skerry.rd_wr_apart _ _ _ _ (by decide), hrefused, ite_self]
  have hmem : b ∈ k.latchesGone mask still ↔ k.latchClears still b = true ∧ bitOf (k.rd SK_FLT_LATCH_LATCH) b = true ∧
      bitOf mask b = true := by
    simp [Skerry.latchesGone, Skerry.latchesAsked, hb]
  rw [Skerry.clearLatches_eq, Skerry.heal_rd _ (by decide), hlatch, bitOf_eq_testBit, hw, testBit_foldl_clear hb, ← bitOf_eq_testBit]
  cases hlatched : bitOf (k.rd SK_FLT_LATCH_LATCH) b with
  | false => rfl
  | true => simp [hmem, hlatched, Bool.and_comm]

/-- A write to SK_FLT_LATCH clears the latches under their conditions, and CLR_REFUSED on its own bit (R503). -/
theorem Skerry.fltClear_spec (k : Skerry) (v : Nat) (still : List Nat) :
    (∀ b, 2 ≤ b → b ≤ 4 → bitOf v b = true → bitOf ((k.fltClear v still).rd SK_FLT_LATCH_LATCH) b = false) ∧
    (∀ b, b < 6 → (b = 5 ∨ bitOf v b = false) →
      bitOf ((k.fltClear v still).rd SK_FLT_LATCH_LATCH) b = bitOf (k.rd SK_FLT_LATCH_LATCH) b) ∧
    k.keepsBut (k.fltClear v still)
      [SK_FLT_LATCH_LATCH, SK_FLT_LATCH_CLR_REFUSED, SK_FLT_FIRST_BIT, SK_TOP_STAT_HEALTH, SK_TOP_STAT_FAULT] := by
  set l := if bitOf v 8 then k.wr SK_FLT_LATCH_CLR_REFUSED 0 else k with hl
  have hclear : k.fltClear v still = l.clearLatches (v % 64) still := rfl
  have hkeep : k.keepsBut l [SK_FLT_LATCH_CLR_REFUSED] := by
    rw [hl]
    split
    · exact k.wr_keepsBut _ 0
    · exact k.keepsBut_refl _
  have hmask : ∀ b < 6, bitOf (v % 64) b = bitOf v b := fun b hb => by
    rw [bitOf_eq_testBit, bitOf_eq_testBit, show 64 = 2 ^ 6 from rfl, Nat.testBit_mod_two_pow, decide_eq_true hb, Bool.true_and]
  have hbit := fun b hb => l.clearLatches_bit (v % 64) still (b := b) hb
  rw [hclear]
  refine ⟨fun b hlo hhi hv => ?_, fun b hb hv => ?_, fun f hf => ?_⟩
  · have hclears : l.latchClears still b = true := by
      rw [Skerry.latchClears, if_neg (by omega), if_neg (by omega), decide_eq_true (by omega)]
    rw [hbit b (by omega), hmask b (by omega), hv, hclears]
    exact Bool.and_false _
  · have hkept : (bitOf v b && l.latchClears still b) = false := by
      rcases hv with rfl | hv
      · exact Bool.and_false _
      · rw [hv]; rfl
    rw [hbit b hb, hmask b hb, hkept, hkeep SK_FLT_LATCH_LATCH (by decide), Bool.not_false, Bool.and_true]
  · exact ((l.clearLatches_onlyFields _ still).2 f hf).trans (hkeep f fun e he => hf e (by
      rw [List.mem_singleton.mp he]; simp))

/-! ### The statement -/

/-- Settles O51: each command is one operation on the records, after which STATE follows them, or it is a raise or a write of ALIVE. -/
theorem faultUnit : Obligations.FaultUnit := by
  refine ⟨fun id info ct edge s hraised hsource hclass hlatch h0 h1 h2 hmoved => ?corrected,
    fun id info ct edge s hraised hsource hclass h2 hwas hrun hactive => ?fatal, fun s h0 htimer h1 h2 => ?timeout,
    fun k s htimer => ?noTimer, fun p k s hk h2 => ?ack, fun p s hfresh => ?ackFatal, fun s hquiet hnone => ?quiet,
    fun s hquiet => ?noQuiet, fun v s hfresh => ?software, fun s hrun hstate href => ?toggle, fun s hlow => ?low,
    fun g v still s hrun => ?skerry⟩
  case corrected =>
    have hlatched : s.srcLatched id = true := by rw [State.srcLatched, hlatch, Bool.or_true]
    obtain ⟨t, hexec, hrec⟩ := execFaultRaise_single hraised (isSource_lt hsource) (by decide) hlatched hclass h0 (fun _ => hmoved)
    have hsettled := State.fltSettle_of_contained ((hrec.recValid (by decide) (by decide)).trans h2)
    have hrd : ∀ f : Fld, A_FLT_STAT < f.addr → t.fltSettle.rd f = t.rd f := fun f hf => hsettled.rd_of_ne (Nat.ne_of_lt hf)
    refine ⟨_, hexec, (hrd _ (by decide)).trans hrec.valid, (hrd _ (by decide)).trans hrec.source, (hrd _ (by decide)).trans hrec.info,
      (hrd _ ?_).trans hrec.count, ?_, ?_, hsettled.cells.trans hrec.writes.cells⟩
    · simp only [FLT_CNT, A_FLT_CNT, A_FLT_STAT]; omega
    · rw [hrd _ (by simp only [FLT_BLK_CAUSE, A_FLT_BLK_CAUSE, A_FLT_STAT]; omega)]
      exact hrec.cause
    · rw [hsettled.state, hrec.recValid (by decide) (by decide), h1]
      rfl
  case fatal =>
    have hlatched : s.srcLatched id = true := by simp [State.srcLatched, hclass]
    obtain ⟨t, hexec, hrec⟩ := execFaultRaise_single hraised (isSource_lt hsource) (by decide) hlatched hclass h2
      (fun h => absurd h (by decide))
    have hphase : t.phase = s.phase := hrec.rd (.inl (by decide))
    have hrole : t.role = s.role := hrec.rd (.inl (by decide))
    obtain ⟨hsettled, hevent, halive⟩ := State.fltSettle_of_fatal (State.recValid_eq_true.mpr hrec.valid)
      (by rw [hrec.rd (.inr rfl)]; exact hwas) (by rw [State.inRun, hphase]; exact hrun) (by rw [State.isActive, hrole]; exact hactive)
    exact ⟨_, hexec, (hsettled.rd_of_ne (by decide)).trans hrec.valid, (hsettled.rd_of_ne (by decide)).trans hrec.source,
      hsettled.state, hevent, halive, hsettled.cells.trans hrec.writes.cells⟩
  case timeout =>
    have hesc := State.timedOut_escalated (k := 0) h1
    have hvalid := State.recValid_eq_true.mpr (hesc.valid.trans (State.recValid_eq_true.mp h0))
    have hsettled := State.fltSettle_of_contained ((hesc.writes.recValid (k := 2) (by decide)).trans h2)
    rw [hvalid] at hsettled
    exact ⟨_, execReactionTimeout_of_running (by decide) h0 htimer, (hsettled.recValid 0).trans hesc.freed, (hsettled.recValid 1).trans hvalid,
      (hsettled.rd_of_ne (by decide)).trans hesc.source, (hsettled.rd_of_ne (by decide)).trans hesc.esc,
      (hsettled.rd_of_ne (by decide)).trans hesc.cause, (hsettled.rd_of_ne (by decide)).trans hesc.info, hsettled.state,
      hsettled.cells.trans hesc.writes.cells⟩
  case noTimer => exact ⟨_, execReactionTimeout_of_stopped htimer, rfl⟩
  case ack =>
    have hfree := s.freeRec_writesIn k
    have hother : ∀ j, j ≠ k → (s.freeRec k).recValid j = s.recValid j := fun j hj => hfree.recValid (not_recWord hj)
    have hsettled := State.fltSettle_of_contained ((hother 2 (by omega)).trans h2)
    refine ⟨_, if_pos hk, (hsettled.recValid k).trans (s.recValid_freeRec_same k), fun j _ hj => (hsettled.recValid j).trans (hother j hj),
      hsettled.state.trans ?_, hsettled.cells.trans hfree.cells, hsettled.mem.trans hfree.mem⟩
    obtain rfl | rfl : k = 0 ∨ k = 1 := by omega
    · rw [hother 1 (by decide)]
      simp [b2n]
    · rw [s.recValid_freeRec_same 1]
      rfl
  case ackFatal => exact ⟨_, rfl, State.range_of_fresh hfresh p (A_FLT_REC0 2)⟩
  case quiet =>
    obtain ⟨q, hexec⟩ := execQuietExpire_of_quiet hquiet hnone
    obtain ⟨hprev, hfreed, hkept, hcnt, hevent, hcells, hmem⟩ := s.recovered_spec
    have hsettled : (s.recovered.setFlt q).Settled (b2n (s.recovered.recValid 1)) [FLT_STAT_STATE, FLT_STAT_QUIETING] _ :=
      State.fltSettle_of_contained (s := s.recovered.setFlt q) hfreed
    rw [hkept] at hsettled
    exact ⟨_, hexec, fun j hj => (hsettled.word _ (by simp only [A_FLT_STAT, A_FLT_PREV]; omega)).trans (hprev j hj),
      (hsettled.recValid 2).trans hfreed, (hsettled.rd_of_ne (by decide)).trans hcnt, (hsettled.rd _ (by decide)).trans hevent,
      hsettled.state, hsettled.cells.trans hcells, hsettled.mem.trans hmem⟩
  case noQuiet => exact ⟨_, execQuietExpire_of_busy hquiet, rfl⟩
  case software =>
    have hunit : bitsOf v 0 3 = v.toNat % 8 := rfl
    have hdata : bitsOf v 8 24 = v.toNat / 256 := by
      have hlt := v.isLt
      rw [bitsOf, Nat.shiftRight_eq_div_pow, Nat.mod_eq_of_lt (by omega)]
    refine ⟨_, rfl, s.raise_frame _ _, ?_⟩
    rw [hunit, hdata]
    exact State.raisedAs_raise hfresh rfl rfl _ _
  case toggle =>
    refine ⟨_, if_pos ⟨hrun, hstate, href⟩, ?_, s.wr_onlyFields FLT_STAT_ALIVE _⟩
    exact s.rd_wr_of_lt (by decide) (Nat.lt_of_le_of_lt (Nat.sub_le 1 _) (by decide))
  case low =>
    refine ⟨_, if_neg ?_, s.rd_wr_same FLT_STAT_ALIVE 0 (by decide), s.wr_onlyFields FLT_STAT_ALIVE 0⟩
    rintro ⟨hrun, hstate, href⟩
    simp [hrun, hstate, href] at hlow
  case skerry =>
    obtain ⟨hgone, hkept, hkeep⟩ := (s.cell g).fltClear_spec v.toNat still
    refine State.runCell_next hrun rfl fun t ht hcell => ?_
    rw [ht]
    exact ⟨hgone, hkept, hkeep, hcell⟩

end Sys2Proof.Machine
end

section
/-! The profile generator (R563 to R567, R571, R573, R575, R577, R579): a servo period by its acts, a command that waits or is taken, the
working limits and the angle. -/

namespace Sys2Proof.Machine
open Sys2Proof

/-! ### A whole word as a field -/

/-- A word that is written is its 32-bit field written. -/
theorem State.wrW_eq_wr (s : State) (a : Nat) (v : Word) : s.wrW a v = s.wr ⟨a, 0, 32⟩ v.toNat := by
  have hput : bitsPut (s.rdW a) 0 32 v.toNat = v := BitVec.eq_of_getLsbD_eq fun i hi => by
    rw [getLsbD_bitsPut _ _ _ _ _ hi, if_pos (by omega), Nat.sub_zero, BitVec.testBit_toNat]
  exact congrArg (s.wrW a) hput.symm

/-! ### Signed values -/

theorem satInt_satInt (n : Nat) (v : Int) : satInt n (satInt n v) = satInt n v := by
  have hpos : (0 : Int) < ((2 ^ (n - 1) : Nat) : Int) := Int.natCast_pos.mpr (Nat.two_pow_pos _)
  have hlo : ¬ satInt n v < -((2 ^ (n - 1) : Nat) : Int) := by simp only [satInt]; split_ifs <;> omega
  have hhi : ¬ satInt n v > ((2 ^ (n - 1) : Nat) : Int) - 1 := by simp only [satInt]; split_ifs <;> omega
  exact (if_neg hlo).trans (if_neg hhi)

theorem unsigned_lt (n : Nat) (v : Int) : unsigned n v < 2 ^ n := by
  have hpos : (0 : Int) < ((2 ^ n : Nat) : Int) := Int.natCast_pos.mpr (Nat.two_pow_pos n)
  exact (Int.toNat_lt (Int.emod_nonneg _ hpos.ne')).mpr (Int.emod_lt_of_pos _ hpos)

/-- A signed field reads the pattern of the saturated value that was written. -/
theorem State.rd_wrS_same (s : State) (f : Fld) (v : Int) (hf : f.lo + f.w ≤ 32) :
    (s.wrS f v).rd f = unsigned f.w (satInt f.w v) := s.rd_wr_of_lt hf (unsigned_lt _ _)

/-! ### What a servo period shows (R564, R565, R576) -/

/-- `s` with p, v, a and the phase of its plan at CT `c` published. -/
def State.published (s : State) (c : Nat) : State := (s.publish (s.prof.eval c)).showPhase c

/-- The last acts of a servo period: the publication, the profile frame of a redundant active, and the route. -/
def State.servoShown (s : State) (c : Nat) : State :=
  (if (s.published c).redundant ∧ (s.published c).isActive then (s.published c).emit (.profile ((s.published c).profFrame c))
    else s.published c).fireRoute 0x03

/-- The fields that a servo period publishes. -/
def shownFields : List Fld := [PROF_POS, PROF_SPD, PROF_ACC, PROF_STAT_PHASE, PROF_STAT_REVERSING]

theorem State.publish_onlyFields (s : State) (x : F64 × F64 × F64) : s.onlyFields (s.publish x) shownFields :=
  State.onlyFields_wrS (State.onlyFields_wrS (State.onlyFields_wrS (s.onlyFields_refl _) (by simp [shownFields])) (by simp [shownFields]))
    (by simp [shownFields])

theorem State.showPhase_onlyFields (s : State) (c : Nat) : s.onlyFields (s.showPhase c) [PROF_STAT_PHASE, PROF_STAT_REVERSING] :=
  State.onlyFields_wr (State.onlyFields_wr (s.onlyFields_refl _) (by simp)) (by simp)

theorem State.published_onlyFields (s : State) (c : Nat) : s.onlyFields (s.published c) shownFields :=
  State.onlyFields_mono (State.onlyFields_trans (s.publish_onlyFields _) (State.showPhase_onlyFields _ c)) (by simp [shownFields])

/-- The profile frame and the route keep the plan, the cells, the memory and every word outside the routes' reach. -/
theorem State.servoShown_of_published (s : State) (c : Nat) : (s.servoShown c).prof = s.prof ∧ (s.servoShown c).cells = s.cells ∧
    (s.servoShown c).mem = s.mem ∧ ∀ f : Fld, ¬ RouteWord f.addr → (s.servoShown c).rd f = (s.published c).rd f := by
  unfold State.servoShown
  split <;> exact ⟨(State.fireRoute_routed _ 0x03).prof, (State.fireRoute_routed _ 0x03).cells, (State.fireRoute_routed _ 0x03).mem,
    fun f hf => (State.fireRoute_routed _ 0x03).rd hf⟩

/-- What a servo period shows leaves the plan, the cells, the memory, and every field but those published and the routes'. -/
theorem State.servoShown_frame (s : State) (c : Nat) : (s.servoShown c).prof = s.prof ∧ (s.servoShown c).cells = s.cells ∧
    (s.servoShown c).mem = s.mem ∧
    ∀ f : Fld, ¬ RouteWord f.addr → (∀ g ∈ shownFields, g.apart f) → (s.servoShown c).rd f = s.rd f :=
  let ⟨hprof, hcells, hmem, hrd⟩ := s.servoShown_of_published c
  ⟨hprof, hcells, hmem, fun f hf hapart => (hrd f hf).trans ((s.published_onlyFields c).2 f hapart)⟩

/-- Speed and acceleration are published in Q16.16. -/
theorem State.servoShown_published (s : State) (c : Nat) :
    (s.servoShown c).rd PROF_SPD = unsigned 32 (toQ16 (s.prof.eval c).2.1) ∧
      (s.servoShown c).rd PROF_ACC = unsigned 32 (toQ16 (s.prof.eval c).2.2) := by
  obtain ⟨-, -, -, hrd⟩ := s.servoShown_of_published c
  have hphase := (State.showPhase_onlyFields (s.publish (s.prof.eval c)) c).2
  have hsat : ∀ x : F64, satInt 32 (toQ16 x) = toQ16 x := fun x => satInt_satInt 32 _
  constructor
  · rw [hrd _ (by decide), State.published, hphase _ (by decide), State.publish]
    refine (State.rd_wr_apart _ PROF_ACC _ _ (by decide)).trans ?_
    rw [State.rd_wrS_same _ PROF_SPD _ (by decide)]
    exact congrArg _ (hsat _)
  · rw [hrd _ (by decide), State.published, hphase _ (by decide), State.publish, State.rd_wrS_same _ PROF_ACC _ (by decide)]
    exact congrArg _ (hsat _)

/-! ### The acts before it (R566, R567, R571, R577) -/

/-- The working limits in force are those of the registers. -/
def State.limitsTaken (s : State) : Prop :=
  s.prof.limV = s.rd PROF_V ∧ s.prof.limA = s.rd PROF_A ∧ s.prof.limD = s.rd PROF_D ∧ s.prof.limJ = s.rd PROF_J

/-- `s` idle and at rest at the target of its position move (R571). -/
def State.arrived (s : State) : State :=
  ((s.setProf (s.prof.rest (.ofQ16 s.prof.target))).wr PROF_STAT_STATE PS_IDLE).wr PROF_STAT_AT_TARGET 1

theorem State.arrived_frame (s : State) : s.keepsBut s.arrived [PROF_STAT_STATE, PROF_STAT_AT_TARGET] :=
  State.keepsBut_wr (State.keepsBut_wr (fun _ _ => rfl) (by simp)) (by simp)

theorem State.arrived_profState (s : State) : s.arrived.profState = PS_IDLE :=
  (State.rd_wr_apart _ PROF_STAT_AT_TARGET _ _ (by decide)).trans (State.rd_wr_of_lt _ (by decide) (by decide))

theorem State.arrived_atTarget (s : State) : s.arrived.rd PROF_STAT_AT_TARGET = 1 := State.rd_wr_of_lt _ (by decide) (by decide)

section Acts
variable {s : State} {c : Nat}

theorem State.endPlan_of_idle (h : s.profState = PS_IDLE) : s.endPlan c = s := by
  simp [State.endPlan, h, PS_IDLE, PS_MOVE, PS_HALT]

theorem State.endPlan_of_move (h : s.profState = PS_MOVE) (hended : s.prof.ended c = true) : s.endPlan c = s.arrived := by
  simp [State.endPlan, State.arrived, h, hended]

theorem State.stopOrLeave_of_run (hisland : s.island = ISL_RUN) (hstop : s.profState ≠ PS_STOP) : s.stopOrLeave c = s := by
  simp [State.stopOrLeave, hisland, hstop, ISL_RUN, ISL_STOPPING, ISL_STOPPED]

theorem State.takeLimits_of_taken (h : s.limitsTaken) : s.takeLimits c = s := by
  obtain ⟨hv, ha, hd, hj⟩ := h
  simp [State.takeLimits, ← hv, ← ha, ← hd, ← hj]

theorem State.takeCommand_of_none (h : s.prof.pend = none) : s.takeCommand c = s := by
  simp [State.takeCommand, h]

/-- A servo period of a generator that is idle once a finished plan has ended, with the island in RUN and no limit written: the command
and the show. -/
theorem execServoPeriodStart_of_idle {t : State} (hon : s.profOn = true) (hrun : s.inRun = true) (hend : s.endPlan s.reef.start = t)
    (hidle : t.profState = PS_IDLE) (hisland : t.island = ISL_RUN) (hlimits : t.limitsTaken) :
    execServoPeriodStart s = .next ((t.takeCommand s.reef.start).servoShown s.reef.start) := by
  have hstop : t.profState ≠ PS_STOP := by rw [hidle]; decide
  have hgo : ¬ ((!s.profOn) = true ∨ (!s.inRun) = true) := by simp [hon, hrun]
  simp only [execServoPeriodStart, if_neg hgo, hend, State.stopOrLeave_of_run hisland hstop, State.takeLimits_of_taken hlimits]
  rfl

theorem execServoPeriodStart_of_off (h : s.profOn = false ∨ s.inRun = false) : execServoPeriodStart s = .next s :=
  if_pos (by simpa using h)

end Acts

/-! ### A HALT that is taken (R566, R568) -/

/-- `s` with no command pending. -/
def State.unpended (s : State) : State := (s.setProf { s.prof with pend := none }).wr PROF_STAT_CMD_PEND 0

/-- `s` in HALT with target `x`, before its plan. -/
def State.halting (s : State) (x : Nat) : State :=
  ((s.unpended.setProf { s.unpended.prof with target := signed 32 x }).wr PROF_STAT_STATE PS_HALT).wr PROF_STAT_AT_TARGET 0

theorem State.rd_unpended (s : State) {f : Fld} (hf : PROF_STAT_CMD_PEND.apart f) : s.unpended.rd f = s.rd f :=
  State.rd_wr_apart _ _ f _ hf

theorem State.unpended_commitView (s : State) : s.unpended.commitView = s.commitView := by
  simp only [State.commitView, State.isStandby, State.role, State.committing, s.rd_unpended (f := TOP_STAT_ROLE) (by decide),
    s.rd_unpended (f := RED_HEALTH_MATE) (by decide), s.rd_unpended (f := RUN_STAT_COMMITTING) (by decide)]
  rfl

/-- In IDLE and with committing on, a pending HALT is not refused. -/
theorem State.takeCommand_of_halt {s : State} {c x : Nat} (hidle : s.profState = PS_IDLE) (hpend : s.prof.pend = some (3, x))
    (hcommit : s.commitView = true) : s.takeCommand c = ((s.halting x).replan c).inc PROF_REPLAN_CNT := by
  have hstate : s.unpended.profState = PS_IDLE := (s.rd_unpended (f := PROF_STAT_STATE) (by decide)).trans hidle
  rw [State.takeCommand, hpend]
  change (if _ ∨ _ ∨ _ ∨ _ ∨ s.unpended.profState = PS_STOP ∨ (!s.unpended.commitView) = true then _ else _) = _
  exact if_neg (by simp [hstate, s.unpended_commitView, hcommit, PS_IDLE, PS_STOP])

theorem State.halting_frame (s : State) (x : Nat) :
    s.keepsBut (s.halting x) [PROF_STAT_CMD_PEND, PROF_STAT_STATE, PROF_STAT_AT_TARGET] :=
  State.keepsBut_wr (State.keepsBut_wr (State.keepsBut_mono (State.wr_keepsBut _ PROF_STAT_CMD_PEND 0) (by simp)) (by simp)) (by simp)

theorem State.halting_profState (s : State) (x : Nat) : (s.halting x).profState = PS_HALT :=
  (State.rd_wr_apart _ PROF_STAT_AT_TARGET _ _ (by decide)).trans (State.rd_wr_of_lt _ (by decide) (by decide))

theorem State.halting_cmdPend (s : State) (x : Nat) : (s.halting x).rd PROF_STAT_CMD_PEND = 0 :=
  (State.rd_wr_apart _ PROF_STAT_AT_TARGET _ _ (by decide)).trans ((State.rd_wr_apart _ PROF_STAT_STATE _ _ (by decide)).trans
    (State.rd_wr_of_lt (s.setProf _) (by decide) (by decide)))

/-- A plan that is taken shows its end and changes nothing else but the generator's own plan. -/
theorem State.takePlan_frame (s : State) (c : Nat) (x : PlanAt) : (s.takePlan c x).prof.pend = s.prof.pend ∧
    (s.takePlan c x).cells = s.cells ∧ (s.takePlan c x).mem = s.mem ∧ s.keepsBut (s.takePlan c x) [PROF_END_NS, PROF_END_SEC] :=
  ⟨rfl, rfl, rfl, State.keepsBut_wr (State.keepsBut_wr (fun _ _ => rfl) (by simp)) (by simp)⟩

/-- In HALT a replan takes one plan, and raises at most the source of a plan that leaves its range (R572). -/
theorem State.replan_of_halt {s : State} (h : s.profState = PS_HALT) (c : Nat) :
    ∃ x, s.replan c = s.takePlan c x ∨ s.replan c = (s.takePlan c x).raise 0x262 0 := by
  simp only [State.replan, h]
  rw [if_neg (by decide), if_neg (by decide), if_pos trivial]
  split
  · exact ⟨_, .inr rfl⟩
  · exact ⟨_, .inl rfl⟩

/-- A replan in HALT leaves no command pending, and the fields but the end of the plan. -/
theorem State.replan_of_halt_frame {s : State} (h : s.profState = PS_HALT) (c : Nat) : (s.replan c).prof.pend = s.prof.pend ∧
    (s.replan c).cells = s.cells ∧ (s.replan c).mem = s.mem ∧ s.keepsBut (s.replan c) [PROF_END_NS, PROF_END_SEC] := by
  obtain ⟨x, hplan | hplan⟩ := State.replan_of_halt h c
  · rw [hplan]
    exact s.takePlan_frame c x
  · obtain ⟨hpend, hcells, hmem, hkeep⟩ := s.takePlan_frame c x
    rw [hplan, State.raise_prof, State.raise_cells, State.raise_mem]
    exact ⟨hpend, hcells, hmem, fun f hf => (State.raise_rd ..).trans (hkeep f hf)⟩

/-- A pending HALT that is not refused leaves HALT with none pending, and counts its plan. -/
theorem State.takeCommand_of_halt_spec {s t : State} {c x : Nat} (hidle : s.profState = PS_IDLE)
    (hpend : s.prof.pend = some (3, x)) (hcommit : s.commitView = true) (ht : s.takeCommand c = t) :
    t.profState = PS_HALT ∧ t.prof.pend = none ∧ t.rd PROF_STAT_CMD_PEND = 0 ∧
      t.rd PROF_REPLAN_CNT = min (s.rd PROF_REPLAN_CNT + 1) (2 ^ 32 - 1) ∧ t.cells = s.cells ∧ t.mem = s.mem := by
  rw [State.takeCommand_of_halt hidle hpend hcommit] at ht
  subst ht
  obtain ⟨hnone, hcells, hmem, hkeep⟩ := State.replan_of_halt_frame (s.halting_profState x) c
  have hcount : (s.halting x).keepsBut (((s.halting x).replan c).inc PROF_REPLAN_CNT) [PROF_END_NS, PROF_END_SEC, PROF_REPLAN_CNT] :=
    State.keepsBut_wr (State.keepsBut_mono hkeep (by simp)) (by simp)
  refine ⟨(hcount _ (by decide)).trans (s.halting_profState x), hnone, (hcount _ (by decide)).trans (s.halting_cmdPend x), ?_,
    hcells, hmem⟩
  rw [State.rd_inc_same _ _ (by decide), hkeep _ (by decide), s.halting_frame x _ (by decide)]
  rfl

/-! ### Commands and working limits (R566, R573, R583) -/

/-- A command waits with the present target for the next servo period. -/
theorem State.profCommand_spec {s : State} (hsec : s.profSec ≠ []) (code : Nat) :
    (s.profCommand code).prof = { s.prof with pend := some (code, s.rd PROF_TARGET) } ∧
      (s.profCommand code).rd PROF_STAT_CMD_PEND = 1 ∧ s.keepsBut (s.profCommand code) [PROF_STAT_CMD_PEND] ∧
      s.profCommand code = { s with regs := (s.profCommand code).regs, prof := (s.profCommand code).prof } := by
  rw [State.profCommand, if_neg (by simpa using hsec)]
  exact ⟨rfl, State.rd_wr_of_lt _ (by decide) (by decide), State.keepsBut_wr (fun _ _ => rfl) (by simp), rfl⟩

/-- The register of working limit `k`. -/
def limitFld (k : Nat) : Fld := ⟨A_PROF_V + 4 * k, 0, 32⟩

theorem State.writeLimit_eq (s : State) (p : Port) {k : Nat} (hk : k < 4) (v : Nat) : s.writeLimit p k v =
    if v = 0 ∨ v > b32 s.profSec (8 + 4 * k) then s.range p (limitFld k).addr else s.wr (limitFld k) v := by
  match k, hk with
  | 0, _ | 1, _ | 2, _ | 3, _ => rfl

section Limits
variable {s : State} {p : Port} {k : Nat} {v : Word}

/-- A limit from 1 to that of the chart is taken. -/
theorem execProfLimitWrite_of_allowed (hk : k < 4) (h0 : v.toNat ≠ 0) (hmax : v.toNat ≤ b32 s.profSec (8 + 4 * k)) :
    ∃ t, exec (.profLimitWrite p k v) s = .next t ∧ t.rd (limitFld k) = v.toNat ∧ s.onlyFields t [limitFld k] := by
  refine ⟨s.wr (limitFld k) v.toNat, ?_, s.rd_wr_of_lt (Nat.le_refl 32) v.isLt, s.wr_onlyFields _ _⟩
  show execProfLimitWrite p k v s = _
  rw [execProfLimitWrite, if_pos hk, State.writeLimit_eq s p hk, if_neg (by omega)]

/-- Any other is refused (R488). -/
theorem execProfLimitWrite_of_refused (hk : k < 4) (h : v.toNat = 0 ∨ b32 s.profSec (8 + 4 * k) < v.toNat) (hfresh : s.fresh) :
    ∃ t, exec (.profLimitWrite p k v) s = .next t ∧ t = { s with flt := t.flt } ∧
      s.raisedAs t 0x260 (A_PROF_V % 0x10000 + 4 * k + p.master * 65536) := by
  obtain ⟨hframe, hraised⟩ := State.range_of_fresh hfresh p (limitFld k).addr
  have hblk : 32 * blkOf (limitFld k).addr = 0x260 := by simp only [blkOf, limitFld, A_PROF_V]; omega
  have hofs : (limitFld k).addr % 0x10000 = A_PROF_V % 0x10000 + 4 * k := by simp only [limitFld, A_PROF_V]; omega
  rw [hblk, hofs] at hraised
  refine ⟨_, ?_, hframe, hraised⟩
  show execProfLimitWrite p k v s = _
  rw [execProfLimitWrite, if_pos hk, State.writeLimit_eq s p hk, if_pos h]

end Limits

/-! ### The statement -/

/-- Settles O56: of an idle generator, a servo period is its command and its show, and a finished move becomes idle first; a command waits;
limits and the angle are taken or raise the range source. -/
theorem profileGenerator : Obligations.ProfileGenerator := by
  refine ⟨fun s hon hrun hidle hpend hisland hv ha hd hj => ?idle, fun s hon hrun hmove hended hpend hisland hv ha hd hj => ?finished,
    fun x s hon hrun hidle hpend hcommit hisland hv ha hd hj => ?halt, fun s hoff => ⟨s, execServoPeriodStart_of_off hoff, rfl⟩,
    fun s hsec => ⟨_, rfl, State.profCommand_spec hsec 1⟩, fun s hsec => ⟨_, rfl, State.profCommand_spec hsec 2⟩,
    fun s hsec => ⟨_, rfl, State.profCommand_spec hsec 3⟩,
    fun p v s => execProfLimitWrite_of_allowed (k := 0) (by decide), fun p v s => execProfLimitWrite_of_allowed (k := 1) (by decide),
    fun p v s => execProfLimitWrite_of_allowed (k := 2) (by decide), fun p v s => execProfLimitWrite_of_allowed (k := 3) (by decide),
    fun p k v s => execProfLimitWrite_of_refused, fun p v s hcommit => ?angle, fun p v s hcommit hfresh => ?angleRefused⟩
  case idle =>
    have hexec := execServoPeriodStart_of_idle hon hrun (State.endPlan_of_idle hidle) hidle hisland ⟨hv, ha, hd, hj⟩
    rw [State.takeCommand_of_none hpend] at hexec
    obtain ⟨hprof, hcells, hmem, hrd⟩ := s.servoShown_frame s.reef.start
    obtain ⟨hspd, hacc⟩ := s.servoShown_published s.reef.start
    exact ⟨_, hexec, hprof, (hrd PROF_STAT_STATE (by decide) (by decide)).trans hidle, hspd, hacc, hcells, hmem⟩
  case finished =>
    have hkeep := s.arrived_frame
    have hlimits : s.arrived.limitsTaken := ⟨hv.trans (hkeep _ (by decide)).symm, ha.trans (hkeep _ (by decide)).symm,
      hd.trans (hkeep _ (by decide)).symm, hj.trans (hkeep _ (by decide)).symm⟩
    have hexec := execServoPeriodStart_of_idle hon hrun (State.endPlan_of_move hmove hended) s.arrived_profState
      ((hkeep SAFE_STAT_STATE (by decide)).trans hisland) hlimits
    rw [State.takeCommand_of_none (s := s.arrived) hpend] at hexec
    obtain ⟨hprof, hcells, hmem, hrd⟩ := s.arrived.servoShown_frame s.reef.start
    exact ⟨_, hexec, (hrd PROF_STAT_STATE (by decide) (by decide)).trans s.arrived_profState,
      (hrd PROF_STAT_AT_TARGET (by decide) (by decide)).trans s.arrived_atTarget, hprof, hcells, hmem⟩
  case halt =>
    have hexec := execServoPeriodStart_of_idle hon hrun (State.endPlan_of_idle hidle) hidle hisland ⟨hv, ha, hd, hj⟩
    obtain ⟨hhalt, hnone, hclear, hcount, hcells, hmem⟩ := State.takeCommand_of_halt_spec hidle hpend hcommit (c := s.reef.start) rfl
    obtain ⟨hprof, hcells', hmem', hrd⟩ := (s.takeCommand s.reef.start).servoShown_frame s.reef.start
    exact ⟨_, hexec, (hrd PROF_STAT_STATE (by decide) (by decide)).trans hhalt, (congrArg Prof.pend hprof).trans hnone,
      (hrd PROF_STAT_CMD_PEND (by decide) (by decide)).trans hclear, (hrd PROF_REPLAN_CNT (by decide) (by decide)).trans hcount,
      hcells'.trans hcells, hmem'.trans hmem⟩
  case angle =>
    have hwrite : s.writeAngle p v = s.wr PROF_ANGLE v.toNat := by
      rw [State.writeAngle, State.committing, hcommit]
      exact s.wrW_eq_wr A_PROF_ANGLE v
    exact ⟨_, congrArg Host.Outcome.next hwrite, s.rd_wr_of_lt (by decide) v.isLt, s.wr_onlyFields _ _⟩
  case angleRefused =>
    have hwrite : s.writeAngle p v = s.range p A_PROF_ANGLE := by
      rw [State.writeAngle, State.committing, hcommit]
      rfl
    exact ⟨_, congrArg Host.Outcome.next hwrite, State.range_of_fresh hfresh p A_PROF_ANGLE⟩

end Sys2Proof.Machine
end

section
/-! The front of the queue, the state before the power-on reset, and accesses at which no register stands (R651, R655). -/

namespace Sys2Proof.Machine
open Sys2Proof

/-! ### The machine before its reset -/

/-- Settles O1: a step on a queue with a front is that command. -/
theorem stepRunsFront : Obligations.StepRunsFront := fun _ _ _ h => step_of_front h

/-- Settles O5: nothing is listed, so that every table reads what it reads unlisted. -/
theorem resetState : Obligations.ResetState :=
  ⟨rfl, rfl, fun _ => rfl, by decide, by decide, fun _ => rfl, fun _ => rfl⟩

/-! ### Accesses at which no register stands -/

/-- An aligned word at which no register stands is not the one through which an engine asks for a task. -/
theorem ne_schedAsk_of_absent {a : Nat} (h : findBal a = none) : a ≠ A_SCHED_ASK := by
  rintro rfl
  exact absurd h (by decide)

theorem State.regWrite_of_absent {a : Nat} (ha : a % 4 = 0) (h : findBal a = none) (s : State) (p : Port) (v : Word) :
    s.regWrite p a v = (some 2, s) := by
  rw [State.regWrite, if_neg (by omega), h]

theorem State.regRead_of_absent {a : Nat} (ha : a % 4 = 0) (h : findBal a = none) (s : State) (p : Port) :
    s.regRead p a = (.error 2, s) := by
  rw [State.regRead, if_neg (by omega), h]

theorem Skerry.readReg_of_absent {a : Nat} (h : findSk a = none) (k : Skerry) (p : Port) : k.readReg p a = (none, k) := by
  rw [Skerry.readReg, h]

/-- Settles O7: both chips look for the register before they act, and answer with the bus error alone. -/
theorem absentRegisterIsABusError : Obligations.AbsentRegisterIsABusError := by
  refine ⟨fun p a v still s hs ha h => ⟨_, ?_, rfl⟩, fun p a s hs ha h => ⟨_, ?_, rfl⟩,
    fun g p a v still s hs ha h => ⟨_, ?_, rfl⟩, fun g p a s hs ha h => ⟨_, ?_, rfl⟩⟩
  · show execRegisterWrite .balgal p 4 a v still s = .next (s.emit (.busErr p 2))
    simp [execRegisterWrite, State.regWrite_of_absent ha h, State.answerWrite, hs, ha]
  · show execRcRead .balgal p 4 a s = .next (s.emit (.busErr p 2))
    simp [execRcRead, State.readAny, State.regRead_of_absent ha h, ne_schedAsk_of_absent h, State.answer, hs, ha]
  · show execRegisterWrite (.skerry g) p 4 a v still s = .next (s.emit (.busErr p 2))
    simp [execRegisterWrite, hs, ha, h]
  · show execRcRead (.skerry g) p 4 a s = .next (s.emit (.busErr p 2))
    simp [execRcRead, State.readAny, Skerry.readReg_of_absent h, hs, ha]

end Sys2Proof.Machine
end

section
/-! The die temperature (R656, R658): the mean and its maximum, and the flags that set above a limit and clear below it. -/

namespace Sys2Proof.Machine
open Sys2Proof

/-! ### Signed fields -/

/-- A value within the range of `n`-bit two's complement is not saturated. -/
theorem satInt_of_mem {n : Nat} {v : Int} (hlo : -((2 ^ (n - 1) : Nat) : Int) ≤ v) (hhi : v < ((2 ^ (n - 1) : Nat) : Int)) :
    satInt n v = v := by
  simp only [satInt]
  rw [if_neg (by omega), if_neg (by omega)]

/-- The pattern of a value within the range reads as that value. -/
theorem signed_unsigned_of_mem {n : Nat} {v : Int} (hn : 0 < n) (hlo : -((2 ^ (n - 1) : Nat) : Int) ≤ v)
    (hhi : v < ((2 ^ (n - 1) : Nat) : Int)) : signed n (unsigned n v) = v := by
  have hpow : 2 ^ n = 2 * 2 ^ (n - 1) := by rw [← pow_succ', Nat.sub_add_cancel hn]
  have hmod := Nat.mod_eq_of_lt (unsigned_lt n v)
  have hpat : ((unsigned n v : Nat) : Int) = v % ((2 ^ n : Nat) : Int) :=
    Int.toNat_of_nonneg (Int.emod_nonneg _ (by have := Nat.two_pow_pos n; omega))
  have hval : ((unsigned n v : Nat) : Int) = if 0 ≤ v then v else v + ((2 ^ n : Nat) : Int) := by
    rw [hpat]
    split
    · exact Int.emod_eq_of_lt (by omega) (by omega)
    · rw [← Int.add_emod_right]
      exact Int.emod_eq_of_lt (by omega) (by omega)
  unfold signed
  rw [hmod]
  split_ifs at hval ⊢ <;> omega

/-- A signed field reads the value that was written, where it is within the field's range. -/
theorem State.rdS_wrS_of_mem (s : State) {f : Fld} {v : Int} (hf : f.lo + f.w ≤ 32) (hw : 0 < f.w)
    (hlo : -((2 ^ (f.w - 1) : Nat) : Int) ≤ v) (hhi : v < ((2 ^ (f.w - 1) : Nat) : Int)) : (s.wrS f v).rdS f = v := by
  rw [State.rdS, s.rd_wrS_same f v hf, satInt_of_mem hlo hhi, signed_unsigned_of_mem hw hlo hhi]

theorem State.rdS_congr {s t : State} {f : Fld} (h : t.rd f = s.rd f) : t.rdS f = s.rdS f := congrArg (signed f.w) h

/-! ### TEMP and PEAK -/

/-- `s` with TEMP and its maximum after a mean of `x`. -/
def State.measured (s : State) (x : Int) : State :=
  if x > (s.wrS TOP_TEMP_TEMP x).rdS TOP_TEMP_PEAK then (s.wrS TOP_TEMP_TEMP x).wrS TOP_TEMP_PEAK x else s.wrS TOP_TEMP_TEMP x

theorem State.measured_onlyFields (s : State) (x : Int) : s.onlyFields (s.measured x) [TOP_TEMP_TEMP, TOP_TEMP_PEAK] := by
  have htemp := State.onlyFields_wrS (v := x) (s.onlyFields_refl [TOP_TEMP_TEMP, TOP_TEMP_PEAK]) (List.mem_cons_self)
  exact State.onlyFields_ite (State.onlyFields_wrS htemp (by simp)) htemp

theorem State.measured_temp (s : State) {x : Int} (hlo : -2048 ≤ x) (hhi : x < 2048) : (s.measured x).rdS TOP_TEMP_TEMP = x := by
  have htemp : (s.wrS TOP_TEMP_TEMP x).rdS TOP_TEMP_TEMP = x := s.rdS_wrS_of_mem (by decide) (by decide) hlo hhi
  unfold State.measured
  split
  · exact (State.rdS_congr (State.rd_wr_apart _ _ _ _ (by decide))).trans htemp
  · exact htemp

theorem State.measured_peak (s : State) {x : Int} (hlo : -2048 ≤ x) (hhi : x < 2048) :
    (s.measured x).rdS TOP_TEMP_PEAK = max x (s.rdS TOP_TEMP_PEAK) := by
  have hold : (s.wrS TOP_TEMP_TEMP x).rdS TOP_TEMP_PEAK = s.rdS TOP_TEMP_PEAK :=
    State.rdS_congr (State.rd_wr_apart _ _ _ _ (by decide))
  unfold State.measured
  rw [hold]
  split
  next h => rw [max_eq_left (by omega)]; exact State.rdS_wrS_of_mem _ (by decide) (by decide) hlo hhi
  next h => rw [max_eq_right (by omega), hold]

/-! ### The flags -/

section Flag
variable {s : State} {flag ev : Fld} {limit x : Int} {src : Nat}

/-- A flag that stands, or a mean that is not above the limit, raises nothing. -/
theorem State.tempFlag_of_no_set (h : ¬ (x > limit ∧ s.rd flag = 0)) :
    s.tempFlag flag ev limit x src = if x ≤ limit - tempHyst then s.wr flag 0 else s := by
  rw [State.tempFlag, if_neg (by simpa [State.on] using h)]

theorem State.tempFlag_of_set (hx : x > limit) (hoff : s.rd flag = 0) :
    s.tempFlag flag ev limit x src = ((s.wr flag 1).wr ev 1).raise src 0 := by
  rw [State.tempFlag, if_pos ⟨hx, by simp [State.on, hoff]⟩]

/-- A flag writes itself and its event, and may raise its source. -/
theorem State.tempFlag_frame (s : State) (flag ev : Fld) (limit x : Int) (src : Nat) :
    s.tempFlag flag ev limit x src =
        { s with regs := (s.tempFlag flag ev limit x src).regs, flt := (s.tempFlag flag ev limit x src).flt } ∧
      s.keepsBut (s.tempFlag flag ev limit x src) [flag, ev] := by
  by_cases h : x > limit ∧ s.rd flag = 0
  · rw [State.tempFlag_of_set h.1 h.2, State.raise_frame]
    refine ⟨rfl, fun f hf => ?_⟩
    exact State.keepsBut_wr (State.keepsBut_wr (s.keepsBut_refl [flag, ev]) (by simp)) (by simp) f hf
  · rw [State.tempFlag_of_no_set h]
    have honly : s.onlyFields (if x ≤ limit - tempHyst then s.wr flag 0 else s) [flag, ev] :=
      State.onlyFields_ite (State.onlyFields_wr (s.onlyFields_refl _) (by simp)) (s.onlyFields_refl _)
    exact ⟨by conv_lhs => rw [honly.1]
              rw [honly.1], honly.2⟩

/-- A flag is 1 above its limit, 0 at 5 °C below it and further down, and stands in between (R658). -/
theorem State.tempFlag_flag (hone : flag.w = 1) (hfit : flag.lo + flag.w ≤ 32) (hev : ev.apart flag) :
    (s.tempFlag flag ev limit x src).rd flag =
      if x > limit then 1 else if x ≤ limit - tempHyst then 0 else s.rd flag := by
  have hlt : s.rd flag < 2 := by simpa [hone] using s.rd_lt flag
  have hput (v : Nat) (hv : v < 2) : (s.wr flag v).rd flag = v := s.rd_wr_of_lt hfit (by simpa [hone] using hv)
  by_cases hx : x > limit
  · rw [if_pos hx]
    by_cases hoff : s.rd flag = 0
    · rw [State.tempFlag_of_set hx hoff, State.raise_rd, State.rd_wr_apart _ _ _ _ hev, hput 1 (by decide)]
    · rw [State.tempFlag_of_no_set (fun h => hoff h.2), if_neg (by simp only [tempHyst]; omega)]
      omega
  · rw [if_neg hx, State.tempFlag_of_no_set (fun h => hx h.1), apply_ite (State.rd · flag), hput 0 (by decide)]

/-- A flag that sets shows its event and raises its source. -/
theorem State.tempFlag_raises {r : State} (hfresh : r.fresh) (hflt : s.flt = r.flt) (hclk : s.clk = r.clk) (hev : ev.w = 1)
    (hfit : ev.lo + ev.w ≤ 32) (hx : x > limit) (hoff : s.rd flag = 0) :
    r.raisedAs (s.tempFlag flag ev limit x src) src 0 ∧ (s.tempFlag flag ev limit x src).rd ev = 1 := by
  rw [State.tempFlag_of_set hx hoff]
  refine ⟨State.raisedAs_raise (t := (s.wr flag 1).wr ev 1) hfresh hflt hclk _ _, ?_⟩
  rw [State.raise_rd]
  exact State.rd_wr_of_lt _ hfit (by simp [hev])

theorem State.tempFlag_flt_of_no_set (h : ¬ (x > limit ∧ s.rd flag = 0)) : (s.tempFlag flag ev limit x src).flt = s.flt := by
  rw [State.tempFlag_of_no_set h, apply_ite State.flt, State.wr_flt, ite_self]

end Flag

/-! ### A mean that is taken -/

/-- `s` with the warning flag judged for a mean of `x`, and with the critical flag. -/
def State.judgeHot (s : State) (x : Int) : State := s.tempFlag TOP_TEMP_HOT TOP_TEMP_HOT_EV hotLimit x 0x002
def State.judgeCrit (s : State) (x : Int) : State := s.tempFlag TOP_TEMP_CRIT TOP_TEMP_CRIT_EV critLimit x 0x003

/-- `s` after a mean of `x`: TEMP and PEAK, then the warning flag, then the critical one. -/
def State.judged (s : State) (x : Int) : State := ((s.measured x).judgeHot x).judgeCrit x

/-- Out of reset, a mean within TEMP's range is taken. -/
theorem execTempUpdate_of_mem {s : State} {x : Int} (hheld : s.pwr.held = 0) (hlo : -2048 ≤ x) (hhi : x < 2048) :
    execTempUpdate x s = .next (s.judged x) := by
  rw [execTempUpdate, if_neg (not_not.mpr hheld), satInt_of_mem hlo hhi]
  rfl

section Judged
variable (s : State) (x : Int)

theorem State.measured_hot : (s.measured x).rd TOP_TEMP_HOT = s.rd TOP_TEMP_HOT := (s.measured_onlyFields x).2 _ (by decide)

theorem State.judgeHot_keepsBut : (s.measured x).keepsBut ((s.measured x).judgeHot x) [TOP_TEMP_HOT, TOP_TEMP_HOT_EV] :=
  (State.tempFlag_frame ..).2

theorem State.judgeCrit_keepsBut : ((s.measured x).judgeHot x).keepsBut (s.judged x) [TOP_TEMP_CRIT, TOP_TEMP_CRIT_EV] :=
  (State.tempFlag_frame ..).2

theorem State.judgeHot_crit : ((s.measured x).judgeHot x).rd TOP_TEMP_CRIT = s.rd TOP_TEMP_CRIT :=
  (s.judgeHot_keepsBut x _ (by decide)).trans ((s.measured_onlyFields x).2 _ (by decide))

theorem State.measured_flt_clk : (s.measured x).flt = s.flt ∧ (s.measured x).clk = s.clk := by
  rw [(s.measured_onlyFields x).1]
  exact ⟨rfl, rfl⟩

theorem State.judgeHot_clk : ((s.measured x).judgeHot x).clk = s.clk := by
  rw [State.judgeHot, (State.tempFlag_frame ..).1]
  exact (s.measured_flt_clk x).2

theorem State.judged_frame : s.judged x = { s with regs := (s.judged x).regs, flt := (s.judged x).flt } := by
  have hcrit : s.judged x = { (s.measured x).judgeHot x with regs := (s.judged x).regs, flt := (s.judged x).flt } :=
    (State.tempFlag_frame ..).1
  have hhot : (s.measured x).judgeHot x = { s.measured x with
      regs := ((s.measured x).judgeHot x).regs, flt := ((s.measured x).judgeHot x).flt } := (State.tempFlag_frame ..).1
  rw [hhot, (s.measured_onlyFields x).1] at hcrit
  exact hcrit

theorem State.judged_keepsBut : s.keepsBut (s.judged x)
    [TOP_TEMP_TEMP, TOP_TEMP_PEAK, TOP_TEMP_HOT, TOP_TEMP_HOT_EV, TOP_TEMP_CRIT, TOP_TEMP_CRIT_EV] :=
  State.keepsBut_trans (State.keepsBut_trans (s.measured_onlyFields x).2 (s.judgeHot_keepsBut x)) (s.judgeCrit_keepsBut x)

/-- The flags leave the two means alone. -/
theorem State.judged_mean {f : Fld} (hf : f = TOP_TEMP_TEMP ∨ f = TOP_TEMP_PEAK) : (s.judged x).rdS f = (s.measured x).rdS f := by
  rcases hf with rfl | rfl
  · exact State.rdS_congr ((s.judgeCrit_keepsBut x _ (by decide)).trans (s.judgeHot_keepsBut x _ (by decide)))
  · exact State.rdS_congr ((s.judgeCrit_keepsBut x _ (by decide)).trans (s.judgeHot_keepsBut x _ (by decide)))

theorem State.judged_hot : (s.judged x).rd TOP_TEMP_HOT = if x > 960 then 1 else if x ≤ 920 then 0 else s.rd TOP_TEMP_HOT := by
  rw [s.judgeCrit_keepsBut x _ (by decide), State.judgeHot, State.tempFlag_flag rfl (by decide) (by decide), s.measured_hot x]
  rfl

theorem State.judged_crit : (s.judged x).rd TOP_TEMP_CRIT = if x > 1056 then 1 else if x ≤ 1016 then 0 else s.rd TOP_TEMP_CRIT := by
  rw [State.judged, State.judgeCrit, State.tempFlag_flag rfl (by decide) (by decide), s.judgeHot_crit x]
  rfl

/-- A warning flag that stands, or a mean that is not above its limit, raises nothing. -/
theorem State.judgeHot_flt {x : Int} (h : x ≤ 960 ∨ s.rd TOP_TEMP_HOT = 1) : ((s.measured x).judgeHot x).flt = s.flt := by
  refine (State.tempFlag_flt_of_no_set fun hset => ?_).trans (s.measured_flt_clk x).1
  rw [s.measured_hot x] at hset
  exact h.elim (fun hle => absurd hset.1 (not_lt.mpr hle)) (fun hon => absurd (hon.symm.trans hset.2) (by decide))

theorem State.judgeCrit_flt {x : Int} (h : x ≤ 1056 ∨ s.rd TOP_TEMP_CRIT = 1) : (s.judged x).flt = ((s.measured x).judgeHot x).flt := by
  refine State.tempFlag_flt_of_no_set fun hset => ?_
  rw [s.judgeHot_crit x] at hset
  exact h.elim (fun hle => absurd hset.1 (not_lt.mpr hle)) (fun hon => absurd (hon.symm.trans hset.2) (by decide))

end Judged

/-! ### The statement -/

/-- Settles O16: the mean and its maximum first, then the warning flag, then the critical one; each flag leaves the others' fields alone. -/
theorem dieTemperature : Obligations.DieTemperature := by
  refine ⟨fun x s hheld hlo hhi => ⟨_, execTempUpdate_of_mem hheld hlo hhi,
      (s.judged_mean x (.inl rfl)).trans (s.measured_temp hlo hhi),
      (s.judged_mean x (.inr rfl)).trans (s.measured_peak hlo hhi), fun h => ?_, fun h => ?_, fun h h' => ?_, fun h => ?_, fun h => ?_,
      fun h h' => ?_, s.judged_frame x, s.judged_keepsBut x, fun hfresh h h' hoff => ?hot, fun hfresh h hon hoff => ?crit,
      fun h h' => (s.judgeCrit_flt h').trans (s.judgeHot_flt h)⟩,
    fun s => ⟨_, rfl, State.rd_wr_of_lt s (by decide) (s.rd_lt TOP_TEMP_TEMP), s.wr_onlyFields _ _⟩⟩
  case hot =>
    obtain ⟨hflt, hclk⟩ := s.measured_flt_clk x
    obtain ⟨⟨ct, hraise⟩, hev⟩ := State.tempFlag_raises (flag := TOP_TEMP_HOT) (ev := TOP_TEMP_HOT_EV)
      (limit := hotLimit) (src := 0x002)
      hfresh hflt hclk rfl (by decide) h ((s.measured_hot x).trans hoff)
    exact ⟨⟨ct, (s.judgeCrit_flt (.inl h')).trans hraise⟩, (s.judgeCrit_keepsBut x _ (by decide)).trans hev⟩
  case crit =>
    exact State.tempFlag_raises hfresh (s.judgeHot_flt (.inr hon)) (s.judgeHot_clk x) rfl (by decide) h ((s.judgeHot_crit x).trans hoff)
  · rw [s.judged_hot, if_pos h]
  · rw [s.judged_hot, if_neg (by omega), if_pos h]
  · rw [s.judged_hot, if_neg (by omega), if_neg (by omega)]
  · rw [s.judged_crit, if_pos h]
  · rw [s.judged_crit, if_neg (by omega), if_pos h]
  · rw [s.judged_crit, if_neg (by omega), if_neg (by omega)]

end Sys2Proof.Machine
end

section
/-! PIN and SOFT resets (R634, R641 to R644, R655): what a reset without a power-on or RAIL cause resets and keeps, its assertion, and the
release of the last hold. -/

namespace Sys2Proof.Machine
open Sys2Proof

/-! ### What a PIN or SOFT reset resets -/

theorem State.zeroGroups_frame (gs : List Nat) : ∀ s : State, gs.foldl (fun s g => s.zeroGroup g) s =
    { s with mem := (gs.foldl (fun s g => s.zeroGroup g) s).mem, mst := (gs.foldl (fun s g => s.zeroGroup g) s).mst } := by
  induction gs with
  | nil => exact fun _ => rfl
  | cons g gs ih => exact fun s => ih (s.zeroGroup g)

/-- `t` is `s` with its units reset, less what a PIN or SOFT reset leaves: power, the island, the cells, the queue, and the words that are
kept; MEM_STAT apart, every other word is reset. -/
structure State.SoftReset (s t : State) : Prop where
  pwr : t.pwr = s.pwr
  cells : t.cells = s.cells
  safe : t.safe = s.safe
  pending : t.pending = s.pending
  flt : t.flt = .zero
  count : t.clk.count = 0
  word : ∀ a, a ≠ A_MEM_STAT → t.rdW a = if regKept false a then s.rdW a else balReset a

theorem State.resetUnits_softReset (s : State) : s.SoftReset (s.resetUnits false) := by
  unfold State.resetUnits
  simp only [Bool.false_eq_true, if_false]
  set u := (s.free 8).2 with hu
  have hz := State.zeroGroups_frame ((List.range 4).filter (fun g => !u.ready g)) u
  set z := ((List.range 4).filter (fun g => !u.ready g)).foldl (fun s g => s.zeroGroup g) u with hzdef
  have hregs : z.regs = s.regs := by rw [hz]; rfl
  have hpwr : z.pwr = s.pwr := by rw [hz]; rfl
  have hcells : z.cells = s.cells := by rw [hz]; rfl
  have hsafe : z.safe = s.safe := by rw [hz]; rfl
  have hpending : z.pending = s.pending := by rw [hz]; rfl
  refine ⟨hpwr, hcells, hsafe, hpending, rfl, rfl, fun a ha => ?_⟩
  rw [State.rdW_wr_ne _ _ _ (Ne.symm ha), State.rdW_wr_ne _ _ _ (Ne.symm ha)]
  show tget balReset (z.regs.filter (fun e => regKept false e.1)) a = _
  rw [hregs]
  split
  next hkept => exact tget_filter_of_true _ _ (fun _ => hkept) _
  next hreset => exact tget_filter_of_false _ _ (fun _ => by simpa using hreset) _

section SoftReset
variable {s t : State}

theorem State.SoftReset.phase (h : s.SoftReset t) : t.phase = PH_RESET := by
  have hword : t.rdW A_CHART_STATUS = State.reset.rdW A_CHART_STATUS := (h.word _ (by decide)).trans (if_neg (by decide))
  exact (State.rd_congr hword : t.phase = State.reset.phase).trans (by decide)

theorem State.SoftReset.rd_cause (h : s.SoftReset t) {f : Fld} (hf : f.addr = A_TOP_RST_CAUSE) : t.rd f = s.rd f :=
  State.rd_congr (by rw [hf]; exact (h.word _ (by decide)).trans (if_pos (by decide)))

end SoftReset

/-! ### Assertion -/

/-- The causes stand in the low four bits, beside the mark of a masked pin. -/
theorem bitsOf_causes {n : Nat} (hn : n < 16) (stuck : Bool) : bitsOf (BitVec.ofNat 32 (n + 16 * b2n stuck)) 0 4 = n := by
  simp only [bitsOf, BitVec.toNat_ofNat, Nat.shiftRight_zero]
  cases stuck <;> simp only [b2n] <;> omega

/-- A PIN or SOFT reset gathers its cause with those of a reset in progress, and holds reset (R644). -/
theorem State.assertReset_soft (s : State) {cause : Nat} (hcause : cause = RST_PIN ∨ cause = RST_SOFT) (by_ : Nat) :
    (s.assertReset cause by_).pwr = { s.pwr with held := s.pwr.held ||| by_ } ∧ (s.assertReset cause by_).phase = PH_RESET ∧
      (s.assertReset cause by_).rd ⟨A_TOP_RST_CAUSE, 0, 4⟩ =
        (if s.pwr.held ≠ 0 then s.rd ⟨A_TOP_RST_CAUSE, 0, 4⟩ else 0) ||| cause ∧
      (s.assertReset cause by_).flt = .zero ∧ (s.assertReset cause by_).cells = s.cells ∧ (s.assertReset cause by_).safe = s.safe ∧
      (s.assertReset cause by_).pending = s.pending := by
  have hsoft : (decide (cause = RST_POR) || decide (cause = RST_RAIL)) = false := by rcases hcause with rfl | rfl <;> rfl
  have hreset := s.resetUnits_softReset
  have hold : (if s.pwr.held ≠ 0 then s.rd ⟨A_TOP_RST_CAUSE, 0, 4⟩ else 0) < 16 := by
    split
    · exact s.rd_lt _
    · decide
  have hsum := Nat.or_lt_two_pow (n := 4) hold (show cause < 2 ^ 4 by rcases hcause with rfl | rfl <;> decide)
  unfold State.assertReset
  simp only [hsoft, Bool.or_false]
  refine ⟨?_, ?_, ?_, hreset.flt, hreset.cells, hreset.safe, hreset.pending⟩
  · simp only [State.wrW_pwr, State.inc_pwr, hreset.pwr]
  · refine Eq.trans ?_ hreset.phase
    exact State.rd_congr ((State.rdW_wrW_ne _ _ (by decide)).trans (State.rdW_wr_ne _ _ _ (by decide)))
  · refine (congrArg (bitsOf · 0 4) (State.rdW_wrW_same _ _ _)).trans ?_
    simp only [State.inc_pwr, hreset.pwr]
    exact bitsOf_causes hsum _

/-! ### Release -/

/-- The last hold let go of: every unit starts from its reset values, COUNT from 0 (R168, R644). -/
theorem State.releaseReset_of_last {s : State} {by_ : Nat} (h : s.pwr.held &&& (7 ^^^ by_) = 0) :
    (s.releaseReset by_).pwr = { s.pwr with held := 0 } ∧ (s.releaseReset by_).clk.count = 0 ∧
      (s.releaseReset by_).phase = PH_RESET ∧ (s.releaseReset by_).rd TOP_RST_CAUSE_STUCK = s.rd TOP_RST_CAUSE_STUCK ∧
      (s.releaseReset by_).cells = s.cells ∧ (s.releaseReset by_).safe = s.safe := by
  have hreset := s.resetUnits_softReset
  unfold State.releaseReset
  simp only [h, if_true]
  refine ⟨?_, ?_, hreset.phase, hreset.rd_cause rfl, hreset.cells, hreset.safe⟩
  · simp only [hreset.pwr]
  · split
    · rfl
    · exact hreset.count

/-! ### The statement -/

/-- Settles O14: an assertion and the release of the last hold; the key of a soft reset, and the mask of the pin. -/
theorem pinAndSoftResets : Obligations.PinAndSoftResets := by
  refine ⟨fun s hon hmask hhigh hstate => ⟨_, ?pin, s.assertReset_soft (.inl rfl) 2⟩, fun p v s hheld hkey hbit => ?soft,
    fun p v s hheld hkey hfresh => ⟨_, ?wrongKey, State.range_of_fresh hfresh p A_TOP_RESET⟩,
    fun s hheld => ⟨_, if_pos (by rw [hheld]; rfl), State.releaseReset_of_last (by rw [hheld]; rfl)⟩, fun s hheld => ?stuck,
    fun s hmask => ⟨_, if_pos hmask, State.rd_wr_same _ _ _ (by decide), rfl, s.wr_keepsBut _ _⟩, fun s hheld => ?softEnd⟩
  case pin =>
    show execPinReset s = _
    rw [execPinReset, if_neg (by simp [hon, hmask, hhigh])]
    simp only [hstate, if_false]
  case soft =>
    obtain ⟨hpwr, hphase, hcause, hrest⟩ := s.assertReset_soft (.inr rfl) 4
    refine ⟨s.assertReset RST_SOFT 4, ?_, by rw [hpwr, hheld]; rfl, hphase,
      hcause.trans (by rw [if_neg (not_not.mpr hheld)]; rfl), hrest⟩
    show execSoftReset p v s = _
    rw [execSoftReset, if_neg (not_not.mpr hheld), State.writeReset, if_neg (not_not.mpr hkey), if_pos hbit]
  case wrongKey =>
    show execSoftReset p v s = _
    rw [execSoftReset, if_neg (not_not.mpr hheld), State.writeReset, if_pos hkey]
  case stuck =>
    obtain ⟨hpwr, hcount, hphase, -, hcells, hsafe⟩ := State.releaseReset_of_last (s := s) (by_ := 2) (by rw [hheld]; rfl)
    exact ⟨_, if_pos (by rw [hheld]; rfl), congrArg (fun q : Pwr => { q with masked := true }) hpwr, hcount,
      (State.rd_wr_apart _ _ _ _ (by decide)).trans hphase, State.rd_wr_same _ _ _ (by decide), hcells, hsafe⟩
  case softEnd =>
    obtain ⟨hpwr, hcount, hphase, -, hcells, hsafe⟩ := State.releaseReset_of_last (s := s) (by_ := 4) (by rw [hheld]; rfl)
    exact ⟨_, if_pos (by rw [hheld]; rfl), hpwr, hcount, hphase, hcells, hsafe⟩

end Sys2Proof.Machine
end


section
/-! The PCIe endpoint (R602 to R605): inbound requests to memory and what they abort on, the link and its resets, and the doorbells. -/

namespace Sys2Proof.Machine
open Sys2Proof

/-! ### Flags -/

theorem State.on_of_one {s : State} {f : Fld} (h : s.rd f = 1) : s.on f = true := by simp [State.on, h]

theorem State.on_of_zero {s : State} {f : Fld} (h : s.rd f = 0) : s.on f = false := by simp [State.on, h]

/-! ### Memory that a request reaches -/

section Request
variable {s : State} {off : Nat}

/-- A write that meets no error and leaves no poisoned word half written is stored (R447, R450). -/
theorem State.writeMem_of_clean {bs : List Byte} (ha : isSram off = true) (hcause : s.memCause off bs.length = none)
    (hclean : s.partPoison off bs.length = false) : s.writeMem off bs = (none, s.stored off bs) := by
  have hframe : (s.setBytes off bs).mst = s.mst := by rw [s.setBytes_frame bs off]
  simp only [State.writeMem, hcause, ha, hclean, hframe, State.stored, Bool.not_true, Bool.false_eq_true, if_false]

/-- BAR 2 maps the whole of SRAM (R602). -/
theorem barAddr_two {n : Nat} (hfit : off + n ≤ 0x4000000) : barAddr 2 off n = some off := by
  simp [barAddr, hfit]

theorem isSram_of_fits {n : Nat} (hn : 0 < n) (hfit : off + n ≤ 0x4000000) : isSram off = true := by
  simp only [isSram, decide_eq_true_eq]; omega

/-- While the link is up and reset is not asserted, a read of at least one byte is one through its BAR. -/
theorem execPcieRequest_read (hheld : s.pwr.held = 0) (hlink : s.rd HOST_STAT_LINK = 1) (bar : Nat) {len : Nat} (hlen : 0 < len)
    (data : List Byte) : execPcieRequest false bar off len data s = .next (s.pcieRead bar off len) := by
  simp [execPcieRequest, hheld, State.on_of_one hlink, hlen.ne']

theorem execPcieRequest_write (hheld : s.pwr.held = 0) (hlink : s.rd HOST_STAT_LINK = 1) (bar len : Nat) {data : List Byte}
    (hdata : data ≠ []) : execPcieRequest true bar off len data s = .next (s.pcieWrite bar off data) := by
  simp [execPcieRequest, hheld, State.on_of_one hlink, hdata]

theorem execPcieRequest_of_off (h : s.pwr.held ≠ 0 ∨ s.rd HOST_STAT_LINK = 0) (wr : Bool) (bar off len : Nat) (data : List Byte) :
    execPcieRequest wr bar off len data s = .next s :=
  if_pos (h.imp_right fun hlink => by rw [State.on_of_zero hlink]; rfl)

/-- A read through BAR 2 that meets no error shows the bytes of SRAM (R602). -/
theorem State.pcieRead_of_sram {n : Nat} (hn : 0 < n) (hfit : off + n ≤ 0x4000000) (hcause : s.memCause off n = none)
    (hclean : s.poisoned off n = false) : s.pcieRead 2 off n = s.emit (.readBytes .pcie (s.bytes off n)) := by
  have hreg := (not_regSpace_hostSpace_of_sram (isSram_of_fits hn hfit)).1
  simp [State.pcieRead, barAddr_two hfit, hreg, State.readMem_of_ready .pcie hcause hclean]

/-- A write through BAR 2 that meets no error is stored in SRAM (R602). -/
theorem State.pcieWrite_of_sram {data : List Byte} (hdata : data ≠ []) (hfit : off + data.length ≤ 0x4000000)
    (hcause : s.memCause off data.length = none) (hclean : s.partPoison off data.length = false) :
    s.pcieWrite 2 off data = s.stored off data := by
  have hsram := isSram_of_fits (List.length_pos_iff.mpr hdata) hfit
  have hreg := (not_regSpace_hostSpace_of_sram hsram).1
  simp [State.pcieWrite, barAddr_two hfit, hreg, State.writeMem_of_clean hsram hcause hclean, State.answerWrite]

/-- A read that no BAR maps aborts (R602). -/
theorem State.pcieRead_of_unmapped {bar n : Nat} (hbar : bar ≠ 0) (h : barAddr bar off n = none) :
    s.pcieRead bar off n = s.emit (.busErr .pcie 2) := by
  simp [State.pcieRead, hbar, h]

end Request

/-! ### The link, and resets of the endpoint -/

/-- `s` with the status of a link that is down. -/
def State.showLinkDown (s : State) : State := ((s.wr HOST_STAT_LINK 0).wr HOST_STAT_SPEED 0).wr HOST_STAT_WIDTH 0

def linkFields : List Fld := [HOST_STAT_LINK, HOST_STAT_SPEED, HOST_STAT_WIDTH]

theorem State.showLinkDown_onlyFields (s : State) : s.onlyFields s.showLinkDown linkFields :=
  State.onlyFields_wr (State.onlyFields_wr (State.onlyFields_wr (s.onlyFields_refl _) (by decide)) (by decide)) (by decide)

theorem State.showLinkDown_rd (s : State) : ∀ f ∈ linkFields, s.showLinkDown.rd f = 0 := by
  simp only [linkFields, List.forall_mem_cons, List.not_mem_nil, false_implies, implies_true, and_true]
  refine ⟨?_, ?_, State.rd_wr_same _ _ _ (by decide)⟩
  · rw [State.showLinkDown, State.rd_wr_apart _ _ _ _ (by decide), State.rd_wr_apart _ _ _ _ (by decide)]
    exact State.rd_wr_same _ _ _ (by decide)
  · rw [State.showLinkDown, State.rd_wr_apart _ _ _ _ (by decide)]
    exact State.rd_wr_same _ _ _ (by decide)

theorem State.linkLost_of_up {s : State} (h : s.rd HOST_STAT_LINK = 1) : s.linkLost = s.showLinkDown.raise 0x2A2 0 :=
  if_pos (State.on_of_one h)

theorem State.linkLost_of_down {s : State} (h : s.rd HOST_STAT_LINK = 0) : s.linkLost = s :=
  if_neg (by rw [State.on_of_zero h]; decide)

/-- A link that is lost is shown down, and raises its source where nothing has been raised on this edge (R605). -/
theorem State.linkLost_spec {r s : State} (hup : s.rd HOST_STAT_LINK = 1) (hfresh : r.fresh) (hflt : s.flt = r.flt)
    (hclk : s.clk = r.clk) : (∀ f ∈ linkFields, s.linkLost.rd f = 0) ∧ s.keepsBut s.linkLost linkFields ∧
      r.raisedAs s.linkLost 0x2A2 0 ∧ s.linkLost.mon = s.mon ∧ s.linkLost.cells = s.cells ∧ s.linkLost.mem = s.mem := by
  rw [State.linkLost_of_up hup]
  refine ⟨fun f hf => (State.raise_rd _ _ _ f).trans (s.showLinkDown_rd f hf),
    fun f hf => (State.raise_rd _ _ _ f).trans (s.showLinkDown_onlyFields.2 f hf),
    State.raisedAs_raise (t := s.showLinkDown) hfresh hflt hclk _ _, ?_, ?_, ?_⟩
  · exact State.raise_mon s.showLinkDown _ _
  · exact State.raise_cells s.showLinkDown _ _
  · exact State.raise_mem s.showLinkDown _ _

theorem State.rd_wrW_zero (s : State) {f : Fld} {a : Nat} (h : f.addr = a) : (s.wrW a 0).rd f = 0 := by
  subst h
  simp [State.rd, bitsOf]

/-- `s` with the endpoint, its configuration space and HOST_OB_BASE reset (R605). -/
def State.endpointReset (s : State) : State :=
  { (((s.wrW A_HOST_OB_BASE_LO 0).wrW A_HOST_OB_BASE_HI 0).wr HOST_STAT_MSIX 0) with mon := { s.mon with msix := [], master := false } }

theorem State.endpointReset_rd (s : State) : s.endpointReset.rd HOST_OB_BASE_HI = 0 ∧ s.endpointReset.rd HOST_OB_BASE_LO_ADDR = 0 ∧
    s.endpointReset.rd HOST_STAT_MSIX = 0 ∧ s.endpointReset.rd HOST_STAT_LINK = s.rd HOST_STAT_LINK := by
  have hrd (f : Fld) : s.endpointReset.rd f = (((s.wrW A_HOST_OB_BASE_LO 0).wrW A_HOST_OB_BASE_HI 0).wr HOST_STAT_MSIX 0).rd f := rfl
  refine ⟨?_, ?_, State.rd_wr_same _ _ _ (by decide), ?_⟩
  · rw [hrd, State.rd_wr_apart _ _ _ _ (by decide)]
    exact State.rd_wrW_zero _ rfl
  · rw [hrd, State.rd_wr_apart _ _ _ _ (by decide), State.rd_wrW_ne _ _ _ (by decide)]
    exact State.rd_wrW_zero _ rfl
  · rw [hrd, State.rd_wr_apart _ _ _ _ (by decide), State.rd_wrW_ne _ _ _ (by decide), State.rd_wrW_ne _ _ _ (by decide)]

/-- `s` with a link that is up at a speed and a width, and with MSI-X enabled or not (R602). -/
def State.showLinkUp (s : State) (gen width : Nat) (msix : Bool) : State :=
  (((s.wr HOST_STAT_LINK 1).wr HOST_STAT_SPEED gen).wr HOST_STAT_WIDTH width).wr HOST_STAT_MSIX (b2n msix)

theorem State.showLinkUp_onlyFields (s : State) (gen width : Nat) (msix : Bool) :
    s.onlyFields (s.showLinkUp gen width msix) [HOST_STAT_LINK, HOST_STAT_SPEED, HOST_STAT_WIDTH, HOST_STAT_MSIX] :=
  State.onlyFields_wr (State.onlyFields_wr (State.onlyFields_wr (State.onlyFields_wr (s.onlyFields_refl _) (by simp)) (by simp))
    (by simp)) (by simp)

theorem State.showLinkUp_rd (s : State) {gen width : Nat} (msix : Bool) (hgen : gen < 8) (hwidth : width < 8) :
    (s.showLinkUp gen width msix).rd HOST_STAT_LINK = 1 ∧ (s.showLinkUp gen width msix).rd HOST_STAT_SPEED = gen ∧
      (s.showLinkUp gen width msix).rd HOST_STAT_WIDTH = width ∧ (s.showLinkUp gen width msix).rd HOST_STAT_MSIX = b2n msix := by
  unfold State.showLinkUp
  refine ⟨?_, ?_, ?_, State.rd_wr_of_lt _ (by decide) (b2n_lt msix)⟩
  · rw [State.rd_wr_apart _ _ _ _ (by decide), State.rd_wr_apart _ _ _ _ (by decide), State.rd_wr_apart _ _ _ _ (by decide)]
    exact State.rd_wr_same _ _ _ (by decide)
  · rw [State.rd_wr_apart _ _ _ _ (by decide), State.rd_wr_apart _ _ _ _ (by decide)]
    exact State.rd_wr_of_lt _ (by decide) hgen
  · rw [State.rd_wr_apart _ _ _ _ (by decide)]
    exact State.rd_wr_of_lt _ (by decide) hwidth

theorem execPcieLinkUp_of_trained {s : State} {gen width : Nat} (hheld : s.pwr.held = 0) (hlo : 1 ≤ gen) (hhi : gen ≤ 3)
    (hwidth : width = 1 ∨ width = 2 ∨ width = 4) (msix master : Bool) :
    execPcieLinkUp gen width msix master s =
      .next { s.showLinkUp gen width msix with mon := { s.mon with master := master } } :=
  if_pos ⟨hheld, hlo, hhi, hwidth⟩

end Sys2Proof.Machine
end

section
/-! Doorbells, messages and the quay port (R604, R606 to R608), and the statement about the host interfaces. -/

namespace Sys2Proof.Machine
open Sys2Proof

/-! ### Messages and doorbells -/

theorem State.sendMsix_of_link {s : State} (hlink : s.rd HOST_STAT_LINK = 1) (v : Nat) :
    s.sendMsix v = if s.rd HOST_STAT_MSIX = 1 then s.emit (.msix v) else s := by
  have hbit : s.rd HOST_STAT_MSIX < 2 := s.rd_lt HOST_STAT_MSIX
  have hon : (s.on HOST_STAT_MSIX = true ∧ s.on HOST_STAT_LINK = true) ↔ s.rd HOST_STAT_MSIX = 1 := by
    simp only [State.on, hlink, decide_eq_true_eq]; omega
  simp only [State.sendMsix, hon]

/-- Bits that are set in a 32-bit register stand beside those that it holds. -/
theorem State.rd_wrW_or (s : State) (a : Nat) (v : Word) :
    (s.wrW a (s.rdW a ||| v)).rd ⟨a, 0, 32⟩ = s.rd ⟨a, 0, 32⟩ ||| v.toNat := by
  simp only [State.rd, State.rdW_wrW_same, bitsOf, Nat.shiftRight_zero, BitVec.toNat_or]
  rw [Nat.mod_eq_of_lt (Nat.or_lt_two_pow (s.rdW a).isLt v.isLt), Nat.mod_eq_of_lt (s.rdW a).isLt]

/-- A doorbell of the host is set, and sends vector 1 where MSI-X is enabled (R604). -/
theorem State.hdbSet_of_link {s : State} {v : Word} (hlink : s.rd HOST_STAT_LINK = 1) (hv : v ≠ 0) :
    s.hdbSet v = if s.rd HOST_STAT_MSIX = 1 then (s.wrW A_HOST_HDB (s.rdW A_HOST_HDB ||| v)).emit (.msix 1)
      else s.wrW A_HOST_HDB (s.rdW A_HOST_HDB ||| v) := by
  rw [State.hdbSet, if_neg hv, State.sendMsix_of_link ((s.rd_wrW_ne _ _ (by decide)).trans hlink), s.rd_wrW_ne _ _ (by decide)]

/-- A doorbell that sets bits and fires its route source: the routes reach no word of the host interface (R331, R618). -/
theorem State.doorbell_spec (s : State) {t : State} {a src : Nat} {v : Word} (ha : A_FLT_CTRL ≤ a)
    (ht : t = (s.wrW a (s.rdW a ||| v)).fireRoute src) :
    t.rd ⟨a, 0, 32⟩ = s.rd ⟨a, 0, 32⟩ ||| v.toNat ∧ t.cells = s.cells ∧ t.mem = s.mem ∧ t.out = s.out := by
  have hroute := (s.wrW a (s.rdW a ||| v)).fireRoute_routed src
  rw [← ht] at hroute
  exact ⟨(hroute.rd (not_routeWord ha)).trans (s.rd_wrW_or a v), hroute.cells, hroute.mem, hroute.out⟩

/-! ### The quay port -/

/-- `s` with the first error of the quay port latched (R607). -/
def State.quayLatched (s : State) (q c : Nat) : State :=
  ((s.wr HOST_QY_ERR_Q (q / 4)).wr HOST_QY_ERR_CAUSE c).wr HOST_QY_ERR_VALID 1

theorem State.quayLatched_onlyFields (s : State) (q c : Nat) :
    s.onlyFields (s.quayLatched q c) [HOST_QY_ERR_Q, HOST_QY_ERR_CAUSE, HOST_QY_ERR_VALID] :=
  State.onlyFields_wr (State.onlyFields_wr (State.onlyFields_wr (s.onlyFields_refl _) (by simp)) (by simp)) (by simp)

theorem State.quayLatched_rd (s : State) {q c : Nat} (hq : q / 4 < 2 ^ 22) (hc : c < 8) :
    (s.quayLatched q c).rd HOST_QY_ERR_VALID = 1 ∧ (s.quayLatched q c).rd HOST_QY_ERR_CAUSE = c ∧
      (s.quayLatched q c).rd HOST_QY_ERR_Q = q / 4 := by
  refine ⟨State.rd_wr_same _ _ _ (by decide), ?_, ?_⟩
  · rw [State.quayLatched, State.rd_wr_apart _ _ _ _ (by decide)]
    exact State.rd_wr_of_lt _ (by decide) hc
  · rw [State.quayLatched, State.rd_wr_apart _ _ _ _ (by decide), State.rd_wr_apart _ _ _ _ (by decide)]
    exact State.rd_wr_of_lt _ (by decide) hq

theorem State.quayErr_of_first {s : State} (h : s.rd HOST_QY_ERR_VALID = 0) (q c : Nat) :
    s.quayErr q c = (s.emit (.busErr .quay c)).quayLatched q c :=
  if_neg (by rw [State.on_of_zero (s := s.emit _) h]; decide)

section Quay
variable {s : State} {q a : Nat}

/-- A strobe at an address that the page maps reads the word there (R606). -/
theorem execQuayAccess_read {w : Word} (hheld : s.pwr.held = 0) (ha : s.quayAddr (q % 2 ^ 24 / 4 * 4) = some a)
    (hok : (s.busRead .quay a 0).1 = .ok w) (v : Word) :
    execQuayAccess true false q v s = .next ((s.busRead .quay a 0).2.emit (.readData .quay w)) := by
  have hpair : s.busRead .quay a 0 = (.ok w, (s.busRead .quay a 0).2) := Prod.ext hok rfl
  rw [execQuayAccess, if_neg (not_not.mpr hheld)]
  simp only [State.quayAccess, Bool.not_true, Bool.false_eq_true, false_and, and_false, if_false, ha, if_true]
  rw [hpair]

theorem execQuayAccess_unmapped (hheld : s.pwr.held = 0) (ha : s.quayAddr (q % 2 ^ 24 / 4 * 4) = none) (v : Word) :
    execQuayAccess true false q v s = .next (s.quayErr (q % 2 ^ 24 / 4 * 4) 2) := by
  rw [execQuayAccess, if_neg (not_not.mpr hheld)]
  simp only [State.quayAccess, Bool.not_true, Bool.false_eq_true, false_and, and_false, if_false, ha]

/-- Without a strobe there is no access. -/
theorem execQuayAccess_none (s : State) (v : Word) : execQuayAccess false false q v s = .next s := by
  simp [execQuayAccess, State.quayAccess]

end Quay

/-! ### The statement -/

/-- Settles O58: each request by the case of its guard; a doorbell's routes stay below the host interface's words. -/
theorem hostInterfaces : Obligations.HostInterfaces := by
  refine ⟨fun off len s hheld hlink hlen hfit hcause hclean => ⟨_, ?read, rfl⟩,
    fun off data len s hheld hlink hdata hfit hcause hclean => ⟨s.stored off data, ?write, s.stored_byte_inside off data,
      fun a ha => s.stored_byte_outside off data ha, s.stored_out off data, s.stored_frame off data⟩,
    fun bar off len s hheld hlink hlen hbar hnone => ⟨_, ?unmapped, rfl⟩,
    fun wr bar off len data s h => ⟨s, execPcieRequest_of_off h wr bar off len data, rfl⟩,
    fun up s hlink hfresh => ?reset, fun s hlink hfresh => ?loss, fun s hlink => ⟨s, congrArg _ (State.linkLost_of_down hlink), rfl⟩,
    fun gen width msix master s hheld hlo hhi hwidth => ?linkUp,
    fun s hirq hmsix hlink => ⟨_, ?ack, rfl⟩, fun s hirq => ⟨s, ?noAck, rfl⟩, fun v s hv hlink => ?hostBell,
    fun v s hv => ⟨_, ?pcieBell, s.doorbell_spec (src := 0x59) (by decide) rfl⟩,
    fun p v s hp hfresh => ⟨_, ?notPcie, State.range_of_fresh hfresh p A_HOST_PDB_SET⟩,
    fun q v a w s hheld ha hok => ⟨_, execQuayAccess_read hheld ha hok v, rfl⟩, fun q v s hheld ha hvalid => ?quayError,
    fun q v s => ⟨s, execQuayAccess_none s v, rfl⟩,
    fun v s hv => ⟨_, ?quayBell, s.doorbell_spec (src := 0x58) (by decide) rfl⟩,
    fun p v s hp hfresh => ⟨_, ?notQuay, State.range_of_fresh hfresh p A_HOST_QY_QDB_SET⟩,
    fun s => ⟨_, rfl, State.rd_inc_same s _ (by decide), s.wr_onlyFields _ _⟩⟩
  case read =>
    exact (execPcieRequest_read hheld hlink 2 hlen []).trans (congrArg _ (State.pcieRead_of_sram hlen hfit hcause hclean))
  case write =>
    exact (execPcieRequest_write hheld hlink 2 len hdata).trans (congrArg _ (State.pcieWrite_of_sram hdata hfit hcause hclean))
  case unmapped =>
    exact (execPcieRequest_read hheld hlink bar hlen []).trans (congrArg _ (State.pcieRead_of_unmapped hbar hnone))
  case reset =>
    obtain ⟨hhi, hlo, hmsix, hup⟩ := s.endpointReset_rd
    have hexec : exec (.pcieReset up) s = .next (if up then s.endpointReset else s.endpointReset.linkLost) := rfl
    cases up with
    | true => exact ⟨_, hexec, hhi, hlo, hmsix, rfl, rfl, hup.trans hlink, fun _ => rfl, fun h => absurd h (by decide), rfl, rfl⟩
    | false =>
      obtain ⟨hzero, hkeep, hraised, hmon, hcells, hmem⟩ :=
        State.linkLost_spec (s := s.endpointReset) (hup.trans hlink) hfresh rfl rfl
      exact ⟨_, hexec, (hkeep _ (by decide)).trans hhi, (hkeep _ (by decide)).trans hlo, (hkeep _ (by decide)).trans hmsix,
        congrArg Mon.master hmon, congrArg Mon.msix hmon, hzero _ (by decide), fun h => absurd h (by decide), fun _ => hraised,
        hcells, hmem⟩
  case loss =>
    obtain ⟨hzero, hkeep, hraised, -, hcells, hmem⟩ := State.linkLost_spec hlink hfresh rfl rfl
    exact ⟨_, rfl, hzero _ (by decide), hzero _ (by decide), hzero _ (by decide), hraised, hkeep, hcells, hmem⟩
  case linkUp =>
    obtain ⟨hl, hs, hw, hm⟩ := s.showLinkUp_rd msix (show gen < 8 by omega) (show width < 8 by omega)
    exact ⟨_, execPcieLinkUp_of_trained hheld hlo hhi hwidth msix master, hl, hs, hw, hm, rfl,
      (s.showLinkUp_onlyFields gen width msix).2, rfl, rfl⟩
  case ack =>
    show Host.Outcome.next s.msiAck = _
    rw [State.msiAck, if_pos hirq, State.sendMsix_of_link hlink, if_pos hmsix]
    rfl
  case noAck =>
    show Host.Outcome.next s.msiAck = _
    rw [State.msiAck, if_neg (by simp [hirq])]
  case hostBell =>
    have hkeep : s.keepsBut (s.wrW A_HOST_HDB (s.rdW A_HOST_HDB ||| v)) [HOST_HDB] := by
      rw [State.wrW_eq_wr]
      exact s.wr_keepsBut HOST_HDB _
    refine ⟨_, congrArg Host.Outcome.next (State.hdbSet_of_link hlink hv), ?_⟩
    split
    · exact ⟨s.rd_wrW_or _ v, rfl, hkeep, rfl⟩
    · exact ⟨s.rd_wrW_or _ v, (List.append_nil _).symm, hkeep, rfl⟩
  case pcieBell =>
    show execPdbSet .pcie v s = _
    rw [execPdbSet, State.pdbSet, if_neg (not_not.mpr rfl), if_neg hv]
  case notPcie =>
    show execPdbSet p v s = _
    rw [execPdbSet, State.pdbSet, if_pos hp]
  case quayError =>
    have hlt : q % 2 ^ 24 / 4 * 4 / 4 < 2 ^ 22 := by omega
    have hword : q % 2 ^ 24 / 4 * 4 / 4 = q % 2 ^ 24 / 4 := Nat.mul_div_cancel _ (by decide)
    obtain ⟨hvalid', hcause, hq⟩ := (s.emit (.busErr .quay 2)).quayLatched_rd (c := 2) hlt (by decide)
    obtain ⟨hreg, hkeep⟩ := (s.emit (.busErr .quay 2)).quayLatched_onlyFields (q % 2 ^ 24 / 4 * 4) 2
    exact ⟨_, (execQuayAccess_unmapped hheld ha v).trans (congrArg _ (State.quayErr_of_first hvalid _ 2)), rfl, hvalid', hcause,
      hq.trans hword, hkeep, rfl⟩
  case quayBell =>
    show execQuayDoorbell .quay v s = _
    rw [execQuayDoorbell, State.qdbSet, if_neg (not_not.mpr rfl), if_neg hv]
  case notQuay =>
    show execQuayDoorbell p v s = _
    rw [execQuayDoorbell, State.qdbSet, if_pos hp]

end Sys2Proof.Machine
end

section
/-! The command lines of the Harbour monitors (R620, R621, R625, R630, R631): which lines are served, what a served line leaves that only
prints, and how a level falls to VIEW. -/

namespace Sys2Proof.Machine
open Sys2Proof

/-! ### Lines that a port prints -/

section Replies
variable {s t : State} {ls : List Line}

theorem State.says.of_out {c : Chip} (h : t.out = s.out) : s.says t c [] := h.trans (List.append_nil _).symm

theorem State.says.emit {c : Chip} (h : s.says t c ls) (l : Line) : s.says (t.emit (.line c l)) c (ls ++ [l]) := by
  rw [State.says, State.emit_out, h, List.map_append, List.append_assoc]
  rfl

/-- `t` is `s` after a line that was served and only printed: the command is counted and the lines `ls` left the port. -/
def State.replies (s t : State) (ls : List Line) : Prop :=
  s.says t .balgal ls ∧ s.keepsBut t [MON_CMD_CNT] ∧ t = { s with regs := t.regs, out := t.out }

theorem State.replies_served (s : State) : s.replies (s.inc MON_CMD_CNT) [] :=
  ⟨.of_out rfl, s.wr_keepsBut _ _, rfl⟩

theorem State.replies.say (h : s.replies t ls) (l : Line) : s.replies (t.say l) (ls ++ [l]) := by
  obtain ⟨hsays, hkeep, hframe⟩ := h
  refine ⟨hsays.emit l, hkeep, ?_⟩
  rw [hframe]
  rfl

theorem State.replies.sayAll (h : s.replies t ls) (ms : List Line) : s.replies (t.sayAll ms) (ls ++ ms) := by
  induction ms generalizing t ls with
  | nil =>
    rw [List.append_nil]
    exact h
  | cons m ms ih =>
    have hrest := ih (h.say m)
    rw [List.append_assoc] at hrest
    exact hrest

end Replies

/-- A cell that changes and then prints a line at its own port. -/
theorem State.onCell_skSay_spec (s : State) {t : State} {g : Nat} {f : Skerry → Skerry} {l : Line} (ht : t = (s.onCell g f).skSay g l) :
    t.cell g = f (s.cell g) ∧ s.says t (.skerry g) [l] ∧ (∀ h, h ≠ g → t.cell h = s.cell h) ∧
      t = { s with cells := t.cells, out := t.out } := by
  subst ht
  exact ⟨s.cell_onCell g f, rfl, (s.onCell_onlyCell g f).2, rfl⟩

/-! ### Lines that are served -/

theorem State.rd_inc_apart (s : State) {f g : Fld} (h : f.apart g) : (s.inc f).rd g = s.rd g := s.rd_wr_apart f g _ h

section Served
variable {s : State} (hserves : s.monServes = true) (hbusy : s.rd MON_STAT_BUSY = 0)
include hserves hbusy

/-- A line that comes while none is served runs its command, which is counted (R621). -/
theorem State.monCmd_of_idle (f : State → State) : s.monCmd f = f (s.inc MON_CMD_CNT) := by
  rw [State.monCmd, if_neg (by simp [hserves]), if_neg (by rw [State.on_of_zero hbusy]; decide)]

theorem State.atLevel_of_open {n : Nat} (hlevel : n ≤ s.rd MON_STAT_LEVEL) (f : State → State) :
    s.atLevel n f = f (s.inc MON_CMD_CNT) := by
  rw [State.atLevel, State.monCmd_of_idle hserves hbusy, s.rd_inc_apart (by decide), if_pos hlevel]

/-- A command whose level is not open is refused (R625). -/
theorem State.atLevel_of_closed {n : Nat} (hlevel : s.rd MON_STAT_LEVEL < n) (f : State → State) :
    s.atLevel n f = (s.inc MON_CMD_CNT).monDenied := by
  rw [State.atLevel, State.monCmd_of_idle hserves hbusy, s.rd_inc_apart (by decide), if_neg (by omega)]

end Served

section CellServed
variable {s : State} {g : Nat} (hserves : (s.cell g).monServes = true)
include hserves

theorem State.skCmd_of_serving (f : State → State) : s.skCmd g f = f s := if_pos hserves

theorem State.skService_of_open (hlevel : (s.cell g).rd SK_MON_STAT_LEVEL = 1) (f : State → State) : s.skService g f = f s := by
  rw [State.skService, State.skCmd_of_serving hserves, if_pos (by simp [Skerry.on, hlevel])]

end CellServed

/-! ### The level falls to VIEW -/

/-- A word of the island's change log. -/
abbrev SafeLogWord (a : Nat) : Prop := a = A_SAFE_LOG_SEQ ∨ (A_SAFE_LOG 0 0 ≤ a ∧ a < A_SAFE_LOG 256 0)

theorem State.safeLog_writesIn (s : State) (code : Nat) (refused : Bool) (digest : List Byte) (data : Nat) :
    s.WritesIn SafeLogWord (s.safeLog code refused digest data) := by
  unfold State.safeLog
  extract_lets seq stamp body entry
  refine State.WritesIn.wr (State.WritesIn.foldl_mem (fun t w hw => (State.WritesIn.refl _ t).wr _ ?_) s) _ (.inl rfl)
  have hw8 := List.mem_range.mp hw
  simp only [SafeLogWord, SAFE_LOG, A_SAFE_LOG]
  omega

/-- `s` with its session closed, and that logged (R559). -/
def State.sessionClosed (s : State) : State := (s.wr SAFE_STAT_SESSION 0).safeLog 0x08 false [] 0

theorem State.sessionClosed_spec (s : State) : s.sessionClosed.rd SAFE_STAT_SESSION = 0 ∧
    s.sessionClosed.rd MON_STAT_ENABLED = s.rd MON_STAT_ENABLED ∧ s.sessionClosed.cells = s.cells ∧ s.sessionClosed.mem = s.mem ∧
    s.sessionClosed.out = s.out := by
  have hlog : (s.wr SAFE_STAT_SESSION 0).WritesIn SafeLogWord s.sessionClosed := State.safeLog_writesIn _ 0x08 false [] 0
  exact ⟨(hlog.rd (by decide)).trans (s.rd_wr_same _ 0 (by decide)), (hlog.rd (by decide)).trans (s.rd_wr_apart _ _ 0 (by decide)),
    hlog.cells, hlog.mem, hlog.out⟩

theorem State.closeSession_of_open {s : State} (h : s.rd SAFE_STAT_SESSION ≠ 0) : s.closeSession =
    if s.sessionClosed.rd MON_STAT_LEVEL = 3 then s.sessionClosed.wr MON_STAT_LEVEL s.sessionClosed.safe.level else s.sessionClosed :=
  if_pos (decide_eq_true h)

/-- A session that closes leaves the cells, memory, the output and whether the port is enabled (R559). -/
theorem State.closeSession_spec (s : State) : s.closeSession.rd SAFE_STAT_SESSION = 0 ∧
    s.closeSession.rd MON_STAT_ENABLED = s.rd MON_STAT_ENABLED ∧ s.closeSession.cells = s.cells ∧ s.closeSession.mem = s.mem ∧
    s.closeSession.out = s.out := by
  by_cases hopen : s.rd SAFE_STAT_SESSION = 0
  · rw [State.closeSession, if_neg (by rw [State.on_of_zero hopen]; decide)]
    exact ⟨hopen, rfl, rfl, rfl, rfl⟩
  · obtain ⟨hsession, henabled, hcells, hmem, hout⟩ := s.sessionClosed_spec
    rw [State.closeSession_of_open hopen]
    split
    · exact ⟨(State.rd_wr_apart _ _ _ _ (by decide)).trans hsession, (State.rd_wr_apart _ _ _ _ (by decide)).trans henabled,
        (State.wr_cells _ _ _).trans hcells, (State.wr_mem _ _ _).trans hmem, (State.wr_out _ _ _).trans hout⟩
    · exact ⟨hsession, henabled, hcells, hmem, hout⟩

theorem State.toView_spec (s : State) : s.toView.rd MON_STAT_LEVEL = 0 ∧ s.toView.rd SAFE_STAT_SESSION = 0 ∧
    s.toView.rd MON_STAT_ENABLED = s.rd MON_STAT_ENABLED ∧ s.toView.cells = s.cells ∧ s.toView.mem = s.mem ∧
    s.toView.out = s.out := by
  obtain ⟨hsession, henabled, hcells, hmem, hout⟩ := s.closeSession_spec
  exact ⟨State.rd_wr_same _ _ _ (by decide), (State.rd_wr_apart _ _ _ _ (by decide)).trans hsession,
    (State.rd_wr_apart _ _ _ _ (by decide)).trans henabled, hcells, hmem, hout⟩

/-- A port that is disabled is at VIEW, and prints nothing (R631). -/
theorem State.monDisable_spec (s : State) : s.monDisable.rd MON_STAT_ENABLED = 0 ∧ s.monDisable.rd MON_STAT_LEVEL = 0 ∧
    s.monDisable.rd MON_CTRL_OFF = 1 ∧ s.monDisable.out = s.out ∧ s.monDisable.cells = s.cells := by
  obtain ⟨hlevel, -, -, hcells, -, hout⟩ := s.toView_spec
  refine ⟨?_, ?_, State.rd_wr_same _ _ _ (by decide), hout, hcells⟩
  · exact (State.rd_wr_apart _ _ _ _ (by decide)).trans (State.rd_wr_same _ _ _ (by decide))
  · exact (State.rd_wr_apart _ _ _ _ (by decide)).trans ((State.rd_wr_apart _ _ _ _ (by decide)).trans hlevel)

end Sys2Proof.Machine
end

section
/-! The levels of the monitor ports and the key slots (R620 to R625, R628, R631, R677). -/

namespace Sys2Proof.Machine
open Sys2Proof

/-! ### LEVEL -/

/-- Below a safety session the level that opens is shown, unless a higher one is open (R622). -/
theorem State.openLevel_of_low {s : State} (h : s.rd MON_STAT_LEVEL ≠ 3) (n : Nat) :
    s.openLevel n = s.wr MON_STAT_LEVEL (max (s.rd MON_STAT_LEVEL) n) := if_neg h

/-- `s` after a served line that opened level n. -/
def State.levelOpened (s : State) (n : Nat) : State := ((s.inc MON_CMD_CNT).wr MON_STAT_LEVEL n).sayOk

theorem State.levelOpened_spec (s : State) {n : Nat} (hn : n < 4) :
    (s.levelOpened n).rd MON_STAT_LEVEL = n ∧ s.says (s.levelOpened n) .balgal [.ok] ∧
      s.keepsBut (s.levelOpened n) [MON_STAT_LEVEL, MON_CMD_CNT] ∧
      s.levelOpened n = { s with regs := (s.levelOpened n).regs, out := (s.levelOpened n).out } :=
  ⟨State.rd_wr_of_lt _ (by decide) hn, rfl,
    (State.onlyFields_wr (State.onlyFields_inc (s.onlyFields_refl [MON_STAT_LEVEL, MON_CMD_CNT]) (by simp)) (by simp)).2, rfl⟩

section Level
variable {s : State} (hserves : s.monServes = true) (hbusy : s.rd MON_STAT_BUSY = 0)
include hserves hbusy

theorem execLevel_of_lockout (hlock : s.rd MON_STAT_LOCKOUT = 1) (n : Nat) (code : List Byte) :
    execLevel .balgal n code s = .next ((s.inc MON_CMD_CNT).sayErr 7) := by
  have hon : (s.inc MON_CMD_CNT).on MON_STAT_LOCKOUT = true := State.on_of_one ((s.rd_inc_apart (by decide)).trans hlock)
  simp [execLevel, State.monCmd_of_idle hserves hbusy, hon]

/-- With the defaults any code opens level 1 (R624). -/
theorem execLevel_one_of_defaults (hlock : s.rd MON_STAT_LOCKOUT = 0) (hdefault : s.rd MON_STAT_DEFAULTS = 1)
    (hlow : s.rd MON_STAT_LEVEL < 3) (code : List Byte) :
    execLevel .balgal 1 code s = .next (s.levelOpened (max (s.rd MON_STAT_LEVEL) 1)) := by
  have hoff : (s.inc MON_CMD_CNT).on MON_STAT_LOCKOUT = false := State.on_of_zero ((s.rd_inc_apart (by decide)).trans hlock)
  have hon : (s.inc MON_CMD_CNT).on MON_STAT_DEFAULTS = true := State.on_of_one ((s.rd_inc_apart (by decide)).trans hdefault)
  have hlevel : (s.inc MON_CMD_CNT).rd MON_STAT_LEVEL = s.rd MON_STAT_LEVEL := s.rd_inc_apart (by decide)
  have hopen := State.openLevel_of_low (s := s.inc MON_CMD_CNT) (by omega) 1
  rw [hlevel] at hopen
  simp [execLevel, State.monCmd_of_idle hserves hbusy, hoff, State.level1, hon, hopen, State.levelOpened]

/-- From level 1 the strap opens level 2 (R622). -/
theorem execLevel_two_of_strap (hlock : s.rd MON_STAT_LOCKOUT = 0) (hstrap : s.rd MON_STAT_KEY_STRAP = 1)
    (hlo : 1 ≤ s.rd MON_STAT_LEVEL) (hhi : s.rd MON_STAT_LEVEL ≤ 2) (code : List Byte) :
    execLevel .balgal 2 code s = .next (s.levelOpened 2) := by
  have hoff : (s.inc MON_CMD_CNT).on MON_STAT_LOCKOUT = false := State.on_of_zero ((s.rd_inc_apart (by decide)).trans hlock)
  have hon : (s.inc MON_CMD_CNT).on MON_STAT_KEY_STRAP = true := State.on_of_one ((s.rd_inc_apart (by decide)).trans hstrap)
  have hlevel : (s.inc MON_CMD_CNT).rd MON_STAT_LEVEL = s.rd MON_STAT_LEVEL := s.rd_inc_apart (by decide)
  have hopen := State.openLevel_of_low (s := s.inc MON_CMD_CNT) (by omega) 2
  rw [hlevel, max_eq_right hhi] at hopen
  have hview : s.rd MON_STAT_LEVEL ≠ 0 := by omega
  simp [execLevel, State.monCmd_of_idle hserves hbusy, hoff, hon, hopen, hlevel, hview, State.levelOpened]

end Level

/-- A cell's code whose digest is the stored one opens SERVICE (R677). -/
theorem State.skLevel_of_code {s : State} {g : Nat} {code : List Byte} (hlock : (s.cell g).rd SK_MON_STAT_LOCKOUT = 0)
    (hparam : (s.cell g).param ≠ []) (hset : (((s.cell g).param.drop 80).take 32).all (fun b => decide (b = 0)) = false)
    (hcode : codeOk code = true) (hsha : sha256 (((s.cell g).param.drop 64).take 16 ++ code) = ((s.cell g).param.drop 80).take 32) :
    s.skLevel g 1 code = (s.onCell g (fun k => { k with monBad := 0 }.wr SK_MON_STAT_LEVEL 1)).skSay g .ok := by
  have hoff : (s.cell g).on SK_MON_STAT_LOCKOUT = false := by simp [Skerry.on, hlock]
  have hempty : (s.cell g).param.isEmpty = false := by simpa using hparam
  simp only [State.skLevel, hoff, hempty, hset, hcode, hsha, Bool.false_eq_true, ne_eq, not_true_eq_false, false_or, and_self, if_true,
    if_false]

end Sys2Proof.Machine
end

section
/-! The key slots, OFF, and the statement about the levels of the monitor ports (R620 to R625, R628, R631, R677). -/

namespace Sys2Proof.Machine
open Sys2Proof

/-! ### Key slots and OFF -/

section Keys
variable {s : State} {k : Nat} (hserves : s.monServes = true) (hbusy : s.rd MON_STAT_BUSY = 0) (hlevel : 2 ≤ s.rd MON_STAT_LEVEL)
  (hk : k < 4)

/-- `s` with a key stored in slot k, and shown (R628). -/
def State.keyStored (s : State) (k : Nat) (key : List Byte) : State :=
  { s with chart := { s.chart with keys := tset (fun _ => []) s.chart.keys k key, keyProg := s.chart.keyProg ||| 2 ^ k } }.wr
    CHART_KEY_STATE_PROG (s.chart.keyProg ||| 2 ^ k)

/-- `s` with slot k revoked, and shown (R628). -/
def State.keyRevoked (s : State) (k : Nat) : State :=
  { s with chart := { s.chart with keyRev := s.chart.keyRev ||| 2 ^ k } }.wr CHART_KEY_STATE_REVOKED (s.chart.keyRev ||| 2 ^ k)

include hserves hbusy hlevel hk

/-- An empty slot takes a key of 32 bytes. -/
theorem execKeyProg_of_empty {key : List Byte} (hlen : key.length = 32) (hprog : bitOf s.chart.keyProg k = false)
    (hrev : bitOf s.chart.keyRev k = false) : execKeyProg k key s = .next ((s.inc MON_CMD_CNT).keyStored k key).sayOk := by
  have hslot : ¬ (k ≥ 4 ∨ bitOf (s.inc MON_CMD_CNT).chart.keyProg k = true ∨ bitOf (s.inc MON_CMD_CNT).chart.keyRev k = true) := by
    simp [hprog, hrev, hk]
  rw [execKeyProg, State.atLevel_of_open hserves hbusy hlevel, if_neg (not_not.mpr hlen), if_neg hslot]
  rfl

theorem execKeyRevoke_of_programmed (hprog : bitOf s.chart.keyProg k = true) :
    execKeyRevoke k s = .next ((s.inc MON_CMD_CNT).keyRevoked k).sayOk := by
  have hslot : ¬ (k ≥ 4 ∨ (!bitOf (s.inc MON_CMD_CNT).chart.keyProg k) = true) := by simp [hprog, hk]
  rw [execKeyRevoke, State.atLevel_of_open hserves hbusy hlevel, if_neg hslot]
  rfl

end Keys

/-- A command that is refused for its level is answered, counted and reported (R625). -/
theorem State.monDenied_spec {r s : State} (hfresh : r.fresh) (hflt : s.flt = r.flt) (hclk : s.clk = r.clk) (hout : s.out = r.out) :
    r.says s.monDenied .balgal [.err 2 none] ∧ (∀ f, MON_DENY_CNT.apart f → s.monDenied.rd f = s.rd f) ∧
      r.raisedAs s.monDenied 0x2C2 2 ∧ s.monDenied.rd MON_DENY_CNT = min (s.rd MON_DENY_CNT + 1) (2 ^ 32 - 1) := by
  refine ⟨?_, fun f hf => (State.raise_rd _ _ _ f).trans (s.rd_inc_apart hf),
    State.raisedAs_raise (t := s.inc MON_DENY_CNT) hfresh hflt hclk 0x2C2 2,
    (State.raise_rd _ _ _ _).trans (s.rd_inc_same MON_DENY_CNT (by decide))⟩
  show ((s.inc MON_DENY_CNT).raise 0x2C2 2).out ++ _ = _
  rw [State.raise_out, State.inc_out, hout]
  rfl

/-! ### The statement -/

/-- Settles O59: a line that is served counts, and opens a level, closes the port or prints; what falls to VIEW closes its session. -/
theorem monitorLevels : Obligations.MonitorLevels := by
  refine ⟨fun code s hserves hbusy hlock hdefault hlow => ⟨_, execLevel_one_of_defaults hserves hbusy hlock hdefault hlow code,
      State.levelOpened_spec s (by omega)⟩,
    fun code s hserves hbusy hlock hstrap hlo hhi => ⟨_, execLevel_two_of_strap hserves hbusy hlock hstrap hlo hhi code,
      State.levelOpened_spec s (by decide)⟩,
    fun n code s hserves hbusy hlock => ⟨_, execLevel_of_lockout hserves hbusy hlock n code, s.replies_served.say _⟩,
    fun g code s hserves hlock hparam hset hcode hsha => ?cellLevel, fun s hserves hbusy => ?quit, fun g s hserves => ?cellQuit,
    fun s hserves hbusy hlevel => ?off, fun s hserves hbusy hlevel hfresh => ?offDenied, fun s hheld => ?offWrite, fun s => ?idle,
    fun g s => ⟨s, rfl, rfl⟩, fun s => ⟨_, rfl, State.rd_wr_same _ _ _ (by decide), s.wr_onlyFields _ _⟩,
    fun g s hrun => ?cellLockout, fun c s => ⟨s, rfl, rfl⟩, fun empty s hserves hbusy => ⟨_, ?unknown, .emit (.of_out rfl) _, rfl⟩,
    fun g empty s hserves => ⟨_, ?cellUnknown, .emit (.of_out rfl) _, rfl⟩,
    fun k key s hserves hbusy hlevel hlen hk hprog hrev => ⟨_, execKeyProg_of_empty hserves hbusy hlevel hk hlen hprog hrev, ?stored⟩,
    fun k s hserves hbusy hlevel hk hprog => ⟨_, execKeyRevoke_of_programmed hserves hbusy hlevel hk hprog, ?revoked⟩⟩
  case cellLevel =>
    obtain ⟨hcell, hsays, hother, hframe⟩ :=
      s.onCell_skSay_spec (g := g) (f := fun k => { k with monBad := 0 }.wr SK_MON_STAT_LEVEL 1) (l := .ok) rfl
    refine ⟨_, congrArg Host.Outcome.next ((State.skCmd_of_serving hserves _).trans (State.skLevel_of_code hlock hparam hset hcode hsha)),
      ?_, ?_, hsays, hother, hframe⟩
    · rw [hcell]
      exact Skerry.rd_wr_same _ _ _ (by decide)
    · rw [hcell]
      rfl
  case quit =>
    obtain ⟨hlevel, hsession, -, hcells, hmem, hout⟩ := (s.inc MON_CMD_CNT).toView_spec
    exact ⟨_, congrArg Host.Outcome.next (State.monCmd_of_idle hserves hbusy _), hlevel, hsession,
      congrArg (· ++ [Out.line .balgal .ok]) hout, hcells, hmem⟩
  case cellQuit =>
    obtain ⟨hcell, hsays, hother, hframe⟩ := s.onCell_skSay_spec (g := g) (f := fun k => k.wr SK_MON_STAT_LEVEL 0) (l := .ok) rfl
    refine ⟨_, congrArg Host.Outcome.next (State.skCmd_of_serving hserves _), ?_, ?_, hsays, hother, hframe⟩
    · rw [hcell]
      exact Skerry.rd_wr_same _ _ _ (by decide)
    · rw [hcell]
      exact Skerry.onlyFields_wr (Skerry.onlyFields_refl _ _) List.mem_cons_self
  case off =>
    obtain ⟨henabled, hview, hoff, hout, hcells⟩ := (s.inc MON_CMD_CNT).sayOk.monDisable_spec
    exact ⟨_, congrArg Host.Outcome.next (State.atLevel_of_open hserves hbusy hlevel _), henabled, hview, hoff, hout, hcells⟩
  case offDenied =>
    obtain ⟨hsays, hkeep, hraised, hcnt⟩ := State.monDenied_spec (s := s.inc MON_CMD_CNT) hfresh rfl rfl rfl
    refine ⟨_, congrArg Host.Outcome.next (State.atLevel_of_closed hserves hbusy (by omega) _), hsays, ?_, hraised, ?_⟩
    · exact (hkeep _ (by decide)).trans (s.rd_inc_apart (by decide))
    · rw [hcnt, s.rd_inc_apart (by decide)]
  case offWrite =>
    obtain ⟨henabled, hlevel, hoff, hout, hcells⟩ := s.monDisable_spec
    exact ⟨_, congrArg Host.Outcome.next (if_neg (not_not.mpr hheld)), henabled, hlevel, hoff, hout, hcells⟩
  case idle =>
    obtain ⟨hlevel, hsession, henabled, hcells, -, hout⟩ := s.toView_spec
    exact ⟨_, rfl, hlevel, hsession, henabled, hout, hcells⟩
  case cellLockout =>
    refine State.onCell_next (l := (s.cell g).wr SK_MON_STAT_LOCKOUT 0) (if_pos hrun) fun t ht honly => ?_
    rw [ht]
    exact ⟨Skerry.rd_wr_same _ _ _ (by decide), Skerry.onlyFields_wr (Skerry.onlyFields_refl _ _) List.mem_cons_self, honly⟩
  case unknown =>
    show execUnknownCommand .balgal empty s = _
    simp only [execUnknownCommand, hserves, State.on_of_zero hbusy, Bool.not_true, Bool.false_eq_true, if_false]
    rfl
  case cellUnknown =>
    exact congrArg Host.Outcome.next (State.skCmd_of_serving hserves _)
  case stored =>
    refine ⟨tget_tset_same _ _ _ _, bitOf_or_two_pow _ _, fun j hj => tget_tset_ne _ _ _ (Ne.symm hj),
      State.rd_wr_same _ _ _ (by decide), rfl, ?_, rfl, rfl⟩
    exact State.keepsBut_wr (State.keepsBut_mono (s.wr_keepsBut MON_CMD_CNT _) (by simp)) (by simp)
  case revoked =>
    refine ⟨rfl, State.rd_wr_same _ _ _ (by decide), rfl, ?_, rfl, rfl⟩
    exact State.keepsBut_wr (State.keepsBut_mono (s.wr_keepsBut MON_CMD_CNT _) (by simp)) (by simp)

end Sys2Proof.Machine
end

section
/-! What the monitors print and write (R626 to R630): words and dumps of memory, the traces, the chart, a cell's log, and the requests that
CELL commands become. -/

namespace Sys2Proof.Machine
open Sys2Proof

/-! ### Memory seen from the Balgal's monitor -/

section Memory
variable {s t : State} {a n : Nat}

/-- Whether an access meets a bus error depends on the groups that are ready alone. -/
theorem State.memCause_congr (h : t.rd MEM_STAT_READY = s.rd MEM_STAT_READY) (a n : Nat) : t.memCause a n = s.memCause a n := by
  unfold State.memCause State.ready
  rw [h]

theorem State.memCause_inc_cmdCnt (s : State) (a n : Nat) : (s.inc MON_CMD_CNT).memCause a n = s.memCause a n :=
  State.memCause_congr (s.rd_inc_apart (by decide)) a n

/-- A served read of memory that meets no error gives its bytes. -/
theorem State.readMem_served (p : Port) (hcause : s.memCause a n = none) (hclean : s.poisoned a n = false) :
    (s.inc MON_CMD_CNT).readMem p a n = (.ok (s.bytes a n), s.inc MON_CMD_CNT) := by
  rw [State.readMem_of_ready p ((s.memCause_inc_cmdCnt a n).trans hcause) hclean, State.bytes_congr (s := s) (t := s.inc MON_CMD_CNT) rfl]

section Word
variable (ha : a % 4 = 0) (hfit : a + 4 ≤ 0x04000000) (hcause : s.memCause a 4 = none)
include ha hfit hcause

/-- The monitor reads a word of SRAM (R626). -/
theorem State.busRead_served (hclean : s.poisoned a 4 = false) (host : Word) :
    (s.inc MON_CMD_CNT).busRead .monitor a host = (.ok (BitVec.ofNat 32 (leNat (s.bytes a 4))), s.inc MON_CMD_CNT) := by
  obtain ⟨hreg, hhost⟩ := not_regSpace_hostSpace_of_sram (isSram_of_fits (Nat.succ_pos 3) hfit)
  simp [State.busRead, mapAddr, hreg, hhost, ha, State.readMem_served .monitor hcause hclean]

/-- The monitor writes a word of SRAM (R627). -/
theorem State.busWrite_of_sram (hclean : s.partPoison a 4 = false) (v : Word) :
    s.busWrite .monitor a v = (none, s.stored a (leBytes 4 v.toNat)) := by
  have hsram := isSram_of_fits (Nat.succ_pos 3) hfit
  obtain ⟨hreg, hhost⟩ := not_regSpace_hostSpace_of_sram hsram
  have hlen := leBytes_length 4 v.toNat
  simp [State.busWrite, mapAddr, hreg, hhost, ha,
    State.writeMem_of_clean hsram (bs := leBytes 4 v.toNat) (by rw [hlen]; exact hcause) (by rw [hlen]; exact hclean)]

end Word

end Memory

/-! ### Words, dumps and rings -/

section Served
variable {s : State} {a n : Nat} (hserves : s.monServes = true) (hbusy : s.rd MON_STAT_BUSY = 0)
include hserves hbusy

theorem execRd_one (ha : a % 4 = 0) (hfit : a + 4 ≤ 0x04000000) (hcause : s.memCause a 4 = none) (hclean : s.poisoned a 4 = false)
    (host : List Word) : execRd .balgal a 1 host s =
      .next (((s.inc MON_CMD_CNT).say (.word a (BitVec.ofNat 32 (leNat (s.bytes a 4))))).say .ok) := by
  show Host.Outcome.next (s.atLevel 0 _) = _
  rw [State.atLevel_of_open hserves hbusy (Nat.zero_le _), if_neg (by decide), State.monRd,
    State.busRead_served ha hfit hcause hclean]
  rfl

theorem execRd_of_bad_count (hn : n = 0 ∨ 256 < n) (a : Nat) (host : List Word) :
    execRd .balgal a n host s = .next ((s.inc MON_CMD_CNT).say (.err 4 none)) := by
  show Host.Outcome.next (s.atLevel 0 _) = _
  rw [State.atLevel_of_open hserves hbusy (Nat.zero_le _), if_pos hn]
  rfl

theorem execDump_one_line (hpos : 1 ≤ n) (hline : n ≤ 16) (hfit : a + n ≤ 0x04000000) (hcause : s.memCause a n = none)
    (hclean : s.poisoned a n = false) :
    execDump .balgal a n s = .next (((s.inc MON_CMD_CNT).say (.bytes a (s.bytes a n))).say .ok) := by
  have hreg := (not_regSpace_hostSpace_of_sram (isSram_of_fits hpos hfit)).1
  have hserved : ¬ (n = 0 ∨ n > 65536 ∨ isRegSpace a = true) := by simp [hreg]; omega
  show Host.Outcome.next (s.atLevel 0 _) = _
  rw [State.atLevel_of_open hserves hbusy (Nat.zero_le _), if_neg hserved, State.monDump, if_neg (by omega),
    min_eq_left hline, State.readMem_served .monitor hcause hclean]
  dsimp only
  rw [State.monDump, if_pos (by omega)]
  rfl

theorem execWr_sram (hlevel : 1 ≤ s.rd MON_STAT_LEVEL) (ha : a % 4 = 0) (hfit : a + 4 ≤ 0x04000000) (hcause : s.memCause a 4 = none)
    (hclean : s.partPoison a 4 = false) (v : Word) (still : List Nat) :
    execWr .balgal a v still s = .next (((s.inc MON_CMD_CNT).stored a (leBytes 4 v.toNat)).say .ok) := by
  show Host.Outcome.next (s.atLevel 1 _) = _
  rw [State.atLevel_of_open hserves hbusy hlevel,
    State.busWrite_of_sram (s := s.inc MON_CMD_CNT) ha hfit ((s.memCause_inc_cmdCnt a 4).trans hcause) hclean v]
  rfl

theorem execTraceTap_of_empty {u : Nat} (hu : u < 16) (hn : (s.tap u).n = 0) : execTraceTap u s =
    .next (((s.inc MON_CMD_CNT).say
      (.values [(s.rdW (A_LOOP_TAP_STAT u)).toNat, s.rd (LOOP_TAP_T0_NS u), s.rd (LOOP_TAP_T0_SEC u)])).say .ok) := by
  have hstat : (s.inc MON_CMD_CNT).rdW (A_LOOP_TAP_STAT u) = s.rdW (A_LOOP_TAP_STAT u) :=
    s.rdW_wr_ne _ _ (by simp only [MON_CMD_CNT, A_MON_CMD_CNT, A_LOOP_TAP_STAT]; omega)
  have hns : (s.inc MON_CMD_CNT).rd (LOOP_TAP_T0_NS u) = s.rd (LOOP_TAP_T0_NS u) :=
    s.rd_inc_apart (.inl (by simp only [MON_CMD_CNT, A_MON_CMD_CNT, LOOP_TAP_T0_NS, A_LOOP_TAP_T0_NS]; omega))
  have hsec : (s.inc MON_CMD_CNT).rd (LOOP_TAP_T0_SEC u) = s.rd (LOOP_TAP_T0_SEC u) :=
    s.rd_inc_apart (.inl (by simp only [MON_CMD_CNT, A_MON_CMD_CNT, LOOP_TAP_T0_SEC, A_LOOP_TAP_T0_SEC]; omega))
  show Host.Outcome.next (s.atLevel 0 _) = _
  rw [State.atLevel_of_open hserves hbusy (Nat.zero_le _), if_neg (by omega), hstat, hns, hsec]
  have htap (l : Line) : (((s.inc MON_CMD_CNT).say l).tap u).n = 0 := hn
  simp only [htap, Nat.zero_min]
  rfl

/-- The last record of the scheduler's ring stands before its write index (R337). -/
theorem execTraceSched_one (hsize : 1 ≤ s.rd SCHED_TRACE_SIZE)
    (ha : a = s.rd SCHED_TRACE_BASE_BASE * 16 + 16 * ((s.rd SCHED_TRACE_WIDX + s.rd SCHED_TRACE_SIZE - 1) % s.rd SCHED_TRACE_SIZE))
    (hcause : s.memCause a 16 = none) (hclean : s.poisoned a 16 = false) :
    execTraceSched 1 s = .next (((s.inc MON_CMD_CNT).say (.bytes a (s.bytes a 16))).say .ok) := by
  have hring (f : Fld) (hf : MON_CMD_CNT.apart f) : (s.inc MON_CMD_CNT).rd f = s.rd f := s.rd_inc_apart hf
  show Host.Outcome.next (s.atLevel 0 _) = _
  rw [State.atLevel_of_open hserves hbusy (Nat.zero_le _), if_neg (by decide), hring SCHED_TRACE_SIZE (by decide),
    hring SCHED_TRACE_BASE_BASE (by decide), hring SCHED_TRACE_WIDX (by decide)]
  simp only [min_eq_left hsize]
  rw [State.monRing, max_eq_left hsize, ← ha, State.readMem_served .monitor hcause hclean]
  rfl

end Served

/-! ### The chart -/

/-- The words of the chart's status, as CHART prints them (R626). -/
def chartWords : List Nat := [A_CHART_STATUS, A_CHART_FAIL_INFO, A_CHART_ID, A_CHART_BUILD_DIGEST, A_CHART_HOT_DIGEST]

/-- They show what is stored. -/
theorem State.regView_chartWords (s : State) : ∀ a ∈ chartWords, s.regView .monitor a = s.rdW a := by
  simp only [chartWords, List.forall_mem_cons, List.not_mem_nil, false_implies, implies_true, and_true]
  exact ⟨rfl, rfl, rfl, rfl, rfl⟩

theorem State.regView_chartWords_served (s : State) :
    chartWords.map (fun a => ((s.inc MON_CMD_CNT).regView .monitor a).toNat) = chartWords.map (fun a => (s.regView .monitor a).toNat) := by
  refine List.map_congr_left fun a ha => congrArg BitVec.toNat ?_
  have hne : ∀ a ∈ chartWords, MON_CMD_CNT.addr ≠ a := by decide
  rw [State.regView_chartWords _ a ha, State.regView_chartWords _ a ha]
  exact s.rdW_wr_ne _ _ (hne a ha)

/-- The lines of the stored sections' directory. -/
def State.dirLines (s : State) : List Line :=
  (s.chart.dir.filter (fun e => storeTypes.contains (e.1 / 256))).map (fun e => Line.values [e.1 / 256, e.1 % 256, e.2.1, e.2.2.1, e.2.2.2])

section Served
variable {s : State} (hserves : s.monServes = true) (hbusy : s.rd MON_STAT_BUSY = 0)
include hserves hbusy

theorem execChart_served : execChart s = .next ((((s.inc MON_CMD_CNT).say
    (.values (chartWords.map (fun a => (s.regView .monitor a).toNat)))).sayAll s.dirLines).say .ok) := by
  show Host.Outcome.next (s.atLevel 0 _) = _
  rw [State.atLevel_of_open hserves hbusy (Nat.zero_le _), ← s.regView_chartWords_served]
  rfl

theorem execChartSec_of_stored {ty inst : Nat} (hty : storeTypes.contains ty = true) (hinst : inst < 256) (hsec : s.sec ty inst ≠ []) :
    execChartSec ty inst s = .next (((s.inc MON_CMD_CNT).say (.bytes 0 (s.sec ty inst))).say .ok) := by
  have hserved : (s.inc MON_CMD_CNT).sec ty inst ≠ [] := hsec
  have hstored : storeTypes.contains ty = true ∧ inst < 256 ∧ (!((s.inc MON_CMD_CNT).sec ty inst).isEmpty) = true :=
    ⟨hty, hinst, by simpa using hserved⟩
  show Host.Outcome.next (s.atLevel 0 _) = _
  rw [State.atLevel_of_open hserves hbusy (Nat.zero_le _)]
  exact congrArg Host.Outcome.next (if_pos hstored)

end Served

/-! ### CELL commands -/

/-- The request that a CELL command becomes (R629). -/
def cellJob (g op a len : Nat) (data : List Byte) : FrJob :=
  { idx := 4096, cell := g, op := op, addr := a, data := data, len := len, index := 0, tries := 0, coll := 0, phase := 0, at_ := 0 }

/-- `s` after a served line that left a request in the monitor's slot: the port is busy. -/
def State.cellAsked (s : State) (j : FrJob) : State :=
  { s.inc MON_CMD_CNT with mon := { s.mon with slot := some j } }.wr MON_STAT_BUSY 1

theorem State.cellAsked_spec (s : State) (j : FrJob) :
    (s.cellAsked j).rd MON_STAT_BUSY = 1 ∧
      (s.cellAsked j).mon.slot.map (fun j => (j.cell, j.op, j.addr, j.len, j.data)) = some (j.cell, j.op, j.addr, j.len, j.data) ∧
      s.keepsBut (s.cellAsked j) [MON_STAT_BUSY, MON_CMD_CNT] ∧
      s.cellAsked j = { s with regs := (s.cellAsked j).regs, mon := (s.cellAsked j).mon } := by
  have hcount : s.keepsBut (s.inc MON_CMD_CNT) [MON_STAT_BUSY, MON_CMD_CNT] := State.keepsBut_mono (s.wr_keepsBut _ _) (by simp)
  exact ⟨State.rd_wr_same _ _ _ (by decide), rfl, State.keepsBut_wr hcount (by simp), rfl⟩

/-- A request to a cell of the converter is taken by an active in RUN, unless its form is refused (R142, R629). -/
theorem State.monCell_served {s : State} {g op a len : Nat} {data : List Byte} (hcell : s.isCell g = true) (hrun : s.inRun = true)
    (hactive : s.isActive = true) (href : s.frRefused g op a len 0 = false) :
    (s.inc MON_CMD_CNT).monCell g op a len data = s.cellAsked (cellJob g op a len data) := by
  have hcell' : (s.inc MON_CMD_CNT).isCell g = true := hcell
  have href' : (s.inc MON_CMD_CNT).frRefused g op a len 0 = false := href
  have hrun' : (s.inc MON_CMD_CNT).inRun = true := by
    rw [State.inRun, State.phase, s.rd_inc_apart (by decide)]; exact hrun
  have hactive' : (s.inc MON_CMD_CNT).isActive = true := by
    rw [State.isActive, State.role, s.rd_inc_apart (by decide)]; exact hactive
  rw [State.monCell, if_neg (by simp [hcell']), if_neg (by simp [hrun', hactive']), if_neg (by simp [href'])]
  rfl

/-! ### A cell's own port -/

section Cell
variable {k : Skerry} {a : Nat}

/-- What is stored in a Skerry's memory is read back. -/
theorem Skerry.bytes_setBytes_same (l : List Byte) : ∀ (k : Skerry) (a : Nat), (k.setBytes a l).bytes a l.length = l := by
  induction l with
  | nil => exact fun _ _ => rfl
  | cons b l ih =>
    intro k a
    have hfirst : ((k.setByte a b).setBytes (a + 1) l).byte a = b := by
      rw [Skerry.byte_setBytes_outside _ _ _ _ (by omega), Skerry.byte, Skerry.setByte, tget_tset_same]
    exact congrArg₂ List.cons hfirst (ih (k.setByte a b) (a + 1))

theorem Skerry.readWord_of_sram (ha : a % 4 = 0) (hlow : a < 0x80000) (p : Port) : k.readWord p a = (some (k.memWord a), k) := by
  rw [Skerry.readWord, if_neg (not_not.mpr ha), if_pos (by simp [skMem, hlow])]

theorem Skerry.writeWord_of_sram (ha : a % 4 = 0) (hlow : a < 0x80000) (v : Word) (still : List Nat) (tag : Nat) :
    k.writeWord a v still tag = (.done, k.setBytes a (leBytes 4 v.toNat)) := by
  rw [Skerry.writeWord, if_neg (not_not.mpr ha), if_pos hlow]

end Cell

section CellServed
variable {s : State} {g a : Nat} (hserves : (s.cell g).monServes = true)
include hserves

theorem execRd_cell_one (ha : a % 4 = 0) (hlow : a < 0x80000) (host : List Word) : execRd (.skerry g) a 1 host s =
    .next (((s.setCell g (s.cell g)).skSay g (.word a ((s.cell g).memWord a))).skSay g .ok) := by
  show Host.Outcome.next (s.skCmd g _) = _
  rw [State.skCmd_of_serving hserves, if_neg (by decide), State.skRd]
  simp only [Skerry.readWord_of_sram ha hlow]
  rfl

theorem execWr_cell (hlevel : (s.cell g).rd SK_MON_STAT_LEVEL = 1) (ha : a % 4 = 0) (hlow : a < 0x80000) (v : Word) (still : List Nat) :
    execWr (.skerry g) a v still s = .next ((s.onCell g (fun k => k.setBytes a (leBytes 4 v.toNat))).skSay g .ok) := by
  show Host.Outcome.next (s.skService g _) = _
  rw [State.skService_of_open hserves hlevel]
  simp only [Skerry.writeWord_of_sram ha hlow]

theorem execDump_cell_one_line {n : Nat} (hpos : 1 ≤ n) (hline : n ≤ 16) (hfit : a + n ≤ 0x80000) : execDump (.skerry g) a n s =
    .next ((s.skSay g (.bytes a ((s.cell g).bytes a n))).skSay g .ok) := by
  have hmem : skMem a = true ∧ skMem (a + n - 1) = true := by
    simp only [skMem, decide_eq_true_eq]; omega
  show Host.Outcome.next (s.skCmd g _) = _
  rw [State.skCmd_of_serving hserves, if_neg (by omega), State.skDump, if_neg (by omega), min_eq_left hline, if_pos hmem, State.skDump,
    if_pos (by omega)]

theorem execMonLog_served {off : Nat} (hfit : off + 48 ≤ 0x10000) : execMonLog g off s =
    .next ((s.skSay g (.bytes off ((s.cell g).bytes (0x10000000 + off) 48))).skSay g .ok) := by
  show Host.Outcome.next (s.skCmd g _) = _
  rw [State.skCmd_of_serving hserves, if_neg (by omega)]

end CellServed

/-! ### The statement -/

/-- Settles O60: a line that is served prints what it reads, writes its word, or becomes a request in the monitor's slot. -/
theorem monitorAccess : Obligations.MonitorAccess := by
  refine ⟨fun a host s hserves hbusy ha hfit hcause hclean =>
      ⟨_, execRd_one hserves hbusy ha hfit hcause hclean host, (s.replies_served.say _).say _⟩,
    fun a n host s hserves hbusy hn => ⟨_, execRd_of_bad_count hserves hbusy hn a host, s.replies_served.say _⟩,
    fun g a host s hserves ha hlow =>
      ⟨_, execRd_cell_one hserves ha hlow host, .emit (.emit (.of_out rfl) _) _, s.cell_setCell_self g, rfl⟩,
    fun a v still s hserves hbusy hlevel ha hfit hcause hclean => ?write, fun g a v still s hserves hlevel ha hlow => ?cellWrite,
    fun a n s hserves hbusy hpos hline hfit hcause hclean =>
      ⟨_, execDump_one_line hserves hbusy hpos hline hfit hcause hclean, (s.replies_served.say _).say _⟩,
    fun g a n s hserves hpos hline hfit => ⟨_, execDump_cell_one_line hserves hpos hline hfit, .emit (.emit (.of_out rfl) _) _, rfl⟩,
    fun u s hserves hbusy hu hn => ⟨_, execTraceTap_of_empty hserves hbusy hu hn, (s.replies_served.say _).say _⟩,
    fun a s hserves hbusy hsize ha hcause hclean =>
      ⟨_, execTraceSched_one hserves hbusy hsize ha hcause hclean, (s.replies_served.say _).say _⟩,
    fun s hserves hbusy => ⟨_, execChart_served hserves hbusy, ((s.replies_served.say _).sayAll _).say _⟩,
    fun ty inst s hserves hbusy hty hinst hsec =>
      ⟨_, execChartSec_of_stored hserves hbusy hty hinst hsec, (s.replies_served.say _).say _⟩,
    fun g a n s hserves hbusy hpos hmax hcell hrun hactive href => ?cellRead,
    fun g a v s hserves hbusy hlevel hcell hrun hactive href => ?cellWord,
    fun g off s hserves hbusy hcell hrun hactive href => ?cellLog, fun g s hserves hbusy hlevel hcell hrun hactive href => ?cellReset,
    fun g off s hserves hfit => ⟨_, execMonLog_served hserves hfit, .emit (.emit (.of_out rfl) _) _, rfl⟩⟩
  case write =>
    have hbytes := State.bytes_of_byte _ _ _ ((s.inc MON_CMD_CNT).stored_byte_inside a (leBytes 4 v.toNat))
    refine ⟨_, execWr_sram hserves hbusy hlevel ha hfit hcause hclean v still, hbytes,
      fun b hb => (s.inc MON_CMD_CNT).stored_byte_outside a (leBytes 4 v.toNat) hb, ?_, fun f hf => ?_, ?_⟩
    · exact .emit (.of_out ((s.inc MON_CMD_CNT).stored_out a _)) _
    · exact ((s.inc MON_CMD_CNT).stored_rd a _ f).trans (s.wr_keepsBut MON_CMD_CNT _ f hf)
    · exact (s.inc MON_CMD_CNT).stored_cells a _
  case cellWrite =>
    obtain ⟨hcell, hsays, hother, hframe⟩ := s.onCell_skSay_spec (g := g)
      (f := fun k => k.setBytes a (leBytes 4 v.toNat)) (l := .ok) rfl
    refine ⟨_, execWr_cell hserves hlevel ha hlow v still, ?_, fun b hb => ?_, ?_, hsays, hother, hframe⟩
    · rw [hcell]
      exact Skerry.bytes_setBytes_same (leBytes 4 v.toNat) (s.cell g) a
    · rw [hcell]
      exact Skerry.byte_setBytes_outside (leBytes 4 v.toNat) (s.cell g) a b hb
    · rw [hcell]
      exact Skerry.setBytes_frame _ _ _
  case cellRead =>
    refine ⟨_, ?_, s.cellAsked_spec (cellJob g 1 a (4 * n) [])⟩
    show Host.Outcome.next (s.atLevel 0 _) = _
    rw [State.atLevel_of_open hserves hbusy (Nat.zero_le _), if_neg (by omega), State.monCell_served hcell hrun hactive href]
  case cellWord =>
    refine ⟨_, ?_, s.cellAsked_spec (cellJob g 2 a 4 (leBytes 4 v.toNat))⟩
    show Host.Outcome.next (s.atLevel 1 _) = _
    rw [State.atLevel_of_open hserves hbusy hlevel, State.monCell_served hcell hrun hactive href]
  case cellLog =>
    refine ⟨_, ?_, s.cellAsked_spec (cellJob g 5 off 48 [])⟩
    show Host.Outcome.next (s.atLevel 0 _) = _
    rw [State.atLevel_of_open hserves hbusy (Nat.zero_le _), State.monCell_served hcell hrun hactive href]
  case cellReset =>
    refine ⟨_, ?_, s.cellAsked_spec (cellJob g 6 (0x80000000 + g) 0 [])⟩
    show Host.Outcome.next (s.atLevel 1 _) = _
    rw [State.atLevel_of_open hserves hbusy hlevel, State.monCell_served hcell hrun hactive href]

end Sys2Proof.Machine
end
